-- ==== Sys2Proof/Word.lean ====
section
/-! DEFINITION. The word types of the register file (00_scope.md, "Numbers and units"): a register word is 32 bits,
a memory or frame byte is 8 bits. -/

namespace Sys2Proof

/-- A register word, a mailbox word, a Flue word (32 bits). -/
abbrev Word := BitVec 32

/-- A byte of DRAM, of a frame or of a mailbox entry. -/
abbrev Byte := BitVec 8

end Sys2Proof
end

