-- ==== Sys2Proof/Machine/Bits.lean ====
section
/-! DEFINITION. Bit fields, signed readings, saturation and byte order, as the spec's conventions use them
(00_scope.md, "Numbers and units"; R5 little-endian). -/

namespace Sys2Proof.Machine

/-- Bits `lo` to `lo + len - 1` of a number. -/
def bits (x lo len : Nat) : Nat := (x >>> lo) % 2 ^ len

/-- One bit of a number. -/
def bit (x i : Nat) : Bool := x.testBit i

/-- 1 for true, 0 for false. -/
def b2n (b : Bool) : Nat := if b then 1 else 0

/-- The word `w` with bits `lo` to `lo + len - 1` replaced by `v`. -/
def insertBits (w : Word) (lo len v : Nat) : Word :=
  let m : Word := BitVec.ofNat 32 ((2 ^ len - 1) * 2 ^ lo)
  (w &&& ~~~ m) ||| (BitVec.ofNat 32 (v % 2 ^ len * 2 ^ lo) &&& m)

/-- Two's-complement reading of the low `n` bits. -/
def toS (n x : Nat) : Int :=
  let y := x % 2 ^ n
  if 2 ^ (n - 1) ≤ y then (y : Int) - 2 ^ n else y

/-- The low `n` bits of an integer, as a number. -/
def ofS (n : Nat) (x : Int) : Nat := (x % 2 ^ n).toNat

/-- Add to a 32-bit counter that sticks at 0xFFFF_FFFF (R41, R298). DEDUCED (log 16). -/
def satAdd32 (a n : Nat) : Nat := min (a + n) 0xFFFFFFFF

/-- Clamp an integer between bounds. -/
def clampI (lo hi x : Int) : Int := max lo (min hi x)

/-- Clamp a number between bounds. -/
def clampN (lo hi x : Nat) : Nat := max lo (min hi x)

/-- Division rounding to nearest, halves up, for non-negative numbers. -/
def divRound (a b : Nat) : Nat := (a + b / 2) / b

/-- Byte `i` of a byte string, 0 beyond its end. -/
def byteAt (l : List Byte) (i : Nat) : Nat := (l.getD i 0).toNat

/-- Little-endian number of `n` bytes from offset `i` (R5). -/
def leAt (l : List Byte) (i : Nat) : Nat → Nat
  | 0 => 0
  | n + 1 => byteAt l i + 256 * leAt l (i + 1) n

/-- Big-endian number of `n` bytes from offset `i`. -/
def beAt (l : List Byte) (i : Nat) : Nat → Nat
  | 0 => 0
  | n + 1 => byteAt l i * 256 ^ n + beAt l (i + 1) n

/-- `n` little-endian bytes of a number (R5). -/
def leBytes : Nat → Nat → List Byte
  | 0, _ => []
  | n + 1, x => BitVec.ofNat 8 x :: leBytes n (x / 256)

/-- `n` big-endian bytes of a number. -/
def beBytes (n x : Nat) : List Byte := (leBytes n x).reverse

/-- Bytes `i` to `i + n - 1` of a byte string. -/
def slice (l : List Byte) (i n : Nat) : List Byte := (l.drop i).take n

/-- Bytes padded with zeros to at least `n`. -/
def padTo (n : Nat) (l : List Byte) : List Byte := l ++ List.replicate (n - l.length) 0

/-- All bytes are zero. -/
def allZero (l : List Byte) : Bool := l.all fun b => b == 0

/-- `xs` with element `i` replaced. -/
def setAt {α : Type} (xs : List α) (i : Nat) (v : α) : List α := xs.set i v

/-- The numbers below `n` that satisfy `p`. -/
def below (n : Nat) (p : Nat → Bool) : List Nat := (List.range n).filter p

/-- Run `f` over the numbers of a list, left to right, threading a value. -/
def forEach {σ α : Type} (xs : List α) (f : α → σ → σ) (s : σ) : σ := xs.foldl (fun s x => f x s) s

/-- Apply `f` when the condition holds. -/
def onlyIf {σ : Type} (c : Bool) (f : σ → σ) (s : σ) : σ := if c then f s else s

/-- Insert into a list sorted by `le`, after equal elements. -/
def insBy {α : Type} (le : α → α → Bool) (x : α) : List α → List α
  | [] => [x]
  | y :: ys => if le y x then y :: insBy le x ys else x :: y :: ys

/-- Stable sort by `le`. -/
def sortBy {α : Type} (le : α → α → Bool) (l : List α) : List α := l.foldl (fun acc x => insBy le x acc) []

/-- One step of a reflected CRC over one bit. -/
def crcBitR (poly : Nat) (c : Nat) : Nat := if c % 2 = 1 then (c / 2) ^^^ poly else c / 2

/-- One byte of a reflected CRC. -/
def crcByteR (poly : Nat) (c : Nat) (b : Byte) : Nat :=
  (List.range 8).foldl (fun c _ => crcBitR poly c) (c ^^^ b.toNat)

/-- Reflected CRC-32C (Castagnoli), initial value and final complement all ones. -/
def crc32c (l : List Byte) : Nat := (l.foldl (crcByteR 0x82F63B78) 0xFFFFFFFF) ^^^ 0xFFFFFFFF

/-- One byte of a CRC-16 sent most significant bit first, polynomial 0x1021. -/
def crc16Byte (c : Nat) (b : Byte) : Nat :=
  (List.range 8).foldl (fun c _ => if c.testBit 15 then ((c * 2) ^^^ 0x1021) % 65536 else c * 2 % 65536)
    (c ^^^ (b.toNat * 256))

/-- CRC-16, polynomial 0x1021, initial value 0xFFFF (R33). -/
def crc16 (l : List Byte) : Nat := l.foldl crc16Byte 0xFFFF

/-- Parity of the low 32 bits (R287). -/
def parity32 (w : Word) : Bool := (List.range 32).foldl (fun p i => p != w.getLsbD i) false

end Sys2Proof.Machine
end

