-- ==== Sys2Proof/Machine/CinderFormat.lean ====
section
/-! DEFINITION. The Cinder format (R106–R112): the decoder's procedure, and a literal encoding. -/

namespace Sys2Proof.Machine

/-- Status codes of R302 that decoding uses. -/
def stOK : Nat := 0
def stCheckFail : Nat := 0x20
def stOutputLimit : Nat := 0x23

/-- The end of a decode job: status, offset of the first fault, output (newest byte first), RAW blocks with a good CRC. -/
structure DecRes where
  status : Nat
  errPos : Nat := 0xFFFFFFFFFFFFFFFF
  out : List Byte := []
  raws : Nat := 0
deriving DecidableEq, Repr

/-- Put `n` bytes copied from `d` back, each plus a delta, on the newest-first output (R110). -/
def copyBack (d : Nat) (delta : Byte) : Nat → List Byte → List Byte
  | 0, out => out
  | n + 1, out => copyBack d delta n ((out.getD (d - 1) 0 + delta) :: out)

/-- One decoded token: bytes it takes in the body, and how it produces (R109). -/
inductive Token where
  | lit (skip n : Nat)
  | run (skip n : Nat) (v : Byte)
  | back (skip n d : Nat) (delta : Byte)
  | bad
deriving DecidableEq, Repr

/-- Sign-extend a 4-bit delta to a byte. -/
def delta4 (c : Nat) : Byte := BitVec.ofNat 8 (if 8 ≤ c % 16 then c % 16 + 240 else c % 16)

/-- Read the token at `q`, with the body ending at `qe` (R109, R112). -/
def readToken (inp : List Byte) (rb q qe : Nat) : Token :=
  let t := byteAt inp q
  let q1 := q + 1
  let need (k : Nat) (r : Token) : Token := if q1 + k ≤ qe then r else .bad
  if t < 0x40 then need (t + 1) (.lit 1 (t + 1))
  else if t < 0x60 then need 1 (.run 2 (t - 0x40 + 3) (inp.getD q1 0))
  else if t < 0x80 then .back 1 (t - 0x60 + 1) rb 0
  else if t < 0xC0 then need 1 (.back 2 (t / 8 % 8 + 3) (t % 8 * 256 + byteAt inp q1 + 1) 0)
  else if t < 0xE0 then need 2 (.back 3 (t - 0xC0 + 3) (leAt inp q1 2 + 1) 0)
  else if t = 0xE0 then need 2 (need (2 + (leAt inp q1 2 + 1)) (.lit 3 (leAt inp q1 2 + 1)))
  else if t = 0xE1 then need 3 (.run 4 (leAt inp q1 2 + 1) (inp.getD (q1 + 2) 0))
  else if t = 0xE2 then need 4 (.back 5 (leAt inp q1 2 + 1) (leAt inp (q1 + 2) 2 + 1) 0)
  else if t = 0xE3 then
    let c := byteAt inp q1
    need 3 (if c / 16 % 8 ≠ 0 then .bad else .back 4 (leAt inp (q1 + 1) 2 + 1) (rb * (1 + c / 128)) (delta4 c))
  else .bad

/-- The tokens of a block's body. `len` is the output's length so far; answers the output and its length, or the offset
of the faulty token. -/
def tokenLoop (inp : List Byte) (rb qe fin : Nat) : Nat → Nat → Nat → List Byte → Except (Nat × List Byte) (List Byte × Nat)
  | 0, _, len, out => .ok (out, len)
  | fuel + 1, q, len, out =>
    if qe ≤ q then .ok (out, len)
    else
      match readToken inp rb q qe with
      | .bad => .error (q, out)
      | .lit skip n =>
        if fin < len + n then .error (q, out)
        else tokenLoop inp rb qe fin fuel (q + skip + n) (len + n) ((slice inp (q + skip) n).reverse ++ out)
      | .run skip n v =>
        if fin < len + n then .error (q, out)
        else tokenLoop inp rb qe fin fuel (q + skip) (len + n) (List.replicate n v ++ out)
      | .back skip n d delta =>
        if fin < len + n ∨ d = 0 ∨ len < d then .error (q, out)
        else tokenLoop inp rb qe fin fuel (q + skip) (len + n) (copyBack d delta n out)

/-- One block at `p`: its header checks, body and CRC (R107–R111). Answers the output, its length, the end of the block,
whether it was RAW and whether LAST was set. -/
def oneBlock (inp : List Byte) (clen rb ulen : Nat) (rawOk : Bool) (p b len : Nat) (out : List Byte) :
    Except DecRes (List Byte × Nat × Nat × Bool × Bool) :=
  if clen < p + 16 then .error ⟨stCheckFail, p, out, 0⟩
  else
    let fl := byteAt inp (p + 2)
    let ub := leAt inp (p + 4) 4
    let cb := leAt inp (p + 8) 4
    if leAt inp p 2 ≠ 0x4243 ∨ 4 ≤ fl ∨ byteAt inp (p + 3) ≠ 0 ∨ leAt inp (p + 12) 4 ≠ b then .error ⟨stCheckFail, p, out, 0⟩
    else if ub = 0 ∨ 65536 < ub then .error ⟨stCheckFail, p, out, 0⟩
    else if ulen < len + ub then .error ⟨stOutputLimit, p, out, 0⟩
    else if fl % 2 = 1 ∧ (!rawOk ∨ cb ≠ ub) then .error ⟨stCheckFail, p, out, 0⟩
    else if clen < p + 16 + cb + 4 then .error ⟨stCheckFail, p, out, 0⟩
    else
      let q := p + 16
      let qe := q + cb
      let body := if fl % 2 = 1 then .ok ((slice inp q cb).reverse ++ out, len + ub)
        else tokenLoop inp rb qe (len + ub) (cb + 1) q len out
      match body with
      | .error (at_, o) => .error ⟨stCheckFail, at_, o, 0⟩
      | .ok (out', len') =>
        if len' ≠ len + ub then .error ⟨stCheckFail, qe, out', 0⟩
        else if crc32c (out'.take ub).reverse ≠ leAt inp qe 4 then .error ⟨stCheckFail, qe, out', 0⟩
        else .ok (out', len', qe + 4, fl % 2 == 1, bit fl 1)

/-- The blocks of a job from block `b` at `p` (R111, R112). -/
def blockLoop (inp : List Byte) (clen rb ulen nblk : Nat) (rawOk : Bool) : Nat → Nat → Nat → Nat → Nat → List Byte → DecRes
  | 0, p, _, _, raws, out => ⟨stCheckFail, p, out, raws⟩
  | fuel + 1, p, b, len, raws, out =>
    match oneBlock inp clen rb ulen rawOk p b len out with
    | .error r => { r with raws := raws }
    | .ok (out', len', p', raw, last) =>
      let raws' := raws + b2n raw
      if last then
        if b + 1 ≠ nblk ∨ len' ≠ ulen ∨ p' ≠ clen then ⟨stCheckFail, p, out', raws'⟩
        else ⟨stOK, 0xFFFFFFFFFFFFFFFF, out', raws'⟩
      else if b + 1 = nblk then ⟨stCheckFail, p, out', raws'⟩
      else blockLoop inp clen rb ulen nblk rawOk fuel p' (b + 1) len' raws' out'

/-- The decoder's procedure (R112). -/
def decodeJob (inp : List Byte) (clen ulenDesc : Nat) (rawOk : Bool) : DecRes :=
  if clen < 32 then ⟨stCheckFail, 0, [], 0⟩
  else
    let rb := leAt inp 4 4
    let ulen := leAt inp 8 8
    let nblk := leAt inp 16 4
    if leAt inp 0 2 ≠ 0x4A43 ∨ byteAt inp 2 ≠ 1 ∨ byteAt inp 3 ≠ 0 ∨ !allZero (slice inp 20 8)
        ∨ crc32c (inp.take 28) ≠ leAt inp 28 4 then ⟨stCheckFail, 0, [], 0⟩
    else if 262144 < rb ∨ nblk < (ulen + 65535) / 65536 ∨ ulen ≠ ulenDesc then ⟨stCheckFail, 0, [], 0⟩
    else blockLoop inp clen rb ulen nblk rawOk (clen / 20 + 1) 32 0 0 0 []

/-- Blocks of at most 65,536 bytes. -/
def chunks64K : Nat → List Byte → List (List Byte)
  | 0, _ => []
  | n + 1, l => if l.isEmpty then [] else l.take 65536 :: chunks64K n (l.drop 65536)

/-- One block holding its bytes as one long literal. -/
def litBlock (idx : Nat) (last : Bool) (bs : List Byte) : List Byte :=
  let body := (0xE0 : Byte) :: leBytes 2 (bs.length - 1) ++ bs
  leBytes 2 0x4243 ++ leBytes 1 (if last then 2 else 0) ++ leBytes 1 0 ++ leBytes 4 bs.length ++ leBytes 4 body.length
    ++ leBytes 4 idx ++ body ++ leBytes 4 (crc32c bs)

/-- A job that stores its source as literals: one stream that decodes to the source. -/
def litJob (row : Nat) (src : List Byte) : List Byte :=
  let ch := chunks64K (src.length / 65536 + 1) src
  let hd := leBytes 2 0x4A43 ++ leBytes 1 1 ++ leBytes 1 0 ++ leBytes 4 row ++ leBytes 8 src.length ++ leBytes 4 ch.length
    ++ leBytes 8 0
  hd ++ leBytes 4 (crc32c hd) ++ (ch.zipIdx.flatMap fun c => litBlock c.2 (c.2 + 1 == ch.length) c.1)

/-- `n` blocks from `p` on bring 65,536 bytes each (R115). -/
def fullBlocks (inp : List Byte) : Nat → Nat → Bool
  | 0, _ => true
  | n + 1, p => leAt inp (p + 4) 4 == 65536 && fullBlocks inp n (p + 20 + leAt inp (p + 8) 4)

/-- The stream is one the encoder may write for a source: it decodes under R112 to it, in blocks of 65,536 bytes except the last, with
no RAW block (R115). -/
def encodes (row : Nat) (src job : List Byte) : Bool :=
  let r := decodeJob job job.length src.length false
  r.status == stOK && r.out.reverse == src && leAt job 4 4 == row && leAt job 16 4 == (src.length + 65535) / 65536
  && fullBlocks job ((src.length + 65535) / 65536 - 1) 32

end Sys2Proof.Machine
end

