-- ==== Sys2Proof/Config.lean ====
section
/-! DEFINITION. The values the spec leaves open: constants without a body, applied to the state's counter of free
values, so that no proof can see what they are. -/

namespace Sys2Proof.Config

/-- A value the spec leaves open, drawn with the counter `State.freeCtr`. DESIGN CHOICE (log 10). -/
opaque freeNat : Nat → Nat

/-- The running disparity at the start of the `n`-th output, where it is a frame or heartbeat of the twin link: the idle sets
sent before it are not followed (R22). DESIGN CHOICE (log 10). -/
opaque txDisparity : Nat → Bool

/-- A byte string the spec leaves open (the encoder's choice of tokens, R115). DESIGN CHOICE (log 43). -/
opaque freeBytes : Nat → List Byte

/-- The public keys held in fuses, as affine points of P-256 (R394). DESIGN CHOICE (log 131). -/
opaque fuseKey : Nat → Nat × Nat

/-- The 16-bit fraction that a camera trigger takes from the DRT phase: θ and the loop's target (R190). DESIGN CHOICE
(log 80). -/
opaque phaseFraction : (theta target : Nat) → BitVec 16

/-- What the calibration targets are where the configuration image holds none: TARGET, then TD per colour (R386, R393); the gain of
a pixel whose BRIGHT equals its DARK, and the width of a port whose bands show no slope (R386). DESIGN CHOICE (log 180). -/
opaque calTarget : Nat → BitVec 16
opaque flatGain : (dark : Int) → BitVec 16
opaque fitWidth : (width density : Int) → BitVec 14

/-- Length of the JTAG instruction register, the instruction each code selects (1 IDCODE, 2 SAMPLE/PRELOAD, 3 EXTEST, 4 CLAMP,
5 HIGHZ, others BYPASS), the manufacturer identity, the cells of the boundary register (R425). PRESUMED (log 178). -/
opaque tapIrBits : Nat
opaque tapCode : Nat → Nat
opaque tapManufacturer : BitVec 11
opaque tapCells : Nat

end Sys2Proof.Config
end

