-- ==== Sys2Proof/Machine/RegMap.lean ====
section
/-! DEFINITION. The register map: every register word of the spec's register tables (the tables at the end of
chapters 01-09 and 12-14), each with its fields' place, access code (R8), reset value and column B, and one named
constant per field. -/

namespace Sys2Proof.Machine

/-- The access codes of R8. -/
inductive Access where
  | ro | rw | wo | w1c | w1s | rc | rwl
deriving DecidableEq, Repr

/-- One field of a register word: lowest bit, width, access code, reset value, column B, privileged (R139). -/
structure FieldDef where
  lo : Nat
  len : Nat
  acc : Access
  rst : Nat
  b : Bool
  priv : Bool := false
deriving DecidableEq, Repr

/-- One register, or an array of `count` registers `stride` words apart, from word `word` of its block. -/
structure RegDef where
  word : Nat
  stride : Nat
  count : Nat
  fields : List FieldDef
deriving DecidableEq, Repr

/-- A named field of a block: its word and bits. -/
structure Fld where
  blk : Nat
  word : Nat
  lo : Nat
  len : Nat
deriving DecidableEq, Repr

/-- Block GLB, number 0x00 (R6). -/
abbrev BLK_GLB : Nat := 0x0

/-- Block MBX, number 0x01 (R6). -/
abbrev BLK_MBX : Nat := 0x1

/-- Block FLU, number 0x02 (R6). -/
abbrev BLK_FLU : Nat := 0x2

/-- Block LANE, number 0x04 (R6). -/
abbrev BLK_LANE : Nat := 0x4

/-- Block GOR, number 0x05 (R6). -/
abbrev BLK_GOR : Nat := 0x5

/-- Block BAS, number 0x08 (R6). -/
abbrev BLK_BAS : Nat := 0x8

/-- Block CIN, number 0x09 (R6). -/
abbrev BLK_CIN : Nat := 0x9

/-- Block TER, number 0x0A (R6). -/
abbrev BLK_TER : Nat := 0xA

/-- Block GRT, number 0x0B (R6). -/
abbrev BLK_GRT : Nat := 0xB

/-- Block FBX, number 0x0C (R6). -/
abbrev BLK_FBX : Nat := 0xC

/-- Block DRT, number 0x0D (R6). -/
abbrev BLK_DRT : Nat := 0xD

/-- Block DMP, number 0x0E (R6). -/
abbrev BLK_DMP : Nat := 0xE

/-- Block FND, number 0x0F (R6). -/
abbrev BLK_FND : Nat := 0xF

/-- Block FBK, number 0x10 (R6). -/
abbrev BLK_FBK : Nat := 0x10

/-- Block MOT, number 0x11 (R6). -/
abbrev BLK_MOT : Nat := 0x11

/-- Block CAM, number 0x12 (R6). -/
abbrev BLK_CAM : Nat := 0x12

/-- Block ISP, number 0x13 (R6). -/
abbrev BLK_ISP : Nat := 0x13

/-- Block ASH, number 0x14 (R6). -/
abbrev BLK_ASH : Nat := 0x14

/-- Block CHM, number 0x18 (R6). -/
abbrev BLK_CHM : Nat := 0x18

/-- Block DRM, number 0x19 (R6). -/
abbrev BLK_DRM : Nat := 0x19

/-- Block TIM, number 0x1A (R6). -/
abbrev BLK_TIM : Nat := 0x1A

/-- Block TWN, number 0x1B (R6). -/
abbrev BLK_TWN : Nat := 0x1B

/-- Block CAL, number 0x1C (R6). -/
abbrev BLK_CAL : Nat := 0x1C

/-- Block SVC, number 0x1D (R6). -/
abbrev BLK_SVC : Nat := 0x1D

/-- Block TST, number 0x1E (R6). -/
abbrev BLK_TST : Nat := 0x1E

/-- Registers of block LANE, part 0. -/
def regsLANE_0 : List RegDef := [
  -- LANE_CTRL
  ⟨0x0, 0, 1, [⟨15, 1, .rwl, 1, true, false⟩, ⟨14, 1, .rwl, 1, true, false⟩, ⟨13, 1, .rwl, 0, false, false⟩, ⟨12, 1, .rwl, 1, true, false⟩, ⟨11, 1, .rwl, 1, true, false⟩, ⟨10, 1, .rwl, 0, false, false⟩, ⟨9, 1, .rwl, 0, false, false⟩, ⟨8, 1, .rwl, 0, true, false⟩, ⟨7, 1, .rwl, 0, true, false⟩, ⟨4, 3, .rwl, 0, false, false⟩, ⟨0, 1, .rw, 0, true, false⟩]⟩,
  -- LANE_STATUS
  ⟨0x1, 0, 1, [⟨24, 8, .ro, 0, false, false⟩, ⟨16, 8, .ro, 0, false, false⟩, ⟨12, 2, .ro, 0, false, false⟩, ⟨11, 1, .ro, 0, false, false⟩, ⟨10, 1, .ro, 0, false, false⟩, ⟨9, 1, .ro, 0, false, false⟩, ⟨8, 1, .ro, 0, false, false⟩, ⟨7, 1, .ro, 0, false, false⟩, ⟨6, 1, .ro, 0, false, false⟩, ⟨5, 1, .ro, 0, false, false⟩, ⟨0, 3, .ro, 0, false, false⟩]⟩,
  -- LANE_EVENT
  ⟨0x2, 0, 1, [⟨11, 1, .w1c, 0, false, false⟩, ⟨10, 1, .w1c, 0, false, false⟩, ⟨9, 1, .w1c, 0, false, false⟩, ⟨8, 1, .w1c, 0, false, false⟩, ⟨7, 1, .w1c, 0, false, false⟩, ⟨6, 1, .w1c, 0, false, false⟩, ⟨5, 1, .w1c, 0, false, false⟩, ⟨4, 1, .w1c, 0, false, false⟩, ⟨3, 1, .w1c, 0, false, false⟩, ⟨2, 1, .w1c, 0, false, false⟩, ⟨1, 1, .w1c, 0, false, false⟩, ⟨0, 1, .w1c, 0, false, false⟩]⟩,
  -- LANE_EVENT_EN
  ⟨0x3, 0, 1, [⟨11, 1, .rw, 1, true, false⟩, ⟨10, 1, .rw, 1, true, false⟩, ⟨9, 1, .rw, 1, true, false⟩, ⟨8, 1, .rw, 1, true, false⟩, ⟨7, 1, .rw, 1, true, false⟩, ⟨6, 1, .rw, 0, true, false⟩, ⟨5, 1, .rw, 0, true, false⟩, ⟨4, 1, .rw, 1, true, false⟩, ⟨3, 1, .rw, 0, true, false⟩, ⟨2, 1, .rw, 0, true, false⟩, ⟨1, 1, .rw, 1, true, false⟩, ⟨0, 1, .rw, 1, true, false⟩]⟩,
  -- LANE_TXEQ
  ⟨0x4, 0, 1, [⟨24, 4, .rwl, 0, true, false⟩, ⟨16, 5, .rwl, 0, true, false⟩, ⟨8, 5, .rwl, 0, true, false⟩, ⟨0, 4, .rwl, 0, true, false⟩]⟩,
  -- LANE_RXEQ
  ⟨0x5, 0, 1, [⟨17, 1, .rwl, 1, true, false⟩, ⟨16, 1, .rwl, 1, true, false⟩, ⟨8, 4, .rwl, 8, true, false⟩, ⟨0, 4, .rwl, 4, true, false⟩]⟩,
  -- LANE_ADAPT_STAT
  ⟨0x6, 0, 1, [⟨24, 8, .ro, 0, false, false⟩, ⟨16, 8, .ro, 0, false, false⟩, ⟨8, 4, .ro, 8, false, false⟩, ⟨0, 4, .ro, 4, false, false⟩]⟩,
  -- LANE_ADAPT
  ⟨0x7, 0, 1, [⟨16, 16, .rw, 0x1000, true, false⟩, ⟨14, 1, .rw, 1, true, false⟩, ⟨13, 1, .rw, 0, true, false⟩, ⟨8, 4, .rw, 4, true, false⟩, ⟨0, 8, .rw, 0x18, true, false⟩]⟩,
  -- LANE_FOM
  ⟨0x8, 0, 1, [⟨16, 8, .rc, 0, false, false⟩, ⟨8, 8, .rc, 0xff, false, false⟩, ⟨0, 8, .ro, 0, false, false⟩]⟩,
  -- LANE_FEC_SYM
  ⟨0x9, 0, 1, [⟨0, 32, .rc, 0, false, false⟩]⟩,
  -- LANE_FEC_CW
  ⟨0xa, 0, 1, [⟨0, 32, .rc, 0, false, false⟩]⟩,
  -- LANE_FEC_UNC
  ⟨0xb, 0, 1, [⟨0, 32, .rc, 0, false, false⟩]⟩,
  -- LANE_CODE_ERR
  ⟨0xc, 0, 1, [⟨0, 32, .rc, 0, false, false⟩]⟩,
  -- LANE_BRINGUP
  ⟨0xd, 0, 1, [⟨8, 8, .rw, 0xa, true, false⟩, ⟨0, 8, .rw, 0x14, true, false⟩]⟩,
  -- LANE_BOND
  ⟨0xe, 0, 1, [⟨8, 8, .rw, 0xff, true, false⟩, ⟨0, 8, .rw, 0, true, false⟩]⟩]

/-- Every register of block LANE. -/
def regsLANE : List RegDef := regsLANE_0

/-- Registers of block TST, part 0. -/
def regsTST_0 : List RegDef := [
  -- TST_PRBS_CTRL
  ⟨0x0, 0, 1, [⟨16, 5, .rw, 0, true, false⟩, ⟨9, 1, .wo, 0, false, false⟩, ⟨8, 1, .w1s, 0, false, false⟩, ⟨6, 2, .rw, 0, false, false⟩, ⟨5, 1, .rw, 0, true, false⟩, ⟨2, 2, .rw, 0, true, false⟩, ⟨1, 1, .rw, 0, true, false⟩, ⟨0, 1, .rw, 0, true, false⟩]⟩,
  -- TST_PRBS_STAT
  ⟨0x1, 0, 1, [⟨1, 1, .w1c, 0, false, false⟩, ⟨0, 1, .ro, 0, false, false⟩]⟩,
  -- TST_PRBS_ERR
  ⟨0x2, 0, 1, [⟨0, 32, .rc, 0, false, false⟩]⟩,
  -- TST_PRBS_BITS
  ⟨0x3, 0, 1, [⟨0, 32, .rc, 0, false, false⟩]⟩]

/-- Every register of block TST. -/
def regsTST : List RegDef := regsTST_0

/-- Registers of block GOR, part 0. -/
def regsGOR_0 : List RegDef := [
  -- GOR_CTRL
  ⟨0x0, 0, 1, [⟨24, 8, .rw, 0x40, true, false⟩, ⟨16, 4, .rw, 4, true, false⟩, ⟨4, 2, .rwl, 0, false, false⟩, ⟨3, 1, .rwl, 0, true, false⟩, ⟨1, 1, .wo, 0, false, false⟩, ⟨0, 1, .rw, 0, true, false⟩]⟩,
  -- GOR_STATUS
  ⟨0x1, 0, 1, [⟨16, 16, .ro, 0, false, false⟩, ⟨12, 4, .ro, 0, false, false⟩, ⟨10, 2, .ro, 0, false, false⟩, ⟨9, 1, .ro, 0, false, false⟩, ⟨8, 1, .ro, 0, false, false⟩, ⟨0, 3, .ro, 0, false, false⟩]⟩,
  -- GOR_PEER_LO
  ⟨0x2, 0, 1, [⟨0, 32, .ro, 0, false, false⟩]⟩,
  -- GOR_PEER_HI
  ⟨0x3, 0, 1, [⟨0, 32, .ro, 0, false, false⟩]⟩,
  -- GOR_LOCK_LO
  ⟨0x4, 0, 1, [⟨0, 32, .rw, 0, true, false⟩]⟩,
  -- GOR_LOCK_HI
  ⟨0x5, 0, 1, [⟨0, 32, .rw, 0, true, false⟩]⟩,
  -- GOR_RCV_NXT
  ⟨0x6, 0, 1, [⟨0, 32, .ro, 0, false, false⟩]⟩,
  -- GOR_BYTE_LO
  ⟨0x7, 0, 1, [⟨0, 32, .ro, 0, false, false⟩]⟩,
  -- GOR_BYTE_HI
  ⟨0x8, 0, 1, [⟨0, 32, .ro, 0, false, false⟩]⟩,
  -- GOR_CREDIT_LO
  ⟨0x9, 0, 1, [⟨0, 32, .ro, 0, false, false⟩]⟩,
  -- GOR_CREDIT_HI
  ⟨0xa, 0, 1, [⟨0, 32, .ro, 0, false, false⟩]⟩,
  -- GOR_TIMING
  ⟨0xb, 0, 1, [⟨24, 8, .rw, 0xa, true, false⟩, ⟨16, 8, .rw, 0xa, true, false⟩, ⟨8, 8, .rw, 8, true, false⟩, ⟨0, 8, .rw, 8, true, false⟩]⟩,
  -- GOR_RETX
  ⟨0xc, 0, 1, [⟨16, 4, .rw, 5, true, false⟩, ⟨0, 16, .rw, 0xc8, true, false⟩]⟩,
  -- GOR_CREDIT_CFG
  ⟨0xd, 0, 1, [⟨16, 16, .rw, 0x100, true, false⟩, ⟨0, 16, .rw, 0x40, true, false⟩]⟩,
  -- GOR_DRAIN
  ⟨0xe, 0, 1, [⟨24, 8, .ro, 0, false, false⟩, ⟨0, 16, .rw, 0x32, true, false⟩]⟩,
  -- GOR_EVENT
  ⟨0xf, 0, 1, [⟨12, 1, .w1c, 0, false, false⟩, ⟨11, 1, .w1c, 0, false, false⟩, ⟨10, 1, .w1c, 0, false, false⟩, ⟨9, 1, .w1c, 0, false, false⟩, ⟨8, 1, .w1c, 0, false, false⟩, ⟨7, 1, .w1c, 0, false, false⟩, ⟨6, 1, .w1c, 0, false, false⟩, ⟨5, 1, .w1c, 0, false, false⟩, ⟨4, 1, .w1c, 0, false, false⟩, ⟨3, 1, .w1c, 0, false, false⟩, ⟨2, 1, .w1c, 0, false, false⟩, ⟨1, 1, .w1c, 0, false, false⟩, ⟨0, 1, .w1c, 0, false, false⟩]⟩,
  -- GOR_EVENT_EN
  ⟨0x10, 0, 1, [⟨12, 1, .rw, 1, true, false⟩, ⟨11, 1, .rw, 1, true, false⟩, ⟨10, 1, .rw, 1, true, false⟩, ⟨9, 1, .rw, 1, true, false⟩, ⟨8, 1, .rw, 1, true, false⟩, ⟨7, 1, .rw, 0, true, false⟩, ⟨6, 1, .rw, 1, true, false⟩, ⟨5, 1, .rw, 1, true, false⟩, ⟨4, 1, .rw, 1, true, false⟩, ⟨3, 1, .rw, 1, true, false⟩, ⟨2, 1, .rw, 1, true, false⟩, ⟨1, 1, .rw, 1, true, false⟩, ⟨0, 1, .rw, 1, true, false⟩]⟩,
  -- GOR_PAGE_LAST
  ⟨0x11, 0, 1, [⟨0, 32, .ro, 0xffffffff, false, false⟩]⟩,
  -- GOR_DISCARD
  ⟨0x12, 0, 1, [⟨0, 32, .ro, 0xffffffff, false, false⟩]⟩,
  -- GOR_DISCARD_WHY
  ⟨0x13, 0, 1, [⟨0, 8, .ro, 0, false, false⟩]⟩,
  -- GOR_MARK
  ⟨0x14, 0, 1, [⟨0, 32, .ro, 0, false, false⟩]⟩,
  -- GOR_RX_FRAMES
  ⟨0x15, 0, 1, [⟨0, 32, .rc, 0, false, false⟩]⟩,
  -- GOR_DUP
  ⟨0x16, 0, 1, [⟨0, 32, .rc, 0, false, false⟩]⟩,
  -- GOR_OOW
  ⟨0x17, 0, 1, [⟨0, 32, .rc, 0, false, false⟩]⟩]

/-- Registers of block GOR, part 1. -/
def regsGOR_1 : List RegDef := [
  -- GOR_BAD_FRAME
  ⟨0x18, 0, 1, [⟨0, 32, .rc, 0, false, false⟩]⟩,
  -- GOR_CREDIT_OVR
  ⟨0x19, 0, 1, [⟨0, 32, .rc, 0, false, false⟩]⟩,
  -- GOR_STALE
  ⟨0x1a, 0, 1, [⟨0, 32, .rc, 0, false, false⟩]⟩,
  -- GOR_PROTO_ERR
  ⟨0x1b, 0, 1, [⟨0, 32, .rc, 0, false, false⟩]⟩,
  -- GOR_DROP
  ⟨0x1c, 0, 1, [⟨0, 32, .rc, 0, false, false⟩]⟩,
  -- GOR_NAK_TX
  ⟨0x1d, 0, 1, [⟨0, 32, .rc, 0, false, false⟩]⟩]

/-- Every register of block GOR. -/
def regsGOR : List RegDef := regsGOR_0 ++ regsGOR_1

/-- Registers of block BAS, part 0. -/
def regsBAS_0 : List RegDef := [
  -- BAS_CTRL
  ⟨0x0, 0, 1, [⟨24, 8, .rw, 0, true, false⟩, ⟨16, 4, .rw, 2, true, false⟩, ⟨4, 1, .rwl, 0, true, false⟩, ⟨0, 1, .rw, 0, true, false⟩]⟩,
  -- BAS_STATUS
  ⟨0x1, 0, 1, [⟨20, 12, .ro, 0, false, false⟩, ⟨12, 7, .ro, 0, false, false⟩, ⟨8, 4, .ro, 0, false, false⟩, ⟨3, 1, .ro, 0, false, false⟩, ⟨2, 1, .ro, 0, false, false⟩, ⟨1, 1, .ro, 0, false, false⟩, ⟨0, 1, .ro, 0, false, false⟩]⟩,
  -- BAS_RING_BASE_LO
  ⟨0x2, 0, 1, [⟨0, 32, .rwl, 0, true, false⟩]⟩,
  -- BAS_RING_BASE_HI
  ⟨0x3, 0, 1, [⟨0, 32, .rwl, 0, true, false⟩]⟩,
  -- BAS_RING_SIZE_LO
  ⟨0x4, 0, 1, [⟨0, 32, .rwl, 0, true, false⟩]⟩,
  -- BAS_RING_SIZE_HI
  ⟨0x5, 0, 1, [⟨0, 32, .rwl, 0, true, false⟩]⟩,
  -- BAS_DEC_BASE_LO
  ⟨0x6, 0, 1, [⟨0, 32, .rwl, 0, true, false⟩]⟩,
  -- BAS_DEC_BASE_HI
  ⟨0x7, 0, 1, [⟨0, 32, .rwl, 0, true, false⟩]⟩,
  -- BAS_DEC_SIZE_LO
  ⟨0x8, 0, 1, [⟨0, 32, .rwl, 0, true, false⟩]⟩,
  -- BAS_DEC_SIZE_HI
  ⟨0x9, 0, 1, [⟨0, 32, .rwl, 0, true, false⟩]⟩,
  -- BAS_WP_LO
  ⟨0xa, 0, 1, [⟨0, 32, .ro, 0, false, false⟩]⟩,
  -- BAS_WP_HI
  ⟨0xb, 0, 1, [⟨0, 32, .ro, 0, false, false⟩]⟩,
  -- BAS_RP_LO
  ⟨0xc, 0, 1, [⟨0, 32, .ro, 0, false, false⟩]⟩,
  -- BAS_RP_HI
  ⟨0xd, 0, 1, [⟨0, 32, .ro, 0, false, false⟩]⟩,
  -- BAS_MARK_LO
  ⟨0xe, 0, 1, [⟨0, 32, .ro, 0, false, false⟩]⟩,
  -- BAS_MARK_HI
  ⟨0xf, 0, 1, [⟨0, 32, .ro, 0, false, false⟩]⟩,
  -- BAS_FREE_LO
  ⟨0x10, 0, 1, [⟨0, 32, .ro, 0, false, false⟩]⟩,
  -- BAS_FREE_HI
  ⟨0x11, 0, 1, [⟨0, 32, .ro, 0, false, false⟩]⟩,
  -- BAS_DEC_FREE_LO
  ⟨0x12, 0, 1, [⟨0, 32, .ro, 0, false, false⟩]⟩,
  -- BAS_DEC_FREE_HI
  ⟨0x13, 0, 1, [⟨0, 32, .ro, 0, false, false⟩]⟩,
  -- BAS_MARK_PAGE
  ⟨0x14, 0, 1, [⟨0, 32, .ro, 0xffffffff, false, false⟩]⟩,
  -- BAS_LOSS_FIRST
  ⟨0x15, 0, 1, [⟨0, 32, .ro, 0xffffffff, false, false⟩]⟩,
  -- BAS_LOSS_LAST
  ⟨0x16, 0, 1, [⟨0, 32, .ro, 0xffffffff, false, false⟩]⟩,
  -- BAS_LOSS_COUNT
  ⟨0x17, 0, 1, [⟨0, 32, .rc, 0, false, false⟩]⟩]

/-- Registers of block BAS, part 1. -/
def regsBAS_1 : List RegDef := [
  -- BAS_LB_FREED
  ⟨0x18, 0, 1, [⟨0, 8, .ro, 0xff, false, false⟩]⟩,
  -- BAS_FAIL_PAGE
  ⟨0x19, 0, 1, [⟨0, 32, .ro, 0xffffffff, false, false⟩]⟩,
  -- BAS_FAIL_WHY
  ⟨0x1a, 0, 1, [⟨8, 8, .ro, 0, false, false⟩, ⟨0, 4, .ro, 0, false, false⟩]⟩,
  -- BAS_EVENT
  ⟨0x1b, 0, 1, [⟨8, 1, .w1c, 0, false, false⟩, ⟨7, 1, .w1c, 0, false, false⟩, ⟨6, 1, .w1c, 0, false, false⟩, ⟨5, 1, .w1c, 0, false, false⟩, ⟨4, 1, .w1c, 0, false, false⟩, ⟨3, 1, .w1c, 0, false, false⟩, ⟨2, 1, .w1c, 0, false, false⟩, ⟨1, 1, .w1c, 0, false, false⟩, ⟨0, 1, .w1c, 0, false, false⟩]⟩,
  -- BAS_EVENT_EN
  ⟨0x1c, 0, 1, [⟨8, 1, .rw, 1, true, false⟩, ⟨7, 1, .rw, 1, true, false⟩, ⟨6, 1, .rw, 0, true, false⟩, ⟨5, 1, .rw, 0, true, false⟩, ⟨4, 1, .rw, 1, true, false⟩, ⟨3, 1, .rw, 1, true, false⟩, ⟨2, 1, .rw, 0, true, false⟩, ⟨1, 1, .rw, 1, true, false⟩, ⟨0, 1, .rw, 1, true, false⟩]⟩,
  -- BAS_DRAIN
  ⟨0x1d, 0, 1, [⟨24, 8, .ro, 0, false, false⟩]⟩,
  -- BAS_RB_BASE_LO
  ⟨0x1e, 0, 1, [⟨0, 32, .rwl, 0, true, false⟩]⟩,
  -- BAS_RB_BASE_HI
  ⟨0x1f, 0, 1, [⟨0, 32, .rwl, 0, true, false⟩]⟩]

/-- Every register of block BAS. -/
def regsBAS : List RegDef := regsBAS_0 ++ regsBAS_1

/-- Registers of block CIN, part 0. -/
def regsCIN_0 : List RegDef := [
  -- CIN_CTRL
  ⟨0x0, 0, 1, [⟨16, 8, .rw, 0xc8, true, false⟩, ⟨2, 1, .wo, 0, false, false⟩, ⟨1, 1, .rwl, 1, true, false⟩, ⟨0, 1, .rw, 0, true, false⟩]⟩,
  -- CIN_STATUS
  ⟨0x1, 0, 1, [⟨24, 8, .ro, 0, false, false⟩, ⟨16, 8, .ro, 0, false, false⟩, ⟨0, 2, .ro, 0, false, false⟩]⟩,
  -- CIN_JOB_PAGE
  ⟨0x2, 0, 1, [⟨0, 32, .ro, 0xffffffff, false, false⟩]⟩,
  -- CIN_JOB_SLOT
  ⟨0x3, 0, 1, [⟨8, 4, .ro, 0, false, false⟩, ⟨0, 4, .ro, 0, false, false⟩]⟩,
  -- CIN_OUT_LO
  ⟨0x4, 0, 1, [⟨0, 32, .ro, 0, false, false⟩]⟩,
  -- CIN_OUT_HI
  ⟨0x5, 0, 1, [⟨0, 32, .ro, 0, false, false⟩]⟩,
  -- CIN_ERR_POS_LO
  ⟨0x6, 0, 1, [⟨0, 32, .ro, 0xffffffff, false, false⟩]⟩,
  -- CIN_ERR_POS_HI
  ⟨0x7, 0, 1, [⟨0, 32, .ro, 0xffffffff, false, false⟩]⟩,
  -- CIN_JOBS
  ⟨0x8, 0, 1, [⟨0, 32, .rc, 0, false, false⟩]⟩,
  -- CIN_FAILS
  ⟨0x9, 0, 1, [⟨0, 32, .rc, 0, false, false⟩]⟩,
  -- CIN_RAW_BLOCKS
  ⟨0xa, 0, 1, [⟨0, 32, .rc, 0, false, false⟩]⟩,
  -- CIN_NO_GAIN
  ⟨0xb, 0, 1, [⟨0, 32, .rc, 0, false, false⟩]⟩,
  -- CIN_EVENT
  ⟨0xc, 0, 1, [⟨4, 1, .w1c, 0, false, false⟩, ⟨3, 1, .w1c, 0, false, false⟩, ⟨2, 1, .w1c, 0, false, false⟩, ⟨1, 1, .w1c, 0, false, false⟩, ⟨0, 1, .w1c, 0, false, false⟩]⟩,
  -- CIN_EVENT_EN
  ⟨0xd, 0, 1, [⟨4, 1, .rw, 1, true, false⟩, ⟨3, 1, .rw, 0, true, false⟩, ⟨2, 1, .rw, 0, true, false⟩, ⟨1, 1, .rw, 1, true, false⟩, ⟨0, 1, .rw, 0, true, false⟩]⟩]

/-- Every register of block CIN. -/
def regsCIN : List RegDef := regsCIN_0

/-- Registers of block TER, part 0. -/
def regsTER_0 : List RegDef := [
  -- TER_CTRL
  ⟨0x0, 0, 1, [⟨16, 16, .rw, 0x400, true, false⟩, ⟨8, 8, .rw, 4, true, false⟩, ⟨2, 1, .rw, 0, true, false⟩, ⟨1, 1, .wo, 0, false, false⟩, ⟨0, 1, .rw, 0, true, false⟩]⟩,
  -- TER_SLOT
  ⟨0x1, 0, 1, [⟨16, 16, .rw, 0x40, true, false⟩, ⟨0, 16, .rw, 0x10, true, false⟩]⟩,
  -- TER_FETCH
  ⟨0x2, 0, 1, [⟨0, 16, .rw, 0x5dc0, true, false⟩]⟩,
  -- TER_DRAIN
  ⟨0x3, 0, 1, [⟨24, 8, .ro, 0, false, false⟩, ⟨0, 16, .rw, 0x1f4, true, false⟩]⟩,
  -- TER_STATUS
  ⟨0x4, 0, 1, [⟨24, 8, .ro, 0, false, false⟩, ⟨20, 4, .ro, 0, false, false⟩, ⟨3, 1, .ro, 0, false, false⟩, ⟨2, 1, .ro, 0, false, false⟩, ⟨0, 2, .ro, 0, false, false⟩]⟩,
  -- TER_PAGE
  ⟨0x5, 0, 1, [⟨0, 32, .ro, 0xffffffff, false, false⟩]⟩,
  -- TER_NEXT
  ⟨0x6, 0, 1, [⟨0, 32, .ro, 0xffffffff, false, false⟩]⟩,
  -- TER_SLOT_LINE
  ⟨0x7, 0, 1, [⟨0, 32, .ro, 0, false, false⟩]⟩,
  -- TER_LNUM_LO
  ⟨0x8, 0, 1, [⟨0, 32, .ro, 0, false, false⟩]⟩,
  -- TER_LNUM_HI
  ⟨0x9, 0, 1, [⟨0, 16, .ro, 0, false, false⟩]⟩,
  -- TER_PRIV_LINE_LO
  ⟨0xa, 0, 1, [⟨0, 32, .rw, 0, true, false⟩]⟩,
  -- TER_PRIV_LINE_HI
  ⟨0xb, 0, 1, [⟨0, 16, .rw, 0, true, false⟩]⟩,
  -- TER_PRIV_CTRL
  ⟨0xc, 0, 1, [⟨0, 1, .w1s, 0, true, false⟩]⟩,
  -- TER_SUPPRESSED
  ⟨0xd, 0, 1, [⟨0, 32, .ro, 0xffffffff, false, false⟩]⟩,
  -- TER_SLIP_CNT
  ⟨0xe, 0, 1, [⟨0, 32, .rc, 0, false, false⟩]⟩,
  -- TER_LATE_CNT
  ⟨0xf, 0, 1, [⟨0, 32, .rc, 0, false, false⟩]⟩,
  -- TER_EVENT
  ⟨0x10, 0, 1, [⟨9, 1, .w1c, 0, false, false⟩, ⟨8, 1, .w1c, 0, false, false⟩, ⟨7, 1, .w1c, 0, false, false⟩, ⟨6, 1, .w1c, 0, false, false⟩, ⟨5, 1, .w1c, 0, false, false⟩, ⟨4, 1, .w1c, 0, false, false⟩, ⟨3, 1, .w1c, 0, false, false⟩, ⟨2, 1, .w1c, 0, false, false⟩, ⟨1, 1, .w1c, 0, false, false⟩, ⟨0, 1, .w1c, 0, false, false⟩]⟩,
  -- TER_EVENT_EN
  ⟨0x11, 0, 1, [⟨9, 1, .rw, 1, true, false⟩, ⟨8, 1, .rw, 1, true, false⟩, ⟨7, 1, .rw, 1, true, false⟩, ⟨6, 1, .rw, 1, true, false⟩, ⟨5, 1, .rw, 0, true, false⟩, ⟨4, 1, .rw, 1, true, false⟩, ⟨3, 1, .rw, 1, true, false⟩, ⟨2, 1, .rw, 1, true, false⟩, ⟨1, 1, .rw, 0, true, false⟩, ⟨0, 1, .rw, 0, true, false⟩]⟩,
  -- TER_ROUTEn_MAP
  ⟨0x20, 2, 8, [⟨24, 8, .rw, 0, true, false⟩, ⟨16, 8, .rw, 0, true, false⟩, ⟨8, 8, .rw, 0, true, false⟩, ⟨0, 8, .rw, 0, true, false⟩]⟩,
  -- TER_ROUTEn_FMT
  ⟨0x21, 2, 8, [⟨0, 4, .rw, 0, true, false⟩]⟩,
  -- TER_Tn_FMT
  ⟨0x40, 8, 8, [⟨26, 6, .rw, 0, true, false⟩, ⟨23, 3, .rw, 0, true, false⟩, ⟨20, 3, .rw, 0, true, false⟩, ⟨18, 2, .rw, 0, true, false⟩, ⟨16, 1, .rw, 0, true, false⟩, ⟨12, 2, .rw, 0, true, false⟩, ⟨8, 2, .rw, 0, true, false⟩, ⟨7, 1, .rw, 0, true, false⟩, ⟨0, 4, .rw, 0, true, false⟩]⟩,
  -- TER_Tn_X0
  ⟨0x41, 8, 8, [⟨0, 16, .rw, 0, true, false⟩]⟩,
  -- TER_Tn_Y0
  ⟨0x42, 8, 8, [⟨0, 32, .rw, 0, true, false⟩]⟩,
  -- TER_Tn_W
  ⟨0x43, 8, 8, [⟨0, 16, .rw, 0, true, false⟩]⟩]

/-- Registers of block TER, part 1. -/
def regsTER_1 : List RegDef := [
  -- TER_Tn_H
  ⟨0x44, 8, 8, [⟨0, 32, .rw, 0, true, false⟩]⟩,
  -- TER_Tn_STRIDE
  ⟨0x45, 8, 8, [⟨0, 24, .rw, 0, true, false⟩]⟩,
  -- TER_Tn_OFFSET
  ⟨0x46, 8, 8, [⟨0, 32, .rw, 0, true, false⟩]⟩]

/-- Every register of block TER. -/
def regsTER : List RegDef := regsTER_0 ++ regsTER_1

/-- Registers of block GRT, part 0. -/
def regsGRT_0 : List RegDef := [
  -- GRT_CTRL
  ⟨0x0, 0, 1, [⟨4, 1, .w1s, 0, true, false⟩, ⟨2, 1, .rw, 1, true, false⟩, ⟨1, 1, .rw, 1, true, false⟩, ⟨0, 1, .rw, 0, true, false⟩]⟩,
  -- GRT_STATUS
  ⟨0x1, 0, 1, [⟨3, 1, .ro, 0, false, false⟩, ⟨2, 1, .ro, 0, false, false⟩, ⟨1, 1, .ro, 0, false, false⟩, ⟨0, 1, .ro, 0, false, false⟩]⟩,
  -- GRT_TBL_ADDR
  ⟨0x2, 0, 1, [⟨28, 4, .rw, 0, true, false⟩, ⟨0, 16, .rw, 0, true, false⟩]⟩,
  -- GRT_TBL_DATA
  ⟨0x3, 0, 1, [⟨0, 32, .rw, 0, true, false⟩]⟩,
  -- GRT_SCRn
  ⟨0x4, 1, 4, [⟨24, 8, .rw, 0, true, false⟩, ⟨16, 8, .rw, 0, true, false⟩, ⟨8, 8, .rw, 0, true, false⟩, ⟨0, 8, .rw, 0, true, false⟩]⟩,
  -- GRT_LEND_LOST
  ⟨0x8, 0, 1, [⟨0, 32, .rc, 0, false, false⟩]⟩,
  -- GRT_DLEND_CLIP
  ⟨0x9, 0, 1, [⟨0, 32, .rc, 0, false, false⟩]⟩,
  -- GRT_DLEND_LOST
  ⟨0xa, 0, 1, [⟨0, 32, .rc, 0, false, false⟩]⟩,
  -- GRT_SAT
  ⟨0xb, 0, 1, [⟨0, 32, .rc, 0, false, false⟩]⟩,
  -- GRT_EVENT
  ⟨0xc, 0, 1, [⟨3, 1, .w1c, 0, false, false⟩, ⟨2, 1, .w1c, 0, false, false⟩, ⟨1, 1, .w1c, 0, false, false⟩, ⟨0, 1, .w1c, 0, false, false⟩]⟩,
  -- GRT_EVENT_EN
  ⟨0xd, 0, 1, [⟨3, 1, .rw, 1, true, false⟩, ⟨2, 1, .rw, 0, true, false⟩, ⟨1, 1, .rw, 1, true, false⟩, ⟨0, 1, .rw, 0, true, false⟩]⟩]

/-- Every register of block GRT. -/
def regsGRT : List RegDef := regsGRT_0

/-- Registers of block ASH, part 0. -/
def regsASH_0 : List RegDef := [
  -- ASH_CTRL
  ⟨0x0, 0, 1, [⟨8, 8, .rw, 0x40, true, false⟩, ⟨1, 1, .wo, 0, false, false⟩, ⟨0, 1, .rw, 1, true, false⟩]⟩,
  -- ASH_WIN
  ⟨0x1, 0, 1, [⟨0, 6, .rw, 0, true, false⟩]⟩,
  -- ASH_UPD_ENTRY
  ⟨0x2, 0, 1, [⟨0, 32, .rw, 0x800000, true, false⟩]⟩,
  -- ASH_UPD_LINE_LO
  ⟨0x3, 0, 1, [⟨0, 32, .rw, 0, true, false⟩]⟩,
  -- ASH_UPD_LINE_HI
  ⟨0x4, 0, 1, [⟨0, 16, .rw, 0, true, false⟩]⟩,
  -- ASH_UPD_PUSH
  ⟨0x5, 0, 1, [⟨0, 16, .wo, 0, true, false⟩]⟩,
  -- ASH_STATUS
  ⟨0x6, 0, 1, [⟨9, 1, .ro, 0, false, false⟩, ⟨0, 9, .ro, 0, false, false⟩]⟩,
  -- ASH_APPLIED_LO
  ⟨0x7, 0, 1, [⟨0, 32, .ro, 0, false, false⟩]⟩,
  -- ASH_APPLIED_HI
  ⟨0x8, 0, 1, [⟨0, 16, .ro, 0, false, false⟩]⟩,
  -- ASH_LATE
  ⟨0x9, 0, 1, [⟨0, 32, .rc, 0, false, false⟩]⟩,
  -- ASH_ORDER
  ⟨0xa, 0, 1, [⟨0, 32, .rc, 0, false, false⟩]⟩,
  -- ASH_OVF
  ⟨0xb, 0, 1, [⟨0, 32, .rc, 0, false, false⟩]⟩,
  -- ASH_BAD
  ⟨0xc, 0, 1, [⟨0, 32, .rc, 0, false, false⟩]⟩,
  -- ASH_APPLIED_CNT
  ⟨0xd, 0, 1, [⟨0, 32, .rc, 0, false, false⟩]⟩,
  -- ASH_EVENT
  ⟨0xe, 0, 1, [⟨3, 1, .w1c, 0, false, false⟩, ⟨2, 1, .w1c, 0, false, false⟩, ⟨1, 1, .w1c, 0, false, false⟩, ⟨0, 1, .w1c, 0, false, false⟩]⟩,
  -- ASH_EVENT_EN
  ⟨0xf, 0, 1, [⟨3, 1, .rw, 1, true, false⟩, ⟨2, 1, .rw, 1, true, false⟩, ⟨1, 1, .rw, 0, true, false⟩, ⟨0, 1, .rw, 1, true, false⟩]⟩]

/-- Every register of block ASH. -/
def regsASH : List RegDef := regsASH_0

/-- Registers of block FBX, part 0. -/
def regsFBX_0 : List RegDef := [
  -- FBX_CTRL
  ⟨0x0, 0, 1, [⟨5, 1, .rwl, 0, true, false⟩, ⟨4, 1, .rwl, 0, true, false⟩, ⟨3, 1, .rw, 0, true, false⟩, ⟨2, 1, .rw, 0, true, false⟩, ⟨1, 1, .wo, 0, false, false⟩, ⟨0, 1, .rw, 0, true, false⟩]⟩,
  -- FBX_STATUS
  ⟨0x1, 0, 1, [⟨16, 8, .ro, 0, false, false⟩, ⟨6, 1, .ro, 0, false, false⟩, ⟨5, 1, .ro, 0, false, false⟩, ⟨4, 1, .ro, 0, false, false⟩, ⟨3, 1, .ro, 0, false, false⟩, ⟨0, 3, .ro, 0, false, false⟩]⟩,
  -- FBX_HEAD
  ⟨0x2, 0, 1, [⟨20, 2, .rwl, 0, true, false⟩, ⟨17, 1, .rwl, 0, true, false⟩, ⟨16, 1, .rwl, 0, true, false⟩, ⟨12, 4, .rwl, 0xf, true, false⟩, ⟨0, 10, .rwl, 0x3ff, true, false⟩]⟩,
  -- FBX_TIMING
  ⟨0x3, 0, 1, [⟨8, 12, .rwl, 0x60, true, false⟩, ⟨0, 8, .rwl, 0x28, true, false⟩]⟩,
  -- FBX_CMAP
  ⟨0x4, 0, 1, [⟨24, 1, .w1s, 0, true, false⟩, ⟨17, 1, .rw, 0, true, false⟩, ⟨16, 1, .rw, 0, true, false⟩, ⟨0, 16, .rw, 0, true, false⟩]⟩,
  -- FBX_CMAP_ACT
  ⟨0x5, 0, 1, [⟨24, 8, .ro, 0, false, false⟩, ⟨23, 1, .ro, 0, false, false⟩, ⟨0, 18, .ro, 0, false, false⟩]⟩,
  -- FBX_OVL_LOw
  ⟨0x6, 1, 4, [⟨0, 32, .rw, 0, true, false⟩]⟩,
  -- FBX_OVL_HIw
  ⟨0xa, 1, 4, [⟨0, 32, .rw, 0, true, false⟩]⟩,
  -- FBX_PHASEm
  ⟨0x10, 1, 4, [⟨31, 1, .rw, 0, true, false⟩, ⟨16, 12, .rw, 0, true, false⟩, ⟨0, 8, .rw, 0, true, true⟩]⟩,
  -- FBX_STBTj
  ⟨0x14, 1, 8, [⟨16, 16, .rw, 0, true, true⟩, ⟨0, 14, .rw, 0x190, true, true⟩]⟩,
  -- FBX_VCAL
  ⟨0x1c, 0, 1, [⟨16, 16, .rw, 0xb40, true, false⟩, ⟨0, 16, .rw, 0x6000, true, true⟩]⟩,
  -- FBX_VLIM
  ⟨0x1d, 0, 1, [⟨16, 16, .rw, 0xa800, true, false⟩, ⟨0, 16, .rw, 0x1400, true, false⟩]⟩,
  -- FBX_TLIM
  ⟨0x1e, 0, 1, [⟨16, 16, .rw, 0x460, true, false⟩, ⟨0, 16, .rw, 0x3c0, true, false⟩]⟩,
  -- FBX_SENSE
  ⟨0x1f, 0, 1, [⟨24, 8, .rw, 0x20, true, false⟩, ⟨16, 4, .rw, 0, true, false⟩, ⟨12, 1, .rw, 0, true, false⟩, ⟨0, 12, .rw, 0x320, true, false⟩]⟩,
  -- FBX_THERMn
  ⟨0x20, 1, 17, [⟨0, 16, .rw, 0, true, false⟩]⟩,
  -- FBX_MEAS
  ⟨0x31, 0, 1, [⟨16, 16, .ro, 0, false, false⟩, ⟨0, 16, .ro, 0, false, false⟩]⟩,
  -- FBX_RAW
  ⟨0x32, 0, 1, [⟨16, 12, .ro, 0, false, false⟩, ⟨0, 12, .ro, 0, false, false⟩]⟩,
  -- FBX_ID
  ⟨0x33, 0, 1, [⟨31, 1, .ro, 0, false, false⟩, ⟨0, 12, .ro, 0, false, false⟩]⟩,
  -- FBX_WIDTH01
  ⟨0x34, 0, 1, [⟨16, 14, .ro, 0, false, false⟩, ⟨0, 14, .ro, 0, false, false⟩]⟩,
  -- FBX_WIDTH23
  ⟨0x35, 0, 1, [⟨0, 14, .ro, 0, false, false⟩, ⟨16, 14, .ro, 0, false, false⟩]⟩,
  -- FBX_HOTPLUG
  ⟨0x36, 0, 1, [⟨8, 8, .rw, 0x14, true, false⟩, ⟨0, 8, .rw, 0x32, true, false⟩]⟩,
  -- FBX_EVENT
  ⟨0x37, 0, 1, [⟨11, 1, .w1c, 0, false, false⟩, ⟨10, 1, .w1c, 0, false, false⟩, ⟨9, 1, .w1c, 0, false, false⟩, ⟨8, 1, .w1c, 0, false, false⟩, ⟨7, 1, .w1c, 0, false, false⟩, ⟨6, 1, .w1c, 0, false, false⟩, ⟨5, 1, .w1c, 0, false, false⟩, ⟨4, 1, .w1c, 0, false, false⟩, ⟨3, 1, .w1c, 0, false, false⟩, ⟨2, 1, .w1c, 0, false, false⟩, ⟨1, 1, .w1c, 0, false, false⟩, ⟨0, 1, .w1c, 0, false, false⟩]⟩,
  -- FBX_EVENT_EN
  ⟨0x38, 0, 1, [⟨11, 1, .rw, 1, true, false⟩, ⟨10, 1, .rw, 1, true, false⟩, ⟨9, 1, .rw, 0, true, false⟩, ⟨8, 1, .rw, 0, true, false⟩, ⟨7, 1, .rw, 1, true, false⟩, ⟨6, 1, .rw, 1, true, false⟩, ⟨5, 1, .rw, 1, true, false⟩, ⟨4, 1, .rw, 1, true, false⟩, ⟨3, 1, .rw, 1, true, false⟩, ⟨2, 1, .rw, 1, true, false⟩, ⟨1, 1, .rw, 1, true, false⟩, ⟨0, 1, .rw, 1, true, false⟩]⟩,
  -- FBX_CEIL_CNT
  ⟨0x39, 0, 1, [⟨0, 32, .rc, 0, false, false⟩]⟩]

/-- Registers of block FBX, part 1. -/
def regsFBX_1 : List RegDef := [
  -- FBX_STOP_LINES
  ⟨0x3a, 0, 1, [⟨0, 32, .rc, 0, false, false⟩]⟩,
  -- FBX_VLIM_LINES
  ⟨0x3b, 0, 1, [⟨0, 32, .rc, 0, false, false⟩]⟩,
  -- FBX_UNDERRUN
  ⟨0x3c, 0, 1, [⟨0, 32, .rc, 0, false, false⟩]⟩,
  -- FBX_STB_TRUNC
  ⟨0x3d, 0, 1, [⟨0, 32, .rc, 0, false, false⟩]⟩]

/-- Every register of block FBX. -/
def regsFBX : List RegDef := regsFBX_0 ++ regsFBX_1

/-- Registers of block DRT, part 0. -/
def regsDRT_0 : List RegDef := [
  -- DRT_CTRL
  ⟨0x0, 0, 1, [⟨25, 1, .wo, 0, false, false⟩, ⟨24, 1, .w1s, 0, false, false⟩, ⟨16, 3, .rw, 2, true, false⟩, ⟨12, 3, .rw, 3, true, false⟩, ⟨8, 3, .rwl, 0, true, false⟩, ⟨6, 1, .rwl, 0, true, false⟩, ⟨4, 2, .rwl, 0, true, false⟩, ⟨0, 1, .rw, 0, true, false⟩]⟩,
  -- DRT_RATIO_N
  ⟨0x1, 0, 1, [⟨0, 24, .rwl, 1, true, false⟩]⟩,
  -- DRT_RATIO_M
  ⟨0x2, 0, 1, [⟨0, 24, .rwl, 1, true, false⟩]⟩,
  -- DRT_START
  ⟨0x3, 0, 1, [⟨0, 32, .rw, 0, false, false⟩]⟩,
  -- DRT_START_FRAC
  ⟨0x4, 0, 1, [⟨0, 16, .rw, 0, false, false⟩]⟩,
  -- DRT_INT_PERIOD
  ⟨0x5, 0, 1, [⟨0, 16, .rw, 0x640, true, false⟩]⟩,
  -- DRT_STATUS
  ⟨0x6, 0, 1, [⟨14, 1, .ro, 0, false, false⟩, ⟨8, 6, .ro, 0, false, false⟩, ⟨4, 1, .ro, 0, false, false⟩, ⟨3, 1, .ro, 0, false, false⟩, ⟨0, 3, .ro, 0, false, false⟩]⟩,
  -- DRT_OMEGA
  ⟨0x7, 0, 1, [⟨0, 32, .ro, 0, false, false⟩]⟩,
  -- DRT_PHERR
  ⟨0x8, 0, 1, [⟨0, 32, .ro, 0, false, false⟩]⟩,
  -- DRT_COUNT
  ⟨0x9, 0, 1, [⟨0, 32, .ro, 0, false, false⟩]⟩,
  -- DRT_LOCK_CFG
  ⟨0xa, 0, 1, [⟨0, 16, .rw, 0x1000, true, false⟩]⟩,
  -- DRT_SCAN
  ⟨0xb, 0, 1, [⟨16, 6, .rw, 0, true, false⟩, ⟨8, 6, .rw, 0, true, false⟩, ⟨3, 1, .rw, 1, true, false⟩, ⟨0, 3, .rw, 0, true, false⟩]⟩,
  -- DRT_EVENT
  ⟨0xc, 0, 1, [⟨10, 1, .w1c, 0, false, false⟩, ⟨9, 1, .w1c, 0, false, false⟩, ⟨8, 1, .w1c, 0, false, false⟩, ⟨7, 1, .w1c, 0, false, false⟩, ⟨6, 1, .w1c, 0, false, false⟩, ⟨5, 1, .w1c, 0, false, false⟩, ⟨4, 1, .w1c, 0, false, false⟩, ⟨3, 1, .w1c, 0, false, false⟩, ⟨2, 1, .w1c, 0, false, false⟩, ⟨1, 1, .w1c, 0, false, false⟩, ⟨0, 1, .w1c, 0, false, false⟩]⟩,
  -- DRT_EVENT_EN
  ⟨0xd, 0, 1, [⟨10, 1, .rw, 1, true, false⟩, ⟨9, 1, .rw, 0, true, false⟩, ⟨8, 1, .rw, 1, true, false⟩, ⟨7, 1, .rw, 1, true, false⟩, ⟨6, 1, .rw, 1, true, false⟩, ⟨5, 1, .rw, 0, true, false⟩, ⟨4, 1, .rw, 1, true, false⟩, ⟨3, 1, .rw, 1, true, false⟩, ⟨2, 1, .rw, 0, true, false⟩, ⟨1, 1, .rw, 1, true, false⟩, ⟨0, 1, .rw, 0, true, false⟩]⟩,
  -- DRT_REV_CNT
  ⟨0xe, 0, 1, [⟨0, 32, .rc, 0, false, false⟩]⟩,
  -- DRT_JITTER
  ⟨0xf, 0, 1, [⟨0, 32, .rc, 0, false, false⟩]⟩,
  -- DRT_OVERSPEED
  ⟨0x10, 0, 1, [⟨0, 32, .rc, 0, false, false⟩]⟩,
  -- DRT_DEFECT_PAGE
  ⟨0x11, 0, 1, [⟨0, 32, .ro, 0xffffffff, false, false⟩]⟩,
  -- DRT_DEFECT_WHY
  ⟨0x12, 0, 1, [⟨8, 4, .ro, 0, false, false⟩, ⟨0, 8, .ro, 0, false, false⟩]⟩,
  -- DRT_PASSn_START
  ⟨0x40, 4, 64, [⟨0, 32, .rw, 0, true, false⟩]⟩,
  -- DRT_PASSn_CTRL
  ⟨0x41, 4, 64, [⟨31, 1, .rw, 0, true, false⟩, ⟨30, 1, .rw, 0, true, false⟩, ⟨24, 5, .rw, 0, true, false⟩, ⟨0, 16, .rw, 0, true, false⟩]⟩,
  -- DRT_PASSn_FEED
  ⟨0x42, 4, 64, [⟨0, 24, .rw, 0, true, false⟩]⟩,
  -- DRT_PASSn_MASK
  ⟨0x43, 4, 64, [⟨0, 32, .rw, 0xffffffff, true, false⟩]⟩]

/-- Every register of block DRT. -/
def regsDRT : List RegDef := regsDRT_0

/-- Registers of block DMP, part 0. -/
def regsDMP_0 : List RegDef := [
  -- DMP_CTRL
  ⟨0x0, 0, 1, [⟨1, 1, .rw, 0, true, false⟩, ⟨0, 1, .rw, 1, true, false⟩]⟩,
  -- DMP_NOZ
  ⟨0x1, 0, 1, [⟨0, 9, .rw, 0x100, true, true⟩]⟩,
  -- DMP_WIN
  ⟨0x2, 0, 1, [⟨0, 7, .rw, 0xa, true, true⟩]⟩,
  -- DMP_STATUS
  ⟨0x3, 0, 1, [⟨0, 12, .ro, 0, false, false⟩]⟩,
  -- DMP_NOZ_SUP
  ⟨0x4, 0, 1, [⟨0, 32, .rc, 0, false, false⟩]⟩,
  -- DMP_HEAD_SUP
  ⟨0x5, 0, 1, [⟨0, 32, .rc, 0, false, false⟩]⟩,
  -- DMP_EVENT
  ⟨0x6, 0, 1, [⟨1, 1, .w1c, 0, false, false⟩, ⟨0, 1, .w1c, 0, false, false⟩]⟩,
  -- DMP_EVENT_EN
  ⟨0x7, 0, 1, [⟨1, 1, .rw, 1, true, false⟩, ⟨0, 1, .rw, 0, true, false⟩]⟩,
  -- DMP_BUDGETp
  ⟨0x10, 2, 12, [⟨0, 32, .rw, 0xffffffff, true, true⟩]⟩,
  -- DMP_ELp
  ⟨0x11, 2, 12, [⟨16, 8, .rw, 4, true, true⟩, ⟨8, 8, .rw, 2, true, true⟩, ⟨0, 8, .rw, 1, true, true⟩]⟩]

/-- Every register of block DMP. -/
def regsDMP : List RegDef := regsDMP_0

/-- Registers of block FND, part 0. -/
def regsFND_0 : List RegDef := [
  -- FND_CTRL
  ⟨0x0, 0, 1, [⟨16, 8, .rw, 0x28, true, false⟩, ⟨8, 8, .rw, 0, true, false⟩, ⟨0, 8, .rw, 0xf, true, false⟩]⟩,
  -- FND_STATUS
  ⟨0x1, 0, 1, [⟨8, 8, .ro, 0, false, false⟩, ⟨0, 8, .ro, 0, false, false⟩]⟩,
  -- FND_LATCHED
  ⟨0x2, 0, 1, [⟨0, 8, .w1c, 0, false, false⟩]⟩,
  -- FND_EVENT
  ⟨0x3, 0, 1, [⟨8, 8, .w1c, 0, false, false⟩, ⟨0, 8, .w1c, 0, false, false⟩]⟩,
  -- FND_EVENT_EN
  ⟨0x4, 0, 1, [⟨8, 8, .rw, 0, true, false⟩, ⟨0, 8, .rw, 0xff, true, false⟩]⟩,
  -- FND_GATED_LINES
  ⟨0x5, 0, 1, [⟨0, 32, .rc, 0, false, false⟩]⟩]

/-- Every register of block FND. -/
def regsFND : List RegDef := regsFND_0

/-- Registers of block CAM, part 0. -/
def regsCAM_0 : List RegDef := [
  -- CAM_CTRL
  ⟨0x0, 0, 1, [⟨12, 4, .rwl, 0, true, false⟩, ⟨10, 1, .rwl, 0, true, false⟩, ⟨8, 2, .rwl, 2, true, false⟩, ⟨1, 1, .wo, 0, false, false⟩, ⟨0, 1, .rw, 0, true, false⟩]⟩,
  -- CAM_STATUS
  ⟨0x1, 0, 1, [⟨24, 8, .ro, 0, false, false⟩, ⟨16, 8, .ro, 0, false, false⟩, ⟨0, 3, .ro, 0, false, false⟩]⟩,
  -- CAM_GEOM
  ⟨0x2, 0, 1, [⟨16, 9, .rwl, 0x40, true, false⟩, ⟨0, 14, .rwl, 0x1800, true, false⟩]⟩,
  -- CAM_TRIG
  ⟨0x3, 0, 1, [⟨24, 8, .rw, 0xa, true, false⟩, ⟨4, 4, .rw, 0, true, false⟩, ⟨0, 2, .rw, 0, true, false⟩]⟩,
  -- CAM_TRIG_STEP
  ⟨0x4, 0, 1, [⟨0, 32, .rw, 0, true, false⟩]⟩,
  -- CAM_PITCH
  ⟨0x5, 0, 1, [⟨0, 24, .rw, 0x10000, true, false⟩]⟩,
  -- CAM_ORIGIN
  ⟨0x6, 0, 1, [⟨0, 32, .rw, 0, false, false⟩]⟩,
  -- CAM_ORIGIN_FRAC
  ⟨0x7, 0, 1, [⟨0, 16, .rw, 0, false, false⟩]⟩,
  -- CAM_COL0
  ⟨0x8, 0, 1, [⟨0, 16, .rw, 0, true, false⟩]⟩,
  -- CAM_SCALE
  ⟨0x9, 0, 1, [⟨0, 20, .rw, 0x20000, true, false⟩]⟩,
  -- CAM_FSTAT
  ⟨0xa, 0, 1, [⟨28, 1, .ro, 0, false, false⟩, ⟨27, 1, .ro, 0, false, false⟩, ⟨26, 1, .ro, 0, false, false⟩, ⟨25, 1, .ro, 0, false, false⟩, ⟨0, 9, .ro, 0, false, false⟩]⟩,
  -- CAM_FNUM
  ⟨0xb, 0, 1, [⟨0, 32, .ro, 0, false, false⟩]⟩,
  -- CAM_I2C
  ⟨0xc, 0, 1, [⟨1, 2, .rw, 1, true, false⟩, ⟨0, 1, .rw, 0, true, false⟩]⟩,
  -- CAM_EVENT
  ⟨0xd, 0, 1, [⟨7, 1, .w1c, 0, false, false⟩, ⟨6, 1, .w1c, 0, false, false⟩, ⟨5, 1, .w1c, 0, false, false⟩, ⟨4, 1, .w1c, 0, false, false⟩, ⟨3, 1, .w1c, 0, false, false⟩, ⟨2, 1, .w1c, 0, false, false⟩, ⟨1, 1, .w1c, 0, false, false⟩, ⟨0, 1, .w1c, 0, false, false⟩]⟩,
  -- CAM_EVENT_EN
  ⟨0xe, 0, 1, [⟨7, 1, .rw, 1, true, false⟩, ⟨6, 1, .rw, 0, true, false⟩, ⟨5, 1, .rw, 0, true, false⟩, ⟨4, 1, .rw, 1, true, false⟩, ⟨3, 1, .rw, 1, true, false⟩, ⟨2, 1, .rw, 0, true, false⟩, ⟨1, 1, .rw, 1, true, false⟩, ⟨0, 1, .rw, 1, true, false⟩]⟩,
  -- CAM_FRAMES
  ⟨0xf, 0, 1, [⟨0, 32, .rc, 0, false, false⟩]⟩,
  -- CAM_SHORT
  ⟨0x10, 0, 1, [⟨0, 32, .rc, 0, false, false⟩]⟩,
  -- CAM_LONG_LINES
  ⟨0x11, 0, 1, [⟨0, 32, .rc, 0, false, false⟩]⟩,
  -- CAM_DROPPED
  ⟨0x12, 0, 1, [⟨0, 32, .rc, 0, false, false⟩]⟩,
  -- CAM_LINE_ERR
  ⟨0x13, 0, 1, [⟨0, 32, .rc, 0, false, false⟩]⟩,
  -- CAM_ECC_CORR
  ⟨0x14, 0, 1, [⟨0, 32, .rc, 0, false, false⟩]⟩,
  -- CAM_CORRn
  ⟨0x40, 1, 129, [⟨0, 16, .rw, 0, true, false⟩]⟩]

/-- Every register of block CAM. -/
def regsCAM : List RegDef := regsCAM_0

/-- Registers of block ISP, part 0. -/
def regsISP_0 : List RegDef := [
  -- ISP_CTRL
  ⟨0x0, 0, 1, [⟨20, 3, .rwl, 1, true, false⟩, ⟨18, 2, .rwl, 0, true, false⟩, ⟨16, 2, .rwl, 0, true, false⟩, ⟨14, 2, .rw, 1, true, false⟩, ⟨12, 2, .rw, 1, true, false⟩, ⟨8, 1, .rw, 0, true, false⟩, ⟨4, 1, .rw, 1, true, false⟩, ⟨3, 1, .rw, 0, true, false⟩, ⟨2, 1, .rw, 0, true, false⟩, ⟨1, 1, .wo, 0, false, false⟩, ⟨0, 1, .rw, 0, true, false⟩]⟩,
  -- ISP_STATUS
  ⟨0x1, 0, 1, [⟨24, 8, .ro, 0, false, false⟩, ⟨16, 8, .ro, 0, false, false⟩, ⟨0, 2, .ro, 0, false, false⟩]⟩,
  -- ISP_SNR
  ⟨0x2, 0, 1, [⟨0, 12, .rw, 0x40, true, false⟩]⟩,
  -- ISP_DM
  ⟨0x3, 0, 1, [⟨16, 8, .rw, 0, true, false⟩, ⟨8, 8, .rw, 0, true, false⟩, ⟨0, 8, .rw, 0, true, false⟩]⟩,
  -- ISP_ECHO_BASE_LO
  ⟨0x4, 0, 1, [⟨0, 32, .rwl, 0, true, false⟩]⟩,
  -- ISP_ECHO_BASE_HI
  ⟨0x5, 0, 1, [⟨0, 32, .rwl, 0, true, false⟩]⟩,
  -- ISP_ECHO_SIZE_LO
  ⟨0x6, 0, 1, [⟨0, 32, .rwl, 0, true, false⟩]⟩,
  -- ISP_ECHO_SIZE_HI
  ⟨0x7, 0, 1, [⟨0, 32, .rwl, 0, true, false⟩]⟩,
  -- ISP_META_BASE_LO
  ⟨0x8, 0, 1, [⟨0, 32, .rwl, 0, true, false⟩]⟩,
  -- ISP_META_BASE_HI
  ⟨0x9, 0, 1, [⟨0, 32, .rwl, 0, true, false⟩]⟩,
  -- ISP_STAT_BASE_LO
  ⟨0xa, 0, 1, [⟨0, 32, .rwl, 0, true, false⟩]⟩,
  -- ISP_STAT_BASE_HI
  ⟨0xb, 0, 1, [⟨0, 32, .rwl, 0, true, false⟩]⟩,
  -- ISP_STAT_CFG
  ⟨0xc, 0, 1, [⟨0, 16, .rwl, 0x10, true, false⟩]⟩,
  -- ISP_DLUT_ADDR
  ⟨0xd, 0, 1, [⟨0, 12, .rw, 0, true, false⟩]⟩,
  -- ISP_DLUT_DATA
  ⟨0xe, 0, 1, [⟨0, 16, .rw, 0, true, false⟩]⟩,
  -- ISP_BASE01
  ⟨0xf, 0, 1, [⟨16, 16, .rw, 0, true, false⟩, ⟨0, 16, .rw, 0, true, false⟩]⟩,
  -- ISP_BASE23
  ⟨0x10, 0, 1, [⟨16, 16, .rw, 0, true, false⟩, ⟨0, 16, .rw, 0, true, false⟩]⟩,
  -- ISP_WIN
  ⟨0x11, 0, 1, [⟨20, 4, .rw, 2, true, false⟩, ⟨0, 16, .rw, 0x40, true, false⟩]⟩,
  -- ISP_THR
  ⟨0x12, 0, 1, [⟨16, 16, .rw, 0x266, true, false⟩, ⟨0, 16, .rw, 0xf6, true, false⟩]⟩,
  -- ISP_VERDICT
  ⟨0x13, 0, 1, [⟨16, 16, .rw, 0x20, true, false⟩, ⟨8, 8, .rw, 0x80, true, false⟩, ⟨0, 8, .rw, 0x10, true, false⟩]⟩,
  -- ISP_CLOSE
  ⟨0x14, 0, 1, [⟨16, 16, .rw, 0x7d0, true, false⟩, ⟨0, 16, .rw, 0x400, true, false⟩]⟩,
  -- ISP_GEOM
  ⟨0x15, 0, 1, [⟨0, 4, .rw, 4, true, false⟩]⟩,
  -- ISP_COLh
  ⟨0x20, 4, 8, [⟨31, 1, .rw, 0, true, false⟩, ⟨24, 2, .rw, 0, true, false⟩, ⟨0, 16, .rw, 0, true, false⟩]⟩,
  -- ISP_VOLh
  ⟨0x21, 4, 8, [⟨24, 8, .rw, 0x10, true, false⟩, ⟨16, 8, .rw, 0xff, true, false⟩, ⟨8, 8, .rw, 0xaa, true, false⟩, ⟨0, 8, .rw, 0x55, true, false⟩]⟩]

/-- Registers of block ISP, part 1. -/
def regsISP_1 : List RegDef := [
  -- ISP_ABSh
  ⟨0x22, 4, 8, [⟨24, 8, .rw, 0, true, false⟩, ⟨16, 8, .rw, 0, true, false⟩, ⟨8, 8, .rw, 0, true, false⟩, ⟨0, 8, .rw, 0, true, false⟩]⟩,
  -- ISP_KERNh
  ⟨0x23, 4, 8, [⟨8, 8, .rw, 0x20, true, false⟩, ⟨0, 8, .rw, 0x80, true, false⟩]⟩,
  -- ISP_EVENT
  ⟨0x40, 0, 1, [⟨7, 1, .w1c, 0, false, false⟩, ⟨6, 1, .w1c, 0, false, false⟩, ⟨5, 1, .w1c, 0, false, false⟩, ⟨4, 1, .w1c, 0, false, false⟩, ⟨3, 1, .w1c, 0, false, false⟩, ⟨2, 1, .w1c, 0, false, false⟩, ⟨1, 1, .w1c, 0, false, false⟩, ⟨0, 1, .w1c, 0, false, false⟩]⟩,
  -- ISP_EVENT_EN
  ⟨0x41, 0, 1, [⟨7, 1, .rw, 1, true, false⟩, ⟨6, 1, .rw, 1, true, false⟩, ⟨5, 1, .rw, 1, true, false⟩, ⟨4, 1, .rw, 1, true, false⟩, ⟨3, 1, .rw, 1, true, false⟩, ⟨2, 1, .rw, 0, true, false⟩, ⟨1, 1, .rw, 1, true, false⟩, ⟨0, 1, .rw, 0, true, false⟩]⟩,
  -- ISP_ROWS
  ⟨0x42, 0, 1, [⟨0, 32, .rc, 0, false, false⟩]⟩,
  -- ISP_ECHO_MISS
  ⟨0x43, 0, 1, [⟨0, 32, .rc, 0, false, false⟩]⟩,
  -- ISP_VERDICT_TX
  ⟨0x44, 0, 1, [⟨0, 32, .rc, 0, false, false⟩]⟩,
  -- ISP_APPLIED
  ⟨0x45, 0, 1, [⟨0, 32, .rc, 0, false, false⟩]⟩,
  -- ISP_SKIP
  ⟨0x46, 0, 1, [⟨0, 32, .rc, 0, false, false⟩]⟩,
  -- ISP_LATE
  ⟨0x47, 0, 1, [⟨0, 32, .rc, 0, false, false⟩]⟩,
  -- ISP_EXCESS
  ⟨0x48, 0, 1, [⟨0, 32, .rc, 0, false, false⟩]⟩,
  -- ISP_OUT_OVR
  ⟨0x49, 0, 1, [⟨0, 32, .rc, 0, false, false⟩]⟩,
  -- ISP_LAST_VERDICT
  ⟨0x4a, 0, 1, [⟨30, 2, .ro, 0, false, false⟩, ⟨27, 3, .ro, 0, false, false⟩, ⟨0, 16, .ro, 0, false, false⟩]⟩,
  -- ISP_OUTn_CTRL
  ⟨0x80, 8, 4, [⟨31, 1, .rw, 0, true, false⟩, ⟨24, 4, .rw, 0xf, true, false⟩, ⟨20, 2, .rw, 0, true, false⟩, ⟨16, 2, .rw, 0, true, false⟩, ⟨8, 2, .rw, 3, true, false⟩, ⟨0, 1, .rw, 0, true, false⟩]⟩,
  -- ISP_OUTn_X0
  ⟨0x81, 8, 4, [⟨0, 14, .rw, 0, true, false⟩]⟩,
  -- ISP_OUTn_W
  ⟨0x82, 8, 4, [⟨16, 9, .rw, 0x40, true, false⟩, ⟨0, 14, .rw, 0x1800, true, false⟩]⟩,
  -- ISP_OUTn_BASE_LO
  ⟨0x83, 8, 4, [⟨0, 32, .rwl, 0, true, false⟩]⟩,
  -- ISP_OUTn_BASE_HI
  ⟨0x84, 8, 4, [⟨0, 32, .rwl, 0, true, false⟩]⟩,
  -- ISP_OUTn_SIZE
  ⟨0x85, 8, 4, [⟨0, 32, .rwl, 0, true, false⟩]⟩,
  -- ISP_OUTn_WP
  ⟨0x86, 8, 4, [⟨0, 32, .ro, 0, false, false⟩]⟩,
  -- ISP_OUTn_RP
  ⟨0x87, 8, 4, [⟨0, 32, .rw, 0, false, false⟩]⟩]

/-- Every register of block ISP. -/
def regsISP : List RegDef := regsISP_0 ++ regsISP_1

/-- Registers of block FBK, part 0. -/
def regsFBK_0 : List RegDef := [
  -- FBK_QCTRL
  ⟨0x0, 0, 1, [⟨3, 1, .rw, 1, true, false⟩, ⟨2, 1, .rw, 1, true, false⟩, ⟨1, 1, .wo, 0, false, false⟩, ⟨0, 1, .rw, 0, true, false⟩]⟩,
  -- FBK_QCFG
  ⟨0x1, 0, 1, [⟨24, 8, .rwl, 0x32, true, false⟩, ⟨16, 8, .rw, 0x10, true, false⟩, ⟨8, 8, .rw, 0xa, true, false⟩, ⟨0, 7, .rwl, 4, true, false⟩]⟩,
  -- FBK_COUNT
  ⟨0x2, 0, 1, [⟨0, 32, .ro, 0, false, false⟩]⟩,
  -- FBK_IDX_CFG
  ⟨0x3, 0, 1, [⟨28, 4, .rw, 2, true, false⟩, ⟨0, 24, .rw, 0, true, false⟩]⟩,
  -- FBK_IDX_REF
  ⟨0x4, 0, 1, [⟨0, 32, .rw, 0, true, false⟩]⟩,
  -- FBK_IDX_LAST
  ⟨0x5, 0, 1, [⟨0, 32, .ro, 0, false, false⟩]⟩,
  -- FBK_IDX_DEV
  ⟨0x6, 0, 1, [⟨0, 32, .ro, 0, false, false⟩]⟩,
  -- FBK_SPD_WIN
  ⟨0x7, 0, 1, [⟨0, 17, .rw, 0x3e8, true, false⟩]⟩,
  -- FBK_SPEED
  ⟨0x8, 0, 1, [⟨0, 32, .ro, 0, false, false⟩]⟩,
  -- FBK_SPD_SEQ
  ⟨0x9, 0, 1, [⟨0, 32, .ro, 0, false, false⟩]⟩,
  -- FBK_STATUS
  ⟨0xa, 0, 1, [⟨16, 7, .ro, 0x40, false, false⟩, ⟨8, 7, .ro, 0, false, false⟩, ⟨4, 1, .ro, 0, false, false⟩, ⟨1, 3, .ro, 0, false, false⟩, ⟨0, 1, .ro, 0, false, false⟩]⟩,
  -- FBK_ILLEGAL
  ⟨0xd, 0, 1, [⟨0, 32, .rc, 0, false, false⟩]⟩,
  -- FBK_IDX_CORR
  ⟨0xe, 0, 1, [⟨0, 32, .rc, 0, false, false⟩]⟩,
  -- FBK_IDX_BAD
  ⟨0xf, 0, 1, [⟨0, 32, .rc, 0, false, false⟩]⟩,
  -- FBK_WIRE
  ⟨0x10, 0, 1, [⟨0, 32, .rc, 0, false, false⟩]⟩,
  -- FBK_QEVENT
  ⟨0xb, 0, 1, [⟨6, 1, .w1c, 0, false, false⟩, ⟨5, 1, .w1c, 0, false, false⟩, ⟨4, 1, .w1c, 0, false, false⟩, ⟨3, 1, .w1c, 0, false, false⟩, ⟨2, 1, .w1c, 0, false, false⟩, ⟨1, 1, .w1c, 0, false, false⟩, ⟨0, 1, .w1c, 0, false, false⟩]⟩,
  -- FBK_QEVENT_EN
  ⟨0xc, 0, 1, [⟨6, 1, .rw, 1, true, false⟩, ⟨5, 1, .rw, 1, true, false⟩, ⟨4, 1, .rw, 1, true, false⟩, ⟨3, 1, .rw, 1, true, false⟩, ⟨2, 1, .rw, 0, true, false⟩, ⟨1, 1, .rw, 0, true, false⟩, ⟨0, 1, .rw, 1, true, false⟩]⟩,
  -- FBK_HCTRL
  ⟨0x20, 0, 1, [⟨4, 2, .rw, 0, true, false⟩, ⟨2, 1, .rw, 0, true, false⟩, ⟨1, 1, .rw, 0, true, false⟩, ⟨0, 1, .rw, 0, true, false⟩]⟩,
  -- FBK_HCFG
  ⟨0x21, 0, 1, [⟨24, 8, .rw, 3, true, false⟩, ⟨16, 8, .rwl, 0x64, true, false⟩, ⟨0, 16, .rw, 0x40, true, false⟩]⟩,
  -- FBK_HRATIO
  ⟨0x22, 0, 1, [⟨0, 32, .rw, 0x10000, true, false⟩]⟩,
  -- FBK_HCOUNT
  ⟨0x23, 0, 1, [⟨0, 32, .ro, 0, false, false⟩]⟩,
  -- FBK_HSTATUS
  ⟨0x24, 0, 1, [⟨16, 1, .ro, 0, false, false⟩, ⟨8, 8, .ro, 0, false, false⟩, ⟨3, 1, .ro, 0, false, false⟩, ⟨0, 3, .ro, 0, false, false⟩]⟩,
  -- FBK_HALL_BAD
  ⟨0x27, 0, 1, [⟨0, 32, .rc, 0, false, false⟩]⟩,
  -- FBK_HALL_SKIP
  ⟨0x28, 0, 1, [⟨0, 32, .rc, 0, false, false⟩]⟩]

/-- Registers of block FBK, part 1. -/
def regsFBK_1 : List RegDef := [
  -- FBK_PLAUS_CNT
  ⟨0x29, 0, 1, [⟨0, 32, .rc, 0, false, false⟩]⟩,
  -- FBK_SCTRL
  ⟨0x40, 0, 1, [⟨4, 4, .rw, 0, true, false⟩, ⟨2, 1, .rw, 0, true, false⟩, ⟨1, 1, .rwl, 0, true, false⟩, ⟨0, 1, .rw, 0, true, false⟩]⟩,
  -- FBK_SCFG
  ⟨0x41, 0, 1, [⟨16, 16, .rwl, 0x32, true, false⟩, ⟨8, 6, .rwl, 0x19, true, false⟩, ⟨0, 8, .rwl, 0, true, false⟩]⟩,
  -- FBK_STIME
  ⟨0x42, 0, 1, [⟨16, 16, .rw, 0x14, true, false⟩, ⟨0, 16, .rw, 0x64, true, false⟩]⟩,
  -- FBK_SSI_POS
  ⟨0x43, 0, 1, [⟨0, 32, .ro, 0, false, false⟩]⟩,
  -- FBK_SSI_SEQ
  ⟨0x44, 0, 1, [⟨0, 32, .ro, 0, false, false⟩]⟩,
  -- FBK_SSI_BUSY
  ⟨0x47, 0, 1, [⟨0, 32, .rc, 0, false, false⟩]⟩,
  -- FBK_HEVENT
  ⟨0x25, 0, 1, [⟨2, 1, .w1c, 0, false, false⟩, ⟨1, 1, .w1c, 0, false, false⟩, ⟨0, 1, .w1c, 0, false, false⟩]⟩,
  -- FBK_HEVENT_EN
  ⟨0x26, 0, 1, [⟨2, 1, .rw, 1, true, false⟩, ⟨1, 1, .rw, 0, true, false⟩, ⟨0, 1, .rw, 1, true, false⟩]⟩,
  -- FBK_SEVENT
  ⟨0x45, 0, 1, [⟨1, 1, .w1c, 0, false, false⟩, ⟨0, 1, .w1c, 0, false, false⟩]⟩,
  -- FBK_SEVENT_EN
  ⟨0x46, 0, 1, [⟨1, 1, .rw, 1, true, false⟩, ⟨0, 1, .rw, 1, true, false⟩]⟩]

/-- Every register of block FBK. -/
def regsFBK : List RegDef := regsFBK_0 ++ regsFBK_1

/-- Registers of block MOT, part 0. -/
def regsMOT_0 : List RegDef := [
  -- MOT_CTRL
  ⟨0x0, 0, 1, [⟨16, 8, .rw, 0x64, true, false⟩, ⟨4, 1, .wo, 0, false, false⟩, ⟨3, 1, .wo, 0, false, false⟩, ⟨2, 1, .wo, 0, false, false⟩, ⟨1, 1, .wo, 0, false, false⟩, ⟨0, 1, .rw, 0, true, false⟩]⟩,
  -- MOT_STATUS
  ⟨0x1, 0, 1, [⟨24, 8, .ro, 0, false, false⟩, ⟨16, 5, .ro, 0, false, false⟩, ⟨12, 3, .ro, 0, false, false⟩, ⟨11, 1, .ro, 0, false, false⟩, ⟨10, 1, .ro, 0, false, false⟩, ⟨9, 1, .ro, 0, false, false⟩, ⟨0, 3, .ro, 0, false, false⟩]⟩,
  -- MOT_CFG
  ⟨0x2, 0, 1, [⟨16, 8, .rwl, 0xa, true, false⟩, ⟨8, 8, .rwl, 0xa, true, false⟩, ⟨6, 1, .rwl, 0, true, false⟩, ⟨5, 1, .rwl, 0, true, false⟩, ⟨4, 1, .rwl, 0, true, false⟩, ⟨1, 3, .rwl, 0, true, false⟩, ⟨0, 1, .rwl, 0, true, false⟩]⟩,
  -- MOT_ACC
  ⟨0x3, 0, 1, [⟨0, 32, .rw, 0x10000, true, false⟩]⟩,
  -- MOT_DEC
  ⟨0x4, 0, 1, [⟨0, 32, .rw, 0x10000, true, false⟩]⟩,
  -- MOT_POS
  ⟨0x5, 0, 1, [⟨0, 32, .rwl, 0, false, false⟩]⟩,
  -- MOT_VEL
  ⟨0x6, 0, 1, [⟨0, 32, .ro, 0, false, false⟩]⟩,
  -- MOT_Q_TARGET
  ⟨0x7, 0, 1, [⟨0, 32, .rw, 0, false, false⟩]⟩,
  -- MOT_Q_VMAX
  ⟨0x8, 0, 1, [⟨0, 32, .rw, 0, false, false⟩]⟩,
  -- MOT_Q_PUSH
  ⟨0x9, 0, 1, [⟨1, 1, .wo, 0, false, false⟩, ⟨0, 1, .wo, 0, false, false⟩]⟩,
  -- MOT_RESTHRn
  ⟨0xa, 1, 4, [⟨0, 32, .rw, 0, true, false⟩]⟩,
  -- MOT_RES_HYST
  ⟨0xe, 0, 1, [⟨0, 32, .rw, 0x218def, true, false⟩]⟩,
  -- MOT_MODE_THR
  ⟨0xf, 0, 1, [⟨0, 32, .rw, 0x53e2d62, true, false⟩]⟩,
  -- MOT_MODE_HYST
  ⟨0x10, 0, 1, [⟨0, 32, .rw, 0x8637bd, true, false⟩]⟩,
  -- MOT_CUR
  ⟨0x11, 0, 1, [⟨16, 11, .rw, 0x200, true, false⟩, ⟨0, 11, .rw, 0x400, true, false⟩]⟩,
  -- MOT_IDLE
  ⟨0x12, 0, 1, [⟨24, 2, .rw, 0, true, false⟩, ⟨16, 8, .rw, 2, true, false⟩, ⟨0, 16, .rw, 0x1f4, true, false⟩]⟩,
  -- MOT_SW
  ⟨0x13, 0, 1, [⟨16, 16, .rw, 0x64, true, false⟩, ⟨0, 16, .rw, 0xa, true, false⟩]⟩,
  -- MOT_HOME
  ⟨0x14, 0, 1, [⟨0, 1, .rw, 0, true, false⟩]⟩,
  -- MOT_HOME_V
  ⟨0x15, 0, 1, [⟨0, 32, .rw, 0, true, false⟩]⟩,
  -- MOT_HOME_POS
  ⟨0x16, 0, 1, [⟨0, 32, .rw, 0, true, false⟩]⟩,
  -- MOT_LATCH
  ⟨0x17, 0, 1, [⟨0, 32, .ro, 0, false, false⟩]⟩,
  -- MOT_FEED_V
  ⟨0x18, 0, 1, [⟨0, 32, .rw, 0, true, false⟩]⟩,
  -- MOT_Q_REFUSED
  ⟨0x1b, 0, 1, [⟨0, 32, .rc, 0, false, false⟩]⟩,
  -- MOT_ABORTED
  ⟨0x1c, 0, 1, [⟨0, 32, .rc, 0, false, false⟩]⟩]

/-- Registers of block MOT, part 1. -/
def regsMOT_1 : List RegDef := [
  -- MOT_CLAMP
  ⟨0x1d, 0, 1, [⟨0, 32, .rc, 0, false, false⟩]⟩,
  -- MOT_EVENT
  ⟨0x19, 0, 1, [⟨8, 1, .w1c, 0, false, false⟩, ⟨7, 1, .w1c, 0, false, false⟩, ⟨6, 1, .w1c, 0, false, false⟩, ⟨5, 1, .w1c, 0, false, false⟩, ⟨4, 1, .w1c, 0, false, false⟩, ⟨3, 1, .w1c, 0, false, false⟩, ⟨2, 1, .w1c, 0, false, false⟩, ⟨1, 1, .w1c, 0, false, false⟩, ⟨0, 1, .w1c, 0, false, false⟩]⟩,
  -- MOT_EVENT_EN
  ⟨0x1a, 0, 1, [⟨8, 1, .rw, 0, true, false⟩, ⟨7, 1, .rw, 1, true, false⟩, ⟨6, 1, .rw, 0, true, false⟩, ⟨5, 1, .rw, 1, true, false⟩, ⟨4, 1, .rw, 1, true, false⟩, ⟨3, 1, .rw, 1, true, false⟩, ⟨2, 1, .rw, 1, true, false⟩, ⟨1, 1, .rw, 0, true, false⟩, ⟨0, 1, .rw, 0, true, false⟩]⟩]

/-- Every register of block MOT. -/
def regsMOT : List RegDef := regsMOT_0 ++ regsMOT_1

/-- Registers of block CHM, part 0. -/
def regsCHM_0 : List RegDef := [
  -- CHM_CTRL
  ⟨0x0, 0, 1, [⟨16, 8, .rw, 0x10, true, false⟩, ⟨0, 1, .rw, 1, true, false⟩]⟩,
  -- CHM_QUANTUM
  ⟨0x1, 0, 1, [⟨24, 8, .rw, 9, true, false⟩, ⟨16, 8, .rw, 9, true, false⟩, ⟨8, 8, .rw, 0x12, true, false⟩, ⟨0, 8, .rw, 0x12, true, false⟩]⟩,
  -- CHM_LINKS
  ⟨0x2, 0, 1, [⟨16, 1, .ro, 0, false, false⟩, ⟨8, 3, .ro, 0, false, false⟩, ⟨0, 3, .ro, 0, false, false⟩]⟩,
  -- CHM_STAT_SEL
  ⟨0x3, 0, 1, [⟨5, 3, .rw, 5, true, false⟩, ⟨4, 1, .rw, 0, true, false⟩, ⟨0, 2, .rw, 0, true, false⟩]⟩,
  -- CHM_STAT_FLITS
  ⟨0x6, 0, 1, [⟨0, 32, .rc, 0, false, false⟩]⟩,
  -- CHM_RETRY
  ⟨0x7, 0, 1, [⟨0, 32, .rc, 0, false, false⟩]⟩,
  -- CHM_UNREACH
  ⟨0x8, 0, 1, [⟨0, 32, .rc, 0, false, false⟩]⟩,
  -- CHM_F_WAIT_MAX
  ⟨0x9, 0, 1, [⟨0, 32, .rc, 0, false, false⟩]⟩,
  -- CHM_EVENT
  ⟨0x4, 0, 1, [⟨6, 1, .w1c, 0, false, false⟩, ⟨5, 1, .w1c, 0, false, false⟩, ⟨4, 1, .w1c, 0, false, false⟩, ⟨3, 1, .w1c, 0, false, false⟩, ⟨2, 1, .w1c, 0, false, false⟩, ⟨1, 1, .w1c, 0, false, false⟩, ⟨0, 1, .w1c, 0, false, false⟩]⟩,
  -- CHM_EVENT_EN
  ⟨0x5, 0, 1, [⟨6, 1, .rw, 1, true, false⟩, ⟨5, 1, .rw, 1, true, false⟩, ⟨4, 1, .rw, 1, true, false⟩, ⟨3, 1, .rw, 1, true, false⟩, ⟨2, 1, .rw, 0, true, false⟩, ⟨1, 1, .rw, 1, true, false⟩, ⟨0, 1, .rw, 1, true, false⟩]⟩]

/-- Every register of block CHM. -/
def regsCHM : List RegDef := regsCHM_0

/-- Registers of block DRM, part 0. -/
def regsDRM_0 : List RegDef := [
  -- DRM_CFG
  ⟨0x0, 0, 1, [⟨24, 4, .rwl, 4, true, false⟩, ⟨20, 2, .rwl, 2, true, false⟩, ⟨16, 2, .rwl, 2, true, false⟩, ⟨8, 1, .rwl, 1, true, false⟩]⟩,
  -- DRM_STATUS
  ⟨0x1, 0, 1, [⟨8, 2, .ro, 0, false, false⟩, ⟨4, 2, .ro, 0, false, false⟩, ⟨3, 1, .ro, 0, false, false⟩, ⟨0, 2, .ro, 0, false, false⟩]⟩,
  -- DRM_FCAP
  ⟨0x2, 0, 1, [⟨16, 6, .rw, 0x20, true, false⟩, ⟨0, 7, .rw, 0x20, true, false⟩]⟩,
  -- DRM_RETRAIN
  ⟨0x3, 0, 1, [⟨24, 8, .rw, 8, true, false⟩, ⟨16, 8, .rw, 0x30, true, false⟩, ⟨0, 10, .rw, 0x140, true, false⟩]⟩,
  -- DRM_NRR
  ⟨0x4, 0, 1, [⟨8, 1, .rw, 1, true, false⟩, ⟨0, 4, .rw, 0xa, true, false⟩]⟩,
  -- DRM_NRR_SEED
  ⟨0x5, 0, 1, [⟨0, 31, .rw, 0x5a5a5a5a, true, false⟩]⟩,
  -- DRM_QUANTUM
  ⟨0x6, 0, 1, [⟨24, 8, .rw, 1, true, false⟩, ⟨16, 8, .rw, 1, true, false⟩, ⟨8, 8, .rw, 4, true, false⟩, ⟨0, 8, .rw, 4, true, false⟩]⟩,
  -- DRM_TEMP
  ⟨0x7, 0, 1, [⟨0, 16, .ro, 0, false, false⟩]⟩,
  -- DRM_RETRAIN_CNT
  ⟨0xa, 0, 1, [⟨0, 32, .rc, 0, false, false⟩]⟩,
  -- DRM_NRR_CNT
  ⟨0xb, 0, 1, [⟨0, 32, .rc, 0, false, false⟩]⟩,
  -- DRM_F_CAPPED
  ⟨0xc, 0, 1, [⟨0, 32, .rc, 0, false, false⟩]⟩,
  -- DRM_F_LATE
  ⟨0xd, 0, 1, [⟨0, 32, .rc, 0, false, false⟩]⟩,
  -- DRM_F_LAT_MAX
  ⟨0xe, 0, 1, [⟨0, 32, .rc, 0, false, false⟩]⟩,
  -- DRM_LECC_CORR
  ⟨0xf, 0, 1, [⟨0, 32, .rc, 0, false, false⟩]⟩,
  -- DRM_LECC_UNC
  ⟨0x10, 0, 1, [⟨0, 32, .rc, 0, false, false⟩]⟩,
  -- DRM_EVENT
  ⟨0x8, 0, 1, [⟨5, 1, .w1c, 0, false, false⟩, ⟨4, 1, .w1c, 0, false, false⟩, ⟨3, 1, .w1c, 0, false, false⟩, ⟨2, 1, .w1c, 0, false, false⟩, ⟨1, 1, .w1c, 0, false, false⟩, ⟨0, 1, .w1c, 0, false, false⟩]⟩,
  -- DRM_EVENT_EN
  ⟨0x9, 0, 1, [⟨5, 1, .rw, 0, true, false⟩, ⟨4, 1, .rw, 1, true, false⟩, ⟨3, 1, .rw, 1, true, false⟩, ⟨2, 1, .rw, 1, true, false⟩, ⟨1, 1, .rw, 1, true, false⟩, ⟨0, 1, .rw, 1, true, false⟩]⟩]

/-- Every register of block DRM. -/
def regsDRM : List RegDef := regsDRM_0

/-- Registers of block GLB, part 0. -/
def regsGLB_0 : List RegDef := [
  -- GLB_ID
  ⟨0x0, 0, 1, [⟨24, 8, .ro, 0x5b, false, false⟩, ⟨16, 8, .ro, 0, false, false⟩, ⟨8, 8, .ro, 0xc0, false, false⟩, ⟨0, 4, .ro, 0, false, false⟩]⟩,
  -- GLB_GROUP_MASK
  ⟨0x1, 0, 1, [⟨0, 16, .rw, 0, true, false⟩]⟩,
  -- GLB_CROWN
  ⟨0x2, 0, 1, [⟨16, 16, .ro, 0, false, false⟩, ⟨4, 1, .ro, 0, false, false⟩, ⟨0, 4, .ro, 0, false, false⟩]⟩,
  -- GLB_EVT
  ⟨0x3, 0, 1, [⟨0, 5, .rw, 0, true, false⟩]⟩,
  -- GLB_EVT_LOST
  ⟨0x4, 0, 1, [⟨0, 32, .rc, 0, false, false⟩]⟩,
  -- GLB_SEV_SEL
  ⟨0x5, 0, 1, [⟨8, 2, .rw, 0, true, false⟩, ⟨0, 8, .rw, 0, true, false⟩]⟩,
  -- GLB_SEV_DATAk
  ⟨0x6, 1, 4, [⟨0, 32, .rw, 0x11111111, true, false⟩]⟩,
  -- GLB_SCRATCH
  ⟨0xa, 0, 1, [⟨0, 32, .rw, 0, true, false⟩]⟩,
  -- GLB_PORT_STATUS
  ⟨0x40, 0, 1, [⟨3, 1, .w1c, 0, false, false⟩, ⟨2, 1, .w1c, 0, false, false⟩, ⟨1, 1, .w1c, 0, false, false⟩, ⟨0, 1, .ro, 0, false, false⟩]⟩,
  -- GLB_BCAST_DIFF
  ⟨0x41, 0, 1, [⟨31, 1, .w1c, 0, false, false⟩, ⟨8, 12, .ro, 0, false, false⟩, ⟨0, 8, .ro, 0, false, false⟩]⟩,
  -- GLB_QSPI
  ⟨0x42, 0, 1, [⟨0, 16, .rw, 0x14, false, false⟩]⟩,
  -- GLB_IRQ
  ⟨0x43, 0, 1, [⟨0, 8, .ro, 0, false, false⟩]⟩]

/-- Every register of block GLB. -/
def regsGLB : List RegDef := regsGLB_0

/-- Registers of block MBX, part 0. -/
def regsMBX_0 : List RegDef := [
  -- MBX_CTRL
  ⟨0x0, 0, 1, [⟨16, 8, .rw, 0x64, true, false⟩, ⟨13, 1, .rw, 1, true, false⟩, ⟨8, 5, .rw, 1, false, false⟩, ⟨1, 1, .wo, 0, false, false⟩, ⟨0, 1, .rw, 1, true, false⟩]⟩,
  -- MBX_STATUS
  ⟨0x1, 0, 1, [⟨24, 8, .ro, 0, false, false⟩, ⟨4, 9, .ro, 0, false, false⟩, ⟨3, 1, .ro, 0, false, false⟩, ⟨0, 3, .ro, 0, false, false⟩]⟩,
  -- MBX_CMD_PI
  ⟨0x2, 0, 1, [⟨0, 16, .rw, 0, false, false⟩]⟩,
  -- MBX_CMD_CI
  ⟨0x3, 0, 1, [⟨0, 16, .ro, 0, false, false⟩]⟩,
  -- MBX_RSP_PI
  ⟨0x4, 0, 1, [⟨0, 16, .ro, 0, false, false⟩]⟩,
  -- MBX_RSP_CI
  ⟨0x5, 0, 1, [⟨0, 16, .rw, 0, false, false⟩]⟩,
  -- MBX_IL
  ⟨0x6, 0, 1, [⟨0, 8, .ro, 3, false, false⟩]⟩,
  -- MBX_UDP
  ⟨0x9, 0, 1, [⟨28, 4, .rw, 5, true, false⟩, ⟨24, 4, .rw, 8, true, false⟩, ⟨16, 8, .rw, 0x14, true, false⟩, ⟨0, 16, .rwl, 0, false, false⟩]⟩,
  -- MBX_UDP_EPOCH
  ⟨0xa, 0, 1, [⟨16, 1, .ro, 0, false, false⟩, ⟨0, 16, .ro, 0, false, false⟩]⟩,
  -- MBX_UDP_PEER
  ⟨0xb, 0, 1, [⟨0, 32, .ro, 0, false, false⟩]⟩,
  -- MBX_UDP_PEER_PORT
  ⟨0xc, 0, 1, [⟨0, 16, .ro, 0, false, false⟩]⟩,
  -- MBX_CMDS
  ⟨0xd, 0, 1, [⟨0, 32, .rc, 0, false, false⟩]⟩,
  -- MBX_DUP_TAG
  ⟨0xe, 0, 1, [⟨0, 32, .rc, 0, false, false⟩]⟩,
  -- MBX_DUP
  ⟨0xf, 0, 1, [⟨0, 32, .rc, 0, false, false⟩]⟩,
  -- MBX_RETX
  ⟨0x10, 0, 1, [⟨0, 32, .rc, 0, false, false⟩]⟩,
  -- MBX_RSP_LOST
  ⟨0x11, 0, 1, [⟨0, 32, .rc, 0, false, false⟩]⟩,
  -- MBX_UDP_REJ
  ⟨0x12, 0, 1, [⟨0, 32, .rc, 0, false, false⟩]⟩,
  -- MBX_NET_IP
  ⟨0x14, 0, 1, [⟨0, 32, .rwl, 0, false, false⟩]⟩,
  -- MBX_NET_MASK
  ⟨0x15, 0, 1, [⟨0, 32, .rwl, 0xffffff00, false, false⟩]⟩,
  -- MBX_NET_MAC_LO
  ⟨0x16, 0, 1, [⟨0, 32, .rwl, 0, false, false⟩]⟩,
  -- MBX_NET_MAC_HI
  ⟨0x17, 0, 1, [⟨0, 16, .rwl, 0, false, false⟩]⟩,
  -- MBX_CMD_SLOTS
  ⟨0x200, 1, 512, [⟨0, 32, .rw, 0, false, false⟩]⟩,
  -- MBX_RSP_SLOTS
  ⟨0x400, 1, 512, [⟨0, 32, .ro, 0, false, false⟩]⟩,
  -- MBX_EVENT
  ⟨0x7, 0, 1, [⟨8, 1, .w1c, 0, false, false⟩, ⟨7, 1, .w1c, 0, false, false⟩, ⟨6, 1, .w1c, 0, false, false⟩, ⟨5, 1, .w1c, 0, false, false⟩, ⟨4, 1, .w1c, 0, false, false⟩, ⟨3, 1, .w1c, 0, false, false⟩, ⟨2, 1, .w1c, 0, false, false⟩, ⟨1, 1, .w1c, 0, false, false⟩, ⟨0, 1, .w1c, 0, false, false⟩]⟩]

/-- Registers of block MBX, part 1. -/
def regsMBX_1 : List RegDef := [
  -- MBX_EVENT_EN
  ⟨0x8, 0, 1, [⟨8, 1, .rw, 1, true, false⟩, ⟨7, 1, .rw, 1, true, false⟩, ⟨6, 1, .rw, 0, true, false⟩, ⟨5, 1, .rw, 1, true, false⟩, ⟨4, 1, .rw, 1, true, false⟩, ⟨3, 1, .rw, 1, true, false⟩, ⟨2, 1, .rw, 1, true, false⟩, ⟨1, 1, .rw, 1, true, false⟩, ⟨0, 1, .rw, 0, true, false⟩]⟩]

/-- Every register of block MBX. -/
def regsMBX : List RegDef := regsMBX_0 ++ regsMBX_1

/-- Registers of block FLU, part 0. -/
def regsFLU_0 : List RegDef := [
  -- FLU_Qn_PUSH
  ⟨0x0, 4, 32, [⟨0, 32, .wo, 0, true, false⟩]⟩,
  -- FLU_Qn_POP
  ⟨0x1, 4, 32, [⟨0, 32, .rc, 0, false, false⟩]⟩,
  -- FLU_Qn_STATUS
  ⟨0x2, 4, 32, [⟨27, 1, .w1c, 0, false, false⟩, ⟨26, 1, .w1c, 0, false, false⟩, ⟨25, 1, .w1c, 0, false, false⟩, ⟨24, 1, .w1c, 0, false, false⟩, ⟨19, 1, .ro, 0, false, false⟩, ⟨18, 1, .ro, 0, false, false⟩, ⟨17, 1, .ro, 0, false, false⟩, ⟨16, 1, .ro, 1, false, false⟩, ⟨0, 11, .ro, 0, false, false⟩]⟩,
  -- FLU_Qn_CFG
  ⟨0x3, 4, 32, [⟨24, 3, .rw, 6, true, false⟩, ⟨16, 1, .rw, 0, true, false⟩, ⟨0, 8, .rw, 0, true, false⟩]⟩,
  -- FLU_FLUSH
  ⟨0x80, 0, 1, [⟨0, 32, .wo, 0, true, false⟩]⟩,
  -- FLU_IRQ
  ⟨0x81, 0, 1, [⟨0, 32, .ro, 0, false, false⟩]⟩,
  -- FLU_POISON_CNT
  ⟨0x82, 0, 1, [⟨0, 32, .rc, 0, false, false⟩]⟩,
  -- FLU_OVF_CNT
  ⟨0x83, 0, 1, [⟨0, 32, .rc, 0, false, false⟩]⟩,
  -- FLU_UNDER_CNT
  ⟨0x84, 0, 1, [⟨0, 32, .rc, 0, false, false⟩]⟩]

/-- Every register of block FLU. -/
def regsFLU : List RegDef := regsFLU_0

/-- Registers of block TWN, part 0. -/
def regsTWN_0 : List RegDef := [
  -- TWN_CTRL
  ⟨0x0, 0, 1, [⟨16, 8, .rw, 3, true, false⟩, ⟨10, 1, .rw, 1, true, false⟩, ⟨8, 1, .rwl, 0, true, false⟩, ⟨4, 1, .wo, 0, false, false⟩, ⟨3, 1, .wo, 0, false, false⟩, ⟨1, 1, .wo, 0, false, false⟩, ⟨0, 1, .rw, 0, true, false⟩]⟩,
  -- TWN_STATUS
  ⟨0x1, 0, 1, [⟨24, 8, .ro, 0, false, false⟩, ⟨15, 1, .ro, 0, false, false⟩, ⟨14, 1, .ro, 0, false, false⟩, ⟨13, 1, .ro, 0, false, false⟩, ⟨12, 1, .ro, 0, false, false⟩, ⟨11, 1, .ro, 0, false, false⟩, ⟨10, 1, .ro, 0, false, false⟩, ⟨8, 2, .ro, 0, false, false⟩, ⟨0, 3, .ro, 0, false, false⟩]⟩,
  -- TWN_TIMING
  ⟨0x2, 0, 1, [⟨16, 16, .rw, 0x40, true, false⟩, ⟨0, 16, .rw, 0x64, true, false⟩]⟩,
  -- TWN_JOIN_TMO
  ⟨0x3, 0, 1, [⟨0, 16, .rw, 0x3c, true, false⟩]⟩,
  -- TWN_DIVERGE_LO
  ⟨0x4, 0, 1, [⟨0, 32, .ro, 0, false, false⟩]⟩,
  -- TWN_DIVERGE_HI
  ⟨0x5, 0, 1, [⟨0, 16, .ro, 0, false, false⟩]⟩,
  -- TWN_SWITCH_LO
  ⟨0x6, 0, 1, [⟨0, 32, .ro, 0, false, false⟩]⟩,
  -- TWN_SWITCH_HI
  ⟨0x7, 0, 1, [⟨0, 16, .ro, 0, false, false⟩]⟩,
  -- TWN_LOST
  ⟨0x8, 0, 1, [⟨0, 8, .ro, 0, false, false⟩]⟩,
  -- TWN_LOSTn_LO
  ⟨0xa, 2, 4, [⟨0, 32, .ro, 0, false, false⟩]⟩,
  -- TWN_LOSTn_HI
  ⟨0xb, 2, 4, [⟨0, 16, .ro, 0, false, false⟩]⟩,
  -- TWN_ST_BASE_LO
  ⟨0x12, 0, 1, [⟨0, 32, .rwl, 0, true, false⟩]⟩,
  -- TWN_ST_BASE_HI
  ⟨0x13, 0, 1, [⟨0, 32, .rwl, 0, true, false⟩]⟩,
  -- TWN_ST_SIZE
  ⟨0x14, 0, 1, [⟨0, 32, .rwl, 0, true, false⟩]⟩,
  -- TWN_HB_MISS
  ⟨0x17, 0, 1, [⟨0, 32, .rc, 0, false, false⟩]⟩,
  -- TWN_FRAME_ERR
  ⟨0x18, 0, 1, [⟨0, 32, .rc, 0, false, false⟩]⟩,
  -- TWN_SIG_CHECKED
  ⟨0x19, 0, 1, [⟨0, 32, .rc, 0, false, false⟩]⟩,
  -- TWN_LOOP_ERR
  ⟨0x1a, 0, 1, [⟨0, 32, .rc, 0, false, false⟩]⟩,
  -- TWN_DRAM_ERR
  ⟨0x1b, 0, 1, [⟨0, 32, .rc, 0, false, false⟩]⟩,
  -- TWN_GRATE_ERR
  ⟨0x1c, 0, 1, [⟨0, 32, .rc, 0, false, false⟩]⟩,
  -- TWN_EVENT
  ⟨0x15, 0, 1, [⟨9, 1, .w1c, 0, false, false⟩, ⟨8, 1, .w1c, 0, false, false⟩, ⟨7, 1, .w1c, 0, false, false⟩, ⟨6, 1, .w1c, 0, false, false⟩, ⟨5, 1, .w1c, 0, false, false⟩, ⟨4, 1, .w1c, 0, false, false⟩, ⟨3, 1, .w1c, 0, false, false⟩, ⟨2, 1, .w1c, 0, false, false⟩, ⟨1, 1, .w1c, 0, false, false⟩, ⟨0, 1, .w1c, 0, false, false⟩]⟩,
  -- TWN_EVENT_EN
  ⟨0x16, 0, 1, [⟨9, 1, .rw, 1, true, false⟩, ⟨8, 1, .rw, 0, true, false⟩, ⟨7, 1, .rw, 1, true, false⟩, ⟨6, 1, .rw, 1, true, false⟩, ⟨5, 1, .rw, 1, true, false⟩, ⟨4, 1, .rw, 1, true, false⟩, ⟨3, 1, .rw, 1, true, false⟩, ⟨2, 1, .rw, 1, true, false⟩, ⟨1, 1, .rw, 1, true, false⟩, ⟨0, 1, .rw, 1, true, false⟩]⟩]

/-- Every register of block TWN. -/
def regsTWN : List RegDef := regsTWN_0

/-- Registers of block TIM, part 0. -/
def regsTIM_0 : List RegDef := [
  -- TIM_CTRL
  ⟨0x0, 0, 1, [⟨5, 1, .wo, 0, false, false⟩, ⟨4, 1, .wo, 0, false, false⟩, ⟨3, 1, .wo, 0, false, false⟩, ⟨1, 1, .rw, 0, true, false⟩, ⟨0, 1, .rw, 0, true, false⟩]⟩,
  -- TIM_STATUS
  ⟨0x1, 0, 1, [⟨12, 4, .ro, 0, false, false⟩, ⟨8, 4, .ro, 0, false, false⟩, ⟨3, 1, .w1c, 0, false, false⟩, ⟨2, 1, .ro, 0, false, false⟩, ⟨1, 1, .ro, 0, false, false⟩]⟩,
  -- TIM_SEC_LO
  ⟨0x2, 0, 1, [⟨0, 32, .ro, 0, false, false⟩]⟩,
  -- TIM_SEC_HI
  ⟨0x3, 0, 1, [⟨0, 16, .ro, 0, false, false⟩]⟩,
  -- TIM_NS
  ⟨0x4, 0, 1, [⟨0, 30, .ro, 0, false, false⟩]⟩,
  -- TIM_FRAC
  ⟨0x5, 0, 1, [⟨0, 32, .ro, 0, false, false⟩]⟩,
  -- TIM_INC_LO
  ⟨0x6, 0, 1, [⟨0, 32, .rw, 0, true, false⟩]⟩,
  -- TIM_INC_HI
  ⟨0x7, 0, 1, [⟨0, 3, .rw, 4, true, false⟩]⟩,
  -- TIM_SET_SEC_LO
  ⟨0x8, 0, 1, [⟨0, 32, .rw, 0, true, false⟩]⟩,
  -- TIM_SET_SEC_HI
  ⟨0x9, 0, 1, [⟨0, 16, .rw, 0, true, false⟩]⟩,
  -- TIM_SET_NS
  ⟨0xa, 0, 1, [⟨0, 30, .rw, 0, true, false⟩]⟩,
  -- TIM_ADJ_LO
  ⟨0xb, 0, 1, [⟨0, 32, .rw, 0, true, false⟩]⟩,
  -- TIM_ADJ_HI
  ⟨0xc, 0, 1, [⟨0, 32, .rw, 0, true, false⟩]⟩,
  -- TIM_PTP_CFG
  ⟨0xd, 0, 1, [⟨8, 2, .rw, 1, true, false⟩, ⟨0, 8, .rw, 0, true, false⟩]⟩,
  -- TIM_STEP
  ⟨0xe, 0, 1, [⟨16, 8, .rw, 4, true, false⟩, ⟨0, 16, .rw, 0xc8, true, false⟩]⟩,
  -- TIM_ASYMn
  ⟨0xf, 1, 2, [⟨0, 32, .rw, 0, true, false⟩]⟩,
  -- TIM_LATn
  ⟨0x11, 1, 2, [⟨16, 16, .rw, 0x200, true, false⟩, ⟨0, 16, .rw, 0x300, true, false⟩]⟩,
  -- TIM_OFFSET
  ⟨0x13, 0, 1, [⟨0, 32, .ro, 0, false, false⟩]⟩,
  -- TIM_MPD
  ⟨0x14, 0, 1, [⟨0, 32, .ro, 0, false, false⟩]⟩,
  -- TIM_OC_SEQ
  ⟨0x15, 0, 1, [⟨0, 32, .ro, 0, false, false⟩]⟩,
  -- TIM_MASTER_LO
  ⟨0x16, 0, 1, [⟨0, 32, .ro, 0, false, false⟩]⟩,
  -- TIM_MASTER_HI
  ⟨0x17, 0, 1, [⟨0, 32, .ro, 0, false, false⟩]⟩,
  -- TIM_RX_EVT
  ⟨0x1a, 0, 1, [⟨0, 32, .rc, 0, false, false⟩]⟩,
  -- TIM_TX_EVT
  ⟨0x1b, 0, 1, [⟨0, 32, .rc, 0, false, false⟩]⟩]

/-- Registers of block TIM, part 1. -/
def regsTIM_1 : List RegDef := [
  -- TIM_TC_FWD
  ⟨0x1c, 0, 1, [⟨0, 32, .rc, 0, false, false⟩]⟩,
  -- TIM_TU_MISSED
  ⟨0x1d, 0, 1, [⟨0, 32, .rc, 0, false, false⟩]⟩,
  -- TIM_TU_EVENT
  ⟨0x1e, 0, 1, [⟨0, 16, .w1c, 0, false, false⟩]⟩,
  -- TIM_TU_EVENT_EN
  ⟨0x1f, 0, 1, [⟨0, 16, .rw, 0, true, false⟩]⟩,
  -- TIM_EVENT
  ⟨0x18, 0, 1, [⟨4, 1, .w1c, 0, false, false⟩, ⟨3, 1, .w1c, 0, false, false⟩, ⟨2, 1, .w1c, 0, false, false⟩, ⟨1, 1, .w1c, 0, false, false⟩, ⟨0, 1, .w1c, 0, false, false⟩]⟩,
  -- TIM_EVENT_EN
  ⟨0x19, 0, 1, [⟨4, 1, .rw, 1, true, false⟩, ⟨3, 1, .rw, 1, true, false⟩, ⟨2, 1, .rw, 1, true, false⟩, ⟨1, 1, .rw, 1, true, false⟩, ⟨0, 1, .rw, 1, true, false⟩]⟩,
  -- TIM_TUn_CTRL
  ⟨0x40, 16, 16, [⟨8, 6, .rw, 0, true, false⟩, ⟨0, 2, .rw, 0, true, false⟩]⟩,
  -- TIM_TUn_SEC_LO
  ⟨0x41, 16, 16, [⟨0, 32, .rw, 0, true, false⟩]⟩,
  -- TIM_TUn_SEC_HI
  ⟨0x42, 16, 16, [⟨0, 16, .rw, 0, true, false⟩]⟩,
  -- TIM_TUn_NS
  ⟨0x43, 16, 16, [⟨0, 30, .rw, 0, true, false⟩]⟩,
  -- TIM_TUn_PERIOD
  ⟨0x44, 16, 16, [⟨0, 32, .rw, 0xf4240, true, false⟩]⟩,
  -- TIM_TUn_CAP_SEC_LO
  ⟨0x45, 16, 16, [⟨0, 32, .ro, 0, false, false⟩]⟩,
  -- TIM_TUn_CAP_SEC_HI
  ⟨0x46, 16, 16, [⟨0, 16, .ro, 0, false, false⟩]⟩,
  -- TIM_TUn_CAP_NS
  ⟨0x47, 16, 16, [⟨0, 30, .ro, 0, false, false⟩]⟩,
  -- TIM_TUn_CAP_LNUM
  ⟨0x48, 16, 16, [⟨0, 32, .ro, 0, false, false⟩]⟩,
  -- TIM_TUn_CAP_CNT
  ⟨0x49, 16, 16, [⟨0, 32, .rc, 0, false, false⟩]⟩]

/-- Every register of block TIM. -/
def regsTIM : List RegDef := regsTIM_0 ++ regsTIM_1

/-- Registers of block CAL, part 0. -/
def regsCAL_0 : List RegDef := [
  -- CAL_CTRL
  ⟨0x0, 0, 1, [⟨24, 8, .rw, 2, true, false⟩, ⟨16, 8, .rw, 0x40, true, false⟩, ⟨0, 1, .rw, 1, true, false⟩]⟩,
  -- CAL_STATUS
  ⟨0x1, 0, 1, [⟨24, 8, .ro, 0, false, false⟩, ⟨16, 4, .ro, 0, false, false⟩]⟩,
  -- CAL_KINDk
  ⟨0x2, 1, 4, [⟨16, 16, .ro, 0, false, false⟩, ⟨8, 4, .ro, 0, false, false⟩, ⟨0, 8, .ro, 0, false, false⟩]⟩,
  -- CAL_RUNS
  ⟨0x8, 0, 1, [⟨0, 32, .rc, 0, false, false⟩]⟩,
  -- CAL_REJECTS
  ⟨0x9, 0, 1, [⟨0, 32, .rc, 0, false, false⟩]⟩,
  -- CAL_EVENT
  ⟨0x6, 0, 1, [⟨2, 1, .w1c, 0, false, false⟩, ⟨1, 1, .w1c, 0, false, false⟩, ⟨0, 1, .w1c, 0, false, false⟩]⟩,
  -- CAL_EVENT_EN
  ⟨0x7, 0, 1, [⟨2, 1, .rw, 0, true, false⟩, ⟨1, 1, .rw, 1, true, false⟩, ⟨0, 1, .rw, 1, true, false⟩]⟩]

/-- Every register of block CAL. -/
def regsCAL : List RegDef := regsCAL_0

/-- Registers of block SVC, part 0. -/
def regsSVC_0 : List RegDef := [
  -- SVC_STATUS
  ⟨0x0, 0, 1, [⟨24, 8, .ro, 0, false, false⟩, ⟨16, 8, .ro, 0, false, false⟩, ⟨0, 3, .ro, 0, false, false⟩]⟩,
  -- SVC_FUSE
  ⟨0x1, 0, 1, [⟨16, 1, .ro, 0, false, false⟩, ⟨8, 4, .ro, 0, false, false⟩, ⟨0, 4, .ro, 0, false, false⟩]⟩,
  -- SVC_BOOT
  ⟨0x2, 0, 1, [⟨8, 5, .ro, 0, false, false⟩, ⟨0, 5, .ro, 0, false, false⟩]⟩,
  -- SVC_JOURNAL
  ⟨0x3, 0, 1, [⟨28, 4, .ro, 0, false, false⟩, ⟨24, 4, .ro, 0, false, false⟩, ⟨16, 1, .ro, 0, false, false⟩, ⟨0, 12, .ro, 0, false, false⟩]⟩,
  -- SVC_STAGED
  ⟨0x4, 0, 1, [⟨0, 32, .ro, 0, false, false⟩]⟩,
  -- SVC_CRC_ERR
  ⟨0x7, 0, 1, [⟨0, 32, .rc, 0, false, false⟩]⟩,
  -- SVC_FRAMES
  ⟨0x8, 0, 1, [⟨0, 32, .rc, 0, false, false⟩]⟩,
  -- SVC_EVENT
  ⟨0x5, 0, 1, [⟨4, 1, .w1c, 0, false, false⟩, ⟨3, 1, .w1c, 0, false, false⟩, ⟨2, 1, .w1c, 0, false, false⟩, ⟨1, 1, .w1c, 0, false, false⟩, ⟨0, 1, .w1c, 0, false, false⟩]⟩,
  -- SVC_EVENT_EN
  ⟨0x6, 0, 1, [⟨4, 1, .rw, 1, true, false⟩, ⟨3, 1, .rw, 1, true, false⟩, ⟨2, 1, .rw, 1, true, false⟩, ⟨1, 1, .rw, 1, true, false⟩, ⟨0, 1, .rw, 1, true, false⟩]⟩]

/-- Every register of block SVC. -/
def regsSVC : List RegDef := regsSVC_0

end Sys2Proof.Machine
end

