-- ==== Sys2Proof/Machine/Fields.lean ====
section
/-! DEFINITION. One named constant per register and per register field, as the spec's register tables name them: a
register's own name is its whole word, `BLOCK_REG_FIELD` one of its fields; an indexed register is a function of its index. -/

namespace Sys2Proof.Machine

abbrev LANE_CTRL : Fld := ⟨0x4, 0x0, 0, 32⟩
abbrev LANE_CTRL_TBL_USE : Fld := ⟨0x4, 0x0, 15, 1⟩
abbrev LANE_CTRL_AN_EN : Fld := ⟨0x4, 0x0, 14, 1⟩
abbrev LANE_CTRL_BOND : Fld := ⟨0x4, 0x0, 13, 1⟩
abbrev LANE_CTRL_REV_AUTO : Fld := ⟨0x4, 0x0, 12, 1⟩
abbrev LANE_CTRL_POL_AUTO : Fld := ⟨0x4, 0x0, 11, 1⟩
abbrev LANE_CTRL_RX_INV : Fld := ⟨0x4, 0x0, 10, 1⟩
abbrev LANE_CTRL_TX_INV : Fld := ⟨0x4, 0x0, 9, 1⟩
abbrev LANE_CTRL_RX_PRECODE : Fld := ⟨0x4, 0x0, 8, 1⟩
abbrev LANE_CTRL_TX_PRECODE : Fld := ⟨0x4, 0x0, 7, 1⟩
abbrev LANE_CTRL_MODE : Fld := ⟨0x4, 0x0, 4, 3⟩
abbrev LANE_CTRL_EN : Fld := ⟨0x4, 0x0, 0, 1⟩
abbrev LANE_STATUS : Fld := ⟨0x4, 0x1, 0, 32⟩
abbrev LANE_STATUS_FOM : Fld := ⟨0x4, 0x1, 24, 8⟩
abbrev LANE_STATUS_AM_LANE : Fld := ⟨0x4, 0x1, 16, 8⟩
abbrev LANE_STATUS_FREEZE_WHY : Fld := ⟨0x4, 0x1, 12, 2⟩
abbrev LANE_STATUS_RECENTRE : Fld := ⟨0x4, 0x1, 11, 1⟩
abbrev LANE_STATUS_DEGRADED : Fld := ⟨0x4, 0x1, 10, 1⟩
abbrev LANE_STATUS_REVERSED : Fld := ⟨0x4, 0x1, 9, 1⟩
abbrev LANE_STATUS_RX_INV_ACT : Fld := ⟨0x4, 0x1, 8, 1⟩
abbrev LANE_STATUS_ALIGNED : Fld := ⟨0x4, 0x1, 7, 1⟩
abbrev LANE_STATUS_CDR_LOCK : Fld := ⟨0x4, 0x1, 6, 1⟩
abbrev LANE_STATUS_SIGDET : Fld := ⟨0x4, 0x1, 5, 1⟩
abbrev LANE_STATUS_STATE : Fld := ⟨0x4, 0x1, 0, 3⟩
abbrev LANE_EVENT : Fld := ⟨0x4, 0x2, 0, 32⟩
abbrev LANE_EVENT_AN_FAIL : Fld := ⟨0x4, 0x2, 11, 1⟩
abbrev LANE_EVENT_BOND_ERR : Fld := ⟨0x4, 0x2, 10, 1⟩
abbrev LANE_EVENT_NO_TBL : Fld := ⟨0x4, 0x2, 9, 1⟩
abbrev LANE_EVENT_EQ_BAD : Fld := ⟨0x4, 0x2, 8, 1⟩
abbrev LANE_EVENT_TIMEOUT : Fld := ⟨0x4, 0x2, 7, 1⟩
abbrev LANE_EVENT_CODE_ERR : Fld := ⟨0x4, 0x2, 6, 1⟩
abbrev LANE_EVENT_UNCORR : Fld := ⟨0x4, 0x2, 5, 1⟩
abbrev LANE_EVENT_DEGRADED : Fld := ⟨0x4, 0x2, 4, 1⟩
abbrev LANE_EVENT_REV : Fld := ⟨0x4, 0x2, 3, 1⟩
abbrev LANE_EVENT_POL_FLIP : Fld := ⟨0x4, 0x2, 2, 1⟩
abbrev LANE_EVENT_DOWN : Fld := ⟨0x4, 0x2, 1, 1⟩
abbrev LANE_EVENT_UP : Fld := ⟨0x4, 0x2, 0, 1⟩
abbrev LANE_EVENT_EN : Fld := ⟨0x4, 0x3, 0, 32⟩
abbrev LANE_EVENT_EN_AN_FAIL : Fld := ⟨0x4, 0x3, 11, 1⟩
abbrev LANE_EVENT_EN_BOND_ERR : Fld := ⟨0x4, 0x3, 10, 1⟩
abbrev LANE_EVENT_EN_NO_TBL : Fld := ⟨0x4, 0x3, 9, 1⟩
abbrev LANE_EVENT_EN_EQ_BAD : Fld := ⟨0x4, 0x3, 8, 1⟩
abbrev LANE_EVENT_EN_TIMEOUT : Fld := ⟨0x4, 0x3, 7, 1⟩
abbrev LANE_EVENT_EN_CODE_ERR : Fld := ⟨0x4, 0x3, 6, 1⟩
abbrev LANE_EVENT_EN_UNCORR : Fld := ⟨0x4, 0x3, 5, 1⟩
abbrev LANE_EVENT_EN_DEGRADED : Fld := ⟨0x4, 0x3, 4, 1⟩
abbrev LANE_EVENT_EN_REV : Fld := ⟨0x4, 0x3, 3, 1⟩
abbrev LANE_EVENT_EN_POL_FLIP : Fld := ⟨0x4, 0x3, 2, 1⟩
abbrev LANE_EVENT_EN_DOWN : Fld := ⟨0x4, 0x3, 1, 1⟩
abbrev LANE_EVENT_EN_UP : Fld := ⟨0x4, 0x3, 0, 1⟩
abbrev LANE_TXEQ : Fld := ⟨0x4, 0x4, 0, 32⟩
abbrev LANE_TXEQ_PRE2 : Fld := ⟨0x4, 0x4, 24, 4⟩
abbrev LANE_TXEQ_PRE1 : Fld := ⟨0x4, 0x4, 16, 5⟩
abbrev LANE_TXEQ_POST1 : Fld := ⟨0x4, 0x4, 8, 5⟩
abbrev LANE_TXEQ_POST2 : Fld := ⟨0x4, 0x4, 0, 4⟩
abbrev LANE_RXEQ : Fld := ⟨0x4, 0x5, 0, 32⟩
abbrev LANE_RXEQ_DFE_ADAPT : Fld := ⟨0x4, 0x5, 17, 1⟩
abbrev LANE_RXEQ_CTLE_ADAPT : Fld := ⟨0x4, 0x5, 16, 1⟩
abbrev LANE_RXEQ_VGA_INIT : Fld := ⟨0x4, 0x5, 8, 4⟩
abbrev LANE_RXEQ_CTLE_INIT : Fld := ⟨0x4, 0x5, 0, 4⟩
abbrev LANE_ADAPT_STAT : Fld := ⟨0x4, 0x6, 0, 32⟩
abbrev LANE_ADAPT_STAT_DFE1 : Fld := ⟨0x4, 0x6, 24, 8⟩
abbrev LANE_ADAPT_STAT_DFE2 : Fld := ⟨0x4, 0x6, 16, 8⟩
abbrev LANE_ADAPT_STAT_VGA : Fld := ⟨0x4, 0x6, 8, 4⟩
abbrev LANE_ADAPT_STAT_CTLE : Fld := ⟨0x4, 0x6, 0, 4⟩
abbrev LANE_ADAPT : Fld := ⟨0x4, 0x7, 0, 32⟩
abbrev LANE_ADAPT_IDLE_LIMIT : Fld := ⟨0x4, 0x7, 16, 16⟩
abbrev LANE_ADAPT_RECENTRE_EN : Fld := ⟨0x4, 0x7, 14, 1⟩
abbrev LANE_ADAPT_FREEZE_FORCE : Fld := ⟨0x4, 0x7, 13, 1⟩
abbrev LANE_ADAPT_FOM_HYST : Fld := ⟨0x4, 0x7, 8, 4⟩
abbrev LANE_ADAPT_FOM_FLOOR : Fld := ⟨0x4, 0x7, 0, 8⟩
abbrev LANE_FOM : Fld := ⟨0x4, 0x8, 0, 32⟩
abbrev LANE_FOM_FOM_MAX : Fld := ⟨0x4, 0x8, 16, 8⟩
abbrev LANE_FOM_FOM_MIN : Fld := ⟨0x4, 0x8, 8, 8⟩
abbrev LANE_FOM_FOM : Fld := ⟨0x4, 0x8, 0, 8⟩
abbrev LANE_FEC_SYM : Fld := ⟨0x4, 0x9, 0, 32⟩
abbrev LANE_FEC_CW : Fld := ⟨0x4, 0xa, 0, 32⟩
abbrev LANE_FEC_UNC : Fld := ⟨0x4, 0xb, 0, 32⟩
abbrev LANE_CODE_ERR : Fld := ⟨0x4, 0xc, 0, 32⟩
abbrev LANE_BRINGUP : Fld := ⟨0x4, 0xd, 0, 32⟩
abbrev LANE_BRINGUP_RETRY : Fld := ⟨0x4, 0xd, 8, 8⟩
abbrev LANE_BRINGUP_TIMEOUT : Fld := ⟨0x4, 0xd, 0, 8⟩
abbrev LANE_BOND : Fld := ⟨0x4, 0xe, 0, 32⟩
abbrev LANE_BOND_RX_BOND_ID : Fld := ⟨0x4, 0xe, 8, 8⟩
abbrev LANE_BOND_TX_BOND_ID : Fld := ⟨0x4, 0xe, 0, 8⟩
abbrev TST_PRBS_CTRL : Fld := ⟨0x1E, 0x0, 0, 32⟩
abbrev TST_PRBS_CTRL_INJ_RATE : Fld := ⟨0x1E, 0x0, 16, 5⟩
abbrev TST_PRBS_CTRL_CHK_RESEED : Fld := ⟨0x1E, 0x0, 9, 1⟩
abbrev TST_PRBS_CTRL_INJ_ONE : Fld := ⟨0x1E, 0x0, 8, 1⟩
abbrev TST_PRBS_CTRL_LOOPBACK : Fld := ⟨0x1E, 0x0, 6, 2⟩
abbrev TST_PRBS_CTRL_INVERT : Fld := ⟨0x1E, 0x0, 5, 1⟩
abbrev TST_PRBS_CTRL_PATTERN : Fld := ⟨0x1E, 0x0, 2, 2⟩
abbrev TST_PRBS_CTRL_CHK_EN : Fld := ⟨0x1E, 0x0, 1, 1⟩
abbrev TST_PRBS_CTRL_GEN_EN : Fld := ⟨0x1E, 0x0, 0, 1⟩
abbrev TST_PRBS_STAT : Fld := ⟨0x1E, 0x1, 0, 32⟩
abbrev TST_PRBS_STAT_LOCK_LOST : Fld := ⟨0x1E, 0x1, 1, 1⟩
abbrev TST_PRBS_STAT_LOCK : Fld := ⟨0x1E, 0x1, 0, 1⟩
abbrev TST_PRBS_ERR : Fld := ⟨0x1E, 0x2, 0, 32⟩
abbrev TST_PRBS_BITS : Fld := ⟨0x1E, 0x3, 0, 32⟩
abbrev GOR_CTRL : Fld := ⟨0x5, 0x0, 0, 32⟩
abbrev GOR_CTRL_ERR_LIMIT : Fld := ⟨0x5, 0x0, 24, 8⟩
abbrev GOR_CTRL_MAX_OPEN : Fld := ⟨0x5, 0x0, 16, 4⟩
abbrev GOR_CTRL_ROLE : Fld := ⟨0x5, 0x0, 4, 2⟩
abbrev GOR_CTRL_SENDER_LOCK : Fld := ⟨0x5, 0x0, 3, 1⟩
abbrev GOR_CTRL_FORCE_OFF : Fld := ⟨0x5, 0x0, 1, 1⟩
abbrev GOR_CTRL_EN : Fld := ⟨0x5, 0x0, 0, 1⟩
abbrev GOR_STATUS : Fld := ⟨0x5, 0x1, 0, 32⟩
abbrev GOR_STATUS_EPOCH : Fld := ⟨0x5, 0x1, 16, 16⟩
abbrev GOR_STATUS_OPEN_PAGES : Fld := ⟨0x5, 0x1, 12, 4⟩
abbrev GOR_STATUS_LANES : Fld := ⟨0x5, 0x1, 10, 2⟩
abbrev GOR_STATUS_BONDED : Fld := ⟨0x5, 0x1, 9, 1⟩
abbrev GOR_STATUS_CREDIT_STALL : Fld := ⟨0x5, 0x1, 8, 1⟩
abbrev GOR_STATUS_SESS : Fld := ⟨0x5, 0x1, 0, 3⟩
abbrev GOR_PEER_LO : Fld := ⟨0x5, 0x2, 0, 32⟩
abbrev GOR_PEER_HI : Fld := ⟨0x5, 0x3, 0, 32⟩
abbrev GOR_LOCK_LO : Fld := ⟨0x5, 0x4, 0, 32⟩
abbrev GOR_LOCK_HI : Fld := ⟨0x5, 0x5, 0, 32⟩
abbrev GOR_RCV_NXT : Fld := ⟨0x5, 0x6, 0, 32⟩
abbrev GOR_BYTE_LO : Fld := ⟨0x5, 0x7, 0, 32⟩
abbrev GOR_BYTE_HI : Fld := ⟨0x5, 0x8, 0, 32⟩
abbrev GOR_CREDIT_LO : Fld := ⟨0x5, 0x9, 0, 32⟩
abbrev GOR_CREDIT_HI : Fld := ⟨0x5, 0xa, 0, 32⟩
abbrev GOR_TIMING : Fld := ⟨0x5, 0xb, 0, 32⟩
abbrev GOR_TIMING_DEAD : Fld := ⟨0x5, 0xb, 24, 8⟩
abbrev GOR_TIMING_KEEPALIVE : Fld := ⟨0x5, 0xb, 16, 8⟩
abbrev GOR_TIMING_ACK_COALESCE : Fld := ⟨0x5, 0xb, 8, 8⟩
abbrev GOR_TIMING_ACK_DELAY : Fld := ⟨0x5, 0xb, 0, 8⟩
abbrev GOR_RETX : Fld := ⟨0x5, 0xc, 0, 32⟩
abbrev GOR_RETX_BACKOFF : Fld := ⟨0x5, 0xc, 16, 4⟩
abbrev GOR_RETX_RTO : Fld := ⟨0x5, 0xc, 0, 16⟩
abbrev GOR_CREDIT_CFG : Fld := ⟨0x5, 0xd, 0, 32⟩
abbrev GOR_CREDIT_CFG_MAX : Fld := ⟨0x5, 0xd, 16, 16⟩
abbrev GOR_CREDIT_CFG_STEP : Fld := ⟨0x5, 0xd, 0, 16⟩
abbrev GOR_DRAIN : Fld := ⟨0x5, 0xe, 0, 32⟩
abbrev GOR_DRAIN_RESULT : Fld := ⟨0x5, 0xe, 24, 8⟩
abbrev GOR_DRAIN_TIME : Fld := ⟨0x5, 0xe, 0, 16⟩
abbrev GOR_EVENT : Fld := ⟨0x5, 0xf, 0, 32⟩
abbrev GOR_EVENT_ERR_LIMIT : Fld := ⟨0x5, 0xf, 12, 1⟩
abbrev GOR_EVENT_REWIND_UNANSWERED : Fld := ⟨0x5, 0xf, 11, 1⟩
abbrev GOR_EVENT_DRAIN_DONE : Fld := ⟨0x5, 0xf, 10, 1⟩
abbrev GOR_EVENT_LANE_LOST : Fld := ⟨0x5, 0xf, 9, 1⟩
abbrev GOR_EVENT_CREDIT_STALL : Fld := ⟨0x5, 0xf, 8, 1⟩
abbrev GOR_EVENT_PROTO_ERR : Fld := ⟨0x5, 0xf, 7, 1⟩
abbrev GOR_EVENT_MARK : Fld := ⟨0x5, 0xf, 6, 1⟩
abbrev GOR_EVENT_PAGE_DISCARD : Fld := ⟨0x5, 0xf, 5, 1⟩
abbrev GOR_EVENT_PAGE_COMPLETE : Fld := ⟨0x5, 0xf, 4, 1⟩
abbrev GOR_EVENT_PEER_DEAD : Fld := ⟨0x5, 0xf, 3, 1⟩
abbrev GOR_EVENT_EPOCH_CHANGE : Fld := ⟨0x5, 0xf, 2, 1⟩
abbrev GOR_EVENT_SESSION_END : Fld := ⟨0x5, 0xf, 1, 1⟩
abbrev GOR_EVENT_SESSION_UP : Fld := ⟨0x5, 0xf, 0, 1⟩
abbrev GOR_EVENT_EN : Fld := ⟨0x5, 0x10, 0, 32⟩
abbrev GOR_EVENT_EN_ERR_LIMIT : Fld := ⟨0x5, 0x10, 12, 1⟩
abbrev GOR_EVENT_EN_REWIND_UNANSWERED : Fld := ⟨0x5, 0x10, 11, 1⟩
abbrev GOR_EVENT_EN_DRAIN_DONE : Fld := ⟨0x5, 0x10, 10, 1⟩
abbrev GOR_EVENT_EN_LANE_LOST : Fld := ⟨0x5, 0x10, 9, 1⟩
abbrev GOR_EVENT_EN_CREDIT_STALL : Fld := ⟨0x5, 0x10, 8, 1⟩
abbrev GOR_EVENT_EN_PROTO_ERR : Fld := ⟨0x5, 0x10, 7, 1⟩
abbrev GOR_EVENT_EN_MARK : Fld := ⟨0x5, 0x10, 6, 1⟩
abbrev GOR_EVENT_EN_PAGE_DISCARD : Fld := ⟨0x5, 0x10, 5, 1⟩
abbrev GOR_EVENT_EN_PAGE_COMPLETE : Fld := ⟨0x5, 0x10, 4, 1⟩
abbrev GOR_EVENT_EN_PEER_DEAD : Fld := ⟨0x5, 0x10, 3, 1⟩
abbrev GOR_EVENT_EN_EPOCH_CHANGE : Fld := ⟨0x5, 0x10, 2, 1⟩
abbrev GOR_EVENT_EN_SESSION_END : Fld := ⟨0x5, 0x10, 1, 1⟩
abbrev GOR_EVENT_EN_SESSION_UP : Fld := ⟨0x5, 0x10, 0, 1⟩
abbrev GOR_PAGE_LAST : Fld := ⟨0x5, 0x11, 0, 32⟩
abbrev GOR_DISCARD : Fld := ⟨0x5, 0x12, 0, 32⟩
abbrev GOR_DISCARD_WHY : Fld := ⟨0x5, 0x13, 0, 32⟩
abbrev GOR_DISCARD_WHY_V : Fld := ⟨0x5, 0x13, 0, 8⟩
abbrev GOR_MARK : Fld := ⟨0x5, 0x14, 0, 32⟩
abbrev GOR_RX_FRAMES : Fld := ⟨0x5, 0x15, 0, 32⟩
abbrev GOR_DUP : Fld := ⟨0x5, 0x16, 0, 32⟩
abbrev GOR_OOW : Fld := ⟨0x5, 0x17, 0, 32⟩
abbrev GOR_BAD_FRAME : Fld := ⟨0x5, 0x18, 0, 32⟩
abbrev GOR_CREDIT_OVR : Fld := ⟨0x5, 0x19, 0, 32⟩
abbrev GOR_STALE : Fld := ⟨0x5, 0x1a, 0, 32⟩
abbrev GOR_PROTO_ERR : Fld := ⟨0x5, 0x1b, 0, 32⟩
abbrev GOR_DROP : Fld := ⟨0x5, 0x1c, 0, 32⟩
abbrev GOR_NAK_TX : Fld := ⟨0x5, 0x1d, 0, 32⟩
abbrev BAS_CTRL : Fld := ⟨0x8, 0x0, 0, 32⟩
abbrev BAS_CTRL_RETAIN : Fld := ⟨0x8, 0x0, 24, 8⟩
abbrev BAS_CTRL_DEC_AHEAD : Fld := ⟨0x8, 0x0, 16, 4⟩
abbrev BAS_CTRL_POLICY : Fld := ⟨0x8, 0x0, 4, 1⟩
abbrev BAS_CTRL_EN : Fld := ⟨0x8, 0x0, 0, 1⟩
abbrev BAS_STATUS : Fld := ⟨0x8, 0x1, 0, 32⟩
abbrev BAS_STATUS_PAGES : Fld := ⟨0x8, 0x1, 20, 12⟩
abbrev BAS_STATUS_LBS : Fld := ⟨0x8, 0x1, 12, 7⟩
abbrev BAS_STATUS_AHEAD : Fld := ⟨0x8, 0x1, 8, 4⟩
abbrev BAS_STATUS_DEC_WAIT : Fld := ⟨0x8, 0x1, 3, 1⟩
abbrev BAS_STATUS_OPEN_WAIT : Fld := ⟨0x8, 0x1, 2, 1⟩
abbrev BAS_STATUS_MARK_HOLD : Fld := ⟨0x8, 0x1, 1, 1⟩
abbrev BAS_STATUS_ACTIVE : Fld := ⟨0x8, 0x1, 0, 1⟩
abbrev BAS_RING_BASE_LO : Fld := ⟨0x8, 0x2, 0, 32⟩
abbrev BAS_RING_BASE_HI : Fld := ⟨0x8, 0x3, 0, 32⟩
abbrev BAS_RING_SIZE_LO : Fld := ⟨0x8, 0x4, 0, 32⟩
abbrev BAS_RING_SIZE_HI : Fld := ⟨0x8, 0x5, 0, 32⟩
abbrev BAS_DEC_BASE_LO : Fld := ⟨0x8, 0x6, 0, 32⟩
abbrev BAS_DEC_BASE_HI : Fld := ⟨0x8, 0x7, 0, 32⟩
abbrev BAS_DEC_SIZE_LO : Fld := ⟨0x8, 0x8, 0, 32⟩
abbrev BAS_DEC_SIZE_HI : Fld := ⟨0x8, 0x9, 0, 32⟩
abbrev BAS_WP_LO : Fld := ⟨0x8, 0xa, 0, 32⟩
abbrev BAS_WP_HI : Fld := ⟨0x8, 0xb, 0, 32⟩
abbrev BAS_RP_LO : Fld := ⟨0x8, 0xc, 0, 32⟩
abbrev BAS_RP_HI : Fld := ⟨0x8, 0xd, 0, 32⟩
abbrev BAS_MARK_LO : Fld := ⟨0x8, 0xe, 0, 32⟩
abbrev BAS_MARK_HI : Fld := ⟨0x8, 0xf, 0, 32⟩
abbrev BAS_FREE_LO : Fld := ⟨0x8, 0x10, 0, 32⟩
abbrev BAS_FREE_HI : Fld := ⟨0x8, 0x11, 0, 32⟩
abbrev BAS_DEC_FREE_LO : Fld := ⟨0x8, 0x12, 0, 32⟩
abbrev BAS_DEC_FREE_HI : Fld := ⟨0x8, 0x13, 0, 32⟩
abbrev BAS_MARK_PAGE : Fld := ⟨0x8, 0x14, 0, 32⟩
abbrev BAS_LOSS_FIRST : Fld := ⟨0x8, 0x15, 0, 32⟩
abbrev BAS_LOSS_LAST : Fld := ⟨0x8, 0x16, 0, 32⟩
abbrev BAS_LOSS_COUNT : Fld := ⟨0x8, 0x17, 0, 32⟩
abbrev BAS_LB_FREED : Fld := ⟨0x8, 0x18, 0, 32⟩
abbrev BAS_LB_FREED_V : Fld := ⟨0x8, 0x18, 0, 8⟩
abbrev BAS_FAIL_PAGE : Fld := ⟨0x8, 0x19, 0, 32⟩
abbrev BAS_FAIL_WHY : Fld := ⟨0x8, 0x1a, 0, 32⟩
abbrev BAS_FAIL_WHY_STATUS : Fld := ⟨0x8, 0x1a, 8, 8⟩
abbrev BAS_FAIL_WHY_SLOT : Fld := ⟨0x8, 0x1a, 0, 4⟩
abbrev BAS_EVENT : Fld := ⟨0x8, 0x1b, 0, 32⟩
abbrev BAS_EVENT_DRAIN_DONE : Fld := ⟨0x8, 0x1b, 8, 1⟩
abbrev BAS_EVENT_CFG_BAD : Fld := ⟨0x8, 0x1b, 7, 1⟩
abbrev BAS_EVENT_AUTO_RELEASE : Fld := ⟨0x8, 0x1b, 6, 1⟩
abbrev BAS_EVENT_PAGE_READY : Fld := ⟨0x8, 0x1b, 5, 1⟩
abbrev BAS_EVENT_JOB_FAIL : Fld := ⟨0x8, 0x1b, 4, 1⟩
abbrev BAS_EVENT_LB_FREED : Fld := ⟨0x8, 0x1b, 3, 1⟩
abbrev BAS_EVENT_DEC_WAIT : Fld := ⟨0x8, 0x1b, 2, 1⟩
abbrev BAS_EVENT_OPEN_WAIT : Fld := ⟨0x8, 0x1b, 1, 1⟩
abbrev BAS_EVENT_LOSS : Fld := ⟨0x8, 0x1b, 0, 1⟩
abbrev BAS_EVENT_EN : Fld := ⟨0x8, 0x1c, 0, 32⟩
abbrev BAS_EVENT_EN_DRAIN_DONE : Fld := ⟨0x8, 0x1c, 8, 1⟩
abbrev BAS_EVENT_EN_CFG_BAD : Fld := ⟨0x8, 0x1c, 7, 1⟩
abbrev BAS_EVENT_EN_AUTO_RELEASE : Fld := ⟨0x8, 0x1c, 6, 1⟩
abbrev BAS_EVENT_EN_PAGE_READY : Fld := ⟨0x8, 0x1c, 5, 1⟩
abbrev BAS_EVENT_EN_JOB_FAIL : Fld := ⟨0x8, 0x1c, 4, 1⟩
abbrev BAS_EVENT_EN_LB_FREED : Fld := ⟨0x8, 0x1c, 3, 1⟩
abbrev BAS_EVENT_EN_DEC_WAIT : Fld := ⟨0x8, 0x1c, 2, 1⟩
abbrev BAS_EVENT_EN_OPEN_WAIT : Fld := ⟨0x8, 0x1c, 1, 1⟩
abbrev BAS_EVENT_EN_LOSS : Fld := ⟨0x8, 0x1c, 0, 1⟩
abbrev BAS_DRAIN : Fld := ⟨0x8, 0x1d, 0, 32⟩
abbrev BAS_DRAIN_RESULT : Fld := ⟨0x8, 0x1d, 24, 8⟩
abbrev BAS_RB_BASE_LO : Fld := ⟨0x8, 0x1e, 0, 32⟩
abbrev BAS_RB_BASE_HI : Fld := ⟨0x8, 0x1f, 0, 32⟩
abbrev CIN_CTRL : Fld := ⟨0x9, 0x0, 0, 32⟩
abbrev CIN_CTRL_DRAIN_MS : Fld := ⟨0x9, 0x0, 16, 8⟩
abbrev CIN_CTRL_FORCE_OFF : Fld := ⟨0x9, 0x0, 2, 1⟩
abbrev CIN_CTRL_RAW_ACCEPT : Fld := ⟨0x9, 0x0, 1, 1⟩
abbrev CIN_CTRL_EN : Fld := ⟨0x9, 0x0, 0, 1⟩
abbrev CIN_STATUS : Fld := ⟨0x9, 0x1, 0, 32⟩
abbrev CIN_STATUS_LAST_STATUS : Fld := ⟨0x9, 0x1, 24, 8⟩
abbrev CIN_STATUS_DRAIN_RESULT : Fld := ⟨0x9, 0x1, 16, 8⟩
abbrev CIN_STATUS_STATE : Fld := ⟨0x9, 0x1, 0, 2⟩
abbrev CIN_JOB_PAGE : Fld := ⟨0x9, 0x2, 0, 32⟩
abbrev CIN_JOB_SLOT : Fld := ⟨0x9, 0x3, 0, 32⟩
abbrev CIN_JOB_SLOT_TER : Fld := ⟨0x9, 0x3, 8, 4⟩
abbrev CIN_JOB_SLOT_SLOT : Fld := ⟨0x9, 0x3, 0, 4⟩
abbrev CIN_OUT_LO : Fld := ⟨0x9, 0x4, 0, 32⟩
abbrev CIN_OUT_HI : Fld := ⟨0x9, 0x5, 0, 32⟩
abbrev CIN_ERR_POS_LO : Fld := ⟨0x9, 0x6, 0, 32⟩
abbrev CIN_ERR_POS_HI : Fld := ⟨0x9, 0x7, 0, 32⟩
abbrev CIN_JOBS : Fld := ⟨0x9, 0x8, 0, 32⟩
abbrev CIN_FAILS : Fld := ⟨0x9, 0x9, 0, 32⟩
abbrev CIN_RAW_BLOCKS : Fld := ⟨0x9, 0xa, 0, 32⟩
abbrev CIN_NO_GAIN : Fld := ⟨0x9, 0xb, 0, 32⟩
abbrev CIN_EVENT : Fld := ⟨0x9, 0xc, 0, 32⟩
abbrev CIN_EVENT_DRAIN_DONE : Fld := ⟨0x9, 0xc, 4, 1⟩
abbrev CIN_EVENT_NO_GAIN : Fld := ⟨0x9, 0xc, 3, 1⟩
abbrev CIN_EVENT_RAW_SEEN : Fld := ⟨0x9, 0xc, 2, 1⟩
abbrev CIN_EVENT_JOB_FAIL : Fld := ⟨0x9, 0xc, 1, 1⟩
abbrev CIN_EVENT_JOB_DONE : Fld := ⟨0x9, 0xc, 0, 1⟩
abbrev CIN_EVENT_EN : Fld := ⟨0x9, 0xd, 0, 32⟩
abbrev CIN_EVENT_EN_DRAIN_DONE : Fld := ⟨0x9, 0xd, 4, 1⟩
abbrev CIN_EVENT_EN_NO_GAIN : Fld := ⟨0x9, 0xd, 3, 1⟩
abbrev CIN_EVENT_EN_RAW_SEEN : Fld := ⟨0x9, 0xd, 2, 1⟩
abbrev CIN_EVENT_EN_JOB_FAIL : Fld := ⟨0x9, 0xd, 1, 1⟩
abbrev CIN_EVENT_EN_JOB_DONE : Fld := ⟨0x9, 0xd, 0, 1⟩
abbrev TER_CTRL : Fld := ⟨0xA, 0x0, 0, 32⟩
abbrev TER_CTRL_IDLE_LINES : Fld := ⟨0xA, 0x0, 16, 16⟩
abbrev TER_CTRL_SLIP_MAX : Fld := ⟨0xA, 0x0, 8, 8⟩
abbrev TER_CTRL_FETCH_UNCHK : Fld := ⟨0xA, 0x0, 2, 1⟩
abbrev TER_CTRL_FORCE_OFF : Fld := ⟨0xA, 0x0, 1, 1⟩
abbrev TER_CTRL_EN : Fld := ⟨0xA, 0x0, 0, 1⟩
abbrev TER_SLOT : Fld := ⟨0xA, 0x1, 0, 32⟩
abbrev TER_SLOT_GUARD : Fld := ⟨0xA, 0x1, 16, 16⟩
abbrev TER_SLOT_GAP : Fld := ⟨0xA, 0x1, 0, 16⟩
abbrev TER_FETCH : Fld := ⟨0xA, 0x2, 0, 32⟩
abbrev TER_FETCH_MAX : Fld := ⟨0xA, 0x2, 0, 16⟩
abbrev TER_DRAIN : Fld := ⟨0xA, 0x3, 0, 32⟩
abbrev TER_DRAIN_RESULT : Fld := ⟨0xA, 0x3, 24, 8⟩
abbrev TER_DRAIN_TIME : Fld := ⟨0xA, 0x3, 0, 16⟩
abbrev TER_STATUS : Fld := ⟨0xA, 0x4, 0, 32⟩
abbrev TER_STATUS_SLIPS : Fld := ⟨0xA, 0x4, 24, 8⟩
abbrev TER_STATUS_QUEUE : Fld := ⟨0xA, 0x4, 20, 4⟩
abbrev TER_STATUS_PAST_POINT : Fld := ⟨0xA, 0x4, 3, 1⟩
abbrev TER_STATUS_PRIV_PEND : Fld := ⟨0xA, 0x4, 2, 1⟩
abbrev TER_STATUS_SLOT : Fld := ⟨0xA, 0x4, 0, 2⟩
abbrev TER_PAGE : Fld := ⟨0xA, 0x5, 0, 32⟩
abbrev TER_NEXT : Fld := ⟨0xA, 0x6, 0, 32⟩
abbrev TER_SLOT_LINE : Fld := ⟨0xA, 0x7, 0, 32⟩
abbrev TER_LNUM_LO : Fld := ⟨0xA, 0x8, 0, 32⟩
abbrev TER_LNUM_HI : Fld := ⟨0xA, 0x9, 0, 32⟩
abbrev TER_LNUM_HI_LNUM : Fld := ⟨0xA, 0x9, 0, 16⟩
abbrev TER_PRIV_LINE_LO : Fld := ⟨0xA, 0xa, 0, 32⟩
abbrev TER_PRIV_LINE_HI : Fld := ⟨0xA, 0xb, 0, 32⟩
abbrev TER_PRIV_LINE_HI_V : Fld := ⟨0xA, 0xb, 0, 16⟩
abbrev TER_PRIV_CTRL : Fld := ⟨0xA, 0xc, 0, 32⟩
abbrev TER_PRIV_CTRL_ARM : Fld := ⟨0xA, 0xc, 0, 1⟩
abbrev TER_SUPPRESSED : Fld := ⟨0xA, 0xd, 0, 32⟩
abbrev TER_SLIP_CNT : Fld := ⟨0xA, 0xe, 0, 32⟩
abbrev TER_LATE_CNT : Fld := ⟨0xA, 0xf, 0, 32⟩
abbrev TER_EVENT : Fld := ⟨0xA, 0x10, 0, 32⟩
abbrev TER_EVENT_FETCH_OVER : Fld := ⟨0xA, 0x10, 9, 1⟩
abbrev TER_EVENT_DRAIN_DONE : Fld := ⟨0xA, 0x10, 8, 1⟩
abbrev TER_EVENT_ROUTE_MISS : Fld := ⟨0xA, 0x10, 7, 1⟩
abbrev TER_EVENT_PRIV_LATE : Fld := ⟨0xA, 0x10, 6, 1⟩
abbrev TER_EVENT_PRIV_APPLIED : Fld := ⟨0xA, 0x10, 5, 1⟩
abbrev TER_EVENT_PAGE_SUPPRESSED : Fld := ⟨0xA, 0x10, 4, 1⟩
abbrev TER_EVENT_NOT_READY : Fld := ⟨0xA, 0x10, 3, 1⟩
abbrev TER_EVENT_COMMIT_LATE : Fld := ⟨0xA, 0x10, 2, 1⟩
abbrev TER_EVENT_PAGE_END : Fld := ⟨0xA, 0x10, 1, 1⟩
abbrev TER_EVENT_PAGE_START : Fld := ⟨0xA, 0x10, 0, 1⟩
abbrev TER_EVENT_EN : Fld := ⟨0xA, 0x11, 0, 32⟩
abbrev TER_EVENT_EN_FETCH_OVER : Fld := ⟨0xA, 0x11, 9, 1⟩
abbrev TER_EVENT_EN_DRAIN_DONE : Fld := ⟨0xA, 0x11, 8, 1⟩
abbrev TER_EVENT_EN_ROUTE_MISS : Fld := ⟨0xA, 0x11, 7, 1⟩
abbrev TER_EVENT_EN_PRIV_LATE : Fld := ⟨0xA, 0x11, 6, 1⟩
abbrev TER_EVENT_EN_PRIV_APPLIED : Fld := ⟨0xA, 0x11, 5, 1⟩
abbrev TER_EVENT_EN_PAGE_SUPPRESSED : Fld := ⟨0xA, 0x11, 4, 1⟩
abbrev TER_EVENT_EN_NOT_READY : Fld := ⟨0xA, 0x11, 3, 1⟩
abbrev TER_EVENT_EN_COMMIT_LATE : Fld := ⟨0xA, 0x11, 2, 1⟩
abbrev TER_EVENT_EN_PAGE_END : Fld := ⟨0xA, 0x11, 1, 1⟩
abbrev TER_EVENT_EN_PAGE_START : Fld := ⟨0xA, 0x11, 0, 1⟩
abbrev TER_ROUTE_MAP (n : Nat) : Fld := ⟨0xA, 0x20 + 2 * n, 0, 32⟩
abbrev TER_ROUTE_MAP_C3 (n : Nat) : Fld := ⟨0xA, 0x20 + 2 * n, 24, 8⟩
abbrev TER_ROUTE_MAP_C2 (n : Nat) : Fld := ⟨0xA, 0x20 + 2 * n, 16, 8⟩
abbrev TER_ROUTE_MAP_C1 (n : Nat) : Fld := ⟨0xA, 0x20 + 2 * n, 8, 8⟩
abbrev TER_ROUTE_MAP_C0 (n : Nat) : Fld := ⟨0xA, 0x20 + 2 * n, 0, 8⟩
abbrev TER_ROUTE_FMT (n : Nat) : Fld := ⟨0xA, 0x21 + 2 * n, 0, 32⟩
abbrev TER_ROUTE_FMT_V (n : Nat) : Fld := ⟨0xA, 0x21 + 2 * n, 0, 4⟩
abbrev TER_T_FMT (n : Nat) : Fld := ⟨0xA, 0x40 + 8 * n, 0, 32⟩
abbrev TER_T_FMT_LB (n : Nat) : Fld := ⟨0xA, 0x40 + 8 * n, 26, 6⟩
abbrev TER_T_FMT_SRC_H (n : Nat) : Fld := ⟨0xA, 0x40 + 8 * n, 23, 3⟩
abbrev TER_T_FMT_SRC_T (n : Nat) : Fld := ⟨0xA, 0x40 + 8 * n, 20, 3⟩
abbrev TER_T_FMT_COMP (n : Nat) : Fld := ⟨0xA, 0x40 + 8 * n, 18, 2⟩
abbrev TER_T_FMT_SRC (n : Nat) : Fld := ⟨0xA, 0x40 + 8 * n, 16, 1⟩
abbrev TER_T_FMT_SCREEN (n : Nat) : Fld := ⟨0xA, 0x40 + 8 * n, 12, 2⟩
abbrev TER_T_FMT_BLEND (n : Nat) : Fld := ⟨0xA, 0x40 + 8 * n, 8, 2⟩
abbrev TER_T_FMT_REP (n : Nat) : Fld := ⟨0xA, 0x40 + 8 * n, 7, 1⟩
abbrev TER_T_FMT_FORMAT (n : Nat) : Fld := ⟨0xA, 0x40 + 8 * n, 0, 4⟩
abbrev TER_T_X0 (n : Nat) : Fld := ⟨0xA, 0x41 + 8 * n, 0, 32⟩
abbrev TER_T_X0_V (n : Nat) : Fld := ⟨0xA, 0x41 + 8 * n, 0, 16⟩
abbrev TER_T_Y0 (n : Nat) : Fld := ⟨0xA, 0x42 + 8 * n, 0, 32⟩
abbrev TER_T_W (n : Nat) : Fld := ⟨0xA, 0x43 + 8 * n, 0, 32⟩
abbrev TER_T_W_V (n : Nat) : Fld := ⟨0xA, 0x43 + 8 * n, 0, 16⟩
abbrev TER_T_H (n : Nat) : Fld := ⟨0xA, 0x44 + 8 * n, 0, 32⟩
abbrev TER_T_STRIDE (n : Nat) : Fld := ⟨0xA, 0x45 + 8 * n, 0, 32⟩
abbrev TER_T_STRIDE_V (n : Nat) : Fld := ⟨0xA, 0x45 + 8 * n, 0, 24⟩
abbrev TER_T_OFFSET (n : Nat) : Fld := ⟨0xA, 0x46 + 8 * n, 0, 32⟩
abbrev GRT_CTRL : Fld := ⟨0xB, 0x0, 0, 32⟩
abbrev GRT_CTRL_TBL_ARM : Fld := ⟨0xB, 0x0, 4, 1⟩
abbrev GRT_CTRL_DLEND_EN : Fld := ⟨0xB, 0x0, 2, 1⟩
abbrev GRT_CTRL_LEND_EN : Fld := ⟨0xB, 0x0, 1, 1⟩
abbrev GRT_CTRL_EN : Fld := ⟨0xB, 0x0, 0, 1⟩
abbrev GRT_STATUS : Fld := ⟨0xB, 0x1, 0, 32⟩
abbrev GRT_STATUS_ARM_LATE : Fld := ⟨0xB, 0x1, 3, 1⟩
abbrev GRT_STATUS_COPY : Fld := ⟨0xB, 0x1, 2, 1⟩
abbrev GRT_STATUS_ARM_PEND : Fld := ⟨0xB, 0x1, 1, 1⟩
abbrev GRT_STATUS_BANK : Fld := ⟨0xB, 0x1, 0, 1⟩
abbrev GRT_TBL_ADDR : Fld := ⟨0xB, 0x2, 0, 32⟩
abbrev GRT_TBL_ADDR_TABLE : Fld := ⟨0xB, 0x2, 28, 4⟩
abbrev GRT_TBL_ADDR_INDEX : Fld := ⟨0xB, 0x2, 0, 16⟩
abbrev GRT_TBL_DATA : Fld := ⟨0xB, 0x3, 0, 32⟩
abbrev GRT_SCR (n : Nat) : Fld := ⟨0xB, 0x4 + 1 * n, 0, 32⟩
abbrev GRT_SCR_PHY (n : Nat) : Fld := ⟨0xB, 0x4 + 1 * n, 24, 8⟩
abbrev GRT_SCR_PHX (n : Nat) : Fld := ⟨0xB, 0x4 + 1 * n, 16, 8⟩
abbrev GRT_SCR_HM1 (n : Nat) : Fld := ⟨0xB, 0x4 + 1 * n, 8, 8⟩
abbrev GRT_SCR_WM1 (n : Nat) : Fld := ⟨0xB, 0x4 + 1 * n, 0, 8⟩
abbrev GRT_LEND_LOST : Fld := ⟨0xB, 0x8, 0, 32⟩
abbrev GRT_DLEND_CLIP : Fld := ⟨0xB, 0x9, 0, 32⟩
abbrev GRT_DLEND_LOST : Fld := ⟨0xB, 0xa, 0, 32⟩
abbrev GRT_SAT : Fld := ⟨0xB, 0xb, 0, 32⟩
abbrev GRT_EVENT : Fld := ⟨0xB, 0xc, 0, 32⟩
abbrev GRT_EVENT_EN_REFUSED : Fld := ⟨0xB, 0xc, 3, 1⟩
abbrev GRT_EVENT_LEND_LOST : Fld := ⟨0xB, 0xc, 2, 1⟩
abbrev GRT_EVENT_TBL_LATE : Fld := ⟨0xB, 0xc, 1, 1⟩
abbrev GRT_EVENT_TBL_SWAP : Fld := ⟨0xB, 0xc, 0, 1⟩
abbrev GRT_EVENT_EN : Fld := ⟨0xB, 0xd, 0, 32⟩
abbrev GRT_EVENT_EN_EN_REFUSED : Fld := ⟨0xB, 0xd, 3, 1⟩
abbrev GRT_EVENT_EN_LEND_LOST : Fld := ⟨0xB, 0xd, 2, 1⟩
abbrev GRT_EVENT_EN_TBL_LATE : Fld := ⟨0xB, 0xd, 1, 1⟩
abbrev GRT_EVENT_EN_TBL_SWAP : Fld := ⟨0xB, 0xd, 0, 1⟩
abbrev ASH_CTRL : Fld := ⟨0x14, 0x0, 0, 32⟩
abbrev ASH_CTRL_PER_LINE : Fld := ⟨0x14, 0x0, 8, 8⟩
abbrev ASH_CTRL_FLUSH : Fld := ⟨0x14, 0x0, 1, 1⟩
abbrev ASH_CTRL_Q_EN : Fld := ⟨0x14, 0x0, 0, 1⟩
abbrev ASH_WIN : Fld := ⟨0x14, 0x1, 0, 32⟩
abbrev ASH_WIN_V : Fld := ⟨0x14, 0x1, 0, 6⟩
abbrev ASH_UPD_ENTRY : Fld := ⟨0x14, 0x2, 0, 32⟩
abbrev ASH_UPD_LINE_LO : Fld := ⟨0x14, 0x3, 0, 32⟩
abbrev ASH_UPD_LINE_HI : Fld := ⟨0x14, 0x4, 0, 32⟩
abbrev ASH_UPD_LINE_HI_V : Fld := ⟨0x14, 0x4, 0, 16⟩
abbrev ASH_UPD_PUSH : Fld := ⟨0x14, 0x5, 0, 32⟩
abbrev ASH_UPD_PUSH_V : Fld := ⟨0x14, 0x5, 0, 16⟩
abbrev ASH_STATUS : Fld := ⟨0x14, 0x6, 0, 32⟩
abbrev ASH_STATUS_FULL : Fld := ⟨0x14, 0x6, 9, 1⟩
abbrev ASH_STATUS_DEPTH : Fld := ⟨0x14, 0x6, 0, 9⟩
abbrev ASH_APPLIED_LO : Fld := ⟨0x14, 0x7, 0, 32⟩
abbrev ASH_APPLIED_HI : Fld := ⟨0x14, 0x8, 0, 32⟩
abbrev ASH_APPLIED_HI_V : Fld := ⟨0x14, 0x8, 0, 16⟩
abbrev ASH_LATE : Fld := ⟨0x14, 0x9, 0, 32⟩
abbrev ASH_ORDER : Fld := ⟨0x14, 0xa, 0, 32⟩
abbrev ASH_OVF : Fld := ⟨0x14, 0xb, 0, 32⟩
abbrev ASH_BAD : Fld := ⟨0x14, 0xc, 0, 32⟩
abbrev ASH_APPLIED_CNT : Fld := ⟨0x14, 0xd, 0, 32⟩
abbrev ASH_EVENT : Fld := ⟨0x14, 0xe, 0, 32⟩
abbrev ASH_EVENT_BAD : Fld := ⟨0x14, 0xe, 3, 1⟩
abbrev ASH_EVENT_OVF : Fld := ⟨0x14, 0xe, 2, 1⟩
abbrev ASH_EVENT_ORDER : Fld := ⟨0x14, 0xe, 1, 1⟩
abbrev ASH_EVENT_LATE : Fld := ⟨0x14, 0xe, 0, 1⟩
abbrev ASH_EVENT_EN : Fld := ⟨0x14, 0xf, 0, 32⟩
abbrev ASH_EVENT_EN_BAD : Fld := ⟨0x14, 0xf, 3, 1⟩
abbrev ASH_EVENT_EN_OVF : Fld := ⟨0x14, 0xf, 2, 1⟩
abbrev ASH_EVENT_EN_ORDER : Fld := ⟨0x14, 0xf, 1, 1⟩
abbrev ASH_EVENT_EN_LATE : Fld := ⟨0x14, 0xf, 0, 1⟩
abbrev FBX_CTRL : Fld := ⟨0xC, 0x0, 0, 32⟩
abbrev FBX_CTRL_LAT_POL : Fld := ⟨0xC, 0x0, 5, 1⟩
abbrev FBX_CTRL_STB_POL : Fld := ⟨0xC, 0x0, 4, 1⟩
abbrev FBX_CTRL_AUTO_PWR : Fld := ⟨0xC, 0x0, 3, 1⟩
abbrev FBX_CTRL_PWR : Fld := ⟨0xC, 0x0, 2, 1⟩
abbrev FBX_CTRL_FORCE_OFF : Fld := ⟨0xC, 0x0, 1, 1⟩
abbrev FBX_CTRL_EN : Fld := ⟨0xC, 0x0, 0, 1⟩
abbrev FBX_STATUS : Fld := ⟨0xC, 0x1, 0, 32⟩
abbrev FBX_STATUS_DRAIN_RESULT : Fld := ⟨0xC, 0x1, 16, 8⟩
abbrev FBX_STATUS_HARD : Fld := ⟨0xC, 0x1, 6, 1⟩
abbrev FBX_STATUS_SOFT : Fld := ⟨0xC, 0x1, 5, 1⟩
abbrev FBX_STATUS_PWE : Fld := ⟨0xC, 0x1, 4, 1⟩
abbrev FBX_STATUS_PRS : Fld := ⟨0xC, 0x1, 3, 1⟩
abbrev FBX_STATUS_STATE : Fld := ⟨0xC, 0x1, 0, 3⟩
abbrev FBX_HEAD : Fld := ⟨0xC, 0x2, 0, 32⟩
abbrev FBX_HEAD_CKDIV : Fld := ⟨0xC, 0x2, 20, 2⟩
abbrev FBX_HEAD_BITORD : Fld := ⟨0xC, 0x2, 17, 1⟩
abbrev FBX_HEAD_ORDER : Fld := ⟨0xC, 0x2, 16, 1⟩
abbrev FBX_HEAD_STRANDS : Fld := ⟨0xC, 0x2, 12, 4⟩
abbrev FBX_HEAD_NOZ_M1 : Fld := ⟨0xC, 0x2, 0, 10⟩
abbrev FBX_TIMING : Fld := ⟨0xC, 0x3, 0, 32⟩
abbrev FBX_TIMING_SHIFT_DLY : Fld := ⟨0xC, 0x3, 8, 12⟩
abbrev FBX_TIMING_LAT_W : Fld := ⟨0xC, 0x3, 0, 8⟩
abbrev FBX_CMAP : Fld := ⟨0xC, 0x4, 0, 32⟩
abbrev FBX_CMAP_APPLY : Fld := ⟨0xC, 0x4, 24, 1⟩
abbrev FBX_CMAP_ILV : Fld := ⟨0xC, 0x4, 17, 1⟩
abbrev FBX_CMAP_DIR : Fld := ⟨0xC, 0x4, 16, 1⟩
abbrev FBX_CMAP_START : Fld := ⟨0xC, 0x4, 0, 16⟩
abbrev FBX_CMAP_ACT : Fld := ⟨0xC, 0x5, 0, 32⟩
abbrev FBX_CMAP_ACT_RES : Fld := ⟨0xC, 0x5, 24, 8⟩
abbrev FBX_CMAP_ACT_VALID : Fld := ⟨0xC, 0x5, 23, 1⟩
abbrev FBX_CMAP_ACT_MAP : Fld := ⟨0xC, 0x5, 0, 18⟩
abbrev FBX_OVL_LO (n : Nat) : Fld := ⟨0xC, 0x6 + 1 * n, 0, 32⟩
abbrev FBX_OVL_HI (n : Nat) : Fld := ⟨0xC, 0xa + 1 * n, 0, 32⟩
abbrev FBX_PHASE (n : Nat) : Fld := ⟨0xC, 0x10 + 1 * n, 0, 32⟩
abbrev FBX_PHASE_EN (n : Nat) : Fld := ⟨0xC, 0x10 + 1 * n, 31, 1⟩
abbrev FBX_PHASE_DELAY (n : Nat) : Fld := ⟨0xC, 0x10 + 1 * n, 16, 12⟩
abbrev FBX_PHASE_TRIM (n : Nat) : Fld := ⟨0xC, 0x10 + 1 * n, 0, 8⟩
abbrev FBX_STBT (n : Nat) : Fld := ⟨0xC, 0x14 + 1 * n, 0, 32⟩
abbrev FBX_STBT_TEMP (n : Nat) : Fld := ⟨0xC, 0x14 + 1 * n, 16, 16⟩
abbrev FBX_STBT_WIDTH (n : Nat) : Fld := ⟨0xC, 0x14 + 1 * n, 0, 14⟩
abbrev FBX_VCAL : Fld := ⟨0xC, 0x1c, 0, 32⟩
abbrev FBX_VCAL_VGAIN : Fld := ⟨0xC, 0x1c, 16, 16⟩
abbrev FBX_VCAL_VREF : Fld := ⟨0xC, 0x1c, 0, 16⟩
abbrev FBX_VLIM : Fld := ⟨0xC, 0x1d, 0, 32⟩
abbrev FBX_VLIM_VMAX : Fld := ⟨0xC, 0x1d, 16, 16⟩
abbrev FBX_VLIM_VMIN : Fld := ⟨0xC, 0x1d, 0, 16⟩
abbrev FBX_TLIM : Fld := ⟨0xC, 0x1e, 0, 32⟩
abbrev FBX_TLIM_HARD : Fld := ⟨0xC, 0x1e, 16, 16⟩
abbrev FBX_TLIM_SOFT : Fld := ⟨0xC, 0x1e, 0, 16⟩
abbrev FBX_SENSE : Fld := ⟨0xC, 0x1f, 0, 32⟩
abbrev FBX_SENSE_HYST : Fld := ⟨0xC, 0x1f, 24, 8⟩
abbrev FBX_SENSE_TH_TU : Fld := ⟨0xC, 0x1f, 16, 4⟩
abbrev FBX_SENSE_TH_SRC : Fld := ⟨0xC, 0x1f, 12, 1⟩
abbrev FBX_SENSE_VS_DLY : Fld := ⟨0xC, 0x1f, 0, 12⟩
abbrev FBX_THERM (n : Nat) : Fld := ⟨0xC, 0x20 + 1 * n, 0, 32⟩
abbrev FBX_THERM_V (n : Nat) : Fld := ⟨0xC, 0x20 + 1 * n, 0, 16⟩
abbrev FBX_MEAS : Fld := ⟨0xC, 0x31, 0, 32⟩
abbrev FBX_MEAS_TEMP : Fld := ⟨0xC, 0x31, 16, 16⟩
abbrev FBX_MEAS_VHEAD : Fld := ⟨0xC, 0x31, 0, 16⟩
abbrev FBX_RAW : Fld := ⟨0xC, 0x32, 0, 32⟩
abbrev FBX_RAW_SNS : Fld := ⟨0xC, 0x32, 16, 12⟩
abbrev FBX_RAW_VHS : Fld := ⟨0xC, 0x32, 0, 12⟩
abbrev FBX_ID : Fld := ⟨0xC, 0x33, 0, 32⟩
abbrev FBX_ID_VALID : Fld := ⟨0xC, 0x33, 31, 1⟩
abbrev FBX_ID_CODE : Fld := ⟨0xC, 0x33, 0, 12⟩
abbrev FBX_WIDTH01 : Fld := ⟨0xC, 0x34, 0, 32⟩
abbrev FBX_WIDTH01_STB1 : Fld := ⟨0xC, 0x34, 16, 14⟩
abbrev FBX_WIDTH01_STB0 : Fld := ⟨0xC, 0x34, 0, 14⟩
abbrev FBX_WIDTH23 : Fld := ⟨0xC, 0x35, 0, 32⟩
abbrev FBX_WIDTH23_STB3 : Fld := ⟨0xC, 0x35, 16, 14⟩
abbrev FBX_WIDTH23_STB2 : Fld := ⟨0xC, 0x35, 0, 14⟩
abbrev FBX_HOTPLUG : Fld := ⟨0xC, 0x36, 0, 32⟩
abbrev FBX_HOTPLUG_SETTLE : Fld := ⟨0xC, 0x36, 8, 8⟩
abbrev FBX_HOTPLUG_DEB : Fld := ⟨0xC, 0x36, 0, 8⟩
abbrev FBX_EVENT : Fld := ⟨0xC, 0x37, 0, 32⟩
abbrev FBX_EVENT_DRAIN_DONE : Fld := ⟨0xC, 0x37, 11, 1⟩
abbrev FBX_EVENT_CMAP_BAD : Fld := ⟨0xC, 0x37, 10, 1⟩
abbrev FBX_EVENT_CMAP_DONE : Fld := ⟨0xC, 0x37, 9, 1⟩
abbrev FBX_EVENT_STB_TRUNC : Fld := ⟨0xC, 0x37, 8, 1⟩
abbrev FBX_EVENT_UNDERRUN : Fld := ⟨0xC, 0x37, 7, 1⟩
abbrev FBX_EVENT_VLIM : Fld := ⟨0xC, 0x37, 6, 1⟩
abbrev FBX_EVENT_COOL : Fld := ⟨0xC, 0x37, 5, 1⟩
abbrev FBX_EVENT_HARD : Fld := ⟨0xC, 0x37, 4, 1⟩
abbrev FBX_EVENT_SOFT : Fld := ⟨0xC, 0x37, 3, 1⟩
abbrev FBX_EVENT_ID_READ : Fld := ⟨0xC, 0x37, 2, 1⟩
abbrev FBX_EVENT_HEAD_OUT : Fld := ⟨0xC, 0x37, 1, 1⟩
abbrev FBX_EVENT_HEAD_IN : Fld := ⟨0xC, 0x37, 0, 1⟩
abbrev FBX_EVENT_EN : Fld := ⟨0xC, 0x38, 0, 32⟩
abbrev FBX_EVENT_EN_DRAIN_DONE : Fld := ⟨0xC, 0x38, 11, 1⟩
abbrev FBX_EVENT_EN_CMAP_BAD : Fld := ⟨0xC, 0x38, 10, 1⟩
abbrev FBX_EVENT_EN_CMAP_DONE : Fld := ⟨0xC, 0x38, 9, 1⟩
abbrev FBX_EVENT_EN_STB_TRUNC : Fld := ⟨0xC, 0x38, 8, 1⟩
abbrev FBX_EVENT_EN_UNDERRUN : Fld := ⟨0xC, 0x38, 7, 1⟩
abbrev FBX_EVENT_EN_VLIM : Fld := ⟨0xC, 0x38, 6, 1⟩
abbrev FBX_EVENT_EN_COOL : Fld := ⟨0xC, 0x38, 5, 1⟩
abbrev FBX_EVENT_EN_HARD : Fld := ⟨0xC, 0x38, 4, 1⟩
abbrev FBX_EVENT_EN_SOFT : Fld := ⟨0xC, 0x38, 3, 1⟩
abbrev FBX_EVENT_EN_ID_READ : Fld := ⟨0xC, 0x38, 2, 1⟩
abbrev FBX_EVENT_EN_HEAD_OUT : Fld := ⟨0xC, 0x38, 1, 1⟩
abbrev FBX_EVENT_EN_HEAD_IN : Fld := ⟨0xC, 0x38, 0, 1⟩
abbrev FBX_CEIL_CNT : Fld := ⟨0xC, 0x39, 0, 32⟩
abbrev FBX_STOP_LINES : Fld := ⟨0xC, 0x3a, 0, 32⟩
abbrev FBX_VLIM_LINES : Fld := ⟨0xC, 0x3b, 0, 32⟩
abbrev FBX_UNDERRUN : Fld := ⟨0xC, 0x3c, 0, 32⟩
abbrev FBX_STB_TRUNC : Fld := ⟨0xC, 0x3d, 0, 32⟩
abbrev DRT_CTRL : Fld := ⟨0xD, 0x0, 0, 32⟩
abbrev DRT_CTRL_RESUME : Fld := ⟨0xD, 0x0, 25, 1⟩
abbrev DRT_CTRL_START_ARM : Fld := ⟨0xD, 0x0, 24, 1⟩
abbrev DRT_CTRL_REV : Fld := ⟨0xD, 0x0, 16, 3⟩
abbrev DRT_CTRL_BW : Fld := ⟨0xD, 0x0, 12, 3⟩
abbrev DRT_CTRL_SRC : Fld := ⟨0xD, 0x0, 8, 3⟩
abbrev DRT_CTRL_CNT_NEG : Fld := ⟨0xD, 0x0, 6, 1⟩
abbrev DRT_CTRL_MODE : Fld := ⟨0xD, 0x0, 4, 2⟩
abbrev DRT_CTRL_EN : Fld := ⟨0xD, 0x0, 0, 1⟩
abbrev DRT_RATIO_N : Fld := ⟨0xD, 0x1, 0, 32⟩
abbrev DRT_RATIO_N_V : Fld := ⟨0xD, 0x1, 0, 24⟩
abbrev DRT_RATIO_M : Fld := ⟨0xD, 0x2, 0, 32⟩
abbrev DRT_RATIO_M_V : Fld := ⟨0xD, 0x2, 0, 24⟩
abbrev DRT_START : Fld := ⟨0xD, 0x3, 0, 32⟩
abbrev DRT_START_FRAC : Fld := ⟨0xD, 0x4, 0, 32⟩
abbrev DRT_START_FRAC_V : Fld := ⟨0xD, 0x4, 0, 16⟩
abbrev DRT_INT_PERIOD : Fld := ⟨0xD, 0x5, 0, 32⟩
abbrev DRT_INT_PERIOD_INTERNAL : Fld := ⟨0xD, 0x5, 0, 16⟩
abbrev DRT_STATUS : Fld := ⟨0xD, 0x6, 0, 32⟩
abbrev DRT_STATUS_FEED_BUSY : Fld := ⟨0xD, 0x6, 14, 1⟩
abbrev DRT_STATUS_PASS : Fld := ⟨0xD, 0x6, 8, 6⟩
abbrev DRT_STATUS_PEND : Fld := ⟨0xD, 0x6, 4, 1⟩
abbrev DRT_STATUS_LOCK : Fld := ⟨0xD, 0x6, 3, 1⟩
abbrev DRT_STATUS_STATE : Fld := ⟨0xD, 0x6, 0, 3⟩
abbrev DRT_OMEGA : Fld := ⟨0xD, 0x7, 0, 32⟩
abbrev DRT_PHERR : Fld := ⟨0xD, 0x8, 0, 32⟩
abbrev DRT_COUNT : Fld := ⟨0xD, 0x9, 0, 32⟩
abbrev DRT_LOCK_CFG : Fld := ⟨0xD, 0xa, 0, 32⟩
abbrev DRT_LOCK_CFG_THR : Fld := ⟨0xD, 0xa, 0, 16⟩
abbrev DRT_SCAN : Fld := ⟨0xD, 0xb, 0, 32⟩
abbrev DRT_SCAN_FIRST : Fld := ⟨0xD, 0xb, 16, 6⟩
abbrev DRT_SCAN_LOOP_TO : Fld := ⟨0xD, 0xb, 8, 6⟩
abbrev DRT_SCAN_FEED_WAIT : Fld := ⟨0xD, 0xb, 3, 1⟩
abbrev DRT_SCAN_FEED_AX : Fld := ⟨0xD, 0xb, 0, 3⟩
abbrev DRT_EVENT : Fld := ⟨0xD, 0xc, 0, 32⟩
abbrev DRT_EVENT_FEED_LATE : Fld := ⟨0xD, 0xc, 10, 1⟩
abbrev DRT_EVENT_PASS_END : Fld := ⟨0xD, 0xc, 9, 1⟩
abbrev DRT_EVENT_DEFECT : Fld := ⟨0xD, 0xc, 8, 1⟩
abbrev DRT_EVENT_SRC_FAULT : Fld := ⟨0xD, 0xc, 7, 1⟩
abbrev DRT_EVENT_OVERSPEED : Fld := ⟨0xD, 0xc, 6, 1⟩
abbrev DRT_EVENT_RESUMED : Fld := ⟨0xD, 0xc, 5, 1⟩
abbrev DRT_EVENT_REVERSE : Fld := ⟨0xD, 0xc, 4, 1⟩
abbrev DRT_EVENT_START_LATE : Fld := ⟨0xD, 0xc, 3, 1⟩
abbrev DRT_EVENT_START : Fld := ⟨0xD, 0xc, 2, 1⟩
abbrev DRT_EVENT_UNLOCK : Fld := ⟨0xD, 0xc, 1, 1⟩
abbrev DRT_EVENT_LOCK : Fld := ⟨0xD, 0xc, 0, 1⟩
abbrev DRT_EVENT_EN : Fld := ⟨0xD, 0xd, 0, 32⟩
abbrev DRT_EVENT_EN_FEED_LATE : Fld := ⟨0xD, 0xd, 10, 1⟩
abbrev DRT_EVENT_EN_PASS_END : Fld := ⟨0xD, 0xd, 9, 1⟩
abbrev DRT_EVENT_EN_DEFECT : Fld := ⟨0xD, 0xd, 8, 1⟩
abbrev DRT_EVENT_EN_SRC_FAULT : Fld := ⟨0xD, 0xd, 7, 1⟩
abbrev DRT_EVENT_EN_OVERSPEED : Fld := ⟨0xD, 0xd, 6, 1⟩
abbrev DRT_EVENT_EN_RESUMED : Fld := ⟨0xD, 0xd, 5, 1⟩
abbrev DRT_EVENT_EN_REVERSE : Fld := ⟨0xD, 0xd, 4, 1⟩
abbrev DRT_EVENT_EN_START_LATE : Fld := ⟨0xD, 0xd, 3, 1⟩
abbrev DRT_EVENT_EN_START : Fld := ⟨0xD, 0xd, 2, 1⟩
abbrev DRT_EVENT_EN_UNLOCK : Fld := ⟨0xD, 0xd, 1, 1⟩
abbrev DRT_EVENT_EN_LOCK : Fld := ⟨0xD, 0xd, 0, 1⟩
abbrev DRT_REV_CNT : Fld := ⟨0xD, 0xe, 0, 32⟩
abbrev DRT_JITTER : Fld := ⟨0xD, 0xf, 0, 32⟩
abbrev DRT_OVERSPEED : Fld := ⟨0xD, 0x10, 0, 32⟩
abbrev DRT_DEFECT_PAGE : Fld := ⟨0xD, 0x11, 0, 32⟩
abbrev DRT_DEFECT_WHY : Fld := ⟨0xD, 0x12, 0, 32⟩
abbrev DRT_DEFECT_WHY_PORT : Fld := ⟨0xD, 0x12, 8, 4⟩
abbrev DRT_DEFECT_WHY_REASON : Fld := ⟨0xD, 0x12, 0, 8⟩
abbrev DRT_PASS_START (n : Nat) : Fld := ⟨0xD, 0x40 + 4 * n, 0, 32⟩
abbrev DRT_PASS_CTRL (n : Nat) : Fld := ⟨0xD, 0x41 + 4 * n, 0, 32⟩
abbrev DRT_PASS_CTRL_END (n : Nat) : Fld := ⟨0xD, 0x41 + 4 * n, 31, 1⟩
abbrev DRT_PASS_CTRL_DIR (n : Nat) : Fld := ⟨0xD, 0x41 + 4 * n, 30, 1⟩
abbrev DRT_PASS_CTRL_MSTEP (n : Nat) : Fld := ⟨0xD, 0x41 + 4 * n, 24, 5⟩
abbrev DRT_PASS_CTRL_LINES (n : Nat) : Fld := ⟨0xD, 0x41 + 4 * n, 0, 16⟩
abbrev DRT_PASS_FEED (n : Nat) : Fld := ⟨0xD, 0x42 + 4 * n, 0, 32⟩
abbrev DRT_PASS_FEED_FEED (n : Nat) : Fld := ⟨0xD, 0x42 + 4 * n, 0, 24⟩
abbrev DRT_PASS_MASK (n : Nat) : Fld := ⟨0xD, 0x43 + 4 * n, 0, 32⟩
abbrev DMP_CTRL : Fld := ⟨0xE, 0x0, 0, 32⟩
abbrev DMP_CTRL_HEAD_EN : Fld := ⟨0xE, 0x0, 1, 1⟩
abbrev DMP_CTRL_NOZ_EN : Fld := ⟨0xE, 0x0, 0, 1⟩
abbrev DMP_NOZ : Fld := ⟨0xE, 0x1, 0, 32⟩
abbrev DMP_NOZ_V : Fld := ⟨0xE, 0x1, 0, 9⟩
abbrev DMP_WIN : Fld := ⟨0xE, 0x2, 0, 32⟩
abbrev DMP_WIN_WINDOW : Fld := ⟨0xE, 0x2, 0, 7⟩
abbrev DMP_STATUS : Fld := ⟨0xE, 0x3, 0, 32⟩
abbrev DMP_STATUS_OVER : Fld := ⟨0xE, 0x3, 0, 12⟩
abbrev DMP_NOZ_SUP : Fld := ⟨0xE, 0x4, 0, 32⟩
abbrev DMP_HEAD_SUP : Fld := ⟨0xE, 0x5, 0, 32⟩
abbrev DMP_EVENT : Fld := ⟨0xE, 0x6, 0, 32⟩
abbrev DMP_EVENT_HEAD_SUP : Fld := ⟨0xE, 0x6, 1, 1⟩
abbrev DMP_EVENT_NOZ_SUP : Fld := ⟨0xE, 0x6, 0, 1⟩
abbrev DMP_EVENT_EN : Fld := ⟨0xE, 0x7, 0, 32⟩
abbrev DMP_EVENT_EN_HEAD_SUP : Fld := ⟨0xE, 0x7, 1, 1⟩
abbrev DMP_EVENT_EN_NOZ_SUP : Fld := ⟨0xE, 0x7, 0, 1⟩
abbrev DMP_BUDGET (n : Nat) : Fld := ⟨0xE, 0x10 + 2 * n, 0, 32⟩
abbrev DMP_EL (n : Nat) : Fld := ⟨0xE, 0x11 + 2 * n, 0, 32⟩
abbrev DMP_EL_EL3 (n : Nat) : Fld := ⟨0xE, 0x11 + 2 * n, 16, 8⟩
abbrev DMP_EL_EL2 (n : Nat) : Fld := ⟨0xE, 0x11 + 2 * n, 8, 8⟩
abbrev DMP_EL_EL1 (n : Nat) : Fld := ⟨0xE, 0x11 + 2 * n, 0, 8⟩
abbrev FND_CTRL : Fld := ⟨0xF, 0x0, 0, 32⟩
abbrev FND_CTRL_FILT : Fld := ⟨0xF, 0x0, 16, 8⟩
abbrev FND_CTRL_LATCH : Fld := ⟨0xF, 0x0, 8, 8⟩
abbrev FND_CTRL_EN : Fld := ⟨0xF, 0x0, 0, 8⟩
abbrev FND_STATUS : Fld := ⟨0xF, 0x1, 0, 32⟩
abbrev FND_STATUS_ACTIVE : Fld := ⟨0xF, 0x1, 8, 8⟩
abbrev FND_STATUS_PIN : Fld := ⟨0xF, 0x1, 0, 8⟩
abbrev FND_LATCHED : Fld := ⟨0xF, 0x2, 0, 32⟩
abbrev FND_LATCHED_V : Fld := ⟨0xF, 0x2, 0, 8⟩
abbrev FND_EVENT : Fld := ⟨0xF, 0x3, 0, 32⟩
abbrev FND_EVENT_RELEASE : Fld := ⟨0xF, 0x3, 8, 8⟩
abbrev FND_EVENT_ASSERT : Fld := ⟨0xF, 0x3, 0, 8⟩
abbrev FND_EVENT_EN : Fld := ⟨0xF, 0x4, 0, 32⟩
abbrev FND_EVENT_EN_RELEASE : Fld := ⟨0xF, 0x4, 8, 8⟩
abbrev FND_EVENT_EN_ASSERT : Fld := ⟨0xF, 0x4, 0, 8⟩
abbrev FND_GATED_LINES : Fld := ⟨0xF, 0x5, 0, 32⟩
abbrev CAM_CTRL : Fld := ⟨0x12, 0x0, 0, 32⟩
abbrev CAM_CTRL_VC : Fld := ⟨0x12, 0x0, 12, 4⟩
abbrev CAM_CTRL_DT : Fld := ⟨0x12, 0x0, 10, 1⟩
abbrev CAM_CTRL_LANES : Fld := ⟨0x12, 0x0, 8, 2⟩
abbrev CAM_CTRL_FORCE_OFF : Fld := ⟨0x12, 0x0, 1, 1⟩
abbrev CAM_CTRL_EN : Fld := ⟨0x12, 0x0, 0, 1⟩
abbrev CAM_STATUS : Fld := ⟨0x12, 0x1, 0, 32⟩
abbrev CAM_STATUS_DRAIN_RESULT : Fld := ⟨0x12, 0x1, 24, 8⟩
abbrev CAM_STATUS_BUF : Fld := ⟨0x12, 0x1, 16, 8⟩
abbrev CAM_STATUS_STATE : Fld := ⟨0x12, 0x1, 0, 3⟩
abbrev CAM_GEOM : Fld := ⟨0x12, 0x2, 0, 32⟩
abbrev CAM_GEOM_LINES : Fld := ⟨0x12, 0x2, 16, 9⟩
abbrev CAM_GEOM_WIDTH : Fld := ⟨0x12, 0x2, 0, 14⟩
abbrev CAM_TRIG : Fld := ⟨0x12, 0x3, 0, 32⟩
abbrev CAM_TRIG_PW : Fld := ⟨0x12, 0x3, 24, 8⟩
abbrev CAM_TRIG_TU : Fld := ⟨0x12, 0x3, 4, 4⟩
abbrev CAM_TRIG_MODE : Fld := ⟨0x12, 0x3, 0, 2⟩
abbrev CAM_TRIG_STEP : Fld := ⟨0x12, 0x4, 0, 32⟩
abbrev CAM_PITCH : Fld := ⟨0x12, 0x5, 0, 32⟩
abbrev CAM_PITCH_V : Fld := ⟨0x12, 0x5, 0, 24⟩
abbrev CAM_ORIGIN : Fld := ⟨0x12, 0x6, 0, 32⟩
abbrev CAM_ORIGIN_FRAC : Fld := ⟨0x12, 0x7, 0, 32⟩
abbrev CAM_ORIGIN_FRAC_V : Fld := ⟨0x12, 0x7, 0, 16⟩
abbrev CAM_COL0 : Fld := ⟨0x12, 0x8, 0, 32⟩
abbrev CAM_COL0_V : Fld := ⟨0x12, 0x8, 0, 16⟩
abbrev CAM_SCALE : Fld := ⟨0x12, 0x9, 0, 32⟩
abbrev CAM_SCALE_V : Fld := ⟨0x12, 0x9, 0, 20⟩
abbrev CAM_FSTAT : Fld := ⟨0x12, 0xa, 0, 32⟩
abbrev CAM_FSTAT_LINE_ERR : Fld := ⟨0x12, 0xa, 28, 1⟩
abbrev CAM_FSTAT_DROP : Fld := ⟨0x12, 0xa, 27, 1⟩
abbrev CAM_FSTAT_LONG : Fld := ⟨0x12, 0xa, 26, 1⟩
abbrev CAM_FSTAT_SHORT : Fld := ⟨0x12, 0xa, 25, 1⟩
abbrev CAM_FSTAT_ROWS : Fld := ⟨0x12, 0xa, 0, 9⟩
abbrev CAM_FNUM : Fld := ⟨0x12, 0xb, 0, 32⟩
abbrev CAM_I2C : Fld := ⟨0x12, 0xc, 0, 32⟩
abbrev CAM_I2C_SPEED : Fld := ⟨0x12, 0xc, 1, 2⟩
abbrev CAM_I2C_EN : Fld := ⟨0x12, 0xc, 0, 1⟩
abbrev CAM_EVENT : Fld := ⟨0x12, 0xd, 0, 32⟩
abbrev CAM_EVENT_DRAIN_DONE : Fld := ⟨0x12, 0xd, 7, 1⟩
abbrev CAM_EVENT_DT_BAD : Fld := ⟨0x12, 0xd, 6, 1⟩
abbrev CAM_EVENT_LINE_ERR : Fld := ⟨0x12, 0xd, 5, 1⟩
abbrev CAM_EVENT_DROP : Fld := ⟨0x12, 0xd, 4, 1⟩
abbrev CAM_EVENT_LONG : Fld := ⟨0x12, 0xd, 3, 1⟩
abbrev CAM_EVENT_SHORT : Fld := ⟨0x12, 0xd, 2, 1⟩
abbrev CAM_EVENT_LINK_DOWN : Fld := ⟨0x12, 0xd, 1, 1⟩
abbrev CAM_EVENT_LINK_UP : Fld := ⟨0x12, 0xd, 0, 1⟩
abbrev CAM_EVENT_EN : Fld := ⟨0x12, 0xe, 0, 32⟩
abbrev CAM_EVENT_EN_DRAIN_DONE : Fld := ⟨0x12, 0xe, 7, 1⟩
abbrev CAM_EVENT_EN_DT_BAD : Fld := ⟨0x12, 0xe, 6, 1⟩
abbrev CAM_EVENT_EN_LINE_ERR : Fld := ⟨0x12, 0xe, 5, 1⟩
abbrev CAM_EVENT_EN_DROP : Fld := ⟨0x12, 0xe, 4, 1⟩
abbrev CAM_EVENT_EN_LONG : Fld := ⟨0x12, 0xe, 3, 1⟩
abbrev CAM_EVENT_EN_SHORT : Fld := ⟨0x12, 0xe, 2, 1⟩
abbrev CAM_EVENT_EN_LINK_DOWN : Fld := ⟨0x12, 0xe, 1, 1⟩
abbrev CAM_EVENT_EN_LINK_UP : Fld := ⟨0x12, 0xe, 0, 1⟩
abbrev CAM_FRAMES : Fld := ⟨0x12, 0xf, 0, 32⟩
abbrev CAM_SHORT : Fld := ⟨0x12, 0x10, 0, 32⟩
abbrev CAM_LONG_LINES : Fld := ⟨0x12, 0x11, 0, 32⟩
abbrev CAM_DROPPED : Fld := ⟨0x12, 0x12, 0, 32⟩
abbrev CAM_LINE_ERR : Fld := ⟨0x12, 0x13, 0, 32⟩
abbrev CAM_ECC_CORR : Fld := ⟨0x12, 0x14, 0, 32⟩
abbrev CAM_CORR (n : Nat) : Fld := ⟨0x12, 0x40 + 1 * n, 0, 32⟩
abbrev CAM_CORR_CORR (n : Nat) : Fld := ⟨0x12, 0x40 + 1 * n, 0, 16⟩
abbrev ISP_CTRL : Fld := ⟨0x13, 0x0, 0, 32⟩
abbrev ISP_CTRL_MOSAIC : Fld := ⟨0x13, 0x0, 20, 3⟩
abbrev ISP_CTRL_PHY : Fld := ⟨0x13, 0x0, 18, 2⟩
abbrev ISP_CTRL_PHX : Fld := ⟨0x13, 0x0, 16, 2⟩
abbrev ISP_CTRL_TNR_DEPTH : Fld := ⟨0x13, 0x0, 14, 2⟩
abbrev ISP_CTRL_SNR : Fld := ⟨0x13, 0x0, 12, 2⟩
abbrev ISP_CTRL_PRIO : Fld := ⟨0x13, 0x0, 8, 1⟩
abbrev ISP_CTRL_APPLY : Fld := ⟨0x13, 0x0, 4, 1⟩
abbrev ISP_CTRL_CMP_EN : Fld := ⟨0x13, 0x0, 3, 1⟩
abbrev ISP_CTRL_ECHO_EN : Fld := ⟨0x13, 0x0, 2, 1⟩
abbrev ISP_CTRL_FORCE_OFF : Fld := ⟨0x13, 0x0, 1, 1⟩
abbrev ISP_CTRL_EN : Fld := ⟨0x13, 0x0, 0, 1⟩
abbrev ISP_STATUS : Fld := ⟨0x13, 0x1, 0, 32⟩
abbrev ISP_STATUS_DRAIN_RESULT : Fld := ⟨0x13, 0x1, 24, 8⟩
abbrev ISP_STATUS_LOAD : Fld := ⟨0x13, 0x1, 16, 8⟩
abbrev ISP_STATUS_STATE : Fld := ⟨0x13, 0x1, 0, 2⟩
abbrev ISP_SNR : Fld := ⟨0x13, 0x2, 0, 32⟩
abbrev ISP_SNR_THR : Fld := ⟨0x13, 0x2, 0, 12⟩
abbrev ISP_DM : Fld := ⟨0x13, 0x3, 0, 32⟩
abbrev ISP_DM_IRSUB_B : Fld := ⟨0x13, 0x3, 16, 8⟩
abbrev ISP_DM_IRSUB_G : Fld := ⟨0x13, 0x3, 8, 8⟩
abbrev ISP_DM_IRSUB_R : Fld := ⟨0x13, 0x3, 0, 8⟩
abbrev ISP_ECHO_BASE_LO : Fld := ⟨0x13, 0x4, 0, 32⟩
abbrev ISP_ECHO_BASE_HI : Fld := ⟨0x13, 0x5, 0, 32⟩
abbrev ISP_ECHO_SIZE_LO : Fld := ⟨0x13, 0x6, 0, 32⟩
abbrev ISP_ECHO_SIZE_HI : Fld := ⟨0x13, 0x7, 0, 32⟩
abbrev ISP_META_BASE_LO : Fld := ⟨0x13, 0x8, 0, 32⟩
abbrev ISP_META_BASE_HI : Fld := ⟨0x13, 0x9, 0, 32⟩
abbrev ISP_STAT_BASE_LO : Fld := ⟨0x13, 0xa, 0, 32⟩
abbrev ISP_STAT_BASE_HI : Fld := ⟨0x13, 0xb, 0, 32⟩
abbrev ISP_STAT_CFG : Fld := ⟨0x13, 0xc, 0, 32⟩
abbrev ISP_STAT_CFG_DEPTH : Fld := ⟨0x13, 0xc, 0, 16⟩
abbrev ISP_DLUT_ADDR : Fld := ⟨0x13, 0xd, 0, 32⟩
abbrev ISP_DLUT_ADDR_V : Fld := ⟨0x13, 0xd, 0, 12⟩
abbrev ISP_DLUT_DATA : Fld := ⟨0x13, 0xe, 0, 32⟩
abbrev ISP_DLUT_DATA_V : Fld := ⟨0x13, 0xe, 0, 16⟩
abbrev ISP_BASE01 : Fld := ⟨0x13, 0xf, 0, 32⟩
abbrev ISP_BASE01_G : Fld := ⟨0x13, 0xf, 16, 16⟩
abbrev ISP_BASE01_R : Fld := ⟨0x13, 0xf, 0, 16⟩
abbrev ISP_BASE23 : Fld := ⟨0x13, 0x10, 0, 32⟩
abbrev ISP_BASE23_X : Fld := ⟨0x13, 0x10, 16, 16⟩
abbrev ISP_BASE23_B : Fld := ⟨0x13, 0x10, 0, 16⟩
abbrev ISP_WIN : Fld := ⟨0x13, 0x11, 0, 32⟩
abbrev ISP_WIN_CONFIRM : Fld := ⟨0x13, 0x11, 20, 4⟩
abbrev ISP_WIN_SAMPLES : Fld := ⟨0x13, 0x11, 0, 16⟩
abbrev ISP_THR : Fld := ⟨0x13, 0x12, 0, 32⟩
abbrev ISP_THR_DEAD : Fld := ⟨0x13, 0x12, 16, 16⟩
abbrev ISP_THR_WEAK : Fld := ⟨0x13, 0x12, 0, 16⟩
abbrev ISP_VERDICT : Fld := ⟨0x13, 0x13, 0, 32⟩
abbrev ISP_VERDICT_LEAD : Fld := ⟨0x13, 0x13, 16, 16⟩
abbrev ISP_VERDICT_DEAD_LEND : Fld := ⟨0x13, 0x13, 8, 8⟩
abbrev ISP_VERDICT_WEAK_GAIN : Fld := ⟨0x13, 0x13, 0, 8⟩
abbrev ISP_CLOSE : Fld := ⟨0x13, 0x14, 0, 32⟩
abbrev ISP_CLOSE_TIMEOUT : Fld := ⟨0x13, 0x14, 16, 16⟩
abbrev ISP_CLOSE_MARGIN : Fld := ⟨0x13, 0x14, 0, 16⟩
abbrev ISP_GEOM : Fld := ⟨0x13, 0x15, 0, 32⟩
abbrev ISP_GEOM_FY : Fld := ⟨0x13, 0x15, 0, 4⟩
abbrev ISP_COL (n : Nat) : Fld := ⟨0x13, 0x20 + 4 * n, 0, 32⟩
abbrev ISP_COL_EN (n : Nat) : Fld := ⟨0x13, 0x20 + 4 * n, 31, 1⟩
abbrev ISP_COL_CH (n : Nat) : Fld := ⟨0x13, 0x20 + 4 * n, 24, 2⟩
abbrev ISP_COL_XOFS (n : Nat) : Fld := ⟨0x13, 0x20 + 4 * n, 0, 16⟩
abbrev ISP_VOL (n : Nat) : Fld := ⟨0x13, 0x21 + 4 * n, 0, 32⟩
abbrev ISP_VOL_CAP (n : Nat) : Fld := ⟨0x13, 0x21 + 4 * n, 24, 8⟩
abbrev ISP_VOL_VOL3 (n : Nat) : Fld := ⟨0x13, 0x21 + 4 * n, 16, 8⟩
abbrev ISP_VOL_VOL2 (n : Nat) : Fld := ⟨0x13, 0x21 + 4 * n, 8, 8⟩
abbrev ISP_VOL_VOL1 (n : Nat) : Fld := ⟨0x13, 0x21 + 4 * n, 0, 8⟩
abbrev ISP_ABS (n : Nat) : Fld := ⟨0x13, 0x22 + 4 * n, 0, 32⟩
abbrev ISP_ABS_X (n : Nat) : Fld := ⟨0x13, 0x22 + 4 * n, 24, 8⟩
abbrev ISP_ABS_B (n : Nat) : Fld := ⟨0x13, 0x22 + 4 * n, 16, 8⟩
abbrev ISP_ABS_G (n : Nat) : Fld := ⟨0x13, 0x22 + 4 * n, 8, 8⟩
abbrev ISP_ABS_R (n : Nat) : Fld := ⟨0x13, 0x22 + 4 * n, 0, 8⟩
abbrev ISP_KERN (n : Nat) : Fld := ⟨0x13, 0x23 + 4 * n, 0, 32⟩
abbrev ISP_KERN_K2 (n : Nat) : Fld := ⟨0x13, 0x23 + 4 * n, 8, 8⟩
abbrev ISP_KERN_K1 (n : Nat) : Fld := ⟨0x13, 0x23 + 4 * n, 0, 8⟩
abbrev ISP_EVENT : Fld := ⟨0x13, 0x40, 0, 32⟩
abbrev ISP_EVENT_DRAIN_DONE : Fld := ⟨0x13, 0x40, 7, 1⟩
abbrev ISP_EVENT_OUT_OVR : Fld := ⟨0x13, 0x40, 6, 1⟩
abbrev ISP_EVENT_CLOSE_TIMEOUT : Fld := ⟨0x13, 0x40, 5, 1⟩
abbrev ISP_EVENT_LATE : Fld := ⟨0x13, 0x40, 4, 1⟩
abbrev ISP_EVENT_ECHO_MISS : Fld := ⟨0x13, 0x40, 3, 1⟩
abbrev ISP_EVENT_SKIP : Fld := ⟨0x13, 0x40, 2, 1⟩
abbrev ISP_EVENT_APPLIED : Fld := ⟨0x13, 0x40, 1, 1⟩
abbrev ISP_EVENT_VERDICT : Fld := ⟨0x13, 0x40, 0, 1⟩
abbrev ISP_EVENT_EN : Fld := ⟨0x13, 0x41, 0, 32⟩
abbrev ISP_EVENT_EN_DRAIN_DONE : Fld := ⟨0x13, 0x41, 7, 1⟩
abbrev ISP_EVENT_EN_OUT_OVR : Fld := ⟨0x13, 0x41, 6, 1⟩
abbrev ISP_EVENT_EN_CLOSE_TIMEOUT : Fld := ⟨0x13, 0x41, 5, 1⟩
abbrev ISP_EVENT_EN_LATE : Fld := ⟨0x13, 0x41, 4, 1⟩
abbrev ISP_EVENT_EN_ECHO_MISS : Fld := ⟨0x13, 0x41, 3, 1⟩
abbrev ISP_EVENT_EN_SKIP : Fld := ⟨0x13, 0x41, 2, 1⟩
abbrev ISP_EVENT_EN_APPLIED : Fld := ⟨0x13, 0x41, 1, 1⟩
abbrev ISP_EVENT_EN_VERDICT : Fld := ⟨0x13, 0x41, 0, 1⟩
abbrev ISP_ROWS : Fld := ⟨0x13, 0x42, 0, 32⟩
abbrev ISP_ECHO_MISS : Fld := ⟨0x13, 0x43, 0, 32⟩
abbrev ISP_VERDICT_TX : Fld := ⟨0x13, 0x44, 0, 32⟩
abbrev ISP_APPLIED : Fld := ⟨0x13, 0x45, 0, 32⟩
abbrev ISP_SKIP : Fld := ⟨0x13, 0x46, 0, 32⟩
abbrev ISP_LATE : Fld := ⟨0x13, 0x47, 0, 32⟩
abbrev ISP_EXCESS : Fld := ⟨0x13, 0x48, 0, 32⟩
abbrev ISP_OUT_OVR : Fld := ⟨0x13, 0x49, 0, 32⟩
abbrev ISP_LAST_VERDICT : Fld := ⟨0x13, 0x4a, 0, 32⟩
abbrev ISP_LAST_VERDICT_KIND : Fld := ⟨0x13, 0x4a, 30, 2⟩
abbrev ISP_LAST_VERDICT_HEARTH : Fld := ⟨0x13, 0x4a, 27, 3⟩
abbrev ISP_LAST_VERDICT_COL : Fld := ⟨0x13, 0x4a, 0, 16⟩
abbrev ISP_OUT_CTRL (n : Nat) : Fld := ⟨0x13, 0x80 + 8 * n, 0, 32⟩
abbrev ISP_OUT_CTRL_EN (n : Nat) : Fld := ⟨0x13, 0x80 + 8 * n, 31, 1⟩
abbrev ISP_OUT_CTRL_MASK (n : Nat) : Fld := ⟨0x13, 0x80 + 8 * n, 24, 4⟩
abbrev ISP_OUT_CTRL_VSH (n : Nat) : Fld := ⟨0x13, 0x80 + 8 * n, 20, 2⟩
abbrev ISP_OUT_CTRL_HSH (n : Nat) : Fld := ⟨0x13, 0x80 + 8 * n, 16, 2⟩
abbrev ISP_OUT_CTRL_PORTS (n : Nat) : Fld := ⟨0x13, 0x80 + 8 * n, 8, 2⟩
abbrev ISP_OUT_CTRL_FMT16 (n : Nat) : Fld := ⟨0x13, 0x80 + 8 * n, 0, 1⟩
abbrev ISP_OUT_X0 (n : Nat) : Fld := ⟨0x13, 0x81 + 8 * n, 0, 32⟩
abbrev ISP_OUT_X0_V (n : Nat) : Fld := ⟨0x13, 0x81 + 8 * n, 0, 14⟩
abbrev ISP_OUT_W (n : Nat) : Fld := ⟨0x13, 0x82 + 8 * n, 0, 32⟩
abbrev ISP_OUT_W_CROP_ROWS (n : Nat) : Fld := ⟨0x13, 0x82 + 8 * n, 16, 9⟩
abbrev ISP_OUT_W_W (n : Nat) : Fld := ⟨0x13, 0x82 + 8 * n, 0, 14⟩
abbrev ISP_OUT_BASE_LO (n : Nat) : Fld := ⟨0x13, 0x83 + 8 * n, 0, 32⟩
abbrev ISP_OUT_BASE_HI (n : Nat) : Fld := ⟨0x13, 0x84 + 8 * n, 0, 32⟩
abbrev ISP_OUT_SIZE (n : Nat) : Fld := ⟨0x13, 0x85 + 8 * n, 0, 32⟩
abbrev ISP_OUT_WP (n : Nat) : Fld := ⟨0x13, 0x86 + 8 * n, 0, 32⟩
abbrev ISP_OUT_RP (n : Nat) : Fld := ⟨0x13, 0x87 + 8 * n, 0, 32⟩
abbrev FBK_QCTRL : Fld := ⟨0x10, 0x0, 0, 32⟩
abbrev FBK_QCTRL_IDX_FAULT : Fld := ⟨0x10, 0x0, 3, 1⟩
abbrev FBK_QCTRL_IDX_LEARN : Fld := ⟨0x10, 0x0, 2, 1⟩
abbrev FBK_QCTRL_CLR_FAULT : Fld := ⟨0x10, 0x0, 1, 1⟩
abbrev FBK_QCTRL_EN : Fld := ⟨0x10, 0x0, 0, 1⟩
abbrev FBK_QCFG : Fld := ⟨0x10, 0x1, 0, 32⟩
abbrev FBK_QCFG_WD : Fld := ⟨0x10, 0x1, 24, 8⟩
abbrev FBK_QCFG_ILL_MAX : Fld := ⟨0x10, 0x1, 16, 8⟩
abbrev FBK_QCFG_ILL_WIN : Fld := ⟨0x10, 0x1, 8, 8⟩
abbrev FBK_QCFG_FILT : Fld := ⟨0x10, 0x1, 0, 7⟩
abbrev FBK_COUNT : Fld := ⟨0x10, 0x2, 0, 32⟩
abbrev FBK_IDX_CFG : Fld := ⟨0x10, 0x3, 0, 32⟩
abbrev FBK_IDX_CFG_TOL : Fld := ⟨0x10, 0x3, 28, 4⟩
abbrev FBK_IDX_CFG_PER : Fld := ⟨0x10, 0x3, 0, 24⟩
abbrev FBK_IDX_REF : Fld := ⟨0x10, 0x4, 0, 32⟩
abbrev FBK_IDX_LAST : Fld := ⟨0x10, 0x5, 0, 32⟩
abbrev FBK_IDX_DEV : Fld := ⟨0x10, 0x6, 0, 32⟩
abbrev FBK_SPD_WIN : Fld := ⟨0x10, 0x7, 0, 32⟩
abbrev FBK_SPD_WIN_V : Fld := ⟨0x10, 0x7, 0, 17⟩
abbrev FBK_SPEED : Fld := ⟨0x10, 0x8, 0, 32⟩
abbrev FBK_SPD_SEQ : Fld := ⟨0x10, 0x9, 0, 32⟩
abbrev FBK_STATUS : Fld := ⟨0x10, 0xa, 0, 32⟩
abbrev FBK_STATUS_CAUSE : Fld := ⟨0x10, 0xa, 16, 7⟩
abbrev FBK_STATUS_WHY : Fld := ⟨0x10, 0xa, 8, 7⟩
abbrev FBK_STATUS_SLEW : Fld := ⟨0x10, 0xa, 4, 1⟩
abbrev FBK_STATUS_ZBA : Fld := ⟨0x10, 0xa, 1, 3⟩
abbrev FBK_STATUS_FAULT : Fld := ⟨0x10, 0xa, 0, 1⟩
abbrev FBK_ILLEGAL : Fld := ⟨0x10, 0xd, 0, 32⟩
abbrev FBK_IDX_CORR : Fld := ⟨0x10, 0xe, 0, 32⟩
abbrev FBK_IDX_BAD : Fld := ⟨0x10, 0xf, 0, 32⟩
abbrev FBK_WIRE : Fld := ⟨0x10, 0x10, 0, 32⟩
abbrev FBK_QEVENT : Fld := ⟨0x10, 0xb, 0, 32⟩
abbrev FBK_QEVENT_CLR_REFUSED : Fld := ⟨0x10, 0xb, 6, 1⟩
abbrev FBK_QEVENT_IDX_MISS : Fld := ⟨0x10, 0xb, 5, 1⟩
abbrev FBK_QEVENT_IDX_BAD : Fld := ⟨0x10, 0xb, 4, 1⟩
abbrev FBK_QEVENT_IDX_CORR : Fld := ⟨0x10, 0xb, 3, 1⟩
abbrev FBK_QEVENT_WIRE : Fld := ⟨0x10, 0xb, 2, 1⟩
abbrev FBK_QEVENT_ILLEGAL : Fld := ⟨0x10, 0xb, 1, 1⟩
abbrev FBK_QEVENT_FAULT : Fld := ⟨0x10, 0xb, 0, 1⟩
abbrev FBK_QEVENT_EN : Fld := ⟨0x10, 0xc, 0, 32⟩
abbrev FBK_QEVENT_EN_CLR_REFUSED : Fld := ⟨0x10, 0xc, 6, 1⟩
abbrev FBK_QEVENT_EN_IDX_MISS : Fld := ⟨0x10, 0xc, 5, 1⟩
abbrev FBK_QEVENT_EN_IDX_BAD : Fld := ⟨0x10, 0xc, 4, 1⟩
abbrev FBK_QEVENT_EN_IDX_CORR : Fld := ⟨0x10, 0xc, 3, 1⟩
abbrev FBK_QEVENT_EN_WIRE : Fld := ⟨0x10, 0xc, 2, 1⟩
abbrev FBK_QEVENT_EN_ILLEGAL : Fld := ⟨0x10, 0xc, 1, 1⟩
abbrev FBK_QEVENT_EN_FAULT : Fld := ⟨0x10, 0xc, 0, 1⟩
abbrev FBK_HCTRL : Fld := ⟨0x10, 0x20, 0, 32⟩
abbrev FBK_HCTRL_CH : Fld := ⟨0x10, 0x20, 4, 2⟩
abbrev FBK_HCTRL_PLAUS_FAULT : Fld := ⟨0x10, 0x20, 2, 1⟩
abbrev FBK_HCTRL_PLAUS_EN : Fld := ⟨0x10, 0x20, 1, 1⟩
abbrev FBK_HCTRL_EN : Fld := ⟨0x10, 0x20, 0, 1⟩
abbrev FBK_HCFG : Fld := ⟨0x10, 0x21, 0, 32⟩
abbrev FBK_HCFG_N : Fld := ⟨0x10, 0x21, 24, 8⟩
abbrev FBK_HCFG_FILT : Fld := ⟨0x10, 0x21, 16, 8⟩
abbrev FBK_HCFG_TOL : Fld := ⟨0x10, 0x21, 0, 16⟩
abbrev FBK_HRATIO : Fld := ⟨0x10, 0x22, 0, 32⟩
abbrev FBK_HCOUNT : Fld := ⟨0x10, 0x23, 0, 32⟩
abbrev FBK_HSTATUS : Fld := ⟨0x10, 0x24, 0, 32⟩
abbrev FBK_HSTATUS_PLAUS_FAIL : Fld := ⟨0x10, 0x24, 16, 1⟩
abbrev FBK_HSTATUS_RUN : Fld := ⟨0x10, 0x24, 8, 8⟩
abbrev FBK_HSTATUS_IMPOSSIBLE : Fld := ⟨0x10, 0x24, 3, 1⟩
abbrev FBK_HSTATUS_S : Fld := ⟨0x10, 0x24, 0, 3⟩
abbrev FBK_HALL_BAD : Fld := ⟨0x10, 0x27, 0, 32⟩
abbrev FBK_HALL_SKIP : Fld := ⟨0x10, 0x28, 0, 32⟩
abbrev FBK_PLAUS_CNT : Fld := ⟨0x10, 0x29, 0, 32⟩
abbrev FBK_SCTRL : Fld := ⟨0x10, 0x40, 0, 32⟩
abbrev FBK_SCTRL_TU : Fld := ⟨0x10, 0x40, 4, 4⟩
abbrev FBK_SCTRL_TRIG : Fld := ⟨0x10, 0x40, 2, 1⟩
abbrev FBK_SCTRL_GRAY : Fld := ⟨0x10, 0x40, 1, 1⟩
abbrev FBK_SCTRL_EN : Fld := ⟨0x10, 0x40, 0, 1⟩
abbrev FBK_SCFG : Fld := ⟨0x10, 0x41, 0, 32⟩
abbrev FBK_SCFG_HP : Fld := ⟨0x10, 0x41, 16, 16⟩
abbrev FBK_SCFG_BITS : Fld := ⟨0x10, 0x41, 8, 6⟩
abbrev FBK_SCFG_DLY : Fld := ⟨0x10, 0x41, 0, 8⟩
abbrev FBK_STIME : Fld := ⟨0x10, 0x42, 0, 32⟩
abbrev FBK_STIME_MONO : Fld := ⟨0x10, 0x42, 16, 16⟩
abbrev FBK_STIME_PERIOD : Fld := ⟨0x10, 0x42, 0, 16⟩
abbrev FBK_SSI_POS : Fld := ⟨0x10, 0x43, 0, 32⟩
abbrev FBK_SSI_SEQ : Fld := ⟨0x10, 0x44, 0, 32⟩
abbrev FBK_SSI_BUSY : Fld := ⟨0x10, 0x47, 0, 32⟩
abbrev FBK_HEVENT : Fld := ⟨0x10, 0x25, 0, 32⟩
abbrev FBK_HEVENT_PLAUS : Fld := ⟨0x10, 0x25, 2, 1⟩
abbrev FBK_HEVENT_SKIP : Fld := ⟨0x10, 0x25, 1, 1⟩
abbrev FBK_HEVENT_BAD_STATE : Fld := ⟨0x10, 0x25, 0, 1⟩
abbrev FBK_HEVENT_EN : Fld := ⟨0x10, 0x26, 0, 32⟩
abbrev FBK_SEVENT : Fld := ⟨0x10, 0x45, 0, 32⟩
abbrev FBK_SEVENT_WIRE : Fld := ⟨0x10, 0x45, 1, 1⟩
abbrev FBK_SEVENT_BUSY : Fld := ⟨0x10, 0x45, 0, 1⟩
abbrev FBK_SEVENT_EN : Fld := ⟨0x10, 0x46, 0, 32⟩
abbrev MOT_CTRL : Fld := ⟨0x11, 0x0, 0, 32⟩
abbrev MOT_CTRL_DRAIN : Fld := ⟨0x11, 0x0, 16, 8⟩
abbrev MOT_CTRL_CLR : Fld := ⟨0x11, 0x0, 4, 1⟩
abbrev MOT_CTRL_HOME : Fld := ⟨0x11, 0x0, 3, 1⟩
abbrev MOT_CTRL_STOP : Fld := ⟨0x11, 0x0, 2, 1⟩
abbrev MOT_CTRL_FORCE_OFF : Fld := ⟨0x11, 0x0, 1, 1⟩
abbrev MOT_CTRL_EN : Fld := ⟨0x11, 0x0, 0, 1⟩
abbrev MOT_STATUS : Fld := ⟨0x11, 0x1, 0, 32⟩
abbrev MOT_STATUS_DRAIN_RESULT : Fld := ⟨0x11, 0x1, 24, 8⟩
abbrev MOT_STATUS_DEPTH : Fld := ⟨0x11, 0x1, 16, 5⟩
abbrev MOT_STATUS_K : Fld := ⟨0x11, 0x1, 12, 3⟩
abbrev MOT_STATUS_STRONG : Fld := ⟨0x11, 0x1, 11, 1⟩
abbrev MOT_STATUS_UNHELD : Fld := ⟨0x11, 0x1, 10, 1⟩
abbrev MOT_STATUS_HOMED : Fld := ⟨0x11, 0x1, 9, 1⟩
abbrev MOT_STATUS_STATE : Fld := ⟨0x11, 0x1, 0, 3⟩
abbrev MOT_CFG : Fld := ⟨0x11, 0x2, 0, 32⟩
abbrev MOT_CFG_DIR_SU : Fld := ⟨0x11, 0x2, 16, 8⟩
abbrev MOT_CFG_PW : Fld := ⟨0x11, 0x2, 8, 8⟩
abbrev MOT_CFG_LIM_POL : Fld := ⟨0x11, 0x2, 6, 1⟩
abbrev MOT_CFG_HOME_POL : Fld := ⟨0x11, 0x2, 5, 1⟩
abbrev MOT_CFG_DIR_POL : Fld := ⟨0x11, 0x2, 4, 1⟩
abbrev MOT_CFG_RES : Fld := ⟨0x11, 0x2, 1, 3⟩
abbrev MOT_CFG_OUT : Fld := ⟨0x11, 0x2, 0, 1⟩
abbrev MOT_ACC : Fld := ⟨0x11, 0x3, 0, 32⟩
abbrev MOT_DEC : Fld := ⟨0x11, 0x4, 0, 32⟩
abbrev MOT_POS : Fld := ⟨0x11, 0x5, 0, 32⟩
abbrev MOT_VEL : Fld := ⟨0x11, 0x6, 0, 32⟩
abbrev MOT_Q_TARGET : Fld := ⟨0x11, 0x7, 0, 32⟩
abbrev MOT_Q_VMAX : Fld := ⟨0x11, 0x8, 0, 32⟩
abbrev MOT_Q_PUSH : Fld := ⟨0x11, 0x9, 0, 32⟩
abbrev MOT_Q_PUSH_BLEND : Fld := ⟨0x11, 0x9, 1, 1⟩
abbrev MOT_Q_PUSH_KIND : Fld := ⟨0x11, 0x9, 0, 1⟩
abbrev MOT_RESTHR (n : Nat) : Fld := ⟨0x11, 0xa + 1 * n, 0, 32⟩
abbrev MOT_RES_HYST : Fld := ⟨0x11, 0xe, 0, 32⟩
abbrev MOT_MODE_THR : Fld := ⟨0x11, 0xf, 0, 32⟩
abbrev MOT_MODE_HYST : Fld := ⟨0x11, 0x10, 0, 32⟩
abbrev MOT_CUR : Fld := ⟨0x11, 0x11, 0, 32⟩
abbrev MOT_CUR_HOLD : Fld := ⟨0x11, 0x11, 16, 11⟩
abbrev MOT_CUR_RUN : Fld := ⟨0x11, 0x11, 0, 11⟩
abbrev MOT_IDLE : Fld := ⟨0x11, 0x12, 0, 32⟩
abbrev MOT_IDLE_ACT : Fld := ⟨0x11, 0x12, 24, 2⟩
abbrev MOT_IDLE_WAKE : Fld := ⟨0x11, 0x12, 16, 8⟩
abbrev MOT_IDLE_DELAY : Fld := ⟨0x11, 0x12, 0, 16⟩
abbrev MOT_SW : Fld := ⟨0x11, 0x13, 0, 32⟩
abbrev MOT_SW_HOME_DEB : Fld := ⟨0x11, 0x13, 16, 16⟩
abbrev MOT_SW_LIM_DEB : Fld := ⟨0x11, 0x13, 0, 16⟩
abbrev MOT_HOME : Fld := ⟨0x11, 0x14, 0, 32⟩
abbrev MOT_HOME_DIR : Fld := ⟨0x11, 0x14, 0, 1⟩
abbrev MOT_HOME_V : Fld := ⟨0x11, 0x15, 0, 32⟩
abbrev MOT_HOME_POS : Fld := ⟨0x11, 0x16, 0, 32⟩
abbrev MOT_LATCH : Fld := ⟨0x11, 0x17, 0, 32⟩
abbrev MOT_FEED_V : Fld := ⟨0x11, 0x18, 0, 32⟩
abbrev MOT_Q_REFUSED : Fld := ⟨0x11, 0x1b, 0, 32⟩
abbrev MOT_ABORTED : Fld := ⟨0x11, 0x1c, 0, 32⟩
abbrev MOT_CLAMP : Fld := ⟨0x11, 0x1d, 0, 32⟩
abbrev MOT_EVENT : Fld := ⟨0x11, 0x19, 0, 32⟩
abbrev MOT_EVENT_STANDSTILL : Fld := ⟨0x11, 0x19, 8, 1⟩
abbrev MOT_EVENT_DRAIN_DONE : Fld := ⟨0x11, 0x19, 7, 1⟩
abbrev MOT_EVENT_CLAMP : Fld := ⟨0x11, 0x19, 6, 1⟩
abbrev MOT_EVENT_HOME_FAIL : Fld := ⟨0x11, 0x19, 5, 1⟩
abbrev MOT_EVENT_HOME_DONE : Fld := ⟨0x11, 0x19, 4, 1⟩
abbrev MOT_EVENT_LIMIT : Fld := ⟨0x11, 0x19, 3, 1⟩
abbrev MOT_EVENT_Q_REFUSED : Fld := ⟨0x11, 0x19, 2, 1⟩
abbrev MOT_EVENT_Q_EMPTY : Fld := ⟨0x11, 0x19, 1, 1⟩
abbrev MOT_EVENT_MOVE_DONE : Fld := ⟨0x11, 0x19, 0, 1⟩
abbrev MOT_EVENT_EN : Fld := ⟨0x11, 0x1a, 0, 32⟩
abbrev MOT_EVENT_EN_STANDSTILL : Fld := ⟨0x11, 0x1a, 8, 1⟩
abbrev MOT_EVENT_EN_DRAIN_DONE : Fld := ⟨0x11, 0x1a, 7, 1⟩
abbrev MOT_EVENT_EN_CLAMP : Fld := ⟨0x11, 0x1a, 6, 1⟩
abbrev MOT_EVENT_EN_HOME_FAIL : Fld := ⟨0x11, 0x1a, 5, 1⟩
abbrev MOT_EVENT_EN_HOME_DONE : Fld := ⟨0x11, 0x1a, 4, 1⟩
abbrev MOT_EVENT_EN_LIMIT : Fld := ⟨0x11, 0x1a, 3, 1⟩
abbrev MOT_EVENT_EN_Q_REFUSED : Fld := ⟨0x11, 0x1a, 2, 1⟩
abbrev MOT_EVENT_EN_Q_EMPTY : Fld := ⟨0x11, 0x1a, 1, 1⟩
abbrev MOT_EVENT_EN_MOVE_DONE : Fld := ⟨0x11, 0x1a, 0, 1⟩
abbrev CHM_CTRL : Fld := ⟨0x18, 0x0, 0, 32⟩
abbrev CHM_CTRL_F_CAP : Fld := ⟨0x18, 0x0, 16, 8⟩
abbrev CHM_CTRL_ROUTE_AUTO : Fld := ⟨0x18, 0x0, 0, 1⟩
abbrev CHM_QUANTUM : Fld := ⟨0x18, 0x1, 0, 32⟩
abbrev CHM_QUANTUM_Q_B : Fld := ⟨0x18, 0x1, 24, 8⟩
abbrev CHM_QUANTUM_Q_M : Fld := ⟨0x18, 0x1, 16, 8⟩
abbrev CHM_QUANTUM_Q_I : Fld := ⟨0x18, 0x1, 8, 8⟩
abbrev CHM_QUANTUM_Q_C : Fld := ⟨0x18, 0x1, 0, 8⟩
abbrev CHM_LINKS : Fld := ⟨0x18, 0x2, 0, 32⟩
abbrev CHM_LINKS_BRIDGE : Fld := ⟨0x18, 0x2, 16, 1⟩
abbrev CHM_LINKS_PRESENT : Fld := ⟨0x18, 0x2, 8, 3⟩
abbrev CHM_LINKS_UP : Fld := ⟨0x18, 0x2, 0, 3⟩
abbrev CHM_STAT_SEL : Fld := ⟨0x18, 0x3, 0, 32⟩
abbrev CHM_STAT_SEL_CLASS : Fld := ⟨0x18, 0x3, 5, 3⟩
abbrev CHM_STAT_SEL_DIR : Fld := ⟨0x18, 0x3, 4, 1⟩
abbrev CHM_STAT_SEL_LINK : Fld := ⟨0x18, 0x3, 0, 2⟩
abbrev CHM_STAT_FLITS : Fld := ⟨0x18, 0x6, 0, 32⟩
abbrev CHM_RETRY : Fld := ⟨0x18, 0x7, 0, 32⟩
abbrev CHM_UNREACH : Fld := ⟨0x18, 0x8, 0, 32⟩
abbrev CHM_F_WAIT_MAX : Fld := ⟨0x18, 0x9, 0, 32⟩
abbrev CHM_EVENT : Fld := ⟨0x18, 0x4, 0, 32⟩
abbrev CHM_EVENT_BRIDGE_UP : Fld := ⟨0x18, 0x4, 6, 1⟩
abbrev CHM_EVENT_BRIDGE_DOWN : Fld := ⟨0x18, 0x4, 5, 1⟩
abbrev CHM_EVENT_RETRY_LIMIT : Fld := ⟨0x18, 0x4, 4, 1⟩
abbrev CHM_EVENT_UNREACH : Fld := ⟨0x18, 0x4, 3, 1⟩
abbrev CHM_EVENT_REROUTE : Fld := ⟨0x18, 0x4, 2, 1⟩
abbrev CHM_EVENT_LINK_DOWN : Fld := ⟨0x18, 0x4, 1, 1⟩
abbrev CHM_EVENT_LINK_UP : Fld := ⟨0x18, 0x4, 0, 1⟩
abbrev CHM_EVENT_EN : Fld := ⟨0x18, 0x5, 0, 32⟩
abbrev CHM_EVENT_EN_BRIDGE_UP : Fld := ⟨0x18, 0x5, 6, 1⟩
abbrev CHM_EVENT_EN_BRIDGE_DOWN : Fld := ⟨0x18, 0x5, 5, 1⟩
abbrev CHM_EVENT_EN_RETRY_LIMIT : Fld := ⟨0x18, 0x5, 4, 1⟩
abbrev CHM_EVENT_EN_UNREACH : Fld := ⟨0x18, 0x5, 3, 1⟩
abbrev CHM_EVENT_EN_REROUTE : Fld := ⟨0x18, 0x5, 2, 1⟩
abbrev CHM_EVENT_EN_LINK_DOWN : Fld := ⟨0x18, 0x5, 1, 1⟩
abbrev CHM_EVENT_EN_LINK_UP : Fld := ⟨0x18, 0x5, 0, 1⟩
abbrev DRM_CFG : Fld := ⟨0x19, 0x0, 0, 32⟩
abbrev DRM_CFG_SIZE : Fld := ⟨0x19, 0x0, 24, 4⟩
abbrev DRM_CFG_RATE : Fld := ⟨0x19, 0x0, 20, 2⟩
abbrev DRM_CFG_ORDER : Fld := ⟨0x19, 0x0, 16, 2⟩
abbrev DRM_CFG_LECC : Fld := ⟨0x19, 0x0, 8, 1⟩
abbrev DRM_STATUS : Fld := ⟨0x19, 0x1, 0, 32⟩
abbrev DRM_STATUS_RETRAIN : Fld := ⟨0x19, 0x1, 8, 2⟩
abbrev DRM_STATUS_TRAIN_FAIL : Fld := ⟨0x19, 0x1, 4, 2⟩
abbrev DRM_STATUS_F_OK : Fld := ⟨0x19, 0x1, 3, 1⟩
abbrev DRM_STATUS_STATE : Fld := ⟨0x19, 0x1, 0, 2⟩
abbrev DRM_FCAP : Fld := ⟨0x19, 0x2, 0, 32⟩
abbrev DRM_FCAP_QRES_F : Fld := ⟨0x19, 0x2, 16, 6⟩
abbrev DRM_FCAP_CAP : Fld := ⟨0x19, 0x2, 0, 7⟩
abbrev DRM_RETRAIN : Fld := ⟨0x19, 0x3, 0, 32⟩
abbrev DRM_RETRAIN_PERIOD : Fld := ⟨0x19, 0x3, 24, 8⟩
abbrev DRM_RETRAIN_TSTEP : Fld := ⟨0x19, 0x3, 16, 8⟩
abbrev DRM_RETRAIN_PAUSE : Fld := ⟨0x19, 0x3, 0, 10⟩
abbrev DRM_NRR : Fld := ⟨0x19, 0x4, 0, 32⟩
abbrev DRM_NRR_EN : Fld := ⟨0x19, 0x4, 8, 1⟩
abbrev DRM_NRR_K : Fld := ⟨0x19, 0x4, 0, 4⟩
abbrev DRM_NRR_SEED : Fld := ⟨0x19, 0x5, 0, 32⟩
abbrev DRM_NRR_SEED_LFSR : Fld := ⟨0x19, 0x5, 0, 31⟩
abbrev DRM_QUANTUM : Fld := ⟨0x19, 0x6, 0, 32⟩
abbrev DRM_QUANTUM_Q_B : Fld := ⟨0x19, 0x6, 24, 8⟩
abbrev DRM_QUANTUM_Q_M : Fld := ⟨0x19, 0x6, 16, 8⟩
abbrev DRM_QUANTUM_Q_I : Fld := ⟨0x19, 0x6, 8, 8⟩
abbrev DRM_QUANTUM_Q_C : Fld := ⟨0x19, 0x6, 0, 8⟩
abbrev DRM_TEMP : Fld := ⟨0x19, 0x7, 0, 32⟩
abbrev DRM_TEMP_V : Fld := ⟨0x19, 0x7, 0, 16⟩
abbrev DRM_RETRAIN_CNT : Fld := ⟨0x19, 0xa, 0, 32⟩
abbrev DRM_NRR_CNT : Fld := ⟨0x19, 0xb, 0, 32⟩
abbrev DRM_F_CAPPED : Fld := ⟨0x19, 0xc, 0, 32⟩
abbrev DRM_F_LATE : Fld := ⟨0x19, 0xd, 0, 32⟩
abbrev DRM_F_LAT_MAX : Fld := ⟨0x19, 0xe, 0, 32⟩
abbrev DRM_LECC_CORR : Fld := ⟨0x19, 0xf, 0, 32⟩
abbrev DRM_LECC_UNC : Fld := ⟨0x19, 0x10, 0, 32⟩
abbrev DRM_EVENT : Fld := ⟨0x19, 0x8, 0, 32⟩
abbrev DRM_EVENT_TEMP_STEP : Fld := ⟨0x19, 0x8, 5, 1⟩
abbrev DRM_EVENT_LECC_UNC : Fld := ⟨0x19, 0x8, 4, 1⟩
abbrev DRM_EVENT_F_LATE : Fld := ⟨0x19, 0x8, 3, 1⟩
abbrev DRM_EVENT_RETRAIN_FAIL : Fld := ⟨0x19, 0x8, 2, 1⟩
abbrev DRM_EVENT_TRAIN_FAIL : Fld := ⟨0x19, 0x8, 1, 1⟩
abbrev DRM_EVENT_TRAIN_DONE : Fld := ⟨0x19, 0x8, 0, 1⟩
abbrev DRM_EVENT_EN : Fld := ⟨0x19, 0x9, 0, 32⟩
abbrev DRM_EVENT_EN_TEMP_STEP : Fld := ⟨0x19, 0x9, 5, 1⟩
abbrev DRM_EVENT_EN_LECC_UNC : Fld := ⟨0x19, 0x9, 4, 1⟩
abbrev DRM_EVENT_EN_F_LATE : Fld := ⟨0x19, 0x9, 3, 1⟩
abbrev DRM_EVENT_EN_RETRAIN_FAIL : Fld := ⟨0x19, 0x9, 2, 1⟩
abbrev DRM_EVENT_EN_TRAIN_FAIL : Fld := ⟨0x19, 0x9, 1, 1⟩
abbrev DRM_EVENT_EN_TRAIN_DONE : Fld := ⟨0x19, 0x9, 0, 1⟩
abbrev GLB_ID : Fld := ⟨0x0, 0x0, 0, 32⟩
abbrev GLB_ID_FAMILY : Fld := ⟨0x0, 0x0, 24, 8⟩
abbrev GLB_ID_HEARTHS : Fld := ⟨0x0, 0x0, 16, 8⟩
abbrev GLB_ID_STEP : Fld := ⟨0x0, 0x0, 8, 8⟩
abbrev GLB_ID_HEARTH : Fld := ⟨0x0, 0x0, 0, 4⟩
abbrev GLB_GROUP_MASK : Fld := ⟨0x0, 0x1, 0, 32⟩
abbrev GLB_GROUP_MASK_V : Fld := ⟨0x0, 0x1, 0, 16⟩
abbrev GLB_CROWN : Fld := ⟨0x0, 0x2, 0, 32⟩
abbrev GLB_CROWN_EPOCH : Fld := ⟨0x0, 0x2, 16, 16⟩
abbrev GLB_CROWN_IS : Fld := ⟨0x0, 0x2, 4, 1⟩
abbrev GLB_CROWN_HEARTH : Fld := ⟨0x0, 0x2, 0, 4⟩
abbrev GLB_EVT : Fld := ⟨0x0, 0x3, 0, 32⟩
abbrev GLB_EVT_FQ : Fld := ⟨0x0, 0x3, 0, 5⟩
abbrev GLB_EVT_LOST : Fld := ⟨0x0, 0x4, 0, 32⟩
abbrev GLB_SEV_SEL : Fld := ⟨0x0, 0x5, 0, 32⟩
abbrev GLB_SEV_SEL_IDX : Fld := ⟨0x0, 0x5, 8, 2⟩
abbrev GLB_SEV_SEL_BLOCK : Fld := ⟨0x0, 0x5, 0, 8⟩
abbrev GLB_SEV_DATA (n : Nat) : Fld := ⟨0x0, 0x6 + 1 * n, 0, 32⟩
abbrev GLB_SCRATCH : Fld := ⟨0x0, 0xa, 0, 32⟩
abbrev GLB_PORT_STATUS : Fld := ⟨0x0, 0x40, 0, 32⟩
abbrev GLB_PORT_STATUS_OVF : Fld := ⟨0x0, 0x40, 3, 1⟩
abbrev GLB_PORT_STATUS_RTMO : Fld := ⟨0x0, 0x40, 2, 1⟩
abbrev GLB_PORT_STATUS_WERR : Fld := ⟨0x0, 0x40, 1, 1⟩
abbrev GLB_PORT_STATUS_BUSY : Fld := ⟨0x0, 0x40, 0, 1⟩
abbrev GLB_BCAST_DIFF : Fld := ⟨0x0, 0x41, 0, 32⟩
abbrev GLB_BCAST_DIFF_DIFF : Fld := ⟨0x0, 0x41, 31, 1⟩
abbrev GLB_BCAST_DIFF_INST : Fld := ⟨0x0, 0x41, 8, 12⟩
abbrev GLB_BCAST_DIFF_HEARTHS : Fld := ⟨0x0, 0x41, 0, 8⟩
abbrev GLB_QSPI : Fld := ⟨0x0, 0x42, 0, 32⟩
abbrev GLB_QSPI_RD_TMO : Fld := ⟨0x0, 0x42, 0, 16⟩
abbrev GLB_IRQ : Fld := ⟨0x0, 0x43, 0, 32⟩
abbrev GLB_IRQ_PEND : Fld := ⟨0x0, 0x43, 0, 8⟩
abbrev MBX_CTRL : Fld := ⟨0x1, 0x0, 0, 32⟩
abbrev MBX_CTRL_DRAIN : Fld := ⟨0x1, 0x0, 16, 8⟩
abbrev MBX_CTRL_RSP_DB : Fld := ⟨0x1, 0x0, 13, 1⟩
abbrev MBX_CTRL_RSP_FQ : Fld := ⟨0x1, 0x0, 8, 5⟩
abbrev MBX_CTRL_FORCE_OFF : Fld := ⟨0x1, 0x0, 1, 1⟩
abbrev MBX_CTRL_EN : Fld := ⟨0x1, 0x0, 0, 1⟩
abbrev MBX_STATUS : Fld := ⟨0x1, 0x1, 0, 32⟩
abbrev MBX_STATUS_DRAIN_RESULT : Fld := ⟨0x1, 0x1, 24, 8⟩
abbrev MBX_STATUS_OUT : Fld := ⟨0x1, 0x1, 4, 9⟩
abbrev MBX_STATUS_WAIT : Fld := ⟨0x1, 0x1, 3, 1⟩
abbrev MBX_STATUS_STATE : Fld := ⟨0x1, 0x1, 0, 3⟩
abbrev MBX_CMD_PI : Fld := ⟨0x1, 0x2, 0, 32⟩
abbrev MBX_CMD_PI_V : Fld := ⟨0x1, 0x2, 0, 16⟩
abbrev MBX_CMD_CI : Fld := ⟨0x1, 0x3, 0, 32⟩
abbrev MBX_CMD_CI_V : Fld := ⟨0x1, 0x3, 0, 16⟩
abbrev MBX_RSP_PI : Fld := ⟨0x1, 0x4, 0, 32⟩
abbrev MBX_RSP_PI_V : Fld := ⟨0x1, 0x4, 0, 16⟩
abbrev MBX_RSP_CI : Fld := ⟨0x1, 0x5, 0, 32⟩
abbrev MBX_RSP_CI_V : Fld := ⟨0x1, 0x5, 0, 16⟩
abbrev MBX_IL : Fld := ⟨0x1, 0x6, 0, 32⟩
abbrev MBX_IL_V : Fld := ⟨0x1, 0x6, 0, 8⟩
abbrev MBX_UDP : Fld := ⟨0x1, 0x9, 0, 32⟩
abbrev MBX_UDP_IDLE : Fld := ⟨0x1, 0x9, 28, 4⟩
abbrev MBX_UDP_RETRY : Fld := ⟨0x1, 0x9, 24, 4⟩
abbrev MBX_UDP_RTO : Fld := ⟨0x1, 0x9, 16, 8⟩
abbrev MBX_UDP_PORT : Fld := ⟨0x1, 0x9, 0, 16⟩
abbrev MBX_UDP_EPOCH : Fld := ⟨0x1, 0xa, 0, 32⟩
abbrev MBX_UDP_EPOCH_BOUND : Fld := ⟨0x1, 0xa, 16, 1⟩
abbrev MBX_UDP_EPOCH_EPOCH : Fld := ⟨0x1, 0xa, 0, 16⟩
abbrev MBX_UDP_PEER : Fld := ⟨0x1, 0xb, 0, 32⟩
abbrev MBX_UDP_PEER_PORT : Fld := ⟨0x1, 0xc, 0, 32⟩
abbrev MBX_UDP_PEER_PORT_V : Fld := ⟨0x1, 0xc, 0, 16⟩
abbrev MBX_CMDS : Fld := ⟨0x1, 0xd, 0, 32⟩
abbrev MBX_DUP_TAG : Fld := ⟨0x1, 0xe, 0, 32⟩
abbrev MBX_DUP : Fld := ⟨0x1, 0xf, 0, 32⟩
abbrev MBX_RETX : Fld := ⟨0x1, 0x10, 0, 32⟩
abbrev MBX_RSP_LOST : Fld := ⟨0x1, 0x11, 0, 32⟩
abbrev MBX_UDP_REJ : Fld := ⟨0x1, 0x12, 0, 32⟩
abbrev MBX_NET_IP : Fld := ⟨0x1, 0x14, 0, 32⟩
abbrev MBX_NET_MASK : Fld := ⟨0x1, 0x15, 0, 32⟩
abbrev MBX_NET_MAC_LO : Fld := ⟨0x1, 0x16, 0, 32⟩
abbrev MBX_NET_MAC_HI : Fld := ⟨0x1, 0x17, 0, 32⟩
abbrev MBX_NET_MAC_HI_MAC : Fld := ⟨0x1, 0x17, 0, 16⟩
abbrev MBX_CMD_SLOTS (n : Nat) : Fld := ⟨0x1, 0x200 + 1 * n, 0, 32⟩
abbrev MBX_RSP_SLOTS (n : Nat) : Fld := ⟨0x1, 0x400 + 1 * n, 0, 32⟩
abbrev MBX_EVENT : Fld := ⟨0x1, 0x7, 0, 32⟩
abbrev MBX_EVENT_EPOCH : Fld := ⟨0x1, 0x7, 8, 1⟩
abbrev MBX_EVENT_RSP_DROP : Fld := ⟨0x1, 0x7, 7, 1⟩
abbrev MBX_EVENT_UDP_REJECT : Fld := ⟨0x1, 0x7, 6, 1⟩
abbrev MBX_EVENT_DRAIN_DONE : Fld := ⟨0x1, 0x7, 5, 1⟩
abbrev MBX_EVENT_RESUMED : Fld := ⟨0x1, 0x7, 4, 1⟩
abbrev MBX_EVENT_PAUSED : Fld := ⟨0x1, 0x7, 3, 1⟩
abbrev MBX_EVENT_DUP_TAG : Fld := ⟨0x1, 0x7, 2, 1⟩
abbrev MBX_EVENT_PI_BAD : Fld := ⟨0x1, 0x7, 1, 1⟩
abbrev MBX_EVENT_RSP : Fld := ⟨0x1, 0x7, 0, 1⟩
abbrev MBX_EVENT_EN : Fld := ⟨0x1, 0x8, 0, 32⟩
abbrev MBX_EVENT_EN_EPOCH : Fld := ⟨0x1, 0x8, 8, 1⟩
abbrev MBX_EVENT_EN_RSP_DROP : Fld := ⟨0x1, 0x8, 7, 1⟩
abbrev MBX_EVENT_EN_UDP_REJECT : Fld := ⟨0x1, 0x8, 6, 1⟩
abbrev MBX_EVENT_EN_DRAIN_DONE : Fld := ⟨0x1, 0x8, 5, 1⟩
abbrev MBX_EVENT_EN_RESUMED : Fld := ⟨0x1, 0x8, 4, 1⟩
abbrev MBX_EVENT_EN_PAUSED : Fld := ⟨0x1, 0x8, 3, 1⟩
abbrev MBX_EVENT_EN_DUP_TAG : Fld := ⟨0x1, 0x8, 2, 1⟩
abbrev MBX_EVENT_EN_PI_BAD : Fld := ⟨0x1, 0x8, 1, 1⟩
abbrev MBX_EVENT_EN_RSP : Fld := ⟨0x1, 0x8, 0, 1⟩
abbrev FLU_Q_PUSH (n : Nat) : Fld := ⟨0x2, 0x0 + 4 * n, 0, 32⟩
abbrev FLU_Q_POP (n : Nat) : Fld := ⟨0x2, 0x1 + 4 * n, 0, 32⟩
abbrev FLU_Q_STATUS (n : Nat) : Fld := ⟨0x2, 0x2 + 4 * n, 0, 32⟩
abbrev FLU_Q_STATUS_POISON (n : Nat) : Fld := ⟨0x2, 0x2 + 4 * n, 27, 1⟩
abbrev FLU_Q_STATUS_STALE (n : Nat) : Fld := ⟨0x2, 0x2 + 4 * n, 26, 1⟩
abbrev FLU_Q_STATUS_OVF (n : Nat) : Fld := ⟨0x2, 0x2 + 4 * n, 25, 1⟩
abbrev FLU_Q_STATUS_UNDERRUN (n : Nat) : Fld := ⟨0x2, 0x2 + 4 * n, 24, 1⟩
abbrev FLU_Q_STATUS_LAST_UNDER (n : Nat) : Fld := ⟨0x2, 0x2 + 4 * n, 19, 1⟩
abbrev FLU_Q_STATUS_LAST_POISON (n : Nat) : Fld := ⟨0x2, 0x2 + 4 * n, 18, 1⟩
abbrev FLU_Q_STATUS_FULL (n : Nat) : Fld := ⟨0x2, 0x2 + 4 * n, 17, 1⟩
abbrev FLU_Q_STATUS_EMPTY (n : Nat) : Fld := ⟨0x2, 0x2 + 4 * n, 16, 1⟩
abbrev FLU_Q_STATUS_HELD (n : Nat) : Fld := ⟨0x2, 0x2 + 4 * n, 0, 11⟩
abbrev FLU_Q_CFG (n : Nat) : Fld := ⟨0x2, 0x3 + 4 * n, 0, 32⟩
abbrev FLU_Q_CFG_DEPTH (n : Nat) : Fld := ⟨0x2, 0x3 + 4 * n, 24, 3⟩
abbrev FLU_Q_CFG_IRQ_EN (n : Nat) : Fld := ⟨0x2, 0x3 + 4 * n, 16, 1⟩
abbrev FLU_Q_CFG_STALE (n : Nat) : Fld := ⟨0x2, 0x3 + 4 * n, 0, 8⟩
abbrev FLU_FLUSH : Fld := ⟨0x2, 0x80, 0, 32⟩
abbrev FLU_IRQ : Fld := ⟨0x2, 0x81, 0, 32⟩
abbrev FLU_POISON_CNT : Fld := ⟨0x2, 0x82, 0, 32⟩
abbrev FLU_OVF_CNT : Fld := ⟨0x2, 0x83, 0, 32⟩
abbrev FLU_UNDER_CNT : Fld := ⟨0x2, 0x84, 0, 32⟩
abbrev TWN_CTRL : Fld := ⟨0x1B, 0x0, 0, 32⟩
abbrev TWN_CTRL_MISS : Fld := ⟨0x1B, 0x0, 16, 8⟩
abbrev TWN_CTRL_AUTO_JOIN : Fld := ⟨0x1B, 0x0, 10, 1⟩
abbrev TWN_CTRL_SLOT : Fld := ⟨0x1B, 0x0, 8, 1⟩
abbrev TWN_CTRL_SWITCH_BACK : Fld := ⟨0x1B, 0x0, 4, 1⟩
abbrev TWN_CTRL_JOIN : Fld := ⟨0x1B, 0x0, 3, 1⟩
abbrev TWN_CTRL_FORCE_OFF : Fld := ⟨0x1B, 0x0, 1, 1⟩
abbrev TWN_CTRL_EN : Fld := ⟨0x1B, 0x0, 0, 1⟩
abbrev TWN_STATUS : Fld := ⟨0x1B, 0x1, 0, 32⟩
abbrev TWN_STATUS_DRAIN_RESULT : Fld := ⟨0x1B, 0x1, 24, 8⟩
abbrev TWN_STATUS_HOLD_OWN : Fld := ⟨0x1B, 0x1, 15, 1⟩
abbrev TWN_STATUS_HOLD_PIN : Fld := ⟨0x1B, 0x1, 14, 1⟩
abbrev TWN_STATUS_PEER_HB : Fld := ⟨0x1B, 0x1, 13, 1⟩
abbrev TWN_STATUS_MIRROR : Fld := ⟨0x1B, 0x1, 12, 1⟩
abbrev TWN_STATUS_IN_STEP : Fld := ⟨0x1B, 0x1, 11, 1⟩
abbrev TWN_STATUS_SLOT_CLASH : Fld := ⟨0x1B, 0x1, 10, 1⟩
abbrev TWN_STATUS_ROLE : Fld := ⟨0x1B, 0x1, 8, 2⟩
abbrev TWN_STATUS_STATE : Fld := ⟨0x1B, 0x1, 0, 3⟩
abbrev TWN_TIMING : Fld := ⟨0x1B, 0x2, 0, 32⟩
abbrev TWN_TIMING_LEAD : Fld := ⟨0x1B, 0x2, 16, 16⟩
abbrev TWN_TIMING_PERIOD : Fld := ⟨0x1B, 0x2, 0, 16⟩
abbrev TWN_JOIN_TMO : Fld := ⟨0x1B, 0x3, 0, 32⟩
abbrev TWN_JOIN_TMO_V : Fld := ⟨0x1B, 0x3, 0, 16⟩
abbrev TWN_DIVERGE_LO : Fld := ⟨0x1B, 0x4, 0, 32⟩
abbrev TWN_DIVERGE_HI : Fld := ⟨0x1B, 0x5, 0, 32⟩
abbrev TWN_DIVERGE_HI_V : Fld := ⟨0x1B, 0x5, 0, 16⟩
abbrev TWN_SWITCH_LO : Fld := ⟨0x1B, 0x6, 0, 32⟩
abbrev TWN_SWITCH_HI : Fld := ⟨0x1B, 0x7, 0, 32⟩
abbrev TWN_SWITCH_HI_V : Fld := ⟨0x1B, 0x7, 0, 16⟩
abbrev TWN_LOST : Fld := ⟨0x1B, 0x8, 0, 32⟩
abbrev TWN_LOST_V : Fld := ⟨0x1B, 0x8, 0, 8⟩
abbrev TWN_LOST_LO (n : Nat) : Fld := ⟨0x1B, 0xa + 2 * n, 0, 32⟩
abbrev TWN_LOST_HI (n : Nat) : Fld := ⟨0x1B, 0xb + 2 * n, 0, 32⟩
abbrev TWN_LOST_HI_V (n : Nat) : Fld := ⟨0x1B, 0xb + 2 * n, 0, 16⟩
abbrev TWN_ST_BASE_LO : Fld := ⟨0x1B, 0x12, 0, 32⟩
abbrev TWN_ST_BASE_HI : Fld := ⟨0x1B, 0x13, 0, 32⟩
abbrev TWN_ST_SIZE : Fld := ⟨0x1B, 0x14, 0, 32⟩
abbrev TWN_HB_MISS : Fld := ⟨0x1B, 0x17, 0, 32⟩
abbrev TWN_FRAME_ERR : Fld := ⟨0x1B, 0x18, 0, 32⟩
abbrev TWN_SIG_CHECKED : Fld := ⟨0x1B, 0x19, 0, 32⟩
abbrev TWN_LOOP_ERR : Fld := ⟨0x1B, 0x1a, 0, 32⟩
abbrev TWN_DRAM_ERR : Fld := ⟨0x1B, 0x1b, 0, 32⟩
abbrev TWN_GRATE_ERR : Fld := ⟨0x1B, 0x1c, 0, 32⟩
abbrev TWN_EVENT : Fld := ⟨0x1B, 0x15, 0, 32⟩
abbrev TWN_EVENT_DRAIN_DONE : Fld := ⟨0x1B, 0x15, 9, 1⟩
abbrev TWN_EVENT_FRAME_ERR : Fld := ⟨0x1B, 0x15, 8, 1⟩
abbrev TWN_EVENT_HEALTH_BAD : Fld := ⟨0x1B, 0x15, 7, 1⟩
abbrev TWN_EVENT_SLOT_CLASH : Fld := ⟨0x1B, 0x15, 6, 1⟩
abbrev TWN_EVENT_LOST_RACE : Fld := ⟨0x1B, 0x15, 5, 1⟩
abbrev TWN_EVENT_SWITCH : Fld := ⟨0x1B, 0x15, 4, 1⟩
abbrev TWN_EVENT_DIVERGE : Fld := ⟨0x1B, 0x15, 3, 1⟩
abbrev TWN_EVENT_IN_STEP : Fld := ⟨0x1B, 0x15, 2, 1⟩
abbrev TWN_EVENT_PEER_LOST : Fld := ⟨0x1B, 0x15, 1, 1⟩
abbrev TWN_EVENT_PEER_UP : Fld := ⟨0x1B, 0x15, 0, 1⟩
abbrev TWN_EVENT_EN : Fld := ⟨0x1B, 0x16, 0, 32⟩
abbrev TWN_EVENT_EN_DRAIN_DONE : Fld := ⟨0x1B, 0x16, 9, 1⟩
abbrev TWN_EVENT_EN_FRAME_ERR : Fld := ⟨0x1B, 0x16, 8, 1⟩
abbrev TWN_EVENT_EN_HEALTH_BAD : Fld := ⟨0x1B, 0x16, 7, 1⟩
abbrev TWN_EVENT_EN_SLOT_CLASH : Fld := ⟨0x1B, 0x16, 6, 1⟩
abbrev TWN_EVENT_EN_LOST_RACE : Fld := ⟨0x1B, 0x16, 5, 1⟩
abbrev TWN_EVENT_EN_SWITCH : Fld := ⟨0x1B, 0x16, 4, 1⟩
abbrev TWN_EVENT_EN_DIVERGE : Fld := ⟨0x1B, 0x16, 3, 1⟩
abbrev TWN_EVENT_EN_IN_STEP : Fld := ⟨0x1B, 0x16, 2, 1⟩
abbrev TWN_EVENT_EN_PEER_LOST : Fld := ⟨0x1B, 0x16, 1, 1⟩
abbrev TWN_EVENT_EN_PEER_UP : Fld := ⟨0x1B, 0x16, 0, 1⟩
abbrev TIM_CTRL : Fld := ⟨0x1A, 0x0, 0, 32⟩
abbrev TIM_CTRL_UNFREEZE : Fld := ⟨0x1A, 0x0, 5, 1⟩
abbrev TIM_CTRL_ADJ : Fld := ⟨0x1A, 0x0, 4, 1⟩
abbrev TIM_CTRL_SET : Fld := ⟨0x1A, 0x0, 3, 1⟩
abbrev TIM_CTRL_OC_EN : Fld := ⟨0x1A, 0x0, 1, 1⟩
abbrev TIM_CTRL_TC_EN : Fld := ⟨0x1A, 0x0, 0, 1⟩
abbrev TIM_STATUS : Fld := ⟨0x1A, 0x1, 0, 32⟩
abbrev TIM_STATUS_SL1 : Fld := ⟨0x1A, 0x1, 12, 4⟩
abbrev TIM_STATUS_SL0 : Fld := ⟨0x1A, 0x1, 8, 4⟩
abbrev TIM_STATUS_PATH_STEP : Fld := ⟨0x1A, 0x1, 3, 1⟩
abbrev TIM_STATUS_FROZEN : Fld := ⟨0x1A, 0x1, 2, 1⟩
abbrev TIM_STATUS_VALID : Fld := ⟨0x1A, 0x1, 1, 1⟩
abbrev TIM_SEC_LO : Fld := ⟨0x1A, 0x2, 0, 32⟩
abbrev TIM_SEC_HI : Fld := ⟨0x1A, 0x3, 0, 32⟩
abbrev TIM_SEC_HI_V : Fld := ⟨0x1A, 0x3, 0, 16⟩
abbrev TIM_NS : Fld := ⟨0x1A, 0x4, 0, 32⟩
abbrev TIM_NS_V : Fld := ⟨0x1A, 0x4, 0, 30⟩
abbrev TIM_FRAC : Fld := ⟨0x1A, 0x5, 0, 32⟩
abbrev TIM_INC_LO : Fld := ⟨0x1A, 0x6, 0, 32⟩
abbrev TIM_INC_HI : Fld := ⟨0x1A, 0x7, 0, 32⟩
abbrev TIM_INC_HI_INC : Fld := ⟨0x1A, 0x7, 0, 3⟩
abbrev TIM_SET_SEC_LO : Fld := ⟨0x1A, 0x8, 0, 32⟩
abbrev TIM_SET_SEC_HI : Fld := ⟨0x1A, 0x9, 0, 32⟩
abbrev TIM_SET_SEC_HI_V : Fld := ⟨0x1A, 0x9, 0, 16⟩
abbrev TIM_SET_NS : Fld := ⟨0x1A, 0xa, 0, 32⟩
abbrev TIM_SET_NS_V : Fld := ⟨0x1A, 0xa, 0, 30⟩
abbrev TIM_ADJ_LO : Fld := ⟨0x1A, 0xb, 0, 32⟩
abbrev TIM_ADJ_HI : Fld := ⟨0x1A, 0xc, 0, 32⟩
abbrev TIM_PTP_CFG : Fld := ⟨0x1A, 0xd, 0, 32⟩
abbrev TIM_PTP_CFG_PORTS : Fld := ⟨0x1A, 0xd, 8, 2⟩
abbrev TIM_PTP_CFG_DOMAIN : Fld := ⟨0x1A, 0xd, 0, 8⟩
abbrev TIM_STEP : Fld := ⟨0x1A, 0xe, 0, 32⟩
abbrev TIM_STEP_N : Fld := ⟨0x1A, 0xe, 16, 8⟩
abbrev TIM_STEP_THR : Fld := ⟨0x1A, 0xe, 0, 16⟩
abbrev TIM_ASYM (n : Nat) : Fld := ⟨0x1A, 0xf + 1 * n, 0, 32⟩
abbrev TIM_LAT (n : Nat) : Fld := ⟨0x1A, 0x11 + 1 * n, 0, 32⟩
abbrev TIM_LAT_TX (n : Nat) : Fld := ⟨0x1A, 0x11 + 1 * n, 16, 16⟩
abbrev TIM_LAT_RX (n : Nat) : Fld := ⟨0x1A, 0x11 + 1 * n, 0, 16⟩
abbrev TIM_OFFSET : Fld := ⟨0x1A, 0x13, 0, 32⟩
abbrev TIM_MPD : Fld := ⟨0x1A, 0x14, 0, 32⟩
abbrev TIM_OC_SEQ : Fld := ⟨0x1A, 0x15, 0, 32⟩
abbrev TIM_MASTER_LO : Fld := ⟨0x1A, 0x16, 0, 32⟩
abbrev TIM_MASTER_HI : Fld := ⟨0x1A, 0x17, 0, 32⟩
abbrev TIM_RX_EVT : Fld := ⟨0x1A, 0x1a, 0, 32⟩
abbrev TIM_TX_EVT : Fld := ⟨0x1A, 0x1b, 0, 32⟩
abbrev TIM_TC_FWD : Fld := ⟨0x1A, 0x1c, 0, 32⟩
abbrev TIM_TU_MISSED : Fld := ⟨0x1A, 0x1d, 0, 32⟩
abbrev TIM_TU_EVENT : Fld := ⟨0x1A, 0x1e, 0, 32⟩
abbrev TIM_TU_EVENT_V : Fld := ⟨0x1A, 0x1e, 0, 16⟩
abbrev TIM_TU_EVENT_EN : Fld := ⟨0x1A, 0x1f, 0, 32⟩
abbrev TIM_TU_EVENT_EN_V : Fld := ⟨0x1A, 0x1f, 0, 16⟩
abbrev TIM_EVENT : Fld := ⟨0x1A, 0x18, 0, 32⟩
abbrev TIM_EVENT_TU_MISS : Fld := ⟨0x1A, 0x18, 4, 1⟩
abbrev TIM_EVENT_INVALID : Fld := ⟨0x1A, 0x18, 3, 1⟩
abbrev TIM_EVENT_MASTER_LOST : Fld := ⟨0x1A, 0x18, 2, 1⟩
abbrev TIM_EVENT_MASTER_CHANGE : Fld := ⟨0x1A, 0x18, 1, 1⟩
abbrev TIM_EVENT_PATH_STEP : Fld := ⟨0x1A, 0x18, 0, 1⟩
abbrev TIM_EVENT_EN : Fld := ⟨0x1A, 0x19, 0, 32⟩
abbrev TIM_EVENT_EN_TU_MISS : Fld := ⟨0x1A, 0x19, 4, 1⟩
abbrev TIM_EVENT_EN_INVALID : Fld := ⟨0x1A, 0x19, 3, 1⟩
abbrev TIM_EVENT_EN_MASTER_LOST : Fld := ⟨0x1A, 0x19, 2, 1⟩
abbrev TIM_EVENT_EN_MASTER_CHANGE : Fld := ⟨0x1A, 0x19, 1, 1⟩
abbrev TIM_EVENT_EN_PATH_STEP : Fld := ⟨0x1A, 0x19, 0, 1⟩
abbrev TIM_TU_CTRL (n : Nat) : Fld := ⟨0x1A, 0x40 + 16 * n, 0, 32⟩
abbrev TIM_TU_CTRL_TARGET (n : Nat) : Fld := ⟨0x1A, 0x40 + 16 * n, 8, 6⟩
abbrev TIM_TU_CTRL_MODE (n : Nat) : Fld := ⟨0x1A, 0x40 + 16 * n, 0, 2⟩
abbrev TIM_TU_SEC_LO (n : Nat) : Fld := ⟨0x1A, 0x41 + 16 * n, 0, 32⟩
abbrev TIM_TU_SEC_HI (n : Nat) : Fld := ⟨0x1A, 0x42 + 16 * n, 0, 32⟩
abbrev TIM_TU_SEC_HI_V (n : Nat) : Fld := ⟨0x1A, 0x42 + 16 * n, 0, 16⟩
abbrev TIM_TU_NS (n : Nat) : Fld := ⟨0x1A, 0x43 + 16 * n, 0, 32⟩
abbrev TIM_TU_NS_V (n : Nat) : Fld := ⟨0x1A, 0x43 + 16 * n, 0, 30⟩
abbrev TIM_TU_PERIOD (n : Nat) : Fld := ⟨0x1A, 0x44 + 16 * n, 0, 32⟩
abbrev TIM_TU_CAP_SEC_LO (n : Nat) : Fld := ⟨0x1A, 0x45 + 16 * n, 0, 32⟩
abbrev TIM_TU_CAP_SEC_HI (n : Nat) : Fld := ⟨0x1A, 0x46 + 16 * n, 0, 32⟩
abbrev TIM_TU_CAP_SEC_HI_V (n : Nat) : Fld := ⟨0x1A, 0x46 + 16 * n, 0, 16⟩
abbrev TIM_TU_CAP_NS (n : Nat) : Fld := ⟨0x1A, 0x47 + 16 * n, 0, 32⟩
abbrev TIM_TU_CAP_NS_V (n : Nat) : Fld := ⟨0x1A, 0x47 + 16 * n, 0, 30⟩
abbrev TIM_TU_CAP_LNUM (n : Nat) : Fld := ⟨0x1A, 0x48 + 16 * n, 0, 32⟩
abbrev TIM_TU_CAP_CNT (n : Nat) : Fld := ⟨0x1A, 0x49 + 16 * n, 0, 32⟩
abbrev CAL_CTRL : Fld := ⟨0x1C, 0x0, 0, 32⟩
abbrev CAL_CTRL_TOL : Fld := ⟨0x1C, 0x0, 24, 8⟩
abbrev CAL_CTRL_TSTEP : Fld := ⟨0x1C, 0x0, 16, 8⟩
abbrev CAL_CTRL_AUTO : Fld := ⟨0x1C, 0x0, 0, 1⟩
abbrev CAL_STATUS : Fld := ⟨0x1C, 0x1, 0, 32⟩
abbrev CAL_STATUS_LAST : Fld := ⟨0x1C, 0x1, 24, 8⟩
abbrev CAL_STATUS_RUNNING : Fld := ⟨0x1C, 0x1, 16, 4⟩
abbrev CAL_KIND (n : Nat) : Fld := ⟨0x1C, 0x2 + 1 * n, 0, 32⟩
abbrev CAL_KIND_TEMP (n : Nat) : Fld := ⟨0x1C, 0x2 + 1 * n, 16, 16⟩
abbrev CAL_KIND_SET (n : Nat) : Fld := ⟨0x1C, 0x2 + 1 * n, 8, 4⟩
abbrev CAL_KIND_VALID (n : Nat) : Fld := ⟨0x1C, 0x2 + 1 * n, 0, 8⟩
abbrev CAL_RUNS : Fld := ⟨0x1C, 0x8, 0, 32⟩
abbrev CAL_REJECTS : Fld := ⟨0x1C, 0x9, 0, 32⟩
abbrev CAL_EVENT : Fld := ⟨0x1C, 0x6, 0, 32⟩
abbrev CAL_EVENT_STORED : Fld := ⟨0x1C, 0x6, 2, 1⟩
abbrev CAL_EVENT_REJECT : Fld := ⟨0x1C, 0x6, 1, 1⟩
abbrev CAL_EVENT_DONE : Fld := ⟨0x1C, 0x6, 0, 1⟩
abbrev CAL_EVENT_EN : Fld := ⟨0x1C, 0x7, 0, 32⟩
abbrev CAL_EVENT_EN_STORED : Fld := ⟨0x1C, 0x7, 2, 1⟩
abbrev CAL_EVENT_EN_REJECT : Fld := ⟨0x1C, 0x7, 1, 1⟩
abbrev CAL_EVENT_EN_DONE : Fld := ⟨0x1C, 0x7, 0, 1⟩
abbrev SVC_STATUS : Fld := ⟨0x1D, 0x0, 0, 32⟩
abbrev SVC_STATUS_CAUSE : Fld := ⟨0x1D, 0x0, 24, 8⟩
abbrev SVC_STATUS_LAST : Fld := ⟨0x1D, 0x0, 16, 8⟩
abbrev SVC_STATUS_STATE : Fld := ⟨0x1D, 0x0, 0, 3⟩
abbrev SVC_FUSE : Fld := ⟨0x1D, 0x1, 0, 32⟩
abbrev SVC_FUSE_SVC_LOCK : Fld := ⟨0x1D, 0x1, 16, 1⟩
abbrev SVC_FUSE_REVOKED : Fld := ⟨0x1D, 0x1, 8, 4⟩
abbrev SVC_FUSE_KEYS : Fld := ⟨0x1D, 0x1, 0, 4⟩
abbrev SVC_BOOT : Fld := ⟨0x1D, 0x2, 0, 32⟩
abbrev SVC_BOOT_FELL : Fld := ⟨0x1D, 0x2, 8, 5⟩
abbrev SVC_BOOT_SLOT : Fld := ⟨0x1D, 0x2, 0, 5⟩
abbrev SVC_JOURNAL : Fld := ⟨0x1D, 0x3, 0, 32⟩
abbrev SVC_JOURNAL_STATE : Fld := ⟨0x1D, 0x3, 28, 4⟩
abbrev SVC_JOURNAL_COMP : Fld := ⟨0x1D, 0x3, 24, 4⟩
abbrev SVC_JOURNAL_SLOT : Fld := ⟨0x1D, 0x3, 16, 1⟩
abbrev SVC_JOURNAL_NEXT : Fld := ⟨0x1D, 0x3, 0, 12⟩
abbrev SVC_STAGED : Fld := ⟨0x1D, 0x4, 0, 32⟩
abbrev SVC_CRC_ERR : Fld := ⟨0x1D, 0x7, 0, 32⟩
abbrev SVC_FRAMES : Fld := ⟨0x1D, 0x8, 0, 32⟩
abbrev SVC_EVENT : Fld := ⟨0x1D, 0x5, 0, 32⟩
abbrev SVC_EVENT_FALLBACK : Fld := ⟨0x1D, 0x5, 4, 1⟩
abbrev SVC_EVENT_ACTIVATED : Fld := ⟨0x1D, 0x5, 3, 1⟩
abbrev SVC_EVENT_VERIFIED : Fld := ⟨0x1D, 0x5, 2, 1⟩
abbrev SVC_EVENT_APPLY_DONE : Fld := ⟨0x1D, 0x5, 1, 1⟩
abbrev SVC_EVENT_CHECK_FAIL : Fld := ⟨0x1D, 0x5, 0, 1⟩
abbrev SVC_EVENT_EN : Fld := ⟨0x1D, 0x6, 0, 32⟩
abbrev SVC_EVENT_EN_FALLBACK : Fld := ⟨0x1D, 0x6, 4, 1⟩
abbrev SVC_EVENT_EN_ACTIVATED : Fld := ⟨0x1D, 0x6, 3, 1⟩
abbrev SVC_EVENT_EN_VERIFIED : Fld := ⟨0x1D, 0x6, 2, 1⟩
abbrev SVC_EVENT_EN_APPLY_DONE : Fld := ⟨0x1D, 0x6, 1, 1⟩
abbrev SVC_EVENT_EN_CHECK_FAIL : Fld := ⟨0x1D, 0x6, 0, 1⟩

end Sys2Proof.Machine
end

