-- ==== Sys2Proof/Machine/Tab.lean ====
section
/-! DEFINITION. Sparse tables in one canonical form: (key, value) pairs with strictly rising keys, no entry equal to
what an unlisted key reads as. Every addressed storage of the device (registers, DRAM, per-unit records, the Ash map,
the screening tables) is one of these, so that equal contents are equal data. -/

namespace Sys2Proof.Machine

/-- A sparse table from natural-number keys. -/
abbrev Tab (α : Type) := List (Nat × α)

/-- The listed value of a key, if the key is listed. -/
def tabFind {α : Type} : Tab α → Nat → Option α
  | [], _ => none
  | (k', v) :: m, k => if k' = k then some v else tabFind m k

/-- What a key reads as; `d` gives the value of every unlisted key. -/
def tabGet {α : Type} (d : Nat → α) (m : Tab α) (k : Nat) : α := (tabFind m k).getD (d k)

/-- Insert or replace, keeping the keys rising. -/
def tabPut {α : Type} : Tab α → Nat → α → Tab α
  | [], k, v => [(k, v)]
  | (k', v') :: m, k, v =>
    if k < k' then (k, v) :: (k', v') :: m
    else if k = k' then (k, v) :: m
    else (k', v') :: tabPut m k v

/-- Remove a key. -/
def tabDel {α : Type} : Tab α → Nat → Tab α
  | [], _ => []
  | (k', v') :: m, k => if k' = k then tabDel m k else (k', v') :: tabDel m k

/-- Write a key: the entry is removed when the value is what an unlisted key reads as. -/
def tabSet {α : Type} [DecidableEq α] (d : Nat → α) (m : Tab α) (k : Nat) (v : α) : Tab α :=
  if v = d k then tabDel m k else tabPut m k v

/-- Every key of `m` is above `k`. -/
def tabAbove {α : Type} (k : Nat) (m : Tab α) : Bool := m.all fun e => decide (k < e.1)

/-- The canonical form. -/
def tabWf {α : Type} [DecidableEq α] (d : Nat → α) : Tab α → Bool
  | [] => true
  | (k, v) :: m => decide (v ≠ d k) && tabAbove k m && tabWf d m

end Sys2Proof.Machine
end

