-- ==== Sys2Proof/Syntax.lean ====
section
/-! DEFINITION. The commands of the block: one constructor for each row of spec/opcode_table.json, with the row's
operands (hearth `h`, lane `l`, instance `i`, port `p`, camera `c`, a word written, a frame or datagram received, a
measurement made). -/

namespace Sys2Proof

/-- A mailbox command entry (R274) as the device takes it: channel, tag, generation, flags, LEN and payload. -/
structure Cmd where
  ch : Nat
  tag : Nat
  gen : Nat := 0
  flags : Nat := 0
  len : Nat
  payload : List Byte
deriving DecidableEq, Repr

/-- A request a requester of a hearth makes of the Chimney or the memories (R245, R248, R249): requester number, destination
hearth, address in its memory (none for a message to the hearth itself), length in flits, slots at a DRAM channel. -/
structure Request where
  req : Nat
  dst : Nat
  mem : Option Nat
  flits : Nat
  slots : Nat
deriving DecidableEq, Repr

/-- A received unit of a lane (R37): a Gorge block, by its header bit and payload; a Saddle code group after another, each its octet
with 256 added for a control code. -/
inductive LaneUnit where
  | block (hdr : Bool) (payload : List Byte)
  | group (prev kb : Nat)
deriving DecidableEq, Repr

/-- The commands. -/
inductive Instr where
  /-- REGISTER_WRITE (R8): A write to a register field that has no behaviour of its own sets the field according to its access code, broadcast and RWL rules. -/
  | registerWrite (addr : Nat) (value : Word)
  /-- RC_READ (R8): A read of an RC word returns its value and clears it without losing a coinciding increment. -/
  | rcRead (addr : Nat)
  /-- LO_HALF_READ (R117): A read of the _LO half of a 64-bit pair latches the _HI half for the next _HI read. -/
  | loHalfRead (addr : Nat)
  /-- EVENT_ENABLE_WRITE (R293): Writing an EVENT_EN bit from 0 to 1 while its event bit is set posts one event word. -/
  | eventEnableWrite (addr : Nat) (value : Word)
  /-- LANE_EN_WRITE (R25): Writing LANE_CTRL.EN 1 with a valid MODE takes a lane from OFF to WAIT_SIG, and EN 0 returns it to OFF. -/
  | laneEnWrite (h : Nat) (l : Nat) (value : Word)
  /-- SIGNAL_DETECTED (R25): Signal detected continuously for 1 µs takes a lane from WAIT_SIG to ACQUIRE. -/
  | signalDetected (h : Nat) (l : Nat)
  /-- CDR_LOCKED (R25): The lane's clock and data recovery locks in ACQUIRE and starts counting FOM periods. -/
  | cdrLocked (h : Nat) (l : Nat)
  /-- FOM_PERIOD (R38): At the end of each FOM period the eye opening is measured and low-FOM freeze, recentre or an adaptation step follows. -/
  | fomPeriod (h : Nat) (l : Nat) (fom : Nat)
  /-- LOW_FOM_DEGRADED (R40): FOM below the floor for 1 ms in UP sets DEGRADED while the lane stays UP. -/
  | lowFomDegraded (h : Nat) (l : Nat)
  /-- RECENTRE_DONE (R38): The 1,024-symbol recentre at eightfold step size ends and normal adaptation resumes. -/
  | recentreDone (h : Nat) (l : Nat)
  /-- ADAPT_UNIT_RECEIVED (R37): Each received block or code group updates the idle count and sets or clears idle freeze. -/
  | adaptUnitReceived (h : Nat) (l : Nat) (unit : LaneUnit)
  /-- CODEWORD_RECEIVED (R19): A Gorge RS(544,514) codeword is decoded, corrected or marked uncorrectable, and its blocks are delivered. -/
  | codewordReceived (h : Nat) (l : Nat) (levels : List Nat)
  /-- ALIGNMENT_CODEWORD_RECEIVED (R20): An alignment codeword is found, confirms alignment, and carries lane and bond IDs for the CHECK tests. -/
  | alignmentCodewordReceived (h : Nat) (l : Nat) (levels : List Nat)
  /-- ALIGNMENT_CODEWORD_SENT (R20): Every 1,024th transmitted codeword is replaced by an alignment codeword carrying marker, IDs and sequence. -/
  | alignmentCodewordSent (h : Nat) (l : Nat)
  /-- CODE_GROUP_RECEIVED (R22): A Saddle 8b/10b code group is checked against running disparity and counted if invalid. -/
  | codeGroupReceived (h : Nat) (l : Nat) (group : Nat)
  /-- SADDLE_SYNC_ACQUIRED (R25): Clause 36 synchronisation, and auto-negotiation where enabled, take a Saddle lane from ALIGN to CHECK. -/
  | saddleSyncAcquired (h : Nat) (l : Nat)
  /-- AUTONEG_COMPLETE (R24): Clause 37 auto-negotiation completes, and a partner not advertising full duplex sets AN_FAIL. -/
  | autonegComplete (h : Nat) (l : Nat) (fullDuplex : Bool)
  /-- AUTONEG_RESTART (R24): Every 10 ms after AN_FAIL the lane restarts auto-negotiation. -/
  | autonegRestart (h : Nat) (l : Nat)
  /-- SIGNAL_LOST (R26): Signal lost for 1 µs in ACQUIRE to UP returns the lane to WAIT_SIG. -/
  | signalLost (h : Nat) (l : Nat)
  /-- CDR_LOCK_LOST (R26): Loss of CDR lock in ACQUIRE to UP returns the lane to WAIT_SIG. -/
  | cdrLockLost (h : Nat) (l : Nat)
  /-- ALIGNMENT_LOST (R26): Three missing alignment codewords or over 64 uncorrectable codewords in an interval return a Gorge lane to WAIT_SIG. -/
  | alignmentLost (h : Nat) (l : Nat)
  /-- SADDLE_SYNC_LOST (R26): Clause 36 loss of synchronisation returns a Saddle lane to WAIT_SIG. -/
  | saddleSyncLost (h : Nat) (l : Nat)
  /-- BRINGUP_TIMEOUT (R26): UP not reached within LANE_BRINGUP.TIMEOUT ms sends the lane to FAIL. -/
  | bringupTimeout (h : Nat) (l : Nat)
  /-- FAIL_RETRY (R25): RETRY ms after entry to FAIL the lane returns to WAIT_SIG. -/
  | failRetry (h : Nat) (l : Nat)
  /-- PRBS_ENABLE_WRITE (R26): Setting GEN_EN or CHK_EN sends the lane to TEST, and clearing both returns it to WAIT_SIG. -/
  | prbsEnableWrite (h : Nat) (l : Nat) (value : Word)
  /-- PRBS_CHECKER_LOCK (R43): The checker locks after 128 error-free bits and starts counting. -/
  | prbsCheckerLock (h : Nat) (l : Nat) (line : List Nat)
  /-- PRBS_LOCK_LOST (R43): More than 16 errors in a 128-bit window lose checker lock, set LOCK_LOST and reseed. -/
  | prbsLockLost (h : Nat) (l : Nat) (line : List Nat)
  /-- CHK_RESEED (R43): Writing 1 to CHK_RESEED forces the checker to reseed. -/
  | chkReseed (h : Nat) (l : Nat)
  /-- INJ_ONE (R44): Writing INJ_ONE inverts the next generated bit once the generator runs. -/
  | injOne (h : Nat) (l : Nat)
  /-- INJ_RATE_INJECTION (R44): Every 2^k-th generated bit is inverted while rate injection is on. -/
  | injRateInjection (h : Nat) (l : Nat)
  /-- LOOPBACK_CHANGE (R45): A change of LOOPBACK selects near- or far-end loopback and sends the lane through WAIT_SIG. -/
  | loopbackChange (h : Nat) (l : Nat) (value : Word)
  /-- GORGE_BAD_FRAME (R48): A frame with errored blocks, a bad CRC, a bad LEN or truncation is discarded and counted. -/
  | gorgeBadFrame (h : Nat) (i : Nat) (frame : List Byte) (errored : Bool) (truncated : Bool)
  /-- HELLO_RECEIVED (R56): A receiver handles a HELLO by state, epoch, version and sender lock, and answers HELLO_ACK or ERROR. -/
  | helloReceived (h : Nat) (i : Nat) (frame : List Byte)
  /-- HELLO_ACK_RECEIVED (R55): A mirror sender in CONNECTING that receives HELLO_ACK with STATUS 0 enters ACTIVE. -/
  | helloAckReceived (h : Nat) (i : Nat) (frame : List Byte)
  /-- HELLO_RESEND (R57): A sender without HELLO_ACK sends its HELLO again every 1 ms. -/
  | helloResend (h : Nat)
  /-- SEQUENCED_FRAME_RECEIVED (R61): An intact sequenced frame of the current epoch is checked for window and credit, staged and processed in SEQ order. -/
  | sequencedFrameReceived (h : Nat) (i : Nat) (frame : List Byte)
  /-- ACK_RECEIVED (R65): A mirror sender takes an ACK, advances SND_UNA, releases SACKed frames and takes the credit. -/
  | ackReceived (h : Nat) (i : Nat) (frame : List Byte)
  /-- NAK_RECEIVED (R65): A mirror sender resends each named frame not covered by SACK. -/
  | nakReceived (h : Nat) (i : Nat) (frame : List Byte)
  /-- CREDIT_RECEIVED (R67): A sender takes the highest credit limit from a CREDIT frame. -/
  | creditReceived (h : Nat) (i : Nat) (frame : List Byte)
  /-- KEEPALIVE_RECEIVED (R64): A KEEPALIVE restarts the dead timer, and one showing lost tail frames is answered by NAK. -/
  | keepaliveReceived (h : Nat) (i : Nat) (frame : List Byte)
  /-- BYE_ABORT_RECEIVED (R80): A BYE with ABORT ends the session on receipt and discards open pages. -/
  | byeAbortReceived (h : Nat) (i : Nat) (frame : List Byte)
  /-- ERROR_FRAME_RECEIVED (R76): An ERROR from the sender, such as REWIND_DECLINED, ends the matching rewind request. -/
  | errorFrameReceived (h : Nat) (i : Nat) (frame : List Byte)
  /-- GORGE_PROTOCOL_ERROR (R78): A frame with a wrong version, type or epoch is discarded with ERROR and counted, possibly reaching the error limit. -/
  | gorgeProtocolError (h : Nat) (i : Nat) (frame : List Byte)
  /-- ACK_DELAY_EXPIRY (R62): ACK_DELAY after the oldest unacknowledged frame, or after ACK_COALESCE frames, an ACK is sent. -/
  | ackDelayExpiry (h : Nat) (i : Nat)
  /-- CREDIT_STEP (R69): A limit advanced by STEP with no ACK due sends a CREDIT frame. -/
  | creditStep (h : Nat) (i : Nat)
  /-- KEEPALIVE_INTERVAL (R59): After 1 ms without sending, a party sends KEEPALIVE, or the receiver a CREDIT, and any rewind request is repeated. -/
  | keepaliveInterval (h : Nat) (i : Nat)
  /-- PEER_DEAD (R59): No valid frame for the dead time declares the partner dead, sends BYE ABORT and returns to LISTEN. -/
  | peerDead (h : Nat) (i : Nat)
  /-- RETX_TIMEOUT (R65): A mirror sender without progress for the retransmit wait resends the frame at SND_UNA and doubles the wait. -/
  | retxTimeout (h : Nat)
  /-- GORGE_EN_WRITE (R55): Writing GOR_CTRL.EN 1 starts LISTEN or CONNECTING, and EN 0 starts a drain or goes OFF. -/
  | gorgeEnWrite (h : Nat) (i : Nat) (value : Word)
  /-- GORGE_DRAIN_TIMEOUT (R81): GOR_DRAIN.TIME running out discards remaining pages with DRAIN_TIMEOUT and goes OFF. -/
  | gorgeDrainTimeout (h : Nat) (i : Nat)
  /-- GORGE_FORCE_OFF (R81): Writing FORCE_OFF 1 takes the instance OFF at once, discards open pages and records ABORTED. -/
  | gorgeForceOff (h : Nat) (i : Nat)
  /-- BASIN_EN_WRITE (R89): Writing BAS_CTRL.EN 1 checks the regions and enables the Basin or refuses with CFG_BAD, and EN 0 starts a drain. -/
  | basinEnWrite (h : Nat) (value : Word)
  /-- PAGE_OPEN_RESUMED (R96): A PAGE_OPEN waiting for Basin space or enable is processed once a reservation becomes possible. -/
  | pageOpenResumed (h : Nat)
  /-- PAGE_RETIRE (R210): A FIRED page moves to RETIRED when inspection closes or at once without inspection. -/
  | pageRetire (h : Nat) (page : Nat)
  /-- PAGE_RELEASE (R93): Releasing or discarding a page removes it from the table and moves the mark and write pointer. -/
  | pageRelease (h : Nat) (page : Nat)
  /-- DECODE_JOB_START (R102): The next job in decode order starts on an idle enabled decoder once it has decode-area space. -/
  | decodeJobStart (h : Nat) (d : Nat)
  /-- DECODE_JOB_DONE (R101): A decode job ends OK and the page becomes ready when all its jobs and planes are complete. -/
  | decodeJobDone (h : Nat) (d : Nat)
  /-- DECODE_JOB_FAIL (R105): A job ending with a fault fails its page, frees its buffers and stops its other jobs. -/
  | decodeJobFail (h : Nat) (d : Nat)
  /-- ENCODE_REQUEST (R115): The encoder takes a readback or upload request and compresses a source region into one Cinder job. -/
  | encodeRequest (h : Nat) (src : Nat) (len : Nat) (rowBytes : Nat) (dst : Nat) (size : Nat)
  /-- ENCODE_DONE (R115): An encoder request ends OK, NO_GAIN, OUT_OF_SPACE or ABORTED. -/
  | encodeDone (h : Nat)
  /-- CINDER_EN_WRITE (R121): Writing CIN_CTRL.EN 1 enables an instance, and EN 0 starts a drain of its current job. -/
  | cinderEnWrite (h : Nat) (d : Nat) (value : Word)
  /-- CINDER_DRAIN_TIMEOUT (R121): A job not finished within DRAIN_MS ends ABORTED and the drain result is ABORTED. -/
  | cinderDrainTimeout (h : Nat) (d : Nat)
  /-- CINDER_FORCE_OFF (R122): Writing FORCE_OFF ends the current job ABORTED at once. -/
  | cinderForceOff (h : Nat) (d : Nat)
  /-- TER_EN_WRITE (R134): Writing TER_CTRL.EN 1 starts slots at the next trigger, and EN 0 starts a normal disable. -/
  | terEnWrite (h : Nat) (value : Word)
  /-- LINE_TRIGGER (R175): A Draught line trigger advances LNUM and drives slot, composing, Ash and privileged application, shift, latch and strobes. -/
  | lineTrigger (h : Nat)
  /-- STROBE_END (R165): A strobe phase ends after its width, ending a DRAINING port's line or a page's last line. -/
  | strobeEnd (h : Nat) (p : Nat) (m : Nat)
  /-- SHIFT_DONE (R164): A line's shift ends, or underruns with zeros and marks the page defective. -/
  | shiftDone (h : Nat) (p : Nat) (sent : Option Nat)
  /-- VHEAD_SAMPLE (R167): At VS_DLY after each trigger VHEAD is sampled, setting the next line's widths or its VLIM suppression. -/
  | vheadSample (h : Nat) (p : Nat) (code : Nat)
  /-- TEMP_SAMPLE (R166): SNS is sampled every 256 triggers or at a time-unit event and temperature limits are applied. -/
  | tempSample (h : Nat) (p : Nat) (code : Nat)
  /-- TBL_ARM (R141): Writing GRT_CTRL.TBL_ARM arms a table swap for this or the next slot's gap, or at once while TER is OFF. -/
  | tblArm (h : Nat)
  /-- TABLE_COPY_DONE (R141): The copy of the new active bank into the shadow ends and held table-port accesses act. -/
  | tableCopyDone (h : Nat)
  /-- GRT_TBL_DATA_ACCESS (R141): An access to GRT_TBL_DATA reads or writes the shadow entry at INDEX and advances INDEX. -/
  | grtTblDataAccess (h : Nat) (write : Option Word)
  /-- GRT_EN_WRITE (R432): Writing GRT_CTRL.EN enables or disables Grate decisions, a disable refused while TER runs. -/
  | grtEnWrite (h : Nat) (value : Word)
  /-- PRIV_ARM (R139): Writing TER_PRIV_CTRL.ARM captures staged privileged values for line PRIV_LINE. -/
  | privArm (h : Nat)
  /-- ASH_UPD_PUSH (R146): Writing ASH_UPD_PUSH queues an Ash entry at its effective line or refuses it. -/
  | ashUpdPush (h : Nat) (column : Nat)
  /-- ASH_CTRL_FLUSH (R148): Writing ASH_CTRL.FLUSH discards every queued entry. -/
  | ashCtrlFlush (h : Nat)
  /-- TER_DRAIN_TIMEOUT (R149): A TER drain not ended within TIME ms acts as a forced disable from the next trigger. -/
  | terDrainTimeout (h : Nat)
  /-- TER_FORCE_OFF (R149): Writing TER_CTRL.FORCE_OFF suppresses remaining lines and goes OFF at the next trigger. -/
  | terForceOff (h : Nat)
  /-- HEAD_PRESENT (R154): PRS_N low for DEB ms takes a port from ABSENT to PRESENT. -/
  | headPresent (h : Nat) (p : Nat)
  /-- FBX_PWR_WRITE (R154): Writing FBX_CTRL.PWR 1 powers a PRESENT port, and 0 drops PWE and returns to PRESENT. -/
  | fbxPwrWrite (h : Nat) (p : Nat) (value : Word)
  /-- HEAD_SETTLED (R156): SETTLE ms after PWE rose, the port samples SNS, measures ID and enters READY. -/
  | headSettled (h : Nat) (p : Nat) (sns : Nat) (idCode : Nat)
  /-- FBX_EN_WRITE (R154): Writing FBX_CTRL.EN 1 arms a READY port, and 0 drains or disarms it. -/
  | fbxEnWrite (h : Nat) (p : Nat) (value : Word)
  /-- FBX_FORCE_OFF (R183): Writing FBX_CTRL.FORCE_OFF drives strobes low at once and returns the port to READY. -/
  | fbxForceOff (h : Nat) (p : Nat)
  /-- HEAD_REMOVED (R155): PRS_N high for 10 µs ends strobes, drops outputs, enters ABSENT and marks the page HEAD_OUT. -/
  | headRemoved (h : Nat) (p : Nat)
  /-- CMAP_APPLY (R159): Writing FBX_CMAP.APPLY requests the staged column maps be checked and made active. -/
  | cmapApply (h : Nat) (p : Nat)
  /-- CMAP_CHECK (R159): The requested maps are checked against R4 and all become active or none. -/
  | cmapCheck (h : Nat)
  /-- FBX_HEAD_WRITE (R433): A write changing STRANDS or NOZ_M1 of a mapped port is checked at once and applied or refused. -/
  | fbxHeadWrite (h : Nat) (p : Nat) (value : Word)
  /-- DAMPER_BIN_END (R170): A head-budget bin of WIN × 6,250 clocks ends and the next bin begins. -/
  | damperBinEnd (h : Nat)
  /-- FENDER_ASSERT (R172): A gate pin low for FILT steps asserts the gate, latches it and holds strobes from the next trigger. -/
  | fenderAssert (gate : Nat)
  /-- FENDER_RELEASE (R172): A gate pin high for FILT steps releases the gate and strobes resume when none is in force. -/
  | fenderRelease (gate : Nat)
  /-- FENDER_LATCH_CLEAR (R173): A W1C write to FND_LATCHED clears latched assertions no longer present. -/
  | fenderLatchClear (value : Word)
  /-- FND_EN_WRITE (R173): Changing FND_CTRL.EN takes gates into or out of force at each hearth's next trigger. -/
  | fndEnWrite (value : Word)
  /-- DRT_LOOP_UPDATE (R175): Every 64 clocks the Draught loop updates phase and velocity and judges lock. -/
  | drtLoopUpdate (h : Nat)
  /-- DRT_EN_WRITE (R179): Writing DRT_CTRL.EN 1 enters TRACK or INTERNAL, and EN 0 stops triggers and marks the page PACE_OFF. -/
  | drtEnWrite (h : Nat) (value : Word)
  /-- START_ARM (R176): Writing START_ARM in TRACK arms the start position or refuses it with START_LATE. -/
  | startArm (h : Nat)
  /-- START_REACHED (R176): The count reaching the armed start sets the target, zeroes the boundary count and enters RUN. -/
  | startReached (h : Nat)
  /-- DRT_REVERSE (R177): A count more than REV below the high-water mark pauses the DRT. -/
  | drtReverse (h : Nat)
  /-- DRT_RESUMED (R177): The count regaining the high-water mark returns the DRT from PAUSED to RUN. -/
  | drtResumed (h : Nat)
  /-- DRT_RESUME (R179): Writing DRT_CTRL.RESUME with the source channel fault-free leaves HOLD for TRACK. -/
  | drtResume (h : Nat)
  /-- CSI_PACKET_RECEIVED (R188): A CSI-2 packet is ECC-checked and taken as a line, frame start or end, or discarded. -/
  | csiPacketReceived (h : Nat) (c : Nat) (packet : List Byte)
  /-- FRAME_TIMEOUT (R193): An open frame without a packet for 100 ms is closed. -/
  | frameTimeout (h : Nat) (c : Nat)
  /-- CAMERA_LINK_DOWN (R193): An enabled port receiving no packet for 100 ms sets LINK_DOWN. -/
  | cameraLinkDown (h : Nat) (c : Nat)
  /-- CAMERA_TRIGGER (R190): A trigger pulse is sent by web step or time unit and latches the web count for the next frame. -/
  | cameraTrigger (h : Nat) (c : Nat)
  /-- PIPELINE_LINE_TAKEN (R194): The pipeline takes the earliest buffered line and runs noise reduction and demosaic. -/
  | pipelineLineTaken (h : Nat)
  /-- VERDICT_RECEIVED (R208): A colour hearth skips a verdict or pushes a weak or dead Ash entry at LNUM plus LEAD. -/
  | verdictReceived (h : Nat) (msg : List Byte)
  /-- WATERMARK_RECEIVED (R210): A watermark reaching a page's last line plus MARGIN from every port closes inspection of the page. -/
  | watermarkReceived (h : Nat) (msg : List Byte)
  /-- INSPECTION_CLOSE_TIMEOUT (R210): A page not closed TIMEOUT ms after FIRED retires as not inspected. -/
  | inspectionCloseTimeout (h : Nat) (page : Nat)
  /-- I2C_TRANSFER_DONE (R189): An I²C transfer ends OK, with CHECK_FAIL on NACK, or TIMEOUT on long stretching. -/
  | i2cTransferDone (h : Nat) (c : Nat) (result : Nat) (read : List Byte)
  /-- CAM_EN_WRITE (R212): Writing CAM_CTRL.EN 1 enables a port, and EN 0 receives the current frame to its end. -/
  | camEnWrite (h : Nat) (c : Nat) (value : Word)
  /-- CAM_DRAIN_TIMEOUT (R212): A frame not ended within 100 ms of a disable is dropped and the result is ABORTED. -/
  | camDrainTimeout (h : Nat) (c : Nat)
  /-- CAM_FORCE_OFF (R212): Writing CAM_CTRL.FORCE_OFF drops the current frame at once. -/
  | camForceOff (h : Nat) (c : Nat)
  /-- ISP_EN_WRITE (R212): Writing ISP_CTRL.EN 1 starts the pipeline, and EN 0 completes lines in flight and stops Echo writing. -/
  | ispEnWrite (h : Nat) (value : Word)
  /-- ISP_FORCE_OFF (R212): Writing ISP_CTRL.FORCE_OFF discards lines in the pipeline and clears accumulators. -/
  | ispForceOff (h : Nat)
  /-- ISP_DLUT_DATA_ACCESS (R205): An access to ISP_DLUT_DATA reads or writes the density table entry and advances the index. -/
  | ispDlutDataAccess (h : Nat) (write : Option Word)
  /-- QUAD_TRANSITION (R217): A filtered A or B change counts up, down or as an illegal transition. -/
  | quadTransition (h : Nat) (c : Nat) (a : Bool) (b : Bool) (z : Bool)
  /-- INDEX_PULSE (R218): A rising filtered Z latches the count and checks or learns the index. -/
  | indexPulse (h : Nat) (c : Nat)
  /-- WIRE_DISAGREE (R216): Both wires of a pair at one level for WD × 10 ns hold the filtered level and raise a WIRE cause. -/
  | wireDisagree (h : Nat) (c : Nat) (wire : Nat) (on : Bool)
  /-- SPEED_WINDOW_END (R220): Each speed window ends with the count change in FBK_SPEED and runs Hall plausibility. -/
  | speedWindowEnd (h : Nat) (c : Nat)
  /-- HALL_STATE_CHANGE (R222): A filtered Hall state change counts a step or reports a skip or impossible state. -/
  | hallStateChange (h : Nat) (k : Nat) (state : Nat)
  /-- CLR_FAULT (R221): Writing CLR_FAULT clears FAULT and WHY if no cause is present, else sets CLR_REFUSED. -/
  | clrFault (h : Nat) (c : Nat)
  /-- FBK_QUAD_EN_WRITE (R240): Writing FBK_QCTRL.EN 0 freezes the count and raises cause OFF, and 1 restarts counting. -/
  | fbkQuadEnWrite (h : Nat) (c : Nat) (value : Word)
  /-- SSI_FRAME_START (R225): An SSI frame is started by period or time unit after MONO, or skipped when DAT is low. -/
  | ssiFrameStart (h : Nat) (k : Nat) (dat : Bool)
  /-- SSI_FRAME_DONE (R224): A completed SSI frame writes the converted position and advances SSI_SEQ. -/
  | ssiFrameDone (h : Nat) (k : Nat) (raw : Nat)
  /-- AXIS_STEP (R227): An accumulator carry moves the axis one microunit and may complete the current move. -/
  | axisStep (axis : Nat)
  /-- PROFILE_TICK (R229): Every 20 µs the profile takes the next move and ramps velocity up or down. -/
  | profileTick (axis : Nat)
  /-- PHASE_FRAME_SENT (R233): One 40-bit phase-setpoint frame with coil currents is sent 1 µs after each profile tick. -/
  | phaseFrameSent (axis : Nat)
  /-- MOT_Q_PUSH (R228): Writing MOT_Q_PUSH queues a move or refuses it. -/
  | motQPush (axis : Nat) (value : Word)
  /-- STANDSTILL (R234): An axis at rest with an empty queue for DELAY ms applies its idle action. -/
  | standstill (axis : Nat)
  /-- WAKE_DELAY_END (R234): WAKE ms after the first frame with RUN current the waiting move starts. -/
  | wakeDelayEnd (axis : Nat)
  /-- SWITCH_DEBOUNCE_END (R235): At the end of a debounce window a HOME or limit edge passes or is dropped. -/
  | switchDebounceEnd (axis : Nat) (sw : Nat) (level : Bool) (edgePos : Int)
  /-- MOT_HOME_WRITE (R237): Writing MOT_CTRL.HOME in IDLE starts homing, or fails at once if HOME is active. -/
  | motHomeWrite (axis : Nat)
  /-- MOT_STOP_WRITE (R239): Writing MOT_CTRL.STOP discards the queue and ramps to rest. -/
  | motStopWrite (axis : Nat)
  /-- MOT_CLR_WRITE (R236): Writing MOT_CTRL.CLR takes the axis from LIMIT to IDLE. -/
  | motClrWrite (axis : Nat)
  /-- MOT_EN_WRITE (R240): Writing MOT_CTRL.EN 1 enters IDLE, and EN 0 discards the queue and drains the current move. -/
  | motEnWrite (axis : Nat) (value : Word)
  /-- MOT_DRAIN_TIMEOUT (R240): A move not ended within DRAIN × 10 ms ramps to rest and the result is ABORTED. -/
  | motDrainTimeout (axis : Nat)
  /-- MOT_FORCE_OFF (R240): Writing MOT_CTRL.FORCE_OFF stops the axis at once and switches the coils off. -/
  | motForceOff (axis : Nat)
  /-- FLIT_CRC_ERROR (R247): A flit with a bad CRC is refused and replayed, and too many resends take the link down. -/
  | flitCrcError (h : Nat) (link : Nat)
  /-- CHIMNEY_LINK_UP (R247): A retrained link enters UP and flows move back once their old packets have arrived. -/
  | chimneyLinkUp (h : Nat) (link : Nat)
  /-- CHIMNEY_PACKET_SENT (R251): An output picks the next packet by Class F priority and count-weighted deficit round robin. -/
  | chimneyPacketSent (h : Nat) (output : Nat) (arrivals : List Request) (ecc : Nat)
  /-- DRAM_TRAINING_DONE (R255): Boot training ends with DRM READY or FAIL per channel. -/
  | dramTrainingDone (h : Nat) (failMask : Nat)
  /-- RETRAIN_DUE (R256): A period or temperature step makes a channel pause to remeasure and update its delays. -/
  | retrainDue (h : Nat) (ch : Nat) (ok : Bool) (temp : Nat) (delays : Nat)
  /-- REFRESH_DUE (R254): A per-bank refresh falls due and is issued or postponed for a waiting Class F request. -/
  | refreshDue (h : Nat) (ch : Nat) (bank : Nat) (fWaiting : Bool)
  /-- NEIGHBOUR_REFRESH (R257): An activate steps the LFSR and may queue refreshes of the neighbouring rows. -/
  | neighbourRefresh (h : Nat) (addr : Nat) (fWaiting : Bool)
  /-- F_READ_RETURN (R260): A Class F read returns and one later than 1.80 µs is counted as F_LATE. -/
  | fReadReturn (h : Nat) (ch : Nat) (ns : Nat) (ecc : Nat) (col : Nat) (cols : Nat)
  /-- QSPI_WRITE (R267): A control-port WRITE places its words in the posted write buffer. -/
  | qspiWrite (addr : Nat) (words : List Word)
  /-- QSPI_READ (R266): A control-port READ waits for earlier writes, returns token and words, or times out with 0xE1. -/
  | qspiRead (addr : Nat) (count : Nat) (late : Bool)
  /-- QSPI_STATUS (R265): A STATUS opcode returns GLB_PORT_STATUS repeatedly. -/
  | qspiStatus
  /-- QSPI_ID (R265): An ID opcode returns the crown's GLB_ID. -/
  | qspiId
  /-- QSPI_UNKNOWN_OPCODE (R265): Any other opcode is ignored until CS_N rises. -/
  | qspiUnknownOpcode (opcode : Nat)
  /-- QSPI_CS_RISE (R264): A rising CS_N ends the transaction, keeping whole words and discarding a partial one. -/
  | qspiCsRise
  /-- POSTED_WRITE_APPLY (R267): A buffered word takes effect at its target or is discarded with WERR if unreachable. -/
  | postedWriteApply
  /-- CMD_PI_WRITE (R276): Writing MBX_CMD_PI rings the doorbell, or is ignored with PI_BAD. -/
  | cmdPiWrite (ch : Nat) (value : Word)
  /-- RSP_CI_WRITE (R276): Writing MBX_RSP_CI frees response slots, or is ignored with PI_BAD. -/
  | rspCiWrite (ch : Nat) (value : Word)
  /-- MAILBOX_COMMAND_TAKEN (R277): The device takes the next command entry, subject to fence and waiting responses, and checks it. -/
  | mailboxCommandTaken (ch : Nat)
  /-- RESPONSE_WRITTEN (R278): A produced response is written to the ring, or waits while the ring is full. -/
  | responseWritten (ch : Nat)
  /-- DOORBELL_PUSH (R279): After responses are written a doorbell word is pushed, at most once per 1 µs per channel. -/
  | doorbellPush (ch : Nat)
  /-- MAILBOX_PAUSE (R280): During a Mantel firmware swap every channel is paused. -/
  | mailboxPause
  /-- MAILBOX_RESUME (R280): After the swap the channels resume taking commands. -/
  | mailboxResume
  /-- MBX_EN_WRITE (R296): Writing MBX_CTRL.EN 0 stops taking entries and drains outstanding commands. -/
  | mbxEnWrite (ch : Nat) (value : Word)
  /-- MBX_DRAIN_TIMEOUT (R296): Commands outstanding after DRAIN × 10 ms end with a final ABORTED. -/
  | mbxDrainTimeout (ch : Nat)
  /-- MBX_FORCE_OFF (R296): Writing MBX_CTRL.FORCE_OFF ends every outstanding command ABORTED. -/
  | mbxForceOff (ch : Nat)
  /-- UDP_HELLO (R283): A mailbox HELLO binds, renews or rejects the channel session. -/
  | udpHello (frame : List Byte)
  /-- UDP_REQUEST (R284): A REQUEST's entries are deduplicated and placed in the command ring and answered by ACK. -/
  | udpRequest (frame : List Byte)
  /-- UDP_RACK (R286): A RACK acknowledges every response of the RESPONSE datagram it names. -/
  | udpRack (frame : List Byte)
  /-- UDP_REJECT (R282): A malformed, stale or foreign datagram is rejected with a REJECT reason. -/
  | udpReject (frame : List Byte)
  /-- RESPONSE_RETRANSMIT (R286): An unacknowledged RESPONSE datagram is resent every RTO ms and dropped after RETRY. -/
  | responseRetransmit (ch : Nat) (rseq : Nat)
  /-- ARP_RECEIVED (R281): An ARP request is answered and the cache updated. -/
  | arpReceived (frame : List Byte)
  /-- ICMP_ECHO_RECEIVED (R281): An ICMP echo request is answered with an echo reply. -/
  | icmpEchoReceived (frame : List Byte)
  /-- FLUE_PUSH (R287): A word written to FLU_Qn_PUSH is appended with parity or discarded when the queue is full. -/
  | fluePush (h : Nat) (q : Nat) (value : Word)
  /-- FLUE_POP (R288): A read of FLU_Qn_POP removes the head word, flagging poison or underrun. -/
  | fluePop (h : Nat) (q : Nat) (upset : Word)
  /-- FLUE_FLUSH (R287): Writing FLU_FLUSH empties the named queues. -/
  | flueFlush (h : Nat) (value : Word)
  /-- FLUE_CFG_WRITE (R287): A FLU_Qn_CFG write changing DEPTH empties the queue. -/
  | flueCfgWrite (h : Nat) (q : Nat) (value : Word)
  /-- FLUE_STALE (R290): A queue non-empty for STALE ms without a pop sets STALE. -/
  | flueStale (h : Nat) (q : Nat)
  /-- SYS_INFO (R308): Returns interface level, hearths, stepping, crown, mode and versions. -/
  | sysInfo (c : Cmd)
  /-- SYS_ATTACH (R308): Makes the mode HOSTED and ends stand-alone behaviour. -/
  | sysAttach (c : Cmd)
  /-- SYS_DETACH (R308): Makes the mode STANDALONE and resumes stand-alone defaults. -/
  | sysDetach (c : Cmd)
  /-- SYS_STATUS (R308): Returns mode, hearths up, bridge, twin role, temperature and uptime. -/
  | sysStatus (c : Cmd)
  /-- SYS_RESET (R308): Resets the device or named hearths 1 ms after its final OK. -/
  | sysReset (c : Cmd)
  /-- SYS_CONFIG_LOAD (R308): Writes the registers listed by a configuration section. -/
  | sysConfigLoad (c : Cmd)
  /-- SYS_NOP (R308): Echoes its payload. -/
  | sysNop (c : Cmd)
  /-- REG_READ (R309): Reads COUNT register words. -/
  | regRead (c : Cmd)
  /-- REG_WRITE (R309): Writes COUNT register words. -/
  | regWrite (c : Cmd)
  /-- REG_MODIFY (R309): Read-modify-writes a register word under a mask. -/
  | regModify (c : Cmd)
  /-- REG_POLL (R309): Completes when a masked register word equals a value, or times out. -/
  | regPoll (c : Cmd)
  /-- LINK_STATUS (R310): Returns a lane's status, FOM and FEC counters. -/
  | linkStatus (c : Cmd)
  /-- LINK_UP (R310): Enables a lane and completes once it is UP or in FAIL. -/
  | linkUp (c : Cmd)
  /-- LINK_DOWN (R310): Sets a lane's EN to 0. -/
  | linkDown (c : Cmd)
  /-- LINK_EQ (R310): Writes a disabled lane's equalisation settings. -/
  | linkEq (c : Cmd)
  /-- LINK_PRBS (R310): Runs a PRBS test for MS ms and returns bit and error counts. -/
  | linkPrbs (c : Cmd)
  /-- GORGE_ON (R310): Enables a Gorge instance with role and sender lock. -/
  | gorgeOn (c : Cmd)
  /-- GORGE_OFF (R310): Disables a Gorge instance normally or forcibly. -/
  | gorgeOff (c : Cmd)
  /-- GORGE_STATUS (R310): Returns a Gorge instance's session state and positions. -/
  | gorgeStatus (c : Cmd)
  /-- GORGE_REWIND (R310): Asks the sender to resend a page range, or cancels such a request. -/
  | gorgeRewind (c : Cmd)
  /-- PAGE_QUERY (R311): Returns a held page's state, flags, reasons and positions. -/
  | pageQuery (c : Cmd)
  /-- PAGE_COMMIT (R311): Commits a COMPLETE page to the commit queue on the named hearths. -/
  | pageCommit (c : Cmd)
  /-- PAGE_REPRINT (R311): Commits a RETIRED page again for reprint. -/
  | pageReprint (c : Cmd)
  /-- PAGE_RELEASE_CMD (R311): Releases a page at once or defers the release. -/
  | pageReleaseCmd (c : Cmd)
  /-- PAGE_ABORT (R311): Discards an OPEN or LOADING page with HOST_ABORT. -/
  | pageAbort (c : Cmd)
  /-- PAGE_WITHDRAW (R311): Removes a queued COMMITTED page from the commit queue. -/
  | pageWithdraw (c : Cmd)
  /-- PAGE_DECLARE (R311): Holds a page without local layers. -/
  | pageDeclare (c : Cmd)
  /-- PAGE_WAIT (R311): Completes when a page reaches a state on every named hearth. -/
  | pageWait (c : Cmd)
  /-- PAGE_LIST (R311): Lists held pages in the named states. -/
  | pageList (c : Cmd)
  /-- PAGE_BASIN (R311): Returns Basin pointers, free space and records. -/
  | pageBasin (c : Cmd)
  /-- PAGE_BASIN_SET (R311): Writes Basin regions and fields, then enables the Basin. -/
  | pageBasinSet (c : Cmd)
  /-- PAGE_RETAIN (R311): Sets RETAIN and DEC_AHEAD. -/
  | pageRetain (c : Cmd)
  /-- LAYER_SET (R312): Writes a terrace descriptor. -/
  | layerSet (c : Cmd)
  /-- LAYER_GET (R312): Returns a terrace descriptor. -/
  | layerGet (c : Cmd)
  /-- LAYER_ROUTE (R312): Sets a packed-layer route. -/
  | layerRoute (c : Cmd)
  /-- LAYER_SLOT (R312): Sets slot gap, guard, idle lines, slip limit and fetch limit. -/
  | layerSlot (c : Cmd)
  /-- LAYER_ON (R312): Enables the Grate and then TER. -/
  | layerOn (c : Cmd)
  /-- LAYER_OFF (R312): Disables TER and then the Grate. -/
  | layerOff (c : Cmd)
  /-- LAYER_PRIV_ARM (R312): Arms staged privileged values for a line. -/
  | layerPrivArm (c : Cmd)
  /-- LAYER_ADOPT (R312): Makes a page layer's buffer host-owned under a handle. -/
  | layerAdopt (c : Cmd)
  /-- LAYER_FREE (R312): Frees a host-owned buffer at once or deferred. -/
  | layerFree (c : Cmd)
  /-- LAYER_LBS (R312): Returns the in-use and pending host buffer handles. -/
  | layerLbs (c : Cmd)
  /-- LAYER_READBACK (R312): Encodes a buffer or Echo range into the readback area. -/
  | layerReadback (c : Cmd)
  /-- LAYER_READ (R312): Returns bytes of the last readback result. -/
  | layerRead (c : Cmd)
  /-- SCREEN_GEOM (R313): Writes a shadow screen geometry. -/
  | screenGeom (c : Cmd)
  /-- SCREEN_WRITE (R313): Writes shadow table words. -/
  | screenWrite (c : Cmd)
  /-- SCREEN_READ (R313): Reads active or shadow table words. -/
  | screenRead (c : Cmd)
  /-- SCREEN_LOAD (R313): Loads a shadow table from a configuration section. -/
  | screenLoad (c : Cmd)
  /-- SCREEN_ARM (R313): Writes the lending flags and arms a table swap. -/
  | screenArm (c : Cmd)
  /-- ASH_GET (R313): Returns active Ash map entries. -/
  | ashGet (c : Cmd)
  /-- ASH_PUT (R313): Writes Ash map entries directly while the Grate is disabled. -/
  | ashPut (c : Cmd)
  /-- ASH_PUSH (R313): Pushes an Ash update at an effective line. -/
  | ashPush (c : Cmd)
  /-- ASH_LOAD (R313): Loads the whole Ash map from a section. -/
  | ashLoad (c : Cmd)
  /-- ASH_FLUSH (R313): Flushes the Ash update queue. -/
  | ashFlush (c : Cmd)
  /-- HEAD_STATUS (R314): Returns a port's state, sensing and widths. -/
  | headStatus (c : Cmd)
  /-- HEAD_POWER (R314): Powers ports off, or on and waits until READY. -/
  | headPower (c : Cmd)
  /-- HEAD_SETUP (R314): Writes a port's head, timing, control, limit, sense and hot-plug words. -/
  | headSetup (c : Cmd)
  /-- HEAD_PHASE (R314): Writes strobe phases and voltage calibration. -/
  | headPhase (c : Cmd)
  /-- HEAD_STBT (R314): Stages the strobe width table. -/
  | headStbt (c : Cmd)
  /-- HEAD_THERM (R314): Writes the thermistor table. -/
  | headTherm (c : Cmd)
  /-- HEAD_CMAP (R314): Writes a staged column map and optionally applies it. -/
  | headCmap (c : Cmd)
  /-- HEAD_CMAP_APPLY (R314): Applies the staged maps of named ports together. -/
  | headCmapApply (c : Cmd)
  /-- HEAD_ON (R314): Enables READY ports. -/
  | headOn (c : Cmd)
  /-- HEAD_OFF (R314): Disables ports normally or forcibly. -/
  | headOff (c : Cmd)
  /-- HEAD_DAMPER (R314): Sets Damper enables and stages its limits. -/
  | headDamper (c : Cmd)
  /-- HEAD_BUDGET (R314): Stages a port's energy budget and costs. -/
  | headBudget (c : Cmd)
  /-- HEAD_FENDER_SET (R314): Writes FND_CTRL and clears latched gates. -/
  | headFenderSet (c : Cmd)
  /-- HEAD_FENDER_GET (R314): Returns Fender status, latches and gated lines. -/
  | headFenderGet (c : Cmd)
  /-- FEED_SET (R315): Configures the Draught mode, source, bandwidth and ratio. -/
  | feedSet (c : Cmd)
  /-- FEED_EN (R315): Writes the Draught enable. -/
  | feedEn (c : Cmd)
  /-- FEED_START (R315): Arms per-hearth start positions. -/
  | feedStart (c : Cmd)
  /-- FEED_RESUME (R315): Leaves HOLD. -/
  | feedResume (c : Cmd)
  /-- FEED_STATUS (R315): Returns Draught state, count, velocity, error and LNUM. -/
  | feedStatus (c : Cmd)
  /-- FEED_PASS (R315): Writes scan pass table entries. -/
  | feedPass (c : Cmd)
  /-- FEED_SCAN (R315): Writes the scan configuration. -/
  | feedScan (c : Cmd)
  /-- FB_QUAD (R315): Configures a quadrature channel. -/
  | fbQuad (c : Cmd)
  /-- FB_HALL (R315): Configures a Hall set. -/
  | fbHall (c : Cmd)
  /-- FB_SSI (R315): Configures an SSI port. -/
  | fbSsi (c : Cmd)
  /-- FB_STATUS (R315): Returns a feedback unit's status words. -/
  | fbStatus (c : Cmd)
  /-- FB_CLEAR (R315): Clears a channel fault. -/
  | fbClear (c : Cmd)
  /-- MOT_SETUP (R316): Configures an axis. -/
  | motSetup (c : Cmd)
  /-- MOT_THRESH (R316): Writes an axis's resolution and mode thresholds. -/
  | motThresh (c : Cmd)
  /-- MOT_EN (R316): Enables or disables axes. -/
  | motEn (c : Cmd)
  /-- MOT_MOVE (R316): Queues a move and optionally waits for its end. -/
  | motMove (c : Cmd)
  /-- MOT_STOP (R316): Stops axes and completes at rest. -/
  | motStop (c : Cmd)
  /-- MOT_HOME (R316): Homes an axis and returns the latch. -/
  | motHome (c : Cmd)
  /-- MOT_CLEAR (R316): Clears an axis from LIMIT. -/
  | motClear (c : Cmd)
  /-- MOT_STATUS (R316): Returns an axis's state and position. -/
  | motStatus (c : Cmd)
  /-- MOT_POS (R316): Writes feed velocity and optionally the position. -/
  | motPos (c : Cmd)
  /-- INSP_CAM_SET (R317): Configures a camera port. -/
  | inspCamSet (c : Cmd)
  /-- INSP_CORR (R317): Writes camera column corrections. -/
  | inspCorr (c : Cmd)
  /-- INSP_CAM_EN (R317): Enables or disables camera ports. -/
  | inspCamEn (c : Cmd)
  /-- INSP_CAM_STATUS (R317): Returns a camera port's status and counters. -/
  | inspCamStatus (c : Cmd)
  /-- INSP_I2C (R317): Stages, performs or fetches a camera I²C transfer. -/
  | inspI2c (c : Cmd)
  /-- INSP_ISP_SET (R317): Configures the pipeline. -/
  | inspIspSet (c : Cmd)
  /-- INSP_COLOUR (R317): Writes a colour model. -/
  | inspColour (c : Cmd)
  /-- INSP_DLUT (R317): Writes density table entries. -/
  | inspDlut (c : Cmd)
  /-- INSP_REGIONS (R317): Places the Echo, record and statistics regions. -/
  | inspRegions (c : Cmd)
  /-- INSP_OUT (R317): Configures a pipeline output. -/
  | inspOut (c : Cmd)
  /-- INSP_OUT_RP (R317): Writes an output's read offset and returns its write offset. -/
  | inspOutRp (c : Cmd)
  /-- INSP_ON (R317): Writes the inspection flags and enables ISP. -/
  | inspOn (c : Cmd)
  /-- INSP_OFF (R317): Disables ISP. -/
  | inspOff (c : Cmd)
  /-- INSP_GEOM_CAL (R317): Fires charts and fits camera geometry. -/
  | inspGeomCal (c : Cmd)
  /-- INSP_STATUS (R317): Returns pipeline state and counters. -/
  | inspStatus (c : Cmd)
  /-- TIME_GET (R318): Returns the time counter and increment. -/
  | timeGet (c : Cmd)
  /-- TIME_SET (R318): Steps the time counter. -/
  | timeSet (c : Cmd)
  /-- TIME_INC (R318): Writes the counter increment. -/
  | timeInc (c : Cmd)
  /-- TIME_ADJ (R318): Adds an adjustment to the counter once. -/
  | timeAdj (c : Cmd)
  /-- TIME_PTP_SET (R318): Configures PTP ports, clocks, domain and asymmetry. -/
  | timePtpSet (c : Cmd)
  /-- TIME_PTP_STATUS (R318): Returns PTP port states and delays. -/
  | timePtpStatus (c : Cmd)
  /-- TIME_UNFREEZE (R318): Ends the increment freeze. -/
  | timeUnfreeze (c : Cmd)
  /-- TIME_UNIT (R318): Programs a time unit and returns its last capture. -/
  | timeUnit (c : Cmd)
  /-- TWIN_STATUS (R319): Returns twin role and peer state. -/
  | twinStatus (c : Cmd)
  /-- TWIN_SET (R319): Writes twin slot, miss limit, auto-join and enable. -/
  | twinSet (c : Cmd)
  /-- TWIN_JOIN (R319): Joins the active unit and completes once in step. -/
  | twinJoin (c : Cmd)
  /-- TWIN_LEAVE (R319): Leaves the twin role normally or forcibly. -/
  | twinLeave (c : Cmd)
  /-- TWIN_SWITCH_BACK (R319): Asks the active to hand over. -/
  | twinSwitchBack (c : Cmd)
  /-- TWIN_REPORT (R319): Returns the health record or lost lines. -/
  | twinReport (c : Cmd)
  /-- CAL_RUN (R320): Starts calibration runs of named kinds. -/
  | calRun (c : Cmd)
  /-- CAL_STATUS (R320): Returns calibration sets, temperatures and ages. -/
  | calStatus (c : Cmd)
  /-- CAL_POLICY (R320): Sets automatic calibration, temperature step and tolerance. -/
  | calPolicy (c : Cmd)
  /-- CAL_READ (R320): Reads calibration set data. -/
  | calRead (c : Cmd)
  /-- CAL_WRITE (R320): Writes calibration set data in RAM. -/
  | calWrite (c : Cmd)
  /-- CAL_STORE (R320): Stores or erases calibration sets in flash. -/
  | calStore (c : Cmd)
  /-- UPD_STATUS (R321): Returns component slots and journal state. -/
  | updStatus (c : Cmd)
  /-- UPD_VERIFY (R321): Verifies a component slot. -/
  | updVerify (c : Cmd)
  /-- UPD_ACTIVATE (R321): Verifies and activates a component slot. -/
  | updActivate (c : Cmd)
  /-- UPD_REVERT (R321): Activates the other slot if it verifies. -/
  | updRevert (c : Cmd)
  /-- UPD_ABORT (R321): Discards an incomplete patch. -/
  | updAbort (c : Cmd)
  /-- EVT_ROUTE (R322): Sets the event queue of named hearths. -/
  | evtRoute (c : Cmd)
  /-- EVT_SEVERITY (R322): Writes an event register's severity map. -/
  | evtSeverity (c : Cmd)
  /-- EVT_ENABLE (R322): Writes an EVENT_EN register and returns its old value. -/
  | evtEnable (c : Cmd)
  /-- EVT_FIRMWARE (R322): Routes firmware events by family and severity. -/
  | evtFirmware (c : Cmd)
  /-- VAUX_POWER_ON (R330): VAUX rising resets everything and starts the housekeeping domain. -/
  | vauxPowerOn
  /-- VAUX_LOW (R329): VAUX below 5.0 V treats all enabled gates as asserted and invalidates time. -/
  | vauxLow
  /-- VAUX_RESTORED (R329): VAUX back in range for 10 ms lifts the gate hold. -/
  | vauxRestored
  /-- BROWNOUT (R327): A main rail below minimum for 2 µs resets the main domain with cause BROWNOUT. -/
  | brownout
  /-- SYS_RST_N_LOW (R326): SYS_RST_N low resets the main domain and drives outputs to the safe state. -/
  | sysRstNLow
  /-- REFCLK_LOST (R413): REFCLK absent or out of limits resets the main domain and runs housekeeping on its oscillator. -/
  | refclkLost
  /-- BOOT_START (R334): Reset released starts boot, PLLs, ROM, link training, crown election and image loading. -/
  | bootStart (lead0 : Nat) (lead4 : Nat) (silent : Nat) (down : List Nat) (flashes : Nat)
  /-- BOOT_END (R334): Boot ends and partner discovery starts. -/
  | bootEnd
  /-- BRIDGE_WAIT_EXPIRY (R339): After 100 ms without the bridge each lead boots its half as crown or junior. -/
  | bridgeWaitExpiry
  /-- BRIDGE_UP (R341): The returning bridge makes the junior lead yield and the crown raise its token epoch. -/
  | bridgeUp
  /-- WATCHDOG_EXPIRY (R333): A Mantel watchdog unserved for 1 s restarts that core and aborts outstanding commands. -/
  | watchdogExpiry (h : Nat)
  /-- HEARTH_RESET (R332): A single hearth reset ends its sessions, empties its memories and reboots it from the crown. -/
  | hearthReset (h : Nat)
  /-- TAP_RESET (R330): TRST_N or the TAP reset state resets the JTAG controller only; the TCK edges before it, TMS and TDI of each. -/
  | tapReset (edges : List (Bool × Bool))
  /-- ATTACH_WAIT_EXPIRY (R343): No attach 2 s after boot enters STANDALONE and runs the stand-alone section. -/
  | attachWaitExpiry
  /-- SPIT_BURST (R344): At each spit interval the ports fire SPIT_LINES lines at SPIT_LEVEL. -/
  | spitBurst
  /-- IDLE_CAP (R345): An idle web for IDLE_CAP homes the axes, raises the bar and caps it. -/
  | idleCap
  /-- TEST_N_CHART (R346): TEST_N low for 10 ms in STANDALONE uncaps and arms the nozzle chart. -/
  | testNChart
  /-- HEARTBEAT_SEND (R352): Every PERIOD µs the crown sends a /TH/ heartbeat. -/
  | heartbeatSend
  /-- HEARTBEAT_RECEIVED (R352): A good peer heartbeat updates peer state, returning a lost peer and deciding races. -/
  | heartbeatReceived (beat : Nat)
  /-- HEARTBEAT_MISSED (R352): A missing or bad heartbeat is counted and MISS in a row loses the peer. -/
  | heartbeatMissed
  /-- TWIN_SIG_FRAME (R359): A SIG frame's line signatures are compared, a mismatch sending the standby OUT. -/
  | twinSigFrame (frame : List Byte)
  /-- TWIN_CMD_FRAME (R360): A CMD frame's command is applied at its apply lines on the standby. -/
  | twinCmdFrame (frame : List Byte)
  /-- TWIN_CMD_STATUS_FRAME (R359): A CMD_STATUS frame is compared with the standby's own status. -/
  | twinCmdStatusFrame (frame : List Byte)
  /-- TWIN_ASH_FRAME (R360): An ASH frame's push is queued on the standby at its line. -/
  | twinAshFrame (frame : List Byte)
  /-- TWIN_EVENT_FRAME (R360): An EVENT frame applies a port or readiness change at its line. -/
  | twinEventFrame (frame : List Byte)
  /-- TWIN_STATE_FRAME (R363): A STATE frame writes snapshot register and table words on the joining standby. -/
  | twinStateFrame (frame : List Byte)
  /-- TWIN_ALIGN_FRAME (R363): An ALIGN frame sets page states, queues and Draught starts of the joining standby. -/
  | twinAlignFrame (frame : List Byte)
  /-- TWIN_HANDOVER_FRAME (R364): A HANDOVER frame fixes the gap lines of a switch-back. -/
  | twinHandoverFrame (frame : List Byte)
  /-- TWIN_JOIN_REQ_FRAME (R363): A JOIN_REQ makes the active snapshot its state and copy its pages. -/
  | twinJoinReqFrame (frame : List Byte)
  /-- TWIN_HEALTH_FRAME (R367): A HEALTH frame is recorded and a bad one posts 0x8C04. -/
  | twinHealthFrame (frame : List Byte)
  /-- TWIN_FRAME_ERROR (R353): A twin frame with a bad CRC or SEQ is counted and sends an in-step standby OUT. -/
  | twinFrameError (frame : List Byte)
  /-- SIG_TIMEOUT (R359): No SIG for a line within 1 ms of its trigger sends the standby OUT. -/
  | sigTimeout
  /-- JOIN_TIMEOUT (R363): A join not complete within TWN_JOIN_TMO ends TIMEOUT and returns to OUT. -/
  | joinTimeout
  /-- HEALTH_SEND (R367): Every second the standby sends its health record. -/
  | healthSend (loops : List Nat) (drams : List Nat) (grates : List Nat)
  /-- HEALTH_MISSING (R367): No health record for 3 s sets HEALTH_BAD on the active. -/
  | healthMissing
  /-- HOLD_N_RELEASED (R356): HOLD_N released for 1 µs makes a standby in step seize and start switching. -/
  | holdNReleased
  /-- HOLD_SEIZE (R355): HOLD_N released for 2 or 4 heartbeat timeouts makes a waiting unit seize it. -/
  | holdSeize
  /-- SWITCH_CLEAR_DONE (R356): The zero shift and latch that clear the heads end and normal shifting resumes. -/
  | switchClearDone
  /-- TWN_EN_WRITE (R354): Writing TWN_CTRL.EN 1 enters WAIT, and EN 0 starts a normal leave. -/
  | twnEnWrite (value : Word)
  /-- TWN_JOIN_WRITE (R363): Writing TWN_CTRL.JOIN sends JOIN_REQ and enters SYNC. -/
  | twnJoinWrite
  /-- TWN_SWITCH_BACK_WRITE (R364): Writing TWN_CTRL.SWITCH_BACK asks the active to hand over. -/
  | twnSwitchBackWrite
  /-- TWN_FORCE_OFF (R365): Writing TWN_CTRL.FORCE_OFF ends the role at once and releases HOLD_N on the active. -/
  | twnForceOff
  /-- HANDOVER_TIMEOUT (R365): A leave handover not done within 1 s ends ABORTED. -/
  | handoverTimeout
  /-- TIM_INC_WRITE (R372): A write to TIM_INC_HI applies the new increment at the next tick unless frozen. -/
  | timIncWrite (value : Word)
  /-- TIM_SEC_LO_READ (R372): A read of TIM_SEC_LO latches the whole time of that tick. -/
  | timSecLoRead
  /-- TIM_SET (R373): Writing TIM_CTRL.SET loads the counter at the next tick and sets VALID. -/
  | timSet
  /-- TIM_ADJ (R373): Writing TIM_CTRL.ADJ adds the adjustment at the next tick. -/
  | timAdj
  /-- TIM_UNFREEZE (R379): Writing TIM_CTRL.UNFREEZE clears FROZEN and empties the path history. -/
  | timUnfreeze
  /-- PTP_FRAME_FORWARDED (R375): A frame is forwarded between SL0 and SL1 with residence time added to correctionField. -/
  | ptpFrameForwarded (port : Nat) (frame : List Byte) (rxNs : Nat) (txNs : Nat)
  /-- ANNOUNCE_RECEIVED (R377): The first Announce in DOMAIN selects the master. -/
  | announceReceived (port : Nat) (frame : List Byte)
  /-- SYNC_RECEIVED (R377): A Sync is timestamped and answered by one Delay_Req. -/
  | syncReceived (port : Nat) (frame : List Byte) (rxTime : Nat) (txTime : Nat)
  /-- FOLLOW_UP_RECEIVED (R378): A Follow_Up supplies the precise origin time of its Sync. -/
  | followUpReceived (port : Nat) (frame : List Byte)
  /-- DELAY_RESP_RECEIVED (R378): A Delay_Resp completes an exchange and writes offset and mean path delay. -/
  | delayRespReceived (port : Nat) (frame : List Byte)
  /-- MASTER_LOST (R377): No Announce for three intervals returns the ports to LISTENING. -/
  | masterLost
  /-- TIME_UNIT_CTRL_WRITE (R380): Writing TIM_TUn_CTRL arms a time unit with its target and period. -/
  | timeUnitCtrlWrite (n : Nat) (value : Word)
  /-- TIME_UNIT_FIRE (R380): A compare unit fires, drives its target and reaches its consumers. -/
  | timeUnitFire (n : Nat)
  /-- TIME_UNIT_CAPTURE (R380): A capture unit latches the time of a TSYNC_IN edge or line trigger. -/
  | timeUnitCapture (n : Nat)
  /-- CAL_AUTO_CHECK (R388): Once a second each hearth starts due calibrations and reapplies interpolated values. -/
  | calAutoCheck (h : Nat)
  /-- CAL_RUN_DONE (R389): A calibration run's two measurements are accepted or rejected. -/
  | calRunDone (h : Nat) (m1 : List Int) (m2 : List Int) (temps : List Int)
  /-- CAL_RUN_TIMEOUT (R388): A run not ended within 60 s ends TIMEOUT. -/
  | calRunTimeout (h : Nat)
  /-- SVC_STATUS (R397): Returns the 16-byte service status record. -/
  | svcStatus
  /-- SVC_HOLD (R396): Holds or releases the main domain in reset. -/
  | svcHold (key : Nat) (hold : Nat)
  /-- SVC_RESET (R396): Requests a main-domain reset. -/
  | svcReset (key : Nat)
  /-- STAGE_OPEN (R396): Empties patch staging for a file of LEN bytes. -/
  | stageOpen (len : Nat)
  /-- STAGE_WRITE (R396): Programs one staging block after its CRC check. -/
  | stageWrite (index : Nat) (data : List Byte) (crc : Nat)
  /-- SVC_APPLY (R398): Checks and applies the staged patch into the inactive slot. -/
  | svcApply
  /-- PATCH_APPLY_DONE (R398): The journaled patch build completes and the slot is verified. -/
  | patchApplyDone
  /-- SVC_ABORT (R396): Discards an incomplete patch. -/
  | svcAbort
  /-- SVC_ACTIVATE (R396): Verifies and activates a component slot. -/
  | svcActivate (comp : Nat) (slot : Nat)
  /-- COMPONENT_SWAP (R400): A newly activated component replaces the running copy when its condition is met. -/
  | componentSwap (comp : Nat)
  /-- COMPONENT_SWAP_TIMEOUT (R400): Camera microcode not swapped within 1 s ends TIMEOUT. -/
  | componentSwapTimeout
  /-- ISP_CMP_EN_WRITE (R206): A write of ISP_CTRL.CMP_EN clears every window accumulator of the hearth's compare stage. -/
  | ispCmpEnWrite (h : Nat) (value : Word)
  /-- CHM_STAT_SEL_WRITE (R262): A write to CHM_STAT_SEL sets CHM_STAT_FLITS to 0 and selects the flits it counts. -/
  | chmStatSelWrite (h : Nat) (value : Word)
  /-- FBK_HALL_SSI_EN_WRITE (R240): Writing FBK_HCTRL.EN or FBK_SCTRL.EN 0 stops Hall counting or SSI framing after the current frame, and 1 starts it. -/
  | fbkHallSsiEnWrite (h : Nat) (k : Nat) (value : Word)
  /-- PRBS_TEST_END (R310): MS ms after LINK_PRBS starts, the test clears GEN_EN, CHK_EN and LOOPBACK and the command ends with its counts. -/
  | prbsTestEnd (h : Nat) (l : Nat)
  /-- REG_POLL_TIMEOUT (R309): TMO_US after a REG_POLL began without a match, the command ends TIMEOUT. -/
  | regPollTimeout (ch : Nat) (tag : Nat)
  /-- PAGE_WAIT_TIMEOUT (R311): TMO_MS after a PAGE_WAIT began without the page reaching STATE, the command ends TIMEOUT. -/
  | pageWaitTimeout (ch : Nat) (tag : Nat)
  /-- HEAD_POWER_TIMEOUT (R314): A HEAD_POWER ON 1 whose named ports are not READY within 1 s ends TIMEOUT. -/
  | headPowerTimeout (ch : Nat) (tag : Nat)
  /-- GEOM_CAL_TIMEOUT (R317): An INSP_GEOM_CAL not finished within 10 s ends TIMEOUT. -/
  | geomCalTimeout
  /-- SYS_RESET_DELAY_EXPIRY (R308): 1 ms after SYS_RESET writes its final OK, the device or the named hearths enter reset. -/
  | sysResetDelayExpiry
deriving DecidableEq, Repr

end Sys2Proof
end

