-- ==== Sys2Proof/Machine/State.lean ====
section
/-! DEFINITION. The state of the controller as plain data: every register word in `regs`, DRAM in `dram`, and beside
them every piece of state that the spec's procedures keep and no register shows; the queue of waiting commands; the
reasons a step can stop; the state after reset. -/

namespace Sys2Proof.Machine

/-- The parts of the family (00_scope.md). -/
inductive Part where
  | sb2 | sb4 | sb8
deriving DecidableEq, Repr

/-- What a Gorge lane delivers to the protocol (R15, R16, R19). -/
inductive RxBlock where
  /-- An IDLE block, or a reserved control block taken as IDLE (R16). -/
  | idle
  /-- A start-of-frame block. -/
  | sof
  /-- A data block of 32 stream bytes. -/
  | data (bytes : List Byte)
  /-- A block of an uncorrectable codeword (R19). -/
  | errored
deriving DecidableEq, Repr

/-- Hidden state of one serial lane (chapter 01); its visible state stands in its LANE and TST registers. -/
structure LaneX where
  /-- Consecutive idle symbols in half symbols (R37, R38). -/
  idleHalf : Nat := 0
  idleHold : Bool := false
  fomHold : Bool := false
  recentreDue : Bool := false
  /-- Good FOM periods in a row (R38). -/
  good : Nat := 0
  /-- FOM periods since the CDR locked (R25). -/
  periods : Nat := 0
  /-- FOM periods since the CTLE last moved, and the trial step still to be judged (R36). -/
  ctleAge : Nat := 0
  ctleTrial : Option (Nat × Nat) := none
  /-- Marker found once in ALIGN (R25). -/
  amFound : Bool := false
  /-- Sequence number of the next alignment codeword sent (R20). -/
  amSeq : Nat := 0
  /-- Last 58 received payload bits, newest in bit 0 (R17). -/
  descr : Nat := 0
  /-- Last received PAM4 level (R21). -/
  lastP : Nat := 0
  /-- What the receiver has collected of a frame: nothing since the last one ended, or its bytes and whether a block of it was
  errored (R47, R48). -/
  rxFrame : Option (List Byte × Bool) := none
  /-- Transmit scrambler, newest bit in bit 0 (R17), and the last PAM4 level sent, before inversion (R21). -/
  scr : Nat := 0
  txP : Nat := 0
  /-- A codeword has been sent since the lane left OFF (R20). -/
  txRun : Bool := false
  /-- Blocks waiting to be sent in codewords, and the number of outputs whose frames they hold (R47). -/
  txq : List RxBlock := []
  txAt : Nat := 0
  /-- DFE taps beyond the two that LANE_ADAPT_STAT shows (R31). -/
  dfe : List Nat := []
  /-- Running disparity is positive (R22). -/
  rdPos : Bool := false
  /-- The last code group was K28.5, and complemented ordered sets in a row (R27). -/
  afterComma : Bool := false
  polRun : Nat := 0
  /-- Which of a bonded pair reached CHECK, in clocks (R30). -/
  checkAt : Nat := 0
  /-- PRBS checker: bits checked beyond the last 2^20 (R43). -/
  prbsBits : Nat := 0
  /-- Last bits of the generator's and of the checker's sequence, newest in bit 0; bits generated since its start (R42–R44). -/
  genReg : Nat := 0
  genCount : Nat := 0
  chkReg : Nat := 0
  /-- Pattern and inversion latched at the generator's and the checker's start (R42). -/
  genPat : Nat := 0
  genInv : Bool := false
  chkPat : Nat := 0
  chkInv : Bool := false
  /-- The transmit taps in effect are all zero (R32). -/
  tapsZero : Bool := false
  /-- Auto-negotiation failed and restarts every 10 ms (R24). -/
  anFailed : Bool := false
  /-- A LINK_PRBS test runs: channel and tag of the command (R310). -/
  test : Option (Nat × Nat) := none
deriving DecidableEq, Repr

/-- One sequenced frame of a mirror sender that no ACK has acknowledged, and whether a SACK bit covers it (R60, R65, R87). -/
structure SentFrame where
  seq : Nat
  bytes : List Byte
  sentAt : Nat
  sacked : Bool := false
deriving DecidableEq, Repr

/-- A rewind request in progress (R76). -/
structure Rewind where
  first : Nat
  last : Nat
  req : Nat
  reason : Nat
  sent : Nat := 0
deriving DecidableEq, Repr

/-- The request names a page. -/
def Rewind.names (r : Rewind) (pg : Nat) : Bool := decide (r.first ≤ pg) && decide (pg ≤ r.last)

/-- Hidden state of one Gorge protocol instance (chapter 02). -/
structure GorX where
  /-- Sequenced frames waiting in the staging area (R61), by sequence number. -/
  staged : List (Nat × List Byte) := []
  /-- Frames processed since the last ACK (R62). -/
  unacked : Nat := 0
  /-- A received frame that no ACK has covered (R62). -/
  owed : Bool := false
  /-- When the last valid frame of the session's epoch was taken (R59, R88). -/
  heardAt : Option Nat := none
  /-- First number and time of the last NAK (R64). -/
  nakFirst : Nat := 0
  nakAt : Option Nat := none
  /-- The last MARK processed in the session (R62). -/
  markCookie : Nat := 0
  markSeq : Nat := 0
  /-- Pages discarded or refused in this session (R74). -/
  gone : List Nat := []
  /-- Next number after the highest sequence number received (R64). -/
  highest : Nat := 0
  /-- Times of protocol errors within 10 ms (R79). -/
  errTimes : List Nat := []
  /-- Last time an ERROR of each code was sent (R79). -/
  errSent : List (Nat × Nat) := []
  /-- Open rewind requests; how ended ones ended: REQ_ID and status (R76, R310). -/
  rewinds : List Rewind := []
  rewindEnds : List (Nat × Nat) := []
  /-- A page was discarded during the drain (R81); EN was written 1 during it. -/
  drainLost : Bool := false
  enAgain : Bool := false
  /-- A PAGE_OPEN waits for Basin space (R96). -/
  openWait : Bool := false
  /-- First page lost to the PAGE_OPEN that waits or is being processed (R97). -/
  lossFirst : Option Nat := none
  /-- HELLO_ACK of the session start (R56). -/
  helloAck : List Byte := []
  /-- Highest credit limit put into a sent frame (R69). -/
  advertised : Nat := 0
  /-- Lane used last by a bonded session (R82). -/
  txAlt : Bool := false
  /-- A lane of the session was UP when it began (R82, R83). -/
  hadLane : Bool := false
  /-- Mirror sender: next number, held frames, frames waiting to be sent, doublings of the wait, epoch (R60, R65, R84). -/
  sndNxt : Nat := 0
  held : List SentFrame := []
  backlog : List (List Byte) := []
  doublings : Nat := 0
  mirrorEpoch : Nat := 0
  hello : List Byte := []
  /-- Mirror receiver: the forwarded page session, its original epoch (R86). -/
  fwdUp : Bool := false
  fwdByte : Nat := 0
  fwdEpoch : Nat := 0
deriving DecidableEq, Repr

/-- States of a held page (R72). `gone` marks a ring hole left by a released or discarded page (R93, R95). -/
inductive PageSt where
  | opened | loading | complete | committed | firing | fired | retired | gone
deriving DecidableEq, Repr

/-- States of one layer's decode job (R102, R105). -/
inductive JobSt where
  | waiting | running (dec : Nat) | ok | failed
deriving DecidableEq, Repr

/-- One layer slot of a held page (R54, R92, R100). -/
structure Slot where
  terrace : Nat := 0
  lcrcValid : Bool := false
  lcrc : Nat := 0
  clen : Nat := 0
  ulen : Nat := 0
  /-- Ring position of the slot's first byte, bytes landed. -/
  start : Nat := 0
  landed : Nat := 0
  job : JobSt := .waiting
  /-- DRAM address of the decoded layer's buffer while there is one, and its handle once adopted (R103). -/
  buf : Option Nat := none
  adopt : Option Nat := none
  lb : Option Nat := none
  /-- The route read when the job last started: format and destinations (component, hearth) (R131). -/
  fmt : Nat := 0
  dests : List (Nat × Nat) := []
deriving DecidableEq, Repr

/-- One terrace of a committed page: the descriptor copied at commit (R124, R135) and its bound buffer. -/
structure Terr where
  fmt : Nat := 0
  lb : Nat := 0
  srcH : Nat := 0
  srcT : Nat := 0
  comp : Nat := 0
  src : Nat := 0
  screen : Nat := 0
  blend : Nat := 0
  rep : Nat := 0
  x0 : Nat := 0
  y0 : Nat := 0
  w : Nat := 0
  h : Nat := 0
  stride : Nat := 0
  off : Nat := 0
  /-- DRAM address of the buffer the terrace reads. -/
  bufBase : Option Nat := none
deriving DecidableEq, Repr

/-- A plane of a packed layer held for a page (R131, R132): home hearth, terrace, component, buffer, complete. -/
structure Plane where
  home : Nat
  ter : Nat
  comp : Nat
  buf : Nat
  len : Nat
  ok : Bool := false
deriving DecidableEq, Repr

/-- One page a hearth's Basin holds (R72, R92, R93): its reservation, its layers and the records kept with it. -/
structure Page where
  id : Nat
  st : PageSt := .opened
  /-- Opened by the page session (0) or by forwarded frames of the mirror session (1). -/
  inst : Nat := 0
  lines : Nat := 0
  /-- Ring positions of the reservation's start and end (R92). -/
  start : Nat := 0
  fin : Nat := 0
  slots : List Slot := []
  /-- Held without local layers (R133). -/
  declared : Bool := false
  /-- Committed as a reprint (R99, R311). -/
  reprint : Bool := false
  /-- Places in the orders of completion and of commit (R101). -/
  complSeq : Nat := 0
  commSeq : Nat := 0
  /-- Release deferred until RETIRED (R99). -/
  defer : Bool := false
  /-- Status of the first failed job, kept across reprints (R105, R182). -/
  fail : Nat := 0
  /-- A job of the page, or of a plane it takes, has failed since it was last committed: no further job starts (R105, R132). -/
  stopped : Bool := false
  /-- The terrace descriptors copied at commit (R135). -/
  terrs : List Terr := []
  /-- Marks of the latest printing (R182). -/
  defective : Bool := false
  why : Nat := 0
  port : Nat := 0
  suppressed : Bool := false
  notInspected : Bool := false
  slips : Nat := 0
  /-- LNUM of page line 0 (0 before FIRING). -/
  lnum0 : Nat := 0
  /-- Web line of page line 0 (R192, R210). -/
  web0 : Nat := 0
  /-- Port-line marks of inspection: watermark taken per camera port, key 2 × hearth + port (R210). -/
  marks : List (Nat × Nat) := []
  /-- Planes of packed layers, local and received (R132). -/
  planes : List Plane := []
deriving DecidableEq, Repr

/-- A host-owned layer buffer (R103, R104), keyed by hearth and handle. -/
structure LBuf where
  base : Nat := 0
  len : Nat := 0
  used : Bool := false
  /-- Pending release (R104). -/
  freeing : Bool := false
deriving DecidableEq, Repr

/-- A request the encoder is working on (R115). -/
structure EncReq where
  src : Nat
  len : Nat
  row : Nat
  dst : Nat
  size : Nat
  /-- Who asked: the deferred mailbox command, if any. -/
  owner : Option (Nat × Nat) := none
deriving DecidableEq, Repr

/-- Hidden state of one Basin (chapter 03): the page table in reservation order and its counters. -/
structure BasX where
  /-- Reservations in ring order, oldest first, holes left by gone pages included (R93–R95). -/
  tbl : List Page := []
  /-- Next numbers of the completion and commit orders. -/
  nextCompl : Nat := 1
  nextComm : Nat := 1
  /-- A normal disable is draining; a page held at its start was discarded (R118). -/
  draining : Bool := false
  drainLost : Bool := false
  /-- EN was written 1 during the drain (R295). -/
  again : Bool := false
  /-- Last page to reach COMPLETE on the hearth, for LAST_COMPLETE (R53). -/
  lastComplete : Nat := 0xFFFFFFFF
  /-- When the oldest RETIRED page was last committed for reprint (R116). -/
  reprintAt : Option Nat := none
  /-- The encoder's current request (R115). -/
  enc : Option EncReq := none
  /-- CIN instances whose EN was written 1 during their drain (R295). -/
  cinAgain : List Nat := []
  /-- The last readback result in the readback area: its bytes, whether they are the original ones (R312). -/
  rbLen : Nat := 0
  rbOrig : Bool := false
deriving DecidableEq, Repr

/-- One Flue queue (R287–R291). -/
structure FlueX where
  /-- Words held, oldest first, each with its parity bit. -/
  words : List (Word × Bool) := []
  last : Word := 0
  lastUnder : Bool := false
  lastPoison : Bool := false
  under : Bool := false
  ovf : Bool := false
  stale : Bool := false
  poison : Bool := false
  /-- The stale timer runs (R290). -/
  timing : Bool := false
deriving DecidableEq, Repr

/-- One line of a hearth between its start and its trigger (R258): the slot it belongs to and its column levels. -/
structure LineD where
  /-- 0 no slot, 1 page slot, 3 blank slot. -/
  typ : Nat := 0
  page : Option Nat := none
  /-- Line within the slot, body length, gap length (R134). -/
  idx : Nat := 0
  body : Nat := 0
  gap : Nat := 0
  /-- The slot's page is suppressed; the slot is blank because its page was not ready (R138). -/
  supp : Bool := false
  slip : Option Nat := none
  /-- Levels after the Grate, by column. -/
  levels : Tab Nat := []
  /-- The column levels are those of the geometry chart in a blank slot (R202), else of a stand-alone line: `body` 1 a spit
  burst (R344), 2 the chart (R347), `idx` its line. -/
  alone : Bool := false
deriving DecidableEq, Repr

/-- Hidden state of one hearth's Terrace, Grate and Ash map queue (chapter 04). -/
structure TerX where
  /-- Commit queue, head first (R135). -/
  queue : List Nat := []
  /-- The current line and the two lines started ahead of it. -/
  cur : LineD := {}
  n1 : LineD := {}
  n2 : LineD := {}
  draining : Bool := false
  again : Bool := false
  /-- A forced or timed-out disable acts at the next trigger (R149). -/
  die : Bool := false
  /-- Slots begun, and for each pending arm the slot whose first gap line is the first that its table swap may use (R141). -/
  slotNo : Nat := 0
  swapSlots : List Nat := []
  /-- Page whose last fired line's strobes are still to end (R165, R149). -/
  ending : Option Nat := none
  /-- A pending privileged arm: its line and the captured words (R139). -/
  privArm : Option (Nat × Tab Word) := none
  /-- Privileged words as they stood before the last application, and the first line the application governs. -/
  privPrev : Tab Word := []
  privFrom : Nat := 0
  /-- Active screen geometry and lending enables (R141). -/
  scr : List Word := [0, 0, 0, 0]
  lendOn : Bool := true
  dlendOn : Bool := true
  /-- Accesses to the shadow bank held while the bank copy runs, oldest first: table, index, a read or a written value (R141). -/
  held : List (Nat × Nat × Option Nat) := []
  /-- Ash update queue, oldest first: column, entry, effective line; the line of the entry pushed last (R146, R147). -/
  ashQ : List (Nat × Word × Nat) := []
  ashLast : Nat := 0
  /-- Readiness of the next page decided elsewhere: page, outcome (R361). -/
  verdict : Option (Nat × Nat) := none
  /-- The Grate is to be disabled once this block is OFF (LAYER_OFF, R312). -/
  grtOff : Bool := false
  /-- Stand-alone lines still to start: kind (1 spit burst, 2 chart), next line, lines left (R344, R347). -/
  alone : Nat × Nat × Nat := (0, 0, 0)
deriving DecidableEq, Repr

/-- Hidden state of one Firebox port (chapter 05). -/
structure FbxX where
  /-- Active overlap masks, bit j of the 128 (R159). -/
  lo : Nat := 0
  hi : Nat := 0
  /-- Slot before which a requested map of an ACTIVE port is not checked (R159). -/
  mapSlot : Nat := 0
  /-- The port was ARMED at the last trigger (R154). -/
  armedSeen : Bool := false
  /-- Temperature has fallen below HARD - HYST; firing resumes at the next page line 0 (R168). -/
  cooled : Bool := false
  /-- Phases strobing (bit m) from the trigger to the phase's end. -/
  strobes : Nat := 0
  /-- A shift is running; the levels being shifted or waiting to be latched, by slot index; the levels latched last. -/
  shifting : Bool := false
  shifted : Tab Nat := []
  latched : Tab Nat := []
  /-- Widths of STB0 to STB3 and VLIM suppression for the next line (R167). -/
  widths : List Nat := [0, 0, 0, 0]
  vbad : Bool := false
  /-- PWR was written 0 while the port was ACTIVE or DRAINING (R154). -/
  pwrOff : Bool := false
  /-- A sample of SNS is due: LNUM reached a multiple of 256, or the time unit of TH_TU fired (R166). -/
  snsDue : Bool := false
  /-- The shifted line underran and its page is still to be marked (R164). -/
  under : Bool := false
  /-- Nozzle positions of every strand whose words arrived, where some did not: of the line being composed, of the line
  being shifted (R164, R252). -/
  lostNext : Option Nat := none
  lost : Option Nat := none
  /-- Soft ceiling, hard stop (and its cooling) and removal as stages 3 and 5 see them, and changes waiting for a line (line,
  kind; R361). -/
  soft5 : Bool := false
  hot5 : Bool := false
  cool5 : Bool := false
  gone3 : Bool := false
  sched : List (Nat × Nat) := []
deriving DecidableEq, Repr

/-- Hidden state of one hearth's Damper (R169–R171). -/
structure DmpX where
  /-- Lines modulo 256 at which a nozzle fired, key 4096 × port + slot index. -/
  fires : Tab (List Nat) := []
  /-- Energy of the current bin and of the 63 before it (newest first), key port. -/
  cur : Tab Nat := []
  past : Tab (List Nat) := []
deriving DecidableEq, Repr

/-- Hidden state of one hearth's Draught (R175–R181). -/
structure DrtX where
  theta : Nat := 0
  omega : Int := 0
  rem : Int := 0
  tw : Nat := 0
  cntPrev : Int := 0
  nb : Nat := 0
  high : Int := 0
  /-- Clocks of the loop, and its value at the last trigger. -/
  clk : Nat := 0
  lastTrig : Option Nat := none
  /-- Boundary reached, trigger not yet emitted, and the clock at which it was reached. -/
  pend : Bool := false
  dueAt : Nat := 0
  /-- Consecutive updates with a small error. -/
  lockRun : Nat := 0
  /-- START and FRAC as read at the arm, and the pass direction in force. -/
  start : Int := 0
  frac : Nat := 0
  dir : Bool := false
  /-- Count of entries to RUN modulo 256 (R203). -/
  starts : Nat := 0
  /-- Pass line of the next trigger in SCAN mode (R180). -/
  passLine : Nat := 0
  /-- The last feed asked for has completed (R181). -/
  feedDone : Bool := true
  /-- The pass fires with every strobe held low (R181). -/
  feedLate : Bool := false
  /-- The count is below the mark by at most REV (R177). -/
  below : Bool := false
  /-- Clock at which the INTERNAL period in progress began (R174, R381), or since which no update has counted the loop's clock
  (R178). -/
  intFrom : Nat := 0
deriving DecidableEq, Repr

/-- A P command that applies at a line on each hearth it names (R360, R361): its opcode, the entry, whether this unit
answers it, the lines still to come, statuses by hearth, response bytes gathered. -/
structure TwnCmd where
  op : Nat
  cmd : Cmd
  mine : Bool
  apply : List (Nat × Nat)
  hs : List Nat
  pay : List Byte := []
  note : List Nat := []
  /-- Hearths on which it has not run yet. -/
  left : List Nat := []
deriving DecidableEq, Repr

/-- Hidden state of the crown's twin block (chapter 12). -/
structure TwnX where
  /-- SEQ of the next twin frame sent, and of the next expected (R353). -/
  txSeq : Nat := 0
  rxSeq : Nat := 0
  /-- Next heartbeat number; heartbeats missed in a row; the role the peer's last good heartbeat showed (R352). -/
  hbSeq : Nat := 0
  misses : Nat := 0
  peerRole : Nat := 0
  /-- This unit drives HOLD_N low; the peer does, as its heartbeats show (R351). -/
  drives : Bool := false
  peerDrives : Bool := false
  /-- EN was written 1 during a leave; the hand-over in progress ends in OFF (R365). -/
  again : Bool := false
  leaving : Bool := false
  /-- First gap line of each hearth at which the hand-over acts (R364). -/
  gap : Option (List Nat) := none
  /-- Result of the last hand-over and of the last join: status plus one, 0 while none. -/
  swapRes : Nat := 0
  joinRes : Nat := 0
  /-- Active side of a join: a snapshot is asked for; S_h of hearths not sent yet; pages still to copy; ALIGN due (R363). -/
  joinReq : Bool := false
  snap : List (Nat × Nat) := []
  copyDue : List Nat := []
  alignDue : Bool := false
  /-- Standby side: J_h of hearths whose first signature at or after it has not matched; enables held back by the snapshot. -/
  joinJ : List (Nat × Nat) := []
  aligned : Bool := false
  /-- Active side: a join is past its snapshot, so inputs go to the standby. Standby side: last line of the first signature
  frame at or after J_h, by hearth, while it is being compared. -/
  joining : Bool := false
  joinSeen : List (Nat × Nat) := []
  joinEn : List (Nat × Nat × Nat × Nat × Word) := []
  /-- Signatures: lines signed and not sent, own and received signatures not compared (hearth, line, CRC) (R359, R362). -/
  sigBuf : List (Nat × Nat × Nat) := []
  sigOwn : List (Nat × Nat × Nat) := []
  sigPeer : List (Nat × Nat × Nat) := []
  /-- Commands waiting for their lines, commands waiting for the mirror (accepted at these lines); statuses to
  compare: 2 × tag + 0 own or 1 the active's, line of the crown, status. -/
  cmds : List TwnCmd := []
  heldCmds : List TwnCmd := []
  results : List (Nat × Nat × Nat) := []
  /-- SWITCHING: hearths whose lines are lost, the zero clear done, hearths whose next line was shifted after it (R356). -/
  dark : List Nat := []
  cleared : Bool := false
  relit : List Nat := []
  /-- Pages of the lost lines, by hearth, oldest first, the first four (R357, R319). -/
  lostPages : Tab (List Nat) := []
  /-- Health: next number, the last record, the counters at the last one, loopback, DRAM, Grate and FEC by hearth (R367). -/
  hSeq : Nat := 0
  health : List Byte := []
  hBase : List Nat := []
deriving DecidableEq, Repr

/-- A queued move (R228); `feed` names the hearth whose Draught asked for it (R238). -/
structure Move where
  target : Int
  vmax : Nat
  blend : Bool := false
  feed : Option Nat := none
  /-- Channel and tag of a command that waits for its end. -/
  owner : Option (Nat × Nat) := none
deriving DecidableEq, Repr

/-- Hidden state of one motion axis (R226–R240). DESIGN CHOICE (log 68). -/
structure AxX where
  /-- Accumulator and velocity in 2^-48 microunit per clock, direction, clocks since the last profile tick. -/
  acc : Nat := 0
  v : Nat := 0
  dirn : Int := 1
  clk : Nat := 0
  cur : Option Move := none
  queue : List Move := []
  vj : Nat := 0
  aCur : Nat := 0
  dCur : Nat := 0
  /-- Homing: 1 towards HOME, 2 decelerating after the edge. -/
  homing : Nat := 0
  /-- A ramp to rest is in force (STOP, drain limit). -/
  ramp : Bool := false
  /-- A move was discarded or cut short since EN was written 0; EN was written 1 during the drain. -/
  lost : Bool := false
  again : Bool := false
  /-- Debounced raw levels of HOME, LIMN and LIMP (R235). -/
  home : Bool := true
  limn : Bool := true
  limp : Bool := true
  /-- Clock at which a move last reached its target (R241). -/
  endedAt : Option Nat := none
  /-- Command of the frames, wake delay in progress, next frame sequence (R233, R234). -/
  cmd : Nat := 1
  waking : Bool := false
  seq : Nat := 0
deriving DecidableEq, Repr

/-- Hidden state of one quadrature channel (R216–R221). -/
structure QuadX where
  /-- Count of the last checked or learned index, whether one has been seen since enable. -/
  idxAt : Int := 0
  idxSeen : Bool := false
  /-- Running slew: deviation, changes made since it began (R219). -/
  slewD : Int := 0
  slewN : Nat := 0
  /-- Times of illegal transitions within ILL_WIN. -/
  ills : List Nat := []
  /-- Count at the start of the speed window. -/
  winAt : Int := 0
  /-- Pairs in disagreement, bit 0 A, 1 B, 2 Z. -/
  wires : Nat := 0
  /-- Clocks at which causes INDEX and PLAUS, which last no longer, were last raised (R241). -/
  indexRaised : Option Nat := none
  plausRaised : Option Nat := none
  /-- Clock of the last CLR_FAULT that cleared, and the WHY it cleared (R241). -/
  cleared : Option (Nat × Nat) := none
deriving DecidableEq, Repr

/-- Hidden state of a Hall set (R222, R223). -/
structure HallX where
  /-- Hall count at the start of the running speed window of each channel 0 to 3. -/
  winAt : List Int := [0, 0, 0, 0]
deriving DecidableEq, Repr

/-- Hidden state of an SSI port (R224, R225): the DAT pair is in disagreement; a frame runs, and the pair disagreed
during it. -/
structure SsiX where
  pair : Bool := false
  due : Bool := false
  busy : Bool := false
  wire : Bool := false
deriving DecidableEq, Repr

/-- What a camera port's elastic buffer holds (R194): the start of a frame (its latched count, s32.16, time of the frame
start packet, pass time), a line (row, timestamp, samples), the end of a frame (its number and status bits). -/
inductive CamItem where
  | start (w : Int) (startSec startNs : Nat) (passNs : Nat)
  | row (r : Nat) (stamp : Nat) (samples : List Nat)
  | fin (number status : Nat)
deriving DecidableEq, Repr

/-- A row index being combined by temporal noise reduction (R197): contributions and their sums, the newest contribution's
row in its frame and web position, the pass time of the first. -/
structure TnrRow where
  j : Int
  n : Nat
  sums : List Nat
  r : Nat
  pos : Int
  passNs : Nat
deriving DecidableEq, Repr

/-- One Echo line that the compare stage keeps: colour, web line, start number, the first byte kept, the bytes (R204). -/
structure EchoKept where
  colour : Nat
  line : Nat
  start : Nat
  first : Nat
  bytes : List Byte
deriving DecidableEq, Repr

/-- Hidden state of one camera port: reception (R188–R194) and its part of the pipeline (R195–R200). -/
structure CamX where
  /-- A frame is open; it is being dropped; lines received of it; a line of it was invalid or lost. -/
  frame : Bool := false
  dropping : Bool := false
  got : Nat := 0
  lineErr : Bool := false
  status : Nat := 0
  /-- Rows of the open frame received valid. -/
  valid : Nat := 0
  /-- No packet has come since enable or since LINK_DOWN. -/
  down : Bool := true
  again : Bool := false
  /-- Position of the last trigger by web step, or of the enable; the time unit of CAM_TRIG.TU has fired (R190). -/
  trigAt : Int := 0
  tuDue : Bool := false
  /-- Count and time latched at the last trigger (R190). -/
  latchW : Int := 0
  latchNs : Nat := 0
  /-- Elastic buffer, oldest first. -/
  buf : List CamItem := []
  /-- Frame passing through the pipeline: latched count, time of its start, pass time, rows taken. -/
  pw : Int := 0
  psec : Nat := 0
  pns : Nat := 0
  ppass : Nat := 0
  rows : List (Nat × List Nat) := []
  /-- The statistics record of the frame was written when the pipeline was disabled (R212). -/
  cut : Bool := false
  /-- Temporal noise reduction: rows in ascending j, the last j emitted. -/
  tnr : List TnrRow := []
  lastJ : Option Int := none
  /-- Rows waiting in the demosaic for the rows below them, in ascending j; the last two that left it (R198). -/
  dmq : List (TnrRow × List Nat) := []
  prev : List (Int × List Nat) := []
  /-- The Echo lines the compare stage keeps for the port, newest first (R204). -/
  echoes : List EchoKept := []
  /-- Crops in progress: first pixel, rows left (R200). -/
  crops : List (Nat × Nat) := []
  /-- Rows collected for OUT2 and OUT3: j and k0 of the first, pixels of each. -/
  thumb2 : List (Int × Int × List (List Nat)) := []
  thumb3 : List (Int × Int × List (List Nat)) := []
  /-- Flat field in force and to come, DARK and GAIN per pixel (R386, R387). -/
  flat : List (Nat × Nat) := []
  flatNext : Option (List (Nat × Nat)) := none
deriving DecidableEq, Repr

/-- Accumulators of one colour column (R205, R206). -/
structure WinX where
  acc : Int := 0
  wt : Nat := 0
  n : Nat := 0
  run : Nat := 0
  vmin : Nat := 0
deriving DecidableEq, Repr

/-- Hidden state of one hearth's inspection pipeline. -/
structure IspX where
  /-- Windows, key 2^32 × colour + camera-frame column modulo 2^32. -/
  wins : Tab WinX := []
  /-- Start number of each colour the windows belong to (R206). -/
  starts : Tab Nat := []
  /-- Density table (R205). -/
  dlut : Tab Nat := []
  /-- Verdicts sent and not yet handled, with their pass times (R209). -/
  flying : List (List Byte × Nat) := []
deriving DecidableEq, Repr

/-- One time unit (R380): target and period as the last write of CTRL took them. -/
structure TuX where
  target : Nat := 0
  period : Nat := 1000000
deriving DecidableEq, Repr

/-- The ordinary clock's exchange on one port (R378). -/
structure PtpX where
  /-- Sequence number of the Sync, its origin time, receipt and correction; a Follow_Up is awaited. -/
  seq : Nat := 0
  t1 : Option Int := none
  t2 : Int := 0
  corr : Int := 0
  /-- Delay_Req sent: its number and time; its answer's time and correction. -/
  reqSeq : Nat := 0
  t3 : Option Int := none
  t4 : Option Int := none
  corr4 : Int := 0
deriving DecidableEq, Repr

/-- The time counter (R371–R373) and the clocks that use it. -/
structure TimX where
  sec : Nat := 0
  ns : Nat := 0
  frac : Nat := 0
  /-- INC in effect; a new INC, a load and an adjustment waiting for the next tick. -/
  inc : Nat := 0x400000000
  incNew : Option Nat := none
  set : Option (Nat × Nat) := none
  adj : Option Int := none
  /-- Accepted path delays, newest first; suspect values in a row (R379). -/
  hist : List Int := []
  suspects : Nat := 0
  units : Tab TuX := []
  ptp : Tab PtpX := []
  /-- Number of the last Delay_Req; time of each sent within the last second (R377). -/
  reqSeq : Nat := 0
  reqAt : List Nat := []
deriving DecidableEq, Repr

/-- States of the TAP controller (IEEE 1149.1). -/
inductive TapSt where
  | reset | idle | selectDr | captureDr | shiftDr | exit1Dr | pauseDr | exit2Dr | updateDr
  | selectIr | captureIr | shiftIr | exit1Ir | pauseIr | exit2Ir | updateIr
deriving DecidableEq, Repr

/-- Instructions of the JTAG port (R425). -/
inductive TapInstr where
  | bypass | idcode | sample | extest | clamp | highz
deriving DecidableEq, Repr

/-- The JTAG port (R425): controller, instruction in force, shift register (first out first), latch of the boundary register. -/
structure TapX where
  st : TapSt := .reset
  instr : TapInstr := .idcode
  shift : List Bool := []
  boundary : List Bool := []
deriving DecidableEq, Repr

/-- A packet on its way (R245): requester number and hearth it comes from, destination hearth and address in its memory,
length (flits; at a DRAM channel slots), its slots there, the field CNT, link ports still to take, the clock at which it
joined its queue, whether its data is poisoned (R252). -/
structure Pkt where
  req : Nat
  src : Nat
  dst : Nat
  mem : Option Nat
  len : Nat
  slots : Nat
  cnt : Nat := 1
  route : List Nat := []
  since : Nat := 0
  poison : Bool := false
deriving DecidableEq, Repr

/-- One queue of an arbiter's active list (R251): class, source (a requester at hearth level, a hearth at device level),
packets, deficit, whether its turn is fresh. -/
structure ArbQ where
  cls : Nat
  src : Nat
  pkts : List Pkt
  deficit : Nat := 0
  fresh : Bool := true
deriving DecidableEq, Repr

/-- One output: a link direction or a DRAM channel, at hearth or device level (R250, R251). -/
structure OutX where
  active : List ArbQ := []
  f : List Pkt := []
  /-- Flits or slots served in the window of 64, and those of class F. -/
  served : Nat := 0
  fUsed : Nat := 0
  /-- The head F packet has been counted as held by the cap. -/
  held : Bool := false
  /-- A link's replay buffer: packets sent and not arrived, oldest first, with the clock at which each arrives (R245, R247). -/
  sent : List (Nat × Pkt) := []
  /-- Outstanding transactions of a DRAM channel, oldest first (R254). -/
  busy : List Pkt := []
deriving DecidableEq, Repr

/-- Hidden state of one hearth's Chimney ports and memory controller (chapter 08). -/
structure ChmX where
  outs : Tab OutX := []
  /-- Times of resends within the last millisecond, by link (R247). -/
  resends : Tab (List Nat) := []
  /-- Neighbour-refresh LFSR by channel (R257); 0 before READY. -/
  lfsr : Tab Nat := []
  /-- Die temperature at the last retraining, by channel (R256). -/
  temp : Tab Int := []
  /-- Postponed refreshes, key 16 × channel + bank (R254). -/
  owed : Tab Nat := []
  /-- Link ports of the route each flow of this hearth took last, key 8 × requester + destination (R246, R247). -/
  flows : Tab (List Nat) := []
  /-- Start of the last retraining pause (of READY before the first), end of that pause, and read and write delays, by
  channel (R256). -/
  pauseAt : Tab Nat := []
  pauseEnd : Tab Nat := []
  delays : Tab Nat := []
  /-- Neighbour refreshes that wait: channel, bank, row, clock of the draw (R257). -/
  waiting : List (Nat × Nat × Nat × Nat) := []
deriving DecidableEq, Repr

/-- A deferred mailbox command (R305): channel, tag, generation, opcode, payload; status gathered per hearth;
what the command keeps to decide its end. -/
structure DOp where
  ch : Nat
  tag : Nat
  gen : Nat
  op : Nat
  cmd : Cmd
  named : List Nat := []
  hs : List Nat := []
  note : List Nat := []
deriving DecidableEq, Repr

/-- The record of a tag on a datagram channel (R285): generation, outstanding, latest response. -/
structure TagRec where
  gen : Nat := 0
  out : Bool := false
  resp : List Byte := []
deriving DecidableEq, Repr

/-- A RESPONSE datagram not acknowledged (R286). -/
structure UdpOut where
  rseq : Nat
  entries : List (List Byte)
  tries : Nat := 0
deriving DecidableEq, Repr

/-- Hidden state of one mailbox channel (R276–R286). -/
structure MbxX where
  /-- Responses produced and not yet written, oldest first (R278). -/
  waiting : List (List Byte) := []
  /-- Tags outstanding (R277). -/
  outst : List Nat := []
  /-- Tags whose responses are discarded (R283). -/
  lostTags : List Nat := []
  /-- Entries of the command ring that an earlier epoch placed and that have not been taken. -/
  oldLeft : Nat := 0
  /-- Responses written since the last doorbell; its time (R279). -/
  sinceDb : Nat := 0
  dbAt : Option Nat := none
  /-- EN was written 1 during a drain (R295). -/
  again : Bool := false
  recs : Tab TagRec := []
  /-- Response numbers sent and not acknowledged; the next number. -/
  sent : List UdpOut := []
  rseq : Nat := 0
  /-- Time of the last REJECT of each reason, plus one; time the bound peer was last heard. -/
  rejAt : Tab Nat := []
  heard : Nat := 0
deriving DecidableEq, Repr

/-- I²C staging of a camera port (R317): bytes staged; the transfer in progress (read length, channel and tag of the
command); the last read. -/
structure I2cX where
  stage : List Byte := []
  last : List Byte := []
  run : Option (Nat × Nat × Nat) := none
deriving DecidableEq, Repr

/-- One block of a calibration set (R390): governing temperatures (one, or one per port), data, age order. -/
structure CalBlock where
  temps : List Int
  data : List Byte
  stamp : Nat
deriving DecidableEq, Repr

/-- A calibration run: kind, and the command that asked for it. -/
structure CalRun where
  kind : Nat
  owner : Option (Nat × Nat) := none
deriving DecidableEq, Repr

/-- Calibration of one hearth (R386–R390). DESIGN CHOICE (log 129). -/
structure CalX where
  /-- Sets in RAM and in flash, key 4 × set + kind. -/
  sets : Tab (Option CalBlock) := []
  stored : Tab (Option CalBlock) := []
  run : Option CalRun := none
  queue : List CalRun := []
  /-- Temperatures and time of the last accepted run, plus the end of the wait after a rejection, by kind. -/
  lastTemps : Tab (List Int) := []
  lastAt : Tab (Option Nat) := []
  waitTil : Tab Nat := []
  /-- Values in force and the temperature they were applied at, by kind. -/
  inForce : Tab (List Int) := []
  appliedAt : Tab (Option Int) := []
  /-- Strand deskew waiting for a gap line; an arm of kind 3 waiting for a pending one. -/
  skew : Option (List Int) := none
  armWait : Bool := false
  stampNo : Nat := 0
deriving DecidableEq, Repr

/-- A patch journal entry (R398): state 1 APPLYING, 2 COMPLETE, 3 VERIFIED. -/
structure Journal where
  comp : Nat
  slot : Nat
  sha : List Byte
  next : Nat
  st : Nat
deriving DecidableEq, Repr

/-- Field update (R391–R401). -/
structure UpdX where
  stageLen : Nat := 0
  stagedBlocks : List Nat := []
  jour : Option Journal := none
  /-- Slot of the running copy, bit per component. -/
  running : Nat := 0
  /-- Components activated and not yet swapped, with the command that asked. -/
  swaps : List (Nat × Option (Nat × Nat)) := []
  /-- The main domain is held in reset by the service port. -/
  held : Bool := false
deriving DecidableEq, Repr

/-- A step of a stand-alone bar motion (R345, R346): home an axis, move it, note the bar capped or clear, arm the chart. -/
inductive AloneStep where
  | home (ax : Nat)
  | move (ax : Nat) (target : Int)
  | mark (capped : Bool)
  | chart
deriving DecidableEq, Repr

/-- Stand-alone behaviour (R343–R348): the bar is capped; steps of a bar motion still to do, the first of them begun; the
chart is armed or printing. -/
structure AloneX where
  /-- The stand-alone section runs. -/
  active : Bool := false
  capped : Bool := false
  script : List AloneStep := []
  begun : Bool := false
  chart : Bool := false
deriving DecidableEq, Repr

/-- A geometry calibration in progress (R202, R317): reference and named colour hearths, hearths whose chart is still to
fire and its lines still to start, web lines of the chart by hearth, density × pixel and density of each mark, keyed by
(16 × colour + 2 × camera hearth + port) × 256 + mark. -/
structure GeoX where
  ref : Nat
  named : List Nat
  todo : List Nat
  left : Nat := 64
  lines : Tab (List Nat) := []
  sums : Tab (Nat × Nat) := []
  /-- Ports that all charts have passed; the command. -/
  passed : List Nat := []
  owner : Nat × Nat := (0, 0)
deriving DecidableEq, Repr

/-- Reset and boot (R330–R341): the main domain is in reset; both leads wait for the bridge; the boot ROM stays at step 4;
flashes that answer (bit 0 the crown's, bit 1 the junior lead's). -/
structure BootX where
  inReset : Bool := true
  wait : Bool := false
  stuck : Bool := false
  flash : Nat := 0
deriving DecidableEq, Repr

/-- The junior lead of an SB-8 whose bridge is down (R339–R341): it serves its half; its channels and deferred commands. -/
structure JunX where
  on : Bool := false
  mbxs : Tab MbxX := []
  dops : List DOp := []
deriving DecidableEq, Repr

/-- The groups of outputs that a reset puts into a safe state: strand pairs with CK, LAT and the strobes; PWE; the five outputs of
each axis; CAMn_TRG; the SSI clock pairs; the transmitters of the lanes; the control port's IO and CP_IRQ_N (R331). -/
inductive SafeGroup where
  | strands | power | axes | cameraTriggers | ssiClocks | transmitters | controlPort
deriving DecidableEq, Repr

/-- Level of an output: low, high, electrical idle, high impedance and released (R331). -/
inductive PinLevel where
  | low | high | idle | released
deriving DecidableEq, Repr

/-- What the device sends or drives to the outside, newest first in `State.out`; the model's own record. DESIGN CHOICE (log 7). -/
inductive Out where
  /-- A Gorge frame sent by an instance of a hearth. -/
  | gorge (h i : Nat) (frame : List Byte)
  /-- A codeword sent on a lane: its 544 symbols (R18, R20), the PAM4 levels they are sent as (R21), the FFE taps PRE2, PRE1,
  main, POST1, POST2 that drive them (R31). -/
  | codeword (h l : Nat) (symbols levels taps : List Nat)
  /-- Received PAM4 levels, or a ten-bit code group, sent back on the transmitter (R45, far-end loopback). -/
  | echoed (h l : Nat) (levels : List Nat)
  /-- Blocks a Gorge lane delivers to the protocol, under its logical lane (R19, R30). -/
  | blocks (h l : Nat) (bs : List RxBlock)
  /-- The first line symbols of a PRBS test: PAM4 levels of a Gorge lane, bits of a Saddle lane (R42). -/
  | prbs (h l : Nat) (line : List Nat)
  /-- Generated PRBS bit number `n`, inverted by injection, as it is sent (R44). -/
  | injected (h l n : Nat) (b : Bool)
  /-- Auto-negotiation starts on a Saddle lane: its configuration word and the code groups of /C1/ and /C2/ (R24). -/
  | autoneg (h l : Nat) (word : Nat) (groups : List Nat)
  /-- Port `p` shifts a line from `start` steps after the trigger on: CKDIV, and for each fitted strand its bits in the order sent
  (R161, R162). -/
  | shift (h p start ckdiv : Nat) (strands : List (Nat × List Bool))
  /-- Port `p` asserts LAT 10 ns after the trigger, or (`late`) after the end of a shift still running at it, for `width` steps,
  inverted under LAT_POL: the levels it latches by slot index (R161, R164). -/
  | latch (h p width : Nat) (late inverted : Bool) (levels : Tab Nat)
  /-- Strobe phase `m` of a port is asserted `delay` steps after the trigger for `width` steps, inverted under STB_POL (R161). -/
  | strobe (h p m delay width : Nat) (inverted : Bool)
  /-- The outputs of a group on hearth `h` take their safe state (R331). -/
  | safe (h : Nat) (g : SafeGroup) (lv : PinLevel)
  /-- Every strobe of a port is ended at once (R155, R183). -/
  | strobesLow (h p : Nat)
  /-- A held or direct read of GRT_TBL_DATA or ISP_DLUT_DATA returns a value. -/
  | tableRead (h blk : Nat) (v : Word)
  /-- A twin frame sent on SL2 (R353), and its code groups from /TS/ to /TT/ (R22, R23). -/
  | twin (frame : List Byte) (groups : List Nat)
  /-- A heartbeat: the octets of its three data code groups (R352), and the code groups of /TH/. -/
  | heartbeat (d0 d1 d2 : Nat) (groups : List Nat)
  /-- A STEP pulse of an axis, DIR level (R231). -/
  | step (axis : Nat) (dir : Bool)
  /-- A 40-bit phase-setpoint frame of an axis (R233). -/
  | phase (axis frame : Nat)
  /-- A trigger pulse of a camera port, in µs (R190). -/
  | camTrig (h c pw : Nat)
  /-- Time unit `n` fires and reaches its consumers (R380); TSYNC_OUT pulses (R381). -/
  | unit (n : Nat)
  | tsync
  /-- The value a register read returns to its requester. -/
  | regRead (addr : Nat) (v : Word)
  /-- Bytes the control port drives after its turnaround (R265, R266). -/
  | qspi (bytes : List Byte)
  /-- A Delay_Req leaves a port at a time (R377). -/
  | delayReq (port seq : Nat)
  /-- An Ethernet frame leaves a Saddle lane, and its code groups from /S/ to the last /R/ (R22, R23). -/
  | ether (port : Nat) (frame : List Byte) (groups : List Nat)
  /-- The 16-byte status record of the service port (R397). -/
  | svc (record : List Byte)
  /-- A bit on TDO; what the JTAG port does with the balls of the boundary register (R425). -/
  | tdo (b : Bool)
  | tapPins (instr : TapInstr) (cells : List Bool)
  /-- A word popped from a Flue queue reaches its reader (R288). -/
  | popped (h q : Nat) (v : Word)
  /-- A packet leaves an output (R251). -/
  | packet (h output : Nat) (p : Pkt)
  /-- A packet arrives at the hearth it is for (R245); a request whose packet was discarded ends TIMEOUT at its requester (R247). -/
  | delivered (h : Nat) (p : Pkt)
  | requestTimeout (h : Nat) (p : Pkt)
  /-- Refreshes of a bank, refresh of one row (R254, R257). -/
  | refresh (h ch bank n : Nat)
  | rowRefresh (h ch bank row : Nat)
  /-- A 16-byte inspection message to hearth `dest` (R207). -/
  | inspect (dest : Nat) (msg : List Byte)
  /-- An I²C transfer: address, bytes written, bytes to read (R189). -/
  | i2c (h c addr : Nat) (bytes : List Byte) (rlen : Nat)
deriving DecidableEq, Repr

/-- The state of the block. -/
structure State where
  /-- Commands waiting, first in first out. -/
  pending : List Instr := []
  /-- Which part this is. -/
  part : Part := .sb8
  /-- Elapsed time in clocks of 2.5 ns. -/
  now : Nat := 0
  /-- Counter of the free values drawn so far (the model's own field). -/
  freeCtr : Nat := 0
  /-- Everything sent to the outside, newest first (the model's own field). -/
  out : List Out := []
  /-- Register words, keyed by hearth, block, instance and word. -/
  regs : Tab Word := []
  /-- DRAM bytes, keyed by hearth × 2^40 + address. -/
  dram : Tab Byte := []
  /-- Severity map (R294), keyed by hearth, block, event register and bit. -/
  sev : Tab Nat := []
  /-- Serial lanes, key 16 × hearth + instance. -/
  lanes : Tab LaneX := []
  /-- Gorge instances, key 16 × hearth + instance. -/
  gors : Tab GorX := []
  /-- Basins, key hearth. -/
  basins : Tab BasX := []
  /-- Host-owned buffers, key 64 × hearth + handle. -/
  lbs : Tab LBuf := []
  /-- Flue queues, key 32 × hearth + queue. -/
  flues : Tab FlueX := []
  /-- Bytes of the crown's QSPI flash (R391); an unlisted byte is erased. -/
  flash : Tab Byte := []
  /-- Bytes of the flash on the QSPI port of the SB-8's other lead (R339). -/
  flash2 : Tab Byte := []
  /-- The crown hearth (R336). -/
  crown : Nat := 0
  /-- Routing of firmware events (R322): queue, least severity, families. -/
  fwQueue : Nat := 0
  fwSevMin : Nat := 0
  fwFamilies : Nat := 0xFFFF
  /-- Staged privileged words, keyed as `regs`; an unlisted word holds its reset value (R139). -/
  staged : Tab Word := []
  /-- Terrace, Grate and Ash queue, key hearth. -/
  ters : Tab TerX := []
  /-- Firebox ports, key 16 × hearth + port. -/
  fbxs : Tab FbxX := []
  /-- Dampers and Draughts, key hearth. -/
  dmps : Tab DmpX := []
  drts : Tab DrtX := []
  /-- Grate table banks, key 2 × hearth + bank; entry key 65536 × table + index (R140). -/
  grts : Tab (Tab Nat) := []
  /-- Ash map entries, key 65536 × hearth + column. -/
  ashMap : Tab Word := []
  /-- Filtered assertions of the Fender gates, bit per gate (R172). -/
  gates : Nat := 0
  /-- Twin block of the crown. -/
  twn : TwnX := {}
  /-- Motion axes AX0–AX7 (R214). -/
  axes : Tab AxX := []
  /-- Quadrature channels, Hall sets and SSI ports, key 8 × hearth + instance. -/
  quads : Tab QuadX := []
  halls : Tab HallX := []
  ssis : Tab SsiX := []
  /-- Camera ports, key 2 × hearth + port; inspection pipelines, key hearth. -/
  cams : Tab CamX := []
  isps : Tab IspX := []
  /-- Halves latched by a read of a _LO word, keyed as `regs`, each plus one; 0 where none is latched (R117, R372). -/
  latches : Tab Nat := []
  /-- Time counter and time units. -/
  tim : TimX := {}
  /-- Chimney ports and memory controllers, key hearth; links known not to be UP, key 4 × hearth + port. -/
  chms : Tab ChmX := []
  linksLost : List Nat := []
  /-- Mode of R303: 0 BOOT, 1 STANDALONE, 2 HOSTED, 3 JUNIOR; the attached host; an attach taken during boot. -/
  mode : Nat := 0
  hostId : Nat := 0
  attachDue : Bool := false
  /-- The main domain runs: out of reset and started (R328, R334). -/
  up : Bool := false
  /-- Clock at which the main domain last left reset. -/
  upSince : Nat := 0
  /-- Posted write buffer of the control port, oldest first: address and word (R267). -/
  posted : List (Nat × Word) := []
  /-- A control-port transaction has had its opcode and CS_N has not risen since (R264). -/
  portOpen : Bool := false
  /-- Mailbox channels, deferred commands in the order they began, the Mantel pause (R280). -/
  mbxs : Tab MbxX := []
  dops : List DOp := []
  paused : Bool := false
  /-- I²C controllers, key 2 × hearth + port. -/
  i2cs : Tab I2cX := []
  /-- ARP cache: address, MAC, time (R281). -/
  arp : List (Nat × Nat × Nat) := []
  /-- IP packets waiting for an ARP answer: address and packet. -/
  arpHeld : List (Nat × List Byte) := []
  /-- Calibration, key hearth; field update. -/
  cals : Tab CalX := []
  upd : UpdX := {}
  /-- LEAD_SEL as sampled at the last main-domain reset (R334, R337); hearths left out of the boot, bit per hearth (R335). -/
  leadSel : Nat := 0
  absent : Nat := 0
  /-- SYS_RESET has written its final and acts 1 ms later: scope, hearths (R308). -/
  resetDue : Option (Nat × Nat) := none
  /-- VAUX is below 5.0 V, or back in range for less than 10 ms (R329). -/
  vauxLow : Bool := false
  /-- Stand-alone behaviour (R343–R348). -/
  alone : AloneX := {}
  /-- A geometry calibration, and the last one's status plus one, RESID and MARKS (R202, R317). -/
  geo : Option GeoX := none
  geoRes : Nat × Nat × Nat := (0, 0, 0)
  /-- Reset and boot; the junior half. -/
  boot : BootX := {}
  junior : JunX := {}
  /-- The JTAG port. -/
  tap : TapX := {}
deriving DecidableEq, Repr

/-- Reasons a step stops with a fault. -/
inductive Fault where
  /-- Raised by an access the device makes to a DRAM address above the fitted memory; the spec gives no effect. Safe. -/
  | noMemory (hearth addr : Nat)
deriving DecidableEq, Repr

/-- Reasons a command has no meaning. -/
inductive Refusal where
  /-- Raised by a dispatch arm that has no meaning yet. Safe: no run passes it. -/
  | notModelled (mnemonic : String)
deriving DecidableEq, Repr

/-- The answer of a step. -/
abbrev Outcome := Host.Outcome State Fault Refusal

/-- The machine right after reset: no command waits; every register reads its reset value (the table of registers
lists nothing); DRAM lists nothing; every record stands at its initial value. DESIGN CHOICE (log 1, 158). -/
def State.reset : State := {}

end Sys2Proof.Machine
end

