-- ==== Sys2Proof/Machine/Ops.lean ====
section
/-! DEFINITION. The named operations over the state: register words and fields, DRAM, counters, Flue queues, event
bits and event words, firmware events, free values. Every meaning reads and writes the state through these. -/

namespace Sys2Proof.Machine

/-! ### The part and its units -/

/-- Hearths of a part (00_scope.md). -/
def partHearths : Part → Nat
  | .sb2 => 2
  | .sb4 => 4
  | .sb8 => 8

/-- Hearths this part has. -/
def State.nH (s : State) : Nat := partHearths s.part

/-- The part has hearth `h` (R7). -/
def State.hasH (s : State) (h : Nat) : Bool := decide (h < s.nH)

/-! ### Registers -/

/-- Key of a register word. DESIGN CHOICE (log 17). -/
def rkey (h blk i w : Nat) : Nat := ((h * 256 + blk) * 16 + i) * 2048 + w

/-- Every register of a block. -/
def regsOf : Nat → List RegDef
  | 0x00 => regsGLB | 0x01 => regsMBX | 0x02 => regsFLU | 0x04 => regsLANE | 0x05 => regsGOR
  | 0x08 => regsBAS | 0x09 => regsCIN | 0x0A => regsTER | 0x0B => regsGRT | 0x0C => regsFBX
  | 0x0D => regsDRT | 0x0E => regsDMP | 0x0F => regsFND | 0x10 => regsFBK | 0x11 => regsMOT
  | 0x12 => regsCAM | 0x13 => regsISP | 0x14 => regsASH | 0x18 => regsCHM | 0x19 => regsDRM
  | 0x1A => regsTIM | 0x1B => regsTWN | 0x1C => regsCAL | 0x1D => regsSVC | 0x1E => regsTST
  | _ => []

/-- The index of word `w` in register array `r`, if `w` belongs to it. -/
def regIndex (r : RegDef) (w : Nat) : Option Nat :=
  if w < r.word then none
  else if r.stride = 0 then (if w = r.word then some 0 else none)
  else if (w - r.word) % r.stride = 0 ∧ (w - r.word) / r.stride < r.count then some ((w - r.word) / r.stride)
  else none

/-- The feedback block's kinds of instance: words of quadrature channels 0–3, Hall sets 4–5, SSI ports 6–7. -/
def fbkWordOk (i w : Nat) : Bool :=
  if w < 0x20 then decide (i < 4) else if w < 0x40 then i == 4 || i == 5 else i == 6 || i == 7

/-- The register definition and index behind a word of a block's instance. -/
def findReg (blk i w : Nat) : Option (RegDef × Nat) :=
  if blk = BLK_FBK ∧ !fbkWordOk i w then none
  else (regsOf blk).findSome? fun r => (regIndex r w).map fun n => (r, n)

/-- The reset value of one field of register index `n`, instance `i`; five arrays have values that run with the index. -/
def fieldReset (blk i : Nat) (r : RegDef) (n : Nat) (f : FieldDef) : Nat :=
  if blk = BLK_FBX ∧ r.word = 0x14 ∧ f.lo = 16 then 16 * (5 + 10 * n)
  else if blk = BLK_FBX ∧ r.word = 0x20 then ofS 16 (16 * (120 - 8 * (n : Int)))
  else if blk = BLK_MOT ∧ r.word = 0x0A then [10995116, 43980465, 175921860, 439804651].getD n 0
  else if blk = BLK_MBX ∧ r.word = 0 ∧ f.lo = 8 then 1 + i
  else if blk = BLK_MBX ∧ r.word = 9 ∧ f.lo = 0 then (if i = 2 then 47210 else if i = 3 then 47211 else 0)
  else if blk = BLK_CIN ∧ i = 2 ∧ r.word = 0 ∧ f.lo = 1 then 0
  else f.rst

/-- The reset value of a word. -/
def wordReset (blk i w : Nat) : Word :=
  match findReg blk i w with
  | none => 0
  | some (r, n) => r.fields.foldl (fun acc f => insertBits acc f.lo f.len (fieldReset blk i r n f)) 0

/-- What an unlisted register key reads as: its reset value. -/
def dfltReg (k : Nat) : Word := wordReset (k / 32768 % 256) (k / 2048 % 16) (k % 2048)

/-- The stored value of a register word. -/
def State.rd (s : State) (h i blk w : Nat) : Word := tabGet dfltReg s.regs (rkey h blk i w)

/-- Store a register word. -/
def State.wr (s : State) (h i blk w : Nat) (v : Word) : State :=
  { s with regs := tabSet dfltReg s.regs (rkey h blk i w) v }

/-- A field of a register. -/
def State.fget (s : State) (h i : Nat) (f : Fld) : Nat := bits (s.rd h i f.blk f.word).toNat f.lo f.len

/-- A one-bit field, or whether a field is non-zero. -/
def State.fon (s : State) (h i : Nat) (f : Fld) : Bool := s.fget h i f != 0

/-- Set a field. -/
def State.fput (s : State) (h i : Nat) (f : Fld) (v : Nat) : State :=
  s.wr h i f.blk f.word (insertBits (s.rd h i f.blk f.word) f.lo f.len v)

/-- Set a field from a condition. -/
def State.fputB (s : State) (h i : Nat) (f : Fld) (b : Bool) : State := s.fput h i f (b2n b)

/-- A 64-bit value held in a _LO word and the _HI word after it. -/
def State.get64 (s : State) (h i : Nat) (lo : Fld) : Nat :=
  (s.rd h i lo.blk lo.word).toNat + 2 ^ 32 * (s.rd h i lo.blk (lo.word + 1)).toNat

/-- Store a 64-bit value in a _LO word and the _HI word after it. -/
def State.put64 (s : State) (h i : Nat) (lo : Fld) (v : Nat) : State :=
  (s.wr h i lo.blk lo.word (BitVec.ofNat 32 v)).wr h i lo.blk (lo.word + 1) (BitVec.ofNat 32 (v / 2 ^ 32))

/-- A signed reading of a field. -/
def State.sget (s : State) (h i : Nat) (f : Fld) : Int := toS f.len (s.fget h i f)

/-- Count into a 32-bit counter that sticks at all ones (R41, R298). -/
def State.count (s : State) (h i : Nat) (f : Fld) (n : Nat := 1) : State :=
  s.fput h i f (satAdd32 (s.fget h i f) n)

/-- Write a word's fields from a host write that has no behaviour of its own: only the bits in `mask`. -/
def State.wrMask (s : State) (h i blk w : Nat) (mask value : Word) : State :=
  s.wr h i blk w ((s.rd h i blk w &&& ~~~ mask) ||| (value &&& mask))

/-! ### DRAM -/

/-- What a byte of DRAM that nothing has written reads as. -/
def dfltByte (_ : Nat) : Byte := 0

/-- Key of a DRAM byte of a hearth. -/
def dkey (h a : Nat) : Nat := h * 2 ^ 40 + a % 2 ^ 40

/-- Read a byte of a hearth's DRAM. DESIGN CHOICE (log 8). -/
def State.dread (s : State) (h a : Nat) : Byte := tabGet dfltByte s.dram (dkey h a)

/-- Write a byte of a hearth's DRAM. -/
def State.dwrite (s : State) (h a : Nat) (b : Byte) : State :=
  { s with dram := tabSet dfltByte s.dram (dkey h a) b }

/-- Write bytes from an address up. -/
def State.dwrites (s : State) (h : Nat) : Nat → List Byte → State
  | _, [] => s
  | a, b :: bs => State.dwrites (s.dwrite h a b) h (a + 1) bs

/-- Read `n` bytes from an address up. -/
def State.dreads (s : State) (h a n : Nat) : List Byte := (List.range n).map fun k => s.dread h (a + k)

/-- A little-endian number of `n` DRAM bytes. -/
def State.dnum (s : State) (h a n : Nat) : Nat := leAt (s.dreads h a n) 0 n

/-- The memory of the device, DRAM, is in its canonical form: rising keys, no byte equal to what an unlisted one reads as. -/
def Memory.wf (s : State) : Bool := tabWf dfltByte s.dram

/-- Fitted DRAM of a hearth in bytes (`DRM_CFG.SIZE`). -/
def State.fitted (s : State) (h : Nat) : Nat :=
  match s.fget h 0 DRM_CFG_SIZE with
  | 1 => 2 * 2 ^ 30
  | 2 => 4 * 2 ^ 30
  | 3 => 8 * 2 ^ 30
  | _ => 16 * 2 ^ 30

/-- The hearth's memory failed training: it takes no BAS, ISP or CIN enable (R255). DEDUCED (log 46). -/
def dramFailed (s : State) (h : Nat) : Bool := s.fget h 0 DRM_STATUS_STATE == 3

/-! ### Output record, free values -/

/-- Record something sent to the outside. -/
def State.emit (s : State) (o : Out) : State := { s with out := o :: s.out }

/-- Record several things sent, in order. -/
def State.emits (s : State) (os : List Out) : State := { s with out := os.reverse ++ s.out }

/-- Take the next free value below `2 ^ n`. -/
def State.free (s : State) (n : Nat) : Nat × State :=
  (Config.freeNat s.freeCtr % 2 ^ n, { s with freeCtr := s.freeCtr + 1 })

/-! ### Per-unit records -/

def State.lane (s : State) (h l : Nat) : LaneX := tabGet (fun _ => {}) s.lanes (16 * h + l)
def State.setLane (s : State) (h l : Nat) (x : LaneX) : State :=
  { s with lanes := tabSet (fun _ => {}) s.lanes (16 * h + l) x }
def State.gor (s : State) (h i : Nat) : GorX := tabGet (fun _ => {}) s.gors (16 * h + i)
def State.setGor (s : State) (h i : Nat) (x : GorX) : State :=
  { s with gors := tabSet (fun _ => {}) s.gors (16 * h + i) x }
def State.bas (s : State) (h : Nat) : BasX := tabGet (fun _ => {}) s.basins h
def State.setBas (s : State) (h : Nat) (x : BasX) : State :=
  { s with basins := tabSet (fun _ => {}) s.basins h x }
def State.lbuf (s : State) (h k : Nat) : LBuf := tabGet (fun _ => {}) s.lbs (64 * h + k)
def State.setLbuf (s : State) (h k : Nat) (x : LBuf) : State :=
  { s with lbs := tabSet (fun _ => {}) s.lbs (64 * h + k) x }
def State.flue (s : State) (h q : Nat) : FlueX := tabGet (fun _ => {}) s.flues (32 * h + q)
def State.setFlue (s : State) (h q : Nat) (x : FlueX) : State :=
  { s with flues := tabSet (fun _ => {}) s.flues (32 * h + q) x }

def State.ter (s : State) (h : Nat) : TerX := tabGet (fun _ => {}) s.ters h
def State.setTer (s : State) (h : Nat) (x : TerX) : State := { s with ters := tabSet (fun _ => {}) s.ters h x }
def State.fbx (s : State) (h p : Nat) : FbxX := tabGet (fun _ => {}) s.fbxs (16 * h + p)
def State.setFbx (s : State) (h p : Nat) (x : FbxX) : State :=
  { s with fbxs := tabSet (fun _ => {}) s.fbxs (16 * h + p) x }
def State.dmp (s : State) (h : Nat) : DmpX := tabGet (fun _ => {}) s.dmps h
def State.setDmp (s : State) (h : Nat) (x : DmpX) : State := { s with dmps := tabSet (fun _ => {}) s.dmps h x }
def State.drt (s : State) (h : Nat) : DrtX := tabGet (fun _ => {}) s.drts h
def State.setDrt (s : State) (h : Nat) (x : DrtX) : State := { s with drts := tabSet (fun _ => {}) s.drts h x }
def State.axis (s : State) (a : Nat) : AxX := tabGet (fun _ => {}) s.axes a
def State.setAxis (s : State) (a : Nat) (x : AxX) : State := { s with axes := tabSet (fun _ => {}) s.axes a x }
def State.quad (s : State) (h c : Nat) : QuadX := tabGet (fun _ => {}) s.quads (8 * h + c)
def State.setQuad (s : State) (h c : Nat) (x : QuadX) : State := { s with quads := tabSet (fun _ => {}) s.quads (8 * h + c) x }
def State.hall (s : State) (h k : Nat) : HallX := tabGet (fun _ => {}) s.halls (8 * h + k)
def State.setHall (s : State) (h k : Nat) (x : HallX) : State := { s with halls := tabSet (fun _ => {}) s.halls (8 * h + k) x }
def State.ssi (s : State) (h k : Nat) : SsiX := tabGet (fun _ => {}) s.ssis (8 * h + k)
def State.setSsi (s : State) (h k : Nat) (x : SsiX) : State := { s with ssis := tabSet (fun _ => {}) s.ssis (8 * h + k) x }
def State.cam (s : State) (h c : Nat) : CamX := tabGet (fun _ => {}) s.cams (2 * h + c)
def State.setCam (s : State) (h c : Nat) (x : CamX) : State := { s with cams := tabSet (fun _ => {}) s.cams (2 * h + c) x }
def State.isp (s : State) (h : Nat) : IspX := tabGet (fun _ => {}) s.isps h
def State.setIsp (s : State) (h : Nat) (x : IspX) : State := { s with isps := tabSet (fun _ => {}) s.isps h x }
def State.chm (s : State) (h : Nat) : ChmX := tabGet (fun _ => {}) s.chms h
def State.setChm (s : State) (h : Nat) (x : ChmX) : State := { s with chms := tabSet (fun _ => {}) s.chms h x }
def State.mbx (s : State) (c : Nat) : MbxX := tabGet (fun _ => {}) s.mbxs c
def State.setMbx (s : State) (c : Nat) (x : MbxX) : State := { s with mbxs := tabSet (fun _ => {}) s.mbxs c x }
def State.i2c (s : State) (h c : Nat) : I2cX := tabGet (fun _ => {}) s.i2cs (2 * h + c)
def State.setI2c (s : State) (h c : Nat) (x : I2cX) : State := { s with i2cs := tabSet (fun _ => {}) s.i2cs (2 * h + c) x }
def State.cal (s : State) (h : Nat) : CalX := tabGet (fun _ => {}) s.cals h
def State.setCal (s : State) (h : Nat) (x : CalX) : State := { s with cals := tabSet (fun _ => {}) s.cals h x }
/-- One bank of a hearth's Grate tables. -/
def State.grt (s : State) (h bank : Nat) : Tab Nat := tabGet (fun _ => []) s.grts (2 * h + bank)
def State.setGrt (s : State) (h bank : Nat) (t : Tab Nat) : State :=
  { s with grts := tabSet (fun _ => []) s.grts (2 * h + bank) t }
/-- The active Ash map entry of a column; 0x0080_0000 at reset. -/
def dfltAsh (_ : Nat) : Word := 0x00800000
def State.ash (s : State) (h x : Nat) : Word := tabGet dfltAsh s.ashMap (65536 * h + x)
def State.setAsh (s : State) (h x : Nat) (e : Word) : State :=
  { s with ashMap := tabSet dfltAsh s.ashMap (65536 * h + x) e }
/-- The staged value of a privileged word (R139). -/
def State.stg (s : State) (h i blk w : Nat) : Word := tabGet dfltReg s.staged (rkey h blk i w)
def State.setStg (s : State) (h i blk w : Nat) (v : Word) : State :=
  { s with staged := tabSet dfltReg s.staged (rkey h blk i w) v }

/-! ### Flash (R391, R393) -/

/-- An erased flash byte. DESIGN CHOICE (log 9). -/
def dfltFlash (_ : Nat) : Byte := 0xFF

/-- Read a flash byte, and write one. -/
def State.fread (s : State) (a : Nat) : Byte := tabGet dfltFlash s.flash a
def State.fwrite (s : State) (a : Nat) (b : Byte) : State := { s with flash := tabSet dfltFlash s.flash a b }

/-- Bytes of flash from an offset, and writing bytes from an offset up. -/
def State.freads (s : State) (a n : Nat) : List Byte := (List.range n).map fun k => s.fread (a + k)
def State.fwrites (s : State) : Nat → List Byte → State
  | _, [] => s
  | a, b :: bs => State.fwrites (s.fwrite a b) (a + 1) bs

/-- A little-endian number of `n` flash bytes. -/
def State.fnum (s : State) (a n : Nat) : Nat := leAt (s.freads a n) 0 n

/-- Offset of the slot in use of component 4, the default tables (R391). -/
def cfgBase (s : State) : Nat := if bit s.upd.running 4 then 0x02100000 else 0x01900000

/-- Directory entries of the configuration image: section, kind, offset, length, CRC (R393). -/
def cfgDir (s : State) : List (Nat × Nat × Nat × Nat × Nat) :=
  let b := cfgBase s
  let n := s.fnum b 4
  (List.range (if n ≤ 4096 then n else 0)).map fun k =>
    let a := b + 4 + 16 * k
    (s.fnum a 2, s.fnum (a + 2) 2, s.fnum (a + 4) 4, s.fnum (a + 8) 4, s.fnum (a + 12) 4)

/-- The bytes of a directory entry, where their CRC matches. -/
def cfgBytes (s : State) (e : Nat × Nat × Nat × Nat × Nat) : Option (List Byte) :=
  if e.2.2.2.1 > 0x800000 then none
  else
    let bs := s.freads (cfgBase s + e.2.2.1) e.2.2.2.1
    if crc32c bs = e.2.2.2.2 then some bs else none

/-- A section by its number: its kind, and its bytes where its CRC matches. -/
def cfgSection (s : State) (sec : Nat) : Option (Nat × Option (List Byte)) :=
  ((cfgDir s).find? fun e => e.1 == sec).map fun e => (e.2.1, cfgBytes s e)

/-- The first section of a kind whose CRC matches. -/
def cfgKind (s : State) (kind : Nat) : Option (List Byte) :=
  ((cfgDir s).filter fun e => e.2.1 == kind).findSome? (cfgBytes s)

/-! ### Flue queues (R287) -/

/-- Capacity of a queue: 2^(4 + DEPTH), 7 acting as 6. -/
def flueCap (s : State) (h q : Nat) : Nat := 2 ^ (4 + min 6 (s.fget h 0 (FLU_Q_CFG_DEPTH q)))

/-- The queue is full. -/
def flueFull (s : State) (h q : Nat) : Bool := decide (flueCap s h q ≤ (s.flue h q).words.length)

/-- Append a word with its parity bit; a push to a full queue is discarded, sets OVF and is counted (R287). -/
def fluePush (h q : Nat) (w : Word) (s : State) : State :=
  let x := s.flue h q
  if flueFull s h q then (s.setFlue h q { x with ovf := true }).count h 0 FLU_OVF_CNT
  else s.setFlue h q { x with words := x.words ++ [(w, parity32 w)], timing := x.timing || x.words.isEmpty }

/-! ### Event bits and event words (R292–R294) -/

/-- Blocks whose registers are one set for the package. -/
def blkGlobal (blk : Nat) : Bool := blk == BLK_FND || blk == BLK_TIM || blk == BLK_SVC

/-- Position of an EVENT register among its block's EVENT registers (R292). -/
def evtIndex (blk word : Nat) : Nat :=
  if blk = BLK_FBK then (if word = 0x0B then 0 else if word < 0x40 then 1 else 2)
  else if blk = BLK_TIM then (if word = 0x18 then 0 else 1)
  else 0

/-- Key of the severity map. -/
def sevKey (h blk idx b : Nat) : Nat := ((h * 256 + blk) * 4 + idx) * 32 + b

/-- Severity of an event bit: 5 to 15 act as 4; 1 at reset (R294). -/
def sevOf (s : State) (h blk idx b : Nat) : Nat :=
  let v := tabGet (fun _ => 1) s.sev (sevKey h blk idx b)
  if v > 4 then 4 else v

/-- An event word of R292. -/
def eventWord (sev h blk code : Nat) : Word :=
  BitVec.ofNat 32 (sev * 2 ^ 28 + h % 16 * 2 ^ 24 + blk % 256 * 2 ^ 16 + code % 65536)

/-- Push an event word; one that meets a full queue also counts in GLB_EVT_LOST (R293). -/
def postWord (h q : Nat) (w : Word) (s : State) : State :=
  let lost := flueFull s h q
  onlyIf lost (fun s => s.count h 0 GLB_EVT_LOST) (fluePush h q w s)

/-- Post the event word of a hardware event bit. -/
def postEvent (h i : Nat) (e : Fld) (bitNo : Nat) (s : State) : State :=
  let g := blkGlobal e.blk
  let hh := if g then s.crown else h
  let idx := evtIndex e.blk e.word
  let code := (if g then 0xF else i % 16) * 2 ^ 11 + idx * 2 ^ 9 + bitNo
  postWord hh (s.fget hh 0 GLB_EVT_FQ) (eventWord (sevOf s hh e.blk idx bitNo) hh e.blk code) s

/-- Set a hardware event bit; it posts a word when it goes from 0 to 1 while its enable is 1 (R293). The enable word
follows the event word in every block. -/
def State.raise (s : State) (h i : Nat) (e : Fld) : State :=
  if s.fon h i e then s
  else
    let s1 := s.fput h i e 1
    if s.fon h i { e with word := e.word + 1 } then postEvent h i e e.lo s1 else s1

/-- Severity of a firmware event (R323). DESIGN CHOICE (log 23). -/
def fwSeverity : Nat → Nat
  | 0x8101 => 1 | 0x8102 => 0 | 0x8103 => 2 | 0x8401 => 1 | 0x8402 => 2 | 0x8A01 => 0
  | 0x8C01 => 3 | 0x8C02 => 3 | 0x8C03 => 2 | 0x8C04 => 2 | 0x8D01 => 0 | 0x8D02 => 2
  | 0x8E01 => 1 | 0x8E02 => 3
  | _ => 0

/-- Post a firmware event for a hearth into the crown's chosen queue, where its family and severity are routed (R322, R323). -/
def fwEvent (h code : Nat) (s : State) : State :=
  let sv := fwSeverity code
  if bit s.fwFamilies (code / 256 % 128) && decide (s.fwSevMin ≤ sv) then
    postWord s.crown s.fwQueue (eventWord sv h BLK_MBX code) s
  else s

/-! ### A host write into a register word (R7, R8, R429) -/

/-- Mask of a field's bits. -/
def fieldMask (f : FieldDef) : Word := BitVec.ofNat 32 ((2 ^ f.len - 1) * 2 ^ f.lo)

/-- What a write of `v` leaves in one field of the stored word `old`: by its access code, its column B on a broadcast
(`bcast`), and whether the block's RWL fields are open. -/
def fieldWrite (bcast opn : Bool) (v : Word) (acc : Word) (f : FieldDef) : Word :=
  if bcast && !f.b then acc
  else match f.acc with
    | .ro | .rc | .wo => acc
    | .rw => (acc &&& ~~~ fieldMask f) ||| (v &&& fieldMask f)
    | .rwl => if opn then (acc &&& ~~~ fieldMask f) ||| (v &&& fieldMask f) else acc
    | .w1c => acc &&& ~~~ (v &&& fieldMask f)
    | .w1s => acc ||| (v &&& fieldMask f)

/-- The stored word after a write of `v`. -/
def mergeWrite (fs : List FieldDef) (bcast opn : Bool) (old v : Word) : Word :=
  fs.foldl (fieldWrite bcast opn v) old

/-- The bits of `v` that reach a field at all: on a broadcast only column B fields. -/
def reachMask (fs : List FieldDef) (bcast : Bool) : Word :=
  fs.foldl (fun m f => if bcast && !f.b then m else m ||| fieldMask f) 0

/-- The fields of a word. -/
def wordFields (blk i w : Nat) : List FieldDef :=
  match findReg blk i w with
  | none => []
  | some (r, _) => r.fields

/-- One host write as a block's rule sees it: the word, the stored value before it and the written bits that reach it. -/
structure WriteCtx where
  h : Nat
  i : Nat
  w : Nat
  old : Word
  v : Word
deriving DecidableEq, Repr

/-- Store a host write and hand it to the block's own rule. A privileged field takes the write in its staged value (R139). -/
def hostWrite (blk : Nat) (opn : State → Nat → Nat → Nat → Bool) (act : WriteCtx → State → State)
    (h i w : Nat) (v : Word) (bcast : Bool) (s : State) : State :=
  let fs := wordFields blk i w
  let old := s.rd h i blk w
  let s1 := s.wr h i blk w (mergeWrite (fs.filter fun f => !f.priv) bcast (opn s h i w) old v)
  let pf := fs.filter fun f => f.priv
  let s2 := if pf.isEmpty then s1 else s1.setStg h i blk w (mergeWrite pf bcast true (s.stg h i blk w) v)
  act ⟨h, i, w, old, v &&& reachMask fs bcast⟩ s2

/-- Bits of a word's fields that act when they are written 1. -/
def actMask (blk i w : Nat) : Word :=
  (wordFields blk i w).foldl (fun m f => if f.acc == .w1s || f.acc == .wo || f.acc == .w1c then m ||| fieldMask f else m) 0

/-- The word a host writes to set bit `b` alone of those that act, the other fields as they stand. DESIGN CHOICE (log 15). -/
def State.pulse (s : State) (h i blk w b : Nat) : Word := insertBits (s.rd h i blk w &&& ~~~ actMask blk i w) b 1 1

/-- A one-bit field went from 0 to 1, or from 1 to 0, by a write. -/
def WriteCtx.rose (c : WriteCtx) (s : State) (f : Fld) : Bool :=
  bits c.old.toNat f.lo f.len == 0 && s.fget c.h c.i f != 0
def WriteCtx.fell (c : WriteCtx) (s : State) (f : Fld) : Bool :=
  bits c.old.toNat f.lo f.len != 0 && s.fget c.h c.i f == 0

/-- The value written to a field (what a WO or W1S field acts on). -/
def WriteCtx.wrote (c : WriteCtx) (f : Fld) : Nat := bits c.v.toNat f.lo f.len

/-- The value a field held before the write. -/
def WriteCtx.was (c : WriteCtx) (f : Fld) : Nat := bits c.old.toNat f.lo f.len

/-- After an EVENT_EN word was written: every enable that went from 0 to 1 while its event bit is 1 posts one word (R293).
The event word stands one word before. -/
def eventEnableAct (blk : Nat) (c : WriteCtx) (s : State) : State :=
  let ev := s.rd c.h c.i blk (c.w - 1)
  let now := s.rd c.h c.i blk c.w
  forEach (below 32 fun b => now.getLsbD b && !c.old.getLsbD b && ev.getLsbD b)
    (fun b s => postEvent c.h c.i ⟨blk, c.w - 1, b, 1⟩ b s) s

/-! ### Deferred commands (R305) -/

/-- A status that was awaited comes in: one fewer is awaited, the highest counts (R301). -/
def noteStat (st v : Nat) : Nat := if v < 256 then v else (v / 256 - 1) * 256 + max (v % 256) st

/-- A status gathered for a deferred command on a hearth; one that a twin pair still applies elsewhere gathers it too. -/
def noteDop (owner : Option (Nat × Nat)) (h st : Nat) (s : State) : State :=
  match owner with
  | none => s
  | some (ch, tag) =>
    { s with
      dops := s.dops.map fun d =>
        if d.ch == ch && d.tag == tag then { d with hs := d.hs.set h (noteStat st (d.hs.getD h 0)) } else d
      twn := { s.twn with cmds := s.twn.cmds.map fun t =>
        if t.cmd.ch == ch && t.cmd.tag == tag then { t with hs := t.hs.set h (noteStat st (t.hs.getD h 0)) } else t } }

end Sys2Proof.Machine
end

