-- ==== Sys2Proof/Machine/Basin.lean ====
section
/-! DEFINITION. The Basin (chapter 03): regions, ring positions, the page table, holding policy, release, layer
buffers. -/

namespace Sys2Proof.Machine

/-- Bytes of the two Gorge staging areas at the start of the Basin (R90). -/
def stagingBytes : Nat := 2129920

/-- 64 KiB, the unit of regions and layer buffers (R89, R100). -/
def unit64K : Nat := 65536

def ringBase (s : State) (h : Nat) : Nat := s.get64 h 0 BAS_RING_BASE_LO
/-- Capacity of the ring (R90). -/
def ringCap (s : State) (h : Nat) : Nat := s.get64 h 0 BAS_RING_SIZE_LO - stagingBytes
/-- DRAM address of a ring position (R91). -/
def ringAddr (s : State) (h p : Nat) : Nat := ringBase s h + stagingBytes + p % ringCap s h

/-- The Basin is enabled. -/
def basEn (s : State) (h : Nat) : Bool := s.fon h 0 BAS_CTRL_EN
/-- The Basin is enabled or draining. -/
def basActive (s : State) (h : Nat) : Bool := basEn s h || (s.bas h).draining

/-- The page is held: any state from OPEN to RETIRED. -/
def Page.held (p : Page) : Bool := p.st != .gone

/-- A held page of a hearth, by number. -/
def findPage (s : State) (h pg : Nat) : Option Page := (s.bas h).tbl.find? fun p => p.id == pg && p.held

/-- Replace the held page with that number. -/
def mapPage (h pg : Nat) (f : Page → Page) (s : State) : State :=
  let x := s.bas h
  s.setBas h { x with tbl := x.tbl.map fun p => if p.id == pg && p.held then f p else p }

/-- Pages held (R93). -/
def heldPages (s : State) (h : Nat) : List Page := (s.bas h).tbl.filter Page.held

/-! ### Pointers (R93–R95) -/

def basWp (s : State) (h : Nat) : Nat := s.get64 h 0 BAS_WP_LO
/-- The rewind mark: start of the oldest held page, or the write pointer. -/
def basMark (s : State) (h : Nat) : Nat :=
  match heldPages s h with
  | [] => basWp s h
  | p :: _ => p.start
/-- A page counts for the read pointer: COMPLETE, COMMITTED or FIRING. -/
def PageSt.unread : PageSt → Bool
  | .complete | .committed | .firing => true
  | _ => false
def basRp (s : State) (h : Nat) : Nat :=
  match (heldPages s h).find? fun p => p.st.unread with
  | none => basWp s h
  | some p => p.start

/-- Bytes a page's slots still have to receive. -/
def Page.unfilled (p : Page) : Nat :=
  if p.st == .opened || p.st == .loading then (p.slots.map fun x => x.clen - x.landed).sum else 0

/-- Spans of the entries from the mark up that OVERWRITE may reclaim (R95). -/
def reclaimSpan (wp : Nat) : List Page → Nat
  | [] => 0
  | p :: rest =>
    if p.st == .retired || p.st == .gone then
      ((match rest with
        | [] => wp
        | q :: _ => q.start) - p.start) + reclaimSpan wp rest
    else 0

/-- basin_free (R95). -/
def basinFree (s : State) (h : Nat) : Nat :=
  let unfilled := ((heldPages s h).map Page.unfilled).sum
  if basEn s h then
    let held := basWp s h - basMark s h
    let reclaim := if s.fon h 0 BAS_CTRL_POLICY then reclaimSpan (basWp s h) (s.bas h).tbl else 0
    ringCap s h - held + unfilled + reclaim
  else if (s.bas h).draining then unfilled
  else 0

/-! ### Layer buffers (R100) -/

/-- A length rounded up to 64 KiB. -/
def roundUp64K (n : Nat) : Nat := (n + unit64K - 1) / unit64K * unit64K

/-- Buffers in use in a hearth's decode area: page-owned, planes, host-owned. -/
def bufsInUse (s : State) (h : Nat) : List (Nat × Nat) :=
  ((heldPages s h).flatMap fun p =>
    (p.slots.filterMap fun x => x.buf.map fun b => (b, roundUp64K x.ulen)) ++
    (p.planes.map fun q => (q.buf, roundUp64K q.len)))
  ++ ((List.range 64).filterMap fun k =>
    let b := s.lbuf h k
    if b.used then some (b.base, roundUp64K b.len) else none)

def decBase (s : State) (h : Nat) : Nat := s.get64 h 0 BAS_DEC_BASE_LO
def decSize (s : State) (h : Nat) : Nat := s.get64 h 0 BAS_DEC_SIZE_LO

/-- `[a, a + n)` meets none of the buffers. -/
def bufFree (used : List (Nat × Nat)) (a n : Nat) : Bool := used.all fun u => decide (a + n ≤ u.1) || decide (u.1 + u.2 ≤ a)

/-- First fit from the lowest address. -/
def bufAlloc (s : State) (h n : Nat) : Option Nat :=
  let used := bufsInUse s h
  let len := roundUp64K n
  let cands := decBase s h :: used.map fun u => u.1 + u.2
  let ok := cands.filter fun a => decide (decBase s h ≤ a) && decide (a + len ≤ decBase s h + decSize s h) && bufFree used a len
  ok.min?

/-- Space not taken by host-owned buffers (R102). -/
def decSizeLessHost (s : State) (h : Nat) : Nat :=
  decSize s h - ((List.range 64).map fun k => let b := s.lbuf h k; if b.used then roundUp64K b.len else 0).sum

/-- Largest free run of the decode area. -/
def decFree (s : State) (h : Nat) : Nat :=
  let used := bufsInUse s h
  let top := decBase s h + decSize s h
  let starts := decBase s h :: used.map fun u => u.1 + u.2
  let runs := starts.map fun a =>
    let ends := (top :: used.map fun u => u.1).filter fun e => decide (a ≤ e)
    let e := (ends.min?).getD top
    if used.all (fun u => decide (a < u.1) || decide (u.1 + u.2 ≤ a) || decide (u.1 = a)) then e - a else 0
  (runs.max?).getD 0

/-- The page has decoded or decoding layers and is not yet FIRING (R101). -/
def Page.ahead (p : Page) : Bool :=
  (p.st == .complete || p.st == .committed) &&
  p.slots.any fun x => match x.job with
    | .running _ | .ok => true
    | _ => false

/-- Host-owned buffers in use on a hearth. -/
def lbCount (s : State) (h : Nat) : Nat := (below 64 fun k => (s.lbuf h k).used).length

/-- Bring the pointers, the free space and the status of BAS up to date (R93, R95). -/
def basRefresh (h : Nat) (s : State) : State :=
  let s := s.put64 h 0 BAS_RP_LO (basRp s h)
  let s := s.put64 h 0 BAS_MARK_LO (basMark s h)
  let s := s.fput h 0 BAS_MARK_PAGE (((heldPages s h).head?.map Page.id).getD 0xFFFFFFFF)
  let s := s.put64 h 0 BAS_FREE_LO (basinFree s h)
  let s := s.put64 h 0 BAS_DEC_FREE_LO (if basActive s h then decFree s h else 0)
  let s := s.fput h 0 BAS_STATUS_PAGES (heldPages s h).length
  let s := s.fput h 0 BAS_STATUS_LBS (lbCount s h)
  let s := s.fput h 0 BAS_STATUS_AHEAD ((heldPages s h).filter Page.ahead).length
  let wait := s.fon h 0 BAS_STATUS_OPEN_WAIT
  let retiredFirst := match heldPages s h with
    | [] => false
    | p :: _ => p.st == .retired
  (s.fputB h 0 BAS_STATUS_MARK_HOLD (wait && retiredFirst && !s.fon h 0 BAS_CTRL_POLICY)).fputB h 0 BAS_STATUS_ACTIVE
    (basActive s h)

/-! ### Enable and disable (R89, R118) -/

/-- The regions whose place and size R89 wants in units of 64 KiB: Basin, decode area, readback area, Echo (address, length). -/
def mainRegions (s : State) (h : Nat) : List (Nat × Nat) :=
  [(ringBase s h, s.get64 h 0 BAS_RING_SIZE_LO), (decBase s h, decSize s h), (s.get64 h 0 BAS_RB_BASE_LO, 16 * 2 ^ 20),
   (s.get64 h 0 ISP_ECHO_BASE_LO, s.get64 h 0 ISP_ECHO_SIZE_LO)]

/-- What inspection keeps besides the Echo: its records, the statistics of both ports, the rings of OUT1 to OUT3. A table at
address 0 while inspection is disabled is not placed. DESIGN CHOICE (log 41). -/
def inspectionRegions (s : State) (h : Nat) : List (Nat × Nat) :=
  ([(s.get64 h 0 ISP_META_BASE_LO, 16 * (s.get64 h 0 ISP_ECHO_SIZE_LO / 12288)),
    (s.get64 h 0 ISP_STAT_BASE_LO, 2 * max 1 (s.fget h 0 ISP_STAT_CFG_DEPTH) * 8192)]
   ++ [1, 2, 3].map fun n => (s.get64 h 0 (ISP_OUT_BASE_LO n), s.fget h 0 (ISP_OUT_SIZE n))).filter fun r =>
    r.1 != 0 || s.fon h 0 ISP_CTRL_EN

/-- Every region of a hearth's DRAM that takes space (R89). -/
def regionsOf (s : State) (h : Nat) : List (Nat × Nat) := (mainRegions s h ++ inspectionRegions s h).filter fun r => r.2 != 0

/-- Two regions meet. -/
def regionsMeet (a b : Nat × Nat) : Bool := decide (a.1 < b.1 + b.2) && decide (b.1 < a.1 + a.2)

/-- No two regions of a list meet. -/
def regionsApart : List (Nat × Nat) → Bool
  | [] => true
  | r :: rs => rs.all (fun q => !regionsMeet r q) && regionsApart rs

/-- The checks of R89 pass. -/
def basCfgOk (s : State) (h : Nat) : Bool :=
  let rs := regionsOf s h
  regionsApart rs && rs.all (fun r => decide (r.1 + r.2 ≤ s.fitted h))
  && decide (64 * 2 ^ 20 ≤ s.get64 h 0 BAS_RING_SIZE_LO) && decide (16 * 2 ^ 20 ≤ decSize s h)
  && (mainRegions s h).all (fun r => r.1 % unit64K == 0 && r.2 % unit64K == 0)

/-- EN became 1: taken where the checks of R89 pass and the memory is not in FAIL. -/
def basEnable (h : Nat) (s : State) : State :=
  if dramFailed s h then s.fput h 0 BAS_CTRL_EN 0
  else if basCfgOk s h then s
  else (s.fput h 0 BAS_CTRL_EN 0).raise h 0 BAS_EVENT_CFG_BAD

/-- The drain ends when the table is empty (R118). DEDUCED (log 45). -/
def basDrainCheck (h : Nat) (s : State) : State :=
  let x := s.bas h
  if x.draining && (heldPages s h).isEmpty then
    let s := s.setBas h { x with draining := false, drainLost := false, again := false }
    let s := (s.fput h 0 BAS_DRAIN_RESULT (if x.drainLost then 4 else 3)).raise h 0 BAS_EVENT_DRAIN_DONE
    if x.again then basEnable h (s.fput h 0 BAS_CTRL_EN 1) else s
  else s

/-- RWL fields of BAS are open while the Basin is disabled. -/
def basOpen (s : State) (h _i _w : Nat) : Bool := !basActive s h

/-- After a write of a BAS word (R89, R118). -/
def basAct (c : WriteCtx) (s : State) : State :=
  let h := c.h
  if c.w ≠ 0 then s
  else if c.rose s BAS_CTRL_EN then
    if (s.bas h).draining then (s.fput h 0 BAS_CTRL_EN 0).setBas h { (s.bas h) with again := true }
    else basRefresh h (basEnable h s)
  else if c.fell s BAS_CTRL_EN then
    basRefresh h (basDrainCheck h (s.setBas h { (s.bas h) with draining := true, drainLost := false }))
  else basRefresh h s

/-- BASIN_EN_WRITE (R89): a write of BAS_CTRL. -/
def basinEnWrite (h : Nat) (value : Word) (s : State) : State :=
  if s.hasH h then hostWrite BLK_BAS basOpen basAct h 0 0 value false s else s

/-! ### Ring holes and removal (R93, R94) -/

/-- Drop newest entries that have gone: the write pointer steps back over them. -/
def dropNewestGone (wp : Nat) (rev : List Page) : List Page × Nat :=
  match rev with
  | [] => ([], wp)
  | p :: rest => if p.st == .gone then dropNewestGone p.start rest else (p :: rest, wp)

/-- After an entry has gone: the write pointer returns over the newest gone entries, the mark passes the oldest. -/
def ringTrim (h : Nat) (s : State) : State :=
  let x := s.bas h
  let (rev, wp) := dropNewestGone (basWp s h) x.tbl.reverse
  (s.setBas h { x with tbl := rev.reverse.dropWhile fun p => p.st == .gone }).put64 h 0 BAS_WP_LO wp

/-- A decoder reaches OFF with a drain result. -/
def cinOff (h d res : Nat) (s : State) : State :=
  ((s.fput h d CIN_STATUS_STATE 0).fput h d CIN_STATUS_DRAIN_RESULT res).raise h d CIN_EVENT_DRAIN_DONE

/-- EN of a decoder becomes 1: not taken where the memory is in FAIL (R255). -/
def cinEnable (h d : Nat) (s : State) : State :=
  if dramFailed s h then s.fput h d CIN_CTRL_EN 0 else (s.fput h d CIN_CTRL_EN 1).fput h d CIN_STATUS_STATE 1

/-- A drain is over: EN written 1 during it takes effect. -/
def cinResume (h d : Nat) (s : State) : State :=
  let x := s.bas h
  if x.cinAgain.contains d then cinEnable h d (s.setBas h { x with cinAgain := x.cinAgain.filter fun e => e != d }) else s

/-- A decoder's job ends with a status: its record and counters (R102, R105, R121). -/
def cinRecord (h d st : Nat) (s : State) : State :=
  let s := (s.count h d CIN_JOBS).fput h d CIN_STATUS_LAST_STATUS st
  let s := s.raise h d CIN_EVENT_JOB_DONE
  let s := if st = 0 ∨ st = 0x22 then s else (s.count h d CIN_FAILS).raise h d CIN_EVENT_JOB_FAIL
  if s.fget h d CIN_STATUS_STATE = 3 then
    cinResume h d (cinOff h d 3 s)
  else s.fput h d CIN_STATUS_STATE (if s.fon h d CIN_CTRL_EN then 1 else 0)

/-- The slots of a page after its page-owned buffers were freed: nothing of it is decoded any more. -/
def slotsFreed (sl : List Slot) : List Slot :=
  sl.map fun x => { x with buf := none, job := if x.job == .failed then .failed else .waiting }

/-- The compressed bytes of a slot, read from the ring. -/
def slotBytes (s : State) (h : Nat) (x : Slot) : List Byte :=
  (List.range x.clen).map fun k => s.dread h (ringAddr s h (x.start + k))

/-- The job a decoder is running: page, slot number, slot. -/
def runningJob (s : State) (h d : Nat) : Option (Page × Nat × Slot) :=
  (heldPages s h).findSome? fun p =>
    (p.slots.zipIdx.find? fun x => x.1.job == .running d).map fun x => (p, x.2, x.1)

/-- The result of a decoder's job. -/
def jobResult (s : State) (h d : Nat) (x : Slot) : DecRes :=
  decodeJob (slotBytes s h x) x.clen x.ulen (s.fon h d CIN_CTRL_RAW_ACCEPT)

/-- Count the RAW blocks of a job (R108). -/
def rawCount (h d n : Nat) (s : State) : State :=
  if n = 0 then s else (s.count h d CIN_RAW_BLOCKS n).raise h d CIN_EVENT_RAW_SEEN

/-- A running job is stopped before its end: how many RAW blocks it has copied and how many bytes it has produced by then are free
values, at most what the whole job gives (R108). DESIGN CHOICE (log 172). -/
def jobPart (h d : Nat) (s : State) : State :=
  match runningJob s h d with
  | none => s
  | some (_, _, x) =>
    let r := jobResult s h d x
    let (a, s) := s.free 32
    let (b, s) := s.free 64
    (rawCount h d (a % (r.raws + 1)) s).put64 h d CIN_OUT_LO (b % (r.out.length + 1))

/-- Decoders working on a page. -/
def pageDecoders (p : Page) : List Nat :=
  p.slots.filterMap fun x => match x.job with
    | .running d => some d
    | _ => none

/-- Stop the running jobs of a page (second ABORTED ending of R105). -/
def stopJobs (h pg : Nat) (s : State) : State :=
  match findPage s h pg with
  | none => s
  | some p =>
    forEach (pageDecoders p) (fun d s => cinRecord h d 4 s)
      (mapPage h pg (fun q => { q with slots := q.slots.map fun x => match x.job with
        | .running _ => { x with job := .waiting, buf := none }
        | _ => x }) (forEach (pageDecoders p) (jobPart h) s))

/-- Terrace `n` of a page reads the host-owned buffer `k`: bound at commit, or its own layer was adopted (R103, R127). -/
def Page.readsLb (p : Page) (k n : Nat) (t : Terr) : Bool :=
  decide (1 ≤ t.fmt) && decide (t.fmt ≤ 3) &&
  if t.src == 1 then t.lb == k else p.slots.any fun x => x.terrace == n && x.lb == some k

/-- A held page references a host-owned buffer: COMMITTED up to but not including RETIRED (R104). -/
def lbReferenced (s : State) (h k : Nat) : Bool :=
  (heldPages s h).any fun p =>
    (p.st == .committed || p.st == .firing || p.st == .fired) && p.terrs.zipIdx.any fun t => p.readsLb k t.2 t.1

/-- Free the buffers that were pending release and lost their last reference (R104). -/
def lbSweep (h : Nat) (s : State) : State :=
  forEach (List.range 64) (fun k s =>
    let b := s.lbuf h k
    if b.used && b.freeing && !lbReferenced s h k then
      ((s.setLbuf h k {}).fput h 0 BAS_LB_FREED k).raise h 0 BAS_EVENT_LB_FREED
    else s) s

/-- Take a page out of the table: its jobs stop, its buffers are freed, the ring is trimmed. `lost`: it was discarded,
which a drain reports (R118). -/
def removePage (h pg : Nat) (lost : Bool) (s : State) : State :=
  match findPage s h pg with
  | none => s
  | some _ =>
    let s := stopJobs h pg s
    let s := mapPage h pg (fun q => { q with slots := slotsFreed q.slots, planes := [], st := .gone }) s
    let s := if lost then s.setBas h { (s.bas h) with drainLost := (s.bas h).drainLost || (s.bas h).draining } else s
    basRefresh h (basDrainCheck h (lbSweep h (ringTrim h s)))

/-! ### Release, retire (R98, R99, R104, R210) -/

/-- Frames forwarded for a page are still unacknowledged by an ACTIVE mirror session, which holds its release (R87). DEDUCED (log 37). -/
def mirrorHolds (s : State) (h pg : Nat) : Bool :=
  s.fget h 1 GOR_CTRL_ROLE == 1 && s.fget h 1 GOR_STATUS_SESS == 3 &&
  ((s.gor h 1).held.any (fun f => leAt f.bytes 12 4 == pg && (byteAt f.bytes 0 == 4 || byteAt f.bytes 0 == 7 || byteAt f.bytes 0 == 8))
   || (s.gor h 1).backlog.any (fun f => leAt f 12 4 == pg && (byteAt f 0 == 4 || byteAt f 0 == 7 || byteAt f 0 == 8)))

/-- Move a page to RELEASED, or keep the release pending while the mirror session holds it (R87). -/
def releasePage (h pg : Nat) (s : State) : State :=
  if mirrorHolds s h pg then mapPage h pg (fun q => { q with defer := true }) s
  else removePage h pg false s

/-- Pages whose release the mirror session held and no longer holds. -/
def releaseHeld (h : Nat) (s : State) : State :=
  forEach ((heldPages s h).filter fun p => p.defer && (p.st == .complete || p.st == .retired))
    (fun p s => if mirrorHolds s h p.id then s else removePage h p.id false s) s


/-- PAGE_RELEASE (R93): a COMPLETE or RETIRED page leaves the table. -/
def pageReleaseStep (h pg : Nat) (s : State) : State :=
  match findPage s h pg with
  | none => s
  | some p => if p.st == .complete || p.st == .retired then releasePage h pg s else s

/-- Pages RETIRED on a hearth, oldest first. -/
def retiredPages (s : State) (h : Nat) : List Page := (heldPages s h).filter fun p => p.st == .retired

/-- RETAIN (R98): release the oldest RETIRED pages while there are more than RETAIN; `extra` counts a page just committed for
reprint (R116). -/
def retainKeep (h extra : Nat) (s : State) : State :=
  let n := s.fget h 0 BAS_CTRL_RETAIN
  let r := retiredPages s h
  if n = 0 then s
  else forEach (r.take (r.length + extra - n)) (fun p s =>
    if p.defer then s else (releasePage h p.id s).raise h 0 BAS_EVENT_AUTO_RELEASE) s

/-- A FIRED page becomes RETIRED: a deferred release follows, or RETAIN releases the oldest (R98, R99). -/
def retirePage (h pg : Nat) (s : State) : State :=
  match findPage s h pg with
  | none => s
  | some p =>
    if p.st != .fired then s
    else
      let s := basRefresh h (lbSweep h (mapPage h pg (fun q => { q with st := .retired }) s))
      if p.defer then (releasePage h pg s).raise h 0 BAS_EVENT_AUTO_RELEASE
      else retainKeep h (b2n ((s.bas h).reprintAt == some s.now)) s

/-- A page retires at FIRED where its hearth's ECHO_EN is 0 or no camera port of the device compares (R210). -/
def inspectionOff (s : State) (h : Nat) : Bool :=
  !s.fon h 0 ISP_CTRL_ECHO_EN ||
  !((List.range s.nH).any fun g => s.fon g 0 ISP_CTRL_CMP_EN && (s.fon g 0 CAM_CTRL_EN || s.fon g 1 CAM_CTRL_EN))

/-- The last web line of a page plus MARGIN has been reached by the watermark of every comparing camera port (R210). -/
def inspectionClosed (s : State) (h : Nat) (p : Page) : Bool :=
  let need : Int := (p.web0 + p.lines + s.fget h 0 ISP_CLOSE_MARGIN : Nat) - 1
  (List.range s.nH).all fun g => (List.range 2).all fun c =>
    !(s.fon g 0 ISP_CTRL_CMP_EN && s.fon g c CAM_CTRL_EN) ||
    p.marks.any fun m => m.1 == 2 * g + c && decide (0 ≤ toS 32 (ofS 32 ((m.2 : Int) - need)))

/-- PAGE_RETIRE (R210): when inspection closes, or at once without inspection. -/
def pageRetireStep (h pg : Nat) (s : State) : State :=
  match findPage s h pg with
  | none => s
  | some p => if p.st == .fired && (inspectionOff s h || inspectionClosed s h p) then retirePage h pg s else s

/-! ### Reservation (R92, R96, R97) -/

/-- Bytes slot i takes in the reservation. -/
def slotSpan (clen : Nat) : Nat := (clen + 63) / 64 * 64

/-- The slots of a reservation starting at `p`. -/
def placeSlots : Nat → List Slot → List Slot
  | _, [] => []
  | p, x :: xs => { x with start := p } :: placeSlots (p + slotSpan x.clen) xs

/-- Bytes of a reservation. -/
def reservation (sl : List Slot) : Nat := (sl.map fun x => slotSpan x.clen).sum

/-- A reservation is possible now (R96). -/
def reservable (s : State) (h need : Nat) : Bool :=
  basEn s h && decide ((heldPages s h).length < 2048) && decide (need ≤ ringCap s h - (basWp s h - basMark s h))

/-- OVERWRITE: release RETIRED pages at the mark, oldest first, until the reservation fits; answers the pages lost. -/
def overwriteReclaim (h need : Nat) : Nat → State → List Nat → State × List Nat
  | 0, s, acc => (s, acc)
  | n + 1, s, acc =>
    if reservable s h need then (s, acc)
    else match heldPages s h with
      | [] => (s, acc)
      | p :: _ =>
        if p.st == .retired && !mirrorHolds s h p.id then overwriteReclaim h need n (removePage h p.id false s) (acc ++ [p.id])
        else (s, acc)

/-- Make room under the policy and record the pages lost to the PAGE_OPEN of instance `i`, those of its earlier attempts
included (R96, R97). -/
def makeRoom (h i need : Nat) (s : State) : State :=
  if basEn s h && s.fon h 0 BAS_CTRL_POLICY && !reservable s h need then
    let (s, lost) := overwriteReclaim h need 2048 s []
    match lost with
    | [] => s
    | first :: _ =>
      let first := ((s.gor h i).lossFirst).getD first
      let s := (s.count h 0 BAS_LOSS_COUNT lost.length).setGor h i { (s.gor h i) with lossFirst := some first }
      ((s.fput h 0 BAS_LOSS_FIRST first).fput h 0 BAS_LOSS_LAST (lost.getLastD first)).raise h 0 BAS_EVENT_LOSS
  else s

/-- Enter a page with its reservation at the write pointer. -/
def enterPage (h : Nat) (p : Page) (s : State) : State :=
  let wp := basWp s h
  let fin := wp + reservation p.slots
  let x := s.bas h
  basRefresh h ((s.setBas h { x with tbl := x.tbl ++ [{ p with start := wp, fin := fin, slots := placeSlots wp p.slots }] }).put64
    h 0 BAS_WP_LO fin)

/-- Land bytes of slot `sl` at its offset (R92); a slot may wrap past the physical end of the ring. -/
def landBytes (h pos : Nat) (bs : List Byte) (s : State) : State :=
  (bs.foldl (fun (acc : State × Nat) b => (acc.1.dwrite h (ringAddr acc.1 h acc.2) b, acc.2 + 1)) (s, pos)).1

end Sys2Proof.Machine
end

