-- ==== Sys2Proof/Machine/Cinder.lean ====
section
/-! DEFINITION. Decoding ahead, the decoders and the encoder (R100–R105, R113–R122, R131, R132). -/

namespace Sys2Proof.Machine

/-! ### The next job (R101, R102) -/

/-- Pages in decode order: COMMITTED by commit order, then COMPLETE by order of completion. -/
def decodeOrder (s : State) (h : Nat) : List Page :=
  let ps := heldPages s h
  (sortBy (fun a b => decide (a.commSeq ≤ b.commSeq)) (ps.filter fun p => p.st == .committed)) ++
  (sortBy (fun a b => decide (a.complSeq ≤ b.complSeq)) (ps.filter fun p => p.st == .complete))

/-- A page with a failed job. -/
def Page.failedJob (p : Page) : Bool := p.slots.any fun x => x.job == .failed

/-- The first slot of a page whose job has not started. -/
def Page.nextSlot (p : Page) : Option Nat :=
  if p.stopped then none else p.slots.findIdx? fun x => x.job == .waiting

/-- DEC_AHEAD in effect. -/
def decAhead (s : State) (h : Nat) : Nat :=
  let n := s.fget h 0 BAS_CTRL_DEC_AHEAD
  if n = 0 then 1 else if 8 < n then 8 else n

/-- The job that may start next: page and slot. -/
def nextJob (s : State) (h : Nat) : Option (Page × Nat) :=
  match (decodeOrder s h).findSome? fun p => p.nextSlot.map fun k => (p, k) with
  | none => none
  | some (p, k) =>
    if p.ahead || decide (((heldPages s h).filter Page.ahead).length < decAhead s h) then some (p, k) else none

/-- The decoder is enabled and idle. -/
def decIdle (s : State) (h d : Nat) : Bool := s.fon h d CIN_CTRL_EN && s.fget h d CIN_STATUS_STATE == 1

/-! ### Packed layers (R131, R132) -/

/-- Pixel size of a route's format, 0 where the layer is not split. -/
def pixelSize (fmt : Nat) : Nat := if fmt = 4 then 2 else if fmt = 5 then 3 else if fmt = 6 then 4 else 0

/-- Components of a route's format. -/
def compCount (fmt : Nat) : Nat := if fmt = 4 then 4 else if fmt = 5 then 3 else if fmt = 6 then 4 else 0

/-- Component k of one pixel. -/
def component (fmt k : Nat) (px : List Byte) : Byte :=
  if fmt = 4 then BitVec.ofNat 8 ((leAt px 0 2 >>> (4 * k)) % 16 * 17) else px.getD k 0

/-- Plane k of a decoded layer. -/
def planeOf (fmt k : Nat) (bs : List Byte) : List Byte :=
  (List.range (bs.length / pixelSize fmt)).map fun i => component fmt k (slice bs (pixelSize fmt * i) (pixelSize fmt))

/-- The destinations (component, hearth) of terrace n's route on a hearth. -/
def routeDests (s : State) (h n : Nat) : List (Nat × Nat) :=
  let fmt := s.fget h 0 (TER_ROUTE_FMT_V n)
  (List.range (compCount fmt)).flatMap fun k =>
    (below s.nH fun g => bit (s.fget h 0 (TER_ROUTE_MAP n)) (8 * k + g)).map fun g => (k, g)

/-- A destination takes a plane: it holds the page in COMPLETE or COMMITTED with no failed job. DEDUCED (log 44). -/
def planeTaken (s : State) (g pg : Nat) : Bool :=
  match findPage s g pg with
  | none => false
  | some p => (p.st == .complete || p.st == .committed) && !p.failedJob && p.fail == 0

/-- A page without the planes of a home terrace, or of one component of it. -/
def Page.dropPlanes (q : Page) (home ter : Nat) (comp : Option Nat) : Page :=
  { q with planes := q.planes.filter fun y => !(y.home == home && y.ter == ter && comp.all (· == y.comp)) }

/-- Allocate one plane on its destination, in place of one that an earlier start of the job left; `none` where the decode area has
no space. -/
def planeAlloc (h pg ter len : Nat) (d : Nat × Nat) (s : Option State) : Option State :=
  match s with
  | none => none
  | some s =>
    if !planeTaken s d.2 pg then some (s.raise h 0 TER_EVENT_ROUTE_MISS)
    else
      let s := mapPage d.2 pg (fun q => q.dropPlanes h ter (some d.1)) s
      match bufAlloc s d.2 len with
      | none => none
      | some a => some (basRefresh d.2 (mapPage d.2 pg (fun q => { q with planes := ⟨h, ter, d.1, a, len, false⟩ :: q.planes }) s))

/-! ### Starting a job -/

/-- Report the failure of a page on a hearth; `slot`: where its own job failed (R105). DEDUCED (log 42). -/
def failRecord (h pg st : Nat) (slot : Option Nat) (s : State) : State :=
  let s := (s.fput h 0 BAS_FAIL_PAGE pg).fput h 0 BAS_FAIL_WHY_STATUS st
  let s := match slot with
    | some k => s.fput h 0 BAS_FAIL_WHY_SLOT k
    | none => s
  s.raise h 0 BAS_EVENT_JOB_FAIL

/-- A page fails on a hearth: the first failure is reported, its running jobs stop, its page-owned buffers are freed, and no job of
it starts any more (R105, R132). -/
def failOn (h pg st : Nat) (slot : Option Nat) (s : State) : State :=
  match findPage s h pg with
  | none => s
  | some p =>
    let s := if p.stopped then s else failRecord h pg st slot s
    let s := mapPage h pg (fun q => match slot with
      | some k => { q with slots := q.slots.set k { (q.slots.getD k {}) with job := .failed } }
      | none => q) s
    basRefresh h (mapPage h pg (fun q => { q with
      fail := if q.fail = 0 then st else q.fail, stopped := true, planes := [], slots := slotsFreed q.slots }) (stopJobs h pg s))

/-- A hearth takes a plane of a page's home, or would take one of the job that failed (R132). -/
def takesPlane (s : State) (h pg slot g : Nat) : Bool :=
  match findPage s g pg with
  | none => false
  | some q => q.planes.any (fun y => y.home == h) || planeTaken s g pg &&
      (findPage s h pg).any fun p => (p.slots.getD slot {}).dests.any fun d => d.2 == g

/-- A job fails: the page fails on its own hearth and on every destination of its planes. -/
def failPage (h pg st slot : Nat) (s : State) : State :=
  let gs := (List.range s.nH).filter fun g => g != h && takesPlane s h pg slot g
  forEach gs (fun g s => failOn g pg st none s) (failOn h pg st (some slot) s)

/-- Show a started job on its decoder. -/
def jobShow (h d pg ter slot : Nat) (s : State) : State :=
  let s := (s.fput h d CIN_JOB_PAGE pg).fput h d CIN_JOB_SLOT_TER ter
  let s := (s.fput h d CIN_JOB_SLOT_SLOT slot).put64 h d CIN_OUT_LO 0
  (s.put64 h d CIN_ERR_POS_LO 0xFFFFFFFFFFFFFFFF).fput h d CIN_STATUS_STATE 2

/-- The first job waits for space (R102). -/
def decWait (h : Nat) (s : State) : State := s.raise h 0 BAS_EVENT_DEC_WAIT

/-- Give the next job to decoder `d`, or let it wait or fail (R102, R131, R132). -/
def startOn (h d : Nat) (p : Page) (k : Nat) (s : State) : State :=
  let x := p.slots.getD k {}
  let fmt := s.fget h 0 (TER_ROUTE_FMT_V x.terrace)
  let px := pixelSize fmt
  let dests := routeDests s h x.terrace
  let took (j : JobSt) (s : State) : State :=
    mapPage h p.id (fun q => { q with slots := q.slots.set k { (q.slots.getD k {}) with job := j, fmt := fmt, dests := dests } })
      (jobShow h d p.id x.terrace k s)
  let run (s : State) : State := basRefresh h (took (.running d) s)
  if decSizeLessHost s h < x.ulen then failPage h p.id 0x24 k (cinRecord h d 0x24 (took .waiting s))
  else if px ≠ 0 then
    if x.ulen % px ≠ 0 then failPage h p.id 0x20 k (cinRecord h d 0x20 (took .waiting s))
    else
      match dests.foldl (fun a d => planeAlloc h p.id x.terrace (x.ulen / px) d a) (some s) with
      | none => decWait h s
      | some s1 => run s1
  else
    match bufAlloc s h x.ulen with
    | none => decWait h s
    | some a =>
      run (mapPage h p.id (fun q => { q with slots := q.slots.set k { (q.slots.getD k {}) with buf := some a } }) s)

/-- The job finds the space it needs when it starts, or ends at once and needs none (R102, R131). -/
def jobFits (s : State) (h : Nat) (p : Page) (k : Nat) : Bool :=
  let x := p.slots.getD k {}
  let px := pixelSize (s.fget h 0 (TER_ROUTE_FMT_V x.terrace))
  if decSizeLessHost s h < x.ulen then true
  else if px = 0 then (bufAlloc s h x.ulen).isSome
  else if x.ulen % px ≠ 0 then true
  else ((routeDests s h x.terrace).foldl (fun a d => planeAlloc h p.id x.terrace (x.ulen / px) d a) (some s)).isSome

/-- BAS_STATUS.DEC_WAIT: the next job waits, for want of space with a decoder idle or with both decoders disabled (R102, R120).
DEDUCED (log 159). -/
def decWaits (s : State) (h : Nat) : Bool :=
  basActive s h && match nextJob s h with
    | none => false
    | some (p, k) =>
      if !s.fon h 0 CIN_CTRL_EN && !s.fon h 1 CIN_CTRL_EN then true
      else (decIdle s h 0 || decIdle s h 1) && !jobFits s h p k

/-- DECODE_JOB_START (R102): the next job in decode order goes to the lower-numbered idle enabled decoder. -/
def decodeStart (h d : Nat) (s : State) : State :=
  if !(s.hasH h && decide (d < 2) && basActive s h) then s
  else
    match nextJob s h with
    | none => s
    | some (p, k) =>
      if decIdle s h d && !(d == 1 && decIdle s h 0) then startOn h d p k s
      else s

/-! ### Ending a job -/

/-- All jobs and planes of a page are complete (R101, R132). -/
def Page.ready (p : Page) : Bool :=
  p.fail == 0 && p.slots.all (fun x => x.job == .ok) && p.planes.all (fun q => q.ok)

/-- Set PAGE_READY where a page has become ready. -/
def readyEvent (g pg : Nat) (s : State) : State :=
  match findPage s g pg with
  | some p => if p.ready then s.raise g 0 BAS_EVENT_PAGE_READY else s
  | none => s

/-- Write a finished layer: into its buffer, or as planes of the route its job started with (R131, R132). -/
def writeLayer (h : Nat) (p : Page) (x : Slot) (bs : List Byte) (s : State) : State :=
  let s := match x.buf with
    | some a => s.dwrites h a bs
    | none => s
  forEach (List.range s.nH) (fun g s =>
    match findPage s g p.id with
    | none => s
    | some q =>
      forEach (q.planes.filter fun y => y.home == h && y.ter == x.terrace) (fun y s =>
        let s := s.dwrites g y.buf (planeOf x.fmt y.comp bs)
        mapPage g p.id (fun q => { q with planes := q.planes.map fun z =>
          if z.home == h && z.ter == x.terrace && z.comp == y.comp then { z with ok := true } else z }) s) s) s

/-- A slot whose job ended OK: its buffer becomes host-owned where it was adopted (R103). DEDUCED (log 55). -/
def adoptSlot (h pg k : Nat) (s : State) : State :=
  match findPage s h pg with
  | none => s
  | some p =>
    let x := p.slots.getD k {}
    match x.adopt, x.buf with
    | some lb, some a =>
      mapPage h pg (fun q => { q with slots := q.slots.set k { x with buf := none, adopt := none, lb := some lb } })
        (s.setLbuf h lb { base := a, len := x.ulen, used := true })
    | _, _ => s

/-- DECODE_JOB_DONE (R101): a running job whose stream decodes ends OK. -/
def decodeDone (h d : Nat) (s : State) : State :=
  if !(s.hasH h && decide (d < 2)) then s
  else
    match runningJob s h d with
    | none => s
    | some (p, k, x) =>
      let r := jobResult s h d x
      if r.status ≠ stOK then s
      else
        let s := writeLayer h p x r.out.reverse s
        let s := mapPage h p.id (fun q => { q with slots := q.slots.set k { x with job := .ok } }) s
        let s := adoptSlot h p.id k s
        let s := cinRecord h d 0 ((rawCount h d r.raws s).put64 h d CIN_OUT_LO r.out.length)
        basRefresh h (forEach (List.range s.nH) (fun g s =>
          if g = h ∨ x.dests.any (fun e => e.2 == g) then readyEvent g p.id s else s) s)

/-- DECODE_JOB_FAIL (R105, R111): a running job whose stream has a fault fails its page. -/
def decodeFail (h d : Nat) (s : State) : State :=
  if !(s.hasH h && decide (d < 2)) then s
  else
    match runningJob s h d with
    | none => s
    | some (p, k, x) =>
      let r := jobResult s h d x
      if r.status = stOK then s
      else
        let s := (rawCount h d r.raws s).put64 h d CIN_OUT_LO r.out.length
        let s := cinRecord h d r.status (s.put64 h d CIN_ERR_POS_LO r.errPos)
        failPage h p.id r.status k s

/-! ### The encoder (R115) -/

/-- ENCODE_REQUEST: the enabled idle encoder takes a request; a bad length or ROW_BYTES ends it at once. DESIGN CHOICE (log 11). -/
def encodeRequest (h : Nat) (r : EncReq) (s : State) : State :=
  if !(s.hasH h && s.fon h 2 CIN_CTRL_EN && s.fget h 2 CIN_STATUS_STATE == 1) then s
  else if r.len = 0 ∨ 262144 < r.row then
    cinRecord h 2 0x11 (s.setBas h { (s.bas h) with enc := none })
  else
    let s := (s.put64 h 2 CIN_OUT_LO 0).put64 h 2 CIN_ERR_POS_LO 0xFFFFFFFFFFFFFFFF
    (s.setBas h { (s.bas h) with enc := some r }).fput h 2 CIN_STATUS_STATE 2

/-- The stream the encoder writes: a choice left open among those that decode to the source. DESIGN CHOICE (log 43). -/
def encoderStream (s : State) (row : Nat) (src : List Byte) : List Byte :=
  let c := Config.freeBytes s.freeCtr
  if encodes row src c then c else litJob row src

/-- A host readback's request has ended: the area holds its job, or after NO_GAIN the original bytes (R312). -/
def readbackEnd (h st len : Nat) (r : EncReq) (s : State) : State :=
  if r.owner.isNone then s
  else
    let n := if st = 0 then len else if st = 0x22 then r.len else 0
    let s := if st = 0x22 then s.dwrites h r.dst (s.dreads h r.src r.len) else s
    noteDop r.owner h st (s.setBas h { (s.bas h) with rbLen := n, rbOrig := decide (st = 0x22) })

/-- End the encoder's request with a status and a job length; CIN_OUT shows the length of a written job, else 0. DESIGN CHOICE
(log 173). -/
def encodeEnd (h st len : Nat) (s : State) : State :=
  let r := (s.bas h).enc
  let s := s.setBas h { (s.bas h) with enc := none }
  let s := if st = 0x22 then (s.count h 2 CIN_NO_GAIN).raise h 2 CIN_EVENT_NO_GAIN else s
  let s := cinRecord h 2 st (s.put64 h 2 CIN_OUT_LO len)
  match r with
  | none => s
  | some r => readbackEnd h st len r s

/-- ENCODE_DONE: the job is written, or a limit was reached first; after NO_GAIN and OUT_OF_SPACE the output region holds
bytes the spec leaves open. -/
def encodeDone (h : Nat) (s : State) : State :=
  if !s.hasH h then s
  else
    match (s.bas h).enc with
    | none => s
    | some r =>
      let src := s.dreads h r.src r.len
      let job := encoderStream s r.row src
      let s := { s with freeCtr := s.freeCtr + 1 }
      let junk (s : State) : State := s.dwrites h r.dst ((Config.freeBytes s.freeCtr).take r.size)
      if job.length < r.len ∧ job.length ≤ r.size then encodeEnd h 0 job.length (s.dwrites h r.dst job)
      else if r.len ≤ r.size then encodeEnd h 0x22 0 (junk s)
      else encodeEnd h 0x24 0 (junk s)

/-! ### Enable, disable (R120–R122) -/

/-- RAW_ACCEPT is open while EN is 0 and the instance is OFF. -/
def cinOpen (s : State) (h d _w : Nat) : Bool := !s.fon h d CIN_CTRL_EN && s.fget h d CIN_STATUS_STATE == 0

/-- The current job ends ABORTED by a disable: a decode job frees its buffer and its planes and waits to start again, an encoder
request completes (R105, R122, R132). -/
def cinAbort (h d : Nat) (s : State) : State :=
  if d = 2 then
    match (s.bas h).enc with
    | none => s
    | some _ => encodeEnd h 4 0 s
  else
    match runningJob s h d with
    | none => s
    | some (p, k, x) =>
      let s := cinRecord h d 4 (mapPage h p.id (fun q => { q with slots := q.slots.set k { x with job := .waiting, buf := none } })
        (jobPart h d s))
      basRefresh h (forEach (List.range s.nH) (fun g s => match findPage s g p.id with
        | none => s
        | some _ => basRefresh g (mapPage g p.id (fun q => q.dropPlanes h x.terrace none) s)) s)

/-- FORCE_OFF (R122, R295). -/
def cinForce (h d : Nat) (s : State) : State :=
  let s := s.setBas h { (s.bas h) with cinAgain := (s.bas h).cinAgain.filter fun e => e != d }
  cinOff h d 4 (cinAbort h d (s.fput h d CIN_CTRL_EN 0))

/-- After a write of a CIN word (R120, R121). -/
def cinAct (c : WriteCtx) (s : State) : State :=
  let h := c.h
  let d := c.i
  if c.w ≠ 0 then s
  else
    let s := if d = 2 then s.fput h 2 CIN_CTRL_RAW_ACCEPT 0 else s
    if c.wrote CIN_CTRL_FORCE_OFF = 1 then cinForce h d s
    else if c.rose s CIN_CTRL_EN then
      if s.fget h d CIN_STATUS_STATE = 3 then
        (s.fput h d CIN_CTRL_EN 0).setBas h { (s.bas h) with cinAgain := d :: (s.bas h).cinAgain }
      else cinEnable h d s
    else if c.fell s CIN_CTRL_EN then
      if s.fget h d CIN_STATUS_STATE = 2 then s.fput h d CIN_STATUS_STATE 3 else cinOff h d 3 s
    else s

def cinOk (s : State) (h d : Nat) : Bool := s.hasH h && decide (d < 3)

/-- CINDER_EN_WRITE (R121): a write of CIN_CTRL. -/
def cinderEnWrite (h d : Nat) (value : Word) (s : State) : State :=
  if cinOk s h d then hostWrite BLK_CIN cinOpen cinAct h d 0 value false s else s

/-- CINDER_DRAIN_TIMEOUT (R121): the job ends ABORTED, and so does the drain. -/
def cinderDrainTimeout (h d : Nat) (s : State) : State :=
  if cinOk s h d && s.fget h d CIN_STATUS_STATE == 3 then
    cinResume h d (cinOff h d 4 (cinAbort h d (s.fput h d CIN_STATUS_STATE 2)))
  else s

/-- CINDER_FORCE_OFF (R122). -/
def cinderForceOff (h d : Nat) (s : State) : State := if cinOk s h d then cinForce h d s else s

end Sys2Proof.Machine
end

