-- ==== Sys2Proof/Machine/Terrace.lean ====
section
/-! DEFINITION. The Terrace compositor, the Grate and the Ash map (chapter 04): commits, composing, screening, tables,
privileged changes, Ash updates, slots and disabling. -/

namespace Sys2Proof.Machine

/-- Columns of a hearth. -/
def columns : Nat := 49152

/-! ### Descriptors and the commit checks (R124–R127) -/

/-- Row bytes of a terrace (R124). -/
def rowBytes (fmt w : Nat) : Nat := if fmt = 2 then (w + 7) / 8 else if fmt = 3 then (w + 3) / 4 else w

/-- Replication factor (R125). -/
def Terr.r (t : Terr) : Nat := 1 + t.rep

/-- The descriptor registers of terrace `n` as they stand (R135). -/
def descriptor (s : State) (h n : Nat) : Terr :=
  { fmt := s.fget h 0 (TER_T_FMT_FORMAT n), lb := s.fget h 0 (TER_T_FMT_LB n), srcH := s.fget h 0 (TER_T_FMT_SRC_H n),
    srcT := s.fget h 0 (TER_T_FMT_SRC_T n), comp := s.fget h 0 (TER_T_FMT_COMP n), src := s.fget h 0 (TER_T_FMT_SRC n),
    screen := s.fget h 0 (TER_T_FMT_SCREEN n), blend := s.fget h 0 (TER_T_FMT_BLEND n), rep := s.fget h 0 (TER_T_FMT_REP n),
    x0 := s.fget h 0 (TER_T_X0_V n), y0 := s.fget h 0 (TER_T_Y0 n), w := s.fget h 0 (TER_T_W_V n), h := s.fget h 0 (TER_T_H n),
    stride := s.fget h 0 (TER_T_STRIDE_V n), off := s.fget h 0 (TER_T_OFFSET n) }

/-- The descriptor with its host-owned buffer bound (R127). -/
def boundDescriptor (s : State) (h n : Nat) : Terr :=
  let t := descriptor s h n
  if t.src = 1 ∧ 1 ≤ t.fmt ∧ t.fmt ≤ 3 then { t with bufBase := some (s.lbuf h t.lb).base } else t

/-- Byte offset of row 0 in the source (R125). -/
def Terr.base (t : Terr) : Nat := if t.fmt ≤ 3 then t.off * 64 else 0

/-- Size of the source of terrace `n` of a page, where the source exists; a RECV source is judged at the page's first
line (R126, R127). -/
def srcSize (s : State) (h : Nat) (p : Page) (n : Nat) (t : Terr) : Option Nat :=
  let layer := (p.slots.find? fun x => x.terrace == n).map Slot.ulen
  if t.fmt ≤ 3 then
    if t.src = 1 then (let b := s.lbuf h t.lb; if b.used && !b.freeing then some b.len else none) else layer
  else layer.map fun u => u / pixelSize t.fmt

/-- Bytes a terrace reads from its source, from row 0 to the last row's end. -/
def Terr.reach (t : Terr) : Nat := t.base + t.stride * (t.h - 1) + rowBytes t.fmt t.w

/-- Terrace `n` fails none of the checks of R126. -/
def terraceOk (s : State) (h : Nat) (p : Page) (n : Nat) (t : Terr) : Bool :=
  t.fmt == 0 ||
  (decide (t.fmt ≤ 7) && t.w != 0 && t.h != 0 && decide (t.x0 + t.w * t.r ≤ columns) && decide (rowBytes t.fmt t.w ≤ t.stride) &&
   (t.fmt == 7 || match srcSize s h p n t with
     | none => false
     | some z => decide (t.reach ≤ z)))

/-- Bytes fetched per line by the terraces that are not OFF (R126). -/
def fetchPerLine (ts : List Terr) : Nat :=
  (ts.map fun t => if t.fmt = 0 then 0 else (rowBytes t.fmt t.w + t.r - 1) / t.r).sum

/-- The eight descriptors as a commit would copy them. -/
def descriptors (s : State) (h : Nat) : List Terr := (List.range 8).map fun n => boundDescriptor s h n

/-- Commit checks pass for a page (R126): every terrace, and the fetch limit unless unchecked. -/
def commitOk (s : State) (h : Nat) (p : Page) : Bool :=
  let ts := descriptors s h
  ts.zipIdx.all (fun t => terraceOk s h p t.2 t.1) &&
  (decide (fetchPerLine ts ≤ s.fget h 0 TER_FETCH_MAX) || s.fon h 0 TER_CTRL_FETCH_UNCHK)

/-- Show the length of the commit queue. -/
def queueShow (h : Nat) (s : State) : State := s.fput h 0 TER_STATUS_QUEUE (s.ter h).queue.length

/-- A request accepted after the commit point of a slot whose next slot is blank is late (R136). -/
def commitLate (s : State) (h : Nat) : Bool :=
  s.fget h 0 TER_STATUS_SLOT != 0 && s.fon h 0 TER_STATUS_PAST_POINT && s.fget h 0 TER_NEXT == 0xFFFFFFFF

/-- Accept a commit or reprint of a page whose checks passed (R135, R99): answers whether it was late. -/
def acceptCommit (h pg : Nat) (reprint : Bool) (s : State) : State × Bool :=
  let late := commitLate s h
  let ts := descriptors s h
  let s := if s.fget h 0 TER_FETCH_MAX < fetchPerLine ts then s.raise h 0 TER_EVENT_FETCH_OVER else s
  let n := (s.bas h).nextComm
  let oldest := ((retiredPages s h).head?.map Page.id) == some pg
  let s := s.setBas h { (s.bas h) with nextComm := n + 1, reprintAt := if reprint && oldest then some s.now else (s.bas h).reprintAt }
  let s := mapPage h pg (fun q => { q with
    st := .committed, commSeq := n, terrs := ts, slips := 0, defer := false, reprint := reprint
    stopped := if reprint then false else q.stopped
    slots := if reprint then q.slots.map fun x => { x with job := .waiting, lb := none } else q.slots }) s
  let s := queueShow h (s.setTer h { (s.ter h) with queue := (s.ter h).queue ++ [pg] })
  let s := if late then (s.count h 0 TER_LATE_CNT).raise h 0 TER_EVENT_COMMIT_LATE else s
  (basRefresh h s, late)

/-! ### Composing (R128–R130) -/

/-- Compositor state of one column (R128). -/
structure Col where
  c : Nat := 0
  fl : Option Nat := none
  ko : Bool := false
  scr : Nat := 0
deriving DecidableEq, Repr

/-- A contone terrace with value `v` meets a column. -/
def blendContone (b screen v : Nat) (x : Col) : Col :=
  match b with
  | 0 => ⟨v, none, false, screen⟩
  | 1 => if v = 0 then x else { x with c := 0, fl := none, ko := true }
  | 2 => if x.fl.isSome then x else { x with c := max x.c v, scr := screen, ko := if v = 0 then x.ko else false }
  | _ => if x.fl.isSome then x else { x with c := min 255 (x.c + v), scr := screen, ko := if v = 0 then x.ko else false }

/-- A LEVEL2 terrace with value `v` meets a column; 0 is transparent. -/
def blendLevel (b v : Nat) (x : Col) : Col :=
  if v = 0 then x
  else match b with
    | 0 => { x with fl := some v, ko := false }
    | 1 => { x with c := 0, fl := none, ko := true }
    | 2 => { x with fl := some (max (x.fl.getD 0) v), ko := false }
    | _ => { x with fl := some (min 3 (x.fl.getD 0 + v)), ko := false }

/-- One terrace meets a column with its pixel's value. -/
def blend (t : Terr) (v : Nat) (x : Col) : Col := if t.fmt = 3 then blendLevel t.blend v x else blendContone t.blend t.screen v x

/-- DRAM address of byte 0 of the source of terrace `n` of a page (R124, R127). -/
def srcBase (s : State) (h : Nat) (p : Page) (n : Nat) (t : Terr) : Nat :=
  let plane (hm tr : Nat) := ((p.planes.find? fun q => q.home == hm && q.ter == tr && q.comp == t.comp).map Plane.buf).getD 0
  if t.fmt ≤ 3 then
    if t.src = 1 then t.bufBase.getD 0
    else match p.slots.find? fun x => x.terrace == n with
      | none => 0
      | some x => match x.buf with
        | some a => a
        | none => (s.lbuf h (x.lb.getD 0)).base
  else if t.fmt = 7 then plane t.srcH t.srcT else plane h n

/-- Value of pixel `px` of the row at DRAM address `row` (R124). -/
def pixel (s : State) (h fmt row px : Nat) : Nat :=
  if fmt = 2 then (if bit (s.dread h (row + px / 8)).toNat (px % 8) then 255 else 0)
  else if fmt = 3 then bits (s.dread h (row + px / 4)).toNat (2 * (px % 4)) 2
  else (s.dread h (row + px)).toNat

/-- Terrace `n` acts on column `x` of page line `yp`. -/
def terraceAt (s : State) (h : Nat) (p : Page) (yp x : Nat) (c : Col) (tn : Terr × Nat) : Col :=
  let t := tn.1
  if t.fmt = 0 ∨ yp < t.y0 ∨ t.y0 + t.h * t.r ≤ yp ∨ x < t.x0 ∨ t.x0 + t.w * t.r ≤ x then c
  else
    let row := srcBase s h p tn.2 t + t.base + (yp - t.y0) / t.r * t.stride
    blend t (pixel s h t.fmt row ((x - t.x0) / t.r)) c

/-- Column `x` of page line `yp` after every terrace, T0 first (R129, R130). -/
def composeCol (s : State) (h : Nat) (p : Page) (yp x : Nat) : Col :=
  p.terrs.zipIdx.foldl (terraceAt s h p yp x) {}

/-! ### Tables (R140, R141) -/

/-- Table contents at reset, by 65536 × table + index. -/
def dfltGrt (k : Nat) : Nat := if k / 65536 = 4 then (k % 256 * 1023 + 127) / 255 else 0x3FFFFFFF

/-- The active bank. -/
def actBank (s : State) (h : Nat) : Nat := s.fget h 0 GRT_STATUS_BANK

/-- Bits a data word of a table keeps. -/
def grtMask (table : Nat) : Nat := if table = 4 then 2 ^ 10 else 2 ^ 30

/-- Last index of a table. -/
def grtLast (table : Nat) : Nat := if table = 4 then 16383 else 65535

/-- INDEX after an access: it wraps after the table's last entry, and from above it after 65,535 (R141). -/
def grtNext (table idx : Nat) : Nat := if idx = grtLast table ∨ idx = 65535 then 0 else idx + 1

/-- The table has an entry at the index. -/
def grtHas (tbl idx : Nat) : Bool := decide (tbl ≤ 4) && decide (idx ≤ grtLast tbl)

/-- The shadow entry at an index; during the copy the one that the copy and the accesses held before it leave. -/
def grtShadow (s : State) (h tbl idx : Nat) : Nat :=
  let k := 65536 * tbl + idx
  if !grtHas tbl idx then 0
  else if s.fon h 0 GRT_STATUS_COPY then
    ((s.ter h).held.reverse.findSome? fun e => if e.1 == tbl && e.2.1 == idx then e.2.2 else none).getD
      (tabGet dfltGrt (s.grt h (actBank s h)) k)
  else tabGet dfltGrt (s.grt h (1 - actBank s h)) k

/-- Access the shadow entry at an index: `none` reads, `some v` writes it. -/
def grtAt (h tbl idx : Nat) (write : Option Nat) (s : State) : State :=
  let sh := 1 - actBank s h
  match write with
  | some v => if grtHas tbl idx then s.setGrt h sh (tabSet dfltGrt (s.grt h sh) (65536 * tbl + idx) (v % grtMask tbl)) else s
  | none => s.emit (.tableRead h BLK_GRT (BitVec.ofNat 32 (grtShadow s h tbl idx)))

/-- The same; while the bank copy runs the access is held at its place in the table (R141). DESIGN CHOICE (log 20). -/
def grtReach (h tbl idx : Nat) (write : Option Nat) (s : State) : State :=
  if s.fon h 0 GRT_STATUS_COPY then s.setTer h { (s.ter h) with held := (s.ter h).held ++ [(tbl, idx, write.map (· % grtMask tbl))] }
  else grtAt h tbl idx write s

/-- INDEX advances after an access to DATA (R141). -/
def grtStep (h : Nat) (s : State) : State :=
  s.fput h 0 GRT_TBL_ADDR_INDEX (grtNext (s.fget h 0 GRT_TBL_ADDR_TABLE) (s.fget h 0 GRT_TBL_ADDR_INDEX))

/-- GRT_TBL_DATA_ACCESS (R141): the shadow entry at INDEX is read or written, and INDEX advances. -/
def grtDataAccess (h : Nat) (write : Option Word) (s : State) : State :=
  if !s.hasH h then s
  else grtStep h (grtReach h (s.fget h 0 GRT_TBL_ADDR_TABLE) (s.fget h 0 GRT_TBL_ADDR_INDEX) (write.map BitVec.toNat) s)

/-- The swap: banks and shadowed fields exchange, and the copy begins (R141). An arm that waits for a later slot stays pending. -/
def tableSwap (h : Nat) (s : State) : State :=
  let s := s.setTer h { (s.ter h) with
    scr := (List.range 4).map fun n => s.rd h 0 BLK_GRT (0x04 + n)
    lendOn := s.fon h 0 GRT_CTRL_LEND_EN, dlendOn := s.fon h 0 GRT_CTRL_DLEND_EN }
  let s := s.fput h 0 GRT_STATUS_BANK (1 - actBank s h)
  let left := (s.ter h).swapSlots.filter fun n => decide ((s.ter h).slotNo < n) && s.fget h 0 TER_STATUS_SLOT != 0
  let s := s.setTer h { (s.ter h) with swapSlots := left }
  let s := if left.isEmpty then ((s.fput h 0 GRT_CTRL_TBL_ARM 0).fput h 0 GRT_STATUS_ARM_PEND 0).fput h 0 GRT_STATUS_ARM_LATE 0 else s
  (s.fput h 0 GRT_STATUS_COPY 1).raise h 0 GRT_EVENT_TBL_SWAP

/-- TABLE_COPY_DONE (R141): the shadow bank becomes a copy of the active one and the held accesses act. -/
def tableCopyDone (h : Nat) (s : State) : State :=
  if s.hasH h && s.fon h 0 GRT_STATUS_COPY then
    let s := (s.setGrt h (1 - actBank s h) (s.grt h (actBank s h))).fput h 0 GRT_STATUS_COPY 0
    let x := s.ter h
    forEach x.held (fun e s => grtAt h e.1 e.2.1 e.2.2 s) (s.setTer h { x with held := [] })
  else s

/-- Arm a table swap (R141): at once while TER is OFF, at this slot's first gap line before its commit point, else at the
next slot's. An arm already pending keeps its own slot. DESIGN CHOICE (log 51). -/
def tableArm (h : Nat) (s : State) : State :=
  let s := s.fput h 0 GRT_STATUS_ARM_PEND 1
  if s.fget h 0 TER_STATUS_SLOT = 0 then tableSwap h s
  else
    let x := s.ter h
    if s.fon h 0 TER_STATUS_PAST_POINT then
      ((s.setTer h { x with swapSlots := x.swapSlots ++ [x.slotNo + 1] }).fput h 0 GRT_STATUS_ARM_LATE 1).raise h 0 GRT_EVENT_TBL_LATE
    else s.setTer h { x with swapSlots := x.swapSlots ++ [x.slotNo] }

/-- After a write of a GRT word (R141, R149, R430, R432). -/
def grtAct (c : WriteCtx) (s : State) : State :=
  if c.w ≠ 0 then s
  else
    let s := if c.fell s GRT_CTRL_EN ∧ s.fget c.h 0 TER_STATUS_SLOT ≠ 0 then
      (s.fput c.h 0 GRT_CTRL_EN 1).raise c.h 0 GRT_EVENT_EN_REFUSED else s
    if c.wrote GRT_CTRL_TBL_ARM = 1 then tableArm c.h s else s

def grtOpen (_ : State) (_ _ _ : Nat) : Bool := true

/-- GRT_EN_WRITE (R432): a write of GRT_CTRL. -/
def grtEnWrite (h : Nat) (value : Word) (s : State) : State :=
  if s.hasH h then hostWrite BLK_GRT grtOpen grtAct h 0 0 value false s else s

/-- TBL_ARM (R141): a write of GRT_CTRL with TBL_ARM 1 and its other fields as they stand. -/
def tblArm (h : Nat) (s : State) : State := grtEnWrite h (s.pulse h 0 BLK_GRT 0 4) s

/-! ### Correction, lending and decision (R142–R145, R432) -/

def ashState (e : Word) : Nat := bits e.toNat 30 2
def ashCurve (e : Word) : Nat := bits e.toNat 24 6
def ashGain (e : Word) : Nat := bits e.toNat 16 8
def ashOffset (e : Word) : Int := toS 8 (bits e.toNat 8 8)
def ashLend (e : Word) : Nat := bits e.toNat 0 8

/-- What a line's Grate step reads: the Ash map, the curves, the cells of screen `n` at an index, the four geometries. -/
structure GrateIn where
  ash : Nat → Word
  curve : Nat → Nat
  cell : Nat → Nat → Nat
  scr : List Word
  lendOn : Bool
  dlendOn : Bool

/-- The result of a line: levels by column, clamps, lost contone shares, capped and lost drop lends. -/
structure GrateOut where
  lvl : Array Nat := #[]
  sat : Nat := 0
  lendLost : Nat := 0
  dlendClip : Nat := 0
  dlendLost : Nat := 0

/-- Corrected value before its clamp (R142). -/
def rawValue (g : GrateIn) (e : Word) (c : Nat) : Int :=
  (((g.curve (ashCurve e * 256 + c) * ashGain e + 64) / 128 : Nat) : Int) + ashOffset e

/-- V of a column with fl "none". -/
def corrected (g : GrateIn) (e : Word) (c : Nat) : Nat := (clampI 0 1023 (rawValue g e c)).toNat

/-- A neighbour that can take a contone share, and one that can take a drop. -/
def canRecv (g : GrateIn) (cols : Array Col) (x : Nat) : Bool :=
  match cols[x]? with
  | none => false
  | some k => decide (ashState (g.ash x) ≤ 1) && !k.ko && k.fl.isNone
def canTake (g : GrateIn) (cols : Array Col) (x : Nat) : Bool :=
  match cols[x]? with
  | none => false
  | some k => decide (ashState (g.ash x) ≤ 1) && !k.ko

/-- `p` of the column left of `x`, false at the edge. -/
def leftOf (p : Nat → Bool) (x : Nat) : Bool := x != 0 && p (x - 1)

/-- The share column `x` lends to each taker, 0 where it lends none (R143). -/
def shareOf (g : GrateIn) (cols : Array Col) (x : Nat) : Nat :=
  match cols[x]? with
  | none => 0
  | some k =>
    let e := g.ash x
    if ashState e < 2 ∨ ashLend e = 0 ∨ k.ko ∨ k.fl.isSome then 0
    else
      let v := corrected g e k.c * ashLend e / 256
      if leftOf (canRecv g cols) x && canRecv g cols (x + 1) then v else 2 * v

/-- Column `x` lends and finds no taker. -/
def shareLost (g : GrateIn) (cols : Array Col) (x : Nat) : Bool :=
  match cols[x]? with
  | none => false
  | some k =>
    let e := g.ash x
    !(decide (ashState e < 2) || ashLend e == 0 || k.ko || k.fl.isSome) &&
    !leftOf (canRecv g cols) x && !canRecv g cols (x + 1)

/-- Shares column `x` receives from its neighbours. -/
def received (g : GrateIn) (cols : Array Col) (x : Nat) : Nat :=
  if !g.lendOn || !canRecv g cols x then 0
  else (if x = 0 then 0 else shareOf g cols (x - 1)) + shareOf g cols (x + 1)

/-- Level of one column before drop lending (R142). -/
def decide1 (g : GrateIn) (cols : Array Col) (yp x : Nat) (k : Col) : Nat :=
  let e := g.ash x
  if k.ko ∨ 2 ≤ ashState e then 0
  else match k.fl with
    | some l => l
    | none =>
      let w := min (corrected g e k.c + received g cols x) 1023
      let sc := (g.scr.getD k.scr 0).toNat
      let u := (x + bits sc 16 8) % (bits sc 0 8 + 1)
      let v := (yp + bits sc 24 8) % (bits sc 8 8 + 1)
      let t := g.cell k.scr (v * 256 + u)
      b2n (decide (bits t 0 10 < w)) + b2n (decide (bits t 10 10 < w)) + b2n (decide (bits t 20 10 < w))

/-- Column `x` of the drop lending pass (R144). -/
def dlend1 (g : GrateIn) (cols : Array Col) (x : Nat) (o : GrateOut) : GrateOut :=
  match cols[x]? with
  | none => o
  | some k =>
    let e := g.ash x
    let f := k.fl.getD 0
    if ashState e < 2 ∨ ashLend e = 0 ∨ k.ko ∨ f = 0 then o
    else
      let l := leftOf (canTake g cols) x
      let r := canTake g cols (x + 1)
      let give (y : Nat) : GrateOut :=
        let cur := o.lvl.getD y 0
        { o with lvl := o.lvl.setIfInBounds y (min 3 (cur + f)), dlendClip := o.dlendClip + b2n (decide (3 < cur + f)) }
      if l && (!r || decide (o.lvl.getD (x - 1) 0 ≤ o.lvl.getD (x + 1) 0)) then give (x - 1)
      else if r then give (x + 1)
      else { o with dlendLost := o.dlendLost + 1 }

/-- The Grate's procedure for one line (R145). DEDUCED (log 54). -/
def grateLine (g : GrateIn) (cols : Array Col) (yp : Nat) : GrateOut :=
  let n := cols.size
  let sat := ((List.range n).filter fun x =>
    let k := cols.getD x {}
    k.fl.isNone && decide (rawValue g (g.ash x) k.c ≠ clampI 0 1023 (rawValue g (g.ash x) k.c))).length
  let lost := if g.lendOn then ((List.range n).filter (shareLost g cols)).length else 0
  let lvl := (Array.range n).map fun x => decide1 g cols yp x (cols.getD x {})
  let o : GrateOut := { lvl := lvl, sat := sat, lendLost := lost }
  if g.dlendOn then (List.range n).foldl (fun o x => dlend1 g cols x o) o else o

/-- Levels as a table by column: level 0 is unlisted. -/
def levelTab (a : Array Nat) : Tab Nat :=
  (List.range a.size).filterMap fun x => if a.getD x 0 = 0 then none else some (x, a.getD x 0)

/-- The Grate's inputs of a hearth as they stand. -/
def grateIn (s : State) (h : Nat) : GrateIn :=
  let t := s.grt h (actBank s h)
  { ash := s.ash h, curve := fun k => tabGet dfltGrt t (65536 * 4 + k), cell := fun n k => tabGet dfltGrt t (65536 * n + k),
    scr := (s.ter h).scr, lendOn := (s.ter h).lendOn, dlendOn := (s.ter h).dlendOn }

/-- Compose and screen page line `yp` of a page: its levels, with the Grate's counters and events. -/
def screenLine (h pg yp : Nat) (s : State) : Tab Nat × State :=
  match findPage s h pg with
  | none => ([], s)
  | some p =>
    if !s.fon h 0 GRT_CTRL_EN then ([], s)
    else
      let cols := (Array.range columns).map fun x => composeCol s h p yp x
      let o := grateLine (grateIn s h) cols yp
      let s := (s.count h 0 GRT_SAT o.sat).count h 0 GRT_LEND_LOST o.lendLost
      let s := (s.count h 0 GRT_DLEND_CLIP o.dlendClip).count h 0 GRT_DLEND_LOST o.dlendLost
      (levelTab o.lvl, if o.lendLost = 0 then s else s.raise h 0 GRT_EVENT_LEND_LOST)

/-! ### Privileged changes (R139) -/

/-- Privileged words of a hearth: block, instance, word. -/
def privWords : List (Nat × Nat × Nat) :=
  ((List.range 12).flatMap fun p =>
    ((List.range 4).map fun m => (BLK_FBX, p, 0x10 + m)) ++ ((List.range 8).map fun j => (BLK_FBX, p, 0x14 + j)) ++ [(BLK_FBX, p, 0x1C)])
  ++ [(BLK_DMP, 0, 1), (BLK_DMP, 0, 2)]
  ++ ((List.range 12).flatMap fun p => [(BLK_DMP, 0, 0x10 + 2 * p), (BLK_DMP, 0, 0x11 + 2 * p)])

/-- Mask of the privileged fields of a word. -/
def privMask (blk i w : Nat) : Word :=
  ((wordFields blk i w).filter fun f => f.priv).foldl (fun m f => m ||| fieldMask f) 0

/-- LNUM of a hearth. -/
def lnum (s : State) (h : Nat) : Nat := s.get64 h 0 TER_LNUM_LO

/-- The words of a table that belong to a hearth. -/
def hearthWords (h : Nat) (t : Tab Word) : Tab Word := t.filter fun e => e.1 / (256 * 16 * 2048) == h

/-- Arm the staged privileged values for PRIV_LINE (R139): captured now; late where the line can no longer be reached. -/
def privArmAt (h line : Nat) (s : State) : State :=
  let least := lnum s h + 3
  let s := (s.fput h 0 TER_PRIV_CTRL_ARM 1).fput h 0 TER_STATUS_PRIV_PEND 1
  let s := s.setTer h { (s.ter h) with privArm := some (max least line, hearthWords h s.staged) }
  if line < least then s.raise h 0 TER_EVENT_PRIV_LATE else s

/-- At the start of line `l`: a pending arm for it (or an earlier line) applies, all words together (R139). -/
def privApply (h l : Nat) (s : State) : State :=
  match (s.ter h).privArm with
  | none => s
  | some (line, cap) =>
    if l < line then s
    else
      let old := (privWords.map fun k => (rkey h k.1 k.2.1 k.2.2, s.rd h k.2.1 k.1 k.2.2)).foldl
        (fun t e => tabSet dfltReg t e.1 e.2) []
      let s := forEach privWords (fun k s =>
        s.wrMask h k.2.1 k.1 k.2.2 (privMask k.1 k.2.1 k.2.2) (tabGet dfltReg cap (rkey h k.1 k.2.1 k.2.2))) s
      let s := s.setTer h { (s.ter h) with privArm := none, privPrev := old, privFrom := l }
      ((s.fput h 0 TER_PRIV_CTRL_ARM 0).fput h 0 TER_STATUS_PRIV_PEND 0).raise h 0 TER_EVENT_PRIV_APPLIED

/-- A privileged word as it governs line `l` (R139, R258). -/
def privAt (s : State) (h i blk w l : Nat) : Word :=
  if l < (s.ter h).privFrom then tabGet dfltReg (s.ter h).privPrev (rkey h blk i w) else s.rd h i blk w

/-- A field of a privileged word as it governs line `l`. -/
def privGet (s : State) (h i l : Nat) (f : Fld) : Nat := bits (privAt s h i f.blk f.word l).toNat f.lo f.len

/-! ### Ash map updates (R146–R148) -/

/-- Show the queue's depth. -/
def ashShow (h : Nat) (s : State) : State :=
  let n := (s.ter h).ashQ.length
  (s.fput h 0 ASH_STATUS_DEPTH n).fputB h 0 ASH_STATUS_FULL (decide (256 ≤ n))

/-- Push an entry for a column at an effective line, or refuse it (R146, R148). Answers whether it was queued. DEDUCED (log 53). -/
def ashPush (h col line : Nat) (e : Word) (s : State) : State × Bool :=
  let x := s.ter h
  if columns ≤ col then ((s.count h 0 ASH_BAD).raise h 0 ASH_EVENT_BAD, false)
  else if !s.fon h 0 ASH_CTRL_Q_EN || decide (256 ≤ x.ashQ.length) then ((s.count h 0 ASH_OVF).raise h 0 ASH_EVENT_OVF, false)
  else
    let s1 := if line < x.ashLast then (s.count h 0 ASH_ORDER).raise h 0 ASH_EVENT_ORDER else s
    (ashShow h (s1.setTer h { (s1.ter h) with ashQ := x.ashQ ++ [(col, e, line)], ashLast := line }), true)

/-- PER_LINE in effect. -/
def perLine (s : State) (h : Nat) : Nat :=
  let n := s.fget h 0 ASH_CTRL_PER_LINE
  if n = 0 then 1 else if 64 < n then 64 else n

/-- Take up to `n` due entries from the head of the queue at the start of line `l` (R147). -/
def ashTake (h l : Nat) : Nat → State → State
  | 0, s => s
  | n + 1, s =>
    match (s.ter h).ashQ with
    | [] => s
    | (col, e, line) :: rest =>
      if l < line then s
      else
        let s := (s.setAsh h col e).setTer h { (s.ter h) with ashQ := rest }
        let s := (s.put64 h 0 ASH_APPLIED_LO (l % 2 ^ 48)).count h 0 ASH_APPLIED_CNT
        let s := if line < l then (s.count h 0 ASH_LATE).raise h 0 ASH_EVENT_LATE else s
        ashTake h l n s

/-- The Ash entries that apply at the start of line `l`. -/
def ashApply (h l : Nat) (s : State) : State := ashShow h (ashTake h l (perLine s h) s)

/-- Discard every queued entry (R148). -/
def ashFlush (h : Nat) (s : State) : State :=
  let n := (s.ter h).ashQ.length
  let s := s.setTer h { (s.ter h) with ashQ := [] }
  ashShow h (if n = 0 then s else s.count h 0 ASH_OVF n)

def ashOpen (_ : State) (_ _ _ : Nat) : Bool := true

/-- After a write of an ASH word (R146, R148). -/
def ashAct (c : WriteCtx) (s : State) : State :=
  if c.w = 0 then (if c.wrote ASH_CTRL_FLUSH = 1 then ashFlush c.h s else s)
  else if c.w = ASH_UPD_PUSH.word then
    (ashPush c.h (c.wrote ASH_UPD_PUSH_V) (s.get64 c.h 0 ASH_UPD_LINE_LO) (s.rd c.h 0 BLK_ASH ASH_UPD_ENTRY.word) s).1
  else s

/-- ASH_UPD_PUSH (R146): a write of the column. -/
def ashUpdPush (h column : Nat) (s : State) : State :=
  if s.hasH h then hostWrite BLK_ASH ashOpen ashAct h 0 ASH_UPD_PUSH.word (BitVec.ofNat 32 column) false s else s

/-- ASH_CTRL_FLUSH (R148): a write of FLUSH 1 with the other fields as they stand. -/
def ashCtrlFlush (h : Nat) (s : State) : State :=
  if s.hasH h then hostWrite BLK_ASH ashOpen ashAct h 0 0 (s.pulse h 0 BLK_ASH 0 1) false s else s

/-! ### Firing states of a page (R165, R182) -/

/-- Firmware event 0x8401 is posted once per printing, at the first mark (R182). -/
def markPage (h pg why port : Nat) (s : State) : State :=
  match findPage s h pg with
  | none => s
  | some p =>
    if p.defective then s
    else fwEvent h 0x8401 (mapPage h pg (fun q => { q with defective := true, why := why, port := port }) s)

/-- A page suppressed or cut short: marked without a reason, recorded (R138, R149, R182). DEDUCED (log 52). -/
def suppressPage (h pg : Nat) (s : State) : State :=
  let s := mapPage h pg (fun q => { q with suppressed := true }) (markPage h pg 0 0 s)
  (s.fput h 0 TER_SUPPRESSED pg).raise h 0 TER_EVENT_PAGE_SUPPRESSED

/-- A page enters FIRING: a clean mark, its page line 0's LNUM (R165, R182). -/
def enterFiring (h pg : Nat) (s : State) : State :=
  basRefresh h (mapPage h pg (fun q => { q with
    st := .firing, defective := false, why := 0, port := 0, suppressed := false, notInspected := false, marks := [], lnum0 := lnum s h,
    web0 := (s.drt h).nb }) s)

/-- A page enters FIRED: its page-owned buffers are freed, and it retires at once without inspection (R100, R165, R210). -/
def enterFired (h pg : Nat) (s : State) : State :=
  match findPage s h pg with
  | none => s
  | some p =>
    if p.st != .firing then s
    else
      let s := basRefresh h (mapPage h pg (fun q => { q with
        st := .fired, planes := [], slots := q.slots.map fun x => { x with buf := none } }) s)
      if inspectionOff s h then retirePage h pg s else s

/-! ### Slots (R134–R138) -/

/-- A length that acts as 16 below 16 (R134). -/
def least16 (n : Nat) : Nat := max 16 n

/-- LineD of the body, the gap. -/
def LineD.inBody (d : LineD) : Bool := d.typ != 0 && decide (d.idx < d.body)
/-- A body line of a page that fires. -/
def LineD.fires (d : LineD) : Bool := d.typ == 1 && d.inBody && !d.supp
/-- Page line 0. -/
def LineD.line0 (d : LineD) : Bool := d.typ == 1 && d.idx == 0

/-- Outcome of the readiness test of a page (R138): 0 ready, 1 not ready, 2 failed. Its local jobs and the planes that its RECV terraces
name count, no other plane. -/
def ownReadiness (p : Page) : Nat :=
  let recv := p.terrs.filter fun t => t.fmt == 7
  let plane (t : Terr) := p.planes.find? fun q => q.home == t.srcH && q.ter == t.srcT && q.comp == t.comp
  let sizeBad := recv.any fun t => match plane t with
    | none => false
    | some q => decide (q.len < t.reach)
  if p.fail ≠ 0 ∨ p.failedJob ∨ sizeBad then 2
  else if p.slots.all (fun x => x.job == .ok) && recv.all (fun t => (plane t).any fun q => q.ok) then 0 else 1

/-- The outcome at page line 0: the one a twin pair has agreed on, else the hearth's own (R138, R361). -/
def readiness (s : State) (h : Nat) (p : Page) : Nat :=
  match (s.ter h).verdict with
  | some (pg, o) => if pg = p.id then o else ownReadiness p
  | none => ownReadiness p

/-- SLIP_MAX in effect. -/
def slipMax (s : State) (h : Nat) : Nat := let n := s.fget h 0 TER_CTRL_SLIP_MAX; if n = 0 then 1 else n

/-- The first line of the next slot, for the page chosen for it (R134, R138). -/
def firstLine (s : State) (h : Nat) (pg : Option Nat) : LineD :=
  let gap := least16 (s.fget h 0 TER_SLOT_GAP)
  let blank : LineD := { typ := 3, body := least16 (s.fget h 0 TER_CTRL_IDLE_LINES), gap := gap }
  match pg.bind (findPage s h) with
  | none => blank
  | some p =>
    let o := readiness s h p
    if o = 1 ∧ p.slips < slipMax s h then { blank with slip := some p.id }
    else { typ := 1, page := some p.id, body := p.lines, gap := gap, supp := decide (o ≠ 0) }

/-- The page chosen for the next slot. -/
def nextPage (s : State) (h : Nat) : Option Nat :=
  let n := s.fget h 0 TER_NEXT
  if n = 0xFFFFFFFF then none else some n

/-- Take the head of the commit queue as the page of the next slot (R136). DEDUCED (log 50). -/
def chooseNext (h : Nat) (s : State) : State :=
  match (s.ter h).queue with
  | [] => s
  | pg :: rest =>
    let n := ((findPage s h pg).map Page.slips).getD 0
    ((queueShow h (s.setTer h { (s.ter h) with queue := rest })).fput h 0 TER_NEXT pg).fput h 0 TER_STATUS_SLIPS n

/-- TER is enabled or draining. -/
def terActive (s : State) (h : Nat) : Bool := s.fon h 0 TER_CTRL_EN || (s.ter h).draining

/-- The next stand-alone line of a hearth, if any is left (R344, R347). -/
def aloneLine (h : Nat) (s : State) : LineD × State :=
  match (s.ter h).alone with
  | (kind, k, n + 1) => ({ alone := true, body := kind, idx := k }, s.setTer h { (s.ter h) with alone := (kind, k + 1, n) })
  | _ => ({}, s)

/-- The line that follows `d` (R134); without a slot, the first slot begins. -/
def lineAfter (h : Nat) (d : LineD) (s : State) : LineD × State :=
  if !terActive s h || (s.ter h).die then aloneLine h s
  else if d.typ = 0 then
    if (s.ter h).draining then ({}, s)
    else
      let s := if (nextPage s h).isSome then s else chooseNext h s
      (firstLine s h (nextPage s h), s)
  else if d.idx + 1 < d.body + d.gap then ({ d with idx := d.idx + 1, levels := [] }, s)
  else if (s.ter h).draining then ({}, s)
  else (firstLine s h (nextPage s h), s)

/-- A body line of a blank slot carries the geometry chart while it is the hearth's turn (R202). DEDUCED (log 94). -/
def geoLine (h : Nat) (d : LineD) (s : State) : LineD × State :=
  match s.geo with
  | none => (d, s)
  | some g =>
    if g.todo.head? = some h ∧ d.typ = 3 ∧ d.inBody then
      ({ d with alone := true },
       { s with geo := some (if g.left ≤ 1 then { g with todo := g.todo.tail, left := 64 } else { g with left := g.left - 1 }) })
    else (d, s)

/-- Start line `k` of a hearth: it follows line `k - 1`; a firing page line is composed and screened (R258). DESIGN CHOICE (log 49). -/
def startLine (h : Nat) (s : State) : State :=
  let (d, s) := lineAfter h (s.ter h).n1 s
  let (lv, s) := if d.fires then screenLine h (d.page.getD 0) d.idx s else ([], s)
  let (d, s) := geoLine h { d with levels := lv } s
  s.setTer h { (s.ter h) with n2 := d }

/-! ### Going OFF (R149) -/

/-- TER reaches OFF: a page cut short is suppressed, what was shifted for the line ahead does not fire, a chosen page goes back to the
queue, a pending table swap acts. -/
def terOff (h res : Nat) (s : State) : State :=
  let x := s.ter h
  let cut := match x.cur.page with
    | some pg => if (findPage s h pg).any (fun p => p.st == .firing) && x.ending.isNone then some pg else none
    | none => none
  let back := match nextPage s h with
    | some pg => [pg]
    | none => []
  let s := match cut with
    | some pg => suppressPage h pg s
    | none => s
  let s := forEach (List.range 12) (fun p s => s.setFbx h p { (s.fbx h p) with shifted := [] }) s
  let live := (List.range 12).any fun p => (s.fbx h p).strobes != 0
  let s := s.setTer h { (s.ter h) with
    queue := back ++ x.queue, cur := {}, n1 := {}, n2 := {}, draining := false, again := false, die := false
    ending := match cut with
      | some pg => if live then some pg else none
      | none => x.ending }
  let s := match cut with
    | some pg => if live then s else enterFired h pg s
    | none => s
  let s := queueShow h (((s.fput h 0 TER_NEXT 0xFFFFFFFF).fput h 0 TER_PAGE 0xFFFFFFFF).fput h 0 TER_STATUS_SLIPS 0)
  let s := ((s.fput h 0 TER_SLOT_LINE 0).fput h 0 TER_STATUS_SLOT 0).fput h 0 TER_STATUS_PAST_POINT 0
  let s := (s.fput h 0 TER_DRAIN_RESULT res).raise h 0 TER_EVENT_DRAIN_DONE
  let s := if s.fon h 0 GRT_STATUS_ARM_PEND then tableSwap h s else s
  let s := if x.grtOff then (s.fput h 0 GRT_CTRL_EN 0).setTer h { (s.ter h) with grtOff := false } else s
  if x.again then s.fput h 0 TER_CTRL_EN 1 else s

/-- The forced disable (R149, R295): at once where no slot runs, else at the next trigger. -/
def terForce (h : Nat) (s : State) : State :=
  let s := s.fput h 0 TER_CTRL_EN 0
  if s.fget h 0 TER_STATUS_SLOT = 0 then terOff h 4 (s.setTer h { (s.ter h) with again := false })
  else s.setTer h { (s.ter h) with die := true, draining := true, again := false }

def terOpen (_ : State) (_ _ _ : Nat) : Bool := true

/-- After a write of a TER word (R139, R149, R295). -/
def terAct (c : WriteCtx) (s : State) : State :=
  let h := c.h
  if c.w = TER_PRIV_CTRL.word then
    (if c.wrote TER_PRIV_CTRL_ARM = 1 then privArmAt h (s.get64 h 0 TER_PRIV_LINE_LO) s else s)
  else if c.w ≠ 0 then s
  else if c.wrote TER_CTRL_FORCE_OFF = 1 then terForce h s
  else if c.rose s TER_CTRL_EN then
    if (s.ter h).draining then (s.fput h 0 TER_CTRL_EN 0).setTer h { (s.ter h) with again := true } else s
  else if c.fell s TER_CTRL_EN then
    if s.fget h 0 TER_STATUS_SLOT = 0 then terOff h 3 s
    else s.setTer h { (s.ter h) with draining := true, again := false }
  else s

/-- TER_EN_WRITE (R134, R149): a write of TER_CTRL. -/
def terEnWrite (h : Nat) (value : Word) (s : State) : State :=
  if s.hasH h then hostWrite BLK_TER terOpen terAct h 0 0 value false s else s

/-- PRIV_ARM (R139): a write of 1 to TER_PRIV_CTRL.ARM. -/
def privArmWrite (h : Nat) (s : State) : State :=
  if s.hasH h then hostWrite BLK_TER terOpen terAct h 0 TER_PRIV_CTRL.word 1 false s else s

/-- TER_DRAIN_TIMEOUT (R149): a drain that has not ended acts as a forced disable from the next trigger. -/
def terDrainTimeout (h : Nat) (s : State) : State :=
  if s.hasH h && (s.ter h).draining then s.setTer h { (s.ter h) with die := true } else s

/-- TER_FORCE_OFF (R149): a write of FORCE_OFF 1. -/
def terForceOff (h : Nat) (s : State) : State :=
  if s.hasH h then terForce h s else s

/-! ### A line becomes the current one (R136, R137) -/

/-- Code of TER_STATUS.SLOT. -/
def LineD.code (d : LineD) : Nat := if d.typ = 0 then 0 else if d.inBody then d.typ else 2

/-- Page line 0 or the first line of a blank slot is reached: the slot's page, its FIRING, its slip or its suppression. -/
def slotBegin (h : Nat) (d : LineD) (s : State) : State :=
  let s := s.setTer h { (s.ter h) with slotNo := (s.ter h).slotNo + 1 }
  let s := s.fput h 0 TER_STATUS_PAST_POINT 0
  match d.slip with
  | some pg =>
    let n := ((findPage s h pg).map Page.slips).getD 0 + 1
    let s := (s.fput h 0 TER_STATUS_SLIPS n).count h 0 TER_SLIP_CNT
    (mapPage h pg (fun q => { q with slips := n }) (s.fput h 0 TER_PAGE 0xFFFFFFFF)).raise h 0 TER_EVENT_NOT_READY
  | none =>
    let s := (s.fput h 0 TER_NEXT 0xFFFFFFFF).fput h 0 TER_STATUS_SLIPS 0
    match d.page with
    | none => s.fput h 0 TER_PAGE 0xFFFFFFFF
    | some pg =>
      let s := (enterFiring h pg s).fput h 0 TER_PAGE pg
      (if d.supp then suppressPage h pg s else s).raise h 0 TER_EVENT_PAGE_START

/-- The commit point (R136). DESIGN CHOICE (log 157). -/
def commitPoint (h : Nat) (s : State) : State :=
  let s := s.fput h 0 TER_STATUS_PAST_POINT 1
  match nextPage s h with
  | some _ => s
  | none => chooseNext h s

/-- Line `d` is reached: status, commit point, gap swap, last body line (R137). -/
def reachLine (h : Nat) (d : LineD) (s : State) : State :=
  let s := s.setTer h { (s.ter h) with cur := d }
  let s := (s.fput h 0 TER_STATUS_SLOT d.code).fput h 0 TER_SLOT_LINE d.idx
  if d.typ = 0 then s
  else
    let s := if d.idx = 0 then slotBegin h d s else s
    let s := if !s.fon h 0 TER_STATUS_PAST_POINT && decide (d.body - s.fget h 0 TER_SLOT_GUARD ≤ d.idx) then commitPoint h s else s
    let s := if d.idx = d.body ∧ (s.ter h).swapSlots.any (fun n => decide (n ≤ (s.ter h).slotNo)) then tableSwap h s else s
    if d.typ = 1 ∧ d.idx + 1 = d.body then s.raise h 0 TER_EVENT_PAGE_END else s

/-- The trigger of the next line for TER: OFF where a disable ends here, else the started line is reached; the lines
started ahead move up (R137, R149). DEDUCED (log 48). -/
def terAdvance (h : Nat) (s : State) : State :=
  let x := s.ter h
  if x.die then terOff h 4 s
  else if x.draining && (x.n1.idx == 0) then terOff h 3 s
  else
    reachLine h x.n1 (s.setTer h { x with n1 := x.n2, n2 := {} })

end Sys2Proof.Machine
end

