-- ==== Sys2Proof/Machine/Fec.lean ====
section
/-! DEFINITION. The line codes of chapter 01: PAM4 levels and precoding (R21), RS(544,514) (R18, R19), blocks and the
scrambler (R15–R17), the alignment codeword (R20) and the 8b/10b code (R22, IEEE 802.3 Clause 36). -/

namespace Sys2Proof.Machine

/-! ### GF(2^10), primitive polynomial x^10 + x^3 + 1 (R18) -/

/-- Multiply by x. -/
def gfX (a : Nat) : Nat := if a.testBit 9 then ((a * 2) ^^^ 0x409) % 1024 else a * 2

/-- Product of two field elements. -/
def gfMul (a b : Nat) : Nat :=
  ((List.range 10).foldl (fun (r, x) i => (if b.testBit i then r ^^^ x else r, gfX x)) (0, a)).1

/-- Powers by repeated squaring; `n` below 1,024. -/
def gfPow (a n : Nat) : Nat :=
  ((List.range 10).foldl (fun (r, x) i => (if n.testBit i then gfMul r x else r, gfMul x x)) (1, a)).1

/-- The inverse of a non-zero element. -/
def gfInv (a : Nat) : Nat := gfPow a 1022

/-- α^n. -/
def gfAlpha (n : Nat) : Nat := gfPow 2 (n % 1023)

/-- Value of a polynomial, coefficients lowest degree first. -/
def polyEval (p : List Nat) (x : Nat) : Nat := p.foldr (fun c acc => c ^^^ gfMul acc x) 0

/-- Product with (x + r), coefficients lowest degree first. -/
def polyMulRoot (p : List Nat) (r : Nat) : List Nat :=
  (List.range (p.length + 1)).map fun i =>
    (if i = 0 then 0 else p.getD (i - 1) 0) ^^^ gfMul r (p.getD i 0)

/-- The generator polynomial g(x) (R18), lowest degree first. -/
def rsGen : List Nat := (List.range 30).foldl (fun p i => polyMulRoot p (gfAlpha i)) [1]

/-- The 30 parity symbols of 514 message symbols, in sending order. -/
def rsParity (msg : List Nat) : List Nat :=
  let g := rsGen
  (msg.foldl (fun (p : List Nat) m =>
    let fb := m ^^^ p.getD 29 0
    (List.range 30).map fun i => (if i = 0 then 0 else p.getD (i - 1) 0) ^^^ gfMul fb (g.getD i 0))
    (List.replicate 30 0)).reverse

/-- The 30 syndromes of a received word, first-sent symbol of highest degree. -/
def rsSyndromes (w : List Nat) : List Nat :=
  (List.range 30).map fun j => let a := gfAlpha j; w.foldl (fun acc c => gfMul acc a ^^^ c) 0

/-- State of the Berlekamp–Massey search: locator, previous locator, length, shift, previous discrepancy. -/
structure BmState where
  lam : List Nat := [1]
  prev : List Nat := [1]
  len : Nat := 0
  m : Nat := 1
  b : Nat := 1
deriving DecidableEq, Repr

/-- One step of the error-locator search. -/
def bmStep (syn : List Nat) (st : BmState) (n : Nat) : BmState :=
  let d := (List.range (st.len + 1)).foldl (fun acc i => acc ^^^ gfMul (st.lam.getD i 0) (syn.getD (n - i) 0)) 0
  if d = 0 then { st with m := st.m + 1 }
  else
    let k := gfMul d (gfInv st.b)
    let lam' := (List.range 32).map fun i =>
      st.lam.getD i 0 ^^^ (if i < st.m then 0 else gfMul k (st.prev.getD (i - st.m) 0))
    if 2 * st.len ≤ n then { lam := lam', prev := st.lam, len := n + 1 - st.len, m := 1, b := d }
    else { st with lam := lam', m := st.m + 1 }

/-- Decode a received word: the corrected word and how many symbols were corrected, or `none` where more than 15
symbols are wrong or no codeword lies within 15 (R19). DEDUCED (log 25). -/
def rsDecode (w : List Nat) : Option (List Nat × Nat) :=
  let syn := rsSyndromes w
  if syn.all (· == 0) then some (w, 0)
  else
    let st := (List.range 30).foldl (bmStep syn) {}
    if st.len > 15 then none
    else
      let degs := below 544 fun i => polyEval st.lam (gfAlpha (1023 - i % 1023)) == 0
      if degs.length ≠ st.len then none
      else
        let om := (List.range 30).map fun i =>
          (List.range (i + 1)).foldl (fun acc j => acc ^^^ gfMul (syn.getD (i - j) 0) (st.lam.getD j 0)) 0
        let der := (List.range 31).map fun i => if i % 2 = 0 then st.lam.getD (i + 1) 0 else 0
        let fixed := degs.foldl (fun acc i =>
          let xi := gfAlpha (1023 - i % 1023)
          let e := gfMul (gfAlpha i) (gfMul (polyEval om xi) (gfInv (polyEval der xi)))
          setAt acc (543 - i) (acc.getD (543 - i) 0 ^^^ e)) w
        if (rsSyndromes fixed).all (· == 0) then some (fixed, st.len) else none

/-! ### Levels and bits (R21) -/

/-- The bit pair of a PAM4 level, first-sent bit first. -/
def grayBits : Nat → List Bool
  | 0 => [false, false]
  | 1 => [false, true]
  | 2 => [true, true]
  | _ => [true, false]

/-- The PAM4 level of a bit pair. -/
def grayLevel (a b : Bool) : Nat := if a then (if b then 2 else 3) else (if b then 1 else 0)

/-- Undo inversion and precoding of received levels; answers the symbols and the last line level. -/
def rxLevels (inv precode : Bool) (last : Nat) (levels : List Nat) : List Nat × Nat :=
  let r := levels.foldl (fun (acc : List Nat × Nat) x =>
    let p := if inv then 3 - x % 4 else x % 4
    ((if precode then (p + acc.2) % 4 else p) :: acc.1, p)) ([], last)
  (r.1.reverse, r.2)

/-- Precode symbols to send: P(k) = (G(k) − P(k−1)) mod 4. -/
def txLevels (precode : Bool) (last : Nat) (syms : List Nat) : List Nat × Nat :=
  let r := syms.foldl (fun (acc : List Nat × Nat) g =>
    let p := if precode then (g + 4 - acc.2) % 4 else g
    (p :: acc.1, p)) ([], last)
  (r.1.reverse, r.2)

/-- Groups of ten bits as symbols, first-sent bit of least weight (R18). -/
def bitsToSymbols (bs : List Bool) : List Nat :=
  (List.range (bs.length / 10)).map fun j =>
    (List.range 10).foldl (fun acc k => acc + (if bs.getD (10 * j + k) false then 2 ^ k else 0)) 0

/-- The bits of symbols in sending order. -/
def symbolsToBits (ss : List Nat) : List Bool := ss.flatMap fun x => (List.range 10).map fun k => x.testBit k

/-- Gray levels of bits, the first-sent bit of a pair as the MSB. -/
def grayLevels : List Bool → List Nat
  | a :: b :: rest => grayLevel a b :: grayLevels rest
  | _ => []

/-- The PAM4 levels that symbols are sent as, after a level `last`. -/
def sentLevels (inv precode : Bool) (last : Nat) (ss : List Nat) : List Nat :=
  (txLevels precode last (grayLevels (symbolsToBits ss))).1.map fun p => if inv then 3 - p else p

/-! ### Blocks (R15–R17) -/

/-- One descrambled bit and the new scrambler register: out = in + in(−39) + in(−58). -/
def descrBit (reg : Nat) (b : Bool) : Bool × Nat :=
  ((b != reg.testBit 38) != reg.testBit 57, (reg * 2 + b2n b) % 2 ^ 58)

/-- Descramble payload bits. -/
def descramble (reg : Nat) (bs : List Bool) : List Bool × Nat :=
  let r := bs.foldl (fun (acc : List Bool × Nat) b => let (o, r') := descrBit acc.2 b; (o :: acc.1, r')) ([], reg)
  (r.1.reverse, r.2)

/-- The byte of eight bits, least significant first. -/
def bitsToByte (bs : List Bool) : Byte :=
  BitVec.ofNat 8 ((List.range 8).foldl (fun acc k => acc + (if bs.getD k false then 2 ^ k else 0)) 0)

/-- The block of a header bit and 32 payload bytes; a reserved control block is taken as IDLE and counted (R15, R16). -/
def blockRead (hdr : Bool) (bytes : List Byte) : RxBlock × Bool :=
  if !hdr then (.data bytes, false)
  else
    let rest := allZero (bytes.drop 1)
    match (bytes.getD 0 0).toNat, rest with
    | 0x1E, true => (.idle, false)
    | 0xB4, true => (.sof, false)
    | _, _ => (.idle, true)

/-- The block of 257 bits, its header bit first. -/
def blockOf (hdr : Bool) (payload : List Bool) : RxBlock × Bool :=
  blockRead hdr ((List.range 32).map fun k => bitsToByte (payload.drop (8 * k)))

/-- The 20 blocks of 5,140 message bits, the reserved control blocks among them, and the new descrambler register. -/
def blocksOf (reg : Nat) (msg : List Bool) : List RxBlock × Nat × Nat :=
  (List.range 20).foldl (fun (acc : List RxBlock × Nat × Nat) k =>
    let one := (msg.drop (257 * k)).take 257
    let (pl, reg') := descramble acc.2.2 (one.drop 1)
    let (b, bad) := blockOf (one.getD 0 false) pl
    (acc.1 ++ [b], acc.2.1 + b2n bad, reg')) ([], 0, reg)

/-! ### Sending blocks (R15–R18, R47) -/

/-- One scrambled bit and the new scrambler register: out = in + out(−39) + out(−58). -/
def scrBit (reg : Nat) (b : Bool) : Bool × Nat :=
  let o := (b != reg.testBit 38) != reg.testBit 57
  (o, (reg * 2 + b2n o) % 2 ^ 58)

/-- Scramble payload bits. -/
def scramble (reg : Nat) (bs : List Bool) : List Bool × Nat :=
  let r := bs.foldl (fun (acc : List Bool × Nat) b => let (o, r') := scrBit acc.2 b; (o :: acc.1, r')) ([], reg)
  (r.1.reverse, r.2)

/-- The header bit and the 32 payload bytes of a block to send; a transmitter sends IDLE and SOF only as control blocks. -/
def blockBytes : RxBlock → Bool × List Byte
  | .sof => (true, 0xB4 :: List.replicate 31 0)
  | .data bs => (false, padTo 32 (bs.take 32))
  | _ => (true, 0x1E :: List.replicate 31 0)

/-- The 514 message symbols of 20 blocks, and the new scrambler register. -/
def blocksMessage (reg : Nat) (bs : List RxBlock) : List Nat × Nat :=
  let r := (List.range 20).foldl (fun (acc : List Bool × Nat) k =>
    let (hdr, bytes) := blockBytes (bs.getD k .idle)
    let (pl, reg') := scramble acc.2 (bytes.flatMap fun b => (List.range 8).map fun j => b.toNat.testBit j)
    (acc.1 ++ hdr :: pl, reg')) ([], reg)
  (bitsToSymbols r.1, r.2)

/-- The blocks of a frame: one SOF, then its bytes in data blocks, the last one padded with zeros (R47). -/
def frameBlocks (f : List Byte) : List RxBlock :=
  .sof :: (List.range ((f.length + 31) / 32)).map fun k => .data (padTo 32 (slice f (32 * k) 32))

/-! ### Collecting frames from blocks (R47, R48) -/

/-- What a lane has collected of a frame: nothing since the last frame ended, or bytes and whether a block was errored. -/
abbrev Collect := Option (List Byte × Bool)

/-- A frame a lane delivers: its bytes (without padding), a block errored, cut off by an IDLE or SOF. -/
abbrev LaneFrame := List Byte × Bool × Bool

/-- LEN as collected, once the first data block has come. -/
def collectLen (bs : List Byte) : Option Nat := if bs.length < 4 then none else some (leAt bs 2 2)

/-- One more block: the new collection and the frames that end with it. An errored block takes the place of a data block. -/
def collectBlock (c : Collect) (b : RxBlock) : Collect × List LaneFrame :=
  let cut := match c with
    | some (bs, e) => [(bs, e, true)]
    | none => []
  let more (bs : List Byte) (e : Bool) : Collect × List LaneFrame :=
    match collectLen bs with
    | some n => if n ≤ bs.length then (none, [(bs.take n, e, false)]) else (some (bs, e), [])
    | none => (some (bs, e), [])
  match b, c with
  | .idle, _ => (none, cut)
  | .sof, _ => (some ([], false), cut)
  | .data _, none => (none, [])
  | .data p, some (bs, e) => more (bs ++ padTo 32 p) e
  | .errored, none => (none, [])
  | .errored, some (bs, _) => (none, [(bs, true, true)])

/-- Blocks in order: the new collection and the frames delivered, in order. -/
def collectBlocks (c : Collect) (bs : List RxBlock) : Collect × List LaneFrame :=
  bs.foldl (fun acc b => let r := collectBlock acc.1 b; (r.1, acc.2 ++ r.2)) (c, [])

/-! ### PRBS sequences (R42) -/

/-- Degree and second tap of a pattern's polynomial. -/
def prbsTaps : Nat → Nat × Nat
  | 0 => (7, 6)
  | 1 => (15, 14)
  | _ => (31, 28)

/-- The next bit of the sequence after the last bits `reg` (newest in bit 0), and the register after it. -/
def prbsNext (pat reg : Nat) : Bool × Nat :=
  let (n, m) := prbsTaps pat
  let b := reg.testBit (n - 1) != reg.testBit (m - 1)
  (b, (reg * 2 + b2n b) % 2 ^ n)

/-- The next `n` bits. -/
def prbsBitsOf (pat : Nat) : Nat → Nat → List Bool × Nat
  | 0, reg => ([], reg)
  | k + 1, reg =>
    let (b, r) := prbsNext pat reg
    let (bs, r') := prbsBitsOf pat k r
    (b :: bs, r')

/-- Product of two polynomials over GF(2) modulo x^n + x^(n−m) + 1, which the sequence obeys. -/
def prbsMul (n m a b : Nat) : Nat :=
  ((List.range n).foldl (fun (r, x) i =>
    (if b.testBit i then r ^^^ x else r,
      if x.testBit (n - 1) then (x * 2 % 2 ^ n) ^^^ (2 ^ (n - m) + 1) else x * 2)) (0, a)).1

/-- x to the power `d`, below 2^40. -/
def prbsPow (n m d : Nat) : Nat :=
  ((List.range 40).foldl (fun (r, x) i => (if d.testBit i then prbsMul n m r x else r, prbsMul n m x x)) (1, 2)).1

/-- The register `d` bits later. -/
def prbsJump (pat d reg : Nat) : Nat :=
  let (n, m) := prbsTaps pat
  let c := prbsPow n m d
  let old := (List.range n).map fun i => reg.testBit (n - 1 - i)
  let bs := old ++ (prbsBitsOf pat n reg).1
  (List.range n).foldl (fun acc i =>
    acc * 2 + b2n ((List.range n).foldl (fun p j => p != (c.testBit j && bs.getD (i + j) false)) false)) 0

/-! ### The alignment codeword (R20) -/

/-- The marker. -/
def amMarker : Nat := 0x6A1F3C95D04BE278

/-- Message bits [5139:0] of an alignment codeword. -/
def amMessage (laneId bond seq : Nat) : List Bool :=
  (List.range 5140).map fun k =>
    if k < 64 then amMarker.testBit k
    else if k < 72 then laneId.testBit (k - 64)
    else if k < 80 then bond.testBit (k - 72)
    else if k < 96 then seq.testBit (k - 80)
    else
      let j := k - 96
      if j / 64 % 2 = 0 then amMarker.testBit (j % 64) else !amMarker.testBit (j % 64)

/-- The 544 symbols of an alignment codeword. -/
def amCodeword (laneId bond seq : Nat) : List Nat :=
  let m := bitsToSymbols (amMessage laneId bond seq)
  m ++ rsParity m

/-- Number in message bits `lo` to `lo + n - 1`. -/
def msgNum (msg : List Bool) (lo n : Nat) : Nat :=
  (List.range n).foldl (fun acc k => acc + (if msg.getD (lo + k) false then 2 ^ k else 0)) 0

/-- The message bits carry the marker. -/
def hasMarker (msg : List Bool) : Bool := msgNum msg 0 64 == amMarker

/-! ### 8b/10b (R22) -/

/-- 5b/6b codes for negative running disparity, first bit of highest weight; index 32 is K.28. PRESUMED (log 24). -/
def code56 : List Nat :=
  [0b100111, 0b011101, 0b101101, 0b110001, 0b110101, 0b101001, 0b011001, 0b111000,
   0b111001, 0b100101, 0b010101, 0b110100, 0b001101, 0b101100, 0b011100, 0b010111,
   0b011011, 0b100011, 0b010011, 0b110010, 0b001011, 0b101010, 0b011010, 0b111010,
   0b110011, 0b100110, 0b010110, 0b110110, 0b001110, 0b101110, 0b011110, 0b101011]

/-- 3b/4b data codes for negative running disparity; index 8 is the alternative of 7. -/
def code34 : List Nat := [0b1011, 0b1001, 0b0101, 0b1100, 0b1101, 0b1010, 0b0110, 0b1110, 0b0111]

/-- Ones among the low `n` bits. -/
def popCount (n x : Nat) : Nat := (List.range n).foldl (fun a i => a + b2n (x.testBit i)) 0

/-- A 6-bit or 4-bit sub-block for the current disparity: complemented when positive, where it is unbalanced or one of
the two balanced codes with two forms. -/
def subCode (n c : Nat) (two pos : Bool) : Nat :=
  if pos && (two || popCount n c * 2 != n) then (2 ^ n - 1) - c else c

/-- The code group of a data byte for a running disparity (positive when `pos`). -/
def encData (b : Nat) (pos : Bool) : Nat :=
  let x := b % 32
  let y := b / 32
  let c6 := code56.getD x 0
  let s6 := subCode 6 c6 (x == 7) pos
  let pos4 := if popCount 6 c6 = 3 then pos else !pos
  let alt := y == 7 && ((!pos4 && (x == 17 || x == 18 || x == 20)) || (pos4 && (x == 11 || x == 13 || x == 14)))
  let s4 := subCode 4 (code34.getD (if alt then 8 else y) 0) (y == 3) pos4
  s6 * 16 + s4

/-- The control code groups of Clause 36 for negative running disparity. -/
def kCodes : List (Nat × Nat) :=
  [(0x1C, 0b0011110100), (0x3C, 0b0011111001), (0x5C, 0b0011110101), (0x7C, 0b0011110011),
   (0x9C, 0b0011110010), (0xBC, 0b0011111010), (0xDC, 0b0011110110), (0xFC, 0b0011111000),
   (0xF7, 0b1110101000), (0xFB, 0b1101101000), (0xFD, 0b1011101000), (0xFE, 0b0111101000)]

/-- A decoded code group. -/
inductive Group where
  | data (b : Nat)
  | ctrl (b : Nat)
  | bad
deriving DecidableEq, Repr

/-- Decode a code group for a running disparity. -/
def decGroup (g : Nat) (pos : Bool) : Group :=
  match kCodes.find? (fun kc => (if pos then 1023 - kc.2 else kc.2) == g) with
  | some (k, _) => .ctrl k
  | none =>
    match (List.range 256).find? (fun b => encData b pos == g) with
    | some b => .data b
    | none => .bad

/-- The running disparity after a sub-block of `n` bits: positive after more ones than zeros and after the balanced block that
ends in ones (000111, 0011), negative after the reverse. PRESUMED (log 24). -/
def subRd (n c : Nat) (pos : Bool) : Bool :=
  let half := 2 ^ (n / 2) - 1
  if popCount n c * 2 > n || c == half then true
  else if popCount n c * 2 < n || c == 2 ^ n - 1 - half then false else pos

/-- The running disparity after a code group, by its two sub-blocks. -/
def nextRd (g : Nat) (pos : Bool) : Bool := subRd 4 (g % 16) (subRd 6 (g / 16 % 64) pos)

/-- The code group of a byte, with bit 8 for a control code, for a running disparity. -/
def encGroup (kb : Nat) (pos : Bool) : Nat :=
  if kb < 256 then encData kb pos
  else match kCodes.find? fun kc => kc.1 == kb % 256 with
    | some (_, c) => if pos then 1023 - c else c
    | none => 0

/-- Encode a run of bytes and control codes; answers the groups and the disparity after them. -/
def encGroups (pos : Bool) (kbs : List Nat) : List Nat × Bool :=
  let r := kbs.foldl (fun (acc : List Nat × Bool) kb =>
    let g := encGroup kb acc.2
    (g :: acc.1, nextRd g acc.2)) ([], pos)
  (r.1.reverse, r.2)

/-- K28.5, K28.3, K27.7, K29.7 and K23.7, as bytes with bit 8 set (R23). -/
def kComma : Nat := 0x1BC
def kBeat : Nat := 0x17C
def kStart : Nat := 0x1FB
def kEnd : Nat := 0x1FD
def kExtend : Nat := 0x1F7

/-- Code groups of a twin frame: /TS/, its bytes, /TT/ (R23). -/
def twinGroups (pos : Bool) (f : List Byte) : List Nat := (encGroups pos (kStart :: f.map (·.toNat) ++ [kEnd])).1

/-- Code groups of a heartbeat /TH/: K28.3 and three data code groups (R23). -/
def beatGroups (pos : Bool) (d0 d1 d2 : Nat) : List Nat := (encGroups pos [kBeat, d0 % 256, d1 % 256, d2 % 256]).1

/-- Code groups of an Ethernet frame: /S/ in place of the first preamble octet, preamble, start delimiter, the frame, /T/ and one
or two /R/; the idle sets before it leave the disparity negative. PRESUMED (log 24). -/
def etherGroups (f : List Byte) : List Nat :=
  let body := kStart :: List.replicate 6 0x55 ++ 0xD5 :: f.map (·.toNat) ++ [kEnd, kExtend]
  (encGroups false (if body.length % 2 = 0 then body else body ++ [kExtend])).1

/-- Code groups of the configuration ordered sets /C1/ and /C2/ that carry a word (R24). PRESUMED (log 24). -/
def configGroups (word : Nat) : List Nat :=
  (encGroups false [kComma, 0xB5, word % 256, word / 256 % 256, kComma, 0x42, word % 256, word / 256 % 256]).1

end Sys2Proof.Machine
end

