-- ==== Sys2Proof/Machine/TwinBase.lean ====
section
/-! DEFINITION. What other chapters need of the twin block (chapter 12): its state as registers show it, and sending a
twin frame (R353, R361). -/

namespace Sys2Proof.Machine

/-- TWN_STATUS.STATE of the crown (R354). DEDUCED (log 143). -/
def twnState (s : State) : Nat := s.fget s.crown 0 TWN_STATUS_STATE

/-- The unit is active, or hands over before it leaves, and its standby is in step. -/
def twnInStep (s : State) : Bool := (twnState s == 3 || twnState s == 7) && s.fon s.crown 0 TWN_STATUS_IN_STEP

/-- The unit is active and its standby is in step, or joins and has its snapshot: inputs are delayed and sent (R361, R363). -/
def twnLeads (s : State) : Bool := twnInStep s || (twnState s == 3 && s.twn.joining)

/-- The unit is a standby in SYNC or STANDBY: its inputs come from the active unit (R360). -/
def twnFollows (s : State) : Bool := twnState s == 4 || twnState s == 5

/-- The unit is the standby of a pair: ROLE 2, in SYNC, STANDBY and OUT (R208, R354). -/
def twnStandby (s : State) : Bool := s.fget s.crown 0 TWN_STATUS_ROLE == 2

/-- LEAD in effect (R361). -/
def twnLead (s : State) : Nat := max 16 (s.fget s.crown 0 TWN_TIMING_LEAD)

/-- A twin frame leaves SL2, 8b/10b encoded (R22, R353). -/
def twinSent (s : State) (f : List Byte) : Out := .twin f (twinGroups (Config.txDisparity s.out.length) f)

/-- Send a twin frame (R353). -/
def twinSend (type hearth : Nat) (body : List Byte) (s : State) : State :=
  let b := leBytes 1 type ++ leBytes 1 hearth ++ leBytes 2 body.length ++ leBytes 4 s.twn.txSeq ++ body
  { s with twn := { s.twn with txSeq := (s.twn.txSeq + 1) % 2 ^ 32 } }.emit (twinSent s (b ++ leBytes 4 (crc32c b)))

/-- An EVENT frame (TYPE 5): port, kind, line. -/
def twinEvent (h p kind line : Nat) (s : State) : State :=
  twinSend 5 h (leBytes 1 p ++ leBytes 1 kind ++ leBytes 6 0 ++ leBytes 8 line) s

end Sys2Proof.Machine
end

