-- ==== Sys2Proof/Machine/Firebox.lean ====
section
/-! DEFINITION. Firebox ports, column maps, strobe widths, the Damper and the Fender (chapter 05). -/

namespace Sys2Proof.Machine

/-- Port state (R154). -/
def portState (s : State) (h p : Nat) : Nat := s.fget h p FBX_STATUS_STATE

/-- The hearth has the port. -/
def portOk (s : State) (h p : Nat) : Bool := s.hasH h && decide (p < 12)

/-! ### Column maps (R3, R4, R158, R159, R433) -/

/-- A port's map and geometry: START, DIR, ILV, overlap masks, fitted strands, nozzles per strand. -/
structure PortMap where
  start : Nat
  dir : Bool
  ilv : Bool
  lo : Nat
  hi : Nat
  strands : Nat
  noz : Nat
deriving DecidableEq, Repr

/-- Nozzles of the fitted strands in ascending column order: slot index and column (R3, R158). -/
def PortMap.nozzles (m : PortMap) : List (Nat × Int) :=
  let up := (List.range (4 * m.noz)).filterMap fun k =>
    let pos := k % 4
    let st := if m.ilv then 3 - pos else pos
    if bit m.strands st then some (k - pos + st, if m.dir then (m.start : Int) - k else (m.start : Int) + k) else none
  if m.dir then up.reverse else up

/-- The nozzles no overlap mask covers (R159). -/
def PortMap.open' (m : PortMap) : List (Nat × Int) :=
  let ns := m.nozzles
  let n := ns.length
  (ns.zipIdx.filter fun e =>
    !(decide (e.2 < 128) && bit m.lo e.2) && !(decide (n - 1 - e.2 < 128) && bit m.hi (n - 1 - e.2))).map fun e => e.1

/-- Collect columns into a set of bits; `none` once a column repeats. -/
def addColumns (acc : Option Nat) (cols : List (Nat × Int)) : Option Nat :=
  cols.foldl (fun a e => match a with
    | none => none
    | some b => if bit b e.2.toNat then none else some (b ||| 2 ^ e.2.toNat)) acc

/-- R4: every nozzle within the hearth's columns, no two unmasked nozzles on one column. -/
def mapsOk (ms : List PortMap) : Bool :=
  (ms.all fun m => m.nozzles.all fun e => decide (0 ≤ e.2) && decide (e.2 < columns)) &&
  (ms.foldl (fun a m => addColumns a m.open') (some 0)).isSome

/-- A 128-bit mask held in four words from word `w`. -/
def maskWords (s : State) (h p w : Nat) : Nat :=
  (List.range 4).foldl (fun a k => a + (s.rd h p BLK_FBX (w + k)).toNat * 2 ^ (32 * k)) 0

/-- The active map of a port under its geometry. -/
def activeMap (s : State) (h p : Nat) : PortMap :=
  let v := s.fget h p FBX_CMAP_ACT_MAP
  { start := bits v 0 16, dir := bit v 16, ilv := bit v 17, lo := (s.fbx h p).lo, hi := (s.fbx h p).hi,
    strands := s.fget h p FBX_HEAD_STRANDS, noz := s.fget h p FBX_HEAD_NOZ_M1 + 1 }

/-- The staged map of a port. -/
def stagedMap (s : State) (h p : Nat) : PortMap :=
  { start := s.fget h p FBX_CMAP_START, dir := s.fon h p FBX_CMAP_DIR, ilv := s.fon h p FBX_CMAP_ILV,
    lo := maskWords s h p 0x06, hi := maskWords s h p 0x0A,
    strands := s.fget h p FBX_HEAD_STRANDS, noz := s.fget h p FBX_HEAD_NOZ_M1 + 1 }

/-- The port has an active map. -/
def mapped (s : State) (h p : Nat) : Bool := s.fon h p FBX_CMAP_ACT_VALID

/-- Unmasked nozzles of a port: slot index and column. -/
def portNozzles (s : State) (h p : Nat) : List (Nat × Int) := if mapped s h p then (activeMap s h p).open' else []

/-- The port has unmasked nozzles. -/
def covers (s : State) (h p : Nat) : Bool := !(portNozzles s h p).isEmpty

/-- A port requests a map change. -/
def requests (s : State) (h p : Nat) : Bool := s.fon h p FBX_CMAP_APPLY

/-- Make a staged map active (R159). -/
def mapActivate (h p : Nat) (s : State) : State :=
  let m := stagedMap s h p
  let s := s.setFbx h p { (s.fbx h p) with lo := m.lo, hi := m.hi }
  let s := s.fput h p FBX_CMAP_ACT_MAP (m.start + 2 ^ 16 * b2n m.dir + 2 ^ 17 * b2n m.ilv)
  let s := ((s.fput h p FBX_CMAP_ACT_VALID 1).fput h p FBX_CMAP_ACT_RES 0).fput h p FBX_CMAP_APPLY 0
  s.raise h p FBX_EVENT_CMAP_DONE

/-- Refuse a requested map. -/
def mapRefuse (h p : Nat) (s : State) : State :=
  ((s.fput h p FBX_CMAP_ACT_RES 0x11).fput h p FBX_CMAP_APPLY 0).raise h p FBX_EVENT_CMAP_BAD

/-- The check of all requested maps together with the active maps of the rest (R159, R4). -/
def mapCheck (h : Nat) (s : State) : State :=
  let req := below 12 (requests s h)
  let ms := (List.range 12).filterMap fun p =>
    if requests s h p then some (stagedMap s h p) else if mapped s h p then some (activeMap s h p) else none
  if mapsOk ms then forEach req (mapActivate h) s else forEach req (mapRefuse h) s

/-- CMAP_CHECK (R159): with a requesting port ACTIVE it runs at the first gap line of a slot after the request's, else at once.
DESIGN CHOICE (log 56). -/
def cmapCheck (h : Nat) (s : State) : State :=
  let req := below 12 (requests s h)
  let x := s.ter h
  let atGap := x.cur.typ != 0 && x.cur.idx == x.cur.body && req.all fun p => decide ((s.fbx h p).mapSlot ≤ x.slotNo)
  if s.hasH h && !req.isEmpty && (atGap || req.all fun p => portState s h p != 5) then mapCheck h s else s

/-! ### Defective pages (R182) -/

/-- The page in FIRING on a hearth. -/
def firingPage (s : State) (h : Nat) : Option Page := (heldPages s h).find? fun p => p.st == .firing

/-- Mark a page defective with a reason of R182: first reason and port kept, records and event of DRT. -/
def markReason (h pg why port : Nat) (s : State) : State :=
  match findPage s h pg with
  | none => s
  | some p =>
    if p.defective then s
    else
      let s := (markPage h pg why port s).fput h 0 DRT_DEFECT_PAGE pg
      ((s.fput h 0 DRT_DEFECT_WHY_REASON why).fput h 0 DRT_DEFECT_WHY_PORT port).raise h 0 DRT_EVENT_DEFECT

/-- Mark the page in FIRING, for a port that has unmasked nozzles. -/
def markPort (h p why : Nat) (s : State) : State :=
  match firingPage s h with
  | none => s
  | some pg => if covers s h p then markReason h pg.id why p s else s

/-- Mark the page in FIRING for a hearth-wide reason. DEDUCED (log 155). -/
def markHearth (h why : Nat) (s : State) : State :=
  match firingPage s h with
  | none => s
  | some pg => if (List.range 12).any (covers s h) then markReason h pg.id why 0xF s else s

/-! ### Temperature (R166, R168) -/

/-- Temperature of a SNS code by the port's table (R166). -/
def tempOf (s : State) (h p code : Nat) : Int :=
  let seg := code / 256 % 16
  let a := toS 16 (s.rd h p BLK_FBX (0x20 + seg)).toNat
  let b := toS 16 (s.rd h p BLK_FBX (0x21 + seg)).toNat
  a + ((b - a) * (code % 256 : Nat) + 128) / 256

/-- A change that stages 3 and 5 see: 1 soft on, 2 soft off, 3 hard on, 4 hard off, 5 removed, 6 present (R353). -/
def effectNow (h p kind : Nat) (s : State) : State :=
  let x := s.fbx h p
  s.setFbx h p (match kind with
    | 1 => { x with soft5 := true }
    | 2 => { x with soft5 := false }
    | 3 => { x with hot5 := true, cool5 := false }
    | 4 => { x with cool5 := true }
    | 5 => { x with gone3 := true }
    | _ => { x with gone3 := false })

/-- A port's change reaches stages 3 and 5: at once, at LNUM + LEAD while a standby follows in step, or by the active
unit's EVENT frame on a standby (R360, R361). -/
def portEffect (h p kind : Nat) (s : State) : State :=
  if twnFollows s then s
  else if twnLeads s then
    let l := lnum s h + twnLead s
    twinEvent h p kind l (s.setFbx h p { (s.fbx h p) with sched := (s.fbx h p).sched ++ [(l, kind)] })
  else effectNow h p kind s

/-- Changes that wait for line `l` or an earlier one take effect. -/
def effectsDue (h p l : Nat) (s : State) : State :=
  let x := s.fbx h p
  let due := x.sched.filter fun e => decide (e.1 ≤ l)
  if due.isEmpty then s
  else forEach due (fun e s => effectNow h p e.2 s) (s.setFbx h p { x with sched := x.sched.filter fun e => decide (l < e.1) })

/-- Limits after a temperature sample (R168): the hard limit wins where one sample crosses both (R184). DEDUCED (log 58). -/
def tempLimits (h p : Nat) (t : Int) (s : State) : State :=
  let soft := s.sget h p FBX_TLIM_SOFT
  let hard := s.sget h p FBX_TLIM_HARD
  let hyst : Int := s.fget h p FBX_SENSE_HYST
  let s :=
    if hard ≤ t then
      if s.fon h p FBX_STATUS_HARD && !(s.fbx h p).cooled then s
      else portEffect h p 3 (((s.setFbx h p { (s.fbx h p) with cooled := false }).fput h p FBX_STATUS_HARD 1).raise h p FBX_EVENT_HARD)
    else if soft ≤ t ∧ !s.fon h p FBX_STATUS_SOFT then
      portEffect h p 1 ((s.fput h p FBX_STATUS_SOFT 1).raise h p FBX_EVENT_SOFT)
    else s
  let s :=
    if s.fon h p FBX_STATUS_HARD ∧ t < hard - hyst ∧ !(s.fbx h p).cooled then
      portEffect h p 4 ((s.setFbx h p { (s.fbx h p) with cooled := true }).raise h p FBX_EVENT_COOL)
    else s
  if s.fon h p FBX_STATUS_SOFT ∧ t < soft - hyst then portEffect h p 2 (s.fput h p FBX_STATUS_SOFT 0) else s

/-- Take a SNS sample. -/
def tempTake (h p code : Nat) (s : State) : State :=
  let t := tempOf s h p code
  tempLimits h p t ((s.fput h p FBX_RAW_SNS code).fput h p FBX_MEAS_TEMP (ofS 16 t))

/-- The port samples SNS and VHS: READY, ARMED, ACTIVE or DRAINING. -/
def sampling (s : State) (h p : Nat) : Bool := portOk s h p && decide (3 ≤ portState s h p) && decide (portState s h p ≤ 6)

/-- TEMP_SAMPLE (R166): the sample that is due. -/
def tempSample (h p code : Nat) (s : State) : State :=
  if sampling s h p && (s.fbx h p).snsDue then tempTake h p (code % 4096) (s.setFbx h p { (s.fbx h p) with snsDue := false }) else s

/-- A sample of SNS becomes due on every port of a hearth whose FBX_SENSE names its source: `src` 0 the count of triggers, 1 the time
unit `n` (R166). -/
def snsEvent (h src n : Nat) (s : State) : State :=
  forEach (List.range 12) (fun p s =>
    if sampling s h p && s.fget h p FBX_SENSE_TH_SRC == src && (src == 0 || s.fget h p FBX_SENSE_TH_TU == n) then
      s.setFbx h p { (s.fbx h p) with snsDue := true }
    else s) s

/-! ### Supply and widths (R167) -/

/-- Division rounding half away from zero. -/
def divHalfAway (a b : Int) : Int := if 0 ≤ a then (2 * a + b) / (2 * b) else -((2 * (-a) + b) / (2 * b))

/-- The leading run of strictly ascending temperatures. -/
def ascRun : List (Int × Nat) → List (Int × Nat)
  | [] => []
  | [a] => [a]
  | a :: b :: rest => if a.1 < b.1 then a :: ascRun (b :: rest) else [a]

/-- Base width at temperature `t` from an ascending table. -/
def baseWidth (t : Int) : List (Int × Nat) → Int
  | [] => 0
  | [a] => a.2
  | a :: b :: rest =>
    if t ≤ a.1 then a.2
    else if t < b.1 then a.2 + divHalfAway (((b.2 : Int) - a.2) * (t - a.1)) (b.1 - a.1)
    else baseWidth t (b :: rest)

/-- Width of a phase in 2.5 ns steps from the table, TRIM, VREF, temperature and VHEAD (R167). -/
def strobeWidth (table : List (Int × Nat)) (trim : Int) (vref : Nat) (t : Int) (v : Nat) : Nat :=
  let wb := baseWidth t (ascRun table)
  let wt : Int := wb * (256 + trim) / 256
  let q : Nat := vref * 16384 / max v 5120
  let f : Nat := min 0xFFFF (q * q / 16384)
  (clampI 100 8000 ((wt * (f : Int) + 8192) / 16384)).toNat

/-- The widths of the four phases for line `l` from the privileged values that govern it. -/
def widthsFor (s : State) (h p l : Nat) (t : Int) (v : Nat) : List Nat :=
  let table := (List.range 8).map fun j =>
    (toS 16 (privGet s h p l (FBX_STBT_TEMP j)), privGet s h p l (FBX_STBT_WIDTH j))
  (List.range 4).map fun m => strobeWidth table (toS 8 (privGet s h p l (FBX_PHASE_TRIM m))) (privGet s h p l FBX_VCAL_VREF) t v

/-- VHEAD_SAMPLE (R161, R167): sets the widths of the next line, or its VLIM suppression. A voltage outside u6.10 shows a
value the spec leaves open. DESIGN CHOICE (log 59). -/
def vheadSample (h p code : Nat) (s : State) : State :=
  if !sampling s h p then s
  else
    let v := code % 4096 * s.fget h p FBX_VCAL_VGAIN / 256
    let (shown, s) := if v < 65536 then (v, s) else s.free 16
    let s := (s.fput h p FBX_RAW_VHS code).fput h p FBX_MEAS_VHEAD shown
    let bad := decide (v < s.fget h p FBX_VLIM_VMIN) || decide (s.fget h p FBX_VLIM_VMAX < v)
    let ws := widthsFor s h p (lnum s h + 1) (s.sget h p FBX_MEAS_TEMP) v
    s.setFbx h p { (s.fbx h p) with widths := ws, vbad := bad }

/-! ### Port states (R154–R156, R183) -/

/-- Put a port into a state. -/
def portGo (h p st : Nat) (s : State) : State := s.fput h p FBX_STATUS_STATE st

/-- Start powering (R154). -/
def powerOn (h p : Nat) (s : State) : State := (s.fput h p FBX_STATUS_PWE 1).fput h p FBX_STATUS_STATE 2

/-- Enter PRESENT, and under AUTO_PWR go on to POWERING with PWR set (R154). -/
def enterPresent (h p : Nat) (s : State) : State :=
  let s := s.fput h p FBX_STATUS_STATE 1
  if s.fon h p FBX_CTRL_AUTO_PWR then powerOn h p (s.fput h p FBX_CTRL_PWR 1) else s

/-- Drop power: PWE falls and the port enters PRESENT (R154). -/
def powerOff (h p : Nat) (s : State) : State :=
  enterPresent h p
    ((s.setFbx h p { (s.fbx h p) with pwrOff := false, armedSeen := false, shifting := false, shifted := [] }).fput h p FBX_STATUS_PWE 0)

/-- Reach READY: a pending power-off acts; EN 1 arms (R154). -/
def reachReady (h p : Nat) (s : State) : State :=
  if (s.fbx h p).pwrOff then powerOff h p s
  else
    let s := s.setFbx h p { (s.fbx h p) with armedSeen := false }
    if s.fon h p FBX_CTRL_EN then portGo h p 4 s else portGo h p 3 s

/-- Record the end of a disable (R183). -/
def portDrained (h p res : Nat) (s : State) : State :=
  (s.fput h p FBX_STATUS_DRAIN_RESULT res).raise h p FBX_EVENT_DRAIN_DONE

/-- A page whose last line's strobes have all ended enters FIRED (R165). -/
def endingCheck (h : Nat) (s : State) : State :=
  match (s.ter h).ending with
  | none => s
  | some pg =>
    if (List.range 12).any (fun p => (s.fbx h p).strobes != 0) then s
    else enterFired h pg (s.setTer h { (s.ter h) with ending := none })

/-- A port's strobes have ended: a draining port reaches READY. -/
def strobesEnded (h p : Nat) (s : State) : State :=
  if portState s h p = 6 then portDrained h p 3 (reachReady h p s) else s

/-- Drive every strobe of a port low at once. -/
def strobesOff (h p : Nat) (s : State) : State :=
  if (s.fbx h p).strobes = 0 then s else (s.setFbx h p { (s.fbx h p) with strobes := 0 }).emit (.strobesLow h p)

/-- STROBE_END (R165): phase `m` of a port ends after its width. -/
def strobeEnd (h p m : Nat) (s : State) : State :=
  if portOk s h p && decide (m < 4) && bit (s.fbx h p).strobes m then
    let s := s.setFbx h p { (s.fbx h p) with strobes := (s.fbx h p).strobes ^^^ 2 ^ m }
    if (s.fbx h p).strobes = 0 then endingCheck h (strobesEnded h p s) else s
  else s

/-- The bits of one strand of a line, in the order sent (R162). -/
def strandBits (s : State) (h p : Nat) (slots : Array Nat) (st : Nat) : List Bool :=
  let ns := List.range (s.fget h p FBX_HEAD_NOZ_M1 + 1)
  (if s.fon h p FBX_HEAD_ORDER then ns.reverse else ns).flatMap fun n =>
    let l := slots.getD (4 * n + st) 0
    if s.fon h p FBX_HEAD_BITORD then [bit l 0, bit l 1] else [bit l 1, bit l 0]

/-- A shift ends: what went out on the fitted strands (R161, R162). -/
def shiftEnd (h p : Nat) (levels : Tab Nat) (s : State) : State :=
  let slots := levels.foldl (fun t e => t.setIfInBounds e.1 e.2) (Array.replicate 4096 0)
  let start := max (s.fget h p FBX_TIMING_SHIFT_DLY) (12 + s.fget h p FBX_TIMING_LAT_W)
  let strands := (below 4 (bit (s.fget h p FBX_HEAD_STRANDS))).map fun st => (st, strandBits s h p slots st)
  (s.setFbx h p { (s.fbx h p) with shifting := false, shifted := levels }).emit (.shift h p start (s.fget h p FBX_HEAD_CKDIV) strands)

/-- Nozzle positions shifted on its strand before a slot (R162). -/
def shiftPlace (s : State) (h p slot : Nat) : Nat :=
  if s.fon h p FBX_HEAD_ORDER then s.fget h p FBX_HEAD_NOZ_M1 - slot / 4 else slot / 4

/-- The first of two places at which words are missing. -/
def lostFirst : Option Nat → Option Nat → Option Nat
  | none, b => b
  | some a, none => some a
  | some a, some b => some (min a b)

/-- The shift of line `d` ends. With `sent` = some k it underran after the first k nozzle positions of every strand, and zeros
follow. -/
def shiftOver (h p : Nat) (d : LineD) (sent : Option Nat) (s : State) : State :=
  let x := s.fbx h p
  match lostFirst sent x.lost with
  | none => shiftEnd h p x.shifted s
  | some k =>
    let s := shiftEnd h p (x.shifted.filter fun e => decide (shiftPlace s h p e.1 < k)) s
    let s := (s.count h p FBX_UNDERRUN).raise h p FBX_EVENT_UNDERRUN
    if !(d.inBody && d.typ == 1 && covers s h p) then s
    else match d.page with
      | none => s
      | some pg =>
        if (findPage s h pg).any (fun q => q.st == .firing) then markReason h pg 5 p s
        else s.setFbx h p { (s.fbx h p) with under := true }

/-- SHIFT_DONE (R164): the shift ends, after `sent` positions where it underran. DESIGN CHOICE (log 60). -/
def shiftDone (h p : Nat) (sent : Option Nat) (s : State) : State :=
  if portOk s h p && (s.fbx h p).shifting then shiftOver h p (s.ter h).n1 sent s else s

/-- FORCE_OFF (R183, R295). -/
def portForce (h p : Nat) (s : State) : State :=
  let st := portState s h p
  let s := if st = 5 ∨ st = 6 then markPort h p 6 s else s
  let s := strobesOff h p (s.fput h p FBX_CTRL_EN 0)
  let s := if 4 ≤ st ∧ st ≤ 6 then reachReady h p s else s
  endingCheck h (portDrained h p 4 s)

/-- EN written 0 (R154, R183, R295). -/
def portDisable (h p : Nat) (s : State) : State :=
  let st := portState s h p
  if st = 5 then
    let s := markPort h p 6 s
    if (s.fbx h p).strobes = 0 then portDrained h p 3 (reachReady h p s) else portGo h p 6 s
  else if st = 4 then portDrained h p 3 (reachReady h p s)
  else if st = 6 then s
  else portDrained h p 3 s

/-- PWR written 0 (R154). -/
def portPwrOff (h p : Nat) (s : State) : State :=
  let st := portState s h p
  if st = 2 ∨ st = 3 ∨ st = 4 then powerOff h p s
  else if st = 5 ∨ st = 6 then s.setFbx h p { (s.fbx h p) with pwrOff := true }
  else s

/-- PWR written 1. -/
def portPwrOn (h p : Nat) (s : State) : State :=
  let s := s.setFbx h p { (s.fbx h p) with pwrOff := false }
  if portState s h p = 1 then powerOn h p s else s

/-- RWL fields of a port are open in ABSENT to READY (R183). -/
def fbxOpen (s : State) (h p _w : Nat) : Bool := decide (portState s h p ≤ 3)

/-- A write of FBX_HEAD that changes STRANDS or NOZ_M1 of a mapped port is checked (R433). -/
def headAct (c : WriteCtx) (s : State) : State :=
  let h := c.h
  let p := c.i
  let same := decide (c.was FBX_HEAD_STRANDS = s.fget h p FBX_HEAD_STRANDS) && decide (c.was FBX_HEAD_NOZ_M1 = s.fget h p FBX_HEAD_NOZ_M1)
  if same || !mapped s h p then s
  else
    let ms := (List.range 12).filterMap fun q => if mapped s h q then some (activeMap s h q) else none
    if mapsOk ms then s
    else ((s.wr h p BLK_FBX c.w c.old).fput h p FBX_CMAP_ACT_RES 0x11).raise h p FBX_EVENT_CMAP_BAD

/-- APPLY written 1: request a map change (R159). -/
def applyAct (h p : Nat) (s : State) : State :=
  if portState s h p = 5 then s.setFbx h p { (s.fbx h p) with mapSlot := (s.ter h).slotNo + 1 } else s

/-- After a write of an FBX word. -/
def fbxAct (c : WriteCtx) (s : State) : State :=
  let h := c.h
  let p := c.i
  if c.w = FBX_HEAD.word then headAct c s
  else if c.w = FBX_CMAP.word then (if c.wrote FBX_CMAP_APPLY = 1 then applyAct h p s else s)
  else if c.w ≠ 0 then s
  else if c.wrote FBX_CTRL_FORCE_OFF = 1 then
    let s := portForce h p s
    if c.fell s FBX_CTRL_PWR then portPwrOff h p s else if c.rose s FBX_CTRL_PWR then portPwrOn h p s else s
  else
    let s := if c.fell s FBX_CTRL_EN then portDisable h p s else s
    let s := if c.fell s FBX_CTRL_PWR then portPwrOff h p s else if c.rose s FBX_CTRL_PWR then portPwrOn h p s else s
    if c.rose s FBX_CTRL_EN ∧ portState s h p = 3 then
      portGo h p 4 (s.setFbx h p { (s.fbx h p) with armedSeen := false }) else s

/-- A write of one word of a port. -/
def fbxWrite (h p w : Nat) (value : Word) (s : State) : State :=
  if portOk s h p then hostWrite BLK_FBX fbxOpen fbxAct h p w value false s else s

/-- FBX_FORCE_OFF (R183). -/
def fbxForceOff (h p : Nat) (s : State) : State := if portOk s h p then portForce h p s else s

/-- CMAP_APPLY (R159): a write of APPLY 1 with the staged fields as they stand. -/
def cmapApply (h p : Nat) (s : State) : State := fbxWrite h p FBX_CMAP.word (s.pulse h p BLK_FBX FBX_CMAP.word 24) s

/-- HEAD_PRESENT (R154): ABSENT to PRESENT, and on to POWERING under AUTO_PWR. -/
def headPresent (h p : Nat) (s : State) : State :=
  if portOk s h p && portState s h p == 0 then
    enterPresent h p (portEffect h p 6 ((s.fput h p FBX_STATUS_PRS 1).raise h p FBX_EVENT_HEAD_IN))
  else s

/-- HEAD_SETTLED (R156, R166): SNS sampled, ID measured, READY. -/
def headSettled (h p sns idCode : Nat) (s : State) : State :=
  if portOk s h p && portState s h p == 2 then
    let s := tempTake h p (sns % 4096) s
    let s := ((s.fput h p FBX_ID_CODE idCode).fput h p FBX_ID_VALID 1).raise h p FBX_EVENT_ID_READ
    reachReady h p s
  else s

/-- HEAD_REMOVED (R155). -/
def headRemoved (h p : Nat) (s : State) : State :=
  if portOk s h p && portState s h p != 0 then
    let s := markPort h p 4 s
    let s := portEffect h p 5 (strobesOff h p s)
    let s := s.setFbx h p { (s.fbx h p) with pwrOff := false, armedSeen := false, shifting := false, shifted := [], under := false }
    let s := ((s.fput h p FBX_STATUS_PRS 0).fput h p FBX_STATUS_PWE 0).fput h p FBX_STATUS_STATE 0
    let s := ((s.fput h p FBX_CTRL_EN 0).fput h p FBX_CTRL_PWR 0).fput h p FBX_ID_VALID 0
    endingCheck h (s.raise h p FBX_EVENT_HEAD_OUT)
  else s

/-! ### Damper (R169–R171) -/

/-- Sum of the current bin and the 63 before it. -/
def winSum (x : DmpX) (p : Nat) : Nat := tabGet (fun _ => 0) x.cur p + (tabGet (fun _ => []) x.past p).sum

/-- What the Damper of a line reads: enables, nozzle limit, budget and drop costs of the ports (R139). -/
structure DmpCfg where
  nozEn : Bool
  headEn : Bool
  nLim : Nat
  budget : Nat → Nat
  cost : Nat → Nat → Nat

/-- The Damper's values that govern line `l`. -/
def dmpCfg (s : State) (h l : Nat) : DmpCfg :=
  { nozEn := s.fon h 0 DMP_CTRL_NOZ_EN, headEn := s.fon h 0 DMP_CTRL_HEAD_EN,
    nLim := clampN 1 256 (privGet s h 0 l DMP_NOZ_V),
    budget := fun p => privGet s h 0 l (DMP_BUDGET p),
    cost := fun p lv => if lv = 1 then privGet s h 0 l (DMP_EL_EL1 p) else if lv = 2 then privGet s h 0 l (DMP_EL_EL2 p)
      else privGet s h 0 l (DMP_EL_EL3 p) }

/-- Progress of one line's Damper: histories, suppressed drops, ports over budget. -/
structure DmpRun where
  x : DmpX
  nozSup : Nat := 0
  headSup : Nat := 0
  overs : Nat := 0
deriving DecidableEq, Repr

/-- One drop of level `l` at slot index `i` of port `p` meets the Damper: the level it keeps (R171). -/
def damperDrop (c : DmpCfg) (slot p i l : Nat) (r : DmpRun) : Nat × DmpRun :=
  let k := 4096 * p + i
  let hist := tabGet (fun _ => []) r.x.fires k
  if l = 0 then (0, r)
  else if c.nozEn && decide (c.nLim ≤ hist.length) then (0, { r with nozSup := r.nozSup + 1 })
  else
    let e := c.cost p l
    if c.headEn && decide (c.budget p < winSum r.x p + e) then (0, { r with headSup := r.headSup + 1, overs := r.overs ||| 2 ^ p })
    else (l, { r with x := { r.x with
      fires := tabSet (fun _ => []) r.x.fires k (slot :: hist)
      cur := tabSet (fun _ => 0) r.x.cur p ((tabGet (fun _ => 0) r.x.cur p + e) % 2 ^ 48) } })

/-- One port's line through the Damper, from its rotating start (R171). -/
def damperPort (c : DmpCfg) (lnum p nz : Nat) (lv : Tab Nat) (r : DmpRun) : Tab Nat × DmpRun :=
  let slot := lnum % 256
  let x := { r.x with fires := (r.x.fires.map fun e =>
    if e.1 / 4096 = p ∧ e.1 % 4096 < nz then (e.1, e.2.filter fun k => k != slot) else e).filter fun e => !e.2.isEmpty }
  let st := lnum * 2477 % nz
  let order := (lv.filter fun e => decide (st ≤ e.1)) ++ lv.filter fun e => decide (e.1 < st)
  order.foldl (fun (acc : Tab Nat × DmpRun) e =>
    let (l, r) := damperDrop c slot p e.1 e.2 acc.2
    (tabSet (fun _ => 0) acc.1 e.1 l, r)) ([], { r with x := x })

/-- A line's levels of every port through the Damper, with its counters and status (R171). -/
def damperLine (h l : Nat) (lvs : List (Tab Nat)) (s : State) : List (Tab Nat) × State :=
  let c := dmpCfg s h l
  let (out, r) := lvs.zipIdx.foldl (fun (acc : List (Tab Nat) × DmpRun) e =>
    let (t, r) := damperPort c l e.2 (4 * (s.fget h e.2 FBX_HEAD_NOZ_M1 + 1)) e.1 acc.2
    (acc.1 ++ [t], r)) (([] : List (Tab Nat)), ({ x := s.dmp h } : DmpRun))
  let s := ((s.setDmp h r.x).count h 0 DMP_NOZ_SUP r.nozSup).count h 0 DMP_HEAD_SUP r.headSup
  let s := s.fput h 0 DMP_STATUS_OVER r.overs
  let s := if r.nozSup = 0 then s else s.raise h 0 DMP_EVENT_NOZ_SUP
  (out, if r.headSup = 0 then s else s.raise h 0 DMP_EVENT_HEAD_SUP)

/-- DAMPER_BIN_END (R170): the bin in progress ends and the next begins. -/
def damperBinEnd (h : Nat) (s : State) : State :=
  if !s.hasH h then s
  else
    let x := s.dmp h
    let past := (List.range 12).foldl (fun t p =>
      let bins := (tabGet (fun _ => 0) x.cur p :: tabGet (fun _ => []) t p).take 63
      tabSet (fun _ => []) t p (if bins.all (fun b => b == 0) then [] else bins)) x.past
    s.setDmp h { x with cur := [], past := past }

/-! ### Fender (R172, R173) -/

/-- Gates in force: enabled, and asserted or latched; with VAUX low every enabled one (R173, R329). -/
def gatesInForce (s : State) : Nat :=
  s.fget 0 0 FND_CTRL_EN &&& (s.gates ||| s.fget 0 0 FND_LATCHED_V ||| (if s.vauxLow then 0xFF else 0))

/-- Show the gates in force. -/
def gateShow (s : State) : State := s.fput 0 0 FND_STATUS_ACTIVE (gatesInForce s)

/-- FENDER_ASSERT (R172, R173): a gate's filtered assertion. -/
def fenderAssert (g : Nat) (s : State) : State :=
  if g < 8 ∧ !bit s.gates g then
    let s := { s with gates := s.gates ||| 2 ^ g }
    let s := s.fput 0 0 FND_STATUS_PIN (s.fget 0 0 FND_STATUS_PIN ||| 2 ^ g)
    let s := if bit (s.fget 0 0 FND_CTRL_LATCH) g then s.fput 0 0 FND_LATCHED_V (s.fget 0 0 FND_LATCHED_V ||| 2 ^ g) else s
    gateShow (s.raise 0 0 ⟨BLK_FND, FND_EVENT.word, g, 1⟩)
  else s

/-- FENDER_RELEASE (R172). -/
def fenderRelease (g : Nat) (s : State) : State :=
  if g < 8 ∧ bit s.gates g then
    let s := { s with gates := s.gates ^^^ 2 ^ g }
    let pin := s.fget 0 0 FND_STATUS_PIN
    let s := if bit pin g then s.fput 0 0 FND_STATUS_PIN (pin ^^^ 2 ^ g) else s
    gateShow (s.raise 0 0 ⟨BLK_FND, FND_EVENT.word, 8 + g, 1⟩)
  else s

def fndOpen (_ : State) (_ _ _ : Nat) : Bool := true

/-- After a write of an FND word (R173): a latch whose assertion is still present stays. -/
def fndAct (c : WriteCtx) (s : State) : State :=
  if c.w = FND_LATCHED.word then
    gateShow (s.fput 0 0 FND_LATCHED_V (s.fget 0 0 FND_LATCHED_V ||| (bits c.old.toNat 0 8 &&& s.gates)))
  else if c.w = 0 then gateShow s
  else s

/-- FENDER_LATCH_CLEAR (R173): a W1C write of FND_LATCHED. -/
def fenderLatchClear (value : Word) (s : State) : State := hostWrite BLK_FND fndOpen fndAct 0 0 FND_LATCHED.word value false s

/-- FND_EN_WRITE (R173): a write of FND_CTRL. -/
def fndEnWrite (value : Word) (s : State) : State := hostWrite BLK_FND fndOpen fndAct 0 0 0 value false s

end Sys2Proof.Machine
end

