-- ==== Sys2Proof/Machine/Motion.lean ====
section
/-! DEFINITION. Motion axes (chapter 07): queue, profile, outputs, switches, homing, disabling. Axis `a` is instance
a mod 4 of block MOT on hearth a / 4 (R214). -/

namespace Sys2Proof.Machine

/-- The axis exists. -/
def axisOk (a : Nat) : Bool := decide (a < 8)

/-- Field access of an axis. -/
def State.mget (s : State) (a : Nat) (f : Fld) : Nat := s.fget (a / 4) (a % 4) f
def State.mon (s : State) (a : Nat) (f : Fld) : Bool := s.fon (a / 4) (a % 4) f
def State.mput (s : State) (a : Nat) (f : Fld) (v : Nat) : State := s.fput (a / 4) (a % 4) f v
def State.mraise (s : State) (a : Nat) (f : Fld) : State := s.raise (a / 4) (a % 4) f
def State.mcount (s : State) (a : Nat) (f : Fld) (n : Nat) : State := s.count (a / 4) (a % 4) f n

/-- Position and state of an axis. -/
def axPos (s : State) (a : Nat) : Int := toS 32 (s.mget a MOT_POS)
def axState (s : State) (a : Nat) : Nat := s.mget a MOT_STATUS_STATE
def axGo (a st : Nat) (s : State) : State := s.mput a MOT_STATUS_STATE st

/-- Sign of an integer. -/
def sgn (x : Int) : Int := if x < 0 then -1 else if 0 < x then 1 else 0

/-- Show velocity and queue depth. -/
def axShow (a : Nat) (s : State) : State :=
  let x := s.axis a
  (s.mput a MOT_VEL (ofS 32 (x.dirn * (x.v / 2 ^ 16 : Nat)))).mput a MOT_STATUS_DEPTH x.queue.length

/-- Microunits per step of the resolution index k. -/
def stepG (k : Nat) : Nat := 4 ^ k

/-- Resolution index of the step output (R231). DEDUCED (log 70). -/
def stepK (s : State) (a : Nat) : Nat := min 4 (s.mget a MOT_CFG_RES)

/-- Most the velocity may be (R226), in 2^-48 microunit per clock. -/
def vCap (s : State) (a : Nat) : Nat :=
  if s.mon a MOT_CFG_OUT then 2 ^ 46 else min (2 ^ 46) (stepG (stepK s a) * 2 ^ 48 / 25)

/-- A limit in direction `d` is active (R235). -/
def limitActive (s : State) (a : Nat) (d : Int) : Bool :=
  let pol := s.mon a MOT_CFG_LIM_POL
  (decide (0 < d) && (s.axis a).limp == pol) || (decide (d < 0) && (s.axis a).limn == pol)

/-- HOME is active. -/
def homeActive (s : State) (a : Nat) : Bool := (s.axis a).home == s.mon a MOT_CFG_HOME_POL

/-! ### Feeds (R238) -/

/-- A move has ended, `ok` when it reached its target: the command that waits for it, the feed it was. -/
def feedEnd (a : Nat) (ok : Bool) (m : Move) (s : State) : State :=
  let s := noteDop m.owner (a / 4) (if ok then 0 else 4) s
  match m.feed with
  | none => s
  | some h =>
    let s := s.fput h 0 DRT_STATUS_FEED_BUSY 0
    if ok then s.setDrt h { (s.drt h) with feedDone := true } else s

/-- Discard moves, counted (R236, R239, R240). -/
def discard (a : Nat) (ms : List Move) (s : State) : State :=
  forEach ms (feedEnd a false) (if ms.isEmpty then s else s.mcount a MOT_ABORTED ms.length)

/-! ### Queue (R228) -/

/-- Where the next queued move starts from: the target queued last, or the position. -/
def queueEnd (s : State) (a : Nat) : Int :=
  match (s.axis a).queue.getLast? with
  | some m => m.target
  | none => match (s.axis a).cur with
    | some m => m.target
    | none => axPos s a

/-- The coils are driven: the axis is held (R234). -/
def coilsOn (a : Nat) (s : State) : State := (s.setAxis a { (s.axis a) with cmd := 0 }).mput a MOT_STATUS_UNHELD 0

/-- Wake an unheld axis for a move (R234). DEDUCED (log 71). -/
def wake (a : Nat) (s : State) : State :=
  if (s.axis a).cmd = 0 then s
  else
    let s := coilsOn a s
    s.setAxis a { (s.axis a) with waking := true }

/-- Queue a move, or refuse it (R226, R228). Answers whether it was queued. -/
def queuePush (a : Nat) (target : Int) (vmax : Nat) (blend : Bool) (feed : Option Nat) (s : State)
    (owner : Option (Nat × Nat) := none) : State × Bool :=
  let x := s.axis a
  let st := axState s a
  let d := sgn (target - queueEnd s a)
  if 16 ≤ x.queue.length ∨ st = 0 ∨ st = 4 ∨ st = 5 ∨ st = 6 ∨ limitActive s a d then
    ((s.mcount a MOT_Q_REFUSED 1).mraise a MOT_EVENT_Q_REFUSED, false)
  else
    let cap := vCap s a / 2 ^ 16
    let s := if cap < vmax then (s.mcount a MOT_CLAMP 1).mraise a MOT_EVENT_CLAMP else s
    let x := s.axis a
    (axShow a (wake a (s.setAxis a { x with queue := x.queue ++ [⟨target, min cap vmax, blend, feed, owner⟩] })), true)

/-- A feed asked for by a hearth's Draught (R180, R238). -/
def feedRequest (h a : Nat) (feed : Int) (s : State) : State :=
  let s := (s.setDrt h { (s.drt h) with feedDone := false }).fput h 0 DRT_STATUS_FEED_BUSY 1
  if axisOk a then (queuePush a (toS 32 (ofS 32 (queueEnd s a + feed))) (s.mget a MOT_FEED_V) false (some h) s).1 else s

/-! ### Resolution (R231) -/

/-- k falls at once, as far as the velocity lets it. -/
def resDown (a : Nat) : Nat → State → State
  | 0, s => s
  | n + 1, s =>
    let k := s.mget a MOT_STATUS_K
    if 0 < k ∧ (s.axis a).v < (s.mget a (MOT_RESTHR (k - 1)) - s.mget a MOT_RES_HYST) * 2 ^ 16 then
      resDown a n (s.mput a MOT_STATUS_K (k - 1))
    else s

/-- k rises while the velocity asks for it and the position is a multiple of the new g. -/
def resUp (a : Nat) : Nat → State → State
  | 0, s => s
  | n + 1, s =>
    let k := s.mget a MOT_STATUS_K
    if k < 4 ∧ s.mget a (MOT_RESTHR k) * 2 ^ 16 ≤ (s.axis a).v ∧ axPos s a % (stepG (k + 1) : Int) = 0 then
      resUp a n (s.mput a MOT_STATUS_K (k + 1))
    else s

/-- Resolution of the link after the velocity or the position changed. -/
def resFollow (a : Nat) (s : State) : State := if s.mon a MOT_CFG_OUT then resUp a 4 (resDown a 4 s) else s

/-! ### Stops and ends -/

/-- The axis comes to IDLE from OFF, its coils driven. -/
def axOn (a : Nat) (s : State) : State :=
  (axGo a 1 (coilsOn a s)).mput a MOT_STATUS_K (if s.mon a MOT_CFG_OUT then 0 else stepK s a)

/-- The axis comes to OFF (R240). -/
def axOff (a res : Nat) (s : State) : State :=
  let x := s.axis a
  let s := s.setAxis a { x with v := 0, cur := none, queue := [], vj := 0, homing := 0, ramp := false, lost := false,
                                again := false, cmd := 1, waking := false, endedAt := none }
  let s := ((axGo a 0 s).mput a MOT_STATUS_HOMED 0).mput a MOT_STATUS_DRAIN_RESULT res
  let s := axShow a (s.mraise a MOT_EVENT_DRAIN_DONE)
  if x.again then axOn a (s.mput a MOT_CTRL_EN 1) else s

/-- The axis has come to rest with nothing left to do: OFF at the end of a drain, else IDLE. -/
def axRest (a : Nat) (s : State) : State :=
  let x := s.axis a
  if axState s a = 6 then axOff a (if x.lost then 4 else 3) s
  else axShow a (resFollow a (axGo a 1 (s.setAxis a { x with v := 0, vj := 0, ramp := false, homing := 0 })))

/-- A limit stops the axis at once (R236, R237). -/
def limitStop (a : Nat) (s : State) : State :=
  let x := s.axis a
  let ms := x.cur.toList ++ x.queue
  let s := discard a ms (s.setAxis a { x with v := 0, cur := none, queue := [], vj := 0, homing := 0, ramp := false })
  let s := s.mraise a MOT_EVENT_LIMIT
  let s := if x.homing = 0 then s else s.mraise a MOT_EVENT_HOME_FAIL
  if axState s a = 6 then axOff a 4 s else axShow a (resFollow a (axGo a 5 s))

/-- A move reached its target. -/
def moveDone (a : Nat) (m : Move) (s : State) : State :=
  let s := (feedEnd a true m s).mraise a MOT_EVENT_MOVE_DONE
  let s := s.setAxis a { (s.axis a) with endedAt := some s.now }
  if (s.axis a).queue.isEmpty then s.mraise a MOT_EVENT_Q_EMPTY else s

/-- Take moves from the queue until one has a way to go (R228, R230, R236). -/
def takeMove (a : Nat) : Nat → State → State
  | 0, s => s
  | n + 1, s =>
    match (s.axis a).queue with
    | [] => s
    | m :: rest =>
      let s := s.setAxis a { (s.axis a) with queue := rest }
      let d := sgn (m.target - axPos s a)
      if d = 0 then takeMove a n (moveDone a m s)
      else
        let s := s.setAxis a { (s.axis a) with cur := some m, aCur := s.mget a MOT_ACC, dCur := s.mget a MOT_DEC, dirn := d }
        if limitActive s a d then limitStop a s else if axState s a = 1 then axGo a 2 s else s

/-! ### Steps and outputs (R227, R231) -/

/-- Outputs of a step: a STEP pulse at each change of floor(pos / g); under the link the resolution follows. -/
def stepOutputs (a : Nat) (old new : Int) (s : State) : State :=
  if s.mon a MOT_CFG_OUT then resFollow a s
  else
    let g : Int := stepG (stepK s a)
    if old / g = new / g then s else s.emit (.step a (decide (old < new) != s.mon a MOT_CFG_DIR_POL))

/-- One microunit (R227). -/
def stepOnce (a : Nat) (s : State) : State :=
  let old := axPos s a
  let new := toS 32 (ofS 32 (old + (s.axis a).dirn))
  let s := stepOutputs a old new (s.mput a MOT_POS (ofS 32 new))
  match (s.axis a).cur with
  | none => s
  | some m =>
    if new ≠ m.target then s
    else
      let s := moveDone a m s
      let x := s.axis a
      match x.queue with
      | m' :: rest =>
        if x.vj = 0 then axShow a (resFollow a (s.setAxis a { x with v := 0, cur := none }))
        else axShow a (s.setAxis a { x with cur := some m', queue := rest, aCur := s.mget a MOT_ACC, dCur := s.mget a MOT_DEC })
      | [] => axRest a (s.setAxis a { x with v := 0, cur := none, vj := 0 })

/-- Clocks to the next carry of the accumulator, where the axis moves. -/
def carryIn (x : AxX) : Option Nat := if x.v = 0 then none else some ((2 ^ 48 - x.acc + x.v - 1) / x.v)

/-- The next carry, if it falls before the next profile tick (R227). -/
def axisStep (a : Nat) (s : State) : State :=
  let x := s.axis a
  match carryIn x with
  | none => s
  | some n =>
    if 1000 < x.clk + n then s
    else stepOnce a (s.setAxis a { x with acc := (x.acc + n * x.v) % 2 ^ 48, clk := x.clk + n })

/-- AXIS_STEP (R227). -/
def axisStepRow (a : Nat) (s : State) : State := if axisOk a then axisStep a s else s

/-- The carries still due before a profile tick. -/
def stepsDue (a : Nat) : Nat → State → State
  | 0, s => s
  | n + 1, s =>
    match carryIn (s.axis a) with
    | none => s
    | some k => if 1000 < (s.axis a).clk + k then s else stepsDue a n (axisStep a s)

/-! ### Profile (R229, R230) -/

/-- Integer square root by bits from 2^b down. -/
def isqrtFrom (n : Nat) : Nat → Nat → Nat
  | 0, r => r
  | b + 1, r => let t := r + 2 ^ b; if t * t ≤ n then isqrtFrom n b t else isqrtFrom n b r

/-- Integer square root. -/
def isqrt (n : Nat) : Nat := isqrtFrom n (n.log2 / 2 + 1) 0

/-- Joint velocity with the move behind the current one (R229). DESIGN CHOICE (log 67). -/
def jointV (x : AxX) (m : Move) (dd : Nat) : Nat :=
  match x.queue with
  | [] => 0
  | hd :: _ =>
    if m.blend ∧ sgn (hd.target - m.target) = x.dirn ∧ dd ≠ 0 then
      min (min (m.vmax * 2 ^ 16) (hd.vmax * 2 ^ 16)) (isqrt (2 * dd * ((hd.target - m.target).natAbs * 2 ^ 48) / 1000))
    else 0

/-- Ramp down by `dd` towards rest. -/
def rampDown (v dd : Nat) : Nat := if dd < v then v - dd else 0

/-- Velocity and joint velocity of the next 20 µs of a move (R229). The stopping distance is a number of 2^-48 microunit;
with d_cur 0 it is a division by zero, and `open'` stands for what the spec leaves open. -/
def profileV (x : AxX) (m : Move) (pos : Int) (open' : Nat) : Nat × Nat :=
  let da := x.aCur * 256
  let dd := x.dCur * 256
  let rem := ((m.target - pos) * x.dirn).toNat
  let vj := jointV x m dd
  let top := m.vmax * 2 ^ 16
  let dstop : Int := if dd = 0 then open' else 1000 * ((x.v : Int) ^ 2 - (vj : Int) ^ 2) / (2 * dd : Nat) + 1000 * x.v
  if ((rem * 2 ^ 48 : Nat) : Int) ≤ dstop then
    let vf := if 0 < vj then vj else min dd top
    (if vf + dd < x.v then x.v - dd else vf, vj)
  else (min top (x.v + da), vj)

/-- Homing has come to rest after its edge: the position is redefined (R237). -/
def homingDone (a : Nat) (s : State) : State :=
  let p := toS 32 (s.mget a MOT_HOME_POS) + (axPos s a - toS 32 (s.mget a MOT_LATCH))
  let s := ((s.mput a MOT_POS (ofS 32 p)).mput a MOT_STATUS_HOMED 1).mraise a MOT_EVENT_HOME_DONE
  axRest a s

/-- The profile of one tick, all carries before it done (R229, R237, R239). -/
def profileTick (a : Nat) (s : State) : State :=
  let x := s.axis a
  let st := axState s a
  if st = 0 ∨ st = 5 ∨ x.waking then s
  else if x.ramp then
    let v := rampDown x.v (x.dCur * 256)
    if v = 0 then
      let s := match x.cur with
        | some m => feedEnd a false m s
        | none => s
      axRest a (s.setAxis a { (s.axis a) with cur := none, v := 0 })
    else axShow a (resFollow a (s.setAxis a { x with v := v }))
  else if x.homing = 1 then
    axShow a (resFollow a (s.setAxis a { x with v := min (min (s.mget a MOT_HOME_V * 2 ^ 16) (vCap s a)) (x.v + x.aCur * 256) }))
  else if x.homing = 2 then
    let v := rampDown x.v (x.dCur * 256)
    let s := s.setAxis a { x with v := v }
    if v = 0 then homingDone a s else axShow a (resFollow a s)
  else
    let s := if x.cur.isNone then takeMove a 17 s else s
    let x := s.axis a
    match x.cur with
    | none => if axState s a = 2 ∨ axState s a = 6 then axRest a s else axShow a s
    | some m =>
      let x := { x with dirn := sgn (m.target - axPos s a) }
      let (o, s) := if x.dCur = 0 then s.free 128 else (0, s)
      let (v, vj) := profileV x m (axPos s a) o
      axShow a (resFollow a (s.setAxis a { x with v := v, vj := vj }))

/-- PROFILE_TICK (R227, R229): the carries before it, then the profile. -/
def profileTickRow (a : Nat) (s : State) : State :=
  if axisOk a then
    let s := stepsDue a 1000 s
    let x := s.axis a
    profileTick a (s.setAxis a { x with acc := (x.acc + (1000 - x.clk) * x.v) % 2 ^ 48, clk := 0 })
  else s

/-! ### Phase-setpoint link (R232, R233) -/

/-- sinq of R233: 2047 × sin(π i / 512) rounded half up, i = 0 … 256. -/
def sinq : List Nat :=
  [0, 13, 25, 38, 50, 63, 75, 88, 100, 113, 126, 138, 151, 163, 176, 188, 201, 213, 226, 238, 251, 263, 275, 288, 300, 313, 325, 338, 350, 362, 375, 387] ++
  [399, 412, 424, 436, 449, 461, 473, 485, 497, 510, 522, 534, 546, 558, 570, 582, 594, 606, 618, 630, 642, 654, 666, 678, 690, 701, 713, 725, 737, 748, 760, 772] ++
  [783, 795, 807, 818, 830, 841, 852, 864, 875, 887, 898, 909, 920, 932, 943, 954, 965, 976, 987, 998, 1009, 1020, 1031, 1042, 1052, 1063, 1074, 1085, 1095, 1106, 1116, 1127] ++
  [1137, 1148, 1158, 1168, 1179, 1189, 1199, 1209, 1219, 1229, 1239, 1249, 1259, 1269, 1279, 1289, 1299, 1308, 1318, 1328, 1337, 1347, 1356, 1365, 1375, 1384, 1393, 1402, 1411, 1421, 1430, 1439] ++
  [1447, 1456, 1465, 1474, 1483, 1491, 1500, 1508, 1517, 1525, 1533, 1542, 1550, 1558, 1566, 1574, 1582, 1590, 1598, 1606, 1614, 1621, 1629, 1637, 1644, 1652, 1659, 1666, 1674, 1681, 1688, 1695] ++
  [1702, 1709, 1716, 1723, 1729, 1736, 1743, 1749, 1756, 1762, 1769, 1775, 1781, 1787, 1793, 1799, 1805, 1811, 1817, 1823, 1828, 1834, 1840, 1845, 1850, 1856, 1861, 1866, 1871, 1876, 1881, 1886] ++
  [1891, 1896, 1901, 1905, 1910, 1914, 1919, 1923, 1927, 1932, 1936, 1940, 1944, 1948, 1951, 1955, 1959, 1962, 1966, 1969, 1973, 1976, 1979, 1983, 1986, 1989, 1992, 1994, 1997, 2000, 2003, 2005] ++
  [2008, 2010, 2012, 2015, 2017, 2019, 2021, 2023, 2025, 2027, 2028, 2030, 2032, 2033, 2035, 2036, 2037, 2038, 2039, 2040, 2041, 2042, 2043, 2044, 2045, 2045, 2046, 2046, 2046, 2047, 2047, 2047] ++
  [2047]

/-- sin1024 of R233. -/
def sin1024 (t : Nat) : Int :=
  let i := t % 256
  match t / 256 % 4 with
  | 0 => sinq.getD i 0
  | 1 => sinq.getD (256 - i) 0
  | 2 => -(sinq.getD i 0 : Int)
  | _ => -(sinq.getD (256 - i) 0 : Int)

/-- CRC-6 of `n` bits of `x`, most significant first, polynomial x^6 + x + 1 (R233). -/
def crc6 (x : Nat) : Nat → Nat
  | 0 => 0
  | n + 1 =>
    let c := crc6 (x / 2) n
    let top := bit c 5 != bit x 0
    (c * 2 % 64) ^^^ (if top then 3 else 0)

/-- Currents IA and IB of amplitude `amp` at the electrical angle `th`. -/
def coilCurrents (amp th : Nat) : Int × Int :=
  (((amp : Int) * sin1024 ((th + 256) % 1024) + 1024) / 2048, ((amp : Int) * sin1024 th + 1024) / 2048)

/-- The 40-bit frame from its fields. DEDUCED (log 69). -/
def phaseFrame (cmd mode seq : Nat) (ia ib : Int) : Nat :=
  let top := (((0xA * 4 + cmd) * 2 + mode) * 8 + seq) * 2 ^ 24 + ofS 12 ia * 2 ^ 12 + ofS 12 ib
  top * 64 + crc6 top 34

/-- PHASE_FRAME_SENT (R232, R233): one frame 1 µs after a profile tick, under the link. -/
def phaseFrameSent (a : Nat) (s : State) : State :=
  if axisOk a && s.mon a MOT_CFG_OUT then
    let x := s.axis a
    let thr := s.mget a MOT_MODE_THR
    let s := if thr * 2 ^ 16 ≤ x.v then s.mput a MOT_STATUS_STRONG 1
      else if x.v < (thr - s.mget a MOT_MODE_HYST) * 2 ^ 16 then s.mput a MOT_STATUS_STRONG 0 else s
    let amp := if x.v ≠ 0 ∨ x.waking ∨ x.cur.isSome then s.mget a MOT_CUR_RUN else s.mget a MOT_CUR_HOLD
    let g : Int := stepG (s.mget a MOT_STATUS_K)
    let (ia, ib) := if x.cmd = 0 then coilCurrents amp (ofS 10 (axPos s a / g * g)) else (0, 0)
    (s.setAxis a { x with seq := (x.seq + 1) % 8 }).emit (.phase a (phaseFrame x.cmd (b2n (s.mon a MOT_STATUS_STRONG)) x.seq ia ib))
  else s

/-! ### Standstill (R234) -/

/-- STANDSTILL: at rest, in IDLE or LIMIT, with an empty queue for DELAY ms. -/
def standstill (a : Nat) (s : State) : State :=
  let x := s.axis a
  if axisOk a && (axState s a == 1 || axState s a == 5) && x.v == 0 && x.queue.isEmpty && x.cmd == 0 && !x.waking then
    let act := s.mget a MOT_IDLE_ACT
    let s := s.mraise a MOT_EVENT_STANDSTILL
    if act = 0 then s
    else
      let cmd := if act = 2 ∧ s.mon a MOT_CFG_OUT then 2 else 1
      (s.setAxis a { x with cmd := cmd }).mput a MOT_STATUS_UNHELD 1
  else s

/-- WAKE_DELAY_END: the waiting move may start. -/
def wakeDelayEnd (a : Nat) (s : State) : State :=
  if axisOk a then s.setAxis a { (s.axis a) with waking := false } else s

/-! ### Switches (R235–R237) -/

/-- A HOME edge has passed: while homing seeks it, the position of its opening edge is latched. -/
def homeEdge (a : Nat) (edgePos : Int) (s : State) : State :=
  let x := s.axis a
  if x.homing = 1 then (s.setAxis a { x with homing := 2 }).mput a MOT_LATCH (ofS 32 edgePos) else s

/-- A limit edge has passed: active and ahead of the motion, it stops the axis; a move that reached its target at this
very clock has completed, and the limit discards what is queued behind it (R241). DEDUCED (log 65). -/
def limitEdge (a : Nat) (d : Int) (s : State) : State :=
  let x := s.axis a
  let moves := x.cur.isSome || x.homing != 0 || x.v != 0 || axState s a == 2 || (x.endedAt == some s.now && axState s a == 1)
  if limitActive s a d && decide (x.dirn = d) && moves then limitStop a s else s

/-- SWITCH_DEBOUNCE_END (R235): the window of HOME (0), LIMN (1) or LIMP (2) ends with the input at `level`; its opening
edge was at position `edgePos`. -/
def switchDebounceEnd (a sw : Nat) (level : Bool) (edgePos : Int) (s : State) : State :=
  if !axisOk a then s
  else
    let x := s.axis a
    if sw = 0 then (if level = x.home then s else homeEdge a edgePos (s.setAxis a { x with home := level }))
    else if sw = 1 then (if level = x.limn then s else limitEdge a (-1) (s.setAxis a { x with limn := level }))
    else if sw = 2 then (if level = x.limp then s else limitEdge a 1 (s.setAxis a { x with limp := level }))
    else s

/-! ### Writes (R228, R236, R237, R239, R240) -/

/-- RWL fields of MOT are open in OFF. -/
def motOpen (s : State) (h i _w : Nat) : Bool := axState s (4 * h + i) == 0

/-- HOME written 1 (R237). -/
def homeWrite (a : Nat) (s : State) : State :=
  let x := s.axis a
  if axState s a ≠ 1 ∨ !x.queue.isEmpty then (s.mcount a MOT_Q_REFUSED 1).mraise a MOT_EVENT_Q_REFUSED
  else
    let s := s.mput a MOT_STATUS_HOMED 0
    if homeActive s a then s.mraise a MOT_EVENT_HOME_FAIL
    else
      let d : Int := if s.mon a MOT_HOME_DIR then 1 else -1
      let s := wake a s
      let s := axGo a 4 (s.setAxis a { (s.axis a) with
        homing := 1, dirn := d, v := 0, aCur := s.mget a MOT_ACC, dCur := s.mget a MOT_DEC })
      if limitActive s a d then limitStop a s else s

/-- STOP written 1 (R239). DEDUCED (log 66). -/
def stopWrite (a : Nat) (s : State) : State :=
  let st := axState s a
  if st = 2 ∨ st = 4 then
    let x := s.axis a
    axShow a (axGo a 3 (discard a x.queue (s.setAxis a { x with queue := [], ramp := true, homing := 0, vj := 0 })))
  else if st = 1 then
    let x := s.axis a
    axShow a (discard a x.queue (s.setAxis a { x with queue := [] }))
  else s

/-- CLR written 1 (R236). -/
def clrWrite (a : Nat) (s : State) : State := if axState s a = 5 then axGo a 1 s else s

/-- FORCE_OFF (R240). -/
def motForce (a : Nat) (s : State) : State :=
  let x := s.axis a
  axOff a 4 (discard a (x.cur.toList ++ x.queue) (s.setAxis a { x with again := false, queue := [], cur := none }))

/-- EN written 0 (R240): queued moves are discarded, the current one runs on. -/
def motDisable (a : Nat) (s : State) : State :=
  let x := s.axis a
  let st := axState s a
  let s := discard a x.queue (s.setAxis a { x with queue := [], lost := !x.queue.isEmpty })
  if st = 0 then s
  else if x.cur.isSome ∨ x.homing ≠ 0 ∨ x.ramp then axShow a (axGo a 6 s)
  else axOff a (if x.queue.isEmpty then 3 else 4) s

/-- After a write of a MOT word. -/
def motAct (c : WriteCtx) (s : State) : State :=
  let a := 4 * c.h + c.i
  if c.w = MOT_POS.word then s.mput a MOT_STATUS_HOMED (if axState s a = 0 then 0 else s.mget a MOT_STATUS_HOMED)
  else if c.w = MOT_Q_PUSH.word then
    let t := toS 32 (s.mget a MOT_Q_TARGET)
    let target := if c.wrote MOT_Q_PUSH_KIND = 1 then toS 32 (ofS 32 (queueEnd s a + t)) else t
    (queuePush a target (s.mget a MOT_Q_VMAX) (c.wrote MOT_Q_PUSH_BLEND == 1) none s).1
  else if c.w ≠ 0 then s
  else if c.wrote MOT_CTRL_FORCE_OFF = 1 then motForce a (s.mput a MOT_CTRL_EN 0)
  else
    let s :=
      if c.rose s MOT_CTRL_EN then
        if axState s a = 6 then (s.mput a MOT_CTRL_EN 0).setAxis a { (s.axis a) with again := true }
        else axOn a s
      else if c.fell s MOT_CTRL_EN then motDisable a s
      else s
    let s := if c.wrote MOT_CTRL_STOP = 1 then stopWrite a s else s
    let s := if c.wrote MOT_CTRL_CLR = 1 then clrWrite a s else s
    if c.wrote MOT_CTRL_HOME = 1 then homeWrite a s else s

/-- A write of one word of an axis. -/
def motWrite (a w : Nat) (value : Word) (s : State) : State :=
  if axisOk a then hostWrite BLK_MOT motOpen motAct (a / 4) (a % 4) w value false s else s

/-- MOT_CTRL as it stands with one bit written 1. -/
def ctrlWith (s : State) (a b : Nat) : Word := s.pulse (a / 4) (a % 4) BLK_MOT 0 b

/-- MOT_DRAIN_TIMEOUT (R240): the move in progress ramps to rest, the result is ABORTED. -/
def motDrainTimeout (a : Nat) (s : State) : State :=
  if axisOk a && axState s a == 6 then s.setAxis a { (s.axis a) with ramp := true, homing := 0, lost := true, vj := 0 } else s

end Sys2Proof.Machine
end

