-- ==== Sys2Proof/Machine/Draught.lean ====
section
/-! DEFINITION. The Draught loop (chapter 05): tracking, starts, reversal, scanning, disabling. What a trigger does is in
Trigger.lean. -/

namespace Sys2Proof.Machine

/-- DRT_STATUS.STATE (R179): 0 OFF, 1 TRACK, 2 WAIT_START, 3 RUN, 4 PAUSED, 5 HOLD, 6 INTERNAL. -/
def drtState (s : State) (h : Nat) : Nat := s.fget h 0 DRT_STATUS_STATE

/-- Enter a state; START_ARM reads 1 in WAIT_START only (R176). -/
def drtGo (h st : Nat) (s : State) : State :=
  (s.fput h 0 DRT_STATUS_STATE st).fputB h 0 DRT_CTRL_START_ARM (decide (st = 2))

/-- Two's-complement negation of an s32. -/
def neg32 (x : Int) : Int := toS 32 (ofS 32 (-x))

/-- Hearth and channel of the source (R174). -/
def srcH (s : State) (h : Nat) : Nat := s.fget h 0 DRT_CTRL_SRC / 4
def srcC (s : State) (h : Nat) : Nat := s.fget h 0 DRT_CTRL_SRC % 4

/-- The count as the loop sees it: the channel's count, negated under CNT_NEG and in a pass with DIR 1 (R174, R180). -/
def drtCount (s : State) (h : Nat) : Int :=
  let c := toS 32 (s.fget (srcH s h) (srcC s h) FBK_COUNT)
  let c := if s.fon h 0 DRT_CTRL_CNT_NEG then neg32 c else c
  if (s.drt h).dir then neg32 c else c

/-- The source channel has a fault. -/
def srcFaulty (s : State) (h : Nat) : Bool := s.fon (srcH s h) (srcC s h) FBK_STATUS_FAULT

/-- Ratio N and M, 0 acting as 1. -/
def ratioN (s : State) (h : Nat) : Nat := max 1 (s.fget h 0 DRT_RATIO_N_V)
def ratioM (s : State) (h : Nat) : Nat := max 1 (s.fget h 0 DRT_RATIO_M_V)

/-- The exact target in u8.40 lines (R175). -/
def drtTarget (x : DrtX) (m : Nat) : Nat := x.tw % 256 * 2 ^ 40 + x.rem.toNat * 2 ^ 24 / m % 2 ^ 40

/-- Gains by BW: KP_M, KP_S, KI_M, KI_S (R175). -/
def drtGains : List (Nat × Nat × Nat × Nat) :=
  [(239, 24, 222, 31), (239, 23, 222, 29), (149, 21, 174, 26), (149, 20, 174, 24), (149, 19, 174, 22), (186, 18, 136, 19),
   (186, 17, 136, 17), (186, 16, 136, 15)]

/-- Advance the target by a change of count. -/
def targetMove (x : DrtX) (n m : Nat) (dc : Int) : DrtX :=
  let r := x.rem + dc * (n : Int) * 65536
  let k : Int := (m : Int) * 65536
  { x with rem := r % k, tw := ofS 8 (x.tw + r / k) }

/-- The loop starts with θ at the target and ω 0 (R175). -/
def loopStart (h : Nat) (s : State) : State :=
  let x := s.drt h
  let x := { x with rem := 0, tw := 0, theta := 0, omega := 0, cntPrev := drtCount s h, pend := false, lockRun := 0, below := false }
  ((s.setDrt h x).fput h 0 DRT_STATUS_LOCK 0).fput h 0 DRT_STATUS_PEND 0

/-- In RUN the high-water mark follows the highest count; an excursion below it by at most REV is counted once (R177). -/
def markFollow (h : Nat) (s : State) : State :=
  if drtState s h ≠ 3 then s
  else
    let x := s.drt h
    let d := toS 32 (ofS 32 (drtCount s h - x.high))
    if 0 ≤ d then s.setDrt h { x with high := drtCount s h, below := false }
    else if x.below ∨ d < -(s.fget h 0 DRT_CTRL_REV : Int) then s
    else (s.setDrt h { x with below := true }).count h 0 DRT_JITTER

/-- Clock, before the next update, at which θ reaches the boundary nb while it advances by `step` a clock. -/
def dueClock (theta step nb : Nat) : Option Nat :=
  (List.range 64).find? fun i => i != 0 && decide (0 ≤ toS 48 (ofS 48 ((theta : Int) + i * step - nb * 2 ^ 40)))

/-- A boundary reached at clock `c` waits for its trigger; one due less than 1,600 clocks after the last is held (R178). -/
def boundary (h c : Nat) (s : State) : State :=
  let x := s.drt h
  if x.pend then s
  else
    let s := s.setDrt h { x with pend := true, dueAt := c }
    let early := match x.lastTrig with
      | none => false
      | some t => decide (c < t + 1600)
    if early then ((s.fput h 0 DRT_STATUS_PEND 1).count h 0 DRT_OVERSPEED).raise h 0 DRT_EVENT_OVERSPEED else s

/-- Lock after 1,024 updates with a small error; unlocked at a large one (R175). -/
def lockJudge (h : Nat) (e : Int) (s : State) : State :=
  let thr : Int := (s.fget h 0 DRT_LOCK_CFG_THR * 2 ^ 16 : Nat)
  let x := s.drt h
  if (e.natAbs : Int) < thr then
    let s := s.setDrt h { x with lockRun := min 1024 (x.lockRun + 1) }
    if x.lockRun = 1023 ∧ !s.fon h 0 DRT_STATUS_LOCK then (s.fput h 0 DRT_STATUS_LOCK 1).raise h 0 DRT_EVENT_LOCK else s
  else
    let s := s.setDrt h { x with lockRun := 0 }
    if s.fon h 0 DRT_STATUS_LOCK ∧ 4 * thr ≤ (e.natAbs : Int) then (s.fput h 0 DRT_STATUS_LOCK 0).raise h 0 DRT_EVENT_UNLOCK else s

/-- DRT_LOOP_UPDATE (R175): the 64 clocks up to and including an update of the loop. DEDUCED (log 62). -/
def loopUpdate (h : Nat) (s : State) : State :=
  let st := drtState s h
  if !(s.hasH h && decide (1 ≤ st) && decide (st ≤ 4)) then s
  else
    let s := markFollow h s
    let x := s.drt h
    let c := drtCount s h
    let m := ratioM s h
    let x1 := targetMove x (ratioN s h) m (toS 32 (ofS 32 (c - x.cntPrev)))
    let step := ofS 48 (x.omega / 2 ^ 16)
    let th : Nat := (x.theta + 64 * step) % 281474976710656
    let e := clampI (-2 ^ 46) (2 ^ 46) (toS 48 (ofS 48 ((drtTarget x1 m : Int) - th)))
    let (kp, kps, ki, kis) := drtGains.getD (s.fget h 0 DRT_CTRL_BW) (0, 0, 0, 0)
    let om := toS 64 (ofS 64 (x.omega + e * (ki : Int) / 2 ^ kis))
    let th1 := ofS 48 ((th : Int) + e * (kp : Int) / 2 ^ kps)
    let s := s.setDrt h { x1 with cntPrev := c, theta := th1, omega := om, clk := x.clk + 64 }
    let s := (s.fput h 0 DRT_OMEGA (ofS 32 (om / 2 ^ 24))).fput h 0 DRT_PHERR (ofS 32 (e / 2 ^ 16))
    let s := lockJudge h e (s.fput h 0 DRT_COUNT (ofS 32 c))
    if st ≠ 3 then s
    else match dueClock x.theta step x.nb with
      | some i => boundary h (x.clk + i) s
      | none => if 0 ≤ toS 48 (ofS 48 ((th1 : Int) - x.nb * 2 ^ 40)) then boundary h (x.clk + 64) s else s

/-! ### Starts (R176, R180) -/

/-- Arm a start: refused with START_LATE where the count has reached it, else WAIT_START. -/
def armStart (h : Nat) (start : Int) (frac : Nat) (s : State) : State :=
  if 0 ≤ toS 32 (ofS 32 (drtCount s h - start)) then drtGo h 1 (s.raise h 0 DRT_EVENT_START_LATE)
  else drtGo h 2 (s.setDrt h { (s.drt h) with start := start, frac := frac })

/-- Negate θ, the target, ω, the count and the mark together: a pass of the other direction (R180). -/
def flipPass (x : DrtX) (m : Nat) : DrtX :=
  let k : Int := (m : Int) * 65536
  let t := -((x.tw : Int) * k + x.rem)
  { x with theta := ofS 48 (-(x.theta : Int)), omega := -x.omega, high := neg32 x.high, cntPrev := neg32 x.cntPrev,
           rem := t % k, tw := ofS 8 (t / k), dir := !x.dir }

/-- Arm pass table entry `n` (R180). DESIGN CHOICE (log 61). -/
def armPass (h n : Nat) (s : State) : State :=
  let s := s.fput h 0 DRT_STATUS_PASS n
  let dir := s.fon h 0 (DRT_PASS_CTRL_DIR n)
  let x := { (s.drt h) with passLine := 0, feedLate := false }
  let s := s.setDrt h (if x.dir = dir then x else flipPass x (ratioM s h))
  let st := toS 32 (s.fget h 0 (DRT_PASS_START n))
  armStart h (if dir then neg32 st else st) 0 s

/-- START_ARM written 1 in TRACK: START and FRAC, or the pass table from FIRST in SCAN mode. -/
def startArm (h : Nat) (s : State) : State :=
  if drtState s h ≠ 1 then drtGo h (drtState s h) s
  else if s.fget h 0 DRT_CTRL_MODE = 1 then armPass h (s.fget h 0 DRT_SCAN_FIRST) s
  else armStart h (toS 32 (s.fget h 0 DRT_START)) (s.fget h 0 DRT_START_FRAC_V) s

/-- START_REACHED (R176, R181): the count has reached the armed start. -/
def startReached (h : Nat) (s : State) : State :=
  let x := s.drt h
  let c := drtCount s h
  if !(s.hasH h && drtState s h == 2) || decide (toS 32 (ofS 32 (c - x.start)) < 0) then s
  else
    let m := ratioM s h
    let k : Int := (m : Int) * 65536
    let num := (toS 32 (ofS 32 (c - x.start)) * 65536 - x.frac) * (ratioN s h : Int)
    let x0 := targetMove x (ratioN s h) m (toS 32 (ofS 32 (c - x.cntPrev)))
    let x1 := { x0 with cntPrev := c, rem := num % k, tw := ofS 8 (num / k) }
    let x1 := { x1 with theta := ofS 48 ((x.theta : Int) + drtTarget x1 m - drtTarget x0 m), nb := 0, high := c, below := false,
                        pend := false, starts := (x.starts + 1) % 256, passLine := 0 }
    let late := s.fget h 0 DRT_CTRL_MODE == 1 && s.fon h 0 DRT_SCAN_FEED_WAIT && !x.feedDone
    let s := drtGo h 3 (s.setDrt h { x1 with feedLate := late })
    let s := s.raise h 0 DRT_EVENT_START
    if late then s.raise h 0 DRT_EVENT_FEED_LATE else s

/-! ### Reversal (R177) -/

/-- How far the count stands above the mark. -/
def aboveMark (s : State) (h : Nat) : Int := toS 32 (ofS 32 (drtCount s h - (s.drt h).high))

/-- DRT_REVERSE: a count more than REV below the mark pauses the DRT. -/
def drtReverse (h : Nat) (s : State) : State :=
  if s.hasH h && drtState s h == 3 && decide (aboveMark s h < -(s.fget h 0 DRT_CTRL_REV : Int)) then
    ((drtGo h 4 s).count h 0 DRT_REV_CNT).raise h 0 DRT_EVENT_REVERSE
  else s

/-- DRT_RESUMED: the count reaches the mark again. -/
def drtResumed (h : Nat) (s : State) : State :=
  if s.hasH h && drtState s h == 4 && decide (0 ≤ aboveMark s h) then
    (drtGo h 3 (s.setDrt h { (s.drt h) with below := false })).raise h 0 DRT_EVENT_RESUMED
  else s

/-! ### Faults, enable, disable (R179, R183) -/

/-- The clock of the loop goes on by the time that has passed since `intFrom`, while no update counts it (R178). -/
def clkRest (h : Nat) (s : State) : State :=
  let x := s.drt h
  s.setDrt h { x with clk := x.clk + (s.now - x.intFrom), intFrom := s.now }

/-- The source channel's fault sends the DRT to HOLD; the page in FIRING is marked SRC_FAULT (R179). -/
def drtHold (h : Nat) (s : State) : State :=
  let s := drtGo h 5 (s.setDrt h { (s.drt h) with pend := false, intFrom := s.now })
  markHearth h 7 ((s.fput h 0 DRT_STATUS_PEND 0).raise h 0 DRT_EVENT_SRC_FAULT)

/-- A fault of channel `c` of hearth `g` reaches every Draught that runs on it. -/
def srcFault (g c : Nat) (s : State) : State :=
  forEach (List.range s.nH) (fun h s =>
    let st := drtState s h
    if decide (1 ≤ st) && decide (st ≤ 4) && srcH s h == g && srcC s h == c then drtHold h s else s) s

/-- The count of channel `c` of hearth `g` moved: marks follow it on every Draught that runs on it. -/
def countMoved (g c : Nat) (s : State) : State :=
  forEach (List.range s.nH) (fun h s => if srcH s h == g && srcC s h == c then markFollow h s else s) s

/-- EN written 1. The time of the last trigger is kept: R178 knows no exception. DEDUCED (log 64). -/
def drtEnable (h : Nat) (s : State) : State :=
  let mode := s.fget h 0 DRT_CTRL_MODE
  let s := clkRest h s
  let s := s.setDrt h { (s.drt h) with dir := false, feedLate := false, feedDone := true }
  if mode = 2 then drtGo h 6 s
  else if mode = 3 then s
  else
    let s := drtGo h 1 (loopStart h s)
    if srcFaulty s h then drtHold h s else s

/-- EN written 0: no further trigger, the page in FIRING is marked PACE_OFF (R183). -/
def drtDisable (h : Nat) (s : State) : State :=
  if drtState s h = 0 then s
  else
    let s := if 5 ≤ drtState s h then clkRest h s else s
    let s := drtGo h 0 (s.setDrt h { (s.drt h) with pend := false, intFrom := s.now })
    markHearth h 9 ((s.fput h 0 DRT_STATUS_PEND 0).fput h 0 DRT_STATUS_LOCK 0)

/-- RESUME written 1 with the source free of faults (R179). -/
def resumeWrite (h : Nat) (s : State) : State :=
  if drtState s h = 5 ∧ !srcFaulty s h then drtGo h 1 (loopStart h (clkRest h s)) else s

def drtOpen (s : State) (h _i _w : Nat) : Bool := drtState s h == 0

/-- After a write of a DRT word. -/
def drtAct (c : WriteCtx) (s : State) : State :=
  let h := c.h
  if c.w ≠ 0 then s
  else
    let s := s.fputB h 0 DRT_CTRL_START_ARM (drtState s h == 2)
    let s := if c.rose s DRT_CTRL_EN then drtEnable h s else if c.fell s DRT_CTRL_EN then drtDisable h s else s
    let s := if c.wrote DRT_CTRL_RESUME = 1 then resumeWrite h s else s
    if c.wrote DRT_CTRL_START_ARM = 1 then startArm h s else s

/-- A write of DRT_CTRL. -/
def drtWrite (h : Nat) (value : Word) (s : State) : State :=
  if s.hasH h then hostWrite BLK_DRT drtOpen drtAct h 0 0 value false s else s

end Sys2Proof.Machine
end

