-- ==== Sys2Proof/Machine/TimeBase.lean ====
section
/-! DEFINITION. The time counter as other blocks read it (13_time.md, R371). -/

namespace Sys2Proof.Machine

/-- The counter in nanoseconds, seconds × 10^9 + ns. -/
def timeNs (s : State) : Nat := s.tim.sec * 10 ^ 9 + s.tim.ns

end Sys2Proof.Machine
end

