-- ==== Sys2Proof/Machine/Camera.lean ====
section
/-! DEFINITION. The camera ports (06_inspection_loop.md): CSI-2 packets (R187, R188), triggers and the latched web count
(R190), frames (R193), the elastic buffers (R194), disabling (R212). -/

namespace Sys2Proof.Machine

/-! ### CSI-2 packets (R187, R188) -/

/-- Syndromes of the 26 header bits: data identifier, word count, virtual channel extension. PRESUMED from CSI-2 v2.0. -/
def csiSyndromes : List Nat :=
  [0x07, 0x0B, 0x0D, 0x0E, 0x13, 0x15, 0x16, 0x19, 0x1A, 0x1C, 0x23, 0x25, 0x26, 0x29, 0x2A, 0x2C, 0x31, 0x32, 0x34, 0x38,
   0x1F, 0x2F, 0x37, 0x3B, 0x3D, 0x3E]

/-- The 26 header bits of a packet, in transmission order from bit 0. PRESUMED (log 77). -/
def csiHeader (p : List Byte) : Nat := leAt p 0 3 + byteAt p 3 / 64 * 2 ^ 24

/-- The six check bits of 26 header bits. -/
def csiEcc (d : Nat) : Nat := (List.range 26).foldl (fun a i => if bit d i then a ^^^ csiSyndromes.getD i 0 else a) 0

/-- The corrected header and whether a bit was corrected; nothing where it cannot be corrected. -/
def csiCorrect (p : List Byte) : Option (Nat × Bool) :=
  if p.length < 4 then none
  else
    let d := csiHeader p
    let syn := csiEcc d ^^^ (byteAt p 3 % 64)
    if syn = 0 then some (d, false)
    else if [1, 2, 4, 8, 16, 32].contains syn then some (d, true)
    else match csiSyndromes.findIdx? (· == syn) with
      | some i => some (d ^^^ 2 ^ i, true)
      | none => none

/-- CRC-16 of a long packet's payload: polynomial 0x1021 reflected, initial value all ones. PRESUMED from CSI-2 v2.0. -/
def csiCrc (l : List Byte) : Nat := l.foldl (crcByteR 0x8408) 0xFFFF

/-- Four RAW10 samples from five bytes, shifted to 12 bits. -/
def raw10 : List Byte → List Nat
  | a :: b :: c :: d :: e :: rest =>
    let lo := e.toNat
    [a.toNat * 16 + lo % 4 * 4, b.toNat * 16 + lo / 4 % 4 * 4, c.toNat * 16 + lo / 16 % 4 * 4, d.toNat * 16 + lo / 64 * 4] ++ raw10 rest
  | _ => []

/-- Two RAW12 samples from three bytes. -/
def raw12 : List Byte → List Nat
  | a :: b :: c :: rest => [a.toNat * 16 + c.toNat % 16, b.toNat * 16 + c.toNat / 16] ++ raw12 rest
  | _ => []

/-- The samples of a line's payload of `width` pixels; nothing where the payload holds another number of pixels. -/
def lineSamples (dt : Nat) (payload : List Byte) (width : Nat) : Option (List Nat) :=
  if dt = 0x2C then (if payload.length * 2 = width * 3 then some (raw12 payload) else none)
  else (if payload.length * 4 = width * 5 then some (raw10 payload) else none)

/-! ### Frames and the elastic buffer (R193, R194) -/

def camState (s : State) (h c : Nat) : Nat := s.fget h c CAM_STATUS_STATE
def camGo (h c st : Nat) (s : State) : State := s.fput h c CAM_STATUS_STATE st

/-- LINES in effect. -/
def camLines (s : State) (h c : Nat) : Nat := clampN 8 256 (s.fget h c CAM_GEOM_LINES)

/-- An item of the buffer that is a line. -/
def CamItem.isRow : CamItem → Bool
  | .row .. => true
  | _ => false

/-- Lines held. -/
def camHeld (s : State) (h c : Nat) : Nat := ((s.cam h c).buf.filter CamItem.isRow).length

/-- Set the buffer; BUF shows its lines. -/
def setBuf (h c : Nat) (b : List CamItem) (s : State) : State :=
  let s := s.setCam h c { (s.cam h c) with buf := b }
  s.fput h c CAM_STATUS_BUF (camHeld s h c)

def camPut (h c : Nat) (i : CamItem) (s : State) : State := setBuf h c ((s.cam h c).buf ++ [i]) s

/-- The current frame is dropped: its buffered lines go, further lines are discarded to its end (R194). -/
def dropFrame (h c : Nat) (s : State) : State :=
  let x := s.cam h c
  if !x.frame || x.dropping then s
  else
    let keep := (x.buf.reverse.dropWhile CamItem.isRow).reverse
    let s := s.setCam h c { x with dropping := true, valid := x.valid - (x.buf.length - keep.length) }
    let s := ((setBuf h c keep s).count h c CAM_DROPPED).raise h c CAM_EVENT_DROP
    if camState s h c = 3 then camGo h c 4 s else s

/-- Flat-field correction of a sample (R387). -/
def flatSample (d g s : Nat) : Nat :=
  (clampI 0 4095 ((((s : Int) - d) * g + 8192) / 16384)).toNat

/-- Flat-field correction of a line; pixels without a value in force pass unchanged. -/
def flatLine (flat : List (Nat × Nat)) (l : List Nat) : List Nat :=
  (l.zip (flat ++ List.replicate (l.length - flat.length) (0, 16384))).map fun e => flatSample e.2.1 e.2.2 e.1

/-- A valid line enters the buffer; at 64 lines the port without priority drops its frame. A line that finds its buffer
full costs its own frame. DEDUCED (log 79). -/
def pushLine (h c : Nat) (r : Nat) (samples : List Nat) (s : State) : State :=
  if 64 ≤ camHeld s h c then dropFrame h c s
  else
    let s := s.setCam h c { (s.cam h c) with valid := (s.cam h c).valid + 1 }
    let s := camPut h c (.row r (timeNs s) (flatLine (s.cam h c).flat samples)) s
    if camHeld s h c = 64 then dropFrame h (1 - s.fget h 0 ISP_CTRL_PRIO) s else s

/-- The frame closes: its number, status and counters (R193). DEDUCED (log 81). -/
def closeFrame (h c : Nat) (s : State) : State :=
  let x := s.cam h c
  let n := camLines s h c
  let short := decide (x.got < n)
  let long := decide (n < x.got)
  let num := (s.fget h c CAM_FNUM + 1) % 2 ^ 32
  let st := b2n short + 2 * b2n long + 4 * b2n x.dropping + 8 * b2n x.lineErr
  let s := (s.count h c CAM_FRAMES).fput h c CAM_FNUM num
  let s := s.wr h c BLK_CAM CAM_FSTAT.word (BitVec.ofNat 32 (st * 2 ^ 25 + x.valid % 512))
  let s := if short then (s.count h c CAM_SHORT).raise h c CAM_EVENT_SHORT else s
  let s := if long then s.raise h c CAM_EVENT_LONG else s
  camPut h c (.fin num st) (s.setCam h c { (s.cam h c) with frame := false, dropping := false })

/-- The web count with the 16-bit fraction taken from the DRT phase, s32.16 (R190); how the phase gives it is left open. DESIGN CHOICE
(log 80). -/
def camPos (s : State) (h : Nat) : Int :=
  toS 32 (s.fget (srcH s h) (srcC s h) FBK_COUNT) * 65536
    + (Config.phaseFraction (s.drt h).theta (drtTarget (s.drt h) (ratioM s h))).toNat

/-- EN becomes 1: the advance of the web count is taken from here, rows are combined afresh. -/
def camEnable (h c : Nat) (s : State) : State :=
  camGo h c 1 (s.setCam h c { (s.cam h c) with
    frame := false, dropping := false, down := true, again := false, trigAt := camPos s h, tuDue := false, tnr := [], lastJ := none,
    dmq := [], prev := [] })

/-- The port reaches OFF with a result (R212); EN written 1 during the drain now acts (R295). -/
def camOff (h c res : Nat) (s : State) : State :=
  let s := ((camGo h c 0 s).fput h c CAM_STATUS_DRAIN_RESULT res).raise h c CAM_EVENT_DRAIN_DONE
  if (s.cam h c).again then (camEnable h c s).fput h c CAM_CTRL_EN 1 else s

/-- The frame ends; a draining port then reaches OFF. -/
def frameEnds (h c : Nat) (s : State) : State :=
  let lost := (s.cam h c).dropping
  let st := camState s h c
  let s := closeFrame h c s
  if st = 5 then camOff h c (if lost then 4 else 3) s else camGo h c 2 s

/-- Latch the web count and the time of a trigger (R190). -/
def latchCount (h c : Nat) (s : State) : State :=
  s.setCam h c { (s.cam h c) with latchW := camPos s h, latchNs := timeNs s }

/-- Trigger mode in effect; 3 acts as 0. -/
def camMode (s : State) (h c : Nat) : Nat := if s.fget h c CAM_TRIG_MODE = 3 then 0 else s.fget h c CAM_TRIG_MODE

/-- A frame start packet (R190, R193). -/
def frameStarts (h c : Nat) (s : State) : State :=
  let s := if (s.cam h c).frame then frameEnds h c s else s
  if camState s h c = 0 ∨ camState s h c = 5 then s
  else
    let s := if camMode s h c = 0 then latchCount h c s else s
    let s := if (s.cam h c).down then s.raise h c CAM_EVENT_LINK_UP else s
    let x := s.cam h c
    let s := s.setCam h c { x with
      frame := true, dropping := false, down := false, got := 0, lineErr := false, valid := 0,
      flat := x.flatNext.getD x.flat, flatNext := none }
    camGo h c 3 (camPut h c (.start x.latchW s.tim.sec s.tim.ns x.latchNs) s)

/-- A long packet of the selected type: one line of the open frame (R188, R193). -/
def lineArrives (h c dt wc : Nat) (p : List Byte) (s : State) : State :=
  let x := s.cam h c
  if !x.frame then s
  else
    let r := x.got
    let s := s.setCam h c { x with got := r + 1 }
    if x.dropping then s
    else if camLines s h c ≤ r then s.count h c CAM_LONG_LINES
    else
      let pay := slice p 4 wc
      let ok := decide (pay.length = wc) && leAt p (4 + wc) 2 == csiCrc pay
      match (if ok then lineSamples dt pay (s.fget h c CAM_GEOM_WIDTH) else none) with
      | some m => pushLine h c r m s
      | none => ((s.setCam h c { (s.cam h c) with lineErr := true }).count h c CAM_LINE_ERR).raise h c CAM_EVENT_LINE_ERR

/-- A packet with a good header on the selected channel, by its data type. DEDUCED (log 78). -/
def csiTyped (h c : Nat) (d : Nat) (p : List Byte) (s : State) : State :=
  let dt := d % 64
  let sel := if s.fon h c CAM_CTRL_DT then 0x2C else 0x2B
  if dt = 0x00 then frameStarts h c s
  else if dt = 0x01 then (if (s.cam h c).frame then frameEnds h c s else s)
  else if dt = 0x02 ∨ dt = 0x03 ∨ (0x08 ≤ dt ∧ dt ≤ 0x0F) ∨ dt = 0x12 then s
  else if dt = sel then lineArrives h c dt (d / 256 % 65536) p s
  else s.raise h c CAM_EVENT_DT_BAD

/-- A packet arrives at a port that is not OFF (R188). -/
def csiPacket (h c : Nat) (p : List Byte) (s : State) : State :=
  if !(s.hasH h && decide (c < 2)) || camState s h c == 0 then s
  else match csiCorrect p with
    | none => s
    | some (d, fixed) =>
      let s := if fixed then s.count h c CAM_ECC_CORR else s
      if d / 64 % 4 + 4 * (d / 2 ^ 24 % 4) = s.fget h c CAM_CTRL_VC then csiTyped h c d p s else s

/-- FRAME_TIMEOUT (R193): an open frame without a packet for 100 ms closes. -/
def frameTimeout (h c : Nat) (s : State) : State :=
  if s.hasH h && decide (c < 2) && (s.cam h c).frame then frameEnds h c s else s

/-- CAMERA_LINK_DOWN (R193): an enabled port without a packet for 100 ms. -/
def linkDown (h c : Nat) (s : State) : State :=
  if s.hasH h && decide (c < 2) && s.fon h c CAM_CTRL_EN && camState s h c != 0 then
    (s.setCam h c { (s.cam h c) with down := true }).raise h c CAM_EVENT_LINK_DOWN
  else s

/-- A trigger of the port is due: the web count has advanced by CAM_TRIG_STEP since the last, or the time unit has fired (R190). -/
def camDue (s : State) (h c : Nat) : Bool :=
  let step := s.fget h c CAM_TRIG_STEP
  (camMode s h c == 2 && (s.cam h c).tuDue) ||
  (camMode s h c == 1 && step != 0 && decide ((step : Int) ≤ toS 48 (ofS 48 (camPos s h - (s.cam h c).trigAt))))

/-- CAMERA_TRIGGER (R190): the pulse that is due, by web step or by a time unit. -/
def camTrigger (h c : Nat) (s : State) : State :=
  if !(s.hasH h && decide (c < 2) && s.fon h c CAM_CTRL_EN && camState s h c != 0 && camDue s h c) then s
  else
    let s := latchCount h c (s.setCam h c { (s.cam h c) with trigAt := camPos s h, tuDue := false })
    s.emit (.camTrig h c (max 1 (s.fget h c CAM_TRIG_PW)))

/-- Time unit `n` fires: a trigger is due on every port that names it (R190, R380). -/
def camUnit (n : Nat) (s : State) : State :=
  forEach (List.range s.nH) (fun h s => forEach [0, 1] (fun c s =>
    if s.fon h c CAM_CTRL_EN && camMode s h c == 2 && s.fget h c CAM_TRIG_TU == n then s.setCam h c { (s.cam h c) with tuDue := true }
    else s) s) s

/-! ### Enable and disable (R212) -/

/-- EN written 0: the current frame is received to its end. -/
def camDisable (h c : Nat) (s : State) : State :=
  if (s.cam h c).frame then camGo h c 5 s else camOff h c 3 s

/-- FORCE_OFF: the current frame is dropped at once. -/
def camForce (h c : Nat) (s : State) : State :=
  let s := (s.fput h c CAM_CTRL_EN 0).setCam h c { (s.cam h c) with again := false }
  camOff h c 4 (if (s.cam h c).frame then closeFrame h c (dropFrame h c s) else s)

/-- CAM_DRAIN_TIMEOUT: the frame has not ended within 100 ms of the disable. -/
def camDrainTimeout (h c : Nat) (s : State) : State :=
  if s.hasH h && decide (c < 2) && camState s h c == 5 then frameEnds h c (dropFrame h c s) else s

def camOpen (s : State) (h i _w : Nat) : Bool := !s.fon h i CAM_CTRL_EN && camState s h i == 0

/-- After a write of a CAM word. -/
def camAct (c : WriteCtx) (s : State) : State :=
  if c.w ≠ 0 then s
  else if c.wrote CAM_CTRL_FORCE_OFF = 1 then camForce c.h c.i s
  else if c.rose s CAM_CTRL_EN then
    (if camState s c.h c.i = 5 then (s.setCam c.h c.i { (s.cam c.h c.i) with again := true }).fput c.h c.i CAM_CTRL_EN 0
     else camEnable c.h c.i s)
  else if c.fell s CAM_CTRL_EN then camDisable c.h c.i s
  else s

/-- A write of CAM_CTRL. -/
def camWrite (h c : Nat) (value : Word) (s : State) : State :=
  if s.hasH h && decide (c < 2) then hostWrite BLK_CAM camOpen camAct h c 0 value false s else s

end Sys2Proof.Machine
end

