-- ==== Sys2Proof/Machine/Geometry.lean ====
section
/-! DEFINITION. Camera geometry: web lines and columns of pixels (R191, R201) and its calibration (R202, R317). -/

namespace Sys2Proof.Machine

/-! ### Geometry (R191, R201) -/

/-- Web position of row `r` of a frame latched at `w`, in 2^-16 counts. -/
def rowPos (s : State) (h c : Nat) (w : Int) (r : Nat) : Int :=
  let org := toS 32 (s.fget h c CAM_ORIGIN) * 65536 + s.fget h c CAM_ORIGIN_FRAC_V
  toS 48 (ofS 48 (w - org)) + r * s.fget h c CAM_PITCH_V

/-- Row index of a position: rounded, halves up; a PITCH of 0 gives none. DESIGN CHOICE (log 92). -/
def rowIndex (pos : Int) (pitch : Nat) : Int := (2 * pos + pitch) / (2 * pitch)

/-- First web line of a position. DESIGN CHOICE (log 88). -/
def webLine (s : State) (h : Nat) (pos : Int) : Int := pos * ratioN s h / (65536 * ratioM s h)

/-- Column correction of a pixel, s8.8. -/
def corrAt (s : State) (h c px : Nat) : Int :=
  let n := px / 64
  let t := fun i => if i ≤ 128 then toS 16 (s.fget h c (CAM_CORR_CORR i)) else 0
  t n + ((t (n + 1) - t n) * (px % 64 : Nat) + 32) / 64

/-- First camera-frame column of a pixel. -/
def colStart (s : State) (h c px : Nat) : Int :=
  ((s.fget h c CAM_COL0_V * 65536 + px * s.fget h c CAM_SCALE_V : Nat) + corrAt s h c px * 256) / 65536

/-- Bare-web density of a channel. -/
def baseOf (s : State) (h ch : Nat) : Nat :=
  if ch = 0 then s.fget h 0 ISP_BASE01_R else if ch = 1 then s.fget h 0 ISP_BASE01_G
  else if ch = 2 then s.fget h 0 ISP_BASE23_B else s.fget h 0 ISP_BASE23_X

/-- Column offset of a colour. -/
def xofsOf (s : State) (h c : Nat) : Int := toS 16 (s.fget h 0 (ISP_COL_XOFS c))

/-- Output `n` takes rows of a port. -/
def outTakes (s : State) (h n c : Nat) : Bool := s.fon h 0 (ISP_OUT_CTRL_EN n) && bit (s.fget h 0 (ISP_OUT_CTRL_PORTS n)) c

/-! ### Geometry calibration (R202) -/

/-- The camera ports that compare: pipeline enabled with CMP_EN, OUT0 taking the port, the port enabled. -/
def comparePorts (s : State) : List (Nat × Nat) :=
  (List.range s.nH).flatMap fun g =>
    (below 2 fun p => s.fon g 0 ISP_CTRL_EN && s.fon g 0 ISP_CTRL_CMP_EN && outTakes s g 0 p && s.fon g p CAM_CTRL_EN).map fun p => (g, p)

/-- Key of a mark of colour `c` at port `p` of hearth `g`. -/
def markKey (c g p q : Nat) : Nat := (16 * c + 2 * g + p) * 256 + q

/-- Density of a sample above the bare web. -/
def overBase (s : State) (g ch v : Nat) : Nat := tabGet (fun _ => 0) (s.isp g).dlut v - baseOf s g ch

/-- Add one pixel's density to the mark of a colour that its column lies nearest to. -/
def geoPixel (g p c px : Nat) (v : List Nat) (s : State) (x : GeoX) : GeoX :=
  let ch := s.fget g 0 (ISP_COL_CH c)
  let d := overBase s g ch (v.getD ch 0)
  let col := colStart s g p px + xofsOf s g c
  if d = 0 ∨ col < 0 ∨ 49152 ≤ col then x
  else
    let k := markKey c g p (col.toNat / 256)
    let a := tabGet (fun _ => (0, 0)) x.sums k
    { x with sums := tabSet (fun _ => (0, 0)) x.sums k (a.1 + d * px, a.2 + d) }

/-- The chart lines of a colour. -/
def GeoX.chart (x : GeoX) (c : Nat) : List Nat := tabGet (fun _ => []) x.lines c

/-- Every chart has been fired. -/
def GeoX.fired (x : GeoX) : Bool := x.todo.isEmpty && x.named.all fun c => decide (64 ≤ (x.chart c).length)

/-- The marks of a colour at a port: index, mean pixel position in 2^-16 pixels. -/
def GeoX.found (x : GeoX) (c g p : Nat) : List (Nat × Nat) :=
  (List.range 192).filterMap fun q =>
    let a := tabGet (fun _ => (0, 0)) x.sums (markKey c g p q)
    if a.2 = 0 then none else some (q, 65536 * a.1 / a.2)

/-- Camera-frame column of mark `q` of the reference colour. -/
def refColumn (s : State) (g ref q : Nat) : Int := 256 * q + 128 - xofsOf s g ref

/-- A quotient of the fit: its floor, or one more; the spec leaves the rounding open. -/
def roughDiv (a b : Int) (s : State) : Int × State :=
  let f := s.free 1
  (a / b + f.1, f.2)

/-- COL0 and SCALE by least squares over pixel positions (2^-16 pixels) and columns. DESIGN CHOICE (log 93). -/
def leastSquares (pts : List (Int × Int)) (s : State) : Int × Int × State :=
  let n : Int := pts.length
  let sx := (pts.map fun e => e.1).sum
  let sy := (pts.map fun e => e.2).sum
  let sxx := (pts.map fun e => e.1 * e.1).sum
  let sxy := (pts.map fun e => e.1 * e.2).sum
  let (b, s) := roughDiv (2 ^ 32 * (n * sxy - sx * sy)) (n * sxx - sx * sx) s
  let (a, s) := roughDiv (2 ^ 32 * sy - b * sx) (2 ^ 32 * n) s
  (a, b, s)

/-- Residual of a position under COL0 and SCALE alone, s8.8 columns. -/
def lineResidual (a b x y : Int) : Int := (2 ^ 32 * (y - a) - b * x) / 2 ^ 24

/-- Correction at a position (2^-16 pixels) by a knot table. -/
def knotAt (knots : List Int) (x : Nat) : Int :=
  let n := x / 2 ^ 22
  let t := fun i => knots.getD i 0
  t n + (t (n + 1) - t n) * (x % 2 ^ 22 : Nat) / 2 ^ 22

/-- One knot: the residuals interpolated at its pixel; beyond the outermost marks the spec gives none. -/
def knotValue (rs : List (Int × Int)) (x : Int) (s : State) : Int × State :=
  match rs.find? (fun e => decide (x ≤ e.1)), rs.reverse.find? (fun e => decide (e.1 ≤ x)) with
  | some hi, some lo =>
    if hi.1 = lo.1 then (lo.2, s)
    else
      let q := roughDiv ((hi.2 - lo.2) * (x - lo.1)) (hi.1 - lo.1) s
      (lo.2 + q.1, q.2)
  | _, _ =>
    let f := s.free 16
    (toS 16 f.1, f.2)

/-- The 129 knots of a port. -/
def knotTable (rs : List (Int × Int)) (s : State) : List Int × State :=
  (List.range 129).foldl (fun (acc : List Int × State) n =>
    let k := knotValue rs (64 * n * 65536 : Nat) acc.2
    (acc.1 ++ [k.1], k.2)) ([], s)

/-- What a calibration found for a port: COL0, SCALE, knots. -/
structure PortFit where
  g : Nat
  p : Nat
  col0 : Int
  scale : Int
  knots : List Int
deriving DecidableEq, Repr

/-- Fit one port to the reference colour's marks. -/
def fitPort (x : GeoX) (g p : Nat) (s : State) : PortFit × State :=
  let ms := (x.found x.ref g p).map fun e => ((e.2 : Int), refColumn s g x.ref e.1)
  let (a, b, s) := leastSquares ms s
  let rs := ms.map fun e => (e.1, lineResidual a b e.1 e.2)
  let (ks, s) := knotTable rs s
  (⟨g, p, a, b, ks⟩, s)

/-- Camera-frame column of a position under a fit, in 1/256 columns. -/
def PortFit.column (f : PortFit) (x : Nat) : Int := 256 * f.col0 + f.scale * x / 2 ^ 24 + knotAt f.knots x

/-- Offsets of a colour's own columns from the columns its marks are seen at, 1/256 columns, at one hearth. -/
def colourOffsets (x : GeoX) (fits : List PortFit) (g c : Nat) : List Int :=
  fits.flatMap fun f => if f.g = g then (x.found c g f.p).map fun e => ((256 * (256 * e.1 + 128) : Nat) : Int) - f.column e.2 else []

/-- Mean rounded to a column, halves up. -/
def meanColumns (l : List Int) : Int := (2 * l.sum + 256 * l.length) / (512 * l.length)

/-- Write a value to a field; one that does not fit leaves a value the spec does not give. -/
def fitPut (g p : Nat) (f : Fld) (signed : Bool) (v : Int) (s : State) : State :=
  let lo : Int := if signed then -(2 ^ (f.len - 1)) else 0
  let hi : Int := if signed then 2 ^ (f.len - 1) else 2 ^ f.len
  if lo ≤ v ∧ v < hi then s.fput g p f (ofS f.len v)
  else
    let r := s.free f.len
    r.2.fput g p f r.1

/-- The largest magnitude of a list. -/
def largest (l : List Int) : Nat := l.foldl (fun m v => max m v.natAbs) 0

/-- The calibration ends: a status with RESID and MARKS. -/
def geoEnd (st resid marks : Nat) (s : State) : State := { s with geo := none, geoRes := (st + 1, resid, marks) }

/-- Write what the calibration found. -/
def geoWrite (x : GeoX) (fits : List PortFit) (offs : List (Nat × Nat × Int)) (s : State) : State :=
  let s := forEach fits (fun f s =>
    let s := fitPut f.g f.p CAM_SCALE_V false f.scale (fitPut f.g f.p CAM_COL0_V false f.col0 s)
    forEach f.knots.zipIdx (fun k s => fitPut f.g f.p (CAM_CORR_CORR k.2) true k.1 s) s) s
  let s := forEach offs (fun o s => fitPut o.1 0 (ISP_COL_XOFS o.2.1) true o.2.2 s) s
  fwEvent x.ref 0x8A01 s

/-- Every chart has passed every port: fit, check, write (R202). -/
def geoFinish (x : GeoX) (s : State) : State :=
  let ports := comparePorts s
  let marks := (ports.map fun e => (x.named.map fun c => (x.found c e.1 e.2).length).sum).sum
  if ports.any fun e => x.named.any fun c => decide ((x.found c e.1 e.2).length < 8) then geoEnd 0x20 0 marks s
  else
    let (fits, s1) := ports.foldl (fun (acc : List PortFit × State) e =>
      let r := fitPort x e.1 e.2 acc.2
      (acc.1 ++ [r.1], r.2)) (([] : List PortFit), s)
    let hs := (fits.map PortFit.g).eraseDups
    let offs := hs.flatMap fun g => (x.named.filter fun c => c != x.ref).map fun c => (g, c, meanColumns (colourOffsets x fits g c))
    let own := fits.flatMap fun f => (x.found x.ref f.g f.p).map fun e => 256 * refColumn s f.g x.ref e.1 - f.column e.2
    let others := offs.flatMap fun o => (colourOffsets x fits o.1 o.2.1).map fun v => v - 256 * o.2.2
    let resid := largest (own ++ others)
    if 256 < resid then geoEnd 0x20 (min 65535 resid) marks s1
    else geoEnd 0 resid marks (geoWrite x fits offs s1)

/-- An emitted row of a comparing port: its pixels are added to the marks of every colour whose chart it covers; once the
charts lie behind every port, the fit follows. -/
def geoRow (g p : Nat) (k0 : Int) (pxs : List (List Nat)) (s : State) : State :=
  match s.geo with
  | none => s
  | some x =>
    let fy := clampN 1 8 (s.fget g 0 ISP_GEOM_FY)
    let x0 := s.fget g 0 (ISP_OUT_X0_V 0)
    let covers (c : Nat) : Bool := (x.chart c).any fun k => (List.range fy).any fun m => ofS 32 (k0 + m) == k % 2 ^ 32
    let y := (x.named.filter covers).foldl (fun y c =>
      pxs.zipIdx.foldl (fun y e => geoPixel g p c (x0 + e.2) e.1 s y) y) x
    let past := x.fired && x.named.all fun c => (x.chart c).all fun k => decide (0 < toS 32 (ofS 32 (k0 - k)))
    let y := if past && !y.passed.contains (2 * g + p) then { y with passed := (2 * g + p) :: y.passed } else y
    let s := { s with geo := some y }
    if (comparePorts s).all fun e => y.passed.contains (2 * e.1 + e.2) then (if y.fired then geoFinish y s else s) else s

/-- A line of a hearth's chart was fired on a web line. -/
def geoFired (h k : Nat) (s : State) : State :=
  match s.geo with
  | none => s
  | some x => { s with geo := some { x with lines := tabSet (fun _ => []) x.lines h (x.chart h ++ [k]) } }

/-- GEOM_CAL_TIMEOUT (R317): a calibration not finished within 10 s; its RESID is a value the spec does not give. -/
def geoTimeout (s : State) : State :=
  match s.geo with
  | none => s
  | some x =>
    let marks := ((comparePorts s).map fun e => (x.named.map fun c => (x.found c e.1 e.2).length).sum).sum
    let r := s.free 16
    geoEnd 0x31 r.1 marks r.2

end Sys2Proof.Machine
end

