-- ==== Sys2Proof/Machine/Inspection.lean ====
section
/-! DEFINITION. The inspection pipeline (06_inspection_loop.md): noise reduction, demosaic, statistics and outputs
(R195–R200), the Echo and the prediction (R201–R205), windows, verdicts and their handling (R206–R209), the closing of
inspection (R210), disabling (R212). -/

namespace Sys2Proof.Machine

/-! ### The mosaic (R196, R198) -/

/-- Colour pattern of a pipeline: MOSAIC in effect and the phases. -/
structure Mosaic where
  kind : Nat
  phx : Nat
  phy : Nat
deriving DecidableEq, Repr

def mosaicOf (s : State) (h : Nat) : Mosaic :=
  let k := s.fget h 0 ISP_CTRL_MOSAIC
  ⟨if 4 ≤ k then 0 else k, s.fget h 0 ISP_CTRL_PHX, s.fget h 0 ISP_CTRL_PHY⟩

/-- Channel (0 R, 1 G, 2 B, 3 X) sampled at a row and pixel. -/
def Mosaic.chan (m : Mosaic) (r px : Nat) : Nat :=
  if m.kind = 2 then
    ([[0, 1, 2, 1], [1, 3, 1, 3], [2, 1, 0, 1], [1, 3, 1, 3]].getD ((r + m.phy) % 4) []).getD ((px + m.phx) % 4) 0
  else
    let pat := if m.kind = 1 then [0, 1, 3, 2] else if m.kind = 3 then [0, 1, 2, 3] else [0, 1, 1, 2]
    pat.getD ((r + m.phy) % 2 * 2 + (px + m.phx) % 2) 0

/-- Rows by an integer index; rows that do not exist or are invalid hold nothing. -/
abbrev RowFn := Int → Option (List Nat)

/-- A sample of a row, if it exists. -/
def sampleAt (rows : RowFn) (r px : Int) : Option Nat :=
  if px < 0 then none else (rows r).bind fun l => l[px.toNat]?

/-- The existing samples of channel `ch` within `rad` of a place, by row and pixel offset; `r0` is the mosaic row of the
centre, `row` its index. -/
def around (m : Mosaic) (rows : RowFn) (row : Int) (r0 px rad ch : Nat) : List Nat :=
  (List.range (2 * rad + 1)).flatMap fun (a : Nat) => (List.range (2 * rad + 1)).filterMap fun (b : Nat) =>
    let dr : Int := (a : Int) - rad
    let c : Int := (px : Int) + b - rad
    if c < 0 then none
    else if m.chan (r0 + 3 * rad + a) c.toNat = ch then sampleAt rows (row + dr) c else none

/-- Mean rounded half up. -/
def meanUp (l : List Nat) : Nat := divRound l.sum l.length

/-- Spatial noise reduction of one row (R196). -/
def snrRow (m : Mosaic) (rad thr : Nat) (rows : RowFn) (row : Int) (r0 : Nat) (l : List Nat) : List Nat :=
  if rad = 0 then l
  else l.zipIdx.map fun (v, px) =>
    meanUp ((around m rows row r0 px rad (m.chan r0 px)).filter fun u => decide (u ≤ v + thr) && decide (v ≤ u + thr))

/-- Demosaic one row to [R, G, B, X] pixels (R198): a missing channel with no sample in reach is a free value. DESIGN CHOICE (log 84). -/
def demosaicRow (m : Mosaic) (irsub : Nat → Nat) (seed : Nat) (rows : RowFn) (row : Int) (r0 : Nat) (l : List Nat) : List (List Nat) :=
  l.zipIdx.map fun (v, px) =>
    let own := m.chan r0 px
    let val := fun ch =>
      if ch = own then v
      else
        let a := around m rows row r0 px (if m.kind = 2 then 2 else 1) ch
        if a.isEmpty then Config.freeNat (seed + 4 * px + ch) % 4096 else meanUp a
    let g := val 1
    let x := if m.kind = 0 then g else val 3
    let sub := fun ch v => if m.kind = 1 ∨ m.kind = 2 then v - x * irsub ch / 256 else v
    [sub 0 (val 0), sub 1 g, sub 2 (val 2), x]

def irsubOf (s : State) (h ch : Nat) : Nat :=
  if ch = 0 then s.fget h 0 ISP_DM_IRSUB_R else if ch = 1 then s.fget h 0 ISP_DM_IRSUB_G else s.fget h 0 ISP_DM_IRSUB_B

/-- Rows of a list keyed by index. -/
def rowFn (l : List (Int × List Nat)) : RowFn := fun r => (l.find? fun e => e.1 == r).map Prod.snd

/-! ### Statistics (R199) -/

/-- Counts of a channel's values by their upper eight bits. -/
def histogram (rows : List (Nat × List (List Nat))) (ch : Nat) : List Nat :=
  rows.foldl (fun hist row => row.2.foldl (fun hist p =>
    let b := p.getD ch 0 / 16
    hist.set b (hist.getD b 0 + 1)) hist) (List.replicate 256 0)

/-- Mean of a channel over a zone; 0xFFFF where it has no valid sample. -/
def zoneMean (rows : List (Nat × List (List Nat))) (lines width ch zr zc : Nat) : Nat :=
  let vs := rows.flatMap fun row =>
    if row.1 * 8 / lines = zr then
      row.2.zipIdx.filterMap fun (p, px) => if px * 32 / width = zc then some (p.getD ch 0) else none
    else []
  if vs.isEmpty then 0xFFFF else meanUp vs

/-- The 8,192-byte record of a closed frame. -/
def statRecord (num : Nat) (x : CamX) (status lines width : Nat) (rows : List (Nat × List (List Nat))) : List Byte :=
  leBytes 4 num ++ leBytes 4 (ofS 32 (x.pw / 65536)) ++ leBytes 4 x.pns ++ leBytes 6 x.psec ++ leBytes 2 rows.length
    ++ leBytes 1 status ++ List.replicate 43 0
    ++ ((List.range 4).flatMap fun ch => (histogram rows ch).flatMap fun n => leBytes 4 n)
    ++ ((List.range 4).flatMap fun ch => (List.range 8).flatMap fun zr => (List.range 32).flatMap fun zc =>
      leBytes 2 (zoneMean rows lines width ch zr zc))
    ++ List.replicate 1984 0

/-! ### The Echo (R203) -/

/-- Depth of a hearth's Echo in lines. -/
def echoDepth (s : State) (h : Nat) : Nat := s.get64 h 0 ISP_ECHO_SIZE_LO / 12288

/-- DRAM address of the record and of the line of a web line. -/
def echoRec (s : State) (h k : Nat) : Nat := s.get64 h 0 ISP_META_BASE_LO + 16 * (k % echoDepth s h)
def echoLine (s : State) (h k : Nat) : Nat := s.get64 h 0 ISP_ECHO_BASE_LO + 12288 * (k % echoDepth s h)

/-- A lookup of a web line succeeds. -/
def echoOk (s : State) (h : Nat) (k : Int) : Bool :=
  let k := ofS 32 k
  let a := echoRec s h k
  decide (0 < echoDepth s h) && bit (s.dread h (a + 14)).toNat 0 && s.dnum h a 4 == k && (s.dread h (a + 15)).toNat == (s.drt h).starts

/-- Pack column levels, four to a byte, from column `x` on. -/
def packLevels : Nat → Nat → Tab Nat → List Byte
  | 0, _, _ => []
  | n + 1, x, t =>
    let here := t.takeWhile fun e => decide (e.1 < x + 4)
    BitVec.ofNat 8 (here.foldl (fun a e => if x ≤ e.1 then a + e.2 % 4 * 4 ^ (e.1 - x) else a) 0) :: packLevels n (x + 4) (t.drop here.length)

/-- The 12,288 bytes of a line's levels. -/
def lineBytes (levels : Tab Nat) : List Byte := packLevels 12288 0 levels

/-- A hearth records a fired line as web line `k` (R203): only in DRT mode WEB, with ECHO_EN and EN 1. -/
def echoWrite (h k : Nat) (levels : Tab Nat) (page : Option Nat) (pline : Nat) (body defective : Bool) (s : State) : State :=
  if !(s.fon h 0 ISP_CTRL_ECHO_EN && s.fon h 0 ISP_CTRL_EN && s.fget h 0 DRT_CTRL_MODE == 0) || echoDepth s h == 0 then s
  else
    let rec16 := leBytes 4 k ++ leBytes 4 (page.getD 0xFFFFFFFF) ++ leBytes 4 pline ++ leBytes 2 (s.get64 h 0 TER_LNUM_LO)
      ++ leBytes 1 (1 + 2 * b2n body + 4 * b2n defective) ++ leBytes 1 (s.drt h).starts
    (s.dwrites h (echoLine s h k) (lineBytes levels)).dwrites h (echoRec s h k) rec16

/-! ### Outputs (R200) -/

/-- Bytes a ring can still take before a write reaches the read offset. -/
def ringRoom (size wp rp : Nat) : Nat :=
  let d := (rp % size + size - wp % size) % size
  if d = 0 then size else d

/-- Write bytes into a ring, wrapping at its size. -/
def ringWrite (h base size : Nat) : Nat → List Byte → State → State
  | _, [], s => s
  | o, b :: bs, s => ringWrite h base size ((o + 1) % size) bs (s.dwrite h (base + o % size) b)

/-- Write a record into the ring of output `n`, or lose it (R200). -/
def outRecord (h n : Nat) (r : List Byte) (s : State) : State :=
  let r := padTo ((r.length + 63) / 64 * 64) r
  let size := s.fget h 0 (ISP_OUT_SIZE n)
  let wp := s.fget h 0 (ISP_OUT_WP n)
  if size = 0 ∨ ringRoom size wp (s.fget h 0 (ISP_OUT_RP n)) ≤ r.length then (s.count h 0 ISP_OUT_OVR).raise h 0 ISP_EVENT_OUT_OVR
  else (ringWrite h (s.get64 h 0 (ISP_OUT_BASE_LO n)) size wp r s).fput h 0 (ISP_OUT_WP n) ((wp + r.length) % size)

/-- Header and pixels of a record: the mask's channels, one byte or two each. -/
def recordBytes (j k0 : Int) (first port mask : Nat) (crop fmt16 : Bool) (pxs : List (List Nat)) : List Byte :=
  leBytes 4 (ofS 32 j) ++ leBytes 4 (ofS 32 k0) ++ leBytes 2 first ++ leBytes 2 pxs.length ++ leBytes 1 port ++ leBytes 1 mask
    ++ leBytes 1 (b2n crop + 2 * b2n fmt16) ++ leBytes 1 0
    ++ pxs.flatMap fun p => (below 4 (bit mask)).flatMap fun ch =>
      if fmt16 then leBytes 2 (p.getD ch 0) else leBytes 1 (p.getD ch 0 / 16)

/-- Pixels X0 to X0 + W - 1 of a row. -/
def outSpan (s : State) (h n : Nat) (pxs : List (List Nat)) : List (List Nat) :=
  (pxs.drop (s.fget h 0 (ISP_OUT_X0_V n))).take (s.fget h 0 (ISP_OUT_W_W n))

/-- Crops of OUT1 for one emitted row. DEDUCED (log 89). -/
def cropRow (h c : Nat) (j k0 : Int) (pxs : List (List Nat)) (s : State) : State :=
  let crops := (s.cam h c).crops
  let s := s.setCam h c { (s.cam h c) with crops := (crops.map fun e => (e.1, e.2 - 1)).filter fun e => e.2 != 0 }
  if !outTakes s h 1 c then s
  else forEach crops (fun e s =>
    outRecord h 1 (recordBytes j k0 e.1 c (s.fget h 0 (ISP_OUT_CTRL_MASK 1)) true (s.fon h 0 (ISP_OUT_CTRL_FMT16 1))
      ((pxs.drop e.1).take (s.fget h 0 (ISP_OUT_W_W 1)))) s) s

/-- Box average of a group of rows over 2^hsh pixels. -/
def boxRow (hsh : Nat) (rows : List (List (List Nat))) : List (List Nat) :=
  let w := (rows.map List.length).foldl min (rows.headD []).length
  (List.range (w / 2 ^ hsh)).map fun i => (List.range 4).map fun ch =>
    meanUp (rows.flatMap fun r => ((r.drop (i * 2 ^ hsh)).take (2 ^ hsh)).map fun p => p.getD ch 0)

/-- The record of OUT2 or OUT3 from the rows collected for it. -/
def thumbRecord (h c n : Nat) (l : List (Int × Int × List (List Nat))) (s : State) : State :=
  let mask := if n = 3 then 8 else s.fget h 0 (ISP_OUT_CTRL_MASK n)
  let f := l.headD (0, 0, [])
  outRecord h n (recordBytes f.1 f.2.1 (s.fget h 0 (ISP_OUT_X0_V n)) c mask false (s.fon h 0 (ISP_OUT_CTRL_FMT16 n))
    (boxRow (s.fget h 0 (ISP_OUT_CTRL_HSH n)) (l.map fun e => e.2.2))) s

/-- OUT2 and OUT3 for one emitted row: a record once 2^VSH rows are collected. -/
def thumbRow (h c n : Nat) (j k0 : Int) (pxs : List (List Nat)) (s : State) : State :=
  let get := fun (x : CamX) => if n = 2 then x.thumb2 else x.thumb3
  let put := fun l (s : State) =>
    let x := s.cam h c
    s.setCam h c (if n = 2 then { x with thumb2 := l } else { x with thumb3 := l })
  if !outTakes s h n c then put [] s
  else
    let l := get (s.cam h c) ++ [(j, k0, outSpan s h n pxs)]
    if l.length < 2 ^ s.fget h 0 (ISP_OUT_CTRL_VSH n) then put l s
    else thumbRecord h c n l (put [] s)

/-! ### Compare, windows, verdicts (R205–R207) -/

/-- Parameters that act as a limit beyond their range. -/
def ispFY (s : State) (h : Nat) : Nat := clampN 1 8 (s.fget h 0 ISP_GEOM_FY)
def ispConfirm (s : State) (h : Nat) : Nat := clampN 1 8 (s.fget h 0 ISP_WIN_CONFIRM)
def ispSamples (s : State) (h : Nat) : Nat := max 1 (s.fget h 0 ISP_WIN_SAMPLES)

def winKey (c : Nat) (x : Int) : Nat := c * 2 ^ 32 + ofS 32 x
def ispWin (s : State) (h c : Nat) (x : Int) : WinX := tabGet (fun _ => {}) (s.isp h).wins (winKey c x)
def setWin (h c : Nat) (x : Int) (w : WinX) (s : State) : State :=
  s.setIsp h { (s.isp h) with wins := tabSet (fun _ => {}) (s.isp h).wins (winKey c x) w }

/-- Mean residual of a column, truncated toward zero. -/
def meanNow (w : WinX) : Int := if w.wt = 0 then 0 else w.acc.tdiv w.wt

/-- Weight of colour `c` at distance `d`. -/
def kernW (s : State) (h c d : Nat) : Nat :=
  if d = 0 then 256 else if d = 1 then s.fget h 0 (ISP_KERN_K1 c) else if d = 2 then s.fget h 0 (ISP_KERN_K2 c) else 0

/-- Distance of a value from a range. -/
def distTo (v lo hi : Int) : Nat := if v < lo then (lo - v).toNat else if hi < v then (v - hi).toNat else 0

/-- Volume of a level of colour `c`. -/
def volOf (s : State) (h c l : Nat) : Nat :=
  if l = 1 then s.fget h 0 (ISP_VOL_VOL1 c) else if l = 2 then s.fget h 0 (ISP_VOL_VOL2 c)
  else if l = 3 then s.fget h 0 (ISP_VOL_VOL3 c) else 0

/-- Density per full coverage of colour `c` on a channel. -/
def absOf (s : State) (h c ch : Nat) : Nat :=
  if ch = 0 then s.fget h 0 (ISP_ABS_R c) else if ch = 1 then s.fget h 0 (ISP_ABS_G c)
  else if ch = 2 then s.fget h 0 (ISP_ABS_B c) else s.fget h 0 (ISP_ABS_X c)

/-- The Echo line of a colour that a port keeps for a web line of the colour's current start (R203, R204). -/
def echoKept (s : State) (h port c : Nat) (k : Int) : Option EchoKept :=
  (s.cam h port).echoes.find? fun e => e.colour == c && e.line == ofS 32 k && e.start == (s.drt c).starts

/-- Columns of a hearth that a port sees of a colour, 4 more at each side (R204). -/
def portSpan (s : State) (h port c : Nat) : Nat × Nat :=
  let cs := (List.range (s.fget h port CAM_GEOM_WIDTH + 1)).map fun px => colStart s h port px + xofsOf s h c
  let lo := (cs.min?).getD 0 - 4
  let hi := (cs.max?).getD 0 + 4
  ((clampI 0 49151 lo).toNat, (clampI 0 49151 hi).toNat)

/-- Fetch one Echo line for a port, unless it keeps it already; the last FY + 4 lines of the colour are kept (R204). -/
def echoFetch (h port c : Nat) (k : Int) (s : State) : State :=
  if (echoKept s h port c k).isSome || !echoOk s c k then s
  else
    let (lo, hi) := portSpan s h port c
    let e : EchoKept := ⟨c, ofS 32 k, (s.drt c).starts, lo / 4, s.dreads c (echoLine s c (ofS 32 k) + lo / 4) (hi / 4 + 1 - lo / 4)⟩
    let x := s.cam h port
    let own := e :: (x.echoes.filter fun y => y.colour == c)
    s.setCam h port { x with echoes := own.take (ispFY s h + 4) ++ x.echoes.filter fun y => y.colour != c }

/-- Level of colour `c` at a camera-frame column on a web line, from the lines the port keeps. -/
def colourLevel (s : State) (h port c : Nat) (x k : Int) : Nat :=
  let x := x + xofsOf s h c
  if x < 0 ∨ 49152 ≤ x then 0
  else match echoKept s h port c k with
    | none => 0
    | some e => (e.bytes.getD (x.toNat / 4 - e.first) 0).toNat / 4 ^ (x.toNat % 4) % 4

/-- Predicted coverage of a pixel by colour `c`, u4.12. DEDUCED (log 86). -/
def coverage (s : State) (h port c : Nat) (a : Int) (fx fy : Nat) (k0 : Int) : Nat :=
  let sum := ((List.range (fx + 4)).flatMap fun (i : Nat) => (List.range (fy + 4)).map fun (m : Nat) =>
    let x := a - 2 + i
    let k := k0 - 2 + m
    kernW s h c (max (distTo x a (a + fx - 1)) (distTo k k0 (k0 + fy - 1))) * volOf s h c (colourLevel s h port c x k)).sum
  min (sum / (16 * fx * fy)) (s.fget h 0 (ISP_VOL_CAP c) * 256)

/-- Send a 16-byte message over the Chimney (R207). -/
def sendVerdict (h port c : Nat) (col : Int) (v : Nat) (k0 mn : Int) (pass px : Nat) (s : State) : State :=
  let msg := leBytes 1 1 ++ leBytes 1 c ++ leBytes 1 v ++ leBytes 1 (h % 8 * 16 + port) ++ leBytes 2 (ofS 16 col) ++ leBytes 2 0
    ++ leBytes 4 (ofS 32 k0) ++ leBytes 2 (ofS 16 mn) ++ leBytes 2 (s.fget h 0 ISP_WIN_SAMPLES)
  let s := s.setIsp h { (s.isp h) with flying := (s.isp h).flying ++ [(msg, pass)] }
  let s := (s.count h 0 ISP_VERDICT_TX).wr h 0 BLK_ISP ISP_LAST_VERDICT.word
    (BitVec.ofNat 32 (v * 2 ^ 30 + c % 8 * 2 ^ 27 + ofS 16 col))
  let s := (s.raise h 0 ISP_EVENT_VERDICT).emit (.inspect c msg)
  let x := s.cam h port
  let rows := s.fget h 0 (ISP_OUT_W_CROP_ROWS 1)
  if rows = 0 then s else s.setCam h port { x with crops := x.crops ++ [(px - s.fget h 0 (ISP_OUT_W_W 1) / 2, rows)] }

/-- Close the window of a column (R206). DEDUCED (log 85). -/
def closeWindow (h port c : Nat) (x : Int) (k0 : Int) (pass px : Nat) (s : State) : State :=
  let w := ispWin s h c x
  let mn := meanNow w
  let v := if mn < -(s.fget h 0 ISP_THR_DEAD : Int) then 2 else if mn < -(s.fget h 0 ISP_THR_WEAK : Int) then 1 else 0
  let v := if meanNow (ispWin s h c (x - 1)) ≤ mn ∨ meanNow (ispWin s h c (x + 1)) < mn then 0 else v
  if v = 0 then setWin h c x { vmin := w.vmin } s
  else
    let vmin := if w.run = 0 then v else min w.vmin v
    if w.run + 1 = ispConfirm s h then sendVerdict h port c (x + xofsOf s h c) vmin k0 mn pass px (setWin h c x { vmin := vmin } s)
    else setWin h c x { run := w.run + 1, vmin := vmin } s

/-- Colours compared on a row: enabled, every Echo line found; a miss is counted and reported (R203, R204). -/
def echoColours (h port : Nat) (k0 : Int) (fy : Nat) (s : State) : List Nat × State :=
  (List.range s.nH).foldl (fun (acc : List Nat × State) c =>
    if !acc.2.fon h 0 (ISP_COL_EN c) then acc
    else
      let ks := (List.range (fy + 4)).map fun (m : Nat) => k0 - 2 + (m : Int)
      let s := forEach ks (fun k s => echoFetch h port c k s) acc.2
      if ks.all fun k => (echoKept s h port c k).isSome then (acc.1 ++ [c], s)
      else (acc.1, (s.count h 0 ISP_ECHO_MISS).raise h 0 ISP_EVENT_ECHO_MISS)) ([], s)

/-- Clear the windows of a colour whose start number changed (R206). -/
def freshStarts (h : Nat) (s : State) : State :=
  forEach (List.range s.nH) (fun c s =>
    let x := s.isp h
    let n := (s.drt c).starts
    if tabGet (fun _ => 0) x.starts c = n then s
    else s.setIsp h { x with starts := tabSet (fun _ => 0) x.starts c n, wins := x.wins.filter fun e => e.1 / 2 ^ 32 != c }) s

/-- One pixel's residual charged to one colour; answers the windows that filled (column, pixel). -/
def chargeColour (h port c : Nat) (a : Int) (fx fy : Nat) (k0 r : Int) (px : Nat) (s : State) : List (Nat × Int × Nat) × State :=
  (List.range (fx + 4)).foldl (fun (acc : List (Nat × Int × Nat) × State) (i : Nat) =>
    let s := acc.2
    let x := a - 2 + i
    let d := distTo x a (a + fx - 1)
    if !((List.range fy).any fun (m : Nat) => colourLevel s h port c x (k0 + m) != 0) then acc
    else
      let w := ispWin s h c x
      let kw := kernW s h c d
      let w := { w with acc := toS 64 (ofS 64 (w.acc + kw * r)), wt := (w.wt + kw) % 2 ^ 32, n := w.n + b2n (d == 0) }
      (if d = 0 ∧ w.n = ispSamples s h then acc.1 ++ [(c, x, px)] else acc.1, setWin h c x w s)) ([], s)

/-- One pixel of a compared row (R205). -/
def comparePixel (h port : Nat) (cols : List Nat) (fy : Nat) (k0 : Int) (px : Nat) (p : List Nat) (s : State) :
    List (Nat × Int × Nat) × State :=
  let a := colStart s h port px
  let fx := (clampI 0 4 (colStart s h port (px + 1) - a)).toNat
  if fx = 0 then ([], s)
  else
    let cov := cols.map fun c => (c, coverage s h port c a fx fy k0)
    let dp := fun ch => min 65535 (baseOf s h ch + (cov.map fun e => absOf s h e.1 ch * e.2 / 16).sum)
    cols.foldl (fun acc c =>
      let s := acc.2
      let ch := s.fget h 0 (ISP_COL_CH c)
      let r := clampI (-32768) 32767 ((tabGet (fun _ => 0) (s.isp h).dlut (p.getD ch 0) : Nat) - (dp ch : Int))
      let s := if (s.fget h 0 ISP_THR_WEAK : Int) < r then s.count h 0 ISP_EXCESS else s
      let q := chargeColour h port c a fx fy k0 r px s
      (acc.1 ++ q.1, q.2)) ([], s)

/-- Compare one emitted row (R205): residuals of every pixel of OUT0, then the windows that filled, in order. -/
def compareRow (h port : Nat) (k0 : Int) (pass : Nat) (pxs : List (List Nat)) (s : State) : State :=
  let s := freshStarts h s
  let fy := ispFY s h
  let (cols, s) := echoColours h port k0 fy s
  let x0 := s.fget h 0 (ISP_OUT_X0_V 0)
  let q := (outSpan s h 0 pxs).zipIdx.foldl (fun (acc : List (Nat × Int × Nat) × State) e =>
    let r := comparePixel h port cols fy k0 (x0 + e.2) e.1 acc.2
    (acc.1 ++ r.1, r.2)) ([], s)
  forEach q.1 (fun e s => closeWindow h port e.1 e.2.1 k0 pass e.2.2 s) (q.2.count h 0 ISP_ROWS)

/-- The watermark message of a row whose index is a multiple of 32 (R207). DEDUCED (log 87). -/
def sendWatermark (h port : Nat) (j k0 : Int) (s : State) : State :=
  if j % 32 ≠ 0 then s
  else
    let msg := leBytes 1 2 ++ leBytes 2 0 ++ leBytes 1 (h % 8 * 16 + port) ++ leBytes 4 0 ++ leBytes 4 (ofS 32 (k0 + ispFY s h - 1)) ++ leBytes 4 0
    s.emits ((List.range s.nH).map fun g => .inspect g msg)

/-! ### Temporal noise reduction and emission (R197) -/

/-- Add a contribution to its row index: at most `depth` of them, none for rows already passed. DEDUCED (log 83). -/
def tnrAdd (depth : Nat) (last : Option Int) (e : TnrRow) (l : List TnrRow) : List TnrRow :=
  if (match last with | some k => decide (e.j ≤ k) | none => false) then l
  else match l.find? fun x => x.j == e.j with
    | some x => if depth ≤ x.n then l else l.map fun y => if y.j == e.j then
        { x with n := x.n + 1, sums := List.zipWith (· + ·) x.sums e.sums, r := e.r, pos := e.pos } else y
    | none => insBy (fun a b => decide (a.j ≤ b.j)) e l

/-- TNR_DEPTH in frames. -/
def tnrDepth (s : State) (h : Nat) : Nat := s.fget h 0 ISP_CTRL_TNR_DEPTH + 1

/-- Rows ready at the head: enough contributions, or a frame has started above them. -/
def tnrReady (depth : Nat) (above : Option Int) (e : TnrRow) : Bool :=
  decide (depth ≤ e.n) || (match above with | some j => decide (e.j < j) | none => false)

/-- One row passes the demosaic and goes to the four outputs. -/
def emitRow (h c : Nat) (rows : List (Int × List Nat)) (e : TnrRow) (m : List Nat) (s : State) : State :=
  let pxs := demosaicRow (mosaicOf s h) (irsubOf s h) s.freeCtr (rowFn rows) e.j e.r m
  let s := { s with freeCtr := s.freeCtr + 4 * m.length }
  let k0 := webLine s h e.pos
  let s := thumbRow h c 3 e.j k0 pxs (thumbRow h c 2 e.j k0 pxs (cropRow h c e.j k0 pxs s))
  let s := if s.fon h 0 ISP_CTRL_CMP_EN && outTakes s h 0 c && s.fget h 0 DRT_CTRL_MODE == 0 && decide (0 ≤ e.pos)
    then geoRow h c k0 (outSpan s h 0 pxs) (compareRow h c k0 e.passNs pxs s) else s
  let s := sendWatermark h c e.j k0 s
  let x := s.cam h c
  s.setCam h c { x with prev := ((e.j, m) :: x.prev).take 2 }

/-- Rows that a row of the demosaic needs below it. -/
def dmReach (s : State) (h : Nat) : Int := if (mosaicOf s h).kind = 2 then 2 else 1

/-- A row of the demosaic has every row below it that will come: one as far below has come, or a frame has started above them. -/
def dmReady (reach : Int) (last : Int) (above : Option Int) (j : Int) : Bool :=
  decide (j + reach ≤ last) || above.any fun a => decide (j + reach < a)

/-- Rows leave the demosaic in ascending index; with `fin` all of them (R198). DESIGN CHOICE (log 84). -/
def dmEmit (h c : Nat) (fin : Bool) (above : Option Int) (s : State) : State :=
  let x := s.cam h c
  let last := x.dmq.foldl (fun a e => max a e.1.j) ((x.dmq.headD (⟨0, 0, [], 0, 0, 0⟩, [])).1.j)
  let go := x.dmq.takeWhile fun e => fin || dmReady (dmReach s h) last above e.1.j
  let ctx := x.prev ++ x.dmq.map fun o => (o.1.j, o.2)
  forEach go (fun o s => emitRow h c ctx o.1 o.2 s) (s.setCam h c { x with dmq := x.dmq.drop go.length })

/-- Rows leave temporal noise reduction where they are ready, in ascending index; with `fin` all of them (R197). -/
def tnrEmit (h c : Nat) (fin : Bool) (above : Option Int) (s : State) : State :=
  let x := s.cam h c
  let go := x.tnr.takeWhile fun e => fin || tnrReady (tnrDepth s h) above e
  let outs := go.map fun e => (e, e.sums.map fun v => divRound v e.n)
  dmEmit h c fin above (s.setCam h c { x with
    tnr := x.tnr.drop go.length, dmq := x.dmq ++ outs, lastJ := ((go.getLast?).map TnrRow.j).or x.lastJ })

/-- Row index of a row; a PITCH of 0 leaves it open. -/
def indexOf (h c : Nat) (pos : Int) (s : State) : Int × State :=
  let p := s.fget h c CAM_PITCH_V
  if p = 0 then
    let (j, s) := s.free 32
    (toS 32 j, s)
  else (rowIndex pos p, s)

/-- A frame starts in the pipeline: rows below its first index are emitted. -/
def frameIn (h c : Nat) (w : Int) (sec ns pass : Nat) (s : State) : State :=
  let x := { (s.cam h c) with pw := w, psec := sec, pns := ns, ppass := pass, rows := [], cut := false }
  let (j, s) := indexOf h c (rowPos s h c w 0) (s.setCam h c x)
  tnrEmit h c false (some j) s

/-- The rows of a frame after spatial noise reduction. -/
def snrRows (s : State) (h c : Nat) : List (Nat × List Nat) :=
  let m := mosaicOf s h
  let rows := (s.cam h c).rows
  let f := rowFn (rows.map fun e => ((e.1 : Int), e.2))
  rows.map fun e => (e.1, snrRow m (min 2 (s.fget h 0 ISP_CTRL_SNR)) (s.fget h 0 ISP_SNR_THR) f e.1 e.1 e.2)

/-- The rows taken of a frame pass to temporal noise reduction. -/
def rowsIn (h c : Nat) (s : State) : State :=
  let rows := snrRows s h c
  let s := forEach rows (fun e s =>
    let pos := rowPos s h c (s.cam h c).pw e.1
    let (j, s) := indexOf h c pos s
    let x := s.cam h c
    s.setCam h c { x with tnr := tnrAdd (tnrDepth s h) x.lastJ ⟨j, 1, e.2, e.1, pos, x.ppass⟩ x.tnr }) s
  tnrEmit h c false none s

/-- The statistics record of a frame's rows (R199). -/
def statWrite (h c num status : Nat) (s : State) : State :=
  let rows := snrRows s h c
  let m := mosaicOf s h
  let f := rowFn (rows.map fun e => ((e.1 : Int), e.2))
  let dm := rows.map fun e => (e.1, demosaicRow m (irsubOf s h) (s.freeCtr + 32768 * e.1) f e.1 e.1 e.2)
  let s := if rows.isEmpty then s else { s with freeCtr := s.freeCtr + 32768 * 256 }
  let depth := max 1 (s.fget h 0 ISP_STAT_CFG_DEPTH)
  s.dwrites h (s.get64 h 0 ISP_STAT_BASE_LO + (c * depth + num % depth) * 8192)
    (statRecord num (s.cam h c) status (camLines s h c) (s.fget h c CAM_GEOM_WIDTH) dm)

/-- A closed frame leaves the pipeline: its statistics record, then its rows (R199). DEDUCED (log 82). -/
def frameOut (h c num status : Nat) (s : State) : State :=
  let s := if (s.cam h c).cut then s else statWrite h c num status s
  let s := rowsIn h c s
  s.setCam h c { (s.cam h c) with rows := [], cut := false }

/-- Number and status of the frame whose rows the pipeline is taking: as it closed, else as it stands at the port. -/
def passingFrame (s : State) (h c : Nat) : Nat × Nat :=
  match (s.cam h c).buf.dropWhile CamItem.isRow with
  | .fin num st :: _ => (num, st)
  | _ => ((s.fget h c CAM_FNUM + 1) % 2 ^ 32, 4 * b2n (s.cam h c).dropping + 8 * b2n (s.cam h c).lineErr)

/-- The lines in a port's part of the pipeline complete: the rows taken of a frame with their statistics, every row of noise reduction
and demosaic, the rows collected for thumbnails (R212). DEDUCED (log 82). -/
def portDrain (h c : Nat) (s : State) : State :=
  let f := passingFrame s h c
  let s := if (s.cam h c).rows.isEmpty then s
    else
      let s := rowsIn h c (statWrite h c f.1 f.2 s)
      s.setCam h c { (s.cam h c) with rows := [], cut := true }
  let s := tnrEmit h c true none s
  forEach [2, 3] (fun n s =>
    let l := if n = 2 then (s.cam h c).thumb2 else (s.cam h c).thumb3
    if l.isEmpty || !outTakes s h n c then s else thumbRecord h c n l s) s

/-! ### The pipeline takes lines (R194) -/

/-- Frame starts and ends at the head of a port's buffer pass on. -/
def pumpPort (h c : Nat) : Nat → State → State
  | 0, s => s
  | n + 1, s =>
    match (s.cam h c).buf with
    | .start w sec ns pass :: rest => pumpPort h c n (frameIn h c w sec ns pass (setBuf h c rest s))
    | .fin num st :: rest => pumpPort h c n (frameOut h c num st (setBuf h c rest s))
    | _ => s

/-- The pipeline runs. -/
def ispRuns (s : State) (h : Nat) : Bool := s.fget h 0 ISP_STATUS_STATE == 1

/-- Pass frame starts and ends of both ports on while the pipeline runs. -/
def pump (h : Nat) (s : State) : State :=
  if ispRuns s h then forEach [0, 1] (fun c s => pumpPort h c (s.cam h c).buf.length s) s else s

/-- The head line of a port's buffer. -/
def headLine (s : State) (h c : Nat) : Option (Nat × Nat × List Nat) :=
  match (s.cam h c).buf with
  | .row r t m :: _ => some (r, t, m)
  | _ => none

/-- The port whose head line is taken next: earliest timestamp, PRIO on a tie. -/
def nextPort (s : State) (h : Nat) : Option Nat :=
  match headLine s h 0, headLine s h 1 with
  | none, none => none
  | some _, none => some 0
  | none, some _ => some 1
  | some a, some b => some (if a.2.1 < b.2.1 then 0 else if b.2.1 < a.2.1 then 1 else s.fget h 0 ISP_CTRL_PRIO)

/-- PIPELINE_LINE_TAKEN. -/
def takeLine (h : Nat) (s : State) : State :=
  if !(s.hasH h && ispRuns s h) then s
  else
    let s := pump h s
    match nextPort s h with
    | none => s
    | some c =>
      match headLine s h c with
      | none => s
      | some (r, _, m) =>
        let s := setBuf h c ((s.cam h c).buf.drop 1) s
        pump h (s.setCam h c { (s.cam h c) with rows := (s.cam h c).rows ++ [(r, m)] })

/-! ### Verdicts at the colour hearth (R208, R209) -/

/-- The entry a column will hold once the queue has drained. -/
def ashAhead (s : State) (h x : Nat) : Word :=
  match (s.ter h).ashQ.reverse.find? fun e => e.1 == x with
  | some e => e.2.1
  | none => s.ash h x

/-- The entry a verdict pushes over base entry `e`; nothing where it is skipped. -/
def verdictEntry (s : State) (h v : Nat) (e : Word) : Option Word :=
  let st := ashState e
  if v = 1 ∧ st = 0 then
    some (insertBits (insertBits e 30 2 1) 16 8 (min 255 (ashGain e + s.fget h 0 ISP_VERDICT_WEAK_GAIN)))
  else if v = 2 ∧ st ≤ 1 then some (insertBits (insertBits e 30 2 2) 0 8 (s.fget h 0 ISP_VERDICT_DEAD_LEND))
  else none

/-- A verdict skipped. -/
def skipVerdict (h : Nat) (s : State) : State := (s.count h 0 ISP_SKIP).raise h 0 ISP_EVENT_SKIP

/-- Remove the first equal message in flight at a camera hearth; answers its pass time. -/
def landVerdict (g : Nat) (msg : List Byte) (s : State) : Option Nat × State :=
  let l := (s.isp g).flying
  match l.find? fun e => e.1 == msg with
  | none => (none, s)
  | some e => (some e.2, s.setIsp g { (s.isp g) with flying := l.erase e })

/-- Push the entry of a verdict; while a standby is in step it goes there too, and takes the larger LEAD (R361). DEDUCED (log 90). -/
def applyVerdict (h x : Nat) (e : Word) (pass : Option Nat) (s : State) : State :=
  let own := max 1 (s.fget h 0 ISP_VERDICT_LEAD)
  let line := lnum s h + (if twnLeads s then max (twnLead s) own else own)
  let (s, ok) := ashPush h x line e s
  if !ok then s.count h 0 ISP_SKIP
  else
    let s := if twnLeads s then twinSend 4 h (leBytes 2 x ++ leBytes 2 0 ++ leBytes 4 e.toNat ++ leBytes 8 line) s else s
    let s := (s.count h 0 ISP_APPLIED).raise h 0 ISP_EVENT_APPLIED
    match pass with
    | some t => if t + 12000000 < timeNs s then (s.count h 0 ISP_LATE).raise h 0 ISP_EVENT_LATE else s
    | none => s

/-- VERDICT_RECEIVED: a TYPE 1 message for this hearth. -/
def verdictIn (h : Nat) (msg : List Byte) (s : State) : State :=
  if !(s.hasH h && msg.length == 16 && byteAt msg 0 == 1 && byteAt msg 1 == h) then s
  else
    let (pass, s) := landVerdict (byteAt msg 3 / 16 % 8) msg s
    let x := leAt msg 4 2
    if !s.fon h 0 ISP_CTRL_APPLY || twnStandby s then skipVerdict h s
    else match verdictEntry s h (byteAt msg 2) (ashAhead s h x) with
      | none => skipVerdict h s
      | some e => applyVerdict h x e pass s

/-! ### Closing of inspection (R210) -/

/-- WATERMARK_RECEIVED: held pages that fire or have fired note it; those it closes retire. -/
def watermarkIn (h : Nat) (msg : List Byte) (s : State) : State :=
  if !(s.hasH h && msg.length == 16 && byteAt msg 0 == 2) then s
  else
    let key := byteAt msg 3 / 16 % 8 * 2 + byteAt msg 3 % 2
    let v := leAt msg 8 4
    let pages := (heldPages s h).filter fun p => p.st == .firing || p.st == .fired
    forEach pages (fun p s =>
      pageRetireStep h p.id (mapPage h p.id (fun q => { q with marks := (key, v) :: q.marks.filter fun m => m.1 != key }) s)) s

/-- INSPECTION_CLOSE_TIMEOUT: a page still FIRED retires as not inspected. -/
def closeTimeout (h page : Nat) (s : State) : State :=
  match findPage s h page with
  | none => s
  | some p =>
    if p.st != .fired then s
    else if inspectionOff s h || inspectionClosed s h p then retirePage h page s
    else retirePage h page ((mapPage h page (fun q => { q with notInspected := true }) s).raise h 0 ISP_EVENT_CLOSE_TIMEOUT)

/-! ### Enable, disable, the density table (R212, R205) -/

/-- Clear the windows. -/
def clearWindows (h : Nat) (s : State) : State := s.setIsp h { (s.isp h) with wins := [] }

/-- Discard what both ports' pipeline parts hold. -/
def emptyPipeline (h : Nat) (s : State) : State :=
  forEach [0, 1] (fun c s => s.setCam h c { (s.cam h c) with
    rows := [], tnr := [], lastJ := none, dmq := [], prev := [], echoes := [], crops := [], thumb2 := [], thumb3 := [] }) s

/-- The pipeline reaches OFF with a result. -/
def ispOff (h res : Nat) (s : State) : State :=
  let s := clearWindows h (emptyPipeline h s)
  ((s.fput h 0 ISP_STATUS_STATE 0).fput h 0 ISP_STATUS_DRAIN_RESULT res).raise h 0 ISP_EVENT_DRAIN_DONE

def ispOpen (s : State) (h _i _w : Nat) : Bool := !s.fon h 0 ISP_CTRL_EN && s.fget h 0 ISP_STATUS_STATE == 0

/-- After a write of an ISP word: a write that changes CMP_EN clears the windows (R206, R430). -/
def ispAct (c : WriteCtx) (s : State) : State :=
  if c.w ≠ 0 then s
  else
    let h := c.h
    let s := if c.rose s ISP_CTRL_CMP_EN || c.fell s ISP_CTRL_CMP_EN then clearWindows h s else s
    if c.wrote ISP_CTRL_FORCE_OFF = 1 then ispOff h 4 (s.fput h 0 ISP_CTRL_EN 0)
    else if c.rose s ISP_CTRL_EN then
      (if dramFailed s h then s.fput h 0 ISP_CTRL_EN 0 else pump h (s.fput h 0 ISP_STATUS_STATE 1))
    else if c.fell s ISP_CTRL_EN then ispOff h 3 (forEach [0, 1] (fun p s => portDrain h p s) s)
    else s

/-- A write of ISP_CTRL. -/
def ispWrite (h : Nat) (value : Word) (s : State) : State :=
  if s.hasH h then hostWrite BLK_ISP ispOpen ispAct h 0 0 value false s else s

/-- ISP_DLUT_ADDR advances. -/
def dlutStep (h : Nat) (s : State) : State := s.fput h 0 ISP_DLUT_ADDR_V ((s.fget h 0 ISP_DLUT_ADDR_V + 1) % 4096)

/-- An access to ISP_DLUT_DATA: a read or a write of the entry at the index, which then advances. DESIGN CHOICE (log 91). -/
def dlutAccess (h : Nat) (write : Option Word) (s : State) : State :=
  if !s.hasH h then s
  else
    let a := s.fget h 0 ISP_DLUT_ADDR_V
    let x := s.isp h
    dlutStep h (match write with
      | some v => s.setIsp h { x with dlut := tabSet (fun _ => 0) x.dlut a (v.toNat % 65536) }
      | none => s.emit (.tableRead h BLK_ISP (BitVec.ofNat 32 (tabGet (fun _ => 0) x.dlut a))))

end Sys2Proof.Machine
end

