-- ==== Sys2Proof/Machine/Calibration.lean ====
section
/-! DEFINITION. Calibration (14_calibration_and_update.md, R386–R390): runs, sets, interpolation and application. Values
are kept as bytes in the order measured: kind 0 offset s8 and gain u16 per converter, kind 1 one byte per pair, kind 2
DARK u16 and GAIN u16 per pixel (CAM0 then CAM1), kind 3 width u16 per port. -/

namespace Sys2Proof.Machine

/-- Widths in bytes of the values of a kind, repeating; a kind 0 offset is signed. DEDUCED (log 128). -/
def calWidths : Nat → List Nat
  | 0 => [1, 2]
  | 1 => [1]
  | _ => [2]

/-- Values of a kind from bytes. -/
def calValues (kind : Nat) : Nat → List Byte → List Int
  | 0, _ => []
  | n + 1, l =>
    if kind = 0 then
      if l.length < 3 then [] else toS 8 (byteAt l 0) :: (leAt l 1 2 : Int) :: calValues kind n (l.drop 3)
    else if kind = 1 then
      match l with
      | [] => []
      | b :: rest => (b.toNat : Int) :: calValues kind n rest
    else if l.length < 2 then [] else (leAt l 0 2 : Int) :: calValues kind n (l.drop 2)

/-- Bytes of the values of a kind. -/
def calBytes (kind : Nat) (vs : List Int) : List Byte :=
  vs.zipIdx.flatMap fun (v, i) =>
    let w := (calWidths kind).getD (i % (calWidths kind).length) 1
    leBytes w (ofS (8 * w) v)

/-- A block of a set. -/
def calBlock (s : State) (h cs kind : Nat) : Option CalBlock := tabGet (fun _ => none) (s.cal h).sets (4 * cs + kind)

/-- Valid blocks of a kind with their set numbers. -/
def calBlocks (s : State) (h kind : Nat) : List (Nat × CalBlock) :=
  (List.range 8).filterMap fun cs => (calBlock s h cs kind).map fun b => (cs, b)

/-- Bit mask of the sets valid for a kind. -/
def calShow (h kind : Nat) (s : State) : State :=
  s.fput h 0 (CAL_KIND_VALID kind) (((calBlocks s h kind).map fun e => 2 ^ e.1).sum)

/-- Set a block. -/
def setCalBlock (h cs kind : Nat) (b : Option CalBlock) (s : State) : State :=
  calShow h kind (s.setCal h { (s.cal h) with sets := tabSet (fun _ => none) (s.cal h).sets (4 * cs + kind) b })

/-- TSTEP in s12.4 steps. -/
def calTstep (s : State) (h : Nat) : Nat := s.fget h 0 CAL_CTRL_TSTEP

/-- Largest difference of two lists of temperatures. -/
def tempGap (a b : List Int) : Nat := (List.zipWith (fun x y => (x - y).natAbs) a b).foldl max 0

/-- The set that takes an accepted result (R390): nearest within TSTEP/2, first without a block, oldest. -/
def calChoose (s : State) (h kind : Nat) (temps : List Int) : Nat :=
  let bs := calBlocks s h kind
  let near := (bs.filter fun e => decide (2 * tempGap e.2.temps temps ≤ calTstep s h)).map fun e => (tempGap e.2.temps temps, e.1)
  match sortBy (fun a b => decide (a.1 ≤ b.1)) near with
  | e :: _ => e.2
  | [] =>
    match (List.range 8).find? fun cs => (calBlock s h cs kind).isNone with
    | some cs => cs
    | none => ((sortBy (fun a b => decide (a.2.stamp ≤ b.2.stamp)) bs).head?.map Prod.fst).getD 0

/-! ### Application (R390) -/

/-- Governing temperatures now: die temperature, or each port's head temperature. -/
def calTemps (s : State) (h kind : Nat) : List Int :=
  if kind = 3 then (List.range 12).map fun p => toS 16 (s.fget h p FBX_MEAS_TEMP) else [toS 16 (s.fget h 0 DRM_TEMP_V)]

/-- Division rounded half away from zero (R167). -/
def divAway (a b : Int) : Int := if 0 ≤ a then (2 * a + b) / (2 * b) else -((2 * (-a) + b) / (2 * b))

/-- Value at `t` between neighbouring blocks. -/
def calInterp (t : Int) : List (Int × List Int) → List Int
  | [] => []
  | [(_, v)] => v
  | (ta, va) :: (tb, vb) :: rest =>
    if t ≤ ta then va
    else if t < tb then List.zipWith (fun a b => a + divAway ((b - a) * (t - ta)) (tb - ta)) va vb
    else calInterp t ((tb, vb) :: rest)

/-- The blocks of a kind in ascending temperature of index `i`, the newer where two are equal. -/
def calCurve (s : State) (h kind i : Nat) : List (Int × CalBlock) :=
  let bs := sortBy (fun a b => decide (b.2.stamp ≤ a.2.stamp)) ((calBlocks s h kind).map fun e => (e.2.temps.getD i 0, e.2))
  let bs := bs.foldl (fun acc e => if acc.any fun x => x.1 == e.1 then acc else acc ++ [e]) []
  sortBy (fun a b => decide (a.1 ≤ b.1)) bs

/-- Put values of kind 0 to 2 in force: trims at once, deskew at the next gap line or at once while TER is OFF, the flat
field at the next frame start. -/
def calForce (h kind : Nat) (v : List Int) (s : State) : State :=
  let s := s.setCal h { (s.cal h) with
    inForce := if kind = 1 then (s.cal h).inForce else tabSet (fun _ => []) (s.cal h).inForce kind v,
    appliedAt := tabSet (fun _ => none) (s.cal h).appliedAt kind (some ((calTemps s h kind).getD 0 0)) }
  if kind = 1 then
    if s.fget h 0 TER_STATUS_SLOT = 0 then
      s.setCal h { (s.cal h) with inForce := tabSet (fun _ => []) (s.cal h).inForce 1 v, skew := none }
    else s.setCal h { (s.cal h) with skew := some v }
  else if kind = 2 then
    let px := (List.range (v.length / 2)).map fun i => ((v.getD (2 * i) 0).toNat, (v.getD (2 * i + 1) 0).toNat)
    let w := s.fget h 0 CAM_GEOM_WIDTH
    (s.setCam h 0 { (s.cam h 0) with flatNext := some (px.take w) }).setCam h 1 { (s.cam h 1) with flatNext := some (px.drop w) }
  else s

/-- Deskew waiting for a gap line acts at the first gap line of a slot. -/
def calAtGap (h : Nat) (s : State) : State :=
  match (s.cal h).skew with
  | none => s
  | some v => s.setCal h { (s.cal h) with inForce := tabSet (fun _ => []) (s.cal h).inForce 1 v, skew := none }

/-- Stage a port's strobe widths from the valid blocks of kind 3; entries beyond the last repeat it. -/
def stageWidths (h p : Nat) (s : State) : State :=
  let c := calCurve s h 3 p
  match c.getLast? with
  | none => s
  | some l =>
    forEach (List.range 8) (fun j s =>
      let e := c.getD j l
      let w := ((calValues 3 e.2.data.length e.2.data).getD p 0).toNat
      let f := FBX_STBT_TEMP j
      s.setStg h p BLK_FBX f.word (BitVec.ofNat 32 (ofS 16 e.1 * 65536 + w % 2 ^ 14))) s

/-- Kind 3: stage every port and arm for LNUM + 64, or wait for the pending arm. -/
def armWidths (h : Nat) (s : State) : State :=
  let s := forEach (List.range 12) (stageWidths h) s
  if s.fon h 0 TER_STATUS_PRIV_PEND then s.setCal h { (s.cal h) with armWait := true }
  else (privArmAt h (lnum s h + 64) s).setCal h { ((privArmAt h (lnum s h + 64) s).cal h) with armWait := false }

/-- Apply a kind from its sets. -/
def calApply (h kind : Nat) (s : State) : State :=
  if (calBlocks s h kind).isEmpty then s
  else if kind = 3 then armWidths h s
  else
    let t := (calTemps s h kind).getD 0 0
    calForce h kind (calInterp t ((calCurve s h kind 0).map fun e => (e.1, calValues kind e.2.data.length e.2.data))) s

/-! ### Results (R386) -/

/-- TARGET (index 0) and TD of colour `k` (index k + 1) of the calibration targets, u16 each. DESIGN CHOICE (log 180). -/
def calTarget (s : State) (i : Nat) : Int :=
  match cfgKind s 6 with
  | some l => (leAt l (2 * i) 2 : Int)
  | none => ((Config.calTarget i).toNat : Int)

/-- GAIN u2.14 of a pixel: TARGET over the span from DARK to BRIGHT, clamped. -/
def flatGain (target dark bright : Int) : Int :=
  if bright = dark then clampI 0x2000 0xFFFF ((Config.flatGain dark).toNat : Int)
  else
    let g := if dark < bright then divAway (target * 2 ^ 14) (bright - dark) else divAway (-(target * 2 ^ 14)) (dark - bright)
    clampI 0x2000 0xFFFF g

/-- Kind 2: DARK and GAIN per pixel from its DARK and BRIGHT. -/
def flatResult (target : Int) : List Int → List Int
  | dark :: bright :: rest => dark :: flatGain target dark bright :: flatResult target rest
  | _ => []

/-- The base width at which the straight line through the densities at 0.9 w, w and 1.1 w reaches `td`. -/
def fitWidth (w td d0 d1 d2 : Int) : Int :=
  if d2 = d0 then ((Config.fitWidth w d1).toNat : Int)
  else
    let x := w * (3 * td - (d0 + d1 + d2))
    let y := 15 * (d2 - d0)
    clampI 0 (2 ^ 14 - 1) (w + (if 0 < y then divAway x y else divAway (-x) (-y)))

/-- Base width in use on a port at its temperature (R167). -/
def widthInUse (s : State) (h p : Nat) : Int :=
  baseWidth (toS 16 (s.fget h p FBX_MEAS_TEMP))
    (ascRun ((List.range 8).map fun j => (s.sget h p (FBX_STBT_TEMP j), s.fget h p (FBX_STBT_WIDTH j))))

/-- Values of kind 1: the eye midpoints of a port in READY, the values in force of any other; nine pairs to a port. -/
def deskewResult (s : State) (h : Nat) (m : List Int) : List Int :=
  let old := tabGet (fun _ => []) (s.cal h).inForce 1
  m.zipIdx.map fun e => if portState s h (e.2 / 9) = 3 then e.1 else old.getD e.2 e.1

/-- Kind 3: three band densities to a port. -/
def energyResult (s : State) (h : Nat) (m : List Int) : List Int :=
  (List.range (m.length / 3)).map fun p =>
    fitWidth (widthInUse s h p) (calTarget s (h + 1)) (m.getD (3 * p) 0) (m.getD (3 * p + 1) 0) (m.getD (3 * p + 2) 0)

/-- The values that one measurement of a kind gives (R386): offset and gain of each converter; the midpoint of each eye; DARK and
GAIN from DARK and BRIGHT of each pixel; the width of each port from its three bands. DESIGN CHOICE (log 180). -/
def calResult (s : State) (h kind : Nat) (m : List Int) : List Int :=
  match kind with
  | 0 => m
  | 1 => deskewResult s h m
  | 2 => flatResult (calTarget s 0) m
  | _ => energyResult s h m

/-! ### Runs (R388, R389) -/

/-- Kinds running, as CAL_STATUS shows them. -/
def calRunning (h : Nat) (s : State) : State :=
  s.fput h 0 CAL_STATUS_RUNNING (match (s.cal h).run with | some r => 2 ^ r.kind | none => 0)

/-- Begin the next queued run where none runs. -/
def calNext (h : Nat) (s : State) : State :=
  let x := s.cal h
  match x.run, x.queue with
  | none, r :: rest => calRunning h (s.setCal h { x with run := some r, queue := rest })
  | _, _ => calRunning h s

/-- Ask for a run; an automatic one of a kind already asked for is absorbed (R402). -/
def calAsk (h : Nat) (r : CalRun) (s : State) : State :=
  let x := s.cal h
  let dup := r.owner.isNone && ((x.run.toList ++ x.queue).any fun q => q.kind == r.kind)
  let q := if r.owner.isSome then x.queue.filter fun q => !(q.kind == r.kind && q.owner.isNone) else x.queue
  calNext h (if dup then s else s.setCal h { x with queue := q ++ [r] })

/-- Some camera port of the device compares (R320). -/
def anyCompare (s : State) : Bool :=
  (List.range s.nH).any fun g => s.fon g 0 ISP_CTRL_CMP_EN && (s.fon g 0 CAM_CTRL_EN || s.fon g 1 CAM_CTRL_EN)

/-- A kind has moved beyond TSTEP since its last accepted run. -/
def calMoved (s : State) (h kind : Nat) : Bool :=
  let last := tabGet (fun _ => []) (s.cal h).lastTemps kind
  (List.zipWith (fun a b => decide (calTstep s h < (a - b).natAbs)) last (calTemps s h kind)).any id

/-- CAL_AUTO_CHECK (R388, R390). -/
def calCheck (h : Nat) (s : State) : State :=
  if !s.hasH h then s
  else
    let s := if s.fon h 0 CAL_CTRL_AUTO then
        forEach (List.range 4) (fun k s =>
          if calMoved s h k && decide (tabGet (fun _ => 0) (s.cal h).waitTil k ≤ s.now) && (decide (k < 2) || anyCompare s) then
            calAsk h { kind := k } s else s) s
      else s
    let s := forEach (List.range 3) (fun k s =>
      match tabGet (fun _ => none) (s.cal h).appliedAt k with
      | some t => if 4 ≤ ((calTemps s h k).getD 0 0 - t).natAbs then calApply h k s else s
      | none => s) s
    if (s.cal h).armWait then armWidths h s else s

/-- A run ends with a status. -/
def calEnd (h st : Nat) (s : State) : State :=
  match (s.cal h).run with
  | none => s
  | some r =>
    let s := (s.setCal h { (s.cal h) with run := none }).count h 0 CAL_RUNS
    calNext h (noteDop r.owner h st (s.fput h 0 CAL_STATUS_LAST st))

/-- A result is accepted: the set that takes it, its application, its record. -/
def calAccept (h kind : Nat) (vs temps : List Int) (s : State) : State :=
  let cs := calChoose s h kind temps
  let n := (s.cal h).stampNo
  let s := s.setCal h { (s.cal h) with
    stampNo := n + 1, lastTemps := tabSet (fun _ => []) (s.cal h).lastTemps kind temps,
    lastAt := tabSet (fun _ => none) (s.cal h).lastAt kind (some s.now) }
  let s := setCalBlock h cs kind (some ⟨temps, calBytes kind vs, n⟩) s
  let s := (s.fput h 0 (CAL_KIND_TEMP kind) (ofS 16 (temps.getD 0 0))).fput h 0 (CAL_KIND_SET kind) cs
  fwEvent h 0x8D01 ((calApply h kind s).raise h 0 CAL_EVENT_DONE)

/-- CAL_RUN_DONE (R389): two measurements of the running kind at governing temperatures `temps`. -/
def calRunDone (h : Nat) (m1 m2 temps : List Int) (s : State) : State :=
  match (s.cal h).run with
  | none => s
  | some r =>
    let tol := s.fget h 0 CAL_CTRL_TOL
    let v1 := calResult s h r.kind m1
    let v2 := calResult s h r.kind m2
    if v1.length = v2.length && (List.zipWith (fun a b => decide ((a - b).natAbs ≤ tol)) v1 v2).all id then
      calEnd h 0 (calAccept h r.kind (List.zipWith (fun a b => (a + b + 1) / 2) v1 v2) temps s)
    else
      let s := s.setCal h { (s.cal h) with waitTil := tabSet (fun _ => 0) (s.cal h).waitTil r.kind (s.now + 24000000000) }
      calEnd h 0x20 (fwEvent h 0x8D02 ((s.count h 0 CAL_REJECTS).raise h 0 CAL_EVENT_REJECT))

/-! ### The sets in RAM and in flash -/

/-- Flash copies of the sets named by `mask`, taken or erased (R320, R390). -/
def calStore (h mask : Nat) (erase : Bool) (s : State) : State :=
  let x := s.cal h
  let keys := (below 8 (bit mask)).flatMap fun cs => (List.range 4).map fun k => 4 * cs + k
  let t := keys.foldl (fun t k => tabSet (fun _ => none) t k (if erase then none else tabGet (fun _ => none) x.sets k)) x.stored
  (s.setCal h { x with stored := t }).raise h 0 CAL_EVENT_STORED

/-- The stored sets are loaded at boot. -/
def calLoad (h : Nat) (s : State) : State :=
  let s := s.setCal h { (s.cal h) with sets := (s.cal h).stored }
  forEach (List.range 4) (fun k s => calApply h k (calShow h k s)) s

end Sys2Proof.Machine
end

