-- ==== Sys2Proof/Machine/Chimney.lean ====
section
/-! DEFINITION. The Chimney fabric and the memory controllers (08_chimney_and_dram.md): links and routes (R244–R247),
the arbiters (R250, R251), training, refresh and retraining (R252–R257), the firing bound's counters (R259, R260). -/

namespace Sys2Proof.Machine

/-! ### Links and routes (R244, R246) -/

/-- Link ports: 0 W, 1 E, 2 X. -/
def linkPresent (s : State) (h l : Nat) : Bool := s.hasH h && (decide (l < 2) || (l == 2 && s.nH == 8))

/-- The hearth and port at the other end of a link. -/
def linkPeer (s : State) (h l : Nat) : Nat × Nat :=
  if l = 0 then ((h + s.nH - 1) % s.nH, 1) else if l = 1 then ((h + 1) % s.nH, 0) else ((h + 4) % 8, 2)

/-- A link is UP. DESIGN CHOICE (log 95). -/
def linkUp (s : State) (h l : Nat) : Bool := linkPresent s h l && !s.linksLost.contains (4 * h + l)

/-- The hearths one hop from a list of hearths, over links that satisfy `ok`. -/
def hop (s : State) (ok : Nat → Nat → Bool) (xs : List Nat) : List Nat :=
  below s.nH fun g => xs.contains g || xs.any fun h => (List.range 3).any fun l => ok h l && (linkPeer s h l).1 == g

/-- Hearths within `n` hops. -/
def within (s : State) (ok : Nat → Nat → Bool) (h : Nat) : Nat → List Nat
  | 0 => [h]
  | n + 1 => hop s ok (within s ok h n)

/-- A link of the SB-8's bridge: it joins H0–H3 to H4–H7. -/
def bridgeLink (s : State) (h l : Nat) : Bool := s.nH == 8 && (decide (h < 4) != decide ((linkPeer s h l).1 < 4))

/-- The bridge is up. -/
def bridgeUp (s : State) : Bool :=
  (List.range 8).any fun h => (List.range 3).any fun l => bridgeLink s h l && linkUp s h l

/-- CHM_LINKS of every hearth as the links stand. -/
def linksShow (s : State) : State :=
  forEach (List.range s.nH) (fun h s =>
    let up := (below 3 (linkUp s h)).foldl (fun a l => a + 2 ^ l) 0
    let pr := (below 3 (linkPresent s h)).foldl (fun a l => a + 2 ^ l) 0
    s.wr h 0 BLK_CHM CHM_LINKS.word (BitVec.ofNat 32 (up + 256 * pr + 65536 * b2n (bridgeUp s)))) s

/-- An event on every hearth. DEDUCED (log 96). -/
def raiseAll (e : Fld) (s : State) : State := forEach (List.range s.nH) (fun h s => s.raise h 0 e) s

/-! ### The halves of an SB-8 (R337–R341) -/

/-- Lead of the half without the crown, and whether a hearth belongs to that half. -/
def juniorLead (s : State) : Nat := if s.crown < 4 then 4 else 0
def juniorHalf (s : State) (h : Nat) : Bool := s.nH == 8 && (decide (h < 4) != decide (s.crown < 4))

/-- GLB_CROWN of every hearth the crown can reach; of the junior half, while its lead serves it, without an epoch (R338). -/
def crownShow (epoch : Nat) (s : State) : State :=
  forEach (List.range s.nH) (fun h s =>
    if s.junior.on && juniorHalf s h then
      (s.fput h 0 GLB_CROWN_HEARTH (juniorLead s)).fputB h 0 GLB_CROWN_IS (h == juniorLead s)
    else
      ((s.fput h 0 GLB_CROWN_HEARTH s.crown).fputB h 0 GLB_CROWN_IS (h == s.crown)).fput h 0 GLB_CROWN_EPOCH epoch) s

/-- The bridge is down: the junior lead serves its half in mode JUNIOR, its channels enabled as their EN stands (R340). -/
def juniorWakes (s : State) : State :=
  if s.nH ≠ 8 ∨ !s.up ∨ s.junior.on then s
  else
    let l := juniorLead s
    let s := { s with junior := { on := true } }
    let s := forEach (below 4 fun ch => s.fon l ch MBX_CTRL_EN) (fun ch => fun s => s.fput l ch MBX_STATUS_STATE 1) s
    crownShow (s.fget s.crown 0 GLB_CROWN_EPOCH) s

/-- Act as the junior lead: its half in mode JUNIOR, its channels, its deferred commands. -/
def inJunior (f : State → State) (s : State) : State :=
  if !s.junior.on then s
  else
    let v := f { s with crown := juniorLead s, mode := 3, mbxs := s.junior.mbxs, dops := s.junior.dops }
    { v with
      crown := s.crown, mode := s.mode, mbxs := s.mbxs, dops := s.dops
      junior := { v.junior with mbxs := v.mbxs, dops := v.dops } }

/-- Act for a channel: 0 to 3 are the crown's, 8 to 11 the junior lead's. -/
def onSide (ch : Nat) (f : Nat → State → State) (s : State) : State := if 8 ≤ ch then inJunior (f (ch - 8)) s else f ch s

/-- Channel, bank, column and row of a hearth address (R253). -/
def dramPlace (s : State) (h a : Nat) : Nat × Nat × Nat × Nat :=
  let size := s.fitted h
  let ord := s.fget h 0 DRM_CFG_ORDER
  if ord = 0 then (a / (size / 2) % 2, bits a 12 4, bits a 0 12, a % (size / 2) / 65536)
  else
    let bank := if ord = 1 then bits a 13 4 else if ord = 2 then bits a 13 4 ^^^ bits a 17 4 else bits a 9 4
    let col := (if ord = 3 then bits a 13 4 else bits a 9 4) * 256 + bits a 0 8
    (bits a 8 1, bank, col, a / 131072)

/-! ### Requesters and routes (R245–R249) -/

/-- Class of a requester number (R248, R249): 0 F, 1 C, 2 I, 3 M, 4 B. -/
def reqClass (r : Nat) : Nat := if r < 2 then 0 else if r < 10 then 1 else if r < 15 then 2 else if r < 18 then 3 else 4
def Pkt.cls (p : Pkt) : Nat := reqClass p.req

/-- Fewest hops from a hearth to another over links that satisfy `ok`. -/
def hops (s : State) (ok : Nat → Nat → Bool) (h g : Nat) : Option Nat := (List.range 9).find? fun n => (within s ok h n).contains g

/-- A destination is reachable: over any links that are UP, or with ROUTE_AUTO 0 only over the routes of fewest hops. -/
def reachable (s : State) (h g : Nat) : Bool :=
  match hops s (linkUp s) h g with
  | none => false
  | some n => s.fon h 0 CHM_CTRL_ROUTE_AUTO || hops s (linkPresent s) h g == some n

/-- Link ports in the order in which a tie is decided: X, E, W; in the SB-2 by the flow number, even E, odd W. -/
def portOrder (s : State) (req : Nat) : List Nat := if s.nH = 2 then (if req % 2 = 0 then [1, 0] else [0, 1]) else [2, 1, 0]

/-- The link ports of a route of `n` hops. -/
def routeFrom (s : State) (req g : Nat) : Nat → Nat → List Nat
  | 0, _ => []
  | n + 1, h =>
    match (portOrder s req).find? fun l => linkUp s h l && hops s (linkUp s) (linkPeer s h l).1 g == some n with
    | none => []
    | some l => l :: routeFrom s req g n (linkPeer s h l).1

/-- The route a packet takes from a hearth, where its destination is reachable. -/
def routeTo (s : State) (h g req : Nat) : Option (List Nat) :=
  if reachable s h g then some (routeFrom s req g ((hops s (linkUp s) h g).getD 0) h) else none

/-- Every link of a route is UP. -/
def routeUp (s : State) : Nat → List Nat → Bool
  | _, [] => true
  | h, l :: ls => linkUp s h l && routeUp s (linkPeer s h l).1 ls

/-! ### Queues (R250, R251). Outputs 0–2 links W, E, X and 3, 4 the DRAM channels at device level; 8 more at hearth level. -/

/-- An output of a hearth. -/
def State.outX (s : State) (h o : Nat) : OutX := tabGet (fun _ => {}) (s.chm h).outs o
def State.setOut (s : State) (h o : Nat) (x : OutX) : State :=
  s.setChm h { (s.chm h) with outs := tabSet (fun _ => {}) (s.chm h).outs o x }

/-- A DRAM channel rather than a link. -/
def outIsDram (o : Nat) : Bool := decide (3 ≤ o % 8)

/-- The source a packet's queue is named by: its requester at hearth level, its hearth at device level. -/
def queueKey (o : Nat) (p : Pkt) : Nat := if 8 ≤ o then p.req else p.src

/-- A packet joins its queue; a queue that becomes active joins the back of the list with deficit 0. -/
def arbJoin (o : Nat) (x : OutX) (p : Pkt) : OutX :=
  let own (q : ArbQ) : Bool := q.cls == p.cls && q.src == queueKey o p
  if p.cls = 0 then { x with f := x.f ++ [p] }
  else if x.active.any own then { x with active := x.active.map fun q => if own q then { q with pkts := q.pkts ++ [p] } else q }
  else { x with active := x.active ++ [{ cls := p.cls, src := queueKey o p, pkts := [p] }] }

/-- Two packets are of one flow (R245): the same requester of the same hearth, the same destination. -/
def sameFlow (p q : Pkt) : Bool := p.req == q.req && p.src == q.src && p.dst == q.dst

/-- Put a packet ahead of the packets of its flow, behind the others. -/
def aheadOfFlow (p : Pkt) : List Pkt → List Pkt
  | [] => [p]
  | q :: qs => if sameFlow p q then p :: q :: qs else q :: aheadOfFlow p qs

/-- A replayed packet joins its queue ahead of any newer packet of its flow (R247). -/
def arbReplay (o : Nat) (x : OutX) (p : Pkt) : OutX :=
  let own (q : ArbQ) : Bool := q.cls == p.cls && q.src == queueKey o p
  if p.cls = 0 then { x with f := aheadOfFlow p x.f }
  else if x.active.any own then { x with active := x.active.map fun q => if own q then { q with pkts := aheadOfFlow p q.pkts } else q }
  else arbJoin o x p

/-- Every packet queued at an output or in its replay buffer. -/
def OutX.all (x : OutX) : List Pkt := x.sent.map Prod.snd ++ x.f ++ x.active.flatMap ArbQ.pkts

/-- A packet of the flow has not arrived at its destination hearth. -/
def underWay (s : State) (p : Pkt) : Bool :=
  (List.range s.nH).any fun g => [0, 1, 2, 8, 9, 10].any fun o => (s.outX g o).all.any (sameFlow p)

/-- A packet to an unreachable destination is discarded where it is found to be (R247). -/
def unreach (h : Nat) (s : State) : State := (s.count h 0 CHM_UNREACH).raise h 0 CHM_EVENT_UNREACH

/-- A packet at a hearth goes to the memory or the unit it is for, or to the next link of its route, on which a link that is
down is gone round; `join` queues it, at hearth level with `level` 8. -/
def place (join : Nat → OutX → Pkt → OutX) (level h : Nat) (p : Pkt) (s : State) : State :=
  let put (o : Nat) (p : Pkt) : State := s.setOut h (level + o) (join (level + o) (s.outX h (level + o)) { p with since := s.now })
  if p.dst = h then
    match p.mem with
    | none => s.emit (.delivered h p)
    | some a => put (3 + (dramPlace s h a).1) { p with len := p.slots, route := [] }
  else
    let r := if p.route ≠ [] ∧ linkUp s h (p.route.headD 3) then some p.route else routeTo s h p.dst p.req
    match r with
    | some (l :: ls) => put l { p with route := l :: ls }
    | _ => unreach h (s.emit (.requestTimeout p.src p))

/-- A request enters the Chimney at its hearth: a flow with packets under way keeps their route while its links are UP
(R247). Class F takes no part in the round robin. -/
def request (h : Nat) (r : Request) (s : State) : State :=
  let p : Pkt := { req := r.req, src := h, dst := r.dst, mem := r.mem, len := clampN 1 9 r.flits, slots := clampN 1 4 r.slots }
  if !s.hasH r.dst then s
  else
    let key := 8 * r.req + r.dst
    let old := tabGet (fun _ => []) (s.chm h).flows key
    let route := if underWay s p && routeUp s h old then old else (routeTo s h r.dst r.req).getD []
    let s := s.setChm h { (s.chm h) with flows := tabSet (fun _ => []) (s.chm h).flows key route }
    place arbJoin (if p.cls = 0 then 0 else 8) h { p with route := route } s

/-! ### Links that fail and rise (R247) -/

/-- What a transmitter held for a link that has gone down takes other routes, the replay buffer first and ahead of newer
packets of its flows; the hearth's own requests for it are routed anew as well. -/
def moveOff (h l : Nat) (s : State) : State :=
  let x := s.outX h l
  let own := s.outX h (8 + l)
  let s := (s.setOut h l {}).setOut h (8 + l) {}
  let s := forEach (x.f ++ x.active.flatMap ArbQ.pkts) (place arbJoin 0 h) s
  let s := forEach (x.sent.map Prod.snd).reverse (place arbReplay 0 h) s
  forEach (own.active.flatMap ArbQ.pkts) (place arbJoin 8 h) s

/-- A transmitter of a link that has gone down (R247). DESIGN CHOICE (log 95). -/
def transmitterLoses (h l : Nat) (s : State) : State :=
  let s := moveOff h l (s.raise h 0 CHM_EVENT_LINK_DOWN)
  if s.fon h 0 CHM_CTRL_ROUTE_AUTO && reachable s h (linkPeer s h l).1 then s.raise h 0 CHM_EVENT_REROUTE else s

/-- A link leaves UP at both ends, each a transmitter. -/
def linkFails (h l : Nat) (s : State) : State :=
  if !linkUp s h l then s
  else
    let p := linkPeer s h l
    let was := bridgeUp s
    let add := insBy fun a b => decide (a ≤ b)
    let s := linksShow { s with linksLost := add (4 * h + l) (add (4 * p.1 + p.2) s.linksLost) }
    let s := transmitterLoses p.1 p.2 (transmitterLoses h l s)
    if was && !bridgeUp s then raiseAll CHM_EVENT_BRIDGE_DOWN (juniorWakes s) else s

/-- Clocks a packet takes over one hop: 8 ns and a nanosecond a flit (R245). -/
def hopClocks (p : Pkt) : Nat := ((8 + p.len) * 2 + 4) / 5

/-- FLIT_CRC_ERROR (R247): a resend of what the link's replay buffer holds; more than 16 within 1 ms take the link down. -/
def flitError (h l : Nat) (s : State) : State :=
  if !linkUp s h l then s
  else
    let x := s.chm h
    let ts := s.now :: (tabGet (fun _ => []) x.resends l).filter fun t => decide (s.now < t + 400000)
    let o := s.outX h l
    let s := s.setOut h l { o with sent := o.sent.map fun e => (s.now + hopClocks e.2, e.2) }
    let s := (s.setChm h { (s.chm h) with resends := tabSet (fun _ => []) (s.chm h).resends l ts }).count h 0 CHM_RETRY
    if ts.length ≤ 16 then s
    else
      let x := s.chm h
      linkFails h l ((s.setChm h { x with resends := tabSet (fun _ => []) x.resends l [] }).raise h 0 CHM_EVENT_RETRY_LIMIT)

/-- CHIMNEY_LINK_UP (R247): a retrained link enters UP at both ends. -/
def linkRises (h l : Nat) (s : State) : State :=
  if !linkPresent s h l || linkUp s h l then s
  else
    let p := linkPeer s h l
    let was := bridgeUp s
    let s := linksShow { s with linksLost := s.linksLost.filter fun k => k != 4 * h + l && k != 4 * p.1 + p.2 }
    let s := (s.raise h 0 CHM_EVENT_LINK_UP).raise p.1 0 CHM_EVENT_LINK_UP
    if !was && bridgeUp s then raiseAll CHM_EVENT_BRIDGE_UP s else s

/-- A packet whose time on a link is over arrives at the other end (R245). -/
def hopDone (h l : Nat) (p : Pkt) (s : State) : State := place arbJoin 0 (linkPeer s h l).1 { p with route := p.route.tail } s

/-- The packets of a link that have arrived, in order. -/
def linkFollow (h l : Nat) (s : State) : State :=
  let x := s.outX h l
  let due := x.sent.takeWhile fun e => decide (e.1 ≤ s.now)
  if due = [] then s
  else forEach due (fun e => hopDone h l e.2) (s.setOut h l { x with sent := x.sent.drop due.length })

/-! ### Arbiters (R250, R251) -/

/-- The cap of class F in 64 flits or slots. -/
def fCap (s : State) (h o : Nat) : Nat := clampN 1 64 (s.fget h 0 (if outIsDram o then DRM_FCAP_CAP else CHM_CTRL_F_CAP))

/-- Quantum of a class at an output. -/
def quantum (s : State) (h o cls : Nat) : Nat :=
  let f := if outIsDram o then
      (if cls = 1 then DRM_QUANTUM_Q_C else if cls = 2 then DRM_QUANTUM_Q_I else if cls = 3 then DRM_QUANTUM_Q_M else DRM_QUANTUM_Q_B)
    else (if cls = 1 then CHM_QUANTUM_Q_C else if cls = 2 then CHM_QUANTUM_Q_I else if cls = 3 then CHM_QUANTUM_Q_M else CHM_QUANTUM_Q_B)
  max (if outIsDram o then 1 else 9) (s.fget h 0 f)

/-- One turn after another of the deficit round robin until a packet is served. -/
def arbTurn (quantumOf : Nat → Nat) (device : Bool) : Nat → List ArbQ → Option Pkt × List ArbQ
  | 0, qs => (none, qs)
  | n + 1, qs =>
    match qs with
    | [] => (none, [])
    | q :: rest =>
      match q.pkts with
      | [] => arbTurn quantumOf device n rest
      | p :: ps =>
        let d := if q.fresh then q.deficit + quantumOf q.cls * (if device then clampN 1 63 p.cnt else 1) else q.deficit
        if p.len ≤ d then (some p, if ps.isEmpty then rest else { q with pkts := ps, deficit := d - p.len, fresh := false } :: rest)
        else arbTurn quantumOf device n (rest ++ [{ q with deficit := d, fresh := true }])

/-- Turns within which a packet is served, every quantum being at least 1. -/
def arbFuel (qs : List ArbQ) : Nat :=
  (qs.length + 1) * ((qs.map fun q => ((q.pkts.head?.map Pkt.len).getD 0)).foldl max 0 + 2)

/-- The next packet of an output, as the spec's `pick` chooses it; its windows count 64 flits or slots. DEDUCED (log 98). -/
def arbPick (s : State) (h o : Nat) (x : OutX) : Option Pkt × OutX :=
  let x := if 64 ≤ x.served then { x with served := x.served % 64, fUsed := 0 } else x
  match x.f with
  | p :: ps =>
    if x.fUsed < fCap s h o ∨ x.active.isEmpty then
      (some p, { x with f := ps, fUsed := x.fUsed + p.len, served := x.served + p.len, held := false })
    else
      let r := arbTurn (quantum s h o) true (arbFuel x.active) x.active
      (r.1, { x with active := r.2, held := true, served := x.served + (r.1.map Pkt.len).getD 0 })
  | [] =>
    let r := arbTurn (quantum s h o) true (arbFuel x.active) x.active
    (r.1, { x with active := r.2, served := x.served + (r.1.map Pkt.len).getD 0 })

/-- Count a sent packet's flits at a link port where CHM_STAT_SEL selects them. -/
def statFlits (h l dir : Nat) (p : Pkt) (s : State) : State :=
  let c := s.fget h 0 CHM_STAT_SEL_CLASS
  let lk := s.fget h 0 CHM_STAT_SEL_LINK
  if (c = p.cls ∨ 5 ≤ c) ∧ s.fget h 0 CHM_STAT_SEL_DIR = dir ∧ (if lk = 3 then 0 else lk) = l then s.count h 0 CHM_STAT_FLITS p.len else s

/-- Requesters of a class that are active at a hearth: one of their requests waits at hearth level (R248). -/
def activeReqs (s : State) (h cls : Nat) : Nat :=
  (below 22 fun r => reqClass r == cls && (below 5 fun o => (s.outX h (8 + o)).active.any fun q => q.src == r) != []).length

/-- A hearth-level output serves its next request, each queue with count 1: the packet takes its CNT to device level (R251). -/
def hearthServe (h o : Nat) (s : State) : State :=
  let x := s.outX h (8 + o)
  let r := arbTurn (quantum s h o) false (arbFuel x.active) x.active
  match r.1 with
  | none => s
  | some p =>
    let p := { p with cnt := clampN 1 63 (activeReqs s h p.cls), since := s.now }
    let s := s.setOut h (8 + o) { x with active := r.2 }
    s.setOut h o (arbJoin o (s.outX h o) p)

/-- A link's or channel's arbiter takes its next packet. -/
def outTake (h o : Nat) (s : State) : Option Pkt × State :=
  let x := s.outX h o
  let r := arbPick s h o x
  let s := s.setOut h o r.2
  (r.1, if r.2.held && !x.held then s.count h 0 DRM_F_CAPPED else s)

/-- The clock from which a packet of `n` flits fits the replay buffer of 64, what it holds leaving as it arrives (R247). -/
def roomAt (n : Nat) : List (Nat × Pkt) → Nat
  | [] => 0
  | e :: es => if (((e :: es).map fun e => e.2.len).sum) + n ≤ 64 then 0 else max e.1 (roomAt n es)

/-- A link sends its next packet. -/
def linkServe (h l : Nat) (s : State) : State :=
  if !linkUp s h l then s
  else
    let r := outTake h l s
    match r.1 with
    | none => r.2
    | some p =>
      let s := { r.2 with now := max r.2.now (roomAt p.len (r.2.outX h l).sent) }
      let s := s.emit (.packet h l p)
      let wait := (s.now - p.since) * 5 / 2
      let s := if p.cls = 0 then s.fput h 0 CHM_F_WAIT_MAX (min 0xFFFFFFFF (max (s.fget h 0 CHM_F_WAIT_MAX) wait)) else s
      let e := linkPeer s h l
      let s := statFlits e.1 e.2 1 p (statFlits h l 0 p s)
      let x := s.outX h l
      s.setOut h l { x with sent := x.sent ++ [(s.now + hopClocks p, p)] }

/-- What link ECC finds in a read: 1 a correction, 2 an error it cannot correct, whose data is delivered poisoned (R252). -/
def eccFinds (s : State) (h ecc k : Nat) : Bool := ecc == k && s.fon h 0 DRM_CFG_LECC
def eccCount (h ecc : Nat) (s : State) : State :=
  if eccFinds s h ecc 1 then s.count h 0 DRM_LECC_CORR
  else if eccFinds s h ecc 2 then (s.count h 0 DRM_LECC_UNC).raise h 0 DRM_EVENT_LECC_UNC
  else s

/-- A transaction takes one of a channel's 128 entries, QRES_F of which only class F may take (R254); with none free for it,
the oldest of its kind has completed. DESIGN CHOICE (log 175). -/
def takeEntry (resF : Nat) (busy : List Pkt) (p : Pkt) : List Pkt :=
  let f (q : Pkt) : Bool := q.cls == 0
  let free := decide (busy.length < 128) && (f p || decide ((busy.filter fun q => !f q).length < 128 - resF))
  (if free then busy else if busy.any fun q => f q == f p then busy.eraseP fun q => f q == f p else busy.drop 1) ++ [p]

/-- In a retraining pause a channel takes no command: what it takes next, it takes at the end of the pause (R256). -/
def pastPause (h ch : Nat) (s : State) : State := { s with now := max s.now (tabGet (fun _ => 0) (s.chm h).pauseEnd ch) }

/-- A DRAM channel takes its next request; `ecc` is what link ECC finds in its data. -/
def dramServe (h ch ecc : Nat) (s : State) : State :=
  let r := outTake h (3 + ch) (pastPause h ch s)
  match r.1 with
  | none => r.2
  | some p =>
    let ecc := if p.cls = 0 then 0 else ecc
    let x := r.2.outX h (3 + ch)
    let s := r.2.setOut h (3 + ch) { x with busy := takeEntry (r.2.fget h 0 DRM_FCAP_QRES_F) x.busy p }
    eccCount h ecc (s.emit (.packet h (3 + ch) (if eccFinds s h ecc 2 then { p with poison := true } else p)))

/-- CHIMNEY_PACKET_SENT: the requests made meanwhile at the hearth enter the Chimney, then the output serves its next packet.
DESIGN CHOICE (log 97). -/
def packetSent (h o : Nat) (arrivals : List Request) (ecc : Nat) (s : State) : State :=
  if !s.hasH h then s
  else
    let s := forEach (arrivals.filter fun r => decide (r.req < 22)) (request h) s
    if o < 3 then linkServe h o s
    else if o < 5 then dramServe h (o - 3) ecc s
    else if 8 ≤ o ∧ o < 13 then hearthServe h (o - 8) s
    else s

/-- After a write of a CHM word: a write of CHM_STAT_SEL clears the flit counter (R262). -/
def chmAct (c : WriteCtx) (s : State) : State := if c.w = CHM_STAT_SEL.word then s.fput c.h 0 CHM_STAT_FLITS 0 else s
def chmOpen (_ : State) (_ _ _ : Nat) : Bool := true

/-! ### Memory controllers (R252–R257) -/

def drmState (s : State) (h : Nat) : Nat := s.fget h 0 DRM_STATUS_STATE

/-- F_OK: the memory is READY and the conditions of R259 that DRM controls hold. DEDUCED (log 101). -/
def fOkShow (h : Nat) (s : State) : State :=
  s.fputB h 0 DRM_STATUS_F_OK (drmState s h == 2 && s.fget h 0 DRM_CFG_ORDER != 0 && decide (2 ≤ s.fget h 0 DRM_CFG_RATE)
    && decide (s.fget h 0 DRM_RETRAIN_PAUSE ≤ 320) && decide (32 ≤ s.fget h 0 DRM_FCAP_CAP) && decide (16 ≤ s.fget h 0 DRM_FCAP_QRES_F))

/-- DRAM_TRAINING_DONE (R255): READY, or FAIL with the channels that failed. -/
def trainingDone (h mask : Nat) (s : State) : State :=
  if !(s.hasH h && decide (drmState s h ≤ 1)) then s
  else
    let s := s.fput h 0 DRM_STATUS_STATE 1
    if mask % 4 = 0 then
      let seed := max 1 (s.fget h 0 DRM_NRR_SEED_LFSR)
      let t := toS 16 (s.fget h 0 DRM_TEMP_V)
      let s := s.setChm h { (s.chm h) with
        lfsr := [(0, seed), (1, seed)], pauseAt := [(0, s.now), (1, s.now)], temp := tabSet (fun _ => 0) (tabSet (fun _ => 0) [] 0 t) 1 t }
      fOkShow h ((s.fput h 0 DRM_STATUS_STATE 2).raise h 0 DRM_EVENT_TRAIN_DONE)
    else ((s.fput h 0 DRM_STATUS_STATE 3).fput h 0 DRM_STATUS_TRAIN_FAIL (mask % 4)).raise h 0 DRM_EVENT_TRAIN_FAIL

/-! ### Retraining (R256) -/

/-- Clock at which a channel's period ends. -/
def periodEnd (s : State) (h ch : Nat) : Nat :=
  tabGet (fun _ => 0) (s.chm h).pauseAt ch + max 1 (s.fget h 0 DRM_RETRAIN_PERIOD) * 400000

/-- The die temperature has moved far enough since the channel's last retraining. -/
def tempStepped (s : State) (h ch : Nat) (t : Int) : Bool :=
  let step := s.fget h 0 DRM_RETRAIN_TSTEP
  step != 0 && decide (step ≤ (t - tabGet (fun _ => 0) (s.chm h).temp ch).natAbs)

/-- The clock at which a retraining that falls due at `due` starts: channel 0 first, the other's start 2 µs away (R261). -/
def pauseStart (s : State) (h ch due : Nat) : Nat :=
  let other := if ch = 1 ∧ periodEnd s h 0 ≤ due then periodEnd s h 0 else tabGet (fun _ => 0) (s.chm h).pauseAt (1 - ch)
  if due + 800 ≤ other ∨ other + 800 ≤ due then due else other + 800

/-- RETRAIN_DUE (R256): its time has come, by the period or by the temperature; the channel pauses for PAUSE and measures, and
with `ok` takes the delays it finds. DESIGN CHOICE (log 100). -/
def retrainDue (h ch : Nat) (ok : Bool) (temp delays : Nat) (s : State) : State :=
  if !(s.hasH h && decide (ch < 2) && drmState s h == 2) then s
  else
    let t := toS 16 temp
    let moved := tempStepped s h ch t
    let start := pauseStart s h ch (if moved then s.now else periodEnd s h ch)
    let x := s.chm h
    let s := s.setChm h { x with
      temp := tabSet (fun _ => 0) x.temp ch t
      pauseAt := tabSet (fun _ => 0) x.pauseAt ch start
      pauseEnd := tabSet (fun _ => 0) x.pauseEnd ch (start + (max 80 (s.fget h 0 DRM_RETRAIN_PAUSE) * 2 + 4) / 5)
      delays := if ok then tabSet (fun _ => 0) x.delays ch delays else x.delays }
    let s := { s with now := max s.now start }.fput h 0 DRM_TEMP_V temp
    let s := if moved then s.raise h 0 DRM_EVENT_TEMP_STEP else s
    let s := s.count h 0 DRM_RETRAIN_CNT
    if ok then s else s.raise h 0 DRM_EVENT_RETRAIN_FAIL

/-- Channels whose pause runs (DRM_STATUS.RETRAIN). -/
def pausing (s : State) (h : Nat) : Nat :=
  let run (ch : Nat) : Bool := decide (tabGet (fun _ => 0) (s.chm h).pauseAt ch ≤ s.now ∧ s.now < tabGet (fun _ => 0) (s.chm h).pauseEnd ch)
  b2n (run 0) + 2 * b2n (run 1)

/-! ### Refreshes (R254, R257) -/

/-- A neighbour refresh is issued. -/
def rowRefreshed (h ch bank row : Nat) (s : State) : State := (s.emit (.rowRefresh h ch bank row)).count h 0 DRM_NRR_CNT

/-- No class F request waits for a bank any longer: what waited for it is due. -/
def bankFree (h ch bank : Nat) (s : State) : State :=
  let x := s.chm h
  s.setChm h { x with waiting := x.waiting.map fun e => if e.1 == ch && e.2.1 == bank then (ch, bank, e.2.2.1, 0) else e }

/-- Neighbour refreshes whose wait is over, at most 2 µs (R257). -/
def refreshFollow (h : Nat) (s : State) : State :=
  let x := s.chm h
  let done (e : Nat × Nat × Nat × Nat) : Bool := e.2.2.2 == 0 || decide (e.2.2.2 + 800 ≤ s.now)
  match x.waiting.filter done with
  | [] => s
  | es => forEach es (fun e => rowRefreshed h e.1 e.2.1 e.2.2.1) (s.setChm h { x with waiting := x.waiting.filter fun e => !done e })

/-- REFRESH_DUE (R254): postponed for a waiting F request, at most eight intervals; otherwise issued with those owed.
DESIGN CHOICE (log 100). -/
def refreshDue (h ch bank : Nat) (fWaiting : Bool) (s : State) : State :=
  if !(s.hasH h && decide (ch < 2) && decide (bank < 16)) then s
  else
    let x := s.chm h
    let k := 16 * ch + bank
    let owed := tabGet (fun _ => 0) x.owed k
    if fWaiting ∧ owed < 8 then s.setChm h { x with owed := tabSet (fun _ => 0) x.owed k (owed + 1) }
    else if fWaiting then (pastPause h ch s).emit (.refresh h ch bank 1)
    else
      let s := bankFree h ch bank (s.setChm h { x with owed := tabSet (fun _ => 0) x.owed k 0 })
      (pastPause h ch s).emit (.refresh h ch bank (owed + 1))

/-- One step of the LFSR x^31 + x^28 + 1. DEDUCED (log 99). -/
def lfsrStep (x : Nat) : Nat := (x * 2 + b2n (bit x 30 != bit x 27)) % 2 ^ 31

/-- NEIGHBOUR_REFRESH (R257): an activate for address `a` steps its channel's LFSR and may refresh the neighbouring rows, at
once or, while a class F request waits for the bank, after it. -/
def neighbourRefresh (h a : Nat) (fWaiting : Bool) (s : State) : State :=
  if !(s.hasH h && s.fon h 0 DRM_NRR_EN && drmState s h == 2 && decide (a < s.fitted h)) then s
  else
    let (ch, bank, _, row) := dramPlace s h a
    let s := pastPause h ch s
    let x := s.chm h
    let v := lfsrStep (tabGet (fun _ => 0) x.lfsr ch)
    let s := s.setChm h { x with lfsr := tabSet (fun _ => 0) x.lfsr ch v }
    let s := if fWaiting then s else bankFree h ch bank s
    if v % 2 ^ clampN 6 14 (s.fget h 0 DRM_NRR_K) ≠ 0 then s
    else
      let rows := (if row = 0 then [] else [row - 1]) ++ (if row + 1 < s.fitted h / 131072 then [row + 1] else [])
      if fWaiting then
        let x := s.chm h
        s.setChm h { x with waiting := x.waiting ++ rows.map fun r => (ch, bank, r, s.now) }
      else forEach rows (rowRefreshed h ch bank) s

def drmOpen (s : State) (h _i _w : Nat) : Bool := drmState s h == 0

/-- After a write of a DRM word. -/
def drmAct (c : WriteCtx) (s : State) : State := fOkShow c.h s

/-! ### What follows every command -/

/-- What time has brought at a hearth: packets arrive over its links, waiting neighbour refreshes are issued. -/
def hearthFollow (h : Nat) (s : State) : State := refreshFollow h (linkFollow h 2 (linkFollow h 1 (linkFollow h 0 s)))

/-- The same at every hearth. -/
def fabricFollow (s : State) : State := forEach (s.chms.map Prod.fst) hearthFollow s

end Sys2Proof.Machine
end

