-- ==== Sys2Proof/Machine/Feedback.lean ====
section
/-! DEFINITION. Feedback inputs (chapter 07): quadrature channels, Hall sets, SSI ports, channel faults. -/

namespace Sys2Proof.Machine

/-- The hearth has feedback blocks (R214). DEDUCED (log 76). -/
def fbkHearth (h : Nat) : Bool := decide (h < 2)

/-- A quadrature channel, a Hall set, an SSI port. -/
def quadOk (h c : Nat) : Bool := fbkHearth h && decide (c < 4)
def hallOk (h k : Nat) : Bool := fbkHearth h && (k == 4 || k == 5)
def ssiOk (h k : Nat) : Bool := fbkHearth h && (k == 6 || k == 7)

/-- The count of a channel. -/
def quadCount (s : State) (h c : Nat) : Int := toS 32 (s.fget h c FBK_COUNT)

/-- The channel is enabled. -/
def quadEn (s : State) (h c : Nat) : Bool := s.fon h c FBK_QCTRL_EN

/-! ### Faults (R221) -/

/-- A CLR_FAULT that cleared at this very clock is refused after all by a new cause (R241): what it cleared stands again. -/
def unclear (h c : Nat) (s : State) : State :=
  let x := s.quad h c
  match x.cleared with
  | none => s
  | some (t, why) =>
    let s := s.setQuad h c { x with cleared := none }
    if t = s.now then (s.fput h c FBK_STATUS_WHY why).raise h c FBK_QEVENT_CLR_REFUSED else s

/-- A cause is raised: FAULT, WHY, the event, and the Draughts that run on the channel. Cause bits: 0 to 2 WIRE of A, B
and Z, 3 ILLEGAL, 4 INDEX, 5 PLAUS, 6 OFF. DEDUCED (log 72). -/
def raiseCause (h c b : Nat) (s : State) : State :=
  let s := unclear h c s
  let s := (s.fput h c FBK_STATUS_FAULT 1).fput h c FBK_STATUS_WHY (s.fget h c FBK_STATUS_WHY ||| 2 ^ b)
  srcFault h c (s.raise h c FBK_QEVENT_FAULT)

/-- ILL_WIN in clocks. -/
def illWindow (s : State) (h c : Nat) : Nat := max 1 (s.fget h c FBK_QCFG_ILL_WIN) * 400000

/-- Illegal transitions within the window. -/
def illRecent (s : State) (h c : Nat) : List Nat := (s.quad h c).ills.filter fun t => decide (s.now < t + illWindow s h c)

/-- The causes present now (FBK_STATUS.CAUSE); INDEX and PLAUS are present at the clock that raises them (R241, log 72). -/
def causeNow (s : State) (h c : Nat) : Nat :=
  let x := s.quad h c
  x.wires + 8 * b2n (decide (s.fget h c FBK_QCFG_ILL_MAX < (illRecent s h c).length))
    + 16 * b2n (x.indexRaised == some s.now) + 32 * b2n (x.plausRaised == some s.now) + 64 * b2n (!quadEn s h c)

/-- Show the causes present. -/
def causeShow (h c : Nat) (s : State) : State := s.fput h c FBK_STATUS_CAUSE (causeNow s h c)

/-! ### Counting (R216–R219) -/

/-- Place of a pair (A, B) in the order 00, 10, 11, 01. -/
def pairPlace (a b : Bool) : Nat := if a then (if b then 2 else 1) else if b then 3 else 0

/-- Change number `n` of a slew of `d` counts takes an adjustment (R219). -/
def slewAt (d n : Nat) : Bool := (List.range d).any fun i => 64 * (i + 1) / d == n

/-- Move the count by one step, with the slew that runs. -/
def countStep (h c : Nat) (step : Int) (s : State) : State :=
  let x := s.quad h c
  let d := x.slewD.natAbs
  let n := x.slewN + 1
  let adj : Int := if d ≠ 0 ∧ slewAt d n then sgn x.slewD else 0
  let s := s.fput h c FBK_COUNT (ofS 32 (quadCount s h c + step - adj))
  if d = 0 then s
  else if 64 ≤ n then (s.setQuad h c { x with slewD := 0, slewN := 0 }).fput h c FBK_STATUS_SLEW 0
  else s.setQuad h c { x with slewN := n }

/-- An index deviates beyond TOL or is missing (R218). -/
def indexBad (h c : Nat) (s : State) : State :=
  let s := (s.count h c FBK_IDX_BAD).raise h c FBK_QEVENT_IDX_BAD
  if s.fon h c FBK_QCTRL_IDX_FAULT then raiseCause h c 4 (s.setQuad h c { (s.quad h c) with indexRaised := some s.now }) else s

/-- The count has moved PER + TOL + 1 away from the last index with none seen; the next is expected PER further on. -/
def indexMissing (h c : Nat) (s : State) : State :=
  let x := s.quad h c
  let per := s.fget h c FBK_IDX_CFG_PER
  let dist := toS 32 (ofS 32 (quadCount s h c - x.idxAt))
  if per ≠ 0 ∧ x.idxSeen ∧ per + s.fget h c FBK_IDX_CFG_TOL + 1 ≤ dist.natAbs then
    indexBad h c ((s.setQuad h c { x with idxAt := toS 32 (ofS 32 (x.idxAt + sgn dist * per)) }).raise h c FBK_QEVENT_IDX_MISS)
  else s

/-- An illegal transition (R217). -/
def illegalStep (h c : Nat) (s : State) : State :=
  let s := s.setQuad h c { (s.quad h c) with ills := s.now :: illRecent s h c }
  let s := (s.count h c FBK_ILLEGAL).raise h c FBK_QEVENT_ILLEGAL
  let s := causeShow h c s
  if bit (causeNow s h c) 3 then raiseCause h c 3 s else s

/-- QUAD_TRANSITION (R217): the filtered levels of A, B and Z at a sample; a pair in disagreement holds its level. -/
def quadTransition (h c : Nat) (a b z : Bool) (s : State) : State :=
  if !quadOk h c then s
  else
    let w := (s.quad h c).wires
    let st := s.fget h c FBK_STATUS_ZBA
    let a1 := if bit w 0 then bit st 0 else a
    let b1 := if bit w 1 then bit st 1 else b
    let z1 := if bit w 2 then bit st 2 else z
    let s := s.fput h c FBK_STATUS_ZBA (b2n a1 + 2 * b2n b1 + 4 * b2n z1)
    if !quadEn s h c then s
    else match (pairPlace a1 b1 + 4 - pairPlace (bit st 0) (bit st 1)) % 4 with
      | 0 => s
      | 1 => countMoved h c (indexMissing h c (countStep h c 1 s))
      | 3 => countMoved h c (indexMissing h c (countStep h c (-1) s))
      | _ => illegalStep h c s

/-- Deviation of an index (R218). -/
def idxDev (cnt ref : Int) (per : Nat) : Int :=
  let ph := (toS 32 (ofS 32 (cnt - ref)) % per).toNat
  if ph * 2 < per then ph else (ph : Int) - per

/-- INDEX_PULSE (R218): a rising edge of filtered Z. -/
def indexPulse (h c : Nat) (s : State) : State :=
  if !(quadOk h c && quadEn s h c) || bit (s.quad h c).wires 2 then s
  else
    let x := s.quad h c
    let cnt := quadCount s h c
    let s := s.fput h c FBK_STATUS_ZBA (s.fget h c FBK_STATUS_ZBA ||| 4)
    let s := (s.fput h c FBK_IDX_LAST (ofS 32 cnt)).fput h c FBK_STATUS_SLEW 0
    let s := s.setQuad h c { x with idxAt := cnt, idxSeen := true, slewD := 0, slewN := 0 }
    let per := s.fget h c FBK_IDX_CFG_PER
    if s.fon h c FBK_QCTRL_IDX_LEARN && !x.idxSeen then s.fput h c FBK_IDX_REF (ofS 32 cnt)
    else if per = 0 then s
    else
      let d := idxDev cnt (toS 32 (s.fget h c FBK_IDX_REF)) per
      let s := s.fput h c FBK_IDX_DEV (ofS 32 d)
      if d = 0 then s
      else if d.natAbs ≤ s.fget h c FBK_IDX_CFG_TOL then
        let s := (s.setQuad h c { (s.quad h c) with slewD := d }).fput h c FBK_STATUS_SLEW 1
        (s.count h c FBK_IDX_CORR).raise h c FBK_QEVENT_IDX_CORR
      else indexBad h c s

/-- A disagreement during a frame of an SSI port (R225): the frame will be discarded. -/
def ssiDisagree (h k : Nat) (s : State) : State :=
  (s.setSsi h k { (s.ssi h k) with wire := true }).raise h k FBK_SEVENT_WIRE

/-- WIRE_DISAGREE (R216, R225): both wires of pair A (0), B (1) or Z (2), or of an SSI port's data pair, have read one
level for WD × 10 ns (`on`), or agree again. DEDUCED (log 74). -/
def wireDisagree (h c wire : Nat) (on : Bool) (s : State) : State :=
  if quadOk h c && decide (wire < 3) then
    let x := s.quad h c
    if bit x.wires wire = on then s
    else
      let s := causeShow h c (s.setQuad h c { x with wires := x.wires ^^^ 2 ^ wire })
      if on then
        raiseCause h c wire ((s.count h c FBK_WIRE).raise h c FBK_QEVENT_WIRE)
      else s
  else if ssiOk h c then
    let x := s.ssi h c
    if on && x.busy then ssiDisagree h c (s.setSsi h c { x with pair := on }) else s.setSsi h c { x with pair := on }
  else s

/-! ### Speed and Hall plausibility (R220, R222, R223) -/

/-- A speed window of a channel starts: the counts it and the Hall sets start from. -/
def windowStart (h c : Nat) (s : State) : State :=
  let hall (k : Nat) (s : State) : State :=
    s.setHall h k { (s.hall h k) with winAt := (s.hall h k).winAt.set c (toS 32 (s.fget h k FBK_HCOUNT)) }
  hall 5 (hall 4 (s.setQuad h c { (s.quad h c) with winAt := quadCount s h c }))

/-- The check of Hall set `k` at the end of its channel's window. DEDUCED (log 73). -/
def hallCheck (h c k : Nat) (speed : Int) (s : State) : State :=
  if s.fget h k FBK_HCTRL_CH ≠ c ∨ !s.fon h k FBK_HCTRL_PLAUS_EN then s
  else
    let delta := toS 32 (ofS 32 (toS 32 (s.fget h k FBK_HCOUNT) - (s.hall h k).winAt.getD c 0))
    let e := toS 32 (ofS 32 (delta * (s.fget h k FBK_HRATIO : Int) / 65536))
    let run := if s.fget h k FBK_HCFG_TOL < (speed - e).natAbs then s.fget h k FBK_HSTATUS_RUN + 1 else 0
    if run = max 1 (s.fget h k FBK_HCFG_N) then
      let s := (s.fput h k FBK_HSTATUS_RUN 0).fput h k FBK_HSTATUS_PLAUS_FAIL 1
      let s := (s.count h k FBK_PLAUS_CNT).raise h k FBK_HEVENT_PLAUS
      if s.fon h k FBK_HCTRL_PLAUS_FAULT then
        raiseCause h c 5 (s.setQuad h c { (s.quad h c) with plausRaised := some s.now })
      else s
    else (s.fput h k FBK_HSTATUS_RUN run).fput h k FBK_HSTATUS_PLAUS_FAIL 0

/-- SPEED_WINDOW_END (R220, R223). -/
def speedWindowEnd (h c : Nat) (s : State) : State :=
  if !(quadOk h c && quadEn s h c) then s
  else
    let sp := toS 32 (ofS 32 (quadCount s h c - (s.quad h c).winAt))
    let s := (s.fput h c FBK_SPEED (ofS 32 sp)).fput h c FBK_SPD_SEQ (s.fget h c FBK_SPD_SEQ + 1)
    windowStart h c (hallCheck h c 5 sp (hallCheck h c 4 sp s))

/-- Place of a Hall state in the forward order 1, 3, 2, 6, 4, 5; none for 0 and 7. -/
def hallPlace (st : Nat) : Option Nat := [none, some 0, some 2, some 1, some 4, some 5, some 3].getD st none

/-- HALL_STATE_CHANGE (R222): the filtered state. DESIGN CHOICE (log 75). -/
def hallStateChange (h k st : Nat) (s : State) : State :=
  if !hallOk h k || decide (7 < st) then s
  else
    let old := s.fget h k FBK_HSTATUS_S
    let s := s.fput h k FBK_HSTATUS_S st
    if old = st ∨ !s.fon h k FBK_HCTRL_EN then s
    else match hallPlace st with
      | none =>
        ((s.fput h k FBK_HSTATUS_IMPOSSIBLE 1).count h k FBK_HALL_BAD).raise h k FBK_HEVENT_BAD_STATE
      | some p =>
        let s := s.fput h k FBK_HSTATUS_IMPOSSIBLE 0
        let cnt := toS 32 (s.fget h k FBK_HCOUNT)
        match hallPlace old with
        | none => s
        | some q =>
          match (p + 6 - q) % 6 with
          | 1 => s.fput h k FBK_HCOUNT (ofS 32 (cnt + 1))
          | 5 => s.fput h k FBK_HCOUNT (ofS 32 (cnt - 1))
          | _ => (s.count h k FBK_HALL_SKIP).raise h k FBK_HEVENT_SKIP

/-! ### SSI (R224, R225) -/

/-- BITS in effect. -/
def ssiBits (s : State) (h k : Nat) : Nat := clampN 8 32 (s.fget h k FBK_SCFG_BITS)

/-- Gray code to binary over `n` bits. -/
def grayToBin (x : Nat) : Nat → Nat
  | 0 => 0
  | n + 1 => (x >>> n) ^^^ grayToBin x n

/-- A frame of a channel is due: by its period, or by an event of the time unit it names since its last frame started (R225). -/
def ssiDue (s : State) (h k : Nat) : Bool := !s.fon h k FBK_SCTRL_TRIG || (s.ssi h k).due

/-- Time unit `n` fires: a frame becomes due on every enabled channel that names it (R225, R380). -/
def ssiUnit (n : Nat) (s : State) : State :=
  forEach (List.range s.nH) (fun h s => forEach [6, 7] (fun k s =>
    if s.fon h k FBK_SCTRL_EN && s.fon h k FBK_SCTRL_TRIG && s.fget h k FBK_SCTRL_TU == n then
      s.setSsi h k { (s.ssi h k) with due := true }
    else s) s) s

/-- SSI_FRAME_START: the frame that is due starts where DAT reads high, else it is skipped; a disagreement in force at its start is
one during it. -/
def ssiFrameStart (h k : Nat) (dat : Bool) (s : State) : State :=
  if ssiOk h k && s.fon h k FBK_SCTRL_EN && !(s.ssi h k).busy && ssiDue s h k then
    let s := if (s.ssi h k).due then s.setSsi h k { (s.ssi h k) with due := false } else s
    if dat then
      let s' := s.setSsi h k { (s.ssi h k) with busy := true, wire := false }
      if (s.ssi h k).pair then ssiDisagree h k s' else s'
    else (s.count h k FBK_SSI_BUSY).raise h k FBK_SEVENT_BUSY
  else s

/-- SSI_FRAME_DONE: the frame ends with the bits sampled, MSB first. -/
def ssiFrameDone (h k raw : Nat) (s : State) : State :=
  if ssiOk h k && (s.ssi h k).busy then
    let bad := (s.ssi h k).wire
    let s := s.setSsi h k { (s.ssi h k) with busy := false, wire := false }
    if bad then s
    else
      let n := ssiBits s h k
      let v := raw % 2 ^ n
      let v := if s.fon h k FBK_SCTRL_GRAY then grayToBin v n % 2 ^ n else v
      (s.fput h k FBK_SSI_POS v).fput h k FBK_SSI_SEQ (s.fget h k FBK_SSI_SEQ + 1)
  else s

/-! ### Writes (R221, R240) -/

/-- RWL fields of a unit are open while its EN is 0. -/
def fbkOpen (s : State) (h i _w : Nat) : Bool :=
  if i < 4 then !s.fon h i FBK_QCTRL_EN else if i < 6 then !s.fon h i FBK_HCTRL_EN else !s.fon h i FBK_SCTRL_EN

/-- EN of a channel written 1: counting restarts, and with it the first speed window. -/
def quadEnable (h c : Nat) (s : State) : State :=
  let s := s.setQuad h c { (s.quad h c) with idxSeen := false, slewD := 0, slewN := 0, ills := [] }
  causeShow h c (windowStart h c (s.fput h c FBK_STATUS_SLEW 0))

/-- EN of a channel written 0: the count is frozen and cause OFF raised (R221, R240). -/
def quadDisable (h c : Nat) (s : State) : State :=
  let s := s.setQuad h c { (s.quad h c) with slewD := 0, slewN := 0, ills := [] }
  raiseCause h c 6 (causeShow h c (s.fput h c FBK_STATUS_SLEW 0))

/-- CLR_FAULT written 1 (R221). -/
def clrFaultWrite (h c : Nat) (s : State) : State :=
  let s := causeShow h c s
  if causeNow s h c = 0 then
    let s := s.setQuad h c { (s.quad h c) with cleared := some (s.now, s.fget h c FBK_STATUS_WHY) }
    (s.fput h c FBK_STATUS_FAULT 0).fput h c FBK_STATUS_WHY 0
  else s.raise h c FBK_QEVENT_CLR_REFUSED

/-- After a write of an FBK word. -/
def fbkAct (c : WriteCtx) (s : State) : State :=
  if c.i < 4 ∧ c.w = 0 then
    let s := if c.rose s FBK_QCTRL_EN then quadEnable c.h c.i s else if c.fell s FBK_QCTRL_EN then quadDisable c.h c.i s else s
    if c.wrote FBK_QCTRL_CLR_FAULT = 1 then clrFaultWrite c.h c.i s else s
  else s

/-- A write of one word of a unit. -/
def fbkWrite (h i w : Nat) (value : Word) (s : State) : State :=
  if fbkHearth h && decide (i < 8) then hostWrite BLK_FBK fbkOpen fbkAct h i w value false s else s

end Sys2Proof.Machine
end

