-- ==== Sys2Proof/Machine/Flue.lean ====
section
/-! DEFINITION. The Flue queues' host side (R287–R291, R297): push, pop, flush, configuration, stale timer, interrupts. -/

namespace Sys2Proof.Machine

/-- The queue exists. -/
def fluOk (s : State) (h q : Nat) : Bool := s.hasH h && decide (q < 32)

/-- Empty a queue; `forget` also drops its last popped word (a change of DEPTH, R289). -/
def flueEmpty (h q : Nat) (forget : Bool) (s : State) : State :=
  let x := s.flue h q
  s.setFlue h q { x with
    words := [], timing := false, last := if forget then 0 else x.last }

/-- A pop of an empty queue (R289). -/
def fluePopEmpty (h q : Nat) (x : FlueX) (s : State) : Word × State :=
  (x.last, (s.setFlue h q { x with
    lastUnder := true, under := true, lastPoison := false }).count h 0 FLU_UNDER_CNT)

/-- A pop: the word delivered, and the queue after it. `upset` is the change the stored head word suffered (R288). -/
def fluePop (h q : Nat) (upset : Word) (s : State) : Word × State :=
  let x := s.flue h q
  match x.words with
  | [] => fluePopEmpty h q x s
  | (w, par) :: rest =>
    let v := w ^^^ upset
    let bad := parity32 v != par
    let s := s.setFlue h q { x with
      words := rest, last := v, lastUnder := false, lastPoison := bad, poison := x.poison || bad,
      timing := !rest.isEmpty }
    (v, onlyIf bad (fun s => s.count h 0 FLU_POISON_CNT) s)

/-- A pop whose word is returned to its reader. -/
def fluePopped (h q : Nat) (upset : Word) (s : State) : State :=
  let r := fluePop h q upset s
  r.2.emit (.popped h q r.1)

/-- FLU_Qn_STATUS as it reads. -/
def flueStatus (s : State) (h q : Nat) : Word :=
  let x := s.flue h q
  BitVec.ofNat 32 (b2n x.poison * 2 ^ 27 + b2n x.stale * 2 ^ 26 + b2n x.ovf * 2 ^ 25 + b2n x.under * 2 ^ 24
    + b2n x.lastUnder * 2 ^ 19 + b2n x.lastPoison * 2 ^ 18 + b2n (flueFull s h q) * 2 ^ 17
    + b2n x.words.isEmpty * 2 ^ 16 + x.words.length)

/-- A write of FLU_Qn_STATUS: the sticky bits written 1 clear. -/
def flueClear (h q : Nat) (v : Word) (s : State) : State :=
  let x := s.flue h q
  s.setFlue h q { x with
    poison := x.poison && !v.getLsbD 27, stale := x.stale && !v.getLsbD 26,
    ovf := x.ovf && !v.getLsbD 25, under := x.under && !v.getLsbD 24 }

/-- The queue raises an interrupt (R291). -/
def flueIrq (s : State) (h q : Nat) : Bool :=
  let x := s.flue h q
  s.fon h 0 (FLU_Q_CFG_IRQ_EN q) && (!x.words.isEmpty || x.under || x.ovf || x.stale || x.poison)

/-- FLU_IRQ as it reads; GLB_IRQ.PEND as it reads. -/
def flueIrqs (s : State) (h : Nat) : Nat := ((below 32 (flueIrq s h)).map fun q => 2 ^ q).sum
def irqPend (s : State) : Nat := ((below s.nH fun h => flueIrqs s h != 0).map fun h => 2 ^ h).sum

/-- The level of a hearth's CP_IRQ_N: the crown's, and that of a junior lead while it serves its half, is low while a queue of
a hearth it serves raises an interrupt; any other is released (R263, R291, R340). DEDUCED (log 177). -/
def cpIrqN (s : State) (h : Nat) : Bool :=
  if s.junior.on then !((h == s.crown || h == juniorLead s) && (List.range s.nH).any fun g =>
    (decide (g < 4) == decide (h < 4)) && flueIrqs s g != 0)
  else !(h == s.crown && irqPend s != 0)

def fluOpen (_ : State) (_ _ _ : Nat) : Bool := true

/-- After a write of an FLU word. -/
def fluAct (c : WriteCtx) (s : State) : State :=
  if c.w < 0x80 then
    let q := c.w / 4
    if c.w % 4 = 0 then fluePush c.h q c.v s
    else if c.w % 4 = 2 then flueClear c.h q c.v s
    else if c.w % 4 = 3 ∧ c.was (FLU_Q_CFG_DEPTH q) ≠ s.fget c.h 0 (FLU_Q_CFG_DEPTH q) then flueEmpty c.h q true s
    else s
  else if c.w = FLU_FLUSH.word then forEach (below 32 c.v.getLsbD) (fun q => flueEmpty c.h q false) s
  else s

/-- A write of one FLU word. -/
def fluWrite (h w : Nat) (v : Word) (bcast : Bool) (s : State) : State := hostWrite BLK_FLU fluOpen fluAct h 0 w v bcast s

/-- The stale timer reaches STALE (R290). -/
def flueStale (h q : Nat) (s : State) : State :=
  let x := s.flue h q
  if fluOk s h q && x.timing && s.fget h 0 (FLU_Q_CFG_STALE q) != 0 then s.setFlue h q { x with
    stale := true, timing := false }
  else s

end Sys2Proof.Machine
end

