-- ==== Sys2Proof/Machine/Ether.lean ====
section
/-! DEFINITION. Ethernet, IPv4 and UDP framing as PTP and the mailboxes use it (R281, R374). Layouts PRESUMED from
IEEE 802.3, RFC 791, RFC 768. -/

namespace Sys2Proof.Machine

/-- CRC-32 of IEEE 802.3. PRESUMED (log 108). -/
def crc32e (l : List Byte) : Nat := (l.foldl (crcByteR 0xEDB88320) 0xFFFFFFFF) ^^^ 0xFFFFFFFF

/-- A frame with its FCS, least significant byte first. -/
def withFcs (l : List Byte) : List Byte := l ++ leBytes 4 (crc32e l)

/-- An Ethernet frame leaves SL0 or SL1, 8b/10b encoded (R22). -/
def etherSent (p : Nat) (f : List Byte) : Out := .ether p f (etherGroups f)

/-- A received frame without its FCS, where the FCS is good. -/
def stripFcs (f : List Byte) : Option (List Byte) :=
  if f.length < 18 then none
  else
    let b := f.take (f.length - 4)
    if leAt f (f.length - 4) 4 = crc32e b then some b else none

/-- One's-complement sum of 16-bit big-endian words. -/
def ipSum (l : List Byte) : Nat :=
  let w := (List.range ((l.length + 1) / 2)).foldl (fun a i => a + beAt l (2 * i) 2) 0
  let w := w % 65536 + w / 65536
  let w := w % 65536 + w / 65536
  w % 65536 + w / 65536

/-- The Internet checksum of bytes. -/
def ipCheck (l : List Byte) : Nat := 65535 - ipSum l

/-- Bytes with a span replaced. -/
def patch (l : List Byte) (at' : Nat) (v : List Byte) : List Byte := l.take at' ++ v ++ l.drop (at' + v.length)

/-- The device's MAC and IPv4 address (R281). -/
def ownMac (s : State) : Nat := s.get64 s.crown 0 MBX_NET_MAC_LO % 2 ^ 48
def ownIp (s : State) : Nat := s.fget s.crown 0 MBX_NET_IP

end Sys2Proof.Machine
end

