-- ==== Sys2Proof/Machine/Mailbox.lean ====
section
/-! DEFINITION. Mailbox channels (R273–R280, R295, R296) and their transport over UDP (R281–R286): rings, responses,
doorbells, drains, sessions, datagrams, ARP and ICMP. Commands themselves are served in Serve. -/

namespace Sys2Proof.Machine

/-! ### Entries and responses (R274, R275) -/

/-- The channel exists. -/
def mbxOk (ch : Nat) : Bool := decide (ch < 4)

/-- A field of a channel's registers; they stand on the crown. -/
def mget (s : State) (ch : Nat) (f : Fld) : Nat := s.fget s.crown ch f
def mput (ch : Nat) (f : Fld) (v : Nat) (s : State) : State := s.fput s.crown ch f v
def mraise (ch : Nat) (f : Fld) (s : State) : State := s.raise s.crown ch f
def mcount (ch : Nat) (f : Fld) (n : Nat) (s : State) : State := s.count s.crown ch f n

/-- A response entry. -/
def respEntry (op tag st rflags gen : Nat) (payload : List Byte) : List Byte :=
  leBytes 2 op ++ leBytes 1 tag ++ leBytes 1 st ++ leBytes 2 payload.length ++ leBytes 1 rflags ++ leBytes 1 gen
    ++ padTo 56 (payload.take 56)

/-- Parts of an entry. -/
def entOp (e : List Byte) : Nat := leAt e 0 2
def entTag (e : List Byte) : Nat := byteAt e 2
def entStatus (e : List Byte) : Nat := byteAt e 3
def entDup (e : List Byte) : Bool := bit (byteAt e 6) 0
def entGen (e : List Byte) : Nat := byteAt e 7

/-- A final response of an outstanding command: not ACCEPTED, and not the refusal of a tag in use. -/
def entFinal (e : List Byte) : Bool := entStatus e != 1 && !entDup e

/-- Produce a response: it waits to be written (R278). -/
def produce (ch : Nat) (e : List Byte) (s : State) : State :=
  let x := s.mbx ch
  s.setMbx ch { x with waiting := x.waiting ++ [e] }

/-- Ring indices and the difference of two 16-bit counters. -/
def ringDiff (a b : Nat) : Nat := (a + 65536 - b % 65536) % 65536
def rspUsed (s : State) (ch : Nat) : Nat := ringDiff (mget s ch MBX_RSP_PI_V) (mget s ch MBX_RSP_CI_V)
def cmdUsed (s : State) (ch : Nat) : Nat := ringDiff (mget s ch MBX_CMD_PI_V) (mget s ch MBX_CMD_CI_V)
def rspFull (s : State) (ch : Nat) : Bool := decide (32 ≤ rspUsed s ch)

/-- A response waits for ring space: not every response produced has a slot (R278). DEDUCED (log 102). -/
def rspWaits (s : State) (ch : Nat) : Bool := !(s.mbx ch).waiting.isEmpty && decide (32 < rspUsed s ch + (s.mbx ch).waiting.length)

/-- MBX_STATUS as it reads: the outstanding commands, a response waiting, PAUSED during a pause (R280). -/
def mbxStatus (s : State) (ch : Nat) : Word :=
  let v := s.rd s.crown ch BLK_MBX MBX_STATUS.word
  let v := insertBits v 4 9 (s.mbx ch).outst.length
  let v := insertBits v 3 1 (b2n (rspWaits s ch))
  if s.paused then insertBits v 0 3 3 else v

/-- Store an entry in a ring slot of 16 words from word `base`. -/
def putEntry (ch base slot : Nat) (e : List Byte) (s : State) : State :=
  forEach (List.range 16) (fun i s => s.wr s.crown ch BLK_MBX (base + 16 * slot + i) (BitVec.ofNat 32 (leAt e (4 * i) 4))) s

/-- The entry of a command-ring slot. -/
def getEntry (s : State) (ch slot : Nat) : List Byte :=
  (List.range 16).flatMap fun i => leBytes 4 (s.rd s.crown ch BLK_MBX (512 + 16 * slot + i)).toNat

/-! ### Disable (R295, R296) -/

/-- Reach OFF; an EN written 1 during the drain takes effect. -/
def mbxOff (ch res : Nat) (s : State) : State :=
  let again := (s.mbx ch).again
  let s := s.setMbx ch { (s.mbx ch) with again := false }
  let s := mraise ch MBX_EVENT_DRAIN_DONE (mput ch MBX_STATUS_DRAIN_RESULT res (mput ch MBX_STATUS_STATE 0 s))
  if again then mput ch MBX_STATUS_STATE 1 (mput ch MBX_CTRL_EN 1 s) else s

/-- Every deferred command of a channel, and every one that still waits for its line on a twin pair, ends ABORTED; what it
started runs on (R305). Channel numbers from 4 up have no response. -/
def abortOps (ch : Nat) (s : State) : State :=
  let mine := s.dops.filter fun d => d.ch == ch
  let wait := (s.twn.cmds ++ s.twn.heldCmds).filter fun t => t.cmd.ch == ch
  let away (t : TwnCmd) : TwnCmd := if t.cmd.ch == ch then { t with cmd := { t.cmd with ch := ch + 4 } } else t
  let s := { s with
    dops := s.dops.filter fun d => d.ch != ch
    twn := { s.twn with cmds := s.twn.cmds.map away, heldCmds := s.twn.heldCmds.map away } }
  let s := forEach mine (fun d => produce ch (respEntry d.op d.tag 4 0 d.gen [])) s
  forEach wait (fun t => produce ch (respEntry t.op t.cmd.tag 4 0 t.cmd.gen [])) s

/-- FORCE_OFF. DEDUCED (log 106). -/
def mbxForce (ch : Nat) (s : State) : State :=
  let s := abortOps ch (mput ch MBX_CTRL_EN 0 s)
  mbxOff ch 4 (s.setMbx ch { (s.mbx ch) with again := false })

/-- A write of EN. -/
def mbxEnAct (ch : Nat) (rose fell : Bool) (s : State) : State :=
  let st := mget s ch MBX_STATUS_STATE
  if rose then
    if st = 2 then (mput ch MBX_CTRL_EN 0 s).setMbx ch { (s.mbx ch) with again := true } else mput ch MBX_STATUS_STATE 1 s
  else if fell then
    if (s.mbx ch).outst.isEmpty then mbxOff ch 3 s else mput ch MBX_STATUS_STATE 2 s
  else s

/-- A drain ends when no command is outstanding. -/
def mbxDrainCheck (ch : Nat) (s : State) : State :=
  if mget s ch MBX_STATUS_STATE = 2 ∧ (s.mbx ch).outst = [] then mbxOff ch 3 s else s

/-- MBX_DRAIN_TIMEOUT (R296). -/
def mbxDrainTimeout (ch : Nat) (s : State) : State :=
  if mbxOk ch && mget s ch MBX_STATUS_STATE == 2 then mbxOff ch 4 (abortOps ch s) else s

/-! ### Ring index writes (R276) -/

/-- CMD_PI was written: the doorbell stands, or the write is ignored. -/
def cmdPiAct (ch old : Nat) (s : State) : State :=
  let v := mget s ch MBX_CMD_PI_V
  let ci := mget s ch MBX_CMD_CI_V
  if ringDiff v ci > 32 ∨ ringDiff v ci < ringDiff old ci then mraise ch MBX_EVENT_PI_BAD (mput ch MBX_CMD_PI_V old s) else s

/-- RSP_CI was written. -/
def rspCiAct (ch old : Nat) (s : State) : State :=
  let v := mget s ch MBX_RSP_CI_V
  let pi := mget s ch MBX_RSP_PI_V
  if ringDiff pi v > 32 ∨ ringDiff pi v > ringDiff pi old then mraise ch MBX_EVENT_PI_BAD (mput ch MBX_RSP_CI_V old s) else s

/-- RWL words: the channel's own while it is OFF, the shared network words while MB2 and MB3 are OFF. -/
def mbxOpen (s : State) (h i w : Nat) : Bool :=
  if 0x14 ≤ w ∧ w ≤ 0x17 then s.fget h 2 MBX_STATUS_STATE == 0 && s.fget h 3 MBX_STATUS_STATE == 0
  else s.fget h i MBX_STATUS_STATE == 0

/-- After a write of an MBX word. -/
def mbxAct (c : WriteCtx) (s : State) : State :=
  if c.w = 0 then
    if c.wrote MBX_CTRL_FORCE_OFF = 1 then mbxForce c.i s
    else mbxEnAct c.i (c.rose s MBX_CTRL_EN) (c.fell s MBX_CTRL_EN) s
  else if c.w = MBX_CMD_PI.word then cmdPiAct c.i (c.was MBX_CMD_PI_V) s
  else if c.w = MBX_RSP_CI.word then rspCiAct c.i (c.was MBX_RSP_CI_V) s
  else s

/-- Words that a datagram channel keeps to itself, and PORT of the others (R276). -/
def mbxFixed (i w : Nat) : Bool :=
  if i < 2 then false else w == MBX_CMD_PI.word || w == MBX_RSP_CI.word || decide (512 ≤ w ∧ w < 1024)

/-- A write of an MBX word; the network words are one set, held in instance 0. -/
def mbxWrite (i w : Nat) (v : Word) (bcast : Bool) (s : State) : State :=
  let h := s.crown
  let i' := if 0x14 ≤ w ∧ w ≤ 0x17 then 0 else i
  if mbxFixed i w then s
  else
    let v := if w = MBX_UDP.word ∧ i < 2 then insertBits v 0 16 0 else v
    hostWrite BLK_MBX mbxOpen mbxAct h i' w v bcast s

/-! ### Taking entries and writing responses -/

/-- Tags outstanding on every channel together. -/
def outstAll (s : State) : Nat := ((List.range 4).map fun c => (s.mbx c).outst.length).sum

/-- The next entry may be taken (R276–R278, R280, R296). -/
def canTake' (s : State) (ch : Nat) : Bool :=
  mbxOk ch && !s.paused && mget s ch MBX_STATUS_STATE == 1 && cmdUsed s ch != 0 && !rspWaits s ch
    && decide ((s.mbx ch).outst.length < 256) && decide (outstAll s < 1024)

/-- Advance CI past the entry. -/
def tookEntry (ch : Nat) (s : State) : State :=
  mcount ch MBX_CMDS 1 (mput ch MBX_CMD_CI_V ((mget s ch MBX_CMD_CI_V + 1) % 65536) s)

def dfltRec (_ : Nat) : TagRec := {}

/-- A tag already outstanding: BUSY at once, with DUP_TAG (R277). -/
def dupTag (ch : Nat) (e : List Byte) (s : State) : State :=
  mraise ch MBX_EVENT_DUP_TAG (mcount ch MBX_DUP_TAG 1
    (produce ch (respEntry (entOp e) (entTag e) 0x14 1 (entGen e) []) s))

/-- The entry taken carries a tag that an earlier command still holds: refused so, its own record on a datagram channel has
its final response (R285). -/
def tagBusy (ch : Nat) (e : List Byte) (s : State) : State :=
  let s := dupTag ch e s
  let x := s.mbx ch
  let r := tabGet dfltRec x.recs (entTag e)
  if ch < 2 ∨ !r.out ∨ r.gen ≠ entGen e then s
  else s.setMbx ch { x with recs := tabSet dfltRec x.recs (entTag e) { r with
    out := false, resp := respEntry (entOp e) (entTag e) 0x14 1 (entGen e) [] } }

/-- Release a tag. -/
def releaseTag (ch tag : Nat) (s : State) : State :=
  let x := s.mbx ch
  s.setMbx ch { x with
    outst := x.outst.filter fun t => t != tag, lostTags := x.lostTags.filter fun t => t != tag }

/-- The record of a tag takes the latest response sent for it (R285). -/
def noteResp (ch : Nat) (e : List Byte) (s : State) : State :=
  let x := s.mbx ch
  let r := tabGet dfltRec x.recs (entTag e)
  if ch < 2 ∨ entDup e ∨ r.gen ≠ entGen e then s
  else s.setMbx ch { x with recs := tabSet dfltRec x.recs (entTag e) { r with
    out := r.out && !entFinal e, resp := e } }

/-- Write one response into the ring (R276, R279). -/
def writeResp (ch : Nat) (e : List Byte) (s : State) : State :=
  let pi := mget s ch MBX_RSP_PI_V
  let s := mput ch MBX_RSP_PI_V ((pi + 1) % 65536) (putEntry ch 1024 (pi % 32) e s)
  let s := s.setMbx ch { (s.mbx ch) with sinceDb := min 255 ((s.mbx ch).sinceDb + 1) }
  mraise ch MBX_EVENT_RSP (noteResp ch e s)

/-- Take the oldest response produced: discard it where its epoch has passed (R283), else write it. Answers it when written. -/
def takeResp (ch : Nat) (s : State) : Option (List Byte) × State :=
  match (s.mbx ch).waiting with
  | [] => (none, s)
  | e :: rest =>
    let s := s.setMbx ch { (s.mbx ch) with waiting := rest }
    let lost := (s.mbx ch).lostTags.contains (entTag e) && !entDup e
    let s := if lost then mcount ch MBX_RSP_LOST 1 s else writeResp ch e s
    (if lost then none else some e, onlyIf (entFinal e) (releaseTag ch (entTag e)) s)

/-! ### Frames out (R281, R282) -/

/-- MAC of the newest live entry of the ARP cache for an address; entries age at 60 s. -/
def arpFind (s : State) (ip : Nat) : Option Nat :=
  (s.arp.find? fun e => e.1 == ip && decide (s.now < e.2.2 + 24000000000)).map fun e => e.2.1

/-- Learn an address: 16 entries, the oldest leaving. -/
def arpLearn (ip mac : Nat) (s : State) : State :=
  { s with arp := ((ip, mac, s.now) :: s.arp.filter fun e => e.1 != ip).take 16 }

/-- An Ethernet frame from the device on SL0. -/
def etherOut (dst type : Nat) (body : List Byte) (s : State) : State :=
  s.emit (etherSent 0 (withFcs (padTo 60 (beBytes 6 dst ++ beBytes 6 (ownMac s) ++ beBytes 2 type ++ body))))

/-- The body of an ARP message. -/
def arpBody (oper smac sip tmac tip : Nat) : List Byte :=
  beBytes 2 1 ++ beBytes 2 0x0800 ++ [6, 4] ++ beBytes 2 oper ++ beBytes 6 smac ++ beBytes 4 sip ++ beBytes 6 tmac ++ beBytes 4 tip

/-- Send an IP packet: to the MAC the cache gives, or after an ARP answer. -/
def ipForward (ip : Nat) (pkt : List Byte) (s : State) : State :=
  match arpFind s ip with
  | some mac => etherOut mac 0x0800 pkt s
  | none => etherOut (2 ^ 48 - 1) 0x0806 (arpBody 1 (ownMac s) (ownIp s) 0 ip) { s with arpHeld := s.arpHeld ++ [(ip, pkt)] }

/-- An IPv4 packet from the device. Type of service, identification and time to live are free. DESIGN CHOICE (log 110). -/
def ipSend (ip proto : Nat) (body : List Byte) (s : State) : State :=
  let (r, s) := s.free 32
  let hd := fun ck : Nat => beBytes 1 0x45 ++ beBytes 1 (r % 256) ++ beBytes 2 (20 + body.length) ++ beBytes 2 (r / 65536)
    ++ beBytes 2 0 ++ beBytes 1 (r / 256 % 256) ++ beBytes 1 proto ++ beBytes 2 ck ++ beBytes 4 (ownIp s) ++ beBytes 4 ip
  ipForward ip (hd (ipCheck (hd 0)) ++ body) s

/-- The UDP checksum over the pseudo-header. -/
def udpCheck (src dst : Nat) (seg : List Byte) : Nat :=
  ipCheck (beBytes 4 src ++ beBytes 4 dst ++ beBytes 2 17 ++ beBytes 2 seg.length ++ seg)

/-- A datagram from a channel's port. -/
def udpSend (ch ip port : Nat) (data : List Byte) (s : State) : State :=
  let seg := fun ck : Nat => beBytes 2 (mget s ch MBX_UDP_PORT) ++ beBytes 2 port ++ beBytes 2 (8 + data.length) ++ beBytes 2 ck ++ data
  let ck := udpCheck (ownIp s) ip (seg 0)
  ipSend ip 17 (seg (if ck = 0 then 65535 else ck)) s

/-- A device datagram of the mailbox transport (R282). -/
def mbxDatagram (s : State) (ch type seq arg : Nat) (entries : List (List Byte)) : List Byte :=
  leBytes 2 0x4D42 ++ [1] ++ leBytes 1 type ++ leBytes 2 (mget s ch MBX_UDP_EPOCH_EPOCH) ++ leBytes 1 entries.length ++ [0]
    ++ leBytes 4 seq ++ leBytes 4 arg ++ entries.flatten

/-- Send a RESPONSE datagram to the bound peer. -/
def sendResponse (ch rseq : Nat) (entries : List (List Byte)) (s : State) : State :=
  udpSend ch (mget s ch MBX_UDP_PEER) (mget s ch MBX_UDP_PEER_PORT_V) (mbxDatagram s ch 3 rseq 0 entries) s

/-- Pack responses into a new datagram, kept until its RACK (R286); with no peer bound they are lost. DEDUCED (log 105). -/
def packResponses (ch : Nat) (entries : List (List Byte)) (s : State) : State :=
  if entries = [] then s
  else if mget s ch MBX_UDP_EPOCH_BOUND = 0 then mcount ch MBX_RSP_LOST entries.length s
  else
    let x := s.mbx ch
    sendResponse ch x.rseq entries (s.setMbx ch { x with
      rseq := (x.rseq + 1) % 2 ^ 32, sent := x.sent ++ [⟨x.rseq, entries, 0⟩] })

/-! ### Responses written, doorbells (R278, R279) -/

/-- A datagram channel writes up to `n` responses and gathers them. -/
def takeUpTo (ch : Nat) : Nat → List (List Byte) → State → List (List Byte) × State
  | 0, acc, s => (acc, s)
  | n + 1, acc, s =>
    if rspFull s ch || (s.mbx ch).waiting.isEmpty then (acc, s)
    else
      let r := takeResp ch s
      takeUpTo ch n (acc ++ r.1.toList) r.2

/-- RESPONSE_WRITTEN: one response into a host ring; on a datagram channel up to 22, which leave in one datagram. -/
def responseWritten (ch : Nat) (s : State) : State :=
  if !mbxOk ch || s.paused || rspFull s ch then s
  else if ch < 2 then mbxDrainCheck ch (takeResp ch s).2
  else
    let r := takeUpTo ch 22 [] s
    let s := packResponses ch r.1 r.2
    mbxDrainCheck ch (mput ch MBX_RSP_CI_V (mget s ch MBX_RSP_PI_V) s)

/-- DOORBELL_PUSH (R279). -/
def doorbell (ch : Nat) (s : State) : State :=
  let x := s.mbx ch
  let early := match x.dbAt with
    | some t => decide (s.now < t + 400)
    | none => false
  if !mbxOk ch || mget s ch MBX_CTRL_RSP_DB == 0 || x.sinceDb == 0 || early then s
  else
    let w := BitVec.ofNat 32 (0xF0000000 + ch * 2 ^ 24 + x.sinceDb * 65536 + mget s ch MBX_RSP_PI_V)
    fluePush s.crown (mget s ch MBX_CTRL_RSP_FQ) w (s.setMbx ch { x with
      sinceDb := 0, dbAt := some s.now })

/-! ### Sessions (R282–R285) -/

/-- A received UDP datagram for a channel: channel, source address and port, data (R281). -/
structure UdpIn where
  ch : Nat
  ip : Nat
  port : Nat
  data : List Byte
deriving DecidableEq, Repr

/-- The IP packet of a frame for the device: no options, no fragment, within the MTU, good header checksum. -/
def ipParse (s : State) (frame : List Byte) : Option (List Byte) :=
  match stripFcs frame with
  | none => none
  | some f =>
    let p := f.drop 14
    let len := beAt p 2 2
    if beAt f 0 6 = ownMac s ∧ beAt f 12 2 = 0x0800 ∧ byteAt p 0 = 0x45 ∧ beAt p 6 2 % 16384 = 0 ∧ 20 ≤ len ∧ len ≤ 1500 ∧ len ≤ p.length
        ∧ ipSum (p.take 20) = 65535 ∧ beAt p 16 4 = ownIp s then some (p.take len)
    else none

/-- A datagram for MB2 or MB3, its checksum good or absent. DEDUCED (log 103). -/
def udpParse (s : State) (frame : List Byte) : Option UdpIn :=
  match ipParse s frame with
  | none => none
  | some p =>
    let g := (p.drop 20).take (beAt p 24 2)
    let src := beAt p 12 4
    if byteAt p 9 = 17 ∧ 8 ≤ g.length ∧ g.length = beAt p 24 2 ∧ (beAt g 6 2 = 0 ∨ udpCheck src (ownIp s) g = 0) then
      let dst := beAt g 2 2
      ([2, 3].find? fun ch => mget s ch MBX_UDP_PORT == dst).map fun ch => ⟨ch, src, beAt g 0 2, g.drop 8⟩
    else none

/-- What a datagram is: accepted HELLO, REQUEST or RACK, or a rejection with its reason. -/
inductive UdpKind where
  | hello | request | rack
  | reject (reason : Nat)
deriving DecidableEq, Repr

/-- It comes from the bound source. -/
def fromPeer (s : State) (u : UdpIn) : Bool :=
  mget s u.ch MBX_UDP_PEER == u.ip && mget s u.ch MBX_UDP_PEER_PORT_V == u.port

/-- Signed difference of its epoch to the current one (R283). -/
def epochDiff (s : State) (u : UdpIn) : Int :=
  toS 16 (ringDiff (leAt u.data 4 2) (mget s u.ch MBX_UDP_EPOCH_EPOCH))

/-- Classify a datagram (R282, R283). -/
def udpKind (s : State) (u : UdpIn) : UdpKind :=
  let ty := byteAt u.data 3
  if u.data.length < 16 ∨ leAt u.data 0 2 ≠ 0x4D42 then .reject 3
  else if byteAt u.data 2 ≠ 1 then .reject 5
  else if !([1, 4, 5].contains ty) ∨ u.data.length ≠ 16 + 64 * byteAt u.data 6 then .reject 3
  else if ty = 5 then .hello
  else if mget s u.ch MBX_UDP_EPOCH_BOUND = 0 then .reject 2
  else if !fromPeer s u then .reject 4
  else if epochDiff s u < 0 then .reject 1
  else if epochDiff s u > 0 then .reject 2
  else if ty = 1 then .request else .rack

/-- Count a rejection, and send it unless one of its reason went within 100 µs (R282). -/
def udpReject (u : UdpIn) (reason : Nat) (s : State) : State :=
  let x := s.mbx u.ch
  let last := tabGet (fun _ => 0) x.rejAt reason
  let s := mraise u.ch MBX_EVENT_UDP_REJECT (mcount u.ch MBX_UDP_REJ 1 s)
  if last ≠ 0 ∧ s.now + 1 < last + 40000 then s
  else udpSend u.ch u.ip u.port (mbxDatagram s u.ch 7 0 reason []) (s.setMbx u.ch { x with
    rejAt := tabSet (fun _ => 0) x.rejAt reason (s.now + 1) })

/-- The bound source was heard. -/
def udpHeard (u : UdpIn) (s : State) : State :=
  if fromPeer s u then s.setMbx u.ch { (s.mbx u.ch) with heard := s.now } else s

/-- A new epoch is taken: the duplicate state clears, responses of the old epoch are lost, its commands run on (R283). -/
def takeEpoch (ch epoch : Nat) (s : State) : State :=
  let x := s.mbx ch
  let lost := x.waiting.length + ((x.sent.map fun u => u.entries.length).sum)
  let done' := (x.waiting.filter entFinal).map entTag
  let outst := x.outst.filter fun t => !done'.contains t
  let s := s.setMbx ch { x with
    waiting := [], sent := [], recs := [], outst := outst, lostTags := outst, oldLeft := cmdUsed s ch }
  mput ch MBX_UDP_EPOCH_EPOCH epoch (onlyIf (lost != 0) (mcount ch MBX_RSP_LOST lost) s)

/-- Bind a channel to a source. -/
def udpBind (u : UdpIn) (s : State) : State :=
  let s := takeEpoch u.ch (leAt u.data 4 2) s
  mput u.ch MBX_UDP_PEER_PORT_V u.port (mput u.ch MBX_UDP_PEER u.ip (mput u.ch MBX_UDP_EPOCH_BOUND 1 s))

/-- HELLO_ACK: interface level 3 and the channel. -/
def helloAck (u : UdpIn) (s : State) : State := udpSend u.ch u.ip u.port (mbxDatagram s u.ch 6 0 (3 + 256 * u.ch) []) s

/-- The bound source has been silent for IDLE s. -/
def peerIdle (s : State) (ch : Nat) : Bool :=
  decide ((s.mbx ch).heard + max 1 (mget s ch MBX_UDP_IDLE) * 400000000 ≤ s.now)

/-- A HELLO (R283). -/
def udpHello (u : UdpIn) (s : State) : State :=
  let d := epochDiff s u
  if mget s u.ch MBX_STATUS_STATE = 0 ∨ mget s u.ch MBX_STATUS_STATE = 2 then udpReject u 6 s
  else if mget s u.ch MBX_UDP_EPOCH_BOUND = 0 then udpHeard u (helloAck u (udpBind u s))
  else if fromPeer s u then
    let s := udpHeard u s
    if d < 0 then udpReject u 1 s
    else if d = 0 then helloAck u s
    else helloAck u (mraise u.ch MBX_EVENT_EPOCH (takeEpoch u.ch (leAt u.data 4 2) s))
  else if peerIdle s u.ch then udpHeard u (helloAck u (udpBind u s))
  else udpReject u 4 s

/-- Place an entry in a datagram channel's command ring and open its record. -/
def placeEntry (ch : Nat) (e : List Byte) (s : State) : State :=
  let pi := mget s ch MBX_CMD_PI_V
  let s := mput ch MBX_CMD_PI_V ((pi + 1) % 65536) (putEntry ch 512 (pi % 32) e s)
  let x := s.mbx ch
  s.setMbx ch { x with recs := tabSet dfltRec x.recs (entTag e) ⟨entGen e, true, []⟩ }

/-- One entry of a REQUEST by R285; `none` where the ring has no space for it. -/
def requestEntry (ch : Nat) (e : List Byte) (s : State) : Option State :=
  let r := tabGet dfltRec (s.mbx ch).recs (entTag e)
  let same := r.gen == entGen e
  if r.out && !same then some (dupTag ch e s)
  else if same && (r.out || !r.resp.isEmpty) then
    some (packResponses ch (if r.resp.isEmpty then [] else [r.resp]) (mcount ch MBX_DUP 1 s))
  else if 32 ≤ cmdUsed s ch then none
  else some (placeEntry ch e s)

/-- The entries of a REQUEST in order, and how many were accepted. -/
def requestEntries (ch : Nat) : List (List Byte) → Nat → State → Nat × State
  | [], n, s => (n, s)
  | e :: es, n, s =>
    match requestEntry ch e s with
    | none => (n, s)
    | some s => requestEntries ch es (n + 1) s

/-- A REQUEST, answered by one ACK (R284). DEDUCED (log 104). -/
def udpRequest (u : UdpIn) (s : State) : State :=
  let es := (List.range (byteAt u.data 6)).map fun k => slice u.data (16 + 64 * k) 64
  let r := requestEntries u.ch es 0 (udpHeard u s)
  udpSend u.ch u.ip u.port (mbxDatagram r.2 u.ch 2 (leAt u.data 8 4) r.1 []) r.2

/-- A RACK (R286). -/
def udpRack (u : UdpIn) (s : State) : State :=
  let s := udpHeard u s
  let x := s.mbx u.ch
  s.setMbx u.ch { x with sent := x.sent.filter fun o => o.rseq != leAt u.data 8 4 }

/-- An entry superseded by a new command with its tag (R285, R286). -/
def superseded (s : State) (ch : Nat) (e : List Byte) : Bool :=
  !entDup e && (tabGet dfltRec (s.mbx ch).recs (entTag e)).gen != entGen e

/-- RESPONSE_RETRANSMIT (R286). -/
def responseRetransmit (ch rseq : Nat) (s : State) : State :=
  let x := s.mbx ch
  match x.sent.find? fun o => o.rseq == rseq with
  | none => s
  | some o =>
    let es := o.entries.filter fun e => !superseded s ch e
    if es = [] ∨ mget s ch MBX_UDP_RETRY ≤ o.tries then
      let s := s.setMbx ch { x with sent := x.sent.filter fun o => o.rseq != rseq }
      if es = [] then s else mraise ch MBX_EVENT_RSP_DROP (mcount ch MBX_RSP_LOST es.length s)
    else
      let s := s.setMbx ch { x with sent := x.sent.map fun o => if o.rseq == rseq then { o with entries := es, tries := o.tries + 1 } else o }
      sendResponse ch rseq es (mcount ch MBX_RETX 1 s)

/-- Close a channel's binding without a REJECT (R341). -/
def udpUnbind (ch : Nat) (s : State) : State :=
  mput ch MBX_UDP_PEER_PORT_V 0 (mput ch MBX_UDP_PEER 0 (mput ch MBX_UDP_EPOCH_BOUND 0 s))

/-! ### ARP and ICMP (R281) -/

/-- Send the packets that waited for an address. -/
def arpRelease (ip : Nat) (s : State) : State :=
  let mine := s.arpHeld.filter fun e => e.1 == ip
  forEach mine (fun e => ipForward e.1 e.2) { s with arpHeld := s.arpHeld.filter fun e => e.1 != ip }

/-- An ARP frame: a request for the device's address is answered, and its sender learned; an answer is learned. -/
def arpReceived (frame : List Byte) (s : State) : State :=
  match stripFcs frame with
  | none => s
  | some f =>
    let b := f.drop 14
    let oper := beAt b 6 2
    let smac := beAt b 8 6
    let sip := beAt b 14 4
    if beAt f 12 2 = 0x0806 ∧ beAt b 0 2 = 1 ∧ beAt b 2 2 = 0x0800 ∧ beAt b 24 4 = ownIp s ∧ sip ≠ ownIp s ∧ (oper = 1 ∨ oper = 2) then
      let s := arpRelease sip (arpLearn sip smac s)
      if oper = 1 then etherOut smac 0x0806 (arpBody 2 (ownMac s) (ownIp s) smac sip) s else s
    else s

/-- An ICMP echo request is answered with its own identifier, sequence and data. -/
def icmpEcho (frame : List Byte) (s : State) : State :=
  match ipParse s frame with
  | none => s
  | some p =>
    let m := p.drop 20
    if byteAt p 9 = 1 ∧ 8 ≤ m.length ∧ beAt m 0 2 = 0x0800 ∧ ipCheck m = 0 then
      let r := fun ck : Nat => [0, 0] ++ beBytes 2 ck ++ m.drop 4
      ipSend (beAt p 12 4) 1 (r (ipCheck (r 0))) s
    else s

/-! ### Rows -/

/-- Enter and leave the pause of R280. -/
def mbxPause (s : State) : State :=
  if s.paused then s else forEach (List.range 4) (fun ch => mraise ch MBX_EVENT_PAUSED) { s with paused := true }
def mbxResume (s : State) : State :=
  if s.paused then forEach (List.range 4) (fun ch => mraise ch MBX_EVENT_RESUMED) { s with paused := false } else s

/-- Handle a frame with a mailbox datagram of one kind. -/
def udpRow (want : UdpKind → Bool) (frame : List Byte) (s : State) : State :=
  match udpParse s frame with
  | none => s
  | some u =>
    let k := udpKind s u
    if !want k then s
    else match k with
      | .hello => udpHello u s
      | .request => udpRequest u s
      | .rack => udpRack u s
      | .reject r => udpReject u r (udpHeard u s)

end Sys2Proof.Machine
end

