-- ==== Sys2Proof/Machine/Time.lean ====
section
/-! DEFINITION. Network time (13_time.md): the counter and its steps (R371–R373), the transparent clock (R375, R376), the
ordinary clock and its freeze (R377–R379), the time units (R380–R382). -/

namespace Sys2Proof.Machine

/-! ### The counter (R371–R373) -/

def tget (s : State) (f : Fld) : Nat := s.fget 0 0 f
def tput (f : Fld) (v : Nat) (s : State) : State := s.fput 0 0 f v

/-- INC as it acts: the nearer limit outside 0x3_F000_0000 to 0x4_1000_0000. -/
def incActs (v : Nat) : Nat := clampN 0x3F0000000 0x410000000 v

/-- Add nanoseconds to a time, with carry into and borrow from the seconds. -/
def stepNs (sec ns : Nat) (d : Int) : Nat × Nat :=
  let t : Int := (sec * 10 ^ 9 + ns : Nat) + d
  (ofS 48 (t / 10 ^ 9), (t % 10 ^ 9).toNat)

/-- One tick of 4 ns: a load, or the increment and then an adjustment; a new INC acts from this tick. -/
def timTick (x : TimX) : TimX :=
  let inc := x.incNew.getD x.inc
  let y := { x with inc := inc, incNew := none, set := none, adj := none }
  match x.set with
  | some (sec, ns) => { y with sec := sec, ns := ns, frac := 0 }
  | none =>
    let t := x.ns * 2 ^ 32 + x.frac + inc
    let wraps := decide (10 ^ 9 * 2 ^ 32 ≤ t)
    let t := if wraps then t - 10 ^ 9 * 2 ^ 32 else t
    let sec := if wraps then (x.sec + 1) % 2 ^ 48 else x.sec
    let n := match x.adj with
      | some d => stepNs sec (t / 2 ^ 32) d
      | none => (sec, t / 2 ^ 32)
    { y with sec := n.1, ns := n.2, frac := t % 2 ^ 32 }

/-- One tick of the device's counter; a load sets VALID. -/
def tick (s : State) : State :=
  let s1 := { s with tim := timTick s.tim }
  if s.tim.set.isSome then tput TIM_STATUS_VALID 1 s1 else s1

/-- VALID falls. -/
def timeInvalid (s : State) : State :=
  if tget s TIM_STATUS_VALID = 0 then s else (tput TIM_STATUS_VALID 0 s).raise 0 0 TIM_EVENT_INVALID

/-! ### The ordinary clock's ports (R377) -/

/-- State of a Saddle port: 0 DISABLED, 1 LISTENING, 2 SLAVE, 3 PASSIVE. -/
def ptpState (s : State) (p : Nat) : Nat := tget s (if p = 0 then TIM_STATUS_SL0 else TIM_STATUS_SL1)
def ptpGo (p v : Nat) (s : State) : State := tput (if p = 0 then TIM_STATUS_SL0 else TIM_STATUS_SL1) v s

/-- The slave-only port runs on a lane. -/
def ptpOn (s : State) (p : Nat) : Bool := decide (p < 2) && tget s TIM_CTRL_OC_EN == 1 && bit (tget s TIM_PTP_CFG_PORTS) p

/-- Both ports without a master: LISTENING where they run. -/
def ptpListen (s : State) : State :=
  let s := ptpGo 1 (b2n (ptpOn s 1)) (ptpGo 0 (b2n (ptpOn s 0)) s)
  { s with tim := { s.tim with ptp := [] } }

/-- After a change of OC_EN or PORTS. -/
def ptpRefresh (s : State) : State :=
  let master := (List.range 2).find? fun p => ptpState s p == 2 && ptpOn s p
  match master with
  | some p => ptpGo (1 - p) (if ptpOn s (1 - p) then 3 else 0) s
  | none => ptpListen s

/-- An exchange record. -/
def ptpX (s : State) (p : Nat) : PtpX := tabGet (fun _ => {}) s.tim.ptp p
def setPtp (p : Nat) (x : PtpX) (s : State) : State := { s with tim := { s.tim with ptp := tabSet (fun _ => {}) s.tim.ptp p x } }

/-! ### PTP messages (R374). Layout PRESUMED from IEEE 1588-2019 and IEEE 802.3. -/

/-- Offset of the PTP message in an Ethernet frame, and whether it travels over UDP. -/
def ptpOffset (f : List Byte) : Option (Nat × Bool) :=
  if beAt f 12 2 = 0x88F7 then some (14, false)
  else if beAt f 12 2 = 0x0800 ∧ byteAt f 14 = 0x45 ∧ byteAt f 23 = 17 ∧ (beAt f 36 2 = 319 ∨ beAt f 36 2 = 320) then some (42, true)
  else none

/-- Fields of a PTP message, given from its first byte. -/
def ptpType (m : List Byte) : Nat := byteAt m 0 % 16
def ptpCorr (m : List Byte) : Int := toS 64 (beAt m 8 8)
def ptpTwoStep (m : List Byte) : Bool := bit (byteAt m 6) 1
def ptpTime (m : List Byte) : Int := (beAt m 34 6 * 10 ^ 9 + beAt m 40 4 : Nat)

/-- The PTP message of a received frame with a good FCS and version 2, of a given type. -/
def ptpMessage (frame : List Byte) (type : Nat) : Option (List Byte) :=
  match stripFcs frame with
  | none => none
  | some f =>
    match ptpOffset f with
    | none => none
    | some (o, _) =>
      let m := f.drop o
      if 44 ≤ m.length ∧ ptpType m = type ∧ byteAt m 1 % 16 = 2 then some m else none

/-- A message of the ordinary clock's domain from the selected master on its SLAVE port. -/
def fromMaster (s : State) (p : Nat) (m : List Byte) : Bool :=
  ptpOn s p && ptpState s p == 2 && byteAt m 4 == tget s TIM_PTP_CFG_DOMAIN && beAt m 20 8 == s.get64 0 0 TIM_MASTER_LO

/-- A correctionField in whole nanoseconds, truncated. -/
def corrNs (c : Int) : Int := c.tdiv 65536

/-! ### Path delay and freeze (R378, R379) -/

/-- The new path delay against the history. -/
def pathJudge (mpd : Int) (s : State) : State :=
  let x := s.tim
  let suspect := x.hist.length == 8 && decide (8 * (tget s TIM_STEP_THR : Int) < ((8 * mpd - x.hist.sum).natAbs : Int))
  if !suspect then { s with tim := { x with hist := (mpd :: x.hist).take 8, suspects := 0 } }
  else
    let s := { s with tim := { x with suspects := x.suspects + 1 } }
    if x.suspects + 1 < max 1 (tget s TIM_STEP_N) ∨ tget s TIM_STATUS_FROZEN = 1 then s
    else
      let s := tput TIM_STATUS_PATH_STEP 1 (tput TIM_STATUS_FROZEN 1 { s with tim := { s.tim with incNew := none } })
      s.raise 0 0 TIM_EVENT_PATH_STEP

/-- A completed exchange (R378). -/
def exchange (p : Nat) (t1 t2 t3 t4 c1 c4 : Int) (s : State) : State :=
  let ms := (t2 - t1) - corrNs c1
  let sm := (t4 - t3) - corrNs c4
  let mpd := (ms + sm).tdiv 2
  let offset := ms - mpd - toS 32 (tget s (TIM_ASYM p))
  let lim := fun (v : Int) => ofS 32 (clampI (-2 ^ 31) (2 ^ 31 - 1) v)
  let s := tput TIM_MPD (lim mpd) (tput TIM_OFFSET (lim offset) s)
  pathJudge mpd (tput TIM_OC_SEQ ((tget s TIM_OC_SEQ + 1) % 2 ^ 32) s)

/-- Compute once everything of the exchange is known. -/
def exchangeTry (p : Nat) (s : State) : State :=
  let x := ptpX s p
  match x.t1, x.t3, x.t4 with
  | some t1, some t3, some t4 => exchange p t1 x.t2 t3 t4 x.corr x.corr4 (setPtp p { x with t3 := none, t4 := none } s)
  | _, _, _ => s

/-- ANNOUNCE_RECEIVED (R377). -/
def announce (p : Nat) (frame : List Byte) (s : State) : State :=
  match ptpMessage frame 0xB with
  | none => s
  | some m =>
    if !(ptpOn s p && byteAt m 4 == tget s TIM_PTP_CFG_DOMAIN && ptpState s p == 1) then s
    else
      let s := s.put64 0 0 TIM_MASTER_LO (beAt m 20 8)
      let s := ptpGo (1 - p) (if ptpOn s (1 - p) then 3 else 0) (ptpGo p 2 s)
      s.raise 0 0 TIM_EVENT_MASTER_CHANGE

/-- Whole nanoseconds of a port's latencies, u12.4. DEDUCED (log 139). -/
def latRx (s : State) (p : Nat) : Nat := tget s (TIM_LAT_RX p)
def latTx (s : State) (p : Nat) : Nat := tget s (TIM_LAT_TX p)

/-- SYNC_RECEIVED (R377): received at `rxTime`; its Delay_Req, at most 16 per second, leaves at `txTime`. -/
def sync (p : Nat) (frame : List Byte) (rxTime txTime : Nat) (s : State) : State :=
  match ptpMessage frame 0 with
  | none => s
  | some m =>
    if !ptpOn s p then s
    else
      let s := s.count 0 0 TIM_RX_EVT
      if !fromMaster s p m then s
      else
        let x : PtpX := { seq := beAt m 30 2, t1 := if ptpTwoStep m then none else some (ptpTime m),
                          t2 := rxTime + (latRx s p / 16 : Nat), corr := ptpCorr m }
        let recent := s.tim.reqAt.filter fun t => decide (txTime < t + 10 ^ 9)
        if 16 ≤ recent.length then setPtp p x s
        else
          let n := (s.tim.reqSeq + 1) % 65536
          let s := { s with tim := { s.tim with reqSeq := n, reqAt := txTime :: recent } }
          let s := setPtp p { x with reqSeq := n, t3 := some ((txTime : Int) - (latTx s p / 16 : Nat)) } s
          (s.count 0 0 TIM_TX_EVT).emit (.delayReq p n)

/-- FOLLOW_UP_RECEIVED (R378). -/
def followUp (p : Nat) (frame : List Byte) (s : State) : State :=
  match ptpMessage frame 8 with
  | none => s
  | some m =>
    let x := ptpX s p
    if fromMaster s p m && beAt m 30 2 == x.seq && x.t1.isNone then
      exchangeTry p (setPtp p { x with t1 := some (ptpTime m), corr := x.corr + ptpCorr m } s)
    else s

/-- DELAY_RESP_RECEIVED (R378). DEDUCED (log 140). -/
def delayResp (p : Nat) (frame : List Byte) (s : State) : State :=
  match ptpMessage frame 9 with
  | none => s
  | some m =>
    let x := ptpX s p
    if fromMaster s p m && beAt m 30 2 == x.reqSeq && x.t3.isSome && x.t4.isNone then
      exchangeTry p (setPtp p { x with t4 := some (ptpTime m), corr4 := ptpCorr m } s)
    else s

/-- MASTER_LOST (R377). -/
def masterLost (s : State) : State :=
  if (List.range 2).any fun p => ptpState s p == 2 then ptpListen (s.raise 0 0 TIM_EVENT_MASTER_LOST) else s

/-! ### The transparent clock (R375, R376) -/

/-- RFC 1624 update of a non-zero UDP checksum for replaced bytes at an even offset. -/
def checkUpdate (hc : Nat) (old new : List Byte) : Nat :=
  if hc = 0 then 0
  else
    let l := (List.range (old.length / 2)).foldl (fun a i => a + (65535 - beAt old (2 * i) 2) + beAt new (2 * i) 2) (65535 - hc)
    let l := l % 65536 + l / 65536
    let l := l % 65536 + l / 65536
    let c := 65535 - (l % 65536 + l / 65536)
    if c = 0 then 65535 else c

/-- The frame with `d` (2^-16 ns) added to its correctionField. -/
def correctFrame (f : List Byte) (o : Nat) (udp : Bool) (d : Int) : List Byte :=
  let old := slice f (o + 8) 8
  let new := beBytes 8 (ofS 64 (toS 64 (beAt f (o + 8) 8) + d))
  let g := patch f (o + 8) new
  if udp then patch g 40 (beBytes 2 (checkUpdate (beAt f 40 2) old new)) else g

/-- PTP_FRAME_FORWARDED: a frame received on one of SL0 and SL1 leaves on the other. -/
def forwardFrame (p : Nat) (frame : List Byte) (rx tx : Nat) (s : State) : State :=
  if tget s TIM_CTRL_TC_EN = 0 ∨ 2 ≤ p then s
  else match stripFcs frame with
    | none => s
    | some f =>
      if beAt f 0 6 = ownMac s then s
      else match ptpOffset f with
        | none => s.emit (etherSent (1 - p) (withFcs f))
        | some (o, udp) =>
          let m := f.drop o
          if ptpType m = 0 ∨ ptpType m = 1 then
            let d : Int := ((tx * 16 : Nat) - (latTx s (1 - p) : Int)) - ((rx * 16 : Nat) + latRx s p)
            let s := if ptpType m = 0 && ptpOn s p then s else s.count 0 0 TIM_RX_EVT
            ((s.count 0 0 TIM_TX_EVT).count 0 0 TIM_TC_FWD).emit (etherSent (1 - p) (withFcs (correctFrame f o udp (d * 4096))))
          else if ptpType m = 2 ∨ ptpType m = 3 ∨ ptpType m = 0xA then s
          else s.emit (etherSent (1 - p) (withFcs f))

/-! ### Time units (R380–R382) -/

def tuX (s : State) (n : Nat) : TuX := tabGet (fun _ => {}) s.tim.units n
def setTu (n : Nat) (x : TuX) (s : State) : State := { s with tim := { s.tim with units := tabSet (fun _ => {}) s.tim.units n x } }

/-- A write of a unit's CTRL takes its target and period as they stand. -/
def tuArm (n : Nat) (s : State) : State :=
  setTu n ⟨s.get64 0 0 (TIM_TU_SEC_LO n) % 2 ^ 48 * 10 ^ 9 + min 999999999 (tget s (TIM_TU_NS_V n)), max 1000 (tget s (TIM_TU_PERIOD n))⟩ s

/-- What a firing drives. -/
def tuTarget (code : Nat) (s : State) : State :=
  if code = 1 then s.emit .tsync
  else if code = 2 then
    forEach (List.range s.nH) (fun h s => if s.fget h 0 DRT_STATUS_STATE = 6 then s.setDrt h { (s.drt h) with
      clk := (s.drt h).clk + (s.now - (s.drt h).intFrom), intFrom := s.now } else s) s
  else if code = 3 then forEach (List.range 8) (fun a s => s.setAxis a { (s.axis a) with clk := 0 }) s
  else s

/-- The next target of a periodic unit: the first ahead of the counter where it is already behind; firings skipped. -/
def tuNext (x : TuX) (late : Nat) : Nat × Nat :=
  if late ≤ x.period then (x.target + x.period, 0)
  else (x.target + (late / x.period + 1) * x.period, late / x.period)

/-- A firing reaches the consumers that name the unit: temperature samples, camera triggers and SSI frames (R166, R190, R225,
R380). -/
def tuConsumers (n : Nat) (s : State) : State :=
  ssiUnit n (camUnit n (forEach (List.range s.nH) (fun h s => snsEvent h 1 n s) s))

/-- TIME_UNIT_FIRE: a compare unit at or after its target. DEDUCED (log 142). -/
def tuFire (n : Nat) (s : State) : State :=
  let mode := tget s (TIM_TU_CTRL_MODE n)
  let x := tuX s n
  let late := toS 64 (ofS 64 ((timeNs s : Int) - x.target))
  if !(decide (n < 16) && (mode == 1 || mode == 2) && decide (0 ≤ late)) then s
  else
    let s := if mode = 1 then tput (TIM_TU_CTRL_MODE n) 0 s
      else
        let (t, k) := tuNext x late.toNat
        let s := setTu n { x with target := t } s
        if k = 0 then s else (s.count 0 0 TIM_TU_MISSED k).raise 0 0 TIM_EVENT_TU_MISS
    let s := s.raise 0 0 { TIM_TU_EVENT with lo := n, len := 1 }
    tuConsumers n ((tuTarget (tget s (TIM_TU_CTRL_TARGET n)) s).emit (.unit n))

/-- TIME_UNIT_CAPTURE: the tick time of an event of the unit's target, 8 ns earlier for TSYNC_IN. -/
def tuCapture (n : Nat) (s : State) : State :=
  let code := tget s (TIM_TU_CTRL_TARGET n)
  if !(decide (n < 16) && tget s (TIM_TU_CTRL_MODE n) == 3 && (code == 1 || (decide (16 ≤ code) && decide (code < 24) && s.hasH (code - 16)))) then s
  else
    let t := stepNs s.tim.sec s.tim.ns (if code = 1 then -8 else 0)
    let s := s.put64 0 0 (TIM_TU_CAP_SEC_LO n) t.1
    let s := tput (TIM_TU_CAP_NS_V n) t.2 s
    let s := if code = 1 then s else tput (TIM_TU_CAP_LNUM n) (s.get64 (code - 16) 0 TER_LNUM_LO % 2 ^ 32) s
    (s.count 0 0 (TIM_TU_CAP_CNT n)).raise 0 0 { TIM_TU_EVENT with lo := n, len := 1 }

/-! ### Writes -/

/-- SET and ADJ wait for the next tick; SET discards ADJ (R384). -/
def timStep (set adj : Bool) (s : State) : State :=
  if set then
    { s with tim := { s.tim with
      set := some (s.get64 0 0 TIM_SET_SEC_LO % 2 ^ 48, min 999999999 (tget s TIM_SET_NS_V)), adj := none } }
  else if adj ∧ s.tim.set = none then { s with tim := { s.tim with adj := some (toS 64 (s.get64 0 0 TIM_ADJ_LO)) } }
  else s

/-- UNFREEZE (R379). -/
def unfreeze (s : State) : State :=
  if tget s TIM_STATUS_FROZEN = 0 then s
  else tput TIM_STATUS_FROZEN 0 { s with tim := { s.tim with hist := [], suspects := 0 } }

def timOpen (_ : State) (_ _ _ : Nat) : Bool := true

/-- After a write of a TIM word. DEDUCED (log 141). -/
def timAct (c : WriteCtx) (s : State) : State :=
  if c.w = 0 then
    let s := if c.wrote TIM_CTRL_UNFREEZE = 1 then unfreeze s else s
    let s := timStep (c.wrote TIM_CTRL_SET == 1) (c.wrote TIM_CTRL_ADJ == 1) s
    if c.rose s TIM_CTRL_OC_EN || c.fell s TIM_CTRL_OC_EN then ptpRefresh s else s
  else if c.w = TIM_PTP_CFG.word then ptpRefresh s
  else if c.w = TIM_INC_LO.word ∨ c.w = TIM_INC_HI.word then
    (if tget s TIM_STATUS_FROZEN = 1 then s.wr 0 0 BLK_TIM c.w c.old
     else if c.w = TIM_INC_HI.word then { s with tim := { s.tim with incNew := some (incActs (s.get64 0 0 TIM_INC_LO % 2 ^ 35)) } }
     else s)
  else if 0x40 ≤ c.w ∧ c.w % 16 = 0 ∧ c.w < 0x140 then tuArm ((c.w - 0x40) / 16) s
  else s

/-- A write of a TIM word. -/
def timWrite (w : Nat) (v : Word) (s : State) : State := hostWrite BLK_TIM timOpen timAct 0 0 w v false s

end Sys2Proof.Machine
end

