-- ==== Sys2Proof/Machine/Lane.lean ====
section
/-! DEFINITION. Gorge and Saddle lanes (chapter 01): bring-up, alignment and polarity, equalisation and freezes, FEC
reception, PRBS and loopback. -/

namespace Sys2Proof.Machine

/-- The lane exists: G0 and G1 on every hearth, SL0–SL3 on the crown (R13, R14). DESIGN CHOICE (log 4). -/
def laneOk (s : State) (h l : Nat) : Bool := s.hasH h && (decide (l < 2) || (decide (l < 6) && h == s.crown))

/-- A Gorge lane, by its instance. -/
def isGorge (l : Nat) : Bool := decide (l < 2)

/-- A lane's state code (R25). -/
def laneSt (s : State) (h l : Nat) : Nat := s.fget h l LANE_STATUS_STATE

/-- MODE is valid for the lane (R22). -/
def modeOk (l m : Nat) : Bool :=
  if l < 2 then m == 1
  else if l < 4 then m == 1 || m == 2
  else if l = 4 then m == 3 || m == 4
  else m == 1 || m == 2 || m == 3 || m == 4

/-- Bonding is in force: BOND is 1 in both Gorge instances (R28). -/
def bondOn (s : State) (h : Nat) : Bool := s.fon h 0 LANE_CTRL_BOND && s.fon h 1 LANE_CTRL_BOND

/-- Lanes of a Gorge session that are UP, as GOR_STATUS.LANES shows them. -/
def sessionLanes (s : State) (h i : Nat) : Nat :=
  let up0 := b2n (laneSt s h 0 == 5)
  let up1 := b2n (laneSt s h 1 == 5)
  if i = 1 then 2 * up1 else if s.fon h 0 GOR_STATUS_BONDED then up0 + 2 * up1 else up0

/-- A session is ACTIVE or DRAINING. -/
def sessLive (s : State) (h i : Nat) : Bool :=
  let x := s.fget h i GOR_STATUS_SESS
  x == 3 || x == 4

/-- Bring GOR_STATUS.LANES up to date; a bonded session that loses a lane sets LANE_LOST (R83). -/
def lanesRefresh (h : Nat) (s : State) : State :=
  forEach [0, 1] (fun i s =>
    if sessLive s h i then
      let old := s.fget h i GOR_STATUS_LANES
      let new := sessionLanes s h i
      let s1 := s.fput h i GOR_STATUS_LANES new
      if s.fon h i GOR_STATUS_BONDED && (old &&& new) != old then s1.raise h i GOR_EVENT_LANE_LOST else s1
    else s) s

/-- Enter a lane state: leaving UP sets DOWN, entering UP sets UP, entering FAIL sets TIMEOUT (R26). -/
def laneGo (h l st : Nat) (s : State) : State :=
  let old := laneSt s h l
  let s := s.fput h l LANE_STATUS_STATE st
  let s := if old = 5 ∧ st ≠ 5 then s.raise h l LANE_EVENT_DOWN else s
  let s := if st = 5 ∧ old ≠ 5 then s.raise h l LANE_EVENT_UP else s
  let s := if st = 7 then s.raise h l LANE_EVENT_TIMEOUT else s
  if isGorge l then lanesRefresh h s else s

/-- Return to WAIT_SIG or OFF: lock, alignment and the running counts of the acquisition start again. -/
def laneRestart (h l st : Nat) (s : State) : State :=
  let x := s.lane h l
  let s := laneGo h l st s
  let s := ((s.fput h l LANE_STATUS_CDR_LOCK 0).fput h l LANE_STATUS_ALIGNED 0).fput h l LANE_STATUS_REVERSED 0
  let s := s.fput h l LANE_STATUS_RECENTRE 0
  s.setLane h l { x with periods := 0, amFound := false, afterComma := false, polRun := 0, anFailed := false,
                         good := 0, ctleAge := 0, ctleTrial := none, rxFrame := none }

/-! ### Freezes (R37–R39) -/

/-- The freeze cause that applies: forced, low FOM, idle (R38). DEDUCED (log 30). -/
def freezeWhy (s : State) (h l : Nat) : Nat :=
  let x := s.lane h l
  if s.fon h l LANE_ADAPT_FREEZE_FORCE then 3 else if x.fomHold then 2 else if x.idleHold then 1 else 0

/-- Show the freeze cause. -/
def freezeShow (h l : Nat) (s : State) : State := s.fput h l LANE_STATUS_FREEZE_WHY (freezeWhy s h l)

/-- Highest CTLE code of a lane (R31). -/
def ctleMax (l : Nat) : Nat := if isGorge l then 15 else 7

/-- DFE taps of a lane (R31). -/
def dfeTaps (l : Nat) : Nat := if isGorge l then 12 else 5

/-- `n` free bytes. -/
def freeTaps : Nat → State → List Nat × State
  | 0, s => ([], s)
  | n + 1, s =>
    let (a, s) := s.free 8
    let (as, s) := freeTaps n s
    (a :: as, s)

/-- LMS moves every DFE tap to a value the spec leaves open (R36). DESIGN CHOICE (log 26). -/
def dfeStep (h l : Nat) (s : State) : State :=
  let (ts, s) := freeTaps (dfeTaps l) s
  let s := (s.fput h l LANE_ADAPT_STAT_DFE1 (ts.getD 0 0)).fput h l LANE_ADAPT_STAT_DFE2 (ts.getD 1 0)
  s.setLane h l { (s.lane h l) with dfe := ts.drop 2 }

/-- One adaptation step (R36): LMS moves the taps and the VGA to values the spec leaves open; the CTLE moves by at most
one code per 64 FOM periods, and a trial step after which the FOM fell is undone. DESIGN CHOICE (log 26). -/
def adaptStep (h l fom : Nat) (s : State) : State :=
  let s := if s.fon h l LANE_RXEQ_DFE_ADAPT then dfeStep h l s else s
  let (v, s) := s.free 4
  let s := s.fput h l LANE_ADAPT_STAT_VGA v
  if !s.fon h l LANE_RXEQ_CTLE_ADAPT then s
  else
    let x := s.lane h l
    let age := x.ctleAge + 1
    if age < 64 then s.setLane h l { x with ctleAge := age }
    else
      match x.ctleTrial with
      | some (code, before) =>
        if fom < before then
          (s.fput h l LANE_ADAPT_STAT_CTLE code).setLane h l { x with ctleAge := 0, ctleTrial := none }
        else s.setLane h l { x with ctleAge := 0, ctleTrial := none }
      | none =>
        let cur := s.fget h l LANE_ADAPT_STAT_CTLE
        let (d, s) := s.free 2
        let new := if d = 0 then cur - 1 else if d = 1 then min (ctleMax l) (cur + 1) else cur
        (s.fput h l LANE_ADAPT_STAT_CTLE new).setLane h l { x with ctleAge := 0, ctleTrial := some (cur, fom) }

/-- Start a recentre where one is due and enabled, else take an adaptation step; a recentre that is not enabled stays due (R38). -/
def adaptOrRecentre (h l fom : Nat) (s : State) : State :=
  let x := s.lane h l
  if freezeWhy s h l != 0 then s
  else if x.recentreDue && s.fon h l LANE_ADAPT_RECENTRE_EN then
    (s.setLane h l { x with recentreDue := false }).fput h l LANE_STATUS_RECENTRE 1
  else adaptStep h l fom s

/-! ### LANE_CTRL -/

/-- RWL fields of LANE are open while EN is 0. -/
def laneOpen (s : State) (h l _w : Nat) : Bool := !s.fon h l LANE_CTRL_EN

/-- Entries of the lane table: 16 bytes each (R33). -/
def laneEntries (bs : List Byte) : List (List Byte) := (List.range (bs.length / 16)).map fun k => slice bs (16 * k) 16

/-- Load the first table entry with a correct CRC that matches hearth, instance and MODE (R34). R33 gives neither the byte order
of the CRC in bytes 14 and 15 nor its bit order: little-endian, most significant bit first, not reflected. DESIGN CHOICE (log 162). -/
def laneTableLoad (h l : Nat) (s : State) : State :=
  let es := laneEntries ((cfgKind s 2).getD [])
  match es.find? (fun e => byteAt e 0 == h && byteAt e 1 == l && byteAt e 2 == s.fget h l LANE_CTRL_MODE
      && crc16 (e.take 14) == leAt e 14 2) with
  | none => s.raise h l LANE_EVENT_NO_TBL
  | some e =>
    let fl := byteAt e 3
    let s := (((s.fput h l LANE_TXEQ_PRE2 (byteAt e 4)).fput h l LANE_TXEQ_PRE1 (byteAt e 5)).fput h l LANE_TXEQ_POST1
      (byteAt e 6)).fput h l LANE_TXEQ_POST2 (byteAt e 7)
    let s := (s.fput h l LANE_RXEQ_CTLE_INIT (byteAt e 8)).fput h l LANE_RXEQ_VGA_INIT (byteAt e 9)
    ((s.fputB h l LANE_CTRL_TX_PRECODE (bit fl 0)).fputB h l LANE_CTRL_RX_PRECODE (bit fl 1)).fputB h l
      LANE_CTRL_TX_INV (bit fl 2)

/-- The FFE taps PRE2, PRE1, POST1 and POST2 in effect (R31, R32): PRE2 and POST2 are ignored on Saddle lanes, and a PRE1 or
POST1 above its range acts as 24. DESIGN CHOICE (log 161). -/
def ffeTaps (s : State) (h l : Nat) : List Nat :=
  [if isGorge l then s.fget h l LANE_TXEQ_PRE2 else 0, min 24 (s.fget h l LANE_TXEQ_PRE1), min 24 (s.fget h l LANE_TXEQ_POST1),
    if isGorge l then s.fget h l LANE_TXEQ_POST2 else 0]

/-- Sum of the FFE taps in effect (R32). -/
def ffeSum (s : State) (h l : Nat) : Nat := (ffeTaps s h l).sum

/-- The taps that drive the transmitter: PRE2, PRE1, the main tap, POST1, POST2; the main tap is 64 minus the others, which are
all 0 where they summed to more than 32 when the lane left OFF (R31, R32). -/
def txTaps (s : State) (h l : Nat) : List Nat :=
  if (s.lane h l).tapsZero then [0, 0, 64, 0, 0]
  else
    let t := ffeTaps s h l
    [t.getD 0 0, t.getD 1 0, 64 - ffeSum s h l, t.getD 2 0, t.getD 3 0]

/-- The two Gorge lanes disagree on BOND (R28). -/
def bondSplit (s : State) (h : Nat) : Bool := s.fon h 0 LANE_CTRL_BOND != s.fon h 1 LANE_CTRL_BOND

/-- BOND_ERR in both Gorge lanes. -/
def bondErr (h : Nat) (s : State) : State := (s.raise h 0 LANE_EVENT_BOND_ERR).raise h 1 LANE_EVENT_BOND_ERR

/-- Leave OFF for WAIT_SIG (R25): table load, tap check, starting values of the receiver; a low-FOM freeze ends, and DEGRADED
with it (R40). The transmitter starts, with no frame waiting. -/
def laneStart (h l : Nat) (s : State) : State :=
  let s := if s.fon h l LANE_CTRL_TBL_USE then laneTableLoad h l s else s
  let tooBig := decide (ffeSum s h l > 32)
  let s := if tooBig then s.raise h l LANE_EVENT_EQ_BAD else s
  let s := if (s.lane h l).fomHold then s.fput h l LANE_STATUS_DEGRADED 0 else s
  let s := s.setLane h l { (s.lane h l) with tapsZero := tooBig, idleHalf := 0, idleHold := false, fomHold := false,
                                             recentreDue := false, txRun := false, txq := [], txAt := s.out.length }
  let code := s.fget h l LANE_RXEQ_CTLE_INIT
  let s := s.fput h l LANE_ADAPT_STAT_CTLE (if isGorge l then code else code % 8)
  let s := s.fput h l LANE_ADAPT_STAT_VGA (s.fget h l LANE_RXEQ_VGA_INIT)
  let s := s.fputB h l LANE_STATUS_RX_INV_ACT (!s.fon h l LANE_CTRL_POL_AUTO && s.fon h l LANE_CTRL_RX_INV)
  let s := if isGorge l && bondSplit s h then bondErr h s else s
  freezeShow h l (laneRestart h l 1 s)

/-- Go OFF: electrical idle, nothing held. -/
def laneStop (h l : Nat) (s : State) : State :=
  let s := laneRestart h l 0 s
  (s.fput h l LANE_STATUS_SIGDET 0).fput h l LANE_STATUS_RX_INV_ACT 0

/-- After a write of a LANE word: a BOND that now differs from the running other lane's is an error (R28), EN and MODE decide
OFF, and FREEZE_FORCE the freeze (R25, R38). -/
def laneAct (c : WriteCtx) (s : State) : State :=
  if c.w = 0 then
    let s := if isGorge c.i && (c.rose s LANE_CTRL_BOND || c.fell s LANE_CTRL_BOND) && bondSplit s c.h
        && laneSt s c.h (1 - c.i) != 0 then bondErr c.h s else s
    let run := s.fon c.h c.i LANE_CTRL_EN && modeOk c.i (s.fget c.h c.i LANE_CTRL_MODE)
    if laneSt s c.h c.i = 0 then (if run then laneStart c.h c.i s else s)
    else if run then s else laneStop c.h c.i s
  else if c.w = 7 then
    let s := if c.fell s LANE_ADAPT_FREEZE_FORCE then
        s.setLane c.h c.i { (s.lane c.h c.i) with recentreDue := true } else s
    freezeShow c.h c.i s
  else s

/-- LANE_EN_WRITE (R25): a write of LANE_CTRL. -/
def laneEnWrite (h l : Nat) (value : Word) (s : State) : State :=
  if laneOk s h l then hostWrite BLK_LANE laneOpen laneAct h l 0 value false s else s

/-! ### Bring-up (R25, R26) -/

/-- SIGNAL_DETECTED: signal for 1 µs in WAIT_SIG. -/
def signalDetected (h l : Nat) (s : State) : State :=
  if laneOk s h l && laneSt s h l == 1 then
    (laneGo h l 2 s).fput h l LANE_STATUS_SIGDET 1
  else s

/-- CDR_LOCKED: lock in ACQUIRE starts the count of FOM periods. -/
def cdrLocked (h l : Nat) (s : State) : State :=
  if laneOk s h l && laneSt s h l == 2 then
    (s.fput h l LANE_STATUS_CDR_LOCK 1).setLane h l { (s.lane h l) with periods := 0 }
  else s

/-- The FOM record of a period (R35): last, lowest and highest. -/
def fomRecord (h l fom : Nat) (s : State) : State :=
  let s := (s.fput h l LANE_STATUS_FOM fom).fput h l LANE_FOM_FOM fom
  let s := s.fput h l LANE_FOM_FOM_MIN (min fom (s.fget h l LANE_FOM_FOM_MIN))
  s.fput h l LANE_FOM_FOM_MAX (max fom (s.fget h l LANE_FOM_FOM_MAX))

/-- The low-FOM hold after a period (R38); DEGRADED clears when the lane leaves it (R40). -/
def fomHoldStep (h l fom : Nat) (s : State) : State :=
  let x := s.lane h l
  let floor := s.fget h l LANE_ADAPT_FOM_FLOOR
  let high := floor + s.fget h l LANE_ADAPT_FOM_HYST
  let hold := x.fomHold || decide (fom < floor)
  if fom < high then s.setLane h l { x with fomHold := hold, good := 0 }
  else if hold then
    if x.good + 1 = 4 then
      (s.setLane h l { x with fomHold := false, good := 0, recentreDue := true }).fput h l LANE_STATUS_DEGRADED 0
    else s.setLane h l { x with fomHold := hold, good := x.good + 1 }
  else s.setLane h l { x with fomHold := hold }

/-- FOM_PERIOD (R35, R38): measured from ACQUIRE to UP; in ACQUIRE the 64th period since lock with an open eye ends the
acquisition (R25). DESIGN CHOICE (log 6). -/
def fomPeriod (h l fom : Nat) (s : State) : State :=
  let st := laneSt s h l
  if laneOk s h l && decide (2 ≤ st) && decide (st ≤ 5) then
    let fom := min fom 255
    let s := fomRecord h l fom s
    let s := if s.fon h l LANE_STATUS_CDR_LOCK then
        s.setLane h l { (s.lane h l) with periods := (s.lane h l).periods + 1 } else s
    let s := adaptOrRecentre h l fom (fomHoldStep h l fom s)
    let s := freezeShow h l s
    if st = 2 ∧ s.fon h l LANE_STATUS_CDR_LOCK ∧ 64 ≤ (s.lane h l).periods
        ∧ s.fget h l LANE_ADAPT_FOM_FLOOR + s.fget h l LANE_ADAPT_FOM_HYST ≤ fom then laneGo h l 3 s
    else s
  else s

/-- LOW_FOM_DEGRADED: FOM below the floor for 1 ms in UP (R40). -/
def lowFomDegraded (h l : Nat) (s : State) : State :=
  if laneOk s h l && laneSt s h l == 5 && decide (s.fget h l LANE_FOM_FOM < s.fget h l LANE_ADAPT_FOM_FLOOR) then
    (s.fput h l LANE_STATUS_DEGRADED 1).raise h l LANE_EVENT_DEGRADED
  else s

/-- RECENTRE_DONE: 1,024 symbols at eightfold step size end; DFE tap 1 is centred to a value the spec leaves open (R38). -/
def recentreDone (h l : Nat) (s : State) : State :=
  if laneOk s h l && s.fon h l LANE_STATUS_RECENTRE then
    let (d, s) := s.free 8
    (s.fput h l LANE_STATUS_RECENTRE 0).fput h l LANE_ADAPT_STAT_DFE1 d
  else s

/-- A received unit is idle, or is data (R37): an idle one adds `half` half symbols to the idle count, data ends the run. -/
def idleStep (h l : Nat) (idle : Bool) (half : Nat) (s : State) : State :=
  let x := s.lane h l
  let limit := 2 * s.fget h l LANE_ADAPT_IDLE_LIMIT
  let s := if idle then
      let n := x.idleHalf + half
      s.setLane h l { x with idleHalf := n, idleHold := x.idleHold || (limit != 0 && decide (limit ≤ n)) }
    else s.setLane h l { x with idleHalf := 0, idleHold := false, recentreDue := x.recentreDue || x.idleHold }
  freezeShow h l s

/-- The lane measures and adapts: ACQUIRE to UP (R35). -/
def laneMeasures (s : State) (h l : Nat) : Bool := laneOk s h l && decide (2 ≤ laneSt s h l) && decide (laneSt s h l ≤ 5)

/-- A received block is idle (R37): 128.5 symbols, counted in half symbols. -/
def blockUnit (h l : Nat) (b : RxBlock) (s : State) : State := idleStep h l (b == .idle) 257 s

/-- Half symbols of one Saddle idle code group: ten line bits; R37 gives no number for it. DESIGN CHOICE (log 165). -/
def saddleHalf : Nat := 20

/-- The second octets of the idle ordered sets of a mode (R23): D5.6 and D16.2, or D21.5. -/
def idleSecond (mode b : Nat) : Bool := if mode = 3 ∨ mode = 4 then b == 0xB5 else b == 0xC5 || b == 0x50

/-- A received code group, a data octet or with bit 8 a control code, counts as idle or as data (R37). K28.5 counts with the group
after it, which decides between an idle ordered set and another. -/
def groupUnit (h l : Nat) (afterComma : Bool) (kb : Nat) (s : State) : State :=
  if afterComma && idleSecond (s.fget h l LANE_CTRL_MODE) kb then idleStep h l true (2 * saddleHalf) s
  else if kb == kComma && !afterComma then s
  else idleStep h l false 0 s

/-- ADAPT_UNIT_RECEIVED (R37): a block of a Gorge lane, or the code group of a Saddle lane with the one before it, that no other
command brings. DESIGN CHOICE (log 165). -/
def adaptUnit (h l : Nat) (u : LaneUnit) (s : State) : State :=
  if !laneMeasures s h l then s
  else match u with
    | .block hdr payload => if isGorge l then blockUnit h l (blockRead hdr payload).1 s else s
    | .group prev kb => if isGorge l then s else groupUnit h l (prev == kComma) kb s

/-! ### FEC and alignment (R16–R20, R27–R30) -/

/-- Receive inversion in effect (R27). DEDUCED (log 27). -/
def rxInv (s : State) (h l : Nat) : Bool :=
  if s.fon h l LANE_CTRL_POL_AUTO then s.fon h l LANE_STATUS_RX_INV_ACT else s.fon h l LANE_CTRL_RX_INV

/-- The 544 symbols in received levels, under an inversion; and the last line level. -/
def rxSymbols (s : State) (h l : Nat) (inv : Bool) (levels : List Nat) : List Nat × Nat :=
  let (g, last) := rxLevels inv (s.fon h l LANE_CTRL_RX_PRECODE) (s.lane h l).lastP levels
  (bitsToSymbols (g.flatMap grayBits), last)

/-- The logical lane a Gorge lane delivers as: after a reversal the one its received ID names (R30). -/
def logicalLane (s : State) (h l : Nat) : Nat := if s.fon h l LANE_STATUS_REVERSED then 1 - l else l

/-- Blocks decoded from a codeword: each counts as idle or data (R37); in UP they pass to the protocol layer, and the frames they
complete are answered (R25, R47, R48). -/
def blocksDeliver (h l : Nat) (bs : List RxBlock) (s : State) : List LaneFrame × State :=
  let s := forEach bs (blockUnit h l) s
  if laneSt s h l = 5 then
    let r := collectBlocks (s.lane h l).rxFrame bs
    (r.2, (s.setLane h l { (s.lane h l) with rxFrame := r.1 }).emit (.blocks h (logicalLane s h l) bs))
  else ([], s)

/-- Corrected symbols and codewords are counted (R19). -/
def fecCount (h l k : Nat) (s : State) : State := if k = 0 then s else (s.count h l LANE_FEC_SYM k).count h l LANE_FEC_CW

/-- An uncorrectable codeword is counted (R19). -/
def fecLost (h l : Nat) (s : State) : State := (s.count h l LANE_FEC_UNC).raise h l LANE_EVENT_UNCORR

/-- With far-end loopback the received levels go back on the transmitter (R45). -/
def farEnd (h l : Nat) (levels : List Nat) (s : State) : State :=
  if s.fget h l TST_PRBS_CTRL_LOOPBACK = 2 then s.emit (.echoed h l levels) else s

/-- A Gorge lane that holds codeword alignment, in CHECK or UP. -/
def laneAligned (s : State) (h l : Nat) : Bool :=
  laneOk s h l && isGorge l && s.fon h l LANE_STATUS_ALIGNED && (laneSt s h l == 4 || laneSt s h l == 5)

/-- A data codeword is received (R17, R19): corrected and counted, or delivered as 20 errored blocks. The descrambler takes in what
was received either way. Answers the frames completed. -/
def codewordTaken (h l : Nat) (levels : List Nat) (s : State) : List LaneFrame × State :=
  if !(laneAligned s h l && levels.length == 2720) then ([], s)
  else
    let (syms, last) := rxSymbols s h l (rxInv s h l) levels
    let reg := (s.lane h l).descr
    let s := (farEnd h l levels s).setLane h l { (s.lane h l) with lastP := last }
    match rsDecode syms with
    | none =>
      let r := blocksOf reg (symbolsToBits (syms.take 514))
      blocksDeliver h l (List.replicate 20 .errored) (fecLost h l (s.setLane h l { (s.lane h l) with descr := r.2.2 }))
    | some (w, k) =>
      let r := blocksOf reg (symbolsToBits (w.take 514))
      let s := fecCount h l k (s.setLane h l { (s.lane h l) with descr := r.2.2 })
      let s := if r.2.1 = 0 then s else (s.count h l LANE_CODE_ERR r.2.1).raise h l LANE_EVENT_CODE_ERR
      blocksDeliver h l r.1 s

/-- The lane is part of a bonded pair. -/
def laneBonded (s : State) (h : Nat) : Bool := bondOn s h

/-- Both lanes of a bonded pair show one lane ID, and this one keeps CHECK: the other is UP or in CHECK and was there first, or,
for G1, both came within one alignment interval (R30). -/
def twinLaneStays (s : State) (h l laneId : Nat) : Bool :=
  let o := 1 - l
  let mine := (s.lane h l).checkAt
  let its := (s.lane h o).checkAt
  (laneSt s h o == 4 || laneSt s h o == 5) && s.fget h o LANE_STATUS_AM_LANE == laneId
    && (if l = 1 then decide (its ≤ mine + 41943) else decide (its + 41943 < mine))

/-- G0 is accepted with the lane ID of a G1 that went UP in the same alignment interval: G1 is the one that stays in CHECK, so it
returns there (R30). DEDUCED (log 29). -/
def yieldTwin (h l laneId : Nat) (s : State) : State :=
  if l = 0 && laneSt s h 1 == 5 && s.fget h 1 LANE_STATUS_AM_LANE == laneId then
    (laneGo h 1 4 s).raise h 1 LANE_EVENT_BOND_ERR
  else s

/-- The CHECK tests on an alignment codeword's IDs (R29, R30): accepted lanes enter UP. DEDUCED (log 29). -/
def laneCheck (h l laneId bond : Nat) (s : State) : State :=
  let want := s.fget h l LANE_BOND_RX_BOND_ID
  if want ≠ 0xFF ∧ bond ≠ want then s.raise h l LANE_EVENT_BOND_ERR
  else if !laneBonded s h then laneGo h l 5 s
  else if twinLaneStays s h l laneId then s.raise h l LANE_EVENT_BOND_ERR
  else if laneId = l then laneGo h l 5 (yieldTwin h l laneId s)
  else if s.fon h l LANE_CTRL_REV_AUTO then
    laneGo h l 5 (((yieldTwin h l laneId s).fput h l LANE_STATUS_REVERSED 1).raise h l LANE_EVENT_REV)
  else s

/-- The message of received levels that decode to an alignment codeword under an inversion, and the symbols corrected. -/
def alignmentMessage (s : State) (h l : Nat) (inv : Bool) (levels : List Nat) : Option (List Bool × Nat) :=
  ((rsDecode (rxSymbols s h l inv levels).1).map fun r => (symbolsToBits (r.1.take 514), r.2)).filter fun r => hasMarker r.1

/-- A codeword is received where an alignment codeword is expected or searched for (R20, R25, R27): in ALIGN the first finds
alignment (or its inverted image, which inverts the receive levels), the next in its place confirms it and enters CHECK, and another
codeword in that place loses what was found; from CHECK on its IDs are taken. It is corrected and counted as every codeword (R19). -/
def alignmentTaken (h l : Nat) (levels : List Nat) (s : State) : State :=
  let st := laneSt s h l
  if !(laneOk s h l && isGorge l && decide (3 ≤ st) && decide (st ≤ 5) && levels.length == 2720) then s
  else
    let inv := rxInv s h l
    let (syms, last) := rxSymbols s h l inv levels
    let s1 := (farEnd h l levels s).setLane h l { (s.lane h l) with lastP := last }
    match alignmentMessage s h l inv levels with
    | some (msg, k) =>
      let id := msgNum msg 64 8
      let bond := msgNum msg 72 8
      let s1 := fecCount h l k (s1.fput h l LANE_STATUS_AM_LANE id)
      if st = 3 then
        if (s1.lane h l).amFound then
          let s2 := (laneGo h l 4 (s1.fput h l LANE_STATUS_ALIGNED 1)).setLane h l
            { (s1.lane h l) with checkAt := s1.now }
          laneCheck h l id bond s2
        else s1.setLane h l { (s1.lane h l) with amFound := true }
      else if st = 4 then laneCheck h l id bond s1
      else s1
    | none =>
      if st = 3 then
        match (if s.fon h l LANE_CTRL_POL_AUTO then alignmentMessage s h l (!inv) levels else none) with
        | some (msg, k) =>
          let s2 := fecCount h l k ((s1.fputB h l LANE_STATUS_RX_INV_ACT (!inv)).raise h l LANE_EVENT_POL_FLIP)
          (s2.fput h l LANE_STATUS_AM_LANE (msgNum msg 64 8)).setLane h l { (s2.lane h l) with amFound := true }
        | none => s1.setLane h l { (s1.lane h l) with amFound := false }
      else
        match rsDecode syms with
        | some (_, k) => fecCount h l k s1
        | none => fecLost h l s1

/-! ### Sending codewords (R17, R18, R20, R21, R47) -/

/-- The lane a Gorge frame leaves on: G1 for the mirror session, else the one its header names (R49, R82). -/
def frameLane (i : Nat) (f : List Byte) : Nat := if i = 1 then 1 else byteAt f 7

/-- Blocks of the frames put on a lane since its queue of blocks was last filled. -/
def newBlocks (s : State) (h l : Nat) : List RxBlock :=
  (s.out.take (s.out.length - (s.lane h l).txAt)).reverse.flatMap fun o => match o with
    | .gorge g i f => if g == h && frameLane i f == l then frameBlocks f else []
    | _ => []

/-- A codeword of 544 symbols as it goes out after level `p`: symbols, levels, last level before inversion. -/
def wordLevels (s : State) (h l p : Nat) (ss : List Nat) : List Nat × Nat :=
  let r := txLevels (s.fon h l LANE_CTRL_TX_PRECODE) p (grayLevels (symbolsToBits ss))
  (r.1.map fun x => if s.fon h l LANE_CTRL_TX_INV then 3 - x else x, r.2)

/-- What stands between two alignment codewords: 1,023 data codewords, the waiting blocks first and IDLE blocks after them. -/
structure TxRun where
  scr : Nat
  p : Nat
  blocks : List RxBlock
  /-- Codewords with a block of a frame, newest first: symbols and levels. -/
  sent : List (List Nat × List Nat) := []

/-- One data codeword more. -/
def dataCodeword (s : State) (h l : Nat) (r : TxRun) : TxRun :=
  let (m, scr) := blocksMessage r.scr (r.blocks.take 20)
  let ss := m ++ rsParity m
  let (ls, p) := wordLevels s h l r.p ss
  { scr := scr, p := p, blocks := r.blocks.drop 20, sent := if r.blocks.isEmpty then r.sent else (ss, ls) :: r.sent }

/-- The data codewords before the next alignment codeword; none before the first after OFF. DESIGN CHOICE (log 32). -/
def dataRun (s : State) (h l : Nat) : TxRun :=
  let x := s.lane h l
  (List.range (if x.txRun then 1023 else 0)).foldl (fun r _ => dataCodeword s h l r)
    { scr := x.scr, p := x.txP, blocks := x.txq ++ newBlocks s h l }

/-- The lane transmits codewords: every state but OFF and TEST. -/
def laneSends (s : State) (h l : Nat) : Bool := laneOk s h l && isGorge l && laneSt s h l != 0 && laneSt s h l != 6

/-- The data codewords since the last alignment codeword, then the alignment codeword: marker, physical lane ID, bond ID and
sequence under RS parity (R20), all in one chain of scrambler and precoder (R17, R21). Far-end loopback discards them (R45). -/
def alignmentPut (h l : Nat) (s : State) : State :=
  let x := s.lane h l
  let r := dataRun s h l
  let ss := amCodeword l (s.fget h l LANE_BOND_TX_BOND_ID) x.amSeq
  let (ls, p) := wordLevels s h l r.p ss
  let s1 := s.setLane h l { x with amSeq := (x.amSeq + 1) % 65536, scr := r.scr, txP := p, txq := r.blocks, txRun := true,
                                   txAt := s.out.length }
  if s.fget h l TST_PRBS_CTRL_LOOPBACK = 2 then s1
  else s1.emits ((r.sent.reverse ++ [(ss, ls)]).map fun w => .codeword h l w.1 w.2 (txTaps s h l))

/-! ### Saddle reception (R22–R24, R27) -/

/-- A control code group the lane's mode uses (R23). -/
def ctrlOk (mode k : Nat) : Bool :=
  if mode = 3 ∨ mode = 4 then k == 0xBC || k == 0xFB || k == 0xFD || k == 0x7C else true

/-- The groups that follow K28.5 in the ordered sets of a mode (R23): /I1/, /I2/, /C1/ and /C2/, or /TI/. -/
def expectedSecond (mode b : Nat) : Bool := idleSecond mode b || (mode != 3 && mode != 4 && (b == 0xB5 || b == 0x42))

/-- A code group is the complement of D16.2, D5.6 or D21.5 (R27). -/
def inverseSecond (g : Nat) : Bool := [true, false].any fun pos => match decGroup (1023 - g) pos with
  | .data b => b == 0x50 || b == 0xC5 || b == 0xB5
  | _ => false

/-- A code group as one number: its octet, with bit 8 for a control code; none for an invalid one. -/
def groupByte : Group → Option Nat
  | .data b => some b
  | .ctrl k => some (256 + k)
  | .bad => none

/-- CODE_GROUP_RECEIVED (R22, R23, R27, R37): an invalid group is counted, and every group counts as idle or data. In CHECK the
group after each K28.5 settles the polarity: one that an ordered set expects enters UP; 32 sets in a row whose second group is no
expected one while its complement is invert the receive bits and restart synchronisation. DEDUCED (log 28). -/
def codeGroup (h l group : Nat) (s : State) : State :=
  if !(laneMeasures s h l && !isGorge l) then s
  else
    let mode := s.fget h l LANE_CTRL_MODE
    let x := s.lane h l
    let g := (if rxInv s h l then 1023 - group % 1024 else group % 1024)
    let kb := groupByte (decGroup g x.rdPos)
    let ok := match kb with
      | some b => decide (b < 256) || ctrlOk mode (b - 256)
      | none => false
    let s1 := if ok then s else (s.count h l LANE_CODE_ERR).raise h l LANE_EVENT_CODE_ERR
    let s1 := farEnd h l [group % 1024] (groupUnit h l x.afterComma (kb.getD 512) s1)
    let settles := x.afterComma && kb.any (expectedSecond mode)
    let run := if x.afterComma then (if !settles && inverseSecond g then x.polRun + 1 else 0) else x.polRun
    let s2 := s1.setLane h l { (s1.lane h l) with rdPos := nextRd g x.rdPos, afterComma := kb == some kComma, polRun := run }
    if laneSt s h l = 4 ∧ x.afterComma then
      if 32 ≤ run ∧ s.fon h l LANE_CTRL_POL_AUTO then
        let s3 := (s2.fputB h l LANE_STATUS_RX_INV_ACT (!s.fon h l LANE_STATUS_RX_INV_ACT)).raise h l LANE_EVENT_POL_FLIP
        (laneGo h l 3 (s3.fput h l LANE_STATUS_ALIGNED 0)).setLane h l { (s2.lane h l) with polRun := 0, afterComma := false }
      else if settles then laneGo h l 5 s2
      else s2
    else s2

/-- Auto-negotiation runs on the lane: AN_EN in mode 1 (R24). -/
def anRuns (s : State) (h l : Nat) : Bool :=
  s.fget h l LANE_CTRL_MODE == 1 && s.fon h l LANE_CTRL_AN_EN && (l == 2 || l == 3)

/-- The configuration word advertised (R24): FD 1, HD 0, PS1 and PS2 0, and the remote fault of the lane state, an
auto-negotiation error after AN_FAIL. Bit places PRESUMED from Clause 37 (log 24). -/
def anWord (s : State) (h l : Nat) : Nat := 0x0020 + (if (s.lane h l).anFailed then 0x3000 else 0)

/-- Auto-negotiation starts or starts again. -/
def anStart (h l : Nat) (s : State) : State := s.emit (.autoneg h l (anWord s h l) (configGroups (anWord s h l)))

/-- A Saddle lane in ALIGN enters CHECK; with POL_AUTO at 0 polarity is settled by RX_INV, and it enters UP. DEDUCED (log 28). -/
def saddleCheck (h l : Nat) (s : State) : State :=
  let s := (laneGo h l 4 (s.fput h l LANE_STATUS_ALIGNED 1)).setLane h l
    { (s.lane h l) with polRun := 0, afterComma := false, anFailed := false }
  if s.fon h l LANE_CTRL_POL_AUTO then s else laneGo h l 5 s

/-- SADDLE_SYNC_ACQUIRED (R25): Clause 36 synchronisation; with auto-negotiation on, the lane starts it and waits for it in ALIGN. -/
def saddleSync (h l : Nat) (s : State) : State :=
  if laneOk s h l && !isGorge l && laneSt s h l == 3 then
    if anRuns s h l then anStart h l (s.fput h l LANE_STATUS_ALIGNED 1) else saddleCheck h l s
  else s

/-- AUTONEG_COMPLETE (R24, R25): a partner without full duplex leaves the lane in ALIGN with AN_FAIL. -/
def autonegComplete (h l : Nat) (fullDuplex : Bool) (s : State) : State :=
  if laneOk s h l && laneSt s h l == 3 && anRuns s h l && s.fon h l LANE_STATUS_ALIGNED then
    if fullDuplex then saddleCheck h l s
    else (s.setLane h l { (s.lane h l) with anFailed := true }).raise h l LANE_EVENT_AN_FAIL
  else s

/-- AUTONEG_RESTART (R24): every 10 ms after AN_FAIL. -/
def autonegRestart (h l : Nat) (s : State) : State :=
  if laneOk s h l && laneSt s h l == 3 && (s.lane h l).anFailed then anStart h l s else s

/-! ### Losses, timeouts (R26) -/

/-- The lane is in a state from `lo` to UP. -/
def laneBetween (s : State) (h l lo : Nat) : Bool :=
  laneOk s h l && decide (lo ≤ laneSt s h l) && decide (laneSt s h l ≤ 5)

/-- SIGNAL_LOST for 1 µs. -/
def signalLost (h l : Nat) (s : State) : State :=
  if laneBetween s h l 2 then laneRestart h l 1 (s.fput h l LANE_STATUS_SIGDET 0) else s

/-- CDR_LOCK_LOST. -/
def cdrLockLost (h l : Nat) (s : State) : State :=
  if laneBetween s h l 2 then laneRestart h l 1 s else s

/-- ALIGNMENT_LOST: three missing alignment codewords, or over 64 uncorrectable codewords in an interval. -/
def alignmentLost (h l : Nat) (s : State) : State :=
  if laneBetween s h l 3 && isGorge l then laneRestart h l 1 s else s

/-- SADDLE_SYNC_LOST. -/
def saddleSyncLost (h l : Nat) (s : State) : State :=
  if laneBetween s h l 3 && !isGorge l then laneRestart h l 1 s else s

/-- BRINGUP_TIMEOUT: UP not reached within LANE_BRINGUP.TIMEOUT ms; 0 disables the limit. -/
def bringupTimeout (h l : Nat) (s : State) : State :=
  let st := laneSt s h l
  if laneOk s h l && decide (1 ≤ st) && decide (st ≤ 4) && s.fon h l LANE_BRINGUP_TIMEOUT then laneGo h l 7 s else s

/-- FAIL_RETRY: RETRY ms after entry to FAIL; 0 stays in FAIL. -/
def failRetry (h l : Nat) (s : State) : State :=
  if laneOk s h l && laneSt s h l == 7 && s.fon h l LANE_BRINGUP_RETRY then laneRestart h l 1 s else s

/-! ### PRBS and loopback (R42–R45) -/

/-- The PRBS test is off: GEN_EN and CHK_EN both 0. -/
def prbsOff (s : State) (h l : Nat) : Bool := !s.fon h l TST_PRBS_CTRL_GEN_EN && !s.fon h l TST_PRBS_CTRL_CHK_EN

/-- Start or restart the checker: it seeds itself from the next bits (R43). Whether checked bits short of 2^20 survive is open;
they are dropped. DESIGN CHOICE (log 163). -/
def prbsReseed (h l : Nat) (s : State) : State :=
  (s.fput h l TST_PRBS_STAT_LOCK 0).setLane h l { (s.lane h l) with prbsBits := 0 }

/-- PRBS bits as they go out: Gray-mapped and precoded after level `p` on a Gorge lane, two bits per symbol with the earlier as the
MSB; as they are on a Saddle lane; inverted by TX_INV (R21, R42). Answers the last PAM4 level before inversion too. -/
def prbsLine (s : State) (h l p : Nat) (bs : List Bool) : List Nat × Nat :=
  let inv := s.fon h l LANE_CTRL_TX_INV
  if isGorge l then
    let r := txLevels (s.fon h l LANE_CTRL_TX_PRECODE) p (grayLevels bs)
    (r.1.map fun x => if inv then 3 - x else x, r.2)
  else (bs.map fun b => b2n (b != inv), p)

/-- PRBS bits received as line symbols after level `p`: the reverse path (R21, R42). -/
def prbsReceived (s : State) (h l : Nat) (line : List Nat) : List Bool :=
  if isGorge l then
    (rxLevels (rxInv s h l) (s.fon h l LANE_CTRL_RX_PRECODE) (s.lane h l).lastP line).1.flatMap grayBits
  else line.map fun b => b % 2 != b2n (rxInv s h l)

/-- The generator starts with the pattern and inversion written: a seed that the spec leaves open, not zero, and the first 64 bits on
the line (R42). Pattern 3 stays idle. DESIGN CHOICE (log 164). -/
def genStart (h l : Nat) (s : State) : State :=
  let pat := s.fget h l TST_PRBS_CTRL_PATTERN
  let inv := s.fon h l TST_PRBS_CTRL_INVERT
  let s := s.setLane h l { (s.lane h l) with genPat := pat, genInv := inv }
  if pat = 3 then s
  else
    let (v, s) := s.free 31
    let seed := 1 + v % (2 ^ (prbsTaps pat).1 - 1)
    let bs := (prbsBitsOf pat 64 seed).1.map (· != inv)
    (s.setLane h l { (s.lane h l) with genReg := seed, genCount := 0 }).emit (.prbs h l (prbsLine s h l (s.lane h l).txP bs).1)

/-- The generator goes on by `d` bits; the last of them is sent inverted (R44). -/
def genInject (h l d : Nat) (s : State) : State :=
  let x := s.lane h l
  let reg := prbsJump x.genPat d x.genReg
  (s.setLane h l { x with genReg := reg, genCount := x.genCount + d }).emit
    (.injected h l (x.genCount + d) ((reg.testBit 0 == x.genInv)))

/-- The generator runs and sends a sequence. -/
def genRuns (s : State) (h l : Nat) : Bool := s.fon h l TST_PRBS_CTRL_GEN_EN && (s.lane h l).genPat != 3

/-- A pending single injection inverts the next bit once the generator runs (R44). -/
def injectOne (h l : Nat) (s : State) : State :=
  if s.fon h l TST_PRBS_CTRL_INJ_ONE && genRuns s h l then genInject h l 1 (s.fput h l TST_PRBS_CTRL_INJ_ONE 0) else s

/-- LOOPBACK in effect: 3 acts as 0 (R45). -/
def loopback (v : Nat) : Nat := v % 3

/-- The lane leaves TEST: how many symbols the test sent is not followed, so the level before the next codeword is open (R21).
DESIGN CHOICE (log 164). -/
def testEnd (h l : Nat) (s : State) : State :=
  let (p, s) := s.free 2
  laneRestart h l 1 (s.setLane h l { (s.lane h l) with txP := p })

/-- After a write of TST_PRBS_CTRL: generator and checker start with the pattern then written (R42); the write that sets GEN_EN or
CHK_EN takes the lane to TEST, and it leaves once both are 0 (R26); a changed LOOPBACK sends it through WAIT_SIG, a test that
stands running on after that (R45). -/
def tstAct (c : WriteCtx) (s : State) : State :=
  if c.w ≠ 0 then s
  else
    let h := c.h
    let l := c.i
    let gen := c.rose s TST_PRBS_CTRL_GEN_EN
    let chk := c.rose s TST_PRBS_CTRL_CHK_EN
    let looped := loopback (s.fget h l TST_PRBS_CTRL_LOOPBACK) != loopback (c.was TST_PRBS_CTRL_LOOPBACK)
    let s := if gen then genStart h l s else s
    let s := if chk then prbsReseed h l (s.setLane h l { (s.lane h l) with
        chkPat := s.fget h l TST_PRBS_CTRL_PATTERN, chkInv := s.fon h l TST_PRBS_CTRL_INVERT }) else s
    let s := if c.fell s TST_PRBS_CTRL_CHK_EN then s.fput h l TST_PRBS_STAT_LOCK 0 else s
    let s := if c.wrote TST_PRBS_CTRL_CHK_RESEED = 1 && s.fon h l TST_PRBS_CTRL_CHK_EN then prbsReseed h l s else s
    let st := laneSt s h l
    let s := if st = 0 then s
      else
        let s := if st = 6 && (prbsOff s h l || looped) then testEnd h l s else if looped then laneRestart h l 1 s else s
        if gen || chk || (st == 6 && !prbsOff s h l) then laneGo h l 6 s else s
    injectOne h l s

/-- PRBS_ENABLE_WRITE (R26): a write of TST_PRBS_CTRL. -/
def prbsEnableWrite (h l : Nat) (value : Word) (s : State) : State :=
  if laneOk s h l then hostWrite BLK_TST laneOpen tstAct h l 0 value false s else s

/-- The checker is running on the lane. -/
def chkRuns (s : State) (h l : Nat) : Bool :=
  laneOk s h l && laneSt s h l == 6 && s.fon h l TST_PRBS_CTRL_CHK_EN && (s.lane h l).chkPat != 3

/-- The bits the checker sees in received line symbols: INVERT's complement undone (R42). -/
def chkBits (s : State) (h l : Nat) (line : List Nat) : List Bool :=
  (prbsReceived s h l line).map (· != (s.lane h l).chkInv)

/-- A register of bits, the last in bit 0. -/
def bitsReg (bs : List Bool) : Nat := bs.foldl (fun a b => 2 * a + b2n b) 0

/-- PRBS_CHECKER_LOCK (R43): line symbols whose first bits seed the checker and whose next 128 bits follow the sequence without an
error. -/
def prbsLock (h l : Nat) (line : List Nat) (s : State) : State :=
  if chkRuns s h l && !s.fon h l TST_PRBS_STAT_LOCK then
    let x := s.lane h l
    let n := (prbsTaps x.chkPat).1
    let bs := chkBits s h l line
    let want := prbsBitsOf x.chkPat 128 (bitsReg (bs.take n))
    if (bs.drop n).take 128 = want.1 then
      (s.setLane h l { x with chkReg := want.2 }).fput h l TST_PRBS_STAT_LOCK 1
    else s
  else s

/-- PRBS_LOCK_LOST (R43): the line symbols of a 128-bit window, compared with the sequence; more than 16 errors lose lock. The
window's bits and errors are counted while locked, bits in units of 2^20. DEDUCED (log 31). -/
def prbsLockLost (h l : Nat) (line : List Nat) (s : State) : State :=
  if chkRuns s h l && s.fon h l TST_PRBS_STAT_LOCK && decide (128 ≤ (chkBits s h l line).length) then
    let x := s.lane h l
    let want := prbsBitsOf x.chkPat 128 x.chkReg
    let errors := (((chkBits s h l line).zip want.1).filter fun e => e.1 != e.2).length
    let n := x.prbsBits + 128
    let s := (s.count h l TST_PRBS_ERR errors).count h l TST_PRBS_BITS (n / 2 ^ 20)
    let s := s.setLane h l { x with prbsBits := n % 2 ^ 20, chkReg := want.2 }
    if 16 < errors then prbsReseed h l (s.fput h l TST_PRBS_STAT_LOCK_LOST 1) else s
  else s

/-- CHK_RESEED (R43): a write of 1 to CHK_RESEED. -/
def chkReseed (h l : Nat) (s : State) : State :=
  if laneOk s h l && s.fon h l TST_PRBS_CTRL_CHK_EN then prbsReseed h l s else s

/-- INJ_ONE (R44): a write of 1; it stays pending until the generator runs. -/
def injOne (h l : Nat) (s : State) : State :=
  if laneOk s h l then injectOne h l (s.fput h l TST_PRBS_CTRL_INJ_ONE 1) else s

/-- The exponent of rate injection in effect: 1–3 act as 4, 0 is off (R44). -/
def injExp (k : Nat) : Nat := if k = 0 then 0 else max 4 k

/-- INJ_RATE_INJECTION (R44): the generator reaches the next bit whose number is a multiple of 2^k and sends it inverted; a single
injection pending for it is consumed with it. -/
def injRate (h l : Nat) (s : State) : State :=
  if laneOk s h l && genRuns s h l && s.fon h l TST_PRBS_CTRL_INJ_RATE then
    let n := 2 ^ injExp (s.fget h l TST_PRBS_CTRL_INJ_RATE)
    genInject h l (n - (s.lane h l).genCount % n) (s.fput h l TST_PRBS_CTRL_INJ_ONE 0)
  else s

/-- LOOPBACK_CHANGE (R45): a write of TST_PRBS_CTRL that changes LOOPBACK. -/
def loopbackChange (h l : Nat) (value : Word) (s : State) : State :=
  if laneOk s h l then hostWrite BLK_TST laneOpen tstAct h l 0 value false s else s

end Sys2Proof.Machine
end

