-- ==== Sys2Proof/Machine/Gorge.lean ====
section
/-! DEFINITION. The Gorge page transport protocol (chapter 02): frames, sessions, sequencing and replay, credit, pages,
partner errors, disabling, the mirror session. -/

namespace Sys2Proof.Machine

/-! ### Frames (R49–R53) -/

def frType (f : List Byte) : Nat := byteAt f 0
def frFlags (f : List Byte) : Nat := byteAt f 1
def frLen (f : List Byte) : Nat := leAt f 2 2
def frEpoch (f : List Byte) : Nat := leAt f 4 2
def frVer (f : List Byte) : Nat := byteAt f 6
def frSeq (f : List Byte) : Nat := leAt f 8 4
/-- Type-specific word k. -/
def frW (f : List Byte) (k : Nat) : Nat := leAt f (12 + 4 * k) 4
/-- The body: bytes 32 to LEN−5. -/
def frBody (f : List Byte) : List Byte := slice f 32 (frLen f - 36)

/-- A frame with its header, body and CRC (R49, R50). -/
def mkFrame (type flags epoch lane seq w0 w1 w2 w3 w4 : Nat) (body : List Byte) : List Byte :=
  let pre := leBytes 1 type ++ leBytes 1 flags ++ leBytes 2 (36 + body.length) ++ leBytes 2 epoch ++ leBytes 1 1
    ++ leBytes 1 lane ++ leBytes 4 seq ++ leBytes 4 w0 ++ leBytes 4 w1 ++ leBytes 4 w2 ++ leBytes 4 w3 ++ leBytes 4 w4
    ++ body
  pre ++ leBytes 4 (crc32c pre)

/-- The length a type requires (R52). -/
def lenOk (f : List Byte) : Bool :=
  let n := frLen f
  decide (36 ≤ n) && decide (n ≤ 4132) &&
  match frType f with
  | 0x02 => n == 52
  | 0x04 => decide (37 ≤ n)
  | 0x05 => n == 44
  | 0x07 => n == 36 + 32 * (frW f 1 % 16)
  | 0x01 | 0x03 | 0x06 | 0x08 | 0x09 | 0x0A | 0x0B | 0x0C | 0x0D => n == 36
  | _ => true

/-- The frame is intact (R48). -/
def intact (f : List Byte) : Bool :=
  f.length == frLen f && lenOk f && crc32c (f.take (frLen f - 4)) == leAt f (frLen f - 4) 4

/-- Signed 32-bit and 16-bit differences (R56, R60). -/
def sdiff32 (a b : Nat) : Int := toS 32 (a + 2 ^ 32 - b % 2 ^ 32)
def sdiff16 (a b : Nat) : Int := toS 16 (a + 2 ^ 16 - b % 2 ^ 16)

/-- Sequenced types (R52); with FWD, which only a mirror session has, every type is sequenced (R51). -/
def isSequenced (i : Nat) (f : List Byte) : Bool :=
  (i == 1 && bit (frFlags f) 4) || frType f == 4 || frType f == 7 || frType f == 8 || frType f == 9
  || (frType f == 0x0C && !bit (frFlags f) 2)

/-! ### Instance state -/

def gorSess (s : State) (h i : Nat) : Nat := s.fget h i GOR_STATUS_SESS
/-- ROLE of an instance: instance 0 is always a receiver; 3 acts as 0 (R46). -/
def gorRole (s : State) (h i : Nat) : Nat :=
  if i = 0 then 2 else (let r := s.fget h 1 GOR_CTRL_ROLE; if r = 3 then 0 else r)
/-- The instance is a mirror sender. -/
def isSender (s : State) (h i : Nat) : Bool := i == 1 && gorRole s h i == 1
/-- The instance exists. -/
def gorOk (s : State) (h i : Nat) : Bool := s.hasH h && decide (i < 2)
def gorLive (s : State) (h i : Nat) : Bool := gorSess s h i == 3 || gorSess s h i == 4

def rcvNxt (s : State) (h i : Nat) : Nat := s.fget h i GOR_RCV_NXT
/-- The credit limit GOR_CREDIT shows: the one advertised, at a mirror sender the one granted. -/
def creditShown (s : State) (h i : Nat) : Nat :=
  if isSender s h i then s.get64 h i GOR_CREDIT_LO else (s.gor h i).advertised

def byteNxt (s : State) (h i : Nat) : Nat := s.get64 h i GOR_BYTE_LO
def creditLim (s : State) (h i : Nat) : Nat := s.get64 h i GOR_CREDIT_LO

/-- Logical lane for the next frame: the lane that is UP, alternating when both are (R82). -/
def txLane (s : State) (h i : Nat) : Nat :=
  if i = 1 then 1
  else if s.fon h 0 GOR_STATUS_BONDED then
    let l := s.fget h 0 GOR_STATUS_LANES
    if l = 2 then 1 else if l = 3 then b2n (s.gor h 0).txAlt else 0
  else 0

/-- Every lane of the session has left UP since it began: no frame passes (R82, R83). DEDUCED (log 160). -/
def laneLost (s : State) (h i : Nat) : Bool := (s.gor h i).hadLane && s.fget h i GOR_STATUS_LANES == 0

/-- Put a frame of the running session on its lane. -/
def gorEmit (h i : Nat) (f : List Byte) (s : State) : State := if laneLost s h i then s else s.emit (.gorge h i f)

/-- Send a frame. -/
def sendFrame (h i type flags seq w0 w1 w2 w3 w4 : Nat) (body : List Byte) (s : State) : State :=
  let f := mkFrame type flags (s.fget h i GOR_STATUS_EPOCH) (txLane s h i) seq w0 w1 w2 w3 w4 body
  let x := s.gor h i
  gorEmit h i f (s.setGor h i { x with txAlt := !x.txAlt })

/-- Send a frame that begins, repeats or refuses a session, on its lane. -/
def gorAnswer (h i : Nat) (f : List Byte) (s : State) : State :=
  (s.setGor h i { (s.gor h i) with txAlt := !(s.gor h i).txAlt }).emit (.gorge h i f)

/-- The limit most recently put into a frame that went out (R68, R69). -/
def advertise (h i lim : Nat) (s : State) : State :=
  if laneLost s h i then s else s.setGor h i { (s.gor h i) with advertised := max (s.gor h i).advertised lim }

/-- Pages of the instance's session in OPEN or LOADING. -/
def openPages (s : State) (h i : Nat) : List Page :=
  (heldPages s h).filter fun p => p.inst == i && (p.st == .opened || p.st == .loading)

/-- Show the number of open pages. -/
def openShow (h i : Nat) (s : State) : State := s.fput h i GOR_STATUS_OPEN_PAGES (openPages s h i).length

/-! ### Credit (R67–R69, R87) -/

def creditMax (s : State) (h i : Nat) : Nat := max 1 (s.fget h i GOR_CREDIT_CFG_MAX) * 2 ^ 20

/-- Mirror credit remaining while the mirror session is ACTIVE on its sender (R87): the limit granted less the bytes sent; DATA that
still waits to be forwarded is not counted. DESIGN CHOICE (log 167). -/
def mirrorRoom (s : State) (h : Nat) : Option Nat :=
  if isSender s h 1 && gorSess s h 1 == 3 then some (creditLim s h 1 - byteNxt s h 1) else none

/-- Recompute the credit limit of a receiver and whether the rewind mark holds it (R68). -/
def creditRefresh (h i : Nat) (s : State) : State :=
  if !gorLive s h i || isSender s h i then s
  else
    let free := basinFree s h
    let room := min free (creditMax s h i)
    let room := if i = 0 then (match mirrorRoom s h with
      | some m => min room m
      | none => room) else room
    let formula := byteNxt s h i + room
    let lim := max (creditLim s h i) formula
    let s := s.put64 h i GOR_CREDIT_LO lim
    let retiredMark := match heldPages s h with
      | [] => false
      | p :: _ => p.st == .retired
    let stall := !s.fon h 0 BAS_CTRL_POLICY && decide (free < creditMax s h i)
      && decide (formula ≤ (s.gor h i).advertised) && retiredMark
    let old := s.fon h i GOR_STATUS_CREDIT_STALL
    let s := s.fputB h i GOR_STATUS_CREDIT_STALL stall
    if stall && !old then s.raise h i GOR_EVENT_CREDIT_STALL else s

/-- The page at the mark while the mark holds credit, else all ones (R53). -/
def stallPage (s : State) (h i : Nat) : Nat :=
  if s.fon h i GOR_STATUS_CREDIT_STALL then s.fget h 0 BAS_MARK_PAGE else 0xFFFFFFFF

/-- Send a CREDIT frame (R69). -/
def sendCredit (h i : Nat) (s : State) : State :=
  let lim := creditLim s h i
  let s := sendFrame h i 3 0 0 (lim % 2 ^ 32) (lim / 2 ^ 32) (rcvNxt s h i) (stallPage s h i) 0 [] s
  advertise h i lim s

/-- SACK bits: bit i tells that RCV_NXT + 1 + i is staged (R62). -/
def sackBits (s : State) (h i : Nat) : Nat :=
  (List.range 64).foldl (fun acc k =>
    if (s.gor h i).staged.any fun e => e.1 == (rcvNxt s h i + 1 + k) % 2 ^ 32 then acc + 2 ^ k else acc) 0

/-- A staged frame lies beyond the 64 numbers that SACK can report. -/
def beyondSack (s : State) (h i : Nat) : Bool :=
  (s.gor h i).staged.any fun e => decide (64 < sdiff32 e.1 (rcvNxt s h i))

/-- Send an ACK (R62); it covers every frame received but those beyond its SACK bits. -/
def sendAck (h i : Nat) (s : State) : State :=
  let x := s.gor h i
  let lim := creditLim s h i
  let sk := sackBits s h i
  let s := sendFrame h i 5 0 0 (rcvNxt s h i) (sk % 2 ^ 32) (sk / 2 ^ 32) (lim % 2 ^ 32) (lim / 2 ^ 32)
    (leBytes 4 x.markCookie ++ leBytes 4 x.markSeq) s
  advertise h i lim (s.setGor h i { (s.gor h i) with unacked := 0, owed := beyondSack s h i })

/-- The number `k` after RCV_NXT is staged. -/
def isStaged (s : State) (h i k : Nat) : Bool := (s.gor h i).staged.any fun e => e.1 == (rcvNxt s h i + k) % 2 ^ 32

/-- Staged numbers from RCV_NXT up to the first missing one: a PAGE_OPEN that waits stands there (R96). -/
def stagedRun (s : State) (h i : Nat) : Nat := ((List.range 256).takeWhile (isStaged s h i)).length

/-- Numbers missing from the first missing one up to the next staged one and below RCV_NXT + `upto`, at most 64. -/
def missingCount (s : State) (h i upto : Nat) : Nat :=
  ((List.range 64).takeWhile fun k =>
    decide (stagedRun s h i + k < upto) && !isStaged s h i (stagedRun s h i + k)).length

/-- Frames staged beyond the gap. -/
def beyondGap (s : State) (h i : Nat) : Nat :=
  ((s.gor h i).staged.filter fun e => decide ((stagedRun s h i : Int) < sdiff32 e.1 (rcvNxt s h i))).length

/-- Send a NAK from the first missing number unless one for the same FIRST went out within 20 µs (R64). -/
def sendNak (h i upto : Nat) (s : State) : State :=
  let x := s.gor h i
  let first := (rcvNxt s h i + stagedRun s h i) % 2 ^ 32
  let recent := match x.nakAt with
    | some t => x.nakFirst == first && decide (s.now < t + 8000)
    | none => false
  if recent || missingCount s h i upto == 0 then s
  else
    let s := sendFrame h i 6 0 0 first (missingCount s h i upto) 1 0 0 [] s
    (s.setGor h i { (s.gor h i) with nakFirst := first, nakAt := some s.now }).count h i GOR_NAK_TX

/-! ### Errors (R74, R77–R79) -/

/-- Send an ERROR frame, at most one of each code per 100 µs (R79). -/
def sendError (h i code seq page detail : Nat) (s : State) : State :=
  let x := s.gor h i
  let recent := x.errSent.any fun e => e.1 == code && decide (s.now < e.2 + 40000)
  if recent then s
  else
    let s := sendFrame h i 0x0D 0 0 code seq page detail 0 [] s
    s.setGor h i { (s.gor h i) with errSent := (code, s.now) :: (s.gor h i).errSent.filter fun e => e.1 != code }

/-- A discard for this reason also sends one ERROR (R77). -/
def reasonSent (code : Nat) : Bool :=
  [0x06, 0x09, 0x0C, 0x0D, 0x0E, 0x0F, 0x12, 0x17].contains code

/-! ### The mirror sender (R60, R65, R84, R85) -/

/-- Send one forwarded frame: numbered, marked FWD, in the mirror session's epoch. -/
def mirrorSendOne (h : Nat) (f : List Byte) (s : State) : State :=
  let x := s.gor h 1
  let g := mkFrame (frType f) (frFlags f ||| 0x10) (s.fget h 1 GOR_STATUS_EPOCH) (byteAt f 7) x.sndNxt
    (frW f 0) (frW f 1) (frW f 2) (frW f 3) (frW f 4) (frBody f)
  let n := if frType f = 4 then (frBody f).length else 0
  let s := s.setGor h 1 { x with sndNxt := (x.sndNxt + 1) % 2 ^ 32, held := x.held ++ [{ seq := x.sndNxt, bytes := g, sentAt := s.now }] }
  gorEmit h 1 g (s.put64 h 1 GOR_BYTE_LO (byteNxt s h 1 + n))

/-- The window and the credit admit the frame (R60, R67). -/
def mirrorAdmits (s : State) (h : Nat) (f : List Byte) : Bool :=
  let x := s.gor h 1
  let n := if frType f = 4 then (frBody f).length else 0
  decide ((x.sndNxt + 2 ^ 32 - rcvNxt s h 1) % 2 ^ 32 < 256) && decide (byteNxt s h 1 + n ≤ creditLim s h 1)

/-- Send waiting forwarded frames for as long as they are admitted. -/
def mirrorFlush (h : Nat) : Nat → State → State
  | 0, s => s
  | n + 1, s =>
    match (s.gor h 1).backlog with
    | [] => s
    | f :: rest =>
      if mirrorAdmits s h f then
        mirrorFlush h n (mirrorSendOne h f (s.setGor h 1 { (s.gor h 1) with backlog := rest }))
      else s

/-- Forward a frame that instance 0 processed or decided, while the mirror session is ACTIVE (R85). -/
def mirrorForward (h : Nat) (f : List Byte) (s : State) : State :=
  if isSender s h 1 && gorSess s h 1 == 3 then
    let s := s.setGor h 1 { (s.gor h 1) with backlog := (s.gor h 1).backlog ++ [f] }
    mirrorFlush h (s.gor h 1).backlog.length s
  else s

/-- Forward an ERROR for a discard or a session end that instance 0 decided for a local reason (R85). -/
def mirrorError (h code page : Nat) (s : State) : State :=
  if [0x10, 0x12, 0x13, 0x14, 0x16].contains code then
    mirrorForward h (mkFrame 0x0D 0 (s.fget h 0 GOR_STATUS_EPOCH) 0 0 code 0 page 0 0 []) s
  else s

/-! ### Discards and session ends (R55, R74, R81) -/

/-- A mirror sender's HELLO: MIRROR set, ISN its own GOR_RCV_NXT, an epoch ahead of the last (R84). Its SENDER_ID is left
open. DESIGN CHOICE (log 34). -/
def mirrorHello (h : Nat) (s : State) : State :=
  let x := s.gor h 1
  let e := (x.mirrorEpoch + 1) % 65536
  let (lo, s) := s.free 32
  let (hi, s) := s.free 32
  let f := mkFrame 1 8 e 1 0 (rcvNxt s h 1) lo hi (255 * 256) 4096 []
  ((s.setGor h 1 { x with mirrorEpoch := e, hello := f }).fput h 1 GOR_STATUS_EPOCH e).emit (.gorge h 1 f)

/-- Enter the state in which an instance waits for a session: a mirror sender in CONNECTING, with a HELLO of a new epoch (R57, R84),
a receiver in LISTEN. -/
def gorAwait (h i : Nat) (s : State) : State :=
  if isSender s h i then mirrorHello h (s.fput h i GOR_STATUS_SESS 2) else s.fput h i GOR_STATUS_SESS 1

/-- Discard a page that the instance's session opened (R74); an ERROR sent for it names the frame `seq` (R52). -/
def pageDiscardAt (h i pg code seq : Nat) (s : State) : State :=
  let s := removePage h pg true s
  let s := ((s.fput h i GOR_DISCARD pg).fput h i GOR_DISCARD_WHY_V code).raise h i GOR_EVENT_PAGE_DISCARD
  let x := s.gor h i
  let s := s.setGor h i { x with gone := pg :: x.gone, drainLost := x.drainLost || gorSess s h i == 4 }
  let s := if reasonSent code && !isSender s h i then sendError h i code seq pg 0 s else s
  let s := if i = 0 then mirrorError h code pg s else s
  creditRefresh h i (openShow h i s)

/-- Discard a page for a reason that no received frame brought (R74). -/
def pageDiscard (h i pg code : Nat) (s : State) : State := pageDiscardAt h i pg code 0 s

/-- Discard every open page of the session. -/
def discardAll (h i code : Nat) (s : State) : State :=
  forEach (openPages s h i) (fun p s => pageDiscard h i p.id code s) s

/-- A BYE that ends a drain (R81): a mirror sender's is sequenced, numbered and held like every sequenced frame (R52, R60). -/
def sendBye (h i reason : Nat) (s : State) : State :=
  if isSender s h i then
    let x := s.gor h i
    let f := mkFrame 0x0C 0 (s.fget h i GOR_STATUS_EPOCH) 1 x.sndNxt reason 0 0 0 0 []
    gorEmit h i f (s.setGor h i { x with sndNxt := (x.sndNxt + 1) % 2 ^ 32, held := x.held ++ [{ seq := x.sndNxt, bytes := f, sentAt := s.now }] })
  else sendFrame h i 0x0C 0 0 reason 0 0 0 0 [] s

/-- A BYE with ABORT and its REASON, sent to a partner with which a session exists. -/
def sendByeAbort (h i reason : Nat) (s : State) : State := sendFrame h i 0x0C 4 0 reason 0 0 0 0 [] s

/-- The session's records start afresh. -/
def gorClear (x : GorX) : GorX :=
  { x with staged := [], unacked := 0, owed := false, heardAt := none, nakAt := none, markCookie := 0, markSeq := 0, gone := [], highest := 0,
           rewinds := [], rewindEnds := x.rewindEnds ++ x.rewinds.map (fun r => (r.req, 4)), openWait := false, lossFirst := none, hadLane := false, helloAck := [], held := [], backlog := [],
           doublings := 0, fwdUp := false, fwdByte := 0 }

/-- The wait of a PAGE_OPEN ends. -/
def openWaitShow (h : Nat) (s : State) : State :=
  basRefresh h (s.fputB h 0 BAS_STATUS_OPEN_WAIT ((s.gor h 0).openWait || (s.gor h 1).openWait))

/-- Enter the state after a session: OFF when draining (with its result), CONNECTING with a new HELLO for a mirror sender, else
LISTEN. -/
def afterSession (h i : Nat) (s : State) : State :=
  let x := s.gor h i
  let s1 := ((s.fput h i GOR_STATUS_BONDED 0).fput h i GOR_STATUS_LANES 0).fput h i GOR_STATUS_CREDIT_STALL 0
  if gorSess s h i = 4 then
    let s1 := (s1.fput h i GOR_STATUS_SESS 0).fput h i GOR_DRAIN_RESULT (if x.drainLost then 4 else 3)
    let s1 := (s1.setGor h i { (gorClear x) with drainLost := false, enAgain := false }).raise h i GOR_EVENT_DRAIN_DONE
    if x.enAgain then gorAwait h i (s1.fput h i GOR_CTRL_EN 1) else s1
  else gorAwait h i (s1.setGor h i (gorClear x))

/-- End the session for a reason: open pages are discarded, staging is emptied, SESSION_END is set (R55). -/
def sessionEnd (h i code : Nat) (s : State) : State :=
  if !gorLive s h i then s
  else
    let s := discardAll h i code s
    let s := if i = 0 then mirrorError h code 0xFFFFFFFF s else s
    let s := s.raise h i GOR_EVENT_SESSION_END
    openWaitShow h (openShow h i (afterSession h i s))

/-- A drain with no page left open ends with BYE REASON 0, for no reason that the mirror hears of (R81, R85). -/
def drainCheck (h i : Nat) (s : State) : State :=
  if gorSess s h i == 4 && (openPages s h i).isEmpty then sessionEnd h i 0 (sendBye h i 0 s) else s

/-- Count a protocol error; too many within 10 ms end the session (R79). -/
def protoError (h i : Nat) (s : State) : State :=
  let s := (s.count h i GOR_PROTO_ERR).raise h i GOR_EVENT_PROTO_ERR
  let x := s.gor h i
  let ts := s.now :: x.errTimes.filter fun t => decide (s.now < t + 4000000)
  let s := s.setGor h i { x with errTimes := ts }
  let lim := s.fget h i GOR_CTRL_ERR_LIMIT
  if lim ≠ 0 && decide (lim < ts.length) && gorLive s h i then
    (sessionEnd h i 0x14 (sendByeAbort h i 0x14 (s.setGor h i { x with errTimes := [] }))).raise h i GOR_EVENT_ERR_LIMIT
  else s

/-! ### Pages (R70–R73) -/

/-- The layer entries of a PAGE_OPEN body (R54). -/
def layerEntries (f : List Byte) : List Slot :=
  (List.range (frW f 1 % 16)).map fun k =>
    let b := 32 + 32 * k
    { terrace := byteAt f b, lcrcValid := bit (byteAt f (b + 1)) 0, lcrc := leAt f (b + 4) 4,
      clen := leAt f (b + 8) 8, ulen := leAt f (b + 16) 8 }

/-- No two entries name the same terrace. -/
def terracesDistinct : List Slot → Bool
  | [] => true
  | x :: xs => xs.all (fun y => y.terrace != x.terrace) && terracesDistinct xs

/-- The refusal of a PAGE_OPEN, if any (R70). A forwarded one is judged by the MAX_OPEN of the instance that applies it.
DESIGN CHOICE (log 168). -/
def openRefusal (s : State) (h i : Nat) (f : List Byte) : Option Nat :=
  let pg := frW f 0
  let n := frW f 1 % 16
  let sl := layerEntries f
  let m := s.fget h i GOR_CTRL_MAX_OPEN
  let maxOpen := if m = 0 then 1 else if 8 < m then 8 else m
  if gorSess s h i = 4 then some 0x0B
  else if pg = 0xFFFFFFFF ∨ (findPage s h pg).isSome then some 0x08
  else if n = 0 ∨ 8 < n ∨ !terracesDistinct sl ∨ sl.any (fun x => x.clen == 0 || decide (2 ^ 48 ≤ x.clen) || x.ulen == 0
      || decide (7 < x.terrace)) ∨ frW f 2 = 0 then some 0x09
  else if maxOpen ≤ (openPages s h i).length then some 0x0A
  else none

/-- A PAGE_OPEN for a page in its range ends a rewind request (R76). -/
def rewindMet (h i pg : Nat) (s : State) : State :=
  let x := s.gor h i
  s.setGor h i { x with
    rewinds := x.rewinds.filter fun r => !r.names pg
    rewindEnds := x.rewindEnds ++ (x.rewinds.filter fun r => r.names pg).map fun r => (r.req, 0) }

/-- Process a PAGE_OPEN; `none` where it has to wait for Basin space (R70, R96). `fwd`: applied from the mirror stream, where a
refusal sends and counts nothing. DESIGN CHOICE (log 168). -/
def processOpen (h i : Nat) (fwd : Bool) (f : List Byte) (s : State) : Option State :=
  let pg := frW f 0
  match openRefusal s h i f with
  | some code =>
    let s := rewindMet h i pg (s.setGor h i { (s.gor h i) with gone := pg :: (s.gor h i).gone, lossFirst := none })
    some (if fwd then s else protoError h i (sendError h i code (frSeq f) pg 0 s))
  | none =>
    let sl := layerEntries f
    let s := makeRoom h i (reservation sl) s
    if reservable s h (reservation sl) then
      let s := enterPage h { id := pg, inst := i, lines := frW f 2, slots := sl } s
      let s := s.setGor h i { (s.gor h i) with gone := (s.gor h i).gone.filter (fun g => g != pg), lossFirst := none }
      some (openShow h i (rewindMet h i pg s))
    else none

/-- Process a DATA frame for its page (R71, R73, R74); the byte position has been checked. -/
def processData (h i : Nat) (f : List Byte) (s : State) : State :=
  let pg := frW f 0
  let body := frBody f
  let lofs := frW f 1 + 2 ^ 32 * (frW f 2 % 65536)
  let sn := frW f 2 / 65536 % 256
  match (openPages s h i).find? fun p => p.id == pg with
  | none =>
    let s' := s.count h i GOR_DROP
    if (s.gor h i).gone.contains pg then s' else sendError h i 0x07 (frSeq f) pg 0 s'
  | some p =>
    let sl := p.slots.getD sn {}
    if p.slots.length ≤ sn ∨ lofs ≠ sl.landed then pageDiscardAt h i pg 0x0F (frSeq f) s
    else if sl.clen < lofs + body.length then pageDiscardAt h i pg 0x0C (frSeq f) s
    else
      let s := landBytes h (sl.start + lofs) body s
      basRefresh h (mapPage h pg (fun q => { q with
        st := .loading
        slots := q.slots.set sn { sl with landed := lofs + body.length } }) s)

/-- The first failing check of a PAGE_CLOSE (R73). -/
def closeFault (s : State) (h : Nat) (p : Page) (f : List Byte) : Option Nat :=
  if frW f 1 % 16 ≠ p.slots.length then some 0x09
  else if p.slots.any fun x => x.landed != x.clen then some 0x0D
  else if p.slots.any fun x => x.lcrcValid && crc32c (slotBytes s h x) != x.lcrc then some 0x0E
  else none

/-- Process a PAGE_CLOSE (R73). -/
def processClose (h i : Nat) (f : List Byte) (s : State) : State :=
  let pg := frW f 0
  match (openPages s h i).find? fun p => p.id == pg with
  | none =>
    let s' := s.count h i GOR_DROP
    if (s.gor h i).gone.contains pg then s' else sendError h i 0x07 (frSeq f) pg 0 s'
  | some p =>
    match closeFault s h p f with
    | some code => pageDiscardAt h i pg code (frSeq f) s
    | none =>
      let x := s.bas h
      let s := s.setBas h { x with nextCompl := x.nextCompl + 1, lastComplete := pg }
      let s := mapPage h pg (fun q => { q with st := .complete, complSeq := x.nextCompl }) s
      let s := (s.fput h i GOR_PAGE_LAST pg).raise h i GOR_EVENT_PAGE_COMPLETE
      openShow h i (basRefresh h s)

/-- Process a MARK (R75). -/
def processMark (h i : Nat) (f : List Byte) (s : State) : State :=
  let s := (s.fput h i GOR_MARK (frW f 0)).raise h i GOR_EVENT_MARK
  s.setGor h i { (s.gor h i) with markCookie := frW f 0, markSeq := frSeq f }

/-- BYTE_POS of a DATA frame. -/
def frBytePos (f : List Byte) : Nat := frW f 3 + 2 ^ 32 * frW f 4

/-- A sequenced BYE of the sender (R80): SENDER_BYE discards, an answer, the end of the session. -/
def processBye (h i : Nat) (f : List Byte) (s : State) : State :=
  let s := discardAll h i 0x17 s
  sessionEnd h i 0x17 (sendFrame h i 0x0C 0 0 0 (frSeq f) 0 0 0 [] s)

/-- Process one sequenced frame of a page session; `none` where it has to wait. -/
def processPage (h i : Nat) (f : List Byte) (s : State) : Option State :=
  match frType f with
  | 4 =>
    if frBytePos f ≠ byteNxt s h i then
      let s := protoError h i (sendError h i 0x06 (frSeq f) (frW f 0) 0 s)
      some (sessionEnd h i 0x06 (if gorLive s h i then sendByeAbort h i 0x06 s else s))
    else some (processData h i f (s.put64 h i GOR_BYTE_LO (byteNxt s h i + (frBody f).length)))
  | 7 => processOpen h i false f s
  | 8 => some (processClose h i f s)
  | 9 => some (processMark h i f s)
  | 0x0C => some (processBye h i f s)
  | _ => some s

/-- Session-ending codes that a forwarded ERROR carries (R85, R86). -/
def endingCode (c : Nat) : Bool := [0x10, 0x13, 0x14, 0x16].contains c

/-- Apply a forwarded frame on the mirror receiver (R86); `none` where it has to wait. The mirror session's own byte
count takes the payload; BYTE_POS is checked against the forwarded page session. A forwarded HELLO's original epoch stands in no
byte of it (R85): a free value. DESIGN CHOICE (log 38). -/
def processFwd (h : Nat) (f : List Byte) (s : State) : Option State :=
  let x := s.gor h 1
  match frType f with
  | 1 =>
    let (e, s) := (discardAll h 1 0x11 s).free 16
    some (s.setGor h 1 { (s.gor h 1) with fwdUp := true, fwdByte := 0, fwdEpoch := e, gone := [] })
  | 4 =>
    let n := (frBody f).length
    let s := s.put64 h 1 GOR_BYTE_LO (byteNxt s h 1 + n)
    if !x.fwdUp then some s
    else if frBytePos f ≠ x.fwdByte then
      let s := discardAll h 1 0x06 s
      some (s.setGor h 1 { (s.gor h 1) with fwdUp := false })
    else some (processData h 1 f (s.setGor h 1 { (s.gor h 1) with fwdByte := x.fwdByte + n }))
  | 7 => if x.fwdUp then processOpen h 1 true f s else some s
  | 8 => some (if x.fwdUp then processClose h 1 f s else s)
  | 9 => some (processMark h 1 f s)
  | 0x0C =>
    let s := discardAll h 1 0x17 s
    some (s.setGor h 1 { (s.gor h 1) with fwdUp := false })
  | 0x0D =>
    let pg := frW f 2
    if endingCode (frW f 0) then
      let s := discardAll h 1 (frW f 0) s
      some (s.setGor h 1 { (s.gor h 1) with fwdUp := false })
    else some (if (openPages s h 1).any (fun p => p.id == pg) then pageDiscard h 1 pg (frW f 0) s else s)
  | _ => some s

/-- Process the frame at RCV_NXT (R61): page session or mirror stream. -/
def processFrame (h i : Nat) (f : List Byte) (s : State) : Option State :=
  if i = 1 then
    if bit (frFlags f) 4 then processFwd h f s
    else if frType f = 0x0C then some (processBye h i f s)
    else some s
  else processPage h i f s

/-- An ACK is due at once after this frame (R62). -/
def ackAtOnce (f : List Byte) : Bool := frType f == 8 || frType f == 9 || bit (frFlags f) 1

/-- ACK_COALESCE in effect (R62). -/
def ackEvery (s : State) (h i : Nat) : Nat := clampN 1 64 (s.fget h i GOR_TIMING_ACK_COALESCE)

/-- DRAM address of the staging slot of a sequence number: 256 slots of 4,160 bytes per instance at the start of the Basin (R61,
R90). DEDUCED (log 36). -/
def stagingSlot (s : State) (h i q : Nat) : Nat := ringBase s h + 1064960 * i + 4160 * (q % 256)

/-- A frame ahead of the next number goes into its staging slot, where the Basin is in use (R61). -/
def stageFrame (h i q : Nat) (f : List Byte) (s : State) : State :=
  if basActive s h then s.dwrites h (stagingSlot s h i q) f else s

/-- Process staged frames in order while the next one is there (R61). Each ACK that R62 asks for goes out at once, with the RCV_NXT
after the frame. A staged frame that finds a PAGE_OPEN still waiting sets OPEN_WAIT again. DEDUCED (log 36). -/
def processStaged (h i : Nat) : Nat → State → State
  | 0, s => s
  | n + 1, s =>
    if !gorLive s h i then s
    else
      match (s.gor h i).staged.find? fun e => e.1 == rcvNxt s h i with
      | none => s
      | some (q, f) =>
        match processFrame h i f s with
        | none =>
          let s := (s.setGor h i { (s.gor h i) with openWait := true }).raise h 0 BAS_EVENT_OPEN_WAIT
          openWaitShow h s
        | some s1 =>
          let s1 := (if i = 0 then mirrorForward h f s1 else s1).fput h i GOR_RCV_NXT (q + 1)
          if !gorLive s1 h i then s1
          else
            let x := s1.gor h i
            let s2 := s1.setGor h i { x with staged := x.staged.filter (fun e => e.1 != q), unacked := x.unacked + 1, openWait := false }
            let s2 := creditRefresh h i (if x.openWait then openWaitShow h s2 else s2)
            let s2 := if ackAtOnce f || decide (ackEvery s2 h i ≤ (s2.gor h i).unacked) then sendAck h i s2 else s2
            processStaged h i n (drainCheck h i s2)

/-- Payload bytes staged and not yet processed (mirror byte count, R86). -/
def stagedPayload (x : GorX) : Nat := (x.staged.map fun e => if frType e.2 = 4 then (frBody e.2).length else 0).sum

/-- A DATA frame goes beyond the credit limit (R61, R86). -/
def beyondCredit (s : State) (h i : Nat) (f : List Byte) : Bool :=
  frType f == 4 &&
  (if i = 1 then decide (creditLim s h i < byteNxt s h i + stagedPayload (s.gor h i) + (frBody f).length)
   else decide (creditLim s h i < frBytePos f + (frBody f).length))

/-- SEQUENCED_FRAME_RECEIVED (R61): window, duplicate and credit tests, staging, processing in order, ACKs, NAK. DEDUCED (log 36). -/
def takeSequenced (h i : Nat) (f : List Byte) (s : State) : State :=
  let s := creditRefresh h i s
  let q := frSeq f
  let d := sdiff32 q (rcvNxt s h i)
  let x := s.gor h i
  if d < 0 ∨ x.staged.any (fun e => e.1 == q) then sendAck h i (s.count h i GOR_DUP)
  else if 255 < d then sendAck h i (s.count h i GOR_OOW)
  else if beyondCredit s h i f then
    protoError h i (sendError h i 0x05 q (frW f 0) 0 (s.count h i GOR_CREDIT_OVR))
  else
    let gap := x.staged.any fun e => e.1 != rcvNxt s h i
    let hi := if sdiff32 (q + 1) x.highest > 0 ∨ (x.highest = 0 ∧ x.staged.isEmpty) then (q + 1) % 2 ^ 32 else x.highest
    let s1 := s.setGor h i { x with staged := x.staged ++ [(q, f)], highest := hi, owed := true }
    let s2 := processStaged h i (x.staged.length + 1) (if 0 < d then stageFrame h i q f s1 else s1)
    if !gorLive s2 h i then s2
    else
      let s3 := if (0 < d ∧ !gap) ∨ (d = 0 ∧ gap ∧ 0 < (s2.gor h i).unacked) then sendAck h i s2 else s2
      if 0 < d ∧ 3 ≤ beyondGap s3 h i then sendNak h i 256 s3 else s3

/-! ### Reception: which rule takes a frame (R56, R58, R78) -/

/-- What an intact frame is to an instance. -/
inductive FrameClass where
  | ignored | badVersion | badType | noSession | stale
  | hello | helloAck | seq | ack | nak | credit | keepalive | byeAbort | error
deriving DecidableEq, Repr

/-- A receiver takes this type from its sender (R52). -/
def fromSender (t : Nat) : Bool := [1, 4, 7, 8, 9, 0x0B, 0x0C, 0x0D].contains t
/-- A sender takes this type from its receiver. -/
def fromReceiver (t : Nat) : Bool := [2, 3, 5, 6, 0x0A, 0x0B, 0x0C, 0x0D].contains t

/-- The class of a frame (R78). A HELLO is judged by MIRROR and the role before its version (R56). A mirror sender in CONNECTING
answers as LISTEN does, and a BYE from its receiver, with ABORT or without, ends its session. DESIGN CHOICE (log 169). -/
def classify (s : State) (h i : Nat) (f : List Byte) : FrameClass :=
  let t := frType f
  let fwd := bit (frFlags f) 4 && i == 1
  if gorSess s h i = 0 ∨ (i = 1 ∧ gorRole s h i = 0) then .ignored
  else if t = 1 ∧ !fwd then
    if isSender s h i || bit (frFlags f) 3 != (i == 1) then .badType else .hello
  else if frVer f ≠ 1 then .badVersion
  else if isSender s h i then
    if !fromReceiver t then .badType
    else if t = 2 then .helloAck
    else if gorSess s h i = 2 then .noSession
    else if sdiff16 (frEpoch f) (s.fget h i GOR_STATUS_EPOCH) < 0 then .stale
    else if 0 < sdiff16 (frEpoch f) (s.fget h i GOR_STATUS_EPOCH) then .noSession
    else match t with
      | 3 => .credit
      | 5 => .ack
      | 6 => .nak
      | 0x0C => .byeAbort
      | 0x0D => .error
      | _ => .keepalive
  else if !(fromSender t || (fwd && decide (t ≤ 0x0D) && t != 0)) then .badType
  else if gorSess s h i = 1 then .noSession
  else if sdiff16 (frEpoch f) (s.fget h i GOR_STATUS_EPOCH) < 0 then .stale
  else if 0 < sdiff16 (frEpoch f) (s.fget h i GOR_STATUS_EPOCH) then .noSession
  else if isSequenced i f then .seq
  else match t with
    | 0x0C => .byeAbort
    | 0x0D => .error
    | _ => .keepalive

/-- An intact frame has come: it is counted, and one of the current epoch restarts the dead timer (R59). -/
def frameCame (h i : Nat) (f : List Byte) (s : State) : State :=
  let s := s.count h i GOR_RX_FRAMES
  if frEpoch f = s.fget h i GOR_STATUS_EPOCH then s.setGor h i { (s.gor h i) with heardAt := some s.now } else s

/-- Take an intact frame of the class `c` by `k`; a frame that is not intact is discarded and counted (R48). -/
def onFrame (h i : Nat) (f : List Byte) (c : FrameClass) (k : State → State) (s : State) : State :=
  if !gorOk s h i || gorSess s h i == 0 then s
  else if !intact f then s.count h i GOR_BAD_FRAME
  else if classify s h i f == c then k (frameCame h i f s) else s

/-- GORGE_BAD_FRAME (R48). -/
def badFrame (h i : Nat) (f : List Byte) (errored truncated : Bool) (s : State) : State :=
  if gorOk s h i && gorSess s h i != 0 && (errored || truncated || !intact f) then s.count h i GOR_BAD_FRAME else s

/-! ### HELLO (R53, R56, R84) -/

/-- Send a HELLO_ACK answering a HELLO: its epoch, its ISN, a status. DESIGN CHOICE (log 35). -/
def helloAckFrame (s : State) (h i : Nat) (f : List Byte) (status : Nat) (bonded : Bool) (credit : Nat) : List Byte :=
  mkFrame 2 0 (frEpoch f) (txLane s h i) 0 (frW f 0) (s.bas h).lastComplete status (b2n bonded + 255 * 256)
    (h + 16 * i + 256 * s.nH + 4096 * 3) (leBytes 8 credit ++ leBytes 4 (frW f 1) ++ leBytes 4 (frW f 2))

/-- Begin a session from an accepted HELLO (R55, R58, R68). DESIGN CHOICE (log 40). -/
def sessionStart (h i : Nat) (f : List Byte) (s : State) : State :=
  let bonded := i == 0 && bondOn s h && bit (frW f 3) 0
  let s := s.setGor h i { (gorClear (s.gor h i)) with advertised := 0 }
  let s := ((s.fput h i GOR_STATUS_SESS 3).fput h i GOR_STATUS_EPOCH (frEpoch f)).fputB h i GOR_STATUS_BONDED bonded
  let s := s.fput h i GOR_STATUS_LANES (sessionLanes s h i)
  let s := s.setGor h i { (s.gor h i) with hadLane := sessionLanes s h i != 0, heardAt := some s.now }
  let s := (s.fput h i GOR_PEER_LO (frW f 1)).fput h i GOR_PEER_HI (frW f 2)
  let s := ((s.fput h i GOR_RCV_NXT (frW f 0)).put64 h i GOR_BYTE_LO 0).put64 h i GOR_CREDIT_LO 0
  let s := creditRefresh h i (openShow h i (s.setGor h i { (s.gor h i) with highest := frW f 0 }))
  let a := helloAckFrame s h i f 0 bonded (creditLim s h i)
  let s := gorAnswer h i a (s.setGor h i { (s.gor h i) with helloAck := a, advertised := creditLim s h i })
  let s := s.raise h i GOR_EVENT_SESSION_UP
  if i = 0 then mirrorForward h f s else s

/-- The sender lock refuses the HELLO's sender (R56). -/
def lockRefuses (s : State) (h i : Nat) (f : List Byte) : Bool :=
  s.fon h i GOR_CTRL_SENDER_LOCK && (frW f 1 != s.fget h i GOR_LOCK_LO || frW f 2 != s.fget h i GOR_LOCK_HI)

/-- A receiver handles a HELLO (R56). -/
def takeHello (h i : Nat) (f : List Byte) (s : State) : State :=
  let refuse (st : Nat) (s : State) : State := gorAnswer h i (helloAckFrame s h i f st false 0) s
  let same := frW f 1 == s.fget h i GOR_PEER_LO && frW f 2 == s.fget h i GOR_PEER_HI
  let d := sdiff16 (frEpoch f) (s.fget h i GOR_STATUS_EPOCH)
  match gorSess s h i with
  | 1 =>
    if frVer f ≠ 1 then refuse 3 s
    else if lockRefuses s h i f then refuse 1 s
    else sessionStart h i f s
  | 3 =>
    if !same then refuse 1 s
    else if d = 0 then gorAnswer h i (s.gor h i).helloAck s
    else if 0 < d then
      sessionStart h i f ((sessionEnd h i 0x11 s).raise h i GOR_EVENT_EPOCH_CHANGE)
    else sendError h i 0x01 0 0xFFFFFFFF 0 (s.count h i GOR_STALE)
  | 4 => refuse 2 s
  | _ => s

/-- HELLO_ACK with STATUS 0 at a mirror sender in CONNECTING enters ACTIVE (R55). -/
def takeHelloAck (h i : Nat) (f : List Byte) (s : State) : State :=
  if gorSess s h i = 2 ∧ frW f 2 = 0 ∧ frEpoch f = s.fget h i GOR_STATUS_EPOCH then
    let x := s.gor h i
    let isn := frW x.hello 0
    let s := s.setGor h i { (gorClear x) with sndNxt := isn, hadLane := sessionLanes s h i != 0 }
    let s := ((s.fput h i GOR_STATUS_SESS 3).fput h i GOR_RCV_NXT isn).fput h i GOR_STATUS_LANES (sessionLanes s h i)
    let s := (s.put64 h i GOR_BYTE_LO 0).put64 h i GOR_CREDIT_LO (leAt f 32 8)
    s.raise h i GOR_EVENT_SESSION_UP
  else s

/-- HELLO_RESEND (R57): every 1 ms in CONNECTING, EPOCH and ISN unchanged. -/
def helloResend (h : Nat) (s : State) : State :=
  if s.hasH h && isSender s h 1 && gorSess s h 1 == 2 then s.emit (.gorge h 1 (s.gor h 1).hello) else s

/-! ### The mirror sender's reception (R65, R67) -/

/-- The sender takes a higher credit limit (R67). -/
def takeLimit (h i lim : Nat) (s : State) : State := s.put64 h i GOR_CREDIT_LO (max (creditLim s h i) lim)

/-- ACK_RECEIVED: SND_UNA advances, acknowledged frames are released and SACKed ones marked, the credit is taken. -/
def takeAck (h i : Nat) (f : List Byte) (s : State) : State :=
  let nxt := frW f 0
  let sack := frW f 1 + 2 ^ 32 * frW f 2
  let s := takeLimit h i (frW f 3 + 2 ^ 32 * frW f 4) s
  let x := s.gor h i
  let adv := decide (0 < sdiff32 nxt (rcvNxt s h i))
  let una := if adv then nxt else rcvNxt s h i
  let held := (x.held.filter fun e => decide (0 ≤ sdiff32 e.seq una)).map fun e =>
    let k := (e.seq + 2 ^ 32 - (nxt + 1) % 2 ^ 32) % 2 ^ 32
    { e with sacked := e.sacked || (decide (k < 64) && bit sack k) }
  let s := (s.setGor h i { x with held := held, doublings := if adv then 0 else x.doublings }).fput h i GOR_RCV_NXT una
  let s := mirrorFlush h (s.gor h i).backlog.length s
  creditRefresh h 0 (releaseHeld h s)

/-- Resend a held frame: RETX set, all else as sent (R65). -/
def resend (h : Nat) (e : SentFrame) (s : State) : State :=
  let g := mkFrame (frType e.bytes) (frFlags e.bytes ||| 1) (frEpoch e.bytes) (byteAt e.bytes 7) e.seq
    (frW e.bytes 0) (frW e.bytes 1) (frW e.bytes 2) (frW e.bytes 3) (frW e.bytes 4) (frBody e.bytes)
  let x := s.gor h 1
  (gorEmit h 1 g (s.setGor h 1 { x with
    held := x.held.map fun y => if y.seq == e.seq then { y with sentAt := s.now } else y })).count h 1 GOR_NAK_TX

/-- NAK_RECEIVED: resend each named frame that no SACK covers and that was not sent within the last 5 µs. -/
def takeNak (h i : Nat) (f : List Byte) (s : State) : State :=
  let first := frW f 0
  let n := min 64 (frW f 1)
  forEach ((s.gor h i).held.filter fun e =>
      !e.sacked && decide ((e.seq + 2 ^ 32 - first) % 2 ^ 32 < n) && decide (e.sentAt + 2000 ≤ s.now))
    (fun e s => resend h e s) s

/-- CREDIT_RECEIVED (R67). -/
def takeCredit (h i : Nat) (f : List Byte) (s : State) : State :=
  let s := takeLimit h i (frW f 0 + 2 ^ 32 * frW f 1) s
  creditRefresh h 0 (mirrorFlush h (s.gor h i).backlog.length s)

/-- KEEPALIVE_RECEIVED: at a receiver, a SND_NXT ahead of everything received shows lost tail frames (R64). -/
def takeKeepalive (h i : Nat) (f : List Byte) (s : State) : State :=
  if isSender s h i then s
  else if 0 < sdiff32 (frW f 0) (s.gor h i).highest then
    sendNak h i ((frW f 0 + 2 ^ 32 - rcvNxt s h i) % 2 ^ 32) s
  else s

/-- BYE_ABORT_RECEIVED (R80): the session ends on receipt; open pages are discarded with SENDER_BYE. -/
def takeByeAbort (h i : Nat) (_f : List Byte) (s : State) : State := sessionEnd h i 0x17 s

/-- A rewind request ends with a status (R76, R310). -/
def rewindEnd (h i req st : Nat) (s : State) : State :=
  let x := s.gor h i
  if x.rewinds.any fun r => r.req == req then
    s.setGor h i { x with rewinds := x.rewinds.filter (fun r => r.req != req), rewindEnds := x.rewindEnds ++ [(req, st)] }
  else s

/-- ERROR_FRAME_RECEIVED (R76): REWIND_DECLINED ends the matching request. -/
def takeError (h i : Nat) (f : List Byte) (s : State) : State :=
  if frW f 0 = 0x15 then rewindEnd h i (frW f 3) 0x15 s else s

/-- GORGE_PROTOCOL_ERROR (R78): a frame with a wrong version, type or epoch. -/
def protocolFault (h i : Nat) (f : List Byte) (s : State) : State :=
  if !gorOk s h i || gorSess s h i == 0 then s
  else if !intact f then s.count h i GOR_BAD_FRAME
  else
    let s1 := s.count h i GOR_RX_FRAMES
    match classify s h i f with
    | .badVersion => protoError h i (sendError h i 0x03 (frSeq f) 0xFFFFFFFF 0 s1)
    | .badType => protoError h i (sendError h i 0x04 (frSeq f) 0xFFFFFFFF 0 s1)
    | .noSession => protoError h i (sendError h i 0x02 (frSeq f) 0xFFFFFFFF 0 s1)
    | .stale => sendError h i 0x01 (frSeq f) 0xFFFFFFFF 0 (s1.count h i GOR_STALE)
    | _ => s

/-! ### Timers (R59, R62, R65, R69, R76, R81) -/

/-- ACK_DELAY_EXPIRY (R62): a frame that no ACK has covered waits. DESIGN CHOICE (log 3). -/
def ackDelay (h i : Nat) (s : State) : State :=
  if gorOk s h i && gorLive s h i && !isSender s h i && (s.gor h i).owed then sendAck h i s else s

/-- CREDIT_STEP (R69): the limit is STEP beyond the last advertised and no ACK is due. -/
def creditStep (h i : Nat) (s : State) : State :=
  if gorOk s h i && gorLive s h i && !isSender s h i then
    let s := creditRefresh h i s
    let step := max 1 (s.fget h i GOR_CREDIT_CFG_STEP) * 1024
    if (s.gor h i).advertised + step ≤ creditLim s h i ∧ (s.gor h i).owed = false then sendCredit h i s else s
  else s

/-- Send a REWIND_REQ again, or give up after ten (R76). -/
def rewindSend (h i : Nat) (r : Rewind) (s : State) : State :=
  if 10 ≤ r.sent then (rewindEnd h i r.req 0x31 s).raise h i GOR_EVENT_REWIND_UNANSWERED
  else
    let x := s.gor h i
    sendFrame h i 0x0A 0 0 r.first r.last r.req r.reason 0 []
      (s.setGor h i { x with rewinds := x.rewinds.map fun q => if q.req == r.req then { q with sent := q.sent + 1 } else q })

/-- Repeat every open rewind request. -/
def rewindRepeat (h i : Nat) (s : State) : State := forEach (s.gor h i).rewinds (rewindSend h i) s

/-- KEEPALIVE_INTERVAL (R59, R69, R76): a receiver sends CREDIT, a sender KEEPALIVE. -/
def keepaliveInterval (h i : Nat) (s : State) : State :=
  if gorOk s h i && gorLive s h i then
    if isSender s h i then sendFrame h i 0x0B 0 0 (s.gor h i).sndNxt 0 0 0 0 [] s
    else rewindRepeat h i (sendCredit h i (creditRefresh h i s))
  else s

/-- PEER_DEAD (R59): the dead time ran out; a valid frame taken at the same clock has restarted it (R88). A mirror sender whose
receiver is dead sets the event too. DESIGN CHOICE (log 170). -/
def peerDead (h i : Nat) (s : State) : State :=
  if gorOk s h i && gorLive s h i && (s.gor h i).heardAt != some s.now then
    let s := s.raise h i GOR_EVENT_PEER_DEAD
    sessionEnd h i 0x10 (if isSender s h i then s else sendByeAbort h i 0x10 s)
  else s

/-- RETX_TIMEOUT (R65, R84): resend the frame at SND_UNA and double the wait, up to BACKOFF doublings. -/
def retxTimeout (h : Nat) (s : State) : State :=
  if s.hasH h && isSender s h 1 && gorSess s h 1 == 3 then
    match (s.gor h 1).held with
    | [] => s
    | e :: _ =>
      let s := resend h e s
      let x := s.gor h 1
      s.setGor h 1 { x with doublings := min (s.fget h 1 GOR_RETX_BACKOFF) (x.doublings + 1) }
  else s

/-! ### Enable, disable (R55, R81) -/

/-- RWL fields of GOR are open in OFF. -/
def gorOpen (s : State) (h i _w : Nat) : Bool := gorSess s h i == 0

/-- FORCE_OFF (R81). -/
def gorForceOff (h i : Nat) (s : State) : State :=
  let live := gorLive s h i
  let s := discardAll h i 0x16 s
  let s := if live then sendByeAbort h i 0x16 s else s
  let s := if live then s.raise h i GOR_EVENT_SESSION_END else s
  let s := if i = 0 && live then mirrorError h 0x16 0xFFFFFFFF s else s
  let s := ((s.fput h i GOR_STATUS_SESS 0).fput h i GOR_CTRL_EN 0).setGor h i
    { (gorClear (s.gor h i)) with drainLost := false, enAgain := false }
  let s := ((s.fput h i GOR_STATUS_BONDED 0).fput h i GOR_STATUS_LANES 0).fput h i GOR_STATUS_CREDIT_STALL 0
  openWaitShow h (openShow h i ((s.fput h i GOR_DRAIN_RESULT 4).raise h i GOR_EVENT_DRAIN_DONE))

/-- After a write of a GOR word (R55, R81). -/
def gorAct (c : WriteCtx) (s : State) : State :=
  let h := c.h
  let i := c.i
  if c.w ≠ 0 then s
  else
    let s := if i = 0 then s.fput h 0 GOR_CTRL_ROLE 0 else s
    if c.wrote GOR_CTRL_FORCE_OFF = 1 then gorForceOff h i s
    else if c.rose s GOR_CTRL_EN then
      match gorSess s h i with
      | 0 =>
        if gorRole s h i = 0 then s.fput h i GOR_CTRL_EN 0 else gorAwait h i s
      | 4 => (s.fput h i GOR_CTRL_EN 0).setGor h i { (s.gor h i) with enAgain := true }
      | _ => s
    else if c.fell s GOR_CTRL_EN then
      if gorSess s h i = 3 then
        drainCheck h i ((s.fput h i GOR_STATUS_SESS 4).setGor h i { (s.gor h i) with drainLost := false, enAgain := false })
      else
        ((s.fput h i GOR_STATUS_SESS 0).fput h i GOR_DRAIN_RESULT 3).raise h i GOR_EVENT_DRAIN_DONE
    else s

/-- GORGE_EN_WRITE (R55): a write of GOR_CTRL. -/
def gorgeEnWrite (h i : Nat) (value : Word) (s : State) : State :=
  if gorOk s h i then hostWrite BLK_GOR gorOpen gorAct h i 0 value false s else s

/-- GORGE_DRAIN_TIMEOUT (R81): remaining pages are discarded with DRAIN_TIMEOUT. -/
def gorgeDrainTimeout (h i : Nat) (s : State) : State :=
  if gorOk s h i && gorSess s h i == 4 then
    if (openPages s h i).isEmpty then drainCheck h i s
    else
      let s := discardAll h i 0x13 s
      sessionEnd h i 0x13 (sendBye h i 0x13 s)
  else s

/-- GORGE_FORCE_OFF (R81). -/
def gorgeForceOffStep (h i : Nat) (s : State) : State := if gorOk s h i then gorForceOff h i s else s

/-- PAGE_OPEN_RESUMED (R96): a waiting PAGE_OPEN is processed once a reservation is possible. -/
def pageOpenResumed (h : Nat) (s : State) : State :=
  if !s.hasH h then s
  else forEach [0, 1] (fun i s =>
    let x := s.gor h i
    if x.openWait && gorLive s h i then
      match x.staged.find? fun e => e.1 == rcvNxt s h i with
      | none => s
      | some (_, f) =>
        let free := x.staged.length
        if reservable s h (reservation (layerEntries f)) || (s.fon h 0 BAS_CTRL_POLICY && basEn s h) then
          processStaged h i (free + 1) s
        else s
    else s) s

/-- Order a rewind (R76): the request is sent at once and repeated. DEDUCED (log 39). -/
def rewindStart (h i : Nat) (r : Rewind) (s : State) : State :=
  let x := s.gor h i
  rewindSend h i r (s.setGor h i { x with
    rewinds := x.rewinds ++ [r], rewindEnds := x.rewindEnds.filter fun e => e.1 != r.req })

/-! ### What follows every command -/

/-- On one hearth: releases that the mirror session no longer holds act (R87), RETAIN is kept (R98), and both receivers' credit follows the
Basin's space (R68). -/
def basinFollow (h : Nat) (s : State) : State :=
  creditRefresh h 1 (creditRefresh h 0 (retainKeep h 0 (releaseHeld h s)))

/-- Every hearth's Basin is followed. DESIGN CHOICE (log 14). -/
def basinsFollow (s : State) : State := forEach (List.range s.nH) basinFollow s

end Sys2Proof.Machine
end

