-- ==== Sys2Proof/Machine/TwinCtl.lean ====
section
/-! DEFINITION. The twin block's state machine (R350–R358, R363–R365): heartbeats, HOLD_N, seizing, joining, switch-over,
hand-over, leaving. Frames that carry commands and state are in TwinFrames. -/

namespace Sys2Proof.Machine

/-! ### Status -/

def wget (s : State) (f : Fld) : Nat := s.fget s.crown 0 f
def wput (f : Fld) (v : Nat) (s : State) : State := s.fput s.crown 0 f v
def wraise (f : Fld) (s : State) : State := s.raise s.crown 0 f
def wcount (f : Fld) (s : State) : State := s.count s.crown 0 f
def setTwn (f : TwnX → TwnX) (s : State) : State := { s with twn := f s.twn }

/-- ROLE of a state (R354). -/
def twnRole (st : Nat) : Nat := if st = 2 ∨ st = 3 then 1 else if 4 ≤ st ∧ st ≤ 6 then 2 else 0

/-- Enter a state; DRAINING, code 7, keeps the role. -/
def twnGo (st : Nat) (s : State) : State :=
  let s := wput TWN_STATUS_STATE st s
  if st = 7 then s else wput TWN_STATUS_ROLE (twnRole st) s

/-- HOLD_N reads low: some unit drives it. -/
def holdLow (s : State) : Bool := s.twn.drives || s.twn.peerDrives

/-- HOLD_OWN (R351). -/
def holdOwn (s : State) : Bool := if wget s TWN_CTRL_EN = 0 then s.up else s.twn.drives

/-- TWN_STATUS as it reads: the pins and the mirror session beside the stored fields. -/
def twnStatus (s : State) : Word :=
  let v := s.rd s.crown 0 BLK_TWN TWN_STATUS.word
  let v := insertBits v 15 1 (b2n (holdOwn s))
  let v := insertBits v 14 1 (b2n (holdLow s))
  insertBits v 12 1 (b2n (gorRole s s.crown 1 != 0 && gorSess s s.crown 1 == 3))

/-- MISS in effect: 0 acts as 3. -/
def twnMiss (s : State) : Nat := let n := wget s TWN_CTRL_MISS; if n = 0 then 3 else n

/-! ### Leaving step (R359, R365) -/

/-- Leave SYNC or STANDBY for OUT; a join in progress ends with a status. -/
def goOut (res : Nat) (s : State) : State :=
  if twnState s ≠ 4 ∧ twnState s ≠ 5 then s
  else
    let s := setTwn (fun x => { x with
      joinRes := if x.joinRes = 0 then res + 1 else x.joinRes, joinJ := [], joinSeen := [], aligned := false, sigPeer := [], sigOwn := [], results := [],
      cmds := x.cmds.filter fun c => c.mine, gap := none }) s
    wput TWN_STATUS_IN_STEP 0 (twnGo 6 s)

/-- A divergence at a line of a hearth (R359). -/
def diverge (h line : Nat) (s : State) : State :=
  let s := s.put64 h 0 TWN_DIVERGE_LO (line % 2 ^ 48)
  goOut 0x20 (fwEvent h 0x8C02 (wraise TWN_EVENT_DIVERGE s))

/-- Reach OFF with a drain result. -/
def twnOff (res : Nat) (s : State) : State :=
  let again := s.twn.again
  let s := setTwn (fun x => { x with
    again := false, leaving := false, gap := none, drives := false, joinJ := [], dark := [], relit := [], joinReq := false,
    snap := [], copyDue := [], alignDue := false, joining := false, joinSeen := [], cmds := x.cmds.filter fun c => c.mine,
    joinRes := if x.joinRes = 0 then 5 else x.joinRes, swapRes := if x.swapRes = 0 then 5 else x.swapRes }) s
  let s := wput TWN_STATUS_IN_STEP 0 (twnGo 0 s)
  let s := wraise TWN_EVENT_DRAIN_DONE (wput TWN_STATUS_DRAIN_RESULT res s)
  if again then twnGo 1 (wput TWN_CTRL_EN 1 s) else s

/-- Close the mirror session of the receiver side of every hearth (R81, R365). -/
def closeMirrors (s : State) : State :=
  forEach (below s.nH fun h => gorRole s h 1 == 2) (fun h s => gorgeEnWrite h 1 (insertBits (s.rd h 1 BLK_GOR 0) 0 1 0) s) s

/-! ### Hand-over (R364) -/

/-- First gap line of the next slot whose commit point has not passed; the line after the current one where no slot runs. -/
def nextGap (s : State) (h : Nat) : Nat :=
  let d := (s.ter h).cur
  let l := lnum s h
  if d.typ = 0 then l + 1
  else if !s.fon h 0 TER_STATUS_PAST_POINT then l + (d.body - d.idx)
  else l + (d.body + d.gap - d.idx) + (firstLine s h (nextPage s h)).body

/-- The active sends HANDOVER for its gap lines. -/
def handover (leave : Bool) (s : State) : State :=
  let gs := (List.range 8).map fun h => if s.hasH h then nextGap s h else 0
  let s := setTwn (fun x => { x with gap := some gs, leaving := leave, swapRes := 0 }) s
  twinSend 8 0xFF (gs.flatMap (leBytes 8)) s

/-- A hand-over may be asked for: active, standby in step, no join or hand-over running. -/
def canHandover (s : State) : Bool := twnInStep s && s.twn.gap.isNone && !s.twn.joinReq && s.twn.snap.isEmpty

/-- SWITCH_BACK on the active; on the standby the request is left to the peer. -/
def switchBack (s : State) : State := if canHandover s then handover false s else s

/-- The crown reaches its gap line: the roles change hands. -/
def handoverReached (s : State) : State :=
  match s.twn.gap with
  | none => s
  | some _ =>
    let leaving := s.twn.leaving
    let wasActive := twnState s == 3 || twnState s == 7
    let s := setTwn (fun x => { x with gap := none, swapRes := 1, drives := !wasActive, peerDrives := wasActive, sigBuf := [], sigOwn := [], sigPeer := [] }) s
    let s := fwEvent s.crown 0x8C01 (wraise TWN_EVENT_SWITCH (twnGo (if wasActive then 5 else 3) s))
    if wasActive && leaving then twnOff 3 s else s

/-! ### Joining (R354, R363) -/

/-- A unit in WAIT or OUT may join: no clash, HOLD_N low, the peer active. -/
def canJoin (s : State) : Bool :=
  (twnState s == 1 || twnState s == 6) && wget s TWN_STATUS_SLOT_CLASH == 0 && holdLow s && s.twn.peerRole == 1
    && wget s TWN_STATUS_PEER_HB == 1

/-- Send JOIN_REQ and enter SYNC. -/
def joinStart (s : State) : State :=
  if !canJoin s then s
  else
    let s := setTwn (fun x => { x with
      joinRes := 0, joinJ := [], joinSeen := [], aligned := false, joinEn := [], sigOwn := [], sigPeer := [], results := [], cmds := [] }) s
    twinSend 9 0xFF [] (twnGo 4 s)

/-- AUTO_JOIN acts whenever joining is possible. -/
def autoJoin (s : State) : State := if wget s TWN_CTRL_AUTO_JOIN = 1 then joinStart s else s

/-! ### Switching (R355–R358) -/

/-- A line of a hearth is lost (R357): its page is marked SWITCH, the line recorded. `pos` is its place in the Echo. -/
def lineLost (h line : Nat) (d : LineD) (pos : Nat) (s : State) : State :=
  let n := s.fget h 0 TWN_LOST_V
  let s := s.fput h 0 TWN_LOST_V (min 255 (n + 1))
  let s := if n < 4 then s.put64 h 0 (TWN_LOST_LO n) (line % 2 ^ 48) else s
  let ps := tabGet (fun _ => []) s.twn.lostPages h
  let s := setTwn (fun x => { x with
    lostPages := tabSet (fun _ => []) x.lostPages h ((ps ++ [d.page.getD 0xFFFFFFFF]).take 4) }) s
  let s := match d.page with
    | some pg => if d.fires then markPage h pg 10 0 s else s
    | none => s
  let body := d.typ == 1 && d.inBody
  echoWrite h pos [] (if body then d.page else none) (if body then d.idx else 0) d.inBody true s

/-- Enter SWITCHING: HOLD_N driven low, every line dark until the clear; the line triggered last is lost on each hearth.
DEDUCED (log 153). -/
def switchStart (s : State) : State :=
  let s := setTwn (fun x => { x with
    drives := true, peerDrives := false, dark := List.range s.nH, relit := [], cleared := false, lostPages := [] }) s
  let s := twnGo 2 s
  forEach (List.range s.nH) (fun h s =>
    let s := s.fput h 0 TWN_LOST_V 0
    if (s.drt h).lastTrig.isSome then lineLost h (lnum s h) (s.ter h).cur ((s.drt h).nb - 1) s else s) s

/-- HOLD_N_RELEASED (R356): a standby in step switches; a unit not in step only sees HOLD_N high. -/
def holdReleased (s : State) : State :=
  let s := setTwn (fun x => { x with peerDrives := false }) s
  if s.twn.drives then s else if twnState s = 5 then wput TWN_STATUS_IN_STEP 0 (switchStart s) else s

/-- HOLD_SEIZE (R355). -/
def holdSeize (s : State) : State :=
  let st := twnState s
  if (st == 1 || st == 4 || st == 6) && wget s TWN_STATUS_SLOT_CLASH == 0 && !holdLow s then switchStart (goOut 4 s) else s

/-- SWITCH_CLEAR_DONE (R356): the zeros are latched. -/
def switchClear (s : State) : State :=
  if s.twn.dark = [] ∨ s.twn.cleared then s
  else
    let s := forEach (List.range s.nH) (fun h s =>
      forEach (below 12 fun p => s.fget h p FBX_STATUS_STATE == 5) (fun p s =>
        let lat := Out.latch h p (s.fget h p FBX_TIMING_LAT_W) false (s.fon h p FBX_CTRL_LAT_POL) []
        (s.setFbx h p { (s.fbx h p) with latched := [], shifting := false, shifted := [] }).emit lat) s) s
    setTwn (fun x => { x with cleared := true }) s

/-- The first line fired in SWITCHING ends it (R356, R358). -/
def switchEnd (h line : Nat) (s : State) : State :=
  if twnState s ≠ 2 then s
  else
    let s := (twnGo 3 s).put64 s.crown 0 TWN_SWITCH_LO (line % 2 ^ 48)
    let s := fwEvent h 0x8C01 (wraise TWN_EVENT_SWITCH s)
    forEach (below s.nH fun g => gorRole s g 1 == 2) (fun g s => sessionEnd g 1 0x10 s) s

/-! ### Heartbeats (R352, R355) -/

/-- A heartbeat leaves SL2, 8b/10b encoded (R22, R352). -/
def beatSent (s : State) (d0 d1 d2 : Nat) : Out := .heartbeat d0 d1 d2 (beatGroups (Config.txDisparity s.out.length) d0 d1 d2)

/-- HEARTBEAT_SEND. DEDUCED (log 145). -/
def heartbeatSend (s : State) : State :=
  let d0 := wget s TWN_STATUS_ROLE + 4 * b2n s.twn.drives + 8 * b2n s.up
    + 16 * (if twnState s = 5 then 1 else 0) + 32 * wget s TWN_CTRL_SLOT
  let d1 := s.twn.hbSeq
  (setTwn (fun x => { x with hbSeq := (x.hbSeq + 1) % 256 }) s).emit (beatSent s d0 d1 (d0 ^^^ d1 ^^^ 0xA5))

/-- A heartbeat is missed; MISS in a row lose the peer. -/
def heartbeatMissed (s : State) : State :=
  let n := s.twn.misses + 1
  let s := wcount TWN_HB_MISS (setTwn (fun x => { x with misses := n }) s)
  if n < twnMiss s ∨ wget s TWN_STATUS_PEER_HB = 0 then s
  else
    let s := setTwn (fun x => { x with peerRole := 0 }) s
    let s := fwEvent s.crown 0x8C03 (wraise TWN_EVENT_PEER_LOST (wput TWN_STATUS_PEER_HB 0 s))
    if twnState s = 3 ∨ twnState s = 7 then wput TWN_STATUS_IN_STEP 0 (setTwn (fun x => { x with
      gap := none, joining := false, swapRes := if x.gap.isSome then 5 else x.swapRes }) s)
    else goOut 4 s

/-- A peer that shows the unit's own slot (R355). -/
def slotJudge (slot : Nat) (s : State) : State :=
  let clash := wget s TWN_CTRL_EN == 1 && slot == wget s TWN_CTRL_SLOT
  let was := wget s TWN_STATUS_SLOT_CLASH
  let s := wput TWN_STATUS_SLOT_CLASH (b2n clash) s
  if clash && was == 0 then wraise TWN_EVENT_SLOT_CLASH s else s

/-- Both units drive HOLD_N: slot 1 gives way (R355). -/
def raceJudge (s : State) : State :=
  if s.twn.drives && s.twn.peerDrives && wget s TWN_CTRL_SLOT == 1 then
    let s := setTwn (fun x => { x with drives := false, dark := [], relit := [] }) s
    wraise TWN_EVENT_LOST_RACE (wput TWN_STATUS_IN_STEP 0 (twnGo 1 s))
  else s

/-- A good heartbeat's data. -/
def heartbeatGood (d0 : Nat) (s : State) : State :=
  let s := setTwn (fun x => { x with misses := 0, peerRole := d0 % 4, peerDrives := bit d0 2 }) s
  let s := if wget s TWN_STATUS_PEER_HB = 0 then wraise TWN_EVENT_PEER_UP (wput TWN_STATUS_PEER_HB 1 s) else s
  let s := raceJudge (slotJudge (bits d0 5 1) s)
  let s := if twnState s = 3 ∨ twnState s = 7 then
      let inStep := bit d0 4 && d0 % 4 == 2
      let s := wput TWN_STATUS_IN_STEP (b2n inStep) s
      let s := if inStep || d0 % 4 != 2 then setTwn (fun x => { x with joining := false }) s else s
      if !inStep && s.twn.gap.isSome then setTwn (fun x => { x with gap := none, swapRes := 5 }) s else s
    else s
  autoJoin s

/-- HEARTBEAT_RECEIVED: D0 in bits 7..0, D1 in 15..8, D2 in 23..16. -/
def heartbeatReceived (beat : Nat) (s : State) : State :=
  let d0 := beat % 256
  let d1 := beat / 256 % 256
  if beat / 65536 % 256 ≠ d0 ^^^ d1 ^^^ 0xA5 then heartbeatMissed s
  else if !bit d0 3 then heartbeatMissed (setTwn (fun x => { x with peerDrives := bit d0 2 }) s)
  else heartbeatGood d0 s

/-! ### Writes (R354, R363–R365) -/

/-- EN written 0: a normal leave. -/
def twnLeave (s : State) : State :=
  match twnState s with
  | 0 => s
  | 3 => if twnInStep s then twnGo 7 (handover true s) else twnOff 3 s
  | 4 | 5 | 6 => twnOff 3 (closeMirrors s)
  | _ => twnOff 3 s

/-- FORCE_OFF. -/
def twnForce (s : State) : State := twnOff 4 (setTwn (fun x => { x with again := false }) (wput TWN_CTRL_EN 0 s))

/-- RWL fields are open in OFF. -/
def twnOpen (s : State) (_h _i _w : Nat) : Bool := twnState s == 0

/-- After a write of a TWN word. -/
def twnAct (c : WriteCtx) (s : State) : State :=
  if c.w ≠ 0 then s
  else if c.wrote TWN_CTRL_FORCE_OFF = 1 then twnForce s
  else
    let s := if c.rose s TWN_CTRL_EN then
        (if twnState s = 7 then setTwn (fun x => { x with again := true }) (wput TWN_CTRL_EN 0 s)
         else if twnState s = 0 then autoJoin (twnGo 1 s) else s)
      else if c.fell s TWN_CTRL_EN then twnLeave s else s
    let s := if c.wrote TWN_CTRL_JOIN = 1 then joinStart s else s
    if c.wrote TWN_CTRL_SWITCH_BACK = 1 then switchBack s else s

/-- Words of TWN that stand on the crown only. -/
def twnCrownWord (w : Nat) : Bool := decide (w < 4) || decide (0x12 ≤ w ∧ w ≤ 0x16)

/-- A write of a TWN word. -/
def twnWrite (h w : Nat) (v : Word) (bcast : Bool) (s : State) : State :=
  if !s.hasH h || (twnCrownWord w && h != s.crown) then s else hostWrite BLK_TWN twnOpen twnAct h 0 w v bcast s

end Sys2Proof.Machine
end

