-- ==== Sys2Proof/Machine/Sha.lean ====
section
/-! DEFINITION. SHA-256 and ECDSA P-256 verification (R394, R399), PRESUMED from FIPS 180-4 and FIPS 186-5. -/

namespace Sys2Proof.Machine

/-- The first 64 primes. -/
def shaPrimes : List Nat := below 312 fun n => decide (2 ≤ n) && (List.range 16).all fun d => decide (d + 2 ≥ n) || n % (d + 2) != 0

/-- The largest number below `2 ^ n` whose `k`th power is at most `x`, found bit by bit. -/
def rootFloor (k x : Nat) : Nat → Nat
  | 0 => 0
  | n + 1 =>
    let r := rootFloor k (x / 2 ^ k) n
    if (2 * r + 1) ^ k ≤ x then 2 * r + 1 else 2 * r

/-- The first 32 bits of the fraction of the `k`th root of a number. -/
def rootFrac (k p : Nat) : Nat := rootFloor k (p * 2 ^ (32 * k)) 40 % 2 ^ 32

/-- Round constants: cube roots of the primes; starting value: square roots of the first eight. -/
def shaK : List Nat := shaPrimes.map (rootFrac 3)
def shaH : List Nat := (shaPrimes.take 8).map (rootFrac 2)

/-- Rotate a 32-bit word right. -/
def rotr (x n : Nat) : Nat := (x >>> n ||| x <<< (32 - n)) % 2 ^ 32

/-- The message schedule, newest first, extended by `n` words. -/
def shaExtend : Nat → List Nat → List Nat
  | 0, w => w
  | n + 1, w =>
    let a := w.getD 1 0
    let b := w.getD 14 0
    let s1 := rotr a 17 ^^^ rotr a 19 ^^^ (a >>> 10)
    let s0 := rotr b 7 ^^^ rotr b 18 ^^^ (b >>> 3)
    shaExtend n ((s1 + w.getD 6 0 + s0 + w.getD 15 0) % 2 ^ 32 :: w)

/-- One round on the eight working words. -/
def shaRound (v : List Nat) (kw : Nat × Nat) : List Nat :=
  match v with
  | [a, b, c, d, e, f, g, h] =>
    let s1 := rotr e 6 ^^^ rotr e 11 ^^^ rotr e 25
    let ch := (e &&& f) ^^^ ((2 ^ 32 - 1 - e) &&& g)
    let t1 := h + s1 + ch + kw.1 + kw.2
    let s0 := rotr a 2 ^^^ rotr a 13 ^^^ rotr a 22
    let maj := (a &&& b) ^^^ (a &&& c) ^^^ (b &&& c)
    [(t1 + s0 + maj) % 2 ^ 32, a, b, c, (d + t1) % 2 ^ 32, e, f, g]
  | _ => v

/-- One 64-byte block. -/
def shaBlock (h : List Nat) (blk : List Byte) : List Nat :=
  let w := (shaExtend 48 ((List.range 16).map fun i => beAt blk (4 * i) 4).reverse).reverse
  List.zipWith (fun a b => (a + b) % 2 ^ 32) h ((shaK.zip w).foldl shaRound h)

/-- Blocks from a padded message. -/
def shaBlocks : Nat → List Nat → List Byte → List Nat
  | 0, h, _ => h
  | n + 1, h, m => shaBlocks n (shaBlock h (m.take 64)) (m.drop 64)

/-- SHA-256 of a byte string. PRESUMED (log 109). -/
def sha256 (l : List Byte) : List Byte :=
  let pad := l ++ [0x80] ++ List.replicate ((119 - l.length % 64) % 64) 0 ++ beBytes 8 (8 * l.length)
  (shaBlocks (pad.length / 64) shaH pad).flatMap (beBytes 4)

/-- P-256: field prime, curve constant, order, base point. -/
def p256P : Nat := 2 ^ 256 - 2 ^ 224 + 2 ^ 192 + 2 ^ 96 - 1
def p256B : Nat := 0x5ac635d8aa3a93e7b3ebbd55769886bc651d06b0cc53b0f63bce3c3e27d2604b
def p256N : Nat := 0xffffffff00000000ffffffffffffffffbce6faada7179e84f3b9cac2fc632551
def p256G : Nat × Nat := (0x6b17d1f2e12c4247f8bce6e563a440f277037d812deb33a0f4a13945d898c296,
  0x4fe342e2fe1a7f9b8ee7eb4a7c0f9e162bce33576b315ececbb6406837bf51f5)

/-- Power modulo `m` over the low `n` bits of the exponent. -/
def powMod (m : Nat) : Nat → Nat → Nat → Nat → Nat
  | 0, _, _, acc => acc
  | n + 1, b, e, acc => powMod m n (b * b % m) (e / 2) (if e % 2 = 1 then acc * b % m else acc)

/-- Inverse modulo a prime. -/
def invMod (m x : Nat) : Nat := powMod m 256 (x % m) (m - 2) 1

/-- Difference modulo `p256P`. -/
def subP (a b : Nat) : Nat := (a + p256P - b % p256P) % p256P

/-- Sum of two points; `none` is the point at infinity. -/
def ecAdd : Option (Nat × Nat) → Option (Nat × Nat) → Option (Nat × Nat)
  | none, q => q
  | p, none => p
  | some (x1, y1), some (x2, y2) =>
    if x1 = x2 ∧ (y1 + y2) % p256P = 0 then none
    else
      let m := if x1 = x2 then subP (3 * x1 * x1) 3 * invMod p256P (2 * y1) % p256P else subP y2 y1 * invMod p256P (subP x2 x1) % p256P
      let x := subP (subP (m * m) x1) x2
      some (x, subP (m * subP x1 x) y1)

/-- Multiple of a point by the low `n` bits of `k`. -/
def ecMul : Nat → Nat → Option (Nat × Nat) → Option (Nat × Nat) → Option (Nat × Nat)
  | 0, _, _, acc => acc
  | n + 1, k, p, acc => ecMul n (k / 2) (ecAdd p p) (if k % 2 = 1 then ecAdd acc p else acc)

/-- ECDSA P-256 over a digest, with public key `q` and signature (r, s). -/
def ecdsaOk (q : Nat × Nat) (digest : List Byte) (r s : Nat) : Bool :=
  if r = 0 ∨ s = 0 ∨ p256N ≤ r ∨ p256N ≤ s ∨ p256P ≤ q.1 ∨ p256P ≤ q.2
      ∨ q.2 * q.2 % p256P ≠ (q.1 * q.1 * q.1 + (p256P - 3) * q.1 + p256B) % p256P then false
  else
    let w := invMod p256N s
    let u1 := beAt digest 0 32 * w % p256N
    let u2 := r * w % p256N
    match ecAdd (ecMul 256 u1 (some p256G) none) (ecMul 256 u2 (some q) none) with
    | some (x, _) => x % p256N == r
    | none => false

end Sys2Proof.Machine
end

