-- ==== Sys2Proof/Machine/Update.lean ====
section
/-! DEFINITION. Field update (14_calibration_and_update.md, R391–R401): flash slots and the boot directory, delta patches,
the service port, applying, verifying, activating and swapping. -/

namespace Sys2Proof.Machine

def vget (s : State) (f : Fld) : Nat := s.fget 0 0 f
def vput (f : Fld) (v : Nat) (s : State) : State := s.fput 0 0 f v

/-! ### Flash layout (R391, R392) -/

/-- Offset and size of a component's slot (0 A, 1 B). -/
def slotBase (comp slot : Nat) : Nat :=
  match comp with
  | 0 => 0x00100000 + slot * 0x800000
  | 1 => 0x01100000 + slot * 0x100000
  | 2 => 0x01300000 + slot * 0x200000
  | 3 => 0x01700000 + slot * 0x100000
  | _ => 0x01900000 + slot * 0x800000

def slotSize (comp : Nat) : Nat :=
  match comp with
  | 0 | 4 => 0x800000
  | 2 => 0x200000
  | _ => 0x100000

def stageBase : Nat := 0x03110000

/-- Offset of a slot's record (VER, LEN, SHA-256) in a boot directory copy: SEQ u32, then per component ACTIVE u8 and two
records. DESIGN CHOICE (log 130). -/
def dirRec (comp slot : Nat) : Nat := 4 + 81 * comp + 1 + 40 * slot

/-- Bytes of a directory copy before its CRC. -/
def dirLen : Nat := 4 + 81 * 5

/-- Flash offset of a directory copy. -/
def dirAt (copy : Nat) : Nat := 0x10000 * copy

/-- A directory copy whose CRC is good. -/
def dirCopy (s : State) (copy : Nat) : Option (List Byte) :=
  let b := s.freads (dirAt copy) dirLen
  if s.fnum (dirAt copy + dirLen) 4 = crc32c b then some b else none

/-- The governing copy: good CRC and the later SEQ by signed difference; its index and bytes. -/
def bootDir (s : State) : Option (Nat × List Byte) :=
  match dirCopy s 0, dirCopy s 1 with
  | none, none => none
  | some a, none => some (0, a)
  | none, some b => some (1, b)
  | some a, some b => some (if 0 ≤ toS 32 (ofS 32 ((leAt a 0 4 : Int) - leAt b 0 4)) then (0, a) else (1, b))

/-- The directory's bytes; zeros while no copy is good. -/
def dirBytes (s : State) : List Byte := ((bootDir s).map Prod.snd).getD (List.replicate dirLen 0)

/-- VER, LEN and SHA-256 of a slot. -/
def slotVer (s : State) (comp slot : Nat) : Nat := leAt (dirBytes s) (dirRec comp slot) 4
def slotLen (s : State) (comp slot : Nat) : Nat := leAt (dirBytes s) (dirRec comp slot + 4) 4
def slotSha (s : State) (comp slot : Nat) : List Byte := slice (dirBytes s) (dirRec comp slot + 8) 32

/-- Active slot of a component. -/
def activeSlot (s : State) (comp : Nat) : Nat := byteAt (dirBytes s) (4 + 81 * comp) % 2

/-- Write the directory with bytes at `at'` replaced: into the other copy, SEQ + 1. -/
def writeDir (at' : Nat) (v : List Byte) (s : State) : State :=
  let other := match bootDir s with
    | some (0, _) => 1
    | _ => 0
  let b := dirBytes s
  let b := leBytes 4 ((leAt b 0 4 + 1) % 2 ^ 32) ++ b.drop 4
  let b := b.take at' ++ v ++ b.drop (at' + v.length)
  s.fwrites (dirAt other) (b ++ leBytes 4 (crc32c b))

/-- A slot becomes invalid: LEN 0. -/
def voidSlot (comp slot : Nat) (s : State) : State := writeDir (dirRec comp slot + 4) (leBytes 4 0) s

/-! ### Status (R397) -/

/-- The journal as SVC_JOURNAL shows it. -/
def jourShow (s : State) : State :=
  s.wr 0 0 BLK_SVC SVC_JOURNAL.word (match s.upd.jour with
    | none => 0
    | some j => BitVec.ofNat 32 (j.st * 2 ^ 28 + j.comp % 16 * 2 ^ 24 + j.slot * 2 ^ 16 + j.next % 4096))

def setJour (j : Option Journal) (s : State) : State := jourShow { s with upd := { s.upd with jour := j } }

/-- Active slots as SVC_BOOT shows them. -/
def bootShow (s : State) : State := vput SVC_BOOT_SLOT (((List.range 5).map fun c => activeSlot s c * 2 ^ c).sum) s

/-- Bytes staged. -/
def stagedShow (s : State) : State := vput SVC_STAGED (4096 * s.upd.stagedBlocks.length) s

/-- The status record. -/
def svcRecord (s : State) (mainUp : Bool) : List Byte :=
  let st := vget s SVC_STATUS_STATE
  leBytes 1 st ++ leBytes 1 (if 2 ≤ st then 0x14 else vget s SVC_STATUS_LAST) ++ leBytes 1 (vget s SVC_STATUS_CAUSE)
    ++ leBytes 1 (b2n mainUp + 2 * b2n s.upd.held + 4 * b2n s.upd.jour.isSome + 8 * vget s SVC_FUSE_SVC_LOCK)
    ++ leBytes 4 (vget s SVC_STAGED) ++ leBytes 4 ((s.upd.jour.map Journal.next).getD 0) ++ leBytes 1 (vget s SVC_BOOT_SLOT)
    ++ leBytes 1 (vget s SVC_BOOT_FELL) ++ leBytes 2 0

/-- A service-port frame is received. -/
def svcFrame (s : State) : State := s.count 0 0 SVC_FRAMES

/-- An opcode that needs the main domain: without effect while that is in reset, DENIED under the fuse lock, BUSY while a patch
runs (R396, R402). Answers the status and the state after it. -/
def svcOp (f : State → Nat × State) (s : State) : State :=
  let s := svcFrame s
  if s.upd.held || s.boot.inReset then s
  else if vget s SVC_FUSE_SVC_LOCK = 1 then vput SVC_STATUS_LAST 0x15 s
  else if 2 ≤ vget s SVC_STATUS_STATE then vput SVC_STATUS_LAST 0x14 s
  else
    let r := f s
    vput SVC_STATUS_LAST r.1 r.2

/-! ### Staging (R395, R396) -/

/-- STAGE_OPEN: empty the staging region for a file of `len` bytes. -/
def stageOpen (len : Nat) (s : State) : Nat × State :=
  if 0x800000 < len then (0x24, s)
  else
    let s := { s with flash := s.flash.filter fun e => !(decide (stageBase ≤ e.1) && decide (e.1 < stageBase + 0x800000)) }
    (0, vput SVC_STATUS_STATE 1 (stagedShow { s with upd := { s.upd with stageLen := len, stagedBlocks := [] } }))

/-- STAGE_WRITE: one block of 4,096 bytes after its CRC check. -/
def stageWrite (index : Nat) (data : List Byte) (crc : Nat) (s : State) : Nat × State :=
  if 2048 ≤ index ∨ data.length ≠ 4096 then (0x11, s)
  else if crc32c data ≠ crc then (0x20, s.count 0 0 SVC_CRC_ERR)
  else
    let s := s.fwrites (stageBase + 4096 * index) data
    let l := s.upd.stagedBlocks
    (0, stagedShow { s with upd := { s.upd with stagedBlocks := if l.contains index then l else l ++ [index] } })

/-! ### Delta patches (R394) -/

/-- A little-endian field of the staged file. -/
def stg4 (s : State) (o n : Nat) : Nat := s.fnum (stageBase + o) n

/-- Header fields. -/
def patComp (s : State) : Nat := stg4 s 5 1
def patFull (s : State) : Bool := bit (stg4 s 6 1) 0
def patLen (s : State) : Nat := stg4 s 16 4
def patBlocks (s : State) : Nat := stg4 s 20 4
def patRecLen (s : State) : Nat := stg4 s 56 4

/-- The checks of APPLY. -/
def patchOk (s : State) : Bool :=
  let hdr := s.freads stageBase 64
  let comp := patComp s
  leAt hdr 0 4 == 0x48504453 && byteAt hdr 4 == 1 && leAt hdr 60 4 == crc32c (hdr.take 60) && decide (comp ≤ 4)
  && decide (byteAt hdr 6 ≤ 1) && decide (1 ≤ patLen s) && decide (patLen s ≤ slotSize comp)
  && patBlocks s == (patLen s + 4095) / 4096 && s.upd.stageLen == 64 + patRecLen s + 64
  && (patFull s || slice hdr 24 32 == sha256 (s.freads (slotBase comp (activeSlot s comp)) (slotLen s comp (activeSlot s comp))))

/-- Run a record's operations, at most `n`; `src` gives a source byte where one may be used. -/
def patchOps (src : Nat → Option Byte) : Nat → List Byte → List Byte → Option (List Byte)
  | 0, l, acc => if l.isEmpty then some acc else none
  | n + 1, l, acc =>
    match l with
    | [] => some acc
    | op :: rest =>
      let bytes := fun (a k : Nat) => ((List.range k).map fun i => src (a + i)).foldr
        (fun b r => match b, r with | some b, some r => some (b :: r) | _, _ => none) (some [])
      if op = 1 then
        let k := leAt rest 4 2
        if rest.length < 6 ∨ k = 0 ∨ 4096 < k then none
        else match bytes (leAt rest 0 4) k with
          | some bs => patchOps src n (rest.drop 6) (acc ++ bs)
          | none => none
      else if op = 2 then
        let k := leAt rest 4 2
        if rest.length < 6 + k ∨ k = 0 ∨ 4096 < k then none
        else match bytes (leAt rest 0 4) k with
          | some bs => patchOps src n (rest.drop (6 + k)) (acc ++ List.zipWith (· + ·) bs (slice rest 6 k))
          | none => none
      else if op = 3 then
        let k := leAt rest 0 2
        if rest.length < 2 + k ∨ k = 0 ∨ 4096 < k then none else patchOps src n (rest.drop (2 + k)) (acc ++ slice rest 2 k)
      else if op = 4 then
        let k := leAt rest 0 2
        if rest.length < 3 ∨ k = 0 ∨ 4096 < k then none
        else patchOps src n (rest.drop 3) (acc ++ List.replicate k (rest.getD 2 0))
      else none

/-- Offset in the staged file of record `n`, and records' count of bytes, walking from offset `o`. -/
def patchRecord (s : State) : Nat → Nat → Nat
  | 0, o => o
  | n + 1, o => patchRecord s n (o + 6 + stg4 s (o + 4) 2)

/-- Block `n` as its record builds it, where the result has 4,096 bytes and its TCRC. -/
def patchBlock (s : State) (n : Nat) : Option (List Byte) :=
  let o := patchRecord s n 64
  let len := stg4 s (o + 4) 2
  let comp := patComp s
  let a := activeSlot s comp
  let src := fun i => if patFull s ∨ slotLen s comp a ≤ i then none else some (s.fread (slotBase comp a + i))
  match patchOps src len (s.freads (stageBase + o + 6) len) [] with
  | some b => if b.length = 4096 ∧ crc32c b = stg4 s o 4 then some b else none
  | none => none

/-- Build and program blocks from `b` on, `k` of them; answers whether all matched. -/
def patchBuild (comp slot : Nat) : Nat → Nat → State → Bool × State
  | 0, _, s => (true, s)
  | k + 1, b, s =>
    match patchBlock s b with
    | none => (false, s)
    | some bs =>
      let s := s.fwrites (slotBase comp slot + 4096 * b) bs
      let s := match s.upd.jour with
        | some j => setJour (some { j with next := if (b + 1) % 4 = 0 ∨ k = 0 then b + 1 else j.next }) s
        | none => s
      patchBuild comp slot k (b + 1) s

/-! ### Verification (R399) -/

/-- The signature of the staged file over a digest. -/
def patchSigned (s : State) (digest : List Byte) : Bool :=
  let key := stg4 s 7 1
  let o := stageBase + 64 + patRecLen s
  decide (key < 4) && bit (vget s SVC_FUSE_KEYS) key && !bit (vget s SVC_FUSE_REVOKED) key
  && ecdsaOk (Config.fuseKey key) digest (beAt (s.freads o 32) 0 32) (beAt (s.freads (o + 32) 32) 0 32)

/-- Verify a slot: the one the journal's patch built against its TCRCs and signature, any other against its directory SHA. -/
def verifySlot (s : State) (comp slot : Nat) : Nat :=
  let ours := match s.upd.jour with
    | some j => j.comp == comp && j.slot == slot && decide (2 ≤ j.st)
    | none => false
  if ours then
    let base := slotBase comp slot
    if (List.range (patBlocks s)).all fun b => crc32c (s.freads (base + 4096 * b) 4096) == stg4 s (patchRecord s b 64) 4 then
      (if patchSigned s (sha256 (s.freads base (patLen s))) then 0 else 0x21)
    else 0x20
  else if slotLen s comp slot ≠ 0 ∧ slotLen s comp slot ≤ slotSize comp
      ∧ sha256 (s.freads (slotBase comp slot) (slotLen s comp slot)) = slotSha s comp slot then 0
  else 0x20

/-! ### Applying (R398) -/

/-- SVC_APPLY: check the staged file and open the journal. -/
def svcApply (s : State) : Nat × State :=
  if !patchOk s then (0x20, s.raise 0 0 SVC_EVENT_CHECK_FAIL)
  else
    let comp := patComp s
    let sha := sha256 (s.freads stageBase s.upd.stageLen)
    (0, vput SVC_STATUS_STATE 2 (setJour (some ⟨comp, 1 - activeSlot s comp, sha, 0, 1⟩) s))

/-- A patch ends with a failure: the target slot becomes invalid. -/
def patchFails (j : Journal) (st : Nat) (s : State) : State :=
  let s := vput SVC_STATUS_STATE 1 (vput SVC_STATUS_LAST st (voidSlot j.comp j.slot (setJour none s)))
  s.raise 0 0 SVC_EVENT_CHECK_FAIL

/-- PATCH_APPLY_DONE: the blocks from NEXT are built, the slot's record is written and it is verified. DEDUCED (log 132). -/
def patchDone (s : State) : State :=
  match s.upd.jour with
  | none => s
  | some j =>
    if j.st ≠ 1 ∨ vget s SVC_STATUS_STATE ≠ 2 then s
    else
      let r := patchBuild j.comp j.slot (patBlocks s - j.next) j.next s
      if !r.1 then patchFails j 0x20 r.2
      else
        let len := patLen r.2
        let sha := sha256 (r.2.freads (slotBase j.comp j.slot) len)
        let s := writeDir (dirRec j.comp j.slot) (leBytes 4 (stg4 r.2 12 4) ++ leBytes 4 len ++ sha) r.2
        let s := (setJour (some { j with next := patBlocks s, st := 2 }) s).raise 0 0 SVC_EVENT_APPLY_DONE
        let v := verifySlot s j.comp j.slot
        if v ≠ 0 then patchFails j v s
        else
          let s := setJour (some { j with next := patBlocks s, st := 3 }) s
          vput SVC_STATUS_LAST 0 (vput SVC_STATUS_STATE 1 (s.raise 0 0 SVC_EVENT_VERIFIED))

/-- A patch of a component is in progress. -/
def patchOpen (s : State) (comp : Nat) : Bool :=
  match s.upd.jour with
  | some j => j.comp == comp && decide (j.st < 3)
  | none => false

/-- Discard an incomplete patch; the inactive slot becomes invalid. -/
def patchAbort (comp : Nat) (s : State) : Nat × State :=
  match s.upd.jour with
  | some j =>
    if j.comp = comp ∧ j.st < 3 then (0, vput SVC_STATUS_STATE 1 (voidSlot j.comp j.slot (setJour none s))) else (0x12, s)
  | none => (0x12, s)

/-- SVC_ABORT: it acts while a patch runs. -/
def svcAbort (s : State) : State :=
  let s := svcFrame s
  if s.upd.held || s.boot.inReset then s
  else if vget s SVC_FUSE_SVC_LOCK = 1 then vput SVC_STATUS_LAST 0x15 s
  else
    let r := patchAbort ((s.upd.jour.map Journal.comp).getD 0) s
    vput SVC_STATUS_LAST r.1 r.2

/-! ### Activation and swap (R400) -/

/-- A waiting swap of a component ends with a status. -/
def endSwap (comp st : Nat) (s : State) : State :=
  let es := s.upd.swaps.filter fun e => e.1 == comp
  let s := { s with upd := { s.upd with swaps := s.upd.swaps.filter fun e => e.1 != comp } }
  forEach es (fun e s => noteDop e.2 s.crown st s) s

/-- The swap is done: the running copy is the active one, and the activation is reported. -/
def swapped (comp : Nat) (s : State) : State :=
  let old := s.upd.running
  let run := old - b2n (bit old comp) * 2 ^ comp + activeSlot s comp * 2 ^ comp
  let s := endSwap comp 0 { s with upd := { s.upd with running := run } }
  fwEvent s.crown 0x8E01 (s.raise 0 0 SVC_EVENT_ACTIVATED)

/-- Verify and activate a slot (R399, R400): the directory first; the running copy follows, for component 4 at once. -/
def activate (comp slot : Nat) (owner : Option (Nat × Nat)) (s : State) : Nat × State :=
  if 4 < comp ∨ 1 < slot then (0x11, s)
  else if patchOpen s comp then (0x12, s)
  else
    let v := verifySlot s comp slot
    if v ≠ 0 then (v, s.raise 0 0 SVC_EVENT_CHECK_FAIL)
    else
      let s := bootShow (writeDir (4 + 81 * comp) (leBytes 1 slot) s)
      let s := match s.upd.jour with
        | some j => if j.comp = comp then setJour none s else s
        | none => s
      if comp = 4 then (0, swapped 4 s)
      else
        let s := endSwap comp 4 s
        (0, { s with upd := { s.upd with swaps := s.upd.swaps ++ [(comp, owner)] } })

/-- The condition of a swap: component 0 waits for calibration runs, component 2 for empty buffers and no open frame. -/
def swapReady (s : State) (comp : Nat) : Bool :=
  if comp = 0 then (List.range s.nH).all fun h => (s.cal h).run.isNone
  else if comp = 2 then (List.range s.nH).all fun h =>
    s.fget h 0 ISP_STATUS_STATE == 0 || (List.range 2).all fun c => camHeld s h c == 0 && !(s.cam h c).frame
  else true

/-- COMPONENT_SWAP: the newly activated component replaces the running copy. -/
def swapRow (comp : Nat) (s : State) : State :=
  if (s.upd.swaps.any fun e => e.1 == comp) && swapReady s comp then swapped comp s else s

/-- COMPONENT_SWAP_TIMEOUT: the camera microcode found no moment within 1 s; nothing is replaced. -/
def swapTimeout (s : State) : State := endSwap 2 0x31 s

/-- After a write of an SVC word: every field is read-only but the events. -/
def svcAct (_ : WriteCtx) (s : State) : State := s
def svcOpen (_ : State) (_ _ _ : Nat) : Bool := true

end Sys2Proof.Machine
end

