-- ==== Sys2Proof/Machine/Bus.lean ====
section
/-! DEFINITION. Register accesses (R6–R9, R117, R265–R272): addresses and their targets, a write and a read of one word
at one target, broadcast and group accesses, the control port. -/

namespace Sys2Proof.Machine

/-! ### Addresses (R6, R7, R270, R271) -/

/-- An address taken apart. -/
structure RegAddr where
  space : Nat
  hearth : Nat
  blk : Nat
  inst : Nat
  word : Nat
deriving DecidableEq, Repr

/-- Bits of an address; `none` where bits [1:0] are not zero. -/
def regAddr (a : Nat) : Option RegAddr :=
  if a % 4 ≠ 0 then none else some ⟨bits a 29 3, bits a 25 4, bits a 17 8, bits a 13 4, bits a 2 11⟩

/-- The address of the `k`th word of a burst: WORD wraps within its block and instance (R268). -/
def burstAddr (a k : Nat) : Nat := a / 8192 * 8192 + (a % 8192 + 4 * k) % 8192

/-- A broadcast or group address: column B governs a write to it. -/
def RegAddr.bcast (a : RegAddr) : Bool := a.space == 1 || a.space == 2 || (decide (12 ≤ a.inst) && a.space != 3)

/-- The instance exists on the hearth; registers of one set for the package count as instance 0 of every hearth. -/
def instPresent (s : State) (h blk i : Nat) : Bool :=
  s.hasH h &&
  match blk with
  | 0x01 => h == s.crown && decide (i < 4)
  | 0x04 | 0x1E => laneOk s h i
  | 0x05 | 0x12 => decide (i < 2)
  | 0x09 => decide (i < 3)
  | 0x0C => decide (i < 12)
  | 0x10 => decide (h < 2) && decide (i < 8)
  | 0x11 => decide (h < 2) && decide (i < 4)
  | 0x00 | 0x02 | 0x08 | 0x0A | 0x0B | 0x0D | 0x0E | 0x0F | 0x13 | 0x14 | 0x18 | 0x19 | 0x1A | 0x1B | 0x1C | 0x1D => i == 0
  | _ => false

/-- Instances an INSTANCE field names: banks exist in FBX only. -/
def instNames (blk f : Nat) : List Nat :=
  if f < 12 then [f]
  else if f = 15 then List.range 12
  else if blk = BLK_FBX then (List.range 4).map fun k => 4 * (f - 12) + k
  else []

/-- Hearths an address names. -/
def hearthNames (s : State) (a : RegAddr) : List Nat :=
  match a.space with
  | 0 => if s.hasH a.hearth then [a.hearth] else []
  | 1 => List.range s.nH
  | 2 => below s.nH fun h => bit (s.fget h 0 GLB_GROUP_MASK_V) a.hearth
  | _ => []

/-- Targets of an address, lowest hearth and instance first; empty where R6, R7, R14, R270 or R271 ignore it. A register
set of the package is one target, held under hearth 0, instance 0. -/
def targets (s : State) (a : RegAddr) : List (Nat × Nat) :=
  if a.space = 3 then
    (if (a.inst == 0 || a.inst == 15) && ((a.blk == BLK_GLB && decide (0x40 ≤ a.word ∧ a.word < 0x80)) || a.blk == BLK_FND) then [(0, 0)] else [])
  else if a.blk = BLK_GLB ∧ 0x40 ≤ a.word then []
  else
    let all := (hearthNames s a).flatMap fun h => ((instNames a.blk a.inst).filter (instPresent s h a.blk)).map fun i => (h, i)
    if blkGlobal a.blk then (if all = [] then [] else [(0, 0)]) else all

/-- The target is reachable from the crown. -/
def targetUp (s : State) (a : RegAddr) (t : Nat × Nat) : Bool :=
  a.space == 3 || blkGlobal a.blk || t.1 == s.crown || reachable s s.crown t.1

/-! ### Special words -/

/-- Word of EVENT_EN registers of a block. -/
def eventEnWords : Nat → List Nat
  | 0x01 => [MBX_EVENT_EN.word] | 0x04 => [LANE_EVENT_EN.word] | 0x05 => [GOR_EVENT_EN.word] | 0x08 => [BAS_EVENT_EN.word]
  | 0x09 => [CIN_EVENT_EN.word] | 0x0A => [TER_EVENT_EN.word] | 0x0B => [GRT_EVENT_EN.word] | 0x0C => [FBX_EVENT_EN.word]
  | 0x0D => [DRT_EVENT_EN.word] | 0x0E => [DMP_EVENT_EN.word] | 0x0F => [FND_EVENT_EN.word]
  | 0x10 => [FBK_QEVENT_EN.word, FBK_HEVENT_EN.word, FBK_SEVENT_EN.word] | 0x11 => [MOT_EVENT_EN.word]
  | 0x12 => [CAM_EVENT_EN.word] | 0x13 => [ISP_EVENT_EN.word] | 0x14 => [ASH_EVENT_EN.word] | 0x18 => [CHM_EVENT_EN.word]
  | 0x19 => [DRM_EVENT_EN.word] | 0x1A => [TIM_EVENT_EN.word, TIM_TU_EVENT_EN.word] | 0x1B => [TWN_EVENT_EN.word]
  | 0x1C => [CAL_EVENT_EN.word] | 0x1D => [SVC_EVENT_EN.word]
  | _ => []

/-- Words that a read of a word latches: the _HI half of a 64-bit pair (R117), the whole time value (R372, R380). -/
def latchedBy (blk w : Nat) : List Nat :=
  let hi (ws : List Nat) : List Nat := if ws.contains w then [w + 1] else []
  match blk with
  | 0x01 => hi [MBX_NET_MAC_LO.word]
  | 0x05 => hi [GOR_PEER_LO.word, GOR_LOCK_LO.word, GOR_BYTE_LO.word, GOR_CREDIT_LO.word]
  | 0x08 => hi [BAS_RING_BASE_LO.word, BAS_RING_SIZE_LO.word, BAS_DEC_BASE_LO.word, BAS_DEC_SIZE_LO.word, BAS_WP_LO.word,
      BAS_RP_LO.word, BAS_MARK_LO.word, BAS_FREE_LO.word, BAS_DEC_FREE_LO.word, BAS_RB_BASE_LO.word]
  | 0x09 => hi [CIN_OUT_LO.word, CIN_ERR_POS_LO.word]
  | 0x0A => hi [TER_LNUM_LO.word, TER_PRIV_LINE_LO.word]
  | 0x13 => hi ([ISP_ECHO_BASE_LO.word, ISP_ECHO_SIZE_LO.word, ISP_META_BASE_LO.word, ISP_STAT_BASE_LO.word]
      ++ (List.range 4).map fun n => (ISP_OUT_BASE_LO n).word)
  | 0x14 => hi [ASH_UPD_LINE_LO.word, ASH_APPLIED_LO.word]
  | 0x1A =>
    if w = TIM_SEC_LO.word then [TIM_SEC_HI.word, TIM_NS.word, TIM_FRAC.word]
    else if 0x40 ≤ w ∧ w < 0x140 ∧ w % 16 = 5 then [w + 1, w + 2]
    else if 0x40 ≤ w ∧ w < 0x140 ∧ w % 16 = 1 then [w + 1]
    else hi [TIM_INC_LO.word, TIM_SET_SEC_LO.word, TIM_ADJ_LO.word, TIM_MASTER_LO.word]
  | 0x1B => hi ([TWN_DIVERGE_LO.word, TWN_SWITCH_LO.word, TWN_ST_BASE_LO.word] ++ (List.range 4).map fun n => (TWN_LOST_LO n).word)
  | _ => []

/-- The column of a window word of the Ash map (R148); `none` where the window names no column. -/
def ashColumn (s : State) (h w : Nat) : Option Nat :=
  let win := s.fget h 0 ASH_WIN_V
  if 0x400 ≤ w ∧ win < 48 then some (1024 * win + (w - 0x400)) else none

/-- A word of the severity map as GLB_SEV_DATAk reads (R294). -/
def sevWord (s : State) (h k : Nat) : Word :=
  BitVec.ofNat 32 (((List.range 8).map fun j =>
    tabGet (fun _ => 1) s.sev (sevKey h (s.fget h 0 GLB_SEV_SEL_BLOCK) (s.fget h 0 GLB_SEV_SEL_IDX) (8 * k + j)) * 2 ^ (4 * j)).sum)

/-- Set eight severities. -/
def sevWrite (h k : Nat) (v : Word) (s : State) : State :=
  forEach (List.range 8) (fun j s => { s with
    sev := tabSet (fun _ => 1) s.sev (sevKey h (s.fget h 0 GLB_SEV_SEL_BLOCK) (s.fget h 0 GLB_SEV_SEL_IDX) (8 * k + j)) (bits v.toNat (4 * j) 4) }) s

/-! ### Writing one word at one target -/

def plainOpen (_ : State) (_ _ _ : Nat) : Bool := true
def plainAct (_ : WriteCtx) (s : State) : State := s

/-- A block's rule for its RWL fields. -/
def blockOpen : Nat → State → Nat → Nat → Nat → Bool
  | 0x04 => laneOpen | 0x1E => laneOpen | 0x05 => gorOpen | 0x08 => basOpen | 0x09 => cinOpen | 0x0A => terOpen | 0x0B => grtOpen
  | 0x0C => fbxOpen | 0x0D => drtOpen | 0x0F => fndOpen | 0x10 => fbkOpen | 0x11 => motOpen | 0x12 => camOpen
  | 0x13 => ispOpen | 0x14 => ashOpen | 0x18 => chmOpen | 0x19 => drmOpen | 0x1A => timOpen | 0x1D => svcOpen
  | _ => plainOpen

/-- A block's rule after a write of its words. -/
def blockAct : Nat → WriteCtx → State → State
  | 0x04 => laneAct | 0x1E => tstAct | 0x05 => gorAct | 0x08 => basAct | 0x09 => cinAct | 0x0A => terAct | 0x0B => grtAct
  | 0x0C => fbxAct | 0x0D => drtAct | 0x0F => fndAct | 0x10 => fbkAct | 0x11 => motAct | 0x12 => camAct
  | 0x13 => ispAct | 0x14 => ashAct | 0x18 => chmAct | 0x19 => drmAct | 0x1A => timAct | 0x1D => svcAct
  | _ => plainAct

/-- No field of the word is in column B: a broadcast or group write has no effect on it (R7). -/
def wordSolo (blk i w : Nat) : Bool := (wordFields blk i w).all fun f => !f.b

/-- Write one word at one target. -/
def regWrite (blk h i w : Nat) (v : Word) (bcast : Bool) (s : State) : State :=
  if bcast && wordSolo blk i w then s
  else if (eventEnWords blk).contains w ∧ blk ≠ BLK_MBX ∧ blk ≠ BLK_TWN then
    hostWrite blk (blockOpen blk) (eventEnableAct blk) h i w v bcast s
  else match blk with
    | 0x00 => if 6 ≤ w ∧ w ≤ 9 then sevWrite h (w - 6) v s else hostWrite blk plainOpen plainAct h i w v bcast s
    | 0x01 => if w = MBX_EVENT_EN.word then hostWrite blk mbxOpen (eventEnableAct blk) h i w v bcast s else mbxWrite i w v bcast s
    | 0x02 => fluWrite h w v bcast s
    | 0x1B =>
      if w = TWN_EVENT_EN.word then (if h = s.crown then hostWrite blk twnOpen (eventEnableAct blk) h i w v bcast s else s)
      else twnWrite h w v bcast s
    | 0x0B => if w = GRT_TBL_DATA.word then grtDataAccess h (some v) s else hostWrite blk grtOpen grtAct h i w v bcast s
    | 0x14 =>
      if 0x400 ≤ w then
        match ashColumn s h w with
        | some x => if bcast || s.fon h 0 GRT_CTRL_EN then s else s.setAsh h x v
        | none => s
      else hostWrite blk ashOpen ashAct h i w v bcast s
    | 0x12 => pump h (hostWrite blk camOpen camAct h i w v bcast s)
    | 0x13 => if w = ISP_DLUT_DATA.word then dlutAccess h (some v) s else pump h (hostWrite blk ispOpen ispAct h i w v bcast s)
    | _ => hostWrite blk (blockOpen blk) (blockAct blk) h i w v bcast s

/-! ### Reading one word at one target -/

/-- The fields of a word whose read clears them. -/
def rcMask (blk i w : Nat) : Word :=
  (wordFields blk i w).foldl (fun m f => if f.acc == .rc then m ||| fieldMask f else m) 0

/-- A word whose read has a side effect of its own (R269, R141). -/
def readActs (blk i w : Nat) : Bool :=
  rcMask blk i w != 0 || (blk == BLK_FLU && decide (w < 0x80) && w % 4 == 1) || (blk == BLK_GRT && w == GRT_TBL_DATA.word)
    || (blk == BLK_ISP && w == ISP_DLUT_DATA.word)

/-- The value a word shows, nothing changed. DESIGN CHOICE (log 20). -/
def regPeek (s : State) (blk h i w : Nat) : Word :=
  match blk with
  | 0x00 =>
    if w = 0 then BitVec.ofNat 32 (0x5B00C000 + 65536 * s.nH + h)
    else if 6 ≤ w ∧ w ≤ 9 then sevWord s h (w - 6)
    else if w = GLB_PORT_STATUS.word then insertBits (s.rd 0 0 blk w) 0 1 (b2n !s.posted.isEmpty)
    else if w = GLB_IRQ.word then BitVec.ofNat 32 (irqPend s)
    else s.rd h i blk w
  | 0x01 => if w = MBX_STATUS.word then mbxStatus s i else s.rd h (if 0x14 ≤ w ∧ w ≤ 0x17 then 0 else i) blk w
  | 0x02 =>
    if w < 0x80 then
      (if w % 4 = 1 then (match (s.flue h (w / 4)).words with
        | [] => (s.flue h (w / 4)).last
        | e :: _ => e.1)
       else if w % 4 = 2 then flueStatus s h (w / 4) else s.rd h i blk w)
    else if w = FLU_IRQ.word then BitVec.ofNat 32 (flueIrqs s h)
    else s.rd h i blk w
  | 0x05 =>
    if w = GOR_CREDIT_LO.word then BitVec.ofNat 32 (creditShown s h i)
    else if w = GOR_CREDIT_HI.word then BitVec.ofNat 32 (creditShown s h i / 2 ^ 32) else s.rd h i blk w
  | 0x08 => if w = BAS_STATUS_DEC_WAIT.word then insertBits (s.rd h i blk w) 3 1 (b2n (decWaits s h)) else s.rd h i blk w
  | 0x0B =>
    if w = GRT_TBL_DATA.word then
      BitVec.ofNat 32 (grtShadow s h (s.fget h 0 GRT_TBL_ADDR_TABLE) (s.fget h 0 GRT_TBL_ADDR_INDEX))
    else s.rd h i blk w
  | 0x19 => if w = DRM_STATUS.word then insertBits (s.rd h i blk w) 8 2 (pausing s h) else s.rd h i blk w
  | 0x10 => if i < 4 ∧ w = FBK_STATUS.word then insertBits (s.rd h i blk w) 16 7 (causeNow s h i) else s.rd h i blk w
  | 0x13 =>
    if w = ISP_DLUT_DATA.word then BitVec.ofNat 32 (tabGet (fun _ => 0) (s.isp h).dlut (s.fget h 0 ISP_DLUT_ADDR_V)) else s.rd h i blk w
  | 0x14 => if 0x400 ≤ w then (match ashColumn s h w with
      | some x => s.ash h x
      | none => 0) else s.rd h i blk w
  | 0x1A =>
    if w = TIM_SEC_LO.word then BitVec.ofNat 32 s.tim.sec
    else if w = TIM_SEC_HI.word then BitVec.ofNat 32 (s.tim.sec / 2 ^ 32)
    else if w = TIM_NS.word then BitVec.ofNat 32 s.tim.ns
    else if w = TIM_FRAC.word then BitVec.ofNat 32 s.tim.frac
    else s.rd h i blk w
  | 0x1B => if twnCrownWord w && h != s.crown then 0 else if w = TWN_STATUS.word then twnStatus s else s.rd h i blk w
  | _ => s.rd h i blk w

/-- Latch words as they read now. DESIGN CHOICE (log 19). -/
def latchWords (blk h i : Nat) (ws : List Nat) (s : State) : State :=
  forEach ws (fun w s => { s with latches := tabSet (fun _ => 0) s.latches (rkey h blk i w) ((regPeek s blk h i w).toNat + 1) }) s

/-- Read one word at one target: its value, and what the read does (R8, R117, R288, R372). An RC field is left at its reset value:
0, and 255 for LANE_FOM.FOM_MIN (R35). -/
def regRead (blk h i w : Nat) (s : State) : Word × State :=
  let l := tabGet (fun _ => 0) s.latches (rkey h blk i w)
  if l ≠ 0 then (BitVec.ofNat 32 (l - 1), { s with latches := tabSet (fun _ => 0) s.latches (rkey h blk i w) 0 })
  else
    let v := regPeek s blk h i w
    let s := latchWords blk h i (latchedBy blk w) s
    let m := rcMask blk i w
    if blk = BLK_FLU ∧ w < 0x80 ∧ w % 4 = 1 then fluePop h (w / 4) 0 s
    else if blk = BLK_GRT ∧ w = GRT_TBL_DATA.word then (v, grtStep h s)
    else if blk = BLK_ISP ∧ w = ISP_DLUT_DATA.word then (v, dlutStep h s)
    else if m = 0 then (v, s)
    else (v, s.wr h i blk w ((s.rd h i blk w &&& ~~~ m) ||| (wordReset blk i w &&& m)))

/-! ### Accesses by address -/

/-- A write by address: every reachable target takes it; an unreachable one discards it. Answers whether one was (R267). -/
def busWrite (addr : Nat) (v : Word) (s : State) : Bool × State :=
  match regAddr addr with
  | none => (false, s)
  | some a =>
    let ts := targets s a
    let lost := ts.filter fun t => !targetUp s a t
    let s := forEach (ts.filter fun t => targetUp s a t) (fun t => regWrite a.blk t.1 t.2 a.word v a.bcast) s
    (!lost.isEmpty, onlyIf (!lost.isEmpty) (unreach s.crown) s)

/-- GLB_BCAST_DIFF after a broadcast read (R269). DESIGN CHOICE (log 18). -/
def diffShow (differ : List (Nat × Nat)) (s : State) : State :=
  let hs := (differ.map Prod.fst).eraseDups
  let is := (differ.map Prod.snd).eraseDups
  let s := (s.fput 0 0 GLB_BCAST_DIFF_HEARTHS (hs.map fun h => 2 ^ h).sum).fput 0 0 GLB_BCAST_DIFF_INST (is.map fun i => 2 ^ i).sum
  if differ = [] then s else s.fput 0 0 GLB_BCAST_DIFF_DIFF 1

/-- A read by address: `none` where a target is unreachable; an ignored address reads 0 (R6, R7, R269). -/
def busRead (addr : Nat) (s : State) : Option Word × State :=
  match regAddr addr with
  | none => (some 0, s)
  | some a =>
    match targets s a with
    | [] => (some 0, s)
    | t :: rest =>
      if (t :: rest).any fun t => !targetUp s a t then (none, unreach s.crown s)
      else
        let acts := readActs a.blk t.2 a.word
        let r := regRead a.blk t.1 t.2 a.word s
        let differ := if acts then [] else rest.filter fun u => regPeek s a.blk u.1 u.2 a.word != r.1
        (some r.1, if a.bcast then diffShow differ r.2 else r.2)

/-- A burst of reads; `none` where a word's target is unreachable. -/
def busReads (addr : Nat) : Nat → Nat → State → Option (List Word) × State
  | _, 0, s => (some [], s)
  | k, n + 1, s =>
    let r := busRead (burstAddr addr k) s
    match r.1 with
    | none => (none, r.2)
    | some v =>
      let q := busReads addr (k + 1) n r.2
      (q.1.map (v :: ·), q.2)

/-- A read handed to its requester. -/
def readRow (ok : RegAddr → Bool) (addr : Nat) (s : State) : State :=
  match regAddr addr with
  | none => s
  | some a =>
    if !ok a then s
    else
      let r := busRead addr s
      match r.1 with
      | some v => r.2.emit (.regRead addr v)
      | none => r.2.fput 0 0 GLB_PORT_STATUS_RTMO 1

/-- A write by address; a discarded one sets WERR (R267). -/
def writeRow (addr : Nat) (v : Word) (s : State) : State :=
  let r := busWrite addr v s
  if r.1 then r.2.fput 0 0 GLB_PORT_STATUS_WERR 1 else r.2

/-! ### The control port (R263–R267) -/

/-- Put a burst into the posted write buffer of 512 words; words beyond it are discarded. -/
def postWrites (addr : Nat) : Nat → List Word → State → State
  | _, [], s => s
  | k, v :: vs, s =>
    if 512 ≤ s.posted.length then s.fput 0 0 GLB_PORT_STATUS_OVF 1
    else postWrites addr (k + 1) vs { s with posted := s.posted ++ [(burstAddr addr k, v)] }

/-- One buffered word takes effect. DESIGN CHOICE (log 22). -/
def postedApply (s : State) : State :=
  match s.posted with
  | [] => s
  | (a, v) :: rest => writeRow a v { s with posted := rest }

/-- Every buffered word takes effect, in order. -/
def postedFlush : Nat → State → State
  | 0, s => s
  | n + 1, s => if s.posted.isEmpty then s else postedFlush n (postedApply s)

/-- Data words most significant byte first (R264). -/
def wireWords (ws : List Word) : List Byte := ws.flatMap fun w => beBytes 4 w.toNat

/-- A READ's answer (R266): token 0xA5 and the words, or 0xE1 and zeros. `late`: the words were not all held in RD_TMO.
DESIGN CHOICE (log 21). -/
def qspiRead (addr count : Nat) (late : Bool) (s : State) : State :=
  let n := count % 256 + 1
  let s := postedFlush 512 s
  let r := if late then (none, s) else busReads addr 0 n s
  match r.1 with
  | some ws => r.2.emit (.qspi (0xA5 :: wireWords ws))
  | none => (r.2.fput 0 0 GLB_PORT_STATUS_RTMO 1).emit (.qspi (0xE1 :: List.replicate (4 * n) 0))

/-- STATUS and ID (R265). -/
def qspiStatus (s : State) : State := s.emit (.qspi [BitVec.ofNat 8 (regPeek s BLK_GLB 0 0 GLB_PORT_STATUS.word).toNat])
def qspiId (s : State) : State := s.emit (.qspi (beBytes 4 (regPeek s BLK_GLB s.crown 0 0).toNat))

/-- An opcode byte alone: STATUS and ID need no more, WRITE and READ come to nothing without their fields, any other is
ignored. -/
def qspiOpcode (op : Nat) (s : State) : State := if op = 0x05 then qspiStatus s else if op = 0x9F then qspiId s else s

/-- A transaction begins: only between CS_N rising and the next opcode. -/
def portBegin (f : State → State) (s : State) : State := if s.portOpen then s else f { s with portOpen := true }

end Sys2Proof.Machine
end

