-- ==== Sys2Proof/Machine/Serve.lean ====
section
/-! DEFINITION. How a mailbox command is served (R299–R306, R360, R361): its payload, the checks in their order, its
hearths, its statuses and its responses. What each command checks and does is a `CmdSpec` of its family's file. -/

namespace Sys2Proof.Machine

/-! ### Status codes (R302) -/

abbrev cOK : Nat := 0x00
abbrev cACCEPTED : Nat := 0x01
abbrev cDEFERRED : Nat := 0x02
abbrev cDRAINED : Nat := 0x03
abbrev cABORTED : Nat := 0x04
abbrev cBAD_OPCODE : Nat := 0x10
abbrev cBAD_PARAM : Nat := 0x11
abbrev cBAD_STATE : Nat := 0x12
abbrev cNO_RESOURCE : Nat := 0x13
abbrev cBUSY : Nat := 0x14
abbrev cDENIED : Nat := 0x15
abbrev cCHECK_FAIL : Nat := 0x20
abbrev cSIGNATURE_FAIL : Nat := 0x21
abbrev cNO_GAIN : Nat := 0x22
abbrev cOUTPUT_LIMIT : Nat := 0x23
abbrev cOUT_OF_SPACE : Nat := 0x24
abbrev cLATE : Nat := 0x30
abbrev cTIMEOUT : Nat := 0x31
/-- Not a status: the command completes later on this hearth. -/
abbrev cPENDING : Nat := 0x100

/-! ### Payloads (R299, R300) -/

/-- The 56 payload bytes of an entry. -/
def pay (c : Cmd) : List Byte := padTo 56 (c.payload.take 56)

def u8 (c : Cmd) (i : Nat) : Nat := byteAt (pay c) i
def u16 (c : Cmd) (i : Nat) : Nat := leAt (pay c) i 2
def u32 (c : Cmd) (i : Nat) : Nat := leAt (pay c) i 4
def u64 (c : Cmd) (i : Nat) : Nat := leAt (pay c) i 8
/-- A field as a register word. -/
def uW (c : Cmd) (i : Nat) : Word := BitVec.ofNat 32 (u32 c i)
/-- `n` reserved bytes from `i` are zero. -/
def res0 (c : Cmd) (i n : Nat) : Bool := allZero (slice (pay c) i n)

/-- H, HMASK in payload byte 0; H of an FB_ or MOT_ command. -/
def hOk (s : State) (c : Cmd) : Bool := s.hasH (u8 c 0)
def maskOk (s : State) (c : Cmd) : Bool := u8 c 0 != 0 && decide (u8 c 0 < 2 ^ s.nH)
def fbOk (s : State) (c : Cmd) : Bool := s.hasH (u8 c 0) && decide (u8 c 0 < 2)
/-- PMASK, FORCE, P in range. -/
def pmaskOk (m : Nat) : Bool := decide (m < 4096)
def forceOk (f : Nat) : Bool := decide (f ≤ 1)

/-- Hearths of HMASK, the hearth of H, the crown. -/
def nameMask (s : State) (c : Cmd) : List Nat := below s.nH (bit (u8 c 0))
def nameH (_ : State) (c : Cmd) : List Nat := [u8 c 0]
def nameCrown (s : State) (_ : Cmd) : List Nat := [s.crown]

/-- Bits of a word that belong to a field. -/
def wordMask (blk i w : Nat) : Word := (wordFields blk i w).foldl (fun m f => m ||| fieldMask f) 0

/-- A register word has no reserved bit set. -/
def wordOk (blk i w : Nat) (v : Word) : Bool := (v &&& ~~~ wordMask blk i w) == 0

/-- A value fits its field. -/
def fits (f : Fld) (v : Nat) : Bool := decide (v < 2 ^ f.len)

/-- Bits of a word's RWL fields. -/
def rwlMask (blk i w : Nat) : Word :=
  (wordFields blk i w).foldl (fun m f => if f.acc == .rwl then m ||| fieldMask f else m) 0

/-- An RWL field of the word would change. -/
def rwlDiffers (s : State) (blk h i w : Nat) (v : Word) : Bool := ((v ^^^ s.rd h i blk w) &&& rwlMask blk i w) != 0

/-- A command's write of a register word. -/
def putWord (blk h i w : Nat) (v : Word) (s : State) : State := regWrite blk h i w v false s

/-- A command's write of fields of a word: the other fields as they stand, or as staged for a privileged word (R306). -/
def putFlds (h i : Nat) (blk w : Nat) (fs : List (Fld × Nat)) (s : State) : State :=
  let privl := (wordFields blk i w).any fun f => f.priv
  let old := s.rd h i blk w
  let old := if privl then (old &&& ~~~ privMask blk i w) ||| (s.stg h i blk w &&& privMask blk i w) else old
  putWord blk h i w (fs.foldl (fun v e => insertBits v e.1.lo e.1.len e.2) (old &&& ~~~ actMask blk i w)) s

/-- A command's write of one field. -/
def putFld (h i : Nat) (f : Fld) (v : Nat) (s : State) : State := putFlds h i f.blk f.word [(f, v)] s

/-- Words of the payload from byte `o` written to consecutive words from `w`. -/
def putWords (c : Cmd) (o n blk h i w : Nat) (s : State) : State :=
  forEach (List.range n) (fun k s => putWord blk h i (w + k) (uW c (o + 4 * k)) s) s

/-- The words of the payload from byte `o` have no reserved bit set in the words from `w`. -/
def wordsOk (c : Cmd) (o n blk i w : Nat) : Bool := (List.range n).all fun k => wordOk blk i (w + k) (uW c (o + 4 * k))

/-! ### What a command is -/

/-- Classes (R303). -/
inductive CmdClass where
  | q | l | p
deriving DecidableEq, Repr

/-- What a command does on one hearth: a status (or `cPENDING`; 256 × the ends still awaited), response bytes, notes for
its end, the state. -/
structure CmdRes where
  st : Nat := 0
  pay : List Byte := []
  note : List Nat := []
  s : State

/-- A command of the set: opcode, class, whether it completes later, length of its layout, its field checks, the hearths
it names, whether it answers with HSTAT and acts on all or none of them, its other checks and its effect on one hearth,
what a failed check leaves behind; for one that completes later, its status on a hearth once that is known, and its response. -/
structure CmdSpec where
  op : Nat
  cls : CmdClass
  later : Cmd → Bool := fun _ => false
  size : Cmd → Nat := fun _ => 0
  ok : State → Cmd → Bool := fun _ _ => true
  named : State → Cmd → List Nat := nameCrown
  hstat : Bool := false
  allOrNone : Bool := false
  check : Cmd → Nat → State → Nat := fun _ _ _ => 0
  act : Cmd → Nat → State → CmdRes := fun _ _ s => { s := s }
  fails : Cmd → Nat → State → State := fun _ _ s => s
  poll : DOp → Nat → State → Option Nat := fun _ _ _ => none
  fin : DOp → State → List Byte := fun _ _ => []

/-- Shapes of an effect: OK, OK with a response, a status. -/
def okRes (s : State) : CmdRes := { s := s }
def payRes (p : List Byte) (s : State) : CmdRes := { pay := p, s := s }
def stRes (st : Nat) (s : State) : CmdRes := { st := st, s := s }

/-! ### Responses -/

/-- Produce a response of a command; one taken from a twin frame has no channel of this unit. DEDUCED (log 111). -/
def answer (c : Cmd) (op st : Nat) (p : List Byte) (s : State) : State :=
  if c.ch < 4 then produce c.ch (respEntry op c.tag st 0 c.gen p) s else s

/-- HSTAT before any hearth has a status. -/
def noStat : List Nat := List.replicate 8 0xFF

/-- The highest status of the named hearths (R301). -/
def worst (hs : List Nat) : Nat := (hs.filter fun v => v != 0xFF).foldl max 0

/-- HSTAT's bytes. -/
def hsBytes (hs : List Nat) : List Byte := hs.map (BitVec.ofNat 8)

/-- Every hearth has its status. -/
def allKnown (hs : List Nat) : Bool := hs.all fun v => decide (v < 256)

/-- The command has run on every hearth: its final response, or it waits. -/
def conclude (sp : CmdSpec) (c : Cmd) (hs : List Nat) (p : List Byte) (note : List Nat) (s : State) : State :=
  if allKnown hs then answer c sp.op (worst hs) (if sp.hstat then hsBytes hs else p) s
  else if c.ch < 4 then
    { s with
      dops := s.dops ++ [{
        ch := c.ch, tag := c.tag, gen := c.gen, op := sp.op, cmd := c, named := below 8 fun h => hs.getD h 0xFF != 0xFF, hs := hs
        note := note }] }
  else s

/-! ### Serving -/

/-- The mode or the role forbids the command (R303). -/
def modeDenies (s : State) (sp : CmdSpec) : Bool :=
  match s.mode with
  | 2 => sp.cls == .p && s.fget s.crown 0 TWN_STATUS_ROLE == 2
  | 3 => sp.cls != .q || sp.op == 0x0101
  | _ => sp.cls != .q

/-- A hearth a command names cannot be reached or was left out of the boot; in JUNIOR mode one of the other half is denied
(R309, R335, R340). -/
def hearthGate (s : State) (h : Nat) : Nat :=
  if s.mode = 3 ∧ decide (h < 4) ≠ decide (s.crown < 4) then cDENIED
  else if !bit s.absent h && (h == s.crown || reachable s s.crown h) then 0 else cTIMEOUT

/-- What a command that its hearth refuses leaves behind: where the hearth is unreachable, its packet was discarded (R247). -/
def failAt (sp : CmdSpec) (c : Cmd) (h : Nat) (s : State) : State :=
  if hearthGate s h = 0 then sp.fails c h s
  else if hearthGate s h = cTIMEOUT ∧ !bit s.absent h then unreach s.crown s
  else s

/-- The checks of a command on one hearth. -/
def checkAt (sp : CmdSpec) (c : Cmd) (h : Nat) (s : State) : Nat :=
  let g := hearthGate s h
  if g ≠ 0 then g else sp.check c h s

/-- Run a command on one hearth; its checks come first. -/
def runAt (sp : CmdSpec) (c : Cmd) (h : Nat) (s : State) : CmdRes :=
  let k := checkAt sp c h s
  if k ≠ 0 then stRes k (failAt sp c h s) else sp.act c h s

/-- What a command has gathered from the hearths it ran on. -/
structure Gather where
  hs : List Nat := noStat
  pay : List Byte := []
  note : List Nat := []
  s : State

/-- Run a command on one hearth and gather its result. -/
def gatherAt (sp : CmdSpec) (c : Cmd) (h : Nat) (g : Gather) : Gather :=
  let r := runAt sp c h g.s
  { hs := g.hs.set h r.st, pay := g.pay ++ r.pay, note := g.note ++ r.note, s := r.s }

/-- Run a command on hearths, lowest first. -/
def runOn (sp : CmdSpec) (c : Cmd) (hs : List Nat) (s : State) : Gather :=
  hs.foldl (fun g h => gatherAt sp c h g) { s := s }

/-- The CMD frame of a command (R353). -/
def cmdEntry (op : Nat) (c : Cmd) : List Byte :=
  leBytes 2 op ++ leBytes 1 c.tag ++ leBytes 1 c.flags ++ leBytes 2 c.len ++ [0] ++ leBytes 1 c.gen ++ pay c
def cmdFrame (t : TwnCmd) (s : State) : State :=
  twinSend 2 0xFF (cmdEntry t.op t.cmd ++ (List.range 8).flatMap fun h =>
    leBytes 8 (((t.apply.find? fun e => e.1 == h).map Prod.snd).getD 0)) s

/-- A P command accepted by the active unit of a pair in step: it applies at LNUM + LEAD on each hearth; a commit waits
for the mirror as well (R361). DEDUCED (log 150). -/
def twinSchedule (sp : CmdSpec) (c : Cmd) (hs : List Nat) (s : State) : State :=
  let t : TwnCmd := { op := sp.op, cmd := c, mine := true, apply := hs.map fun h => (h, lnum s h + twnLead s), hs := noStat, left := hs }
  if (sp.op == 0x0401 || sp.op == 0x0402) && hs.any (fun h => mirrorHolds s h (u32 c 4)) then
    setTwn (fun x => { x with heldCmds := x.heldCmds ++ [t] }) s
  else cmdFrame t (setTwn (fun x => { x with cmds := x.cmds ++ [t] }) s)

/-- The checks of fields and states have passed as far as the command can tell: act, or answer why not (R301, R304, R305). -/
def serveChecked (sp : CmdSpec) (c : Cmd) (s : State) : State :=
  let hs := sp.named s c
  let ks := hs.map fun h => (h, checkAt sp c h s)
  let good := (ks.filter fun e => e.2 == 0).map Prod.fst
  if good.isEmpty || (sp.allOrNone && good.length != hs.length) then
    conclude sp c (ks.foldl (fun l e => l.set e.1 e.2) noStat) [] []
      (forEach (ks.filter fun e => e.2 != 0) (fun e s => failAt sp c e.1 s) s)
  else
    let s := if sp.later c && !bit c.flags 1 then answer c sp.op cACCEPTED [] s else s
    if sp.cls == .p && twnLeads s then twinSchedule sp c hs s
    else
      let g := runOn sp c hs s
      conclude sp c g.hs g.pay g.note g.s

/-- Serve a command (R304). -/
def serve (sp : CmdSpec) (c : Cmd) (s : State) : State :=
  if 56 < c.len then answer c sp.op cBAD_PARAM [] s
  else if modeDenies s sp then answer c sp.op cDENIED [] s
  else if c.len < sp.size c ∨ !sp.ok s c then answer c sp.op cBAD_PARAM [] s
  else serveChecked sp c s

/-- A command entry taken from a channel: a tag in use is refused (R277), any other is outstanding and served. -/
def serveRow (sp : CmdSpec) (c : Cmd) (s : State) : State :=
  if !mbxOk c.ch then s
  else if (s.mbx c.ch).outst.contains c.tag then tagBusy c.ch (cmdEntry sp.op c) s
  else serve sp c (s.setMbx c.ch { (s.mbx c.ch) with outst := (s.mbx c.ch).outst ++ [c.tag] })

end Sys2Proof.Machine
end

