-- ==== Sys2Proof/Machine/CmdLink.lean ====
section
/-! DEFINITION. The LINK commands (R310): lanes and Gorge sessions. -/

namespace Sys2Proof.Machine

/-- Four bytes of a register read, with what the read does. -/
def readWord (blk h i w : Nat) (s : State) : List Byte × State :=
  let r := regRead blk h i w s
  (leBytes 4 r.1.toNat, r.2)

/-- Register words read one after another. -/
def readWords (blk h i : Nat) : List Nat → State → List Byte × State
  | [], s => ([], s)
  | w :: ws, s =>
    let a := readWord blk h i w s
    let b := readWords blk h i ws a.2
    (a.1 ++ b.1, b.2)

/-! ### Lanes -/

/-- The hearth has the lane. -/
def laneHere (c : Cmd) (h : Nat) (s : State) : Nat := if laneOk s h (u8 c 1) then 0 else cBAD_PARAM

def cmdLinkStatus : CmdSpec := {
  op := 0x0300, cls := .q
  size := fun _ => 2
  ok := fun s c => hOk s c && laneOk s (u8 c 0) (u8 c 1)
  named := nameH
  act := fun c h s =>
    let r := readWords BLK_LANE h (u8 c 1) [LANE_STATUS.word, LANE_FOM.word, LANE_FEC_SYM.word, LANE_FEC_UNC.word] s
    payRes r.1 r.2 }

/-- LINK_UP: the flags, the mode and EN in one write. DEDUCED (log 115). -/
def cmdLinkUp : CmdSpec := {
  op := 0x0301, cls := .l, later := fun _ => true
  size := fun _ => 4
  ok := fun s c => maskOk s c && decide (u8 c 1 < 6) && modeOk (u8 c 1) (u8 c 2)
  named := nameMask, hstat := true
  check := fun c h s =>
    let k := laneHere c h s
    if k ≠ 0 then k else if s.fon h (u8 c 1) LANE_CTRL_EN then cBAD_STATE else 0
  act := fun c h s =>
    let f := u8 c 3
    stRes cPENDING (putFlds h (u8 c 1) BLK_LANE 0
      [(LANE_CTRL_MODE, u8 c 2), (LANE_CTRL_TBL_USE, bits f 0 1), (LANE_CTRL_BOND, bits f 1 1), (LANE_CTRL_POL_AUTO, bits f 2 1),
       (LANE_CTRL_REV_AUTO, bits f 3 1), (LANE_CTRL_EN, 1)] s)
  poll := fun d h s =>
    let st := laneSt s h (u8 d.cmd 1)
    if st = 5 then some cOK else if st = 7 then some cTIMEOUT else if st = 0 then some cABORTED else none }

def cmdLinkDown : CmdSpec := {
  op := 0x0302, cls := .l
  size := fun _ => 2
  ok := fun s c => maskOk s c && decide (u8 c 1 < 6)
  named := nameMask, hstat := true
  check := laneHere
  act := fun c h s => okRes (putFld h (u8 c 1) LANE_CTRL_EN 0 s) }

def cmdLinkEq : CmdSpec := {
  op := 0x0303, cls := .l
  size := fun _ => 8
  ok := fun s c => hOk s c && laneOk s (u8 c 0) (u8 c 1) && fits LANE_TXEQ_PRE2 (u8 c 2) && fits LANE_TXEQ_PRE1 (u8 c 3)
    && fits LANE_TXEQ_POST1 (u8 c 4) && fits LANE_TXEQ_POST2 (u8 c 5) && fits LANE_RXEQ_CTLE_INIT (u8 c 6)
    && fits LANE_RXEQ_VGA_INIT (u8 c 7)
  named := nameH
  check := fun c h s => if s.fon h (u8 c 1) LANE_CTRL_EN then cBAD_STATE else 0
  act := fun c h s =>
    let l := u8 c 1
    let s := putFlds h l BLK_LANE LANE_TXEQ.word
      [(LANE_TXEQ_PRE2, u8 c 2), (LANE_TXEQ_PRE1, u8 c 3), (LANE_TXEQ_POST1, u8 c 4), (LANE_TXEQ_POST2, u8 c 5)] s
    okRes (putFlds h l BLK_LANE LANE_RXEQ.word [(LANE_RXEQ_CTLE_INIT, u8 c 6), (LANE_RXEQ_VGA_INIT, u8 c 7)] s) }

/-- LINK_PRBS: generator, checker and loopback on; PRBS_TEST_END turns them off after MS ms. -/
def cmdLinkPrbs : CmdSpec := {
  op := 0x0304, cls := .l, later := fun _ => true
  size := fun _ => 6
  ok := fun s c => hOk s c && laneOk s (u8 c 0) (u8 c 1) && fits TST_PRBS_CTRL_PATTERN (u8 c 2)
  named := nameH
  check := fun c h s => if (s.lane h (u8 c 1)).test.isSome then cBUSY else 0
  act := fun c h s =>
    let l := u8 c 1
    let f := u8 c 3
    let s := s.setLane h l { (s.lane h l) with test := some (c.ch, c.tag) }
    stRes cPENDING (putFlds h l BLK_TST 0
      [(TST_PRBS_CTRL_PATTERN, u8 c 2), (TST_PRBS_CTRL_GEN_EN, bits f 0 1), (TST_PRBS_CTRL_CHK_EN, bits f 1 1),
       (TST_PRBS_CTRL_INVERT, bits f 2 1), (TST_PRBS_CTRL_LOOPBACK, bits f 3 2)] s)
  fin := fun d _ => leBytes 8 (d.note.getD 0 0) ++ leBytes 8 (d.note.getD 1 0) ++ leBytes 1 (d.note.getD 2 0) }

/-- PRBS_TEST_END (R310): the counts are read, then the test's bits are cleared. -/
def prbsTestEnd (h l : Nat) (s : State) : State :=
  if !laneOk s h l then s
  else match (s.lane h l).test with
    | none => s
    | some (ch, tag) =>
      let b := regRead BLK_TST h l TST_PRBS_BITS.word s
      let e := regRead BLK_TST h l TST_PRBS_ERR.word b.2
      let lost := e.2.fget h l TST_PRBS_STAT_LOCK_LOST
      let s := e.2.setLane h l { (e.2.lane h l) with test := none }
      let s := putFlds h l BLK_TST 0 [(TST_PRBS_CTRL_GEN_EN, 0), (TST_PRBS_CTRL_CHK_EN, 0), (TST_PRBS_CTRL_LOOPBACK, 0)] s
      let s := { s with
        dops := s.dops.map fun d => if d.ch == ch && d.tag == tag then { d with note := [b.1.toNat, e.1.toNat, lost] } else d }
      noteDop (some (ch, tag)) h 0 s

/-! ### Gorge sessions -/

/-- INST and ROLE go together (R55). -/
def roleOk (i r : Nat) : Bool := (i == 0 && r == 0) || (i == 1 && (r == 1 || r == 2))

def cmdGorgeOn : CmdSpec := {
  op := 0x0305, cls := .p
  size := fun _ => 12
  ok := fun s c => maskOk s c && roleOk (u8 c 1) (u8 c 2)
  named := nameMask, hstat := true
  check := fun c h s => if gorSess s h (u8 c 1) = 0 then 0 else cBAD_STATE
  act := fun c h s =>
    let i := u8 c 1
    let s := putWords c 4 2 BLK_GOR h i GOR_LOCK_LO.word s
    okRes (putFlds h i BLK_GOR 0 [(GOR_CTRL_ROLE, u8 c 2), (GOR_CTRL_SENDER_LOCK, bits (u8 c 3) 0 1), (GOR_CTRL_EN, 1)] s) }

def cmdGorgeOff : CmdSpec := {
  op := 0x0306, cls := .p, later := fun _ => true
  size := fun _ => 3
  ok := fun s c => maskOk s c && decide (u8 c 1 < 2) && forceOk (u8 c 2)
  named := nameMask, hstat := true
  act := fun c h s =>
    let i := u8 c 1
    if u8 c 2 = 1 then stRes cPENDING (putFld h i GOR_CTRL_FORCE_OFF 1 s)
    else if gorSess s h i = 0 then stRes cDRAINED s
    else stRes cPENDING (putFld h i GOR_CTRL_EN 0 s)
  poll := fun d h s => if gorSess s h (u8 d.cmd 1) = 4 then none else some (s.fget h (u8 d.cmd 1) GOR_DRAIN_RESULT) }

def cmdGorgeStatus : CmdSpec := {
  op := 0x0307, cls := .q
  size := fun _ => 2
  ok := fun s c => hOk s c && decide (u8 c 1 < 2)
  named := nameH
  act := fun c h s =>
    let i := u8 c 1
    payRes (leBytes 1 (gorSess s h i) ++ leBytes 1 (s.fget h i GOR_STATUS_LANES) ++ leBytes 2 (s.fget h i GOR_STATUS_EPOCH)
      ++ leBytes 4 (s.fget h i GOR_RCV_NXT) ++ leBytes 8 (s.get64 h i GOR_PEER_LO) ++ leBytes 8 (s.get64 h i GOR_BYTE_LO)
      ++ leBytes 8 (creditShown s h i) ++ leBytes 4 (s.fget h i GOR_DISCARD) ++ leBytes 1 (s.fget h i GOR_DISCARD_WHY_V)
      ++ [0, 0, 0]) s }

/-- A cancel: FIRST = LAST = 0xFFFF_FFFF. -/
def rewindCancels (c : Cmd) : Bool := u32 c 4 == 0xFFFFFFFF && u32 c 8 == 0xFFFFFFFF

/-- GORGE_REWIND: REASON is 2 where the range names a page discarded or refused in the session, else 1. DESIGN CHOICE (log 171). -/
def cmdGorgeRewind : CmdSpec := {
  op := 0x0308, cls := .p, later := fun c => !rewindCancels c
  size := fun _ => 16
  ok := fun s c => hOk s c && decide (u8 c 1 < 2) && res0 c 2 2
  named := nameH
  check := fun c h s =>
    let i := u8 c 1
    let here := (s.gor h i).rewinds.any fun r => r.req == u32 c 12
    if rewindCancels c then (if here then 0 else cBAD_PARAM)
    else if gorSess s h i ≠ 3 ∨ isSender s h i then cBAD_STATE
    else if here then cBUSY else 0
  act := fun c h s =>
    let i := u8 c 1
    if rewindCancels c then okRes (rewindEnd h i (u32 c 12) cABORTED s)
    else
      let r : Rewind := { first := u32 c 4, last := u32 c 8, req := u32 c 12, reason := 1 }
      stRes cPENDING (rewindStart h i { r with reason := if (s.gor h i).gone.any r.names then 2 else 1 } s)
  poll := fun d h s => ((s.gor h (u8 d.cmd 1)).rewindEnds.find? fun e => e.1 == u32 d.cmd 12).map Prod.snd }

end Sys2Proof.Machine
end

