-- ==== Sys2Proof/Machine/CmdPage.lean ====
section
/-! DEFINITION. The PAGE commands (R311): pages and the Basin. -/

namespace Sys2Proof.Machine

/-- Code of a page state. -/
def PageSt.code : PageSt → Nat
  | .opened => 0 | .loading => 1 | .complete => 2 | .committed => 3 | .firing => 4 | .fired => 5 | .retired => 6 | .gone => 7

/-- Shape of the commands with HMASK and PAGE. -/
def pageMaskOk (s : State) (c : Cmd) : Bool := maskOk s c && res0 c 1 3

/-- The page of the command on a hearth, or BAD_PARAM (R99). -/
def onPage (c : Cmd) (h : Nat) (f : Page → Nat) (s : State) : Nat :=
  match findPage s h (u32 c 4) with
  | none => cBAD_PARAM
  | some p => f p

def cmdPageQuery : CmdSpec := {
  op := 0x0400, cls := .q
  size := fun _ => 8
  ok := fun s c => hOk s c && res0 c 1 3
  named := nameH
  check := fun c h s => onPage c h (fun _ => 0) s
  act := fun c h s => match findPage s h (u32 c 4) with
    | none => okRes s
    | some p =>
      let fl := b2n p.ready + 2 * b2n p.defective + 4 * b2n (p.failedJob || p.fail != 0) + 8 * b2n p.defer + 16 * b2n p.suppressed
        + 32 * b2n p.notInspected + 64 * b2n p.declared
      payRes (leBytes 1 p.st.code ++ leBytes 1 fl ++ leBytes 1 p.why ++ leBytes 1 p.port ++ leBytes 1 p.fail
        ++ leBytes 1 (min 255 p.slips) ++ [0, 0] ++ leBytes 4 p.lines
        ++ leBytes 8 (if p.st.code < 4 then 0 else p.lnum0) ++ leBytes 8 p.start
        ++ leBytes 8 (p.fin - p.start)) s }

/-- Why a commit or a reprint of a page is refused (R99, R126, R135). -/
def commitCheck (want : PageSt) (c : Cmd) (h : Nat) (s : State) : Nat :=
  onPage c h (fun p =>
    if p.st != want then cBAD_STATE
    else if !commitOk s h p then cBAD_PARAM
    else if 8 ≤ (s.ter h).queue.length then cNO_RESOURCE else 0) s

def cmdPageCommit : CmdSpec := {
  op := 0x0401, cls := .p
  size := fun _ => 8
  ok := pageMaskOk, named := nameMask, hstat := true, allOrNone := true
  check := commitCheck .complete
  act := fun c h s => okRes (acceptCommit h (u32 c 4) false s).1 }

/-- PAGE_REPRINT: of a RETIRED page; of another page with a deferred release it cancels the deferral (R99). -/
def cmdPageReprint : CmdSpec := {
  op := 0x0402, cls := .p
  size := fun _ => 8
  ok := pageMaskOk, named := nameMask, hstat := true, allOrNone := true
  check := fun c h s => onPage c h (fun p => if p.defer && p.st != .retired then 0 else commitCheck .retired c h s) s
  act := fun c h s => match findPage s h (u32 c 4) with
    | none => okRes s
    | some p =>
      if p.st == .retired then okRes (acceptCommit h p.id true s).1
      else okRes (mapPage h p.id (fun q => { q with defer := false }) s) }

/-- PAGE_RELEASE (R99); a release that the mirror session holds back is deferred too (R87). -/
def cmdPageRelease : CmdSpec := {
  op := 0x0403, cls := .p
  size := fun _ => 8
  ok := pageMaskOk, named := nameMask, hstat := true
  check := fun c h s => onPage c h (fun p => if p.st == .opened || p.st == .loading then cBAD_STATE else 0) s
  act := fun c h s => match findPage s h (u32 c 4) with
    | none => okRes s
    | some p =>
      if p.st == .complete || p.st == .retired then
        stRes (if mirrorHolds s h p.id then cDEFERRED else cOK) (releasePage h p.id s)
      else stRes cDEFERRED (mapPage h p.id (fun q => { q with defer := true }) s) }

def cmdPageAbort : CmdSpec := {
  op := 0x0404, cls := .p
  size := fun _ => 8
  ok := pageMaskOk, named := nameMask, hstat := true
  check := fun c h s => onPage c h (fun p => if p.st == .opened || p.st == .loading then 0 else cBAD_STATE) s
  act := fun c h s => match findPage s h (u32 c 4) with
    | none => okRes s
    | some p => okRes (drainCheck h p.inst (pageDiscard h p.inst p.id 0x12 s)) }

/-- PAGE_WITHDRAW: out of the queue, back to the state it was committed from. DEDUCED (log 116). -/
def cmdPageWithdraw : CmdSpec := {
  op := 0x0405, cls := .p
  size := fun _ => 8
  ok := pageMaskOk, named := nameMask, hstat := true
  check := fun c h s => onPage c h (fun p =>
    if p.st == .committed then (if (s.ter h).queue.contains p.id then 0 else cLATE)
    else if p.st == .firing || p.st == .fired then cLATE
    else cBAD_STATE) s
  act := fun c h s =>
    let pg := u32 c 4
    let s := queueShow h (s.setTer h { (s.ter h) with queue := (s.ter h).queue.filter fun q => q != pg })
    let s := mapPage h pg (fun q => { q with st := if q.reprint then .retired else .complete }) s
    okRes (basRefresh h (lbSweep h s)) }

/-- PAGE_DECLARE (R133): a page without local layers, COMPLETE at once. DEDUCED (log 47). -/
def cmdPageDeclare : CmdSpec := {
  op := 0x0406, cls := .p
  size := fun _ => 12
  ok := fun s c => pageMaskOk s c && u32 c 8 != 0 && u32 c 4 != 0xFFFFFFFF
  named := nameMask, hstat := true
  check := fun c h s =>
    if (findPage s h (u32 c 4)).isSome then cBAD_PARAM
    else if 2048 ≤ (heldPages s h).length then cNO_RESOURCE else 0
  act := fun c h s =>
    let x := s.bas h
    let s := s.setBas h { x with nextCompl := x.nextCompl + 1 }
    let s := enterPage h { id := u32 c 4, st := .complete, lines := u32 c 8, declared := true, complSeq := x.nextCompl } s
    okRes (readyEvent h (u32 c 4) s) }

/-- PAGE_WAIT: a hearth has its answer once the page holds STATE or a higher code, or has gone from some hearth that waits.
DEDUCED (log 117). -/
def cmdPageWait : CmdSpec := {
  op := 0x0407, cls := .q, later := fun _ => true
  size := fun _ => 12
  ok := fun s c => maskOk s c && decide (u8 c 1 ≤ 6) && res0 c 2 2
  named := nameMask, hstat := true
  check := fun c h s => onPage c h (fun _ => 0) s
  act := fun _ _ s => stRes cPENDING s
  poll := fun d h s =>
    let pg := u32 d.cmd 4
    if (below 8 fun g => d.hs.getD g 0xFF == cPENDING).any fun g => (findPage s g pg).isNone then some cABORTED
    else match findPage s h pg with
      | none => some cABORTED
      | some p => if u8 d.cmd 1 ≤ p.st.code then some cOK else none }

/-- PAGE_LIST: pages in the named states from table position START, oldest first. -/
def cmdPageList : CmdSpec := {
  op := 0x0408, cls := .q
  size := fun _ => 4
  ok := fun s c => hOk s c && decide (u8 c 1 < 128)
  named := nameH
  act := fun c h s =>
    let hits := (heldPages s h).zipIdx.filter fun e => decide (u16 c 2 ≤ e.2) && bit (u8 c 1) e.1.st.code
    let now := hits.take 12
    let next := match hits.drop 12 with
      | [] => 0xFFFF
      | e :: _ => e.2
    payRes (leBytes 1 now.length ++ [0] ++ leBytes 2 next ++ now.flatMap fun e => leBytes 4 e.1.id) s }

def cmdPageBasin : CmdSpec := {
  op := 0x0409, cls := .q
  size := fun _ => 1
  ok := hOk, named := nameH
  act := fun _ h s =>
    let r := readWords BLK_BAS h 0 [BAS_LOSS_FIRST.word, BAS_LOSS_LAST.word, BAS_LOSS_COUNT.word, BAS_FAIL_PAGE.word] s
    payRes (leBytes 8 (s.get64 h 0 BAS_WP_LO) ++ leBytes 8 (s.get64 h 0 BAS_RP_LO) ++ leBytes 8 (s.get64 h 0 BAS_MARK_LO)
      ++ leBytes 8 (s.get64 h 0 BAS_FREE_LO) ++ leBytes 4 (s.fget h 0 BAS_MARK_PAGE) ++ leBytes 2 (s.fget h 0 BAS_STATUS_PAGES)
      ++ leBytes 1 (s.fget h 0 BAS_STATUS_LBS) ++ leBytes 1 (s.fget h 0 BAS_STATUS_AHEAD) ++ r.1) r.2 }

def cmdPageBasinSet : CmdSpec := {
  op := 0x040A, cls := .p
  size := fun _ => 44
  ok := fun s c => maskOk s c && decide (u8 c 1 ≤ 1) && fits BAS_CTRL_DEC_AHEAD (u8 c 3)
  named := nameMask, hstat := true
  check := fun _ h s => if basActive s h then cBAD_STATE else 0
  act := fun c h s =>
    let s := putWords c 4 8 BLK_BAS h 0 BAS_RING_BASE_LO.word s
    let s := putWords c 36 2 BLK_BAS h 0 BAS_RB_BASE_LO.word s
    let s := putFlds h 0 BLK_BAS 0 [(BAS_CTRL_POLICY, u8 c 1), (BAS_CTRL_RETAIN, u8 c 2), (BAS_CTRL_DEC_AHEAD, u8 c 3)] s
    let s := putFld h 0 BAS_CTRL_EN 1 s
    stRes (if basEn s h then cOK else cBAD_PARAM) s }

def cmdPageRetain : CmdSpec := {
  op := 0x040B, cls := .p
  size := fun _ => 3
  ok := fun s c => maskOk s c && fits BAS_CTRL_DEC_AHEAD (u8 c 2)
  named := nameMask, hstat := true
  act := fun c h s => okRes (putFlds h 0 BLK_BAS 0 [(BAS_CTRL_RETAIN, u8 c 1), (BAS_CTRL_DEC_AHEAD, u8 c 2)] s) }

end Sys2Proof.Machine
end

