-- ==== Sys2Proof/Machine/CmdLayer.lean ====
section
/-! DEFINITION. The LAYER and SCREEN commands (R312, R313): terraces, slots, host-owned buffers, Grate tables, the Ash map. -/

namespace Sys2Proof.Machine

/-! ### LAYER (R312) -/

/-- A terrace number. -/
def terOk (t : Nat) : Bool := decide (t < 8)

def cmdLayerSet : CmdSpec := {
  op := 0x0500, cls := .p
  size := fun _ => 32
  ok := fun s c => maskOk s c && terOk (u8 c 1) && res0 c 2 2 && wordsOk c 4 7 BLK_TER 0 (TER_T_FMT (u8 c 1)).word
  named := nameMask, hstat := true
  act := fun c h s => okRes (putWords c 4 7 BLK_TER h 0 (TER_T_FMT (u8 c 1)).word s) }

def cmdLayerGet : CmdSpec := {
  op := 0x0501, cls := .q
  size := fun _ => 2
  ok := fun s c => hOk s c && terOk (u8 c 1)
  named := nameH
  act := fun c h s =>
    let r := readWords BLK_TER h 0 ((List.range 7).map fun k => (TER_T_FMT (u8 c 1)).word + k) s
    payRes r.1 r.2 }

def cmdLayerRoute : CmdSpec := {
  op := 0x0502, cls := .p
  size := fun _ => 8
  ok := fun s c => maskOk s c && terOk (u8 c 1) && fits (TER_ROUTE_FMT_V 0) (u8 c 2) && res0 c 3 1
  named := nameMask, hstat := true
  act := fun c h s =>
    let t := u8 c 1
    let s := putFld h 0 (TER_ROUTE_FMT_V t) (u8 c 2) s
    okRes (putWord BLK_TER h 0 (TER_ROUTE_MAP t).word (uW c 4) s) }

def cmdLayerSlot : CmdSpec := {
  op := 0x0503, cls := .p
  size := fun _ => 12
  ok := fun s c => maskOk s c && res0 c 2 2
  named := nameMask, hstat := true
  act := fun c h s =>
    let s := putFlds h 0 BLK_TER TER_SLOT.word [(TER_SLOT_GAP, u16 c 4), (TER_SLOT_GUARD, u16 c 6)] s
    let s := putFlds h 0 BLK_TER 0 [(TER_CTRL_IDLE_LINES, u16 c 8), (TER_CTRL_SLIP_MAX, u8 c 1)] s
    okRes (putFld h 0 TER_FETCH_MAX (u16 c 10) s) }

def cmdLayerOn : CmdSpec := {
  op := 0x0504, cls := .p
  size := fun _ => 2
  ok := maskOk, named := nameMask, hstat := true
  check := fun _ h s => if terActive s h then cBAD_STATE else 0
  act := fun c h s =>
    let s := putFld h 0 GRT_CTRL_EN 1 s
    okRes (putFlds h 0 BLK_TER 0 [(TER_CTRL_FETCH_UNCHK, bits (u8 c 1) 0 1), (TER_CTRL_EN, 1)] s) }

/-- LAYER_OFF: the Grate follows when TER is OFF. -/
def cmdLayerOff : CmdSpec := {
  op := 0x0505, cls := .p, later := fun _ => true
  size := fun _ => 2
  ok := fun s c => maskOk s c && forceOk (u8 c 1)
  named := nameMask, hstat := true
  act := fun c h s =>
    let s1 := s.setTer h { (s.ter h) with grtOff := true }
    if u8 c 1 = 1 then stRes cPENDING (putFld h 0 TER_CTRL_FORCE_OFF 1 s1)
    else if terActive s h then stRes cPENDING (putFld h 0 TER_CTRL_EN 0 s1)
    else stRes cDRAINED (putFld h 0 GRT_CTRL_EN 0 s)
  poll := fun _ h s => if (s.ter h).draining then none else some (s.fget h 0 TER_DRAIN_RESULT) }

def cmdLayerPrivArm : CmdSpec := {
  op := 0x0506, cls := .p
  size := fun _ => 12
  ok := fun s c => maskOk s c && res0 c 1 3 && wordsOk c 4 2 BLK_TER 0 TER_PRIV_LINE_LO.word
  named := nameMask, hstat := true
  act := fun c h s =>
    let st := if u64 c 4 < lnum s h + 3 then cLATE else cOK
    let s := putWords c 4 2 BLK_TER h 0 TER_PRIV_LINE_LO.word s
    stRes st (putFld h 0 TER_PRIV_CTRL_ARM 1 s) }

/-- A handle is in use, or promised to a slot whose job has not ended. -/
def lbTaken (s : State) (h k : Nat) : Bool :=
  (s.lbuf h k).used || (heldPages s h).any fun p => p.slots.any fun x => x.adopt == some k

/-- LAYER_ADOPT (R103). -/
def cmdLayerAdopt : CmdSpec := {
  op := 0x0507, cls := .p
  size := fun _ => 8
  ok := fun s c => hOk s c && decide (u8 c 2 < 64) && res0 c 3 1
  named := nameH
  check := fun c h s => onPage c h (fun p =>
    if p.slots.length ≤ u8 c 1 then cBAD_PARAM
    else if p.st != .complete && p.st != .committed then cBAD_STATE
    else if lbTaken s h (u8 c 2) then cNO_RESOURCE else 0) s
  act := fun c h s =>
    let k := u8 c 1
    let s := mapPage h (u32 c 4) (fun q => { q with
      slots := q.slots.set k { (q.slots.getD k {}) with adopt := some (u8 c 2) } }) s
    match findPage s h (u32 c 4) with
    | none => okRes s
    | some p => okRes (if (p.slots.getD k {}).job == .ok then basRefresh h (adoptSlot h p.id k s) else s) }

/-- LAYER_FREE (R104). A buffer freed at once leaves BAS_LB_FREED and LB_FREED as they were. DESIGN CHOICE (log 174). -/
def cmdLayerFree : CmdSpec := {
  op := 0x0508, cls := .p
  size := fun _ => 2
  ok := fun s c => hOk s c && decide (u8 c 1 < 64)
  named := nameH
  check := fun c h s => if (s.lbuf h (u8 c 1)).used then 0 else cBAD_PARAM
  act := fun c h s =>
    let k := u8 c 1
    if lbReferenced s h k then stRes cDEFERRED (s.setLbuf h k { (s.lbuf h k) with freeing := true })
    else okRes (basRefresh h (s.setLbuf h k {})) }

/-- A mask of handles. -/
def lbMask (s : State) (h : Nat) (p : LBuf → Bool) : Nat := ((below 64 fun k => p (s.lbuf h k)).map fun k => 2 ^ k).sum

def cmdLayerLbs : CmdSpec := {
  op := 0x0509, cls := .q
  size := fun _ => 1
  ok := hOk, named := nameH
  act := fun _ h s => payRes (leBytes 8 (lbMask s h LBuf.used) ++ leBytes 8 (lbMask s h fun b => b.used && b.freeing)) s }

/-- Where a readback reads: start and length of the source. -/
def readbackSource (s : State) (c : Cmd) : Nat × Nat :=
  if u8 c 1 = 0 then
    let b := s.lbuf (u8 c 0) (u8 c 2)
    (b.base, if b.used then b.len else 0)
  else (s.get64 (u8 c 0) 0 ISP_ECHO_BASE_LO, s.get64 (u8 c 0) 0 ISP_ECHO_SIZE_LO)

/-- LAYER_READBACK: a request of the encoder for the readback area. DEDUCED (log 120). -/
def cmdLayerReadback : CmdSpec := {
  op := 0x050A, cls := .l, later := fun _ => true
  size := fun _ => 20
  ok := fun s c => hOk s c && decide (u8 c 1 ≤ 1) && (u8 c 1 == 1 || decide (u8 c 2 < 64)) && res0 c 3 1
    && u32 c 12 != 0 && decide (u32 c 12 ≤ 2 ^ 24) && decide (u32 c 16 ≤ 262144)
    && decide (u64 c 4 + u32 c 12 ≤ (readbackSource s c).2)
  named := nameH
  check := fun _ h s =>
    if !basActive s h then cBAD_STATE
    else if !s.fon h 2 CIN_CTRL_EN then cBAD_STATE
    else if s.fget h 2 CIN_STATUS_STATE ≠ 1 then cBUSY else 0
  act := fun c h s =>
    stRes cPENDING (encodeRequest h {
      src := (readbackSource s c).1 + u64 c 4, len := u32 c 12, row := u32 c 16, dst := s.get64 h 0 BAS_RB_BASE_LO, size := 2 ^ 24
      owner := some (c.ch, c.tag) } s)
  fin := fun d s =>
    let b := s.bas (u8 d.cmd 0)
    leBytes 4 b.rbLen ++ leBytes 1 (b2n b.rbOrig) ++ [0, 0, 0] }

def cmdLayerRead : CmdSpec := {
  op := 0x050B, cls := .q
  size := fun _ => 8
  ok := fun s c => hOk s c && res0 c 1 3 && decide (u32 c 4 < (s.bas (u8 c 0)).rbLen)
  named := nameH
  act := fun c h s =>
    payRes (s.dreads h (s.get64 h 0 BAS_RB_BASE_LO + u32 c 4) (min 48 ((s.bas h).rbLen - u32 c 4))) s }

/-! ### SCREEN (R313) -/

def cmdScreenGeom : CmdSpec := {
  op := 0x0600, cls := .p
  size := fun _ => 6
  ok := fun s c => maskOk s c && decide (u8 c 1 < 4)
  named := nameMask, hstat := true
  act := fun c h s =>
    let n := u8 c 1
    okRes (putFlds h 0 BLK_GRT (GRT_SCR n).word
      [(GRT_SCR_WM1 n, u8 c 2), (GRT_SCR_HM1 n, u8 c 3), (GRT_SCR_PHX n, u8 c 4), (GRT_SCR_PHY n, u8 c 5)] s) }

/-- TABLE is one of the five tables. -/
def tableOk (t : Nat) : Bool := decide (t ≤ 4)

/-- INDEX `k` accesses after `i` (R141). -/
def grtIndex (table i : Nat) : Nat → Nat
  | 0 => i
  | k + 1 => grtNext table (grtIndex table i k)

/-- Write shadow entries from an index; while the bank copy runs they land when it has ended (R141). DEDUCED (log 119). -/
def shadowWrites (h table : Nat) : Nat → List Nat → State → State
  | _, [], s => s
  | i, v :: vs, s =>
    shadowWrites h table (grtNext table i) vs (grtReach h table i (some v) s)

/-- An entry of a bank: 0 active, 1 shadow; during the copy the shadow entry is the one the copy will leave. -/
def grtEntry (s : State) (h bank table i : Nat) : Nat :=
  if bank = 0 then (if grtHas table i then tabGet dfltGrt (s.grt h (actBank s h)) (65536 * table + i) else 0)
  else grtShadow s h table i

def cmdScreenWrite : CmdSpec := {
  op := 0x0601, cls := .p
  size := fun c => 8 + 4 * u8 c 4
  ok := fun s c => maskOk s c && tableOk (u8 c 1) && decide (1 ≤ u8 c 4) && decide (u8 c 4 ≤ 12) && res0 c 5 3
  named := nameMask, hstat := true
  act := fun c h s => okRes (shadowWrites h (u8 c 1) (u16 c 2) ((List.range (u8 c 4)).map fun k => u32 c (8 + 4 * k)) s) }

def cmdScreenRead : CmdSpec := {
  op := 0x0602, cls := .q
  size := fun _ => 8
  ok := fun s c => hOk s c && tableOk (u8 c 1) && decide (u8 c 2 ≤ 1) && res0 c 3 1 && decide (1 ≤ u8 c 6) && decide (u8 c 6 ≤ 13)
    && res0 c 7 1
  named := nameH
  act := fun c h s =>
    payRes ((List.range (u8 c 6)).flatMap fun k => leBytes 4 (grtEntry s h (u8 c 2) (u8 c 1) (grtIndex (u8 c 1) (u16 c 4) k))) s }

/-- The words of a section. -/
def sectionWords (bs : List Byte) : List Nat := (List.range (bs.length / 4)).map fun k => leAt bs (4 * k) 4

/-- SECTION names a section of the configuration image of the kind (R300). -/
def sectionOk (s : State) (sec kind : Nat) : Bool := (cfgSection s sec).any fun e => e.1 == kind

/-- SCREEN_LOAD: the words of a Grate table section, from index 0. -/
def cmdScreenLoad : CmdSpec := {
  op := 0x0603, cls := .p, later := fun _ => true
  size := fun _ => 4
  ok := fun s c => maskOk s c && tableOk (u8 c 1) && sectionOk s (u16 c 2) 3
  named := nameMask, hstat := true
  act := fun c h s => match cfgSection s (u16 c 2) with
    | some (_, some bs) => okRes (shadowWrites h (u8 c 1) 0 ((sectionWords bs).take (grtLast (u8 c 1) + 1)) s)
    | _ => stRes cCHECK_FAIL s }

/-- SCREEN_ARM: LATE where the arm came after the commit point (R141). -/
def cmdScreenArm : CmdSpec := {
  op := 0x0604, cls := .p
  size := fun _ => 2
  ok := maskOk, named := nameMask, hstat := true
  act := fun c h s =>
    let f := u8 c 1
    let s := putFlds h 0 BLK_GRT 0 [(GRT_CTRL_LEND_EN, bits f 0 1), (GRT_CTRL_DLEND_EN, bits f 1 1)] s
    let s := putFld h 0 GRT_CTRL_TBL_ARM 1 s
    stRes (if s.fon h 0 GRT_STATUS_ARM_LATE then cLATE else cOK) s }

/-- `n` columns from COL are columns. -/
def colsOk (col n : Nat) : Bool := decide (col + n ≤ columns)

def cmdAshGet : CmdSpec := {
  op := 0x0605, cls := .q
  size := fun _ => 5
  ok := fun s c => hOk s c && res0 c 1 1 && decide (1 ≤ u8 c 4) && decide (u8 c 4 ≤ 13) && colsOk (u16 c 2) (u8 c 4)
  named := nameH
  act := fun c h s => payRes ((List.range (u8 c 4)).flatMap fun k => leBytes 4 (s.ash h (u16 c 2 + k)).toNat) s }

def cmdAshPut : CmdSpec := {
  op := 0x0606, cls := .p
  size := fun c => 4 + 4 * u8 c 1
  ok := fun s c => hOk s c && decide (1 ≤ u8 c 1) && decide (u8 c 1 ≤ 11) && colsOk (u16 c 2) (u8 c 1)
  named := nameH
  check := fun _ h s => if s.fon h 0 GRT_CTRL_EN then cBAD_STATE else 0
  act := fun c h s => okRes (forEach (List.range (u8 c 1)) (fun k s => s.setAsh h (u16 c 2 + k) (uW c (4 + 4 * k))) s) }

/-- ASH_PUSH: DEPTH is the queue's depth after the push; with the queue disabled the push is
refused and counted under R148. DEDUCED (log 118). -/
def cmdAshPush : CmdSpec := {
  op := 0x0607, cls := .p
  size := fun _ => 16
  ok := fun s c => hOk s c && res0 c 1 1 && colsOk (u16 c 2) 1 && decide (u64 c 8 < 2 ^ 48)
  named := nameH
  check := fun _ h s => if 256 ≤ (s.ter h).ashQ.length then cNO_RESOURCE else 0
  act := fun c h s =>
    let r := ashPush h (u16 c 2) (u64 c 8) (uW c 4) s
    if r.2 then payRes (leBytes 2 (r.1.ter h).ashQ.length) r.1 else stRes cBAD_STATE r.1 }

/-- ASH_LOAD: the whole map. -/
def cmdAshLoad : CmdSpec := {
  op := 0x0608, cls := .p, later := fun _ => true
  size := fun _ => 4
  ok := fun s c => maskOk s c && res0 c 1 1 && sectionOk s (u16 c 2) 4
  named := nameMask, hstat := true
  check := fun _ h s => if s.fon h 0 GRT_CTRL_EN then cBAD_STATE else 0
  act := fun c h s => match cfgSection s (u16 c 2) with
    | some (_, some bs) =>
      okRes (forEach ((sectionWords bs).take columns).zipIdx (fun e s => s.setAsh h e.2 (BitVec.ofNat 32 e.1)) s)
    | _ => stRes cCHECK_FAIL s }

def cmdAshFlush : CmdSpec := {
  op := 0x0609, cls := .p
  size := fun _ => 1
  ok := maskOk, named := nameMask, hstat := true
  act := fun _ h s => okRes (ashFlush h s) }

end Sys2Proof.Machine
end

