-- ==== Sys2Proof/Machine/CmdHead.lean ====
section
/-! DEFINITION. The HEAD commands (R314): ports, column maps, strobes, Damper and Fender. -/

namespace Sys2Proof.Machine

/-- H and P in range. -/
def hpOk (s : State) (c : Cmd) : Bool := hOk s c && decide (u8 c 1 < 12)

/-- The ports of a mask. -/
def portsOf (m : Nat) : List Nat := below 12 (bit m)

def cmdHeadStatus : CmdSpec := {
  op := 0x0700, cls := .q
  size := fun _ => 2
  ok := hpOk, named := nameH
  act := fun c h s =>
    let p := u8 c 1
    let fl := s.fget h p FBX_STATUS_SOFT + 2 * s.fget h p FBX_STATUS_HARD + 4 * s.fget h p FBX_STATUS_PWE
      + 8 * s.fget h p FBX_STATUS_PRS + 16 * s.fget h p FBX_ID_VALID
    payRes (leBytes 1 (portState s h p) ++ leBytes 1 fl ++ [0, 0] ++ leBytes 2 (s.fget h p FBX_MEAS_TEMP)
      ++ leBytes 2 (s.fget h p FBX_MEAS_VHEAD) ++ leBytes 2 (s.fget h p FBX_ID_CODE) ++ [0, 0]
      ++ leBytes 2 (s.fget h p FBX_WIDTH01_STB0) ++ leBytes 2 (s.fget h p FBX_WIDTH01_STB1)
      ++ leBytes 2 (s.fget h p FBX_WIDTH23_STB2) ++ leBytes 2 (s.fget h p FBX_WIDTH23_STB3)) s }

/-- Every named port has reached READY. -/
def portsReady (s : State) (h m : Nat) : Bool := (portsOf m).all fun p => decide (3 ≤ portState s h p)

/-- HEAD_POWER: a final OK once every named port is READY, or HEAD_POWER_TIMEOUT. -/
def cmdHeadPower : CmdSpec := {
  op := 0x0701, cls := .p, later := fun _ => true
  size := fun _ => 4
  ok := fun s c => maskOk s c && decide (u8 c 1 ≤ 1) && pmaskOk (u16 c 2)
  named := nameMask, hstat := true
  check := fun c h s => if u8 c 1 = 1 ∧ (portsOf (u16 c 2)).any fun p => portState s h p == 0 then cBAD_STATE else 0
  act := fun c h s =>
    let s := forEach (portsOf (u16 c 2)) (fun p s => putFld h p FBX_CTRL_PWR (u8 c 1) s) s
    if u8 c 1 = 0 then okRes s else stRes cPENDING s
  poll := fun d h s => if portsReady s h (u16 d.cmd 2) then some cOK else none }

/-- The HEAD, TIMING and polarities of HEAD_SETUP differ from those in force. -/
def setupDiffers (c : Cmd) (h p : Nat) (s : State) : Bool :=
  uW c 4 != s.rd h p BLK_FBX FBX_HEAD.word || uW c 8 != s.rd h p BLK_FBX FBX_TIMING.word
  || bits (u32 c 12) FBX_CTRL_LAT_POL.lo 1 != s.fget h p FBX_CTRL_LAT_POL
  || bits (u32 c 12) FBX_CTRL_STB_POL.lo 1 != s.fget h p FBX_CTRL_STB_POL

/-- The port's active map would break under the new STRANDS or NOZ_M1 (R433). -/
def setupBreaks (c : Cmd) (h p : Nat) (s : State) : Bool :=
  let st := bits (u32 c 4) 12 4
  let nz := bits (u32 c 4) 0 10
  if !mapped s h p || (st == s.fget h p FBX_HEAD_STRANDS && nz == s.fget h p FBX_HEAD_NOZ_M1) then false
  else
    !mapsOk ((List.range 12).filterMap fun q =>
      if !mapped s h q then none
      else if q = p then some { (activeMap s h q) with strands := st, noz := nz + 1 }
      else some (activeMap s h q))

def cmdHeadSetup : CmdSpec := {
  op := 0x0702, cls := .p
  size := fun _ => 28
  ok := fun s c => hpOk s c && res0 c 2 2 && wordOk BLK_FBX 0 FBX_HEAD.word (uW c 4) && wordOk BLK_FBX 0 FBX_TIMING.word (uW c 8)
    && wordOk BLK_FBX 0 0 (uW c 12) && wordOk BLK_FBX 0 FBX_TLIM.word (uW c 16) && wordOk BLK_FBX 0 FBX_SENSE.word (uW c 20)
    && wordOk BLK_FBX 0 FBX_HOTPLUG.word (uW c 24)
  named := nameH
  check := fun c h s =>
    let p := u8 c 1
    if 4 ≤ portState s h p ∧ setupDiffers c h p s then cBAD_STATE else if setupBreaks c h p s then cBAD_PARAM else 0
  act := fun c h s =>
    let p := u8 c 1
    let w := u32 c 12
    let s := putWord BLK_FBX h p FBX_HEAD.word (uW c 4) s
    let s := putWord BLK_FBX h p FBX_TIMING.word (uW c 8) s
    let s := putFlds h p BLK_FBX 0 [(FBX_CTRL_LAT_POL, bits w FBX_CTRL_LAT_POL.lo 1), (FBX_CTRL_STB_POL, bits w FBX_CTRL_STB_POL.lo 1),
      (FBX_CTRL_AUTO_PWR, bits w FBX_CTRL_AUTO_PWR.lo 1)] s
    let s := putWord BLK_FBX h p FBX_TLIM.word (uW c 16) s
    let s := putWord BLK_FBX h p FBX_SENSE.word (uW c 20) s
    okRes (putWord BLK_FBX h p FBX_HOTPLUG.word (uW c 24) s) }

def cmdHeadPhase : CmdSpec := {
  op := 0x0703, cls := .p
  size := fun _ => 28
  ok := fun s c => hpOk s c && res0 c 2 2 && wordsOk c 4 4 BLK_FBX 0 (FBX_PHASE 0).word && wordsOk c 20 2 BLK_FBX 0 FBX_VCAL.word
  named := nameH
  act := fun c h s =>
    okRes (putWords c 20 2 BLK_FBX h (u8 c 1) FBX_VCAL.word (putWords c 4 4 BLK_FBX h (u8 c 1) (FBX_PHASE 0).word s)) }

def cmdHeadStbt : CmdSpec := {
  op := 0x0704, cls := .p
  size := fun _ => 36
  ok := fun s c => hpOk s c && res0 c 2 2 && wordsOk c 4 8 BLK_FBX 0 (FBX_STBT 0).word
  named := nameH
  act := fun c h s => okRes (putWords c 4 8 BLK_FBX h (u8 c 1) (FBX_STBT 0).word s) }

def cmdHeadTherm : CmdSpec := {
  op := 0x0705, cls := .p
  size := fun _ => 38
  ok := fun s c => hpOk s c && res0 c 2 2
  named := nameH
  act := fun c h s => okRes (forEach (List.range 17) (fun k s => putFld h (u8 c 1) (FBX_THERM_V k) (u16 c (4 + 2 * k)) s) s) }

/-- The result of a requested map once no named port's request is open. -/
def mapsDone (s : State) (h m : Nat) : Option Nat :=
  if (portsOf m).any (requests s h) then none else some ((portsOf m).foldl (fun v p => max v (s.fget h p FBX_CMAP_ACT_RES)) 0)

/-- HEAD_CMAP: APPLY of the CMAP word stands under the command's own APPLY. DEDUCED (log 121). -/
def cmdHeadCmap : CmdSpec := {
  op := 0x0706, cls := .p, later := fun c => u8 c 2 == 1
  size := fun _ => 40
  ok := fun s c => hpOk s c && decide (u8 c 2 ≤ 1) && res0 c 3 1 && wordOk BLK_FBX 0 FBX_CMAP.word (uW c 4)
  named := nameH
  act := fun c h s =>
    let p := u8 c 1
    let s := putWords c 8 8 BLK_FBX h p (FBX_OVL_LO 0).word s
    let s := putWord BLK_FBX h p FBX_CMAP.word (insertBits (uW c 4) FBX_CMAP_APPLY.lo 1 (u8 c 2)) s
    if u8 c 2 = 1 then stRes cPENDING s else okRes s
  poll := fun d h s => mapsDone s h (2 ^ u8 d.cmd 1) }

def cmdHeadCmapApply : CmdSpec := {
  op := 0x0707, cls := .p, later := fun _ => true
  size := fun _ => 4
  ok := fun s c => hOk s c && res0 c 1 1 && pmaskOk (u16 c 2)
  named := nameH
  act := fun c h s => stRes cPENDING (forEach (portsOf (u16 c 2)) (fun p s => putFld h p FBX_CMAP_APPLY 1 s) s)
  poll := fun d h s => mapsDone s h (u16 d.cmd 2) }

def cmdHeadOn : CmdSpec := {
  op := 0x0708, cls := .p
  size := fun _ => 4
  ok := fun s c => maskOk s c && res0 c 1 1 && pmaskOk (u16 c 2)
  named := nameMask, hstat := true
  check := fun c h s => if (portsOf (u16 c 2)).any fun p => portState s h p != 3 then cBAD_STATE else 0
  act := fun c h s => okRes (forEach (portsOf (u16 c 2)) (fun p s => putFld h p FBX_CTRL_EN 1 s) s) }

/-- A note of a command that turns units off: hearth, units that still drain, highest result of the others. -/
def offNote (h m st : Nat) : Nat := (h * 65536 + m) * 256 + st

/-- The units a hearth still drains, and the others' result. -/
def offOf (d : DOp) (h : Nat) : Nat × Nat :=
  match d.note.find? fun v => v / 2 ^ 24 == h with
  | some v => (v / 256 % 65536, v % 256)
  | none => (0, cDRAINED)

/-- Turn units of a hearth off (R295): one found off ends DRAINED, or ABORTED under a forced disable; `drains`, `result`
read a unit, `off` writes its EN 0 or FORCE_OFF 1. -/
def turnOff (h : Nat) (us : List Nat) (force : Bool) (en : State → Nat → Bool) (drains : State → Nat → Bool)
    (result : State → Nat → Nat) (off : Nat → State → State) (s : State) : CmdRes :=
  let was := us.filter fun u => force || en s u || drains s u
  let s := forEach was off s
  let m := ((was.filter (drains s)).map fun u => 2 ^ u).sum
  let st := (was.filter fun u => !drains s u).foldl (fun v u => max v (result s u)) (if was.length < us.length ∨ us.isEmpty then cDRAINED else 0)
  { st := if m = 0 then st else cPENDING, note := [offNote h m st], s := s }

/-- A port's drain result; one removed while it drained is ABORTED. -/
def portResult (s : State) (h p : Nat) : Nat := if portState s h p = 0 then cABORTED else s.fget h p FBX_STATUS_DRAIN_RESULT

def cmdHeadOff : CmdSpec := {
  op := 0x0709, cls := .p, later := fun _ => true
  size := fun _ => 4
  ok := fun s c => maskOk s c && forceOk (u8 c 1) && pmaskOk (u16 c 2)
  named := nameMask, hstat := true
  act := fun c h s =>
    turnOff h (portsOf (u16 c 2)) (u8 c 1 == 1) (fun s p => s.fon h p FBX_CTRL_EN) (fun s p => portState s h p == 6)
      (fun s p => s.fget h p FBX_STATUS_DRAIN_RESULT)
      (fun p s => if u8 c 1 = 1 then putFld h p FBX_CTRL_FORCE_OFF 1 s else putFld h p FBX_CTRL_EN 0 s) s
  poll := fun d h s =>
    let o := offOf d h
    if (portsOf o.1).any fun p => portState s h p == 6 then none
    else some ((portsOf o.1).foldl (fun v p => max v (portResult s h p)) o.2) }

def cmdHeadDamper : CmdSpec := {
  op := 0x070A, cls := .p
  size := fun _ => 5
  ok := fun s c => maskOk s c && decide (u8 c 1 < 4) && fits DMP_NOZ_V (u16 c 2) && fits DMP_WIN_WINDOW (u8 c 4)
  named := nameMask, hstat := true
  act := fun c h s =>
    let s := putFlds h 0 BLK_DMP 0 [(DMP_CTRL_NOZ_EN, bits (u8 c 1) 0 1), (DMP_CTRL_HEAD_EN, bits (u8 c 1) 1 1)] s
    okRes (putFld h 0 DMP_WIN_WINDOW (u8 c 4) (putFld h 0 DMP_NOZ_V (u16 c 2) s)) }

def cmdHeadBudget : CmdSpec := {
  op := 0x070B, cls := .p
  size := fun _ => 12
  ok := fun s c => hpOk s c && res0 c 2 2 && wordsOk c 4 2 BLK_DMP 0 (DMP_BUDGET (u8 c 1)).word
  named := nameH
  act := fun c h s => okRes (putWords c 4 2 BLK_DMP h 0 (DMP_BUDGET (u8 c 1)).word s) }

def cmdHeadFenderSet : CmdSpec := {
  op := 0x070C, cls := .p
  size := fun _ => 5
  ok := fun _ c => wordOk BLK_FND 0 0 (uW c 0)
  act := fun c _ s =>
    okRes (putWord BLK_FND 0 0 FND_LATCHED.word (BitVec.ofNat 32 (u8 c 4)) (putWord BLK_FND 0 0 0 (uW c 0) s)) }

def cmdHeadFenderGet : CmdSpec := {
  op := 0x070D, cls := .q
  act := fun _ _ s =>
    let r := readWords BLK_FND 0 0 [FND_STATUS.word, FND_LATCHED.word, FND_GATED_LINES.word] s
    payRes r.1 r.2 }

end Sys2Proof.Machine
end

