-- ==== Sys2Proof/Machine/CmdFeed.lean ====
section
/-! DEFINITION. The FEED commands (R315): the Draught and the feedback inputs. -/

namespace Sys2Proof.Machine

/-! ### Draught -/

/-- MODE, SRC, NEG, N or M differ from the values in force. -/
def feedDiffers (c : Cmd) (h : Nat) (s : State) : Bool :=
  u8 c 1 != s.fget h 0 DRT_CTRL_MODE || u8 c 2 != s.fget h 0 DRT_CTRL_SRC || u8 c 5 != s.fget h 0 DRT_CTRL_CNT_NEG
  || u32 c 8 != s.fget h 0 DRT_RATIO_N_V || u32 c 12 != s.fget h 0 DRT_RATIO_M_V

def cmdFeedSet : CmdSpec := {
  op := 0x0800, cls := .p
  size := fun _ => 20
  ok := fun s c => maskOk s c && fits DRT_CTRL_MODE (u8 c 1) && fits DRT_CTRL_SRC (u8 c 2) && fits DRT_CTRL_BW (u8 c 3)
    && fits DRT_CTRL_REV (u8 c 4) && fits DRT_CTRL_CNT_NEG (u8 c 5) && res0 c 6 2 && fits DRT_RATIO_N_V (u32 c 8)
    && fits DRT_RATIO_M_V (u32 c 12) && res0 c 18 2
  named := nameMask, hstat := true
  check := fun c h s => if drtState s h ≠ 0 ∧ feedDiffers c h s then cBAD_STATE else 0
  act := fun c h s =>
    let s := putFlds h 0 BLK_DRT 0 [(DRT_CTRL_MODE, u8 c 1), (DRT_CTRL_SRC, u8 c 2), (DRT_CTRL_BW, u8 c 3), (DRT_CTRL_REV, u8 c 4),
      (DRT_CTRL_CNT_NEG, u8 c 5)] s
    let s := putFld h 0 DRT_RATIO_M_V (u32 c 12) (putFld h 0 DRT_RATIO_N_V (u32 c 8) s)
    okRes (putFld h 0 DRT_INT_PERIOD_INTERNAL (u16 c 16) s) }

def cmdFeedEn : CmdSpec := {
  op := 0x0801, cls := .p
  size := fun _ => 2
  ok := fun s c => maskOk s c && decide (u8 c 1 ≤ 1)
  named := nameMask, hstat := true
  act := fun c h s => okRes (putFld h 0 DRT_CTRL_EN (u8 c 1) s) }

def cmdFeedStart : CmdSpec := {
  op := 0x0802, cls := .p
  size := fun _ => 52
  ok := fun s c => maskOk s c && res0 c 1 3
  named := nameMask, hstat := true
  check := fun _ h s => if drtState s h = 1 then 0 else cBAD_STATE
  act := fun c h s =>
    let s := putFld h 0 DRT_START (u32 c (4 + 4 * h)) s
    let s := putFld h 0 DRT_START_FRAC_V (u16 c (36 + 2 * h)) s
    let s := putFld h 0 DRT_CTRL_START_ARM 1 s
    stRes (if drtState s h = 2 then cOK else cLATE) s }

def cmdFeedResume : CmdSpec := {
  op := 0x0803, cls := .p
  size := fun _ => 1
  ok := maskOk, named := nameMask, hstat := true
  check := fun _ h s => if drtState s h ≠ 5 ∨ srcFaulty s h then cBAD_STATE else 0
  act := fun _ h s => okRes (putFld h 0 DRT_CTRL_RESUME 1 s) }

def cmdFeedStatus : CmdSpec := {
  op := 0x0804, cls := .q
  size := fun _ => 1
  ok := hOk, named := nameH
  act := fun _ h s =>
    let fl := s.fget h 0 DRT_STATUS_LOCK + 2 * s.fget h 0 DRT_STATUS_PEND + 4 * s.fget h 0 DRT_STATUS_FEED_BUSY
    let r := readWords BLK_DRT h 0 [DRT_COUNT.word, DRT_OMEGA.word, DRT_PHERR.word] s
    payRes (leBytes 1 (drtState s h) ++ leBytes 1 (s.fget h 0 DRT_STATUS_PASS) ++ leBytes 1 fl ++ [0] ++ r.1
      ++ leBytes 8 (lnum s h)) r.2 }

def cmdFeedPass : CmdSpec := {
  op := 0x0805, cls := .p
  size := fun c => 4 + 16 * u8 c 2
  ok := fun s c => hOk s c && decide (1 ≤ u8 c 2) && decide (u8 c 2 ≤ 3) && res0 c 3 1 && decide (u8 c 1 + u8 c 2 ≤ 64)
    && wordsOk c 4 (4 * u8 c 2) BLK_DRT 0 (DRT_PASS_START (u8 c 1)).word
  named := nameH
  act := fun c h s => okRes (putWords c 4 (4 * u8 c 2) BLK_DRT h 0 (DRT_PASS_START (u8 c 1)).word s) }

def cmdFeedScan : CmdSpec := {
  op := 0x0806, cls := .p
  size := fun _ => 5
  ok := fun s c => maskOk s c && fits DRT_SCAN_FIRST (u8 c 1) && fits DRT_SCAN_LOOP_TO (u8 c 2) && fits DRT_SCAN_FEED_WAIT (u8 c 3)
    && fits DRT_SCAN_FEED_AX (u8 c 4)
  named := nameMask, hstat := true
  act := fun c h s =>
    okRes (putFlds h 0 BLK_DRT DRT_SCAN.word [(DRT_SCAN_FIRST, u8 c 1), (DRT_SCAN_LOOP_TO, u8 c 2), (DRT_SCAN_FEED_WAIT, u8 c 3),
      (DRT_SCAN_FEED_AX, u8 c 4)] s) }

/-! ### Feedback inputs (R214) -/

/-- A word of the payload at byte `o` for register word `w` differs in an RWL field. -/
def anyDiffers (c : Cmd) (blk h i : Nat) (ws : List (Nat × Nat)) (s : State) : Bool :=
  ws.any fun e => rwlDiffers s blk h i e.2 (uW c e.1)

/-- The words' reserved bits are zero; write the words, in order. -/
def allOk (c : Cmd) (blk i : Nat) (ws : List (Nat × Nat)) : Bool := ws.all fun e => wordOk blk i e.2 (uW c e.1)
def putAll (c : Cmd) (blk h i : Nat) (ws : List (Nat × Nat)) (s : State) : State :=
  forEach ws (fun e s => putWord blk h i e.2 (uW c e.1) s) s

/-- Payload bytes and words of FB_QUAD, FB_HALL and FB_SSI; the control words come last. -/
def quadWords : List (Nat × Nat) := [(4, FBK_QCFG.word), (8, FBK_IDX_CFG.word), (12, FBK_IDX_REF.word), (16, FBK_SPD_WIN.word)]
def hallWords : List (Nat × Nat) := [(8, FBK_HCFG.word), (12, FBK_HRATIO.word), (4, FBK_HCTRL.word)]
def ssiWords : List (Nat × Nat) := [(8, FBK_SCFG.word), (12, FBK_STIME.word), (4, FBK_SCTRL.word)]

def cmdFbQuad : CmdSpec := {
  op := 0x0807, cls := .p
  size := fun _ => 20
  ok := fun s c => fbOk s c && decide (u8 c 1 < 4) && res0 c 3 1 && allOk c BLK_FBK 0 quadWords
  named := nameH
  check := fun c h s => if s.fon h (u8 c 1) FBK_QCTRL_EN && anyDiffers c BLK_FBK h (u8 c 1) quadWords s then cBAD_STATE else 0
  act := fun c h s =>
    let k := u8 c 1
    let f := u8 c 2
    let s := putAll c BLK_FBK h k quadWords s
    okRes (putFlds h k BLK_FBK 0 [(FBK_QCTRL_EN, bits f 0 1), (FBK_QCTRL_IDX_LEARN, bits f 1 1), (FBK_QCTRL_IDX_FAULT, bits f 2 1)] s) }

def cmdFbHall : CmdSpec := {
  op := 0x0808, cls := .p
  size := fun _ => 16
  ok := fun s c => fbOk s c && decide (4 ≤ u8 c 1) && decide (u8 c 1 ≤ 5) && res0 c 2 2 && allOk c BLK_FBK 4 hallWords
  named := nameH
  check := fun c h s => if s.fon h (u8 c 1) FBK_HCTRL_EN && anyDiffers c BLK_FBK h (u8 c 1) hallWords s then cBAD_STATE else 0
  act := fun c h s => okRes (putAll c BLK_FBK h (u8 c 1) hallWords s) }

def cmdFbSsi : CmdSpec := {
  op := 0x0809, cls := .p
  size := fun _ => 16
  ok := fun s c => fbOk s c && decide (6 ≤ u8 c 1) && decide (u8 c 1 ≤ 7) && res0 c 2 2 && allOk c BLK_FBK 6 ssiWords
  named := nameH
  check := fun c h s => if s.fon h (u8 c 1) FBK_SCTRL_EN && anyDiffers c BLK_FBK h (u8 c 1) ssiWords s then cBAD_STATE else 0
  act := fun c h s => okRes (putAll c BLK_FBK h (u8 c 1) ssiWords s) }

/-- Words an FB_STATUS reads before its zero. -/
def fbStatusWords (i : Nat) : List Nat :=
  if i < 4 then [FBK_COUNT.word, FBK_SPEED.word, FBK_STATUS.word, FBK_IDX_DEV.word]
  else if i < 6 then [FBK_HCOUNT.word, FBK_HSTATUS.word, FBK_PLAUS_CNT.word]
  else [FBK_SSI_POS.word, FBK_SSI_SEQ.word, FBK_SSI_BUSY.word]

def cmdFbStatus : CmdSpec := {
  op := 0x080A, cls := .q
  size := fun _ => 2
  ok := fun s c => fbOk s c && decide (u8 c 1 < 8)
  named := nameH
  act := fun c h s =>
    let r := readWords BLK_FBK h (u8 c 1) (fbStatusWords (u8 c 1)) s
    payRes (padTo 16 r.1) r.2 }

def cmdFbClear : CmdSpec := {
  op := 0x080B, cls := .p
  size := fun _ => 2
  ok := fun s c => fbOk s c && decide (u8 c 1 < 4)
  named := nameH
  act := fun c h s =>
    let refused := causeNow s h (u8 c 1) != 0
    stRes (if refused then cBAD_STATE else cOK) (putFld h (u8 c 1) FBK_QCTRL_CLR_FAULT 1 s) }

end Sys2Proof.Machine
end

