-- ==== Sys2Proof/Machine/CmdMotion.lean ====
section
/-! DEFINITION. The MOTION commands (R316): axes. -/

namespace Sys2Proof.Machine

/-- AX in range; the hearth of AX; AXMASK's axes on a hearth and their hearths. -/
def axOk (s : State) (c : Cmd) : Bool := decide (u8 c 0 < 8) && s.hasH (u8 c 0 / 4)
def nameAx (_ : State) (c : Cmd) : List Nat := [u8 c 0 / 4]
def axesOf (m h : Nat) : List Nat := below 8 fun a => bit m a && a / 4 == h
def axMaskOk (s : State) (c : Cmd) : Bool := (below 8 (bit (u8 c 0))).all fun a => s.hasH (a / 4)
def nameAxes (s : State) (c : Cmd) : List Nat :=
  match ((below 8 (bit (u8 c 0))).map fun a => a / 4).eraseDups with
  | [] => [s.crown]
  | hs => hs

/-- Write fields and words of an axis. -/
def axFld (a : Nat) (f : Fld) (v : Nat) (s : State) : State := putFld (a / 4) (a % 4) f v s
def axWords (c : Cmd) (o n a w : Nat) (s : State) : State := putWords c o n BLK_MOT (a / 4) (a % 4) w s

def cmdMotSetup : CmdSpec := {
  op := 0x0900, cls := .p
  size := fun _ => 28
  ok := fun s c => axOk s c && res0 c 1 3 && wordsOk c 4 3 BLK_MOT 0 MOT_CFG.word && wordsOk c 16 3 BLK_MOT 0 MOT_CUR.word
  named := nameAx
  check := fun c _ s =>
    let a := u8 c 0
    if axState s a ≠ 0 ∧ uW c 4 ≠ s.rd (a / 4) (a % 4) BLK_MOT MOT_CFG.word then cBAD_STATE else 0
  act := fun c _ s => okRes (axWords c 16 3 (u8 c 0) MOT_CUR.word (axWords c 4 3 (u8 c 0) MOT_CFG.word s)) }

def cmdMotThresh : CmdSpec := {
  op := 0x0901, cls := .p
  size := fun _ => 32
  ok := fun s c => axOk s c && res0 c 1 3 && wordsOk c 4 7 BLK_MOT 0 (MOT_RESTHR 0).word
  named := nameAx
  act := fun c _ s => okRes (axWords c 4 7 (u8 c 0) (MOT_RESTHR 0).word s) }

def cmdMotEn : CmdSpec := {
  op := 0x0902, cls := .p, later := fun c => u8 c 1 == 0
  size := fun _ => 3
  ok := fun s c => axMaskOk s c && decide (u8 c 1 ≤ 1) && forceOk (u8 c 2)
  named := nameAxes
  act := fun c h s =>
    let as := axesOf (u8 c 0) h
    if u8 c 1 = 1 then okRes (forEach as (fun a s => axFld a MOT_CTRL_EN 1 s) s)
    else
      turnOff h as (u8 c 2 == 1) (fun s a => s.mon a MOT_CTRL_EN) (fun s a => axState s a == 6)
        (fun s a => s.mget a MOT_STATUS_DRAIN_RESULT)
        (fun a s => if u8 c 2 = 1 then axFld a MOT_CTRL_FORCE_OFF 1 s else axFld a MOT_CTRL_EN 0 s) s
  poll := fun d h s =>
    let o := offOf d h
    let as := below 8 (bit o.1)
    if as.any fun a => axState s a == 6 then none
    else some (as.foldl (fun v a => max v (s.mget a MOT_STATUS_DRAIN_RESULT)) o.2) }

/-- Target of MOT_MOVE: KIND 1 is relative to where the queue ends (R228). -/
def moveTarget (s : State) (c : Cmd) : Int :=
  let t := toS 32 (u32 c 4)
  if u8 c 1 = 1 then toS 32 (ofS 32 (queueEnd s (u8 c 0) + t)) else t

/-- Why a push would be refused: state or limit, else a full queue (R228, R316). DEDUCED (log 122). -/
def pushCheck (s : State) (a : Nat) (target : Int) : Nat :=
  let st := axState s a
  if st = 0 ∨ st = 4 ∨ st = 5 ∨ st = 6 ∨ limitActive s a (sgn (target - queueEnd s a)) then cBAD_STATE
  else if 16 ≤ (s.axis a).queue.length then cNO_RESOURCE else 0

/-- The push of a MOT_MOVE; a refused one is counted as any other. -/
def movePush (c : Cmd) (s : State) : State :=
  (queuePush (u8 c 0) (moveTarget s c) (u32 c 8) (u8 c 2 == 1) none s (if u8 c 3 = 1 then some (c.ch, c.tag) else none)).1

def cmdMotMove : CmdSpec := {
  op := 0x0903, cls := .p, later := fun c => u8 c 3 == 1
  size := fun _ => 12
  ok := fun s c => axOk s c && decide (u8 c 1 ≤ 1) && decide (u8 c 2 ≤ 1) && decide (u8 c 3 ≤ 1)
  named := nameAx
  check := fun c _ s => pushCheck s (u8 c 0) (moveTarget s c)
  fails := fun c _ s => if pushCheck s (u8 c 0) (moveTarget s c) = 0 then s else movePush c s
  act := fun c _ s =>
    let s := movePush c s
    { st := if u8 c 3 = 1 then cPENDING else cOK, pay := leBytes 1 (s.mget (u8 c 0) MOT_STATUS_DEPTH), s := s }
  fin := fun d s => leBytes 1 (s.mget (u8 d.cmd 0) MOT_STATUS_DEPTH) }

/-- The axis is at rest: OFF, IDLE or LIMIT. -/
def atRest (s : State) (a : Nat) : Bool := axState s a == 0 || axState s a == 1 || axState s a == 5

def cmdMotStop : CmdSpec := {
  op := 0x0904, cls := .p, later := fun _ => true
  size := fun _ => 1
  ok := axMaskOk, named := nameAxes
  act := fun c h s => stRes cPENDING (forEach (axesOf (u8 c 0) h) (fun a s => axFld a MOT_CTRL_STOP 1 s) s)
  poll := fun d h s => if (axesOf (u8 d.cmd 0) h).all (atRest s) then some cOK else none }

/-- A refused HOME write. -/
def homeBad (s : State) (a : Nat) : Bool := axState s a != 1 || !(s.axis a).queue.isEmpty

def cmdMotHome : CmdSpec := {
  op := 0x0905, cls := .p, later := fun _ => true
  size := fun _ => 12
  ok := fun s c => axOk s c && decide (u8 c 1 ≤ 1) && res0 c 2 2
  named := nameAx
  check := fun c _ s => if homeBad s (u8 c 0) then cBAD_STATE else 0
  act := fun c _ s =>
    let a := u8 c 0
    let s := axFld a MOT_HOME_DIR (u8 c 1) s
    let s := axFld a MOT_HOME_POS (u32 c 8) (axFld a MOT_HOME_V (u32 c 4) s)
    let s := axFld a MOT_CTRL_HOME 1 s
    stRes (if (s.axis a).homing = 0 then cCHECK_FAIL else cPENDING) s
  poll := fun d _ s =>
    let a := u8 d.cmd 0
    if (s.axis a).homing ≠ 0 then none
    else if axState s a = 5 then some cCHECK_FAIL
    else if s.mon a MOT_STATUS_HOMED then some cOK
    else if axState s a = 0 ∧ s.mget a MOT_STATUS_DRAIN_RESULT = 3 then some cOK
    else some cABORTED
  fin := fun d s => leBytes 4 (s.mget (u8 d.cmd 0) MOT_LATCH) }

def cmdMotClear : CmdSpec := {
  op := 0x0906, cls := .p
  size := fun _ => 1
  ok := axOk, named := nameAx
  check := fun c _ s => if axState s (u8 c 0) = 5 then 0 else cBAD_STATE
  act := fun c _ s => okRes (axFld (u8 c 0) MOT_CTRL_CLR 1 s) }

def cmdMotStatus : CmdSpec := {
  op := 0x0907, cls := .q
  size := fun _ => 1
  ok := axOk, named := nameAx
  act := fun c _ s =>
    let a := u8 c 0
    let fl := s.mget a MOT_STATUS_STRONG + 2 * s.mget a MOT_STATUS_UNHELD + 4 * s.mget a MOT_STATUS_HOMED
    payRes (leBytes 1 (axState s a) ++ leBytes 1 (s.mget a MOT_STATUS_DEPTH) ++ leBytes 1 (s.mget a MOT_STATUS_K) ++ leBytes 1 fl
      ++ leBytes 4 (s.mget a MOT_POS) ++ leBytes 4 (s.mget a MOT_VEL) ++ leBytes 4 (s.mget a MOT_LATCH)) s }

def cmdMotPos : CmdSpec := {
  op := 0x0908, cls := .p
  size := fun _ => 12
  ok := fun s c => axOk s c && res0 c 2 2
  named := nameAx
  check := fun c _ s => if bit (u8 c 1) 0 && axState s (u8 c 0) != 0 then cBAD_STATE else 0
  act := fun c _ s =>
    let a := u8 c 0
    let s := if bit (u8 c 1) 0 then axWords c 4 1 a MOT_POS.word s else s
    okRes (axFld a MOT_FEED_V (u32 c 8) s) }

end Sys2Proof.Machine
end

