-- ==== Sys2Proof/Machine/CmdInspect.lean ====
section
/-! DEFINITION. The INSPECT commands (R317): cameras, I²C, the inspection pipeline, geometry calibration. -/

namespace Sys2Proof.Machine

/-! ### Camera ports -/

/-- H and PORT in range. -/
def camOk (s : State) (c : Cmd) : Bool := hOk s c && decide (u8 c 1 < 2)

/-- Payload bytes and words of INSP_CAM_SET; CTRL comes last. -/
def camWords : List (Nat × Nat) :=
  [(8, CAM_GEOM.word), (12, CAM_TRIG.word), (16, CAM_TRIG_STEP.word), (20, CAM_PITCH.word), (24, CAM_ORIGIN.word),
   (28, CAM_ORIGIN_FRAC.word), (32, CAM_COL0.word), (36, CAM_SCALE.word), (40, CAM_I2C.word), (4, CAM_CTRL.word)]

def cmdInspCamSet : CmdSpec := {
  op := 0x0A00, cls := .p
  size := fun _ => 44
  ok := fun s c => camOk s c && res0 c 2 2 && allOk c BLK_CAM 0 camWords
  named := nameH
  check := fun c h s => if !camOpen s h (u8 c 1) 0 && anyDiffers c BLK_CAM h (u8 c 1) camWords s then cBAD_STATE else 0
  act := fun c h s => okRes (putAll c BLK_CAM h (u8 c 1) camWords s) }

def cmdInspCorr : CmdSpec := {
  op := 0x0A01, cls := .p
  size := fun c => 4 + 2 * u8 c 3
  ok := fun s c => camOk s c && decide (1 ≤ u8 c 3) && decide (u8 c 3 ≤ 26) && decide (u8 c 2 + u8 c 3 ≤ 129)
  named := nameH
  act := fun c h s =>
    okRes (forEach (List.range (u8 c 3)) (fun k s => putFld h (u8 c 1) (CAM_CORR_CORR (u8 c 2 + k)) (u16 c (4 + 2 * k)) s) s) }

def cmdInspCamEn : CmdSpec := {
  op := 0x0A02, cls := .p, later := fun c => u8 c 2 == 0
  size := fun _ => 4
  ok := fun s c => hOk s c && decide (u8 c 1 < 4) && decide (u8 c 2 ≤ 1) && forceOk (u8 c 3)
  named := nameH
  act := fun c h s =>
    let ps := below 2 (bit (u8 c 1))
    if u8 c 2 = 1 then okRes (forEach ps (fun p s => putFld h p CAM_CTRL_EN 1 s) s)
    else
      turnOff h ps (u8 c 3 == 1) (fun s p => s.fon h p CAM_CTRL_EN) (fun s p => camState s h p == 5)
        (fun s p => s.fget h p CAM_STATUS_DRAIN_RESULT)
        (fun p s => if u8 c 3 = 1 then putFld h p CAM_CTRL_FORCE_OFF 1 s else putFld h p CAM_CTRL_EN 0 s) s
  poll := fun d h s =>
    let o := offOf d h
    let ps := below 2 (bit o.1)
    if ps.any fun p => camState s h p == 5 then none
    else some (ps.foldl (fun v p => max v (s.fget h p CAM_STATUS_DRAIN_RESULT)) o.2) }

def cmdInspCamStatus : CmdSpec := {
  op := 0x0A03, cls := .q
  size := fun _ => 2
  ok := camOk, named := nameH
  act := fun c h s =>
    let p := u8 c 1
    let r := readWords BLK_CAM h p [CAM_FSTAT.word, CAM_FNUM.word, CAM_FRAMES.word, CAM_DROPPED.word] s
    payRes (leBytes 1 (camState s h p) ++ leBytes 1 (s.fget h p CAM_STATUS_BUF) ++ [0, 0] ++ r.1) r.2 }

/-! ### I²C (R189) -/

/-- RDATA of INSP_I2C from the last read. -/
def i2cData (c : Cmd) (s : State) : List Byte :=
  let r := u8 c 6
  slice (((s.i2c (u8 c 0) (u8 c 1)).last).take (u8 c 5)) r (min (u8 c 5) (r + 56) - r)

def cmdInspI2c : CmdSpec := {
  op := 0x0A04, cls := .l, later := fun _ => true
  size := fun c => 8 + u8 c 4
  ok := fun s c => camOk s c && decide (u8 c 2 < 128) && decide (u8 c 4 ≤ 48) && decide (u8 c 5 ≤ 64) && res0 c 7 1
    && decide ((s.i2c (u8 c 0) (u8 c 1)).stage.length + u8 c 4 ≤ 64)
  named := nameH
  check := fun c h s =>
    if bit (u8 c 3) 0 || bit (u8 c 3) 1 then 0
    else if !s.fon h (u8 c 1) CAM_I2C_EN then cBAD_STATE
    else if (s.i2c h (u8 c 1)).run.isSome then cBUSY else 0
  act := fun c h s =>
    let p := u8 c 1
    let x := s.i2c h p
    let bs := x.stage ++ slice (pay c) 8 (u8 c 4)
    if bit (u8 c 3) 0 then okRes (s.setI2c h p { x with stage := bs })
    else if bit (u8 c 3) 1 then payRes (i2cData c s) (s.setI2c h p { x with stage := bs })
    else
      stRes cPENDING ((s.setI2c h p { x with stage := [], run := some (u8 c 5, c.ch, c.tag) }).emit (.i2c h p (u8 c 2) bs (u8 c 5)))
  fin := fun d s => if bit (u8 d.cmd 3) 0 then [] else i2cData d.cmd s }

/-- I2C_TRANSFER_DONE (R189): a transfer ends OK with the bytes read, CHECK_FAIL on NACK (1), TIMEOUT on long stretching (2).
DEDUCED (log 123). -/
def i2cDone (h p result : Nat) (read : List Byte) (s : State) : State :=
  if !(s.hasH h && decide (p < 2)) then s
  else
    let x := s.i2c h p
    match x.run with
    | none => s
    | some (n, ch, tag) =>
      let st := if result = 0 then 0 else if result = 1 then cCHECK_FAIL else cTIMEOUT
      noteDop (some (ch, tag)) h st (s.setI2c h p { x with run := none, last := if result = 0 then padTo n (read.take n) else [] })

/-! ### The pipeline -/

/-- Payload bytes and words of INSP_ISP_SET; CTRL comes last. -/
def ispWords : List (Nat × Nat) :=
  [(8, ISP_SNR.word), (12, ISP_DM.word), (16, ISP_WIN.word), (20, ISP_THR.word), (24, ISP_VERDICT.word), (28, ISP_CLOSE.word),
   (32, ISP_GEOM.word), (36, ISP_BASE01.word), (40, ISP_BASE23.word), (4, ISP_CTRL.word)]

def cmdInspIspSet : CmdSpec := {
  op := 0x0A05, cls := .p
  size := fun _ => 44
  ok := fun s c => hOk s c && res0 c 1 3 && allOk c BLK_ISP 0 ispWords
  named := nameH
  check := fun c h s => if !ispOpen s h 0 0 && anyDiffers c BLK_ISP h 0 ispWords s then cBAD_STATE else 0
  act := fun c h s => okRes (putAll c BLK_ISP h 0 ispWords s) }

def cmdInspColour : CmdSpec := {
  op := 0x0A06, cls := .p
  size := fun _ => 20
  ok := fun s c => hOk s c && s.hasH (u8 c 1) && res0 c 2 2 && wordsOk c 4 4 BLK_ISP 0 (ISP_COL (u8 c 1)).word
  named := nameH
  act := fun c h s => okRes (putWords c 4 4 BLK_ISP h 0 (ISP_COL (u8 c 1)).word s) }

def cmdInspDlut : CmdSpec := {
  op := 0x0A07, cls := .p
  size := fun c => 8 + 2 * u8 c 1
  ok := fun s c => hOk s c && decide (1 ≤ u8 c 1) && decide (u8 c 1 ≤ 24) && decide (u16 c 2 < 4096) && res0 c 4 4
  named := nameH
  act := fun c h s =>
    okRes (forEach (List.range (u8 c 1)) (fun k s =>
      s.setIsp h { (s.isp h) with dlut := tabSet (fun _ => 0) (s.isp h).dlut ((u16 c 2 + k) % 4096) (u16 c (8 + 2 * k)) }) s) }

/-- The pipeline is not OFF. -/
def ispBusy (_ : Cmd) (h : Nat) (s : State) : Nat := if ispOpen s h 0 0 then 0 else cBAD_STATE

def cmdInspRegions : CmdSpec := {
  op := 0x0A08, cls := .p
  size := fun _ => 36
  ok := fun s c => hOk s c && res0 c 1 1 && wordsOk c 4 8 BLK_ISP 0 ISP_ECHO_BASE_LO.word
  named := nameH
  check := ispBusy
  act := fun c h s => okRes (putFld h 0 ISP_STAT_CFG_DEPTH (u16 c 2) (putWords c 4 8 BLK_ISP h 0 ISP_ECHO_BASE_LO.word s)) }

def cmdInspOut : CmdSpec := {
  op := 0x0A09, cls := .p
  size := fun _ => 28
  ok := fun s c => hOk s c && decide (u8 c 1 < 4) && res0 c 2 2 && wordsOk c 4 6 BLK_ISP 0 (ISP_OUT_CTRL (u8 c 1)).word
  named := nameH
  check := ispBusy
  act := fun c h s => okRes (putWords c 4 6 BLK_ISP h 0 (ISP_OUT_CTRL (u8 c 1)).word s) }

def cmdInspOutRp : CmdSpec := {
  op := 0x0A0A, cls := .l
  size := fun _ => 8
  ok := fun s c => hOk s c && decide (u8 c 1 < 4) && res0 c 2 2 && wordOk BLK_ISP 0 (ISP_OUT_RP (u8 c 1)).word (uW c 4)
  named := nameH
  act := fun c h s =>
    let s := putWord BLK_ISP h 0 (ISP_OUT_RP (u8 c 1)).word (uW c 4) s
    let r := readWord BLK_ISP h 0 (ISP_OUT_WP (u8 c 1)).word s
    payRes r.1 r.2 }

def cmdInspOn : CmdSpec := {
  op := 0x0A0B, cls := .p
  size := fun _ => 2
  ok := maskOk, named := nameMask, hstat := true
  act := fun c h s =>
    let f := u8 c 1
    let s := putFlds h 0 BLK_ISP 0 [(ISP_CTRL_ECHO_EN, bits f 0 1), (ISP_CTRL_CMP_EN, bits f 1 1), (ISP_CTRL_APPLY, bits f 2 1)] s
    okRes (putFld h 0 ISP_CTRL_EN 1 s) }

def cmdInspOff : CmdSpec := {
  op := 0x0A0C, cls := .p, later := fun _ => true
  size := fun _ => 2
  ok := fun s c => maskOk s c && forceOk (u8 c 1)
  named := nameMask, hstat := true
  act := fun c h s =>
    turnOff h [0] (u8 c 1 == 1) (fun s _ => s.fon h 0 ISP_CTRL_EN) (fun _ _ => false) (fun s _ => s.fget h 0 ISP_STATUS_DRAIN_RESULT)
      (fun _ s => if u8 c 1 = 1 then putFld h 0 ISP_CTRL_FORCE_OFF 1 s else putFld h 0 ISP_CTRL_EN 0 s) s }

/-- INSP_GEOM_CAL (R202): one calibration for all named hearths. -/
def cmdInspGeomCal : CmdSpec := {
  op := 0x0A0D, cls := .p, later := fun _ => true
  size := fun _ => 2
  ok := fun s c => maskOk s c && s.hasH (u8 c 1)
  named := nameMask, allOrNone := true
  check := fun c h s =>
    if drtState s h ≠ 3 ∨ !bit (u8 c 0) (u8 c 1) ∨ (comparePorts s).isEmpty then cBAD_STATE
    else match s.geo with
      | none => 0
      | some x => if x.owner = (c.ch, c.tag) then 0 else cBUSY
  act := fun c _ s =>
    stRes cPENDING (if s.geo.isSome then s else
      { s with
        geo := some { ref := u8 c 1, named := nameMask s c, todo := nameMask s c, owner := (c.ch, c.tag) }
        geoRes := (0, 0, 0) })
  poll := fun _ _ s => if s.geoRes.1 = 0 then none else some (s.geoRes.1 - 1)
  fin := fun _ s => leBytes 2 s.geoRes.2.1 ++ leBytes 2 s.geoRes.2.2 }

def cmdInspStatus : CmdSpec := {
  op := 0x0A0E, cls := .q
  size := fun _ => 1
  ok := hOk, named := nameH
  act := fun _ h s =>
    let r := readWords BLK_ISP h 0 [ISP_ROWS.word, ISP_ECHO_MISS.word, ISP_VERDICT_TX.word, ISP_APPLIED.word, ISP_SKIP.word,
      ISP_LATE.word, ISP_EXCESS.word, ISP_OUT_OVR.word] s
    payRes (leBytes 1 (s.fget h 0 ISP_STATUS_STATE) ++ leBytes 1 (s.fget h 0 ISP_STATUS_LOAD) ++ [0, 0] ++ r.1) r.2 }

end Sys2Proof.Machine
end

