-- ==== Sys2Proof/Machine/CmdTime.lean ====
section
/-! DEFINITION. The TIME, TWIN and EVENT commands (R318, R319, R322). -/

namespace Sys2Proof.Machine

/-! ### TIME (R318) -/

def cmdTimeGet : CmdSpec := {
  op := 0x0B00, cls := .q
  act := fun _ _ s =>
    payRes (leBytes 8 s.tim.sec ++ leBytes 4 s.tim.ns ++ leBytes 4 s.tim.frac ++ leBytes 8 (s.get64 0 0 TIM_INC_LO)
      ++ leBytes 4 (tget s TIM_STATUS_FROZEN + 2 * tget s TIM_STATUS_PATH_STEP)) s }

def cmdTimeSet : CmdSpec := {
  op := 0x0B01, cls := .l
  size := fun _ => 12
  ok := fun _ c => decide (u32 c 8 < 10 ^ 9) && decide (u64 c 0 < 2 ^ 48)
  act := fun c _ s =>
    let s := putWord BLK_TIM 0 0 TIM_SET_SEC_HI.word (uW c 4) (putWord BLK_TIM 0 0 TIM_SET_SEC_LO.word (uW c 0) s)
    okRes (putFld 0 0 TIM_CTRL_SET 1 (putWord BLK_TIM 0 0 TIM_SET_NS.word (uW c 8) s)) }

/-- TIME_INC: an increment that the register cannot hold is written as its largest value, which acts as the same limit.
DESIGN CHOICE (log 124). -/
def cmdTimeInc : CmdSpec := {
  op := 0x0B02, cls := .l
  size := fun _ => 8
  check := fun _ _ s => if tget s TIM_STATUS_FROZEN = 1 then cBAD_STATE else 0
  act := fun c _ s =>
    let v := min (u64 c 0) (2 ^ 35 - 1)
    okRes (putWord BLK_TIM 0 0 TIM_INC_HI.word (BitVec.ofNat 32 (v / 2 ^ 32))
      (putWord BLK_TIM 0 0 TIM_INC_LO.word (BitVec.ofNat 32 v) s)) }

def cmdTimeAdj : CmdSpec := {
  op := 0x0B03, cls := .l
  size := fun _ => 8
  act := fun c _ s => okRes (putFld 0 0 TIM_CTRL_ADJ 1 (putWords c 0 2 BLK_TIM 0 0 TIM_ADJ_LO.word s)) }

def cmdTimePtpSet : CmdSpec := {
  op := 0x0B04, cls := .l
  size := fun _ => 16
  ok := fun _ c => fits TIM_PTP_CFG_PORTS (u8 c 0) && decide (u8 c 1 < 4) && res0 c 3 1 && fits TIM_STEP_THR (u32 c 12)
  act := fun c _ s =>
    let s := putWords c 4 2 BLK_TIM 0 0 (TIM_ASYM 0).word s
    let s := putFld 0 0 TIM_STEP_THR (u32 c 12) s
    let s := putFlds 0 0 BLK_TIM TIM_PTP_CFG.word [(TIM_PTP_CFG_PORTS, u8 c 0), (TIM_PTP_CFG_DOMAIN, u8 c 2)] s
    okRes (putFlds 0 0 BLK_TIM 0 [(TIM_CTRL_TC_EN, bits (u8 c 1) 0 1), (TIM_CTRL_OC_EN, bits (u8 c 1) 1 1)] s) }

/-- DELAY of a port: the mean path delay of the SLAVE port; the spec states none for a port without an exchange. -/
def ptpDelay (s : State) (p : Nat) : Nat × State := if ptpState s p = 2 then (tget s TIM_MPD, s) else s.free 32

def cmdTimePtpStatus : CmdSpec := {
  op := 0x0B05, cls := .q
  act := fun _ _ s =>
    let d0 := ptpDelay s 0
    let d1 := ptpDelay d0.2 1
    let r := readWords BLK_TIM 0 0 [TIM_RX_EVT.word, TIM_TX_EVT.word] d1.2
    payRes (leBytes 1 (ptpState s 0) ++ leBytes 1 (ptpState s 1) ++ [0, 0] ++ leBytes 4 d0.1 ++ leBytes 4 d1.1 ++ r.1) r.2 }

def cmdTimeUnfreeze : CmdSpec := {
  op := 0x0B06, cls := .l
  check := fun _ _ s => if tget s TIM_STATUS_FROZEN = 1 then 0 else cBAD_STATE
  act := fun _ _ s => okRes (putFld 0 0 TIM_CTRL_UNFREEZE 1 s) }

def cmdTimeUnit : CmdSpec := {
  op := 0x0B07, cls := .l
  size := fun _ => 20
  ok := fun _ c => decide (u8 c 0 < 16) && decide (u8 c 1 ≤ 3) && fits (TIM_TU_CTRL_TARGET 0) (u8 c 2) && res0 c 3 1
    && decide (u64 c 4 < 2 ^ 48) && fits (TIM_TU_NS_V 0) (u32 c 12)
  act := fun c _ s =>
    let n := u8 c 0
    let cap := leBytes 8 (s.get64 0 0 (TIM_TU_CAP_SEC_LO n)) ++ leBytes 4 (tget s (TIM_TU_CAP_NS_V n))
    let s := putWords c 4 4 BLK_TIM 0 0 (TIM_TU_SEC_LO n).word s
    payRes cap (putFlds 0 0 BLK_TIM (TIM_TU_CTRL n).word [(TIM_TU_CTRL_MODE n, u8 c 1), (TIM_TU_CTRL_TARGET n, u8 c 2)] s) }

/-! ### TWIN (R319) -/

def cmdTwinStatus : CmdSpec := {
  op := 0x0C00, cls := .q
  act := fun _ _ s =>
    let st := (twnStatus s).toNat
    payRes (leBytes 1 (wget s TWN_STATUS_ROLE) ++ leBytes 1 (wget s TWN_CTRL_SLOT)
      ++ leBytes 1 (bits st 13 1 + 2 * bits st 12 1 + 4 * bits st 11 1) ++ leBytes 1 (bits st 14 1)
      ++ leBytes 8 (s.get64 s.crown 0 TWN_DIVERGE_LO) ++ leBytes 8 (s.get64 s.crown 0 TWN_SWITCH_LO)) s }

/-- TWIN_SET writes SLOT, MISS, AUTO_JOIN and EN in that order. -/
def cmdTwinSet : CmdSpec := {
  op := 0x0C01, cls := .l
  size := fun _ => 4
  ok := fun _ c => decide (u8 c 0 ≤ 1) && decide (u8 c 2 < 4) && res0 c 3 1
  check := fun c _ s =>
    if wget s TWN_STATUS_ROLE ≠ 0 ∨ (u8 c 0 ≠ wget s TWN_CTRL_SLOT ∧ twnState s ≠ 0) then cBAD_STATE else 0
  act := fun c h s =>
    let s := putFld h 0 TWN_CTRL_SLOT (u8 c 0) s
    let s := putFld h 0 TWN_CTRL_MISS (u8 c 1) s
    let s := putFld h 0 TWN_CTRL_AUTO_JOIN (bits (u8 c 2) 1 1) s
    okRes (putFld h 0 TWN_CTRL_EN (bits (u8 c 2) 0 1) s) }

/-- TWIN_JOIN: its end is the end of the join it starts (R363). DEDUCED (log 126). -/
def cmdTwinJoin : CmdSpec := {
  op := 0x0C02, cls := .l, later := fun _ => true
  check := fun _ _ s => if canJoin s then 0 else cBAD_STATE
  act := fun _ h s => stRes cPENDING (putFld h 0 TWN_CTRL_JOIN 1 s)
  poll := fun _ _ s => if s.twn.joinRes = 0 then none else some (s.twn.joinRes - 1) }

def cmdTwinLeave : CmdSpec := {
  op := 0x0C03, cls := .l, later := fun _ => true
  size := fun _ => 1
  ok := fun _ c => forceOk (u8 c 0)
  act := fun c h s =>
    if u8 c 0 = 0 ∧ twnState s = 0 then stRes cDRAINED s
    else stRes cPENDING (if u8 c 0 = 1 then putFld h 0 TWN_CTRL_FORCE_OFF 1 s else putFld h 0 TWN_CTRL_EN 0 s)
  poll := fun _ _ s => if twnState s = 7 then none else some (wget s TWN_STATUS_DRAIN_RESULT) }

/-- TWIN_SWITCH_BACK on the active: the result of the hand-over it starts; on a standby in step the request is left to the
peer, whose hand-over it then follows. -/
def cmdTwinSwitchBack : CmdSpec := {
  op := 0x0C04, cls := .l, later := fun _ => true
  check := fun _ _ s => if canHandover s ∨ twnState s = 5 then 0 else cBAD_STATE
  act := fun _ h s => stRes cPENDING (putFld h 0 TWN_CTRL_SWITCH_BACK 1 (setTwn (fun x => { x with swapRes := 0 }) s))
  poll := fun _ _ s => if s.twn.swapRes = 0 then none else some (s.twn.swapRes - 1) }

def cmdTwinReport : CmdSpec := {
  op := 0x0C05, cls := .q
  size := fun _ => 4
  ok := fun _ c => decide (u8 c 0 ≤ 1) && res0 c 1 3
  act := fun c _ s =>
    if u8 c 0 = 0 then payRes (padTo 32 (s.twn.health.take 32)) s
    else
      let ps := tabGet (fun _ => []) s.twn.lostPages s.crown
      payRes (leBytes 1 (s.fget s.crown 0 TWN_LOST_V) ++ [0, 0, 0]
        ++ ((List.range 4).flatMap fun n => leBytes 8 (s.get64 s.crown 0 (TWN_LOST_LO n)))
        ++ (List.range 4).flatMap fun n => leBytes 4 (ps.getD n 0)) s }

/-! ### EVENT (R322) -/

def cmdEvtRoute : CmdSpec := {
  op := 0x0F00, cls := .l
  size := fun _ => 2
  ok := fun s c => maskOk s c && fits GLB_EVT_FQ (u8 c 1)
  named := nameMask, hstat := true
  act := fun c h s => okRes (putFld h 0 GLB_EVT_FQ (u8 c 1) s) }

/-- EVT_SEVERITY: GLB_SEV_SEL names the register, GLB_SEV_DATA0–3 take its severities (R294). DEDUCED (log 125). -/
def cmdEvtSeverity : CmdSpec := {
  op := 0x0F01, cls := .l
  size := fun _ => 20
  ok := fun s c => hOk s c && fits GLB_SEV_SEL_BLOCK (u8 c 1) && fits GLB_SEV_SEL_IDX (u8 c 2) && res0 c 3 1
  named := nameH
  act := fun c h s =>
    let s := putFlds h 0 BLK_GLB GLB_SEV_SEL.word [(GLB_SEV_SEL_BLOCK, u8 c 1), (GLB_SEV_SEL_IDX, u8 c 2)] s
    okRes (putWords c 4 4 BLK_GLB h 0 6 s) }

/-- The EVENT_EN word that BLOCK, INST and INDEX name on a hearth: its hearth, instance and word. -/
def evtEnable (s : State) (c : Cmd) : Option (Nat × Nat × Nat) :=
  let blk := u8 c 1
  let i := u8 c 2
  match (eventEnWords blk)[u8 c 3]? with
  | none => none
  | some w =>
    if !instPresent s (u8 c 0) blk i || (findReg blk i w).isNone then none
    else some (if blkGlobal blk then (0, 0, w) else (u8 c 0, i, w))

def cmdEvtEnable : CmdSpec := {
  op := 0x0F02, cls := .l
  size := fun _ => 8
  ok := fun s c => hOk s c && (match evtEnable s c with
    | some e => wordOk (u8 c 1) e.2.1 e.2.2 (uW c 4)
    | none => false)
  named := nameH
  act := fun c _ s => match evtEnable s c with
    | none => okRes s
    | some (h, i, w) => payRes (leBytes 4 (s.rd h i (u8 c 1) w).toNat) (putWord (u8 c 1) h i w (uW c 4) s) }

def cmdEvtFirmware : CmdSpec := {
  op := 0x0F03, cls := .l
  size := fun _ => 4
  ok := fun _ c => decide (u8 c 0 < 32)
  act := fun c _ s => okRes { s with fwQueue := u8 c 0, fwSevMin := u8 c 1, fwFamilies := u16 c 2 } }

end Sys2Proof.Machine
end

