-- ==== Sys2Proof/Machine/CmdCal.lean ====
section
/-! DEFINITION. The CAL and UPDATE commands (R320, R321). -/

namespace Sys2Proof.Machine

/-! ### CAL (R320) -/

/-- The kinds a CAL_RUN runs on a hearth: all it names with FORCE, else those whose temperature has moved (R388). -/
def calDue (c : Cmd) (h : Nat) (s : State) : List Nat := below 4 fun k => bit (u8 c 1) k && (u8 c 2 == 1 || calMoved s h k)

def cmdCalRun : CmdSpec := {
  op := 0x0D00, cls := .p, later := fun _ => true
  size := fun _ => 3
  ok := fun s c => maskOk s c && decide (u8 c 1 < 16) && forceOk (u8 c 2)
  named := nameMask, hstat := true
  check := fun c h s =>
    if decide (4 ≤ u8 c 1) && !anyCompare s then cBAD_STATE else if (s.cal h).run.isSome then cBUSY else 0
  act := fun c h s =>
    let ks := calDue c h s
    stRes (256 * ks.length) (forEach ks (fun k s => calAsk h { kind := k, owner := some (c.ch, c.tag) } s) s) }

/-- AGE_S of a kind; the spec states none before a run was accepted. -/
def calAge (h k : Nat) (s : State) : Nat × State :=
  match tabGet (fun _ => none) (s.cal h).lastAt k with
  | some t => ((s.now - t) / 400000000, s)
  | none => s.free 32

def cmdCalStatus : CmdSpec := {
  op := 0x0D01, cls := .q
  size := fun _ => 1
  ok := hOk, named := nameH
  act := fun _ h s =>
    let ages := (List.range 4).foldl (fun (a : List Nat × State) k => let r := calAge h k a.2; (a.1 ++ [r.1], r.2)) ([], s)
    payRes (((List.range 4).flatMap fun k => leBytes 1 (s.fget h 0 (CAL_KIND_SET k)))
      ++ ((List.range 4).flatMap fun k => leBytes 2 (s.fget h 0 (CAL_KIND_TEMP k))) ++ ages.1.flatMap (leBytes 4)) ages.2 }

def cmdCalPolicy : CmdSpec := {
  op := 0x0D02, cls := .p
  size := fun _ => 4
  ok := fun s c => maskOk s c && decide (u8 c 1 ≤ 1)
  named := nameMask, hstat := true
  act := fun c h s => okRes (putFlds h 0 BLK_CAL 0 [(CAL_CTRL_AUTO, u8 c 1), (CAL_CTRL_TSTEP, u8 c 2), (CAL_CTRL_TOL, u8 c 3)] s) }

/-- Governing temperatures a block holds: one, or one per port. -/
def calTempCount (kind : Nat) : Nat := if kind = 3 then 12 else 1

/-- A block as CAL_READ and CAL_WRITE see it: its temperatures as s16, then its data (DEDUCED: the layout, log entry 127). -/
def calView (b : CalBlock) : List Byte := (b.temps.flatMap fun t => leBytes 2 (ofS 16 t)) ++ b.data

/-- The block that a view spells. -/
def calFrom (kind stamp : Nat) (l : List Byte) : CalBlock :=
  let n := calTempCount kind
  ⟨(List.range n).map fun i => toS 16 (leAt l (2 * i) 2), l.drop (2 * n), stamp⟩

/-- Bytes a block of a kind may hold. -/
def calSize (s : State) (h kind : Nat) : Nat :=
  match kind with
  | 0 => 2 + 12 * 3 * 3
  | 1 => 2 + 12 * 9
  | 2 => 2 + 2 * 4 * (s.fget h 0 CAM_GEOM_WIDTH)
  | _ => 24 + 24

def cmdCalRead : CmdSpec := {
  op := 0x0D03, cls := .q
  size := fun _ => 8
  ok := fun s c => hOk s c && decide (u8 c 1 < 8) && decide (u8 c 2 < 4) && res0 c 3 1
    && decide (u32 c 4 ≤ (((calBlock s (u8 c 0) (u8 c 1) (u8 c 2)).map fun b => (calView b).length).getD 0))
  named := nameH
  act := fun c h s =>
    let l := ((calBlock s h (u8 c 1) (u8 c 2)).map calView).getD []
    let d := (l.drop (u32 c 4)).take 48
    payRes (leBytes 1 d.length ++ [0, 0, 0] ++ padTo 48 d) s }

/-- CAL_WRITE: the block is valid from now on; the kind is applied again (R390). -/
def cmdCalWrite : CmdSpec := {
  op := 0x0D04, cls := .p
  size := fun c => 8 + u8 c 3
  ok := fun s c => hOk s c && decide (u8 c 1 < 8) && decide (u8 c 2 < 4) && decide (1 ≤ u8 c 3) && decide (u8 c 3 ≤ 48)
    && decide (u32 c 4 + u8 c 3 ≤ calSize s (u8 c 0) (u8 c 2))
  named := nameH
  act := fun c h s =>
    let kind := u8 c 2
    let old := ((calBlock s h (u8 c 1) kind).map calView).getD []
    let l := padTo (max old.length (max (2 * calTempCount kind) (u32 c 4 + u8 c 3))) old
    let b := calFrom kind (s.cal h).stampNo (patch l (u32 c 4) (slice (pay c) 8 (u8 c 3)))
    let s := s.setCal h { (s.cal h) with stampNo := (s.cal h).stampNo + 1 }
    okRes (calApply h kind (setCalBlock h (u8 c 1) kind (some b) s)) }

def cmdCalStore : CmdSpec := {
  op := 0x0D05, cls := .p, later := fun _ => true
  size := fun _ => 3
  ok := fun s c => maskOk s c && decide (u8 c 2 ≤ 1)
  named := nameMask, hstat := true
  act := fun c h s => okRes (calStore h (u8 c 1) (u8 c 2 == 1) s) }

/-! ### UPDATE (R321) -/

/-- JOURNAL of a component. -/
def jourState (s : State) (comp : Nat) : Nat :=
  match s.upd.jour with
  | some j => if j.comp = comp then j.st else 0
  | none => 0

def cmdUpdStatus : CmdSpec := {
  op := 0x0E00, cls := .q
  act := fun _ _ s =>
    payRes ((List.range 5).flatMap fun k =>
      leBytes 1 (activeSlot s k) ++ leBytes 1 (jourState s k) ++ leBytes 4 (slotVer s k 0) ++ leBytes 4 (slotVer s k 1)) s }

def cmdUpdVerify : CmdSpec := {
  op := 0x0E01, cls := .l, later := fun _ => true
  size := fun _ => 2
  ok := fun _ c => decide (u8 c 0 < 5) && decide (u8 c 1 ≤ 1)
  act := fun c _ s => stRes (verifySlot s (u8 c 0) (u8 c 1)) s }

/-- What UPD_ACTIVATE and UPD_REVERT do with a slot: the end comes with the swap, for component 4 at once. -/
def updActivate (c : Cmd) (comp slot : Nat) (s : State) : CmdRes :=
  let r := activate comp slot (some (c.ch, c.tag)) s
  stRes (if r.1 ≠ 0 then r.1 else if comp = 4 then cOK else cPENDING) r.2

/-- A patch of the component is in progress. -/
def updBusy (c : Cmd) (_ : Nat) (s : State) : Nat := if patchOpen s (u8 c 0) then cBAD_STATE else 0

def cmdUpdActivate : CmdSpec := {
  op := 0x0E02, cls := .l, later := fun _ => true
  size := fun _ => 2
  ok := fun _ c => decide (u8 c 0 < 5) && decide (u8 c 1 ≤ 1)
  check := updBusy
  act := fun c _ s => updActivate c (u8 c 0) (u8 c 1) s }

def cmdUpdRevert : CmdSpec := {
  op := 0x0E03, cls := .l, later := fun _ => true
  size := fun _ => 1
  ok := fun _ c => decide (u8 c 0 < 5)
  check := updBusy
  act := fun c _ s => updActivate c (u8 c 0) (1 - activeSlot s (u8 c 0)) s }

def cmdUpdAbort : CmdSpec := {
  op := 0x0E04, cls := .l
  size := fun _ => 1
  ok := fun _ c => decide (u8 c 0 < 5)
  check := fun c _ s => if patchOpen s (u8 c 0) then 0 else cBAD_STATE
  act := fun c _ s =>
    let r := patchAbort (u8 c 0) s
    stRes r.1 r.2 }

end Sys2Proof.Machine
end

