-- ==== Sys2Proof/Machine/StandAlone.lean ====
section
/-! DEFINITION. Modes and stand-alone behaviour (R303, R308, R342–R348): attaching and detaching a host, the stand-alone
section, spit bursts, capping, arming the chart. -/

namespace Sys2Proof.Machine

/-! ### Register lists (R393) -/

/-- Address and value pairs of a register list. -/
def regPairs : Nat → List Byte → List (Nat × Word)
  | 0, _ => []
  | n + 1, l => if l.length < 8 then [] else (leAt l 0 4, BitVec.ofNat 32 (leAt l 4 4)) :: regPairs n (l.drop 8)

/-- Write the pairs of a list. -/
def writePairs (ps : List (Nat × Word)) (s : State) : State := forEach ps (fun e s => (busWrite e.1 e.2 s).2) s

/-! ### The stand-alone section (R343) -/

/-- The stand-alone section: ports with tables by hearth, the burst, the axes and their positions, the chart's source,
ratio and stations, its register list. DESIGN CHOICE: the layout of the bytes (log entry 133). -/
structure AloneCfg where
  lines : Nat
  level : Nat
  liftAx : Nat
  capAx : Nat
  raised : Int
  print : Int
  onCap : Int
  capped : Int
  clear : Int
  vmax : Nat
  src : Nat
  n : Nat
  m : Nat
  station : List Int
  ports : List Nat
  pairs : List (Nat × Word)

/-- A signed field of four bytes. -/
def s32At (l : List Byte) (i : Nat) : Int := toS 32 (leAt l i 4)

/-- The section of the configuration image; none where it is missing or fails its CRC. -/
def aloneCfg (s : State) : Option AloneCfg :=
  (cfgKind s 5).map fun l =>
    { lines := if leAt l 0 2 = 0 then 8 else leAt l 0 2
      level := if byteAt l 2 % 4 = 0 then 1 else byteAt l 2 % 4
      liftAx := byteAt l 4 % 8, capAx := byteAt l 5 % 8
      raised := s32At l 8, print := s32At l 12, onCap := s32At l 16, capped := s32At l 20, clear := s32At l 24, vmax := leAt l 28 4
      src := byteAt l 6 % 8, n := leAt l 32 4 % 2 ^ 24, m := leAt l 36 4 % 2 ^ 24
      station := (List.range 8).map fun h => s32At l (40 + 4 * h)
      ports := (List.range 8).map fun h => leAt l (72 + 2 * h) 2 % 4096
      pairs := regPairs (l.length / 8) (l.drop 88) }

/-- The Draught's lines of a burst or chart still run. -/
def aloneRuns (s : State) : Bool := (List.range s.nH).any fun h => (s.ter h).alone.1 != 0

/-- A burst, the chart or a bar motion is under way. -/
def aloneBusy (s : State) : Bool := aloneRuns s || s.alone.chart || !s.alone.script.isEmpty

/-- Stand-alone behaviour begins: the section's registers, power and arming of the ports it gives tables. -/
def standAlone (s : State) : State :=
  match aloneCfg s with
  | none => s
  | some k =>
    let s := writePairs k.pairs s
    forEach (List.range s.nH) (fun h s => forEach (below 12 (bit (k.ports.getD h 0)))
      (fun p s => putFlds h p BLK_FBX 0 [(FBX_CTRL_PWR, 1), (FBX_CTRL_EN, 1)] s) s) s

/-- Enter mode STANDALONE. -/
def enterAlone (s : State) : State :=
  standAlone (fwEvent s.crown 0x8101 { s with mode := 1, attachDue := false, alone := { s.alone with active := true } })

/-- Mode becomes HOSTED. -/
def goHosted (s : State) : State :=
  fwEvent s.crown 0x8102 { s with mode := 2, attachDue := false, alone := { s.alone with active := false } }

/-- SYS_ATTACH: at once, at the end of boot, or after the burst, chart or motion under way (R308, R348). -/
def attach (host : Nat) (s : State) : State :=
  let s := { s with hostId := host }
  if s.mode = 0 ∨ (s.mode = 1 ∧ aloneBusy s) then { s with attachDue := true } else goHosted s

/-- A stand-alone activity has ended: an attach that waited for it acts. -/
def aloneEnded (s : State) : State := if s.attachDue && s.mode == 1 && !aloneBusy s then goHosted s else s

/-! ### Bar motions (R345, R346) -/

/-- The axis is enabled, at rest, with nothing queued. -/
def axisFree (s : State) (a : Nat) : Bool :=
  axState s a == 1 && (s.axis a).queue.isEmpty && (s.axis a).cur.isNone && (s.axis a).homing == 0

/-- Enable an axis that is OFF. -/
def axisOn (a : Nat) (s : State) : State := if axState s a = 0 then motWrite a 0 (ctrlWith s a 0) s else s

/-- The chart is armed on every hearth: source, ratio, start, the first lines of the chart (R346, R347). -/
def chartArm (k : AloneCfg) (s : State) : State :=
  forEach (List.range s.nH) (fun h s =>
    let s := putFlds h 0 BLK_DRT 0 [(DRT_CTRL_EN, 0)] s
    let s := putFlds h 0 BLK_DRT 0 [(DRT_CTRL_MODE, 0), (DRT_CTRL_SRC, k.src)] s
    let s := putWord BLK_DRT h 0 2 (BitVec.ofNat 32 k.m) (putWord BLK_DRT h 0 1 (BitVec.ofNat 32 k.n) s)
    let s := putFlds h 0 BLK_DRT 0 [(DRT_CTRL_EN, 1)] s
    let start := drtCount s h + 64 + k.station.getD h 0
    let s := putWord BLK_DRT h 0 4 0 (putWord BLK_DRT h 0 3 (BitVec.ofNat 32 (ofS 32 start)) s)
    let s := s.setTer h { (s.ter h) with
      cur := {}, n1 := { alone := true, body := 2, idx := 0 }, n2 := { alone := true, body := 2, idx := 1 }, alone := (2, 2, 11198) }
    putFlds h 0 BLK_DRT 0 [(DRT_CTRL_START_ARM, 1)] s) s

/-- Begin or finish the first step of a bar motion; `n` bounds the steps taken at once. An axis that stops short of its
step (in LIMIT, or not homed) ends the motion. -/
def aloneStep : Nat → State → State
  | 0, s => s
  | n + 1, s =>
    match s.alone.script, aloneCfg s with
    | [], _ => aloneEnded s
    | _, none => aloneEnded { s with alone := { s.alone with script := [], begun := false, chart := false } }
    | st :: rest, some k =>
      let next (s : State) : State := { s with alone := { s.alone with script := rest, begun := false } }
      let quit (s : State) : State := aloneEnded { s with alone := { s.alone with script := [], begun := false, chart := false } }
      match st with
      | .mark b => aloneStep n { next s with alone := { (next s).alone with capped := b } }
      | .chart => chartArm k (next s)
      | .home a =>
        if !s.alone.begun then
          let s := axisOn a s
          if s.mon a MOT_STATUS_HOMED then aloneStep n (next s)
          else motWrite a 0 (ctrlWith s a 3) { s with alone := { s.alone with begun := true } }
        else if s.mon a MOT_STATUS_HOMED && axisFree s a then aloneStep n (next s)
        else if axState s a = 4 then s
        else quit s
      | .move a t =>
        if !s.alone.begun then (queuePush a t k.vmax false none { s with alone := { s.alone with begun := true } }).1
        else if axisFree s a then (if axPos s a = t then aloneStep n (next s) else quit s)
        else if axState s a = 5 ∨ axState s a = 0 then quit s
        else s

/-- Carry a bar motion on after the axes moved. -/
def aloneMotion (s : State) : State := if s.alone.script.isEmpty then s else aloneStep (s.alone.script.length + 1) s

/-- The steps that cap the bar, and in reverse order that free it. -/
def capSteps (k : AloneCfg) : List AloneStep :=
  [.home k.liftAx, .home k.capAx, .move k.liftAx k.raised, .move k.capAx k.capped, .move k.liftAx k.onCap, .mark true]
def uncapSteps (k : AloneCfg) : List AloneStep :=
  [.home k.liftAx, .home k.capAx, .move k.liftAx k.raised, .move k.capAx k.clear, .move k.liftAx k.print, .mark false]

/-! ### The rows -/

/-- SPIT_BURST (R344): the lines of a burst are set out on every hearth with tables, at a 100 µs period. DEDUCED (log 138). -/
def spitBurst (s : State) : State :=
  match aloneCfg s with
  | none => s
  | some k =>
    if !s.alone.active ∨ aloneBusy s then s
    else
      forEach (below s.nH fun h => k.ports.getD h 0 != 0) (fun h s =>
        let s := putFlds h 0 BLK_DRT 0 [(DRT_CTRL_EN, 0)] s
        let s := putFlds h 0 BLK_DRT 0 [(DRT_CTRL_MODE, 2)] s
        let s := putFld h 0 DRT_INT_PERIOD_INTERNAL 40000 s
        let s := s.setTer h { (s.ter h) with cur := {}, n1 := {}, n2 := {}, alone := (1, 0, k.lines) }
        putFlds h 0 BLK_DRT 0 [(DRT_CTRL_EN, 1)] s) s

/-- IDLE_CAP (R345): the web has been idle. -/
def idleCap (s : State) : State :=
  match aloneCfg s with
  | none => s
  | some k =>
    if !s.alone.active ∨ aloneBusy s ∨ s.alone.capped then s
    else aloneMotion { s with alone := { s.alone with script := capSteps k, begun := false } }

/-- TEST_N_CHART (R346, R348): the level arms the chart, after a capping in progress. -/
def testChart (s : State) : State :=
  match aloneCfg s with
  | none => s
  | some k =>
    if !s.alone.active ∨ s.alone.chart ∨ aloneRuns s then s
    else if s.alone.script.isEmpty then
      aloneMotion { s with
        alone := { s.alone with script := (if s.alone.capped then uncapSteps k else []) ++ [.chart], begun := false, chart := true } }
    else { s with alone := { s.alone with script := s.alone.script ++ uncapSteps k ++ [.chart], chart := true } }

/-- ATTACH_WAIT_EXPIRY (R343, R348): 2 s after the end of boot without an attach. -/
def attachWait (s : State) : State := if s.mode = 1 ∧ !s.alone.active then enterAlone s else s

/-- LineD of a hearth's stand-alone or chart line: level of column `x` (R202, R344, R347). -/
def aloneLevel (s : State) (h : Nat) (d : LineD) (x : Nat) : Nat :=
  if d.typ = 3 then (if x % 256 = 128 then 3 else 0)
  else if d.body = 1 then ((aloneCfg s).map AloneCfg.level).getD 1
  else
    let y := (d.idx : Int) - 1400 * h - 80 * (x % 16 : Nat)
    if 0 ≤ y ∧ y < 64 then 3 else 0

end Sys2Proof.Machine
end

