-- ==== Sys2Proof/Machine/CmdSys.lean ====
section
/-! DEFINITION. The SYS and REG commands (R308, R309). -/

namespace Sys2Proof.Machine

/-! ### SYS (R308) -/

/-- Version of a component's slot in use. DEDUCED (log 114). -/
def compVer (s : State) (comp : Nat) : Nat := slotVer s comp (bits s.upd.running comp 1)

def cmdSysInfo : CmdSpec := {
  op := 0x0100, cls := .q
  act := fun _ _ s =>
    payRes ([3, BitVec.ofNat 8 s.nH, 0xC0, BitVec.ofNat 8 s.crown, BitVec.ofNat 8 s.mode, BitVec.ofNat 8 s.leadSel, 0, 0]
      ++ leBytes 4 (compVer s 0) ++ leBytes 4 (compVer s 4)) s }

def cmdSysAttach : CmdSpec := {
  op := 0x0101, cls := .q
  size := fun _ => 4
  act := fun c _ s => payRes (leBytes 1 s.mode) (attach (u32 c 0) s) }

/-- SYS_DETACH: mode STANDALONE, the section runs again (R308, R343). -/
def cmdSysDetach : CmdSpec := { op := 0x0102, cls := .l, act := fun _ _ s => okRes (enterAlone s) }

/-- The highest die temperature. -/
def tempMax (s : State) : Int := ((List.range s.nH).map fun h => s.sget h 0 DRM_TEMP_V).foldl max (-32768)

/-- Hearths that took part in the boot. -/
def hearthsUp (s : State) : Nat := ((below s.nH fun h => !bit s.absent h).map fun h => 2 ^ h).sum

def cmdSysStatus : CmdSpec := {
  op := 0x0103, cls := .q
  act := fun _ _ s =>
    payRes (leBytes 1 s.mode ++ leBytes 1 (hearthsUp s) ++ leBytes 1 (b2n (bridgeUp s)) ++ leBytes 1 (s.fget s.crown 0 TWN_STATUS_ROLE)
      ++ leBytes 2 (ofS 16 (tempMax s)) ++ [0, 0] ++ leBytes 8 ((s.now - s.upSince) / 400000)) s }

/-- SYS_RESET: the reset follows 1 ms later (SYS_RESET_DELAY_EXPIRY). DEDUCED (log 112). -/
def cmdSysReset : CmdSpec := {
  op := 0x0104, cls := .l
  size := fun _ => 4
  ok := fun s c => u16 c 0 == 0xB007 && decide (u8 c 2 ≤ 1) && u8 c 3 != 0 && decide (u8 c 3 < 2 ^ s.nH)
    && !(u8 c 2 == 1 && bit (u8 c 3) s.crown)
  act := fun c _ s => okRes { s with resetDue := some (u8 c 2, u8 c 3) } }

/-- The hearth that serves a target: the crown for a register set of the package. -/
def targetHearth (s : State) (a : RegAddr) (t : Nat × Nat) : Nat := if a.space = 3 ∨ blkGlobal a.blk then s.crown else t.1

/-- The targets of an address that one hearth serves. -/
def targetsAt (s : State) (h : Nat) (a : RegAddr) : List (Nat × Nat) := (targets s a).filter fun t => targetHearth s a t == h

/-- Write one word at the targets that one hearth serves. -/
def writeAt (h addr : Nat) (v : Word) (s : State) : State :=
  match regAddr addr with
  | none => s
  | some a => forEach (targetsAt s h a) (fun t => regWrite a.blk t.1 t.2 a.word v a.bcast) s

/-- Hearths that serve an address; the crown where none does. -/
def hearthsOf (s : State) (addr : Nat) : List Nat :=
  match regAddr addr with
  | none => [s.crown]
  | some a =>
    match ((targets s a).map (targetHearth s a)).eraseDups with
    | [] => [s.crown]
    | hs => hs

/-- SYS_CONFIG_LOAD: the entries of a register list that a named hearth serves; those of the package with the lowest. -/
def cmdSysConfigLoad : CmdSpec := {
  op := 0x0105, cls := .p, later := fun _ => true
  size := fun _ => 4
  ok := fun s c => maskOk s c && res0 c 1 1
  named := nameMask, hstat := true
  check := fun c _ s => match cfgSection s (u16 c 2) with
    | some (1, _) => 0
    | _ => cBAD_PARAM
  act := fun c h s => match cfgSection s (u16 c 2) with
    | some (_, some bs) =>
      let first := (nameMask s c).head? == some h
      okRes (forEach (regPairs bs.length bs) (fun e s => match regAddr e.1 with
        | none => s
        | some a =>
          let g := a.space == 3 || blkGlobal a.blk
          let ts := (targets s a).filter fun t => if g then first else t.1 == h
          forEach ts (fun t => regWrite a.blk t.1 t.2 a.word e.2 a.bcast) s) s)
    | _ => stRes cCHECK_FAIL s }

def cmdSysNop : CmdSpec := { op := 0x0106, cls := .q, act := fun c _ s => payRes ((pay c).take c.len) s }

/-! ### REG (R309) -/

/-- In JUNIOR mode a target of the other half is denied (R340). -/
def regGate (s : State) (addr : Nat) : Nat :=
  if (hearthsOf s addr).any fun h => hearthGate s h == cDENIED then cDENIED else 0

def cmdRegRead : CmdSpec := {
  op := 0x0200, cls := .q
  size := fun _ => 5
  ok := fun _ c => decide (1 ≤ u8 c 4) && decide (u8 c 4 ≤ 13)
  check := fun c _ s => regGate s (u32 c 0)
  act := fun c _ s =>
    let r := busReads (u32 c 0) 0 (u8 c 4) s
    match r.1 with
    | some ws => payRes (ws.flatMap fun w => leBytes 4 w.toNat) r.2
    | none => stRes cTIMEOUT r.2 }

def cmdRegWrite : CmdSpec := {
  op := 0x0201, cls := .p
  size := fun c => 8 + 4 * u8 c 4
  ok := fun _ c => decide (1 ≤ u8 c 4) && decide (u8 c 4 ≤ 12) && res0 c 5 3
  named := fun s c => hearthsOf s (u32 c 0)
  act := fun c h s => okRes (forEach (List.range (u8 c 4)) (fun k s => writeAt h (burstAddr (u32 c 0) k) (uW c (8 + 4 * k)) s) s) }

/-- REG_MODIFY: each target's word, read and written with nothing between. -/
def cmdRegModify : CmdSpec := {
  op := 0x0202, cls := .p
  size := fun _ => 12
  named := fun s c => hearthsOf s (u32 c 0)
  act := fun c h s => match regAddr (u32 c 0) with
    | none => payRes (leBytes 4 0) s
    | some a =>
      let first := (targets s a).head?
      let one (t : Nat × Nat) (r : CmdRes) : CmdRes :=
        let o := regRead a.blk t.1 t.2 a.word r.s
        { r with
          pay := if first = some t then leBytes 4 o.1.toNat else r.pay
          s := regWrite a.blk t.1 t.2 a.word ((o.1 &&& ~~~ uW c 4) ||| (uW c 8 &&& uW c 4)) a.bcast o.2 }
      (targetsAt s h a).foldl (fun r t => one t r) (if first.isNone then payRes (leBytes 4 0) s else okRes s) }

/-- The word a poll sees: that of the lowest target, 0 at an ignored address; none while it is unreachable. DEDUCED (log 113). -/
def pollWord (s : State) (addr : Nat) : Option Word :=
  match regAddr addr with
  | none => some 0
  | some a => match targets s a with
    | [] => some 0
    | t :: _ => if targetUp s a t then some (regPeek s a.blk t.1 t.2 a.word) else none

/-- REG_POLL: it ends when the word matches; REG_POLL_TIMEOUT ends it too. -/
def cmdRegPoll : CmdSpec := {
  op := 0x0203, cls := .q, later := fun _ => true
  size := fun _ => 16
  check := fun c _ s => regGate s (u32 c 0)
  act := fun _ _ s => stRes cPENDING s
  poll := fun d _ s => match pollWord s (u32 d.cmd 0) with
    | none => some cTIMEOUT
    | some w => if w &&& uW d.cmd 4 = uW d.cmd 8 then some cOK else none
  fin := fun d s => leBytes 4 ((pollWord s (u32 d.cmd 0)).getD 0).toNat }

end Sys2Proof.Machine
end

