-- ==== Sys2Proof/Machine/Commands.lean ====
section
/-! DEFINITION. The command set (R304): each opcode's command; taking an entry from a command ring (R276–R278); the ends of
commands that complete later (R305); one row per command. -/

namespace Sys2Proof.Machine

/-! ### The set -/

def specsSys : List CmdSpec := [
  cmdSysInfo, cmdSysAttach, cmdSysDetach, cmdSysStatus, cmdSysReset, cmdSysConfigLoad, cmdSysNop]
def specsReg : List CmdSpec := [cmdRegRead, cmdRegWrite, cmdRegModify, cmdRegPoll]
def specsLink : List CmdSpec := [cmdLinkStatus, cmdLinkUp, cmdLinkDown, cmdLinkEq, cmdLinkPrbs]
def specsGorge : List CmdSpec := [cmdGorgeOn, cmdGorgeOff, cmdGorgeStatus, cmdGorgeRewind]
def specsPage : List CmdSpec := [
  cmdPageQuery, cmdPageCommit, cmdPageReprint, cmdPageRelease, cmdPageAbort, cmdPageWithdraw, cmdPageDeclare,
  cmdPageWait, cmdPageList, cmdPageBasin, cmdPageBasinSet, cmdPageRetain]
def specsLayer : List CmdSpec := [
  cmdLayerSet, cmdLayerGet, cmdLayerRoute, cmdLayerSlot, cmdLayerOn, cmdLayerOff, cmdLayerPrivArm,
  cmdLayerAdopt, cmdLayerFree, cmdLayerLbs, cmdLayerReadback, cmdLayerRead]
def specsScreen : List CmdSpec := [cmdScreenGeom, cmdScreenWrite, cmdScreenRead, cmdScreenLoad, cmdScreenArm]
def specsAsh : List CmdSpec := [cmdAshGet, cmdAshPut, cmdAshPush, cmdAshLoad, cmdAshFlush]
def specsHead : List CmdSpec := [
  cmdHeadStatus, cmdHeadPower, cmdHeadSetup, cmdHeadPhase, cmdHeadStbt, cmdHeadTherm, cmdHeadCmap,
  cmdHeadCmapApply, cmdHeadOn, cmdHeadOff, cmdHeadDamper, cmdHeadBudget, cmdHeadFenderSet, cmdHeadFenderGet]
def specsFeed : List CmdSpec := [
  cmdFeedSet, cmdFeedEn, cmdFeedStart, cmdFeedResume, cmdFeedStatus, cmdFeedPass, cmdFeedScan]
def specsFb : List CmdSpec := [cmdFbQuad, cmdFbHall, cmdFbSsi, cmdFbStatus, cmdFbClear]
def specsMot : List CmdSpec := [
  cmdMotSetup, cmdMotThresh, cmdMotEn, cmdMotMove, cmdMotStop, cmdMotHome, cmdMotClear, cmdMotStatus, cmdMotPos]
def specsInsp : List CmdSpec := [
  cmdInspCamSet, cmdInspCorr, cmdInspCamEn, cmdInspCamStatus, cmdInspI2c, cmdInspIspSet, cmdInspColour,
  cmdInspDlut, cmdInspRegions, cmdInspOut, cmdInspOutRp, cmdInspOn, cmdInspOff, cmdInspGeomCal, cmdInspStatus]
def specsTime : List CmdSpec := [
  cmdTimeGet, cmdTimeSet, cmdTimeInc, cmdTimeAdj, cmdTimePtpSet, cmdTimePtpStatus, cmdTimeUnfreeze, cmdTimeUnit]
def specsTwin : List CmdSpec := [cmdTwinStatus, cmdTwinSet, cmdTwinJoin, cmdTwinLeave, cmdTwinSwitchBack, cmdTwinReport]
def specsCal : List CmdSpec := [cmdCalRun, cmdCalStatus, cmdCalPolicy, cmdCalRead, cmdCalWrite, cmdCalStore]
def specsUpd : List CmdSpec := [cmdUpdStatus, cmdUpdVerify, cmdUpdActivate, cmdUpdRevert, cmdUpdAbort]
def specsEvt : List CmdSpec := [cmdEvtRoute, cmdEvtSeverity, cmdEvtEnable, cmdEvtFirmware]

/-- The command set. -/
def allSpecs : List CmdSpec :=
  specsSys ++ specsReg ++ specsLink ++ specsGorge ++ specsPage ++ specsLayer ++ specsScreen ++ specsAsh ++
  specsHead ++ specsFeed ++ specsFb ++ specsMot ++ specsInsp ++ specsTime ++ specsTwin ++ specsCal ++ specsUpd
  ++ specsEvt

/-- The command of an opcode. -/
def specOf (op : Nat) : Option CmdSpec := allSpecs.find? fun sp => sp.op == op

/-! ### Ends of deferred commands (R305) -/

/-- A deferred command's statuses with those that are known now. -/
def pollDop (sp : CmdSpec) (s : State) (d : DOp) : DOp :=
  { d with hs := d.hs.zipIdx.map fun (v, h) => if v < 256 then v else (sp.poll d h s).getD v }

/-- The final response of a deferred command. -/
def finishDop (sp : CmdSpec) (d : DOp) (s : State) : State :=
  answer d.cmd sp.op (worst d.hs) (if sp.hstat then hsBytes d.hs else sp.fin d s) s

/-- One deferred command: it ends, or its statuses are kept. -/
def settleDop (d : DOp) (s : State) : State :=
  match specOf d.op with
  | none => s
  | some sp =>
    let d' := pollDop sp s d
    if allKnown d'.hs then finishDop sp d' { s with dops := s.dops.filter fun x => !(x.ch == d.ch && x.tag == d.tag) }
    else { s with dops := s.dops.map fun x => if x.ch == d.ch && x.tag == d.tag then d' else x }

/-- The deferred commands whose end has come are answered. -/
def settleOps (s : State) : State := forEach s.dops settleDop s

/-- A commit that waited for the mirror is scheduled once the page's last forwarded frame is acknowledged (R361). -/
def twinRelease (t : TwnCmd) (s : State) : State :=
  if t.apply.any fun e => mirrorHolds s e.1 (u32 t.cmd 4) then s
  else
    let t' := { t with apply := t.apply.map fun e => (e.1, max e.2 (lnum s e.1 + 1)) }
    let s := setTwn (fun x => { x with heldCmds := x.heldCmds.erase t, cmds := x.cmds ++ [t'] }) s
    if twnLeads s then cmdFrame t' s else s

/-- What follows every command: a stand-alone motion goes on, the Chimney and the Basins' releases and credit follow, commits held for the mirror are scheduled, deferred commands
end, on the junior lead too; FND_STATUS shows the gates in force (R173). DESIGN CHOICE (log 14). -/
def settle (s : State) : State :=
  gateShow (inJunior settleOps (settleOps (forEach s.twn.heldCmds twinRelease (basinsFollow (fabricFollow (aloneMotion s))))))

/-- A command's outcome with what follows it. -/
def settled (s : State) : Outcome := .next (settle s)

/-- The time a deferred command may take has run out: what it still waits for ends TIMEOUT. -/
def expire (op ch tag : Nat) (s : State) : State :=
  { s with dops := s.dops.map fun d =>
      if d.op == op && d.ch == ch && d.tag == tag then { d with hs := d.hs.map fun v => if v < 256 then v else cTIMEOUT } else d }

/-- REG_POLL_TIMEOUT (R309), PAGE_WAIT_TIMEOUT (R311), HEAD_POWER_TIMEOUT (R314): the command's own time. -/
def execRegPollTimeout (ch tag : Nat) (s : State) : Outcome := settled (onSide ch (fun ch => expire cmdRegPoll.op ch tag) s)
def execPageWaitTimeout (ch tag : Nat) (s : State) : Outcome := settled (onSide ch (fun ch => expire cmdPageWait.op ch tag) s)
def execHeadPowerTimeout (ch tag : Nat) (s : State) : Outcome := settled (onSide ch (fun ch => expire cmdHeadPower.op ch tag) s)

/-- GEOM_CAL_TIMEOUT (R317): the calibration ends TIMEOUT. -/
def execGeomCalTimeout (s : State) : Outcome := settled (geoTimeout s)

/-- PRBS_TEST_END (R310): the test's time is over. -/
def execPrbsTestEnd (h l : Nat) (s : State) : Outcome := settled (prbsTestEnd h l s)

/-- I2C_TRANSFER_DONE (R189). -/
def execI2cTransferDone (h c result : Nat) (read : List Byte) (s : State) : Outcome := settled (i2cDone h c result read s)

/-! ### Taking an entry (R276–R278, R304) -/

/-- An entry of a command ring as a command. DEDUCED (log 156). -/
def cmdOf (ch : Nat) (e : List Byte) : Cmd :=
  { ch := ch, tag := byteAt e 2, gen := byteAt e 7, flags := byteAt e 3, len := leAt e 4 2, payload := e.drop 8 }

/-- An opcode outside the command set: outstanding until its BAD_OPCODE is written. -/
def serveUnknown (op : Nat) (c : Cmd) (s : State) : State :=
  if (s.mbx c.ch).outst.contains c.tag then tagBusy c.ch (cmdEntry op c) s
  else answer c op cBAD_OPCODE [] (s.setMbx c.ch { (s.mbx c.ch) with outst := (s.mbx c.ch).outst ++ [c.tag] })

/-- Serve an entry. -/
def serveEntry (ch : Nat) (e : List Byte) (s : State) : State :=
  match specOf (entOp e) with
  | some sp => serveRow sp (cmdOf ch e) s
  | none => serveUnknown (entOp e) (cmdOf ch e) s

/-- An entry that an earlier epoch placed: its responses are discarded (R283). -/
def noteOld (ch tag : Nat) (s : State) : State :=
  let x := s.mbx ch
  if x.oldLeft = 0 then s
  else s.setMbx ch { x with oldLeft := x.oldLeft - 1, lostTags := if x.outst.contains tag then x.lostTags else x.lostTags ++ [tag] }

/-- MAILBOX_COMMAND_TAKEN: the device takes the next entry of a channel, where it may; one with FENCE waits for every earlier
command of the channel (R277). DEDUCED (log 107). -/
def commandTaken (ch : Nat) (s : State) : State :=
  if !canTake' s ch then s
  else
    let e := getEntry s ch (mget s ch MBX_CMD_CI_V % 32)
    if bit (byteAt e 3) 0 && !(s.mbx ch).outst.isEmpty then s
    else serveEntry ch e (noteOld ch (byteAt e 2) (tookEntry ch s))

def execMailboxCommandTaken (ch : Nat) (s : State) : Outcome := settled (onSide ch commandTaken s)

/-! ### One row per command -/

/-- A command entry taken from a channel of the crown, or of the junior lead (8 to 11). -/
def fromChannel (sp : CmdSpec) (c : Cmd) (s : State) : State :=
  onSide c.ch (fun ch => serveRow sp { c with ch := ch }) s

/-- SYS_INFO: its entry, taken from a channel. -/
def execSysInfo (c : Cmd) (s : State) : Outcome := settled (fromChannel cmdSysInfo c s)
/-- SYS_ATTACH: its entry, taken from a channel. -/
def execSysAttach (c : Cmd) (s : State) : Outcome := settled (fromChannel cmdSysAttach c s)
/-- SYS_DETACH: its entry, taken from a channel. -/
def execSysDetach (c : Cmd) (s : State) : Outcome := settled (fromChannel cmdSysDetach c s)
/-- SYS_STATUS: its entry, taken from a channel. -/
def execSysStatus (c : Cmd) (s : State) : Outcome := settled (fromChannel cmdSysStatus c s)
/-- SYS_RESET: its entry, taken from a channel. -/
def execSysReset (c : Cmd) (s : State) : Outcome := settled (fromChannel cmdSysReset c s)
/-- SYS_CONFIG_LOAD: its entry, taken from a channel. -/
def execSysConfigLoad (c : Cmd) (s : State) : Outcome := settled (fromChannel cmdSysConfigLoad c s)
/-- SYS_NOP: its entry, taken from a channel. -/
def execSysNop (c : Cmd) (s : State) : Outcome := settled (fromChannel cmdSysNop c s)
/-- REG_READ: its entry, taken from a channel. -/
def execRegRead (c : Cmd) (s : State) : Outcome := settled (fromChannel cmdRegRead c s)
/-- REG_WRITE: its entry, taken from a channel. -/
def execRegWrite (c : Cmd) (s : State) : Outcome := settled (fromChannel cmdRegWrite c s)
/-- REG_MODIFY: its entry, taken from a channel. -/
def execRegModify (c : Cmd) (s : State) : Outcome := settled (fromChannel cmdRegModify c s)
/-- REG_POLL: its entry, taken from a channel. -/
def execRegPoll (c : Cmd) (s : State) : Outcome := settled (fromChannel cmdRegPoll c s)
/-- LINK_STATUS: its entry, taken from a channel. -/
def execLinkStatus (c : Cmd) (s : State) : Outcome := settled (fromChannel cmdLinkStatus c s)
/-- LINK_UP: its entry, taken from a channel. -/
def execLinkUp (c : Cmd) (s : State) : Outcome := settled (fromChannel cmdLinkUp c s)
/-- LINK_DOWN: its entry, taken from a channel. -/
def execLinkDown (c : Cmd) (s : State) : Outcome := settled (fromChannel cmdLinkDown c s)
/-- LINK_EQ: its entry, taken from a channel. -/
def execLinkEq (c : Cmd) (s : State) : Outcome := settled (fromChannel cmdLinkEq c s)
/-- LINK_PRBS: its entry, taken from a channel. -/
def execLinkPrbs (c : Cmd) (s : State) : Outcome := settled (fromChannel cmdLinkPrbs c s)
/-- GORGE_ON: its entry, taken from a channel. -/
def execGorgeOn (c : Cmd) (s : State) : Outcome := settled (fromChannel cmdGorgeOn c s)
/-- GORGE_OFF: its entry, taken from a channel. -/
def execGorgeOff (c : Cmd) (s : State) : Outcome := settled (fromChannel cmdGorgeOff c s)
/-- GORGE_STATUS: its entry, taken from a channel. -/
def execGorgeStatus (c : Cmd) (s : State) : Outcome := settled (fromChannel cmdGorgeStatus c s)
/-- GORGE_REWIND: its entry, taken from a channel. -/
def execGorgeRewind (c : Cmd) (s : State) : Outcome := settled (fromChannel cmdGorgeRewind c s)
/-- PAGE_QUERY: its entry, taken from a channel. -/
def execPageQuery (c : Cmd) (s : State) : Outcome := settled (fromChannel cmdPageQuery c s)
/-- PAGE_COMMIT: its entry, taken from a channel. -/
def execPageCommit (c : Cmd) (s : State) : Outcome := settled (fromChannel cmdPageCommit c s)
/-- PAGE_REPRINT: its entry, taken from a channel. -/
def execPageReprint (c : Cmd) (s : State) : Outcome := settled (fromChannel cmdPageReprint c s)
/-- PAGE_RELEASE_CMD: its entry, taken from a channel. -/
def execPageReleaseCmd (c : Cmd) (s : State) : Outcome := settled (fromChannel cmdPageRelease c s)
/-- PAGE_ABORT: its entry, taken from a channel. -/
def execPageAbort (c : Cmd) (s : State) : Outcome := settled (fromChannel cmdPageAbort c s)
/-- PAGE_WITHDRAW: its entry, taken from a channel. -/
def execPageWithdraw (c : Cmd) (s : State) : Outcome := settled (fromChannel cmdPageWithdraw c s)
/-- PAGE_DECLARE: its entry, taken from a channel. -/
def execPageDeclare (c : Cmd) (s : State) : Outcome := settled (fromChannel cmdPageDeclare c s)
/-- PAGE_WAIT: its entry, taken from a channel. -/
def execPageWait (c : Cmd) (s : State) : Outcome := settled (fromChannel cmdPageWait c s)
/-- PAGE_LIST: its entry, taken from a channel. -/
def execPageList (c : Cmd) (s : State) : Outcome := settled (fromChannel cmdPageList c s)
/-- PAGE_BASIN: its entry, taken from a channel. -/
def execPageBasin (c : Cmd) (s : State) : Outcome := settled (fromChannel cmdPageBasin c s)
/-- PAGE_BASIN_SET: its entry, taken from a channel. -/
def execPageBasinSet (c : Cmd) (s : State) : Outcome := settled (fromChannel cmdPageBasinSet c s)
/-- PAGE_RETAIN: its entry, taken from a channel. -/
def execPageRetain (c : Cmd) (s : State) : Outcome := settled (fromChannel cmdPageRetain c s)
/-- LAYER_SET: its entry, taken from a channel. -/
def execLayerSet (c : Cmd) (s : State) : Outcome := settled (fromChannel cmdLayerSet c s)
/-- LAYER_GET: its entry, taken from a channel. -/
def execLayerGet (c : Cmd) (s : State) : Outcome := settled (fromChannel cmdLayerGet c s)
/-- LAYER_ROUTE: its entry, taken from a channel. -/
def execLayerRoute (c : Cmd) (s : State) : Outcome := settled (fromChannel cmdLayerRoute c s)
/-- LAYER_SLOT: its entry, taken from a channel. -/
def execLayerSlot (c : Cmd) (s : State) : Outcome := settled (fromChannel cmdLayerSlot c s)
/-- LAYER_ON: its entry, taken from a channel. -/
def execLayerOn (c : Cmd) (s : State) : Outcome := settled (fromChannel cmdLayerOn c s)
/-- LAYER_OFF: its entry, taken from a channel. -/
def execLayerOff (c : Cmd) (s : State) : Outcome := settled (fromChannel cmdLayerOff c s)
/-- LAYER_PRIV_ARM: its entry, taken from a channel. -/
def execLayerPrivArm (c : Cmd) (s : State) : Outcome := settled (fromChannel cmdLayerPrivArm c s)
/-- LAYER_ADOPT: its entry, taken from a channel. -/
def execLayerAdopt (c : Cmd) (s : State) : Outcome := settled (fromChannel cmdLayerAdopt c s)
/-- LAYER_FREE: its entry, taken from a channel. -/
def execLayerFree (c : Cmd) (s : State) : Outcome := settled (fromChannel cmdLayerFree c s)
/-- LAYER_LBS: its entry, taken from a channel. -/
def execLayerLbs (c : Cmd) (s : State) : Outcome := settled (fromChannel cmdLayerLbs c s)
/-- LAYER_READBACK: its entry, taken from a channel. -/
def execLayerReadback (c : Cmd) (s : State) : Outcome := settled (fromChannel cmdLayerReadback c s)
/-- LAYER_READ: its entry, taken from a channel. -/
def execLayerRead (c : Cmd) (s : State) : Outcome := settled (fromChannel cmdLayerRead c s)
/-- SCREEN_GEOM: its entry, taken from a channel. -/
def execScreenGeom (c : Cmd) (s : State) : Outcome := settled (fromChannel cmdScreenGeom c s)
/-- SCREEN_WRITE: its entry, taken from a channel. -/
def execScreenWrite (c : Cmd) (s : State) : Outcome := settled (fromChannel cmdScreenWrite c s)
/-- SCREEN_READ: its entry, taken from a channel. -/
def execScreenRead (c : Cmd) (s : State) : Outcome := settled (fromChannel cmdScreenRead c s)
/-- SCREEN_LOAD: its entry, taken from a channel. -/
def execScreenLoad (c : Cmd) (s : State) : Outcome := settled (fromChannel cmdScreenLoad c s)
/-- SCREEN_ARM: its entry, taken from a channel. -/
def execScreenArm (c : Cmd) (s : State) : Outcome := settled (fromChannel cmdScreenArm c s)
/-- ASH_GET: its entry, taken from a channel. -/
def execAshGet (c : Cmd) (s : State) : Outcome := settled (fromChannel cmdAshGet c s)
/-- ASH_PUT: its entry, taken from a channel. -/
def execAshPut (c : Cmd) (s : State) : Outcome := settled (fromChannel cmdAshPut c s)
/-- ASH_PUSH: its entry, taken from a channel. -/
def execAshPush (c : Cmd) (s : State) : Outcome := settled (fromChannel cmdAshPush c s)
/-- ASH_LOAD: its entry, taken from a channel. -/
def execAshLoad (c : Cmd) (s : State) : Outcome := settled (fromChannel cmdAshLoad c s)
/-- ASH_FLUSH: its entry, taken from a channel. -/
def execAshFlush (c : Cmd) (s : State) : Outcome := settled (fromChannel cmdAshFlush c s)
/-- HEAD_STATUS: its entry, taken from a channel. -/
def execHeadStatus (c : Cmd) (s : State) : Outcome := settled (fromChannel cmdHeadStatus c s)
/-- HEAD_POWER: its entry, taken from a channel. -/
def execHeadPower (c : Cmd) (s : State) : Outcome := settled (fromChannel cmdHeadPower c s)
/-- HEAD_SETUP: its entry, taken from a channel. -/
def execHeadSetup (c : Cmd) (s : State) : Outcome := settled (fromChannel cmdHeadSetup c s)
/-- HEAD_PHASE: its entry, taken from a channel. -/
def execHeadPhase (c : Cmd) (s : State) : Outcome := settled (fromChannel cmdHeadPhase c s)
/-- HEAD_STBT: its entry, taken from a channel. -/
def execHeadStbt (c : Cmd) (s : State) : Outcome := settled (fromChannel cmdHeadStbt c s)
/-- HEAD_THERM: its entry, taken from a channel. -/
def execHeadTherm (c : Cmd) (s : State) : Outcome := settled (fromChannel cmdHeadTherm c s)
/-- HEAD_CMAP: its entry, taken from a channel. -/
def execHeadCmap (c : Cmd) (s : State) : Outcome := settled (fromChannel cmdHeadCmap c s)
/-- HEAD_CMAP_APPLY: its entry, taken from a channel. -/
def execHeadCmapApply (c : Cmd) (s : State) : Outcome := settled (fromChannel cmdHeadCmapApply c s)
/-- HEAD_ON: its entry, taken from a channel. -/
def execHeadOn (c : Cmd) (s : State) : Outcome := settled (fromChannel cmdHeadOn c s)
/-- HEAD_OFF: its entry, taken from a channel. -/
def execHeadOff (c : Cmd) (s : State) : Outcome := settled (fromChannel cmdHeadOff c s)
/-- HEAD_DAMPER: its entry, taken from a channel. -/
def execHeadDamper (c : Cmd) (s : State) : Outcome := settled (fromChannel cmdHeadDamper c s)
/-- HEAD_BUDGET: its entry, taken from a channel. -/
def execHeadBudget (c : Cmd) (s : State) : Outcome := settled (fromChannel cmdHeadBudget c s)
/-- HEAD_FENDER_SET: its entry, taken from a channel. -/
def execHeadFenderSet (c : Cmd) (s : State) : Outcome := settled (fromChannel cmdHeadFenderSet c s)
/-- HEAD_FENDER_GET: its entry, taken from a channel. -/
def execHeadFenderGet (c : Cmd) (s : State) : Outcome := settled (fromChannel cmdHeadFenderGet c s)
/-- FEED_SET: its entry, taken from a channel. -/
def execFeedSet (c : Cmd) (s : State) : Outcome := settled (fromChannel cmdFeedSet c s)
/-- FEED_EN: its entry, taken from a channel. -/
def execFeedEn (c : Cmd) (s : State) : Outcome := settled (fromChannel cmdFeedEn c s)
/-- FEED_START: its entry, taken from a channel. -/
def execFeedStart (c : Cmd) (s : State) : Outcome := settled (fromChannel cmdFeedStart c s)
/-- FEED_RESUME: its entry, taken from a channel. -/
def execFeedResume (c : Cmd) (s : State) : Outcome := settled (fromChannel cmdFeedResume c s)
/-- FEED_STATUS: its entry, taken from a channel. -/
def execFeedStatus (c : Cmd) (s : State) : Outcome := settled (fromChannel cmdFeedStatus c s)
/-- FEED_PASS: its entry, taken from a channel. -/
def execFeedPass (c : Cmd) (s : State) : Outcome := settled (fromChannel cmdFeedPass c s)
/-- FEED_SCAN: its entry, taken from a channel. -/
def execFeedScan (c : Cmd) (s : State) : Outcome := settled (fromChannel cmdFeedScan c s)
/-- FB_QUAD: its entry, taken from a channel. -/
def execFbQuad (c : Cmd) (s : State) : Outcome := settled (fromChannel cmdFbQuad c s)
/-- FB_HALL: its entry, taken from a channel. -/
def execFbHall (c : Cmd) (s : State) : Outcome := settled (fromChannel cmdFbHall c s)
/-- FB_SSI: its entry, taken from a channel. -/
def execFbSsi (c : Cmd) (s : State) : Outcome := settled (fromChannel cmdFbSsi c s)
/-- FB_STATUS: its entry, taken from a channel. -/
def execFbStatus (c : Cmd) (s : State) : Outcome := settled (fromChannel cmdFbStatus c s)
/-- FB_CLEAR: its entry, taken from a channel. -/
def execFbClear (c : Cmd) (s : State) : Outcome := settled (fromChannel cmdFbClear c s)
/-- MOT_SETUP: its entry, taken from a channel. -/
def execMotSetup (c : Cmd) (s : State) : Outcome := settled (fromChannel cmdMotSetup c s)
/-- MOT_THRESH: its entry, taken from a channel. -/
def execMotThresh (c : Cmd) (s : State) : Outcome := settled (fromChannel cmdMotThresh c s)
/-- MOT_EN: its entry, taken from a channel. -/
def execMotEn (c : Cmd) (s : State) : Outcome := settled (fromChannel cmdMotEn c s)
/-- MOT_MOVE: its entry, taken from a channel. -/
def execMotMove (c : Cmd) (s : State) : Outcome := settled (fromChannel cmdMotMove c s)
/-- MOT_STOP: its entry, taken from a channel. -/
def execMotStop (c : Cmd) (s : State) : Outcome := settled (fromChannel cmdMotStop c s)
/-- MOT_HOME: its entry, taken from a channel. -/
def execMotHome (c : Cmd) (s : State) : Outcome := settled (fromChannel cmdMotHome c s)
/-- MOT_CLEAR: its entry, taken from a channel. -/
def execMotClear (c : Cmd) (s : State) : Outcome := settled (fromChannel cmdMotClear c s)
/-- MOT_STATUS: its entry, taken from a channel. -/
def execMotStatus (c : Cmd) (s : State) : Outcome := settled (fromChannel cmdMotStatus c s)
/-- MOT_POS: its entry, taken from a channel. -/
def execMotPos (c : Cmd) (s : State) : Outcome := settled (fromChannel cmdMotPos c s)
/-- INSP_CAM_SET: its entry, taken from a channel. -/
def execInspCamSet (c : Cmd) (s : State) : Outcome := settled (fromChannel cmdInspCamSet c s)
/-- INSP_CORR: its entry, taken from a channel. -/
def execInspCorr (c : Cmd) (s : State) : Outcome := settled (fromChannel cmdInspCorr c s)
/-- INSP_CAM_EN: its entry, taken from a channel. -/
def execInspCamEn (c : Cmd) (s : State) : Outcome := settled (fromChannel cmdInspCamEn c s)
/-- INSP_CAM_STATUS: its entry, taken from a channel. -/
def execInspCamStatus (c : Cmd) (s : State) : Outcome := settled (fromChannel cmdInspCamStatus c s)
/-- INSP_I2C: its entry, taken from a channel. -/
def execInspI2c (c : Cmd) (s : State) : Outcome := settled (fromChannel cmdInspI2c c s)
/-- INSP_ISP_SET: its entry, taken from a channel. -/
def execInspIspSet (c : Cmd) (s : State) : Outcome := settled (fromChannel cmdInspIspSet c s)
/-- INSP_COLOUR: its entry, taken from a channel. -/
def execInspColour (c : Cmd) (s : State) : Outcome := settled (fromChannel cmdInspColour c s)
/-- INSP_DLUT: its entry, taken from a channel. -/
def execInspDlut (c : Cmd) (s : State) : Outcome := settled (fromChannel cmdInspDlut c s)
/-- INSP_REGIONS: its entry, taken from a channel. -/
def execInspRegions (c : Cmd) (s : State) : Outcome := settled (fromChannel cmdInspRegions c s)
/-- INSP_OUT: its entry, taken from a channel. -/
def execInspOut (c : Cmd) (s : State) : Outcome := settled (fromChannel cmdInspOut c s)
/-- INSP_OUT_RP: its entry, taken from a channel. -/
def execInspOutRp (c : Cmd) (s : State) : Outcome := settled (fromChannel cmdInspOutRp c s)
/-- INSP_ON: its entry, taken from a channel. -/
def execInspOn (c : Cmd) (s : State) : Outcome := settled (fromChannel cmdInspOn c s)
/-- INSP_OFF: its entry, taken from a channel. -/
def execInspOff (c : Cmd) (s : State) : Outcome := settled (fromChannel cmdInspOff c s)
/-- INSP_GEOM_CAL: its entry, taken from a channel. -/
def execInspGeomCal (c : Cmd) (s : State) : Outcome := settled (fromChannel cmdInspGeomCal c s)
/-- INSP_STATUS: its entry, taken from a channel. -/
def execInspStatus (c : Cmd) (s : State) : Outcome := settled (fromChannel cmdInspStatus c s)
/-- TIME_GET: its entry, taken from a channel. -/
def execTimeGet (c : Cmd) (s : State) : Outcome := settled (fromChannel cmdTimeGet c s)
/-- TIME_SET: its entry, taken from a channel. -/
def execTimeSet (c : Cmd) (s : State) : Outcome := settled (fromChannel cmdTimeSet c s)
/-- TIME_INC: its entry, taken from a channel. -/
def execTimeInc (c : Cmd) (s : State) : Outcome := settled (fromChannel cmdTimeInc c s)
/-- TIME_ADJ: its entry, taken from a channel. -/
def execTimeAdj (c : Cmd) (s : State) : Outcome := settled (fromChannel cmdTimeAdj c s)
/-- TIME_PTP_SET: its entry, taken from a channel. -/
def execTimePtpSet (c : Cmd) (s : State) : Outcome := settled (fromChannel cmdTimePtpSet c s)
/-- TIME_PTP_STATUS: its entry, taken from a channel. -/
def execTimePtpStatus (c : Cmd) (s : State) : Outcome := settled (fromChannel cmdTimePtpStatus c s)
/-- TIME_UNFREEZE: its entry, taken from a channel. -/
def execTimeUnfreeze (c : Cmd) (s : State) : Outcome := settled (fromChannel cmdTimeUnfreeze c s)
/-- TIME_UNIT: its entry, taken from a channel. -/
def execTimeUnit (c : Cmd) (s : State) : Outcome := settled (fromChannel cmdTimeUnit c s)
/-- TWIN_STATUS: its entry, taken from a channel. -/
def execTwinStatus (c : Cmd) (s : State) : Outcome := settled (fromChannel cmdTwinStatus c s)
/-- TWIN_SET: its entry, taken from a channel. -/
def execTwinSet (c : Cmd) (s : State) : Outcome := settled (fromChannel cmdTwinSet c s)
/-- TWIN_JOIN: its entry, taken from a channel. -/
def execTwinJoin (c : Cmd) (s : State) : Outcome := settled (fromChannel cmdTwinJoin c s)
/-- TWIN_LEAVE: its entry, taken from a channel. -/
def execTwinLeave (c : Cmd) (s : State) : Outcome := settled (fromChannel cmdTwinLeave c s)
/-- TWIN_SWITCH_BACK: its entry, taken from a channel. -/
def execTwinSwitchBack (c : Cmd) (s : State) : Outcome := settled (fromChannel cmdTwinSwitchBack c s)
/-- TWIN_REPORT: its entry, taken from a channel. -/
def execTwinReport (c : Cmd) (s : State) : Outcome := settled (fromChannel cmdTwinReport c s)
/-- CAL_RUN: its entry, taken from a channel. -/
def execCalRun (c : Cmd) (s : State) : Outcome := settled (fromChannel cmdCalRun c s)
/-- CAL_STATUS: its entry, taken from a channel. -/
def execCalStatus (c : Cmd) (s : State) : Outcome := settled (fromChannel cmdCalStatus c s)
/-- CAL_POLICY: its entry, taken from a channel. -/
def execCalPolicy (c : Cmd) (s : State) : Outcome := settled (fromChannel cmdCalPolicy c s)
/-- CAL_READ: its entry, taken from a channel. -/
def execCalRead (c : Cmd) (s : State) : Outcome := settled (fromChannel cmdCalRead c s)
/-- CAL_WRITE: its entry, taken from a channel. -/
def execCalWrite (c : Cmd) (s : State) : Outcome := settled (fromChannel cmdCalWrite c s)
/-- CAL_STORE: its entry, taken from a channel. -/
def execCalStore (c : Cmd) (s : State) : Outcome := settled (fromChannel cmdCalStore c s)
/-- UPD_STATUS: its entry, taken from a channel. -/
def execUpdStatus (c : Cmd) (s : State) : Outcome := settled (fromChannel cmdUpdStatus c s)
/-- UPD_VERIFY: its entry, taken from a channel. -/
def execUpdVerify (c : Cmd) (s : State) : Outcome := settled (fromChannel cmdUpdVerify c s)
/-- UPD_ACTIVATE: its entry, taken from a channel. -/
def execUpdActivate (c : Cmd) (s : State) : Outcome := settled (fromChannel cmdUpdActivate c s)
/-- UPD_REVERT: its entry, taken from a channel. -/
def execUpdRevert (c : Cmd) (s : State) : Outcome := settled (fromChannel cmdUpdRevert c s)
/-- UPD_ABORT: its entry, taken from a channel. -/
def execUpdAbort (c : Cmd) (s : State) : Outcome := settled (fromChannel cmdUpdAbort c s)
/-- EVT_ROUTE: its entry, taken from a channel. -/
def execEvtRoute (c : Cmd) (s : State) : Outcome := settled (fromChannel cmdEvtRoute c s)
/-- EVT_SEVERITY: its entry, taken from a channel. -/
def execEvtSeverity (c : Cmd) (s : State) : Outcome := settled (fromChannel cmdEvtSeverity c s)
/-- EVT_ENABLE: its entry, taken from a channel. -/
def execEvtEnable (c : Cmd) (s : State) : Outcome := settled (fromChannel cmdEvtEnable c s)
/-- EVT_FIRMWARE: its entry, taken from a channel. -/
def execEvtFirmware (c : Cmd) (s : State) : Outcome := settled (fromChannel cmdEvtFirmware c s)

end Sys2Proof.Machine
end

