-- ==== Sys2Proof/Machine/BasinRows.lean ====
section
/-! DEFINITION. The rows of the Basin (chapter 03), each followed by what every command is followed by. -/

namespace Sys2Proof.Machine

/-- BASIN_EN_WRITE (R89): Writing BAS_CTRL.EN 1 checks the regions and enables the Basin or refuses with CFG_BAD, and EN 0 starts a drain. -/
def execBasinEnWrite (h : Nat) (value : Word) (s : State) : Outcome := settled (basinEnWrite h value s)

/-- PAGE_RETIRE (R210): A FIRED page moves to RETIRED when inspection closes or at once without inspection. -/
def execPageRetire (h page : Nat) (s : State) : Outcome := settled (pageRetireStep h page s)

/-- PAGE_RELEASE (R93): Releasing or discarding a page removes it from the table and moves the mark and write pointer. -/
def execPageRelease (h page : Nat) (s : State) : Outcome := settled (pageReleaseStep h page s)

end Sys2Proof.Machine
end

