-- ==== Sys2Proof/Machine/BusRows.lean ====
section
/-! DEFINITION. The rows of register access and the control port (chapter 09), each followed by what every command is followed by. -/

namespace Sys2Proof.Machine

/-- REGISTER_WRITE (R8). -/
def execRegisterWrite (addr : Nat) (value : Word) (s : State) : Outcome := settled (writeRow addr value s)

/-- RC_READ (R8): a read of a word with an RC field. -/
def execRcRead (addr : Nat) (s : State) : Outcome :=
  settled (readRow (fun a => rcMask a.blk (((targets s a).head?.map Prod.snd).getD 0) a.word != 0) addr s)

/-- LO_HALF_READ (R117): a read of the _LO word of a 64-bit pair. -/
def execLoHalfRead (addr : Nat) (s : State) : Outcome := settled (readRow (fun a => latchedBy a.blk a.word != []) addr s)

/-- EVENT_ENABLE_WRITE (R293): a write of an EVENT_EN word. -/
def execEventEnableWrite (addr : Nat) (value : Word) (s : State) : Outcome :=
  settled (if (regAddr addr).any fun a => (eventEnWords a.blk).contains a.word then writeRow addr value s else s)

/-- QSPI_WRITE (R267): A control-port WRITE places its words in the posted write buffer. -/
def execQspiWrite (addr : Nat) (words : List Word) (s : State) : Outcome := settled (portBegin (postWrites addr 0 (words.take 256)) s)

/-- QSPI_READ (R266): A control-port READ waits for earlier writes, returns token and words, or times out with 0xE1. -/
def execQspiRead (addr count : Nat) (late : Bool) (s : State) : Outcome := settled (portBegin (qspiRead addr count late) s)

/-- QSPI_STATUS (R265): A STATUS opcode returns GLB_PORT_STATUS repeatedly. -/
def execQspiStatus (s : State) : Outcome :=
  settled (portBegin qspiStatus s)

/-- QSPI_ID (R265): An ID opcode returns the crown's GLB_ID. -/
def execQspiId (s : State) : Outcome := settled (portBegin qspiId s)

/-- QSPI_UNKNOWN_OPCODE (R265): an opcode byte with nothing after it; one that is not of the table is ignored until CS_N
rises, and the device does not drive IO. -/
def execQspiUnknownOpcode (opcode : Nat) (s : State) : Outcome := settled (portBegin (qspiOpcode opcode) s)

/-- QSPI_CS_RISE (R264): the port waits for an opcode again. -/
def execQspiCsRise (s : State) : Outcome := settled { s with portOpen := false }

/-- POSTED_WRITE_APPLY (R267). -/
def execPostedWriteApply (s : State) : Outcome := settled (postedApply s)

/-- TIM_SEC_LO_READ (R372): a read of TIM_SEC_LO. -/
def execTimSecLoRead (s : State) : Outcome := settled (readRow (fun _ => true) (0x1A * 2 ^ 17 + 8) s)

end Sys2Proof.Machine
end

