-- ==== Sys2Proof/Machine/CalibrationRows.lean ====
section
/-! DEFINITION. The rows of calibration (chapter 14), each followed by what every command is followed by. -/

namespace Sys2Proof.Machine

/-- CAL_AUTO_CHECK (R388): Once a second each hearth starts due calibrations and reapplies interpolated values. -/
def execCalAutoCheck (h : Nat) (s : State) : Outcome := settled (calCheck h s)

/-- CAL_RUN_DONE (R389): A calibration run's two measurements are accepted or rejected. -/
def execCalRunDone (h : Nat) (m1 m2 temps : List Int) (s : State) : Outcome := settled (calRunDone h m1 m2 temps s)

/-- CAL_RUN_TIMEOUT (R388): a run not ended within 60 s ends TIMEOUT and changes nothing. -/
def execCalRunTimeout (h : Nat) (s : State) : Outcome := settled (calEnd h 0x31 s)

end Sys2Proof.Machine
end

