-- ==== Sys2Proof/Machine/FRead.lean ====
section
/-! DEFINITION. The return of a class F read (R252, R260), and the data of a line that does not arrive (R164). -/

namespace Sys2Proof.Machine

/-- Nozzle positions a port shifts before its first nozzle on columns `col` to `col + cols - 1`; none where it has none there. -/
def positionOf (s : State) (h p col cols : Nat) : Option Nat :=
  let ns := (portNozzles s h p).filter fun e => decide ((col : Int) ≤ e.2) && decide (e.2 < (col : Int) + cols)
  ns.foldl (fun a e => lostFirst a (some (shiftPlace s h p e.1))) none

/-- The words of those columns have not arrived for the line being composed. -/
def columnsLost (h col cols : Nat) (s : State) : State :=
  forEach (List.range 12) (fun p s =>
    match positionOf s h p col cols with
    | none => s
    | some k => s.setFbx h p { (s.fbx h p) with lostNext := lostFirst (s.fbx h p).lostNext (some k) }) s

/-- F_READ_RETURN (R252, R260): a class F read of channel `ch` for columns `col` to `col + cols - 1` of the line being composed
returns `ns` after its issue; `ecc` is what link ECC finds in it. DEDUCED (log 176). -/
def fReadReturn (h ch ns ecc col cols : Nat) (s : State) : State :=
  if !s.hasH h then s
  else
    let x := s.outX h (3 + ch)
    let s := s.setOut h (3 + ch) { x with busy := x.busy.eraseP fun p => p.cls == 0 }
    let s := s.fput h 0 DRM_F_LAT_MAX (min 0xFFFFFFFF (max (s.fget h 0 DRM_F_LAT_MAX) ns))
    let s := if 1800 < ns then (s.count h 0 DRM_F_LATE).raise h 0 DRM_EVENT_F_LATE else s
    let s' := eccCount h ecc s
    if eccFinds s h ecc 2 then columnsLost h col cols s' else s'

end Sys2Proof.Machine
end

