-- ==== Sys2Proof/Machine/ChimneyRows.lean ====
section
/-! DEFINITION. The rows of the Chimney and DRAM (chapter 08), each followed by what every command is followed by. -/

namespace Sys2Proof.Machine

/-- FLIT_CRC_ERROR (R247): A flit with a bad CRC is refused and replayed, and too many resends take the link down. -/
def execFlitCrcError (h link : Nat) (s : State) : Outcome := settled (flitError h link s)

/-- CHIMNEY_LINK_UP (R247): A retrained link enters UP and flows move back once their old packets have arrived. -/
def execChimneyLinkUp (h link : Nat) (s : State) : Outcome := settled (linkRises h link s)

/-- CHIMNEY_PACKET_SENT (R251): An output picks the next packet by Class F priority and count-weighted deficit round robin. -/
def execChimneyPacketSent (h output : Nat) (arrivals : List Request) (ecc : Nat) (s : State) : Outcome :=
  settled (packetSent h output arrivals ecc s)

/-- DRAM_TRAINING_DONE (R255): Boot training ends with DRM READY or FAIL per channel. -/
def execDramTrainingDone (h failMask : Nat) (s : State) : Outcome := settled (trainingDone h failMask s)

/-- RETRAIN_DUE (R256): A period or temperature step makes a channel pause to remeasure and update its delays. -/
def execRetrainDue (h ch : Nat) (ok : Bool) (temp delays : Nat) (s : State) : Outcome := settled (retrainDue h ch ok temp delays s)

/-- REFRESH_DUE (R254): A per-bank refresh falls due and is issued or postponed for a waiting Class F request. -/
def execRefreshDue (h ch bank : Nat) (fWaiting : Bool) (s : State) : Outcome := settled (refreshDue h ch bank fWaiting s)

/-- NEIGHBOUR_REFRESH (R257): An activate steps the LFSR and may queue refreshes of the neighbouring rows. -/
def execNeighbourRefresh (h addr : Nat) (fWaiting : Bool) (s : State) : Outcome := settled (neighbourRefresh h addr fWaiting s)

/-- F_READ_RETURN (R260): A Class F read returns and one later than 1.80 µs is counted as F_LATE. -/
def execFReadReturn (h ch ns ecc col cols : Nat) (s : State) : Outcome := settled (fReadReturn h ch ns ecc col cols s)

/-- CHM_STAT_SEL_WRITE (R262): A write to CHM_STAT_SEL sets CHM_STAT_FLITS to 0 and selects the flits it counts. -/
def execChmStatSelWrite (h : Nat) (value : Word) (s : State) : Outcome :=
  settled (if s.hasH h then hostWrite BLK_CHM chmOpen chmAct h 0 CHM_STAT_SEL.word value false s else s)

end Sys2Proof.Machine
end

