-- ==== Sys2Proof/Machine/CinderRows.lean ====
section
/-! DEFINITION. The rows of Cinder decoding and encoding (chapter 03), each followed by what every command is followed by. -/

namespace Sys2Proof.Machine

/-- DECODE_JOB_START (R102): The next job in decode order starts on an idle enabled decoder once it has decode-area space. -/
def execDecodeJobStart (h d : Nat) (s : State) : Outcome := settled (decodeStart h d s)

/-- DECODE_JOB_DONE (R101): A decode job ends OK and the page becomes ready when all its jobs and planes are complete. -/
def execDecodeJobDone (h d : Nat) (s : State) : Outcome := settled (decodeDone h d s)

/-- DECODE_JOB_FAIL (R105): A job ending with a fault fails its page, frees its buffers and stops its other jobs. -/
def execDecodeJobFail (h d : Nat) (s : State) : Outcome := settled (decodeFail h d s)

/-- ENCODE_REQUEST (R115): The encoder takes a readback or upload request and compresses a source region into one Cinder job. -/
def execEncodeRequest (h src len rowBytes dst size : Nat) (s : State) : Outcome :=
  if len = 0 ∨ 262144 < rowBytes then settled (encodeRequest h ⟨src, len, rowBytes, dst, size, none⟩ s)
  else if s.hasH h && decide (s.fitted h < src + len) then .fault (.noMemory h (src + len - 1))
  else if s.hasH h && decide (s.fitted h < dst + size) then .fault (.noMemory h (dst + size - 1))
  else settled (encodeRequest h ⟨src, len, rowBytes, dst, size, none⟩ s)

/-- ENCODE_DONE (R115): An encoder request ends OK, NO_GAIN, OUT_OF_SPACE or ABORTED. -/
def execEncodeDone (h : Nat) (s : State) : Outcome := settled (encodeDone h s)

/-- CINDER_EN_WRITE (R121): Writing CIN_CTRL.EN 1 enables an instance, and EN 0 starts a drain of its current job. -/
def execCinderEnWrite (h d : Nat) (value : Word) (s : State) : Outcome := settled (cinderEnWrite h d value s)

/-- CINDER_DRAIN_TIMEOUT (R121): A job not finished within DRAIN_MS ends ABORTED and the drain result is ABORTED. -/
def execCinderDrainTimeout (h d : Nat) (s : State) : Outcome := settled (cinderDrainTimeout h d s)

/-- CINDER_FORCE_OFF (R122): Writing FORCE_OFF ends the current job ABORTED at once. -/
def execCinderForceOff (h d : Nat) (s : State) : Outcome := settled (cinderForceOff h d s)

end Sys2Proof.Machine
end

