-- ==== Sys2Proof/Machine/DraughtRows.lean ====
section
/-! DEFINITION. The rows of the Draught (chapter 05), each followed by what every command is followed by. -/

namespace Sys2Proof.Machine

/-- DRT_LOOP_UPDATE (R175): Every 64 clocks the Draught loop updates phase and velocity and judges lock. -/
def execDrtLoopUpdate (h : Nat) (s : State) : Outcome := settled (loopUpdate h s)

/-- DRT_EN_WRITE (R179). -/
def execDrtEnWrite (h : Nat) (value : Word) (s : State) : Outcome := settled (drtWrite h value s)

/-- START_ARM (R176): a write of START_ARM 1, the other fields as they stand. -/
def execStartArm (h : Nat) (s : State) : Outcome := settled (drtWrite h (s.pulse h 0 BLK_DRT 0 24) s)

/-- START_REACHED (R176): The count reaching the armed start sets the target, zeroes the boundary count and enters RUN. -/
def execStartReached (h : Nat) (s : State) : Outcome := settled (startReached h s)

/-- DRT_REVERSE (R177): A count more than REV below the high-water mark pauses the DRT. -/
def execDrtReverse (h : Nat) (s : State) : Outcome := settled (drtReverse h s)

/-- DRT_RESUMED (R177): The count regaining the high-water mark returns the DRT from PAUSED to RUN. -/
def execDrtResumed (h : Nat) (s : State) : Outcome := settled (drtResumed h s)

/-- DRT_RESUME (R179): a write of RESUME 1, the other fields as they stand. -/
def execDrtResume (h : Nat) (s : State) : Outcome :=
  settled (drtWrite h (s.pulse h 0 BLK_DRT 0 25) s)

end Sys2Proof.Machine
end

