-- ==== Sys2Proof/Machine/FeedbackRows.lean ====
section
/-! DEFINITION. The rows of feedback inputs (chapter 07), each followed by what every command is followed by. -/

namespace Sys2Proof.Machine

/-- QUAD_TRANSITION (R217): A filtered A or B change counts up, down or as an illegal transition. -/
def execQuadTransition (h c : Nat) (a b z : Bool) (s : State) : Outcome := settled (quadTransition h c a b z s)

/-- INDEX_PULSE (R218): A rising filtered Z latches the count and checks or learns the index. -/
def execIndexPulse (h c : Nat) (s : State) : Outcome := settled (indexPulse h c s)

/-- WIRE_DISAGREE (R216): Both wires of a pair at one level for WD × 10 ns hold the filtered level and raise a WIRE cause. -/
def execWireDisagree (h c wire : Nat) (on : Bool) (s : State) : Outcome := settled (wireDisagree h c wire on s)

/-- SPEED_WINDOW_END (R220): Each speed window ends with the count change in FBK_SPEED and runs Hall plausibility. -/
def execSpeedWindowEnd (h c : Nat) (s : State) : Outcome := settled (speedWindowEnd h c s)

/-- HALL_STATE_CHANGE (R222): A filtered Hall state change counts a step or reports a skip or impossible state. -/
def execHallStateChange (h k state : Nat) (s : State) : Outcome := settled (hallStateChange h k state s)

/-- CLR_FAULT (R221): a write of CLR_FAULT 1, the other fields as they stand. -/
def execClrFault (h c : Nat) (s : State) : Outcome :=
  settled (if c < 4 then fbkWrite h c 0 (s.pulse h c BLK_FBK 0 1) s else s)

/-- FBK_QUAD_EN_WRITE (R240): a write of FBK_QCTRL. -/
def execFbkQuadEnWrite (h c : Nat) (value : Word) (s : State) : Outcome := settled (if c < 4 then fbkWrite h c 0 value s else s)

/-- SSI_FRAME_START (R225): An SSI frame is started by period or time unit after MONO, or skipped when DAT is low. -/
def execSsiFrameStart (h k : Nat) (dat : Bool) (s : State) : Outcome := settled (ssiFrameStart h k dat s)

/-- SSI_FRAME_DONE (R224): A completed SSI frame writes the converted position and advances SSI_SEQ. -/
def execSsiFrameDone (h k raw : Nat) (s : State) : Outcome := settled (ssiFrameDone h k raw s)

/-- FBK_HALL_SSI_EN_WRITE (R240): a write of FBK_HCTRL or FBK_SCTRL. -/
def execFbkHallSsiEnWrite (h k : Nat) (value : Word) (s : State) : Outcome :=
  settled (if hallOk h k then fbkWrite h k FBK_HCTRL.word value s else if ssiOk h k then fbkWrite h k FBK_SCTRL.word value s else s)

end Sys2Proof.Machine
end

