-- ==== Sys2Proof/Machine/FireboxRows.lean ====
section
/-! DEFINITION. The rows of Firebox ports, the Damper and the Fender (chapter 05), each followed by what every command is followed by. -/

namespace Sys2Proof.Machine

/-- STROBE_END (R165): A strobe phase ends after its width, ending a DRAINING port's line or a page's last line. -/
def execStrobeEnd (h p m : Nat) (s : State) : Outcome := settled (strobeEnd h p m s)

/-- SHIFT_DONE (R164): A line's shift ends, or underruns with zeros and marks the page defective. -/
def execShiftDone (h p : Nat) (sent : Option Nat) (s : State) : Outcome := settled (shiftDone h p sent s)

/-- VHEAD_SAMPLE (R167): At VS_DLY after each trigger VHEAD is sampled, setting the next line's widths or its VLIM suppression. -/
def execVheadSample (h p code : Nat) (s : State) : Outcome := settled (vheadSample h p code s)

/-- TEMP_SAMPLE (R166): SNS is sampled every 256 triggers or at a time-unit event and temperature limits are applied. -/
def execTempSample (h p code : Nat) (s : State) : Outcome := settled (tempSample h p code s)

/-- HEAD_PRESENT (R154): PRS_N low for DEB ms takes a port from ABSENT to PRESENT. -/
def execHeadPresent (h p : Nat) (s : State) : Outcome := settled (headPresent h p s)

/-- FBX_PWR_WRITE (R154): a write of FBX_CTRL. -/
def execFbxPwrWrite (h p : Nat) (value : Word) (s : State) : Outcome := settled (fbxWrite h p 0 value s)

/-- HEAD_SETTLED (R156): SETTLE ms after PWE rose, the port samples SNS, measures ID and enters READY. -/
def execHeadSettled (h p sns idCode : Nat) (s : State) : Outcome := settled (headSettled h p sns idCode s)

/-- FBX_EN_WRITE (R154): a write of FBX_CTRL. -/
def execFbxEnWrite (h p : Nat) (value : Word) (s : State) : Outcome := settled (fbxWrite h p 0 value s)

/-- FBX_FORCE_OFF (R183): Writing FBX_CTRL.FORCE_OFF drives strobes low at once and returns the port to READY. -/
def execFbxForceOff (h p : Nat) (s : State) : Outcome := settled (fbxForceOff h p s)

/-- HEAD_REMOVED (R155): PRS_N high for 10 µs ends strobes, drops outputs, enters ABSENT and marks the page HEAD_OUT. -/
def execHeadRemoved (h p : Nat) (s : State) : Outcome := settled (headRemoved h p s)

/-- CMAP_APPLY (R159): Writing FBX_CMAP.APPLY requests the staged column maps be checked and made active. -/
def execCmapApply (h p : Nat) (s : State) : Outcome := settled (cmapApply h p s)

/-- CMAP_CHECK (R159): The requested maps are checked against R4 and all become active or none. -/
def execCmapCheck (h : Nat) (s : State) : Outcome := settled (cmapCheck h s)

/-- FBX_HEAD_WRITE (R433). -/
def execFbxHeadWrite (h p : Nat) (value : Word) (s : State) : Outcome := settled (fbxWrite h p FBX_HEAD.word value s)

/-- DAMPER_BIN_END (R170): A head-budget bin of WIN × 6,250 clocks ends and the next bin begins. -/
def execDamperBinEnd (h : Nat) (s : State) : Outcome := settled (damperBinEnd h s)

/-- FENDER_ASSERT (R172): A gate pin low for FILT steps asserts the gate, latches it and holds strobes from the next trigger. -/
def execFenderAssert (gate : Nat) (s : State) : Outcome := settled (fenderAssert gate s)

/-- FENDER_RELEASE (R172): A gate pin high for FILT steps releases the gate and strobes resume when none is in force. -/
def execFenderRelease (gate : Nat) (s : State) : Outcome := settled (fenderRelease gate s)

/-- FENDER_LATCH_CLEAR (R173): A W1C write to FND_LATCHED clears latched assertions no longer present. -/
def execFenderLatchClear (value : Word) (s : State) : Outcome := settled (fenderLatchClear value s)

/-- FND_EN_WRITE (R173): Changing FND_CTRL.EN takes gates into or out of force at each hearth's next trigger. -/
def execFndEnWrite (value : Word) (s : State) : Outcome := settled (fndEnWrite value s)

end Sys2Proof.Machine
end

