-- ==== Sys2Proof/Machine/FlueRows.lean ====
section
/-! DEFINITION. The rows of Flue queues (chapter 09), each followed by what every command is followed by. -/

namespace Sys2Proof.Machine

/-- FLUE_PUSH (R287): a write of FLU_Qn_PUSH. -/
def execFluePush (h q : Nat) (value : Word) (s : State) : Outcome :=
  settled (if fluOk s h q then fluWrite h (4 * q) value false s else s)

/-- FLUE_POP (R288, R289): a read of FLU_Qn_POP. -/
def execFluePop (h q : Nat) (upset : Word) (s : State) : Outcome :=
  settled (if fluOk s h q then fluePopped h q upset s else s)

/-- FLUE_FLUSH (R287): a write of FLU_FLUSH. -/
def execFlueFlush (h : Nat) (value : Word) (s : State) : Outcome :=
  settled (if s.hasH h then fluWrite h FLU_FLUSH.word value false s else s)

/-- FLUE_CFG_WRITE (R287): a write of FLU_Qn_CFG. -/
def execFlueCfgWrite (h q : Nat) (value : Word) (s : State) : Outcome :=
  settled (if fluOk s h q then fluWrite h (4 * q + 3) value false s else s)

/-- FLUE_STALE (R290). -/
def execFlueStale (h q : Nat) (s : State) : Outcome := settled (flueStale h q s)

end Sys2Proof.Machine
end

