-- ==== Sys2Proof/Machine/GorgeRows.lean ====
section
/-! DEFINITION. The rows of the Gorge protocol (chapter 02), each followed by what every command is followed by. -/

namespace Sys2Proof.Machine

/-- GORGE_BAD_FRAME (R48): A frame with errored blocks, a bad CRC, a bad LEN or truncation is discarded and counted. -/
def execGorgeBadFrame (h i : Nat) (frame : List Byte) (errored truncated : Bool) (s : State) : Outcome :=
  settled (badFrame h i frame errored truncated s)

/-- HELLO_RECEIVED (R56): A receiver handles a HELLO by state, epoch, version and sender lock, and answers HELLO_ACK or ERROR. -/
def execHelloReceived (h i : Nat) (frame : List Byte) (s : State) : Outcome :=
  settled (onFrame h i frame .hello (takeHello h i frame) s)

/-- HELLO_ACK_RECEIVED (R55): A mirror sender in CONNECTING that receives HELLO_ACK with STATUS 0 enters ACTIVE. -/
def execHelloAckReceived (h i : Nat) (frame : List Byte) (s : State) : Outcome :=
  settled (onFrame h i frame .helloAck (takeHelloAck h i frame) s)

/-- HELLO_RESEND (R57): A sender without HELLO_ACK sends its HELLO again every 1 ms. -/
def execHelloResend (h : Nat) (s : State) : Outcome := settled (helloResend h s)

/-- SEQUENCED_FRAME_RECEIVED (R61): An intact sequenced frame of the current epoch is checked for window and credit, staged and processed in SEQ order. -/
def execSequencedFrameReceived (h i : Nat) (frame : List Byte) (s : State) : Outcome :=
  settled (onFrame h i frame .seq (takeSequenced h i frame) s)

/-- ACK_RECEIVED (R65): A mirror sender takes an ACK, advances SND_UNA, releases SACKed frames and takes the credit. -/
def execAckReceived (h i : Nat) (frame : List Byte) (s : State) : Outcome :=
  settled (onFrame h i frame .ack (takeAck h i frame) s)

/-- NAK_RECEIVED (R65): A mirror sender resends each named frame not covered by SACK. -/
def execNakReceived (h i : Nat) (frame : List Byte) (s : State) : Outcome :=
  settled (onFrame h i frame .nak (takeNak h i frame) s)

/-- CREDIT_RECEIVED (R67): A sender takes the highest credit limit from a CREDIT frame. -/
def execCreditReceived (h i : Nat) (frame : List Byte) (s : State) : Outcome :=
  settled (onFrame h i frame .credit (takeCredit h i frame) s)

/-- KEEPALIVE_RECEIVED (R64): A KEEPALIVE restarts the dead timer, and one showing lost tail frames is answered by NAK. -/
def execKeepaliveReceived (h i : Nat) (frame : List Byte) (s : State) : Outcome :=
  settled (onFrame h i frame .keepalive (takeKeepalive h i frame) s)

/-- BYE_ABORT_RECEIVED (R80): A BYE with ABORT ends the session on receipt and discards open pages. -/
def execByeAbortReceived (h i : Nat) (frame : List Byte) (s : State) : Outcome :=
  settled (onFrame h i frame .byeAbort (takeByeAbort h i frame) s)

/-- ERROR_FRAME_RECEIVED (R76): An ERROR from the sender, such as REWIND_DECLINED, ends the matching rewind request. -/
def execErrorFrameReceived (h i : Nat) (frame : List Byte) (s : State) : Outcome :=
  settled (onFrame h i frame .error (takeError h i frame) s)

/-- GORGE_PROTOCOL_ERROR (R78): A frame with a wrong version, type or epoch is discarded with ERROR and counted, possibly reaching the error limit. -/
def execGorgeProtocolError (h i : Nat) (frame : List Byte) (s : State) : Outcome := settled (protocolFault h i frame s)

/-- ACK_DELAY_EXPIRY (R62): ACK_DELAY after the oldest unacknowledged frame, or after ACK_COALESCE frames, an ACK is sent. -/
def execAckDelayExpiry (h i : Nat) (s : State) : Outcome := settled (ackDelay h i s)

/-- CREDIT_STEP (R69): A limit advanced by STEP with no ACK due sends a CREDIT frame. -/
def execCreditStep (h i : Nat) (s : State) : Outcome := settled (creditStep h i s)

/-- KEEPALIVE_INTERVAL (R59): After 1 ms without sending, a party sends KEEPALIVE, or the receiver a CREDIT, and any rewind request is repeated. -/
def execKeepaliveInterval (h i : Nat) (s : State) : Outcome := settled (keepaliveInterval h i s)

/-- PEER_DEAD (R59): No valid frame for the dead time declares the partner dead, sends BYE ABORT and returns to LISTEN. -/
def execPeerDead (h i : Nat) (s : State) : Outcome := settled (peerDead h i s)

/-- RETX_TIMEOUT (R65): A mirror sender without progress for the retransmit wait resends the frame at SND_UNA and doubles the wait. -/
def execRetxTimeout (h : Nat) (s : State) : Outcome := settled (retxTimeout h s)

/-- GORGE_EN_WRITE (R55): Writing GOR_CTRL.EN 1 starts LISTEN or CONNECTING, and EN 0 starts a drain or goes OFF. -/
def execGorgeEnWrite (h i : Nat) (value : Word) (s : State) : Outcome := settled (gorgeEnWrite h i value s)

/-- GORGE_DRAIN_TIMEOUT (R81): GOR_DRAIN.TIME running out discards remaining pages with DRAIN_TIMEOUT and goes OFF. -/
def execGorgeDrainTimeout (h i : Nat) (s : State) : Outcome := settled (gorgeDrainTimeout h i s)

/-- GORGE_FORCE_OFF (R81): Writing FORCE_OFF 1 takes the instance OFF at once, discards open pages and records ABORTED. -/
def execGorgeForceOff (h i : Nat) (s : State) : Outcome := settled (gorgeForceOffStep h i s)

/-- PAGE_OPEN_RESUMED (R96): A PAGE_OPEN waiting for Basin space or enable is processed once a reservation becomes possible. -/
def execPageOpenResumed (h : Nat) (s : State) : Outcome := settled (pageOpenResumed h s)

end Sys2Proof.Machine
end

