-- ==== Sys2Proof/Machine/InspectionRows.lean ====
section
/-! DEFINITION. The rows of cameras and inspection (chapter 06), each followed by what every command is followed by. -/

namespace Sys2Proof.Machine

/-- CSI_PACKET_RECEIVED (R188). -/
def execCsiPacketReceived (h c : Nat) (packet : List Byte) (s : State) : Outcome := settled (pump h (csiPacket h c packet s))

/-- FRAME_TIMEOUT (R193). -/
def execFrameTimeout (h c : Nat) (s : State) : Outcome := settled (pump h (frameTimeout h c s))

/-- CAMERA_LINK_DOWN (R193). -/
def execCameraLinkDown (h c : Nat) (s : State) : Outcome := settled (linkDown h c s)

/-- CAMERA_TRIGGER (R190). -/
def execCameraTrigger (h c : Nat) (s : State) : Outcome := settled (camTrigger h c s)

/-- PIPELINE_LINE_TAKEN (R194): The pipeline takes the earliest buffered line and runs noise reduction and demosaic. -/
def execPipelineLineTaken (h : Nat) (s : State) : Outcome := settled (takeLine h s)

/-- VERDICT_RECEIVED (R208): A colour hearth skips a verdict or pushes a weak or dead Ash entry at LNUM plus LEAD. -/
def execVerdictReceived (h : Nat) (msg : List Byte) (s : State) : Outcome := settled (verdictIn h msg s)

/-- WATERMARK_RECEIVED (R210): A watermark reaching a page's last line plus MARGIN from every port closes inspection of the page. -/
def execWatermarkReceived (h : Nat) (msg : List Byte) (s : State) : Outcome := settled (watermarkIn h msg s)

/-- INSPECTION_CLOSE_TIMEOUT (R210): A page not closed TIMEOUT ms after FIRED retires as not inspected. -/
def execInspectionCloseTimeout (h page : Nat) (s : State) : Outcome := settled (closeTimeout h page s)

/-- CAM_EN_WRITE (R212). -/
def execCamEnWrite (h c : Nat) (value : Word) (s : State) : Outcome := settled (pump h (camWrite h c value s))

/-- CAM_DRAIN_TIMEOUT (R212). -/
def execCamDrainTimeout (h c : Nat) (s : State) : Outcome := settled (pump h (camDrainTimeout h c s))

/-- CAM_FORCE_OFF (R212): a write of FORCE_OFF 1. -/
def execCamForceOff (h c : Nat) (s : State) : Outcome :=
  settled (pump h (camWrite h c (s.pulse h c BLK_CAM 0 1) s))

/-- ISP_EN_WRITE (R212). -/
def execIspEnWrite (h : Nat) (value : Word) (s : State) : Outcome := settled (ispWrite h value s)

/-- ISP_FORCE_OFF (R212): a write of FORCE_OFF 1. -/
def execIspForceOff (h : Nat) (s : State) : Outcome := settled (ispWrite h (s.pulse h 0 BLK_ISP 0 1) s)

/-- ISP_DLUT_DATA_ACCESS (R205): An access to ISP_DLUT_DATA reads or writes the density table entry and advances the index. -/
def execIspDlutDataAccess (h : Nat) (write : Option Word) (s : State) : Outcome := settled (dlutAccess h write s)

/-- ISP_CMP_EN_WRITE (R206): a write of ISP_CTRL that reaches CMP_EN clears every window of the hearth. -/
def execIspCmpEnWrite (h : Nat) (value : Word) (s : State) : Outcome := settled (ispWrite h value s)

end Sys2Proof.Machine
end

