-- ==== Sys2Proof/Machine/LaneRx.lean ====
section
/-! DEFINITION. From the lane to the protocol (R25, R30, R47, R48, R82): the frames a Gorge lane's codewords complete reach the
protocol instance that takes them; loopback inside the die (R45). -/

namespace Sys2Proof.Machine

/-- The instance that takes a frame of a logical lane (R82): instance 0 from G0 and, in a bonded session, from G1; before there is a
session a HELLO that asks for bonding is taken from either lane of a bonded pair; else G1 belongs to instance 1 with a role.
DEDUCED (log 166). -/
def laneInst (s : State) (h ll : Nat) (f : List Byte) : Option Nat :=
  if ll = 0 then some 0
  else if s.fon h 0 GOR_STATUS_BONDED || (bondOn s h && frType f == 1 && bit (frW f 3) 0) then some 0
  else if gorRole s h 1 = 0 then none else some 1

/-- A whole frame reaches an instance: what it is decides which rule takes it (R56, R78). -/
def frameTaken (h i : Nat) (f : List Byte) (s : State) : State :=
  if !gorOk s h i || gorSess s h i == 0 then s
  else if !intact f then s.count h i GOR_BAD_FRAME
  else
    let k := frameCame h i f s
    match classify s h i f with
    | .ignored => s
    | .hello => takeHello h i f k
    | .helloAck => takeHelloAck h i f k
    | .seq => takeSequenced h i f k
    | .ack => takeAck h i f k
    | .nak => takeNak h i f k
    | .credit => takeCredit h i f k
    | .keepalive => takeKeepalive h i f k
    | .byeAbort => takeByeAbort h i f k
    | .error => takeError h i f k
    | .badVersion | .badType | .noSession | .stale => protocolFault h i f s

/-- A frame that a lane has delivered. -/
def laneFrame (h ll : Nat) (x : LaneFrame) (s : State) : State :=
  match laneInst s h ll x.1 with
  | none => s
  | some i => if x.2.1 || x.2.2 then badFrame h i x.1 x.2.1 x.2.2 s else frameTaken h i x.1 s

/-- The frames that a codeword completed, in order. -/
def laneFrames (h ll : Nat) (fs : List LaneFrame) (s : State) : State := forEach fs (laneFrame h ll) s

/-- CODEWORD_RECEIVED (R19, R25, R47). -/
def codewordReceived (h l : Nat) (levels : List Nat) (s : State) : State :=
  let r := codewordTaken h l levels s
  laneFrames h (logicalLane r.2 h l) r.1 r.2

/-- ALIGNMENT_CODEWORD_RECEIVED (R20, R25, R27). -/
def alignmentReceived (h l : Nat) (levels : List Nat) (s : State) : State := alignmentTaken h l levels s

/-- Near-end loopback: the receiver takes what was sent (R45). Of the data codewords only those with a block of a frame are taken
one by one; the receiver stands where the others would have left it. DESIGN CHOICE (log 32). -/
def nearEnd (h l : Nat) (p : Nat) (r : TxRun) (am : List Nat) (s : State) : State :=
  let last := if s.fon h l LANE_CTRL_TX_INV then 3 - p else p
  let s := forEach r.sent.reverse (fun w s => codewordReceived h l w.2 s) s
  alignmentReceived h l am (s.setLane h l { (s.lane h l) with descr := r.scr, lastP := if rxInv s h l then 3 - last else last })

/-- ALIGNMENT_CODEWORD_SENT (R20, R45). -/
def alignmentSent (h l : Nat) (s : State) : State :=
  if laneSends s h l then
    let r := dataRun s h l
    let ss := amCodeword l (s.fget h l LANE_BOND_TX_BOND_ID) (s.lane h l).amSeq
    let t := alignmentPut h l s
    if s.fget h l TST_PRBS_CTRL_LOOPBACK = 1 then nearEnd h l r.p r (wordLevels s h l r.p ss).1 t else t
  else s

end Sys2Proof.Machine
end

