-- ==== Sys2Proof/Machine/LaneRows.lean ====
section
/-! DEFINITION. The rows of serial lanes (chapter 01), each followed by what every command is followed by. -/

namespace Sys2Proof.Machine

/-- LANE_EN_WRITE (R25): Writing LANE_CTRL.EN 1 with a valid MODE takes a lane from OFF to WAIT_SIG, and EN 0 returns it to OFF. -/
def execLaneEnWrite (h l : Nat) (value : Word) (s : State) : Outcome := settled (laneEnWrite h l value s)

/-- SIGNAL_DETECTED (R25): Signal detected continuously for 1 µs takes a lane from WAIT_SIG to ACQUIRE. -/
def execSignalDetected (h l : Nat) (s : State) : Outcome := settled (signalDetected h l s)

/-- CDR_LOCKED (R25): The lane's clock and data recovery locks in ACQUIRE and starts counting FOM periods. -/
def execCdrLocked (h l : Nat) (s : State) : Outcome := settled (cdrLocked h l s)

/-- FOM_PERIOD (R38): At the end of each FOM period the eye opening is measured and low-FOM freeze, recentre or an adaptation step follows. -/
def execFomPeriod (h l fom : Nat) (s : State) : Outcome := settled (fomPeriod h l fom s)

/-- LOW_FOM_DEGRADED (R40): FOM below the floor for 1 ms in UP sets DEGRADED while the lane stays UP. -/
def execLowFomDegraded (h l : Nat) (s : State) : Outcome := settled (lowFomDegraded h l s)

/-- RECENTRE_DONE (R38): The 1,024-symbol recentre at eightfold step size ends and normal adaptation resumes. -/
def execRecentreDone (h l : Nat) (s : State) : Outcome := settled (recentreDone h l s)

/-- ADAPT_UNIT_RECEIVED (R37): Each received block or code group updates the idle count and sets or clears idle freeze. -/
def execAdaptUnitReceived (h l : Nat) (unit : LaneUnit) (s : State) : Outcome := settled (adaptUnit h l unit s)

/-- CODEWORD_RECEIVED (R19): A Gorge RS(544,514) codeword is decoded, corrected or marked uncorrectable, and its blocks are delivered. -/
def execCodewordReceived (h l : Nat) (levels : List Nat) (s : State) : Outcome := settled (codewordReceived h l levels s)

/-- ALIGNMENT_CODEWORD_RECEIVED (R20): An alignment codeword is found, confirms alignment, and carries lane and bond IDs for the CHECK tests. -/
def execAlignmentCodewordReceived (h l : Nat) (levels : List Nat) (s : State) : Outcome :=
  settled (alignmentReceived h l levels s)

/-- ALIGNMENT_CODEWORD_SENT (R20): Every 1,024th transmitted codeword is replaced by an alignment codeword carrying marker, IDs and sequence. -/
def execAlignmentCodewordSent (h l : Nat) (s : State) : Outcome := settled (alignmentSent h l s)

/-- CODE_GROUP_RECEIVED (R22): A Saddle 8b/10b code group is checked against running disparity and counted if invalid. -/
def execCodeGroupReceived (h l group : Nat) (s : State) : Outcome := settled (codeGroup h l group s)

/-- SADDLE_SYNC_ACQUIRED (R25): Clause 36 synchronisation, and auto-negotiation where enabled, take a Saddle lane from ALIGN to CHECK. -/
def execSaddleSyncAcquired (h l : Nat) (s : State) : Outcome := settled (saddleSync h l s)

/-- AUTONEG_COMPLETE (R24): Clause 37 auto-negotiation completes, and a partner not advertising full duplex sets AN_FAIL. -/
def execAutonegComplete (h l : Nat) (fullDuplex : Bool) (s : State) : Outcome := settled (autonegComplete h l fullDuplex s)

/-- AUTONEG_RESTART (R24): Every 10 ms after AN_FAIL the lane restarts auto-negotiation. -/
def execAutonegRestart (h l : Nat) (s : State) : Outcome := settled (autonegRestart h l s)

/-- SIGNAL_LOST (R26): Signal lost for 1 µs in ACQUIRE to UP returns the lane to WAIT_SIG. -/
def execSignalLost (h l : Nat) (s : State) : Outcome := settled (signalLost h l s)

/-- CDR_LOCK_LOST (R26): Loss of CDR lock in ACQUIRE to UP returns the lane to WAIT_SIG. -/
def execCdrLockLost (h l : Nat) (s : State) : Outcome := settled (cdrLockLost h l s)

/-- ALIGNMENT_LOST (R26): Three missing alignment codewords or over 64 uncorrectable codewords in an interval return a Gorge lane to WAIT_SIG. -/
def execAlignmentLost (h l : Nat) (s : State) : Outcome := settled (alignmentLost h l s)

/-- SADDLE_SYNC_LOST (R26): Clause 36 loss of synchronisation returns a Saddle lane to WAIT_SIG. -/
def execSaddleSyncLost (h l : Nat) (s : State) : Outcome := settled (saddleSyncLost h l s)

/-- BRINGUP_TIMEOUT (R26): UP not reached within LANE_BRINGUP.TIMEOUT ms sends the lane to FAIL. -/
def execBringupTimeout (h l : Nat) (s : State) : Outcome := settled (bringupTimeout h l s)

/-- FAIL_RETRY (R25): RETRY ms after entry to FAIL the lane returns to WAIT_SIG. -/
def execFailRetry (h l : Nat) (s : State) : Outcome := settled (failRetry h l s)

/-- PRBS_ENABLE_WRITE (R26): Setting GEN_EN or CHK_EN sends the lane to TEST, and clearing both returns it to WAIT_SIG. -/
def execPrbsEnableWrite (h l : Nat) (value : Word) (s : State) : Outcome := settled (prbsEnableWrite h l value s)

/-- PRBS_CHECKER_LOCK (R43): The checker locks after 128 error-free bits and starts counting. -/
def execPrbsCheckerLock (h l : Nat) (line : List Nat) (s : State) : Outcome := settled (prbsLock h l line s)

/-- PRBS_LOCK_LOST (R43): More than 16 errors in a 128-bit window lose checker lock, set LOCK_LOST and reseed. -/
def execPrbsLockLost (h l : Nat) (line : List Nat) (s : State) : Outcome := settled (prbsLockLost h l line s)

/-- CHK_RESEED (R43): Writing 1 to CHK_RESEED forces the checker to reseed. -/
def execChkReseed (h l : Nat) (s : State) : Outcome := settled (chkReseed h l s)

/-- INJ_ONE (R44): Writing INJ_ONE inverts the next generated bit once the generator runs. -/
def execInjOne (h l : Nat) (s : State) : Outcome := settled (injOne h l s)

/-- INJ_RATE_INJECTION (R44): Every 2^k-th generated bit is inverted while rate injection is on. -/
def execInjRateInjection (h l : Nat) (s : State) : Outcome := settled (injRate h l s)

/-- LOOPBACK_CHANGE (R45): A change of LOOPBACK selects near- or far-end loopback and sends the lane through WAIT_SIG. -/
def execLoopbackChange (h l : Nat) (value : Word) (s : State) : Outcome := settled (loopbackChange h l value s)

end Sys2Proof.Machine
end

