-- ==== Sys2Proof/Machine/MailboxRows.lean ====
section
/-! DEFINITION. The rows of mailbox channels (chapter 09), each followed by what every command is followed by. -/

namespace Sys2Proof.Machine

/-- CMD_PI_WRITE (R276): a write of MBX_CMD_PI. -/
def execCmdPiWrite (ch : Nat) (value : Word) (s : State) : Outcome :=
  settled (onSide ch (fun ch s => if mbxOk ch then mbxWrite ch MBX_CMD_PI.word value false s else s) s)

/-- RSP_CI_WRITE (R276): a write of MBX_RSP_CI. -/
def execRspCiWrite (ch : Nat) (value : Word) (s : State) : Outcome :=
  settled (onSide ch (fun ch s => if mbxOk ch then mbxWrite ch MBX_RSP_CI.word value false s else s) s)

/-- RESPONSE_WRITTEN (R278). -/
def execResponseWritten (ch : Nat) (s : State) : Outcome := settled (onSide ch responseWritten s)

/-- DOORBELL_PUSH (R279). -/
def execDoorbellPush (ch : Nat) (s : State) : Outcome := settled (onSide ch doorbell s)

/-- MAILBOX_PAUSE (R280): During a Mantel firmware swap every channel is paused. -/
def execMailboxPause (s : State) : Outcome := settled (mbxPause s)

/-- MAILBOX_RESUME (R280): After the swap the channels resume taking commands. -/
def execMailboxResume (s : State) : Outcome := settled (mbxResume s)

/-- MBX_EN_WRITE (R296): a write of MBX_CTRL. -/
def execMbxEnWrite (ch : Nat) (value : Word) (s : State) : Outcome :=
  settled (onSide ch (fun ch s => if mbxOk ch then mbxWrite ch 0 value false s else s) s)

/-- MBX_DRAIN_TIMEOUT (R296). -/
def execMbxDrainTimeout (ch : Nat) (s : State) : Outcome := settled (onSide ch mbxDrainTimeout s)

/-- MBX_FORCE_OFF (R296): a write of FORCE_OFF 1, the other fields as they stand. -/
def execMbxForceOff (ch : Nat) (s : State) : Outcome :=
  settled (onSide ch (fun ch s => if mbxOk ch then mbxWrite ch 0 (s.pulse s.crown ch BLK_MBX 0 1) false s else s) s)

/-- UDP_HELLO (R283). -/
def execUdpHello (frame : List Byte) (s : State) : Outcome := settled (udpRow (· == .hello) frame s)

/-- UDP_REQUEST (R284): A REQUEST's entries are deduplicated and placed in the command ring and answered by ACK. -/
def execUdpRequest (frame : List Byte) (s : State) : Outcome := settled (udpRow (· == .request) frame s)

/-- UDP_RACK (R286): A RACK acknowledges every response of the RESPONSE datagram it names. -/
def execUdpRack (frame : List Byte) (s : State) : Outcome := settled (udpRow (· == .rack) frame s)

/-- UDP_REJECT (R282): A malformed, stale or foreign datagram is rejected with a REJECT reason. -/
def execUdpReject (frame : List Byte) (s : State) : Outcome :=
  settled (udpRow (fun k => k != .hello && k != .request && k != .rack) frame s)

/-- RESPONSE_RETRANSMIT (R286). -/
def execResponseRetransmit (ch rseq : Nat) (s : State) : Outcome :=
  settled (if ch == 2 || ch == 3 then responseRetransmit ch rseq s else s)

/-- ARP_RECEIVED (R281): An ARP request is answered and the cache updated. -/
def execArpReceived (frame : List Byte) (s : State) : Outcome := settled (arpReceived frame s)

/-- ICMP_ECHO_RECEIVED (R281): An ICMP echo request is answered with an echo reply. -/
def execIcmpEchoReceived (frame : List Byte) (s : State) : Outcome := settled (icmpEcho frame s)

end Sys2Proof.Machine
end

