-- ==== Sys2Proof/Machine/MotionRows.lean ====
section
/-! DEFINITION. The rows of motion axes (chapter 07), each followed by what every command is followed by. -/

namespace Sys2Proof.Machine

/-- AXIS_STEP (R227): An accumulator carry moves the axis one microunit and may complete the current move. -/
def execAxisStep (axis : Nat) (s : State) : Outcome := settled (axisStepRow axis s)

/-- PROFILE_TICK (R229): Every 20 µs the profile takes the next move and ramps velocity up or down. -/
def execProfileTick (axis : Nat) (s : State) : Outcome := settled (profileTickRow axis s)

/-- PHASE_FRAME_SENT (R233): One 40-bit phase-setpoint frame with coil currents is sent 1 µs after each profile tick. -/
def execPhaseFrameSent (axis : Nat) (s : State) : Outcome := settled (phaseFrameSent axis s)

/-- MOT_Q_PUSH (R228). -/
def execMotQPush (axis : Nat) (value : Word) (s : State) : Outcome := settled (motWrite axis MOT_Q_PUSH.word value s)

/-- STANDSTILL (R234): An axis at rest with an empty queue for DELAY ms applies its idle action. -/
def execStandstill (axis : Nat) (s : State) : Outcome := settled (standstill axis s)

/-- WAKE_DELAY_END (R234): WAKE ms after the first frame with RUN current the waiting move starts. -/
def execWakeDelayEnd (axis : Nat) (s : State) : Outcome := settled (wakeDelayEnd axis s)

/-- SWITCH_DEBOUNCE_END (R235): At the end of a debounce window a HOME or limit edge passes or is dropped. -/
def execSwitchDebounceEnd (axis sw : Nat) (level : Bool) (edgePos : Int) (s : State) : Outcome :=
  settled (switchDebounceEnd axis sw level edgePos s)

/-- MOT_HOME_WRITE (R237). -/
def execMotHomeWrite (axis : Nat) (s : State) : Outcome := settled (motWrite axis 0 (ctrlWith s axis 3) s)

/-- MOT_STOP_WRITE (R239). -/
def execMotStopWrite (axis : Nat) (s : State) : Outcome := settled (motWrite axis 0 (ctrlWith s axis 2) s)

/-- MOT_CLR_WRITE (R236). -/
def execMotClrWrite (axis : Nat) (s : State) : Outcome := settled (motWrite axis 0 (ctrlWith s axis 4) s)

/-- MOT_EN_WRITE (R240): a write of MOT_CTRL. -/
def execMotEnWrite (axis : Nat) (value : Word) (s : State) : Outcome := settled (motWrite axis 0 value s)

/-- MOT_DRAIN_TIMEOUT (R240): A move not ended within DRAIN × 10 ms ramps to rest and the result is ABORTED. -/
def execMotDrainTimeout (axis : Nat) (s : State) : Outcome := settled (motDrainTimeout axis s)

/-- MOT_FORCE_OFF (R240). -/
def execMotForceOff (axis : Nat) (s : State) : Outcome := settled (motWrite axis 0 (ctrlWith s axis 1) s)

end Sys2Proof.Machine
end

