-- ==== Sys2Proof/Machine/Tap.lean ====
section
/-! DEFINITION. The JTAG port (R425, R330): the TAP controller of IEEE 1149.1, its instruction register and its data registers.
What R425 leaves to that standard is PRESUMED (log 178). -/

namespace Sys2Proof.Machine

/-- The controller's next state at a rising edge of TCK. -/
def TapSt.next : TapSt → (tms : Bool) → TapSt
  | .reset, tms => if tms then .reset else .idle
  | .idle, tms => if tms then .selectDr else .idle
  | .selectDr, tms => if tms then .selectIr else .captureDr
  | .captureDr, tms => if tms then .exit1Dr else .shiftDr
  | .shiftDr, tms => if tms then .exit1Dr else .shiftDr
  | .exit1Dr, tms => if tms then .updateDr else .pauseDr
  | .pauseDr, tms => if tms then .exit2Dr else .pauseDr
  | .exit2Dr, tms => if tms then .updateDr else .shiftDr
  | .updateDr, tms => if tms then .selectDr else .idle
  | .selectIr, tms => if tms then .reset else .captureIr
  | .captureIr, tms => if tms then .exit1Ir else .shiftIr
  | .shiftIr, tms => if tms then .exit1Ir else .shiftIr
  | .exit1Ir, tms => if tms then .updateIr else .pauseIr
  | .pauseIr, tms => if tms then .exit2Ir else .pauseIr
  | .exit2Ir, tms => if tms then .updateIr else .shiftIr
  | .updateIr, tms => if tms then .selectDr else .idle

/-- The low `n` bits of a number, least significant first. -/
def lsbFirst (n x : Nat) : List Bool := (List.range n).map (bit x)

/-- Bits, least significant first, as a number. -/
def ofLsbFirst (bs : List Bool) : Nat := bs.foldr (fun b a => 2 * a + b2n b) 0

/-- IDCODE: version 0x2, the part's number, the manufacturer identity, 1 (R425). -/
def idcode (s : State) : Nat :=
  2 * 2 ^ 28 + (if s.nH = 2 then 0x5B02 else if s.nH = 4 then 0x5B04 else 0x5B08) * 2 ^ 12 + Config.tapManufacturer.toNat * 2 + 1

/-- The instruction a code of the instruction register selects: all ones BYPASS, any other as the device has it. -/
def tapInstr (code : Nat) : TapInstr :=
  if code + 1 = 2 ^ Config.tapIrBits then .bypass
  else match Config.tapCode code with
    | 1 => .idcode
    | 2 => .sample
    | 3 => .extest
    | 4 => .clamp
    | 5 => .highz
    | _ => .bypass

/-- What the data register takes at Capture-DR: IDCODE, the levels at the boundary's balls, or the 0 of BYPASS. -/
def tapCapture (s : State) : List Bool × State :=
  match s.tap.instr with
  | .idcode => (lsbFirst 32 (idcode s), s)
  | .sample | .extest =>
    let r := s.free Config.tapCells
    (lsbFirst Config.tapCells r.1, r.2)
  | _ => ([false], s)

/-- EXTEST and CLAMP drive the balls from the boundary register, HIGHZ releases them. -/
def tapPins (s : State) : State :=
  match s.tap.instr with
  | .extest | .clamp | .highz => s.emit (.tapPins s.tap.instr s.tap.boundary)
  | _ => s

/-- What the state the controller stands in does at a rising edge of TCK. -/
def tapAct (tdi : Bool) (s : State) : State :=
  let x := s.tap
  match x.st with
  | .captureDr =>
    let r := tapCapture s
    { r.2 with tap := { x with shift := r.1 } }
  | .captureIr => { s with tap := { x with shift := lsbFirst Config.tapIrBits 1 } }
  | .shiftDr | .shiftIr => { s with tap := { x with shift := x.shift.drop 1 ++ [tdi] } }.emit (.tdo (x.shift.headD tdi))
  | _ => s

/-- What the state the controller comes to does. -/
def tapEnter (s : State) : State :=
  let x := s.tap
  match x.st with
  | .reset => { s with tap := {} }
  | .updateIr => tapPins { s with tap := { x with instr := tapInstr (ofLsbFirst x.shift) } }
  | .updateDr =>
    if x.instr = .sample ∨ x.instr = .extest then tapPins { s with tap := { x with boundary := x.shift } } else s
  | _ => s

/-- A rising edge of TCK with TMS and TDI. -/
def tapClock (e : Bool × Bool) (s : State) : State :=
  let s := tapAct e.2 s
  tapEnter { s with tap := { s.tap with st := s.tap.st.next e.1 } }

/-- TCK brings edges, then the controller is reset, alone (R330). -/
def tapReset (edges : List (Bool × Bool)) (s : State) : State := { forEach edges tapClock s with tap := {} }

end Sys2Proof.Machine
end

