-- ==== Sys2Proof/Machine/StartUp.lean ====
section
/-! DEFINITION. Supplies, resets, boot, crown election and stand-alone rows (11_start_up.md, R325–R349; R396). -/

namespace Sys2Proof.Machine

/-! ### What a reset keeps (R328, R330) -/

/-- Hearth, block, instance and word of a register key. -/
def keyHearth (k : Nat) : Nat := k / (256 * 16 * 2048)
def keyBlk (k : Nat) : Nat := k / (16 * 2048) % 256
def keyWord (k : Nat) : Nat := k % 2048

/-- A register word of the housekeeping domain: FND, the service port, the increment of the time counter. -/
def keyHouse (k : Nat) : Bool :=
  keyBlk k == BLK_FND || keyBlk k == BLK_SVC
    || (keyBlk k == BLK_TIM && (keyWord k == TIM_INC_LO.word || keyWord k == TIM_INC_HI.word))

/-- A register word of one set for the package. -/
def keyPackage (k : Nat) : Bool := blkGlobal (keyBlk k) || (keyBlk k == BLK_GLB && decide (0x40 ≤ keyWord k))

/-- Entries of a table but those whose keys `p` names. -/
def tabDrop {α : Type} (p : Nat → Bool) (t : Tab α) : Tab α := t.filter fun e => !p e.1

/-- The stored calibration sets, which stand in flash. -/
def calKept (x : CalX) : CalX := { stored := x.stored }

/-- The safe state of a hearth's outputs (R331). -/
def safeTable : List (SafeGroup × PinLevel) :=
  [(.strands, .low), (.power, .low), (.axes, .low), (.cameraTriggers, .low), (.ssiClocks, .high), (.transmitters, .idle),
   (.controlPort, .released)]

/-- The outputs of hearth `h`, and of every hearth, take the safe state. -/
def safeHearth (h : Nat) : List Out := safeTable.map fun e => Out.safe h e.1 e.2
def safeOutputs (s : State) : List Out := (List.range s.nH).flatMap safeHearth

/-- A main-domain reset of the whole device with its cause (R327, R328, R330, R331); during one, nothing more happens.
DEDUCED (log 135). -/
def mainReset (cause : Nat) (s : State) : State :=
  if s.boot.inReset then s
  else
    let r : State := {
      pending := s.pending, part := s.part, now := s.now, freeCtr := s.freeCtr, out := safeOutputs s ++ s.out
      regs := tabDrop (fun k => !keyHouse k) s.regs
      dram := s.dram, flash := s.flash, flash2 := s.flash2, crown := s.crown, gates := s.gates, vauxLow := s.vauxLow
      tim := { sec := s.tim.sec, ns := s.tim.ns, frac := s.tim.frac, inc := s.tim.inc }
      twn := { hbSeq := s.twn.hbSeq, peerDrives := s.twn.peerDrives }
      cals := s.cals.map fun e => (e.1, calKept e.2)
      upd := { s.upd with swaps := [] }
      leadSel := s.leadSel, tap := s.tap }
    let r := tput TIM_STATUS_FROZEN (tget s TIM_STATUS_FROZEN) (tput TIM_STATUS_VALID (tget s TIM_STATUS_VALID) r)
    vput SVC_STATUS_CAUSE cause (vput SVC_STATUS_STATE (min 1 (vget s SVC_STATUS_STATE)) r)

/-! ### Supplies (R325–R329, R413) -/

/-- VAUX_POWER_ON: everything is reset; what stands in flash and in fuses stays. -/
def vauxPowerOn (s : State) : State :=
  let r : State := {
    pending := s.pending, part := s.part, now := s.now, freeCtr := s.freeCtr, out := safeOutputs s ++ s.out
    regs := tabDrop (fun k => !(keyBlk k == BLK_SVC && keyWord k == SVC_FUSE.word)) s.regs
    flash := s.flash, flash2 := s.flash2
    cals := s.cals.map fun e => (e.1, calKept e.2)
    upd := { stageLen := s.upd.stageLen, stagedBlocks := s.upd.stagedBlocks, jour := s.upd.jour } }
  jourShow (stagedShow r)

def execVauxPowerOn (s : State) : Outcome := settled (vauxPowerOn s)

/-- VAUX_LOW (R329): every enabled gate counts as asserted, pages in FIRING are marked, the time is invalid. -/
def vauxFalls (s : State) : State :=
  let s := gateShow { s with vauxLow := true }
  let s := forEach (List.range s.nH) (fun h s =>
    match firingPage s h with
    | some p => markReason h p.id 1 0xF s
    | none => s) s
  timeInvalid s

def execVauxLow (s : State) : Outcome := settled (vauxFalls s)

/-- VAUX_RESTORED: back in range for 10 ms. -/
def execVauxRestored (s : State) : Outcome := settled (gateShow { s with vauxLow := false })

/-- BROWNOUT (R327), SYS_RST_N_LOW (R326), REFCLK_LOST (R413): a main-domain reset. -/
def execBrownout (s : State) : Outcome := settled (mainReset 1 s)
def sysRstLow (s : State) : State := mainReset 2 s
def execSysRstNLow (s : State) : Outcome := settled (sysRstLow s)
/-- REFCLK_LOST acts as SYS_RST_N does. DEDUCED (log 136). -/
def refclkLost (s : State) : State := mainReset 2 s
def execRefclkLost (s : State) : Outcome := settled (refclkLost s)

/-! ### The service port's resets (R396) -/

/-- The key of HOLD and RESET. -/
def svcKey : Nat := 0x5A17

/-- SVC_HOLD: the main domain stays in reset while ON is 1. -/
def svcHold (key on : Nat) (s : State) : State :=
  let s := svcFrame s
  if key ≠ svcKey then s
  else if on = 1 then { (mainReset 6 s) with upd := { (mainReset 6 s).upd with held := true } }
  else { s with upd := { s.upd with held := false } }

def execSvcHold (key hold : Nat) (s : State) : Outcome := settled (svcHold key hold s)

/-- SVC_RESET. -/
def svcReset (key : Nat) (s : State) : State :=
  let s := svcFrame s
  if key ≠ svcKey then s else mainReset 6 s

def execSvcReset (key : Nat) (s : State) : Outcome := settled (svcReset key s)

/-! ### The configuration image at boot (R255, R334, R342, R393) -/

/-- The register list of the configuration image. -/
def imagePairs (s : State) : List (Nat × Word) := ((cfgKind s 1).map fun l => regPairs (l.length / 8) l).getD []

/-- Write the entries of the list that `ok` names, at the targets on hearths that `on` names. -/
def imageWrite (ok : RegAddr → Bool) (on : Nat → Bool) (s : State) : State :=
  forEach (imagePairs s) (fun e s => match regAddr e.1 with
    | none => s
    | some a =>
      if !ok a then s
      else forEach ((targets s a).filter fun t => on t.1) (fun t => regWrite a.blk t.1 t.2 a.word e.2 a.bcast) s) s

/-- The entries that boot applies itself: the memory controllers', then the Saddle lanes'. -/
def bootEntry (a : RegAddr) : Bool := a.blk == BLK_DRM || (a.blk == BLK_LANE && a.inst != 0 && a.inst != 1)

/-- The entries of partner discovery: feedback channels, and AUTO_PWR of the heads. -/
def discoveryEntry (a : RegAddr) : Bool := a.blk == BLK_FBK || (a.blk == BLK_FBX && a.word == FBX_HOTPLUG.word)

/-- Steps 7 and 8 on a hearth: DRM_CFG and training, Saddle lanes; the stored calibration sets. -/
def bootHearth (h : Nat) (s : State) : State :=
  let s := imageWrite (fun a => a.blk == BLK_DRM) (· == h) s
  let s := s.fput h 0 DRM_STATUS_STATE 1
  let s := imageWrite (fun a => bootEntry a && a.blk != BLK_DRM) (· == h) s
  calLoad h s

/-! ### Loading (R334 steps 4 to 6, R335, R398) -/

/-- The slot of a component that loads: the active one, else the other; whether it fell back; whether one loads at all.
DEDUCED (log 134). -/
def bootSlot (s : State) (comp : Nat) : Nat × Bool × Bool :=
  let a := activeSlot s comp
  if verifySlot s comp a = 0 then (a, false, true)
  else if verifySlot s comp (1 - a) = 0 then (1 - a, true, true)
  else (a, false, false)

/-- Mailboxes are served: every enabled channel runs. -/
def mbxServe (s : State) : State :=
  forEach (below 4 fun ch => mget s ch MBX_CTRL_EN != 0) (fun ch => mput ch MBX_STATUS_STATE 1) s

/-- Both slots of component 0 fail: a journaled FULL patch of it is completed from staging, verified and activated (R401); the boot
runs the image it activates, so no swap is left to wait. DEDUCED (log 179). -/
def bootRecover (s : State) : State :=
  match s.upd.jour with
  | none => s
  | some j =>
    if j.comp = 0 ∧ patFull s then
      let s := patchDone (if j.st = 1 then vput SVC_STATUS_STATE 2 s else s)
      let r := activate 0 j.slot none s
      if s.upd.jour.isNone || r.1 != 0 then s else swapped 0 r.2
    else s

/-- The boot component as it loads, after recovery where both its slots fail. -/
def bootReady (s : State) : State := if (bootSlot s 0).2.2 then s else bootRecover s

/-- The images are loaded, firmware starts on the crown and the hearths `hs`; an interrupted patch resumes. -/
def bootImages (hs : List Nat) (s : State) : State :=
  if !bit s.boot.flash 0 || !(bootSlot s 0).2.2 then { s with boot := { s.boot with wait := false, stuck := true } }
  else
    let sl := (List.range 5).map (bootSlot s)
    let s := { s with
      boot := { s.boot with wait := false }, up := true, upSince := s.now, mode := 0
      upd := { s.upd with running := (sl.zipIdx.map fun (e, i) => e.1 * 2 ^ i).sum } }
    let fell := below 5 fun i => (sl.getD i (0, false, false)).2.1
    let s := vput SVC_BOOT_FELL ((fell.map fun i => 2 ^ i).sum) (bootShow s)
    let s := if fell = [] then s else s.raise 0 0 SVC_EVENT_FALLBACK
    let s := mbxServe s
    let s := forEach fell (fun _ => fwEvent s.crown 0x8E02) s
    let s := forEach hs bootHearth s
    match s.upd.jour with
    | some j => if j.st = 1 then vput SVC_STATUS_STATE 2 (jourShow s) else jourShow s
    | none => s

/-- Load and start, after the recovery of R401 where it is due. -/
def bootLoad (hs : List Nat) (s : State) : State := bootImages hs (if bit s.boot.flash 0 then bootReady s else s)

/-! ### BOOT_START (R334–R339) -/

/-- The crown of the part: H0, or the lead of the senior half by the two samples of LEAD_SEL. -/
def electCrown (s : State) (lead0 lead4 : Nat) : Nat := if s.nH = 8 ∧ lead0 % 2 = 1 ∧ lead4 % 2 = 1 then 4 else 0

/-- Links that failed to train, both ends of each. -/
def lostLinks (s : State) (down : List Nat) : List Nat :=
  below (4 * s.nH) fun k =>
    linkPresent s (k / 4) (k % 4) &&
      (down.contains k || down.contains (4 * (linkPeer s (k / 4) (k % 4)).1 + (linkPeer s (k / 4) (k % 4)).2))

/-- Hearths that boot with the crown. -/
def bootSet (s : State) : List Nat := below s.nH fun h => !bit s.absent h

/-- SYS_RST_N rises: LEAD_SEL is sampled, links train, the crown is elected, images load; with the bridge down the leads
wait. `silent`: hearths that do not answer; `down`: links (4 × hearth + port) that fail to train; `flashes`: flashes that
answer, bit 0 the crown's, bit 1 the junior lead's. DESIGN CHOICE (log 5). -/
def bootStart (lead0 lead4 silent : Nat) (down : List Nat) (flashes : Nat) (s : State) : State :=
  if !s.boot.inReset || s.upd.held then s
  else
    let c := electCrown s lead0 lead4
    let s := { s with
      crown := c, leadSel := lead0 % 2, absent := silent % 2 ^ s.nH - b2n (bit silent c) * 2 ^ c
      linksLost := lostLinks s down, boot := { flash := flashes, inReset := false } }
    let s := crownShow 1 (linksShow s)
    if s.nH = 8 ∧ !bridgeUp s then { s with boot := { s.boot with wait := true } } else bootLoad (bootSet s) s

def execBootStart (lead0 lead4 silent : Nat) (down : List Nat) (flashes : Nat) (s : State) : Outcome :=
  settled (bootStart lead0 lead4 silent down flashes s)

/-- The junior lead's own flash holds images that load. -/
def juniorLoads (s : State) : Bool :=
  bit s.boot.flash 1 && (bootSlot { s with flash := s.flash2, upd := { s.upd with jour := none } } 0).2.2

/-- Boot the junior half from its own flash, as its own configuration image says. -/
def juniorBoot (hs : List Nat) (s : State) : State :=
  let run := (bootSlot { s with flash := s.flash2, upd := { s.upd with jour := none } } 4).1 * 16
  let v := forEach hs bootHearth { s with flash := s.flash2, upd := { s.upd with running := run } }
  juniorWakes { v with flash := s.flash, upd := s.upd }

/-- BRIDGE_WAIT_EXPIRY (R339): the senior lead boots its half as crown; the junior lead boots its half from its own flash in
mode JUNIOR, or waits at step 4. DEDUCED (log 137). -/
def bridgeWaitEnds (s : State) : State :=
  if !s.boot.wait then s
  else
    let far := (bootSet s).filter (juniorHalf s)
    let s := bootLoad ((bootSet s).filter fun h => !juniorHalf s h) s
    if s.boot.stuck then s
    else if juniorLoads s then juniorBoot far s
    else { s with absent := far.foldl (fun a h => a ||| 2 ^ h) s.absent, boot := { s.boot with wait := false, stuck := false } }

def execBridgeWaitExpiry (s : State) : Outcome := settled (bridgeWaitEnds s)

/-- The junior lead yields: its commands in progress end ABORTED, its bindings close, it serves no more (R341). -/
def juniorYields (s : State) : State :=
  let s := inJunior (fun s => forEach (List.range 4) (fun ch s => mput ch MBX_STATUS_STATE 0 (udpUnbind ch (abortOps ch s))) s) s
  { s with junior := {} }

/-- BRIDGE_UP (R339, R341): within the wait, boot goes on; later the junior lead yields, hearths that waited boot from the
crown, and the crown raises the epoch. -/
def bridgeReturns (s : State) : State :=
  if s.nH ≠ 8 ∨ !bridgeUp s then s
  else if s.boot.wait then bootLoad (bootSet s) s
  else
    let far := below 8 fun h => juniorHalf s h && bit s.absent h
    if !s.up || (!s.junior.on && far.isEmpty) then s
    else
      let e := (s.fget s.crown 0 GLB_CROWN_EPOCH + 1) % 65536
      let s := juniorYields s
      let s := { s with absent := far.foldl (fun a h => a - 2 ^ h) s.absent }
      fwEvent s.crown 0x8103 (crownShow e (forEach far bootHearth s))

def execBridgeUp (s : State) : Outcome := settled (bridgeReturns s)

/-- BOOT_END (R334, R342): partner discovery starts; an attach taken during boot acts. -/
def bootEnds (s : State) : State :=
  if !s.up || s.mode != 0 then s
  else
    let s := imageWrite discoveryEntry (fun h => !bit s.absent h) s
    if s.attachDue then goHosted s else { s with mode := 1 }

def execBootEnd (s : State) : Outcome := settled (bootEnds s)

/-! ### Resets of one hearth (R330, R332) -/

/-- A register key of a hearth that its reset clears. -/
def keyOf (h k : Nat) : Bool := keyHearth k == h && !keyPackage k

/-- Every block of a hearth at its reset values; its pages are lost without reports. -/
def hearthClear (h : Nat) (s : State) : State :=
  { s with
    regs := tabDrop (keyOf h) s.regs, staged := tabDrop (keyOf h) s.staged, latches := tabDrop (keyOf h) s.latches
    sev := tabDrop (fun k => k / 32768 == h) s.sev, lanes := tabDrop (fun k => k / 16 == h) s.lanes
    gors := tabDrop (fun k => k / 16 == h) s.gors, basins := tabDrop (· == h) s.basins
    lbs := tabDrop (fun k => k / 64 == h) s.lbs, flues := tabDrop (fun k => k / 32 == h) s.flues
    ters := tabDrop (· == h) s.ters, fbxs := tabDrop (fun k => k / 16 == h) s.fbxs, dmps := tabDrop (· == h) s.dmps
    drts := tabDrop (· == h) s.drts, grts := tabDrop (fun k => k / 2 == h) s.grts
    ashMap := tabDrop (fun k => k / 65536 == h) s.ashMap, axes := tabDrop (fun k => k / 4 == h) s.axes
    quads := tabDrop (fun k => k / 8 == h) s.quads, halls := tabDrop (fun k => k / 8 == h) s.halls
    ssis := tabDrop (fun k => k / 8 == h) s.ssis, cams := tabDrop (fun k => k / 2 == h) s.cams
    isps := tabDrop (· == h) s.isps, chms := tabDrop (· == h) s.chms, i2cs := tabDrop (fun k => k / 2 == h) s.i2cs
    cals := s.cals.map fun e => if e.1 = h then (e.1, calKept e.2) else e
    out := safeHearth h ++ s.out }

/-- Deferred commands that waited for a hearth end ABORTED there. -/
def hearthOps (h : Nat) (s : State) : State :=
  { s with dops := s.dops.map fun d => if 256 ≤ d.hs.getD h 0 ∧ d.hs.getD h 0 ≠ 0xFF then { d with hs := d.hs.set h cABORTED } else d }

/-- HEARTH_RESET: a hearth other than the crown starts again and takes its firmware from the crown. -/
def hearthReset (h : Nat) (s : State) : State :=
  if !s.hasH h || h == s.crown then s
  else
    let e := s.fget s.crown 0 GLB_CROWN_EPOCH
    let s := hearthOps h (vput SVC_STATUS_CAUSE 4 (hearthClear h s))
    let s := { s with absent := s.absent - b2n (bit s.absent h) * 2 ^ h }
    bootHearth h (crownShow e (linksShow s))

def execHearthReset (h : Nat) (s : State) : Outcome := settled (hearthReset h s)

/-- SYS_RESET_DELAY_EXPIRY (R308): the reset that SYS_RESET asked for. -/
def resetExpires (s : State) : State :=
  match s.resetDue with
  | none => s
  | some (0, _) => mainReset 3 { s with resetDue := none }
  | some (_, mask) => forEach (below 8 (bit mask)) hearthReset { s with resetDue := none }

def execSysResetDelayExpiry (s : State) : Outcome := settled (resetExpires s)

/-! ### The watchdog (R333) -/

/-- Tags of a channel outstanding without a final response produced, with their opcodes and generations. -/
def openTags (s : State) (ch : Nat) : List (Nat × Nat × Nat) :=
  let ds := (s.dops.filter fun d => d.ch == ch).map fun d => (d.tag, d.op, d.gen)
  let ts := ((s.twn.cmds ++ s.twn.heldCmds).filter fun t => t.cmd.ch == ch).map fun t => (t.cmd.tag, t.op, t.cmd.gen)
  sortBy (fun a b => decide (a.1 ≤ b.1)) (ds ++ ts)

/-- Every outstanding command of a channel ends ABORTED, in tag order. -/
def abortTags (ch : Nat) (s : State) : State :=
  let ts := openTags s ch
  let away (t : TwnCmd) : TwnCmd := if t.cmd.ch == ch then { t with cmd := { t.cmd with ch := ch + 4 } } else t
  let s := { s with
    dops := s.dops.filter fun d => d.ch != ch
    twn := { s.twn with cmds := s.twn.cmds.map away, heldCmds := s.twn.heldCmds.map away } }
  forEach ts (fun t => produce ch (respEntry t.2.1 t.1 4 0 t.2.2 [])) s

/-- WATCHDOG_EXPIRY: the cause is recorded; on the crown the channels pause until the core has restarted (MAILBOX_RESUME), and
every command outstanding ends ABORTED. Every block runs on. -/
def watchdog (h : Nat) (s : State) : State :=
  if !s.hasH h then s
  else
    let s := vput SVC_STATUS_CAUSE 5 s
    if h ≠ s.crown then s else forEach (List.range 4) abortTags (mbxPause s)

def execWatchdogExpiry (h : Nat) (s : State) : Outcome := settled (watchdog h s)

/-- TAP_RESET (R330, R425): after the edges TCK brings, the TAP controller alone is reset. -/
def execTapReset (edges : List (Bool × Bool)) (s : State) : Outcome := settled (tapReset edges s)

/-! ### Stand-alone rows (R343–R346) -/

def execAttachWaitExpiry (s : State) : Outcome := settled (attachWait s)
def execSpitBurst (s : State) : Outcome := settled (spitBurst s)
def execIdleCap (s : State) : Outcome := settled (idleCap s)
def execTestNChart (s : State) : Outcome := settled (testChart s)

end Sys2Proof.Machine
end

