-- ==== Sys2Proof/Machine/TerraceRows.lean ====
section
/-! DEFINITION. The rows of the Terrace, the Grate and the Ash map (chapter 04), each followed by what every command is followed by. -/

namespace Sys2Proof.Machine

/-- TER_EN_WRITE (R134): Writing TER_CTRL.EN 1 starts slots at the next trigger, and EN 0 starts a normal disable. -/
def execTerEnWrite (h : Nat) (value : Word) (s : State) : Outcome := settled (terEnWrite h value s)

/-- TBL_ARM (R141): Writing GRT_CTRL.TBL_ARM arms a table swap for this or the next slot's gap, or at once while TER is OFF. -/
def execTblArm (h : Nat) (s : State) : Outcome := settled (tblArm h s)

/-- TABLE_COPY_DONE (R141): The copy of the new active bank into the shadow ends and held table-port accesses act. -/
def execTableCopyDone (h : Nat) (s : State) : Outcome := settled (tableCopyDone h s)

/-- GRT_TBL_DATA_ACCESS (R141): An access to GRT_TBL_DATA reads or writes the shadow entry at INDEX and advances INDEX. -/
def execGrtTblDataAccess (h : Nat) (write : Option Word) (s : State) : Outcome := settled (grtDataAccess h write s)

/-- GRT_EN_WRITE (R432): Writing GRT_CTRL.EN enables or disables Grate decisions, a disable refused while TER runs. -/
def execGrtEnWrite (h : Nat) (value : Word) (s : State) : Outcome := settled (grtEnWrite h value s)

/-- PRIV_ARM (R139): Writing TER_PRIV_CTRL.ARM captures staged privileged values for line PRIV_LINE. -/
def execPrivArm (h : Nat) (s : State) : Outcome := settled (privArmWrite h s)

/-- ASH_UPD_PUSH (R146): Writing ASH_UPD_PUSH queues an Ash entry at its effective line or refuses it. -/
def execAshUpdPush (h column : Nat) (s : State) : Outcome := settled (ashUpdPush h column s)

/-- ASH_CTRL_FLUSH (R148): Writing ASH_CTRL.FLUSH discards every queued entry. -/
def execAshCtrlFlush (h : Nat) (s : State) : Outcome := settled (ashCtrlFlush h s)

/-- TER_DRAIN_TIMEOUT (R149): A TER drain not ended within TIME ms acts as a forced disable from the next trigger. -/
def execTerDrainTimeout (h : Nat) (s : State) : Outcome := settled (terDrainTimeout h s)

/-- TER_FORCE_OFF (R149): Writing TER_CTRL.FORCE_OFF suppresses remaining lines and goes OFF at the next trigger. -/
def execTerForceOff (h : Nat) (s : State) : Outcome := settled (terForceOff h s)

end Sys2Proof.Machine
end

