-- ==== Sys2Proof/Machine/TimeRows.lean ====
section
/-! DEFINITION. The rows of time (chapter 13), each followed by what every command is followed by. -/

namespace Sys2Proof.Machine

/-- TIM_INC_WRITE (R372): a write of TIM_INC_HI. -/
def execTimIncWrite (value : Word) (s : State) : Outcome := settled (timWrite TIM_INC_HI.word value s)

/-- TIM_SET (R373): SET written 1, the other fields as they stand. -/
def execTimSet (s : State) : Outcome := settled (timWrite 0 (s.pulse 0 0 BLK_TIM 0 3) s)

/-- TIM_ADJ (R373). -/
def execTimAdj (s : State) : Outcome := settled (timWrite 0 (s.pulse 0 0 BLK_TIM 0 4) s)

/-- TIM_UNFREEZE (R379). -/
def execTimUnfreeze (s : State) : Outcome := settled (timWrite 0 (s.pulse 0 0 BLK_TIM 0 5) s)

/-- PTP_FRAME_FORWARDED (R375): A frame is forwarded between SL0 and SL1 with residence time added to correctionField. -/
def execPtpFrameForwarded (port : Nat) (frame : List Byte) (rxNs txNs : Nat) (s : State) : Outcome :=
  settled (forwardFrame port frame rxNs txNs s)

/-- ANNOUNCE_RECEIVED (R377): The first Announce in DOMAIN selects the master. -/
def execAnnounceReceived (port : Nat) (frame : List Byte) (s : State) : Outcome := settled (announce port frame s)

/-- SYNC_RECEIVED (R377): A Sync is timestamped and answered by one Delay_Req. -/
def execSyncReceived (port : Nat) (frame : List Byte) (rxTime txTime : Nat) (s : State) : Outcome :=
  settled (sync port frame rxTime txTime s)

/-- FOLLOW_UP_RECEIVED (R378): A Follow_Up supplies the precise origin time of its Sync. -/
def execFollowUpReceived (port : Nat) (frame : List Byte) (s : State) : Outcome := settled (followUp port frame s)

/-- DELAY_RESP_RECEIVED (R378): A Delay_Resp completes an exchange and writes offset and mean path delay. -/
def execDelayRespReceived (port : Nat) (frame : List Byte) (s : State) : Outcome := settled (delayResp port frame s)

/-- MASTER_LOST (R377): No Announce for three intervals returns the ports to LISTENING. -/
def execMasterLost (s : State) : Outcome := settled (masterLost s)

/-- TIME_UNIT_CTRL_WRITE (R380). -/
def execTimeUnitCtrlWrite (n : Nat) (value : Word) (s : State) : Outcome :=
  settled (if n < 16 then timWrite (TIM_TU_CTRL n).word value s else s)

/-- TIME_UNIT_FIRE (R380): A compare unit fires, drives its target and reaches its consumers. -/
def execTimeUnitFire (n : Nat) (s : State) : Outcome := settled (tuFire n s)

/-- TIME_UNIT_CAPTURE (R380): A capture unit latches the time of a TSYNC_IN edge or line trigger. -/
def execTimeUnitCapture (n : Nat) (s : State) : Outcome := settled (tuCapture n s)

end Sys2Proof.Machine
end

