-- ==== Sys2Proof/Machine/Line.lean ====
section
/-! DEFINITION. Stages 1 to 7 of a line (R158–R160, R168, R180) and its signature (R359, R362). -/

namespace Sys2Proof.Machine

/-! ### Levels -/

/-- Level of column `x` of a line of a hearth: composed, or of a stand-alone or chart line (R202, R344, R347). -/
def lineLevel (s : State) (h : Nat) (d : LineD) (x : Nat) : Nat :=
  if d.alone then aloneLevel s h d x else tabGet (fun _ => 0) d.levels x

/-- Stage 3: the state the port will hold at the line's own trigger is ACTIVE (R160). A removal that a twin pair has still to
apply leaves the port as it was (R361). -/
def stage3 (s : State) (h p : Nat) (d : LineD) : Bool :=
  !(s.fbx h p).gone3 &&
  (portState s h p == 5 || (portState s h p == 4 && (d.line0 || d.typ == 0)) || (s.fbx h p).sched.any fun e => e.2 == 5)

/-- Stage 4: the pass mask of the next trigger's pass line lets column `x` through (R180). -/
def passOk (s : State) (h x : Nat) : Bool :=
  let n := s.fget h 0 DRT_STATUS_PASS
  s.fget h 0 DRT_CTRL_MODE != 1 ||
    bit (s.fget h 0 (DRT_PASS_MASK n)) ((x + (s.drt h).passLine * s.fget h 0 (DRT_PASS_CTRL_MSTEP n)) % 32)

/-- Levels of a port after stages 2 to 5, in ascending column order with their slot indexes, before the soft ceiling. -/
def portLevels (s : State) (h p : Nat) (d : LineD) : List (Nat × Nat) :=
  if stage3 s h p d && !(s.fbx h p).hot5 then
    (portNozzles s h p).filterMap fun e =>
      let l := lineLevel s h d e.2.toNat
      if l != 0 && passOk s h e.2.toNat then some (e.1, l) else none
  else []

/-- A table by slot index; the slots of a port come in rising or falling order by its DIR. -/
def slotTab (dir : Bool) (l : List (Nat × Nat)) : Tab Nat :=
  (if dir then l.reverse else l).foldr (fun e t => tabSet (fun _ => 0) t e.1 e.2) []

/-- Levels of a port after stage 5, and the number of levels the soft ceiling lowered (R168). -/
def portStages (s : State) (h p : Nat) (d : LineD) : Tab Nat × Nat :=
  let lv := portLevels s h p d
  let soft := (s.fbx h p).soft5
  (slotTab (activeMap s h p).dir (if soft then lv.map fun e => (e.1, min 2 e.2) else lv),
   if soft then (lv.filter fun e => decide (2 < e.2)).length else 0)

/-- Column levels of a line from the levels of its ports by slot index. -/
def columnLevels (s : State) (h : Nat) (lvs : Nat → Tab Nat) : Tab Nat :=
  let ps := below 12 fun p => !(lvs p).isEmpty
  if ps.isEmpty then []
  else levelTab (ps.foldl (fun a p =>
    let slots := (lvs p).foldl (fun t e => t.setIfInBounds e.1 e.2) (Array.replicate 4096 0)
    (portNozzles s h p).foldl (fun a e =>
      let l := slots.getD e.1 0
      if l = 0 then a else a.setIfInBounds e.2.toNat l) a) (Array.replicate columns 0))

/-! ### Signatures (R359, R362, R363) -/

/-- CRC-32C of a line's levels, packed as in the Echo. -/
def lineSignature (levels : Tab Nat) : Nat := crc32c (lineBytes levels)

/-- The active unit signs a line; eight of a hearth make a SIG frame. -/
def signSend (h l sig : Nat) (s : State) : State :=
  let buf := s.twn.sigBuf ++ [(h, l, sig)]
  let own := buf.filter fun e => e.1 == h
  if own.length < 8 then setTwn (fun x => { x with sigBuf := buf }) s
  else
    let first := (own.map fun e => e.2.1).headD 0
    twinSend 1 h (leBytes 8 first ++ (own.take 8).flatMap fun e => leBytes 4 e.2.2)
      (setTwn (fun x => { x with sigBuf := buf.filter fun e => e.1 != h }) s)

/-- A signature of the standby meets the active's of the same line, where both are there. -/
def compareOne (e : Nat × Nat × Nat) (s : State) : State :=
  match s.twn.sigPeer.find? fun q => q.1 == e.1 && q.2.1 == e.2.1 with
  | none => s
  | some q =>
    let other (y : Nat × Nat × Nat) : Bool := !(y.1 == e.1 && y.2.1 == e.2.1)
    let s := (setTwn (fun x => { x with sigOwn := x.sigOwn.filter other, sigPeer := x.sigPeer.filter other }) s).count e.1 0 TWN_SIG_CHECKED
    if q.2.2 = e.2.2 then s else diverge e.1 e.2.1 s

/-- A hearth whose first signature frame at or after its J has been compared is joined; all of them joined, the standby is in
step. -/
def joinCheck (s : State) : State :=
  let met := s.twn.joinSeen.filter fun e => s.twn.sigPeer.all fun q => q.1 != e.1 || decide (e.2 < q.2.1)
  let s := setTwn (fun x => { x with
    joinJ := x.joinJ.filter fun j => !(met.any fun e => e.1 == j.1), joinSeen := x.joinSeen.filter fun e => !met.contains e }) s
  if twnState s = 4 ∧ s.twn.aligned ∧ s.twn.joinJ = [] then
    setTwn (fun x => { x with joinRes := 1, aligned := false })
      (wraise TWN_EVENT_IN_STEP (wput TWN_STATUS_IN_STEP 1 (twnGo 5 s)))
  else s

/-- Compare every signature that both units have. -/
def compareSigs (s : State) : State := joinCheck (forEach s.twn.sigOwn compareOne s)

/-- The signature of a line after stage 7: sent by the active unit of a pair, compared by its standby. DEDUCED (log 152). -/
def signLine (h l : Nat) (lvs : Nat → Tab Nat) (s : State) : State :=
  if twnLeads s then signSend h l (lineSignature (columnLevels s h lvs)) s
  else if twnState s == 5 || (twnState s == 4 && s.twn.aligned) then
    compareSigs (setTwn (fun x => { x with sigOwn := x.sigOwn ++ [(h, l, lineSignature (columnLevels s h lvs))] }) s)
  else s

/-! ### The stages of the next line (R160) -/

/-- Firing resumes at a page line 0 once the head has cooled (R168). -/
def resumeHot (h p : Nat) (s : State) : State :=
  let x := s.fbx h p
  let s := if x.hot5 && x.cool5 then s.setFbx h p { (s.fbx h p) with hot5 := false, cool5 := false } else s
  if s.fon h p FBX_STATUS_HARD && x.cooled then
    (s.setFbx h p { (s.fbx h p) with cooled := false }).fput h p FBX_STATUS_HARD 0
  else s

/-- A port in READY to DRAINING shifts a line's levels; zeros where stage 3 passed none (R154, R161). -/
def portShift (h p : Nat) (lv : Tab Nat) (s : State) : State :=
  let st := portState s h p
  let s := if 3 ≤ st ∧ st ≤ 6 ∧ (s.fbx h p).shifting then shiftOver h p (s.ter h).cur none s else s
  let x := s.fbx h p
  let s := s.setFbx h p { x with lost := x.lostNext, lostNext := none }
  if 3 ≤ st ∧ st ≤ 6 then s.setFbx h p { (s.fbx h p) with shifting := true, shifted := lv } else s

/-- Stages 2 to 7 of the line after the current one, and the start of its shift. -/
def stageLine (h : Nat) (s : State) : State :=
  let l := (lnum s h + 1) % 2 ^ 48
  let s := forEach (List.range 12) (fun p s => effectsDue h p l s) s
  let d := (s.ter h).n1
  let s := if d.line0 then forEach (List.range 12) (resumeHot h) s else s
  let st := (List.range 12).map fun p => portStages s h p d
  let s := forEach st.zipIdx (fun e s => if e.1.2 = 0 then s else s.count h e.2 FBX_CEIL_CNT e.1.2) s
  let r := damperLine h l (st.map Prod.fst) s
  let s := forEach r.1.zipIdx (fun e s => portShift h e.2 e.1 s) r.2
  signLine h l (fun p => r.1.getD p []) s

end Sys2Proof.Machine
end

