-- ==== Sys2Proof/Machine/TwinFrames.lean ====
section
/-! DEFINITION. Twin frames (R353, R359–R367): signatures, commands, Ash pushes and port changes of the active unit, the
snapshot and the page copy of a join, hand-over, health. -/

namespace Sys2Proof.Machine

/-! ### Frames (R353) -/

def tfHearth (f : List Byte) : Nat := byteAt f 1
def tfSeq (f : List Byte) : Nat := leAt f 4 4
/-- The body of a frame. -/
def tfBody (f : List Byte) : List Byte := slice f 8 (leAt f 2 2)

/-- The frame's length and CRC are right. -/
def tfIntact (f : List Byte) : Bool :=
  let n := leAt f 2 2
  decide (n ≤ 1024) && f.length == n + 12 && crc32c (f.take (8 + n)) == leAt f (8 + n) 4

/-- The frame is the one expected next. -/
def tfGood (s : State) (f : List Byte) : Bool := tfIntact f && tfSeq f == s.twn.rxSeq

/-- A frame with a bad CRC or SEQ: counted; a unit in SYNC or STANDBY goes OUT. An intact one sets the number expected. -/
def twinFault (f : List Byte) (s : State) : State :=
  let s := wraise TWN_EVENT_FRAME_ERR (wcount TWN_FRAME_ERR s)
  goOut 4 (if tfIntact f then setTwn (fun x => { x with rxSeq := (tfSeq f + 1) % 2 ^ 32 }) s else s)

/-- A good frame of a type is taken with its hearth and body. -/
def twinTake (type : Nat) (act : Nat → List Byte → State → State) (f : List Byte) (s : State) : State :=
  if !tfGood s f then twinFault f s
  else if byteAt f 0 ≠ type then s
  else act (tfHearth f) (tfBody f) (setTwn (fun x => { x with rxSeq := (tfSeq f + 1) % 2 ^ 32 }) s)

/-- TWIN_FRAME_ERROR. DEDUCED (log 144). -/
def twinBadFrame (f : List Byte) (s : State) : State := if tfGood s f then s else twinFault f s

/-! ### Signatures (R359, R363) -/

/-- A SIG frame: eight lines of a hearth. In SYNC only lines from J on count. -/
def takeSig (h : Nat) (b : List Byte) (s : State) : State :=
  if !s.hasH h || !(twnState s == 5 || (twnState s == 4 && s.twn.aligned)) then s
  else
    let l0 := leAt b 0 8
    let j := ((s.twn.joinJ.find? fun e => e.1 == h).map Prod.snd).getD 0
    let lines := ((List.range 8).map fun k => (h, l0 + k, leAt b (8 + 4 * k) 4)).filter fun e => decide (j ≤ e.2.1)
    let first := s.twn.joinJ.any (fun e => e.1 == h) && decide (j ≤ l0) && !(s.twn.joinSeen.any fun e => e.1 == h)
    compareSigs (setTwn (fun x => { x with
      sigPeer := x.sigPeer ++ lines, joinSeen := if first then x.joinSeen ++ [(h, l0 + 7)] else x.joinSeen }) s)

/-! ### Commands (R360, R361) -/

/-- A command of the pair is due on a hearth at a line. -/
def twinDue (h l : Nat) (t : TwnCmd) : Bool := t.left.contains h && t.apply.any fun e => e.1 == h && decide (e.2 ≤ l)

/-- Line of the crown at which a command applies, 0 where it does not name the crown. -/
def crownApply (s : State) (t : TwnCmd) : Nat := ((t.apply.find? fun e => e.1 == s.crown).map Prod.snd).getD 0

/-- Status of a command that has run everywhere; one that completes later counts as ACCEPTED. -/
def twinStatus (t : TwnCmd) : Nat := if allKnown t.hs then worst t.hs else cACCEPTED

/-- A status of this unit or of the active (`peer`) meets the other's; the two must agree. -/
def resultIn (peer : Bool) (tag line st : Nat) (s : State) : State :=
  let me := 2 * tag + b2n peer
  let other := 2 * tag + b2n (!peer)
  match s.twn.results.find? fun e => e.1 == other && e.2.1 == line with
  | none => setTwn (fun x => { x with results := x.results ++ [(me, line, st)] }) s
  | some e =>
    let s := setTwn (fun x => { x with results := x.results.filter fun y => !(y.1 == other && y.2.1 == line) }) s
    if e.2.2 = st then s else goOut 4 s

/-- A command of the pair has run on every hearth it names: the unit that took it reports its status and answers it, the
standby compares. -/
def twinEnd (sp : CmdSpec) (t : TwnCmd) (s : State) : State :=
  if t.mine then
    let s := if twnLeads s then
        twinSend 3 0xFF (leBytes 1 t.cmd.tag ++ leBytes 1 t.cmd.ch ++ leBytes 1 (twinStatus t) ++ leBytes 5 0 ++ leBytes 8 (crownApply s t)) s
      else s
    conclude sp t.cmd t.hs t.pay t.note s
  else if twnFollows s then resultIn false t.cmd.tag (crownApply s t) (twinStatus t) s
  else s

/-- The command pushes Ash entries: ASH_PUSH, or a register write to the Ash block. -/
def TwnCmd.pushesAsh (t : TwnCmd) : Bool :=
  t.op == 0x0607 || (t.op == 0x0201 || t.op == 0x0202) && (regAddr (u32 t.cmd 0)).any fun a => a.blk == BLK_ASH

/-- Run the first command of the pair, among those that `p` picks, that is due on a hearth. -/
def twinRunOne (p : TwnCmd → Bool) (h l : Nat) (s : State) : State :=
  match s.twn.cmds.findIdx? fun t => p t && twinDue h l t with
  | none => s
  | some i =>
    match s.twn.cmds[i]? with
    | none => s
    | some t =>
      let s := setTwn (fun x => { x with cmds := x.cmds.eraseIdx i }) s
      match specOf t.op with
      | none => s
      | some sp =>
        let r := runAt sp t.cmd h s
        let t := { t with hs := t.hs.set h r.st, pay := t.pay ++ r.pay, note := t.note ++ r.note, left := t.left.erase h }
        if t.left.isEmpty then twinEnd sp t r.s
        else setTwn (fun x => { x with cmds := x.cmds.take i ++ [t] ++ x.cmds.drop i }) r.s

/-- Run every command of the pair, among those that `p` picks, that is due on a hearth at a line, in the order they came. -/
def twinRunIf (p : TwnCmd → Bool) (h l : Nat) (s : State) : State := forEach s.twn.cmds (fun _ s => twinRunOne p h l s) s

/-- Run every command of the pair that is due on a hearth at a line. -/
def twinRun (h l : Nat) (s : State) : State := twinRunIf (fun _ => true) h l s

/-- A CMD frame: the entry and its lines. A line that has passed on the running standby puts it OUT; a joining one runs
at once what applies before its first line. -/
def takeCmd (_ : Nat) (b : List Byte) (s : State) : State :=
  if !twnFollows s then s
  else
    let apply := ((List.range 8).map fun h => (h, leAt b (64 + 8 * h) 8)).filter fun e => s.hasH e.1 && e.2 != 0
    let hs := apply.map Prod.fst
    let c : Cmd := { ch := 4, tag := byteAt b 2, flags := byteAt b 3, len := leAt b 4 2, gen := byteAt b 7, payload := slice b 8 56 }
    let t : TwnCmd := { op := leAt b 0 2, cmd := c, mine := false, apply := apply, hs := noStat, left := hs }
    let before (h : Nat) : Bool := twnState s == 4 && !(s.twn.joinJ.any fun j => j.1 == h && decide (j.2 ≤ lnum s h))
    if apply.any (fun e => decide (e.2 ≤ lnum s e.1) && !before e.1) then goOut 4 s
    else
      let s := setTwn (fun x => { x with cmds := x.cmds ++ [t] }) s
      if s.twn.aligned then forEach hs (fun h s => twinRun h (lnum s h) s) s else s

/-- A CMD_STATUS frame: the active's status of a command. -/
def takeCmdStatus (_ : Nat) (b : List Byte) (s : State) : State :=
  if twnFollows s then resultIn true (byteAt b 0) (leAt b 8 8) (byteAt b 2) s else s

/-! ### Other inputs (R360, R361) -/

/-- An ASH frame: a push of the active's verdict. -/
def takeAsh (h : Nat) (b : List Byte) (s : State) : State :=
  if !s.hasH h || !twnFollows s then s
  else if twnState s = 5 ∧ leAt b 8 8 < lnum s h + 3 then goOut 4 s
  else (ashPush h (leAt b 0 2) (leAt b 8 8) (BitVec.ofNat 32 (leAt b 4 4)) s).1

/-- The page whose page line 0 comes next on a hearth. -/
def comingPage (s : State) (h : Nat) : Option Nat := match nextPage s h with
  | some pg => some pg
  | none => (s.ter h).queue.head?

/-- An EVENT frame: a port's change or a page's readiness at a line. -/
def takeEvent (h : Nat) (b : List Byte) (s : State) : State :=
  let p := byteAt b 0
  let kind := byteAt b 1
  let line := leAt b 8 8
  if !s.hasH h || !twnFollows s || kind == 0 || decide (9 < kind) then s
  else if kind ≤ 6 then
    if twnState s = 5 ∧ line ≤ lnum s h + 1 then goOut 4 s
    else if 12 ≤ p then s
    else s.setFbx h p { (s.fbx h p) with sched := (s.fbx h p).sched ++ [(line, kind)] }
  else if twnState s = 5 ∧ line ≤ lnum s h + 2 then goOut 4 s
  else match comingPage s h with
    | none => if kind = 7 then goOut 4 s else s
    | some pg =>
      let own := ((findPage s h pg).map ownReadiness).getD 1
      if kind = 7 ∧ own ≠ 0 then goOut 4 s else s.setTer h { (s.ter h) with verdict := some (pg, kind - 7) }

/-- A HANDOVER frame: the first gap lines at which the roles change. -/
def takeHandover (_ : Nat) (b : List Byte) (s : State) : State :=
  if twnState s ≠ 5 then s
  else
    let gs := (List.range 8).map fun h => leAt b (8 * h) 8
    if gs.getD s.crown 0 ≤ lnum s s.crown then goOut 4 s else setTwn (fun x => { x with gap := some gs }) s

/-- A JOIN_REQ frame: the active snapshots at the crown's next trigger. -/
def takeJoinReq (_ : Nat) (_ : List Byte) (s : State) : State :=
  if twnState s = 3 then
    setTwn (fun x => { x with joinReq := true, joining := false, snap := [], copyDue := [], alignDue := false }) s
  else s

/-! ### Health (R366, R367) -/

/-- The active's view of a bad standby. -/
def healthBad (s : State) : State := fwEvent s.crown 0x8C04 (wraise TWN_EVENT_HEALTH_BAD s)

/-- A HEALTH frame. -/
def takeHealth (_ : Nat) (b : List Byte) (s : State) : State :=
  if twnState s = 3 ∨ twnState s = 7 then
    let s := setTwn (fun x => { x with health := b }) s
    if leAt b 4 4 = 0 then s else healthBad s
  else s

/-- HEALTH_MISSING: no record for 3 s. -/
def healthMissing (s : State) : State := if twnState s = 3 ∨ twnState s = 7 then healthBad s else s

/-- A mask of the hearths with a non-zero number. -/
def maskOf (l : List Nat) : Nat := (l.zipIdx.map fun e => if e.1 = 0 then 0 else 2 ^ e.2).sum

/-- Counts of an interval, one per hearth, by a sticking counter. -/
def countEach (f : Fld) (l : List Nat) (s : State) : State :=
  forEach l.zipIdx (fun e s => if e.1 = 0 then s else s.count e.2 0 f e.1) s

/-- The 32-byte record from the counts of the last second by hearth (R367). DEDUCED (log 154). -/
def healthRecord (s : State) (loops drams grates fec : List Nat) : List Byte :=
  let t := ((List.range s.nH).map fun h => s.sget h 0 DRM_TEMP_V).foldl max (s.sget 0 0 DRM_TEMP_V)
  leBytes 4 s.twn.hSeq ++ leBytes 1 (maskOf loops) ++ leBytes 1 (maskOf drams) ++ leBytes 1 (maskOf grates) ++ leBytes 1 (maskOf fec)
    ++ leBytes 4 loops.sum ++ leBytes 4 drams.sum ++ leBytes 4 grates.sum ++ leBytes 4 fec.sum
    ++ leBytes 2 (ofS 16 t) ++ leBytes 1 (hearthsUp s) ++ leBytes 1 (wget s TWN_STATUS_IN_STEP) ++ leBytes 4 0

/-- HEALTH_SEND: the self-tests' errors of the last second by hearth, counted; the record is sent. The tests run in
STANDBY and OUT; the DRAM test only over a region with a size. -/
def healthSend (loops drams grates : List Nat) (s : State) : State :=
  let st := twnState s
  if st < 4 ∨ 6 < st then s
  else
    let n := s.nH
    let none := List.replicate n 0
    let loops := if st = 4 then none else loops.take n
    let drams := if st = 4 ∨ wget s TWN_ST_SIZE = 0 then none else drams.take n
    let grates := if st = 4 then none else grates.take n
    let s := countEach TWN_GRATE_ERR grates (countEach TWN_DRAM_ERR drams (countEach TWN_LOOP_ERR loops s))
    let unc := (List.range n).map fun h => s.fget h 1 LANE_FEC_UNC
    let fec := unc.zipIdx.map fun e =>
      let was := s.twn.hBase.getD e.2 0
      if was ≤ e.1 then e.1 - was else e.1
    let r := healthRecord s loops drams grates fec
    twinSend 10 0xFF r (setTwn (fun x => { x with health := r, hSeq := (x.hSeq + 1) % 2 ^ 32, hBase := unc }) s)

/-! ### The snapshot (R363) -/

/-- Mask of the RW and RWL fields of a word. -/
def rwMask (blk i w : Nat) : Word :=
  (wordFields blk i w).foldl (fun m f => if f.acc == .rw || f.acc == .rwl then m ||| fieldMask f else m) 0

/-- Words of a block that have an RW or RWL field. -/
def rwWords (blk : Nat) : List Nat :=
  ((regsOf blk).filter fun r => r.fields.any fun f => f.acc == .rw || f.acc == .rwl).flatMap fun r =>
    if r.stride = 0 then [r.word] else (List.range r.count).map fun n => r.word + n * r.stride

/-- Body of a STATE frame. DESIGN CHOICE (log 146). -/
def stateBody (blk i table w : Nat) (ws : List Nat) : List Byte :=
  leBytes 1 blk ++ leBytes 1 i ++ leBytes 1 table ++ leBytes 1 0 ++ leBytes 4 w ++ leBytes 2 ws.length ++ leBytes 2 0
    ++ ws.flatMap (leBytes 4)

/-- STATE frames of a hearth's RW and RWL words of an instance. -/
def sendWords (h blk i : Nat) (s : State) : State :=
  forEach (rwWords blk) (fun w s => twinSend 6 h (stateBody blk i 0 w [(s.rd h i blk w &&& rwMask blk i w).toNat]) s) s

/-- STATE frames of `n` table entries, 250 words to a frame. -/
def sendTable (h blk table n : Nat) (f : Nat → Nat) (s : State) : State :=
  forEach (List.range ((n + 249) / 250)) (fun k s =>
    twinSend 6 h (stateBody blk 0 table (250 * k) ((List.range (min 250 (n - 250 * k))).map fun j => f (250 * k + j))) s) s

/-- A hearth's state as it stands: registers, both table banks (1 + 5 × bank + table, bank 0 the active), the Ash map. -/
def sendState (h : Nat) (s : State) : State :=
  let s := sendWords h BLK_GRT 0 (sendWords h BLK_TER 0 s)
  let s := forEach (List.range 12) (sendWords h BLK_FBX) s
  let s := sendWords h BLK_DRT 0 (sendWords h BLK_DMP 0 s)
  let s := forEach (List.range 10) (fun k s =>
    let bank := if k < 5 then actBank s h else 1 - actBank s h
    let t := k % 5
    sendTable h BLK_GRT (1 + k) (grtLast t + 1) (fun j => tabGet dfltGrt (s.grt h bank) (65536 * t + j)) s) s
  sendTable h BLK_ASH 1 columns (fun x => (s.ash h x).toNat) s

/-- The Draught of a hearth emits triggers, or will when the count comes back. -/
def triggers (s : State) (h : Nat) : Bool := [3, 4, 6].contains (drtState s h)

/-- The crown triggers with a join asked for: S_h of every hearth; the mirror sessions are opened; a hearth that does not
trigger is sent at once. DEDUCED (log 147). -/
def snapStart (s : State) : State :=
  if !(twnState s == 3 && s.twn.joinReq) then s
  else
    let hs := List.range s.nH
    let s := setTwn (fun x => { x with
      joinReq := false, joining := true, sigBuf := [], alignDue := true, copyDue := hs
      snap := (hs.filter (triggers s)).map fun h => (h, lnum s h + twnLead s) }) s
    let s := forEach hs (fun h s =>
      if gorSess s h 1 = 0 then
        gorgeEnWrite h 1 (insertBits (insertBits (s.rd h 1 BLK_GOR 0) GOR_CTRL_ROLE.lo GOR_CTRL_ROLE.len 1) 0 1 1) s
      else s) s
    forEach (hs.filter fun h => !triggers s h) sendState (forEach (rwWords BLK_FND) (fun w s =>
      twinSend 6 0xFF (stateBody BLK_FND 0 0 w [(s.rd 0 0 BLK_FND w &&& rwMask BLK_FND 0 w).toNat]) s) s)

/-- A hearth reaches its line of the snapshot. -/
def snapAt (h : Nat) (s : State) : State :=
  if s.twn.snap.any fun e => e.1 == h && decide (e.2 ≤ lnum s h) then
    sendState h (setTwn (fun x => { x with snap := x.snap.filter fun e => e.1 != h }) s)
  else s

/-! ### The page copy (R363) -/

/-- PAGE_OPEN of a page as the Basin holds it (R54). -/
def copyOpen (epoch : Nat) (p : Page) : List Byte :=
  mkFrame 7 0 epoch 0 0 p.id p.slots.length p.lines 0 0 (p.slots.flatMap fun x =>
    leBytes 1 x.terrace ++ leBytes 1 (b2n x.lcrcValid) ++ leBytes 2 0 ++ leBytes 4 x.lcrc ++ leBytes 8 x.clen ++ leBytes 8 x.ulen ++ leBytes 8 0)

/-- DATA frames of one layer slot, 4,096 bytes to a frame, from a byte position. -/
def copyData (epoch pg sn pos : Nat) (bs : List Byte) : List (List Byte) :=
  (List.range ((bs.length + 4095) / 4096)).map fun k =>
    let o := 4096 * k
    mkFrame 4 0 epoch 0 0 pg (o % 2 ^ 32) (o / 2 ^ 32 % 65536 + 65536 * sn) ((pos + o) % 2 ^ 32) ((pos + o) / 2 ^ 32) (slice bs o 4096)

/-- Every frame of one page, from a byte position. -/
def copyPage (s : State) (h epoch pos : Nat) (p : Page) : List (List Byte) :=
  let data := p.slots.zipIdx.foldl (fun (acc : List (List Byte) × Nat) e =>
    let bs := slotBytes s h e.1
    (acc.1 ++ copyData epoch p.id e.2 acc.2 bs, acc.2 + bs.length)) ([], pos)
  copyOpen epoch p :: data.1 ++ [mkFrame 8 0 epoch 0 0 p.id p.slots.length 0 0 0 []]

/-- The pages a join copies: COMPLETE, COMMITTED or RETIRED, with layers of their own. -/
def copyable (s : State) (h : Nat) : List Page :=
  (heldPages s h).filter fun p => (p.st == .complete || p.st == .committed || p.st == .retired) && !p.slots.isEmpty

/-- The copy session of a hearth, once its mirror session is ACTIVE. DEDUCED (log 148). -/
def copyPages (h : Nat) (s : State) : State :=
  if !(s.twn.copyDue.contains h) || gorRole s h 1 != 1 || gorSess s h 1 != 3 then s
  else
    let e := s.fget h 0 GOR_STATUS_EPOCH
    let frames := (copyable s h).foldl (fun (acc : List (List Byte) × Nat) p =>
      (acc.1 ++ copyPage s h e acc.2 p, acc.2 + (p.slots.map Slot.clen).sum)) ([], 0)
    let s := setTwn (fun x => { x with copyDue := x.copyDue.filter fun g => g != h }) s
    if frames.1.isEmpty then s
    else forEach (mkFrame 1 0 e 0 0 0 0 0 (255 * 256) 4096 [] :: frames.1) (mirrorForward h) s

/-! ### ALIGN (R363) -/

/-- J of a hearth: page line 0 of the first slot that begins LEAD lines ahead or later. -/
def alignLine (s : State) (h : Nat) : Nat :=
  let d := (s.ter h).cur
  let l := lnum s h
  if d.typ = 0 then l + twnLead s
  else
    let e := l + (d.body + d.gap - d.idx)
    if l + twnLead s ≤ e then e
    else
      let n := firstLine s h (nextPage s h)
      e + n.body + n.gap

/-- Start position of the boundary that carries line `j`, in counts and 1/65,536 counts. -/
def alignStart (s : State) (h j : Nat) : Int :=
  let x := s.drt h
  let b := x.nb + (j - lnum s h - 1)
  x.start * 65536 + x.frac + ((b * ratioM s h * 65536 / ratioN s h : Nat) : Int)

/-- One hearth's part of an ALIGN frame. -/
def alignBody (s : State) (h : Nat) : List Byte :=
  if !s.hasH h then leBytes 61 0
  else
    let j := alignLine s h
    let p := alignStart s h j
    let q := (s.ter h).queue.take 8
    let pages := q ++ List.replicate (8 - q.length) 0xFFFFFFFF ++ [(nextPage s h).getD 0xFFFFFFFF]
    leBytes 8 j ++ leBytes 4 (ofS 32 (p / 65536)) ++ leBytes 2 (ofS 16 p) ++ leBytes 1 q.length ++ leBytes 1 0
      ++ pages.flatMap (leBytes 4)
      ++ pages.flatMap fun pg => leBytes 1 (((findPage s h pg).map fun p => p.st.code).getD 0)

/-- The snapshot is sent, every page copied and acknowledged: ALIGN. -/
def alignSend (s : State) : State :=
  let idle := (List.range s.nH).all fun h => (s.gor h 1).held.isEmpty && (s.gor h 1).backlog.isEmpty
  if twnState s == 3 && s.twn.joining && s.twn.alignDue && s.twn.snap.isEmpty && s.twn.copyDue.isEmpty && idle then
    twinSend 7 0xFF ((List.range 8).flatMap (alignBody s)) (setTwn (fun x => { x with alignDue := false }) s)
  else s

/-- What a trigger of a hearth does for a join on the active unit. -/
def joinSteps (h : Nat) (s : State) : State :=
  let s := if h = s.crown then snapStart s else s
  alignSend (forEach (List.range s.nH) copyPages (snapAt h s))

/-! ### The joining standby (R363) -/

/-- The enable of a block whose snapshot waits for ALIGN. DEDUCED (log 149). -/
def joinEnable (blk w : Nat) : Option Fld :=
  if w ≠ 0 then none
  else if blk = BLK_TER then some TER_CTRL_EN
  else if blk = BLK_GRT then some GRT_CTRL_EN
  else if blk = BLK_FBX then some FBX_CTRL_EN
  else if blk = BLK_DRT then some DRT_CTRL_EN
  else none

/-- Disable a block before its words are written. -/
def joinDisable (h blk i : Nat) (s : State) : State :=
  if blk = BLK_TER then (if terActive s h then terOff h 4 (s.fput h 0 TER_CTRL_EN 0) else s)
  else if blk = BLK_GRT then s.fput h 0 GRT_CTRL_EN 0
  else if blk = BLK_FBX then (if s.fon h i FBX_CTRL_EN then portForce h i s else s)
  else drtDisable h (s.fput h 0 DRT_CTRL_EN 0)

/-- One register word of the snapshot: RW and RWL fields, active and staged; an enable waits for ALIGN. -/
def stateWord (h blk i w : Nat) (v : Word) (s : State) : State :=
  let m := rwMask blk i w
  match joinEnable blk w with
  | some e =>
    let s := joinDisable h blk i s
    let s := if bits v.toNat e.lo e.len = 0 then s
      else setTwn (fun x => { x with joinEn := x.joinEn ++ [(h, blk, i, w, v)] }) s
    let v := insertBits (v &&& m) e.lo e.len 0
    if blk = BLK_FBX then putWord blk h i w v s else s.wrMask h i blk w m v
  | none =>
    if blk = BLK_FND then putWord blk h i w v s
    else
      let p := privMask blk i w
      let s := s.wrMask h i blk w m v
      if p = 0 then s else s.setStg h i blk w ((s.stg h i blk w &&& ~~~ p) ||| (v &&& p))

/-- One table word of the snapshot. -/
def stateEntry (h blk table k : Nat) (v : Word) (s : State) : State :=
  if blk = BLK_ASH then (if k < columns then s.setAsh h k v else s)
  else
    let t := (table - 1) % 5
    let bank := if table ≤ 5 then actBank s h else 1 - actBank s h
    if k ≤ grtLast t then s.setGrt h bank (tabSet dfltGrt (s.grt h bank) (65536 * t + k) (v.toNat % grtMask t)) else s

/-- A STATE frame. -/
def takeState (h : Nat) (b : List Byte) (s : State) : State :=
  let blk := byteAt b 0
  let i := byteAt b 1
  let table := byteAt b 2
  let w := leAt b 4 4
  let n := min 250 (leAt b 8 2)
  let word (k : Nat) : Word := BitVec.ofNat 32 (leAt b (12 + 4 * k) 4)
  if twnState s ≠ 4 then s
  else if table = 0 then
    if blk = BLK_FND then forEach (List.range n) (fun k s => stateWord 0 blk 0 (w + k) (word k) s) s
    else if s.hasH h && [BLK_TER, BLK_GRT, BLK_FBX, BLK_DMP, BLK_DRT].contains blk && decide (i < 12) then
      forEach (List.range n) (fun k s => stateWord h blk i (w + k) (word k) s) s
    else s
  else if s.hasH h && ((blk == BLK_GRT && decide (table ≤ 10)) || (blk == BLK_ASH && table == 1)) then
    forEach (List.range n) (fun k s => stateEntry h blk table (w + k) (word k) s) s
  else s

/-- A page state by its code. -/
def pageStOf (n : Nat) : PageSt :=
  match n with
  | 0 => .opened | 1 => .loading | 2 => .complete | 3 => .committed | 4 => .firing | 5 => .fired | 6 => .retired | _ => .gone

/-- A page of the active's queue takes its state, a committed one its descriptors. -/
def alignPage (h pg st : Nat) (s : State) : State :=
  if pg = 0xFFFFFFFF then s
  else
    let n := (s.bas h).nextComm
    let s := s.setBas h { (s.bas h) with nextComm := n + 1 }
    let ts := descriptors s h
    basRefresh h (mapPage h pg (fun q =>
      if st = 3 then { q with st := .committed, commSeq := n, terrs := ts } else { q with st := pageStOf st }) s)

/-- Ash entries due before a line apply at once. -/
def ashBefore (h j : Nat) (s : State) : State :=
  let q := (s.ter h).ashQ
  let s := forEach (q.takeWhile fun e => decide (e.2.2 < j)) (fun e s => s.setAsh h e.1 e.2.1) s
  ashShow h (s.setTer h { (s.ter h) with ashQ := q.dropWhile fun e => decide (e.2.2 < j) })

/-- One hearth's part of ALIGN: pages, queue, line number, the enables held back, the start of its Draught. -/
def alignHearth (b : List Byte) (h : Nat) (s : State) : State :=
  let o := 61 * h
  let j := leAt b o 8
  let start := toS 32 (leAt b (o + 8) 4)
  let frac := leAt b (o + 12) 2
  let qn := min 8 (byteAt b (o + 14))
  let page (k : Nat) : Nat := leAt b (o + 16 + 4 * k) 4
  let s := forEach (8 :: List.range qn) (fun k s => alignPage h (page k) (byteAt b (o + 52 + k)) s) s
  let s := queueShow h (s.setTer h { (s.ter h) with
    queue := (List.range qn).map page, scr := (List.range 4).map fun n => s.rd h 0 BLK_GRT (0x04 + n)
    lendOn := s.fon h 0 GRT_CTRL_LEND_EN, dlendOn := s.fon h 0 GRT_CTRL_DLEND_EN })
  let s := (s.fput h 0 TER_NEXT (page 8)).put64 h 0 TER_LNUM_LO ((j + 2 ^ 48 - 1) % 2 ^ 48)
  let own := s.twn.joinEn.filter fun e => e.1 == h
  let on (blk : Nat) := own.filter fun e => e.2.1 == blk
  let ports := (on BLK_FBX).map fun e => e.2.2.1
  let s := if (on BLK_GRT).isEmpty then s else putFld h 0 GRT_CTRL_EN 1 s
  let s := forEach ports (fun p s => s.fput h p FBX_CMAP_APPLY 1) s
  let s := mapCheck h s
  let s := forEach ports (fun p s => putFld h p FBX_CTRL_EN 1 s) s
  let s := if (on BLK_TER).isEmpty then s else putFld h 0 TER_CTRL_EN 1 s
  let s := ashBefore h j s
  if (on BLK_DRT).isEmpty then s
  else
    let s := putFld h 0 DRT_CTRL_EN 1 s
    let s := setTwn (fun x => { x with joinJ := x.joinJ ++ [(h, j)] }) s
    if drtState s h = 1 then armStart h start frac s else s

/-- An ALIGN frame. -/
def takeAlign (_ : Nat) (b : List Byte) (s : State) : State :=
  if twnState s ≠ 4 ∨ s.twn.aligned then s
  else
    let s := forEach (List.range s.nH) (alignHearth b) s
    let s := setTwn (fun x => { x with aligned := true, joinEn := [] }) s
    forEach (List.range s.nH) (fun h s => twinRun h (lnum s h) s) s

/-- The joining standby is about to trigger its first line: the two lines that the active had started by then are started,
and the first is shifted. -/
def joinPrestart (h : Nat) (s : State) : State :=
  if twnState s = 4 ∧ s.twn.aligned ∧ s.twn.joinJ.any (fun e => e.1 == h && e.2 == lnum s h + 1) then
    let l := lnum s h
    let s := s.setTer h { (s.ter h) with cur := {}, n1 := {}, n2 := {} }
    let s := startLine h (privApply h (l + 1) (ashApply h (l + 1) s))
    let s := s.setTer h { (s.ter h) with n1 := (s.ter h).n2 }
    let s := startLine h (privApply h (l + 2) (ashApply h (l + 2) s))
    let s := forEach (List.range 12) (fun p s =>
      s.setFbx h p { (s.fbx h p) with armedSeen := portState s h p == 4 }) s
    stageLine h s
  else s

/-! ### The rows -/

/-- TWIN_SIG_FRAME. -/
def twinSigFrame (f : List Byte) (s : State) : State := twinTake 1 takeSig f s
/-- TWIN_CMD_FRAME. -/
def twinCmdFrame (f : List Byte) (s : State) : State := twinTake 2 takeCmd f s
/-- TWIN_CMD_STATUS_FRAME. -/
def twinCmdStatusFrame (f : List Byte) (s : State) : State := twinTake 3 takeCmdStatus f s
/-- TWIN_ASH_FRAME. -/
def twinAshFrame (f : List Byte) (s : State) : State := twinTake 4 takeAsh f s
/-- TWIN_EVENT_FRAME. -/
def twinEventFrame (f : List Byte) (s : State) : State := twinTake 5 takeEvent f s
/-- TWIN_STATE_FRAME. -/
def twinStateFrame (f : List Byte) (s : State) : State := twinTake 6 takeState f s
/-- TWIN_ALIGN_FRAME. -/
def twinAlignFrame (f : List Byte) (s : State) : State := twinTake 7 takeAlign f s
/-- TWIN_HANDOVER_FRAME. -/
def twinHandoverFrame (f : List Byte) (s : State) : State := twinTake 8 takeHandover f s
/-- TWIN_JOIN_REQ_FRAME. -/
def twinJoinReqFrame (f : List Byte) (s : State) : State := twinTake 9 takeJoinReq f s
/-- TWIN_HEALTH_FRAME. -/
def twinHealthFrame (f : List Byte) (s : State) : State := twinTake 10 takeHealth f s

/-- TWIN_SIG_FRAME (R359). -/
def execTwinSigFrame (frame : List Byte) (s : State) : Outcome := settled (twinSigFrame frame s)
/-- TWIN_CMD_FRAME (R360). -/
def execTwinCmdFrame (frame : List Byte) (s : State) : Outcome := settled (twinCmdFrame frame s)
/-- TWIN_CMD_STATUS_FRAME (R359). -/
def execTwinCmdStatusFrame (frame : List Byte) (s : State) : Outcome := settled (twinCmdStatusFrame frame s)
/-- TWIN_ASH_FRAME (R360). -/
def execTwinAshFrame (frame : List Byte) (s : State) : Outcome := settled (twinAshFrame frame s)
/-- TWIN_EVENT_FRAME (R360). -/
def execTwinEventFrame (frame : List Byte) (s : State) : Outcome := settled (twinEventFrame frame s)
/-- TWIN_STATE_FRAME (R363). -/
def execTwinStateFrame (frame : List Byte) (s : State) : Outcome := settled (twinStateFrame frame s)
/-- TWIN_ALIGN_FRAME (R363). -/
def execTwinAlignFrame (frame : List Byte) (s : State) : Outcome := settled (twinAlignFrame frame s)
/-- TWIN_HANDOVER_FRAME (R364). -/
def execTwinHandoverFrame (frame : List Byte) (s : State) : Outcome := settled (twinHandoverFrame frame s)
/-- TWIN_JOIN_REQ_FRAME (R363). -/
def execTwinJoinReqFrame (frame : List Byte) (s : State) : Outcome := settled (twinJoinReqFrame frame s)
/-- TWIN_HEALTH_FRAME (R367). -/
def execTwinHealthFrame (frame : List Byte) (s : State) : Outcome := settled (twinHealthFrame frame s)
/-- TWIN_FRAME_ERROR (R353). -/
def execTwinFrameError (frame : List Byte) (s : State) : Outcome := settled (twinBadFrame frame s)
/-- HEALTH_SEND (R367). -/
def execHealthSend (loops drams grates : List Nat) (s : State) : Outcome := settled (healthSend loops drams grates s)
/-- HEALTH_MISSING (R367). -/
def execHealthMissing (s : State) : Outcome := settled (healthMissing s)

end Sys2Proof.Machine
end

