-- ==== Sys2Proof/Machine/Trigger.lean ====
section
/-! DEFINITION. The line trigger (R139, R147, R154, R158–R168, R173, R175–R182, R202, R203, R258, R344, R347, R356–R364):
what happens on a hearth when its Draught triggers a line. -/

namespace Sys2Proof.Machine

/-! ### The Draught -/

/-- A trigger is due: the period of INTERNAL, or a boundary reached in RUN 1,600 clocks after the last trigger, the count
at most REV below the mark (R174, R175, R177, R178). DESIGN CHOICE (log 63). -/
def triggerDue (s : State) (h : Nat) : Bool :=
  let x := s.drt h
  s.hasH h && (drtState s h == 6 || (drtState s h == 3 && x.pend && decide (-(s.fget h 0 DRT_CTRL_REV : Int) ≤ aboveMark s h)
    && match x.lastTrig with
      | none => true
      | some t => decide (t + 1600 ≤ x.clk)))

/-- The clock of the next trigger in INTERNAL: one DRT_INT_PERIOD after the last, below 1,600 acting as 1,600 (R174). -/
def internalDue (s : State) (h : Nat) : Nat := (s.drt h).intFrom + max 1600 (s.fget h 0 DRT_INT_PERIOD_INTERNAL)

/-- LNUM counts on; the time of the trigger; no boundary is pending (R175). In INTERNAL the trigger comes at the end of its period:
time has gone on to it (R174). DESIGN CHOICE (log 63). -/
def triggerCount (h : Nat) (s : State) : State :=
  let s := if drtState s h = 6 then clkRest h { s with now := max s.now (internalDue s h) } else s
  let x := s.drt h
  let at' := match x.lastTrig with
    | none => x.dueAt
    | some t => max x.dueAt (t + 1600)
  let s := s.setDrt h { x with pend := false, lastTrig := some (if drtState s h = 6 then x.clk else at'), intFrom := s.now }
  (s.put64 h 0 TER_LNUM_LO ((lnum s h + 1) % 2 ^ 48)).fput h 0 DRT_STATUS_PEND 0

/-! ### Ports at a trigger (R154, R161, R163) -/

/-- A strobe still high is ended, counted and reported; a draining port reaches READY. -/
def truncate (h p : Nat) (s : State) : State :=
  let n := ((List.range 4).filter (bit (s.fbx h p).strobes)).length
  let s := if n = 0 then s
    else ((s.setFbx h p { (s.fbx h p) with strobes := 0 }).count h p FBX_STB_TRUNC n).raise h p FBX_EVENT_STB_TRUNC
  if n = 0 then s else strobesEnded h p s

/-- An ARMED port enters ACTIVE at page line 0, or with TER OFF at the second trigger it is ARMED at. -/
def portArm (h p : Nat) (d : LineD) (s : State) : State :=
  let armed := portState s h p == 4
  let s := if armed && (s.fbx h p).armedSeen && (d.line0 || d.typ == 0) then portGo h p 5 s else s
  s.setFbx h p { (s.fbx h p) with armedSeen := portState s h p == 4 }

/-- Reasons of R182 that hold a port's strobes at a trigger. -/
def holds (s : State) (h p : Nat) : List Nat :=
  (if gatesInForce s = 0 then [] else [1]) ++ (if s.fon h p FBX_STATUS_HARD || (s.fbx h p).hot5 then [2] else []) ++
  (if (s.fbx h p).vbad then [3] else []) ++ (if (s.drt h).feedLate then [8] else [])

/-- An ACTIVE port latches the line shifted into it, a shift still running being completed first (R164); its phases strobe unless a
stage holds them. -/
def portFire (h p : Nat) (held : List Nat) (s : State) : State :=
  let x := s.fbx h p
  let s := if x.shifting then shiftEnd h p x.shifted s else s
  let s := (s.setFbx h p { (s.fbx h p) with latched := x.shifted }).emit
    (.latch h p (s.fget h p FBX_TIMING_LAT_W) x.shifting (s.fon h p FBX_CTRL_LAT_POL) x.shifted)
  let w (m : Nat) : Nat := x.widths.getD m 0
  let s := ((s.fput h p FBX_WIDTH01_STB0 (w 0)).fput h p FBX_WIDTH01_STB1 (w 1)).fput h p FBX_WIDTH23_STB2 (w 2)
  let s := s.fput h p FBX_WIDTH23_STB3 (w 3)
  let s := if held.contains 2 then s.count h p FBX_STOP_LINES else s
  let s := if held.contains 3 then (s.count h p FBX_VLIM_LINES).raise h p FBX_EVENT_VLIM else s
  if !held.isEmpty then s
  else
    let ms := below 4 fun m => s.fon h p (FBX_PHASE_EN m)
    let s := s.emits (ms.map fun m => .strobe h p m (s.fget h p (FBX_PHASE_DELAY m)) (w m) (s.fon h p FBX_CTRL_STB_POL))
    s.setFbx h p { (s.fbx h p) with strobes := (ms.map fun m => 2 ^ m).sum }

/-- The marks of a body line, reason by reason in the order of R182, ports in order. DEDUCED (log 57). -/
def markLine (h : Nat) (d : LineD) (held : List (Nat × List Nat)) (s : State) : State :=
  match d.page with
  | none => s
  | some pg =>
    if !(d.typ == 1 && d.inBody) then s
    else forEach [1, 2, 3, 5, 8] (fun why s =>
      forEach held (fun e s =>
        if e.2.contains why && covers s h e.1 then markReason h pg why (if why = 1 ∨ why = 8 then 0xF else e.1) s else s) s) s

/-- Every ACTIVE port latches and strobes line `k`; marks, counters and the Echo follow (R160, R203). `pos` is the web line. -/
def fireLine (h pos : Nat) (s : State) : State :=
  let d := (s.ter h).cur
  let ps := below 12 fun p => portState s h p == 5
  let held := ps.map fun p => (p, holds s h p)
  let s := forEach held (fun e s => portFire h e.1 e.2 s) s
  let s := if held.any fun e => e.2.contains 1 then s.count 0 0 FND_GATED_LINES else s
  let s := markLine h d (held.map fun e => (e.1, if (s.fbx h e.1).under then 5 :: e.2 else e.2)) s
  let s := forEach ps (fun p s => s.setFbx h p { (s.fbx h p) with under := false }) s
  let fired (p : Nat) : Tab Nat := match held.find? fun e => e.1 == p with
    | some (_, []) => (s.fbx h p).latched
    | _ => []
  let page := if d.typ = 1 ∧ d.inBody then d.page else none
  let bad := ((page.bind (findPage s h)).map Page.defective).getD false
  echoWrite h pos (columnLevels s h fired) page (if page.isSome then d.idx else 0) d.inBody bad s

/-- A dark hearth of a unit in SWITCHING (R356, R357): its line is lost unless it was shifted after the clear; the first line
fired ends SWITCHING. -/
def triggerFire (h pos : Nat) (s : State) : State :=
  if !s.twn.dark.contains h then fireLine h pos s
  else if s.twn.relit.contains h then
    switchEnd h (lnum s h) (fireLine h pos (setTwn (fun x => { x with
      dark := x.dark.filter fun g => g != h, relit := x.relit.filter fun g => g != h }) s))
  else lineLost h (lnum s h) (s.ter h).cur pos s

/-- Stages and shift of the next line; a dark hearth shifts only once the clear is done. -/
def triggerStage (h : Nat) (s : State) : State :=
  let s := stageLine h s
  if !s.twn.dark.contains h then s
  else if s.twn.cleared then setTwn (fun x => { x with relit := h :: x.relit.filter fun g => g != h }) s
  else forEach (List.range 12) (fun p s => s.setFbx h p { (s.fbx h p) with shifting := false, shifted := [] }) s

/-! ### Scanning (R180, R181) -/

/-- A trigger of a pass: the next pass line, or the end of the pass, its feed and the next arm. -/
def passStep (h : Nat) (s : State) : State :=
  if s.fget h 0 DRT_CTRL_MODE ≠ 1 ∨ drtState s h ≠ 3 then s
  else
    let n := s.fget h 0 DRT_STATUS_PASS
    let x := s.drt h
    let s := s.setDrt h { x with passLine := x.passLine + 1 }
    if x.passLine + 1 < s.fget h 0 (DRT_PASS_CTRL_LINES n) then s
    else
      let s := s.raise h 0 DRT_EVENT_PASS_END
      let s := feedRequest h (s.fget h 0 DRT_SCAN_FEED_AX) (toS 24 (s.fget h 0 (DRT_PASS_FEED_FEED n))) s
      armPass h (if s.fon h 0 (DRT_PASS_CTRL_END n) then s.fget h 0 DRT_SCAN_LOOP_TO else (n + 1) % 64) s

/-! ### Slot points -/

/-- The last body line of a page has fired: the page ends with its strobes (R165). -/
def bodyEnd (h : Nat) (s : State) : State :=
  let d := (s.ter h).cur
  if d.typ = 1 ∧ d.idx + 1 = d.body then endingCheck h (s.setTer h { (s.ter h) with ending := d.page }) else s

/-- A calibration of the strands waits for the first gap line; a line of the geometry chart is noted. -/
def slotExtras (h pos : Nat) (s : State) : State :=
  let d := (s.ter h).cur
  let s := if d.typ != 0 && d.idx == d.body then calAtGap h s else s
  if d.typ == 3 && d.alone then geoFired h pos s else s

/-- The last stand-alone line of a hearth has fired: its Draught stops; the last hearth ends the burst or the chart (R344,
R347). -/
def aloneLineEnd (h : Nat) (s : State) : State :=
  let x := s.ter h
  if !(x.cur.alone && x.cur.typ == 0) || x.n1.alone || x.n2.alone || x.alone.2.2 != 0 then s
  else
    let s := putFld h 0 DRT_CTRL_EN 0 (s.setTer h { x with alone := (0, 0, 0) })
    if aloneRuns s then s else aloneEnded { s with alone := { s.alone with chart := false } }

/-- Readiness of the next page, LEAD lines before its line 0, decided by the active unit for both (R361). DEDUCED (log 151). -/
def readinessAhead (h : Nat) (s : State) : State :=
  let d := (s.ter h).cur
  let dist := d.body + d.gap - d.idx
  if !twnLeads s || d.typ == 0 || decide (twnLead s < dist) then s
  else match nextPage s h with
    | none => s
    | some pg =>
      if (s.ter h).verdict.any fun v => v.1 == pg then s
      else
        let o := ((findPage s h pg).map ownReadiness).getD 1
        twinEvent h 0 (7 + o) (lnum s h + dist) (s.setTer h { (s.ter h) with verdict := some (pg, o) })

/-- A slot has begun: the agreed readiness is spent. -/
def verdictSpent (h : Nat) (s : State) : State :=
  let x := s.ter h
  if x.cur.typ != 0 && x.cur.idx == 0 then s.setTer h { x with verdict := none } else s

/-- The roles of a pair change hands at the crown's gap line (R364). -/
def handoverAt (h : Nat) (s : State) : State :=
  match s.twn.gap with
  | none => s
  | some gs => if h = s.crown ∧ gs.getD h 0 ≤ lnum s h then handoverReached s else s

/-! ### The trigger -/

/-- What the trigger that sets LNUM to k does, in order: commands of the pair due on line k, which act before the trigger but for Ash
pushes, which count as after its line start (R150); strobes still high end; line k
is reached; ports fire it; the pass, the slot's points and the pair go on; line k + 1 is staged and shifted; line k + 2 is
started with the Ash entries and privileged values that govern it. -/
def lineTrigger (h : Nat) (s : State) : State :=
  if !triggerDue s h then s
  else
    let pos := (s.drt h).nb
    let s := joinPrestart h s
    let s := triggerCount h (twinRunIf (fun t => !t.pushesAsh) h ((lnum s h + 1) % 2 ^ 48) s)
    let s := if lnum s h % 256 = 0 then snsEvent h 0 0 s else s
    let s := endingCheck h (forEach (List.range 12) (truncate h) s)
    let s := verdictSpent h (terAdvance h s)
    let s := s.setDrt h { (s.drt h) with nb := (pos + 1) % 2 ^ 32 }
    let d := (s.ter h).cur
    let s := forEach (List.range 12) (fun p s => portArm h p d s) s
    let s := triggerFire h pos s
    let s := slotExtras h pos (bodyEnd h (passStep h s))
    let s := handoverAt h (aloneLineEnd h s)
    let s := joinSteps h (readinessAhead h s)
    let s := triggerStage h s
    twinRunIf TwnCmd.pushesAsh h (lnum s h) (startLine h (privApply h (lnum s h + 2) (ashApply h (lnum s h + 2) s)))

/-- LINE_TRIGGER (R175). -/
def execLineTrigger (h : Nat) (s : State) : Outcome := settled (lineTrigger h s)

end Sys2Proof.Machine
end

