-- ==== Sys2Proof/Machine/TwinCtlRows.lean ====
section
/-! DEFINITION. The rows of the twin block (chapter 12), each followed by what every command is followed by. -/

namespace Sys2Proof.Machine

/-- HEARTBEAT_SEND (R352): Every PERIOD µs the crown sends a /TH/ heartbeat. -/
def execHeartbeatSend (s : State) : Outcome := settled (heartbeatSend s)

/-- HEARTBEAT_RECEIVED (R352): A good peer heartbeat updates peer state, returning a lost peer and deciding races. -/
def execHeartbeatReceived (beat : Nat) (s : State) : Outcome := settled (heartbeatReceived beat s)

/-- HEARTBEAT_MISSED (R352): A missing or bad heartbeat is counted and MISS in a row loses the peer. -/
def execHeartbeatMissed (s : State) : Outcome := settled (heartbeatMissed s)

/-- SIG_TIMEOUT (R359): in step or comparing, the standby goes OUT. -/
def execSigTimeout (s : State) : Outcome := settled (if twnState s == 5 || s.twn.aligned then goOut 0x31 s else s)

/-- JOIN_TIMEOUT (R363). -/
def execJoinTimeout (s : State) : Outcome := settled (if twnState s = 4 then goOut 0x31 s else s)

/-- HOLD_N_RELEASED (R356): HOLD_N released for 1 µs makes a standby in step seize and start switching. -/
def execHoldNReleased (s : State) : Outcome := settled (holdReleased s)

/-- HOLD_SEIZE (R355): HOLD_N released for 2 or 4 heartbeat timeouts makes a waiting unit seize it. -/
def execHoldSeize (s : State) : Outcome := settled (holdSeize s)

/-- SWITCH_CLEAR_DONE (R356): The zero shift and latch that clear the heads end and normal shifting resumes. -/
def execSwitchClearDone (s : State) : Outcome := settled (switchClear s)

/-- TWN_EN_WRITE (R354): Writing TWN_CTRL.EN 1 enters WAIT, and EN 0 starts a normal leave. -/
def execTwnEnWrite (value : Word) (s : State) : Outcome := settled (twnWrite s.crown 0 value false s)

/-- TWN_JOIN_WRITE (R363): Writing TWN_CTRL.JOIN sends JOIN_REQ and enters SYNC. -/
def execTwnJoinWrite (s : State) : Outcome :=
  settled (twnWrite s.crown 0 (s.pulse s.crown 0 BLK_TWN 0 3) false s)

/-- TWN_SWITCH_BACK_WRITE (R364): Writing TWN_CTRL.SWITCH_BACK asks the active to hand over. -/
def execTwnSwitchBackWrite (s : State) : Outcome :=
  settled (twnWrite s.crown 0 (s.pulse s.crown 0 BLK_TWN 0 4) false s)

/-- TWN_FORCE_OFF (R365): Writing TWN_CTRL.FORCE_OFF ends the role at once and releases HOLD_N on the active. -/
def execTwnForceOff (s : State) : Outcome :=
  settled (twnWrite s.crown 0 (s.pulse s.crown 0 BLK_TWN 0 1) false s)

/-- HANDOVER_TIMEOUT (R365): the unit stays in OFF holding the heads. -/
def execHandoverTimeout (s : State) : Outcome := settled (if twnState s = 7 then twnOff 4 s else s)

end Sys2Proof.Machine
end

