-- ==== Sys2Proof/Machine/UpdateRows.lean ====
section
/-! DEFINITION. The rows of field update (chapter 14), each followed by what every command is followed by. -/

namespace Sys2Proof.Machine

/-- SVC_STATUS (R397): Returns the 16-byte service status record. -/
def execSvcStatus (s : State) : Outcome :=
  let s := svcFrame s
  settled (s.emit (.svc (svcRecord s (!s.boot.inReset))))

/-- STAGE_OPEN (R396): Empties patch staging for a file of LEN bytes. -/
def execStageOpen (len : Nat) (s : State) : Outcome := settled (svcOp (stageOpen len) s)

/-- STAGE_WRITE (R396): Programs one staging block after its CRC check. -/
def execStageWrite (index : Nat) (data : List Byte) (crc : Nat) (s : State) : Outcome := settled (svcOp (stageWrite index data crc) s)

/-- SVC_APPLY (R398): Checks and applies the staged patch into the inactive slot. -/
def execSvcApply (s : State) : Outcome := settled (svcOp svcApply s)

/-- PATCH_APPLY_DONE (R398): The journaled patch build completes and the slot is verified. -/
def execPatchApplyDone (s : State) : Outcome := settled (patchDone s)

/-- SVC_ABORT (R396): Discards an incomplete patch. -/
def execSvcAbort (s : State) : Outcome := settled (svcAbort s)

/-- SVC_ACTIVATE (R396): Verifies and activates a component slot. -/
def execSvcActivate (comp slot : Nat) (s : State) : Outcome := settled (svcOp (activate comp slot none) s)

/-- COMPONENT_SWAP (R400): A newly activated component replaces the running copy when its condition is met. -/
def execComponentSwap (comp : Nat) (s : State) : Outcome := settled (swapRow comp s)

/-- COMPONENT_SWAP_TIMEOUT (R400): Camera microcode not swapped within 1 s ends TIMEOUT. -/
def execComponentSwapTimeout (s : State) : Outcome := settled (swapTimeout s)

end Sys2Proof.Machine
end

