-- ==== Sys2Proof/Machine/Dispatch.lean ====
section
/-! DEFINITION. One arm per command. -/

namespace Sys2Proof.Machine

def exec (i : Instr) (s : State) : Host.Outcome State Fault Refusal :=
  match i with
  | .registerWrite addr value => Sys2Proof.Machine.execRegisterWrite addr value s
  | .rcRead addr => Sys2Proof.Machine.execRcRead addr s
  | .loHalfRead addr => Sys2Proof.Machine.execLoHalfRead addr s
  | .eventEnableWrite addr value => Sys2Proof.Machine.execEventEnableWrite addr value s
  | .laneEnWrite h l value => Sys2Proof.Machine.execLaneEnWrite h l value s
  | .signalDetected h l => Sys2Proof.Machine.execSignalDetected h l s
  | .cdrLocked h l => Sys2Proof.Machine.execCdrLocked h l s
  | .fomPeriod h l fom => Sys2Proof.Machine.execFomPeriod h l fom s
  | .lowFomDegraded h l => Sys2Proof.Machine.execLowFomDegraded h l s
  | .recentreDone h l => Sys2Proof.Machine.execRecentreDone h l s
  | .adaptUnitReceived h l unit => Sys2Proof.Machine.execAdaptUnitReceived h l unit s
  | .codewordReceived h l levels => Sys2Proof.Machine.execCodewordReceived h l levels s
  | .alignmentCodewordReceived h l levels => Sys2Proof.Machine.execAlignmentCodewordReceived h l levels s
  | .alignmentCodewordSent h l => Sys2Proof.Machine.execAlignmentCodewordSent h l s
  | .codeGroupReceived h l group => Sys2Proof.Machine.execCodeGroupReceived h l group s
  | .saddleSyncAcquired h l => Sys2Proof.Machine.execSaddleSyncAcquired h l s
  | .autonegComplete h l fullDuplex => Sys2Proof.Machine.execAutonegComplete h l fullDuplex s
  | .autonegRestart h l => Sys2Proof.Machine.execAutonegRestart h l s
  | .signalLost h l => Sys2Proof.Machine.execSignalLost h l s
  | .cdrLockLost h l => Sys2Proof.Machine.execCdrLockLost h l s
  | .alignmentLost h l => Sys2Proof.Machine.execAlignmentLost h l s
  | .saddleSyncLost h l => Sys2Proof.Machine.execSaddleSyncLost h l s
  | .bringupTimeout h l => Sys2Proof.Machine.execBringupTimeout h l s
  | .failRetry h l => Sys2Proof.Machine.execFailRetry h l s
  | .prbsEnableWrite h l value => Sys2Proof.Machine.execPrbsEnableWrite h l value s
  | .prbsCheckerLock h l line => Sys2Proof.Machine.execPrbsCheckerLock h l line s
  | .prbsLockLost h l line => Sys2Proof.Machine.execPrbsLockLost h l line s
  | .chkReseed h l => Sys2Proof.Machine.execChkReseed h l s
  | .injOne h l => Sys2Proof.Machine.execInjOne h l s
  | .injRateInjection h l => Sys2Proof.Machine.execInjRateInjection h l s
  | .loopbackChange h l value => Sys2Proof.Machine.execLoopbackChange h l value s
  | .gorgeBadFrame h k frame errored truncated => Sys2Proof.Machine.execGorgeBadFrame h k frame errored truncated s
  | .helloReceived h k frame => Sys2Proof.Machine.execHelloReceived h k frame s
  | .helloAckReceived h k frame => Sys2Proof.Machine.execHelloAckReceived h k frame s
  | .helloResend h => Sys2Proof.Machine.execHelloResend h s
  | .sequencedFrameReceived h k frame => Sys2Proof.Machine.execSequencedFrameReceived h k frame s
  | .ackReceived h k frame => Sys2Proof.Machine.execAckReceived h k frame s
  | .nakReceived h k frame => Sys2Proof.Machine.execNakReceived h k frame s
  | .creditReceived h k frame => Sys2Proof.Machine.execCreditReceived h k frame s
  | .keepaliveReceived h k frame => Sys2Proof.Machine.execKeepaliveReceived h k frame s
  | .byeAbortReceived h k frame => Sys2Proof.Machine.execByeAbortReceived h k frame s
  | .errorFrameReceived h k frame => Sys2Proof.Machine.execErrorFrameReceived h k frame s
  | .gorgeProtocolError h k frame => Sys2Proof.Machine.execGorgeProtocolError h k frame s
  | .ackDelayExpiry h k => Sys2Proof.Machine.execAckDelayExpiry h k s
  | .creditStep h k => Sys2Proof.Machine.execCreditStep h k s
  | .keepaliveInterval h k => Sys2Proof.Machine.execKeepaliveInterval h k s
  | .peerDead h k => Sys2Proof.Machine.execPeerDead h k s
  | .retxTimeout h => Sys2Proof.Machine.execRetxTimeout h s
  | .gorgeEnWrite h k value => Sys2Proof.Machine.execGorgeEnWrite h k value s
  | .gorgeDrainTimeout h k => Sys2Proof.Machine.execGorgeDrainTimeout h k s
  | .gorgeForceOff h k => Sys2Proof.Machine.execGorgeForceOff h k s
  | .basinEnWrite h value => Sys2Proof.Machine.execBasinEnWrite h value s
  | .pageOpenResumed h => Sys2Proof.Machine.execPageOpenResumed h s
  | .pageRetire h page => Sys2Proof.Machine.execPageRetire h page s
  | .pageRelease h page => Sys2Proof.Machine.execPageRelease h page s
  | .decodeJobStart h d => Sys2Proof.Machine.execDecodeJobStart h d s
  | .decodeJobDone h d => Sys2Proof.Machine.execDecodeJobDone h d s
  | .decodeJobFail h d => Sys2Proof.Machine.execDecodeJobFail h d s
  | .encodeRequest h src len rowBytes dst size => Sys2Proof.Machine.execEncodeRequest h src len rowBytes dst size s
  | .encodeDone h => Sys2Proof.Machine.execEncodeDone h s
  | .cinderEnWrite h d value => Sys2Proof.Machine.execCinderEnWrite h d value s
  | .cinderDrainTimeout h d => Sys2Proof.Machine.execCinderDrainTimeout h d s
  | .cinderForceOff h d => Sys2Proof.Machine.execCinderForceOff h d s
  | .terEnWrite h value => Sys2Proof.Machine.execTerEnWrite h value s
  | .lineTrigger h => Sys2Proof.Machine.execLineTrigger h s
  | .strobeEnd h p m => Sys2Proof.Machine.execStrobeEnd h p m s
  | .shiftDone h p sent => Sys2Proof.Machine.execShiftDone h p sent s
  | .vheadSample h p code => Sys2Proof.Machine.execVheadSample h p code s
  | .tempSample h p code => Sys2Proof.Machine.execTempSample h p code s
  | .tblArm h => Sys2Proof.Machine.execTblArm h s
  | .tableCopyDone h => Sys2Proof.Machine.execTableCopyDone h s
  | .grtTblDataAccess h write => Sys2Proof.Machine.execGrtTblDataAccess h write s
  | .grtEnWrite h value => Sys2Proof.Machine.execGrtEnWrite h value s
  | .privArm h => Sys2Proof.Machine.execPrivArm h s
  | .ashUpdPush h column => Sys2Proof.Machine.execAshUpdPush h column s
  | .ashCtrlFlush h => Sys2Proof.Machine.execAshCtrlFlush h s
  | .terDrainTimeout h => Sys2Proof.Machine.execTerDrainTimeout h s
  | .terForceOff h => Sys2Proof.Machine.execTerForceOff h s
  | .headPresent h p => Sys2Proof.Machine.execHeadPresent h p s
  | .fbxPwrWrite h p value => Sys2Proof.Machine.execFbxPwrWrite h p value s
  | .headSettled h p sns idCode => Sys2Proof.Machine.execHeadSettled h p sns idCode s
  | .fbxEnWrite h p value => Sys2Proof.Machine.execFbxEnWrite h p value s
  | .fbxForceOff h p => Sys2Proof.Machine.execFbxForceOff h p s
  | .headRemoved h p => Sys2Proof.Machine.execHeadRemoved h p s
  | .cmapApply h p => Sys2Proof.Machine.execCmapApply h p s
  | .cmapCheck h => Sys2Proof.Machine.execCmapCheck h s
  | .fbxHeadWrite h p value => Sys2Proof.Machine.execFbxHeadWrite h p value s
  | .damperBinEnd h => Sys2Proof.Machine.execDamperBinEnd h s
  | .fenderAssert gate => Sys2Proof.Machine.execFenderAssert gate s
  | .fenderRelease gate => Sys2Proof.Machine.execFenderRelease gate s
  | .fenderLatchClear value => Sys2Proof.Machine.execFenderLatchClear value s
  | .fndEnWrite value => Sys2Proof.Machine.execFndEnWrite value s
  | .drtLoopUpdate h => Sys2Proof.Machine.execDrtLoopUpdate h s
  | .drtEnWrite h value => Sys2Proof.Machine.execDrtEnWrite h value s
  | .startArm h => Sys2Proof.Machine.execStartArm h s
  | .startReached h => Sys2Proof.Machine.execStartReached h s
  | .drtReverse h => Sys2Proof.Machine.execDrtReverse h s
  | .drtResumed h => Sys2Proof.Machine.execDrtResumed h s
  | .drtResume h => Sys2Proof.Machine.execDrtResume h s
  | .csiPacketReceived h c packet => Sys2Proof.Machine.execCsiPacketReceived h c packet s
  | .frameTimeout h c => Sys2Proof.Machine.execFrameTimeout h c s
  | .cameraLinkDown h c => Sys2Proof.Machine.execCameraLinkDown h c s
  | .cameraTrigger h c => Sys2Proof.Machine.execCameraTrigger h c s
  | .pipelineLineTaken h => Sys2Proof.Machine.execPipelineLineTaken h s
  | .verdictReceived h msg => Sys2Proof.Machine.execVerdictReceived h msg s
  | .watermarkReceived h msg => Sys2Proof.Machine.execWatermarkReceived h msg s
  | .inspectionCloseTimeout h page => Sys2Proof.Machine.execInspectionCloseTimeout h page s
  | .i2cTransferDone h c result read => Sys2Proof.Machine.execI2cTransferDone h c result read s
  | .camEnWrite h c value => Sys2Proof.Machine.execCamEnWrite h c value s
  | .camDrainTimeout h c => Sys2Proof.Machine.execCamDrainTimeout h c s
  | .camForceOff h c => Sys2Proof.Machine.execCamForceOff h c s
  | .ispEnWrite h value => Sys2Proof.Machine.execIspEnWrite h value s
  | .ispForceOff h => Sys2Proof.Machine.execIspForceOff h s
  | .ispDlutDataAccess h write => Sys2Proof.Machine.execIspDlutDataAccess h write s
  | .quadTransition h c a b z => Sys2Proof.Machine.execQuadTransition h c a b z s
  | .indexPulse h c => Sys2Proof.Machine.execIndexPulse h c s
  | .wireDisagree h c wire on => Sys2Proof.Machine.execWireDisagree h c wire on s
  | .speedWindowEnd h c => Sys2Proof.Machine.execSpeedWindowEnd h c s
  | .hallStateChange h k state => Sys2Proof.Machine.execHallStateChange h k state s
  | .clrFault h c => Sys2Proof.Machine.execClrFault h c s
  | .fbkQuadEnWrite h c value => Sys2Proof.Machine.execFbkQuadEnWrite h c value s
  | .ssiFrameStart h k dat => Sys2Proof.Machine.execSsiFrameStart h k dat s
  | .ssiFrameDone h k raw => Sys2Proof.Machine.execSsiFrameDone h k raw s
  | .axisStep axis => Sys2Proof.Machine.execAxisStep axis s
  | .profileTick axis => Sys2Proof.Machine.execProfileTick axis s
  | .phaseFrameSent axis => Sys2Proof.Machine.execPhaseFrameSent axis s
  | .motQPush axis value => Sys2Proof.Machine.execMotQPush axis value s
  | .standstill axis => Sys2Proof.Machine.execStandstill axis s
  | .wakeDelayEnd axis => Sys2Proof.Machine.execWakeDelayEnd axis s
  | .switchDebounceEnd axis sw level edgePos => Sys2Proof.Machine.execSwitchDebounceEnd axis sw level edgePos s
  | .motHomeWrite axis => Sys2Proof.Machine.execMotHomeWrite axis s
  | .motStopWrite axis => Sys2Proof.Machine.execMotStopWrite axis s
  | .motClrWrite axis => Sys2Proof.Machine.execMotClrWrite axis s
  | .motEnWrite axis value => Sys2Proof.Machine.execMotEnWrite axis value s
  | .motDrainTimeout axis => Sys2Proof.Machine.execMotDrainTimeout axis s
  | .motForceOff axis => Sys2Proof.Machine.execMotForceOff axis s
  | .flitCrcError h link => Sys2Proof.Machine.execFlitCrcError h link s
  | .chimneyLinkUp h link => Sys2Proof.Machine.execChimneyLinkUp h link s
  | .chimneyPacketSent h output arrivals ecc => Sys2Proof.Machine.execChimneyPacketSent h output arrivals ecc s
  | .dramTrainingDone h failMask => Sys2Proof.Machine.execDramTrainingDone h failMask s
  | .retrainDue h ch ok temp delays => Sys2Proof.Machine.execRetrainDue h ch ok temp delays s
  | .refreshDue h ch bank fWaiting => Sys2Proof.Machine.execRefreshDue h ch bank fWaiting s
  | .neighbourRefresh h addr fWaiting => Sys2Proof.Machine.execNeighbourRefresh h addr fWaiting s
  | .fReadReturn h ch ns ecc col cols => Sys2Proof.Machine.execFReadReturn h ch ns ecc col cols s
  | .qspiWrite addr words => Sys2Proof.Machine.execQspiWrite addr words s
  | .qspiRead addr count late => Sys2Proof.Machine.execQspiRead addr count late s
  | .qspiStatus => Sys2Proof.Machine.execQspiStatus s
  | .qspiId => Sys2Proof.Machine.execQspiId s
  | .qspiUnknownOpcode opcode => Sys2Proof.Machine.execQspiUnknownOpcode opcode s
  | .qspiCsRise => Sys2Proof.Machine.execQspiCsRise s
  | .postedWriteApply => Sys2Proof.Machine.execPostedWriteApply s
  | .cmdPiWrite ch value => Sys2Proof.Machine.execCmdPiWrite ch value s
  | .rspCiWrite ch value => Sys2Proof.Machine.execRspCiWrite ch value s
  | .mailboxCommandTaken ch => Sys2Proof.Machine.execMailboxCommandTaken ch s
  | .responseWritten ch => Sys2Proof.Machine.execResponseWritten ch s
  | .doorbellPush ch => Sys2Proof.Machine.execDoorbellPush ch s
  | .mailboxPause => Sys2Proof.Machine.execMailboxPause s
  | .mailboxResume => Sys2Proof.Machine.execMailboxResume s
  | .mbxEnWrite ch value => Sys2Proof.Machine.execMbxEnWrite ch value s
  | .mbxDrainTimeout ch => Sys2Proof.Machine.execMbxDrainTimeout ch s
  | .mbxForceOff ch => Sys2Proof.Machine.execMbxForceOff ch s
  | .udpHello frame => Sys2Proof.Machine.execUdpHello frame s
  | .udpRequest frame => Sys2Proof.Machine.execUdpRequest frame s
  | .udpRack frame => Sys2Proof.Machine.execUdpRack frame s
  | .udpReject frame => Sys2Proof.Machine.execUdpReject frame s
  | .responseRetransmit ch rseq => Sys2Proof.Machine.execResponseRetransmit ch rseq s
  | .arpReceived frame => Sys2Proof.Machine.execArpReceived frame s
  | .icmpEchoReceived frame => Sys2Proof.Machine.execIcmpEchoReceived frame s
  | .fluePush h q value => Sys2Proof.Machine.execFluePush h q value s
  | .fluePop h q upset => Sys2Proof.Machine.execFluePop h q upset s
  | .flueFlush h value => Sys2Proof.Machine.execFlueFlush h value s
  | .flueCfgWrite h q value => Sys2Proof.Machine.execFlueCfgWrite h q value s
  | .flueStale h q => Sys2Proof.Machine.execFlueStale h q s
  | .sysInfo c => Sys2Proof.Machine.execSysInfo c s
  | .sysAttach c => Sys2Proof.Machine.execSysAttach c s
  | .sysDetach c => Sys2Proof.Machine.execSysDetach c s
  | .sysStatus c => Sys2Proof.Machine.execSysStatus c s
  | .sysReset c => Sys2Proof.Machine.execSysReset c s
  | .sysConfigLoad c => Sys2Proof.Machine.execSysConfigLoad c s
  | .sysNop c => Sys2Proof.Machine.execSysNop c s
  | .regRead c => Sys2Proof.Machine.execRegRead c s
  | .regWrite c => Sys2Proof.Machine.execRegWrite c s
  | .regModify c => Sys2Proof.Machine.execRegModify c s
  | .regPoll c => Sys2Proof.Machine.execRegPoll c s
  | .linkStatus c => Sys2Proof.Machine.execLinkStatus c s
  | .linkUp c => Sys2Proof.Machine.execLinkUp c s
  | .linkDown c => Sys2Proof.Machine.execLinkDown c s
  | .linkEq c => Sys2Proof.Machine.execLinkEq c s
  | .linkPrbs c => Sys2Proof.Machine.execLinkPrbs c s
  | .gorgeOn c => Sys2Proof.Machine.execGorgeOn c s
  | .gorgeOff c => Sys2Proof.Machine.execGorgeOff c s
  | .gorgeStatus c => Sys2Proof.Machine.execGorgeStatus c s
  | .gorgeRewind c => Sys2Proof.Machine.execGorgeRewind c s
  | .pageQuery c => Sys2Proof.Machine.execPageQuery c s
  | .pageCommit c => Sys2Proof.Machine.execPageCommit c s
  | .pageReprint c => Sys2Proof.Machine.execPageReprint c s
  | .pageReleaseCmd c => Sys2Proof.Machine.execPageReleaseCmd c s
  | .pageAbort c => Sys2Proof.Machine.execPageAbort c s
  | .pageWithdraw c => Sys2Proof.Machine.execPageWithdraw c s
  | .pageDeclare c => Sys2Proof.Machine.execPageDeclare c s
  | .pageWait c => Sys2Proof.Machine.execPageWait c s
  | .pageList c => Sys2Proof.Machine.execPageList c s
  | .pageBasin c => Sys2Proof.Machine.execPageBasin c s
  | .pageBasinSet c => Sys2Proof.Machine.execPageBasinSet c s
  | .pageRetain c => Sys2Proof.Machine.execPageRetain c s
  | .layerSet c => Sys2Proof.Machine.execLayerSet c s
  | .layerGet c => Sys2Proof.Machine.execLayerGet c s
  | .layerRoute c => Sys2Proof.Machine.execLayerRoute c s
  | .layerSlot c => Sys2Proof.Machine.execLayerSlot c s
  | .layerOn c => Sys2Proof.Machine.execLayerOn c s
  | .layerOff c => Sys2Proof.Machine.execLayerOff c s
  | .layerPrivArm c => Sys2Proof.Machine.execLayerPrivArm c s
  | .layerAdopt c => Sys2Proof.Machine.execLayerAdopt c s
  | .layerFree c => Sys2Proof.Machine.execLayerFree c s
  | .layerLbs c => Sys2Proof.Machine.execLayerLbs c s
  | .layerReadback c => Sys2Proof.Machine.execLayerReadback c s
  | .layerRead c => Sys2Proof.Machine.execLayerRead c s
  | .screenGeom c => Sys2Proof.Machine.execScreenGeom c s
  | .screenWrite c => Sys2Proof.Machine.execScreenWrite c s
  | .screenRead c => Sys2Proof.Machine.execScreenRead c s
  | .screenLoad c => Sys2Proof.Machine.execScreenLoad c s
  | .screenArm c => Sys2Proof.Machine.execScreenArm c s
  | .ashGet c => Sys2Proof.Machine.execAshGet c s
  | .ashPut c => Sys2Proof.Machine.execAshPut c s
  | .ashPush c => Sys2Proof.Machine.execAshPush c s
  | .ashLoad c => Sys2Proof.Machine.execAshLoad c s
  | .ashFlush c => Sys2Proof.Machine.execAshFlush c s
  | .headStatus c => Sys2Proof.Machine.execHeadStatus c s
  | .headPower c => Sys2Proof.Machine.execHeadPower c s
  | .headSetup c => Sys2Proof.Machine.execHeadSetup c s
  | .headPhase c => Sys2Proof.Machine.execHeadPhase c s
  | .headStbt c => Sys2Proof.Machine.execHeadStbt c s
  | .headTherm c => Sys2Proof.Machine.execHeadTherm c s
  | .headCmap c => Sys2Proof.Machine.execHeadCmap c s
  | .headCmapApply c => Sys2Proof.Machine.execHeadCmapApply c s
  | .headOn c => Sys2Proof.Machine.execHeadOn c s
  | .headOff c => Sys2Proof.Machine.execHeadOff c s
  | .headDamper c => Sys2Proof.Machine.execHeadDamper c s
  | .headBudget c => Sys2Proof.Machine.execHeadBudget c s
  | .headFenderSet c => Sys2Proof.Machine.execHeadFenderSet c s
  | .headFenderGet c => Sys2Proof.Machine.execHeadFenderGet c s
  | .feedSet c => Sys2Proof.Machine.execFeedSet c s
  | .feedEn c => Sys2Proof.Machine.execFeedEn c s
  | .feedStart c => Sys2Proof.Machine.execFeedStart c s
  | .feedResume c => Sys2Proof.Machine.execFeedResume c s
  | .feedStatus c => Sys2Proof.Machine.execFeedStatus c s
  | .feedPass c => Sys2Proof.Machine.execFeedPass c s
  | .feedScan c => Sys2Proof.Machine.execFeedScan c s
  | .fbQuad c => Sys2Proof.Machine.execFbQuad c s
  | .fbHall c => Sys2Proof.Machine.execFbHall c s
  | .fbSsi c => Sys2Proof.Machine.execFbSsi c s
  | .fbStatus c => Sys2Proof.Machine.execFbStatus c s
  | .fbClear c => Sys2Proof.Machine.execFbClear c s
  | .motSetup c => Sys2Proof.Machine.execMotSetup c s
  | .motThresh c => Sys2Proof.Machine.execMotThresh c s
  | .motEn c => Sys2Proof.Machine.execMotEn c s
  | .motMove c => Sys2Proof.Machine.execMotMove c s
  | .motStop c => Sys2Proof.Machine.execMotStop c s
  | .motHome c => Sys2Proof.Machine.execMotHome c s
  | .motClear c => Sys2Proof.Machine.execMotClear c s
  | .motStatus c => Sys2Proof.Machine.execMotStatus c s
  | .motPos c => Sys2Proof.Machine.execMotPos c s
  | .inspCamSet c => Sys2Proof.Machine.execInspCamSet c s
  | .inspCorr c => Sys2Proof.Machine.execInspCorr c s
  | .inspCamEn c => Sys2Proof.Machine.execInspCamEn c s
  | .inspCamStatus c => Sys2Proof.Machine.execInspCamStatus c s
  | .inspI2c c => Sys2Proof.Machine.execInspI2c c s
  | .inspIspSet c => Sys2Proof.Machine.execInspIspSet c s
  | .inspColour c => Sys2Proof.Machine.execInspColour c s
  | .inspDlut c => Sys2Proof.Machine.execInspDlut c s
  | .inspRegions c => Sys2Proof.Machine.execInspRegions c s
  | .inspOut c => Sys2Proof.Machine.execInspOut c s
  | .inspOutRp c => Sys2Proof.Machine.execInspOutRp c s
  | .inspOn c => Sys2Proof.Machine.execInspOn c s
  | .inspOff c => Sys2Proof.Machine.execInspOff c s
  | .inspGeomCal c => Sys2Proof.Machine.execInspGeomCal c s
  | .inspStatus c => Sys2Proof.Machine.execInspStatus c s
  | .timeGet c => Sys2Proof.Machine.execTimeGet c s
  | .timeSet c => Sys2Proof.Machine.execTimeSet c s
  | .timeInc c => Sys2Proof.Machine.execTimeInc c s
  | .timeAdj c => Sys2Proof.Machine.execTimeAdj c s
  | .timePtpSet c => Sys2Proof.Machine.execTimePtpSet c s
  | .timePtpStatus c => Sys2Proof.Machine.execTimePtpStatus c s
  | .timeUnfreeze c => Sys2Proof.Machine.execTimeUnfreeze c s
  | .timeUnit c => Sys2Proof.Machine.execTimeUnit c s
  | .twinStatus c => Sys2Proof.Machine.execTwinStatus c s
  | .twinSet c => Sys2Proof.Machine.execTwinSet c s
  | .twinJoin c => Sys2Proof.Machine.execTwinJoin c s
  | .twinLeave c => Sys2Proof.Machine.execTwinLeave c s
  | .twinSwitchBack c => Sys2Proof.Machine.execTwinSwitchBack c s
  | .twinReport c => Sys2Proof.Machine.execTwinReport c s
  | .calRun c => Sys2Proof.Machine.execCalRun c s
  | .calStatus c => Sys2Proof.Machine.execCalStatus c s
  | .calPolicy c => Sys2Proof.Machine.execCalPolicy c s
  | .calRead c => Sys2Proof.Machine.execCalRead c s
  | .calWrite c => Sys2Proof.Machine.execCalWrite c s
  | .calStore c => Sys2Proof.Machine.execCalStore c s
  | .updStatus c => Sys2Proof.Machine.execUpdStatus c s
  | .updVerify c => Sys2Proof.Machine.execUpdVerify c s
  | .updActivate c => Sys2Proof.Machine.execUpdActivate c s
  | .updRevert c => Sys2Proof.Machine.execUpdRevert c s
  | .updAbort c => Sys2Proof.Machine.execUpdAbort c s
  | .evtRoute c => Sys2Proof.Machine.execEvtRoute c s
  | .evtSeverity c => Sys2Proof.Machine.execEvtSeverity c s
  | .evtEnable c => Sys2Proof.Machine.execEvtEnable c s
  | .evtFirmware c => Sys2Proof.Machine.execEvtFirmware c s
  | .vauxPowerOn => Sys2Proof.Machine.execVauxPowerOn s
  | .vauxLow => Sys2Proof.Machine.execVauxLow s
  | .vauxRestored => Sys2Proof.Machine.execVauxRestored s
  | .brownout => Sys2Proof.Machine.execBrownout s
  | .sysRstNLow => Sys2Proof.Machine.execSysRstNLow s
  | .refclkLost => Sys2Proof.Machine.execRefclkLost s
  | .bootStart lead0 lead4 silent down flashes => Sys2Proof.Machine.execBootStart lead0 lead4 silent down flashes s
  | .bootEnd => Sys2Proof.Machine.execBootEnd s
  | .bridgeWaitExpiry => Sys2Proof.Machine.execBridgeWaitExpiry s
  | .bridgeUp => Sys2Proof.Machine.execBridgeUp s
  | .watchdogExpiry h => Sys2Proof.Machine.execWatchdogExpiry h s
  | .hearthReset h => Sys2Proof.Machine.execHearthReset h s
  | .tapReset edges => Sys2Proof.Machine.execTapReset edges s
  | .attachWaitExpiry => Sys2Proof.Machine.execAttachWaitExpiry s
  | .spitBurst => Sys2Proof.Machine.execSpitBurst s
  | .idleCap => Sys2Proof.Machine.execIdleCap s
  | .testNChart => Sys2Proof.Machine.execTestNChart s
  | .heartbeatSend => Sys2Proof.Machine.execHeartbeatSend s
  | .heartbeatReceived beat => Sys2Proof.Machine.execHeartbeatReceived beat s
  | .heartbeatMissed => Sys2Proof.Machine.execHeartbeatMissed s
  | .twinSigFrame frame => Sys2Proof.Machine.execTwinSigFrame frame s
  | .twinCmdFrame frame => Sys2Proof.Machine.execTwinCmdFrame frame s
  | .twinCmdStatusFrame frame => Sys2Proof.Machine.execTwinCmdStatusFrame frame s
  | .twinAshFrame frame => Sys2Proof.Machine.execTwinAshFrame frame s
  | .twinEventFrame frame => Sys2Proof.Machine.execTwinEventFrame frame s
  | .twinStateFrame frame => Sys2Proof.Machine.execTwinStateFrame frame s
  | .twinAlignFrame frame => Sys2Proof.Machine.execTwinAlignFrame frame s
  | .twinHandoverFrame frame => Sys2Proof.Machine.execTwinHandoverFrame frame s
  | .twinJoinReqFrame frame => Sys2Proof.Machine.execTwinJoinReqFrame frame s
  | .twinHealthFrame frame => Sys2Proof.Machine.execTwinHealthFrame frame s
  | .twinFrameError frame => Sys2Proof.Machine.execTwinFrameError frame s
  | .sigTimeout => Sys2Proof.Machine.execSigTimeout s
  | .joinTimeout => Sys2Proof.Machine.execJoinTimeout s
  | .healthSend loops drams grates => Sys2Proof.Machine.execHealthSend loops drams grates s
  | .healthMissing => Sys2Proof.Machine.execHealthMissing s
  | .holdNReleased => Sys2Proof.Machine.execHoldNReleased s
  | .holdSeize => Sys2Proof.Machine.execHoldSeize s
  | .switchClearDone => Sys2Proof.Machine.execSwitchClearDone s
  | .twnEnWrite value => Sys2Proof.Machine.execTwnEnWrite value s
  | .twnJoinWrite => Sys2Proof.Machine.execTwnJoinWrite s
  | .twnSwitchBackWrite => Sys2Proof.Machine.execTwnSwitchBackWrite s
  | .twnForceOff => Sys2Proof.Machine.execTwnForceOff s
  | .handoverTimeout => Sys2Proof.Machine.execHandoverTimeout s
  | .timIncWrite value => Sys2Proof.Machine.execTimIncWrite value s
  | .timSecLoRead => Sys2Proof.Machine.execTimSecLoRead s
  | .timSet => Sys2Proof.Machine.execTimSet s
  | .timAdj => Sys2Proof.Machine.execTimAdj s
  | .timUnfreeze => Sys2Proof.Machine.execTimUnfreeze s
  | .ptpFrameForwarded port frame rxNs txNs => Sys2Proof.Machine.execPtpFrameForwarded port frame rxNs txNs s
  | .announceReceived port frame => Sys2Proof.Machine.execAnnounceReceived port frame s
  | .syncReceived port frame rxTime txTime => Sys2Proof.Machine.execSyncReceived port frame rxTime txTime s
  | .followUpReceived port frame => Sys2Proof.Machine.execFollowUpReceived port frame s
  | .delayRespReceived port frame => Sys2Proof.Machine.execDelayRespReceived port frame s
  | .masterLost => Sys2Proof.Machine.execMasterLost s
  | .timeUnitCtrlWrite n value => Sys2Proof.Machine.execTimeUnitCtrlWrite n value s
  | .timeUnitFire n => Sys2Proof.Machine.execTimeUnitFire n s
  | .timeUnitCapture n => Sys2Proof.Machine.execTimeUnitCapture n s
  | .calAutoCheck h => Sys2Proof.Machine.execCalAutoCheck h s
  | .calRunDone h m1 m2 temps => Sys2Proof.Machine.execCalRunDone h m1 m2 temps s
  | .calRunTimeout h => Sys2Proof.Machine.execCalRunTimeout h s
  | .svcStatus => Sys2Proof.Machine.execSvcStatus s
  | .svcHold key hold => Sys2Proof.Machine.execSvcHold key hold s
  | .svcReset key => Sys2Proof.Machine.execSvcReset key s
  | .stageOpen len => Sys2Proof.Machine.execStageOpen len s
  | .stageWrite index data crc => Sys2Proof.Machine.execStageWrite index data crc s
  | .svcApply => Sys2Proof.Machine.execSvcApply s
  | .patchApplyDone => Sys2Proof.Machine.execPatchApplyDone s
  | .svcAbort => Sys2Proof.Machine.execSvcAbort s
  | .svcActivate comp slot => Sys2Proof.Machine.execSvcActivate comp slot s
  | .componentSwap comp => Sys2Proof.Machine.execComponentSwap comp s
  | .componentSwapTimeout => Sys2Proof.Machine.execComponentSwapTimeout s
  | .ispCmpEnWrite h value => Sys2Proof.Machine.execIspCmpEnWrite h value s
  | .chmStatSelWrite h value => Sys2Proof.Machine.execChmStatSelWrite h value s
  | .fbkHallSsiEnWrite h k value => Sys2Proof.Machine.execFbkHallSsiEnWrite h k value s
  | .prbsTestEnd h l => Sys2Proof.Machine.execPrbsTestEnd h l s
  | .regPollTimeout ch tag => Sys2Proof.Machine.execRegPollTimeout ch tag s
  | .pageWaitTimeout ch tag => Sys2Proof.Machine.execPageWaitTimeout ch tag s
  | .headPowerTimeout ch tag => Sys2Proof.Machine.execHeadPowerTimeout ch tag s
  | .geomCalTimeout => Sys2Proof.Machine.execGeomCalTimeout s
  | .sysResetDelayExpiry => Sys2Proof.Machine.execSysResetDelayExpiry s

end Sys2Proof.Machine
end

