-- ==== Sys2Proof/Machine/Idle.lean ====
section
/-! DEFINITION. What the block does while no command waits. -/

namespace Sys2Proof.Machine

/-- An idle step: 20 ns pass, which is 8 clocks of 2.5 ns and 5 ticks of the time counter (R371). DESIGN CHOICE (log 2). -/
def idle (s : State) : State := forEach (List.range 5) (fun _ s => tick s) { s with now := s.now + 8 }

end Sys2Proof.Machine
end

