-- ==== Sys2Proof/Safety.lean ====
section
/-! DEFINITION. The vocabulary of claims: a state in which nothing waits to be answered, the gates shown, a host write
stored by its access codes, the mailbox rows. -/

namespace Sys2Proof.Machine

/-- Nothing waits for what follows a command: no stand-alone motion, no packet that has arrived, no release or credit of a Basin, no commit
held for the mirror, no deferred command. -/
def Rests (s : State) : Prop :=
  s.alone.script = [] ∧ fabricFollow s = s ∧ basinsFollow s = s ∧ s.twn.heldCmds = [] ∧ s.dops = [] ∧ (s.junior.on = true → s.junior.dops = [])

/-- FND_STATUS.ACTIVE shows the gates in force (R173). -/
def gatesShown (s : State) : Prop := s.fget 0 0 FND_STATUS_ACTIVE = gatesInForce s

/-- A host write stored by its fields' access codes (R8) and nothing else; `opn` says whether RWL fields are open. -/
def stored (blk : Nat) (opn : Bool) (h i w : Nat) (v : Word) (s : State) : State :=
  hostWrite blk (fun _ _ _ _ => opn) (fun _ s => s) h i w v false s

/-- What differs between two states is at most their registers and Flue queues. -/
def RegsAndFlues (s t : State) : Prop := t = { s with regs := t.regs, flues := t.flues }

/-- A word that counts lost event words on some hearth: any raised event may step it (R287, R293). -/
def lossWord (b w : Nat) : Prop := (b = BLK_FLU ∧ w = FLU_OVF_CNT.word) ∨ (b = BLK_GLB ∧ w = GLB_EVT_LOST.word)

/-- Every register word but the listed ones (hearth, instance, block, word) and the counters of lost event words reads in
`t` as in `s`. -/
def WordsBut (ws : List (Nat × Nat × Nat × Nat)) (s t : State) : Prop :=
  ∀ h i b w, i < 16 → b < 256 → w < 2048 → (h, i, b, w) ∉ ws → ¬ lossWord b w → t.rd h i b w = s.rd h i b w

/-- Outside the listed blocks every register word but the counters of lost event words reads in `t` as in `s`. -/
def BlocksOnly (bs : List Nat) (s t : State) : Prop :=
  ∀ h i b w, i < 16 → b < 256 → w < 2048 → b ∉ bs → ¬ lossWord b w → t.rd h i b w = s.rd h i b w

/-- Words that bringing GOR_STATUS.LANES up to date may write. -/
def lanesWords (h : Nat) : List (Nat × Nat × Nat × Nat) :=
  [(h, 0, GOR_STATUS_LANES.blk, GOR_STATUS_LANES.word), (h, 1, GOR_STATUS_LANES.blk, GOR_STATUS_LANES.word),
   (h, 0, GOR_EVENT_LANE_LOST.blk, GOR_EVENT_LANE_LOST.word), (h, 1, GOR_EVENT_LANE_LOST.blk, GOR_EVENT_LANE_LOST.word)]

/-- Words that entering a lane state may write: the lane's status and events, the Gorge instances' status and events. -/
def laneGoWords (h l : Nat) : List (Nat × Nat × Nat × Nat) :=
  [(h, l, LANE_STATUS_STATE.blk, LANE_STATUS_STATE.word), (h, l, LANE_EVENT_UP.blk, LANE_EVENT_UP.word)] ++ lanesWords h

/-- What a lane's rows may touch: the lane's own record, the words above, the Flue queues. -/
def LaneOnly (h l : Nat) (s t : State) : Prop :=
  t = { s with regs := t.regs, flues := t.flues, lanes := t.lanes } ∧
  (∀ h' l', l' < 16 → (h', l') ≠ (h, l) → t.lane h' l' = s.lane h' l') ∧ WordsBut (laneGoWords h l) s t

/-- The Damper's record of one port after the first `k` lines of a sequence of lines, by the levels each brings (R171). -/
def damperLines (c : DmpCfg) (p nz : Nat) (lvs : Nat → Tab Nat) (r : DmpRun) : Nat → DmpRun
  | 0 => r
  | k + 1 => (damperPort c k p nz (lvs k) (damperLines c p nz lvs r k)).2

/-- The words of `n` pops of a Flue queue, none upset, and the state after them (R288). -/
def popMany (h q : Nat) : Nat → State → List Word × State
  | 0, s => ([], s)
  | n + 1, s =>
    let r := popMany h q n (fluePop h q 0 s).2
    ((fluePop h q 0 s).1 :: r.1, r.2)

/-! ### The mailbox commands -/

/-- Command rows of the families 0x1, 0x2, 0x3: constructor, opcode, class, answered with HSTAT (R308–R322). -/
def SysRow (r : (Cmd → Instr) × Nat × CmdClass × Bool) : Prop := r ∈ [
  (.sysInfo, 0x0100, .q, false), (.sysAttach, 0x0101, .q, false), (.sysDetach, 0x0102, .l, false),
  (.sysStatus, 0x0103, .q, false), (.sysReset, 0x0104, .l, false), (.sysConfigLoad, 0x0105, .p, true),
  (.sysNop, 0x0106, .q, false), (.regRead, 0x0200, .q, false), (.regWrite, 0x0201, .p, false), (.regModify, 0x0202, .p, false),
  (.regPoll, 0x0203, .q, false), (.linkStatus, 0x0300, .q, false), (.linkUp, 0x0301, .l, true), (.linkDown, 0x0302, .l, true),
  (.linkEq, 0x0303, .l, false), (.linkPrbs, 0x0304, .l, false), (.gorgeOn, 0x0305, .p, true), (.gorgeOff, 0x0306, .p, true),
  (.gorgeStatus, 0x0307, .q, false), (.gorgeRewind, 0x0308, .p, false)]

/-- Command rows of the families 0x4, 0x5: constructor, opcode, class, answered with HSTAT (R308–R322). -/
def PageRow (r : (Cmd → Instr) × Nat × CmdClass × Bool) : Prop := r ∈ [
  (.pageQuery, 0x0400, .q, false), (.pageCommit, 0x0401, .p, true), (.pageReprint, 0x0402, .p, true),
  (.pageReleaseCmd, 0x0403, .p, true), (.pageAbort, 0x0404, .p, true), (.pageWithdraw, 0x0405, .p, true),
  (.pageDeclare, 0x0406, .p, true), (.pageWait, 0x0407, .q, true), (.pageList, 0x0408, .q, false),
  (.pageBasin, 0x0409, .q, false), (.pageBasinSet, 0x040A, .p, true), (.pageRetain, 0x040B, .p, true),
  (.layerSet, 0x0500, .p, true), (.layerGet, 0x0501, .q, false), (.layerRoute, 0x0502, .p, true), (.layerSlot, 0x0503, .p, true),
  (.layerOn, 0x0504, .p, true), (.layerOff, 0x0505, .p, true), (.layerPrivArm, 0x0506, .p, true),
  (.layerAdopt, 0x0507, .p, false), (.layerFree, 0x0508, .p, false), (.layerLbs, 0x0509, .q, false),
  (.layerReadback, 0x050A, .l, false), (.layerRead, 0x050B, .q, false)]

/-- Command rows of the families 0x6, 0x7, 0x8: constructor, opcode, class, answered with HSTAT (R308–R322). -/
def HeadRow (r : (Cmd → Instr) × Nat × CmdClass × Bool) : Prop := r ∈ [
  (.screenGeom, 0x0600, .p, true), (.screenWrite, 0x0601, .p, true), (.screenRead, 0x0602, .q, false),
  (.screenLoad, 0x0603, .p, true), (.screenArm, 0x0604, .p, true), (.ashGet, 0x0605, .q, false), (.ashPut, 0x0606, .p, false),
  (.ashPush, 0x0607, .p, false), (.ashLoad, 0x0608, .p, true), (.ashFlush, 0x0609, .p, true), (.headStatus, 0x0700, .q, false),
  (.headPower, 0x0701, .p, true), (.headSetup, 0x0702, .p, false), (.headPhase, 0x0703, .p, false),
  (.headStbt, 0x0704, .p, false), (.headTherm, 0x0705, .p, false), (.headCmap, 0x0706, .p, false),
  (.headCmapApply, 0x0707, .p, false), (.headOn, 0x0708, .p, true), (.headOff, 0x0709, .p, true),
  (.headDamper, 0x070A, .p, true), (.headBudget, 0x070B, .p, false), (.headFenderSet, 0x070C, .p, false),
  (.headFenderGet, 0x070D, .q, false), (.feedSet, 0x0800, .p, true), (.feedEn, 0x0801, .p, true), (.feedStart, 0x0802, .p, true),
  (.feedResume, 0x0803, .p, true), (.feedStatus, 0x0804, .q, false), (.feedPass, 0x0805, .p, false),
  (.feedScan, 0x0806, .p, true), (.fbQuad, 0x0807, .p, false), (.fbHall, 0x0808, .p, false), (.fbSsi, 0x0809, .p, false),
  (.fbStatus, 0x080A, .q, false), (.fbClear, 0x080B, .p, false)]

/-- Command rows of the families 0x9, 0xa: constructor, opcode, class, answered with HSTAT (R308–R322). -/
def MotionRow (r : (Cmd → Instr) × Nat × CmdClass × Bool) : Prop := r ∈ [
  (.motSetup, 0x0900, .p, false), (.motThresh, 0x0901, .p, false), (.motEn, 0x0902, .p, false), (.motMove, 0x0903, .p, false),
  (.motStop, 0x0904, .p, false), (.motHome, 0x0905, .p, false), (.motClear, 0x0906, .p, false), (.motStatus, 0x0907, .q, false),
  (.motPos, 0x0908, .p, false), (.inspCamSet, 0x0A00, .p, false), (.inspCorr, 0x0A01, .p, false),
  (.inspCamEn, 0x0A02, .p, false), (.inspCamStatus, 0x0A03, .q, false), (.inspI2c, 0x0A04, .l, false),
  (.inspIspSet, 0x0A05, .p, false), (.inspColour, 0x0A06, .p, false), (.inspDlut, 0x0A07, .p, false),
  (.inspRegions, 0x0A08, .p, false), (.inspOut, 0x0A09, .p, false), (.inspOutRp, 0x0A0A, .l, false), (.inspOn, 0x0A0B, .p, true),
  (.inspOff, 0x0A0C, .p, true), (.inspGeomCal, 0x0A0D, .p, false), (.inspStatus, 0x0A0E, .q, false)]

/-- Command rows of the families 0xb, 0xc, 0xd, 0xe, 0xf: constructor, opcode, class, answered with HSTAT (R308–R322). -/
def TimeRow (r : (Cmd → Instr) × Nat × CmdClass × Bool) : Prop := r ∈ [
  (.timeGet, 0x0B00, .q, false), (.timeSet, 0x0B01, .l, false), (.timeInc, 0x0B02, .l, false), (.timeAdj, 0x0B03, .l, false),
  (.timePtpSet, 0x0B04, .l, false), (.timePtpStatus, 0x0B05, .q, false), (.timeUnfreeze, 0x0B06, .l, false),
  (.timeUnit, 0x0B07, .l, false), (.twinStatus, 0x0C00, .q, false), (.twinSet, 0x0C01, .l, false),
  (.twinJoin, 0x0C02, .l, false), (.twinLeave, 0x0C03, .l, false), (.twinSwitchBack, 0x0C04, .l, false),
  (.twinReport, 0x0C05, .q, false), (.calRun, 0x0D00, .p, true), (.calStatus, 0x0D01, .q, false), (.calPolicy, 0x0D02, .p, true),
  (.calRead, 0x0D03, .q, false), (.calWrite, 0x0D04, .p, false), (.calStore, 0x0D05, .p, true), (.updStatus, 0x0E00, .q, false),
  (.updVerify, 0x0E01, .l, false), (.updActivate, 0x0E02, .l, false), (.updRevert, 0x0E03, .l, false),
  (.updAbort, 0x0E04, .l, false), (.evtRoute, 0x0F00, .l, true), (.evtSeverity, 0x0F01, .l, false),
  (.evtEnable, 0x0F02, .l, false), (.evtFirmware, 0x0F03, .l, false)]

/-- A row of the command set as chapter 10's tables list it. -/
def CommandRow (r : (Cmd → Instr) × Nat × CmdClass × Bool) : Prop := SysRow r ∨ PageRow r ∨ HeadRow r ∨ MotionRow r ∨ TimeRow r

/-- A command that has been taken: its tag is outstanding (R277). -/
def opened (c : Cmd) (s : State) : State := s.setMbx c.ch { s.mbx c.ch with outst := (s.mbx c.ch).outst ++ [c.tag] }

/-- Every check of a command passes: its tag is free, LEN, mode, fields and the states of every hearth it names (R277, R304). -/
def Passes (sp : CmdSpec) (c : Cmd) (s : State) : Prop :=
  c.ch < 4 ∧ (s.mbx c.ch).outst.contains c.tag = false ∧ c.len ≤ 56 ∧ sp.size c ≤ c.len ∧ modeDenies (opened c s) sp = false ∧
  sp.ok (opened c s) c = true ∧ sp.named (opened c s) c ≠ [] ∧ ∀ h ∈ sp.named (opened c s) c, checkAt sp c h (opened c s) = 0

/-- It passes, and acts at once: no standby takes it with a delay (R361). -/
def Ready (sp : CmdSpec) (c : Cmd) (s : State) : Prop := Passes sp c s ∧ (sp.cls = .p → twnLeads (opened c s) = false)

/-- A command answers a final status and payload, leaving a state. -/
def Answers (i : Instr) (op : Nat) (c : Cmd) (s : State) (st : Nat) (p : List Byte) (t : State) : Prop :=
  exec i s = .next (settle (answer c op st p t))

/-- HSTAT with one hearth's status (R301). -/
def oneStat (h st : Nat) : List Byte := hsBytes (noStat.set h st)

end Sys2Proof.Machine
end

