-- ==== Sys2Proof/Certificates/Slice0/Obligations.lean ====
section
/-! DEFINITION. The statements for the provers, from the rules of spec/. `settle` is what follows every command (log 14). -/

open Sys2Proof Sys2Proof.Machine

/-- A step with command c at the front of the queue is exec of c with the rest of the queue. -/
def Obligations.StepRunsTheFrontCommand : Prop :=
  ∀ (s : State) (c : Instr) (rest : List Instr), s.pending = c :: rest → step s = exec c { s with pending := rest }

/-- No command is refused: each answers the state after its own effect and what follows every command, but an ENCODE_REQUEST that reaches
above the fitted memory, which faults (R115). A step on an empty queue is an idle step: 20 ns pass; nothing is sent, no byte of memory,
queue, port or Terrace changes (the model's choice, log entry 2). The model's own choices behind it: log 2, 11, 13, 14, 43. -/
def Obligations.EveryCommandCompletesAndAnEmptyQueueIdles : Prop :=
  ((∀ (s : State) (c : Instr), (∃ t, exec c s = .next (settle t)) ∨
     ∃ h src len row dst size, c = .encodeRequest h src len row dst size ∧ s.hasH h = true ∧
       (s.fitted h < src + len ∨ s.fitted h < dst + size) ∧ ∃ f, exec c s = .fault f) ∧
   (∀ (s : State) (c : Instr) (r : Refusal), exec c s ≠ .refused r)) ∧
  (∀ (s : State), s.pending = [] → ∃ t, step s = .next t ∧ t.now = s.now + 8 ∧ t.pending = [] ∧ t.out = s.out ∧ t.dram = s.dram ∧
     t.flues = s.flues ∧ t.fbxs = s.fbxs ∧ t.ters = s.ters)

/-- FND_STATUS.ACTIVE shows the gates in force after every step (R173). -/
def Obligations.GatesInForceShownAfterEveryStep : Prop :=
  ∀ (s t : State), gatesShown s → step s = .next t → gatesShown t

/-- Memory and the register table keep their canonical form: at reset, and by every DRAM and register write. The model's own choices behind
it: log 8. -/
def Obligations.CanonicalFormsKept : Prop :=
  Memory.wf State.reset = true ∧ tabWf dfltReg State.reset.regs = true ∧
  (∀ (s : State) (h a : Nat) (bs : List Byte), bs.length ≤ 2 ^ 40 → Memory.wf s = true →
    Memory.wf (s.dwrites h a bs) = true ∧
    (s.dwrites h a bs).dreads h a bs.length = bs ∧
    ∀ h' a', dkey h' a' ∉ (List.range bs.length).map (fun k => dkey h (a + k)) → (s.dwrites h a bs).dread h' a' = s.dread h' a') ∧
  (∀ (s : State) (h i blk w : Nat) (v : Word), tabWf dfltReg s.regs = true → tabWf dfltReg (s.wr h i blk w v).regs = true ∧
    (s.wr h i blk w v).rd h i blk w = v)

/-- What reset leaves (R9, R173, R174, R330 and the register tables): every Draught, port and axis OFF, no gate in force and the display true,
the register table at its reset values, no command waiting. The model's own choices behind it: log 1. -/
def Obligations.ResetState : Prop :=
  gatesShown State.reset ∧ gatesInForce State.reset = 0 ∧ State.reset.pending = [] ∧ State.reset.regs = [] ∧ State.reset.dram = [] ∧
  (∀ h, h < 8 → drtState State.reset h = 0 ∧ lnum State.reset h = 0 ∧ ∀ p, p < 12 → portState State.reset h p = 0) ∧
  (∀ a, a < 8 → axState State.reset a = 0) ∧ Rests State.reset

/-- Frames of the rows of feedback inputs (R216 to R225), motion axes (R226 to R240) and the time base (R371 to R382): which records and which
blocks' registers each may change. Feedback rows also move the Draughts that run on a channel, to HOLD with their page marked (R179);
motion rows the feeds of a Draught and the statuses waiting commands gather; a time unit what it drives. Every other record, every byte of
memory and every register of another block stay as they were. The model's own choices behind it: log 14, 74, 75, 140, 142. -/
def Obligations.FeedbackMotionAndTimeRowsTouchOnlyTheirOwn : Prop :=
  ∀ (s : State) (c : Instr),
    (((∃ h i a b z, c = .quadTransition h i a b z) ∨ (∃ h i, c = .indexPulse h i) ∨ (∃ h i w on, c = .wireDisagree h i w on) ∨
        (∃ h i, c = .speedWindowEnd h i) ∨ (∃ h k st, c = .hallStateChange h k st) ∨ (∃ h i, c = Instr.clrFault h i) ∨
        (∃ h i v, c = .fbkQuadEnWrite h i v) ∨ (∃ h k d, c = .ssiFrameStart h k d) ∨ (∃ h k r, c = .ssiFrameDone h k r) ∨
        ∃ h k v, c = Instr.fbkHallSsiEnWrite h k v) →
      ∃ t, exec c s = .next (settle t) ∧ BlocksOnly [BLK_FBK, BLK_DRT] s t ∧
        t = { s with regs := t.regs, flues := t.flues, quads := t.quads, halls := t.halls, ssis := t.ssis, drts := t.drts,
                     basins := t.basins }) ∧
    (((∃ a, c = .axisStep a) ∨ (∃ a, c = .profileTick a) ∨ (∃ a, c = .phaseFrameSent a) ∨ (∃ a v, c = .motQPush a v) ∨
        (∃ a, c = .standstill a) ∨ (∃ a, c = .wakeDelayEnd a) ∨ (∃ a w l e, c = .switchDebounceEnd a w l e) ∨ (∃ a, c = .motHomeWrite a) ∨
        (∃ a, c = .motStopWrite a) ∨ (∃ a, c = .motClrWrite a) ∨ (∃ a v, c = .motEnWrite a v) ∨ (∃ a, c = .motDrainTimeout a) ∨
        ∃ a, c = .motForceOff a) →
      ∃ t, exec c s = .next (settle t) ∧ BlocksOnly [BLK_MOT, BLK_DRT] s t ∧
        t = { s with regs := t.regs, flues := t.flues, axes := t.axes, drts := t.drts, dops := t.dops, twn := t.twn, out := t.out,
                     freeCtr := t.freeCtr }) ∧
    (((∃ v, c = .timIncWrite v) ∨ c = .timSet ∨ c = .timAdj ∨ c = Instr.timUnfreeze ∨ (∃ p f r x, c = .ptpFrameForwarded p f r x) ∨
        (∃ p f, c = .announceReceived p f) ∨ (∃ p f r x, c = .syncReceived p f r x) ∨ (∃ p f, c = .followUpReceived p f) ∨
        (∃ p f, c = .delayRespReceived p f) ∨ c = .masterLost ∨ (∃ n v, c = .timeUnitCtrlWrite n v) ∨ ∃ n, c = Instr.timeUnitCapture n) →
      ∃ t, exec c s = .next (settle t) ∧ BlocksOnly [BLK_TIM] s t ∧
        t = { s with regs := t.regs, flues := t.flues, tim := t.tim, drts := t.drts, axes := t.axes, out := t.out }) ∧
    ((∃ n, c = .timeUnitFire n) →
      ∃ t, exec c s = .next (settle t) ∧ BlocksOnly [BLK_TIM] s t ∧
        t = { s with regs := t.regs, flues := t.flues, tim := t.tim, drts := t.drts, axes := t.axes, ssis := t.ssis, fbxs := t.fbxs,
                     cams := t.cams, out := t.out })

/-- Frames of the rows of the Draught (R174 to R183), the Firebox ports (R154 to R167), the Damper and the gates (R170, R172, R173), the
Grate's tables and the Ash map (R141, R146, R149), the Terrace (R134, R139, R295) and Flue queues (R287 to R290): which records and which
blocks' registers each may change; every other record, every byte of memory and every register of another block stay as they were. The
model's own choices behind it: log 14, 56, 59, 60, 62. -/
def Obligations.PrintRowsTouchOnlyTheirOwn : Prop :=
  ∀ (s : State) (c : Instr),
    (((∃ h, c = .drtLoopUpdate h) ∨ (∃ h v, c = .drtEnWrite h v) ∨ (∃ h, c = .startArm h) ∨ (∃ h, c = .startReached h) ∨
        (∃ h, c = .drtReverse h) ∨ (∃ h, c = .drtResumed h) ∨ ∃ h, c = Instr.drtResume h) →
      ∃ t, exec c s = .next (settle t) ∧ BlocksOnly [BLK_DRT] s t ∧
        t = { s with regs := t.regs, flues := t.flues, drts := t.drts, basins := t.basins }) ∧
    (((∃ h p m, c = .strobeEnd h p m) ∨ (∃ h p k, c = .shiftDone h p k) ∨ (∃ h p k, c = .vheadSample h p k) ∨ (∃ h p k, c = .tempSample h p k) ∨
        (∃ h p, c = .headPresent h p) ∨ (∃ h p v, c = .fbxPwrWrite h p v) ∨ (∃ h p a b, c = .headSettled h p a b) ∨
        (∃ h p v, c = .fbxEnWrite h p v) ∨ (∃ h p, c = .fbxForceOff h p) ∨ (∃ h p, c = .headRemoved h p) ∨ (∃ h p, c = .cmapApply h p) ∨
        (∃ h, c = .cmapCheck h) ∨ ∃ h p v, c = Instr.fbxHeadWrite h p v) →
      ∃ t, exec c s = .next (settle t) ∧ BlocksOnly [BLK_FBX, BLK_BAS, BLK_CIN, BLK_DRT] s t ∧
        t = { s with regs := t.regs, flues := t.flues, fbxs := t.fbxs, basins := t.basins, lbs := t.lbs, ters := t.ters, twn := t.twn,
                     staged := t.staged, out := t.out, freeCtr := t.freeCtr }) ∧
    (((∃ g, c = .fenderAssert g) ∨ (∃ g, c = .fenderRelease g) ∨ (∃ v, c = .fenderLatchClear v) ∨ ∃ v, c = Instr.fndEnWrite v) →
      ∃ t, exec c s = .next (settle t) ∧ BlocksOnly [BLK_FND] s t ∧
        t = { s with regs := t.regs, flues := t.flues, gates := t.gates }) ∧
    ((∃ h, c = .damperBinEnd h) → ∃ t, exec c s = .next (settle t) ∧ t = { s with dmps := t.dmps }) ∧
    (((∃ h, c = .tblArm h) ∨ (∃ h v, c = .grtEnWrite h v) ∨ (∃ h, c = .tableCopyDone h) ∨ ∃ h w, c = Instr.grtTblDataAccess h w) →
      ∃ t, exec c s = .next (settle t) ∧ BlocksOnly [BLK_GRT] s t ∧
        t = { s with regs := t.regs, flues := t.flues, ters := t.ters, grts := t.grts, out := t.out }) ∧
    (((∃ h x, c = .ashUpdPush h x) ∨ ∃ h, c = Instr.ashCtrlFlush h) →
      ∃ t, exec c s = .next (settle t) ∧ BlocksOnly [BLK_ASH] s t ∧ t = { s with regs := t.regs, flues := t.flues, ters := t.ters }) ∧
    (((∃ h v, c = .terEnWrite h v) ∨ (∃ h, c = .terForceOff h) ∨ (∃ h, c = .terDrainTimeout h) ∨ ∃ h, c = Instr.privArm h) →
      ∃ t, exec c s = .next (settle t) ∧ BlocksOnly [BLK_TER, BLK_GRT, BLK_BAS, BLK_CIN] s t ∧
        t = { s with regs := t.regs, flues := t.flues, ters := t.ters, basins := t.basins, lbs := t.lbs, fbxs := t.fbxs,
                     freeCtr := t.freeCtr }) ∧
    ((∃ h q u, c = .fluePop h q u) →
      ∃ t, exec c s = .next (settle t) ∧ BlocksOnly [BLK_FLU] s t ∧ t = { s with regs := t.regs, flues := t.flues, out := t.out }) ∧
    (((∃ h q v, c = .fluePush h q v) ∨ (∃ h v, c = .flueFlush h v) ∨ (∃ h q v, c = .flueCfgWrite h q v) ∨
        ∃ h q, c = Instr.flueStale h q) →
      ∃ t, exec c s = .next (settle t) ∧ BlocksOnly [BLK_FLU] s t ∧ t = { s with regs := t.regs, flues := t.flues })

/-- Frames of the rows of the lanes (R14 to R45), Gorge instances (R47 to R84), the Basin and the decoders (R86 to R118), links and memory
controllers (R243 to R262): which records and which blocks' registers each may change; every other record and every register of another
block stay as they were. Of these rows only a sequenced frame, the codeword that brings or, looped back, sends its last block, a page's
resumed opening and the end of a decode job write memory. The model's own choices behind it: log 3, 6, 14, 28, 31, 36, 97, 100, 165, 170,
176. -/
def Obligations.LinkAndMemoryRowsTouchOnlyTheirOwn : Prop :=
  ∀ (s : State) (c : Instr),
    (((∃ h l v, c = .laneEnWrite h l v) ∨ (∃ h l, c = .signalDetected h l) ∨ (∃ h l, c = .cdrLocked h l) ∨ (∃ h l f, c = .fomPeriod h l f) ∨
        (∃ h l, c = .lowFomDegraded h l) ∨ (∃ h l, c = .recentreDone h l) ∨ (∃ h l i, c = .adaptUnitReceived h l i) ∨
        (∃ h l x, c = .alignmentCodewordReceived h l x) ∨
        (∃ h l g, c = .codeGroupReceived h l g) ∨ (∃ h l, c = .saddleSyncAcquired h l) ∨ (∃ h l k, c = .autonegComplete h l k) ∨
        (∃ h l, c = .autonegRestart h l) ∨ (∃ h l, c = .signalLost h l) ∨ (∃ h l, c = .cdrLockLost h l) ∨ (∃ h l, c = .alignmentLost h l) ∨
        (∃ h l, c = .saddleSyncLost h l) ∨ (∃ h l, c = .bringupTimeout h l) ∨ (∃ h l, c = .failRetry h l) ∨
        (∃ h l v, c = .prbsEnableWrite h l v) ∨ (∃ h l b, c = .prbsCheckerLock h l b) ∨ (∃ h l e, c = .prbsLockLost h l e) ∨
        (∃ h l, c = .chkReseed h l) ∨ (∃ h l, c = .injOne h l) ∨ (∃ h l, c = .injRateInjection h l) ∨ ∃ h l v, c = Instr.loopbackChange h l v) →
      ∃ t, exec c s = .next (settle t) ∧ BlocksOnly [BLK_LANE, BLK_GOR, BLK_TST] s t ∧
        t = { s with regs := t.regs, flues := t.flues, lanes := t.lanes, out := t.out, freeCtr := t.freeCtr }) ∧
    (((∃ h l x, c = .codewordReceived h l x) ∨ ∃ h l, c = Instr.alignmentCodewordSent h l) →
      ∃ t, exec c s = .next (settle t) ∧ BlocksOnly [BLK_LANE, BLK_GOR, BLK_TST, BLK_BAS, BLK_CIN] s t ∧
        t = { s with regs := t.regs, flues := t.flues, lanes := t.lanes, gors := t.gors, basins := t.basins, lbs := t.lbs, out := t.out,
                     dram := t.dram, freeCtr := t.freeCtr }) ∧
    (((∃ h i f e x, c = .gorgeBadFrame h i f e x) ∨ (∃ h i f, c = .helloReceived h i f) ∨ (∃ h i f, c = .helloAckReceived h i f) ∨
        (∃ h, c = .helloResend h) ∨ (∃ h i f, c = .ackReceived h i f) ∨ (∃ h i f, c = .nakReceived h i f) ∨
        (∃ h i f, c = .creditReceived h i f) ∨ (∃ h i f, c = .keepaliveReceived h i f) ∨ (∃ h i f, c = .byeAbortReceived h i f) ∨
        (∃ h i f, c = .errorFrameReceived h i f) ∨ (∃ h i f, c = .gorgeProtocolError h i f) ∨ (∃ h i, c = .ackDelayExpiry h i) ∨
        (∃ h i, c = .creditStep h i) ∨ (∃ h i, c = .keepaliveInterval h i) ∨ (∃ h i, c = .peerDead h i) ∨ (∃ h, c = .retxTimeout h) ∨
        (∃ h i v, c = .gorgeEnWrite h i v) ∨ (∃ h i, c = .gorgeDrainTimeout h i) ∨ ∃ h i, c = Instr.gorgeForceOff h i) →
      ∃ t, exec c s = .next (settle t) ∧ BlocksOnly [BLK_GOR, BLK_BAS, BLK_CIN] s t ∧
        t = { s with regs := t.regs, flues := t.flues, gors := t.gors, basins := t.basins, lbs := t.lbs, out := t.out, freeCtr := t.freeCtr }) ∧
    (((∃ h i f, c = .sequencedFrameReceived h i f) ∨ ∃ h, c = Instr.pageOpenResumed h) →
      ∃ t, exec c s = .next (settle t) ∧ BlocksOnly [BLK_GOR, BLK_BAS, BLK_CIN] s t ∧
        t = { s with regs := t.regs, flues := t.flues, gors := t.gors, basins := t.basins, lbs := t.lbs, out := t.out, dram := t.dram,
                     freeCtr := t.freeCtr }) ∧
    (((∃ h v, c = .basinEnWrite h v) ∨ (∃ h p, c = .pageRetire h p) ∨ (∃ h p, c = .pageRelease h p) ∨ (∃ h d, c = .decodeJobStart h d) ∨
        ∃ h d, c = Instr.decodeJobFail h d) →
      ∃ t, exec c s = .next (settle t) ∧ BlocksOnly [BLK_BAS, BLK_CIN, BLK_TER] s t ∧
        t = { s with regs := t.regs, flues := t.flues, basins := t.basins, lbs := t.lbs, freeCtr := t.freeCtr }) ∧
    ((∃ h d, c = .decodeJobDone h d) →
      ∃ t, exec c s = .next (settle t) ∧ BlocksOnly [BLK_BAS, BLK_CIN] s t ∧
        t = { s with regs := t.regs, flues := t.flues, basins := t.basins, lbs := t.lbs, dram := t.dram }) ∧
    (((∃ h l, c = .chimneyLinkUp h l) ∨ (∃ h o a e, c = .chimneyPacketSent h o a e) ∨ (∃ h m, c = .dramTrainingDone h m) ∨
        (∃ h k ok x d, c = .retrainDue h k ok x d) ∨ (∃ h k b f, c = .refreshDue h k b f) ∨ (∃ h a f, c = .neighbourRefresh h a f) ∨
        (∃ h k n e c₀ cs, c = .fReadReturn h k n e c₀ cs) ∨ ∃ h v, c = Instr.chmStatSelWrite h v) →
      ∃ t, exec c s = .next (settle t) ∧ BlocksOnly [BLK_CHM, BLK_DRM] s t ∧
        t = { s with regs := t.regs, flues := t.flues, chms := t.chms, linksLost := t.linksLost, out := t.out, now := t.now, fbxs := t.fbxs })

/-- Frames of the rows of inspection (R184 to R212), the mailboxes (R272 to R286), the service port (R395 to R400) and the twin (R351 to
R367): which records and which blocks' registers each may change; every other record and every register of another block stay as they
were. Of these rows only those of the cameras and the pipeline, which store frames, write DRAM, and only those of the service port write
flash. The model's own choices behind it: log 14, 91, 104, 123, 132, 143, 144, 145. -/
def Obligations.InspectionMailboxServiceAndTwinRowsTouchOnlyTheirOwn : Prop :=
  ∀ (s : State) (c : Instr),
    (((∃ h k p, c = .csiPacketReceived h k p) ∨ (∃ h k, c = .frameTimeout h k) ∨ (∃ h k, c = .cameraLinkDown h k) ∨
        (∃ h k, c = .cameraTrigger h k) ∨ (∃ h, c = .pipelineLineTaken h) ∨ (∃ h k v, c = .camEnWrite h k v) ∨
        (∃ h k, c = .camDrainTimeout h k) ∨ (∃ h k, c = .camForceOff h k) ∨ (∃ h v, c = .ispEnWrite h v) ∨ (∃ h, c = .ispForceOff h) ∨
        (∃ h v, c = .ispCmpEnWrite h v) ∨ ∃ h w, c = Instr.ispDlutDataAccess h w) →
      ∃ t, exec c s = .next (settle t) ∧ BlocksOnly [BLK_CAM, BLK_ISP] s t ∧
        t = { s with regs := t.regs, flues := t.flues, cams := t.cams, isps := t.isps, dram := t.dram, geo := t.geo, geoRes := t.geoRes,
                     out := t.out, freeCtr := t.freeCtr }) ∧
    ((∃ h m, c = .verdictReceived h m) →
      ∃ t, exec c s = .next (settle t) ∧ BlocksOnly [BLK_ISP, BLK_ASH] s t ∧
        t = { s with regs := t.regs, flues := t.flues, isps := t.isps, ters := t.ters, twn := t.twn, out := t.out }) ∧
    (((∃ h m, c = .watermarkReceived h m) ∨ ∃ h p, c = Instr.inspectionCloseTimeout h p) →
      ∃ t, exec c s = .next (settle t) ∧ BlocksOnly [BLK_ISP, BLK_BAS, BLK_CIN] s t ∧
        t = { s with regs := t.regs, flues := t.flues, basins := t.basins, lbs := t.lbs, freeCtr := t.freeCtr }) ∧
    ((∃ h p r b, c = .i2cTransferDone h p r b) →
      ∃ t, exec c s = .next (settle t) ∧ t = { s with i2cs := t.i2cs, dops := t.dops, twn := t.twn }) ∧
    (((∃ f, c = .udpHello f) ∨ (∃ f, c = .udpRequest f) ∨ (∃ f, c = .udpRack f) ∨ (∃ f, c = .udpReject f) ∨
        (∃ k r, c = .responseRetransmit k r) ∨ (∃ f, c = .arpReceived f) ∨ ∃ f, c = Instr.icmpEchoReceived f) →
      ∃ t, exec c s = .next (settle t) ∧ BlocksOnly [BLK_MBX] s t ∧
        t = { s with regs := t.regs, flues := t.flues, mbxs := t.mbxs, arp := t.arp, arpHeld := t.arpHeld, out := t.out, freeCtr := t.freeCtr }) ∧
    ((∃ k, k < 8 ∧ ((∃ v, c = .cmdPiWrite k v) ∨ (∃ v, c = .rspCiWrite k v) ∨ (∃ v, c = .mbxEnWrite k v) ∨ c = .mbxDrainTimeout k ∨
        c = Instr.mbxForceOff k)) →
      ∃ t, exec c s = .next (settle t) ∧ BlocksOnly [BLK_MBX] s t ∧
        t = { s with regs := t.regs, flues := t.flues, mbxs := t.mbxs, dops := t.dops, twn := t.twn }) ∧
    ((c = .svcStatus ∨ (∃ n, c = .stageOpen n) ∨ (∃ n d k, c = .stageWrite n d k) ∨ c = .svcApply ∨ c = .patchApplyDone ∨ c = .svcAbort ∨
        (∃ a b, c = .svcActivate a b) ∨ (∃ a, c = .componentSwap a) ∨ c = Instr.componentSwapTimeout) →
      ∃ t, exec c s = .next (settle t) ∧ BlocksOnly [BLK_SVC] s t ∧
        t = { s with regs := t.regs, flues := t.flues, flash := t.flash, upd := t.upd, out := t.out, dops := t.dops, twn := t.twn }) ∧
    ((c = .heartbeatSend ∨ (∃ b, c = .heartbeatReceived b) ∨ c = .heartbeatMissed ∨ (∃ f, c = .twinSigFrame f) ∨
        (∃ f, c = .twinCmdStatusFrame f) ∨ (∃ f, c = .twinHandoverFrame f) ∨ (∃ f, c = .twinJoinReqFrame f) ∨ (∃ f, c = .twinHealthFrame f) ∨
        (∃ f, c = .twinFrameError f) ∨ c = .sigTimeout ∨ c = .joinTimeout ∨ (∃ a b g, c = .healthSend a b g) ∨ c = .healthMissing ∨
        c = .handoverTimeout ∨ c = Instr.switchClearDone) →
      ∃ t, exec c s = .next (settle t) ∧ BlocksOnly [BLK_TWN] s t ∧
        t = { s with regs := t.regs, flues := t.flues, twn := t.twn, fbxs := t.fbxs, out := t.out })

/-- A host write by its access codes (R7, R8, R9, R139): RO, RC and WO fields and reserved bits keep what they hold, RW takes the value, RWL
only while open, W1C clears and W1S sets the bits written 1; a privileged field keeps its live value and takes a staged one. -/
def Obligations.HostWritesFollowAccessCodes : Prop :=
  ∀ (s : State) (blk h i w : Nat) (opn : Bool) (v : Word),
    let t := stored blk opn h i w v s
    (∀ f ∈ wordFields blk i w, f.priv = false → ∀ k, f.lo ≤ k → k < f.lo + f.len →
      (t.rd h i blk w).getLsbD k = match f.acc with
        | .ro | .rc | .wo => (s.rd h i blk w).getLsbD k
        | .rw => v.getLsbD k
        | .rwl => if opn then v.getLsbD k else (s.rd h i blk w).getLsbD k
        | .w1c => (s.rd h i blk w).getLsbD k && !v.getLsbD k
        | .w1s => (s.rd h i blk w).getLsbD k || v.getLsbD k) ∧
    (∀ f ∈ wordFields blk i w, f.priv = true → ∀ k, f.lo ≤ k → k < f.lo + f.len →
      (t.rd h i blk w).getLsbD k = (s.rd h i blk w).getLsbD k ∧
      (f.acc = .rw → (t.stg h i blk w).getLsbD k = v.getLsbD k)) ∧
    (∀ k, (∀ f ∈ wordFields blk i w, ¬(f.lo ≤ k ∧ k < f.lo + f.len)) → (t.rd h i blk w).getLsbD k = (s.rd h i blk w).getLsbD k) ∧
    (∀ h' i' blk' w', i' < 16 → blk' < 256 → w' < 2048 → i < 16 → blk < 256 → w < 2048 → (h', i', blk', w') ≠ (h, i, blk, w) →
      t.rd h' i' blk' w' = s.rd h' i' blk' w')

/-- Register accesses by address (R6, R7, R8, R117, R267, R293, R372): a write reaches its one reachable target, an unreachable one sets WERR,
an ignored address is no error; a read of an RC word shows it and returns its RC fields to their reset values; a read of a low half
latches its high half, of TIM_SEC_LO the whole time; a write of an EVENT_EN word posts for every bit it turns on. The control port (R264
to R267): between CS_N's rise and the next opcode a WRITE fills the posted buffer, a READ waits for it and answers 0xA5 with its words or
0xE1 with zeros and RTMO, STATUS and ID answer, any other opcode drives nothing; buffered words take effect in order. The model's own
choices behind it: log 14, 17, 20, 21, 22. -/
def Obligations.RegisterReadsAndControlPort : Prop :=
  (∀ (s : State) (addr : Nat) (a : RegAddr), regAddr addr = some a →
     (∀ v, targets s a = [] → exec (.registerWrite addr v) s = .next (settle s)) ∧
     (∀ v h i, targets s a = [(h, i)] → targetUp s a (h, i) = true →
       exec (.registerWrite addr v) s = .next (settle (regWrite a.blk h i a.word v a.bcast s))) ∧
     (∀ v h i, targets s a = [(h, i)] → targetUp s a (h, i) = false →
       exec (.registerWrite addr v) s = .next (settle ((unreach s.crown s).fput 0 0 GLB_PORT_STATUS_WERR 1))) ∧
     (∀ v h i, targets s a = [(h, i)] → targetUp s a (h, i) = true → (eventEnWords a.blk).contains a.word = true →
       a.blk ≠ BLK_MBX → a.blk ≠ BLK_TWN → (a.bcast = true → wordFields a.blk i a.word ≠ []) →
       exec (.eventEnableWrite addr v) s =
         .next (settle (hostWrite a.blk (blockOpen a.blk) (eventEnableAct a.blk) h i a.word v a.bcast s))) ∧
     (∀ h i, targets s a = [(h, i)] → targetUp s a (h, i) = true → a.bcast = false → rcMask a.blk i a.word ≠ 0 →
       (a.blk = BLK_FLU → 0x80 ≤ a.word) → (a.blk = BLK_GRT → a.word ≠ GRT_TBL_DATA.word) →
       (a.blk = BLK_ISP → a.word ≠ ISP_DLUT_DATA.word) → tabGet (fun _ => 0) s.latches (rkey h a.blk i a.word) = 0 →
       ∃ t, exec (.rcRead addr) s = .next (settle t) ∧ t.out = .regRead addr (regPeek s a.blk h i a.word) :: s.out ∧
         t.rd h i a.blk a.word = (s.rd h i a.blk a.word &&& ~~~ rcMask a.blk i a.word) |||
           (wordReset a.blk i a.word &&& rcMask a.blk i a.word)) ∧
     (∀ h i w', targets s a = [(h, i)] → targetUp s a (h, i) = true → a.bcast = false → rcMask a.blk i a.word = 0 →
       (a.blk = BLK_FLU → 0x80 ≤ a.word) → (a.blk = BLK_GRT → a.word ≠ GRT_TBL_DATA.word) →
       (a.blk = BLK_ISP → a.word ≠ ISP_DLUT_DATA.word) → tabGet (fun _ => 0) s.latches (rkey h a.blk i a.word) = 0 →
       w' ∈ latchedBy a.blk a.word →
       ∃ t, exec (.loHalfRead addr) s = .next (settle t) ∧ t.out = .regRead addr (regPeek s a.blk h i a.word) :: s.out ∧
         t.regs = s.regs ∧ (regRead a.blk h i w' t).1 = regPeek s a.blk h i w') ∧
     (s.hasH 0 = true → tabGet (fun _ => 0) s.latches (rkey 0 BLK_TIM 0 TIM_SEC_LO.word) = 0 →
       ∃ t, exec .timSecLoRead s = .next (settle t) ∧ t.out = .regRead (0x1A * 2 ^ 17 + 8) (BitVec.ofNat 32 s.tim.sec) :: s.out ∧
         (regRead BLK_TIM 0 0 TIM_NS.word t).1 = BitVec.ofNat 32 s.tim.ns ∧
         (regRead BLK_TIM 0 0 TIM_FRAC.word t).1 = BitVec.ofNat 32 s.tim.frac)) ∧
  (∀ (s : State),
     (s.portOpen = false → ∀ addr (ws : List Word), ws.length ≤ 256 → s.posted.length + ws.length ≤ 512 →
       exec (.qspiWrite addr ws) s = .next (settle { s with portOpen := true,
                                                            posted := s.posted ++ ws.zipIdx.map fun e => (burstAddr addr e.2, e.1) })) ∧
     (s.portOpen = true → (∀ addr ws, exec (.qspiWrite addr ws) s = .next (settle s)) ∧
       (∀ addr n late, exec (.qspiRead addr n late) s = .next (settle s)) ∧ exec .qspiStatus s = .next (settle s) ∧
       exec .qspiId s = .next (settle s)) ∧
     (s.portOpen = false → s.posted = [] → ∀ addr n,
       exec (.qspiRead addr n true) s = .next (settle ((({ s with portOpen := true } : State).fput 0 0 GLB_PORT_STATUS_RTMO 1).emit
         (.qspi (0xE1 :: List.replicate (4 * (n % 256 + 1)) 0)))) ∧
       (∀ ws t, busReads addr 0 (n % 256 + 1) { s with portOpen := true } = (some ws, t) →
         exec (.qspiRead addr n false) s = .next (settle (t.emit (.qspi (0xA5 :: wireWords ws)))) ∧ ws.length = n % 256 + 1) ∧
       (∀ t, busReads addr 0 (n % 256 + 1) { s with portOpen := true } = (none, t) →
         exec (.qspiRead addr n false) s = .next (settle ((t.fput 0 0 GLB_PORT_STATUS_RTMO 1).emit
           (.qspi (0xE1 :: List.replicate (4 * (n % 256 + 1)) 0)))))) ∧
     (s.portOpen = false →
       (∃ b, exec .qspiStatus s = .next (settle (({ s with portOpen := true } : State).emit (.qspi [b]))) ∧
         (b.getLsbD 0 = true ↔ s.posted ≠ [])) ∧
       exec .qspiId s = .next (settle (({ s with portOpen := true } : State).emit
         (.qspi (beBytes 4 (BitVec.ofNat 32 (0x5B00C000 + 65536 * s.nH + s.crown)).toNat)))) ∧
       ∀ op, (op ≠ 0x05 → op ≠ 0x9F → exec (.qspiUnknownOpcode op) s = .next (settle { s with portOpen := true })) ∧
         (op = 0x05 → exec (.qspiUnknownOpcode op) s = exec .qspiStatus s) ∧ (op = 0x9F → exec (.qspiUnknownOpcode op) s = exec .qspiId s)) ∧
     exec .qspiCsRise s = .next (settle { s with portOpen := false }) ∧
     (s.posted = [] → exec .postedWriteApply s = .next (settle s)) ∧
     (∀ addr v rest, s.posted = (addr, v) :: rest →
       exec .postedWriteApply s = .next (settle (writeRow addr v { s with posted := rest }))))

/-- The ring indices of MB0 and MB1 (R276): a PI or CI write that keeps its order takes effect, any other is ignored with PI_BAD; on MB2 and
MB3 both are read-only. Enable and disable of a channel (R295, R296): EN 1 enables an OFF channel, EN 0 with nothing outstanding reaches
OFF as DRAINED, else drains; the drain's timeout and FORCE_OFF end every deferred command ABORTED and the channel as ABORTED. The model's
own choices behind it: log 14. -/
def Obligations.RingIndexWritesAndChannelEnable : Prop :=
  (∀ (s : State) (ch : Nat) (v : Word), ch < 4 →
     let pi := v.toNat % 65536
     (ch < 2 → ringDiff pi (mget s ch MBX_CMD_CI_V) ≤ 32 →
       ringDiff (mget s ch MBX_CMD_PI_V) (mget s ch MBX_CMD_CI_V) ≤ ringDiff pi (mget s ch MBX_CMD_CI_V) →
       exec (.cmdPiWrite ch v) s = .next (settle (stored BLK_MBX true s.crown ch MBX_CMD_PI.word v s)) ∧
       mget (stored BLK_MBX true s.crown ch MBX_CMD_PI.word v s) ch MBX_CMD_PI_V = pi) ∧
     (ch < 2 → (32 < ringDiff pi (mget s ch MBX_CMD_CI_V) ∨
         ringDiff pi (mget s ch MBX_CMD_CI_V) < ringDiff (mget s ch MBX_CMD_PI_V) (mget s ch MBX_CMD_CI_V)) →
       ∃ t, exec (.cmdPiWrite ch v) s = .next (settle t) ∧ mget t ch MBX_CMD_PI_V = mget s ch MBX_CMD_PI_V ∧
         t.fon s.crown ch MBX_EVENT_PI_BAD = true ∧ t.mbxs = s.mbxs) ∧
     (ch < 2 → ringDiff (mget s ch MBX_RSP_PI_V) pi ≤ 32 →
       ringDiff (mget s ch MBX_RSP_PI_V) pi ≤ ringDiff (mget s ch MBX_RSP_PI_V) (mget s ch MBX_RSP_CI_V) →
       ∃ t, exec (.rspCiWrite ch v) s = .next (settle t) ∧ mget t ch MBX_RSP_CI_V = pi) ∧
     (ch < 2 → (32 < ringDiff (mget s ch MBX_RSP_PI_V) pi ∨
         ringDiff (mget s ch MBX_RSP_PI_V) (mget s ch MBX_RSP_CI_V) < ringDiff (mget s ch MBX_RSP_PI_V) pi) →
       ∃ t, exec (.rspCiWrite ch v) s = .next (settle t) ∧ mget t ch MBX_RSP_CI_V = mget s ch MBX_RSP_CI_V ∧
         t.fon s.crown ch MBX_EVENT_PI_BAD = true) ∧
     (2 ≤ ch → exec (.cmdPiWrite ch v) s = .next (settle s) ∧ exec (.rspCiWrite ch v) s = .next (settle s))) ∧
  (∀ (s : State) (ch : Nat), ch < 4 →
     (∀ v : Word, v &&& 3#32 = 1#32 → mget s ch MBX_CTRL_EN = 0 → mget s ch MBX_STATUS_STATE = 0 →
       ∃ t, exec (.mbxEnWrite ch v) s = .next (settle t) ∧ mget t ch MBX_STATUS_STATE = 1 ∧ mget t ch MBX_CTRL_EN = 1 ∧ t.mbxs = s.mbxs) ∧
     (∀ v : Word, v &&& 3#32 = 0#32 → mget s ch MBX_CTRL_EN = 1 → (s.mbx ch).outst = [] → (s.mbx ch).again = false →
       ∃ t, exec (.mbxEnWrite ch v) s = .next (settle t) ∧ mget t ch MBX_STATUS_STATE = 0 ∧ mget t ch MBX_STATUS_DRAIN_RESULT = 3 ∧
         t.fon s.crown ch MBX_EVENT_DRAIN_DONE = true) ∧
     (∀ v : Word, v &&& 3#32 = 0#32 → mget s ch MBX_CTRL_EN = 1 → (s.mbx ch).outst ≠ [] →
       ∃ t, exec (.mbxEnWrite ch v) s = .next (settle t) ∧ mget t ch MBX_STATUS_STATE = 2 ∧ t.mbxs = s.mbxs) ∧
     (mget s ch MBX_STATUS_STATE = 2 → (s.mbx ch).again = false → s.twn.cmds = [] → s.twn.heldCmds = [] →
       ∃ t, exec (.mbxDrainTimeout ch) s = .next (settle t) ∧ mget t ch MBX_STATUS_STATE = 0 ∧ mget t ch MBX_STATUS_DRAIN_RESULT = 4 ∧
         t.dops = s.dops.filter (fun d => d.ch != ch) ∧
         (t.mbx ch).waiting = (s.mbx ch).waiting ++
           (s.dops.filter fun d => d.ch == ch).map (fun d => respEntry d.op d.tag 4 0 d.gen [])) ∧
     (s.twn.cmds = [] → s.twn.heldCmds = [] →
       ∃ t, exec (.mbxForceOff ch) s = .next (settle t) ∧ mget t ch MBX_STATUS_STATE = 0 ∧ mget t ch MBX_STATUS_DRAIN_RESULT = 4 ∧
         mget t ch MBX_CTRL_EN = 0 ∧ t.dops = s.dops.filter (fun d => d.ch != ch)))

/-- Entries and responses (R277 to R280, R304): an entry is taken only where none of the rules holds it back, CI passes it and it is served,
or answered BAD_OPCODE; the oldest waiting response enters slot RSP_PI mod 32 of a ring with space and a final one frees its tag; the
doorbell word; the pause. The model's own choices behind it: log 14, 107, 156. -/
def Obligations.EntriesTakenAndResponsesWritten : Prop :=
  ∀ (s : State) (ch : Nat), ch < 4 →
    (canTake' s ch = false → exec (.mailboxCommandTaken ch) s = .next (settle s)) ∧
    (s.paused = true → canTake' s ch = false) ∧
    (let e := getEntry s ch (mget s ch MBX_CMD_CI_V % 32)
     canTake' s ch = true → (s.mbx ch).oldLeft = 0 → (bit (byteAt e 3) 0 = false ∨ (s.mbx ch).outst = []) →
       (∀ sp, specOf (entOp e) = some sp →
         exec (.mailboxCommandTaken ch) s = .next (settle (serveRow sp (cmdOf ch e) (tookEntry ch s)))) ∧
       (specOf (entOp e) = none → (s.mbx ch).outst.contains (entTag e) = false →
         ∃ t, exec (.mailboxCommandTaken ch) s = .next (settle t) ∧
           mget t ch MBX_CMD_CI_V = (mget s ch MBX_CMD_CI_V + 1) % 65536 ∧
           (t.mbx ch).outst = (s.mbx ch).outst ++ [entTag e] ∧
           (t.mbx ch).waiting = (s.mbx ch).waiting ++ [respEntry (entOp e) (entTag e) 0x10 0 (entGen e) []])) ∧
    (let e := getEntry s ch (mget s ch MBX_CMD_CI_V % 32)
     bit (byteAt e 3) 0 = true → (s.mbx ch).outst ≠ [] → exec (.mailboxCommandTaken ch) s = .next (settle s)) ∧
    (rspFull s ch = true ∨ s.paused = true → exec (.responseWritten ch) s = .next (settle s)) ∧
    (∀ e rest, ch < 2 → s.paused = false → rspFull s ch = false → (s.mbx ch).waiting = e :: rest →
      (s.mbx ch).lostTags.contains (entTag e) = false →
      ∃ t, exec (.responseWritten ch) s = .next (settle t) ∧ (t.mbx ch).waiting = rest ∧
        mget t ch MBX_RSP_PI_V = (mget s ch MBX_RSP_PI_V + 1) % 65536 ∧
        (∀ i, i < 16 → t.rd s.crown ch BLK_MBX (1024 + 16 * (mget s ch MBX_RSP_PI_V % 32) + i) = BitVec.ofNat 32 (leAt e (4 * i) 4)) ∧
        t.fon s.crown ch MBX_EVENT_RSP = true ∧
        (t.mbx ch).outst = (if entFinal e then (s.mbx ch).outst.filter (fun g => g != entTag e) else (s.mbx ch).outst)) ∧
    (∀ at', mget s ch MBX_CTRL_RSP_DB = 1 → (s.mbx ch).sinceDb ≠ 0 → (s.mbx ch).dbAt = some at' → at' + 400 ≤ s.now →
      exec (.doorbellPush ch) s = .next (settle (fluePush s.crown (mget s ch MBX_CTRL_RSP_FQ)
        (BitVec.ofNat 32 (0xF * 2 ^ 28 + ch * 2 ^ 24 + (s.mbx ch).sinceDb * 2 ^ 16 + mget s ch MBX_RSP_PI_V))
        (s.setMbx ch { s.mbx ch with sinceDb := 0, dbAt := some s.now })))) ∧
    (∀ at', (s.mbx ch).dbAt = some at' → s.now < at' + 400 → exec (.doorbellPush ch) s = .next (settle s)) ∧
    (s.paused = false → ∃ t, exec .mailboxPause s = .next (settle t) ∧ t.paused = true ∧ t.mbxs = s.mbxs ∧
      t.fon s.crown ch MBX_EVENT_PAUSED = true) ∧
    (s.paused = true → ∃ t, exec .mailboxResume s = .next (settle t) ∧ t.paused = false ∧ t.mbxs = s.mbxs ∧
      t.fon s.crown ch MBX_EVENT_RESUMED = true)

/-- Sessions over UDP (R281 to R286): a HELLO by the channel's state and binding; a REQUEST answered by one ACK with its XID and the entries
placed; a RACK ends the datagrams of its RSEQ; a rejected datagram counts in UDP_REJ; an unanswered response goes again until RETRY; ARP
and ICMP answered. Retransmission, ARP and ICMP (R281, R286): an unanswered response goes again, its superseded entries left out, until
RETRY is reached and it is dropped; an ARP request for the device is answered and remembered; an ICMP echo is answered with its data. The
model's own choices behind it: log 14, 16, 103, 104, 110. -/
def Obligations.UdpSessionsRetransmissionArpAndEcho : Prop :=
  (∀ (s : State) (frame : List Byte) (u : UdpIn), udpParse s frame = some u →
     (udpKind s u = .hello →
       let st := mget s u.ch MBX_STATUS_STATE
       (st = 0 ∨ st = 2 → exec (.udpHello frame) s = .next (settle (udpReject u 6 s))) ∧
       (st ≠ 0 → st ≠ 2 → mget s u.ch MBX_UDP_EPOCH_BOUND = 0 → ∃ t, exec (.udpHello frame) s = .next (settle t) ∧
         mget t u.ch MBX_UDP_EPOCH_BOUND = 1 ∧ mget t u.ch MBX_UDP_PEER = u.ip % 2 ^ 32 ∧
         mget t u.ch MBX_UDP_PEER_PORT_V = u.port % 2 ^ 16 ∧ mget t u.ch MBX_UDP_EPOCH_EPOCH = leAt u.data 4 2) ∧
       (st ≠ 0 → st ≠ 2 → mget s u.ch MBX_UDP_EPOCH_BOUND ≠ 0 → fromPeer s u = true → epochDiff s u < 0 →
         exec (.udpHello frame) s = .next (settle (udpReject u 1 (udpHeard u s)))) ∧
       (st ≠ 0 → st ≠ 2 → mget s u.ch MBX_UDP_EPOCH_BOUND ≠ 0 → fromPeer s u = true → epochDiff s u = 0 →
         exec (.udpHello frame) s = .next (settle (helloAck u (udpHeard u s)))) ∧
       (st ≠ 0 → st ≠ 2 → mget s u.ch MBX_UDP_EPOCH_BOUND ≠ 0 → fromPeer s u = true → 0 < epochDiff s u →
         ∃ t, exec (.udpHello frame) s = .next (settle t) ∧ mget t u.ch MBX_UDP_EPOCH_EPOCH = leAt u.data 4 2 ∧
           t.fon s.crown u.ch MBX_EVENT_EPOCH = true ∧ (t.mbx u.ch).recs = [] ∧ (t.mbx u.ch).waiting = [] ∧
           (∀ g ∈ (t.mbx u.ch).outst, g ∈ (t.mbx u.ch).lostTags)) ∧
       (st ≠ 0 → st ≠ 2 → mget s u.ch MBX_UDP_EPOCH_BOUND ≠ 0 → fromPeer s u = false → peerIdle s u.ch = false →
         exec (.udpHello frame) s = .next (settle (udpReject u 4 s)))) ∧
     (udpKind s u = .request → ∃ n t, exec (.udpRequest frame) s =
         .next (settle (udpSend u.ch u.ip u.port (mbxDatagram t u.ch 2 (leAt u.data 8 4) n []) t)) ∧ n ≤ byteAt u.data 6 ∧
       (∀ g, (s.mbx u.ch).outst.contains g = (t.mbx u.ch).outst.contains g)) ∧
     (udpKind s u = .rack → ∃ t, exec (.udpRack frame) s = .next (settle t) ∧ t.regs = s.regs ∧ t.out = s.out ∧
       (t.mbx u.ch).sent = (s.mbx u.ch).sent.filter fun o => o.rseq != leAt u.data 8 4) ∧
     (∀ r, udpKind s u = .reject r → ∃ t, exec (.udpReject frame) s = .next (settle t) ∧
       mget t u.ch MBX_UDP_REJ = satAdd32 (mget s u.ch MBX_UDP_REJ) 1 ∧ t.fon s.crown u.ch MBX_EVENT_UDP_REJECT = true)) ∧
  (∀ (s : State),
     (∀ ch rseq o, (ch = 2 ∨ ch = 3) → (s.mbx ch).sent.find? (fun o => o.rseq == rseq) = some o →
       (o.entries.filter fun e => !superseded s ch e) ≠ [] → o.tries < mget s ch MBX_UDP_RETRY →
       ∃ t, exec (.responseRetransmit ch rseq) s = .next (settle t) ∧ mget t ch MBX_RETX = satAdd32 (mget s ch MBX_RETX) 1 ∧
         (t.mbx ch).sent = (s.mbx ch).sent.map fun p => if p.rseq == rseq then
           { p with entries := o.entries.filter fun e => !superseded s ch e, tries := p.tries + 1 } else p) ∧
     (∀ ch rseq o, (ch = 2 ∨ ch = 3) → (s.mbx ch).sent.find? (fun o => o.rseq == rseq) = some o →
       (o.entries.filter fun e => !superseded s ch e) ≠ [] → mget s ch MBX_UDP_RETRY ≤ o.tries →
       ∃ t, exec (.responseRetransmit ch rseq) s = .next (settle t) ∧ t.fon s.crown ch MBX_EVENT_RSP_DROP = true ∧
         mget t ch MBX_RSP_LOST = satAdd32 (mget s ch MBX_RSP_LOST) (o.entries.filter fun e => !superseded s ch e).length ∧
         (t.mbx ch).sent = (s.mbx ch).sent.filter fun p => p.rseq != rseq) ∧
     (∀ frame f, stripFcs frame = some f → beAt f 12 2 = 0x0806 → beAt (f.drop 14) 0 2 = 1 → beAt (f.drop 14) 2 2 = 0x0800 →
       beAt (f.drop 14) 6 2 = 1 → beAt (f.drop 14) 24 4 = ownIp s → beAt (f.drop 14) 14 4 ≠ ownIp s →
       ∃ t, exec (.arpReceived frame) s = .next (settle t) ∧ t.regs = s.regs ∧
         t.arp.head? = some (beAt (f.drop 14) 14 4, beAt (f.drop 14) 8 6, s.now) ∧
         t.out.head? = some (etherSent 0 (withFcs (padTo 60 (beBytes 6 (beAt (f.drop 14) 8 6) ++ beBytes 6 (ownMac s) ++ beBytes 2 0x0806 ++
           arpBody 2 (ownMac s) (ownIp s) (beAt (f.drop 14) 8 6) (beAt (f.drop 14) 14 4)))))) ∧
     (∀ frame p, ipParse s frame = some p → byteAt p 9 = 1 → 8 ≤ (p.drop 20).length → beAt (p.drop 20) 0 2 = 0x0800 →
       ipCheck (p.drop 20) = 0 →
       ∃ ck, exec (.icmpEchoReceived frame) s =
         .next (settle (ipSend (beAt p 12 4) 1 ([0, 0] ++ beBytes 2 ck ++ (p.drop 20).drop 4) s))))

/-- Every command of the set (R277, R299, R301, R303 to R305, R361): its row has its opcode, class and kind of response; taken from a channel,
a tag in use is refused BUSY, a bad LEN, a forbidding mode and a bad field end it in that order, and one whose checks pass on every hearth
it names runs there, lowest hearth first, with ACCEPTED before where it completes later, or is scheduled with its standby. The model's own
choices behind it: log 14, 16, 111, 150. -/
def Obligations.CommandRowsServed : Prop :=
  ∀ (mk : Cmd → Instr) (op : Nat) (cl : CmdClass) (hs : Bool), CommandRow (mk, op, cl, hs) →
    ∃ sp, specOf op = some sp ∧ sp.op = op ∧ sp.cls = cl ∧ sp.hstat = hs ∧ ∀ (c : Cmd) (s : State),
      (4 ≤ c.ch → c.ch < 8 → exec (mk c) s = .next (settle s)) ∧
      (8 ≤ c.ch → exec (mk c) s = .next (settle (inJunior (serveRow sp { c with ch := c.ch - 8 }) s))) ∧
      (c.ch < 4 → (s.mbx c.ch).outst.contains c.tag = true → ∃ t, exec (mk c) s = .next (settle t) ∧
        (t.mbx c.ch).waiting = (s.mbx c.ch).waiting ++ [respEntry (entOp (cmdEntry op c)) (entTag (cmdEntry op c)) 0x14 1 (entGen (cmdEntry op c)) []] ∧
        t.dops = s.dops ∧ mget t c.ch MBX_DUP_TAG = satAdd32 (mget s c.ch MBX_DUP_TAG) 1 ∧ t.fon s.crown c.ch MBX_EVENT_DUP_TAG = true) ∧
      (c.ch < 4 → (s.mbx c.ch).outst.contains c.tag = false →
        (56 < c.len → Answers (mk c) op c s 0x11 [] (opened c s)) ∧
        (c.len ≤ 56 → modeDenies (opened c s) sp = true → Answers (mk c) op c s 0x15 [] (opened c s)) ∧
        (c.len ≤ 56 → modeDenies (opened c s) sp = false → (c.len < sp.size c ∨ sp.ok (opened c s) c = false) →
          Answers (mk c) op c s 0x11 [] (opened c s))) ∧
      (Ready sp c s →
        let o := if sp.later c = true ∧ bit c.flags 1 = false then answer c op 0x01 [] (opened c s) else opened c s
        let g := runOn sp c (sp.named (opened c s) c) o
        (allKnown g.hs = true → Answers (mk c) op c s (worst g.hs) (if hs then hsBytes g.hs else g.pay) g.s) ∧
        (allKnown g.hs = false → ∃ t d, exec (mk c) s = .next (settle t) ∧ t = { g.s with dops := g.s.dops ++ [d] } ∧ d.ch = c.ch ∧
          d.tag = c.tag ∧ d.op = op ∧ d.hs = g.hs ∧ d.cmd = c)) ∧
      (Passes sp c s → sp.cls = .p → twnLeads (opened c s) = true →
        exec (mk c) s = .next (settle (twinSchedule sp c (sp.named (opened c s) c)
          (if sp.later c = true ∧ bit c.flags 1 = false then answer c op 0x01 [] (opened c s) else opened c s))))

/-- What system, register, time, update and event commands do where they are ready (R308, R309, R318, R321, R322). The model's own choices
behind it: log 112, 114. -/
def Obligations.SystemRegisterAndTimeCommands : Prop :=
  ∀ (c : Cmd) (s : State), s.crown < 8 →
    let o := opened c s
    (Ready cmdSysInfo c s → Answers (.sysInfo c) 0x0100 c s 0 ([3, BitVec.ofNat 8 s.nH, 0xC0, BitVec.ofNat 8 s.crown, BitVec.ofNat 8 s.mode,
      BitVec.ofNat 8 s.leadSel, 0, 0] ++ leBytes 4 (compVer s 0) ++ leBytes 4 (compVer s 4)) o) ∧
    (Ready cmdSysNop c s → Answers (.sysNop c) 0x0106 c s 0 ((pay c).take c.len) o) ∧
    (Ready cmdSysAttach c s → ∃ t, Answers (.sysAttach c) 0x0101 c s 0 (leBytes 1 s.mode) t ∧ t.hostId = u32 c 0 ∧
      (s.mode = 2 → t.mode = 2) ∧ (s.mode = 0 → t.mode = 0 ∧ t.attachDue = true) ∧
      (s.mode = 1 → aloneBusy s = false → t.mode = 2 ∧ t.alone = { s.alone with active := false })) ∧
    (Ready cmdSysDetach c s → ∃ u, Answers (.sysDetach c) 0x0102 c s 0 [] (standAlone u) ∧ u.mode = 1 ∧
      u.alone = { s.alone with active := true }) ∧
    (Ready cmdSysReset c s → Answers (.sysReset c) 0x0104 c s 0 [] { o with resetDue := some (u8 c 2, u8 c 3) }) ∧
    (Ready cmdRegRead c s → ∀ ws t, busReads (u32 c 0) 0 (u8 c 4) o = (some ws, t) →
      Answers (.regRead c) 0x0200 c s 0 (ws.flatMap fun w => leBytes 4 w.toNat) t) ∧
    (Ready cmdRegRead c s → ∀ t, busReads (u32 c 0) 0 (u8 c 4) o = (none, t) → Answers (.regRead c) 0x0200 c s 0x31 [] t) ∧
    (Ready cmdRegWrite c s → ∀ h, hearthsOf o (u32 c 0) = [h] → h < 8 → u8 c 4 = 1 →
      Answers (.regWrite c) 0x0201 c s 0 [] (writeAt h (burstAddr (u32 c 0) 0) (uW c 8) o)) ∧
    (Ready cmdTimeGet c s → Answers (.timeGet c) 0x0B00 c s 0 (leBytes 8 s.tim.sec ++ leBytes 4 s.tim.ns ++ leBytes 4 s.tim.frac ++
      leBytes 8 (s.get64 0 0 TIM_INC_LO) ++ leBytes 4 (tget s TIM_STATUS_FROZEN + 2 * tget s TIM_STATUS_PATH_STEP)) o) ∧
    (Ready cmdTimeSet c s → ∃ t, Answers (.timeSet c) 0x0B01 c s 0 [] t ∧
      t.tim = { s.tim with set := some (u64 c 0, u32 c 8), adj := none }) ∧
    (Ready cmdTimeAdj c s → s.tim.set = none → ∃ t, Answers (.timeAdj c) 0x0B03 c s 0 [] t ∧
      t.tim = { s.tim with adj := some (toS 64 (u64 c 0)) }) ∧
    (Ready cmdTimeUnfreeze c s → ∃ t, Answers (.timeUnfreeze c) 0x0B06 c s 0 [] t ∧ tget t TIM_STATUS_FROZEN = 0 ∧
      t.tim = { s.tim with hist := [], suspects := 0 }) ∧
    (Ready cmdUpdAbort c s → ∃ t, Answers (.updAbort c) 0x0E04 c s 0 [] t ∧ t.upd.jour = none) ∧
    (Ready cmdEvtFirmware c s → Answers (.evtFirmware c) 0x0F03 c s 0 []
      { o with fwQueue := u8 c 0, fwSevMin := u8 c 1, fwFamilies := u16 c 2 })

/-- What page, layer, screen, Ash, motion and inspection commands do where they are ready on one hearth (R311 to R313, R316, R317). The
model's own choices behind it: log 47, 53, 116, 118, 174. -/
def Obligations.PageLayerAndTableCommands : Prop :=
  ∀ (c : Cmd) (s : State) (h : Nat), h < 8 →
    let o := opened c s
    let pg := u32 c 4
    (nameMask o c = [h] → Ready cmdPageCommit c s → ∃ t, Answers (.pageCommit c) 0x0401 c s 0 (oneStat h 0) t ∧
      (t.ter h).queue = (s.ter h).queue ++ [pg] ∧
      (findPage t h pg).map (fun q => (q.st, q.terrs, q.reprint)) = some (.committed, descriptors s h, false)) ∧
    (nameMask o c = [h] → Ready cmdPageReprint c s → ∀ p, findPage s h pg = some p → ∃ t,
      Answers (.pageReprint c) 0x0402 c s 0 (oneStat h 0) t ∧
      (p.st = .retired → (t.ter h).queue = (s.ter h).queue ++ [pg] ∧ (findPage t h pg).map (fun q => (q.st, q.reprint)) = some (.committed, true)) ∧
      (p.st ≠ .retired → t.ter h = s.ter h ∧ findPage t h pg = some { p with defer := false })) ∧
    (nameMask o c = [h] → Ready cmdPageRelease c s → ∀ p, findPage s h pg = some p → p.st ≠ .complete → p.st ≠ .retired →
      ∃ t, Answers (.pageReleaseCmd c) 0x0403 c s 2 (oneStat h 2) t ∧ (findPage t h pg).map Page.defer = some true) ∧
    (nameMask o c = [h] → Ready cmdPageWithdraw c s → ∀ p, findPage s h pg = some p → ∃ t,
      Answers (.pageWithdraw c) 0x0405 c s 0 (oneStat h 0) t ∧ (t.ter h).queue = (s.ter h).queue.filter (fun q => q != pg) ∧
      (findPage t h pg).map Page.st = some (if p.reprint then .retired else .complete)) ∧
    (nameMask o c = [h] → Ready cmdPageDeclare c s → ∃ t, Answers (.pageDeclare c) 0x0406 c s 0 (oneStat h 0) t ∧
      (findPage t h pg).map (fun q => (q.st, q.lines, q.declared, q.slots)) = some (.complete, u32 c 8, true, [])) ∧
    (u8 c 0 = h → Ready cmdLayerLbs c s → Answers (.layerLbs c) 0x0509 c s 0
      (leBytes 8 (lbMask s h LBuf.used) ++ leBytes 8 (lbMask s h fun b => b.used && b.freeing)) o) ∧
    (u8 c 0 = h → Ready cmdLayerFree c s → (lbReferenced s h (u8 c 1) = true → ∃ t, Answers (.layerFree c) 0x0508 c s 2 [] t ∧
        t.lbuf h (u8 c 1) = { s.lbuf h (u8 c 1) with freeing := true }) ∧
      (lbReferenced s h (u8 c 1) = false → ∃ t, Answers (.layerFree c) 0x0508 c s 0 [] t ∧ t.lbuf h (u8 c 1) = {})) ∧
    (nameMask o c = [h] → Ready cmdScreenWrite c s → u8 c 4 = 1 → u16 c 2 ≤ grtLast (u8 c 1) → s.fon h 0 GRT_STATUS_COPY = false →
      ∃ t, Answers (.screenWrite c) 0x0601 c s 0 (oneStat h 0) t ∧ t.grt h (actBank s h) = s.grt h (actBank s h) ∧
        tabGet dfltGrt (t.grt h (1 - actBank s h)) (65536 * u8 c 1 + u16 c 2) = u32 c 8 % grtMask (u8 c 1)) ∧
    (u8 c 0 = h → Ready cmdAshGet c s → u8 c 4 = 1 → Answers (.ashGet c) 0x0605 c s 0 (leBytes 4 (s.ash h (u16 c 2)).toNat) o) ∧
    (u8 c 0 = h → Ready cmdAshPut c s → u8 c 1 = 1 → Answers (.ashPut c) 0x0606 c s 0 [] (o.setAsh h (u16 c 2) (uW c 4))) ∧
    (u8 c 0 = h → Ready cmdAshPush c s → (ashPush h (u16 c 2) (u64 c 8) (uW c 4) o).2 = true →
      Answers (.ashPush c) 0x0607 c s 0 (leBytes 2 ((ashPush h (u16 c 2) (u64 c 8) (uW c 4) o).1.ter h).ashQ.length)
        (ashPush h (u16 c 2) (u64 c 8) (uW c 4) o).1) ∧
    (Ready cmdMotMove c s → u8 c 0 / 4 = h → u8 c 3 = 0 → ∃ t m, Answers (.motMove c) 0x0903 c s 0 (leBytes 1 (t.mget (u8 c 0) MOT_STATUS_DEPTH)) t ∧
      (t.axis (u8 c 0)).queue = (s.axis (u8 c 0)).queue ++ [m] ∧ m.target = moveTarget s c ∧ m.blend = decide (u8 c 2 = 1)) ∧
    (u8 c 0 = h → Ready cmdInspDlut c s → u8 c 1 = 1 → ∃ t, Answers (.inspDlut c) 0x0A07 c s 0 [] t ∧ t.regs = s.regs ∧
      tabGet (fun _ => 0) (t.isp h).dlut (u16 c 2) = u16 c 8)

/-- Commands that complete later (R305, R309 to R311, R314, R317): once every hearth has its status the final response is produced with the
worst of them and the command leaves; one whose own time is over ends TIMEOUT on what it still waits for; a PRBS test ends by clearing its
bits. The model's own choices behind it: log 4, 14. -/
def Obligations.DeferredCommandsEnd : Prop :=
  ∀ (s : State),
    (∀ d sp, s.dops = [d] → s.alone.script = [] → s.twn.heldCmds = [] → s.junior.on = false → specOf d.op = some sp → d.ch < 4 → d.cmd.ch < 4 →
      (allKnown (pollDop sp s d).hs = true → (settle s).dops = [] ∧ ((settle s).mbx d.cmd.ch).waiting = (s.mbx d.cmd.ch).waiting ++
        [respEntry sp.op d.cmd.tag (worst (pollDop sp s d).hs) 0 d.cmd.gen
          (if sp.hstat then hsBytes (pollDop sp s d).hs else sp.fin (pollDop sp s d) { s with dops := [] })]) ∧
      (allKnown (pollDop sp s d).hs = false → (settle s).dops = [pollDop sp s d] ∧ (settle s).mbxs = s.mbxs)) ∧
    (∀ ch tag, ch < 8 →
      let ended (op : Nat) : State := { s with dops := s.dops.map fun d => if d.op = op ∧ d.ch = ch ∧ d.tag = tag then
        { d with hs := d.hs.map fun v => if v < 256 then v else 0x31 } else d }
      exec (.regPollTimeout ch tag) s = .next (settle (ended 0x0203)) ∧ exec (.pageWaitTimeout ch tag) s = .next (settle (ended 0x0407)) ∧
      exec (.headPowerTimeout ch tag) s = .next (settle (ended 0x0701))) ∧
    (s.geo = none → exec .geomCalTimeout s = .next (settle s)) ∧
    (s.geo.isSome = true → ∃ t, exec .geomCalTimeout s = .next (settle t) ∧ t.geo = none ∧ t.geoRes.1 = 0x31 + 1 ∧ t.freeCtr = s.freeCtr + 1) ∧
    (∀ h l, (laneOk s h l = false ∨ (s.lane h l).test = none) → exec (.prbsTestEnd h l) s = .next (settle s)) ∧
    (∀ h l o, laneOk s h l = true → (s.lane h l).test = some o → ∃ t, exec (.prbsTestEnd h l) s = .next (settle t) ∧ (t.lane h l).test = none ∧
      t.fon h l TST_PRBS_CTRL_GEN_EN = false ∧ t.fon h l TST_PRBS_CTRL_CHK_EN = false ∧ t.fget h l TST_PRBS_CTRL_LOOPBACK = 0)

/-- Entering a lane state shows it in LANE_STATUS.STATE, an exit from UP sets DOWN, entry to UP sets UP and entry to FAIL sets TIMEOUT (R25,
R26); starting an acquisition again also releases lock and alignment. Both touch the lane's own record, its status and events, the Gorge
instances' lanes and Flue queues only. The rows that move a lane between its states (R24, R25, R26, R45): where the state they leave is
the lane's state, each completes with the move. The write of LANE_CTRL stores its word, and then starts or stops the lane; a BOND that it
sets apart from the running other lane's is an error (R28); negotiation sends its word when it starts and again. The model's own choices
behind it: log 4, 14, 28. -/
def Obligations.LaneRowsMoveTheLane : Prop :=
  (∀ (s : State) (h l st : Nat), l < 16 → st < 8 →
     (laneSt (laneGo h l st s) h l = st ∧ LaneOnly h l s (laneGo h l st s) ∧
       (laneSt s h l = 5 → st ≠ 5 → (laneGo h l st s).fon h l LANE_EVENT_DOWN = true) ∧
       (laneSt s h l ≠ 5 → st = 5 → (laneGo h l st s).fon h l LANE_EVENT_UP = true) ∧
       (st = 7 → (laneGo h l st s).fon h l LANE_EVENT_TIMEOUT = true)) ∧
     (laneSt (laneRestart h l st s) h l = st ∧ LaneOnly h l s (laneRestart h l st s) ∧
       (laneRestart h l st s).fget h l LANE_STATUS_CDR_LOCK = 0 ∧ (laneRestart h l st s).fget h l LANE_STATUS_ALIGNED = 0 ∧
       (laneSt s h l = 5 → st ≠ 5 → (laneRestart h l st s).fon h l LANE_EVENT_DOWN = true))) ∧
  (∀ (s : State) (h l : Nat), laneOk s h l = true →
     (∀ v : Word,
       let t := stored BLK_LANE (laneOpen s h l 0) h l 0 v s
       let u := if isGorge l = true ∧ t.fon h l LANE_CTRL_BOND ≠ s.fon h l LANE_CTRL_BOND ∧ bondSplit t h = true ∧
         laneSt t h (1 - l) ≠ 0 then bondErr h t else t
       (laneSt u h l = 0 → u.fon h l LANE_CTRL_EN = true → modeOk l (u.fget h l LANE_CTRL_MODE) = true →
         exec (.laneEnWrite h l v) s = .next (settle (laneStart h l u))) ∧
       (laneSt u h l ≠ 0 → (u.fon h l LANE_CTRL_EN = false ∨ modeOk l (u.fget h l LANE_CTRL_MODE) = false) →
         exec (.laneEnWrite h l v) s = .next (settle (laneStop h l u))) ∧
       ((laneSt u h l = 0 ↔ (u.fon h l LANE_CTRL_EN = false ∨ modeOk l (u.fget h l LANE_CTRL_MODE) = false)) →
         exec (.laneEnWrite h l v) s = .next (settle u))) ∧
     (laneSt s h l = 1 →
       exec (.signalDetected h l) s = .next (settle ((laneGo h l 2 s).fput h l LANE_STATUS_SIGDET 1))) ∧
     (laneSt s h l = 2 →
       exec (.cdrLocked h l) s =
         .next (settle ((s.fput h l LANE_STATUS_CDR_LOCK 1).setLane h l { s.lane h l with periods := 0 }))) ∧
     (2 ≤ laneSt s h l → laneSt s h l ≤ 5 →
       exec (.signalLost h l) s = .next (settle (laneRestart h l 1 (s.fput h l LANE_STATUS_SIGDET 0))) ∧
       exec (.cdrLockLost h l) s = .next (settle (laneRestart h l 1 s))) ∧
     (3 ≤ laneSt s h l → laneSt s h l ≤ 5 →
       (isGorge l = true → exec (.alignmentLost h l) s = .next (settle (laneRestart h l 1 s))) ∧
       (isGorge l = false → exec (.saddleSyncLost h l) s = .next (settle (laneRestart h l 1 s)))) ∧
     (laneSt s h l = 3 → isGorge l = false →
       (anRuns s h l = true → exec (.saddleSyncAcquired h l) s = .next (settle (anStart h l (s.fput h l LANE_STATUS_ALIGNED 1)))) ∧
       (anRuns s h l = false → exec (.saddleSyncAcquired h l) s = .next (settle (saddleCheck h l s)))) ∧
     (laneSt s h l = 3 → anRuns s h l = true → s.fon h l LANE_STATUS_ALIGNED = true →
       exec (.autonegComplete h l true) s = .next (settle (saddleCheck h l s)) ∧
       exec (.autonegComplete h l false) s =
         .next (settle ((s.setLane h l { s.lane h l with anFailed := true }).raise h l LANE_EVENT_AN_FAIL))) ∧
     (laneSt s h l = 3 → (s.lane h l).anFailed = true →
       exec (.autonegRestart h l) s = .next (settle (anStart h l s))) ∧
     (1 ≤ laneSt s h l → laneSt s h l ≤ 4 → s.fon h l LANE_BRINGUP_TIMEOUT = true →
       exec (.bringupTimeout h l) s = .next (settle (laneGo h l 7 s))) ∧
     (laneSt s h l = 7 → s.fon h l LANE_BRINGUP_RETRY = true →
       exec (.failRetry h l) s = .next (settle (laneRestart h l 1 s))))

/-- Receiver adaptation (R35–R40): a FOM period records the figure of merit and its extremes, the idle count and both freezes follow R38's
listing, a recentre ends with DFE tap 1 at a value the spec leaves open, and a low eye degrades the lane. The model's own choices behind
it: log 2, 4, 6, 10, 14, 26, 30, 165. -/
def Obligations.LaneAdaptationRows : Prop :=
  ∀ (s : State) (h l : Nat), laneOk s h l = true →
    (∀ fom : Nat, 2 ≤ laneSt s h l → laneSt s h l ≤ 5 →
      ∃ t, exec (.fomPeriod h l fom) s = .next (settle t) ∧
        t.fget h l LANE_FOM_FOM = min fom 255 ∧
        t.fget h l LANE_FOM_FOM_MIN = min (min fom 255) (s.fget h l LANE_FOM_FOM_MIN) ∧
        t.fget h l LANE_FOM_FOM_MAX = max (min fom 255) (s.fget h l LANE_FOM_FOM_MAX)) ∧
    (laneSt s h l = 5 → s.fget h l LANE_FOM_FOM < s.fget h l LANE_ADAPT_FOM_FLOOR →
      exec (.lowFomDegraded h l) s =
        .next (settle ((s.fput h l LANE_STATUS_DEGRADED 1).raise h l LANE_EVENT_DEGRADED))) ∧
    (s.fon h l LANE_STATUS_RECENTRE = true →
      exec (.recentreDone h l) s = .next (settle (((s.free 8).2.fput h l LANE_STATUS_RECENTRE 0).fput h l
        LANE_ADAPT_STAT_DFE1 (Config.freeNat s.freeCtr % 2 ^ 8)))) ∧
    (2 ≤ laneSt s h l → laneSt s h l ≤ 5 → ∀ (u : LaneUnit),
      (∀ half, (isGorge l = true ∧ (∃ b p, u = .block b p ∧ (blockRead b p).1 = .idle) ∧ half = 257) ∨
          (isGorge l = false ∧ (∃ kb, u = .group kComma kb ∧ idleSecond (s.fget h l LANE_CTRL_MODE) kb = true) ∧ half = 40) →
        ∃ t, exec (.adaptUnitReceived h l u) s = .next (settle t) ∧
          (t.lane h l).idleHalf = (s.lane h l).idleHalf + half ∧
          ((t.lane h l).idleHold = true ↔ (s.lane h l).idleHold = true ∨ (s.fget h l LANE_ADAPT_IDLE_LIMIT ≠ 0 ∧
            2 * s.fget h l LANE_ADAPT_IDLE_LIMIT ≤ (s.lane h l).idleHalf + half)) ∧
          t.fget h l LANE_STATUS_FREEZE_WHY = freezeWhy t h l) ∧
      ((isGorge l = true ∧ ∃ b p, u = .block b p ∧ (blockRead b p).1 ≠ .idle) ∨
          (isGorge l = false ∧ ∃ a kb, u = .group a kb ∧ ¬ (a = kComma ∧ idleSecond (s.fget h l LANE_CTRL_MODE) kb = true) ∧
            (kb = kComma → a = kComma)) →
        ∃ t, exec (.adaptUnitReceived h l u) s = .next (settle t) ∧
          (t.lane h l).idleHalf = 0 ∧ (t.lane h l).idleHold = false ∧
          ((s.lane h l).idleHold = true → (t.lane h l).recentreDue = true) ∧
          t.fget h l LANE_STATUS_FREEZE_WHY = freezeWhy t h l) ∧
      ((isGorge l = true ∧ ∃ a kb, u = .group a kb) ∨ (isGorge l = false ∧ ∃ b p, u = .block b p) ∨
          (isGorge l = false ∧ ∃ a, u = .group a kComma ∧ a ≠ kComma) →
        exec (.adaptUnitReceived h l u) s = .next (settle s)))

/-- A received codeword (R17, R19, R25, R30): in CHECK and UP the row completes whatever the decoder answers; one it cannot correct is counted
in LANE_FEC_UNC, sets UNCORR and gives 20 errored blocks; a corrected one adds its symbol errors to LANE_FEC_SYM and one to LANE_FEC_CW,
an intact one neither. The descrambler takes in the bits received either way. Only in UP are the blocks delivered, under the logical lane,
and the frames they complete taken in order. Alignment codewords and code groups (R19, R20, R21, R22, R25, R27): a marker found in ALIGN
for the first time is remembered and the lane stays in ALIGN, the next in its place confirms it, and a codeword without one loses what was
found; in CHECK the codeword's IDs are tested, in UP they are shown, and its corrections are counted. A sent alignment codeword ends the
codewords since the one before, carries the bond ID and steps its sequence number. An invalid code group is counted; CHECK leaves for UP
on the group after a comma that an ordered set expects, and 32 inverted ones in a row invert the receive bits. The model's own choices
behind it: log 4, 14, 16, 25, 27, 28, 32, 166. -/
def Obligations.CodewordsAlignmentAndCodeGroups : Prop :=
  (∀ (s : State) (h l : Nat) (levels : List Nat),
     (laneAligned s h l = false ∨ levels.length ≠ 2720 → exec (.codewordReceived h l levels) s = .next (settle s)) ∧
     (laneAligned s h l = true → levels.length = 2720 →
       let syms := (rxSymbols s h l (rxInv s h l) levels).1
       let o := if s.fget h l TST_PRBS_CTRL_LOOPBACK = 2 then .echoed h l levels :: s.out else s.out
       ∃ fs t, exec (.codewordReceived h l levels) s = .next (settle (laneFrames h (logicalLane t h l) fs t)) ∧
         (laneSt s h l = 4 → fs = [] ∧ t.out = o) ∧
         match rsDecode syms with
         | none =>
           t.fon h l LANE_EVENT_UNCORR = true ∧ t.fget h l LANE_FEC_UNC = satAdd32 (s.fget h l LANE_FEC_UNC) 1 ∧
           t.fget h l LANE_FEC_SYM = s.fget h l LANE_FEC_SYM ∧
           (t.lane h l).descr = (blocksOf (s.lane h l).descr (symbolsToBits (syms.take 514))).2.2 ∧
           (laneSt s h l = 5 → t.out = .blocks h (logicalLane s h l) (List.replicate 20 .errored) :: o ∧
             fs = (collectBlocks (s.lane h l).rxFrame (List.replicate 20 .errored)).2)
         | some (w, k) =>
           t.fget h l LANE_FEC_SYM = (if k = 0 then s.fget h l LANE_FEC_SYM else satAdd32 (s.fget h l LANE_FEC_SYM) k) ∧
           t.fget h l LANE_FEC_CW = (if k = 0 then s.fget h l LANE_FEC_CW else satAdd32 (s.fget h l LANE_FEC_CW) 1) ∧
           t.fget h l LANE_FEC_UNC = s.fget h l LANE_FEC_UNC ∧
           (t.lane h l).descr = (blocksOf (s.lane h l).descr (symbolsToBits (w.take 514))).2.2 ∧
           (laneSt s h l = 5 → t.out = .blocks h (logicalLane s h l) (blocksOf (s.lane h l).descr (symbolsToBits (w.take 514))).1 :: o ∧
             fs = (collectBlocks (s.lane h l).rxFrame (blocksOf (s.lane h l).descr (symbolsToBits (w.take 514))).1).2))) ∧
  (∀ (s : State) (h l : Nat), laneOk s h l = true →
     (∀ levels : List Nat, isGorge l = true → levels.length = 2720 → 3 ≤ laneSt s h l → laneSt s h l ≤ 5 →
       ∃ t, exec (.alignmentCodewordReceived h l levels) s = .next (settle t) ∧
         (∀ msg k, alignmentMessage s h l (rxInv s h l) levels = some (msg, k) →
           t.fget h l LANE_STATUS_AM_LANE = msgNum msg 64 8 % 2 ^ LANE_STATUS_AM_LANE.len ∧
           t.fget h l LANE_FEC_SYM = (if k = 0 then s.fget h l LANE_FEC_SYM else satAdd32 (s.fget h l LANE_FEC_SYM) k) ∧
           (laneSt s h l = 3 → (s.lane h l).amFound = false → (t.lane h l).amFound = true ∧ laneSt t h l = 3) ∧
           (laneSt s h l = 3 → (s.lane h l).amFound = true → 4 ≤ laneSt t h l ∧ t.fon h l LANE_STATUS_ALIGNED = true) ∧
           (laneSt s h l = 5 → laneSt t h l = 5)) ∧
         (alignmentMessage s h l (rxInv s h l) levels = none → laneSt s h l = 3 →
           (s.fon h l LANE_CTRL_POL_AUTO = false ∨ alignmentMessage s h l (!rxInv s h l) levels = none) →
           (t.lane h l).amFound = false ∧ laneSt t h l = 3) ∧
         (alignmentMessage s h l (rxInv s h l) levels = none → laneSt s h l ≠ 3 →
           rsDecode (rxSymbols s h l (rxInv s h l) levels).1 = none → t.fget h l LANE_FEC_UNC = satAdd32 (s.fget h l LANE_FEC_UNC) 1 ∧
             t.fon h l LANE_EVENT_UNCORR = true)) ∧
     (laneSends s h l = false → exec (.alignmentCodewordSent h l) s = .next (settle s)) ∧
     (laneSends s h l = true →
       let ss := amCodeword l (s.fget h l LANE_BOND_TX_BOND_ID) (s.lane h l).amSeq
       let r := dataRun s h l
       let t := alignmentPut h l s
       (t.lane h l).amSeq = ((s.lane h l).amSeq + 1) % 65536 ∧ (t.lane h l).scr = r.scr ∧
       (t.lane h l).txP = (wordLevels s h l r.p ss).2 ∧ (t.lane h l).txq = r.blocks ∧
       (s.fget h l TST_PRBS_CTRL_LOOPBACK = 2 → t.out = s.out) ∧
       (s.fget h l TST_PRBS_CTRL_LOOPBACK ≠ 2 →
         t.out = .codeword h l ss (wordLevels s h l r.p ss).1 (txTaps s h l) ::
           (r.sent.map fun w => .codeword h l w.1 w.2 (txTaps s h l)) ++ s.out) ∧
       (s.fget h l TST_PRBS_CTRL_LOOPBACK ≠ 1 → exec (.alignmentCodewordSent h l) s = .next (settle t)) ∧
       (s.fget h l TST_PRBS_CTRL_LOOPBACK = 1 →
         exec (.alignmentCodewordSent h l) s = .next (settle (nearEnd h l r.p r (wordLevels s h l r.p ss).1 t)))) ∧
     (∀ g : Nat, isGorge l = false → 2 ≤ laneSt s h l → laneSt s h l ≤ 5 → rxInv s h l = false → g < 1024 →
       (decGroup g (s.lane h l).rdPos = .bad →
         ∃ t, exec (.codeGroupReceived h l g) s = .next (settle t) ∧
           t.fget h l LANE_CODE_ERR = satAdd32 (s.fget h l LANE_CODE_ERR) 1 ∧ t.fon h l LANE_EVENT_CODE_ERR = true) ∧
       (∀ b, decGroup g (s.lane h l).rdPos = .data b → laneSt s h l = 4 → (s.lane h l).afterComma = true →
         (expectedSecond (s.fget h l LANE_CTRL_MODE) b = true →
           ∃ t, exec (.codeGroupReceived h l g) s = .next (settle t) ∧ laneSt t h l = 5 ∧ t.fon h l LANE_EVENT_UP = true) ∧
         (expectedSecond (s.fget h l LANE_CTRL_MODE) b = false → inverseSecond g = true → (s.lane h l).polRun = 31 →
           s.fon h l LANE_CTRL_POL_AUTO = true →
           ∃ t, exec (.codeGroupReceived h l g) s = .next (settle t) ∧ laneSt t h l = 3 ∧ t.fon h l LANE_STATUS_RX_INV_ACT = true ∧
             t.fon h l LANE_EVENT_POL_FLIP = true))))

/-- PRBS test and loopback (R26, R42–R45): the write that sets GEN_EN or CHK_EN puts a lane that is not OFF into TEST and clearing both
returns it to WAIT_SIG; the checker locks on a sequence it recognises, counts the errors of each 128-bit window and loses lock by it; a
single injection stays pending until the generator runs; rate injection inverts the next bit whose number is a multiple of 2^k; a changed
LOOPBACK sends a lane through WAIT_SIG. The model's own choices behind it: log 4, 14, 16, 31, 32, 163, 164. -/
def Obligations.PrbsAndLoopbackRows : Prop :=
  ∀ (s : State) (h l : Nat), laneOk s h l = true →
    (∀ v : Word, laneSt s h l ≠ 0 →
      let t0 := stored BLK_TST (laneOpen s h l 0) h l 0 v s
      let sets := (t0.fon h l TST_PRBS_CTRL_GEN_EN && !s.fon h l TST_PRBS_CTRL_GEN_EN) ||
        (t0.fon h l TST_PRBS_CTRL_CHK_EN && !s.fon h l TST_PRBS_CTRL_CHK_EN)
      let looped := t0.fget h l TST_PRBS_CTRL_LOOPBACK % 3 ≠ s.fget h l TST_PRBS_CTRL_LOOPBACK % 3
      ∃ t, exec (.prbsEnableWrite h l v) s = .next (settle t) ∧ exec (.loopbackChange h l v) s = .next (settle t) ∧
        (sets = true → laneSt t h l = 6) ∧
        (sets = false → laneSt s h l = 6 → prbsOff t0 h l = false → laneSt t h l = 6) ∧
        (laneSt s h l = 6 → prbsOff t0 h l = true → laneSt t h l = 1) ∧
        (sets = false → laneSt s h l ≠ 6 → looped → laneSt t h l = 1 ∧ (laneSt s h l = 5 → t.fon h l LANE_EVENT_DOWN = true)) ∧
        (sets = false → laneSt s h l ≠ 6 → ¬ looped → laneSt t h l = laneSt s h l)) ∧
    (∀ line : List Nat, chkRuns s h l = true → s.fon h l TST_PRBS_STAT_LOCK = false →
      let n := (prbsTaps (s.lane h l).chkPat).1
      let bs := chkBits s h l line
      let want := prbsBitsOf (s.lane h l).chkPat 128 (bitsReg (bs.take n))
      ((bs.drop n).take 128 = want.1 → exec (.prbsCheckerLock h l line) s =
        .next (settle ((s.setLane h l { s.lane h l with chkReg := want.2 }).fput h l TST_PRBS_STAT_LOCK 1))) ∧
      ((bs.drop n).take 128 ≠ want.1 → exec (.prbsCheckerLock h l line) s = .next (settle s))) ∧
    (∀ line : List Nat, chkRuns s h l = true → s.fon h l TST_PRBS_STAT_LOCK = true →
      (128 ≤ (chkBits s h l line).length →
        let want := prbsBitsOf (s.lane h l).chkPat 128 (s.lane h l).chkReg
        let errors := (((chkBits s h l line).zip want.1).filter fun e => e.1 != e.2).length
        ∃ t, exec (.prbsLockLost h l line) s = .next (settle t) ∧
          t.fget h l TST_PRBS_ERR = satAdd32 (s.fget h l TST_PRBS_ERR) errors ∧
          t.fget h l TST_PRBS_BITS = satAdd32 (s.fget h l TST_PRBS_BITS) (((s.lane h l).prbsBits + 128) / 2 ^ 20) ∧
          (16 < errors → t.fget h l TST_PRBS_STAT_LOCK = 0 ∧ t.fget h l TST_PRBS_STAT_LOCK_LOST = 1) ∧
          (errors ≤ 16 → t.fget h l TST_PRBS_STAT_LOCK = 1 ∧ (t.lane h l).chkReg = want.2)) ∧
      ((chkBits s h l line).length < 128 → exec (.prbsLockLost h l line) s = .next (settle s))) ∧
    (s.fon h l TST_PRBS_CTRL_CHK_EN = true →
      exec (.chkReseed h l) s =
        .next (settle ((s.fput h l TST_PRBS_STAT_LOCK 0).setLane h l { s.lane h l with prbsBits := 0 }))) ∧
    (s.fon h l TST_PRBS_CTRL_GEN_EN = false ∨ (s.lane h l).genPat = 3 →
      exec (.injOne h l) s = .next (settle (s.fput h l TST_PRBS_CTRL_INJ_ONE 1)) ∧
      exec (.injRateInjection h l) s = .next (settle s)) ∧
    (s.fon h l TST_PRBS_CTRL_GEN_EN = true → (s.lane h l).genPat ≠ 3 →
      let x := s.lane h l
      (∃ t, exec (.injOne h l) s = .next (settle t) ∧ t.fget h l TST_PRBS_CTRL_INJ_ONE = 0 ∧
        t.out = .injected h l (x.genCount + 1) ((prbsJump x.genPat 1 x.genReg).testBit 0 == x.genInv) :: s.out) ∧
      (s.fon h l TST_PRBS_CTRL_INJ_RATE = false → exec (.injRateInjection h l) s = .next (settle s)) ∧
      (s.fon h l TST_PRBS_CTRL_INJ_RATE = true →
        ∃ t n b, exec (.injRateInjection h l) s = .next (settle t) ∧ t.fget h l TST_PRBS_CTRL_INJ_ONE = 0 ∧
          t.out = .injected h l n b :: s.out ∧ x.genCount < n ∧
          n % 2 ^ max 4 (s.fget h l TST_PRBS_CTRL_INJ_RATE) = 0 ∧ n ≤ x.genCount + 2 ^ max 4 (s.fget h l TST_PRBS_CTRL_INJ_RATE)))

/-- A Gorge instance that is not OFF counts a frame that is not intact in GOR_BAD_FRAME and takes an intact one by the rule of its kind (R48,
R52, R56, R58, R78): HELLO, HELLO_ACK, sequenced frame, ACK, NAK, CREDIT, KEEPALIVE, BYE with ABORT, ERROR; a frame of a wrong version,
type or epoch is answered by one ERROR and counted. A frame of the current epoch restarts the dead timer (R59). The model's own choices
behind it: log 14, 36, 169. -/
def Obligations.GorgeFramesTakenByTheirRule : Prop :=
  ∀ (s : State) (h i : Nat) (f : List Byte), gorOk s h i = true → gorSess s h i ≠ 0 →
    (∀ e t, (e = true ∨ t = true ∨ intact f = false) →
      exec (.gorgeBadFrame h i f e t) s = .next (settle (s.count h i GOR_BAD_FRAME))) ∧
    (intact f = false →
      exec (.helloReceived h i f) s = .next (settle (s.count h i GOR_BAD_FRAME)) ∧
      exec (.sequencedFrameReceived h i f) s = .next (settle (s.count h i GOR_BAD_FRAME)) ∧
      exec (.gorgeProtocolError h i f) s = .next (settle (s.count h i GOR_BAD_FRAME))) ∧
    (intact f = true →
      (classify s h i f = .hello →
        exec (.helloReceived h i f) s = .next (settle (takeHello h i f (frameCame h i f s)))) ∧
      (classify s h i f = .helloAck →
        exec (.helloAckReceived h i f) s = .next (settle (takeHelloAck h i f (frameCame h i f s)))) ∧
      (classify s h i f = .seq →
        exec (.sequencedFrameReceived h i f) s = .next (settle (takeSequenced h i f (frameCame h i f s)))) ∧
      (classify s h i f = .ack →
        exec (.ackReceived h i f) s = .next (settle (takeAck h i f (frameCame h i f s)))) ∧
      (classify s h i f = .nak →
        exec (.nakReceived h i f) s = .next (settle (takeNak h i f (frameCame h i f s)))) ∧
      (classify s h i f = .credit →
        exec (.creditReceived h i f) s = .next (settle (creditRefresh h 0 (mirrorFlush h
          ((takeLimit h i (frW f 0 + 2 ^ 32 * frW f 1) (frameCame h i f s)).gor h i).backlog.length
          (takeLimit h i (frW f 0 + 2 ^ 32 * frW f 1) (frameCame h i f s)))))) ∧
      (classify s h i f = .keepalive →
        exec (.keepaliveReceived h i f) s = .next (settle (takeKeepalive h i f (frameCame h i f s)))) ∧
      (classify s h i f = .byeAbort →
        exec (.byeAbortReceived h i f) s = .next (settle (sessionEnd h i 0x17 (frameCame h i f s)))) ∧
      (classify s h i f = .error → frW f 0 = 0x15 →
        exec (.errorFrameReceived h i f) s = .next (settle (rewindEnd h i (frW f 3) 0x15 (frameCame h i f s)))) ∧
      (classify s h i f = .badVersion →
        exec (.gorgeProtocolError h i f) s =
          .next (settle (protoError h i (sendError h i 0x03 (frSeq f) 0xFFFFFFFF 0 (s.count h i GOR_RX_FRAMES))))) ∧
      (classify s h i f = .badType →
        exec (.gorgeProtocolError h i f) s =
          .next (settle (protoError h i (sendError h i 0x04 (frSeq f) 0xFFFFFFFF 0 (s.count h i GOR_RX_FRAMES))))) ∧
      (classify s h i f = .noSession →
        exec (.gorgeProtocolError h i f) s =
          .next (settle (protoError h i (sendError h i 0x02 (frSeq f) 0xFFFFFFFF 0 (s.count h i GOR_RX_FRAMES))))) ∧
      (classify s h i f = .stale →
        exec (.gorgeProtocolError h i f) s = .next (settle
          (sendError h i 0x01 (frSeq f) 0xFFFFFFFF 0 ((s.count h i GOR_RX_FRAMES).count h i GOR_STALE)))))

/-- How a receiver handles a HELLO by its state, the HELLO's version, sender and epoch (R56): the refusals answer HELLO_ACK with STATUS 1, 2
or 3 and change nothing else, an equal epoch resends the session's HELLO_ACK, a newer one ends the session and begins a new one. An
accepted HELLO begins a session (R55, R56, R58): ACTIVE, the HELLO's epoch and sender recorded, the next number its ISN, the byte position
0, SESSION_UP set. The model's own choices behind it: log 35, 40. -/
def Obligations.HelloAnsweredAndSessionStarted : Prop :=
  (∀ (s : State) (h i : Nat) (f : List Byte),
     (gorSess s h i = 1 → frVer f ≠ 1 →
       takeHello h i f s = gorAnswer h i (helloAckFrame s h i f 3 false 0) s) ∧
     (gorSess s h i = 1 → frVer f = 1 → s.fon h i GOR_CTRL_SENDER_LOCK = true →
       (frW f 1 ≠ s.fget h i GOR_LOCK_LO ∨ frW f 2 ≠ s.fget h i GOR_LOCK_HI) →
       takeHello h i f s = gorAnswer h i (helloAckFrame s h i f 1 false 0) s) ∧
     (gorSess s h i = 1 → frVer f = 1 → s.fon h i GOR_CTRL_SENDER_LOCK = false →
       takeHello h i f s = sessionStart h i f s) ∧
     (gorSess s h i = 3 → (frW f 1 ≠ s.fget h i GOR_PEER_LO ∨ frW f 2 ≠ s.fget h i GOR_PEER_HI) →
       takeHello h i f s = gorAnswer h i (helloAckFrame s h i f 1 false 0) s) ∧
     (gorSess s h i = 3 → frW f 1 = s.fget h i GOR_PEER_LO → frW f 2 = s.fget h i GOR_PEER_HI →
       (sdiff16 (frEpoch f) (s.fget h i GOR_STATUS_EPOCH) = 0 →
         takeHello h i f s = gorAnswer h i (s.gor h i).helloAck s) ∧
       (0 < sdiff16 (frEpoch f) (s.fget h i GOR_STATUS_EPOCH) →
         takeHello h i f s = sessionStart h i f ((sessionEnd h i 0x11 s).raise h i GOR_EVENT_EPOCH_CHANGE)) ∧
       (sdiff16 (frEpoch f) (s.fget h i GOR_STATUS_EPOCH) < 0 →
         takeHello h i f s = sendError h i 0x01 0 0xFFFFFFFF 0 (s.count h i GOR_STALE))) ∧
     (gorSess s h i = 4 → takeHello h i f s = gorAnswer h i (helloAckFrame s h i f 2 false 0) s)) ∧
  (∀ (s : State) (h i : Nat) (f : List Byte), i = 1 →
     gorSess (sessionStart h i f s) h i = 3 ∧
     (sessionStart h i f s).fget h i GOR_STATUS_EPOCH = frEpoch f % 65536 ∧
     rcvNxt (sessionStart h i f s) h i = frW f 0 % 2 ^ 32 ∧ byteNxt (sessionStart h i f s) h i = 0 ∧
     (sessionStart h i f s).fget h i GOR_PEER_LO = frW f 1 % 2 ^ 32 ∧
     (sessionStart h i f s).fget h i GOR_PEER_HI = frW f 2 % 2 ^ 32 ∧
     (sessionStart h i f s).fon h i GOR_EVENT_SESSION_UP = true)

/-- The receiver's listing of R61: a number already processed or staged is counted in GOR_DUP and acknowledged, one beyond the window in
GOR_OOW and acknowledged, DATA beyond the credit limit in GOR_CREDIT_OVR with ERROR CREDIT_OVERRUN; the next number, with nothing staged,
is processed at once; the first frame that opens a gap is staged and acknowledged. The model's own choices behind it: log 36. -/
def Obligations.SequencedFrameWindowAndCredit : Prop :=
  ∀ (s : State) (h i : Nat) (f : List Byte),
    let r := creditRefresh h i s
    let d := sdiff32 (frSeq f) (rcvNxt r h i)
    ((d < 0 ∨ ((r.gor h i).staged.any fun e => e.1 == frSeq f) = true) →
      takeSequenced h i f s = sendAck h i (r.count h i GOR_DUP)) ∧
    (255 < d → ((r.gor h i).staged.any fun e => e.1 == frSeq f) = false →
      takeSequenced h i f s = sendAck h i (r.count h i GOR_OOW)) ∧
    (0 ≤ d → d ≤ 255 → ((r.gor h i).staged.any fun e => e.1 == frSeq f) = false → beyondCredit r h i f = true →
      takeSequenced h i f s =
        protoError h i (sendError h i 0x05 (frSeq f) (frW f 0) 0 (r.count h i GOR_CREDIT_OVR))) ∧
    ((r.gor h i).staged = [] → beyondCredit r h i f = false →
      let s1 := r.setGor h i { r.gor h i with
        staged := [(frSeq f, f)]
        owed := true
        highest := if sdiff32 (frSeq f + 1) (r.gor h i).highest > 0 ∨ (r.gor h i).highest = 0 then (frSeq f + 1) % 2 ^ 32
          else (r.gor h i).highest }
      (d = 0 → takeSequenced h i f s = processStaged h i 1 s1) ∧
      (0 < d → d ≤ 255 → gorLive r h i = true →
        takeSequenced h i f s = sendAck h i (stageFrame h i (frSeq f) f s1)))

/-- The Gorge instance's timers and its disable (R57, R59, R62, R65, R69, R76, R81, R96): each, where its condition holds, sends or ends what
its rule says. The model's own choices behind it: log 3, 14, 36, 170. -/
def Obligations.GorgeTimerAndControlRows : Prop :=
  ∀ (s : State) (h i : Nat), gorOk s h i = true →
    (gorLive s h i = true → isSender s h i = false →
      ((s.gor h i).owed = true → exec (.ackDelayExpiry h i) s = .next (settle (sendAck h i s))) ∧
      (((creditRefresh h i s).gor h i).owed = false → ((creditRefresh h i s).gor h i).advertised
          + max 1 ((creditRefresh h i s).fget h i GOR_CREDIT_CFG_STEP) * 1024 ≤ creditLim (creditRefresh h i s) h i →
        exec (.creditStep h i) s = .next (settle (sendCredit h i (creditRefresh h i s))))) ∧
    (gorLive s h i = true → isSender s h i = false →
      exec (.keepaliveInterval h i) s = .next (settle (rewindRepeat h i (sendCredit h i (creditRefresh h i s))))) ∧
    (gorLive s h i = true → isSender s h i = true →
      exec (.keepaliveInterval h i) s = .next (settle (sendFrame h i 0x0B 0 0 (s.gor h i).sndNxt 0 0 0 0 [] s))) ∧
    (gorLive s h i = true →
      ((s.gor h i).heardAt = some s.now → exec (.peerDead h i) s = .next (settle s)) ∧
      ((s.gor h i).heardAt ≠ some s.now → i = 0 →
        exec (.peerDead h i) s =
          .next (settle (sessionEnd h i 0x10 (sendByeAbort h i 0x10 (s.raise h i GOR_EVENT_PEER_DEAD)))))) ∧
    (isSender s h 1 = true → gorSess s h 1 = 2 →
      exec (.helloResend h) s = .next (settle (s.emit (.gorge h 1 (s.gor h 1).hello)))) ∧
    (isSender s h 1 = true → gorSess s h 1 = 3 → ∀ e es, (s.gor h 1).held = e :: es →
      exec (.retxTimeout h) s = .next (settle ((resend h e s).setGor h 1 { (resend h e s).gor h 1 with
        doublings := min ((resend h e s).fget h 1 GOR_RETX_BACKOFF) (((resend h e s).gor h 1).doublings + 1) }))) ∧
    (gorSess s h i = 4 → openPages s h i ≠ [] →
      exec (.gorgeDrainTimeout h i) s = .next (settle
        (sessionEnd h i 0x13 (sendBye h i 0x13 (discardAll h i 0x13 s))))) ∧
    (gorSess s h i = 4 → openPages s h i = [] →
      exec (.gorgeDrainTimeout h i) s = .next (settle (sessionEnd h i 0 (sendBye h i 0 s)))) ∧
    (∃ t, exec (.gorgeForceOff h i) s = .next (settle t) ∧ gorSess t h i = 0 ∧ t.fget h i GOR_DRAIN_RESULT = 4 ∧
      t.fon h i GOR_EVENT_DRAIN_DONE = true ∧ t.fget h i GOR_CTRL_EN = 0) ∧
    ((s.gor h 0).openWait = false → (s.gor h 1).openWait = false →
      exec (.pageOpenResumed h) s = .next (settle s)) ∧
    (gorLive s h 0 = true → (s.gor h 0).openWait = true → ∀ q f,
      ((s.gor h 0).staged.find? fun e => e.1 == rcvNxt s h 0) = some (q, f) →
      (reservable s h (reservation (layerEntries f)) || (s.fon h 0 BAS_CTRL_POLICY && basEn s h)) = true →
      ((processStaged h 0 ((s.gor h 0).staged.length + 1) s).gor h 1).openWait = false →
      exec (.pageOpenResumed h) s = .next (settle (processStaged h 0 ((s.gor h 0).staged.length + 1) s))) ∧
    (∀ v : Word, i = 0 → gorSess s h 0 = 0 → s.fget h 0 GOR_CTRL_EN = 0 → v &&& 3#32 = 1#32 →
      ∃ t, exec (.gorgeEnWrite h 0 v) s = .next (settle t) ∧ gorSess t h 0 = 1)

/-- Enabling and disabling a Basin (R89, R118, R255, R295): EN written 1 while the Basin is off passes the checks of R89 and stands, or is
refused with CFG_BAD and reads 0; EN written 0 starts a drain, which ends at once where no page is held. The checks of R89: EN stands
exactly where the regions are apart and lie within fitted DRAM, those of the Basin, the decode area, the readback area and the Echo start
and end on 64 KB, the Basin has at least 64 MB and the decode area at least 16 MB. The model's own choices behind it: log 14, 41, 45, 46. -/
def Obligations.BasinEnabledOnlyWhereRegionsFit : Prop :=
  (∀ (s : State) (h : Nat) (v : Word), s.hasH h = true →
     let s1 := stored BLK_BAS (basOpen s h 0 0) h 0 0 v s
     (s.fon h 0 BAS_CTRL_EN = false → s1.fon h 0 BAS_CTRL_EN = true → (s.bas h).draining = false → dramFailed s1 h = false →
       (basCfgOk s1 h = true → exec (.basinEnWrite h v) s = .next (settle (basRefresh h s1))) ∧
       (basCfgOk s1 h = false → exec (.basinEnWrite h v) s =
         .next (settle (basRefresh h ((s1.fput h 0 BAS_CTRL_EN 0).raise h 0 BAS_EVENT_CFG_BAD))))) ∧
     (s.fon h 0 BAS_CTRL_EN = true → s1.fon h 0 BAS_CTRL_EN = false →
       exec (.basinEnWrite h v) s = .next (settle (basRefresh h (basDrainCheck h
         (s1.setBas h { s1.bas h with draining := true, drainLost := false })))))) ∧
  (∀ (s : State) (h : Nat), basCfgOk s h = true ↔
     (regionsOf s h).Pairwise (fun a b => a.1 + a.2 ≤ b.1 ∨ b.1 + b.2 ≤ a.1) ∧
     (∀ r ∈ regionsOf s h, r.1 + r.2 ≤ s.fitted h) ∧ (∀ r ∈ mainRegions s h, r.1 % 65536 = 0 ∧ r.2 % 65536 = 0) ∧
     64 * 2 ^ 20 ≤ s.get64 h 0 BAS_RING_SIZE_LO ∧ 16 * 2 ^ 20 ≤ decSize s h)

/-- Starting a decode job (R101, R102): with no decoder enabled the first job waits and DEC_WAIT reads 1; else the idle enabled decoder of the
lower number takes it; a job larger than the decode area without its host-owned buffers fails its page at once. A job's end (R101, R105,
R108): a job whose stream decodes writes its layer, counts its RAW blocks, shows OUT and is recorded OK; one whose stream has a fault
shows ERR_POS and its status, and fails its page. The model's own choices behind it: log 14, 20, 42, 44, 55. -/
def Obligations.DecodeJobsStartAndEnd : Prop :=
  (∀ (s : State) (h d k : Nat) (p : Page), s.hasH h = true → d < 2 → basActive s h = true → nextJob s h = some (p, k) →
     (s.fon h 0 CIN_CTRL_EN = false → s.fon h 1 CIN_CTRL_EN = false →
       exec (.decodeJobStart h d) s = .next (settle s) ∧
         bits (regPeek s BLK_BAS h 0 BAS_STATUS_DEC_WAIT.word).toNat BAS_STATUS_DEC_WAIT.lo 1 = 1) ∧
     (decIdle s h d = true → (d = 0 ∨ decIdle s h 0 = false) →
       exec (.decodeJobStart h d) s = .next (settle (startOn h d p k s)) ∧
       (decSizeLessHost s h < (p.slots.getD k {}).ulen →
         exec (.decodeJobStart h d) s = .next (settle (failPage h p.id 0x24 k (cinRecord h d 0x24
           (mapPage h p.id (fun q => { q with slots := q.slots.set k { q.slots.getD k {} with
               job := .waiting, fmt := s.fget h 0 (TER_ROUTE_FMT_V (p.slots.getD k {}).terrace)
               dests := routeDests s h (p.slots.getD k {}).terrace } })
             (jobShow h d p.id (p.slots.getD k {}).terrace k s)))))))) ∧
  (∀ (s : State) (h d k : Nat) (p : Page) (x : Slot), s.hasH h = true → d < 2 → runningJob s h d = some (p, k, x) →
     ((jobResult s h d x).status = stOK →
       ∃ u, u = cinRecord h d 0 ((rawCount h d (jobResult s h d x).raws (adoptSlot h p.id k (mapPage h p.id
             (fun q => { q with slots := q.slots.set k { x with job := .ok } })
             (writeLayer h p x (jobResult s h d x).out.reverse s)))).put64 h d CIN_OUT_LO (jobResult s h d x).out.length) ∧
         exec (.decodeJobDone h d) s = .next (settle (basRefresh h (forEach (List.range u.nH) (fun g w =>
           if g = h ∨ x.dests.any (fun e => e.2 == g) then readyEvent g p.id w else w) u)))) ∧
     ((jobResult s h d x).status ≠ stOK →
       exec (.decodeJobFail h d) s = .next (settle (failPage h p.id (jobResult s h d x).status k
         (cinRecord h d (jobResult s h d x).status (((rawCount h d (jobResult s h d x).raws s).put64 h d CIN_OUT_LO
           (jobResult s h d x).out.length).put64 h d CIN_ERR_POS_LO (jobResult s h d x).errPos))))))

/-- The encoder (R115, R121, R122): a request to the enabled idle encoder within fitted memory becomes its current request, one of length 0 or
rows above 262,144 bytes ends BAD_LENGTH at once, wherever it points; at its end a job not longer than its limits is written to the
destination, else the request ends NO_GAIN or OUT_OF_SPACE. A request that reaches above fitted memory faults. The model's own choices
behind it: log 11, 14, 43, 173. -/
def Obligations.EncoderRequestsAndEnds : Prop :=
  ∀ (s : State) (h src len row dst size : Nat), s.hasH h = true →
    (s.fon h 2 CIN_CTRL_EN = true → s.fget h 2 CIN_STATUS_STATE = 1 →
      (len ≠ 0 → row ≤ 262144 → src + len ≤ s.fitted h → dst + size ≤ s.fitted h →
        ∃ t, exec (.encodeRequest h src len row dst size) s = .next (settle t) ∧
          (t.bas h).enc = some ⟨src, len, row, dst, size, none⟩ ∧ t.fget h 2 CIN_STATUS_STATE = 2 ∧ t.dram = s.dram) ∧
      ((len = 0 ∨ 262144 < row) → exec (.encodeRequest h src len row dst size) s =
        .next (settle (cinRecord h 2 0x11 (s.setBas h { s.bas h with enc := none }))))) ∧
    (len ≠ 0 → row ≤ 262144 → s.fitted h < src + len →
      exec (.encodeRequest h src len row dst size) s = .fault (.noMemory h (src + len - 1))) ∧
    (len ≠ 0 → row ≤ 262144 → src + len ≤ s.fitted h → s.fitted h < dst + size →
      exec (.encodeRequest h src len row dst size) s = .fault (.noMemory h (dst + size - 1))) ∧
    (∀ r : EncReq, (s.bas h).enc = some r →
      exec (.encodeDone h) s = .next (settle (
        if (encoderStream s r.row (s.dreads h r.src r.len)).length < r.len ∧
            (encoderStream s r.row (s.dreads h r.src r.len)).length ≤ r.size then
          encodeEnd h 0 (encoderStream s r.row (s.dreads h r.src r.len)).length
            ({ s with freeCtr := s.freeCtr + 1 }.dwrites h r.dst (encoderStream s r.row (s.dreads h r.src r.len)))
        else encodeEnd h (if r.len ≤ r.size then 0x22 else 0x24) 0
          ({ s with freeCtr := s.freeCtr + 1 }.dwrites h r.dst ((Config.freeBytes (s.freeCtr + 1)).take r.size)))))

/-- Enabling and disabling a Cinder instance (R120–R122, R295): EN 1 in OFF makes it idle, EN 0 with no job takes it OFF with DRAINED, EN 0
during a job starts a drain; a drain that runs out and FORCE_OFF end the job ABORTED; EN written 1 during the drain takes effect at its
end, unless the memory has failed (R255). A FIRED page retires when inspection closes, or at once without inspection, and a COMPLETE or
RETIRED page that is released leaves the table (R93, R210). The model's own choices behind it: log 14, 37, 46. -/
def Obligations.CinderEnableAndPagesRetire : Prop :=
  (∀ (s : State) (h d : Nat), cinOk s h d = true →
     (∀ v : Word, s.fon h d CIN_CTRL_EN = false → s.fget h d CIN_STATUS_STATE = 0 → dramFailed s h = false →
       v &&& 3#32 = 1#32 →
       ∃ t, exec (.cinderEnWrite h d v) s = .next (settle t) ∧ t.fget h d CIN_STATUS_STATE = 1 ∧ t.fon h d CIN_CTRL_EN = true) ∧
     (∀ v : Word, s.fon h d CIN_CTRL_EN = true → s.fget h d CIN_STATUS_STATE = 1 → v &&& 3#32 = 0#32 →
       ∃ t, exec (.cinderEnWrite h d v) s = .next (settle t) ∧ t.fget h d CIN_STATUS_STATE = 0 ∧
         t.fget h d CIN_STATUS_DRAIN_RESULT = 3 ∧ t.fon h d CIN_EVENT_DRAIN_DONE = true) ∧
     (∀ v : Word, s.fon h d CIN_CTRL_EN = true → s.fget h d CIN_STATUS_STATE = 2 → v &&& 3#32 = 0#32 →
       ∃ t, exec (.cinderEnWrite h d v) s = .next (settle t) ∧ t.fget h d CIN_STATUS_STATE = 3) ∧
     (s.fget h d CIN_STATUS_STATE = 3 → d ∉ (s.bas h).cinAgain →
       exec (.cinderDrainTimeout h d) s = .next (settle (cinOff h d 4 (cinAbort h d (s.fput h d CIN_STATUS_STATE 2))))) ∧
     (s.fget h d CIN_STATUS_STATE = 3 → d ∈ (s.bas h).cinAgain →
       ∃ t, exec (.cinderDrainTimeout h d) s = .next (settle t) ∧ t.fget h d CIN_STATUS_DRAIN_RESULT = 4 ∧
         t.fon h d CIN_EVENT_DRAIN_DONE = true ∧ d ∉ (t.bas h).cinAgain ∧
         (dramFailed s h = false → t.fget h d CIN_STATUS_STATE = 1 ∧ t.fon h d CIN_CTRL_EN = true) ∧
         (dramFailed s h = true → t.fget h d CIN_STATUS_STATE = 0 ∧ t.fon h d CIN_CTRL_EN = false)) ∧
     (∃ t, exec (.cinderForceOff h d) s = .next (settle t) ∧ t.fget h d CIN_STATUS_STATE = 0 ∧
       t.fget h d CIN_STATUS_DRAIN_RESULT = 4 ∧ t.fon h d CIN_EVENT_DRAIN_DONE = true)) ∧
  (∀ (s : State) (h pg : Nat) (p : Page), findPage s h pg = some p →
     (p.st = .fired → (inspectionOff s h = true ∨ inspectionClosed s h p = true) →
       exec (.pageRetire h pg) s = .next (settle (retirePage h pg s))) ∧
     (p.st = .fired → inspectionOff s h = false → inspectionClosed s h p = false →
       exec (.pageRetire h pg) s = .next (settle s)) ∧
     ((p.st = .complete ∨ p.st = .retired) → mirrorHolds s h pg = false →
       exec (.pageRelease h pg) s = .next (settle (removePage h pg false s))) ∧
     ((p.st = .complete ∨ p.st = .retired) → mirrorHolds s h pg = true →
       exec (.pageRelease h pg) s = .next (settle (mapPage h pg (fun q => { q with defer := true }) s))))

/-- TER_CTRL.EN and FORCE_OFF (R134, R149, R295): a 1 written to EN while TER does not drain enables it; a 0 while no slot runs ends at once
DRAINED, while a slot runs it starts a drain; a drain that runs out and FORCE_OFF act at the next trigger; FORCE_OFF with no slot acts at
once with ABORTED. The model's own choices behind it: log 14. -/
def Obligations.TerraceEnableDrainAndForceOff : Prop :=
  ∀ (s : State) (h : Nat), s.hasH h = true →
    (∀ v : Word, v &&& 3#32 = 1#32 → s.fon h 0 TER_CTRL_EN = false → (s.ter h).draining = false →
      exec (.terEnWrite h v) s = .next (settle (stored BLK_TER true h 0 0 v s)) ∧
      (stored BLK_TER true h 0 0 v s).fon h 0 TER_CTRL_EN = true) ∧
    (∀ v : Word, v &&& 3#32 = 0#32 → s.fon h 0 TER_CTRL_EN = true → s.fget h 0 TER_STATUS_SLOT = 0 →
      exec (.terEnWrite h v) s = .next (settle (terOff h 3 (stored BLK_TER true h 0 0 v s)))) ∧
    (∀ v : Word, v &&& 3#32 = 0#32 → s.fon h 0 TER_CTRL_EN = true → s.fget h 0 TER_STATUS_SLOT ≠ 0 →
      exec (.terEnWrite h v) s = .next (settle ((stored BLK_TER true h 0 0 v s).setTer h
        { s.ter h with draining := true, again := false }))) ∧
    ((s.ter h).draining = true → exec (.terDrainTimeout h) s = .next (settle (s.setTer h { s.ter h with die := true }))) ∧
    (s.fget h 0 TER_STATUS_SLOT = 0 →
      exec (.terForceOff h) s =
        .next (settle (terOff h 4 ((s.fput h 0 TER_CTRL_EN 0).setTer h { s.ter h with again := false })))) ∧
    (s.fget h 0 TER_STATUS_SLOT ≠ 0 →
      exec (.terForceOff h) s = .next (settle ((s.fput h 0 TER_CTRL_EN 0).setTer h
        { s.ter h with die := true, draining := true, again := false })))

/-- Table swaps and the table port (R141): an arm while TER is OFF swaps at once; one before the commit point waits for this slot's first gap
line, one after it for the next slot's with ARM_LATE and TBL_LATE, whether or not another is pending; the end of the copy leaves the
shadow bank equal to the active one with the held writes put into it in order; an access reads or writes the shadow entry at INDEX, or is
held during the copy, and advances INDEX. GRT_CTRL.EN (R149, R432): a write of 0 while TER is not OFF is refused with EN_REFUSED and EN
reads 1; any other write gives EN its value; the tables and the Ash map stay, and the banks change places only where the write arms a swap
with TER OFF (R141). The model's own choices behind it: log 14, 20, 51. -/
def Obligations.TableSwapTablePortAndGrateDisable : Prop :=
  (∀ (s : State) (h : Nat),
     let tbl := s.fget h 0 GRT_TBL_ADDR_TABLE
     let idx := s.fget h 0 GRT_TBL_ADDR_INDEX
     let act := actBank s h
     (s.hasH h = false → exec (.tblArm h) s = .next (settle s) ∧ exec (.tableCopyDone h) s = .next (settle s) ∧
       ∀ w, exec (.grtTblDataAccess h w) s = .next (settle s)) ∧
     (s.hasH h = true →
       (s.fget h 0 TER_STATUS_SLOT = 0 →
         ∃ t, exec (.tblArm h) s = .next (settle t) ∧ actBank t h = 1 - act ∧ t.fget h 0 GRT_STATUS_COPY = 1 ∧
           t.fget h 0 GRT_CTRL_TBL_ARM = 0 ∧ t.fget h 0 GRT_STATUS_ARM_PEND = 0 ∧ t.fon h 0 GRT_EVENT_TBL_SWAP = true ∧ t.grts = s.grts) ∧
       (s.fget h 0 TER_STATUS_SLOT ≠ 0 → s.fon h 0 TER_STATUS_PAST_POINT = false →
         ∃ t, exec (.tblArm h) s = .next (settle t) ∧ (t.ter h).swapSlots = (s.ter h).swapSlots ++ [(s.ter h).slotNo] ∧ actBank t h = act ∧
           t.fget h 0 GRT_CTRL_TBL_ARM = 1 ∧ t.fget h 0 GRT_STATUS_ARM_PEND = 1 ∧ t.grts = s.grts) ∧
       (s.fget h 0 TER_STATUS_SLOT ≠ 0 → s.fon h 0 TER_STATUS_PAST_POINT = true →
         ∃ t, exec (.tblArm h) s = .next (settle t) ∧ (t.ter h).swapSlots = (s.ter h).swapSlots ++ [(s.ter h).slotNo + 1] ∧
           actBank t h = act ∧ t.fget h 0 GRT_CTRL_TBL_ARM = 1 ∧ t.fget h 0 GRT_STATUS_ARM_PEND = 1 ∧
           t.fget h 0 GRT_STATUS_ARM_LATE = 1 ∧ t.fon h 0 GRT_EVENT_TBL_LATE = true ∧ t.grts = s.grts) ∧
       (s.fon h 0 GRT_STATUS_COPY = false → exec (.tableCopyDone h) s = .next (settle s)) ∧
       (s.fon h 0 GRT_STATUS_COPY = true →
         ∃ t, exec (.tableCopyDone h) s = .next (settle t) ∧ t.fget h 0 GRT_STATUS_COPY = 0 ∧ (t.ter h).held = [] ∧ actBank t h = act ∧
           t.grt h act = s.grt h act ∧
           t.grt h (1 - act) = (s.ter h).held.foldl (fun g e => match e.2.2 with
             | some v => if grtHas e.1 e.2.1 then tabSet dfltGrt g (65536 * e.1 + e.2.1) (v % grtMask e.1) else g
             | none => g) (s.grt h act)) ∧
       (∀ w : Option Word, s.fon h 0 GRT_STATUS_COPY = true →
         ∃ t, exec (.grtTblDataAccess h w) s = .next (settle t) ∧
           (t.ter h).held = (s.ter h).held ++ [(tbl, idx, w.map fun v => v.toNat % grtMask tbl)] ∧ t.grts = s.grts ∧ t.out = s.out ∧
           t.fget h 0 GRT_TBL_ADDR_INDEX = grtNext tbl idx ∧ t.fget h 0 GRT_TBL_ADDR_TABLE = tbl) ∧
       (∀ v : Word, s.fon h 0 GRT_STATUS_COPY = false →
         ∃ t, exec (.grtTblDataAccess h (some v)) s = .next (settle t) ∧ t.grt h act = s.grt h act ∧
           (tbl ≤ 4 → idx ≤ grtLast tbl → tabGet dfltGrt (t.grt h (1 - act)) (65536 * tbl + idx) = v.toNat % grtMask tbl ∧
             ∀ k, k ≠ 65536 * tbl + idx → tabGet dfltGrt (t.grt h (1 - act)) k = tabGet dfltGrt (s.grt h (1 - act)) k) ∧
           ((4 < tbl ∨ grtLast tbl < idx) → t.grts = s.grts) ∧
           t.fget h 0 GRT_TBL_ADDR_INDEX = grtNext tbl idx ∧ t.fget h 0 GRT_TBL_ADDR_TABLE = tbl) ∧
       (s.fon h 0 GRT_STATUS_COPY = false →
         ∃ t, exec (.grtTblDataAccess h none) s = .next (settle t) ∧ t.grts = s.grts ∧
           t.out = .tableRead h BLK_GRT (BitVec.ofNat 32 (if tbl ≤ 4 ∧ idx ≤ grtLast tbl then
             tabGet dfltGrt (s.grt h (1 - act)) (65536 * tbl + idx) else 0)) :: s.out ∧
           t.fget h 0 GRT_TBL_ADDR_INDEX = grtNext tbl idx ∧ t.fget h 0 GRT_TBL_ADDR_TABLE = tbl))) ∧
  (∀ (s : State) (h : Nat) (v : Word),
     (s.hasH h = false → exec (.grtEnWrite h v) s = .next (settle s)) ∧
     (s.hasH h = true → ∃ t, exec (.grtEnWrite h v) s = .next (settle t) ∧ t.grts = s.grts ∧ t.ashMap = s.ashMap ∧
       (s.fon h 0 GRT_CTRL_EN = true → v.getLsbD 0 = false → s.fget h 0 TER_STATUS_SLOT ≠ 0 →
         t.fon h 0 GRT_CTRL_EN = true ∧ t.fon h 0 GRT_EVENT_EN_REFUSED = true) ∧
       ((s.fon h 0 GRT_CTRL_EN = false ∨ v.getLsbD 0 = true ∨ s.fget h 0 TER_STATUS_SLOT = 0) →
         t.fon h 0 GRT_CTRL_EN = v.getLsbD 0 ∧ t.fon h 0 GRT_EVENT_EN_REFUSED = s.fon h 0 GRT_EVENT_EN_REFUSED) ∧
       ((v.getLsbD 4 = false ∨ s.fget h 0 TER_STATUS_SLOT ≠ 0) → actBank t h = actBank s h) ∧
       (v.getLsbD 4 = true → s.fget h 0 TER_STATUS_SLOT = 0 → actBank t h = 1 - actBank s h)))

/-- Ash map pushes (R146, R148): a column above 49,151 counts in ASH_BAD, a push with Q_EN 0 or to a full queue in ASH_OVF, each for its first
cause only; another push is queued at its effective line, out of order counted in ASH_ORDER; FLUSH discards every queued entry and counts
each. Arming privileged values (R139): the staged words of the hearth are captured for PRIV_LINE, or for the third line from now with
PRIV_LATE where that line can no longer be reached. The model's own choices behind it: log 14, 16. -/
def Obligations.AshQueueAndPrivilegedArm : Prop :=
  (∀ (s : State) (h : Nat), s.hasH h = true →
     (∀ col, 49151 < col → col < 65536 →
       ∃ t, exec (.ashUpdPush h col) s = .next (settle t) ∧ (t.ter h).ashQ = (s.ter h).ashQ ∧
         t.fget h 0 ASH_BAD = satAdd32 (s.fget h 0 ASH_BAD) 1 ∧ t.fget h 0 ASH_OVF = s.fget h 0 ASH_OVF ∧
         t.fon h 0 ASH_EVENT_BAD = true) ∧
     (∀ col, col ≤ 49151 → (s.fon h 0 ASH_CTRL_Q_EN = false ∨ 256 ≤ (s.ter h).ashQ.length) →
       ∃ t, exec (.ashUpdPush h col) s = .next (settle t) ∧ (t.ter h).ashQ = (s.ter h).ashQ ∧
         t.fget h 0 ASH_OVF = satAdd32 (s.fget h 0 ASH_OVF) 1 ∧ t.fget h 0 ASH_BAD = s.fget h 0 ASH_BAD ∧
         t.fon h 0 ASH_EVENT_OVF = true) ∧
     (∀ col, col ≤ 49151 → s.fon h 0 ASH_CTRL_Q_EN = true → (s.ter h).ashQ.length < 256 →
       ∃ t, exec (.ashUpdPush h col) s = .next (settle t) ∧
         (t.ter h).ashQ = (s.ter h).ashQ ++ [(col, s.rd h 0 BLK_ASH ASH_UPD_ENTRY.word, s.get64 h 0 ASH_UPD_LINE_LO)] ∧
         t.ashMap = s.ashMap ∧ (s.get64 h 0 ASH_UPD_LINE_LO < (s.ter h).ashLast →
           t.fget h 0 ASH_ORDER = satAdd32 (s.fget h 0 ASH_ORDER) 1 ∧ t.fon h 0 ASH_EVENT_ORDER = true)) ∧
     (∃ t, exec (.ashCtrlFlush h) s = .next (settle t) ∧ (t.ter h).ashQ = [] ∧
       t.fget h 0 ASH_OVF = satAdd32 (s.fget h 0 ASH_OVF) (s.ter h).ashQ.length ∧ t.ashMap = s.ashMap)) ∧
  (∀ (s : State) (h : Nat), s.hasH h = true →
     ∃ t, exec (.privArm h) s = .next (settle t) ∧
       (t.ter h).privArm = some (max (lnum s h + 3) (s.get64 h 0 TER_PRIV_LINE_LO), hearthWords h s.staged) ∧
       t.fget h 0 TER_STATUS_PRIV_PEND = 1 ∧
       (s.get64 h 0 TER_PRIV_LINE_LO < lnum s h + 3 → t.fon h 0 TER_EVENT_PRIV_LATE = true))

/-- The Grate decides a level of at most 3 for every column of a line, and level 0 for every column that is masked in the Ash map, whatever
its neighbours lend (R142–R145). The model's own choices behind it: log 54. -/
def Obligations.GrateLevelsBoundedAndMaskedColumnsSilent : Prop :=
  ∀ (g : GrateIn) (cols : Array Col) (yp : Nat), (∀ (x : Nat) (k : Col), cols[x]? = some k → ∀ l, k.fl = some l → l ≤ 3) →
    (grateLine g cols yp).lvl.size = cols.size ∧
    ∀ (x l : Nat), (grateLine g cols yp).lvl[x]? = some l → l ≤ 3 ∧ (2 ≤ ashState (g.ash x) → l = 0)

/-- A port's state machine (R154, R155, R156, R183): a head found present is PRESENT, and POWERING under AUTO_PWR; PWR written 1 in PRESENT
powers it, written 0 in POWERING to ARMED drops power, and under AUTO_PWR powers again; a settled head shows its ID and reaches READY, or
ARMED under EN; EN written 1 in READY arms, EN written 0 in ARMED goes READY and in ACTIVE with strobes running DRAINING; FORCE_OFF ends
ABORTED; removal enters ABSENT and clears PWR and EN. The model's own choices behind it: log 14. -/
def Obligations.HeadPortStateMachine : Prop :=
  ∀ (s : State) (h p : Nat), portOk s h p = true →
    (portState s h p = 0 → s.fon h p FBX_CTRL_AUTO_PWR = false →
      ∃ t, exec (.headPresent h p) s = .next (settle t) ∧ portState t h p = 1 ∧ t.fon h p FBX_STATUS_PRS = true ∧
        t.fon h p FBX_EVENT_HEAD_IN = true) ∧
    (portState s h p = 0 → s.fon h p FBX_CTRL_AUTO_PWR = true →
      ∃ t, exec (.headPresent h p) s = .next (settle t) ∧ portState t h p = 2 ∧ t.fon h p FBX_CTRL_PWR = true ∧
        t.fon h p FBX_STATUS_PWE = true) ∧
    (∀ v : Word, portState s h p = 1 → s.fon h p FBX_CTRL_PWR = false → s.fon h p FBX_CTRL_EN = false →
      (stored BLK_FBX true h p 0 v s).fon h p FBX_CTRL_PWR = true → bits v.toNat FBX_CTRL_FORCE_OFF.lo 1 = 0 →
      (stored BLK_FBX true h p 0 v s).fon h p FBX_CTRL_EN = false →
      ∃ t, exec (.fbxPwrWrite h p v) s = .next (settle t) ∧ portState t h p = 2 ∧ t.fon h p FBX_STATUS_PWE = true) ∧
    (∀ v : Word, 2 ≤ portState s h p → portState s h p ≤ 4 → s.fon h p FBX_CTRL_PWR = true →
      let s1 := stored BLK_FBX (decide (portState s h p ≤ 3)) h p 0 v s
      s1.fon h p FBX_CTRL_PWR = false → bits v.toNat FBX_CTRL_FORCE_OFF.lo 1 = 0 → s1.fon h p FBX_CTRL_EN = s.fon h p FBX_CTRL_EN →
      ∃ t, exec (.fbxPwrWrite h p v) s = .next (settle t) ∧
        (s1.fon h p FBX_CTRL_AUTO_PWR = false → portState t h p = 1 ∧ t.fon h p FBX_STATUS_PWE = false ∧ t.fon h p FBX_CTRL_PWR = false) ∧
        (s1.fon h p FBX_CTRL_AUTO_PWR = true → portState t h p = 2 ∧ t.fon h p FBX_STATUS_PWE = true ∧ t.fon h p FBX_CTRL_PWR = true)) ∧
    (∀ v : Word, portState s h p = 3 → s.fon h p FBX_CTRL_PWR = true → s.fon h p FBX_CTRL_EN = false →
      (stored BLK_FBX true h p 0 v s).fon h p FBX_CTRL_PWR = true → bits v.toNat FBX_CTRL_FORCE_OFF.lo 1 = 0 →
      (stored BLK_FBX true h p 0 v s).fon h p FBX_CTRL_EN = true →
      ∃ t, exec (.fbxEnWrite h p v) s = .next (settle t) ∧ portState t h p = 4) ∧
    (∀ v : Word, portState s h p = 4 → s.fon h p FBX_CTRL_PWR = true → s.fon h p FBX_CTRL_EN = true →
      (stored BLK_FBX false h p 0 v s).fon h p FBX_CTRL_PWR = true → bits v.toNat FBX_CTRL_FORCE_OFF.lo 1 = 0 →
      (stored BLK_FBX false h p 0 v s).fon h p FBX_CTRL_EN = false → (s.fbx h p).pwrOff = false →
      ∃ t, exec (.fbxEnWrite h p v) s = .next (settle t) ∧ portState t h p = 3 ∧ t.fget h p FBX_STATUS_DRAIN_RESULT = 3 ∧
        t.fon h p FBX_EVENT_DRAIN_DONE = true) ∧
    (∀ v : Word, portState s h p = 5 → s.fon h p FBX_CTRL_PWR = true → s.fon h p FBX_CTRL_EN = true →
      (stored BLK_FBX false h p 0 v s).fon h p FBX_CTRL_PWR = true → bits v.toNat FBX_CTRL_FORCE_OFF.lo 1 = 0 →
      (stored BLK_FBX false h p 0 v s).fon h p FBX_CTRL_EN = false → (s.fbx h p).strobes ≠ 0 →
      ∃ t, exec (.fbxEnWrite h p v) s = .next (settle t) ∧ portState t h p = 6) ∧
    (∀ sns id, portState s h p = 2 → (s.fbx h p).pwrOff = false →
      ∃ t, exec (.headSettled h p sns id) s = .next (settle t) ∧
        portState t h p = (if s.fon h p FBX_CTRL_EN then 4 else 3) ∧ t.fget h p FBX_ID_CODE = id % 2 ^ FBX_ID_CODE.len ∧
        t.fon h p FBX_ID_VALID = true ∧ t.fon h p FBX_EVENT_ID_READ = true) ∧
    (4 ≤ portState s h p → portState s h p ≤ 6 → (s.fbx h p).pwrOff = false →
      ∃ t, exec (.fbxForceOff h p) s = .next (settle t) ∧ portState t h p = 3 ∧ t.fget h p FBX_STATUS_DRAIN_RESULT = 4 ∧
        (t.fbx h p).strobes = 0 ∧ t.fon h p FBX_CTRL_EN = false) ∧
    (portState s h p ≠ 0 →
      ∃ t, exec (.headRemoved h p) s = .next (settle t) ∧ portState t h p = 0 ∧ t.fon h p FBX_CTRL_PWR = false ∧
        t.fon h p FBX_CTRL_EN = false ∧ (t.fbx h p).strobes = 0 ∧ t.fon h p FBX_EVENT_HEAD_OUT = true)

/-- A sampling port (R166, R167): VHEAD is shown and sets the next line's widths and VLIM suppression, SNS, where a sample of it is due, is
shown with the temperature of its table segment. A line's shift and its strobes (R164, R165): a phase that ends leaves the others running;
a shift that ends puts two bits of every nozzle on each fitted strand; one that underran after k positions keeps the levels before them,
counts in FBX_UNDERRUN and sets UNDERRUN. Column maps (R4, R159, R433): APPLY requests the staged map; the check makes every requested map
active, or refuses every one with result 0x11; a write of FBX_HEAD that changes the geometry of a mapped port into one that breaks R4 is
undone with CMAP_BAD. The model's own choices behind it: log 14, 16, 56, 59, 60. -/
def Obligations.PortSamplesShiftsStrobesAndMaps : Prop :=
  (∀ (s : State) (h p code : Nat), sampling s h p = true →
     (∃ t, exec (.vheadSample h p code) s = .next (settle t) ∧
         (code % 4096 * s.fget h p FBX_VCAL_VGAIN / 256 < 65536 →
           t.fget h p FBX_MEAS_VHEAD = code % 4096 * s.fget h p FBX_VCAL_VGAIN / 256) ∧
         (t.fbx h p).widths = widthsFor s h p (lnum s h + 1) (s.sget h p FBX_MEAS_TEMP)
           (code % 4096 * s.fget h p FBX_VCAL_VGAIN / 256) ∧
         ((t.fbx h p).vbad = true ↔ code % 4096 * s.fget h p FBX_VCAL_VGAIN / 256 < s.fget h p FBX_VLIM_VMIN ∨
           s.fget h p FBX_VLIM_VMAX < code % 4096 * s.fget h p FBX_VCAL_VGAIN / 256)) ∧
     ((s.fbx h p).snsDue = false → exec (.tempSample h p code) s = .next (settle s)) ∧
     ((s.fbx h p).snsDue = true → ∃ t, exec (.tempSample h p code) s = .next (settle t) ∧ (t.fbx h p).snsDue = false ∧
       t.fget h p FBX_MEAS_TEMP = ofS 16 (tempOf s h p (code % 4096)) ∧
       (s.sget h p FBX_TLIM_HARD ≤ tempOf s h p (code % 4096) → t.fon h p FBX_STATUS_HARD = true))) ∧
  (∀ (s : State) (h p : Nat), portOk s h p = true →
     (∀ m, m < 4 → bit (s.fbx h p).strobes m = true → (s.fbx h p).strobes ^^^ 2 ^ m ≠ 0 →
       exec (.strobeEnd h p m) s =
         .next (settle (s.setFbx h p { s.fbx h p with strobes := (s.fbx h p).strobes ^^^ 2 ^ m }))) ∧
     (∀ m, m < 4 → (s.fbx h p).strobes = 2 ^ m →
       exec (.strobeEnd h p m) s =
         .next (settle (endingCheck h (strobesEnded h p (s.setFbx h p { s.fbx h p with strobes := 0 }))))) ∧
     ((s.fbx h p).shifting = false → ∀ sent, exec (.shiftDone h p sent) s = .next (settle s)) ∧
     ((s.fbx h p).shifting = true → (s.fbx h p).lost = none →
       ∃ t bs, exec (.shiftDone h p none) s = .next (settle t) ∧ t.fbx h p = { s.fbx h p with shifting := false } ∧ t.regs = s.regs ∧
         t.out = .shift h p (max (s.fget h p FBX_TIMING_SHIFT_DLY) (12 + s.fget h p FBX_TIMING_LAT_W)) (s.fget h p FBX_HEAD_CKDIV) bs :: s.out ∧
         bs.map Prod.fst = below 4 (bit (s.fget h p FBX_HEAD_STRANDS)) ∧
         ∀ e ∈ bs, e.2.length = 2 * (s.fget h p FBX_HEAD_NOZ_M1 + 1)) ∧
     (∀ sent k, (s.fbx h p).shifting = true → lostFirst sent (s.fbx h p).lost = some k →
       ∃ t, exec (.shiftDone h p sent) s = .next (settle t) ∧ (t.fbx h p).shifting = false ∧
         t.fget h p FBX_UNDERRUN = satAdd32 (s.fget h p FBX_UNDERRUN) 1 ∧ t.fon h p FBX_EVENT_UNDERRUN = true ∧
         (t.fbx h p).shifted = (s.fbx h p).shifted.filter fun e => decide
           ((if s.fon h p FBX_HEAD_ORDER then s.fget h p FBX_HEAD_NOZ_M1 - e.1 / 4 else e.1 / 4) < k))) ∧
  (∀ (s : State) (h : Nat), s.hasH h = true →
     (∀ p, p < 12 → portState s h p ≠ 5 →
       ∃ t, exec (.cmapApply h p) s = .next (settle t) ∧ requests t h p = true ∧ mapped t h p = mapped s h p) ∧
     ((below 12 (requests s h)) ≠ [] → (∀ p, p < 12 → requests s h p = true → portState s h p ≠ 5) →
       exec (.cmapCheck h) s = .next (settle (mapCheck h s))) ∧
     (mapsOk ((List.range 12).filterMap fun p =>
         if requests s h p then some (stagedMap s h p) else if mapped s h p then some (activeMap s h p) else none) = true →
       mapCheck h s = forEach (below 12 (requests s h)) (mapActivate h) s) ∧
     (mapsOk ((List.range 12).filterMap fun p =>
         if requests s h p then some (stagedMap s h p) else if mapped s h p then some (activeMap s h p) else none) = false →
       mapCheck h s = forEach (below 12 (requests s h)) (mapRefuse h) s) ∧
     (∀ p (v : Word), p < 12 → mapped s h p = false →
       exec (.fbxHeadWrite h p v) s =
         .next (settle (stored BLK_FBX (decide (portState s h p ≤ 3)) h p FBX_HEAD.word v s))))

/-- The Damper's budget window (R170): when a bin ends, the energy of the current bin becomes the newest of the 63 kept before the next, the
oldest of 64 leaves, and the next bin starts at 0. What the Damper does with one drop of a nozzle (R169, R170, R171): a drop beyond the
nozzle limit or the budget is suppressed and counted, any other passes, is recorded and costs its energy. The model's own choices behind
it: log 14. -/
def Obligations.DamperWindowAndDrops : Prop :=
  (∀ (s : State) (h : Nat), s.hasH h = true → (∀ p, (tabGet (fun _ => []) (s.dmp h).past p).length ≤ 63) →
     ∃ t, exec (.damperBinEnd h) s = .next (settle t) ∧ (t.dmp h).cur = [] ∧ (t.dmp h).fires = (s.dmp h).fires ∧
       (∀ p, p < 12 → winSum (t.dmp h) p =
         tabGet (fun _ => 0) (s.dmp h).cur p + ((tabGet (fun _ => []) (s.dmp h).past p).take 62).sum) ∧
       t.regs = s.regs ∧ t.fbxs = s.fbxs) ∧
  (∀ (c : DmpCfg) (slot p i l : Nat) (r : DmpRun), l ≠ 0 →
     let hist := tabGet (fun _ => []) r.x.fires (4096 * p + i)
     (c.nozEn = true → c.nLim ≤ hist.length → damperDrop c slot p i l r = (0, { r with nozSup := r.nozSup + 1 })) ∧
     ((c.nozEn = false ∨ hist.length < c.nLim) → c.headEn = true → c.budget p < winSum r.x p + c.cost p l →
       damperDrop c slot p i l r = (0, { r with headSup := r.headSup + 1, overs := r.overs ||| 2 ^ p })) ∧
     ((c.nozEn = false ∨ hist.length < c.nLim) → (c.headEn = false ∨ winSum r.x p + c.cost p l ≤ c.budget p) →
       (damperDrop c slot p i l r).1 = l ∧ (damperDrop c slot p i l r).2.nozSup = r.nozSup ∧
       (damperDrop c slot p i l r).2.headSup = r.headSup ∧
       tabGet (fun _ => []) (damperDrop c slot p i l r).2.x.fires (4096 * p + i) = slot :: hist ∧
       tabGet (fun _ => 0) (damperDrop c slot p i l r).2.x.cur p = (tabGet (fun _ => 0) r.x.cur p + c.cost p l) % 2 ^ 48))

/-- The nozzle limit (R169): over any sequence of lines with any levels, from empty histories, with NOZ_EN 1 and any budget, no nozzle fires
more than N times in any 256 consecutive lines; a line that brings no levels (a gap or a blank line) fires nothing and counts like any
other; with N = 256 no drop is suppressed by the limit. -/
def Obligations.NozzleFiresAtMostLimitInAnyWindow : Prop :=
  ∀ (c : DmpCfg) (p nz : Nat) (lvs : Nat → Tab Nat) (r : DmpRun),
    c.nozEn = true → 1 ≤ c.nLim → c.nLim ≤ 256 → nz ≤ 4096 → r.x.fires = [] →
    (∀ l, tabWf (fun _ => (0 : Nat)) (lvs l) = true ∧ ∀ e ∈ lvs l, e.1 < nz) →
    let fired (l i : Nat) : Nat := tabGet (fun _ => 0) (damperPort c l p nz (lvs l) (damperLines c p nz lvs r l)).1 i
    (∀ l i, ((List.range 256).filter fun j => fired (l + j) i != 0).length ≤ c.nLim) ∧
    (∀ l i, lvs l = [] → fired l i = 0) ∧
    (c.nLim = 256 → ∀ l, (damperLines c p nz lvs r l).nozSup = r.nozSup ∧
      (c.headEn = false → ∀ i, fired l i = tabGet (fun _ => 0) (lvs l) i))

/-- The gates (R172, R173): a filtered assertion shows in PIN, latches where LATCH is set and sets its ASSERT event; a release clears PIN and
sets RELEASE; a W1C of FND_LATCHED clears a latch only while its assertion is gone; EN decides what is in force. The model's own choices
behind it: log 14. -/
def Obligations.FenderGates : Prop :=
  ∀ (s : State) (g : Nat), g < 8 →
    (bit s.gates g = false →
      ∃ t, exec (.fenderAssert g) s = .next (settle t) ∧ t.gates = s.gates ||| 2 ^ g ∧
        bit (t.fget 0 0 FND_STATUS_PIN) g = true ∧ t.fon 0 0 ⟨BLK_FND, FND_EVENT.word, g, 1⟩ = true ∧
        bit (t.fget 0 0 FND_LATCHED_V) g = (bit (s.fget 0 0 FND_LATCHED_V) g || bit (s.fget 0 0 FND_CTRL_LATCH) g)) ∧
    (bit s.gates g = true →
      ∃ t, exec (.fenderRelease g) s = .next (settle t) ∧ bit t.gates g = false ∧ bit (t.fget 0 0 FND_STATUS_PIN) g = false ∧
        t.fon 0 0 ⟨BLK_FND, FND_EVENT.word, 8 + g, 1⟩ = true ∧ t.fget 0 0 FND_LATCHED_V = s.fget 0 0 FND_LATCHED_V) ∧
    (∀ v : Word, ∃ t, exec (.fenderLatchClear v) s = .next (settle t) ∧ t.gates = s.gates ∧
      bit (t.fget 0 0 FND_LATCHED_V) g = (bit (s.fget 0 0 FND_LATCHED_V) g && (!v.getLsbD g || bit s.gates g))) ∧
    (∀ v : Word, ∃ t, exec (.fndEnWrite v) s = .next (settle t) ∧ t.gates = s.gates ∧ gatesShown t ∧
      t.fget 0 0 FND_LATCHED_V = s.fget 0 0 FND_LATCHED_V ∧
      t.fget 0 0 FND_CTRL_EN = bits v.toNat FND_CTRL_EN.lo FND_CTRL_EN.len)

/-- The Draught's enable, HOLD and resume (R179, R183): EN written 1 with MODE 0 or 1 and a source free of faults enters TRACK with θ at the
target and ω 0, with a faulty source HOLD, with MODE 2 INTERNAL; EN written 0 enters OFF; RESUME leaves HOLD for TRACK only while the
source has no fault; START_ARM is ignored outside TRACK. The model's own choices behind it: log 14. -/
def Obligations.DraughtEnableHoldAndResume : Prop :=
  ∀ (s : State) (h : Nat), s.hasH h = true →
    (∀ v : Word, s.fon h 0 DRT_CTRL_EN = false → drtState s h = 0 → bits v.toNat DRT_CTRL_EN.lo 1 = 1 →
      bits v.toNat DRT_CTRL_RESUME.lo 1 = 0 → bits v.toNat DRT_CTRL_START_ARM.lo 1 = 0 →
      ∃ t, exec (.drtEnWrite h v) s = .next (settle t) ∧ t.fon h 0 DRT_CTRL_EN = true ∧
        (bits v.toNat DRT_CTRL_MODE.lo DRT_CTRL_MODE.len = 2 → drtState t h = 6) ∧
        (bits v.toNat DRT_CTRL_MODE.lo DRT_CTRL_MODE.len ≤ 1 →
          drtState t h = (if srcFaulty t h then 5 else 1) ∧ (t.drt h).theta = 0 ∧ (t.drt h).omega = 0 ∧ (t.drt h).tw = 0 ∧
          t.fon h 0 DRT_STATUS_LOCK = false)) ∧
    (∀ v : Word, s.fon h 0 DRT_CTRL_EN = true → drtState s h ≠ 0 → bits v.toNat DRT_CTRL_EN.lo 1 = 0 →
      bits v.toNat DRT_CTRL_RESUME.lo 1 = 0 → bits v.toNat DRT_CTRL_START_ARM.lo 1 = 0 →
      ∃ t, exec (.drtEnWrite h v) s = .next (settle t) ∧ drtState t h = 0 ∧ (t.drt h).pend = false ∧
        t.fget h 0 DRT_STATUS_PEND = 0 ∧ t.fon h 0 DRT_CTRL_START_ARM = false) ∧
    (s.fon h 0 DRT_CTRL_EN = true → drtState s h = 5 →
      ∃ t, exec (.drtResume h) s = .next (settle t) ∧ drtState t h = (if srcFaulty s h then 5 else 1)) ∧
    (s.fon h 0 DRT_CTRL_EN = true → drtState s h ≠ 1 →
      ∃ t, exec (.startArm h) s = .next (settle t) ∧ drtState t h = drtState s h ∧ t.drts = s.drts ∧
        t.fon h 0 DRT_CTRL_START_ARM = decide (drtState s h = 2))

/-- Starts (R176): in TRACK and PRESS mode an arm whose start the count has reached stays in TRACK with START_LATE, any other waits for it;
the first count at or past the start enters RUN with nb 0, the count as the mark, the target recomputed and θ moved by the change of
target. Reversal (R177): a count more than REV below the mark pauses RUN with REVERSE and REV_CNT; the count back at the mark returns
PAUSED to RUN; a count within REV leaves RUN, a count still below leaves PAUSED. The model's own choices behind it: log 14, 16. -/
def Obligations.DraughtStartAndReversal : Prop :=
  (∀ (s : State) (h : Nat), s.hasH h = true →
     (s.fon h 0 DRT_CTRL_EN = true → drtState s h = 1 → s.fget h 0 DRT_CTRL_MODE ≠ 1 →
       ∃ t, exec (.startArm h) s = .next (settle t) ∧
         (0 ≤ toS 32 (ofS 32 (drtCount s h - toS 32 (s.fget h 0 DRT_START))) →
           drtState t h = 1 ∧ t.fon h 0 DRT_EVENT_START_LATE = true ∧ t.drts = s.drts) ∧
         (toS 32 (ofS 32 (drtCount s h - toS 32 (s.fget h 0 DRT_START))) < 0 →
           drtState t h = 2 ∧ (t.drt h).start = toS 32 (s.fget h 0 DRT_START) ∧ (t.drt h).frac = s.fget h 0 DRT_START_FRAC_V ∧
           t.fon h 0 DRT_CTRL_START_ARM = true)) ∧
     (drtState s h = 2 → toS 32 (ofS 32 (drtCount s h - (s.drt h).start)) < 0 → exec (.startReached h) s = .next (settle s)) ∧
     (drtState s h = 2 → 0 ≤ toS 32 (ofS 32 (drtCount s h - (s.drt h).start)) →
       ∃ t, exec (.startReached h) s = .next (settle t) ∧ drtState t h = 3 ∧ (t.drt h).nb = 0 ∧ (t.drt h).pend = false ∧
         (t.drt h).high = drtCount s h ∧ t.fon h 0 DRT_EVENT_START = true ∧ lnum t h = lnum s h ∧
         (t.drt h).tw = ofS 8 ((toS 32 (ofS 32 (drtCount s h - (s.drt h).start)) * 65536 - (s.drt h).frac) * (ratioN s h : Int)
           / ((ratioM s h : Int) * 65536)) ∧
         (t.drt h).rem = (toS 32 (ofS 32 (drtCount s h - (s.drt h).start)) * 65536 - (s.drt h).frac) * (ratioN s h : Int)
           % ((ratioM s h : Int) * 65536))) ∧
  (∀ (s : State) (h : Nat), s.hasH h = true →
     (drtState s h = 3 → aboveMark s h < -(s.fget h 0 DRT_CTRL_REV : Int) →
       ∃ t, exec (.drtReverse h) s = .next (settle t) ∧ drtState t h = 4 ∧ t.fon h 0 DRT_EVENT_REVERSE = true ∧
         t.fget h 0 DRT_REV_CNT = satAdd32 (s.fget h 0 DRT_REV_CNT) 1 ∧ t.drts = s.drts) ∧
     (drtState s h = 3 → -(s.fget h 0 DRT_CTRL_REV : Int) ≤ aboveMark s h → exec (.drtReverse h) s = .next (settle s)) ∧
     (drtState s h = 4 → 0 ≤ aboveMark s h →
       ∃ t, exec (.drtResumed h) s = .next (settle t) ∧ drtState t h = 3 ∧ t.fon h 0 DRT_EVENT_RESUMED = true ∧
         (t.drt h).pend = (s.drt h).pend ∧ t.basins = s.basins) ∧
     (drtState s h = 4 → aboveMark s h < 0 → exec (.drtResumed h) s = .next (settle s)))

/-- One loop update (R175, R177): 64 clocks of velocity, the clamped 48-bit error against the exact target, the gains of BW; what DRT_OMEGA,
DRT_PHERR and DRT_COUNT show; in RUN the mark follows the highest count, and a boundary that θ reaches during the 64 clocks, or by the
correction, waits for its trigger; OFF, HOLD and INTERNAL run no loop. A line trigger (R175, R163, R173, R174): one that is not due does
nothing; one that is due counts nb on by one and leaves no trigger pending, and LNUM counts on by one; in INTERNAL time has reached the
end of its period; a port latches what was shifted, and strobes its enabled phases with their delays unless a stage holds it. The model's
own choices behind it: log 13, 14, 62, 63. -/
def Obligations.DraughtLoopAndLineTrigger : Prop :=
  (∀ (s : State) (h : Nat),
     ((s.hasH h = false ∨ drtState s h = 0 ∨ 5 ≤ drtState s h) → exec (.drtLoopUpdate h) s = .next (settle s)) ∧
     (s.hasH h = true → 1 ≤ drtState s h → drtState s h ≤ 4 →
       let x := s.drt h
       let dc := toS 32 (ofS 32 (drtCount s h - x.cntPrev))
       let m : Int := ratioM s h
       let r : Int := x.rem + dc * (ratioN s h : Int) * 65536
       let tw := ofS 8 (x.tw + r / (m * 65536))
       let rem := r % (m * 65536)
       let tgt : Int := (tw * 2 ^ 40 + rem.toNat * 2 ^ 24 / ratioM s h % 2 ^ 40 : Nat)
       let step : Nat := ofS 48 (x.omega / 2 ^ 16)
       let th : Nat := (x.theta + 64 * step) % 2 ^ 48
       let e := clampI (-2 ^ 46) (2 ^ 46) (toS 48 (ofS 48 (tgt - th)))
       let up := toS 32 (ofS 32 (drtCount s h - x.high))
       ∀ kp kps ki kis, drtGains[s.fget h 0 DRT_CTRL_BW]? = some (kp, kps, ki, kis) →
         let th1 : Nat := ofS 48 (th + e * kp / 2 ^ kps)
         let passed := decide (0 ≤ toS 48 (ofS 48 ((th1 : Int) - x.nb * 2 ^ 40)))
         ∃ t, exec (.drtLoopUpdate h) s = .next (settle t) ∧ (t.drt h).tw = tw ∧ (t.drt h).rem = rem ∧
           (t.drt h).theta = th1 ∧ (t.drt h).omega = toS 64 (ofS 64 (x.omega + e * ki / 2 ^ kis)) ∧
           (t.drt h).cntPrev = drtCount s h ∧ (t.drt h).nb = x.nb ∧ t.fget h 0 DRT_COUNT = ofS 32 (drtCount s h) ∧
           t.fget h 0 DRT_PHERR = ofS 32 (e / 2 ^ 16) ∧ drtState t h = drtState s h ∧ lnum t h = lnum s h ∧
           (drtState s h ≠ 3 → (t.drt h).pend = x.pend ∧ (t.drt h).high = x.high) ∧
           (drtState s h = 3 → (t.drt h).pend = (x.pend || (dueClock x.theta step x.nb).isSome || passed) ∧
             (t.drt h).high = (if 0 ≤ up then drtCount s h else x.high) ∧
             (x.pend = false → ∀ i, dueClock x.theta step x.nb = some i → (t.drt h).dueAt = x.clk + i) ∧
             (x.pend = false → dueClock x.theta step x.nb = none → passed = true → (t.drt h).dueAt = x.clk + 64)))) ∧
  (∀ (s : State) (h : Nat),
     (triggerDue s h = false → exec (.lineTrigger h) s = .next (settle s)) ∧
     (triggerDue s h = true →
       ∃ t, exec (.lineTrigger h) s = .next (settle t) ∧ (t.drt h).nb = ((s.drt h).nb + 1) % 2 ^ 32 ∧
         (t.drt h).pend = false ∧ t.fget h 0 DRT_STATUS_PEND = 0 ∧
         (s.twn.cmds = [] → lnum t h = (lnum s h + 1) % 2 ^ 48 ∧
           (drtState s h = 6 → t.now = max s.now (internalDue s h)) ∧ (drtState s h ≠ 6 → t.now = s.now))) ∧
     (∀ p held, ((portFire h p held s).fbx h p).latched = (s.fbx h p).shifted ∧
       .latch h p (s.fget h p FBX_TIMING_LAT_W) (s.fbx h p).shifting (s.fon h p FBX_CTRL_LAT_POL) (s.fbx h p).shifted ∈
         (portFire h p held s).out) ∧
     (∀ p, ((portFire h p [] s).fbx h p).strobes = ((below 4 fun m => s.fon h p (FBX_PHASE_EN m)).map fun m => 2 ^ m).sum ∧
       ∀ m, m < 4 → s.fon h p (FBX_PHASE_EN m) = true →
         .strobe h p m (s.fget h p (FBX_PHASE_DELAY m)) ((s.fbx h p).widths.getD m 0) (s.fon h p FBX_CTRL_STB_POL) ∈ (portFire h p [] s).out) ∧
     (∀ p why held, ((portFire h p (why :: held) s).fbx h p).strobes = (s.fbx h p).strobes) ∧
     (∀ p, 1 ∈ holds s h p ↔ gatesInForce s ≠ 0))

/-- Quadrature counting (R217): on an enabled channel with no pair in disagreement, no slew and no index period, one signal changing along 00,
10, 11, 01 counts +1, the reverse way -1, neither 0, both not at all but ILLEGAL. An index pulse (R218): the count is latched; the first
after enable is learned with IDX_LEARN; a deviation within TOL starts a slew and counts IDX_CORR, one beyond it counts IDX_BAD and under
IDX_FAULT raises cause INDEX; with PER 0 nothing is checked. The model's own choices behind it: log 14, 16, 72. -/
def Obligations.QuadratureAndIndex : Prop :=
  (∀ (s : State) (h c : Nat) (a0 b0 a b z : Bool), quadOk h c = true → quadEn s h c = true → (s.quad h c).wires = 0 →
     (s.quad h c).slewD = 0 → s.fget h c FBK_IDX_CFG_PER = 0 →
     bit (s.fget h c FBK_STATUS_ZBA) 0 = a0 → bit (s.fget h c FBK_STATUS_ZBA) 1 = b0 →
     ∃ t, exec (.quadTransition h c a b z) s = .next (settle t) ∧
       t.fget h c FBK_STATUS_ZBA = b2n a + 2 * b2n b + 4 * b2n z ∧
       (((a0, b0), (a, b)) ∈ [((false, false), (true, false)), ((true, false), (true, true)), ((true, true), (false, true)),
         ((false, true), (false, false))] → quadCount t h c = toS 32 (ofS 32 (quadCount s h c + 1))) ∧
       (((a, b), (a0, b0)) ∈ [((false, false), (true, false)), ((true, false), (true, true)), ((true, true), (false, true)),
         ((false, true), (false, false))] → quadCount t h c = toS 32 (ofS 32 (quadCount s h c - 1))) ∧
       (a = a0 ∨ b = b0 → t.fget h c FBK_ILLEGAL = s.fget h c FBK_ILLEGAL) ∧
       (a = a0 → b = b0 → t.fget h c FBK_COUNT = s.fget h c FBK_COUNT) ∧
       (a ≠ a0 → b ≠ b0 → t.fget h c FBK_COUNT = s.fget h c FBK_COUNT ∧ t.fon h c FBK_QEVENT_ILLEGAL = true ∧
         t.fget h c FBK_ILLEGAL = satAdd32 (s.fget h c FBK_ILLEGAL) 1)) ∧
  (∀ (s : State) (h c : Nat), quadOk h c = true → quadEn s h c = true → bit (s.quad h c).wires 2 = false →
     ∃ t, exec (.indexPulse h c) s = .next (settle t) ∧ t.fget h c FBK_IDX_LAST = ofS 32 (quadCount s h c) ∧
       t.fget h c FBK_COUNT = s.fget h c FBK_COUNT ∧ (t.quad h c).idxSeen = true ∧ (t.quad h c).idxAt = quadCount s h c ∧
       (s.fon h c FBK_QCTRL_IDX_LEARN = true → (s.quad h c).idxSeen = false →
         t.fget h c FBK_IDX_REF = ofS 32 (quadCount s h c) ∧ t.fget h c FBK_IDX_BAD = s.fget h c FBK_IDX_BAD) ∧
       ((s.fon h c FBK_QCTRL_IDX_LEARN = false ∨ (s.quad h c).idxSeen = true) →
         t.fget h c FBK_IDX_REF = s.fget h c FBK_IDX_REF ∧
         (s.fget h c FBK_IDX_CFG_PER = 0 → t.fget h c FBK_IDX_BAD = s.fget h c FBK_IDX_BAD ∧
           t.fget h c FBK_IDX_CORR = s.fget h c FBK_IDX_CORR) ∧
         (s.fget h c FBK_IDX_CFG_PER ≠ 0 →
           let d := idxDev (quadCount s h c) (toS 32 (s.fget h c FBK_IDX_REF)) (s.fget h c FBK_IDX_CFG_PER)
           t.fget h c FBK_IDX_DEV = ofS 32 d ∧
           (d ≠ 0 → d.natAbs ≤ s.fget h c FBK_IDX_CFG_TOL →
             (t.quad h c).slewD = d ∧ t.fget h c FBK_IDX_CORR = satAdd32 (s.fget h c FBK_IDX_CORR) 1 ∧
               t.fon h c FBK_QEVENT_IDX_CORR = true) ∧
           (s.fget h c FBK_IDX_CFG_TOL < d.natAbs →
             (t.quad h c).slewD = 0 ∧ t.fget h c FBK_IDX_BAD = satAdd32 (s.fget h c FBK_IDX_BAD) 1 ∧
               t.fon h c FBK_QEVENT_IDX_BAD = true ∧
               (s.fon h c FBK_QCTRL_IDX_FAULT = true → t.fon h c FBK_STATUS_FAULT = true ∧
                 bit (t.fget h c FBK_STATUS_WHY) 4 = true)))))

/-- Channel faults (R216, R221): a pair in disagreement raises its WIRE cause, enabled or not; a disable raises OFF; CLR_FAULT clears FAULT
and WHY with no cause present, else changes nothing but CLR_REFUSED. Speed, Hall and SSI (R220, R222, R224, R225): a window ends with the
change of count in SPEED; Hall states count along 1, 3, 2, 6, 4, 5 or against it, two apart is a SKIP, 0 and 7 are BAD and the next valid
state a new reference; an SSI frame that is due, by its period or by its time unit under TRIG, starts where DAT is high and writes its
position, converted from Gray code under GRAY, unless a wire disagreement, also one in force at its start, discarded it. The model's own
choices behind it: log 14, 16, 72, 74, 75. -/
def Obligations.ChannelFaultsSpeedHallAndSsi : Prop :=
  (∀ (s : State) (h c : Nat), quadOk h c = true →
     (∀ w, w < 3 → bit (s.quad h c).wires w = false →
       ∃ t, exec (.wireDisagree h c w true) s = .next (settle t) ∧ bit (t.quad h c).wires w = true ∧
         t.fon h c FBK_STATUS_FAULT = true ∧ bit (t.fget h c FBK_STATUS_WHY) w = true ∧ t.fon h c FBK_QEVENT_WIRE = true ∧
         t.fon h c FBK_QEVENT_FAULT = true ∧ t.fget h c FBK_COUNT = s.fget h c FBK_COUNT) ∧
     (∀ v : Word, quadEn s h c = true → v &&& 3#32 = 0#32 →
       ∃ t, exec (.fbkQuadEnWrite h c v) s = .next (settle t) ∧ quadEn t h c = false ∧ t.fon h c FBK_STATUS_FAULT = true ∧
         bit (t.fget h c FBK_STATUS_WHY) 6 = true ∧ bit (t.fget h c FBK_STATUS_CAUSE) 6 = true ∧
         t.fget h c FBK_COUNT = s.fget h c FBK_COUNT) ∧
     (causeNow s h c = 0 →
       ∃ t, exec (.clrFault h c) s = .next (settle t) ∧ t.fon h c FBK_STATUS_FAULT = false ∧ t.fget h c FBK_STATUS_WHY = 0) ∧
     (causeNow s h c ≠ 0 →
       ∃ t, exec (.clrFault h c) s = .next (settle t) ∧ t.fget h c FBK_STATUS_FAULT = s.fget h c FBK_STATUS_FAULT ∧
         t.fget h c FBK_STATUS_WHY = s.fget h c FBK_STATUS_WHY ∧ t.fon h c FBK_QEVENT_CLR_REFUSED = true)) ∧
  ((∀ (s : State) (h c : Nat), quadOk h c = true → quadEn s h c = true →
     ∃ t, exec (.speedWindowEnd h c) s = .next (settle t) ∧
       t.fget h c FBK_SPEED = ofS 32 (toS 32 (ofS 32 (quadCount s h c - (s.quad h c).winAt))) ∧
       t.fget h c FBK_SPD_SEQ = (s.fget h c FBK_SPD_SEQ + 1) % 2 ^ FBK_SPD_SEQ.len ∧ (t.quad h c).winAt = quadCount s h c) ∧
   (∀ (s : State) (h k : Nat), hallOk h k = true → s.fon h k FBK_HCTRL_EN = true →
     let order := [1, 3, 2, 6, 4, 5]
     let cnt := toS 32 (s.fget h k FBK_HCOUNT)
     (∀ i, i < 6 → s.fget h k FBK_HSTATUS_S = order.getD i 0 →
       (∃ t, exec (.hallStateChange h k (order.getD ((i + 1) % 6) 0)) s = .next (settle t) ∧
         t.fget h k FBK_HCOUNT = ofS 32 (cnt + 1)) ∧
       (∃ t, exec (.hallStateChange h k (order.getD ((i + 5) % 6) 0)) s = .next (settle t) ∧
         t.fget h k FBK_HCOUNT = ofS 32 (cnt - 1)) ∧
       (∀ d, d = 2 ∨ d = 4 → ∃ t, exec (.hallStateChange h k (order.getD ((i + d) % 6) 0)) s = .next (settle t) ∧
         t.fget h k FBK_HCOUNT = s.fget h k FBK_HCOUNT ∧ t.fon h k FBK_HEVENT_SKIP = true ∧
         t.fget h k FBK_HALL_SKIP = satAdd32 (s.fget h k FBK_HALL_SKIP) 1) ∧
       (∀ n, n = 0 ∨ n = 7 → ∃ t, exec (.hallStateChange h k n) s = .next (settle t) ∧
         t.fget h k FBK_HCOUNT = s.fget h k FBK_HCOUNT ∧ t.fon h k FBK_HEVENT_BAD_STATE = true ∧
         t.fon h k FBK_HSTATUS_IMPOSSIBLE = true)) ∧
     (∀ i, i < 6 → (s.fget h k FBK_HSTATUS_S = 0 ∨ s.fget h k FBK_HSTATUS_S = 7) →
       ∃ t, exec (.hallStateChange h k (order.getD i 0)) s = .next (settle t) ∧ t.fget h k FBK_HCOUNT = s.fget h k FBK_HCOUNT ∧
         t.fget h k FBK_HSTATUS_S = order.getD i 0 ∧ t.fon h k FBK_HSTATUS_IMPOSSIBLE = false)) ∧
   (∀ (s : State) (h k : Nat), ssiOk h k = true →
     (s.fon h k FBK_SCTRL_EN = true → (s.ssi h k).busy = false →
       (ssiDue s h k = true → (s.ssi h k).due = false →
         ((s.ssi h k).pair = false → exec (.ssiFrameStart h k true) s =
           .next (settle (s.setSsi h k { s.ssi h k with busy := true, wire := false }))) ∧
         ((s.ssi h k).pair = true → exec (.ssiFrameStart h k true) s = .next (settle
           ((s.setSsi h k { s.ssi h k with busy := true, wire := true }).raise h k FBK_SEVENT_WIRE))) ∧
         exec (.ssiFrameStart h k false) s = .next (settle ((s.count h k FBK_SSI_BUSY).raise h k FBK_SEVENT_BUSY))) ∧
       (s.fon h k FBK_SCTRL_TRIG = true → (s.ssi h k).due = false → ∀ dat,
         exec (.ssiFrameStart h k dat) s = .next (settle s)) ∧
       ((s.ssi h k).due = true → (s.ssi h k).pair = false →
         let s' := s.setSsi h k { s.ssi h k with due := false }
         exec (.ssiFrameStart h k true) s = .next (settle (s'.setSsi h k { s.ssi h k with busy := true, wire := false, due := false })) ∧
         exec (.ssiFrameStart h k false) s = .next (settle ((s'.count h k FBK_SSI_BUSY).raise h k FBK_SEVENT_BUSY)))) ∧
     ((s.ssi h k).busy = true → (s.ssi h k).wire = true → ∀ raw,
       exec (.ssiFrameDone h k raw) s = .next (settle (s.setSsi h k { s.ssi h k with busy := false, wire := false }))) ∧
     ((s.ssi h k).busy = true → (s.ssi h k).wire = false → ∀ raw, ∃ t, exec (.ssiFrameDone h k raw) s = .next (settle t) ∧
       (t.ssi h k).busy = false ∧ t.fget h k FBK_SSI_SEQ = (s.fget h k FBK_SSI_SEQ + 1) % 2 ^ FBK_SSI_SEQ.len ∧
       (s.fon h k FBK_SCTRL_GRAY = false → t.fget h k FBK_SSI_POS = raw % 2 ^ ssiBits s h k) ∧
       (s.fon h k FBK_SCTRL_GRAY = true →
         t.fget h k FBK_SSI_POS ^^^ (t.fget h k FBK_SSI_POS >>> 1) = raw % 2 ^ ssiBits s h k))) ∧
   (∀ (s : State) (h k : Nat) (v : Word),
     (hallOk h k = true → exec (.fbkHallSsiEnWrite h k v) s =
       .next (settle (stored BLK_FBK (!s.fon h k FBK_HCTRL_EN) h k FBK_HCTRL.word v s))) ∧
     (ssiOk h k = true → exec (.fbkHallSsiEnWrite h k v) s =
       .next (settle (stored BLK_FBK (!s.fon h k FBK_SCTRL_EN) h k FBK_SCTRL.word v s)))))

/-- A push of MOT_Q_PUSH with KIND 0 (R226, R228, R235): a move in IDLE, MOVING or STOPPING with space and no active limit in its direction
joins the queue with its VMAX held to the cap, any other is refused with Q_REFUSED. MOT_CTRL (R236, R237, R239, R240): HOME, STOP and CLR
in the states that take them, EN, the drain's timeout and FORCE_OFF. The model's own choices behind it: log 14, 16. -/
def Obligations.MoveQueueAndAxisControl : Prop :=
  (∀ (s : State) (a : Nat) (v : Word), axisOk a = true → bits v.toNat MOT_Q_PUSH_KIND.lo 1 = 0 →
     let target := toS 32 (s.mget a MOT_Q_TARGET)
     (1 ≤ axState s a → axState s a ≤ 3 → (s.axis a).queue.length < 16 → limitActive s a (sgn (target - queueEnd s a)) = false →
       ∃ t, exec (.motQPush a v) s = .next (settle t) ∧
         (t.axis a).queue = (s.axis a).queue ++ [⟨target, min (vCap s a / 2 ^ 16) (s.mget a MOT_Q_VMAX),
           bits v.toNat MOT_Q_PUSH_BLEND.lo MOT_Q_PUSH_BLEND.len == 1, none, none⟩] ∧
         t.mget a MOT_STATUS_DEPTH = ((s.axis a).queue.length + 1) % 2 ^ MOT_STATUS_DEPTH.len ∧
         (vCap s a / 2 ^ 16 < s.mget a MOT_Q_VMAX → t.mon a MOT_EVENT_CLAMP = true)) ∧
     ((axState s a = 0 ∨ axState s a = 4 ∨ axState s a = 5 ∨ axState s a = 6 ∨ 16 ≤ (s.axis a).queue.length ∨
         limitActive s a (sgn (target - queueEnd s a)) = true) →
       ∃ t, exec (.motQPush a v) s = .next (settle t) ∧ (t.axis a).queue = (s.axis a).queue ∧
         t.mon a MOT_EVENT_Q_REFUSED = true ∧ t.mget a MOT_Q_REFUSED = satAdd32 (s.mget a MOT_Q_REFUSED) 1)) ∧
  (∀ (s : State) (a : Nat), axisOk a = true →
     (axState s a = 1 → (s.axis a).queue = [] → homeActive s a = false →
       limitActive s a (if s.mon a MOT_HOME_DIR then 1 else -1) = false →
       ∃ t, exec (.motHomeWrite a) s = .next (settle t) ∧ axState t a = 4 ∧ (t.axis a).homing = 1 ∧
         t.mon a MOT_STATUS_HOMED = false ∧ (t.axis a).dirn = (if s.mon a MOT_HOME_DIR then 1 else -1)) ∧
     (axState s a ≠ 1 ∨ (s.axis a).queue ≠ [] → ∃ t, exec (.motHomeWrite a) s = .next (settle t) ∧
       t.mon a MOT_EVENT_Q_REFUSED = true ∧ axState t a = axState s a ∧ t.axes = s.axes) ∧
     (axState s a = 2 ∨ axState s a = 4 → ∃ t, exec (.motStopWrite a) s = .next (settle t) ∧ axState t a = 3 ∧
       (t.axis a).ramp = true ∧ (t.axis a).queue = [] ∧ (t.axis a).v = (s.axis a).v ∧
       ((s.axis a).queue ≠ [] → t.mget a MOT_ABORTED = satAdd32 (s.mget a MOT_ABORTED) (s.axis a).queue.length)) ∧
     (∃ t, exec (.motClrWrite a) s = .next (settle t) ∧ t.axes = s.axes ∧ axState t a = if axState s a = 5 then 1 else axState s a) ∧
     (∀ v : Word, axState s a = 0 → s.mon a MOT_CTRL_EN = false → v &&& 0x1F#32 = 1#32 →
       ∃ t, exec (.motEnWrite a v) s = .next (settle t) ∧ axState t a = 1 ∧ t.mon a MOT_CTRL_EN = true ∧ (t.axis a).cmd = 0) ∧
     (∀ v : Word, axState s a = 1 → s.mon a MOT_CTRL_EN = true → v &&& 0x1F#32 = 0#32 → (s.axis a).cur = none →
       (s.axis a).homing = 0 → (s.axis a).ramp = false → (s.axis a).queue = [] → (s.axis a).again = false →
       ∃ t, exec (.motEnWrite a v) s = .next (settle t) ∧ axState t a = 0 ∧ t.mget a MOT_STATUS_DRAIN_RESULT = 3 ∧
         t.mon a MOT_EVENT_DRAIN_DONE = true ∧ t.mon a MOT_STATUS_HOMED = false) ∧
     (∀ v : Word, axState s a = 2 → s.mon a MOT_CTRL_EN = true → v &&& 0x1F#32 = 0#32 → (s.axis a).cur.isSome = true →
       ∃ t, exec (.motEnWrite a v) s = .next (settle t) ∧ axState t a = 6 ∧ (t.axis a).cur = (s.axis a).cur ∧ (t.axis a).queue = []) ∧
     (axState s a = 6 → exec (.motDrainTimeout a) s =
       .next (settle (s.setAxis a { s.axis a with ramp := true, homing := 0, lost := true, vj := 0 }))) ∧
     (∃ t, exec (.motForceOff a) s = .next (settle t) ∧ axState t a = 0 ∧ t.mget a MOT_STATUS_DRAIN_RESULT = 4 ∧
       t.mon a MOT_CTRL_EN = false ∧ (t.axis a).v = 0 ∧ (t.axis a).cur = none ∧ (t.axis a).queue = [] ∧ axPos t a = axPos s a))

/-- Steps, the profile and phase frames (R227, R229, R233): a carry before the tick moves the position one microunit; a tick with no carry due
accelerates a move from rest by A × 256, or ramps a stop down by D × 256; a frame under the link carries CMD, SEQ and its CRC. Standstill,
wake, switches (R234 to R237): the idle action after DELAY at rest in IDLE or LIMIT; the waiting move freed; a limit edge ahead of the
motion stops it at once, discarding every move, in LIMIT; a HOME edge while homing seeks it latches its position. The model's own choices
behind it: log 14, 16, 67, 70. -/
def Obligations.AxisStepsStandstillAndSwitches : Prop :=
  (∀ (s : State) (a : Nat), axisOk a = true →
     ((s.axis a).v ≠ 0 → (s.axis a).clk + (2 ^ 48 - (s.axis a).acc + (s.axis a).v - 1) / (s.axis a).v ≤ 1000 →
       ∃ t, exec (.axisStep a) s = .next (settle t) ∧
         axPos t a = toS 32 (ofS 32 (axPos s a + (s.axis a).dirn))) ∧
     ((s.axis a).v = 0 ∨ 1000 < (s.axis a).clk + (2 ^ 48 - (s.axis a).acc + (s.axis a).v - 1) / (s.axis a).v →
       exec (.axisStep a) s = .next (settle s)) ∧
     (∀ m, axState s a = 2 → (s.axis a).cur = some m → (s.axis a).v = 0 → (s.axis a).waking = false → (s.axis a).ramp = false →
       (s.axis a).homing = 0 → (s.axis a).dCur ≠ 0 → m.target ≠ axPos s a →
       ∃ t, exec (.profileTick a) s = .next (settle t) ∧ (t.axis a).v = min (m.vmax * 2 ^ 16) ((s.axis a).aCur * 256) ∧
         (t.axis a).clk = 0 ∧ axPos t a = axPos s a ∧ (t.axis a).cur = some m) ∧
     (axState s a = 3 → (s.axis a).waking = false → (s.axis a).ramp = true → (s.axis a).dCur * 256 < (s.axis a).v →
       1000 < (s.axis a).clk + (2 ^ 48 - (s.axis a).acc + (s.axis a).v - 1) / (s.axis a).v →
       ∃ t, exec (.profileTick a) s = .next (settle t) ∧ (t.axis a).v = (s.axis a).v - (s.axis a).dCur * 256 ∧
         axPos t a = axPos s a ∧ axState t a = 3) ∧
     (axState s a = 3 → (s.axis a).waking = false → (s.axis a).ramp = true → (s.axis a).v ≤ (s.axis a).dCur * 256 →
       (s.axis a).v = 0 ∨ 1000 < (s.axis a).clk + (2 ^ 48 - (s.axis a).acc + (s.axis a).v - 1) / (s.axis a).v →
       ∃ t, exec (.profileTick a) s = .next (settle t) ∧ (t.axis a).v = 0 ∧ axPos t a = axPos s a ∧ axState t a = 1) ∧
     (s.mon a MOT_CFG_OUT = true → (s.axis a).cmd < 4 → (s.axis a).seq < 8 →
       ∃ t f, exec (.phaseFrameSent a) s = .next (settle t) ∧ t.out = .phase a f :: s.out ∧ bits f 36 4 = 0xA ∧ f < 2 ^ 40 ∧
         bits f 34 2 = (s.axis a).cmd ∧ bits f 30 3 = (s.axis a).seq ∧ bits f 0 6 = crc6 (f / 64) 34 ∧
         ((s.axis a).cmd ≠ 0 → bits f 6 24 = 0) ∧ (t.axis a).seq = ((s.axis a).seq + 1) % 8)) ∧
  (∀ (s : State) (a : Nat), axisOk a = true →
     (axState s a = 1 ∨ axState s a = 5 → (s.axis a).v = 0 → (s.axis a).queue = [] → (s.axis a).cmd = 0 → (s.axis a).waking = false →
       ∃ t, exec (.standstill a) s = .next (settle t) ∧ t.mon a MOT_EVENT_STANDSTILL = true ∧
         (s.mget a MOT_IDLE_ACT = 0 → (t.axis a).cmd = 0 ∧ t.mget a MOT_STATUS_UNHELD = s.mget a MOT_STATUS_UNHELD) ∧
         (s.mget a MOT_IDLE_ACT ≠ 0 → t.mon a MOT_STATUS_UNHELD = true ∧
           (t.axis a).cmd = (if s.mget a MOT_IDLE_ACT = 2 ∧ s.mon a MOT_CFG_OUT = true then 2 else 1))) ∧
     exec (.wakeDelayEnd a) s = .next (settle (s.setAxis a { s.axis a with waking := false })) ∧
     (∀ lv e, lv ≠ (s.axis a).limp → lv = s.mon a MOT_CFG_LIM_POL → (s.axis a).dirn = 1 → (s.axis a).cur.isSome = true → axState s a ≠ 6 →
       ∃ t, exec (.switchDebounceEnd a 2 lv e) s = .next (settle t) ∧ axState t a = 5 ∧ (t.axis a).v = 0 ∧ (t.axis a).cur = none ∧
         (t.axis a).queue = [] ∧ t.mon a MOT_EVENT_LIMIT = true ∧
         t.mget a MOT_ABORTED = satAdd32 (s.mget a MOT_ABORTED) ((s.axis a).queue.length + 1) ∧ axPos t a = axPos s a) ∧
     (∀ lv e, lv ≠ (s.axis a).limn → lv ≠ s.mon a MOT_CFG_LIM_POL →
       exec (.switchDebounceEnd a 1 lv e) s = .next (settle (s.setAxis a { s.axis a with limn := lv }))) ∧
     (∀ lv e, lv ≠ (s.axis a).home → (s.axis a).homing = 1 →
       ∃ t, exec (.switchDebounceEnd a 0 lv e) s = .next (settle t) ∧ (t.axis a).homing = 2 ∧ (t.axis a).home = lv ∧
         t.mget a MOT_LATCH = ofS 32 e))

/-- A pop of an empty queue (R289, R298): it returns the last word popped, or 0 if none has been popped since reset or since DEPTH last
changed its value; it sets LAST_UNDER until the next pop and the sticky UNDERRUN and counts in FLU_UNDER_CNT; EMPTY shows an empty queue
without a pop. A flush is no pop and keeps the last word. -/
def Obligations.PopOfEmptyQueue : Prop :=
  ∀ (s : State) (h q : Nat), fluOk s h q = true →
    ((flueStatus s h q).getLsbD 16 = (s.flue h q).words.isEmpty) ∧
    ((flueStatus s h q).getLsbD 19 = (s.flue h q).lastUnder) ∧ ((flueStatus s h q).getLsbD 24 = (s.flue h q).under) ∧
    (∀ up, (s.flue h q).words = [] →
      (fluePop h q up s).1 = (s.flue h q).last ∧
      ∃ t, exec (.fluePop h q up) s = .next (settle t) ∧ t.out = .popped h q (s.flue h q).last :: s.out ∧ (t.flue h q).lastUnder = true ∧ (t.flue h q).under = true ∧
        (t.flue h q).last = (s.flue h q).last ∧ (t.flue h q).words = [] ∧
        t.fget h 0 FLU_UNDER_CNT = satAdd32 (s.fget h 0 FLU_UNDER_CNT) 1) ∧
    (∀ up, (s.flue h q).words ≠ [] →
      ∃ t, exec (.fluePop h q up) s = .next (settle t) ∧ (t.flue h q).lastUnder = false ∧
        (t.flue h q).last = (fluePop h q up s).1 ∧ (t.flue h q).under = (s.flue h q).under ∧
        t.fget h 0 FLU_UNDER_CNT = s.fget h 0 FLU_UNDER_CNT) ∧
    (State.reset.flue h q).last = 0 ∧
    (∀ v : Word, bits v.toNat (FLU_Q_CFG_DEPTH q).lo (FLU_Q_CFG_DEPTH q).len ≠ s.fget h 0 (FLU_Q_CFG_DEPTH q) →
      ∃ t, exec (.flueCfgWrite h q v) s = .next (settle t) ∧ (t.flue h q).words = [] ∧ (t.flue h q).last = 0) ∧
    (∀ v : Word, bits v.toNat (FLU_Q_CFG_DEPTH q).lo (FLU_Q_CFG_DEPTH q).len = s.fget h 0 (FLU_Q_CFG_DEPTH q) →
      ∃ t, exec (.flueCfgWrite h q v) s = .next (settle t) ∧ t.flue h q = s.flue h q) ∧
    (∀ v : Word, v.getLsbD q = true →
      ∃ t, exec (.flueFlush h v) s = .next (settle t) ∧ (t.flue h q).words = [] ∧ (t.flue h q).last = (s.flue h q).last)

/-- A Flue queue is first in, first out (R287, R288): words pushed while they fit come back in the order they went in, none poisoned; a host
push is appended where there is space, else discarded with OVF and FLU_OVF_CNT; a popped word that fails its parity check is delivered
with the poison tag; a word that has waited STALE is reported stale and kept (R290). The model's own choices behind it: log 14, 16. -/
def Obligations.FlueKeepsItsWordsInOrder : Prop :=
  ∀ (s : State) (h q : Nat), fluOk s h q = true →
    (∀ ws : List Word, (s.flue h q).words = [] → ws.length ≤ flueCap s h q →
      let t := ws.foldl (fun s w => fluePush h q w s) s
      (popMany h q ws.length t).1 = ws ∧ ((popMany h q ws.length t).2.flue h q).words = [] ∧
      ((popMany h q ws.length t).2.flue h q).poison = (s.flue h q).poison) ∧
    (∀ v : Word, (s.flue h q).words.length < flueCap s h q →
      ∃ t, exec (.fluePush h q v) s = .next (settle t) ∧ (t.flue h q).words = (s.flue h q).words ++ [(v, parity32 v)] ∧
        ∀ p, p < 32 → p ≠ q → t.flue h p = s.flue h p) ∧
    (∀ v : Word, flueCap s h q ≤ (s.flue h q).words.length →
      ∃ t, exec (.fluePush h q v) s = .next (settle t) ∧ (t.flue h q).words = (s.flue h q).words ∧ (t.flue h q).ovf = true ∧
        t.fget h 0 FLU_OVF_CNT = satAdd32 (s.fget h 0 FLU_OVF_CNT) 1) ∧
    (∀ w par rest up, (s.flue h q).words = (w, par) :: rest →
      ∃ t, exec (.fluePop h q up) s = .next (settle t) ∧ (fluePop h q up s).1 = w ^^^ up ∧ t.out = .popped h q (w ^^^ up) :: s.out ∧
        (t.flue h q).words = rest ∧
        (t.flue h q).lastPoison = (parity32 (w ^^^ up) != par) ∧
        (parity32 (w ^^^ up) ≠ par → (t.flue h q).poison = true ∧
          t.fget h 0 FLU_POISON_CNT = satAdd32 (s.fget h 0 FLU_POISON_CNT) 1)) ∧
    ((s.flue h q).timing = true → s.fget h 0 (FLU_Q_CFG_STALE q) ≠ 0 →
      ∃ t, exec (.flueStale h q) s = .next (settle t) ∧ (t.flue h q).stale = true ∧ (t.flue h q).timing = false ∧
        (t.flue h q).words = (s.flue h q).words)

/-- Links and arbiters (R247, R250, R251, R262): a resend counts, the seventeenth within 1 ms takes the link down at both ends; a retrained
link is UP; class F goes first while its cap lasts, else the front queue is served when its deficit, a quantum richer, covers its head; a
hearth-level output hands its packet, with the number of active requesters of its class, to the device level; a request made meanwhile
enters first (R248, R249). The memory controllers (R254 to R257, R260): training ends READY or FAIL; a retraining counts and shows the
temperature; a refresh waits for class F at most eight intervals; an activate steps the LFSR and refreshes the neighbours when its low K
bits are 0, after the class F requests that wait for the bank; an F read that is late or has an error link ECC finds (R252). The model's
own choices behind it: log 14, 16, 95, 97, 99, 100, 175, 176. -/
def Obligations.LinksArbitersAndMemoryControllers : Prop :=
  (∀ (s : State) (h : Nat), s.hasH h = true →
     (∀ l, linkUp s h l = true →
       let recent := (tabGet (fun _ => []) (s.chm h).resends l).filter fun t => decide (s.now < t + 400000)
       (recent.length < 16 → ∃ t, exec (.flitCrcError h l) s = .next (settle t) ∧ t.linksLost = s.linksLost ∧
         t.fget h 0 CHM_RETRY = satAdd32 (s.fget h 0 CHM_RETRY) 1 ∧
         tabGet (fun _ => []) (t.chm h).resends l = s.now :: recent) ∧
       (16 ≤ recent.length → ∃ t, exec (.flitCrcError h l) s = .next (settle t) ∧ linkUp t h l = false ∧
         linkUp t (linkPeer s h l).1 (linkPeer s h l).2 = false ∧ t.fon h 0 CHM_EVENT_RETRY_LIMIT = true ∧
         t.fon h 0 CHM_EVENT_LINK_DOWN = true)) ∧
     (∀ l, linkPresent s h l = true → linkUp s h l = false →
       ∃ t, exec (.chimneyLinkUp h l) s = .next (settle t) ∧ linkUp t h l = true ∧ t.fon h 0 CHM_EVENT_LINK_UP = true) ∧
     (∀ o p ps, (o = 3 ∨ o = 4 ∨ (o < 3 ∧ linkUp s h o = true)) →
       (tabGet (fun _ => {}) (s.chm h).outs o).f = p :: ps → (tabGet (fun _ => {}) (s.chm h).outs o).served < 64 →
       (tabGet (fun _ => {}) (s.chm h).outs o).fUsed < fCap s h o →
       ∃ t, exec (.chimneyPacketSent h o [] 0) s = .next (settle t) ∧ t.out = .packet h o p :: s.out ∧
         (tabGet (fun _ => {}) (t.chm h).outs o).f = ps ∧
         (tabGet (fun _ => {}) (t.chm h).outs o).fUsed = (tabGet (fun _ => {}) (s.chm h).outs o).fUsed + p.len) ∧
     (∀ o q p ps rest, (o = 3 ∨ o = 4 ∨ (o < 3 ∧ linkUp s h o = true)) →
       (tabGet (fun _ => {}) (s.chm h).outs o).f = [] → (tabGet (fun _ => {}) (s.chm h).outs o).served < 64 →
       (tabGet (fun _ => {}) (s.chm h).outs o).active = q :: rest → q.pkts = p :: ps → q.fresh = true →
       p.len ≤ q.deficit + quantum s h o q.cls * clampN 1 63 p.cnt →
       ∃ t, exec (.chimneyPacketSent h o [] 0) s = .next (settle t) ∧ t.out = .packet h o p :: s.out ∧
         (tabGet (fun _ => {}) (t.chm h).outs o).active = (if ps = [] then rest else
           { q with pkts := ps, deficit := q.deficit + quantum s h o q.cls * clampN 1 63 p.cnt - p.len, fresh := false } :: rest)) ∧
     (∀ o q p ps rest, o < 5 → (s.outX h (8 + o)).active = q :: rest → q.pkts = p :: ps → q.fresh = true →
       p.len ≤ q.deficit + quantum s h o q.cls →
       ∃ t, exec (.chimneyPacketSent h (8 + o) [] 0) s = .next (settle t) ∧ t.out = s.out ∧
         (t.outX h (8 + o)).active = (if ps = [] then rest else
           { q with pkts := ps, deficit := q.deficit + quantum s h o q.cls - p.len, fresh := false } :: rest) ∧
         t.outX h o = arbJoin o (s.outX h o) { p with cnt := clampN 1 63 (activeReqs s h p.cls), since := s.now }) ∧
     (∀ o r rs ecc, r.req < 22 →
       exec (.chimneyPacketSent h o (r :: rs) ecc) s = exec (.chimneyPacketSent h o rs ecc) (request h r s)) ∧
     (∀ v, exec (.chmStatSelWrite h v) s =
       .next (settle ((stored BLK_CHM true h 0 CHM_STAT_SEL.word v s).fput h 0 CHM_STAT_FLITS 0)))) ∧
  (∀ (s : State) (h : Nat), s.hasH h = true →
     (drmState s h ≤ 1 → ∀ m,
       (m % 4 = 0 → ∃ t, exec (.dramTrainingDone h m) s = .next (settle t) ∧ drmState t h = 2 ∧ t.fon h 0 DRM_EVENT_TRAIN_DONE = true ∧
         tabGet (fun _ => 0) (t.chm h).lfsr 1 = max 1 (s.fget h 0 DRM_NRR_SEED_LFSR)) ∧
       (m % 4 ≠ 0 → ∃ t, exec (.dramTrainingDone h m) s = .next (settle t) ∧ drmState t h = 3 ∧
         t.fget h 0 DRM_STATUS_TRAIN_FAIL = m % 4 ∧ t.fon h 0 DRM_EVENT_TRAIN_FAIL = true)) ∧
     (drmState s h = 2 → ∀ ch ok temp d, ch < 2 → ∃ t, exec (.retrainDue h ch ok temp d) s = .next (settle t) ∧
       t.fget h 0 DRM_RETRAIN_CNT = satAdd32 (s.fget h 0 DRM_RETRAIN_CNT) 1 ∧ t.fget h 0 DRM_TEMP_V = temp % 2 ^ DRM_TEMP_V.len ∧
       tabGet (fun _ => 0) (t.chm h).delays ch = (if ok then d else tabGet (fun _ => 0) (s.chm h).delays ch) ∧
       (ok = false → t.fon h 0 DRM_EVENT_RETRAIN_FAIL = true) ∧
       (s.fget h 0 DRM_RETRAIN_TSTEP ≠ 0 →
         s.fget h 0 DRM_RETRAIN_TSTEP ≤ (toS 16 temp - tabGet (fun _ => 0) (s.chm h).temp ch).natAbs →
         t.fon h 0 DRM_EVENT_TEMP_STEP = true)) ∧
     (∀ ch bank, ch < 2 → bank < 16 →
       let owed := tabGet (fun _ => 0) (s.chm h).owed (16 * ch + bank)
       (owed < 8 → ∃ t, exec (.refreshDue h ch bank true) s = .next (settle t) ∧ t.out = s.out ∧
         tabGet (fun _ => 0) (t.chm h).owed (16 * ch + bank) = owed + 1) ∧
       (8 ≤ owed → exec (.refreshDue h ch bank true) s = .next (settle ((pastPause h ch s).emit (.refresh h ch bank 1)))) ∧
       (∃ t, exec (.refreshDue h ch bank false) s = .next (settle t) ∧ t.out = .refresh h ch bank (owed + 1) :: s.out ∧
         tabGet (fun _ => 0) (t.chm h).owed (16 * ch + bank) = 0)) ∧
     (∀ a, s.fon h 0 DRM_NRR_EN = true → drmState s h = 2 → a < s.fitted h →
       let ch := (dramPlace s h a).1
       let v := tabGet (fun _ => 0) (s.chm h).lfsr ch
       let v' := (v * 2 + b2n (bit v 30 != bit v 27)) % 2 ^ 31
       (∃ t, exec (.neighbourRefresh h a true) s = .next (settle t) ∧ tabGet (fun _ => 0) (t.chm h).lfsr ch = v' ∧ t.out = s.out ∧
         (v' % 2 ^ clampN 6 14 (s.fget h 0 DRM_NRR_K) = 0 → (dramPlace s h a).2.2.2 ≠ 0 →
           (dramPlace s h a).2.2.2 + 1 < s.fitted h / 131072 → ∃ now, (t.chm h).waiting = (s.chm h).waiting ++
             [(ch, (dramPlace s h a).2.1, (dramPlace s h a).2.2.2 - 1, now), (ch, (dramPlace s h a).2.1, (dramPlace s h a).2.2.2 + 1, now)])) ∧
       ∃ t, exec (.neighbourRefresh h a false) s = .next (settle t) ∧ tabGet (fun _ => 0) (t.chm h).lfsr ch = v' ∧
         (v' % 2 ^ clampN 6 14 (s.fget h 0 DRM_NRR_K) ≠ 0 → t.out = s.out) ∧
         (v' % 2 ^ clampN 6 14 (s.fget h 0 DRM_NRR_K) = 0 → (dramPlace s h a).2.2.2 ≠ 0 →
           (dramPlace s h a).2.2.2 + 1 < s.fitted h / 131072 →
           t.out = .rowRefresh h ch (dramPlace s h a).2.1 ((dramPlace s h a).2.2.2 + 1) ::
             .rowRefresh h ch (dramPlace s h a).2.1 ((dramPlace s h a).2.2.2 - 1) :: s.out ∧
           t.fget h 0 DRM_NRR_CNT = satAdd32 (s.fget h 0 DRM_NRR_CNT) 2)) ∧
     (∀ ch ns ecc c₀ cs, ns ≤ 0xFFFFFFFF → ∃ t, exec (.fReadReturn h ch ns ecc c₀ cs) s = .next (settle t) ∧
       t.fget h 0 DRM_F_LAT_MAX = max (s.fget h 0 DRM_F_LAT_MAX) ns ∧
       (1800 < ns → t.fget h 0 DRM_F_LATE = satAdd32 (s.fget h 0 DRM_F_LATE) 1 ∧ t.fon h 0 DRM_EVENT_F_LATE = true) ∧
       (ns ≤ 1800 → t.fget h 0 DRM_F_LATE = s.fget h 0 DRM_F_LATE) ∧
       (s.fon h 0 DRM_CFG_LECC = true →
         (ecc = 1 → t.fget h 0 DRM_LECC_CORR = satAdd32 (s.fget h 0 DRM_LECC_CORR) 1) ∧
         (ecc = 2 → t.fget h 0 DRM_LECC_UNC = satAdd32 (s.fget h 0 DRM_LECC_UNC) 1 ∧ t.fon h 0 DRM_EVENT_LECC_UNC = true))))

/-- The camera ports while the pipeline is off (R188, R190, R193, R194, R212): what a packet does by its header, channel and type; the closing
of a frame; triggers; enable and disable. The pipeline, verdicts, the closing of inspection, the density table and I²C (R189, R194, R205,
R206, R208, R210, R212). The model's own choices behind it: log 14, 16, 46, 78, 80, 81, 82, 85, 91, 123. -/
def Obligations.CamerasPipelineAndVerdicts : Prop :=
  (∀ (s : State) (h c : Nat), s.hasH h = true → c < 2 → ispRuns s h = false →
     (∀ p, camState s h c ≠ 0 → csiCorrect p = none → exec (.csiPacketReceived h c p) s = .next (settle s)) ∧
     (∀ p d, camState s h c ≠ 0 → csiCorrect p = some (d, true) → d / 64 % 4 + 4 * (d / 2 ^ 24 % 4) ≠ s.fget h c CAM_CTRL_VC →
       exec (.csiPacketReceived h c p) s = .next (settle (s.count h c CAM_ECC_CORR))) ∧
     (∀ p d, camState s h c ≠ 0 → csiCorrect p = some (d, false) → d / 64 % 4 + 4 * (d / 2 ^ 24 % 4) = s.fget h c CAM_CTRL_VC →
       let x := s.cam h c
       let pay := slice p 4 (d / 256 % 65536)
       let sel := if s.fon h c CAM_CTRL_DT then 0x2C else 0x2B
       (d % 64 = 0x00 → x.frame = false → camState s h c ≠ 5 →
         ∃ t, exec (.csiPacketReceived h c p) s = .next (settle t) ∧ camState t h c = 3 ∧ (t.cam h c).frame = true ∧
           (t.cam h c).got = 0 ∧ (t.cam h c).buf = x.buf ++ [.start (if camMode s h c = 0 then camPos s h else x.latchW) s.tim.sec s.tim.ns
             (if camMode s h c = 0 then timeNs s else x.latchNs)] ∧
           (x.down = true → t.fon h c CAM_EVENT_LINK_UP = true)) ∧
       (d % 64 = 0x01 → x.frame = true → camState s h c ≠ 5 →
         ∃ t, exec (.csiPacketReceived h c p) s = .next (settle t) ∧ camState t h c = 2 ∧ (t.cam h c).frame = false ∧
           t.fget h c CAM_FNUM = (s.fget h c CAM_FNUM + 1) % 2 ^ 32 ∧
           t.fget h c CAM_FRAMES = satAdd32 (s.fget h c CAM_FRAMES) 1 ∧
           (x.got < camLines s h c → t.fget h c CAM_SHORT = satAdd32 (s.fget h c CAM_SHORT) 1 ∧ t.fon h c CAM_EVENT_SHORT = true) ∧
           (camLines s h c < x.got → t.fon h c CAM_EVENT_LONG = true)) ∧
       (d % 64 = sel → x.frame = true → x.dropping = false → x.got < camLines s h c → pay.length = d / 256 % 65536 →
         leAt p (4 + d / 256 % 65536) 2 = csiCrc pay → camHeld s h c < 63 →
         ∀ m, lineSamples (d % 64) pay (s.fget h c CAM_GEOM_WIDTH) = some m →
           ∃ t, exec (.csiPacketReceived h c p) s = .next (settle t) ∧ (t.cam h c).got = x.got + 1 ∧ (t.cam h c).valid = x.valid + 1 ∧
             (t.cam h c).buf = x.buf ++ [.row x.got (timeNs s) (flatLine x.flat m)]) ∧
       (d % 64 = sel → x.frame = true → x.dropping = false → x.got < camLines s h c →
         (leAt p (4 + d / 256 % 65536) 2 ≠ csiCrc pay ∨ lineSamples (d % 64) pay (s.fget h c CAM_GEOM_WIDTH) = none) →
           ∃ t, exec (.csiPacketReceived h c p) s = .next (settle t) ∧ (t.cam h c).got = x.got + 1 ∧ (t.cam h c).buf = x.buf ∧
             t.fget h c CAM_LINE_ERR = satAdd32 (s.fget h c CAM_LINE_ERR) 1 ∧ t.fon h c CAM_EVENT_LINE_ERR = true) ∧
       (d % 64 = sel → x.frame = true → x.dropping = false → camLines s h c ≤ x.got →
         ∃ t, exec (.csiPacketReceived h c p) s = .next (settle t) ∧ (t.cam h c).buf = x.buf ∧
           t.fget h c CAM_LONG_LINES = satAdd32 (s.fget h c CAM_LONG_LINES) 1) ∧
       (d % 64 = 0x1E → exec (.csiPacketReceived h c p) s = .next (settle (s.raise h c CAM_EVENT_DT_BAD)))) ∧
     ((s.cam h c).frame = true → camState s h c ≠ 5 → ∃ t, exec (.frameTimeout h c) s = .next (settle t) ∧ camState t h c = 2 ∧
       (t.cam h c).frame = false ∧ t.fget h c CAM_FNUM = (s.fget h c CAM_FNUM + 1) % 2 ^ 32) ∧
     ((s.cam h c).frame = true → camState s h c = 5 → (s.cam h c).again = false → ∃ t, exec (.frameTimeout h c) s = .next (settle t) ∧
       camState t h c = 0 ∧ (t.cam h c).frame = false ∧ t.fget h c CAM_STATUS_DRAIN_RESULT = (if (s.cam h c).dropping then 4 else 3)) ∧
     (s.fon h c CAM_CTRL_EN = true → camState s h c ≠ 0 → exec (.cameraLinkDown h c) s =
       .next (settle ((s.setCam h c { s.cam h c with down := true }).raise h c CAM_EVENT_LINK_DOWN))) ∧
     (camDue s h c = false → exec (.cameraTrigger h c) s = .next (settle s)) ∧
     (s.fon h c CAM_CTRL_EN = true → camState s h c ≠ 0 → camDue s h c = true →
       ∃ t, exec (.cameraTrigger h c) s = .next (settle t) ∧ t.out = .camTrig h c (max 1 (s.fget h c CAM_TRIG_PW)) :: s.out ∧
         (t.cam h c).latchNs = timeNs s ∧ (t.cam h c).tuDue = false ∧ (t.cam h c).trigAt = camPos s h ∧
         (t.cam h c).latchW / 65536 = toS 32 (s.fget (srcH s h) (srcC s h) FBK_COUNT)) ∧
     (∀ v : Word, camState s h c = 0 → s.fon h c CAM_CTRL_EN = false → v &&& 3#32 = 1#32 →
       ∃ t, exec (.camEnWrite h c v) s = .next (settle t) ∧ camState t h c = 1 ∧ t.fon h c CAM_CTRL_EN = true) ∧
     (∀ v : Word, s.fon h c CAM_CTRL_EN = true → v &&& 3#32 = 0#32 → (s.cam h c).again = false →
       ∃ t, exec (.camEnWrite h c v) s = .next (settle t) ∧ camState t h c = (if (s.cam h c).frame then 5 else 0) ∧
         ((s.cam h c).frame = false → t.fget h c CAM_STATUS_DRAIN_RESULT = 3 ∧ t.fon h c CAM_EVENT_DRAIN_DONE = true)) ∧
     (camState s h c = 5 → (s.cam h c).frame = true → (s.cam h c).again = false →
       ∃ t, exec (.camDrainTimeout h c) s = .next (settle t) ∧ camState t h c = 0 ∧ t.fget h c CAM_STATUS_DRAIN_RESULT = 4) ∧
     (∃ t, exec (.camForceOff h c) s = .next (settle t) ∧ camState t h c = 0 ∧ t.fget h c CAM_STATUS_DRAIN_RESULT = 4 ∧
       t.fon h c CAM_CTRL_EN = false ∧ (t.cam h c).frame = false)) ∧
  (∀ (s : State) (h : Nat), s.hasH h = true →
     (∀ r0 t0 m0 r1 t1 m1, ispRuns s h = true → (s.cam h 0).buf = [.row r0 t0 m0] → (s.cam h 1).buf = [.row r1 t1 m1] →
       let c := if t0 < t1 then 0 else if t1 < t0 then 1 else s.fget h 0 ISP_CTRL_PRIO
       ∃ t, exec (.pipelineLineTaken h) s = .next (settle t) ∧ (t.cam h c).buf = [] ∧
         (t.cam h c).rows = (s.cam h c).rows ++ [if c = 0 then (r0, m0) else (r1, m1)] ∧ t.cam h (1 - c) = s.cam h (1 - c)) ∧
     (ispRuns s h = false → exec (.pipelineLineTaken h) s = .next (settle s)) ∧
     (∀ msg : List Byte, msg.length = 16 → byteAt msg 0 = 1 → byteAt msg 1 = h →
       (s.fon h 0 ISP_CTRL_APPLY = false ∨ twnStandby s = true ∨ verdictEntry s h (byteAt msg 2) (ashAhead s h (leAt msg 4 2)) = none →
         ∃ t, exec (.verdictReceived h msg) s = .next (settle t) ∧ t.ters = s.ters ∧ t.fon h 0 ISP_EVENT_SKIP = true ∧
           t.fget h 0 ISP_SKIP = satAdd32 (s.fget h 0 ISP_SKIP) 1) ∧
       (∀ e, s.fon h 0 ISP_CTRL_APPLY = true → twnStandby s = false → twnLeads s = false →
         verdictEntry s h (byteAt msg 2) (ashAhead s h (leAt msg 4 2)) = some e → leAt msg 4 2 < columns →
         s.fon h 0 ASH_CTRL_Q_EN = true → (s.ter h).ashQ.length < 256 →
         ∃ t, exec (.verdictReceived h msg) s = .next (settle t) ∧ t.fon h 0 ISP_EVENT_APPLIED = true ∧
           t.fget h 0 ISP_APPLIED = satAdd32 (s.fget h 0 ISP_APPLIED) 1 ∧
           (t.ter h).ashQ = (s.ter h).ashQ ++ [(leAt msg 4 2, e, lnum s h + max 1 (s.fget h 0 ISP_VERDICT_LEAD))])) ∧
     (∀ (e : Word), ashState e = 0 → ∃ w, verdictEntry s h 1 e = some w ∧ ashState w = 1 ∧
       ashGain w = min 255 (ashGain e + s.fget h 0 ISP_VERDICT_WEAK_GAIN)) ∧
     (∀ (e : Word) v, 2 ≤ ashState e → verdictEntry s h v e = none) ∧
     (∀ (msg : List Byte) p, msg.length = 16 → byteAt msg 0 = 2 → (s.bas h).tbl = [p] → p.held = true → p.st = .firing →
       let key := byteAt msg 3 / 16 % 8 * 2 + byteAt msg 3 % 2
       ∃ t, exec (.watermarkReceived h msg) s = .next (settle t) ∧ t.regs = s.regs ∧
         (t.bas h).tbl = [{ p with marks := (key, leAt msg 8 4) :: p.marks.filter (fun m => m.1 != key) }]) ∧
     (∀ pg p, findPage s h pg = some p → p.st = .fired → inspectionOff s h = false → inspectionClosed s h p = false →
       exec (.inspectionCloseTimeout h pg) s = .next (settle (retirePage h pg
         ((mapPage h pg (fun q => { q with notInspected := true }) s).raise h 0 ISP_EVENT_CLOSE_TIMEOUT)))) ∧
     (∀ v : Word, s.fon h 0 ISP_CTRL_EN = false → v &&& 3#32 = 1#32 → dramFailed s h = false →
       (s.cam h 0).buf = [] → (s.cam h 1).buf = [] →
       ∃ t, exec (.ispEnWrite h v) s = .next (settle t) ∧ ispRuns t h = true ∧ t.fon h 0 ISP_CTRL_EN = true ∧
         (t.isp h).wins = (if bits v.toNat ISP_CTRL_CMP_EN.lo ISP_CTRL_CMP_EN.len = s.fget h 0 ISP_CTRL_CMP_EN then (s.isp h).wins else [])) ∧
     (∀ v : Word, s.fon h 0 ISP_CTRL_EN = true → v &&& 3#32 = 0#32 →
       ∃ t, exec (.ispEnWrite h v) s = .next (settle t) ∧ ispRuns t h = false ∧ t.fget h 0 ISP_STATUS_DRAIN_RESULT = 3 ∧
         (t.isp h).wins = [] ∧ t.fon h 0 ISP_EVENT_DRAIN_DONE = true) ∧
     (∃ t, exec (.ispForceOff h) s = .next (settle t) ∧ ispRuns t h = false ∧ t.fget h 0 ISP_STATUS_DRAIN_RESULT = 4 ∧
       t.fon h 0 ISP_CTRL_EN = false ∧ (t.isp h).wins = []) ∧
     (∀ v : Word, s.fon h 0 ISP_CTRL_EN = true → v &&& 3#32 = 1#32 →
       ∃ t, exec (.ispCmpEnWrite h v) s = .next (settle t) ∧ t.cams = s.cams ∧
         (t.isp h).wins = (if bits v.toNat ISP_CTRL_CMP_EN.lo ISP_CTRL_CMP_EN.len = s.fget h 0 ISP_CTRL_CMP_EN then (s.isp h).wins else []) ∧
         t.fget h 0 ISP_CTRL_CMP_EN = bits v.toNat ISP_CTRL_CMP_EN.lo ISP_CTRL_CMP_EN.len) ∧
     (∀ v : Word, ∃ t, exec (.ispDlutDataAccess h (some v)) s = .next (settle t) ∧
       tabGet (fun _ => 0) (t.isp h).dlut (s.fget h 0 ISP_DLUT_ADDR_V) = v.toNat % 65536 ∧
       t.fget h 0 ISP_DLUT_ADDR_V = (s.fget h 0 ISP_DLUT_ADDR_V + 1) % 4096) ∧
     (∃ t, exec (.ispDlutDataAccess h none) s = .next (settle t) ∧
       t.out = .tableRead h BLK_ISP (BitVec.ofNat 32 (tabGet (fun _ => 0) (s.isp h).dlut (s.fget h 0 ISP_DLUT_ADDR_V))) :: s.out ∧
       t.fget h 0 ISP_DLUT_ADDR_V = (s.fget h 0 ISP_DLUT_ADDR_V + 1) % 4096 ∧ (t.isp h).dlut = (s.isp h).dlut) ∧
     (∀ p res rd n ch tag, p < 2 → (s.i2c h p).run = some (n, ch, tag) →
       ∃ t, exec (.i2cTransferDone h p res rd) s = .next (settle t) ∧ (t.i2c h p).run = none ∧
         (t.i2c h p).last = (if res = 0 then padTo n (rd.take n) else [])))

/-- The counter (R371 to R373, R379): a tick adds INC and any adjustment to the whole time, or loads; a write of TIM_INC_HI waits for the next
tick within the limits of INC, and not while frozen; SET, ADJ and UNFREEZE. Time units (R380 to R382): a write of CTRL takes the target
and the period; a unit fires at or after its target by the signed difference, once or period by period, skipping what is behind; a capture
takes the tick time of its target's event. The model's own choices behind it: log 14, 16, 142. -/
def Obligations.CounterIncrementStepsAndUnits : Prop :=
  ((∀ (x : TimX) (d : Int), x.set = none → x.adj.getD 0 = d → x.ns < 10 ^ 9 → x.frac < 2 ^ 32 → x.incNew.getD x.inc < 10 ^ 9 * 2 ^ 32 →
     let whole (y : TimX) : Int := ((y.sec * 10 ^ 9 + y.ns) * 2 ^ 32 + y.frac : Nat)
     let due := whole x + (x.incNew.getD x.inc : Nat) + d * 2 ^ 32
     0 ≤ due → due < 2 ^ 48 * 10 ^ 9 * 2 ^ 32 → x.sec + 1 < 2 ^ 48 →
       whole (timTick x) = due ∧ (timTick x).ns < 10 ^ 9 ∧ (timTick x).frac < 2 ^ 32 ∧ (timTick x).inc = x.incNew.getD x.inc ∧
       (timTick x).incNew = none ∧ (timTick x).adj = none) ∧
   (∀ (x : TimX) (a b : Nat), x.set = some (a, b) →
     (timTick x).sec = a ∧ (timTick x).ns = b ∧ (timTick x).frac = 0 ∧ (timTick x).set = none ∧ (timTick x).adj = none) ∧
   (∀ (s : State) (v : Word),
     (tget s TIM_STATUS_FROZEN = 0 → ∃ t, exec (.timIncWrite v) s = .next (settle t) ∧ t.tim = { s.tim with
       incNew := some (max 0x3F0000000 (min 0x410000000 (tget s TIM_INC_LO + 2 ^ 32 * (v.toNat % 8)))) }) ∧
     (tget s TIM_STATUS_FROZEN = 1 → ∃ t, exec (.timIncWrite v) s = .next (settle t) ∧ t.tim = s.tim ∧
       t.rd 0 0 BLK_TIM TIM_INC_HI.word = s.rd 0 0 BLK_TIM TIM_INC_HI.word)) ∧
   (∀ s : State,
     (∃ t, exec .timSet s = .next (settle t) ∧ t.tim = { s.tim with
       set := some (s.get64 0 0 TIM_SET_SEC_LO % 2 ^ 48, min 999999999 (tget s TIM_SET_NS_V)), adj := none }) ∧
     (s.tim.set = none → ∃ t, exec .timAdj s = .next (settle t) ∧ t.tim = { s.tim with adj := some (toS 64 (s.get64 0 0 TIM_ADJ_LO)) }) ∧
     (s.tim.set.isSome = true → ∃ t, exec .timAdj s = .next (settle t) ∧ t.tim = s.tim) ∧
     (tget s TIM_STATUS_FROZEN = 1 → ∃ t, exec .timUnfreeze s = .next (settle t) ∧ tget t TIM_STATUS_FROZEN = 0 ∧
       t.tim = { s.tim with hist := [], suspects := 0 } ∧ tget t TIM_STATUS_PATH_STEP = tget s TIM_STATUS_PATH_STEP) ∧
     (tget s TIM_STATUS_FROZEN = 0 → ∃ t, exec .timUnfreeze s = .next (settle t) ∧ t.tim = s.tim ∧ tget t TIM_STATUS_FROZEN = 0))) ∧
  (∀ (s : State) (n : Nat), n < 16 →
     let late := toS 64 (ofS 64 ((timeNs s : Int) - (tuX s n).target))
     let code := tget s (TIM_TU_CTRL_TARGET n)
     let mode := tget s (TIM_TU_CTRL_MODE n)
     (∀ v : Word, ∃ t, exec (.timeUnitCtrlWrite n v) s = .next (settle t) ∧ tget t (TIM_TU_CTRL_MODE n) = bits v.toNat 0 2 ∧
       tget t (TIM_TU_CTRL_TARGET n) = bits v.toNat 8 6 ∧
       tuX t n = ⟨s.get64 0 0 (TIM_TU_SEC_LO n) % 2 ^ 48 * 10 ^ 9 + min 999999999 (tget s (TIM_TU_NS_V n)),
         max 1000 (tget s (TIM_TU_PERIOD n))⟩) ∧
     ((mode = 1 ∨ mode = 2) → 0 ≤ late → ∃ t, exec (.timeUnitFire n) s = .next (settle t) ∧
       t.fon 0 0 { TIM_TU_EVENT with lo := n, len := 1 } = true ∧
       t.out = .unit n :: (if code = 1 then .tsync :: s.out else s.out) ∧
       (mode = 1 → tget t (TIM_TU_CTRL_MODE n) = 0 ∧ tuX t n = tuX s n) ∧
       (mode = 2 → late ≤ (tuX s n).period → tget t (TIM_TU_CTRL_MODE n) = 2 ∧ tget t TIM_TU_MISSED = tget s TIM_TU_MISSED ∧
         tuX t n = { tuX s n with target := (tuX s n).target + (tuX s n).period }) ∧
       (mode = 2 → (tuX s n).period < late → 0 < (tuX s n).period → ∃ k : Nat, tuX t n =
           { tuX s n with target := (tuX s n).target + (k + 1) * (tuX s n).period } ∧ k * (tuX s n).period ≤ late ∧ late < (k + 1) * (tuX s n).period ∧
         tget t TIM_TU_MISSED = satAdd32 (tget s TIM_TU_MISSED) k ∧ t.fon 0 0 TIM_EVENT_TU_MISS = true) ∧
       (code = 2 → ∀ h, h < s.nH → s.fget h 0 DRT_STATUS_STATE = 6 → (t.drt h).intFrom = s.now) ∧
       (code = 3 → ∀ a, a < 8 → (t.axis a).clk = 0)) ∧
     ((mode ≠ 1 ∧ mode ≠ 2) ∨ late < 0 → exec (.timeUnitFire n) s = .next (settle s)) ∧
     (mode = 3 → code = 1 ∨ (16 ≤ code ∧ code < 24 ∧ s.hasH (code - 16) = true) → ∃ t, exec (.timeUnitCapture n) s = .next (settle t) ∧
       (t.get64 0 0 (TIM_TU_CAP_SEC_LO n), tget t (TIM_TU_CAP_NS_V n)) = stepNs s.tim.sec s.tim.ns (if code = 1 then -8 else 0) ∧
       tget t (TIM_TU_CAP_CNT n) = satAdd32 (tget s (TIM_TU_CAP_CNT n)) 1 ∧
       (code ≠ 1 → tget t (TIM_TU_CAP_LNUM n) = lnum s (code - 16) % 2 ^ 32) ∧
       t.fon 0 0 { TIM_TU_EVENT with lo := n, len := 1 } = true) ∧
     (mode ≠ 3 ∨ code = 0 → exec (.timeUnitCapture n) s = .next (settle s)))

/-- The PTP ordinary clock (R377 to R379): the first Announce in DOMAIN on a LISTENING port selects the master; its Sync is timed and answered
by a Delay_Req; Follow_Up and Delay_Resp complete the exchange, which writes OFFSET and MPD and judges the path; the master's loss. The
transparent clock (R375, R376): with TC_EN 1 a good frame not to the device alone leaves on the other lane, a Sync or a Delay_Req with its
residence time added to its correctionField; a bad frame goes nowhere. The model's own choices behind it: log 14, 16, 139, 140. -/
def Obligations.OrdinaryAndTransparentClock : Prop :=
  (∀ (s : State) (p : Nat) (f m : List Byte),
     (ptpMessage f 0xB = some m → ptpOn s p = true → byteAt m 4 = tget s TIM_PTP_CFG_DOMAIN → ptpState s p = 1 →
       ∃ t, exec (.announceReceived p f) s = .next (settle t) ∧ ptpState t p = 2 ∧ ptpState t (1 - p) = (if ptpOn s (1 - p) then 3 else 0) ∧
         t.get64 0 0 TIM_MASTER_LO = beAt m 20 8 ∧ t.fon 0 0 TIM_EVENT_MASTER_CHANGE = true ∧ t.tim = s.tim) ∧
     (ptpMessage f 0xB = some m → ptpOn s p = false ∨ byteAt m 4 ≠ tget s TIM_PTP_CFG_DOMAIN ∨ ptpState s p ≠ 1 →
       exec (.announceReceived p f) s = .next (settle s)) ∧
     (∀ rx tx, ptpMessage f 0 = some m → fromMaster s p m = true →
       (s.tim.reqAt.filter fun t => decide (tx < t + 10 ^ 9)).length < 16 →
       ∃ t, exec (.syncReceived p f rx tx) s = .next (settle t) ∧
         t.out = .delayReq p ((s.tim.reqSeq + 1) % 65536) :: s.out ∧ tget t TIM_RX_EVT = satAdd32 (tget s TIM_RX_EVT) 1 ∧
         tget t TIM_TX_EVT = satAdd32 (tget s TIM_TX_EVT) 1 ∧
         ptpX t p = (⟨beAt m 30 2, if ptpTwoStep m then none else some (ptpTime m), rx + (latRx s p / 16 : Nat), ptpCorr m,
           (s.tim.reqSeq + 1) % 65536, some ((tx : Int) - (latTx s p / 16 : Nat)), none, 0⟩ : PtpX)) ∧
     (∀ rx tx, ptpMessage f 0 = some m → ptpOn s p = true → fromMaster s p m = false → ∃ t, exec (.syncReceived p f rx tx) s = .next (settle t) ∧
       t.tim = s.tim ∧ t.out = s.out ∧ tget t TIM_RX_EVT = satAdd32 (tget s TIM_RX_EVT) 1) ∧
     (ptpMessage f 8 = some m → fromMaster s p m = true → beAt m 30 2 = (ptpX s p).seq → (ptpX s p).t1 = none → (ptpX s p).t4 = none →
       exec (.followUpReceived p f) s = .next (settle (setPtp p
         { ptpX s p with t1 := some (ptpTime m), corr := (ptpX s p).corr + ptpCorr m } s))) ∧
     (ptpMessage f 8 = some m → fromMaster s p m = false ∨ beAt m 30 2 ≠ (ptpX s p).seq ∨ (ptpX s p).t1.isSome = true →
       exec (.followUpReceived p f) s = .next (settle s)) ∧
     (∀ t1 t3, ptpMessage f 9 = some m → fromMaster s p m = true → beAt m 30 2 = (ptpX s p).reqSeq → (ptpX s p).t1 = some t1 →
       (ptpX s p).t3 = some t3 → (ptpX s p).t4 = none →
       let ms := ((ptpX s p).t2 - t1) - corrNs (ptpX s p).corr
       let sm := (ptpTime m - t3) - corrNs (ptpCorr m)
       let mpd := (ms + sm).tdiv 2
       let off := ms - mpd - toS 32 (tget s (TIM_ASYM p))
       let suspect := s.tim.hist.length = 8 ∧ 8 * (tget s TIM_STEP_THR : Int) < (8 * mpd - s.tim.hist.sum).natAbs
       ∃ t, exec (.delayRespReceived p f) s = .next (settle t) ∧ tget t TIM_OC_SEQ = (tget s TIM_OC_SEQ + 1) % 2 ^ 32 ∧
         toS 32 (tget t TIM_MPD) = clampI (-2 ^ 31) (2 ^ 31 - 1) mpd ∧ toS 32 (tget t TIM_OFFSET) = clampI (-2 ^ 31) (2 ^ 31 - 1) off ∧
         (ptpX t p).t3 = none ∧ (ptpX t p).t4 = none ∧
         (¬ suspect → t.tim.hist = (mpd :: s.tim.hist).take 8 ∧ t.tim.suspects = 0) ∧
         (suspect → t.tim.hist = s.tim.hist ∧ t.tim.suspects = s.tim.suspects + 1 ∧
           (max 1 (tget s TIM_STEP_N) ≤ s.tim.suspects + 1 → tget t TIM_STATUS_FROZEN = 1 ∧ (tget s TIM_STATUS_FROZEN = 0 →
             tget t TIM_STATUS_PATH_STEP = 1 ∧ t.fon 0 0 TIM_EVENT_PATH_STEP = true)))) ∧
     (ptpMessage f 9 = some m → fromMaster s p m = false ∨ beAt m 30 2 ≠ (ptpX s p).reqSeq →
       exec (.delayRespReceived p f) s = .next (settle s)) ∧
     (ptpState s 0 = 2 ∨ ptpState s 1 = 2 → ∃ t, exec .masterLost s = .next (settle t) ∧ t.fon 0 0 TIM_EVENT_MASTER_LOST = true ∧
       ptpState t 0 = b2n (ptpOn s 0) ∧ ptpState t 1 = b2n (ptpOn s 1)) ∧
     (ptpState s 0 ≠ 2 → ptpState s 1 ≠ 2 → exec .masterLost s = .next (settle s))) ∧
  (∀ (s : State) (p rx tx : Nat) (f g : List Byte), stripFcs f = some g →
     (tget s TIM_CTRL_TC_EN = 0 ∨ 2 ≤ p ∨ beAt g 0 6 = ownMac s → exec (.ptpFrameForwarded p f rx tx) s = .next (settle s)) ∧
     (tget s TIM_CTRL_TC_EN = 1 → p < 2 → beAt g 0 6 ≠ ownMac s →
       (ptpOffset g = none → exec (.ptpFrameForwarded p f rx tx) s = .next (settle (s.emit (etherSent (1 - p) (withFcs g))))) ∧
       (∀ o u, ptpOffset g = some (o, u) → (byteAt g o % 16 = 0 ∨ byteAt g o % 16 = 1) → o + 16 ≤ g.length →
         ∃ t e, exec (.ptpFrameForwarded p f rx tx) s = .next (settle t) ∧ t.out = etherSent (1 - p) (withFcs e) :: s.out ∧
           tget t TIM_TC_FWD = satAdd32 (tget s TIM_TC_FWD) 1 ∧ e.length = g.length ∧ e.take (min 40 (o + 8)) = g.take (min 40 (o + 8)) ∧
           e.drop (o + 16) = g.drop (o + 16) ∧
           (u = false → beAt e (o + 8) 8 = ofS 64 (toS 64 (beAt g (o + 8) 8) +
             (((tx * 16 : Nat) - (latTx s (1 - p) : Int)) - ((rx * 16 : Nat) + latRx s p)) * 4096))) ∧
       (∀ o u, ptpOffset g = some (o, u) → (byteAt g o % 16 = 2 ∨ byteAt g o % 16 = 3 ∨ byteAt g o % 16 = 10) →
         exec (.ptpFrameForwarded p f rx tx) s = .next (settle s)) ∧
       (∀ o u, ptpOffset g = some (o, u) → (3 < byteAt g o % 16 ∧ byteAt g o % 16 ≠ 10) →
         exec (.ptpFrameForwarded p f rx tx) s = .next (settle (s.emit (etherSent (1 - p) (withFcs g)))))) ∧
     (∀ f', stripFcs f' = none → exec (.ptpFrameForwarded p f' rx tx) s = .next (settle s)))

/-- Calibration runs (R388 to R390): the values of two measurements (R386), within TOL of each other, give their mean, rounded half up, to the
set that takes it; any other pair is rejected; a run that does not end in time changes nothing; the automatic check asks for the kinds
whose temperature moved. The model's own choices behind it: log 14, 16, 180. -/
def Obligations.CalibrationRuns : Prop :=
  ∀ (s : State) (h : Nat),
    ((s.cal h).run = none → (∀ a b c, exec (.calRunDone h a b c) s = .next (settle s)) ∧ exec (.calRunTimeout h) s = .next (settle s)) ∧
    (∀ r, (s.cal h).run = some r →
      (∀ m1 m2 ts, (calResult s h r.kind m1).length = (calResult s h r.kind m2).length →
        (List.zipWith (fun a b : Int => decide ((a - b).natAbs ≤ s.fget h 0 CAL_CTRL_TOL)) (calResult s h r.kind m1)
          (calResult s h r.kind m2)).all id = true → r.kind < 4 → ∃ t, exec (.calRunDone h m1 m2 ts) s = .next (settle t) ∧ (t.cal h).run = (s.cal h).queue.head? ∧ t.fget h 0 CAL_STATUS_LAST = 0 ∧
          t.fget h 0 CAL_RUNS = satAdd32 (s.fget h 0 CAL_RUNS) 1 ∧ t.fon h 0 CAL_EVENT_DONE = true ∧
          tabGet (fun _ => []) (t.cal h).lastTemps r.kind = ts ∧
          t.fget h 0 (CAL_KIND_SET r.kind) = calChoose s h r.kind ts % 2 ^ (CAL_KIND_SET r.kind).len ∧
          calBlock t h (calChoose s h r.kind ts) r.kind =
            some ⟨ts, calBytes r.kind (List.zipWith (fun a b => (a + b + 1) / 2) (calResult s h r.kind m1)
              (calResult s h r.kind m2)), (s.cal h).stampNo⟩) ∧
      (∀ m1 m2 ts, ((calResult s h r.kind m1).length ≠ (calResult s h r.kind m2).length ∨
          (List.zipWith (fun a b : Int => decide ((a - b).natAbs ≤ s.fget h 0 CAL_CTRL_TOL)) (calResult s h r.kind m1)
            (calResult s h r.kind m2)).all id = false) →
        ∃ t, exec (.calRunDone h m1 m2 ts) s = .next (settle t) ∧ (t.cal h).run = (s.cal h).queue.head? ∧ (t.cal h).sets = (s.cal h).sets ∧
          t.fget h 0 CAL_STATUS_LAST = 0x20 ∧ t.fget h 0 CAL_REJECTS = satAdd32 (s.fget h 0 CAL_REJECTS) 1 ∧
          t.fon h 0 CAL_EVENT_REJECT = true) ∧
      (∃ t, exec (.calRunTimeout h) s = .next (settle t) ∧ (t.cal h).run = (s.cal h).queue.head? ∧ (t.cal h).sets = (s.cal h).sets ∧
        (t.cal h).inForce = (s.cal h).inForce ∧ t.fget h 0 CAL_STATUS_LAST = 0x31)) ∧
    (s.hasH h = true → s.fon h 0 CAL_CTRL_AUTO = true → (s.cal h).run = none → (s.cal h).queue = [] → calMoved s h 0 = true →
      tabGet (fun _ => 0) (s.cal h).waitTil 0 ≤ s.now → ∃ t, exec (.calAutoCheck h) s = .next (settle t) ∧
        ((t.cal h).run.map CalRun.kind) = some 0) ∧
    (s.hasH h = true → s.fon h 0 CAL_CTRL_AUTO = false → (s.cal h).appliedAt = [] → (s.cal h).armWait = false →
      exec (.calAutoCheck h) s = .next (settle s)) ∧
    (s.hasH h = false → exec (.calAutoCheck h) s = .next (settle s))

/-- The service port (R395 to R397, R402): its record; a frame refused while the main domain is held, under the fuse lock and while a patch
runs; staging opened and written block by block after a CRC check; a patch checked, opened in the journal, discarded. The model's own
choices behind it: log 14, 16, 109. -/
def Obligations.ServicePortAndStaging : Prop :=
  ∀ (s : State),
    (∃ t r, exec .svcStatus s = .next (settle t) ∧ t.out = .svc r :: s.out ∧ r.length = 16 ∧ byteAt r 0 = vget s SVC_STATUS_STATE ∧
      byteAt r 1 = (if 2 ≤ vget s SVC_STATUS_STATE then 0x14 else vget s SVC_STATUS_LAST) ∧ byteAt r 2 = vget s SVC_STATUS_CAUSE ∧
      leAt r 4 4 = vget s SVC_STAGED ∧ byteAt r 12 = vget s SVC_BOOT_SLOT ∧ byteAt r 13 = vget s SVC_BOOT_FELL ∧
      vget t SVC_FRAMES = satAdd32 (vget s SVC_FRAMES) 1 ∧ t.upd = s.upd ∧ t.flash = s.flash) ∧
    (∀ e, ((∃ n, e = .stageOpen n) ∨ (∃ i d k, e = .stageWrite i d k) ∨ e = .svcApply ∨ ∃ a b, e = Instr.svcActivate a b) →
      (s.upd.held = true ∨ s.boot.inReset = true → exec e s = .next (settle (s.count 0 0 SVC_FRAMES))) ∧
      (s.upd.held = false → s.boot.inReset = false → vget s SVC_FUSE_SVC_LOCK = 1 → ∃ t, exec e s = .next (settle t) ∧ vget t SVC_STATUS_LAST = 0x15 ∧
        t.upd = s.upd ∧ t.flash = s.flash) ∧
      (s.upd.held = false → s.boot.inReset = false → vget s SVC_FUSE_SVC_LOCK = 0 → 2 ≤ vget s SVC_STATUS_STATE → ∃ t, exec e s = .next (settle t) ∧
        vget t SVC_STATUS_LAST = 0x14 ∧ t.upd = s.upd ∧ t.flash = s.flash)) ∧
    (s.upd.held = true ∨ s.boot.inReset = true → exec .svcAbort s = .next (settle (s.count 0 0 SVC_FRAMES))) ∧
    (s.upd.held = false → s.boot.inReset = false → vget s SVC_FUSE_SVC_LOCK = 1 → ∃ t, exec .svcAbort s = .next (settle t) ∧ vget t SVC_STATUS_LAST = 0x15 ∧
      t.upd = s.upd ∧ t.flash = s.flash) ∧
    (s.upd.held = false → s.boot.inReset = false → vget s SVC_FUSE_SVC_LOCK = 0 →
      (∀ j, s.upd.jour = some j → j.st < 3 → j.comp < 5 → j.slot < 2 → ∃ t, exec .svcAbort s = .next (settle t) ∧
        vget t SVC_STATUS_LAST = 0 ∧ vget t SVC_STATUS_STATE = 1 ∧ t.upd.jour = none ∧ slotLen t j.comp j.slot = 0) ∧
      (s.upd.jour = none ∨ (∃ j, s.upd.jour = some j ∧ 3 ≤ j.st) → ∃ t, exec .svcAbort s = .next (settle t) ∧
        vget t SVC_STATUS_LAST = 0x12 ∧ t.upd = s.upd ∧ t.flash = s.flash) ∧
      (vget s SVC_STATUS_STATE < 2 →
        (∀ n, n ≤ 0x800000 → ∃ t, exec (.stageOpen n) s = .next (settle t) ∧ vget t SVC_STATUS_LAST = 0 ∧ vget t SVC_STATUS_STATE = 1 ∧
          vget t SVC_STAGED = 0 ∧ t.upd.stageLen = n ∧ (∀ a, stageBase ≤ a → a < stageBase + 0x800000 → t.fread a = 0xFF#8) ∧
          ∀ a, (a < stageBase ∨ stageBase + 0x800000 ≤ a) → t.fread a = s.fread a) ∧
        (∀ n, 0x800000 < n → ∃ t, exec (.stageOpen n) s = .next (settle t) ∧ vget t SVC_STATUS_LAST = 0x24 ∧ t.upd = s.upd ∧
          t.flash = s.flash) ∧
        (∀ i d, i < 2048 → d.length = 4096 → ∃ t, exec (.stageWrite i d (crc32c d)) s = .next (settle t) ∧ vget t SVC_STATUS_LAST = 0 ∧
          t.freads (stageBase + 4096 * i) 4096 = d ∧ i ∈ t.upd.stagedBlocks ∧
          (∀ a, (a < stageBase + 4096 * i ∨ stageBase + 4096 * i + 4096 ≤ a) → t.fread a = s.fread a)) ∧
        (∀ i d k, i < 2048 → d.length = 4096 → k ≠ crc32c d → ∃ t, exec (.stageWrite i d k) s = .next (settle t) ∧
          vget t SVC_STATUS_LAST = 0x20 ∧ vget t SVC_CRC_ERR = satAdd32 (vget s SVC_CRC_ERR) 1 ∧ t.flash = s.flash) ∧
        (∀ i d k, 2048 ≤ i ∨ d.length ≠ 4096 → ∃ t, exec (.stageWrite i d k) s = .next (settle t) ∧
          vget t SVC_STATUS_LAST = 0x11 ∧ t.flash = s.flash) ∧
        (patchOk s = true → ∃ t, exec .svcApply s = .next (settle t) ∧ vget t SVC_STATUS_LAST = 0 ∧ vget t SVC_STATUS_STATE = 2 ∧
          t.upd.jour = some ⟨patComp s, 1 - activeSlot s (patComp s), sha256 (s.freads stageBase s.upd.stageLen), 0, 1⟩ ∧
          t.flash = s.flash) ∧
        (patchOk s = false → ∃ t, exec .svcApply s = .next (settle t) ∧ vget t SVC_STATUS_LAST = 0x20 ∧
          t.fon 0 0 SVC_EVENT_CHECK_FAIL = true ∧ t.upd = s.upd ∧ t.flash = s.flash)))

/-- Applying, activating and swapping (R398 to R400): the journaled build ends verified or with its slot invalid; a slot that verifies becomes
the active one in the directory before the running copy follows at its moment. The model's own choices behind it: log 14, 132. -/
def Obligations.PatchActivationAndSwap : Prop :=
  ∀ (s : State),
    (∀ j, s.upd.jour = some j → j.st = 1 → vget s SVC_STATUS_STATE = 2 →
      let r := patchBuild j.comp j.slot (patBlocks s - j.next) j.next s
      (r.1 = false → ∃ t, exec .patchApplyDone s = .next (settle t) ∧ vget t SVC_STATUS_LAST = 0x20 ∧ vget t SVC_STATUS_STATE = 1 ∧
        t.upd.jour = none ∧ t.fon 0 0 SVC_EVENT_CHECK_FAIL = true) ∧
      (r.1 = true → ∃ t, exec .patchApplyDone s = .next (settle t) ∧ vget t SVC_STATUS_STATE = 1 ∧
        t.fon 0 0 SVC_EVENT_APPLY_DONE = true ∧
        ((∃ k, t.upd.jour = some k ∧ k.comp = j.comp ∧ k.slot = j.slot ∧ k.st = 3 ∧ vget t SVC_STATUS_LAST = 0 ∧
            t.fon 0 0 SVC_EVENT_VERIFIED = true) ∨
          (t.upd.jour = none ∧ (vget t SVC_STATUS_LAST = 0x20 ∨ vget t SVC_STATUS_LAST = 0x21) ∧
            t.fon 0 0 SVC_EVENT_CHECK_FAIL = true)))) ∧
    (s.upd.jour = none ∨ vget s SVC_STATUS_STATE ≠ 2 ∨ (∃ j, s.upd.jour = some j ∧ j.st ≠ 1) →
      exec .patchApplyDone s = .next (settle s)) ∧
    (∀ comp slot, s.upd.held = false → s.boot.inReset = false → vget s SVC_FUSE_SVC_LOCK = 0 → vget s SVC_STATUS_STATE < 2 →
      (4 < comp ∨ 1 < slot → ∃ t, exec (.svcActivate comp slot) s = .next (settle t) ∧ vget t SVC_STATUS_LAST = 0x11 ∧ t.flash = s.flash ∧
        t.upd = s.upd) ∧
      (comp ≤ 4 → slot ≤ 1 → patchOpen s comp = true → ∃ t, exec (.svcActivate comp slot) s = .next (settle t) ∧
        vget t SVC_STATUS_LAST = 0x12 ∧ t.flash = s.flash ∧ t.upd = s.upd) ∧
      (comp ≤ 4 → slot ≤ 1 → patchOpen s comp = false → verifySlot s comp slot ≠ 0 → ∃ t, exec (.svcActivate comp slot) s = .next (settle t) ∧
        vget t SVC_STATUS_LAST = verifySlot s comp slot ∧ t.fon 0 0 SVC_EVENT_CHECK_FAIL = true ∧ t.flash = s.flash ∧ t.upd = s.upd) ∧
      (comp ≤ 4 → slot ≤ 1 → patchOpen s comp = false → verifySlot s comp slot = 0 → ∃ t, exec (.svcActivate comp slot) s = .next (settle t) ∧
        vget t SVC_STATUS_LAST = 0 ∧ activeSlot t comp = slot ∧
        (comp ≠ 4 → t.upd.swaps = (s.upd.swaps.filter fun e => e.1 != comp) ++ [(comp, none)] ∧ t.upd.running = s.upd.running) ∧
        (comp = 4 → bits t.upd.running 4 1 = slot ∧ t.fon 0 0 SVC_EVENT_ACTIVATED = true))) ∧
    (∀ comp, (s.upd.swaps.any fun e => e.1 == comp) = true → swapReady s comp = true → ∃ t, exec (.componentSwap comp) s = .next (settle t) ∧
      bits t.upd.running comp 1 = activeSlot s comp ∧ t.upd.swaps = (s.upd.swaps.filter fun e => e.1 != comp) ∧
      t.fon 0 0 SVC_EVENT_ACTIVATED = true ∧ t.flash = s.flash) ∧
    (∀ comp, (s.upd.swaps.any fun e => e.1 == comp) = false ∨ swapReady s comp = false →
      exec (.componentSwap comp) s = .next (settle s)) ∧
    (∃ t, exec .componentSwapTimeout s = .next (settle t) ∧ t.upd.swaps = (s.upd.swaps.filter fun e => e.1 != 2) ∧
      t.upd.running = s.upd.running ∧ t.regs = s.regs)

/-- Supplies and resets (R325 to R333, R396, R413): what a power-on, a main-domain reset and a reset of one hearth clear and keep, their
causes, the outputs they put safe; VAUX below its range; the watchdog; the service port's key. The model's own choices behind it: log 14,
135, 136, 178. -/
def Obligations.SuppliesAndResets : Prop :=
  ∀ (s : State),
    (∃ t, exec .vauxPowerOn s = .next (settle t) ∧ t.dram = [] ∧ t.basins = [] ∧ t.tim = {} ∧ t.twn = {} ∧ t.up = false ∧
      t.boot = {} ∧ t.gates = 0 ∧ t.flash = s.flash ∧ t.out = safeOutputs s ++ s.out ∧
      (∀ h i b w, i < 16 → b < 256 → w < 2048 → b ≠ BLK_SVC → t.rd h i b w = wordReset b i w)) ∧
    (∀ e c, (e = .brownout ∧ c = 1) ∨ (e = .sysRstNLow ∧ c = 2) ∨ (e = Instr.refclkLost ∧ c = 2) →
      (s.boot.inReset = true → exec e s = .next (settle s)) ∧
      (s.boot.inReset = false → ∃ t, exec e s = .next (settle t) ∧ vget t SVC_STATUS_CAUSE = c ∧ t.boot = {} ∧ t.up = false ∧
        t.basins = [] ∧ t.ters = [] ∧ t.flues = [] ∧ t.mbxs = [] ∧ t.out = safeOutputs s ++ s.out ∧ t.flash = s.flash ∧
        t.dram = s.dram ∧ t.gates = s.gates ∧ t.tim.sec = s.tim.sec ∧ t.tim.ns = s.tim.ns ∧ t.tim.inc = s.tim.inc ∧
        tget t TIM_STATUS_VALID = tget s TIM_STATUS_VALID ∧ tget t TIM_STATUS_FROZEN = tget s TIM_STATUS_FROZEN ∧
        (∀ h i w, i < 16 → w < 2048 → t.rd h i BLK_FND w = s.rd h i BLK_FND w) ∧
        (∀ h i b w, i < 16 → b < 256 → w < 2048 → b ≠ BLK_SVC → b ≠ BLK_FND → b ≠ BLK_TIM → t.rd h i b w = wordReset b i w))) ∧
    (∀ k on, (k ≠ 0x5A17 → exec (.svcHold k on) s = .next (settle (s.count 0 0 SVC_FRAMES)) ∧
        exec (.svcReset k) s = .next (settle (s.count 0 0 SVC_FRAMES))) ∧
      (k = 0x5A17 → (∃ t, exec (.svcReset k) s = .next (settle t) ∧ (s.boot.inReset = false → vget t SVC_STATUS_CAUSE = 6 ∧ t.boot = {} ∧
          t.basins = [])) ∧
        ∃ t, exec (.svcHold k on) s = .next (settle t) ∧ t.upd.held = decide (on = 1) ∧
          (on = 1 → s.boot.inReset = false → vget t SVC_STATUS_CAUSE = 6 ∧ t.boot = {} ∧ t.basins = []) ∧ (on ≠ 1 → t.basins = s.basins))) ∧
    (∃ t, exec .vauxLow s = .next (settle t) ∧ t.vauxLow = true ∧ tget t TIM_STATUS_VALID = 0 ∧
      (tget s TIM_STATUS_VALID = 1 → t.fon 0 0 TIM_EVENT_INVALID = true) ∧
      (∀ h p, h < s.nH → firingPage s h = some p → findPage s h p.id = some p → p.defective = false → ∃ q, findPage t h p.id = some q ∧ q.defective = true ∧
        q.why = 1 ∧ q.port = 0xF)) ∧
    (∃ t, exec .vauxRestored s = .next (settle t) ∧ t.vauxLow = false ∧ t.basins = s.basins) ∧
    (∀ h, (s.hasH h = false → exec (.watchdogExpiry h) s = .next (settle s)) ∧
      (s.hasH h = true → h ≠ s.crown → ∃ t, exec (.watchdogExpiry h) s = .next (settle t) ∧ vget t SVC_STATUS_CAUSE = 5 ∧
        t.dops = s.dops ∧ t.paused = s.paused ∧ t.basins = s.basins) ∧
      (s.hasH h = true → h = s.crown → ∃ t, exec (.watchdogExpiry h) s = .next (settle t) ∧ vget t SVC_STATUS_CAUSE = 5 ∧
        t.paused = true ∧ (∀ d ∈ t.dops, 4 ≤ d.ch) ∧ t.basins = s.basins ∧
        (∀ ch, ch < 4 → (t.mbx ch).waiting = (s.mbx ch).waiting ++
          (openTags s ch).map fun o => respEntry o.2.1 o.1 4 0 o.2.2 []))) ∧
    (∀ h, (s.hasH h = false ∨ h = s.crown → exec (.hearthReset h) s = .next (settle s)) ∧
      (s.hasH h = true → h ≠ s.crown → imagePairs s = [] → (s.cal h).stored = [] → ∃ t, exec (.hearthReset h) s = .next (settle t) ∧
        vget t SVC_STATUS_CAUSE = 4 ∧ t.bas h = {} ∧ t.ter h = {} ∧ (∀ g, g ≠ h → t.bas g = s.bas g ∧ t.ter g = s.ter g) ∧
        t.out = safeHearth h ++ s.out)) ∧
    (∀ edges, ∃ t, exec (.tapReset edges) s = .next (settle t) ∧ t = { s with tap := {}, out := t.out, freeCtr := t.freeCtr } ∧
      (edges = [] → t.out = s.out ∧ t.freeCtr = s.freeCtr)) ∧
    (s.resetDue = none → exec .sysResetDelayExpiry s = .next (settle s)) ∧
    (∀ m, s.resetDue = some (0, m) → s.boot.inReset = false → ∃ t, exec .sysResetDelayExpiry s = .next (settle t) ∧
      vget t SVC_STATUS_CAUSE = 3 ∧ t.boot = {} ∧ t.basins = []) ∧
    (∀ k m, s.resetDue = some (k + 1, m) → exec .sysResetDelayExpiry s =
      .next (settle (forEach (below 8 (bit m)) hearthReset { s with resetDue := none })))

/-- Boot (R334 to R343): SYS_RST_N rising samples the leads, elects the crown and loads, or waits for the bridge; without an image it stays at
its step, unless a journaled full patch of component 0 is completed and activated (R401); the end of boot; the bridge's wait and return.
Stand-alone behaviour (R343 to R348): entered 2 s after boot without an attach; a spit burst sets out its lines at a 100 µs period on
every hearth with tables; an idle web caps the bar; the level arms the chart, after a capping in progress. The model's own choices behind
it: log 5, 14, 132, 134, 137, 138. -/
def Obligations.BootBridgeAndStandAlone : Prop :=
  (∀ (s : State),
     (∀ a b c d f, (s.boot.inReset = false ∨ s.upd.held = true) → exec (.bootStart a b c d f) s = .next (settle s)) ∧
     (∀ a b c d f, s.boot.inReset = true → s.upd.held = false → ∃ u, u.crown = electCrown s a b ∧ u.leadSel = a % 2 ∧
       bit u.absent (electCrown s a b) = false ∧ u.boot.flash = f ∧ u.boot.inReset = false ∧ u.boot.stuck = false ∧ u.up = s.up ∧
       (s.nH = 8 → bridgeUp u = false → u.boot.wait = true ∧ exec (.bootStart a b c d f) s = .next (settle u)) ∧
       (s.nH ≠ 8 ∨ bridgeUp u = true → exec (.bootStart a b c d f) s = .next (settle (bootLoad (bootSet u) u)))) ∧
     (∀ hs, bit s.boot.flash 0 = false ∨ ((bootSlot s 0).2.2 = false ∧
         (s.upd.jour = none ∨ (∃ j, s.upd.jour = some j ∧ j.comp ≠ 0) ∨ patFull s = false)) →
       bootLoad hs s = { s with boot := { s.boot with wait := false, stuck := true } }) ∧
     (bit s.boot.flash 0 = true → (bootSlot s 0).2.2 = false → ∀ j, s.upd.jour = some j → j.comp = 0 → patFull s = true → ∀ hs,
       let p := patchDone (if j.st = 1 then vput SVC_STATUS_STATE 2 s else s)
       let r := activate 0 j.slot none p
       bootLoad hs s = bootImages hs (if p.upd.jour = none ∨ r.1 ≠ 0 then p else swapped 0 r.2)) ∧
     (bit s.boot.flash 0 = true → (bootSlot s 0).2.2 = true → (∀ u : State, u.flash = s.flash → imagePairs u = []) → s.upd.jour = none →
       ∀ hs, (bootLoad hs s).up = true ∧ (bootLoad hs s).upSince = s.now ∧ (bootLoad hs s).boot.wait = false ∧
         ∀ k, k < 5 → bits (bootLoad hs s).upd.running k 1 = (bootSlot s k).1) ∧
     (s.up = false ∨ s.mode ≠ 0 → exec .bootEnd s = .next (settle s)) ∧
     (s.up = true → s.mode = 0 → imagePairs s = [] → ∃ t, exec .bootEnd s = .next (settle t) ∧
       t.mode = (if s.attachDue then 2 else 1) ∧ t.attachDue = false) ∧
     (s.boot.wait = false → exec .bridgeWaitExpiry s = .next (settle s)) ∧
     (s.boot.wait = true →
       let far := (bootSet s).filter (juniorHalf s)
       let u := bootLoad ((bootSet s).filter fun h => !juniorHalf s h) s
       (u.boot.stuck = true → exec .bridgeWaitExpiry s = .next (settle u)) ∧
       (u.boot.stuck = false → juniorLoads u = true → exec .bridgeWaitExpiry s = .next (settle (juniorBoot far u))) ∧
       (u.boot.stuck = false → juniorLoads u = false → ∃ t, exec .bridgeWaitExpiry s = .next (settle t) ∧
         (∀ h ∈ far, bit t.absent h = true) ∧ t.boot.wait = false ∧ t.regs = u.regs)) ∧
     (s.nH ≠ 8 ∨ bridgeUp s = false → exec .bridgeUp s = .next (settle s)) ∧
     (s.nH = 8 → bridgeUp s = true → s.boot.wait = true → exec .bridgeUp s = .next (settle (bootLoad (bootSet s) s))) ∧
     (s.nH = 8 → bridgeUp s = true → s.boot.wait = false → s.up = true → s.junior.on = true →
       (∀ h, h < 8 → juniorHalf s h = true → bit s.absent h = false) → s.hasH s.crown = true → ∃ t, exec .bridgeUp s = .next (settle t) ∧
         t.junior = {} ∧ ∀ h, h < 8 → t.fget h 0 GLB_CROWN_EPOCH = (s.fget s.crown 0 GLB_CROWN_EPOCH + 1) % 65536 ∧
           t.fget h 0 GLB_CROWN_HEARTH = s.crown)) ∧
  (∀ (s : State),
     (s.mode = 1 → s.alone.active = false → ∃ u, u.mode = 1 ∧ u.attachDue = false ∧ u.alone = { s.alone with active := true } ∧
       exec .attachWaitExpiry s = .next (settle (standAlone u))) ∧
     (s.mode ≠ 1 ∨ s.alone.active = true → exec .attachWaitExpiry s = .next (settle s)) ∧
     (aloneCfg s = none ∨ s.alone.active = false ∨ aloneBusy s = true → exec .spitBurst s = .next (settle s)) ∧
     (∀ k, aloneCfg s = some k → s.alone.active = true → aloneBusy s = false → (∀ h, k.ports.getD h 0 = 0) →
       exec .spitBurst s = .next (settle s)) ∧
     (∀ k h, aloneCfg s = some k → s.alone.active = true → aloneBusy s = false → h < s.nH → k.ports.getD h 0 ≠ 0 →
       (∀ g, g ≠ h → k.ports.getD g 0 = 0) →
       (s.fon h 0 DRT_CTRL_EN = false → drtState s h = 0) → ∃ t, exec .spitBurst s = .next (settle t) ∧ drtState t h = 6 ∧
         t.fget h 0 DRT_CTRL_MODE = 2 ∧ t.fget h 0 DRT_INT_PERIOD_INTERNAL = 40000 ∧ (t.ter h).alone = (1, 0, k.lines)) ∧
     (aloneCfg s = none ∨ s.alone.active = false ∨ aloneBusy s = true ∨ s.alone.capped = true → exec .idleCap s = .next (settle s)) ∧
     (∀ k, aloneCfg s = some k → s.alone.active = true → aloneBusy s = false → s.alone.capped = false →
       exec .idleCap s = .next (settle (aloneMotion { s with alone := { s.alone with script := capSteps k, begun := false } }))) ∧
     (aloneCfg s = none ∨ s.alone.active = false ∨ s.alone.chart = true ∨ aloneRuns s = true → exec .testNChart s = .next (settle s)) ∧
     (∀ k, aloneCfg s = some k → s.alone.active = true → s.alone.chart = false → aloneRuns s = false →
       (s.alone.script = [] → exec .testNChart s = .next (settle (aloneMotion { s with alone :=
         { s.alone with script := (if s.alone.capped then uncapSteps k else []) ++ [.chart], begun := false, chart := true } }))) ∧
       (s.alone.script ≠ [] → exec .testNChart s = .next (settle { s with alone :=
         { s.alone with script := s.alone.script ++ uncapSteps k ++ [.chart], chart := true } }))))

/-- Heartbeats and HOLD_N (R351, R352, R355 to R358): a heartbeat carries the unit's role, pins and slot; a bad one or one of a unit whose
main domain is down counts as missed, and MISS in a row lose the peer; a standby in step seizes HOLD_N when it is released, a waiting unit
after its own wait; the seizing unit is dark until its clear. The model's own choices behind it: log 14, 16, 143, 145. -/
def Obligations.HeartbeatsAndHold : Prop :=
  ∀ (s : State),
    (∃ t d0, exec .heartbeatSend s = .next (settle t) ∧
      t.out = beatSent s d0 s.twn.hbSeq (d0 ^^^ s.twn.hbSeq ^^^ 0xA5) :: s.out ∧ t.regs = s.regs ∧
      t.twn = { s.twn with hbSeq := (s.twn.hbSeq + 1) % 256 } ∧ d0 % 4 = wget s TWN_STATUS_ROLE ∧ bit d0 2 = s.twn.drives ∧
      bit d0 3 = s.up ∧ bit d0 4 = decide (twnState s = 5) ∧ bits d0 5 1 = wget s TWN_CTRL_SLOT) ∧
    (∃ t, exec .heartbeatMissed s = .next (settle t) ∧ wget t TWN_HB_MISS = satAdd32 (wget s TWN_HB_MISS) 1 ∧
      t.twn.misses = s.twn.misses + 1 ∧
      (s.twn.misses + 1 < twnMiss s → twnState t = twnState s ∧ wget t TWN_STATUS_PEER_HB = wget s TWN_STATUS_PEER_HB) ∧
      (twnMiss s ≤ s.twn.misses + 1 → wget s TWN_STATUS_PEER_HB = 1 → wget t TWN_STATUS_PEER_HB = 0 ∧
        t.fon s.crown 0 TWN_EVENT_PEER_LOST = true ∧
        (twnState s = 4 ∨ twnState s = 5 → twnState t = 6 ∧ wget t TWN_STATUS_IN_STEP = 0) ∧
        (twnState s = 3 → twnState t = 3 ∧ wget t TWN_STATUS_IN_STEP = 0))) ∧
    (∀ b, b / 65536 % 256 ≠ b % 256 ^^^ b / 256 % 256 ^^^ 0xA5 → exec (.heartbeatReceived b) s = exec .heartbeatMissed s) ∧
    (∀ b, b / 65536 % 256 = b % 256 ^^^ b / 256 % 256 ^^^ 0xA5 → bit b 3 = false →
      exec (.heartbeatReceived b) s = exec .heartbeatMissed { s with twn := { s.twn with peerDrives := bit b 2 } }) ∧
    (∀ b, b / 65536 % 256 = b % 256 ^^^ b / 256 % 256 ^^^ 0xA5 → bit b 3 = true →
      ∃ t, exec (.heartbeatReceived b) s = .next (settle t) ∧ t.twn.misses = 0 ∧ t.twn.peerRole = b % 4 ∧ t.twn.peerDrives = bit b 2 ∧
        wget t TWN_STATUS_PEER_HB = 1 ∧
        wget t TWN_STATUS_SLOT_CLASH = b2n (wget s TWN_CTRL_EN == 1 && bits b 5 1 == wget s TWN_CTRL_SLOT) ∧
        (wget s TWN_CTRL_AUTO_JOIN = 0 → s.twn.drives = true → bit b 2 = true → wget s TWN_CTRL_SLOT = 1 →
          twnState t = 1 ∧ t.twn.drives = false ∧ t.fon s.crown 0 TWN_EVENT_LOST_RACE = true) ∧
        (wget s TWN_CTRL_AUTO_JOIN = 0 → (s.twn.drives = false ∨ bit b 2 = false ∨ wget s TWN_CTRL_SLOT = 0) → twnState t = twnState s ∧
          t.twn.drives = s.twn.drives ∧ (twnState s = 3 → wget t TWN_STATUS_IN_STEP = b2n (bit b 4 && b % 4 == 2)))) ∧
    (s.twn.drives = false → twnState s = 5 → ∃ t, exec .holdNReleased s = .next (settle t) ∧ twnState t = 2 ∧ t.twn.drives = true ∧
      t.twn.dark = List.range s.nH ∧ wget t TWN_STATUS_IN_STEP = 0 ∧ wget t TWN_STATUS_ROLE = 1) ∧
    (s.twn.drives = true ∨ twnState s ≠ 5 →
      exec .holdNReleased s = .next (settle { s with twn := { s.twn with peerDrives := false } })) ∧
    ((twnState s = 1 ∨ twnState s = 4 ∨ twnState s = 6) → wget s TWN_STATUS_SLOT_CLASH = 0 → holdLow s = false →
      ∃ t, exec .holdSeize s = .next (settle t) ∧ twnState t = 2 ∧ t.twn.drives = true ∧ t.twn.dark = List.range s.nH) ∧
    (holdLow s = true ∨ wget s TWN_STATUS_SLOT_CLASH = 1 ∨ (twnState s ≠ 1 ∧ twnState s ≠ 4 ∧ twnState s ≠ 6) →
      exec .holdSeize s = .next (settle s)) ∧
    (s.twn.dark ≠ [] → s.twn.cleared = false → ∃ t, exec .switchClearDone s = .next (settle t) ∧ t.regs = s.regs ∧
      t.twn = { s.twn with cleared := true } ∧
      ∀ h p, h < s.nH → p < 12 → s.fget h p FBX_STATUS_STATE = 5 → (t.fbx h p).latched = [] ∧ (t.fbx h p).shifting = false) ∧
    (s.twn.dark = [] ∨ s.twn.cleared = true → exec .switchClearDone s = .next (settle s))

/-- Enabling, joining and leaving a pair (R354, R359, R363 to R365): EN 1 in OFF enters WAIT; JOIN sends JOIN_REQ and enters SYNC where a join
is possible; an active unit with its standby in step hands over before it leaves, any other reaches OFF at once; the time limits. The
model's own choices behind it: log 14, 143. -/
def Obligations.TwinEnableJoinAndLeave : Prop :=
  ∀ (s : State), s.hasH s.crown = true →
    (∀ v : Word, v &&& 0x1B#32 = 1#32 → twnState s = 0 → wget s TWN_CTRL_EN = 0 →
      ∃ t, exec (.twnEnWrite v) s = .next (settle t) ∧ wget t TWN_CTRL_EN = 1 ∧ wget t TWN_CTRL_SLOT = bits v.toNat 8 1 ∧
        (v.getLsbD 10 = false → twnState t = 1 ∧ wget t TWN_STATUS_ROLE = 0)) ∧
    (∀ v : Word, v &&& 0x1B#32 = 0#32 → wget s TWN_CTRL_EN = 1 →
      ∃ t, exec (.twnEnWrite v) s = .next (settle t) ∧ wget t TWN_CTRL_EN = 0 ∧
        (twnState s = 1 ∨ twnState s = 2 ∨ twnState s = 6 → s.twn.again = false → twnState t = 0 ∧
          wget t TWN_STATUS_DRAIN_RESULT = 3 ∧ t.fon s.crown 0 TWN_EVENT_DRAIN_DONE = true ∧ t.twn.drives = false) ∧
        (twnState s = 3 → wget s TWN_STATUS_IN_STEP = 1 → twnState t = 7 ∧ t.twn.gap.isSome = true ∧ t.twn.leaving = true ∧
          wget t TWN_STATUS_ROLE = wget s TWN_STATUS_ROLE) ∧
        (twnState s = 3 → wget s TWN_STATUS_IN_STEP = 0 → s.twn.again = false → twnState t = 0 ∧ t.twn.drives = false) ∧
        (twnState s = 4 ∨ twnState s = 5 → s.twn.again = false → (∀ h, h < s.nH → gorRole s h 1 ≠ 2) → twnState t = 0 ∧
          wget t TWN_STATUS_DRAIN_RESULT = 3)) ∧
    (canJoin s = true → ∃ t f, exec .twnJoinWrite s = .next (settle t) ∧ twnState t = 4 ∧ wget t TWN_STATUS_ROLE = 2 ∧
      t.out = twinSent s f :: s.out ∧ byteAt f 0 = 9 ∧ leAt f 4 4 = s.twn.txSeq % 2 ^ 32 ∧ t.twn.txSeq = (s.twn.txSeq + 1) % 2 ^ 32) ∧
    (canJoin s = false → ∃ t, exec .twnJoinWrite s = .next (settle t) ∧ t.twn = s.twn ∧ t.out = s.out ∧ twnState t = twnState s) ∧
    (canHandover s = true → ∃ t f, exec .twnSwitchBackWrite s = .next (settle t) ∧ t.out = twinSent s f :: s.out ∧ byteAt f 0 = 8 ∧
      t.twn.gap = some ((List.range 8).map fun h => if s.hasH h then nextGap s h else 0) ∧ t.twn.leaving = false ∧ twnState t = twnState s) ∧
    (canHandover s = false → ∃ t, exec .twnSwitchBackWrite s = .next (settle t) ∧ t.twn = s.twn ∧ t.out = s.out) ∧
    (∃ t, exec .twnForceOff s = .next (settle t) ∧ twnState t = 0 ∧ wget t TWN_STATUS_DRAIN_RESULT = 4 ∧ wget t TWN_CTRL_EN = 0 ∧
      t.twn.drives = false ∧ t.fon s.crown 0 TWN_EVENT_DRAIN_DONE = true) ∧
    (twnState s = 7 → s.twn.again = false → ∃ t, exec .handoverTimeout s = .next (settle t) ∧ twnState t = 0 ∧
      wget t TWN_STATUS_DRAIN_RESULT = 4 ∧ t.twn.drives = false) ∧
    (twnState s ≠ 7 → exec .handoverTimeout s = .next (settle s)) ∧
    (twnState s = 5 ∨ (twnState s = 4 ∧ s.twn.aligned = true) → ∃ t, exec .sigTimeout s = .next (settle t) ∧ twnState t = 6 ∧
      wget t TWN_STATUS_IN_STEP = 0 ∧ t.twn.aligned = false) ∧
    (twnState s ≠ 5 → s.twn.aligned = false ∨ twnState s ≠ 4 → exec .sigTimeout s = .next (settle s)) ∧
    (twnState s = 4 → s.twn.joinRes = 0 → ∃ t, exec .joinTimeout s = .next (settle t) ∧ twnState t = 6 ∧ t.twn.joinRes = 0x31 + 1) ∧
    (twnState s ≠ 4 → exec .joinTimeout s = .next (settle s))

/-- Twin frames (R353, R359 to R364, R366, R367): a frame with a wrong length, CRC or number is counted and puts a unit in SYNC or STANDBY
OUT; each good one advances the number expected and acts by its type where the unit's state takes it; the health record. The model's own
choices behind it: log 14, 16, 53, 143, 144. -/
def Obligations.TwinFramesTaken : Prop :=
  ∀ (s : State) (f : List Byte),
    (tfGood s f = false → ∀ e, e = Instr.twinSigFrame f ∨ e = .twinCmdFrame f ∨ e = .twinCmdStatusFrame f ∨ e = .twinAshFrame f ∨
        e = .twinEventFrame f ∨ e = .twinStateFrame f ∨ e = .twinAlignFrame f ∨ e = .twinHandoverFrame f ∨ e = .twinJoinReqFrame f ∨
        e = .twinHealthFrame f ∨ e = .twinFrameError f →
      ∃ t, exec e s = .next (settle t) ∧ wget t TWN_FRAME_ERR = satAdd32 (wget s TWN_FRAME_ERR) 1 ∧
        t.fon s.crown 0 TWN_EVENT_FRAME_ERR = true ∧
        (twnState s = 4 ∨ twnState s = 5 → twnState t = 6 ∧ wget t TWN_STATUS_IN_STEP = 0) ∧
        (twnState s ≠ 4 → twnState s ≠ 5 → twnState t = twnState s) ∧
        t.twn.rxSeq = (if tfIntact f then (tfSeq f + 1) % 2 ^ 32 else s.twn.rxSeq)) ∧
    (tfGood s f = true →
      let g : State := { s with twn := { s.twn with rxSeq := (tfSeq f + 1) % 2 ^ 32 } }
      let b := tfBody f
      let h := tfHearth f
      exec (.twinFrameError f) s = .next (settle s) ∧
      (byteAt f 0 = 1 → s.hasH h = true → twnState s = 5 → s.twn.joinJ = [] → exec (.twinSigFrame f) s = .next (settle (compareSigs
        { g with twn := { g.twn with
            sigPeer := g.twn.sigPeer ++ (List.range 8).map fun k => (h, leAt b 0 8 + k, leAt b (8 + 4 * k) 4) } }))) ∧
      (byteAt f 0 = 1 → twnState s ≠ 4 → twnState s ≠ 5 → exec (.twinSigFrame f) s = .next (settle g)) ∧
      (byteAt f 0 = 2 → twnState s = 5 →
        (∀ k, k < 8 → s.hasH k = true → leAt b (64 + 8 * k) 8 ≠ 0 → lnum s k < leAt b (64 + 8 * k) 8) →
        ∃ t u c, exec (.twinCmdFrame f) s = .next (settle t) ∧ u = { g with twn := { g.twn with cmds := g.twn.cmds ++ [c] } } ∧
          t = (if s.twn.aligned then forEach (c.apply.map Prod.fst) (fun k x => twinRun k (lnum x k) x) u else u) ∧
          c.op = leAt b 0 2 ∧ c.mine = false ∧
          c.cmd.tag = byteAt b 2 ∧ c.cmd.payload = slice b 8 56 ∧
          c.apply = ((List.range 8).map fun k => (k, leAt b (64 + 8 * k) 8)).filter fun e => s.hasH e.1 && e.2 != 0) ∧
      (byteAt f 0 = 2 → twnState s = 5 → (∃ k, k < 8 ∧ s.hasH k = true ∧ leAt b (64 + 8 * k) 8 ≠ 0 ∧ leAt b (64 + 8 * k) 8 ≤ lnum s k) →
        ∃ t, exec (.twinCmdFrame f) s = .next (settle t) ∧ twnState t = 6) ∧
      (byteAt f 0 = 3 → twnFollows s = true → (s.twn.results.find? fun e => e.1 == 2 * byteAt b 0 && e.2.1 == leAt b 8 8) = none →
        exec (.twinCmdStatusFrame f) s = .next (settle
          { g with twn := { g.twn with results := g.twn.results ++ [(2 * byteAt b 0 + 1, leAt b 8 8, byteAt b 2)] } })) ∧
      (byteAt f 0 = 3 → twnFollows s = true →
        (∀ e, (s.twn.results.find? fun e => e.1 == 2 * byteAt b 0 && e.2.1 == leAt b 8 8) = some e →
          ∃ t, exec (.twinCmdStatusFrame f) s = .next (settle t) ∧ (e.2.2 = byteAt b 2 → twnState t = twnState s) ∧
            (e.2.2 ≠ byteAt b 2 → twnState t = 6))) ∧
      (byteAt f 0 = 4 → s.hasH h = true → twnState s = 5 → lnum s h + 3 ≤ leAt b 8 8 →
        exec (.twinAshFrame f) s = .next (settle (ashPush h (leAt b 0 2) (leAt b 8 8) (BitVec.ofNat 32 (leAt b 4 4)) g).1)) ∧
      (byteAt f 0 = 4 → s.hasH h = true → twnState s = 5 → leAt b 8 8 < lnum s h + 3 →
        ∃ t, exec (.twinAshFrame f) s = .next (settle t) ∧ twnState t = 6) ∧
      (byteAt f 0 = 5 → s.hasH h = true → twnState s = 5 → 1 ≤ byteAt b 1 → byteAt b 1 ≤ 6 → byteAt b 0 < 12 → lnum s h + 1 < leAt b 8 8 →
        ∃ t, exec (.twinEventFrame f) s = .next (settle t) ∧
          (t.fbx h (byteAt b 0)).sched = (s.fbx h (byteAt b 0)).sched ++ [(leAt b 8 8, byteAt b 1)]) ∧
      (byteAt f 0 = 5 → s.hasH h = true → twnState s = 5 → 1 ≤ byteAt b 1 → byteAt b 1 ≤ 6 → leAt b 8 8 ≤ lnum s h + 1 →
        ∃ t, exec (.twinEventFrame f) s = .next (settle t) ∧ twnState t = 6) ∧
      (byteAt f 0 = 6 → twnState s = 4 → byteAt b 0 = BLK_ASH → byteAt b 2 = 1 → s.hasH h = true → leAt b 8 2 = 1 → leAt b 4 4 < columns →
        exec (.twinStateFrame f) s = .next (settle (g.setAsh h (leAt b 4 4) (BitVec.ofNat 32 (leAt b 12 4))))) ∧
      (byteAt f 0 = 6 → twnState s ≠ 4 → exec (.twinStateFrame f) s = .next (settle g)) ∧
      (byteAt f 0 = 7 → (twnState s ≠ 4 ∨ s.twn.aligned = true) → exec (.twinAlignFrame f) s = .next (settle g)) ∧
      (byteAt f 0 = 7 → twnState s = 4 → s.twn.aligned = false → s.twn.joinEn = [] → s.twn.cmds = [] →
        ∃ t, exec (.twinAlignFrame f) s = .next (settle t) ∧ t.twn.aligned = true ∧
          ∀ k, k < s.nH → (t.ter k).queue = (List.range (min 8 (byteAt b (61 * k + 14)))).map fun j => leAt b (61 * k + 16 + 4 * j) 4) ∧
      (byteAt f 0 = 8 → twnState s = 5 → lnum s s.crown < ((List.range 8).map fun k => leAt b (8 * k) 8).getD s.crown 0 →
        exec (.twinHandoverFrame f) s = .next (settle
          { g with twn := { g.twn with gap := some ((List.range 8).map fun k => leAt b (8 * k) 8) } })) ∧
      (byteAt f 0 = 8 → twnState s = 5 → ((List.range 8).map fun k => leAt b (8 * k) 8).getD s.crown 0 ≤ lnum s s.crown →
        ∃ t, exec (.twinHandoverFrame f) s = .next (settle t) ∧ twnState t = 6) ∧
      (byteAt f 0 = 9 → twnState s = 3 → ∃ t, exec (.twinJoinReqFrame f) s = .next (settle t) ∧ t.twn.joinReq = true ∧ t.regs = s.regs) ∧
      (byteAt f 0 = 10 → twnState s = 3 → ∃ t, exec (.twinHealthFrame f) s = .next (settle t) ∧ t.twn.health = b ∧
        (leAt b 4 4 ≠ 0 → t.fon s.crown 0 TWN_EVENT_HEALTH_BAD = true))) ∧
    (∀ ls ds gs, (twnState s < 4 ∨ 6 < twnState s) → exec (.healthSend ls ds gs) s = .next (settle s)) ∧
    (∀ ls ds gs, 4 ≤ twnState s → twnState s ≤ 6 → ∃ t o r, exec (.healthSend ls ds gs) s = .next (settle t) ∧ t.out = twinSent s o :: s.out ∧
      byteAt o 0 = 10 ∧ t.twn.health = r ∧ tfBody o = r ∧ r.length = 32 ∧ leAt r 0 4 = s.twn.hSeq % 2 ^ 32 ∧
      t.twn.hSeq = (s.twn.hSeq + 1) % 2 ^ 32) ∧
    (twnState s = 3 ∨ twnState s = 7 → ∃ t, exec .healthMissing s = .next (settle t) ∧ t.fon s.crown 0 TWN_EVENT_HEALTH_BAD = true) ∧
    (twnState s ≠ 3 → twnState s ≠ 7 → exec .healthMissing s = .next (settle s))
end

