-- ==== Sys2Proof/Decode.lean ====
section
/-! DEFINITION. The opcode table gives no row any bits: the block takes its commands as operations, not as words, so no
word spells one. -/

namespace Sys2Proof

/-- The command a word spells by the table's bits: none. DESIGN CHOICE (log 12). -/
def decodeTableWord (_nbits _w : Nat) : Option Instr := none

end Sys2Proof
end

