-- ==== Sys2Proof/Laws/Commands.lean ====
section
/-! SUPPORT. The command set: an opcode names one command, and a row serves it from its channel. -/

namespace Sys2Proof.Machine

/-- Opcodes of the set, in its order. -/
theorem allSpecs_ops_nodup : (allSpecs.map CmdSpec.op).Nodup := by decide +kernel

theorem find_by_op {l : List CmdSpec} (n : (l.map CmdSpec.op).Nodup) {sp : CmdSpec} (m : sp ∈ l) :
    l.find? (fun x => x.op == sp.op) = some sp := by
  induction l with
  | nil => cases m
  | cons a l ih =>
    simp only [List.map_cons, List.nodup_cons, List.mem_map, not_exists, not_and] at n
    rcases List.mem_cons.mp m with rfl | m
    · simp
    · have e : (a.op == sp.op) = false := beq_false_of_ne fun x => n.1 sp m x.symm
      rw [List.find?_cons_of_neg (by rw [e]; exact Bool.false_ne_true), ih n.2 m]

/-- An opcode's command. -/
theorem specOf_eq {sp : CmdSpec} (m : sp ∈ allSpecs) : specOf sp.op = some sp := find_by_op allSpecs_ops_nodup m

/-- A command of the crown's own channels is served there. -/
theorem fromChannel_low {sp : CmdSpec} {c : Cmd} {s : State} (h : c.ch < 4) : fromChannel sp c s = serveRow sp c s := by
  have : ¬ 8 ≤ c.ch := by omega
  simp [fromChannel, onSide, this]

/-- A command whose tag is free is opened and served. -/
theorem serveRow_fresh {sp : CmdSpec} {c : Cmd} {s : State} (h : c.ch < 4) (f : (s.mbx c.ch).outst.contains c.tag = false) :
    serveRow sp c s = serve sp c (opened c s) := by
  have m : mbxOk c.ch = true := by simp [mbxOk]; omega
  simp only [serveRow, m, f, Bool.not_true, Bool.false_eq_true, if_false]
  rfl

/-- A command that passes every check acts, or is scheduled with the standby. -/
theorem serve_passes {sp : CmdSpec} {c : Cmd} {s : State} (p : Passes sp c s) :
    serve sp c (opened c s) = serveChecked sp c (opened c s) := by
  obtain ⟨_, _, a, b, d, e, _, _⟩ := p
  have : ¬ 56 < c.len := by omega
  have : ¬ c.len < sp.size c := by omega
  simp [serve, *]

end Sys2Proof.Machine
end

