-- ==== Sys2Proof/Laws/Tab.lean ====
section
/-! SUPPORT. Laws of sparse tables: a key reads back what was written, every other key is untouched, the canonical form is
kept. -/

namespace Sys2Proof.Machine

variable {α : Type}

theorem tabFind_tabPut_same (m : Tab α) (k : Nat) (v : α) : tabFind (tabPut m k v) k = some v := by
  induction m with
  | nil => simp [tabPut, tabFind]
  | cons e m ih =>
    obtain ⟨k', v'⟩ := e
    simp only [tabPut]
    split
    · simp [tabFind]
    · split
      · simp [tabFind]
      · simp only [tabFind]
        rw [if_neg (by omega)]
        exact ih

theorem tabFind_tabPut_ne (m : Tab α) {k j : Nat} (v : α) (h : j ≠ k) : tabFind (tabPut m k v) j = tabFind m j := by
  induction m with
  | nil => simp [tabPut, tabFind, Ne.symm h]
  | cons e m ih =>
    obtain ⟨k', v'⟩ := e
    simp only [tabPut]
    split
    · simp [tabFind, Ne.symm h]
    · split
      · next e => subst e; simp [tabFind, Ne.symm h]
      · simp only [tabFind, ih]

theorem tabFind_tabDel_same (m : Tab α) (k : Nat) : tabFind (tabDel m k) k = none := by
  induction m with
  | nil => rfl
  | cons e m ih =>
    obtain ⟨k', v'⟩ := e
    simp only [tabDel]
    split
    · exact ih
    · next h => simp [tabFind, h, ih]

theorem tabFind_tabDel_ne (m : Tab α) {k j : Nat} (h : j ≠ k) : tabFind (tabDel m k) j = tabFind m j := by
  induction m with
  | nil => rfl
  | cons e m ih =>
    obtain ⟨k', v'⟩ := e
    simp only [tabDel]
    split
    · next e => subst e; rw [ih]; simp [tabFind, Ne.symm h]
    · simp only [tabFind, ih]

variable [DecidableEq α]

/-- A key reads back what was written to it. -/
@[simp] theorem tabGet_tabSet_same (d : Nat → α) (m : Tab α) (k : Nat) (v : α) : tabGet d (tabSet d m k v) k = v := by
  unfold tabGet tabSet
  split
  · next h => rw [tabFind_tabDel_same]; simp [h]
  · rw [tabFind_tabPut_same]; rfl

/-- Every other key reads what it read before. -/
theorem tabGet_tabSet_ne (d : Nat → α) (m : Tab α) {k j : Nat} (v : α) (h : j ≠ k) :
    tabGet d (tabSet d m k v) j = tabGet d m j := by
  unfold tabGet tabSet
  split
  · rw [tabFind_tabDel_ne _ h]
  · rw [tabFind_tabPut_ne _ _ h]

omit [DecidableEq α] in
theorem tabAbove_tabPut {m : Tab α} {j k : Nat} {v : α} (hj : j < k) (h : tabAbove j m = true) :
    tabAbove j (tabPut m k v) = true := by
  induction m with
  | nil => simpa [tabAbove, tabPut] using hj
  | cons e m ih =>
    obtain ⟨k', v'⟩ := e
    simp only [tabAbove, List.all_cons, Bool.and_eq_true, decide_eq_true_eq] at h
    simp only [tabPut]
    split
    · simp only [tabAbove, List.all_cons, Bool.and_eq_true, decide_eq_true_eq]
      exact ⟨hj, h.1, h.2⟩
    · split
      · simp only [tabAbove, List.all_cons, Bool.and_eq_true, decide_eq_true_eq]
        exact ⟨hj, h.2⟩
      · simp only [tabAbove, List.all_cons, Bool.and_eq_true, decide_eq_true_eq]
        exact ⟨h.1, ih h.2⟩

omit [DecidableEq α] in
theorem tabAbove_tabDel {m : Tab α} {j : Nat} (k : Nat) (h : tabAbove j m = true) : tabAbove j (tabDel m k) = true := by
  induction m with
  | nil => rfl
  | cons e m ih =>
    obtain ⟨k', v'⟩ := e
    simp only [tabAbove, List.all_cons, Bool.and_eq_true, decide_eq_true_eq] at h
    simp only [tabDel]
    split
    · exact ih h.2
    · simp only [tabAbove, List.all_cons, Bool.and_eq_true, decide_eq_true_eq]
      exact ⟨h.1, ih h.2⟩

omit [DecidableEq α] in
theorem tabAbove_trans {m : Tab α} {j k : Nat} (hjk : j < k) (h : tabAbove k m = true) : tabAbove j m = true := by
  simp only [tabAbove, List.all_eq_true, decide_eq_true_eq] at *
  intro e he
  exact lt_trans hjk (h e he)

theorem tabWf_tabDel {d : Nat → α} {m : Tab α} (k : Nat) (h : tabWf d m = true) : tabWf d (tabDel m k) = true := by
  induction m with
  | nil => rfl
  | cons e m ih =>
    obtain ⟨k', v'⟩ := e
    simp only [tabWf, Bool.and_eq_true] at h
    simp only [tabDel]
    split
    · exact ih h.2
    · simp only [tabWf, Bool.and_eq_true]
      exact ⟨⟨h.1.1, tabAbove_tabDel k h.1.2⟩, ih h.2⟩

theorem tabWf_tabPut {d : Nat → α} {m : Tab α} {k : Nat} {v : α} (hv : v ≠ d k) (h : tabWf d m = true) :
    tabWf d (tabPut m k v) = true := by
  induction m with
  | nil => simp [tabPut, tabWf, tabAbove, hv]
  | cons e m ih =>
    obtain ⟨k', v'⟩ := e
    have h0 := h
    simp only [tabWf, Bool.and_eq_true] at h
    simp only [tabPut]
    split
    · next hk =>
      simp only [tabWf, Bool.and_eq_true, decide_eq_true_eq]
      refine ⟨⟨hv, ?_⟩, by simpa [tabWf, Bool.and_eq_true] using h0⟩
      simp only [tabAbove, List.all_cons, Bool.and_eq_true, decide_eq_true_eq]
      exact ⟨hk, tabAbove_trans hk h.1.2⟩
    · split
      · next hk =>
        subst hk
        simp only [tabWf, Bool.and_eq_true, decide_eq_true_eq]
        exact ⟨⟨hv, h.1.2⟩, h.2⟩
      · next h1 h2 =>
        simp only [tabWf, Bool.and_eq_true]
        exact ⟨⟨h.1.1, tabAbove_tabPut (by omega) h.1.2⟩, ih h.2⟩

/-- A write keeps the canonical form. -/
theorem tabWf_tabSet {d : Nat → α} {m : Tab α} (k : Nat) (v : α) (h : tabWf d m = true) : tabWf d (tabSet d m k v) = true := by
  unfold tabSet
  split
  · exact tabWf_tabDel k h
  · next hv => exact tabWf_tabPut hv h

end Sys2Proof.Machine
end

