-- ==== Sys2Proof/Laws/State.lean ====
section
/-! SUPPORT. What each update of the state leaves alone: one lemma per field per update, and the same for the accessors
of records and registers, so that no proof unfolds a record update. -/

namespace Sys2Proof.Machine

variable (s : State)

/-! ### Fields -/

@[simp] theorem State.wr_pending (h i blk w : Nat) (v : Word) : (s.wr h i blk w v).pending = s.pending := rfl
@[simp] theorem State.wr_part (h i blk w : Nat) (v : Word) : (s.wr h i blk w v).part = s.part := rfl
@[simp] theorem State.wr_now (h i blk w : Nat) (v : Word) : (s.wr h i blk w v).now = s.now := rfl
@[simp] theorem State.wr_freeCtr (h i blk w : Nat) (v : Word) : (s.wr h i blk w v).freeCtr = s.freeCtr := rfl
@[simp] theorem State.wr_out (h i blk w : Nat) (v : Word) : (s.wr h i blk w v).out = s.out := rfl
@[simp] theorem State.wr_dram (h i blk w : Nat) (v : Word) : (s.wr h i blk w v).dram = s.dram := rfl
@[simp] theorem State.wr_sev (h i blk w : Nat) (v : Word) : (s.wr h i blk w v).sev = s.sev := rfl
@[simp] theorem State.wr_lanes (h i blk w : Nat) (v : Word) : (s.wr h i blk w v).lanes = s.lanes := rfl
@[simp] theorem State.wr_gors (h i blk w : Nat) (v : Word) : (s.wr h i blk w v).gors = s.gors := rfl
@[simp] theorem State.wr_basins (h i blk w : Nat) (v : Word) : (s.wr h i blk w v).basins = s.basins := rfl
@[simp] theorem State.wr_lbs (h i blk w : Nat) (v : Word) : (s.wr h i blk w v).lbs = s.lbs := rfl
@[simp] theorem State.wr_flues (h i blk w : Nat) (v : Word) : (s.wr h i blk w v).flues = s.flues := rfl
@[simp] theorem State.wr_flash (h i blk w : Nat) (v : Word) : (s.wr h i blk w v).flash = s.flash := rfl
@[simp] theorem State.wr_flash2 (h i blk w : Nat) (v : Word) : (s.wr h i blk w v).flash2 = s.flash2 := rfl
@[simp] theorem State.wr_crown (h i blk w : Nat) (v : Word) : (s.wr h i blk w v).crown = s.crown := rfl
@[simp] theorem State.wr_fwQueue (h i blk w : Nat) (v : Word) : (s.wr h i blk w v).fwQueue = s.fwQueue := rfl
@[simp] theorem State.wr_fwSevMin (h i blk w : Nat) (v : Word) : (s.wr h i blk w v).fwSevMin = s.fwSevMin := rfl
@[simp] theorem State.wr_fwFamilies (h i blk w : Nat) (v : Word) : (s.wr h i blk w v).fwFamilies = s.fwFamilies := rfl
@[simp] theorem State.wr_staged (h i blk w : Nat) (v : Word) : (s.wr h i blk w v).staged = s.staged := rfl
@[simp] theorem State.wr_ters (h i blk w : Nat) (v : Word) : (s.wr h i blk w v).ters = s.ters := rfl
@[simp] theorem State.wr_fbxs (h i blk w : Nat) (v : Word) : (s.wr h i blk w v).fbxs = s.fbxs := rfl
@[simp] theorem State.wr_dmps (h i blk w : Nat) (v : Word) : (s.wr h i blk w v).dmps = s.dmps := rfl
@[simp] theorem State.wr_drts (h i blk w : Nat) (v : Word) : (s.wr h i blk w v).drts = s.drts := rfl
@[simp] theorem State.wr_grts (h i blk w : Nat) (v : Word) : (s.wr h i blk w v).grts = s.grts := rfl
@[simp] theorem State.wr_ashMap (h i blk w : Nat) (v : Word) : (s.wr h i blk w v).ashMap = s.ashMap := rfl
@[simp] theorem State.wr_gates (h i blk w : Nat) (v : Word) : (s.wr h i blk w v).gates = s.gates := rfl
@[simp] theorem State.wr_twn (h i blk w : Nat) (v : Word) : (s.wr h i blk w v).twn = s.twn := rfl
@[simp] theorem State.wr_axes (h i blk w : Nat) (v : Word) : (s.wr h i blk w v).axes = s.axes := rfl
@[simp] theorem State.wr_quads (h i blk w : Nat) (v : Word) : (s.wr h i blk w v).quads = s.quads := rfl
@[simp] theorem State.wr_halls (h i blk w : Nat) (v : Word) : (s.wr h i blk w v).halls = s.halls := rfl
@[simp] theorem State.wr_ssis (h i blk w : Nat) (v : Word) : (s.wr h i blk w v).ssis = s.ssis := rfl
@[simp] theorem State.wr_cams (h i blk w : Nat) (v : Word) : (s.wr h i blk w v).cams = s.cams := rfl
@[simp] theorem State.wr_isps (h i blk w : Nat) (v : Word) : (s.wr h i blk w v).isps = s.isps := rfl
@[simp] theorem State.wr_latches (h i blk w : Nat) (v : Word) : (s.wr h i blk w v).latches = s.latches := rfl
@[simp] theorem State.wr_tim (h i blk w : Nat) (v : Word) : (s.wr h i blk w v).tim = s.tim := rfl
@[simp] theorem State.wr_chms (h i blk w : Nat) (v : Word) : (s.wr h i blk w v).chms = s.chms := rfl
@[simp] theorem State.wr_linksLost (h i blk w : Nat) (v : Word) : (s.wr h i blk w v).linksLost = s.linksLost := rfl
@[simp] theorem State.wr_mode (h i blk w : Nat) (v : Word) : (s.wr h i blk w v).mode = s.mode := rfl
@[simp] theorem State.wr_hostId (h i blk w : Nat) (v : Word) : (s.wr h i blk w v).hostId = s.hostId := rfl
@[simp] theorem State.wr_attachDue (h i blk w : Nat) (v : Word) : (s.wr h i blk w v).attachDue = s.attachDue := rfl
@[simp] theorem State.wr_up (h i blk w : Nat) (v : Word) : (s.wr h i blk w v).up = s.up := rfl
@[simp] theorem State.wr_upSince (h i blk w : Nat) (v : Word) : (s.wr h i blk w v).upSince = s.upSince := rfl
@[simp] theorem State.wr_posted (h i blk w : Nat) (v : Word) : (s.wr h i blk w v).posted = s.posted := rfl
@[simp] theorem State.wr_portOpen (h i blk w : Nat) (v : Word) : (s.wr h i blk w v).portOpen = s.portOpen := rfl
@[simp] theorem State.wr_mbxs (h i blk w : Nat) (v : Word) : (s.wr h i blk w v).mbxs = s.mbxs := rfl
@[simp] theorem State.wr_dops (h i blk w : Nat) (v : Word) : (s.wr h i blk w v).dops = s.dops := rfl
@[simp] theorem State.wr_paused (h i blk w : Nat) (v : Word) : (s.wr h i blk w v).paused = s.paused := rfl
@[simp] theorem State.wr_i2cs (h i blk w : Nat) (v : Word) : (s.wr h i blk w v).i2cs = s.i2cs := rfl
@[simp] theorem State.wr_arp (h i blk w : Nat) (v : Word) : (s.wr h i blk w v).arp = s.arp := rfl
@[simp] theorem State.wr_arpHeld (h i blk w : Nat) (v : Word) : (s.wr h i blk w v).arpHeld = s.arpHeld := rfl
@[simp] theorem State.wr_cals (h i blk w : Nat) (v : Word) : (s.wr h i blk w v).cals = s.cals := rfl
@[simp] theorem State.wr_upd (h i blk w : Nat) (v : Word) : (s.wr h i blk w v).upd = s.upd := rfl
@[simp] theorem State.wr_leadSel (h i blk w : Nat) (v : Word) : (s.wr h i blk w v).leadSel = s.leadSel := rfl
@[simp] theorem State.wr_absent (h i blk w : Nat) (v : Word) : (s.wr h i blk w v).absent = s.absent := rfl
@[simp] theorem State.wr_resetDue (h i blk w : Nat) (v : Word) : (s.wr h i blk w v).resetDue = s.resetDue := rfl
@[simp] theorem State.wr_vauxLow (h i blk w : Nat) (v : Word) : (s.wr h i blk w v).vauxLow = s.vauxLow := rfl
@[simp] theorem State.wr_alone (h i blk w : Nat) (v : Word) : (s.wr h i blk w v).alone = s.alone := rfl
@[simp] theorem State.wr_geo (h i blk w : Nat) (v : Word) : (s.wr h i blk w v).geo = s.geo := rfl
@[simp] theorem State.wr_geoRes (h i blk w : Nat) (v : Word) : (s.wr h i blk w v).geoRes = s.geoRes := rfl
@[simp] theorem State.wr_boot (h i blk w : Nat) (v : Word) : (s.wr h i blk w v).boot = s.boot := rfl
@[simp] theorem State.wr_tap (h i blk w : Nat) (v : Word) : (s.wr h i blk w v).tap = s.tap := rfl
@[simp] theorem State.wr_junior (h i blk w : Nat) (v : Word) : (s.wr h i blk w v).junior = s.junior := rfl
@[simp] theorem State.fput_pending (h i : Nat) (f : Fld) (v : Nat) : (s.fput h i f v).pending = s.pending := rfl
@[simp] theorem State.fput_part (h i : Nat) (f : Fld) (v : Nat) : (s.fput h i f v).part = s.part := rfl
@[simp] theorem State.fput_now (h i : Nat) (f : Fld) (v : Nat) : (s.fput h i f v).now = s.now := rfl
@[simp] theorem State.fput_freeCtr (h i : Nat) (f : Fld) (v : Nat) : (s.fput h i f v).freeCtr = s.freeCtr := rfl
@[simp] theorem State.fput_out (h i : Nat) (f : Fld) (v : Nat) : (s.fput h i f v).out = s.out := rfl
@[simp] theorem State.fput_dram (h i : Nat) (f : Fld) (v : Nat) : (s.fput h i f v).dram = s.dram := rfl
@[simp] theorem State.fput_sev (h i : Nat) (f : Fld) (v : Nat) : (s.fput h i f v).sev = s.sev := rfl
@[simp] theorem State.fput_lanes (h i : Nat) (f : Fld) (v : Nat) : (s.fput h i f v).lanes = s.lanes := rfl
@[simp] theorem State.fput_gors (h i : Nat) (f : Fld) (v : Nat) : (s.fput h i f v).gors = s.gors := rfl
@[simp] theorem State.fput_basins (h i : Nat) (f : Fld) (v : Nat) : (s.fput h i f v).basins = s.basins := rfl
@[simp] theorem State.fput_lbs (h i : Nat) (f : Fld) (v : Nat) : (s.fput h i f v).lbs = s.lbs := rfl
@[simp] theorem State.fput_flues (h i : Nat) (f : Fld) (v : Nat) : (s.fput h i f v).flues = s.flues := rfl
@[simp] theorem State.fput_flash (h i : Nat) (f : Fld) (v : Nat) : (s.fput h i f v).flash = s.flash := rfl
@[simp] theorem State.fput_flash2 (h i : Nat) (f : Fld) (v : Nat) : (s.fput h i f v).flash2 = s.flash2 := rfl
@[simp] theorem State.fput_crown (h i : Nat) (f : Fld) (v : Nat) : (s.fput h i f v).crown = s.crown := rfl
@[simp] theorem State.fput_fwQueue (h i : Nat) (f : Fld) (v : Nat) : (s.fput h i f v).fwQueue = s.fwQueue := rfl
@[simp] theorem State.fput_fwSevMin (h i : Nat) (f : Fld) (v : Nat) : (s.fput h i f v).fwSevMin = s.fwSevMin := rfl
@[simp] theorem State.fput_fwFamilies (h i : Nat) (f : Fld) (v : Nat) : (s.fput h i f v).fwFamilies = s.fwFamilies := rfl
@[simp] theorem State.fput_staged (h i : Nat) (f : Fld) (v : Nat) : (s.fput h i f v).staged = s.staged := rfl
@[simp] theorem State.fput_ters (h i : Nat) (f : Fld) (v : Nat) : (s.fput h i f v).ters = s.ters := rfl
@[simp] theorem State.fput_fbxs (h i : Nat) (f : Fld) (v : Nat) : (s.fput h i f v).fbxs = s.fbxs := rfl
@[simp] theorem State.fput_dmps (h i : Nat) (f : Fld) (v : Nat) : (s.fput h i f v).dmps = s.dmps := rfl
@[simp] theorem State.fput_drts (h i : Nat) (f : Fld) (v : Nat) : (s.fput h i f v).drts = s.drts := rfl
@[simp] theorem State.fput_grts (h i : Nat) (f : Fld) (v : Nat) : (s.fput h i f v).grts = s.grts := rfl
@[simp] theorem State.fput_ashMap (h i : Nat) (f : Fld) (v : Nat) : (s.fput h i f v).ashMap = s.ashMap := rfl
@[simp] theorem State.fput_gates (h i : Nat) (f : Fld) (v : Nat) : (s.fput h i f v).gates = s.gates := rfl
@[simp] theorem State.fput_twn (h i : Nat) (f : Fld) (v : Nat) : (s.fput h i f v).twn = s.twn := rfl
@[simp] theorem State.fput_axes (h i : Nat) (f : Fld) (v : Nat) : (s.fput h i f v).axes = s.axes := rfl
@[simp] theorem State.fput_quads (h i : Nat) (f : Fld) (v : Nat) : (s.fput h i f v).quads = s.quads := rfl
@[simp] theorem State.fput_halls (h i : Nat) (f : Fld) (v : Nat) : (s.fput h i f v).halls = s.halls := rfl
@[simp] theorem State.fput_ssis (h i : Nat) (f : Fld) (v : Nat) : (s.fput h i f v).ssis = s.ssis := rfl
@[simp] theorem State.fput_cams (h i : Nat) (f : Fld) (v : Nat) : (s.fput h i f v).cams = s.cams := rfl
@[simp] theorem State.fput_isps (h i : Nat) (f : Fld) (v : Nat) : (s.fput h i f v).isps = s.isps := rfl
@[simp] theorem State.fput_latches (h i : Nat) (f : Fld) (v : Nat) : (s.fput h i f v).latches = s.latches := rfl
@[simp] theorem State.fput_tim (h i : Nat) (f : Fld) (v : Nat) : (s.fput h i f v).tim = s.tim := rfl
@[simp] theorem State.fput_chms (h i : Nat) (f : Fld) (v : Nat) : (s.fput h i f v).chms = s.chms := rfl
@[simp] theorem State.fput_linksLost (h i : Nat) (f : Fld) (v : Nat) : (s.fput h i f v).linksLost = s.linksLost := rfl
@[simp] theorem State.fput_mode (h i : Nat) (f : Fld) (v : Nat) : (s.fput h i f v).mode = s.mode := rfl
@[simp] theorem State.fput_hostId (h i : Nat) (f : Fld) (v : Nat) : (s.fput h i f v).hostId = s.hostId := rfl
@[simp] theorem State.fput_attachDue (h i : Nat) (f : Fld) (v : Nat) : (s.fput h i f v).attachDue = s.attachDue := rfl
@[simp] theorem State.fput_up (h i : Nat) (f : Fld) (v : Nat) : (s.fput h i f v).up = s.up := rfl
@[simp] theorem State.fput_upSince (h i : Nat) (f : Fld) (v : Nat) : (s.fput h i f v).upSince = s.upSince := rfl
@[simp] theorem State.fput_posted (h i : Nat) (f : Fld) (v : Nat) : (s.fput h i f v).posted = s.posted := rfl
@[simp] theorem State.fput_portOpen (h i : Nat) (f : Fld) (v : Nat) : (s.fput h i f v).portOpen = s.portOpen := rfl
@[simp] theorem State.fput_mbxs (h i : Nat) (f : Fld) (v : Nat) : (s.fput h i f v).mbxs = s.mbxs := rfl
@[simp] theorem State.fput_dops (h i : Nat) (f : Fld) (v : Nat) : (s.fput h i f v).dops = s.dops := rfl
@[simp] theorem State.fput_paused (h i : Nat) (f : Fld) (v : Nat) : (s.fput h i f v).paused = s.paused := rfl
@[simp] theorem State.fput_i2cs (h i : Nat) (f : Fld) (v : Nat) : (s.fput h i f v).i2cs = s.i2cs := rfl
@[simp] theorem State.fput_arp (h i : Nat) (f : Fld) (v : Nat) : (s.fput h i f v).arp = s.arp := rfl
@[simp] theorem State.fput_arpHeld (h i : Nat) (f : Fld) (v : Nat) : (s.fput h i f v).arpHeld = s.arpHeld := rfl
@[simp] theorem State.fput_cals (h i : Nat) (f : Fld) (v : Nat) : (s.fput h i f v).cals = s.cals := rfl
@[simp] theorem State.fput_upd (h i : Nat) (f : Fld) (v : Nat) : (s.fput h i f v).upd = s.upd := rfl
@[simp] theorem State.fput_leadSel (h i : Nat) (f : Fld) (v : Nat) : (s.fput h i f v).leadSel = s.leadSel := rfl
@[simp] theorem State.fput_absent (h i : Nat) (f : Fld) (v : Nat) : (s.fput h i f v).absent = s.absent := rfl
@[simp] theorem State.fput_resetDue (h i : Nat) (f : Fld) (v : Nat) : (s.fput h i f v).resetDue = s.resetDue := rfl
@[simp] theorem State.fput_vauxLow (h i : Nat) (f : Fld) (v : Nat) : (s.fput h i f v).vauxLow = s.vauxLow := rfl
@[simp] theorem State.fput_alone (h i : Nat) (f : Fld) (v : Nat) : (s.fput h i f v).alone = s.alone := rfl
@[simp] theorem State.fput_geo (h i : Nat) (f : Fld) (v : Nat) : (s.fput h i f v).geo = s.geo := rfl
@[simp] theorem State.fput_geoRes (h i : Nat) (f : Fld) (v : Nat) : (s.fput h i f v).geoRes = s.geoRes := rfl
@[simp] theorem State.fput_boot (h i : Nat) (f : Fld) (v : Nat) : (s.fput h i f v).boot = s.boot := rfl
@[simp] theorem State.fput_tap (h i : Nat) (f : Fld) (v : Nat) : (s.fput h i f v).tap = s.tap := rfl
@[simp] theorem State.fput_junior (h i : Nat) (f : Fld) (v : Nat) : (s.fput h i f v).junior = s.junior := rfl
@[simp] theorem State.fputB_pending (h i : Nat) (f : Fld) (b : Bool) : (s.fputB h i f b).pending = s.pending := rfl
@[simp] theorem State.fputB_part (h i : Nat) (f : Fld) (b : Bool) : (s.fputB h i f b).part = s.part := rfl
@[simp] theorem State.fputB_now (h i : Nat) (f : Fld) (b : Bool) : (s.fputB h i f b).now = s.now := rfl
@[simp] theorem State.fputB_freeCtr (h i : Nat) (f : Fld) (b : Bool) : (s.fputB h i f b).freeCtr = s.freeCtr := rfl
@[simp] theorem State.fputB_out (h i : Nat) (f : Fld) (b : Bool) : (s.fputB h i f b).out = s.out := rfl
@[simp] theorem State.fputB_dram (h i : Nat) (f : Fld) (b : Bool) : (s.fputB h i f b).dram = s.dram := rfl
@[simp] theorem State.fputB_sev (h i : Nat) (f : Fld) (b : Bool) : (s.fputB h i f b).sev = s.sev := rfl
@[simp] theorem State.fputB_lanes (h i : Nat) (f : Fld) (b : Bool) : (s.fputB h i f b).lanes = s.lanes := rfl
@[simp] theorem State.fputB_gors (h i : Nat) (f : Fld) (b : Bool) : (s.fputB h i f b).gors = s.gors := rfl
@[simp] theorem State.fputB_basins (h i : Nat) (f : Fld) (b : Bool) : (s.fputB h i f b).basins = s.basins := rfl
@[simp] theorem State.fputB_lbs (h i : Nat) (f : Fld) (b : Bool) : (s.fputB h i f b).lbs = s.lbs := rfl
@[simp] theorem State.fputB_flues (h i : Nat) (f : Fld) (b : Bool) : (s.fputB h i f b).flues = s.flues := rfl
@[simp] theorem State.fputB_flash (h i : Nat) (f : Fld) (b : Bool) : (s.fputB h i f b).flash = s.flash := rfl
@[simp] theorem State.fputB_flash2 (h i : Nat) (f : Fld) (b : Bool) : (s.fputB h i f b).flash2 = s.flash2 := rfl
@[simp] theorem State.fputB_crown (h i : Nat) (f : Fld) (b : Bool) : (s.fputB h i f b).crown = s.crown := rfl
@[simp] theorem State.fputB_fwQueue (h i : Nat) (f : Fld) (b : Bool) : (s.fputB h i f b).fwQueue = s.fwQueue := rfl
@[simp] theorem State.fputB_fwSevMin (h i : Nat) (f : Fld) (b : Bool) : (s.fputB h i f b).fwSevMin = s.fwSevMin := rfl
@[simp] theorem State.fputB_fwFamilies (h i : Nat) (f : Fld) (b : Bool) : (s.fputB h i f b).fwFamilies = s.fwFamilies := rfl
@[simp] theorem State.fputB_staged (h i : Nat) (f : Fld) (b : Bool) : (s.fputB h i f b).staged = s.staged := rfl
@[simp] theorem State.fputB_ters (h i : Nat) (f : Fld) (b : Bool) : (s.fputB h i f b).ters = s.ters := rfl
@[simp] theorem State.fputB_fbxs (h i : Nat) (f : Fld) (b : Bool) : (s.fputB h i f b).fbxs = s.fbxs := rfl
@[simp] theorem State.fputB_dmps (h i : Nat) (f : Fld) (b : Bool) : (s.fputB h i f b).dmps = s.dmps := rfl
@[simp] theorem State.fputB_drts (h i : Nat) (f : Fld) (b : Bool) : (s.fputB h i f b).drts = s.drts := rfl
@[simp] theorem State.fputB_grts (h i : Nat) (f : Fld) (b : Bool) : (s.fputB h i f b).grts = s.grts := rfl
@[simp] theorem State.fputB_ashMap (h i : Nat) (f : Fld) (b : Bool) : (s.fputB h i f b).ashMap = s.ashMap := rfl
@[simp] theorem State.fputB_gates (h i : Nat) (f : Fld) (b : Bool) : (s.fputB h i f b).gates = s.gates := rfl
@[simp] theorem State.fputB_twn (h i : Nat) (f : Fld) (b : Bool) : (s.fputB h i f b).twn = s.twn := rfl
@[simp] theorem State.fputB_axes (h i : Nat) (f : Fld) (b : Bool) : (s.fputB h i f b).axes = s.axes := rfl
@[simp] theorem State.fputB_quads (h i : Nat) (f : Fld) (b : Bool) : (s.fputB h i f b).quads = s.quads := rfl
@[simp] theorem State.fputB_halls (h i : Nat) (f : Fld) (b : Bool) : (s.fputB h i f b).halls = s.halls := rfl
@[simp] theorem State.fputB_ssis (h i : Nat) (f : Fld) (b : Bool) : (s.fputB h i f b).ssis = s.ssis := rfl
@[simp] theorem State.fputB_cams (h i : Nat) (f : Fld) (b : Bool) : (s.fputB h i f b).cams = s.cams := rfl
@[simp] theorem State.fputB_isps (h i : Nat) (f : Fld) (b : Bool) : (s.fputB h i f b).isps = s.isps := rfl
@[simp] theorem State.fputB_latches (h i : Nat) (f : Fld) (b : Bool) : (s.fputB h i f b).latches = s.latches := rfl
@[simp] theorem State.fputB_tim (h i : Nat) (f : Fld) (b : Bool) : (s.fputB h i f b).tim = s.tim := rfl
@[simp] theorem State.fputB_chms (h i : Nat) (f : Fld) (b : Bool) : (s.fputB h i f b).chms = s.chms := rfl
@[simp] theorem State.fputB_linksLost (h i : Nat) (f : Fld) (b : Bool) : (s.fputB h i f b).linksLost = s.linksLost := rfl
@[simp] theorem State.fputB_mode (h i : Nat) (f : Fld) (b : Bool) : (s.fputB h i f b).mode = s.mode := rfl
@[simp] theorem State.fputB_hostId (h i : Nat) (f : Fld) (b : Bool) : (s.fputB h i f b).hostId = s.hostId := rfl
@[simp] theorem State.fputB_attachDue (h i : Nat) (f : Fld) (b : Bool) : (s.fputB h i f b).attachDue = s.attachDue := rfl
@[simp] theorem State.fputB_up (h i : Nat) (f : Fld) (b : Bool) : (s.fputB h i f b).up = s.up := rfl
@[simp] theorem State.fputB_upSince (h i : Nat) (f : Fld) (b : Bool) : (s.fputB h i f b).upSince = s.upSince := rfl
@[simp] theorem State.fputB_posted (h i : Nat) (f : Fld) (b : Bool) : (s.fputB h i f b).posted = s.posted := rfl
@[simp] theorem State.fputB_portOpen (h i : Nat) (f : Fld) (b : Bool) : (s.fputB h i f b).portOpen = s.portOpen := rfl
@[simp] theorem State.fputB_mbxs (h i : Nat) (f : Fld) (b : Bool) : (s.fputB h i f b).mbxs = s.mbxs := rfl
@[simp] theorem State.fputB_dops (h i : Nat) (f : Fld) (b : Bool) : (s.fputB h i f b).dops = s.dops := rfl
@[simp] theorem State.fputB_paused (h i : Nat) (f : Fld) (b : Bool) : (s.fputB h i f b).paused = s.paused := rfl
@[simp] theorem State.fputB_i2cs (h i : Nat) (f : Fld) (b : Bool) : (s.fputB h i f b).i2cs = s.i2cs := rfl
@[simp] theorem State.fputB_arp (h i : Nat) (f : Fld) (b : Bool) : (s.fputB h i f b).arp = s.arp := rfl
@[simp] theorem State.fputB_arpHeld (h i : Nat) (f : Fld) (b : Bool) : (s.fputB h i f b).arpHeld = s.arpHeld := rfl
@[simp] theorem State.fputB_cals (h i : Nat) (f : Fld) (b : Bool) : (s.fputB h i f b).cals = s.cals := rfl
@[simp] theorem State.fputB_upd (h i : Nat) (f : Fld) (b : Bool) : (s.fputB h i f b).upd = s.upd := rfl
@[simp] theorem State.fputB_leadSel (h i : Nat) (f : Fld) (b : Bool) : (s.fputB h i f b).leadSel = s.leadSel := rfl
@[simp] theorem State.fputB_absent (h i : Nat) (f : Fld) (b : Bool) : (s.fputB h i f b).absent = s.absent := rfl
@[simp] theorem State.fputB_resetDue (h i : Nat) (f : Fld) (b : Bool) : (s.fputB h i f b).resetDue = s.resetDue := rfl
@[simp] theorem State.fputB_vauxLow (h i : Nat) (f : Fld) (b : Bool) : (s.fputB h i f b).vauxLow = s.vauxLow := rfl
@[simp] theorem State.fputB_alone (h i : Nat) (f : Fld) (b : Bool) : (s.fputB h i f b).alone = s.alone := rfl
@[simp] theorem State.fputB_geo (h i : Nat) (f : Fld) (b : Bool) : (s.fputB h i f b).geo = s.geo := rfl
@[simp] theorem State.fputB_geoRes (h i : Nat) (f : Fld) (b : Bool) : (s.fputB h i f b).geoRes = s.geoRes := rfl
@[simp] theorem State.fputB_boot (h i : Nat) (f : Fld) (b : Bool) : (s.fputB h i f b).boot = s.boot := rfl
@[simp] theorem State.fputB_tap (h i : Nat) (f : Fld) (b : Bool) : (s.fputB h i f b).tap = s.tap := rfl
@[simp] theorem State.fputB_junior (h i : Nat) (f : Fld) (b : Bool) : (s.fputB h i f b).junior = s.junior := rfl
@[simp] theorem State.put64_pending (h i : Nat) (f : Fld) (v : Nat) : (s.put64 h i f v).pending = s.pending := rfl
@[simp] theorem State.put64_part (h i : Nat) (f : Fld) (v : Nat) : (s.put64 h i f v).part = s.part := rfl
@[simp] theorem State.put64_now (h i : Nat) (f : Fld) (v : Nat) : (s.put64 h i f v).now = s.now := rfl
@[simp] theorem State.put64_freeCtr (h i : Nat) (f : Fld) (v : Nat) : (s.put64 h i f v).freeCtr = s.freeCtr := rfl
@[simp] theorem State.put64_out (h i : Nat) (f : Fld) (v : Nat) : (s.put64 h i f v).out = s.out := rfl
@[simp] theorem State.put64_dram (h i : Nat) (f : Fld) (v : Nat) : (s.put64 h i f v).dram = s.dram := rfl
@[simp] theorem State.put64_sev (h i : Nat) (f : Fld) (v : Nat) : (s.put64 h i f v).sev = s.sev := rfl
@[simp] theorem State.put64_lanes (h i : Nat) (f : Fld) (v : Nat) : (s.put64 h i f v).lanes = s.lanes := rfl
@[simp] theorem State.put64_gors (h i : Nat) (f : Fld) (v : Nat) : (s.put64 h i f v).gors = s.gors := rfl
@[simp] theorem State.put64_basins (h i : Nat) (f : Fld) (v : Nat) : (s.put64 h i f v).basins = s.basins := rfl
@[simp] theorem State.put64_lbs (h i : Nat) (f : Fld) (v : Nat) : (s.put64 h i f v).lbs = s.lbs := rfl
@[simp] theorem State.put64_flues (h i : Nat) (f : Fld) (v : Nat) : (s.put64 h i f v).flues = s.flues := rfl
@[simp] theorem State.put64_flash (h i : Nat) (f : Fld) (v : Nat) : (s.put64 h i f v).flash = s.flash := rfl
@[simp] theorem State.put64_flash2 (h i : Nat) (f : Fld) (v : Nat) : (s.put64 h i f v).flash2 = s.flash2 := rfl
@[simp] theorem State.put64_crown (h i : Nat) (f : Fld) (v : Nat) : (s.put64 h i f v).crown = s.crown := rfl
@[simp] theorem State.put64_fwQueue (h i : Nat) (f : Fld) (v : Nat) : (s.put64 h i f v).fwQueue = s.fwQueue := rfl
@[simp] theorem State.put64_fwSevMin (h i : Nat) (f : Fld) (v : Nat) : (s.put64 h i f v).fwSevMin = s.fwSevMin := rfl
@[simp] theorem State.put64_fwFamilies (h i : Nat) (f : Fld) (v : Nat) : (s.put64 h i f v).fwFamilies = s.fwFamilies := rfl
@[simp] theorem State.put64_staged (h i : Nat) (f : Fld) (v : Nat) : (s.put64 h i f v).staged = s.staged := rfl
@[simp] theorem State.put64_ters (h i : Nat) (f : Fld) (v : Nat) : (s.put64 h i f v).ters = s.ters := rfl
@[simp] theorem State.put64_fbxs (h i : Nat) (f : Fld) (v : Nat) : (s.put64 h i f v).fbxs = s.fbxs := rfl
@[simp] theorem State.put64_dmps (h i : Nat) (f : Fld) (v : Nat) : (s.put64 h i f v).dmps = s.dmps := rfl
@[simp] theorem State.put64_drts (h i : Nat) (f : Fld) (v : Nat) : (s.put64 h i f v).drts = s.drts := rfl
@[simp] theorem State.put64_grts (h i : Nat) (f : Fld) (v : Nat) : (s.put64 h i f v).grts = s.grts := rfl
@[simp] theorem State.put64_ashMap (h i : Nat) (f : Fld) (v : Nat) : (s.put64 h i f v).ashMap = s.ashMap := rfl
@[simp] theorem State.put64_gates (h i : Nat) (f : Fld) (v : Nat) : (s.put64 h i f v).gates = s.gates := rfl
@[simp] theorem State.put64_twn (h i : Nat) (f : Fld) (v : Nat) : (s.put64 h i f v).twn = s.twn := rfl
@[simp] theorem State.put64_axes (h i : Nat) (f : Fld) (v : Nat) : (s.put64 h i f v).axes = s.axes := rfl
@[simp] theorem State.put64_quads (h i : Nat) (f : Fld) (v : Nat) : (s.put64 h i f v).quads = s.quads := rfl
@[simp] theorem State.put64_halls (h i : Nat) (f : Fld) (v : Nat) : (s.put64 h i f v).halls = s.halls := rfl
@[simp] theorem State.put64_ssis (h i : Nat) (f : Fld) (v : Nat) : (s.put64 h i f v).ssis = s.ssis := rfl
@[simp] theorem State.put64_cams (h i : Nat) (f : Fld) (v : Nat) : (s.put64 h i f v).cams = s.cams := rfl
@[simp] theorem State.put64_isps (h i : Nat) (f : Fld) (v : Nat) : (s.put64 h i f v).isps = s.isps := rfl
@[simp] theorem State.put64_latches (h i : Nat) (f : Fld) (v : Nat) : (s.put64 h i f v).latches = s.latches := rfl
@[simp] theorem State.put64_tim (h i : Nat) (f : Fld) (v : Nat) : (s.put64 h i f v).tim = s.tim := rfl
@[simp] theorem State.put64_chms (h i : Nat) (f : Fld) (v : Nat) : (s.put64 h i f v).chms = s.chms := rfl
@[simp] theorem State.put64_linksLost (h i : Nat) (f : Fld) (v : Nat) : (s.put64 h i f v).linksLost = s.linksLost := rfl
@[simp] theorem State.put64_mode (h i : Nat) (f : Fld) (v : Nat) : (s.put64 h i f v).mode = s.mode := rfl
@[simp] theorem State.put64_hostId (h i : Nat) (f : Fld) (v : Nat) : (s.put64 h i f v).hostId = s.hostId := rfl
@[simp] theorem State.put64_attachDue (h i : Nat) (f : Fld) (v : Nat) : (s.put64 h i f v).attachDue = s.attachDue := rfl
@[simp] theorem State.put64_up (h i : Nat) (f : Fld) (v : Nat) : (s.put64 h i f v).up = s.up := rfl
@[simp] theorem State.put64_upSince (h i : Nat) (f : Fld) (v : Nat) : (s.put64 h i f v).upSince = s.upSince := rfl
@[simp] theorem State.put64_posted (h i : Nat) (f : Fld) (v : Nat) : (s.put64 h i f v).posted = s.posted := rfl
@[simp] theorem State.put64_portOpen (h i : Nat) (f : Fld) (v : Nat) : (s.put64 h i f v).portOpen = s.portOpen := rfl
@[simp] theorem State.put64_mbxs (h i : Nat) (f : Fld) (v : Nat) : (s.put64 h i f v).mbxs = s.mbxs := rfl
@[simp] theorem State.put64_dops (h i : Nat) (f : Fld) (v : Nat) : (s.put64 h i f v).dops = s.dops := rfl
@[simp] theorem State.put64_paused (h i : Nat) (f : Fld) (v : Nat) : (s.put64 h i f v).paused = s.paused := rfl
@[simp] theorem State.put64_i2cs (h i : Nat) (f : Fld) (v : Nat) : (s.put64 h i f v).i2cs = s.i2cs := rfl
@[simp] theorem State.put64_arp (h i : Nat) (f : Fld) (v : Nat) : (s.put64 h i f v).arp = s.arp := rfl
@[simp] theorem State.put64_arpHeld (h i : Nat) (f : Fld) (v : Nat) : (s.put64 h i f v).arpHeld = s.arpHeld := rfl
@[simp] theorem State.put64_cals (h i : Nat) (f : Fld) (v : Nat) : (s.put64 h i f v).cals = s.cals := rfl
@[simp] theorem State.put64_upd (h i : Nat) (f : Fld) (v : Nat) : (s.put64 h i f v).upd = s.upd := rfl
@[simp] theorem State.put64_leadSel (h i : Nat) (f : Fld) (v : Nat) : (s.put64 h i f v).leadSel = s.leadSel := rfl
@[simp] theorem State.put64_absent (h i : Nat) (f : Fld) (v : Nat) : (s.put64 h i f v).absent = s.absent := rfl
@[simp] theorem State.put64_resetDue (h i : Nat) (f : Fld) (v : Nat) : (s.put64 h i f v).resetDue = s.resetDue := rfl
@[simp] theorem State.put64_vauxLow (h i : Nat) (f : Fld) (v : Nat) : (s.put64 h i f v).vauxLow = s.vauxLow := rfl
@[simp] theorem State.put64_alone (h i : Nat) (f : Fld) (v : Nat) : (s.put64 h i f v).alone = s.alone := rfl
@[simp] theorem State.put64_geo (h i : Nat) (f : Fld) (v : Nat) : (s.put64 h i f v).geo = s.geo := rfl
@[simp] theorem State.put64_geoRes (h i : Nat) (f : Fld) (v : Nat) : (s.put64 h i f v).geoRes = s.geoRes := rfl
@[simp] theorem State.put64_boot (h i : Nat) (f : Fld) (v : Nat) : (s.put64 h i f v).boot = s.boot := rfl
@[simp] theorem State.put64_tap (h i : Nat) (f : Fld) (v : Nat) : (s.put64 h i f v).tap = s.tap := rfl
@[simp] theorem State.put64_junior (h i : Nat) (f : Fld) (v : Nat) : (s.put64 h i f v).junior = s.junior := rfl
@[simp] theorem State.count_pending (h i : Nat) (f : Fld) (n : Nat) : (s.count h i f n).pending = s.pending := rfl
@[simp] theorem State.count_part (h i : Nat) (f : Fld) (n : Nat) : (s.count h i f n).part = s.part := rfl
@[simp] theorem State.count_now (h i : Nat) (f : Fld) (n : Nat) : (s.count h i f n).now = s.now := rfl
@[simp] theorem State.count_freeCtr (h i : Nat) (f : Fld) (n : Nat) : (s.count h i f n).freeCtr = s.freeCtr := rfl
@[simp] theorem State.count_out (h i : Nat) (f : Fld) (n : Nat) : (s.count h i f n).out = s.out := rfl
@[simp] theorem State.count_dram (h i : Nat) (f : Fld) (n : Nat) : (s.count h i f n).dram = s.dram := rfl
@[simp] theorem State.count_sev (h i : Nat) (f : Fld) (n : Nat) : (s.count h i f n).sev = s.sev := rfl
@[simp] theorem State.count_lanes (h i : Nat) (f : Fld) (n : Nat) : (s.count h i f n).lanes = s.lanes := rfl
@[simp] theorem State.count_gors (h i : Nat) (f : Fld) (n : Nat) : (s.count h i f n).gors = s.gors := rfl
@[simp] theorem State.count_basins (h i : Nat) (f : Fld) (n : Nat) : (s.count h i f n).basins = s.basins := rfl
@[simp] theorem State.count_lbs (h i : Nat) (f : Fld) (n : Nat) : (s.count h i f n).lbs = s.lbs := rfl
@[simp] theorem State.count_flues (h i : Nat) (f : Fld) (n : Nat) : (s.count h i f n).flues = s.flues := rfl
@[simp] theorem State.count_flash (h i : Nat) (f : Fld) (n : Nat) : (s.count h i f n).flash = s.flash := rfl
@[simp] theorem State.count_flash2 (h i : Nat) (f : Fld) (n : Nat) : (s.count h i f n).flash2 = s.flash2 := rfl
@[simp] theorem State.count_crown (h i : Nat) (f : Fld) (n : Nat) : (s.count h i f n).crown = s.crown := rfl
@[simp] theorem State.count_fwQueue (h i : Nat) (f : Fld) (n : Nat) : (s.count h i f n).fwQueue = s.fwQueue := rfl
@[simp] theorem State.count_fwSevMin (h i : Nat) (f : Fld) (n : Nat) : (s.count h i f n).fwSevMin = s.fwSevMin := rfl
@[simp] theorem State.count_fwFamilies (h i : Nat) (f : Fld) (n : Nat) : (s.count h i f n).fwFamilies = s.fwFamilies := rfl
@[simp] theorem State.count_staged (h i : Nat) (f : Fld) (n : Nat) : (s.count h i f n).staged = s.staged := rfl
@[simp] theorem State.count_ters (h i : Nat) (f : Fld) (n : Nat) : (s.count h i f n).ters = s.ters := rfl
@[simp] theorem State.count_fbxs (h i : Nat) (f : Fld) (n : Nat) : (s.count h i f n).fbxs = s.fbxs := rfl
@[simp] theorem State.count_dmps (h i : Nat) (f : Fld) (n : Nat) : (s.count h i f n).dmps = s.dmps := rfl
@[simp] theorem State.count_drts (h i : Nat) (f : Fld) (n : Nat) : (s.count h i f n).drts = s.drts := rfl
@[simp] theorem State.count_grts (h i : Nat) (f : Fld) (n : Nat) : (s.count h i f n).grts = s.grts := rfl
@[simp] theorem State.count_ashMap (h i : Nat) (f : Fld) (n : Nat) : (s.count h i f n).ashMap = s.ashMap := rfl
@[simp] theorem State.count_gates (h i : Nat) (f : Fld) (n : Nat) : (s.count h i f n).gates = s.gates := rfl
@[simp] theorem State.count_twn (h i : Nat) (f : Fld) (n : Nat) : (s.count h i f n).twn = s.twn := rfl
@[simp] theorem State.count_axes (h i : Nat) (f : Fld) (n : Nat) : (s.count h i f n).axes = s.axes := rfl
@[simp] theorem State.count_quads (h i : Nat) (f : Fld) (n : Nat) : (s.count h i f n).quads = s.quads := rfl
@[simp] theorem State.count_halls (h i : Nat) (f : Fld) (n : Nat) : (s.count h i f n).halls = s.halls := rfl
@[simp] theorem State.count_ssis (h i : Nat) (f : Fld) (n : Nat) : (s.count h i f n).ssis = s.ssis := rfl
@[simp] theorem State.count_cams (h i : Nat) (f : Fld) (n : Nat) : (s.count h i f n).cams = s.cams := rfl
@[simp] theorem State.count_isps (h i : Nat) (f : Fld) (n : Nat) : (s.count h i f n).isps = s.isps := rfl
@[simp] theorem State.count_latches (h i : Nat) (f : Fld) (n : Nat) : (s.count h i f n).latches = s.latches := rfl
@[simp] theorem State.count_tim (h i : Nat) (f : Fld) (n : Nat) : (s.count h i f n).tim = s.tim := rfl
@[simp] theorem State.count_chms (h i : Nat) (f : Fld) (n : Nat) : (s.count h i f n).chms = s.chms := rfl
@[simp] theorem State.count_linksLost (h i : Nat) (f : Fld) (n : Nat) : (s.count h i f n).linksLost = s.linksLost := rfl
@[simp] theorem State.count_mode (h i : Nat) (f : Fld) (n : Nat) : (s.count h i f n).mode = s.mode := rfl
@[simp] theorem State.count_hostId (h i : Nat) (f : Fld) (n : Nat) : (s.count h i f n).hostId = s.hostId := rfl
@[simp] theorem State.count_attachDue (h i : Nat) (f : Fld) (n : Nat) : (s.count h i f n).attachDue = s.attachDue := rfl
@[simp] theorem State.count_up (h i : Nat) (f : Fld) (n : Nat) : (s.count h i f n).up = s.up := rfl
@[simp] theorem State.count_upSince (h i : Nat) (f : Fld) (n : Nat) : (s.count h i f n).upSince = s.upSince := rfl
@[simp] theorem State.count_posted (h i : Nat) (f : Fld) (n : Nat) : (s.count h i f n).posted = s.posted := rfl
@[simp] theorem State.count_portOpen (h i : Nat) (f : Fld) (n : Nat) : (s.count h i f n).portOpen = s.portOpen := rfl
@[simp] theorem State.count_mbxs (h i : Nat) (f : Fld) (n : Nat) : (s.count h i f n).mbxs = s.mbxs := rfl
@[simp] theorem State.count_dops (h i : Nat) (f : Fld) (n : Nat) : (s.count h i f n).dops = s.dops := rfl
@[simp] theorem State.count_paused (h i : Nat) (f : Fld) (n : Nat) : (s.count h i f n).paused = s.paused := rfl
@[simp] theorem State.count_i2cs (h i : Nat) (f : Fld) (n : Nat) : (s.count h i f n).i2cs = s.i2cs := rfl
@[simp] theorem State.count_arp (h i : Nat) (f : Fld) (n : Nat) : (s.count h i f n).arp = s.arp := rfl
@[simp] theorem State.count_arpHeld (h i : Nat) (f : Fld) (n : Nat) : (s.count h i f n).arpHeld = s.arpHeld := rfl
@[simp] theorem State.count_cals (h i : Nat) (f : Fld) (n : Nat) : (s.count h i f n).cals = s.cals := rfl
@[simp] theorem State.count_upd (h i : Nat) (f : Fld) (n : Nat) : (s.count h i f n).upd = s.upd := rfl
@[simp] theorem State.count_leadSel (h i : Nat) (f : Fld) (n : Nat) : (s.count h i f n).leadSel = s.leadSel := rfl
@[simp] theorem State.count_absent (h i : Nat) (f : Fld) (n : Nat) : (s.count h i f n).absent = s.absent := rfl
@[simp] theorem State.count_resetDue (h i : Nat) (f : Fld) (n : Nat) : (s.count h i f n).resetDue = s.resetDue := rfl
@[simp] theorem State.count_vauxLow (h i : Nat) (f : Fld) (n : Nat) : (s.count h i f n).vauxLow = s.vauxLow := rfl
@[simp] theorem State.count_alone (h i : Nat) (f : Fld) (n : Nat) : (s.count h i f n).alone = s.alone := rfl
@[simp] theorem State.count_geo (h i : Nat) (f : Fld) (n : Nat) : (s.count h i f n).geo = s.geo := rfl
@[simp] theorem State.count_geoRes (h i : Nat) (f : Fld) (n : Nat) : (s.count h i f n).geoRes = s.geoRes := rfl
@[simp] theorem State.count_boot (h i : Nat) (f : Fld) (n : Nat) : (s.count h i f n).boot = s.boot := rfl
@[simp] theorem State.count_tap (h i : Nat) (f : Fld) (n : Nat) : (s.count h i f n).tap = s.tap := rfl
@[simp] theorem State.count_junior (h i : Nat) (f : Fld) (n : Nat) : (s.count h i f n).junior = s.junior := rfl
@[simp] theorem State.wrMask_pending (h i blk w : Nat) (m v : Word) : (s.wrMask h i blk w m v).pending = s.pending := rfl
@[simp] theorem State.wrMask_part (h i blk w : Nat) (m v : Word) : (s.wrMask h i blk w m v).part = s.part := rfl
@[simp] theorem State.wrMask_now (h i blk w : Nat) (m v : Word) : (s.wrMask h i blk w m v).now = s.now := rfl
@[simp] theorem State.wrMask_freeCtr (h i blk w : Nat) (m v : Word) : (s.wrMask h i blk w m v).freeCtr = s.freeCtr := rfl
@[simp] theorem State.wrMask_out (h i blk w : Nat) (m v : Word) : (s.wrMask h i blk w m v).out = s.out := rfl
@[simp] theorem State.wrMask_dram (h i blk w : Nat) (m v : Word) : (s.wrMask h i blk w m v).dram = s.dram := rfl
@[simp] theorem State.wrMask_sev (h i blk w : Nat) (m v : Word) : (s.wrMask h i blk w m v).sev = s.sev := rfl
@[simp] theorem State.wrMask_lanes (h i blk w : Nat) (m v : Word) : (s.wrMask h i blk w m v).lanes = s.lanes := rfl
@[simp] theorem State.wrMask_gors (h i blk w : Nat) (m v : Word) : (s.wrMask h i blk w m v).gors = s.gors := rfl
@[simp] theorem State.wrMask_basins (h i blk w : Nat) (m v : Word) : (s.wrMask h i blk w m v).basins = s.basins := rfl
@[simp] theorem State.wrMask_lbs (h i blk w : Nat) (m v : Word) : (s.wrMask h i blk w m v).lbs = s.lbs := rfl
@[simp] theorem State.wrMask_flues (h i blk w : Nat) (m v : Word) : (s.wrMask h i blk w m v).flues = s.flues := rfl
@[simp] theorem State.wrMask_flash (h i blk w : Nat) (m v : Word) : (s.wrMask h i blk w m v).flash = s.flash := rfl
@[simp] theorem State.wrMask_flash2 (h i blk w : Nat) (m v : Word) : (s.wrMask h i blk w m v).flash2 = s.flash2 := rfl
@[simp] theorem State.wrMask_crown (h i blk w : Nat) (m v : Word) : (s.wrMask h i blk w m v).crown = s.crown := rfl
@[simp] theorem State.wrMask_fwQueue (h i blk w : Nat) (m v : Word) : (s.wrMask h i blk w m v).fwQueue = s.fwQueue := rfl
@[simp] theorem State.wrMask_fwSevMin (h i blk w : Nat) (m v : Word) : (s.wrMask h i blk w m v).fwSevMin = s.fwSevMin := rfl
@[simp] theorem State.wrMask_fwFamilies (h i blk w : Nat) (m v : Word) : (s.wrMask h i blk w m v).fwFamilies = s.fwFamilies := rfl
@[simp] theorem State.wrMask_staged (h i blk w : Nat) (m v : Word) : (s.wrMask h i blk w m v).staged = s.staged := rfl
@[simp] theorem State.wrMask_ters (h i blk w : Nat) (m v : Word) : (s.wrMask h i blk w m v).ters = s.ters := rfl
@[simp] theorem State.wrMask_fbxs (h i blk w : Nat) (m v : Word) : (s.wrMask h i blk w m v).fbxs = s.fbxs := rfl
@[simp] theorem State.wrMask_dmps (h i blk w : Nat) (m v : Word) : (s.wrMask h i blk w m v).dmps = s.dmps := rfl
@[simp] theorem State.wrMask_drts (h i blk w : Nat) (m v : Word) : (s.wrMask h i blk w m v).drts = s.drts := rfl
@[simp] theorem State.wrMask_grts (h i blk w : Nat) (m v : Word) : (s.wrMask h i blk w m v).grts = s.grts := rfl
@[simp] theorem State.wrMask_ashMap (h i blk w : Nat) (m v : Word) : (s.wrMask h i blk w m v).ashMap = s.ashMap := rfl
@[simp] theorem State.wrMask_gates (h i blk w : Nat) (m v : Word) : (s.wrMask h i blk w m v).gates = s.gates := rfl
@[simp] theorem State.wrMask_twn (h i blk w : Nat) (m v : Word) : (s.wrMask h i blk w m v).twn = s.twn := rfl
@[simp] theorem State.wrMask_axes (h i blk w : Nat) (m v : Word) : (s.wrMask h i blk w m v).axes = s.axes := rfl
@[simp] theorem State.wrMask_quads (h i blk w : Nat) (m v : Word) : (s.wrMask h i blk w m v).quads = s.quads := rfl
@[simp] theorem State.wrMask_halls (h i blk w : Nat) (m v : Word) : (s.wrMask h i blk w m v).halls = s.halls := rfl
@[simp] theorem State.wrMask_ssis (h i blk w : Nat) (m v : Word) : (s.wrMask h i blk w m v).ssis = s.ssis := rfl
@[simp] theorem State.wrMask_cams (h i blk w : Nat) (m v : Word) : (s.wrMask h i blk w m v).cams = s.cams := rfl
@[simp] theorem State.wrMask_isps (h i blk w : Nat) (m v : Word) : (s.wrMask h i blk w m v).isps = s.isps := rfl
@[simp] theorem State.wrMask_latches (h i blk w : Nat) (m v : Word) : (s.wrMask h i blk w m v).latches = s.latches := rfl
@[simp] theorem State.wrMask_tim (h i blk w : Nat) (m v : Word) : (s.wrMask h i blk w m v).tim = s.tim := rfl
@[simp] theorem State.wrMask_chms (h i blk w : Nat) (m v : Word) : (s.wrMask h i blk w m v).chms = s.chms := rfl
@[simp] theorem State.wrMask_linksLost (h i blk w : Nat) (m v : Word) : (s.wrMask h i blk w m v).linksLost = s.linksLost := rfl
@[simp] theorem State.wrMask_mode (h i blk w : Nat) (m v : Word) : (s.wrMask h i blk w m v).mode = s.mode := rfl
@[simp] theorem State.wrMask_hostId (h i blk w : Nat) (m v : Word) : (s.wrMask h i blk w m v).hostId = s.hostId := rfl
@[simp] theorem State.wrMask_attachDue (h i blk w : Nat) (m v : Word) : (s.wrMask h i blk w m v).attachDue = s.attachDue := rfl
@[simp] theorem State.wrMask_up (h i blk w : Nat) (m v : Word) : (s.wrMask h i blk w m v).up = s.up := rfl
@[simp] theorem State.wrMask_upSince (h i blk w : Nat) (m v : Word) : (s.wrMask h i blk w m v).upSince = s.upSince := rfl
@[simp] theorem State.wrMask_posted (h i blk w : Nat) (m v : Word) : (s.wrMask h i blk w m v).posted = s.posted := rfl
@[simp] theorem State.wrMask_portOpen (h i blk w : Nat) (m v : Word) : (s.wrMask h i blk w m v).portOpen = s.portOpen := rfl
@[simp] theorem State.wrMask_mbxs (h i blk w : Nat) (m v : Word) : (s.wrMask h i blk w m v).mbxs = s.mbxs := rfl
@[simp] theorem State.wrMask_dops (h i blk w : Nat) (m v : Word) : (s.wrMask h i blk w m v).dops = s.dops := rfl
@[simp] theorem State.wrMask_paused (h i blk w : Nat) (m v : Word) : (s.wrMask h i blk w m v).paused = s.paused := rfl
@[simp] theorem State.wrMask_i2cs (h i blk w : Nat) (m v : Word) : (s.wrMask h i blk w m v).i2cs = s.i2cs := rfl
@[simp] theorem State.wrMask_arp (h i blk w : Nat) (m v : Word) : (s.wrMask h i blk w m v).arp = s.arp := rfl
@[simp] theorem State.wrMask_arpHeld (h i blk w : Nat) (m v : Word) : (s.wrMask h i blk w m v).arpHeld = s.arpHeld := rfl
@[simp] theorem State.wrMask_cals (h i blk w : Nat) (m v : Word) : (s.wrMask h i blk w m v).cals = s.cals := rfl
@[simp] theorem State.wrMask_upd (h i blk w : Nat) (m v : Word) : (s.wrMask h i blk w m v).upd = s.upd := rfl
@[simp] theorem State.wrMask_leadSel (h i blk w : Nat) (m v : Word) : (s.wrMask h i blk w m v).leadSel = s.leadSel := rfl
@[simp] theorem State.wrMask_absent (h i blk w : Nat) (m v : Word) : (s.wrMask h i blk w m v).absent = s.absent := rfl
@[simp] theorem State.wrMask_resetDue (h i blk w : Nat) (m v : Word) : (s.wrMask h i blk w m v).resetDue = s.resetDue := rfl
@[simp] theorem State.wrMask_vauxLow (h i blk w : Nat) (m v : Word) : (s.wrMask h i blk w m v).vauxLow = s.vauxLow := rfl
@[simp] theorem State.wrMask_alone (h i blk w : Nat) (m v : Word) : (s.wrMask h i blk w m v).alone = s.alone := rfl
@[simp] theorem State.wrMask_geo (h i blk w : Nat) (m v : Word) : (s.wrMask h i blk w m v).geo = s.geo := rfl
@[simp] theorem State.wrMask_geoRes (h i blk w : Nat) (m v : Word) : (s.wrMask h i blk w m v).geoRes = s.geoRes := rfl
@[simp] theorem State.wrMask_boot (h i blk w : Nat) (m v : Word) : (s.wrMask h i blk w m v).boot = s.boot := rfl
@[simp] theorem State.wrMask_tap (h i blk w : Nat) (m v : Word) : (s.wrMask h i blk w m v).tap = s.tap := rfl
@[simp] theorem State.wrMask_junior (h i blk w : Nat) (m v : Word) : (s.wrMask h i blk w m v).junior = s.junior := rfl
@[simp] theorem State.dwrite_pending (h a : Nat) (b : Byte) : (s.dwrite h a b).pending = s.pending := rfl
@[simp] theorem State.dwrite_part (h a : Nat) (b : Byte) : (s.dwrite h a b).part = s.part := rfl
@[simp] theorem State.dwrite_now (h a : Nat) (b : Byte) : (s.dwrite h a b).now = s.now := rfl
@[simp] theorem State.dwrite_freeCtr (h a : Nat) (b : Byte) : (s.dwrite h a b).freeCtr = s.freeCtr := rfl
@[simp] theorem State.dwrite_out (h a : Nat) (b : Byte) : (s.dwrite h a b).out = s.out := rfl
@[simp] theorem State.dwrite_regs (h a : Nat) (b : Byte) : (s.dwrite h a b).regs = s.regs := rfl
@[simp] theorem State.dwrite_sev (h a : Nat) (b : Byte) : (s.dwrite h a b).sev = s.sev := rfl
@[simp] theorem State.dwrite_lanes (h a : Nat) (b : Byte) : (s.dwrite h a b).lanes = s.lanes := rfl
@[simp] theorem State.dwrite_gors (h a : Nat) (b : Byte) : (s.dwrite h a b).gors = s.gors := rfl
@[simp] theorem State.dwrite_basins (h a : Nat) (b : Byte) : (s.dwrite h a b).basins = s.basins := rfl
@[simp] theorem State.dwrite_lbs (h a : Nat) (b : Byte) : (s.dwrite h a b).lbs = s.lbs := rfl
@[simp] theorem State.dwrite_flues (h a : Nat) (b : Byte) : (s.dwrite h a b).flues = s.flues := rfl
@[simp] theorem State.dwrite_flash (h a : Nat) (b : Byte) : (s.dwrite h a b).flash = s.flash := rfl
@[simp] theorem State.dwrite_flash2 (h a : Nat) (b : Byte) : (s.dwrite h a b).flash2 = s.flash2 := rfl
@[simp] theorem State.dwrite_crown (h a : Nat) (b : Byte) : (s.dwrite h a b).crown = s.crown := rfl
@[simp] theorem State.dwrite_fwQueue (h a : Nat) (b : Byte) : (s.dwrite h a b).fwQueue = s.fwQueue := rfl
@[simp] theorem State.dwrite_fwSevMin (h a : Nat) (b : Byte) : (s.dwrite h a b).fwSevMin = s.fwSevMin := rfl
@[simp] theorem State.dwrite_fwFamilies (h a : Nat) (b : Byte) : (s.dwrite h a b).fwFamilies = s.fwFamilies := rfl
@[simp] theorem State.dwrite_staged (h a : Nat) (b : Byte) : (s.dwrite h a b).staged = s.staged := rfl
@[simp] theorem State.dwrite_ters (h a : Nat) (b : Byte) : (s.dwrite h a b).ters = s.ters := rfl
@[simp] theorem State.dwrite_fbxs (h a : Nat) (b : Byte) : (s.dwrite h a b).fbxs = s.fbxs := rfl
@[simp] theorem State.dwrite_dmps (h a : Nat) (b : Byte) : (s.dwrite h a b).dmps = s.dmps := rfl
@[simp] theorem State.dwrite_drts (h a : Nat) (b : Byte) : (s.dwrite h a b).drts = s.drts := rfl
@[simp] theorem State.dwrite_grts (h a : Nat) (b : Byte) : (s.dwrite h a b).grts = s.grts := rfl
@[simp] theorem State.dwrite_ashMap (h a : Nat) (b : Byte) : (s.dwrite h a b).ashMap = s.ashMap := rfl
@[simp] theorem State.dwrite_gates (h a : Nat) (b : Byte) : (s.dwrite h a b).gates = s.gates := rfl
@[simp] theorem State.dwrite_twn (h a : Nat) (b : Byte) : (s.dwrite h a b).twn = s.twn := rfl
@[simp] theorem State.dwrite_axes (h a : Nat) (b : Byte) : (s.dwrite h a b).axes = s.axes := rfl
@[simp] theorem State.dwrite_quads (h a : Nat) (b : Byte) : (s.dwrite h a b).quads = s.quads := rfl
@[simp] theorem State.dwrite_halls (h a : Nat) (b : Byte) : (s.dwrite h a b).halls = s.halls := rfl
@[simp] theorem State.dwrite_ssis (h a : Nat) (b : Byte) : (s.dwrite h a b).ssis = s.ssis := rfl
@[simp] theorem State.dwrite_cams (h a : Nat) (b : Byte) : (s.dwrite h a b).cams = s.cams := rfl
@[simp] theorem State.dwrite_isps (h a : Nat) (b : Byte) : (s.dwrite h a b).isps = s.isps := rfl
@[simp] theorem State.dwrite_latches (h a : Nat) (b : Byte) : (s.dwrite h a b).latches = s.latches := rfl
@[simp] theorem State.dwrite_tim (h a : Nat) (b : Byte) : (s.dwrite h a b).tim = s.tim := rfl
@[simp] theorem State.dwrite_chms (h a : Nat) (b : Byte) : (s.dwrite h a b).chms = s.chms := rfl
@[simp] theorem State.dwrite_linksLost (h a : Nat) (b : Byte) : (s.dwrite h a b).linksLost = s.linksLost := rfl
@[simp] theorem State.dwrite_mode (h a : Nat) (b : Byte) : (s.dwrite h a b).mode = s.mode := rfl
@[simp] theorem State.dwrite_hostId (h a : Nat) (b : Byte) : (s.dwrite h a b).hostId = s.hostId := rfl
@[simp] theorem State.dwrite_attachDue (h a : Nat) (b : Byte) : (s.dwrite h a b).attachDue = s.attachDue := rfl
@[simp] theorem State.dwrite_up (h a : Nat) (b : Byte) : (s.dwrite h a b).up = s.up := rfl
@[simp] theorem State.dwrite_upSince (h a : Nat) (b : Byte) : (s.dwrite h a b).upSince = s.upSince := rfl
@[simp] theorem State.dwrite_posted (h a : Nat) (b : Byte) : (s.dwrite h a b).posted = s.posted := rfl
@[simp] theorem State.dwrite_portOpen (h a : Nat) (b : Byte) : (s.dwrite h a b).portOpen = s.portOpen := rfl
@[simp] theorem State.dwrite_mbxs (h a : Nat) (b : Byte) : (s.dwrite h a b).mbxs = s.mbxs := rfl
@[simp] theorem State.dwrite_dops (h a : Nat) (b : Byte) : (s.dwrite h a b).dops = s.dops := rfl
@[simp] theorem State.dwrite_paused (h a : Nat) (b : Byte) : (s.dwrite h a b).paused = s.paused := rfl
@[simp] theorem State.dwrite_i2cs (h a : Nat) (b : Byte) : (s.dwrite h a b).i2cs = s.i2cs := rfl
@[simp] theorem State.dwrite_arp (h a : Nat) (b : Byte) : (s.dwrite h a b).arp = s.arp := rfl
@[simp] theorem State.dwrite_arpHeld (h a : Nat) (b : Byte) : (s.dwrite h a b).arpHeld = s.arpHeld := rfl
@[simp] theorem State.dwrite_cals (h a : Nat) (b : Byte) : (s.dwrite h a b).cals = s.cals := rfl
@[simp] theorem State.dwrite_upd (h a : Nat) (b : Byte) : (s.dwrite h a b).upd = s.upd := rfl
@[simp] theorem State.dwrite_leadSel (h a : Nat) (b : Byte) : (s.dwrite h a b).leadSel = s.leadSel := rfl
@[simp] theorem State.dwrite_absent (h a : Nat) (b : Byte) : (s.dwrite h a b).absent = s.absent := rfl
@[simp] theorem State.dwrite_resetDue (h a : Nat) (b : Byte) : (s.dwrite h a b).resetDue = s.resetDue := rfl
@[simp] theorem State.dwrite_vauxLow (h a : Nat) (b : Byte) : (s.dwrite h a b).vauxLow = s.vauxLow := rfl
@[simp] theorem State.dwrite_alone (h a : Nat) (b : Byte) : (s.dwrite h a b).alone = s.alone := rfl
@[simp] theorem State.dwrite_geo (h a : Nat) (b : Byte) : (s.dwrite h a b).geo = s.geo := rfl
@[simp] theorem State.dwrite_geoRes (h a : Nat) (b : Byte) : (s.dwrite h a b).geoRes = s.geoRes := rfl
@[simp] theorem State.dwrite_boot (h a : Nat) (b : Byte) : (s.dwrite h a b).boot = s.boot := rfl
@[simp] theorem State.dwrite_tap (h a : Nat) (b : Byte) : (s.dwrite h a b).tap = s.tap := rfl
@[simp] theorem State.dwrite_junior (h a : Nat) (b : Byte) : (s.dwrite h a b).junior = s.junior := rfl
@[simp] theorem State.fwrite_pending (a : Nat) (b : Byte) : (s.fwrite a b).pending = s.pending := rfl
@[simp] theorem State.fwrite_part (a : Nat) (b : Byte) : (s.fwrite a b).part = s.part := rfl
@[simp] theorem State.fwrite_now (a : Nat) (b : Byte) : (s.fwrite a b).now = s.now := rfl
@[simp] theorem State.fwrite_freeCtr (a : Nat) (b : Byte) : (s.fwrite a b).freeCtr = s.freeCtr := rfl
@[simp] theorem State.fwrite_out (a : Nat) (b : Byte) : (s.fwrite a b).out = s.out := rfl
@[simp] theorem State.fwrite_regs (a : Nat) (b : Byte) : (s.fwrite a b).regs = s.regs := rfl
@[simp] theorem State.fwrite_dram (a : Nat) (b : Byte) : (s.fwrite a b).dram = s.dram := rfl
@[simp] theorem State.fwrite_sev (a : Nat) (b : Byte) : (s.fwrite a b).sev = s.sev := rfl
@[simp] theorem State.fwrite_lanes (a : Nat) (b : Byte) : (s.fwrite a b).lanes = s.lanes := rfl
@[simp] theorem State.fwrite_gors (a : Nat) (b : Byte) : (s.fwrite a b).gors = s.gors := rfl
@[simp] theorem State.fwrite_basins (a : Nat) (b : Byte) : (s.fwrite a b).basins = s.basins := rfl
@[simp] theorem State.fwrite_lbs (a : Nat) (b : Byte) : (s.fwrite a b).lbs = s.lbs := rfl
@[simp] theorem State.fwrite_flues (a : Nat) (b : Byte) : (s.fwrite a b).flues = s.flues := rfl
@[simp] theorem State.fwrite_flash2 (a : Nat) (b : Byte) : (s.fwrite a b).flash2 = s.flash2 := rfl
@[simp] theorem State.fwrite_crown (a : Nat) (b : Byte) : (s.fwrite a b).crown = s.crown := rfl
@[simp] theorem State.fwrite_fwQueue (a : Nat) (b : Byte) : (s.fwrite a b).fwQueue = s.fwQueue := rfl
@[simp] theorem State.fwrite_fwSevMin (a : Nat) (b : Byte) : (s.fwrite a b).fwSevMin = s.fwSevMin := rfl
@[simp] theorem State.fwrite_fwFamilies (a : Nat) (b : Byte) : (s.fwrite a b).fwFamilies = s.fwFamilies := rfl
@[simp] theorem State.fwrite_staged (a : Nat) (b : Byte) : (s.fwrite a b).staged = s.staged := rfl
@[simp] theorem State.fwrite_ters (a : Nat) (b : Byte) : (s.fwrite a b).ters = s.ters := rfl
@[simp] theorem State.fwrite_fbxs (a : Nat) (b : Byte) : (s.fwrite a b).fbxs = s.fbxs := rfl
@[simp] theorem State.fwrite_dmps (a : Nat) (b : Byte) : (s.fwrite a b).dmps = s.dmps := rfl
@[simp] theorem State.fwrite_drts (a : Nat) (b : Byte) : (s.fwrite a b).drts = s.drts := rfl
@[simp] theorem State.fwrite_grts (a : Nat) (b : Byte) : (s.fwrite a b).grts = s.grts := rfl
@[simp] theorem State.fwrite_ashMap (a : Nat) (b : Byte) : (s.fwrite a b).ashMap = s.ashMap := rfl
@[simp] theorem State.fwrite_gates (a : Nat) (b : Byte) : (s.fwrite a b).gates = s.gates := rfl
@[simp] theorem State.fwrite_twn (a : Nat) (b : Byte) : (s.fwrite a b).twn = s.twn := rfl
@[simp] theorem State.fwrite_axes (a : Nat) (b : Byte) : (s.fwrite a b).axes = s.axes := rfl
@[simp] theorem State.fwrite_quads (a : Nat) (b : Byte) : (s.fwrite a b).quads = s.quads := rfl
@[simp] theorem State.fwrite_halls (a : Nat) (b : Byte) : (s.fwrite a b).halls = s.halls := rfl
@[simp] theorem State.fwrite_ssis (a : Nat) (b : Byte) : (s.fwrite a b).ssis = s.ssis := rfl
@[simp] theorem State.fwrite_cams (a : Nat) (b : Byte) : (s.fwrite a b).cams = s.cams := rfl
@[simp] theorem State.fwrite_isps (a : Nat) (b : Byte) : (s.fwrite a b).isps = s.isps := rfl
@[simp] theorem State.fwrite_latches (a : Nat) (b : Byte) : (s.fwrite a b).latches = s.latches := rfl
@[simp] theorem State.fwrite_tim (a : Nat) (b : Byte) : (s.fwrite a b).tim = s.tim := rfl
@[simp] theorem State.fwrite_chms (a : Nat) (b : Byte) : (s.fwrite a b).chms = s.chms := rfl
@[simp] theorem State.fwrite_linksLost (a : Nat) (b : Byte) : (s.fwrite a b).linksLost = s.linksLost := rfl
@[simp] theorem State.fwrite_mode (a : Nat) (b : Byte) : (s.fwrite a b).mode = s.mode := rfl
@[simp] theorem State.fwrite_hostId (a : Nat) (b : Byte) : (s.fwrite a b).hostId = s.hostId := rfl
@[simp] theorem State.fwrite_attachDue (a : Nat) (b : Byte) : (s.fwrite a b).attachDue = s.attachDue := rfl
@[simp] theorem State.fwrite_up (a : Nat) (b : Byte) : (s.fwrite a b).up = s.up := rfl
@[simp] theorem State.fwrite_upSince (a : Nat) (b : Byte) : (s.fwrite a b).upSince = s.upSince := rfl
@[simp] theorem State.fwrite_posted (a : Nat) (b : Byte) : (s.fwrite a b).posted = s.posted := rfl
@[simp] theorem State.fwrite_portOpen (a : Nat) (b : Byte) : (s.fwrite a b).portOpen = s.portOpen := rfl
@[simp] theorem State.fwrite_mbxs (a : Nat) (b : Byte) : (s.fwrite a b).mbxs = s.mbxs := rfl
@[simp] theorem State.fwrite_dops (a : Nat) (b : Byte) : (s.fwrite a b).dops = s.dops := rfl
@[simp] theorem State.fwrite_paused (a : Nat) (b : Byte) : (s.fwrite a b).paused = s.paused := rfl
@[simp] theorem State.fwrite_i2cs (a : Nat) (b : Byte) : (s.fwrite a b).i2cs = s.i2cs := rfl
@[simp] theorem State.fwrite_arp (a : Nat) (b : Byte) : (s.fwrite a b).arp = s.arp := rfl
@[simp] theorem State.fwrite_arpHeld (a : Nat) (b : Byte) : (s.fwrite a b).arpHeld = s.arpHeld := rfl
@[simp] theorem State.fwrite_cals (a : Nat) (b : Byte) : (s.fwrite a b).cals = s.cals := rfl
@[simp] theorem State.fwrite_upd (a : Nat) (b : Byte) : (s.fwrite a b).upd = s.upd := rfl
@[simp] theorem State.fwrite_leadSel (a : Nat) (b : Byte) : (s.fwrite a b).leadSel = s.leadSel := rfl
@[simp] theorem State.fwrite_absent (a : Nat) (b : Byte) : (s.fwrite a b).absent = s.absent := rfl
@[simp] theorem State.fwrite_resetDue (a : Nat) (b : Byte) : (s.fwrite a b).resetDue = s.resetDue := rfl
@[simp] theorem State.fwrite_vauxLow (a : Nat) (b : Byte) : (s.fwrite a b).vauxLow = s.vauxLow := rfl
@[simp] theorem State.fwrite_alone (a : Nat) (b : Byte) : (s.fwrite a b).alone = s.alone := rfl
@[simp] theorem State.fwrite_geo (a : Nat) (b : Byte) : (s.fwrite a b).geo = s.geo := rfl
@[simp] theorem State.fwrite_geoRes (a : Nat) (b : Byte) : (s.fwrite a b).geoRes = s.geoRes := rfl
@[simp] theorem State.fwrite_boot (a : Nat) (b : Byte) : (s.fwrite a b).boot = s.boot := rfl
@[simp] theorem State.fwrite_tap (a : Nat) (b : Byte) : (s.fwrite a b).tap = s.tap := rfl
@[simp] theorem State.fwrite_junior (a : Nat) (b : Byte) : (s.fwrite a b).junior = s.junior := rfl
@[simp] theorem State.emit_pending (o : Out) : (s.emit o).pending = s.pending := rfl
@[simp] theorem State.emit_part (o : Out) : (s.emit o).part = s.part := rfl
@[simp] theorem State.emit_now (o : Out) : (s.emit o).now = s.now := rfl
@[simp] theorem State.emit_freeCtr (o : Out) : (s.emit o).freeCtr = s.freeCtr := rfl
@[simp] theorem State.emit_regs (o : Out) : (s.emit o).regs = s.regs := rfl
@[simp] theorem State.emit_dram (o : Out) : (s.emit o).dram = s.dram := rfl
@[simp] theorem State.emit_sev (o : Out) : (s.emit o).sev = s.sev := rfl
@[simp] theorem State.emit_lanes (o : Out) : (s.emit o).lanes = s.lanes := rfl
@[simp] theorem State.emit_gors (o : Out) : (s.emit o).gors = s.gors := rfl
@[simp] theorem State.emit_basins (o : Out) : (s.emit o).basins = s.basins := rfl
@[simp] theorem State.emit_lbs (o : Out) : (s.emit o).lbs = s.lbs := rfl
@[simp] theorem State.emit_flues (o : Out) : (s.emit o).flues = s.flues := rfl
@[simp] theorem State.emit_flash (o : Out) : (s.emit o).flash = s.flash := rfl
@[simp] theorem State.emit_flash2 (o : Out) : (s.emit o).flash2 = s.flash2 := rfl
@[simp] theorem State.emit_crown (o : Out) : (s.emit o).crown = s.crown := rfl
@[simp] theorem State.emit_fwQueue (o : Out) : (s.emit o).fwQueue = s.fwQueue := rfl
@[simp] theorem State.emit_fwSevMin (o : Out) : (s.emit o).fwSevMin = s.fwSevMin := rfl
@[simp] theorem State.emit_fwFamilies (o : Out) : (s.emit o).fwFamilies = s.fwFamilies := rfl
@[simp] theorem State.emit_staged (o : Out) : (s.emit o).staged = s.staged := rfl
@[simp] theorem State.emit_ters (o : Out) : (s.emit o).ters = s.ters := rfl
@[simp] theorem State.emit_fbxs (o : Out) : (s.emit o).fbxs = s.fbxs := rfl
@[simp] theorem State.emit_dmps (o : Out) : (s.emit o).dmps = s.dmps := rfl
@[simp] theorem State.emit_drts (o : Out) : (s.emit o).drts = s.drts := rfl
@[simp] theorem State.emit_grts (o : Out) : (s.emit o).grts = s.grts := rfl
@[simp] theorem State.emit_ashMap (o : Out) : (s.emit o).ashMap = s.ashMap := rfl
@[simp] theorem State.emit_gates (o : Out) : (s.emit o).gates = s.gates := rfl
@[simp] theorem State.emit_twn (o : Out) : (s.emit o).twn = s.twn := rfl
@[simp] theorem State.emit_axes (o : Out) : (s.emit o).axes = s.axes := rfl
@[simp] theorem State.emit_quads (o : Out) : (s.emit o).quads = s.quads := rfl
@[simp] theorem State.emit_halls (o : Out) : (s.emit o).halls = s.halls := rfl
@[simp] theorem State.emit_ssis (o : Out) : (s.emit o).ssis = s.ssis := rfl
@[simp] theorem State.emit_cams (o : Out) : (s.emit o).cams = s.cams := rfl
@[simp] theorem State.emit_isps (o : Out) : (s.emit o).isps = s.isps := rfl
@[simp] theorem State.emit_latches (o : Out) : (s.emit o).latches = s.latches := rfl
@[simp] theorem State.emit_tim (o : Out) : (s.emit o).tim = s.tim := rfl
@[simp] theorem State.emit_chms (o : Out) : (s.emit o).chms = s.chms := rfl
@[simp] theorem State.emit_linksLost (o : Out) : (s.emit o).linksLost = s.linksLost := rfl
@[simp] theorem State.emit_mode (o : Out) : (s.emit o).mode = s.mode := rfl
@[simp] theorem State.emit_hostId (o : Out) : (s.emit o).hostId = s.hostId := rfl
@[simp] theorem State.emit_attachDue (o : Out) : (s.emit o).attachDue = s.attachDue := rfl
@[simp] theorem State.emit_up (o : Out) : (s.emit o).up = s.up := rfl
@[simp] theorem State.emit_upSince (o : Out) : (s.emit o).upSince = s.upSince := rfl
@[simp] theorem State.emit_posted (o : Out) : (s.emit o).posted = s.posted := rfl
@[simp] theorem State.emit_portOpen (o : Out) : (s.emit o).portOpen = s.portOpen := rfl
@[simp] theorem State.emit_mbxs (o : Out) : (s.emit o).mbxs = s.mbxs := rfl
@[simp] theorem State.emit_dops (o : Out) : (s.emit o).dops = s.dops := rfl
@[simp] theorem State.emit_paused (o : Out) : (s.emit o).paused = s.paused := rfl
@[simp] theorem State.emit_i2cs (o : Out) : (s.emit o).i2cs = s.i2cs := rfl
@[simp] theorem State.emit_arp (o : Out) : (s.emit o).arp = s.arp := rfl
@[simp] theorem State.emit_arpHeld (o : Out) : (s.emit o).arpHeld = s.arpHeld := rfl
@[simp] theorem State.emit_cals (o : Out) : (s.emit o).cals = s.cals := rfl
@[simp] theorem State.emit_upd (o : Out) : (s.emit o).upd = s.upd := rfl
@[simp] theorem State.emit_leadSel (o : Out) : (s.emit o).leadSel = s.leadSel := rfl
@[simp] theorem State.emit_absent (o : Out) : (s.emit o).absent = s.absent := rfl
@[simp] theorem State.emit_resetDue (o : Out) : (s.emit o).resetDue = s.resetDue := rfl
@[simp] theorem State.emit_vauxLow (o : Out) : (s.emit o).vauxLow = s.vauxLow := rfl
@[simp] theorem State.emit_alone (o : Out) : (s.emit o).alone = s.alone := rfl
@[simp] theorem State.emit_geo (o : Out) : (s.emit o).geo = s.geo := rfl
@[simp] theorem State.emit_geoRes (o : Out) : (s.emit o).geoRes = s.geoRes := rfl
@[simp] theorem State.emit_boot (o : Out) : (s.emit o).boot = s.boot := rfl
@[simp] theorem State.emit_tap (o : Out) : (s.emit o).tap = s.tap := rfl
@[simp] theorem State.emit_junior (o : Out) : (s.emit o).junior = s.junior := rfl
@[simp] theorem State.emits_pending (os : List Out) : (s.emits os).pending = s.pending := rfl
@[simp] theorem State.emits_part (os : List Out) : (s.emits os).part = s.part := rfl
@[simp] theorem State.emits_now (os : List Out) : (s.emits os).now = s.now := rfl
@[simp] theorem State.emits_freeCtr (os : List Out) : (s.emits os).freeCtr = s.freeCtr := rfl
@[simp] theorem State.emits_regs (os : List Out) : (s.emits os).regs = s.regs := rfl
@[simp] theorem State.emits_dram (os : List Out) : (s.emits os).dram = s.dram := rfl
@[simp] theorem State.emits_sev (os : List Out) : (s.emits os).sev = s.sev := rfl
@[simp] theorem State.emits_lanes (os : List Out) : (s.emits os).lanes = s.lanes := rfl
@[simp] theorem State.emits_gors (os : List Out) : (s.emits os).gors = s.gors := rfl
@[simp] theorem State.emits_basins (os : List Out) : (s.emits os).basins = s.basins := rfl
@[simp] theorem State.emits_lbs (os : List Out) : (s.emits os).lbs = s.lbs := rfl
@[simp] theorem State.emits_flues (os : List Out) : (s.emits os).flues = s.flues := rfl
@[simp] theorem State.emits_flash (os : List Out) : (s.emits os).flash = s.flash := rfl
@[simp] theorem State.emits_flash2 (os : List Out) : (s.emits os).flash2 = s.flash2 := rfl
@[simp] theorem State.emits_crown (os : List Out) : (s.emits os).crown = s.crown := rfl
@[simp] theorem State.emits_fwQueue (os : List Out) : (s.emits os).fwQueue = s.fwQueue := rfl
@[simp] theorem State.emits_fwSevMin (os : List Out) : (s.emits os).fwSevMin = s.fwSevMin := rfl
@[simp] theorem State.emits_fwFamilies (os : List Out) : (s.emits os).fwFamilies = s.fwFamilies := rfl
@[simp] theorem State.emits_staged (os : List Out) : (s.emits os).staged = s.staged := rfl
@[simp] theorem State.emits_ters (os : List Out) : (s.emits os).ters = s.ters := rfl
@[simp] theorem State.emits_fbxs (os : List Out) : (s.emits os).fbxs = s.fbxs := rfl
@[simp] theorem State.emits_dmps (os : List Out) : (s.emits os).dmps = s.dmps := rfl
@[simp] theorem State.emits_drts (os : List Out) : (s.emits os).drts = s.drts := rfl
@[simp] theorem State.emits_grts (os : List Out) : (s.emits os).grts = s.grts := rfl
@[simp] theorem State.emits_ashMap (os : List Out) : (s.emits os).ashMap = s.ashMap := rfl
@[simp] theorem State.emits_gates (os : List Out) : (s.emits os).gates = s.gates := rfl
@[simp] theorem State.emits_twn (os : List Out) : (s.emits os).twn = s.twn := rfl
@[simp] theorem State.emits_axes (os : List Out) : (s.emits os).axes = s.axes := rfl
@[simp] theorem State.emits_quads (os : List Out) : (s.emits os).quads = s.quads := rfl
@[simp] theorem State.emits_halls (os : List Out) : (s.emits os).halls = s.halls := rfl
@[simp] theorem State.emits_ssis (os : List Out) : (s.emits os).ssis = s.ssis := rfl
@[simp] theorem State.emits_cams (os : List Out) : (s.emits os).cams = s.cams := rfl
@[simp] theorem State.emits_isps (os : List Out) : (s.emits os).isps = s.isps := rfl
@[simp] theorem State.emits_latches (os : List Out) : (s.emits os).latches = s.latches := rfl
@[simp] theorem State.emits_tim (os : List Out) : (s.emits os).tim = s.tim := rfl
@[simp] theorem State.emits_chms (os : List Out) : (s.emits os).chms = s.chms := rfl
@[simp] theorem State.emits_linksLost (os : List Out) : (s.emits os).linksLost = s.linksLost := rfl
@[simp] theorem State.emits_mode (os : List Out) : (s.emits os).mode = s.mode := rfl
@[simp] theorem State.emits_hostId (os : List Out) : (s.emits os).hostId = s.hostId := rfl
@[simp] theorem State.emits_attachDue (os : List Out) : (s.emits os).attachDue = s.attachDue := rfl
@[simp] theorem State.emits_up (os : List Out) : (s.emits os).up = s.up := rfl
@[simp] theorem State.emits_upSince (os : List Out) : (s.emits os).upSince = s.upSince := rfl
@[simp] theorem State.emits_posted (os : List Out) : (s.emits os).posted = s.posted := rfl
@[simp] theorem State.emits_portOpen (os : List Out) : (s.emits os).portOpen = s.portOpen := rfl
@[simp] theorem State.emits_mbxs (os : List Out) : (s.emits os).mbxs = s.mbxs := rfl
@[simp] theorem State.emits_dops (os : List Out) : (s.emits os).dops = s.dops := rfl
@[simp] theorem State.emits_paused (os : List Out) : (s.emits os).paused = s.paused := rfl
@[simp] theorem State.emits_i2cs (os : List Out) : (s.emits os).i2cs = s.i2cs := rfl
@[simp] theorem State.emits_arp (os : List Out) : (s.emits os).arp = s.arp := rfl
@[simp] theorem State.emits_arpHeld (os : List Out) : (s.emits os).arpHeld = s.arpHeld := rfl
@[simp] theorem State.emits_cals (os : List Out) : (s.emits os).cals = s.cals := rfl
@[simp] theorem State.emits_upd (os : List Out) : (s.emits os).upd = s.upd := rfl
@[simp] theorem State.emits_leadSel (os : List Out) : (s.emits os).leadSel = s.leadSel := rfl
@[simp] theorem State.emits_absent (os : List Out) : (s.emits os).absent = s.absent := rfl
@[simp] theorem State.emits_resetDue (os : List Out) : (s.emits os).resetDue = s.resetDue := rfl
@[simp] theorem State.emits_vauxLow (os : List Out) : (s.emits os).vauxLow = s.vauxLow := rfl
@[simp] theorem State.emits_alone (os : List Out) : (s.emits os).alone = s.alone := rfl
@[simp] theorem State.emits_geo (os : List Out) : (s.emits os).geo = s.geo := rfl
@[simp] theorem State.emits_geoRes (os : List Out) : (s.emits os).geoRes = s.geoRes := rfl
@[simp] theorem State.emits_boot (os : List Out) : (s.emits os).boot = s.boot := rfl
@[simp] theorem State.emits_tap (os : List Out) : (s.emits os).tap = s.tap := rfl
@[simp] theorem State.emits_junior (os : List Out) : (s.emits os).junior = s.junior := rfl
@[simp] theorem State.setLane_pending (h l : Nat) (x : LaneX) : (s.setLane h l x).pending = s.pending := rfl
@[simp] theorem State.setLane_part (h l : Nat) (x : LaneX) : (s.setLane h l x).part = s.part := rfl
@[simp] theorem State.setLane_now (h l : Nat) (x : LaneX) : (s.setLane h l x).now = s.now := rfl
@[simp] theorem State.setLane_freeCtr (h l : Nat) (x : LaneX) : (s.setLane h l x).freeCtr = s.freeCtr := rfl
@[simp] theorem State.setLane_out (h l : Nat) (x : LaneX) : (s.setLane h l x).out = s.out := rfl
@[simp] theorem State.setLane_regs (h l : Nat) (x : LaneX) : (s.setLane h l x).regs = s.regs := rfl
@[simp] theorem State.setLane_dram (h l : Nat) (x : LaneX) : (s.setLane h l x).dram = s.dram := rfl
@[simp] theorem State.setLane_sev (h l : Nat) (x : LaneX) : (s.setLane h l x).sev = s.sev := rfl
@[simp] theorem State.setLane_gors (h l : Nat) (x : LaneX) : (s.setLane h l x).gors = s.gors := rfl
@[simp] theorem State.setLane_basins (h l : Nat) (x : LaneX) : (s.setLane h l x).basins = s.basins := rfl
@[simp] theorem State.setLane_lbs (h l : Nat) (x : LaneX) : (s.setLane h l x).lbs = s.lbs := rfl
@[simp] theorem State.setLane_flues (h l : Nat) (x : LaneX) : (s.setLane h l x).flues = s.flues := rfl
@[simp] theorem State.setLane_flash (h l : Nat) (x : LaneX) : (s.setLane h l x).flash = s.flash := rfl
@[simp] theorem State.setLane_flash2 (h l : Nat) (x : LaneX) : (s.setLane h l x).flash2 = s.flash2 := rfl
@[simp] theorem State.setLane_crown (h l : Nat) (x : LaneX) : (s.setLane h l x).crown = s.crown := rfl
@[simp] theorem State.setLane_fwQueue (h l : Nat) (x : LaneX) : (s.setLane h l x).fwQueue = s.fwQueue := rfl
@[simp] theorem State.setLane_fwSevMin (h l : Nat) (x : LaneX) : (s.setLane h l x).fwSevMin = s.fwSevMin := rfl
@[simp] theorem State.setLane_fwFamilies (h l : Nat) (x : LaneX) : (s.setLane h l x).fwFamilies = s.fwFamilies := rfl
@[simp] theorem State.setLane_staged (h l : Nat) (x : LaneX) : (s.setLane h l x).staged = s.staged := rfl
@[simp] theorem State.setLane_ters (h l : Nat) (x : LaneX) : (s.setLane h l x).ters = s.ters := rfl
@[simp] theorem State.setLane_fbxs (h l : Nat) (x : LaneX) : (s.setLane h l x).fbxs = s.fbxs := rfl
@[simp] theorem State.setLane_dmps (h l : Nat) (x : LaneX) : (s.setLane h l x).dmps = s.dmps := rfl
@[simp] theorem State.setLane_drts (h l : Nat) (x : LaneX) : (s.setLane h l x).drts = s.drts := rfl
@[simp] theorem State.setLane_grts (h l : Nat) (x : LaneX) : (s.setLane h l x).grts = s.grts := rfl
@[simp] theorem State.setLane_ashMap (h l : Nat) (x : LaneX) : (s.setLane h l x).ashMap = s.ashMap := rfl
@[simp] theorem State.setLane_gates (h l : Nat) (x : LaneX) : (s.setLane h l x).gates = s.gates := rfl
@[simp] theorem State.setLane_twn (h l : Nat) (x : LaneX) : (s.setLane h l x).twn = s.twn := rfl
@[simp] theorem State.setLane_axes (h l : Nat) (x : LaneX) : (s.setLane h l x).axes = s.axes := rfl
@[simp] theorem State.setLane_quads (h l : Nat) (x : LaneX) : (s.setLane h l x).quads = s.quads := rfl
@[simp] theorem State.setLane_halls (h l : Nat) (x : LaneX) : (s.setLane h l x).halls = s.halls := rfl
@[simp] theorem State.setLane_ssis (h l : Nat) (x : LaneX) : (s.setLane h l x).ssis = s.ssis := rfl
@[simp] theorem State.setLane_cams (h l : Nat) (x : LaneX) : (s.setLane h l x).cams = s.cams := rfl
@[simp] theorem State.setLane_isps (h l : Nat) (x : LaneX) : (s.setLane h l x).isps = s.isps := rfl
@[simp] theorem State.setLane_latches (h l : Nat) (x : LaneX) : (s.setLane h l x).latches = s.latches := rfl
@[simp] theorem State.setLane_tim (h l : Nat) (x : LaneX) : (s.setLane h l x).tim = s.tim := rfl
@[simp] theorem State.setLane_chms (h l : Nat) (x : LaneX) : (s.setLane h l x).chms = s.chms := rfl
@[simp] theorem State.setLane_linksLost (h l : Nat) (x : LaneX) : (s.setLane h l x).linksLost = s.linksLost := rfl
@[simp] theorem State.setLane_mode (h l : Nat) (x : LaneX) : (s.setLane h l x).mode = s.mode := rfl
@[simp] theorem State.setLane_hostId (h l : Nat) (x : LaneX) : (s.setLane h l x).hostId = s.hostId := rfl
@[simp] theorem State.setLane_attachDue (h l : Nat) (x : LaneX) : (s.setLane h l x).attachDue = s.attachDue := rfl
@[simp] theorem State.setLane_up (h l : Nat) (x : LaneX) : (s.setLane h l x).up = s.up := rfl
@[simp] theorem State.setLane_upSince (h l : Nat) (x : LaneX) : (s.setLane h l x).upSince = s.upSince := rfl
@[simp] theorem State.setLane_posted (h l : Nat) (x : LaneX) : (s.setLane h l x).posted = s.posted := rfl
@[simp] theorem State.setLane_portOpen (h l : Nat) (x : LaneX) : (s.setLane h l x).portOpen = s.portOpen := rfl
@[simp] theorem State.setLane_mbxs (h l : Nat) (x : LaneX) : (s.setLane h l x).mbxs = s.mbxs := rfl
@[simp] theorem State.setLane_dops (h l : Nat) (x : LaneX) : (s.setLane h l x).dops = s.dops := rfl
@[simp] theorem State.setLane_paused (h l : Nat) (x : LaneX) : (s.setLane h l x).paused = s.paused := rfl
@[simp] theorem State.setLane_i2cs (h l : Nat) (x : LaneX) : (s.setLane h l x).i2cs = s.i2cs := rfl
@[simp] theorem State.setLane_arp (h l : Nat) (x : LaneX) : (s.setLane h l x).arp = s.arp := rfl
@[simp] theorem State.setLane_arpHeld (h l : Nat) (x : LaneX) : (s.setLane h l x).arpHeld = s.arpHeld := rfl
@[simp] theorem State.setLane_cals (h l : Nat) (x : LaneX) : (s.setLane h l x).cals = s.cals := rfl
@[simp] theorem State.setLane_upd (h l : Nat) (x : LaneX) : (s.setLane h l x).upd = s.upd := rfl
@[simp] theorem State.setLane_leadSel (h l : Nat) (x : LaneX) : (s.setLane h l x).leadSel = s.leadSel := rfl
@[simp] theorem State.setLane_absent (h l : Nat) (x : LaneX) : (s.setLane h l x).absent = s.absent := rfl
@[simp] theorem State.setLane_resetDue (h l : Nat) (x : LaneX) : (s.setLane h l x).resetDue = s.resetDue := rfl
@[simp] theorem State.setLane_vauxLow (h l : Nat) (x : LaneX) : (s.setLane h l x).vauxLow = s.vauxLow := rfl
@[simp] theorem State.setLane_alone (h l : Nat) (x : LaneX) : (s.setLane h l x).alone = s.alone := rfl
@[simp] theorem State.setLane_geo (h l : Nat) (x : LaneX) : (s.setLane h l x).geo = s.geo := rfl
@[simp] theorem State.setLane_geoRes (h l : Nat) (x : LaneX) : (s.setLane h l x).geoRes = s.geoRes := rfl
@[simp] theorem State.setLane_boot (h l : Nat) (x : LaneX) : (s.setLane h l x).boot = s.boot := rfl
@[simp] theorem State.setLane_tap (h l : Nat) (x : LaneX) : (s.setLane h l x).tap = s.tap := rfl
@[simp] theorem State.setLane_junior (h l : Nat) (x : LaneX) : (s.setLane h l x).junior = s.junior := rfl
@[simp] theorem State.setGor_pending (h i : Nat) (x : GorX) : (s.setGor h i x).pending = s.pending := rfl
@[simp] theorem State.setGor_part (h i : Nat) (x : GorX) : (s.setGor h i x).part = s.part := rfl
@[simp] theorem State.setGor_now (h i : Nat) (x : GorX) : (s.setGor h i x).now = s.now := rfl
@[simp] theorem State.setGor_freeCtr (h i : Nat) (x : GorX) : (s.setGor h i x).freeCtr = s.freeCtr := rfl
@[simp] theorem State.setGor_out (h i : Nat) (x : GorX) : (s.setGor h i x).out = s.out := rfl
@[simp] theorem State.setGor_regs (h i : Nat) (x : GorX) : (s.setGor h i x).regs = s.regs := rfl
@[simp] theorem State.setGor_dram (h i : Nat) (x : GorX) : (s.setGor h i x).dram = s.dram := rfl
@[simp] theorem State.setGor_sev (h i : Nat) (x : GorX) : (s.setGor h i x).sev = s.sev := rfl
@[simp] theorem State.setGor_lanes (h i : Nat) (x : GorX) : (s.setGor h i x).lanes = s.lanes := rfl
@[simp] theorem State.setGor_basins (h i : Nat) (x : GorX) : (s.setGor h i x).basins = s.basins := rfl
@[simp] theorem State.setGor_lbs (h i : Nat) (x : GorX) : (s.setGor h i x).lbs = s.lbs := rfl
@[simp] theorem State.setGor_flues (h i : Nat) (x : GorX) : (s.setGor h i x).flues = s.flues := rfl
@[simp] theorem State.setGor_flash (h i : Nat) (x : GorX) : (s.setGor h i x).flash = s.flash := rfl
@[simp] theorem State.setGor_flash2 (h i : Nat) (x : GorX) : (s.setGor h i x).flash2 = s.flash2 := rfl
@[simp] theorem State.setGor_crown (h i : Nat) (x : GorX) : (s.setGor h i x).crown = s.crown := rfl
@[simp] theorem State.setGor_fwQueue (h i : Nat) (x : GorX) : (s.setGor h i x).fwQueue = s.fwQueue := rfl
@[simp] theorem State.setGor_fwSevMin (h i : Nat) (x : GorX) : (s.setGor h i x).fwSevMin = s.fwSevMin := rfl
@[simp] theorem State.setGor_fwFamilies (h i : Nat) (x : GorX) : (s.setGor h i x).fwFamilies = s.fwFamilies := rfl
@[simp] theorem State.setGor_staged (h i : Nat) (x : GorX) : (s.setGor h i x).staged = s.staged := rfl
@[simp] theorem State.setGor_ters (h i : Nat) (x : GorX) : (s.setGor h i x).ters = s.ters := rfl
@[simp] theorem State.setGor_fbxs (h i : Nat) (x : GorX) : (s.setGor h i x).fbxs = s.fbxs := rfl
@[simp] theorem State.setGor_dmps (h i : Nat) (x : GorX) : (s.setGor h i x).dmps = s.dmps := rfl
@[simp] theorem State.setGor_drts (h i : Nat) (x : GorX) : (s.setGor h i x).drts = s.drts := rfl
@[simp] theorem State.setGor_grts (h i : Nat) (x : GorX) : (s.setGor h i x).grts = s.grts := rfl
@[simp] theorem State.setGor_ashMap (h i : Nat) (x : GorX) : (s.setGor h i x).ashMap = s.ashMap := rfl
@[simp] theorem State.setGor_gates (h i : Nat) (x : GorX) : (s.setGor h i x).gates = s.gates := rfl
@[simp] theorem State.setGor_twn (h i : Nat) (x : GorX) : (s.setGor h i x).twn = s.twn := rfl
@[simp] theorem State.setGor_axes (h i : Nat) (x : GorX) : (s.setGor h i x).axes = s.axes := rfl
@[simp] theorem State.setGor_quads (h i : Nat) (x : GorX) : (s.setGor h i x).quads = s.quads := rfl
@[simp] theorem State.setGor_halls (h i : Nat) (x : GorX) : (s.setGor h i x).halls = s.halls := rfl
@[simp] theorem State.setGor_ssis (h i : Nat) (x : GorX) : (s.setGor h i x).ssis = s.ssis := rfl
@[simp] theorem State.setGor_cams (h i : Nat) (x : GorX) : (s.setGor h i x).cams = s.cams := rfl
@[simp] theorem State.setGor_isps (h i : Nat) (x : GorX) : (s.setGor h i x).isps = s.isps := rfl
@[simp] theorem State.setGor_latches (h i : Nat) (x : GorX) : (s.setGor h i x).latches = s.latches := rfl
@[simp] theorem State.setGor_tim (h i : Nat) (x : GorX) : (s.setGor h i x).tim = s.tim := rfl
@[simp] theorem State.setGor_chms (h i : Nat) (x : GorX) : (s.setGor h i x).chms = s.chms := rfl
@[simp] theorem State.setGor_linksLost (h i : Nat) (x : GorX) : (s.setGor h i x).linksLost = s.linksLost := rfl
@[simp] theorem State.setGor_mode (h i : Nat) (x : GorX) : (s.setGor h i x).mode = s.mode := rfl
@[simp] theorem State.setGor_hostId (h i : Nat) (x : GorX) : (s.setGor h i x).hostId = s.hostId := rfl
@[simp] theorem State.setGor_attachDue (h i : Nat) (x : GorX) : (s.setGor h i x).attachDue = s.attachDue := rfl
@[simp] theorem State.setGor_up (h i : Nat) (x : GorX) : (s.setGor h i x).up = s.up := rfl
@[simp] theorem State.setGor_upSince (h i : Nat) (x : GorX) : (s.setGor h i x).upSince = s.upSince := rfl
@[simp] theorem State.setGor_posted (h i : Nat) (x : GorX) : (s.setGor h i x).posted = s.posted := rfl
@[simp] theorem State.setGor_portOpen (h i : Nat) (x : GorX) : (s.setGor h i x).portOpen = s.portOpen := rfl
@[simp] theorem State.setGor_mbxs (h i : Nat) (x : GorX) : (s.setGor h i x).mbxs = s.mbxs := rfl
@[simp] theorem State.setGor_dops (h i : Nat) (x : GorX) : (s.setGor h i x).dops = s.dops := rfl
@[simp] theorem State.setGor_paused (h i : Nat) (x : GorX) : (s.setGor h i x).paused = s.paused := rfl
@[simp] theorem State.setGor_i2cs (h i : Nat) (x : GorX) : (s.setGor h i x).i2cs = s.i2cs := rfl
@[simp] theorem State.setGor_arp (h i : Nat) (x : GorX) : (s.setGor h i x).arp = s.arp := rfl
@[simp] theorem State.setGor_arpHeld (h i : Nat) (x : GorX) : (s.setGor h i x).arpHeld = s.arpHeld := rfl
@[simp] theorem State.setGor_cals (h i : Nat) (x : GorX) : (s.setGor h i x).cals = s.cals := rfl
@[simp] theorem State.setGor_upd (h i : Nat) (x : GorX) : (s.setGor h i x).upd = s.upd := rfl
@[simp] theorem State.setGor_leadSel (h i : Nat) (x : GorX) : (s.setGor h i x).leadSel = s.leadSel := rfl
@[simp] theorem State.setGor_absent (h i : Nat) (x : GorX) : (s.setGor h i x).absent = s.absent := rfl
@[simp] theorem State.setGor_resetDue (h i : Nat) (x : GorX) : (s.setGor h i x).resetDue = s.resetDue := rfl
@[simp] theorem State.setGor_vauxLow (h i : Nat) (x : GorX) : (s.setGor h i x).vauxLow = s.vauxLow := rfl
@[simp] theorem State.setGor_alone (h i : Nat) (x : GorX) : (s.setGor h i x).alone = s.alone := rfl
@[simp] theorem State.setGor_geo (h i : Nat) (x : GorX) : (s.setGor h i x).geo = s.geo := rfl
@[simp] theorem State.setGor_geoRes (h i : Nat) (x : GorX) : (s.setGor h i x).geoRes = s.geoRes := rfl
@[simp] theorem State.setGor_boot (h i : Nat) (x : GorX) : (s.setGor h i x).boot = s.boot := rfl
@[simp] theorem State.setGor_tap (h i : Nat) (x : GorX) : (s.setGor h i x).tap = s.tap := rfl
@[simp] theorem State.setGor_junior (h i : Nat) (x : GorX) : (s.setGor h i x).junior = s.junior := rfl
@[simp] theorem State.setBas_pending (h : Nat) (x : BasX) : (s.setBas h x).pending = s.pending := rfl
@[simp] theorem State.setBas_part (h : Nat) (x : BasX) : (s.setBas h x).part = s.part := rfl
@[simp] theorem State.setBas_now (h : Nat) (x : BasX) : (s.setBas h x).now = s.now := rfl
@[simp] theorem State.setBas_freeCtr (h : Nat) (x : BasX) : (s.setBas h x).freeCtr = s.freeCtr := rfl
@[simp] theorem State.setBas_out (h : Nat) (x : BasX) : (s.setBas h x).out = s.out := rfl
@[simp] theorem State.setBas_regs (h : Nat) (x : BasX) : (s.setBas h x).regs = s.regs := rfl
@[simp] theorem State.setBas_dram (h : Nat) (x : BasX) : (s.setBas h x).dram = s.dram := rfl
@[simp] theorem State.setBas_sev (h : Nat) (x : BasX) : (s.setBas h x).sev = s.sev := rfl
@[simp] theorem State.setBas_lanes (h : Nat) (x : BasX) : (s.setBas h x).lanes = s.lanes := rfl
@[simp] theorem State.setBas_gors (h : Nat) (x : BasX) : (s.setBas h x).gors = s.gors := rfl
@[simp] theorem State.setBas_lbs (h : Nat) (x : BasX) : (s.setBas h x).lbs = s.lbs := rfl
@[simp] theorem State.setBas_flues (h : Nat) (x : BasX) : (s.setBas h x).flues = s.flues := rfl
@[simp] theorem State.setBas_flash (h : Nat) (x : BasX) : (s.setBas h x).flash = s.flash := rfl
@[simp] theorem State.setBas_flash2 (h : Nat) (x : BasX) : (s.setBas h x).flash2 = s.flash2 := rfl
@[simp] theorem State.setBas_crown (h : Nat) (x : BasX) : (s.setBas h x).crown = s.crown := rfl
@[simp] theorem State.setBas_fwQueue (h : Nat) (x : BasX) : (s.setBas h x).fwQueue = s.fwQueue := rfl
@[simp] theorem State.setBas_fwSevMin (h : Nat) (x : BasX) : (s.setBas h x).fwSevMin = s.fwSevMin := rfl
@[simp] theorem State.setBas_fwFamilies (h : Nat) (x : BasX) : (s.setBas h x).fwFamilies = s.fwFamilies := rfl
@[simp] theorem State.setBas_staged (h : Nat) (x : BasX) : (s.setBas h x).staged = s.staged := rfl
@[simp] theorem State.setBas_ters (h : Nat) (x : BasX) : (s.setBas h x).ters = s.ters := rfl
@[simp] theorem State.setBas_fbxs (h : Nat) (x : BasX) : (s.setBas h x).fbxs = s.fbxs := rfl
@[simp] theorem State.setBas_dmps (h : Nat) (x : BasX) : (s.setBas h x).dmps = s.dmps := rfl
@[simp] theorem State.setBas_drts (h : Nat) (x : BasX) : (s.setBas h x).drts = s.drts := rfl
@[simp] theorem State.setBas_grts (h : Nat) (x : BasX) : (s.setBas h x).grts = s.grts := rfl
@[simp] theorem State.setBas_ashMap (h : Nat) (x : BasX) : (s.setBas h x).ashMap = s.ashMap := rfl
@[simp] theorem State.setBas_gates (h : Nat) (x : BasX) : (s.setBas h x).gates = s.gates := rfl
@[simp] theorem State.setBas_twn (h : Nat) (x : BasX) : (s.setBas h x).twn = s.twn := rfl
@[simp] theorem State.setBas_axes (h : Nat) (x : BasX) : (s.setBas h x).axes = s.axes := rfl
@[simp] theorem State.setBas_quads (h : Nat) (x : BasX) : (s.setBas h x).quads = s.quads := rfl
@[simp] theorem State.setBas_halls (h : Nat) (x : BasX) : (s.setBas h x).halls = s.halls := rfl
@[simp] theorem State.setBas_ssis (h : Nat) (x : BasX) : (s.setBas h x).ssis = s.ssis := rfl
@[simp] theorem State.setBas_cams (h : Nat) (x : BasX) : (s.setBas h x).cams = s.cams := rfl
@[simp] theorem State.setBas_isps (h : Nat) (x : BasX) : (s.setBas h x).isps = s.isps := rfl
@[simp] theorem State.setBas_latches (h : Nat) (x : BasX) : (s.setBas h x).latches = s.latches := rfl
@[simp] theorem State.setBas_tim (h : Nat) (x : BasX) : (s.setBas h x).tim = s.tim := rfl
@[simp] theorem State.setBas_chms (h : Nat) (x : BasX) : (s.setBas h x).chms = s.chms := rfl
@[simp] theorem State.setBas_linksLost (h : Nat) (x : BasX) : (s.setBas h x).linksLost = s.linksLost := rfl
@[simp] theorem State.setBas_mode (h : Nat) (x : BasX) : (s.setBas h x).mode = s.mode := rfl
@[simp] theorem State.setBas_hostId (h : Nat) (x : BasX) : (s.setBas h x).hostId = s.hostId := rfl
@[simp] theorem State.setBas_attachDue (h : Nat) (x : BasX) : (s.setBas h x).attachDue = s.attachDue := rfl
@[simp] theorem State.setBas_up (h : Nat) (x : BasX) : (s.setBas h x).up = s.up := rfl
@[simp] theorem State.setBas_upSince (h : Nat) (x : BasX) : (s.setBas h x).upSince = s.upSince := rfl
@[simp] theorem State.setBas_posted (h : Nat) (x : BasX) : (s.setBas h x).posted = s.posted := rfl
@[simp] theorem State.setBas_portOpen (h : Nat) (x : BasX) : (s.setBas h x).portOpen = s.portOpen := rfl
@[simp] theorem State.setBas_mbxs (h : Nat) (x : BasX) : (s.setBas h x).mbxs = s.mbxs := rfl
@[simp] theorem State.setBas_dops (h : Nat) (x : BasX) : (s.setBas h x).dops = s.dops := rfl
@[simp] theorem State.setBas_paused (h : Nat) (x : BasX) : (s.setBas h x).paused = s.paused := rfl
@[simp] theorem State.setBas_i2cs (h : Nat) (x : BasX) : (s.setBas h x).i2cs = s.i2cs := rfl
@[simp] theorem State.setBas_arp (h : Nat) (x : BasX) : (s.setBas h x).arp = s.arp := rfl
@[simp] theorem State.setBas_arpHeld (h : Nat) (x : BasX) : (s.setBas h x).arpHeld = s.arpHeld := rfl
@[simp] theorem State.setBas_cals (h : Nat) (x : BasX) : (s.setBas h x).cals = s.cals := rfl
@[simp] theorem State.setBas_upd (h : Nat) (x : BasX) : (s.setBas h x).upd = s.upd := rfl
@[simp] theorem State.setBas_leadSel (h : Nat) (x : BasX) : (s.setBas h x).leadSel = s.leadSel := rfl
@[simp] theorem State.setBas_absent (h : Nat) (x : BasX) : (s.setBas h x).absent = s.absent := rfl
@[simp] theorem State.setBas_resetDue (h : Nat) (x : BasX) : (s.setBas h x).resetDue = s.resetDue := rfl
@[simp] theorem State.setBas_vauxLow (h : Nat) (x : BasX) : (s.setBas h x).vauxLow = s.vauxLow := rfl
@[simp] theorem State.setBas_alone (h : Nat) (x : BasX) : (s.setBas h x).alone = s.alone := rfl
@[simp] theorem State.setBas_geo (h : Nat) (x : BasX) : (s.setBas h x).geo = s.geo := rfl
@[simp] theorem State.setBas_geoRes (h : Nat) (x : BasX) : (s.setBas h x).geoRes = s.geoRes := rfl
@[simp] theorem State.setBas_boot (h : Nat) (x : BasX) : (s.setBas h x).boot = s.boot := rfl
@[simp] theorem State.setBas_tap (h : Nat) (x : BasX) : (s.setBas h x).tap = s.tap := rfl
@[simp] theorem State.setBas_junior (h : Nat) (x : BasX) : (s.setBas h x).junior = s.junior := rfl
@[simp] theorem State.setLbuf_pending (h k : Nat) (x : LBuf) : (s.setLbuf h k x).pending = s.pending := rfl
@[simp] theorem State.setLbuf_part (h k : Nat) (x : LBuf) : (s.setLbuf h k x).part = s.part := rfl
@[simp] theorem State.setLbuf_now (h k : Nat) (x : LBuf) : (s.setLbuf h k x).now = s.now := rfl
@[simp] theorem State.setLbuf_freeCtr (h k : Nat) (x : LBuf) : (s.setLbuf h k x).freeCtr = s.freeCtr := rfl
@[simp] theorem State.setLbuf_out (h k : Nat) (x : LBuf) : (s.setLbuf h k x).out = s.out := rfl
@[simp] theorem State.setLbuf_regs (h k : Nat) (x : LBuf) : (s.setLbuf h k x).regs = s.regs := rfl
@[simp] theorem State.setLbuf_dram (h k : Nat) (x : LBuf) : (s.setLbuf h k x).dram = s.dram := rfl
@[simp] theorem State.setLbuf_sev (h k : Nat) (x : LBuf) : (s.setLbuf h k x).sev = s.sev := rfl
@[simp] theorem State.setLbuf_lanes (h k : Nat) (x : LBuf) : (s.setLbuf h k x).lanes = s.lanes := rfl
@[simp] theorem State.setLbuf_gors (h k : Nat) (x : LBuf) : (s.setLbuf h k x).gors = s.gors := rfl
@[simp] theorem State.setLbuf_basins (h k : Nat) (x : LBuf) : (s.setLbuf h k x).basins = s.basins := rfl
@[simp] theorem State.setLbuf_flues (h k : Nat) (x : LBuf) : (s.setLbuf h k x).flues = s.flues := rfl
@[simp] theorem State.setLbuf_flash (h k : Nat) (x : LBuf) : (s.setLbuf h k x).flash = s.flash := rfl
@[simp] theorem State.setLbuf_flash2 (h k : Nat) (x : LBuf) : (s.setLbuf h k x).flash2 = s.flash2 := rfl
@[simp] theorem State.setLbuf_crown (h k : Nat) (x : LBuf) : (s.setLbuf h k x).crown = s.crown := rfl
@[simp] theorem State.setLbuf_fwQueue (h k : Nat) (x : LBuf) : (s.setLbuf h k x).fwQueue = s.fwQueue := rfl
@[simp] theorem State.setLbuf_fwSevMin (h k : Nat) (x : LBuf) : (s.setLbuf h k x).fwSevMin = s.fwSevMin := rfl
@[simp] theorem State.setLbuf_fwFamilies (h k : Nat) (x : LBuf) : (s.setLbuf h k x).fwFamilies = s.fwFamilies := rfl
@[simp] theorem State.setLbuf_staged (h k : Nat) (x : LBuf) : (s.setLbuf h k x).staged = s.staged := rfl
@[simp] theorem State.setLbuf_ters (h k : Nat) (x : LBuf) : (s.setLbuf h k x).ters = s.ters := rfl
@[simp] theorem State.setLbuf_fbxs (h k : Nat) (x : LBuf) : (s.setLbuf h k x).fbxs = s.fbxs := rfl
@[simp] theorem State.setLbuf_dmps (h k : Nat) (x : LBuf) : (s.setLbuf h k x).dmps = s.dmps := rfl
@[simp] theorem State.setLbuf_drts (h k : Nat) (x : LBuf) : (s.setLbuf h k x).drts = s.drts := rfl
@[simp] theorem State.setLbuf_grts (h k : Nat) (x : LBuf) : (s.setLbuf h k x).grts = s.grts := rfl
@[simp] theorem State.setLbuf_ashMap (h k : Nat) (x : LBuf) : (s.setLbuf h k x).ashMap = s.ashMap := rfl
@[simp] theorem State.setLbuf_gates (h k : Nat) (x : LBuf) : (s.setLbuf h k x).gates = s.gates := rfl
@[simp] theorem State.setLbuf_twn (h k : Nat) (x : LBuf) : (s.setLbuf h k x).twn = s.twn := rfl
@[simp] theorem State.setLbuf_axes (h k : Nat) (x : LBuf) : (s.setLbuf h k x).axes = s.axes := rfl
@[simp] theorem State.setLbuf_quads (h k : Nat) (x : LBuf) : (s.setLbuf h k x).quads = s.quads := rfl
@[simp] theorem State.setLbuf_halls (h k : Nat) (x : LBuf) : (s.setLbuf h k x).halls = s.halls := rfl
@[simp] theorem State.setLbuf_ssis (h k : Nat) (x : LBuf) : (s.setLbuf h k x).ssis = s.ssis := rfl
@[simp] theorem State.setLbuf_cams (h k : Nat) (x : LBuf) : (s.setLbuf h k x).cams = s.cams := rfl
@[simp] theorem State.setLbuf_isps (h k : Nat) (x : LBuf) : (s.setLbuf h k x).isps = s.isps := rfl
@[simp] theorem State.setLbuf_latches (h k : Nat) (x : LBuf) : (s.setLbuf h k x).latches = s.latches := rfl
@[simp] theorem State.setLbuf_tim (h k : Nat) (x : LBuf) : (s.setLbuf h k x).tim = s.tim := rfl
@[simp] theorem State.setLbuf_chms (h k : Nat) (x : LBuf) : (s.setLbuf h k x).chms = s.chms := rfl
@[simp] theorem State.setLbuf_linksLost (h k : Nat) (x : LBuf) : (s.setLbuf h k x).linksLost = s.linksLost := rfl
@[simp] theorem State.setLbuf_mode (h k : Nat) (x : LBuf) : (s.setLbuf h k x).mode = s.mode := rfl
@[simp] theorem State.setLbuf_hostId (h k : Nat) (x : LBuf) : (s.setLbuf h k x).hostId = s.hostId := rfl
@[simp] theorem State.setLbuf_attachDue (h k : Nat) (x : LBuf) : (s.setLbuf h k x).attachDue = s.attachDue := rfl
@[simp] theorem State.setLbuf_up (h k : Nat) (x : LBuf) : (s.setLbuf h k x).up = s.up := rfl
@[simp] theorem State.setLbuf_upSince (h k : Nat) (x : LBuf) : (s.setLbuf h k x).upSince = s.upSince := rfl
@[simp] theorem State.setLbuf_posted (h k : Nat) (x : LBuf) : (s.setLbuf h k x).posted = s.posted := rfl
@[simp] theorem State.setLbuf_portOpen (h k : Nat) (x : LBuf) : (s.setLbuf h k x).portOpen = s.portOpen := rfl
@[simp] theorem State.setLbuf_mbxs (h k : Nat) (x : LBuf) : (s.setLbuf h k x).mbxs = s.mbxs := rfl
@[simp] theorem State.setLbuf_dops (h k : Nat) (x : LBuf) : (s.setLbuf h k x).dops = s.dops := rfl
@[simp] theorem State.setLbuf_paused (h k : Nat) (x : LBuf) : (s.setLbuf h k x).paused = s.paused := rfl
@[simp] theorem State.setLbuf_i2cs (h k : Nat) (x : LBuf) : (s.setLbuf h k x).i2cs = s.i2cs := rfl
@[simp] theorem State.setLbuf_arp (h k : Nat) (x : LBuf) : (s.setLbuf h k x).arp = s.arp := rfl
@[simp] theorem State.setLbuf_arpHeld (h k : Nat) (x : LBuf) : (s.setLbuf h k x).arpHeld = s.arpHeld := rfl
@[simp] theorem State.setLbuf_cals (h k : Nat) (x : LBuf) : (s.setLbuf h k x).cals = s.cals := rfl
@[simp] theorem State.setLbuf_upd (h k : Nat) (x : LBuf) : (s.setLbuf h k x).upd = s.upd := rfl
@[simp] theorem State.setLbuf_leadSel (h k : Nat) (x : LBuf) : (s.setLbuf h k x).leadSel = s.leadSel := rfl
@[simp] theorem State.setLbuf_absent (h k : Nat) (x : LBuf) : (s.setLbuf h k x).absent = s.absent := rfl
@[simp] theorem State.setLbuf_resetDue (h k : Nat) (x : LBuf) : (s.setLbuf h k x).resetDue = s.resetDue := rfl
@[simp] theorem State.setLbuf_vauxLow (h k : Nat) (x : LBuf) : (s.setLbuf h k x).vauxLow = s.vauxLow := rfl
@[simp] theorem State.setLbuf_alone (h k : Nat) (x : LBuf) : (s.setLbuf h k x).alone = s.alone := rfl
@[simp] theorem State.setLbuf_geo (h k : Nat) (x : LBuf) : (s.setLbuf h k x).geo = s.geo := rfl
@[simp] theorem State.setLbuf_geoRes (h k : Nat) (x : LBuf) : (s.setLbuf h k x).geoRes = s.geoRes := rfl
@[simp] theorem State.setLbuf_boot (h k : Nat) (x : LBuf) : (s.setLbuf h k x).boot = s.boot := rfl
@[simp] theorem State.setLbuf_tap (h k : Nat) (x : LBuf) : (s.setLbuf h k x).tap = s.tap := rfl
@[simp] theorem State.setLbuf_junior (h k : Nat) (x : LBuf) : (s.setLbuf h k x).junior = s.junior := rfl
@[simp] theorem State.setFlue_pending (h q : Nat) (x : FlueX) : (s.setFlue h q x).pending = s.pending := rfl
@[simp] theorem State.setFlue_part (h q : Nat) (x : FlueX) : (s.setFlue h q x).part = s.part := rfl
@[simp] theorem State.setFlue_now (h q : Nat) (x : FlueX) : (s.setFlue h q x).now = s.now := rfl
@[simp] theorem State.setFlue_freeCtr (h q : Nat) (x : FlueX) : (s.setFlue h q x).freeCtr = s.freeCtr := rfl
@[simp] theorem State.setFlue_out (h q : Nat) (x : FlueX) : (s.setFlue h q x).out = s.out := rfl
@[simp] theorem State.setFlue_regs (h q : Nat) (x : FlueX) : (s.setFlue h q x).regs = s.regs := rfl
@[simp] theorem State.setFlue_dram (h q : Nat) (x : FlueX) : (s.setFlue h q x).dram = s.dram := rfl
@[simp] theorem State.setFlue_sev (h q : Nat) (x : FlueX) : (s.setFlue h q x).sev = s.sev := rfl
@[simp] theorem State.setFlue_lanes (h q : Nat) (x : FlueX) : (s.setFlue h q x).lanes = s.lanes := rfl
@[simp] theorem State.setFlue_gors (h q : Nat) (x : FlueX) : (s.setFlue h q x).gors = s.gors := rfl
@[simp] theorem State.setFlue_basins (h q : Nat) (x : FlueX) : (s.setFlue h q x).basins = s.basins := rfl
@[simp] theorem State.setFlue_lbs (h q : Nat) (x : FlueX) : (s.setFlue h q x).lbs = s.lbs := rfl
@[simp] theorem State.setFlue_flash (h q : Nat) (x : FlueX) : (s.setFlue h q x).flash = s.flash := rfl
@[simp] theorem State.setFlue_flash2 (h q : Nat) (x : FlueX) : (s.setFlue h q x).flash2 = s.flash2 := rfl
@[simp] theorem State.setFlue_crown (h q : Nat) (x : FlueX) : (s.setFlue h q x).crown = s.crown := rfl
@[simp] theorem State.setFlue_fwQueue (h q : Nat) (x : FlueX) : (s.setFlue h q x).fwQueue = s.fwQueue := rfl
@[simp] theorem State.setFlue_fwSevMin (h q : Nat) (x : FlueX) : (s.setFlue h q x).fwSevMin = s.fwSevMin := rfl
@[simp] theorem State.setFlue_fwFamilies (h q : Nat) (x : FlueX) : (s.setFlue h q x).fwFamilies = s.fwFamilies := rfl
@[simp] theorem State.setFlue_staged (h q : Nat) (x : FlueX) : (s.setFlue h q x).staged = s.staged := rfl
@[simp] theorem State.setFlue_ters (h q : Nat) (x : FlueX) : (s.setFlue h q x).ters = s.ters := rfl
@[simp] theorem State.setFlue_fbxs (h q : Nat) (x : FlueX) : (s.setFlue h q x).fbxs = s.fbxs := rfl
@[simp] theorem State.setFlue_dmps (h q : Nat) (x : FlueX) : (s.setFlue h q x).dmps = s.dmps := rfl
@[simp] theorem State.setFlue_drts (h q : Nat) (x : FlueX) : (s.setFlue h q x).drts = s.drts := rfl
@[simp] theorem State.setFlue_grts (h q : Nat) (x : FlueX) : (s.setFlue h q x).grts = s.grts := rfl
@[simp] theorem State.setFlue_ashMap (h q : Nat) (x : FlueX) : (s.setFlue h q x).ashMap = s.ashMap := rfl
@[simp] theorem State.setFlue_gates (h q : Nat) (x : FlueX) : (s.setFlue h q x).gates = s.gates := rfl
@[simp] theorem State.setFlue_twn (h q : Nat) (x : FlueX) : (s.setFlue h q x).twn = s.twn := rfl
@[simp] theorem State.setFlue_axes (h q : Nat) (x : FlueX) : (s.setFlue h q x).axes = s.axes := rfl
@[simp] theorem State.setFlue_quads (h q : Nat) (x : FlueX) : (s.setFlue h q x).quads = s.quads := rfl
@[simp] theorem State.setFlue_halls (h q : Nat) (x : FlueX) : (s.setFlue h q x).halls = s.halls := rfl
@[simp] theorem State.setFlue_ssis (h q : Nat) (x : FlueX) : (s.setFlue h q x).ssis = s.ssis := rfl
@[simp] theorem State.setFlue_cams (h q : Nat) (x : FlueX) : (s.setFlue h q x).cams = s.cams := rfl
@[simp] theorem State.setFlue_isps (h q : Nat) (x : FlueX) : (s.setFlue h q x).isps = s.isps := rfl
@[simp] theorem State.setFlue_latches (h q : Nat) (x : FlueX) : (s.setFlue h q x).latches = s.latches := rfl
@[simp] theorem State.setFlue_tim (h q : Nat) (x : FlueX) : (s.setFlue h q x).tim = s.tim := rfl
@[simp] theorem State.setFlue_chms (h q : Nat) (x : FlueX) : (s.setFlue h q x).chms = s.chms := rfl
@[simp] theorem State.setFlue_linksLost (h q : Nat) (x : FlueX) : (s.setFlue h q x).linksLost = s.linksLost := rfl
@[simp] theorem State.setFlue_mode (h q : Nat) (x : FlueX) : (s.setFlue h q x).mode = s.mode := rfl
@[simp] theorem State.setFlue_hostId (h q : Nat) (x : FlueX) : (s.setFlue h q x).hostId = s.hostId := rfl
@[simp] theorem State.setFlue_attachDue (h q : Nat) (x : FlueX) : (s.setFlue h q x).attachDue = s.attachDue := rfl
@[simp] theorem State.setFlue_up (h q : Nat) (x : FlueX) : (s.setFlue h q x).up = s.up := rfl
@[simp] theorem State.setFlue_upSince (h q : Nat) (x : FlueX) : (s.setFlue h q x).upSince = s.upSince := rfl
@[simp] theorem State.setFlue_posted (h q : Nat) (x : FlueX) : (s.setFlue h q x).posted = s.posted := rfl
@[simp] theorem State.setFlue_portOpen (h q : Nat) (x : FlueX) : (s.setFlue h q x).portOpen = s.portOpen := rfl
@[simp] theorem State.setFlue_mbxs (h q : Nat) (x : FlueX) : (s.setFlue h q x).mbxs = s.mbxs := rfl
@[simp] theorem State.setFlue_dops (h q : Nat) (x : FlueX) : (s.setFlue h q x).dops = s.dops := rfl
@[simp] theorem State.setFlue_paused (h q : Nat) (x : FlueX) : (s.setFlue h q x).paused = s.paused := rfl
@[simp] theorem State.setFlue_i2cs (h q : Nat) (x : FlueX) : (s.setFlue h q x).i2cs = s.i2cs := rfl
@[simp] theorem State.setFlue_arp (h q : Nat) (x : FlueX) : (s.setFlue h q x).arp = s.arp := rfl
@[simp] theorem State.setFlue_arpHeld (h q : Nat) (x : FlueX) : (s.setFlue h q x).arpHeld = s.arpHeld := rfl
@[simp] theorem State.setFlue_cals (h q : Nat) (x : FlueX) : (s.setFlue h q x).cals = s.cals := rfl
@[simp] theorem State.setFlue_upd (h q : Nat) (x : FlueX) : (s.setFlue h q x).upd = s.upd := rfl
@[simp] theorem State.setFlue_leadSel (h q : Nat) (x : FlueX) : (s.setFlue h q x).leadSel = s.leadSel := rfl
@[simp] theorem State.setFlue_absent (h q : Nat) (x : FlueX) : (s.setFlue h q x).absent = s.absent := rfl
@[simp] theorem State.setFlue_resetDue (h q : Nat) (x : FlueX) : (s.setFlue h q x).resetDue = s.resetDue := rfl
@[simp] theorem State.setFlue_vauxLow (h q : Nat) (x : FlueX) : (s.setFlue h q x).vauxLow = s.vauxLow := rfl
@[simp] theorem State.setFlue_alone (h q : Nat) (x : FlueX) : (s.setFlue h q x).alone = s.alone := rfl
@[simp] theorem State.setFlue_geo (h q : Nat) (x : FlueX) : (s.setFlue h q x).geo = s.geo := rfl
@[simp] theorem State.setFlue_geoRes (h q : Nat) (x : FlueX) : (s.setFlue h q x).geoRes = s.geoRes := rfl
@[simp] theorem State.setFlue_boot (h q : Nat) (x : FlueX) : (s.setFlue h q x).boot = s.boot := rfl
@[simp] theorem State.setFlue_tap (h q : Nat) (x : FlueX) : (s.setFlue h q x).tap = s.tap := rfl
@[simp] theorem State.setFlue_junior (h q : Nat) (x : FlueX) : (s.setFlue h q x).junior = s.junior := rfl
@[simp] theorem State.setTer_pending (h : Nat) (x : TerX) : (s.setTer h x).pending = s.pending := rfl
@[simp] theorem State.setTer_part (h : Nat) (x : TerX) : (s.setTer h x).part = s.part := rfl
@[simp] theorem State.setTer_now (h : Nat) (x : TerX) : (s.setTer h x).now = s.now := rfl
@[simp] theorem State.setTer_freeCtr (h : Nat) (x : TerX) : (s.setTer h x).freeCtr = s.freeCtr := rfl
@[simp] theorem State.setTer_out (h : Nat) (x : TerX) : (s.setTer h x).out = s.out := rfl
@[simp] theorem State.setTer_regs (h : Nat) (x : TerX) : (s.setTer h x).regs = s.regs := rfl
@[simp] theorem State.setTer_dram (h : Nat) (x : TerX) : (s.setTer h x).dram = s.dram := rfl
@[simp] theorem State.setTer_sev (h : Nat) (x : TerX) : (s.setTer h x).sev = s.sev := rfl
@[simp] theorem State.setTer_lanes (h : Nat) (x : TerX) : (s.setTer h x).lanes = s.lanes := rfl
@[simp] theorem State.setTer_gors (h : Nat) (x : TerX) : (s.setTer h x).gors = s.gors := rfl
@[simp] theorem State.setTer_basins (h : Nat) (x : TerX) : (s.setTer h x).basins = s.basins := rfl
@[simp] theorem State.setTer_lbs (h : Nat) (x : TerX) : (s.setTer h x).lbs = s.lbs := rfl
@[simp] theorem State.setTer_flues (h : Nat) (x : TerX) : (s.setTer h x).flues = s.flues := rfl
@[simp] theorem State.setTer_flash (h : Nat) (x : TerX) : (s.setTer h x).flash = s.flash := rfl
@[simp] theorem State.setTer_flash2 (h : Nat) (x : TerX) : (s.setTer h x).flash2 = s.flash2 := rfl
@[simp] theorem State.setTer_crown (h : Nat) (x : TerX) : (s.setTer h x).crown = s.crown := rfl
@[simp] theorem State.setTer_fwQueue (h : Nat) (x : TerX) : (s.setTer h x).fwQueue = s.fwQueue := rfl
@[simp] theorem State.setTer_fwSevMin (h : Nat) (x : TerX) : (s.setTer h x).fwSevMin = s.fwSevMin := rfl
@[simp] theorem State.setTer_fwFamilies (h : Nat) (x : TerX) : (s.setTer h x).fwFamilies = s.fwFamilies := rfl
@[simp] theorem State.setTer_staged (h : Nat) (x : TerX) : (s.setTer h x).staged = s.staged := rfl
@[simp] theorem State.setTer_fbxs (h : Nat) (x : TerX) : (s.setTer h x).fbxs = s.fbxs := rfl
@[simp] theorem State.setTer_dmps (h : Nat) (x : TerX) : (s.setTer h x).dmps = s.dmps := rfl
@[simp] theorem State.setTer_drts (h : Nat) (x : TerX) : (s.setTer h x).drts = s.drts := rfl
@[simp] theorem State.setTer_grts (h : Nat) (x : TerX) : (s.setTer h x).grts = s.grts := rfl
@[simp] theorem State.setTer_ashMap (h : Nat) (x : TerX) : (s.setTer h x).ashMap = s.ashMap := rfl
@[simp] theorem State.setTer_gates (h : Nat) (x : TerX) : (s.setTer h x).gates = s.gates := rfl
@[simp] theorem State.setTer_twn (h : Nat) (x : TerX) : (s.setTer h x).twn = s.twn := rfl
@[simp] theorem State.setTer_axes (h : Nat) (x : TerX) : (s.setTer h x).axes = s.axes := rfl
@[simp] theorem State.setTer_quads (h : Nat) (x : TerX) : (s.setTer h x).quads = s.quads := rfl
@[simp] theorem State.setTer_halls (h : Nat) (x : TerX) : (s.setTer h x).halls = s.halls := rfl
@[simp] theorem State.setTer_ssis (h : Nat) (x : TerX) : (s.setTer h x).ssis = s.ssis := rfl
@[simp] theorem State.setTer_cams (h : Nat) (x : TerX) : (s.setTer h x).cams = s.cams := rfl
@[simp] theorem State.setTer_isps (h : Nat) (x : TerX) : (s.setTer h x).isps = s.isps := rfl
@[simp] theorem State.setTer_latches (h : Nat) (x : TerX) : (s.setTer h x).latches = s.latches := rfl
@[simp] theorem State.setTer_tim (h : Nat) (x : TerX) : (s.setTer h x).tim = s.tim := rfl
@[simp] theorem State.setTer_chms (h : Nat) (x : TerX) : (s.setTer h x).chms = s.chms := rfl
@[simp] theorem State.setTer_linksLost (h : Nat) (x : TerX) : (s.setTer h x).linksLost = s.linksLost := rfl
@[simp] theorem State.setTer_mode (h : Nat) (x : TerX) : (s.setTer h x).mode = s.mode := rfl
@[simp] theorem State.setTer_hostId (h : Nat) (x : TerX) : (s.setTer h x).hostId = s.hostId := rfl
@[simp] theorem State.setTer_attachDue (h : Nat) (x : TerX) : (s.setTer h x).attachDue = s.attachDue := rfl
@[simp] theorem State.setTer_up (h : Nat) (x : TerX) : (s.setTer h x).up = s.up := rfl
@[simp] theorem State.setTer_upSince (h : Nat) (x : TerX) : (s.setTer h x).upSince = s.upSince := rfl
@[simp] theorem State.setTer_posted (h : Nat) (x : TerX) : (s.setTer h x).posted = s.posted := rfl
@[simp] theorem State.setTer_portOpen (h : Nat) (x : TerX) : (s.setTer h x).portOpen = s.portOpen := rfl
@[simp] theorem State.setTer_mbxs (h : Nat) (x : TerX) : (s.setTer h x).mbxs = s.mbxs := rfl
@[simp] theorem State.setTer_dops (h : Nat) (x : TerX) : (s.setTer h x).dops = s.dops := rfl
@[simp] theorem State.setTer_paused (h : Nat) (x : TerX) : (s.setTer h x).paused = s.paused := rfl
@[simp] theorem State.setTer_i2cs (h : Nat) (x : TerX) : (s.setTer h x).i2cs = s.i2cs := rfl
@[simp] theorem State.setTer_arp (h : Nat) (x : TerX) : (s.setTer h x).arp = s.arp := rfl
@[simp] theorem State.setTer_arpHeld (h : Nat) (x : TerX) : (s.setTer h x).arpHeld = s.arpHeld := rfl
@[simp] theorem State.setTer_cals (h : Nat) (x : TerX) : (s.setTer h x).cals = s.cals := rfl
@[simp] theorem State.setTer_upd (h : Nat) (x : TerX) : (s.setTer h x).upd = s.upd := rfl
@[simp] theorem State.setTer_leadSel (h : Nat) (x : TerX) : (s.setTer h x).leadSel = s.leadSel := rfl
@[simp] theorem State.setTer_absent (h : Nat) (x : TerX) : (s.setTer h x).absent = s.absent := rfl
@[simp] theorem State.setTer_resetDue (h : Nat) (x : TerX) : (s.setTer h x).resetDue = s.resetDue := rfl
@[simp] theorem State.setTer_vauxLow (h : Nat) (x : TerX) : (s.setTer h x).vauxLow = s.vauxLow := rfl
@[simp] theorem State.setTer_alone (h : Nat) (x : TerX) : (s.setTer h x).alone = s.alone := rfl
@[simp] theorem State.setTer_geo (h : Nat) (x : TerX) : (s.setTer h x).geo = s.geo := rfl
@[simp] theorem State.setTer_geoRes (h : Nat) (x : TerX) : (s.setTer h x).geoRes = s.geoRes := rfl
@[simp] theorem State.setTer_boot (h : Nat) (x : TerX) : (s.setTer h x).boot = s.boot := rfl
@[simp] theorem State.setTer_tap (h : Nat) (x : TerX) : (s.setTer h x).tap = s.tap := rfl
@[simp] theorem State.setTer_junior (h : Nat) (x : TerX) : (s.setTer h x).junior = s.junior := rfl
@[simp] theorem State.setFbx_pending (h p : Nat) (x : FbxX) : (s.setFbx h p x).pending = s.pending := rfl
@[simp] theorem State.setFbx_part (h p : Nat) (x : FbxX) : (s.setFbx h p x).part = s.part := rfl
@[simp] theorem State.setFbx_now (h p : Nat) (x : FbxX) : (s.setFbx h p x).now = s.now := rfl
@[simp] theorem State.setFbx_freeCtr (h p : Nat) (x : FbxX) : (s.setFbx h p x).freeCtr = s.freeCtr := rfl
@[simp] theorem State.setFbx_out (h p : Nat) (x : FbxX) : (s.setFbx h p x).out = s.out := rfl
@[simp] theorem State.setFbx_regs (h p : Nat) (x : FbxX) : (s.setFbx h p x).regs = s.regs := rfl
@[simp] theorem State.setFbx_dram (h p : Nat) (x : FbxX) : (s.setFbx h p x).dram = s.dram := rfl
@[simp] theorem State.setFbx_sev (h p : Nat) (x : FbxX) : (s.setFbx h p x).sev = s.sev := rfl
@[simp] theorem State.setFbx_lanes (h p : Nat) (x : FbxX) : (s.setFbx h p x).lanes = s.lanes := rfl
@[simp] theorem State.setFbx_gors (h p : Nat) (x : FbxX) : (s.setFbx h p x).gors = s.gors := rfl
@[simp] theorem State.setFbx_basins (h p : Nat) (x : FbxX) : (s.setFbx h p x).basins = s.basins := rfl
@[simp] theorem State.setFbx_lbs (h p : Nat) (x : FbxX) : (s.setFbx h p x).lbs = s.lbs := rfl
@[simp] theorem State.setFbx_flues (h p : Nat) (x : FbxX) : (s.setFbx h p x).flues = s.flues := rfl
@[simp] theorem State.setFbx_flash (h p : Nat) (x : FbxX) : (s.setFbx h p x).flash = s.flash := rfl
@[simp] theorem State.setFbx_flash2 (h p : Nat) (x : FbxX) : (s.setFbx h p x).flash2 = s.flash2 := rfl
@[simp] theorem State.setFbx_crown (h p : Nat) (x : FbxX) : (s.setFbx h p x).crown = s.crown := rfl
@[simp] theorem State.setFbx_fwQueue (h p : Nat) (x : FbxX) : (s.setFbx h p x).fwQueue = s.fwQueue := rfl
@[simp] theorem State.setFbx_fwSevMin (h p : Nat) (x : FbxX) : (s.setFbx h p x).fwSevMin = s.fwSevMin := rfl
@[simp] theorem State.setFbx_fwFamilies (h p : Nat) (x : FbxX) : (s.setFbx h p x).fwFamilies = s.fwFamilies := rfl
@[simp] theorem State.setFbx_staged (h p : Nat) (x : FbxX) : (s.setFbx h p x).staged = s.staged := rfl
@[simp] theorem State.setFbx_ters (h p : Nat) (x : FbxX) : (s.setFbx h p x).ters = s.ters := rfl
@[simp] theorem State.setFbx_dmps (h p : Nat) (x : FbxX) : (s.setFbx h p x).dmps = s.dmps := rfl
@[simp] theorem State.setFbx_drts (h p : Nat) (x : FbxX) : (s.setFbx h p x).drts = s.drts := rfl
@[simp] theorem State.setFbx_grts (h p : Nat) (x : FbxX) : (s.setFbx h p x).grts = s.grts := rfl
@[simp] theorem State.setFbx_ashMap (h p : Nat) (x : FbxX) : (s.setFbx h p x).ashMap = s.ashMap := rfl
@[simp] theorem State.setFbx_gates (h p : Nat) (x : FbxX) : (s.setFbx h p x).gates = s.gates := rfl
@[simp] theorem State.setFbx_twn (h p : Nat) (x : FbxX) : (s.setFbx h p x).twn = s.twn := rfl
@[simp] theorem State.setFbx_axes (h p : Nat) (x : FbxX) : (s.setFbx h p x).axes = s.axes := rfl
@[simp] theorem State.setFbx_quads (h p : Nat) (x : FbxX) : (s.setFbx h p x).quads = s.quads := rfl
@[simp] theorem State.setFbx_halls (h p : Nat) (x : FbxX) : (s.setFbx h p x).halls = s.halls := rfl
@[simp] theorem State.setFbx_ssis (h p : Nat) (x : FbxX) : (s.setFbx h p x).ssis = s.ssis := rfl
@[simp] theorem State.setFbx_cams (h p : Nat) (x : FbxX) : (s.setFbx h p x).cams = s.cams := rfl
@[simp] theorem State.setFbx_isps (h p : Nat) (x : FbxX) : (s.setFbx h p x).isps = s.isps := rfl
@[simp] theorem State.setFbx_latches (h p : Nat) (x : FbxX) : (s.setFbx h p x).latches = s.latches := rfl
@[simp] theorem State.setFbx_tim (h p : Nat) (x : FbxX) : (s.setFbx h p x).tim = s.tim := rfl
@[simp] theorem State.setFbx_chms (h p : Nat) (x : FbxX) : (s.setFbx h p x).chms = s.chms := rfl
@[simp] theorem State.setFbx_linksLost (h p : Nat) (x : FbxX) : (s.setFbx h p x).linksLost = s.linksLost := rfl
@[simp] theorem State.setFbx_mode (h p : Nat) (x : FbxX) : (s.setFbx h p x).mode = s.mode := rfl
@[simp] theorem State.setFbx_hostId (h p : Nat) (x : FbxX) : (s.setFbx h p x).hostId = s.hostId := rfl
@[simp] theorem State.setFbx_attachDue (h p : Nat) (x : FbxX) : (s.setFbx h p x).attachDue = s.attachDue := rfl
@[simp] theorem State.setFbx_up (h p : Nat) (x : FbxX) : (s.setFbx h p x).up = s.up := rfl
@[simp] theorem State.setFbx_upSince (h p : Nat) (x : FbxX) : (s.setFbx h p x).upSince = s.upSince := rfl
@[simp] theorem State.setFbx_posted (h p : Nat) (x : FbxX) : (s.setFbx h p x).posted = s.posted := rfl
@[simp] theorem State.setFbx_portOpen (h p : Nat) (x : FbxX) : (s.setFbx h p x).portOpen = s.portOpen := rfl
@[simp] theorem State.setFbx_mbxs (h p : Nat) (x : FbxX) : (s.setFbx h p x).mbxs = s.mbxs := rfl
@[simp] theorem State.setFbx_dops (h p : Nat) (x : FbxX) : (s.setFbx h p x).dops = s.dops := rfl
@[simp] theorem State.setFbx_paused (h p : Nat) (x : FbxX) : (s.setFbx h p x).paused = s.paused := rfl
@[simp] theorem State.setFbx_i2cs (h p : Nat) (x : FbxX) : (s.setFbx h p x).i2cs = s.i2cs := rfl
@[simp] theorem State.setFbx_arp (h p : Nat) (x : FbxX) : (s.setFbx h p x).arp = s.arp := rfl
@[simp] theorem State.setFbx_arpHeld (h p : Nat) (x : FbxX) : (s.setFbx h p x).arpHeld = s.arpHeld := rfl
@[simp] theorem State.setFbx_cals (h p : Nat) (x : FbxX) : (s.setFbx h p x).cals = s.cals := rfl
@[simp] theorem State.setFbx_upd (h p : Nat) (x : FbxX) : (s.setFbx h p x).upd = s.upd := rfl
@[simp] theorem State.setFbx_leadSel (h p : Nat) (x : FbxX) : (s.setFbx h p x).leadSel = s.leadSel := rfl
@[simp] theorem State.setFbx_absent (h p : Nat) (x : FbxX) : (s.setFbx h p x).absent = s.absent := rfl
@[simp] theorem State.setFbx_resetDue (h p : Nat) (x : FbxX) : (s.setFbx h p x).resetDue = s.resetDue := rfl
@[simp] theorem State.setFbx_vauxLow (h p : Nat) (x : FbxX) : (s.setFbx h p x).vauxLow = s.vauxLow := rfl
@[simp] theorem State.setFbx_alone (h p : Nat) (x : FbxX) : (s.setFbx h p x).alone = s.alone := rfl
@[simp] theorem State.setFbx_geo (h p : Nat) (x : FbxX) : (s.setFbx h p x).geo = s.geo := rfl
@[simp] theorem State.setFbx_geoRes (h p : Nat) (x : FbxX) : (s.setFbx h p x).geoRes = s.geoRes := rfl
@[simp] theorem State.setFbx_boot (h p : Nat) (x : FbxX) : (s.setFbx h p x).boot = s.boot := rfl
@[simp] theorem State.setFbx_tap (h p : Nat) (x : FbxX) : (s.setFbx h p x).tap = s.tap := rfl
@[simp] theorem State.setFbx_junior (h p : Nat) (x : FbxX) : (s.setFbx h p x).junior = s.junior := rfl
@[simp] theorem State.setDmp_pending (h : Nat) (x : DmpX) : (s.setDmp h x).pending = s.pending := rfl
@[simp] theorem State.setDmp_part (h : Nat) (x : DmpX) : (s.setDmp h x).part = s.part := rfl
@[simp] theorem State.setDmp_now (h : Nat) (x : DmpX) : (s.setDmp h x).now = s.now := rfl
@[simp] theorem State.setDmp_freeCtr (h : Nat) (x : DmpX) : (s.setDmp h x).freeCtr = s.freeCtr := rfl
@[simp] theorem State.setDmp_out (h : Nat) (x : DmpX) : (s.setDmp h x).out = s.out := rfl
@[simp] theorem State.setDmp_regs (h : Nat) (x : DmpX) : (s.setDmp h x).regs = s.regs := rfl
@[simp] theorem State.setDmp_dram (h : Nat) (x : DmpX) : (s.setDmp h x).dram = s.dram := rfl
@[simp] theorem State.setDmp_sev (h : Nat) (x : DmpX) : (s.setDmp h x).sev = s.sev := rfl
@[simp] theorem State.setDmp_lanes (h : Nat) (x : DmpX) : (s.setDmp h x).lanes = s.lanes := rfl
@[simp] theorem State.setDmp_gors (h : Nat) (x : DmpX) : (s.setDmp h x).gors = s.gors := rfl
@[simp] theorem State.setDmp_basins (h : Nat) (x : DmpX) : (s.setDmp h x).basins = s.basins := rfl
@[simp] theorem State.setDmp_lbs (h : Nat) (x : DmpX) : (s.setDmp h x).lbs = s.lbs := rfl
@[simp] theorem State.setDmp_flues (h : Nat) (x : DmpX) : (s.setDmp h x).flues = s.flues := rfl
@[simp] theorem State.setDmp_flash (h : Nat) (x : DmpX) : (s.setDmp h x).flash = s.flash := rfl
@[simp] theorem State.setDmp_flash2 (h : Nat) (x : DmpX) : (s.setDmp h x).flash2 = s.flash2 := rfl
@[simp] theorem State.setDmp_crown (h : Nat) (x : DmpX) : (s.setDmp h x).crown = s.crown := rfl
@[simp] theorem State.setDmp_fwQueue (h : Nat) (x : DmpX) : (s.setDmp h x).fwQueue = s.fwQueue := rfl
@[simp] theorem State.setDmp_fwSevMin (h : Nat) (x : DmpX) : (s.setDmp h x).fwSevMin = s.fwSevMin := rfl
@[simp] theorem State.setDmp_fwFamilies (h : Nat) (x : DmpX) : (s.setDmp h x).fwFamilies = s.fwFamilies := rfl
@[simp] theorem State.setDmp_staged (h : Nat) (x : DmpX) : (s.setDmp h x).staged = s.staged := rfl
@[simp] theorem State.setDmp_ters (h : Nat) (x : DmpX) : (s.setDmp h x).ters = s.ters := rfl
@[simp] theorem State.setDmp_fbxs (h : Nat) (x : DmpX) : (s.setDmp h x).fbxs = s.fbxs := rfl
@[simp] theorem State.setDmp_drts (h : Nat) (x : DmpX) : (s.setDmp h x).drts = s.drts := rfl
@[simp] theorem State.setDmp_grts (h : Nat) (x : DmpX) : (s.setDmp h x).grts = s.grts := rfl
@[simp] theorem State.setDmp_ashMap (h : Nat) (x : DmpX) : (s.setDmp h x).ashMap = s.ashMap := rfl
@[simp] theorem State.setDmp_gates (h : Nat) (x : DmpX) : (s.setDmp h x).gates = s.gates := rfl
@[simp] theorem State.setDmp_twn (h : Nat) (x : DmpX) : (s.setDmp h x).twn = s.twn := rfl
@[simp] theorem State.setDmp_axes (h : Nat) (x : DmpX) : (s.setDmp h x).axes = s.axes := rfl
@[simp] theorem State.setDmp_quads (h : Nat) (x : DmpX) : (s.setDmp h x).quads = s.quads := rfl
@[simp] theorem State.setDmp_halls (h : Nat) (x : DmpX) : (s.setDmp h x).halls = s.halls := rfl
@[simp] theorem State.setDmp_ssis (h : Nat) (x : DmpX) : (s.setDmp h x).ssis = s.ssis := rfl
@[simp] theorem State.setDmp_cams (h : Nat) (x : DmpX) : (s.setDmp h x).cams = s.cams := rfl
@[simp] theorem State.setDmp_isps (h : Nat) (x : DmpX) : (s.setDmp h x).isps = s.isps := rfl
@[simp] theorem State.setDmp_latches (h : Nat) (x : DmpX) : (s.setDmp h x).latches = s.latches := rfl
@[simp] theorem State.setDmp_tim (h : Nat) (x : DmpX) : (s.setDmp h x).tim = s.tim := rfl
@[simp] theorem State.setDmp_chms (h : Nat) (x : DmpX) : (s.setDmp h x).chms = s.chms := rfl
@[simp] theorem State.setDmp_linksLost (h : Nat) (x : DmpX) : (s.setDmp h x).linksLost = s.linksLost := rfl
@[simp] theorem State.setDmp_mode (h : Nat) (x : DmpX) : (s.setDmp h x).mode = s.mode := rfl
@[simp] theorem State.setDmp_hostId (h : Nat) (x : DmpX) : (s.setDmp h x).hostId = s.hostId := rfl
@[simp] theorem State.setDmp_attachDue (h : Nat) (x : DmpX) : (s.setDmp h x).attachDue = s.attachDue := rfl
@[simp] theorem State.setDmp_up (h : Nat) (x : DmpX) : (s.setDmp h x).up = s.up := rfl
@[simp] theorem State.setDmp_upSince (h : Nat) (x : DmpX) : (s.setDmp h x).upSince = s.upSince := rfl
@[simp] theorem State.setDmp_posted (h : Nat) (x : DmpX) : (s.setDmp h x).posted = s.posted := rfl
@[simp] theorem State.setDmp_portOpen (h : Nat) (x : DmpX) : (s.setDmp h x).portOpen = s.portOpen := rfl
@[simp] theorem State.setDmp_mbxs (h : Nat) (x : DmpX) : (s.setDmp h x).mbxs = s.mbxs := rfl
@[simp] theorem State.setDmp_dops (h : Nat) (x : DmpX) : (s.setDmp h x).dops = s.dops := rfl
@[simp] theorem State.setDmp_paused (h : Nat) (x : DmpX) : (s.setDmp h x).paused = s.paused := rfl
@[simp] theorem State.setDmp_i2cs (h : Nat) (x : DmpX) : (s.setDmp h x).i2cs = s.i2cs := rfl
@[simp] theorem State.setDmp_arp (h : Nat) (x : DmpX) : (s.setDmp h x).arp = s.arp := rfl
@[simp] theorem State.setDmp_arpHeld (h : Nat) (x : DmpX) : (s.setDmp h x).arpHeld = s.arpHeld := rfl
@[simp] theorem State.setDmp_cals (h : Nat) (x : DmpX) : (s.setDmp h x).cals = s.cals := rfl
@[simp] theorem State.setDmp_upd (h : Nat) (x : DmpX) : (s.setDmp h x).upd = s.upd := rfl
@[simp] theorem State.setDmp_leadSel (h : Nat) (x : DmpX) : (s.setDmp h x).leadSel = s.leadSel := rfl
@[simp] theorem State.setDmp_absent (h : Nat) (x : DmpX) : (s.setDmp h x).absent = s.absent := rfl
@[simp] theorem State.setDmp_resetDue (h : Nat) (x : DmpX) : (s.setDmp h x).resetDue = s.resetDue := rfl
@[simp] theorem State.setDmp_vauxLow (h : Nat) (x : DmpX) : (s.setDmp h x).vauxLow = s.vauxLow := rfl
@[simp] theorem State.setDmp_alone (h : Nat) (x : DmpX) : (s.setDmp h x).alone = s.alone := rfl
@[simp] theorem State.setDmp_geo (h : Nat) (x : DmpX) : (s.setDmp h x).geo = s.geo := rfl
@[simp] theorem State.setDmp_geoRes (h : Nat) (x : DmpX) : (s.setDmp h x).geoRes = s.geoRes := rfl
@[simp] theorem State.setDmp_boot (h : Nat) (x : DmpX) : (s.setDmp h x).boot = s.boot := rfl
@[simp] theorem State.setDmp_tap (h : Nat) (x : DmpX) : (s.setDmp h x).tap = s.tap := rfl
@[simp] theorem State.setDmp_junior (h : Nat) (x : DmpX) : (s.setDmp h x).junior = s.junior := rfl
@[simp] theorem State.setDrt_pending (h : Nat) (x : DrtX) : (s.setDrt h x).pending = s.pending := rfl
@[simp] theorem State.setDrt_part (h : Nat) (x : DrtX) : (s.setDrt h x).part = s.part := rfl
@[simp] theorem State.setDrt_now (h : Nat) (x : DrtX) : (s.setDrt h x).now = s.now := rfl
@[simp] theorem State.setDrt_freeCtr (h : Nat) (x : DrtX) : (s.setDrt h x).freeCtr = s.freeCtr := rfl
@[simp] theorem State.setDrt_out (h : Nat) (x : DrtX) : (s.setDrt h x).out = s.out := rfl
@[simp] theorem State.setDrt_regs (h : Nat) (x : DrtX) : (s.setDrt h x).regs = s.regs := rfl
@[simp] theorem State.setDrt_dram (h : Nat) (x : DrtX) : (s.setDrt h x).dram = s.dram := rfl
@[simp] theorem State.setDrt_sev (h : Nat) (x : DrtX) : (s.setDrt h x).sev = s.sev := rfl
@[simp] theorem State.setDrt_lanes (h : Nat) (x : DrtX) : (s.setDrt h x).lanes = s.lanes := rfl
@[simp] theorem State.setDrt_gors (h : Nat) (x : DrtX) : (s.setDrt h x).gors = s.gors := rfl
@[simp] theorem State.setDrt_basins (h : Nat) (x : DrtX) : (s.setDrt h x).basins = s.basins := rfl
@[simp] theorem State.setDrt_lbs (h : Nat) (x : DrtX) : (s.setDrt h x).lbs = s.lbs := rfl
@[simp] theorem State.setDrt_flues (h : Nat) (x : DrtX) : (s.setDrt h x).flues = s.flues := rfl
@[simp] theorem State.setDrt_flash (h : Nat) (x : DrtX) : (s.setDrt h x).flash = s.flash := rfl
@[simp] theorem State.setDrt_flash2 (h : Nat) (x : DrtX) : (s.setDrt h x).flash2 = s.flash2 := rfl
@[simp] theorem State.setDrt_crown (h : Nat) (x : DrtX) : (s.setDrt h x).crown = s.crown := rfl
@[simp] theorem State.setDrt_fwQueue (h : Nat) (x : DrtX) : (s.setDrt h x).fwQueue = s.fwQueue := rfl
@[simp] theorem State.setDrt_fwSevMin (h : Nat) (x : DrtX) : (s.setDrt h x).fwSevMin = s.fwSevMin := rfl
@[simp] theorem State.setDrt_fwFamilies (h : Nat) (x : DrtX) : (s.setDrt h x).fwFamilies = s.fwFamilies := rfl
@[simp] theorem State.setDrt_staged (h : Nat) (x : DrtX) : (s.setDrt h x).staged = s.staged := rfl
@[simp] theorem State.setDrt_ters (h : Nat) (x : DrtX) : (s.setDrt h x).ters = s.ters := rfl
@[simp] theorem State.setDrt_fbxs (h : Nat) (x : DrtX) : (s.setDrt h x).fbxs = s.fbxs := rfl
@[simp] theorem State.setDrt_dmps (h : Nat) (x : DrtX) : (s.setDrt h x).dmps = s.dmps := rfl
@[simp] theorem State.setDrt_grts (h : Nat) (x : DrtX) : (s.setDrt h x).grts = s.grts := rfl
@[simp] theorem State.setDrt_ashMap (h : Nat) (x : DrtX) : (s.setDrt h x).ashMap = s.ashMap := rfl
@[simp] theorem State.setDrt_gates (h : Nat) (x : DrtX) : (s.setDrt h x).gates = s.gates := rfl
@[simp] theorem State.setDrt_twn (h : Nat) (x : DrtX) : (s.setDrt h x).twn = s.twn := rfl
@[simp] theorem State.setDrt_axes (h : Nat) (x : DrtX) : (s.setDrt h x).axes = s.axes := rfl
@[simp] theorem State.setDrt_quads (h : Nat) (x : DrtX) : (s.setDrt h x).quads = s.quads := rfl
@[simp] theorem State.setDrt_halls (h : Nat) (x : DrtX) : (s.setDrt h x).halls = s.halls := rfl
@[simp] theorem State.setDrt_ssis (h : Nat) (x : DrtX) : (s.setDrt h x).ssis = s.ssis := rfl
@[simp] theorem State.setDrt_cams (h : Nat) (x : DrtX) : (s.setDrt h x).cams = s.cams := rfl
@[simp] theorem State.setDrt_isps (h : Nat) (x : DrtX) : (s.setDrt h x).isps = s.isps := rfl
@[simp] theorem State.setDrt_latches (h : Nat) (x : DrtX) : (s.setDrt h x).latches = s.latches := rfl
@[simp] theorem State.setDrt_tim (h : Nat) (x : DrtX) : (s.setDrt h x).tim = s.tim := rfl
@[simp] theorem State.setDrt_chms (h : Nat) (x : DrtX) : (s.setDrt h x).chms = s.chms := rfl
@[simp] theorem State.setDrt_linksLost (h : Nat) (x : DrtX) : (s.setDrt h x).linksLost = s.linksLost := rfl
@[simp] theorem State.setDrt_mode (h : Nat) (x : DrtX) : (s.setDrt h x).mode = s.mode := rfl
@[simp] theorem State.setDrt_hostId (h : Nat) (x : DrtX) : (s.setDrt h x).hostId = s.hostId := rfl
@[simp] theorem State.setDrt_attachDue (h : Nat) (x : DrtX) : (s.setDrt h x).attachDue = s.attachDue := rfl
@[simp] theorem State.setDrt_up (h : Nat) (x : DrtX) : (s.setDrt h x).up = s.up := rfl
@[simp] theorem State.setDrt_upSince (h : Nat) (x : DrtX) : (s.setDrt h x).upSince = s.upSince := rfl
@[simp] theorem State.setDrt_posted (h : Nat) (x : DrtX) : (s.setDrt h x).posted = s.posted := rfl
@[simp] theorem State.setDrt_portOpen (h : Nat) (x : DrtX) : (s.setDrt h x).portOpen = s.portOpen := rfl
@[simp] theorem State.setDrt_mbxs (h : Nat) (x : DrtX) : (s.setDrt h x).mbxs = s.mbxs := rfl
@[simp] theorem State.setDrt_dops (h : Nat) (x : DrtX) : (s.setDrt h x).dops = s.dops := rfl
@[simp] theorem State.setDrt_paused (h : Nat) (x : DrtX) : (s.setDrt h x).paused = s.paused := rfl
@[simp] theorem State.setDrt_i2cs (h : Nat) (x : DrtX) : (s.setDrt h x).i2cs = s.i2cs := rfl
@[simp] theorem State.setDrt_arp (h : Nat) (x : DrtX) : (s.setDrt h x).arp = s.arp := rfl
@[simp] theorem State.setDrt_arpHeld (h : Nat) (x : DrtX) : (s.setDrt h x).arpHeld = s.arpHeld := rfl
@[simp] theorem State.setDrt_cals (h : Nat) (x : DrtX) : (s.setDrt h x).cals = s.cals := rfl
@[simp] theorem State.setDrt_upd (h : Nat) (x : DrtX) : (s.setDrt h x).upd = s.upd := rfl
@[simp] theorem State.setDrt_leadSel (h : Nat) (x : DrtX) : (s.setDrt h x).leadSel = s.leadSel := rfl
@[simp] theorem State.setDrt_absent (h : Nat) (x : DrtX) : (s.setDrt h x).absent = s.absent := rfl
@[simp] theorem State.setDrt_resetDue (h : Nat) (x : DrtX) : (s.setDrt h x).resetDue = s.resetDue := rfl
@[simp] theorem State.setDrt_vauxLow (h : Nat) (x : DrtX) : (s.setDrt h x).vauxLow = s.vauxLow := rfl
@[simp] theorem State.setDrt_alone (h : Nat) (x : DrtX) : (s.setDrt h x).alone = s.alone := rfl
@[simp] theorem State.setDrt_geo (h : Nat) (x : DrtX) : (s.setDrt h x).geo = s.geo := rfl
@[simp] theorem State.setDrt_geoRes (h : Nat) (x : DrtX) : (s.setDrt h x).geoRes = s.geoRes := rfl
@[simp] theorem State.setDrt_boot (h : Nat) (x : DrtX) : (s.setDrt h x).boot = s.boot := rfl
@[simp] theorem State.setDrt_tap (h : Nat) (x : DrtX) : (s.setDrt h x).tap = s.tap := rfl
@[simp] theorem State.setDrt_junior (h : Nat) (x : DrtX) : (s.setDrt h x).junior = s.junior := rfl
@[simp] theorem State.setAxis_pending (a : Nat) (x : AxX) : (s.setAxis a x).pending = s.pending := rfl
@[simp] theorem State.setAxis_part (a : Nat) (x : AxX) : (s.setAxis a x).part = s.part := rfl
@[simp] theorem State.setAxis_now (a : Nat) (x : AxX) : (s.setAxis a x).now = s.now := rfl
@[simp] theorem State.setAxis_freeCtr (a : Nat) (x : AxX) : (s.setAxis a x).freeCtr = s.freeCtr := rfl
@[simp] theorem State.setAxis_out (a : Nat) (x : AxX) : (s.setAxis a x).out = s.out := rfl
@[simp] theorem State.setAxis_regs (a : Nat) (x : AxX) : (s.setAxis a x).regs = s.regs := rfl
@[simp] theorem State.setAxis_dram (a : Nat) (x : AxX) : (s.setAxis a x).dram = s.dram := rfl
@[simp] theorem State.setAxis_sev (a : Nat) (x : AxX) : (s.setAxis a x).sev = s.sev := rfl
@[simp] theorem State.setAxis_lanes (a : Nat) (x : AxX) : (s.setAxis a x).lanes = s.lanes := rfl
@[simp] theorem State.setAxis_gors (a : Nat) (x : AxX) : (s.setAxis a x).gors = s.gors := rfl
@[simp] theorem State.setAxis_basins (a : Nat) (x : AxX) : (s.setAxis a x).basins = s.basins := rfl
@[simp] theorem State.setAxis_lbs (a : Nat) (x : AxX) : (s.setAxis a x).lbs = s.lbs := rfl
@[simp] theorem State.setAxis_flues (a : Nat) (x : AxX) : (s.setAxis a x).flues = s.flues := rfl
@[simp] theorem State.setAxis_flash (a : Nat) (x : AxX) : (s.setAxis a x).flash = s.flash := rfl
@[simp] theorem State.setAxis_flash2 (a : Nat) (x : AxX) : (s.setAxis a x).flash2 = s.flash2 := rfl
@[simp] theorem State.setAxis_crown (a : Nat) (x : AxX) : (s.setAxis a x).crown = s.crown := rfl
@[simp] theorem State.setAxis_fwQueue (a : Nat) (x : AxX) : (s.setAxis a x).fwQueue = s.fwQueue := rfl
@[simp] theorem State.setAxis_fwSevMin (a : Nat) (x : AxX) : (s.setAxis a x).fwSevMin = s.fwSevMin := rfl
@[simp] theorem State.setAxis_fwFamilies (a : Nat) (x : AxX) : (s.setAxis a x).fwFamilies = s.fwFamilies := rfl
@[simp] theorem State.setAxis_staged (a : Nat) (x : AxX) : (s.setAxis a x).staged = s.staged := rfl
@[simp] theorem State.setAxis_ters (a : Nat) (x : AxX) : (s.setAxis a x).ters = s.ters := rfl
@[simp] theorem State.setAxis_fbxs (a : Nat) (x : AxX) : (s.setAxis a x).fbxs = s.fbxs := rfl
@[simp] theorem State.setAxis_dmps (a : Nat) (x : AxX) : (s.setAxis a x).dmps = s.dmps := rfl
@[simp] theorem State.setAxis_drts (a : Nat) (x : AxX) : (s.setAxis a x).drts = s.drts := rfl
@[simp] theorem State.setAxis_grts (a : Nat) (x : AxX) : (s.setAxis a x).grts = s.grts := rfl
@[simp] theorem State.setAxis_ashMap (a : Nat) (x : AxX) : (s.setAxis a x).ashMap = s.ashMap := rfl
@[simp] theorem State.setAxis_gates (a : Nat) (x : AxX) : (s.setAxis a x).gates = s.gates := rfl
@[simp] theorem State.setAxis_twn (a : Nat) (x : AxX) : (s.setAxis a x).twn = s.twn := rfl
@[simp] theorem State.setAxis_quads (a : Nat) (x : AxX) : (s.setAxis a x).quads = s.quads := rfl
@[simp] theorem State.setAxis_halls (a : Nat) (x : AxX) : (s.setAxis a x).halls = s.halls := rfl
@[simp] theorem State.setAxis_ssis (a : Nat) (x : AxX) : (s.setAxis a x).ssis = s.ssis := rfl
@[simp] theorem State.setAxis_cams (a : Nat) (x : AxX) : (s.setAxis a x).cams = s.cams := rfl
@[simp] theorem State.setAxis_isps (a : Nat) (x : AxX) : (s.setAxis a x).isps = s.isps := rfl
@[simp] theorem State.setAxis_latches (a : Nat) (x : AxX) : (s.setAxis a x).latches = s.latches := rfl
@[simp] theorem State.setAxis_tim (a : Nat) (x : AxX) : (s.setAxis a x).tim = s.tim := rfl
@[simp] theorem State.setAxis_chms (a : Nat) (x : AxX) : (s.setAxis a x).chms = s.chms := rfl
@[simp] theorem State.setAxis_linksLost (a : Nat) (x : AxX) : (s.setAxis a x).linksLost = s.linksLost := rfl
@[simp] theorem State.setAxis_mode (a : Nat) (x : AxX) : (s.setAxis a x).mode = s.mode := rfl
@[simp] theorem State.setAxis_hostId (a : Nat) (x : AxX) : (s.setAxis a x).hostId = s.hostId := rfl
@[simp] theorem State.setAxis_attachDue (a : Nat) (x : AxX) : (s.setAxis a x).attachDue = s.attachDue := rfl
@[simp] theorem State.setAxis_up (a : Nat) (x : AxX) : (s.setAxis a x).up = s.up := rfl
@[simp] theorem State.setAxis_upSince (a : Nat) (x : AxX) : (s.setAxis a x).upSince = s.upSince := rfl
@[simp] theorem State.setAxis_posted (a : Nat) (x : AxX) : (s.setAxis a x).posted = s.posted := rfl
@[simp] theorem State.setAxis_portOpen (a : Nat) (x : AxX) : (s.setAxis a x).portOpen = s.portOpen := rfl
@[simp] theorem State.setAxis_mbxs (a : Nat) (x : AxX) : (s.setAxis a x).mbxs = s.mbxs := rfl
@[simp] theorem State.setAxis_dops (a : Nat) (x : AxX) : (s.setAxis a x).dops = s.dops := rfl
@[simp] theorem State.setAxis_paused (a : Nat) (x : AxX) : (s.setAxis a x).paused = s.paused := rfl
@[simp] theorem State.setAxis_i2cs (a : Nat) (x : AxX) : (s.setAxis a x).i2cs = s.i2cs := rfl
@[simp] theorem State.setAxis_arp (a : Nat) (x : AxX) : (s.setAxis a x).arp = s.arp := rfl
@[simp] theorem State.setAxis_arpHeld (a : Nat) (x : AxX) : (s.setAxis a x).arpHeld = s.arpHeld := rfl
@[simp] theorem State.setAxis_cals (a : Nat) (x : AxX) : (s.setAxis a x).cals = s.cals := rfl
@[simp] theorem State.setAxis_upd (a : Nat) (x : AxX) : (s.setAxis a x).upd = s.upd := rfl
@[simp] theorem State.setAxis_leadSel (a : Nat) (x : AxX) : (s.setAxis a x).leadSel = s.leadSel := rfl
@[simp] theorem State.setAxis_absent (a : Nat) (x : AxX) : (s.setAxis a x).absent = s.absent := rfl
@[simp] theorem State.setAxis_resetDue (a : Nat) (x : AxX) : (s.setAxis a x).resetDue = s.resetDue := rfl
@[simp] theorem State.setAxis_vauxLow (a : Nat) (x : AxX) : (s.setAxis a x).vauxLow = s.vauxLow := rfl
@[simp] theorem State.setAxis_alone (a : Nat) (x : AxX) : (s.setAxis a x).alone = s.alone := rfl
@[simp] theorem State.setAxis_geo (a : Nat) (x : AxX) : (s.setAxis a x).geo = s.geo := rfl
@[simp] theorem State.setAxis_geoRes (a : Nat) (x : AxX) : (s.setAxis a x).geoRes = s.geoRes := rfl
@[simp] theorem State.setAxis_boot (a : Nat) (x : AxX) : (s.setAxis a x).boot = s.boot := rfl
@[simp] theorem State.setAxis_tap (a : Nat) (x : AxX) : (s.setAxis a x).tap = s.tap := rfl
@[simp] theorem State.setAxis_junior (a : Nat) (x : AxX) : (s.setAxis a x).junior = s.junior := rfl
@[simp] theorem State.setQuad_pending (h c : Nat) (x : QuadX) : (s.setQuad h c x).pending = s.pending := rfl
@[simp] theorem State.setQuad_part (h c : Nat) (x : QuadX) : (s.setQuad h c x).part = s.part := rfl
@[simp] theorem State.setQuad_now (h c : Nat) (x : QuadX) : (s.setQuad h c x).now = s.now := rfl
@[simp] theorem State.setQuad_freeCtr (h c : Nat) (x : QuadX) : (s.setQuad h c x).freeCtr = s.freeCtr := rfl
@[simp] theorem State.setQuad_out (h c : Nat) (x : QuadX) : (s.setQuad h c x).out = s.out := rfl
@[simp] theorem State.setQuad_regs (h c : Nat) (x : QuadX) : (s.setQuad h c x).regs = s.regs := rfl
@[simp] theorem State.setQuad_dram (h c : Nat) (x : QuadX) : (s.setQuad h c x).dram = s.dram := rfl
@[simp] theorem State.setQuad_sev (h c : Nat) (x : QuadX) : (s.setQuad h c x).sev = s.sev := rfl
@[simp] theorem State.setQuad_lanes (h c : Nat) (x : QuadX) : (s.setQuad h c x).lanes = s.lanes := rfl
@[simp] theorem State.setQuad_gors (h c : Nat) (x : QuadX) : (s.setQuad h c x).gors = s.gors := rfl
@[simp] theorem State.setQuad_basins (h c : Nat) (x : QuadX) : (s.setQuad h c x).basins = s.basins := rfl
@[simp] theorem State.setQuad_lbs (h c : Nat) (x : QuadX) : (s.setQuad h c x).lbs = s.lbs := rfl
@[simp] theorem State.setQuad_flues (h c : Nat) (x : QuadX) : (s.setQuad h c x).flues = s.flues := rfl
@[simp] theorem State.setQuad_flash (h c : Nat) (x : QuadX) : (s.setQuad h c x).flash = s.flash := rfl
@[simp] theorem State.setQuad_flash2 (h c : Nat) (x : QuadX) : (s.setQuad h c x).flash2 = s.flash2 := rfl
@[simp] theorem State.setQuad_crown (h c : Nat) (x : QuadX) : (s.setQuad h c x).crown = s.crown := rfl
@[simp] theorem State.setQuad_fwQueue (h c : Nat) (x : QuadX) : (s.setQuad h c x).fwQueue = s.fwQueue := rfl
@[simp] theorem State.setQuad_fwSevMin (h c : Nat) (x : QuadX) : (s.setQuad h c x).fwSevMin = s.fwSevMin := rfl
@[simp] theorem State.setQuad_fwFamilies (h c : Nat) (x : QuadX) : (s.setQuad h c x).fwFamilies = s.fwFamilies := rfl
@[simp] theorem State.setQuad_staged (h c : Nat) (x : QuadX) : (s.setQuad h c x).staged = s.staged := rfl
@[simp] theorem State.setQuad_ters (h c : Nat) (x : QuadX) : (s.setQuad h c x).ters = s.ters := rfl
@[simp] theorem State.setQuad_fbxs (h c : Nat) (x : QuadX) : (s.setQuad h c x).fbxs = s.fbxs := rfl
@[simp] theorem State.setQuad_dmps (h c : Nat) (x : QuadX) : (s.setQuad h c x).dmps = s.dmps := rfl
@[simp] theorem State.setQuad_drts (h c : Nat) (x : QuadX) : (s.setQuad h c x).drts = s.drts := rfl
@[simp] theorem State.setQuad_grts (h c : Nat) (x : QuadX) : (s.setQuad h c x).grts = s.grts := rfl
@[simp] theorem State.setQuad_ashMap (h c : Nat) (x : QuadX) : (s.setQuad h c x).ashMap = s.ashMap := rfl
@[simp] theorem State.setQuad_gates (h c : Nat) (x : QuadX) : (s.setQuad h c x).gates = s.gates := rfl
@[simp] theorem State.setQuad_twn (h c : Nat) (x : QuadX) : (s.setQuad h c x).twn = s.twn := rfl
@[simp] theorem State.setQuad_axes (h c : Nat) (x : QuadX) : (s.setQuad h c x).axes = s.axes := rfl
@[simp] theorem State.setQuad_halls (h c : Nat) (x : QuadX) : (s.setQuad h c x).halls = s.halls := rfl
@[simp] theorem State.setQuad_ssis (h c : Nat) (x : QuadX) : (s.setQuad h c x).ssis = s.ssis := rfl
@[simp] theorem State.setQuad_cams (h c : Nat) (x : QuadX) : (s.setQuad h c x).cams = s.cams := rfl
@[simp] theorem State.setQuad_isps (h c : Nat) (x : QuadX) : (s.setQuad h c x).isps = s.isps := rfl
@[simp] theorem State.setQuad_latches (h c : Nat) (x : QuadX) : (s.setQuad h c x).latches = s.latches := rfl
@[simp] theorem State.setQuad_tim (h c : Nat) (x : QuadX) : (s.setQuad h c x).tim = s.tim := rfl
@[simp] theorem State.setQuad_chms (h c : Nat) (x : QuadX) : (s.setQuad h c x).chms = s.chms := rfl
@[simp] theorem State.setQuad_linksLost (h c : Nat) (x : QuadX) : (s.setQuad h c x).linksLost = s.linksLost := rfl
@[simp] theorem State.setQuad_mode (h c : Nat) (x : QuadX) : (s.setQuad h c x).mode = s.mode := rfl
@[simp] theorem State.setQuad_hostId (h c : Nat) (x : QuadX) : (s.setQuad h c x).hostId = s.hostId := rfl
@[simp] theorem State.setQuad_attachDue (h c : Nat) (x : QuadX) : (s.setQuad h c x).attachDue = s.attachDue := rfl
@[simp] theorem State.setQuad_up (h c : Nat) (x : QuadX) : (s.setQuad h c x).up = s.up := rfl
@[simp] theorem State.setQuad_upSince (h c : Nat) (x : QuadX) : (s.setQuad h c x).upSince = s.upSince := rfl
@[simp] theorem State.setQuad_posted (h c : Nat) (x : QuadX) : (s.setQuad h c x).posted = s.posted := rfl
@[simp] theorem State.setQuad_portOpen (h c : Nat) (x : QuadX) : (s.setQuad h c x).portOpen = s.portOpen := rfl
@[simp] theorem State.setQuad_mbxs (h c : Nat) (x : QuadX) : (s.setQuad h c x).mbxs = s.mbxs := rfl
@[simp] theorem State.setQuad_dops (h c : Nat) (x : QuadX) : (s.setQuad h c x).dops = s.dops := rfl
@[simp] theorem State.setQuad_paused (h c : Nat) (x : QuadX) : (s.setQuad h c x).paused = s.paused := rfl
@[simp] theorem State.setQuad_i2cs (h c : Nat) (x : QuadX) : (s.setQuad h c x).i2cs = s.i2cs := rfl
@[simp] theorem State.setQuad_arp (h c : Nat) (x : QuadX) : (s.setQuad h c x).arp = s.arp := rfl
@[simp] theorem State.setQuad_arpHeld (h c : Nat) (x : QuadX) : (s.setQuad h c x).arpHeld = s.arpHeld := rfl
@[simp] theorem State.setQuad_cals (h c : Nat) (x : QuadX) : (s.setQuad h c x).cals = s.cals := rfl
@[simp] theorem State.setQuad_upd (h c : Nat) (x : QuadX) : (s.setQuad h c x).upd = s.upd := rfl
@[simp] theorem State.setQuad_leadSel (h c : Nat) (x : QuadX) : (s.setQuad h c x).leadSel = s.leadSel := rfl
@[simp] theorem State.setQuad_absent (h c : Nat) (x : QuadX) : (s.setQuad h c x).absent = s.absent := rfl
@[simp] theorem State.setQuad_resetDue (h c : Nat) (x : QuadX) : (s.setQuad h c x).resetDue = s.resetDue := rfl
@[simp] theorem State.setQuad_vauxLow (h c : Nat) (x : QuadX) : (s.setQuad h c x).vauxLow = s.vauxLow := rfl
@[simp] theorem State.setQuad_alone (h c : Nat) (x : QuadX) : (s.setQuad h c x).alone = s.alone := rfl
@[simp] theorem State.setQuad_geo (h c : Nat) (x : QuadX) : (s.setQuad h c x).geo = s.geo := rfl
@[simp] theorem State.setQuad_geoRes (h c : Nat) (x : QuadX) : (s.setQuad h c x).geoRes = s.geoRes := rfl
@[simp] theorem State.setQuad_boot (h c : Nat) (x : QuadX) : (s.setQuad h c x).boot = s.boot := rfl
@[simp] theorem State.setQuad_tap (h c : Nat) (x : QuadX) : (s.setQuad h c x).tap = s.tap := rfl
@[simp] theorem State.setQuad_junior (h c : Nat) (x : QuadX) : (s.setQuad h c x).junior = s.junior := rfl
@[simp] theorem State.setHall_pending (h k : Nat) (x : HallX) : (s.setHall h k x).pending = s.pending := rfl
@[simp] theorem State.setHall_part (h k : Nat) (x : HallX) : (s.setHall h k x).part = s.part := rfl
@[simp] theorem State.setHall_now (h k : Nat) (x : HallX) : (s.setHall h k x).now = s.now := rfl
@[simp] theorem State.setHall_freeCtr (h k : Nat) (x : HallX) : (s.setHall h k x).freeCtr = s.freeCtr := rfl
@[simp] theorem State.setHall_out (h k : Nat) (x : HallX) : (s.setHall h k x).out = s.out := rfl
@[simp] theorem State.setHall_regs (h k : Nat) (x : HallX) : (s.setHall h k x).regs = s.regs := rfl
@[simp] theorem State.setHall_dram (h k : Nat) (x : HallX) : (s.setHall h k x).dram = s.dram := rfl
@[simp] theorem State.setHall_sev (h k : Nat) (x : HallX) : (s.setHall h k x).sev = s.sev := rfl
@[simp] theorem State.setHall_lanes (h k : Nat) (x : HallX) : (s.setHall h k x).lanes = s.lanes := rfl
@[simp] theorem State.setHall_gors (h k : Nat) (x : HallX) : (s.setHall h k x).gors = s.gors := rfl
@[simp] theorem State.setHall_basins (h k : Nat) (x : HallX) : (s.setHall h k x).basins = s.basins := rfl
@[simp] theorem State.setHall_lbs (h k : Nat) (x : HallX) : (s.setHall h k x).lbs = s.lbs := rfl
@[simp] theorem State.setHall_flues (h k : Nat) (x : HallX) : (s.setHall h k x).flues = s.flues := rfl
@[simp] theorem State.setHall_flash (h k : Nat) (x : HallX) : (s.setHall h k x).flash = s.flash := rfl
@[simp] theorem State.setHall_flash2 (h k : Nat) (x : HallX) : (s.setHall h k x).flash2 = s.flash2 := rfl
@[simp] theorem State.setHall_crown (h k : Nat) (x : HallX) : (s.setHall h k x).crown = s.crown := rfl
@[simp] theorem State.setHall_fwQueue (h k : Nat) (x : HallX) : (s.setHall h k x).fwQueue = s.fwQueue := rfl
@[simp] theorem State.setHall_fwSevMin (h k : Nat) (x : HallX) : (s.setHall h k x).fwSevMin = s.fwSevMin := rfl
@[simp] theorem State.setHall_fwFamilies (h k : Nat) (x : HallX) : (s.setHall h k x).fwFamilies = s.fwFamilies := rfl
@[simp] theorem State.setHall_staged (h k : Nat) (x : HallX) : (s.setHall h k x).staged = s.staged := rfl
@[simp] theorem State.setHall_ters (h k : Nat) (x : HallX) : (s.setHall h k x).ters = s.ters := rfl
@[simp] theorem State.setHall_fbxs (h k : Nat) (x : HallX) : (s.setHall h k x).fbxs = s.fbxs := rfl
@[simp] theorem State.setHall_dmps (h k : Nat) (x : HallX) : (s.setHall h k x).dmps = s.dmps := rfl
@[simp] theorem State.setHall_drts (h k : Nat) (x : HallX) : (s.setHall h k x).drts = s.drts := rfl
@[simp] theorem State.setHall_grts (h k : Nat) (x : HallX) : (s.setHall h k x).grts = s.grts := rfl
@[simp] theorem State.setHall_ashMap (h k : Nat) (x : HallX) : (s.setHall h k x).ashMap = s.ashMap := rfl
@[simp] theorem State.setHall_gates (h k : Nat) (x : HallX) : (s.setHall h k x).gates = s.gates := rfl
@[simp] theorem State.setHall_twn (h k : Nat) (x : HallX) : (s.setHall h k x).twn = s.twn := rfl
@[simp] theorem State.setHall_axes (h k : Nat) (x : HallX) : (s.setHall h k x).axes = s.axes := rfl
@[simp] theorem State.setHall_quads (h k : Nat) (x : HallX) : (s.setHall h k x).quads = s.quads := rfl
@[simp] theorem State.setHall_ssis (h k : Nat) (x : HallX) : (s.setHall h k x).ssis = s.ssis := rfl
@[simp] theorem State.setHall_cams (h k : Nat) (x : HallX) : (s.setHall h k x).cams = s.cams := rfl
@[simp] theorem State.setHall_isps (h k : Nat) (x : HallX) : (s.setHall h k x).isps = s.isps := rfl
@[simp] theorem State.setHall_latches (h k : Nat) (x : HallX) : (s.setHall h k x).latches = s.latches := rfl
@[simp] theorem State.setHall_tim (h k : Nat) (x : HallX) : (s.setHall h k x).tim = s.tim := rfl
@[simp] theorem State.setHall_chms (h k : Nat) (x : HallX) : (s.setHall h k x).chms = s.chms := rfl
@[simp] theorem State.setHall_linksLost (h k : Nat) (x : HallX) : (s.setHall h k x).linksLost = s.linksLost := rfl
@[simp] theorem State.setHall_mode (h k : Nat) (x : HallX) : (s.setHall h k x).mode = s.mode := rfl
@[simp] theorem State.setHall_hostId (h k : Nat) (x : HallX) : (s.setHall h k x).hostId = s.hostId := rfl
@[simp] theorem State.setHall_attachDue (h k : Nat) (x : HallX) : (s.setHall h k x).attachDue = s.attachDue := rfl
@[simp] theorem State.setHall_up (h k : Nat) (x : HallX) : (s.setHall h k x).up = s.up := rfl
@[simp] theorem State.setHall_upSince (h k : Nat) (x : HallX) : (s.setHall h k x).upSince = s.upSince := rfl
@[simp] theorem State.setHall_posted (h k : Nat) (x : HallX) : (s.setHall h k x).posted = s.posted := rfl
@[simp] theorem State.setHall_portOpen (h k : Nat) (x : HallX) : (s.setHall h k x).portOpen = s.portOpen := rfl
@[simp] theorem State.setHall_mbxs (h k : Nat) (x : HallX) : (s.setHall h k x).mbxs = s.mbxs := rfl
@[simp] theorem State.setHall_dops (h k : Nat) (x : HallX) : (s.setHall h k x).dops = s.dops := rfl
@[simp] theorem State.setHall_paused (h k : Nat) (x : HallX) : (s.setHall h k x).paused = s.paused := rfl
@[simp] theorem State.setHall_i2cs (h k : Nat) (x : HallX) : (s.setHall h k x).i2cs = s.i2cs := rfl
@[simp] theorem State.setHall_arp (h k : Nat) (x : HallX) : (s.setHall h k x).arp = s.arp := rfl
@[simp] theorem State.setHall_arpHeld (h k : Nat) (x : HallX) : (s.setHall h k x).arpHeld = s.arpHeld := rfl
@[simp] theorem State.setHall_cals (h k : Nat) (x : HallX) : (s.setHall h k x).cals = s.cals := rfl
@[simp] theorem State.setHall_upd (h k : Nat) (x : HallX) : (s.setHall h k x).upd = s.upd := rfl
@[simp] theorem State.setHall_leadSel (h k : Nat) (x : HallX) : (s.setHall h k x).leadSel = s.leadSel := rfl
@[simp] theorem State.setHall_absent (h k : Nat) (x : HallX) : (s.setHall h k x).absent = s.absent := rfl
@[simp] theorem State.setHall_resetDue (h k : Nat) (x : HallX) : (s.setHall h k x).resetDue = s.resetDue := rfl
@[simp] theorem State.setHall_vauxLow (h k : Nat) (x : HallX) : (s.setHall h k x).vauxLow = s.vauxLow := rfl
@[simp] theorem State.setHall_alone (h k : Nat) (x : HallX) : (s.setHall h k x).alone = s.alone := rfl
@[simp] theorem State.setHall_geo (h k : Nat) (x : HallX) : (s.setHall h k x).geo = s.geo := rfl
@[simp] theorem State.setHall_geoRes (h k : Nat) (x : HallX) : (s.setHall h k x).geoRes = s.geoRes := rfl
@[simp] theorem State.setHall_boot (h k : Nat) (x : HallX) : (s.setHall h k x).boot = s.boot := rfl
@[simp] theorem State.setHall_tap (h k : Nat) (x : HallX) : (s.setHall h k x).tap = s.tap := rfl
@[simp] theorem State.setHall_junior (h k : Nat) (x : HallX) : (s.setHall h k x).junior = s.junior := rfl
@[simp] theorem State.setSsi_pending (h k : Nat) (x : SsiX) : (s.setSsi h k x).pending = s.pending := rfl
@[simp] theorem State.setSsi_part (h k : Nat) (x : SsiX) : (s.setSsi h k x).part = s.part := rfl
@[simp] theorem State.setSsi_now (h k : Nat) (x : SsiX) : (s.setSsi h k x).now = s.now := rfl
@[simp] theorem State.setSsi_freeCtr (h k : Nat) (x : SsiX) : (s.setSsi h k x).freeCtr = s.freeCtr := rfl
@[simp] theorem State.setSsi_out (h k : Nat) (x : SsiX) : (s.setSsi h k x).out = s.out := rfl
@[simp] theorem State.setSsi_regs (h k : Nat) (x : SsiX) : (s.setSsi h k x).regs = s.regs := rfl
@[simp] theorem State.setSsi_dram (h k : Nat) (x : SsiX) : (s.setSsi h k x).dram = s.dram := rfl
@[simp] theorem State.setSsi_sev (h k : Nat) (x : SsiX) : (s.setSsi h k x).sev = s.sev := rfl
@[simp] theorem State.setSsi_lanes (h k : Nat) (x : SsiX) : (s.setSsi h k x).lanes = s.lanes := rfl
@[simp] theorem State.setSsi_gors (h k : Nat) (x : SsiX) : (s.setSsi h k x).gors = s.gors := rfl
@[simp] theorem State.setSsi_basins (h k : Nat) (x : SsiX) : (s.setSsi h k x).basins = s.basins := rfl
@[simp] theorem State.setSsi_lbs (h k : Nat) (x : SsiX) : (s.setSsi h k x).lbs = s.lbs := rfl
@[simp] theorem State.setSsi_flues (h k : Nat) (x : SsiX) : (s.setSsi h k x).flues = s.flues := rfl
@[simp] theorem State.setSsi_flash (h k : Nat) (x : SsiX) : (s.setSsi h k x).flash = s.flash := rfl
@[simp] theorem State.setSsi_flash2 (h k : Nat) (x : SsiX) : (s.setSsi h k x).flash2 = s.flash2 := rfl
@[simp] theorem State.setSsi_crown (h k : Nat) (x : SsiX) : (s.setSsi h k x).crown = s.crown := rfl
@[simp] theorem State.setSsi_fwQueue (h k : Nat) (x : SsiX) : (s.setSsi h k x).fwQueue = s.fwQueue := rfl
@[simp] theorem State.setSsi_fwSevMin (h k : Nat) (x : SsiX) : (s.setSsi h k x).fwSevMin = s.fwSevMin := rfl
@[simp] theorem State.setSsi_fwFamilies (h k : Nat) (x : SsiX) : (s.setSsi h k x).fwFamilies = s.fwFamilies := rfl
@[simp] theorem State.setSsi_staged (h k : Nat) (x : SsiX) : (s.setSsi h k x).staged = s.staged := rfl
@[simp] theorem State.setSsi_ters (h k : Nat) (x : SsiX) : (s.setSsi h k x).ters = s.ters := rfl
@[simp] theorem State.setSsi_fbxs (h k : Nat) (x : SsiX) : (s.setSsi h k x).fbxs = s.fbxs := rfl
@[simp] theorem State.setSsi_dmps (h k : Nat) (x : SsiX) : (s.setSsi h k x).dmps = s.dmps := rfl
@[simp] theorem State.setSsi_drts (h k : Nat) (x : SsiX) : (s.setSsi h k x).drts = s.drts := rfl
@[simp] theorem State.setSsi_grts (h k : Nat) (x : SsiX) : (s.setSsi h k x).grts = s.grts := rfl
@[simp] theorem State.setSsi_ashMap (h k : Nat) (x : SsiX) : (s.setSsi h k x).ashMap = s.ashMap := rfl
@[simp] theorem State.setSsi_gates (h k : Nat) (x : SsiX) : (s.setSsi h k x).gates = s.gates := rfl
@[simp] theorem State.setSsi_twn (h k : Nat) (x : SsiX) : (s.setSsi h k x).twn = s.twn := rfl
@[simp] theorem State.setSsi_axes (h k : Nat) (x : SsiX) : (s.setSsi h k x).axes = s.axes := rfl
@[simp] theorem State.setSsi_quads (h k : Nat) (x : SsiX) : (s.setSsi h k x).quads = s.quads := rfl
@[simp] theorem State.setSsi_halls (h k : Nat) (x : SsiX) : (s.setSsi h k x).halls = s.halls := rfl
@[simp] theorem State.setSsi_cams (h k : Nat) (x : SsiX) : (s.setSsi h k x).cams = s.cams := rfl
@[simp] theorem State.setSsi_isps (h k : Nat) (x : SsiX) : (s.setSsi h k x).isps = s.isps := rfl
@[simp] theorem State.setSsi_latches (h k : Nat) (x : SsiX) : (s.setSsi h k x).latches = s.latches := rfl
@[simp] theorem State.setSsi_tim (h k : Nat) (x : SsiX) : (s.setSsi h k x).tim = s.tim := rfl
@[simp] theorem State.setSsi_chms (h k : Nat) (x : SsiX) : (s.setSsi h k x).chms = s.chms := rfl
@[simp] theorem State.setSsi_linksLost (h k : Nat) (x : SsiX) : (s.setSsi h k x).linksLost = s.linksLost := rfl
@[simp] theorem State.setSsi_mode (h k : Nat) (x : SsiX) : (s.setSsi h k x).mode = s.mode := rfl
@[simp] theorem State.setSsi_hostId (h k : Nat) (x : SsiX) : (s.setSsi h k x).hostId = s.hostId := rfl
@[simp] theorem State.setSsi_attachDue (h k : Nat) (x : SsiX) : (s.setSsi h k x).attachDue = s.attachDue := rfl
@[simp] theorem State.setSsi_up (h k : Nat) (x : SsiX) : (s.setSsi h k x).up = s.up := rfl
@[simp] theorem State.setSsi_upSince (h k : Nat) (x : SsiX) : (s.setSsi h k x).upSince = s.upSince := rfl
@[simp] theorem State.setSsi_posted (h k : Nat) (x : SsiX) : (s.setSsi h k x).posted = s.posted := rfl
@[simp] theorem State.setSsi_portOpen (h k : Nat) (x : SsiX) : (s.setSsi h k x).portOpen = s.portOpen := rfl
@[simp] theorem State.setSsi_mbxs (h k : Nat) (x : SsiX) : (s.setSsi h k x).mbxs = s.mbxs := rfl
@[simp] theorem State.setSsi_dops (h k : Nat) (x : SsiX) : (s.setSsi h k x).dops = s.dops := rfl
@[simp] theorem State.setSsi_paused (h k : Nat) (x : SsiX) : (s.setSsi h k x).paused = s.paused := rfl
@[simp] theorem State.setSsi_i2cs (h k : Nat) (x : SsiX) : (s.setSsi h k x).i2cs = s.i2cs := rfl
@[simp] theorem State.setSsi_arp (h k : Nat) (x : SsiX) : (s.setSsi h k x).arp = s.arp := rfl
@[simp] theorem State.setSsi_arpHeld (h k : Nat) (x : SsiX) : (s.setSsi h k x).arpHeld = s.arpHeld := rfl
@[simp] theorem State.setSsi_cals (h k : Nat) (x : SsiX) : (s.setSsi h k x).cals = s.cals := rfl
@[simp] theorem State.setSsi_upd (h k : Nat) (x : SsiX) : (s.setSsi h k x).upd = s.upd := rfl
@[simp] theorem State.setSsi_leadSel (h k : Nat) (x : SsiX) : (s.setSsi h k x).leadSel = s.leadSel := rfl
@[simp] theorem State.setSsi_absent (h k : Nat) (x : SsiX) : (s.setSsi h k x).absent = s.absent := rfl
@[simp] theorem State.setSsi_resetDue (h k : Nat) (x : SsiX) : (s.setSsi h k x).resetDue = s.resetDue := rfl
@[simp] theorem State.setSsi_vauxLow (h k : Nat) (x : SsiX) : (s.setSsi h k x).vauxLow = s.vauxLow := rfl
@[simp] theorem State.setSsi_alone (h k : Nat) (x : SsiX) : (s.setSsi h k x).alone = s.alone := rfl
@[simp] theorem State.setSsi_geo (h k : Nat) (x : SsiX) : (s.setSsi h k x).geo = s.geo := rfl
@[simp] theorem State.setSsi_geoRes (h k : Nat) (x : SsiX) : (s.setSsi h k x).geoRes = s.geoRes := rfl
@[simp] theorem State.setSsi_boot (h k : Nat) (x : SsiX) : (s.setSsi h k x).boot = s.boot := rfl
@[simp] theorem State.setSsi_tap (h k : Nat) (x : SsiX) : (s.setSsi h k x).tap = s.tap := rfl
@[simp] theorem State.setSsi_junior (h k : Nat) (x : SsiX) : (s.setSsi h k x).junior = s.junior := rfl
@[simp] theorem State.setCam_pending (h c : Nat) (x : CamX) : (s.setCam h c x).pending = s.pending := rfl
@[simp] theorem State.setCam_part (h c : Nat) (x : CamX) : (s.setCam h c x).part = s.part := rfl
@[simp] theorem State.setCam_now (h c : Nat) (x : CamX) : (s.setCam h c x).now = s.now := rfl
@[simp] theorem State.setCam_freeCtr (h c : Nat) (x : CamX) : (s.setCam h c x).freeCtr = s.freeCtr := rfl
@[simp] theorem State.setCam_out (h c : Nat) (x : CamX) : (s.setCam h c x).out = s.out := rfl
@[simp] theorem State.setCam_regs (h c : Nat) (x : CamX) : (s.setCam h c x).regs = s.regs := rfl
@[simp] theorem State.setCam_dram (h c : Nat) (x : CamX) : (s.setCam h c x).dram = s.dram := rfl
@[simp] theorem State.setCam_sev (h c : Nat) (x : CamX) : (s.setCam h c x).sev = s.sev := rfl
@[simp] theorem State.setCam_lanes (h c : Nat) (x : CamX) : (s.setCam h c x).lanes = s.lanes := rfl
@[simp] theorem State.setCam_gors (h c : Nat) (x : CamX) : (s.setCam h c x).gors = s.gors := rfl
@[simp] theorem State.setCam_basins (h c : Nat) (x : CamX) : (s.setCam h c x).basins = s.basins := rfl
@[simp] theorem State.setCam_lbs (h c : Nat) (x : CamX) : (s.setCam h c x).lbs = s.lbs := rfl
@[simp] theorem State.setCam_flues (h c : Nat) (x : CamX) : (s.setCam h c x).flues = s.flues := rfl
@[simp] theorem State.setCam_flash (h c : Nat) (x : CamX) : (s.setCam h c x).flash = s.flash := rfl
@[simp] theorem State.setCam_flash2 (h c : Nat) (x : CamX) : (s.setCam h c x).flash2 = s.flash2 := rfl
@[simp] theorem State.setCam_crown (h c : Nat) (x : CamX) : (s.setCam h c x).crown = s.crown := rfl
@[simp] theorem State.setCam_fwQueue (h c : Nat) (x : CamX) : (s.setCam h c x).fwQueue = s.fwQueue := rfl
@[simp] theorem State.setCam_fwSevMin (h c : Nat) (x : CamX) : (s.setCam h c x).fwSevMin = s.fwSevMin := rfl
@[simp] theorem State.setCam_fwFamilies (h c : Nat) (x : CamX) : (s.setCam h c x).fwFamilies = s.fwFamilies := rfl
@[simp] theorem State.setCam_staged (h c : Nat) (x : CamX) : (s.setCam h c x).staged = s.staged := rfl
@[simp] theorem State.setCam_ters (h c : Nat) (x : CamX) : (s.setCam h c x).ters = s.ters := rfl
@[simp] theorem State.setCam_fbxs (h c : Nat) (x : CamX) : (s.setCam h c x).fbxs = s.fbxs := rfl
@[simp] theorem State.setCam_dmps (h c : Nat) (x : CamX) : (s.setCam h c x).dmps = s.dmps := rfl
@[simp] theorem State.setCam_drts (h c : Nat) (x : CamX) : (s.setCam h c x).drts = s.drts := rfl
@[simp] theorem State.setCam_grts (h c : Nat) (x : CamX) : (s.setCam h c x).grts = s.grts := rfl
@[simp] theorem State.setCam_ashMap (h c : Nat) (x : CamX) : (s.setCam h c x).ashMap = s.ashMap := rfl
@[simp] theorem State.setCam_gates (h c : Nat) (x : CamX) : (s.setCam h c x).gates = s.gates := rfl
@[simp] theorem State.setCam_twn (h c : Nat) (x : CamX) : (s.setCam h c x).twn = s.twn := rfl
@[simp] theorem State.setCam_axes (h c : Nat) (x : CamX) : (s.setCam h c x).axes = s.axes := rfl
@[simp] theorem State.setCam_quads (h c : Nat) (x : CamX) : (s.setCam h c x).quads = s.quads := rfl
@[simp] theorem State.setCam_halls (h c : Nat) (x : CamX) : (s.setCam h c x).halls = s.halls := rfl
@[simp] theorem State.setCam_ssis (h c : Nat) (x : CamX) : (s.setCam h c x).ssis = s.ssis := rfl
@[simp] theorem State.setCam_isps (h c : Nat) (x : CamX) : (s.setCam h c x).isps = s.isps := rfl
@[simp] theorem State.setCam_latches (h c : Nat) (x : CamX) : (s.setCam h c x).latches = s.latches := rfl
@[simp] theorem State.setCam_tim (h c : Nat) (x : CamX) : (s.setCam h c x).tim = s.tim := rfl
@[simp] theorem State.setCam_chms (h c : Nat) (x : CamX) : (s.setCam h c x).chms = s.chms := rfl
@[simp] theorem State.setCam_linksLost (h c : Nat) (x : CamX) : (s.setCam h c x).linksLost = s.linksLost := rfl
@[simp] theorem State.setCam_mode (h c : Nat) (x : CamX) : (s.setCam h c x).mode = s.mode := rfl
@[simp] theorem State.setCam_hostId (h c : Nat) (x : CamX) : (s.setCam h c x).hostId = s.hostId := rfl
@[simp] theorem State.setCam_attachDue (h c : Nat) (x : CamX) : (s.setCam h c x).attachDue = s.attachDue := rfl
@[simp] theorem State.setCam_up (h c : Nat) (x : CamX) : (s.setCam h c x).up = s.up := rfl
@[simp] theorem State.setCam_upSince (h c : Nat) (x : CamX) : (s.setCam h c x).upSince = s.upSince := rfl
@[simp] theorem State.setCam_posted (h c : Nat) (x : CamX) : (s.setCam h c x).posted = s.posted := rfl
@[simp] theorem State.setCam_portOpen (h c : Nat) (x : CamX) : (s.setCam h c x).portOpen = s.portOpen := rfl
@[simp] theorem State.setCam_mbxs (h c : Nat) (x : CamX) : (s.setCam h c x).mbxs = s.mbxs := rfl
@[simp] theorem State.setCam_dops (h c : Nat) (x : CamX) : (s.setCam h c x).dops = s.dops := rfl
@[simp] theorem State.setCam_paused (h c : Nat) (x : CamX) : (s.setCam h c x).paused = s.paused := rfl
@[simp] theorem State.setCam_i2cs (h c : Nat) (x : CamX) : (s.setCam h c x).i2cs = s.i2cs := rfl
@[simp] theorem State.setCam_arp (h c : Nat) (x : CamX) : (s.setCam h c x).arp = s.arp := rfl
@[simp] theorem State.setCam_arpHeld (h c : Nat) (x : CamX) : (s.setCam h c x).arpHeld = s.arpHeld := rfl
@[simp] theorem State.setCam_cals (h c : Nat) (x : CamX) : (s.setCam h c x).cals = s.cals := rfl
@[simp] theorem State.setCam_upd (h c : Nat) (x : CamX) : (s.setCam h c x).upd = s.upd := rfl
@[simp] theorem State.setCam_leadSel (h c : Nat) (x : CamX) : (s.setCam h c x).leadSel = s.leadSel := rfl
@[simp] theorem State.setCam_absent (h c : Nat) (x : CamX) : (s.setCam h c x).absent = s.absent := rfl
@[simp] theorem State.setCam_resetDue (h c : Nat) (x : CamX) : (s.setCam h c x).resetDue = s.resetDue := rfl
@[simp] theorem State.setCam_vauxLow (h c : Nat) (x : CamX) : (s.setCam h c x).vauxLow = s.vauxLow := rfl
@[simp] theorem State.setCam_alone (h c : Nat) (x : CamX) : (s.setCam h c x).alone = s.alone := rfl
@[simp] theorem State.setCam_geo (h c : Nat) (x : CamX) : (s.setCam h c x).geo = s.geo := rfl
@[simp] theorem State.setCam_geoRes (h c : Nat) (x : CamX) : (s.setCam h c x).geoRes = s.geoRes := rfl
@[simp] theorem State.setCam_boot (h c : Nat) (x : CamX) : (s.setCam h c x).boot = s.boot := rfl
@[simp] theorem State.setCam_tap (h c : Nat) (x : CamX) : (s.setCam h c x).tap = s.tap := rfl
@[simp] theorem State.setCam_junior (h c : Nat) (x : CamX) : (s.setCam h c x).junior = s.junior := rfl
@[simp] theorem State.setIsp_pending (h : Nat) (x : IspX) : (s.setIsp h x).pending = s.pending := rfl
@[simp] theorem State.setIsp_part (h : Nat) (x : IspX) : (s.setIsp h x).part = s.part := rfl
@[simp] theorem State.setIsp_now (h : Nat) (x : IspX) : (s.setIsp h x).now = s.now := rfl
@[simp] theorem State.setIsp_freeCtr (h : Nat) (x : IspX) : (s.setIsp h x).freeCtr = s.freeCtr := rfl
@[simp] theorem State.setIsp_out (h : Nat) (x : IspX) : (s.setIsp h x).out = s.out := rfl
@[simp] theorem State.setIsp_regs (h : Nat) (x : IspX) : (s.setIsp h x).regs = s.regs := rfl
@[simp] theorem State.setIsp_dram (h : Nat) (x : IspX) : (s.setIsp h x).dram = s.dram := rfl
@[simp] theorem State.setIsp_sev (h : Nat) (x : IspX) : (s.setIsp h x).sev = s.sev := rfl
@[simp] theorem State.setIsp_lanes (h : Nat) (x : IspX) : (s.setIsp h x).lanes = s.lanes := rfl
@[simp] theorem State.setIsp_gors (h : Nat) (x : IspX) : (s.setIsp h x).gors = s.gors := rfl
@[simp] theorem State.setIsp_basins (h : Nat) (x : IspX) : (s.setIsp h x).basins = s.basins := rfl
@[simp] theorem State.setIsp_lbs (h : Nat) (x : IspX) : (s.setIsp h x).lbs = s.lbs := rfl
@[simp] theorem State.setIsp_flues (h : Nat) (x : IspX) : (s.setIsp h x).flues = s.flues := rfl
@[simp] theorem State.setIsp_flash (h : Nat) (x : IspX) : (s.setIsp h x).flash = s.flash := rfl
@[simp] theorem State.setIsp_flash2 (h : Nat) (x : IspX) : (s.setIsp h x).flash2 = s.flash2 := rfl
@[simp] theorem State.setIsp_crown (h : Nat) (x : IspX) : (s.setIsp h x).crown = s.crown := rfl
@[simp] theorem State.setIsp_fwQueue (h : Nat) (x : IspX) : (s.setIsp h x).fwQueue = s.fwQueue := rfl
@[simp] theorem State.setIsp_fwSevMin (h : Nat) (x : IspX) : (s.setIsp h x).fwSevMin = s.fwSevMin := rfl
@[simp] theorem State.setIsp_fwFamilies (h : Nat) (x : IspX) : (s.setIsp h x).fwFamilies = s.fwFamilies := rfl
@[simp] theorem State.setIsp_staged (h : Nat) (x : IspX) : (s.setIsp h x).staged = s.staged := rfl
@[simp] theorem State.setIsp_ters (h : Nat) (x : IspX) : (s.setIsp h x).ters = s.ters := rfl
@[simp] theorem State.setIsp_fbxs (h : Nat) (x : IspX) : (s.setIsp h x).fbxs = s.fbxs := rfl
@[simp] theorem State.setIsp_dmps (h : Nat) (x : IspX) : (s.setIsp h x).dmps = s.dmps := rfl
@[simp] theorem State.setIsp_drts (h : Nat) (x : IspX) : (s.setIsp h x).drts = s.drts := rfl
@[simp] theorem State.setIsp_grts (h : Nat) (x : IspX) : (s.setIsp h x).grts = s.grts := rfl
@[simp] theorem State.setIsp_ashMap (h : Nat) (x : IspX) : (s.setIsp h x).ashMap = s.ashMap := rfl
@[simp] theorem State.setIsp_gates (h : Nat) (x : IspX) : (s.setIsp h x).gates = s.gates := rfl
@[simp] theorem State.setIsp_twn (h : Nat) (x : IspX) : (s.setIsp h x).twn = s.twn := rfl
@[simp] theorem State.setIsp_axes (h : Nat) (x : IspX) : (s.setIsp h x).axes = s.axes := rfl
@[simp] theorem State.setIsp_quads (h : Nat) (x : IspX) : (s.setIsp h x).quads = s.quads := rfl
@[simp] theorem State.setIsp_halls (h : Nat) (x : IspX) : (s.setIsp h x).halls = s.halls := rfl
@[simp] theorem State.setIsp_ssis (h : Nat) (x : IspX) : (s.setIsp h x).ssis = s.ssis := rfl
@[simp] theorem State.setIsp_cams (h : Nat) (x : IspX) : (s.setIsp h x).cams = s.cams := rfl
@[simp] theorem State.setIsp_latches (h : Nat) (x : IspX) : (s.setIsp h x).latches = s.latches := rfl
@[simp] theorem State.setIsp_tim (h : Nat) (x : IspX) : (s.setIsp h x).tim = s.tim := rfl
@[simp] theorem State.setIsp_chms (h : Nat) (x : IspX) : (s.setIsp h x).chms = s.chms := rfl
@[simp] theorem State.setIsp_linksLost (h : Nat) (x : IspX) : (s.setIsp h x).linksLost = s.linksLost := rfl
@[simp] theorem State.setIsp_mode (h : Nat) (x : IspX) : (s.setIsp h x).mode = s.mode := rfl
@[simp] theorem State.setIsp_hostId (h : Nat) (x : IspX) : (s.setIsp h x).hostId = s.hostId := rfl
@[simp] theorem State.setIsp_attachDue (h : Nat) (x : IspX) : (s.setIsp h x).attachDue = s.attachDue := rfl
@[simp] theorem State.setIsp_up (h : Nat) (x : IspX) : (s.setIsp h x).up = s.up := rfl
@[simp] theorem State.setIsp_upSince (h : Nat) (x : IspX) : (s.setIsp h x).upSince = s.upSince := rfl
@[simp] theorem State.setIsp_posted (h : Nat) (x : IspX) : (s.setIsp h x).posted = s.posted := rfl
@[simp] theorem State.setIsp_portOpen (h : Nat) (x : IspX) : (s.setIsp h x).portOpen = s.portOpen := rfl
@[simp] theorem State.setIsp_mbxs (h : Nat) (x : IspX) : (s.setIsp h x).mbxs = s.mbxs := rfl
@[simp] theorem State.setIsp_dops (h : Nat) (x : IspX) : (s.setIsp h x).dops = s.dops := rfl
@[simp] theorem State.setIsp_paused (h : Nat) (x : IspX) : (s.setIsp h x).paused = s.paused := rfl
@[simp] theorem State.setIsp_i2cs (h : Nat) (x : IspX) : (s.setIsp h x).i2cs = s.i2cs := rfl
@[simp] theorem State.setIsp_arp (h : Nat) (x : IspX) : (s.setIsp h x).arp = s.arp := rfl
@[simp] theorem State.setIsp_arpHeld (h : Nat) (x : IspX) : (s.setIsp h x).arpHeld = s.arpHeld := rfl
@[simp] theorem State.setIsp_cals (h : Nat) (x : IspX) : (s.setIsp h x).cals = s.cals := rfl
@[simp] theorem State.setIsp_upd (h : Nat) (x : IspX) : (s.setIsp h x).upd = s.upd := rfl
@[simp] theorem State.setIsp_leadSel (h : Nat) (x : IspX) : (s.setIsp h x).leadSel = s.leadSel := rfl
@[simp] theorem State.setIsp_absent (h : Nat) (x : IspX) : (s.setIsp h x).absent = s.absent := rfl
@[simp] theorem State.setIsp_resetDue (h : Nat) (x : IspX) : (s.setIsp h x).resetDue = s.resetDue := rfl
@[simp] theorem State.setIsp_vauxLow (h : Nat) (x : IspX) : (s.setIsp h x).vauxLow = s.vauxLow := rfl
@[simp] theorem State.setIsp_alone (h : Nat) (x : IspX) : (s.setIsp h x).alone = s.alone := rfl
@[simp] theorem State.setIsp_geo (h : Nat) (x : IspX) : (s.setIsp h x).geo = s.geo := rfl
@[simp] theorem State.setIsp_geoRes (h : Nat) (x : IspX) : (s.setIsp h x).geoRes = s.geoRes := rfl
@[simp] theorem State.setIsp_boot (h : Nat) (x : IspX) : (s.setIsp h x).boot = s.boot := rfl
@[simp] theorem State.setIsp_tap (h : Nat) (x : IspX) : (s.setIsp h x).tap = s.tap := rfl
@[simp] theorem State.setIsp_junior (h : Nat) (x : IspX) : (s.setIsp h x).junior = s.junior := rfl
@[simp] theorem State.setChm_pending (h : Nat) (x : ChmX) : (s.setChm h x).pending = s.pending := rfl
@[simp] theorem State.setChm_part (h : Nat) (x : ChmX) : (s.setChm h x).part = s.part := rfl
@[simp] theorem State.setChm_now (h : Nat) (x : ChmX) : (s.setChm h x).now = s.now := rfl
@[simp] theorem State.setChm_freeCtr (h : Nat) (x : ChmX) : (s.setChm h x).freeCtr = s.freeCtr := rfl
@[simp] theorem State.setChm_out (h : Nat) (x : ChmX) : (s.setChm h x).out = s.out := rfl
@[simp] theorem State.setChm_regs (h : Nat) (x : ChmX) : (s.setChm h x).regs = s.regs := rfl
@[simp] theorem State.setChm_dram (h : Nat) (x : ChmX) : (s.setChm h x).dram = s.dram := rfl
@[simp] theorem State.setChm_sev (h : Nat) (x : ChmX) : (s.setChm h x).sev = s.sev := rfl
@[simp] theorem State.setChm_lanes (h : Nat) (x : ChmX) : (s.setChm h x).lanes = s.lanes := rfl
@[simp] theorem State.setChm_gors (h : Nat) (x : ChmX) : (s.setChm h x).gors = s.gors := rfl
@[simp] theorem State.setChm_basins (h : Nat) (x : ChmX) : (s.setChm h x).basins = s.basins := rfl
@[simp] theorem State.setChm_lbs (h : Nat) (x : ChmX) : (s.setChm h x).lbs = s.lbs := rfl
@[simp] theorem State.setChm_flues (h : Nat) (x : ChmX) : (s.setChm h x).flues = s.flues := rfl
@[simp] theorem State.setChm_flash (h : Nat) (x : ChmX) : (s.setChm h x).flash = s.flash := rfl
@[simp] theorem State.setChm_flash2 (h : Nat) (x : ChmX) : (s.setChm h x).flash2 = s.flash2 := rfl
@[simp] theorem State.setChm_crown (h : Nat) (x : ChmX) : (s.setChm h x).crown = s.crown := rfl
@[simp] theorem State.setChm_fwQueue (h : Nat) (x : ChmX) : (s.setChm h x).fwQueue = s.fwQueue := rfl
@[simp] theorem State.setChm_fwSevMin (h : Nat) (x : ChmX) : (s.setChm h x).fwSevMin = s.fwSevMin := rfl
@[simp] theorem State.setChm_fwFamilies (h : Nat) (x : ChmX) : (s.setChm h x).fwFamilies = s.fwFamilies := rfl
@[simp] theorem State.setChm_staged (h : Nat) (x : ChmX) : (s.setChm h x).staged = s.staged := rfl
@[simp] theorem State.setChm_ters (h : Nat) (x : ChmX) : (s.setChm h x).ters = s.ters := rfl
@[simp] theorem State.setChm_fbxs (h : Nat) (x : ChmX) : (s.setChm h x).fbxs = s.fbxs := rfl
@[simp] theorem State.setChm_dmps (h : Nat) (x : ChmX) : (s.setChm h x).dmps = s.dmps := rfl
@[simp] theorem State.setChm_drts (h : Nat) (x : ChmX) : (s.setChm h x).drts = s.drts := rfl
@[simp] theorem State.setChm_grts (h : Nat) (x : ChmX) : (s.setChm h x).grts = s.grts := rfl
@[simp] theorem State.setChm_ashMap (h : Nat) (x : ChmX) : (s.setChm h x).ashMap = s.ashMap := rfl
@[simp] theorem State.setChm_gates (h : Nat) (x : ChmX) : (s.setChm h x).gates = s.gates := rfl
@[simp] theorem State.setChm_twn (h : Nat) (x : ChmX) : (s.setChm h x).twn = s.twn := rfl
@[simp] theorem State.setChm_axes (h : Nat) (x : ChmX) : (s.setChm h x).axes = s.axes := rfl
@[simp] theorem State.setChm_quads (h : Nat) (x : ChmX) : (s.setChm h x).quads = s.quads := rfl
@[simp] theorem State.setChm_halls (h : Nat) (x : ChmX) : (s.setChm h x).halls = s.halls := rfl
@[simp] theorem State.setChm_ssis (h : Nat) (x : ChmX) : (s.setChm h x).ssis = s.ssis := rfl
@[simp] theorem State.setChm_cams (h : Nat) (x : ChmX) : (s.setChm h x).cams = s.cams := rfl
@[simp] theorem State.setChm_isps (h : Nat) (x : ChmX) : (s.setChm h x).isps = s.isps := rfl
@[simp] theorem State.setChm_latches (h : Nat) (x : ChmX) : (s.setChm h x).latches = s.latches := rfl
@[simp] theorem State.setChm_tim (h : Nat) (x : ChmX) : (s.setChm h x).tim = s.tim := rfl
@[simp] theorem State.setChm_linksLost (h : Nat) (x : ChmX) : (s.setChm h x).linksLost = s.linksLost := rfl
@[simp] theorem State.setChm_mode (h : Nat) (x : ChmX) : (s.setChm h x).mode = s.mode := rfl
@[simp] theorem State.setChm_hostId (h : Nat) (x : ChmX) : (s.setChm h x).hostId = s.hostId := rfl
@[simp] theorem State.setChm_attachDue (h : Nat) (x : ChmX) : (s.setChm h x).attachDue = s.attachDue := rfl
@[simp] theorem State.setChm_up (h : Nat) (x : ChmX) : (s.setChm h x).up = s.up := rfl
@[simp] theorem State.setChm_upSince (h : Nat) (x : ChmX) : (s.setChm h x).upSince = s.upSince := rfl
@[simp] theorem State.setChm_posted (h : Nat) (x : ChmX) : (s.setChm h x).posted = s.posted := rfl
@[simp] theorem State.setChm_portOpen (h : Nat) (x : ChmX) : (s.setChm h x).portOpen = s.portOpen := rfl
@[simp] theorem State.setChm_mbxs (h : Nat) (x : ChmX) : (s.setChm h x).mbxs = s.mbxs := rfl
@[simp] theorem State.setChm_dops (h : Nat) (x : ChmX) : (s.setChm h x).dops = s.dops := rfl
@[simp] theorem State.setChm_paused (h : Nat) (x : ChmX) : (s.setChm h x).paused = s.paused := rfl
@[simp] theorem State.setChm_i2cs (h : Nat) (x : ChmX) : (s.setChm h x).i2cs = s.i2cs := rfl
@[simp] theorem State.setChm_arp (h : Nat) (x : ChmX) : (s.setChm h x).arp = s.arp := rfl
@[simp] theorem State.setChm_arpHeld (h : Nat) (x : ChmX) : (s.setChm h x).arpHeld = s.arpHeld := rfl
@[simp] theorem State.setChm_cals (h : Nat) (x : ChmX) : (s.setChm h x).cals = s.cals := rfl
@[simp] theorem State.setChm_upd (h : Nat) (x : ChmX) : (s.setChm h x).upd = s.upd := rfl
@[simp] theorem State.setChm_leadSel (h : Nat) (x : ChmX) : (s.setChm h x).leadSel = s.leadSel := rfl
@[simp] theorem State.setChm_absent (h : Nat) (x : ChmX) : (s.setChm h x).absent = s.absent := rfl
@[simp] theorem State.setChm_resetDue (h : Nat) (x : ChmX) : (s.setChm h x).resetDue = s.resetDue := rfl
@[simp] theorem State.setChm_vauxLow (h : Nat) (x : ChmX) : (s.setChm h x).vauxLow = s.vauxLow := rfl
@[simp] theorem State.setChm_alone (h : Nat) (x : ChmX) : (s.setChm h x).alone = s.alone := rfl
@[simp] theorem State.setChm_geo (h : Nat) (x : ChmX) : (s.setChm h x).geo = s.geo := rfl
@[simp] theorem State.setChm_geoRes (h : Nat) (x : ChmX) : (s.setChm h x).geoRes = s.geoRes := rfl
@[simp] theorem State.setChm_boot (h : Nat) (x : ChmX) : (s.setChm h x).boot = s.boot := rfl
@[simp] theorem State.setChm_tap (h : Nat) (x : ChmX) : (s.setChm h x).tap = s.tap := rfl
@[simp] theorem State.setChm_junior (h : Nat) (x : ChmX) : (s.setChm h x).junior = s.junior := rfl
@[simp] theorem State.setMbx_pending (c : Nat) (x : MbxX) : (s.setMbx c x).pending = s.pending := rfl
@[simp] theorem State.setMbx_part (c : Nat) (x : MbxX) : (s.setMbx c x).part = s.part := rfl
@[simp] theorem State.setMbx_now (c : Nat) (x : MbxX) : (s.setMbx c x).now = s.now := rfl
@[simp] theorem State.setMbx_freeCtr (c : Nat) (x : MbxX) : (s.setMbx c x).freeCtr = s.freeCtr := rfl
@[simp] theorem State.setMbx_out (c : Nat) (x : MbxX) : (s.setMbx c x).out = s.out := rfl
@[simp] theorem State.setMbx_regs (c : Nat) (x : MbxX) : (s.setMbx c x).regs = s.regs := rfl
@[simp] theorem State.setMbx_dram (c : Nat) (x : MbxX) : (s.setMbx c x).dram = s.dram := rfl
@[simp] theorem State.setMbx_sev (c : Nat) (x : MbxX) : (s.setMbx c x).sev = s.sev := rfl
@[simp] theorem State.setMbx_lanes (c : Nat) (x : MbxX) : (s.setMbx c x).lanes = s.lanes := rfl
@[simp] theorem State.setMbx_gors (c : Nat) (x : MbxX) : (s.setMbx c x).gors = s.gors := rfl
@[simp] theorem State.setMbx_basins (c : Nat) (x : MbxX) : (s.setMbx c x).basins = s.basins := rfl
@[simp] theorem State.setMbx_lbs (c : Nat) (x : MbxX) : (s.setMbx c x).lbs = s.lbs := rfl
@[simp] theorem State.setMbx_flues (c : Nat) (x : MbxX) : (s.setMbx c x).flues = s.flues := rfl
@[simp] theorem State.setMbx_flash (c : Nat) (x : MbxX) : (s.setMbx c x).flash = s.flash := rfl
@[simp] theorem State.setMbx_flash2 (c : Nat) (x : MbxX) : (s.setMbx c x).flash2 = s.flash2 := rfl
@[simp] theorem State.setMbx_crown (c : Nat) (x : MbxX) : (s.setMbx c x).crown = s.crown := rfl
@[simp] theorem State.setMbx_fwQueue (c : Nat) (x : MbxX) : (s.setMbx c x).fwQueue = s.fwQueue := rfl
@[simp] theorem State.setMbx_fwSevMin (c : Nat) (x : MbxX) : (s.setMbx c x).fwSevMin = s.fwSevMin := rfl
@[simp] theorem State.setMbx_fwFamilies (c : Nat) (x : MbxX) : (s.setMbx c x).fwFamilies = s.fwFamilies := rfl
@[simp] theorem State.setMbx_staged (c : Nat) (x : MbxX) : (s.setMbx c x).staged = s.staged := rfl
@[simp] theorem State.setMbx_ters (c : Nat) (x : MbxX) : (s.setMbx c x).ters = s.ters := rfl
@[simp] theorem State.setMbx_fbxs (c : Nat) (x : MbxX) : (s.setMbx c x).fbxs = s.fbxs := rfl
@[simp] theorem State.setMbx_dmps (c : Nat) (x : MbxX) : (s.setMbx c x).dmps = s.dmps := rfl
@[simp] theorem State.setMbx_drts (c : Nat) (x : MbxX) : (s.setMbx c x).drts = s.drts := rfl
@[simp] theorem State.setMbx_grts (c : Nat) (x : MbxX) : (s.setMbx c x).grts = s.grts := rfl
@[simp] theorem State.setMbx_ashMap (c : Nat) (x : MbxX) : (s.setMbx c x).ashMap = s.ashMap := rfl
@[simp] theorem State.setMbx_gates (c : Nat) (x : MbxX) : (s.setMbx c x).gates = s.gates := rfl
@[simp] theorem State.setMbx_twn (c : Nat) (x : MbxX) : (s.setMbx c x).twn = s.twn := rfl
@[simp] theorem State.setMbx_axes (c : Nat) (x : MbxX) : (s.setMbx c x).axes = s.axes := rfl
@[simp] theorem State.setMbx_quads (c : Nat) (x : MbxX) : (s.setMbx c x).quads = s.quads := rfl
@[simp] theorem State.setMbx_halls (c : Nat) (x : MbxX) : (s.setMbx c x).halls = s.halls := rfl
@[simp] theorem State.setMbx_ssis (c : Nat) (x : MbxX) : (s.setMbx c x).ssis = s.ssis := rfl
@[simp] theorem State.setMbx_cams (c : Nat) (x : MbxX) : (s.setMbx c x).cams = s.cams := rfl
@[simp] theorem State.setMbx_isps (c : Nat) (x : MbxX) : (s.setMbx c x).isps = s.isps := rfl
@[simp] theorem State.setMbx_latches (c : Nat) (x : MbxX) : (s.setMbx c x).latches = s.latches := rfl
@[simp] theorem State.setMbx_tim (c : Nat) (x : MbxX) : (s.setMbx c x).tim = s.tim := rfl
@[simp] theorem State.setMbx_chms (c : Nat) (x : MbxX) : (s.setMbx c x).chms = s.chms := rfl
@[simp] theorem State.setMbx_linksLost (c : Nat) (x : MbxX) : (s.setMbx c x).linksLost = s.linksLost := rfl
@[simp] theorem State.setMbx_mode (c : Nat) (x : MbxX) : (s.setMbx c x).mode = s.mode := rfl
@[simp] theorem State.setMbx_hostId (c : Nat) (x : MbxX) : (s.setMbx c x).hostId = s.hostId := rfl
@[simp] theorem State.setMbx_attachDue (c : Nat) (x : MbxX) : (s.setMbx c x).attachDue = s.attachDue := rfl
@[simp] theorem State.setMbx_up (c : Nat) (x : MbxX) : (s.setMbx c x).up = s.up := rfl
@[simp] theorem State.setMbx_upSince (c : Nat) (x : MbxX) : (s.setMbx c x).upSince = s.upSince := rfl
@[simp] theorem State.setMbx_posted (c : Nat) (x : MbxX) : (s.setMbx c x).posted = s.posted := rfl
@[simp] theorem State.setMbx_portOpen (c : Nat) (x : MbxX) : (s.setMbx c x).portOpen = s.portOpen := rfl
@[simp] theorem State.setMbx_dops (c : Nat) (x : MbxX) : (s.setMbx c x).dops = s.dops := rfl
@[simp] theorem State.setMbx_paused (c : Nat) (x : MbxX) : (s.setMbx c x).paused = s.paused := rfl
@[simp] theorem State.setMbx_i2cs (c : Nat) (x : MbxX) : (s.setMbx c x).i2cs = s.i2cs := rfl
@[simp] theorem State.setMbx_arp (c : Nat) (x : MbxX) : (s.setMbx c x).arp = s.arp := rfl
@[simp] theorem State.setMbx_arpHeld (c : Nat) (x : MbxX) : (s.setMbx c x).arpHeld = s.arpHeld := rfl
@[simp] theorem State.setMbx_cals (c : Nat) (x : MbxX) : (s.setMbx c x).cals = s.cals := rfl
@[simp] theorem State.setMbx_upd (c : Nat) (x : MbxX) : (s.setMbx c x).upd = s.upd := rfl
@[simp] theorem State.setMbx_leadSel (c : Nat) (x : MbxX) : (s.setMbx c x).leadSel = s.leadSel := rfl
@[simp] theorem State.setMbx_absent (c : Nat) (x : MbxX) : (s.setMbx c x).absent = s.absent := rfl
@[simp] theorem State.setMbx_resetDue (c : Nat) (x : MbxX) : (s.setMbx c x).resetDue = s.resetDue := rfl
@[simp] theorem State.setMbx_vauxLow (c : Nat) (x : MbxX) : (s.setMbx c x).vauxLow = s.vauxLow := rfl
@[simp] theorem State.setMbx_alone (c : Nat) (x : MbxX) : (s.setMbx c x).alone = s.alone := rfl
@[simp] theorem State.setMbx_geo (c : Nat) (x : MbxX) : (s.setMbx c x).geo = s.geo := rfl
@[simp] theorem State.setMbx_geoRes (c : Nat) (x : MbxX) : (s.setMbx c x).geoRes = s.geoRes := rfl
@[simp] theorem State.setMbx_boot (c : Nat) (x : MbxX) : (s.setMbx c x).boot = s.boot := rfl
@[simp] theorem State.setMbx_tap (c : Nat) (x : MbxX) : (s.setMbx c x).tap = s.tap := rfl
@[simp] theorem State.setMbx_junior (c : Nat) (x : MbxX) : (s.setMbx c x).junior = s.junior := rfl
@[simp] theorem State.setI2c_pending (h c : Nat) (x : I2cX) : (s.setI2c h c x).pending = s.pending := rfl
@[simp] theorem State.setI2c_part (h c : Nat) (x : I2cX) : (s.setI2c h c x).part = s.part := rfl
@[simp] theorem State.setI2c_now (h c : Nat) (x : I2cX) : (s.setI2c h c x).now = s.now := rfl
@[simp] theorem State.setI2c_freeCtr (h c : Nat) (x : I2cX) : (s.setI2c h c x).freeCtr = s.freeCtr := rfl
@[simp] theorem State.setI2c_out (h c : Nat) (x : I2cX) : (s.setI2c h c x).out = s.out := rfl
@[simp] theorem State.setI2c_regs (h c : Nat) (x : I2cX) : (s.setI2c h c x).regs = s.regs := rfl
@[simp] theorem State.setI2c_dram (h c : Nat) (x : I2cX) : (s.setI2c h c x).dram = s.dram := rfl
@[simp] theorem State.setI2c_sev (h c : Nat) (x : I2cX) : (s.setI2c h c x).sev = s.sev := rfl
@[simp] theorem State.setI2c_lanes (h c : Nat) (x : I2cX) : (s.setI2c h c x).lanes = s.lanes := rfl
@[simp] theorem State.setI2c_gors (h c : Nat) (x : I2cX) : (s.setI2c h c x).gors = s.gors := rfl
@[simp] theorem State.setI2c_basins (h c : Nat) (x : I2cX) : (s.setI2c h c x).basins = s.basins := rfl
@[simp] theorem State.setI2c_lbs (h c : Nat) (x : I2cX) : (s.setI2c h c x).lbs = s.lbs := rfl
@[simp] theorem State.setI2c_flues (h c : Nat) (x : I2cX) : (s.setI2c h c x).flues = s.flues := rfl
@[simp] theorem State.setI2c_flash (h c : Nat) (x : I2cX) : (s.setI2c h c x).flash = s.flash := rfl
@[simp] theorem State.setI2c_flash2 (h c : Nat) (x : I2cX) : (s.setI2c h c x).flash2 = s.flash2 := rfl
@[simp] theorem State.setI2c_crown (h c : Nat) (x : I2cX) : (s.setI2c h c x).crown = s.crown := rfl
@[simp] theorem State.setI2c_fwQueue (h c : Nat) (x : I2cX) : (s.setI2c h c x).fwQueue = s.fwQueue := rfl
@[simp] theorem State.setI2c_fwSevMin (h c : Nat) (x : I2cX) : (s.setI2c h c x).fwSevMin = s.fwSevMin := rfl
@[simp] theorem State.setI2c_fwFamilies (h c : Nat) (x : I2cX) : (s.setI2c h c x).fwFamilies = s.fwFamilies := rfl
@[simp] theorem State.setI2c_staged (h c : Nat) (x : I2cX) : (s.setI2c h c x).staged = s.staged := rfl
@[simp] theorem State.setI2c_ters (h c : Nat) (x : I2cX) : (s.setI2c h c x).ters = s.ters := rfl
@[simp] theorem State.setI2c_fbxs (h c : Nat) (x : I2cX) : (s.setI2c h c x).fbxs = s.fbxs := rfl
@[simp] theorem State.setI2c_dmps (h c : Nat) (x : I2cX) : (s.setI2c h c x).dmps = s.dmps := rfl
@[simp] theorem State.setI2c_drts (h c : Nat) (x : I2cX) : (s.setI2c h c x).drts = s.drts := rfl
@[simp] theorem State.setI2c_grts (h c : Nat) (x : I2cX) : (s.setI2c h c x).grts = s.grts := rfl
@[simp] theorem State.setI2c_ashMap (h c : Nat) (x : I2cX) : (s.setI2c h c x).ashMap = s.ashMap := rfl
@[simp] theorem State.setI2c_gates (h c : Nat) (x : I2cX) : (s.setI2c h c x).gates = s.gates := rfl
@[simp] theorem State.setI2c_twn (h c : Nat) (x : I2cX) : (s.setI2c h c x).twn = s.twn := rfl
@[simp] theorem State.setI2c_axes (h c : Nat) (x : I2cX) : (s.setI2c h c x).axes = s.axes := rfl
@[simp] theorem State.setI2c_quads (h c : Nat) (x : I2cX) : (s.setI2c h c x).quads = s.quads := rfl
@[simp] theorem State.setI2c_halls (h c : Nat) (x : I2cX) : (s.setI2c h c x).halls = s.halls := rfl
@[simp] theorem State.setI2c_ssis (h c : Nat) (x : I2cX) : (s.setI2c h c x).ssis = s.ssis := rfl
@[simp] theorem State.setI2c_cams (h c : Nat) (x : I2cX) : (s.setI2c h c x).cams = s.cams := rfl
@[simp] theorem State.setI2c_isps (h c : Nat) (x : I2cX) : (s.setI2c h c x).isps = s.isps := rfl
@[simp] theorem State.setI2c_latches (h c : Nat) (x : I2cX) : (s.setI2c h c x).latches = s.latches := rfl
@[simp] theorem State.setI2c_tim (h c : Nat) (x : I2cX) : (s.setI2c h c x).tim = s.tim := rfl
@[simp] theorem State.setI2c_chms (h c : Nat) (x : I2cX) : (s.setI2c h c x).chms = s.chms := rfl
@[simp] theorem State.setI2c_linksLost (h c : Nat) (x : I2cX) : (s.setI2c h c x).linksLost = s.linksLost := rfl
@[simp] theorem State.setI2c_mode (h c : Nat) (x : I2cX) : (s.setI2c h c x).mode = s.mode := rfl
@[simp] theorem State.setI2c_hostId (h c : Nat) (x : I2cX) : (s.setI2c h c x).hostId = s.hostId := rfl
@[simp] theorem State.setI2c_attachDue (h c : Nat) (x : I2cX) : (s.setI2c h c x).attachDue = s.attachDue := rfl
@[simp] theorem State.setI2c_up (h c : Nat) (x : I2cX) : (s.setI2c h c x).up = s.up := rfl
@[simp] theorem State.setI2c_upSince (h c : Nat) (x : I2cX) : (s.setI2c h c x).upSince = s.upSince := rfl
@[simp] theorem State.setI2c_posted (h c : Nat) (x : I2cX) : (s.setI2c h c x).posted = s.posted := rfl
@[simp] theorem State.setI2c_portOpen (h c : Nat) (x : I2cX) : (s.setI2c h c x).portOpen = s.portOpen := rfl
@[simp] theorem State.setI2c_mbxs (h c : Nat) (x : I2cX) : (s.setI2c h c x).mbxs = s.mbxs := rfl
@[simp] theorem State.setI2c_dops (h c : Nat) (x : I2cX) : (s.setI2c h c x).dops = s.dops := rfl
@[simp] theorem State.setI2c_paused (h c : Nat) (x : I2cX) : (s.setI2c h c x).paused = s.paused := rfl
@[simp] theorem State.setI2c_arp (h c : Nat) (x : I2cX) : (s.setI2c h c x).arp = s.arp := rfl
@[simp] theorem State.setI2c_arpHeld (h c : Nat) (x : I2cX) : (s.setI2c h c x).arpHeld = s.arpHeld := rfl
@[simp] theorem State.setI2c_cals (h c : Nat) (x : I2cX) : (s.setI2c h c x).cals = s.cals := rfl
@[simp] theorem State.setI2c_upd (h c : Nat) (x : I2cX) : (s.setI2c h c x).upd = s.upd := rfl
@[simp] theorem State.setI2c_leadSel (h c : Nat) (x : I2cX) : (s.setI2c h c x).leadSel = s.leadSel := rfl
@[simp] theorem State.setI2c_absent (h c : Nat) (x : I2cX) : (s.setI2c h c x).absent = s.absent := rfl
@[simp] theorem State.setI2c_resetDue (h c : Nat) (x : I2cX) : (s.setI2c h c x).resetDue = s.resetDue := rfl
@[simp] theorem State.setI2c_vauxLow (h c : Nat) (x : I2cX) : (s.setI2c h c x).vauxLow = s.vauxLow := rfl
@[simp] theorem State.setI2c_alone (h c : Nat) (x : I2cX) : (s.setI2c h c x).alone = s.alone := rfl
@[simp] theorem State.setI2c_geo (h c : Nat) (x : I2cX) : (s.setI2c h c x).geo = s.geo := rfl
@[simp] theorem State.setI2c_geoRes (h c : Nat) (x : I2cX) : (s.setI2c h c x).geoRes = s.geoRes := rfl
@[simp] theorem State.setI2c_boot (h c : Nat) (x : I2cX) : (s.setI2c h c x).boot = s.boot := rfl
@[simp] theorem State.setI2c_tap (h c : Nat) (x : I2cX) : (s.setI2c h c x).tap = s.tap := rfl
@[simp] theorem State.setI2c_junior (h c : Nat) (x : I2cX) : (s.setI2c h c x).junior = s.junior := rfl
@[simp] theorem State.setCal_pending (h : Nat) (x : CalX) : (s.setCal h x).pending = s.pending := rfl
@[simp] theorem State.setCal_part (h : Nat) (x : CalX) : (s.setCal h x).part = s.part := rfl
@[simp] theorem State.setCal_now (h : Nat) (x : CalX) : (s.setCal h x).now = s.now := rfl
@[simp] theorem State.setCal_freeCtr (h : Nat) (x : CalX) : (s.setCal h x).freeCtr = s.freeCtr := rfl
@[simp] theorem State.setCal_out (h : Nat) (x : CalX) : (s.setCal h x).out = s.out := rfl
@[simp] theorem State.setCal_regs (h : Nat) (x : CalX) : (s.setCal h x).regs = s.regs := rfl
@[simp] theorem State.setCal_dram (h : Nat) (x : CalX) : (s.setCal h x).dram = s.dram := rfl
@[simp] theorem State.setCal_sev (h : Nat) (x : CalX) : (s.setCal h x).sev = s.sev := rfl
@[simp] theorem State.setCal_lanes (h : Nat) (x : CalX) : (s.setCal h x).lanes = s.lanes := rfl
@[simp] theorem State.setCal_gors (h : Nat) (x : CalX) : (s.setCal h x).gors = s.gors := rfl
@[simp] theorem State.setCal_basins (h : Nat) (x : CalX) : (s.setCal h x).basins = s.basins := rfl
@[simp] theorem State.setCal_lbs (h : Nat) (x : CalX) : (s.setCal h x).lbs = s.lbs := rfl
@[simp] theorem State.setCal_flues (h : Nat) (x : CalX) : (s.setCal h x).flues = s.flues := rfl
@[simp] theorem State.setCal_flash (h : Nat) (x : CalX) : (s.setCal h x).flash = s.flash := rfl
@[simp] theorem State.setCal_flash2 (h : Nat) (x : CalX) : (s.setCal h x).flash2 = s.flash2 := rfl
@[simp] theorem State.setCal_crown (h : Nat) (x : CalX) : (s.setCal h x).crown = s.crown := rfl
@[simp] theorem State.setCal_fwQueue (h : Nat) (x : CalX) : (s.setCal h x).fwQueue = s.fwQueue := rfl
@[simp] theorem State.setCal_fwSevMin (h : Nat) (x : CalX) : (s.setCal h x).fwSevMin = s.fwSevMin := rfl
@[simp] theorem State.setCal_fwFamilies (h : Nat) (x : CalX) : (s.setCal h x).fwFamilies = s.fwFamilies := rfl
@[simp] theorem State.setCal_staged (h : Nat) (x : CalX) : (s.setCal h x).staged = s.staged := rfl
@[simp] theorem State.setCal_ters (h : Nat) (x : CalX) : (s.setCal h x).ters = s.ters := rfl
@[simp] theorem State.setCal_fbxs (h : Nat) (x : CalX) : (s.setCal h x).fbxs = s.fbxs := rfl
@[simp] theorem State.setCal_dmps (h : Nat) (x : CalX) : (s.setCal h x).dmps = s.dmps := rfl
@[simp] theorem State.setCal_drts (h : Nat) (x : CalX) : (s.setCal h x).drts = s.drts := rfl
@[simp] theorem State.setCal_grts (h : Nat) (x : CalX) : (s.setCal h x).grts = s.grts := rfl
@[simp] theorem State.setCal_ashMap (h : Nat) (x : CalX) : (s.setCal h x).ashMap = s.ashMap := rfl
@[simp] theorem State.setCal_gates (h : Nat) (x : CalX) : (s.setCal h x).gates = s.gates := rfl
@[simp] theorem State.setCal_twn (h : Nat) (x : CalX) : (s.setCal h x).twn = s.twn := rfl
@[simp] theorem State.setCal_axes (h : Nat) (x : CalX) : (s.setCal h x).axes = s.axes := rfl
@[simp] theorem State.setCal_quads (h : Nat) (x : CalX) : (s.setCal h x).quads = s.quads := rfl
@[simp] theorem State.setCal_halls (h : Nat) (x : CalX) : (s.setCal h x).halls = s.halls := rfl
@[simp] theorem State.setCal_ssis (h : Nat) (x : CalX) : (s.setCal h x).ssis = s.ssis := rfl
@[simp] theorem State.setCal_cams (h : Nat) (x : CalX) : (s.setCal h x).cams = s.cams := rfl
@[simp] theorem State.setCal_isps (h : Nat) (x : CalX) : (s.setCal h x).isps = s.isps := rfl
@[simp] theorem State.setCal_latches (h : Nat) (x : CalX) : (s.setCal h x).latches = s.latches := rfl
@[simp] theorem State.setCal_tim (h : Nat) (x : CalX) : (s.setCal h x).tim = s.tim := rfl
@[simp] theorem State.setCal_chms (h : Nat) (x : CalX) : (s.setCal h x).chms = s.chms := rfl
@[simp] theorem State.setCal_linksLost (h : Nat) (x : CalX) : (s.setCal h x).linksLost = s.linksLost := rfl
@[simp] theorem State.setCal_mode (h : Nat) (x : CalX) : (s.setCal h x).mode = s.mode := rfl
@[simp] theorem State.setCal_hostId (h : Nat) (x : CalX) : (s.setCal h x).hostId = s.hostId := rfl
@[simp] theorem State.setCal_attachDue (h : Nat) (x : CalX) : (s.setCal h x).attachDue = s.attachDue := rfl
@[simp] theorem State.setCal_up (h : Nat) (x : CalX) : (s.setCal h x).up = s.up := rfl
@[simp] theorem State.setCal_upSince (h : Nat) (x : CalX) : (s.setCal h x).upSince = s.upSince := rfl
@[simp] theorem State.setCal_posted (h : Nat) (x : CalX) : (s.setCal h x).posted = s.posted := rfl
@[simp] theorem State.setCal_portOpen (h : Nat) (x : CalX) : (s.setCal h x).portOpen = s.portOpen := rfl
@[simp] theorem State.setCal_mbxs (h : Nat) (x : CalX) : (s.setCal h x).mbxs = s.mbxs := rfl
@[simp] theorem State.setCal_dops (h : Nat) (x : CalX) : (s.setCal h x).dops = s.dops := rfl
@[simp] theorem State.setCal_paused (h : Nat) (x : CalX) : (s.setCal h x).paused = s.paused := rfl
@[simp] theorem State.setCal_i2cs (h : Nat) (x : CalX) : (s.setCal h x).i2cs = s.i2cs := rfl
@[simp] theorem State.setCal_arp (h : Nat) (x : CalX) : (s.setCal h x).arp = s.arp := rfl
@[simp] theorem State.setCal_arpHeld (h : Nat) (x : CalX) : (s.setCal h x).arpHeld = s.arpHeld := rfl
@[simp] theorem State.setCal_upd (h : Nat) (x : CalX) : (s.setCal h x).upd = s.upd := rfl
@[simp] theorem State.setCal_leadSel (h : Nat) (x : CalX) : (s.setCal h x).leadSel = s.leadSel := rfl
@[simp] theorem State.setCal_absent (h : Nat) (x : CalX) : (s.setCal h x).absent = s.absent := rfl
@[simp] theorem State.setCal_resetDue (h : Nat) (x : CalX) : (s.setCal h x).resetDue = s.resetDue := rfl
@[simp] theorem State.setCal_vauxLow (h : Nat) (x : CalX) : (s.setCal h x).vauxLow = s.vauxLow := rfl
@[simp] theorem State.setCal_alone (h : Nat) (x : CalX) : (s.setCal h x).alone = s.alone := rfl
@[simp] theorem State.setCal_geo (h : Nat) (x : CalX) : (s.setCal h x).geo = s.geo := rfl
@[simp] theorem State.setCal_geoRes (h : Nat) (x : CalX) : (s.setCal h x).geoRes = s.geoRes := rfl
@[simp] theorem State.setCal_boot (h : Nat) (x : CalX) : (s.setCal h x).boot = s.boot := rfl
@[simp] theorem State.setCal_tap (h : Nat) (x : CalX) : (s.setCal h x).tap = s.tap := rfl
@[simp] theorem State.setCal_junior (h : Nat) (x : CalX) : (s.setCal h x).junior = s.junior := rfl
@[simp] theorem State.setGrt_pending (h b : Nat) (t : Tab Nat) : (s.setGrt h b t).pending = s.pending := rfl
@[simp] theorem State.setGrt_part (h b : Nat) (t : Tab Nat) : (s.setGrt h b t).part = s.part := rfl
@[simp] theorem State.setGrt_now (h b : Nat) (t : Tab Nat) : (s.setGrt h b t).now = s.now := rfl
@[simp] theorem State.setGrt_freeCtr (h b : Nat) (t : Tab Nat) : (s.setGrt h b t).freeCtr = s.freeCtr := rfl
@[simp] theorem State.setGrt_out (h b : Nat) (t : Tab Nat) : (s.setGrt h b t).out = s.out := rfl
@[simp] theorem State.setGrt_regs (h b : Nat) (t : Tab Nat) : (s.setGrt h b t).regs = s.regs := rfl
@[simp] theorem State.setGrt_dram (h b : Nat) (t : Tab Nat) : (s.setGrt h b t).dram = s.dram := rfl
@[simp] theorem State.setGrt_sev (h b : Nat) (t : Tab Nat) : (s.setGrt h b t).sev = s.sev := rfl
@[simp] theorem State.setGrt_lanes (h b : Nat) (t : Tab Nat) : (s.setGrt h b t).lanes = s.lanes := rfl
@[simp] theorem State.setGrt_gors (h b : Nat) (t : Tab Nat) : (s.setGrt h b t).gors = s.gors := rfl
@[simp] theorem State.setGrt_basins (h b : Nat) (t : Tab Nat) : (s.setGrt h b t).basins = s.basins := rfl
@[simp] theorem State.setGrt_lbs (h b : Nat) (t : Tab Nat) : (s.setGrt h b t).lbs = s.lbs := rfl
@[simp] theorem State.setGrt_flues (h b : Nat) (t : Tab Nat) : (s.setGrt h b t).flues = s.flues := rfl
@[simp] theorem State.setGrt_flash (h b : Nat) (t : Tab Nat) : (s.setGrt h b t).flash = s.flash := rfl
@[simp] theorem State.setGrt_flash2 (h b : Nat) (t : Tab Nat) : (s.setGrt h b t).flash2 = s.flash2 := rfl
@[simp] theorem State.setGrt_crown (h b : Nat) (t : Tab Nat) : (s.setGrt h b t).crown = s.crown := rfl
@[simp] theorem State.setGrt_fwQueue (h b : Nat) (t : Tab Nat) : (s.setGrt h b t).fwQueue = s.fwQueue := rfl
@[simp] theorem State.setGrt_fwSevMin (h b : Nat) (t : Tab Nat) : (s.setGrt h b t).fwSevMin = s.fwSevMin := rfl
@[simp] theorem State.setGrt_fwFamilies (h b : Nat) (t : Tab Nat) : (s.setGrt h b t).fwFamilies = s.fwFamilies := rfl
@[simp] theorem State.setGrt_staged (h b : Nat) (t : Tab Nat) : (s.setGrt h b t).staged = s.staged := rfl
@[simp] theorem State.setGrt_ters (h b : Nat) (t : Tab Nat) : (s.setGrt h b t).ters = s.ters := rfl
@[simp] theorem State.setGrt_fbxs (h b : Nat) (t : Tab Nat) : (s.setGrt h b t).fbxs = s.fbxs := rfl
@[simp] theorem State.setGrt_dmps (h b : Nat) (t : Tab Nat) : (s.setGrt h b t).dmps = s.dmps := rfl
@[simp] theorem State.setGrt_drts (h b : Nat) (t : Tab Nat) : (s.setGrt h b t).drts = s.drts := rfl
@[simp] theorem State.setGrt_ashMap (h b : Nat) (t : Tab Nat) : (s.setGrt h b t).ashMap = s.ashMap := rfl
@[simp] theorem State.setGrt_gates (h b : Nat) (t : Tab Nat) : (s.setGrt h b t).gates = s.gates := rfl
@[simp] theorem State.setGrt_twn (h b : Nat) (t : Tab Nat) : (s.setGrt h b t).twn = s.twn := rfl
@[simp] theorem State.setGrt_axes (h b : Nat) (t : Tab Nat) : (s.setGrt h b t).axes = s.axes := rfl
@[simp] theorem State.setGrt_quads (h b : Nat) (t : Tab Nat) : (s.setGrt h b t).quads = s.quads := rfl
@[simp] theorem State.setGrt_halls (h b : Nat) (t : Tab Nat) : (s.setGrt h b t).halls = s.halls := rfl
@[simp] theorem State.setGrt_ssis (h b : Nat) (t : Tab Nat) : (s.setGrt h b t).ssis = s.ssis := rfl
@[simp] theorem State.setGrt_cams (h b : Nat) (t : Tab Nat) : (s.setGrt h b t).cams = s.cams := rfl
@[simp] theorem State.setGrt_isps (h b : Nat) (t : Tab Nat) : (s.setGrt h b t).isps = s.isps := rfl
@[simp] theorem State.setGrt_latches (h b : Nat) (t : Tab Nat) : (s.setGrt h b t).latches = s.latches := rfl
@[simp] theorem State.setGrt_tim (h b : Nat) (t : Tab Nat) : (s.setGrt h b t).tim = s.tim := rfl
@[simp] theorem State.setGrt_chms (h b : Nat) (t : Tab Nat) : (s.setGrt h b t).chms = s.chms := rfl
@[simp] theorem State.setGrt_linksLost (h b : Nat) (t : Tab Nat) : (s.setGrt h b t).linksLost = s.linksLost := rfl
@[simp] theorem State.setGrt_mode (h b : Nat) (t : Tab Nat) : (s.setGrt h b t).mode = s.mode := rfl
@[simp] theorem State.setGrt_hostId (h b : Nat) (t : Tab Nat) : (s.setGrt h b t).hostId = s.hostId := rfl
@[simp] theorem State.setGrt_attachDue (h b : Nat) (t : Tab Nat) : (s.setGrt h b t).attachDue = s.attachDue := rfl
@[simp] theorem State.setGrt_up (h b : Nat) (t : Tab Nat) : (s.setGrt h b t).up = s.up := rfl
@[simp] theorem State.setGrt_upSince (h b : Nat) (t : Tab Nat) : (s.setGrt h b t).upSince = s.upSince := rfl
@[simp] theorem State.setGrt_posted (h b : Nat) (t : Tab Nat) : (s.setGrt h b t).posted = s.posted := rfl
@[simp] theorem State.setGrt_portOpen (h b : Nat) (t : Tab Nat) : (s.setGrt h b t).portOpen = s.portOpen := rfl
@[simp] theorem State.setGrt_mbxs (h b : Nat) (t : Tab Nat) : (s.setGrt h b t).mbxs = s.mbxs := rfl
@[simp] theorem State.setGrt_dops (h b : Nat) (t : Tab Nat) : (s.setGrt h b t).dops = s.dops := rfl
@[simp] theorem State.setGrt_paused (h b : Nat) (t : Tab Nat) : (s.setGrt h b t).paused = s.paused := rfl
@[simp] theorem State.setGrt_i2cs (h b : Nat) (t : Tab Nat) : (s.setGrt h b t).i2cs = s.i2cs := rfl
@[simp] theorem State.setGrt_arp (h b : Nat) (t : Tab Nat) : (s.setGrt h b t).arp = s.arp := rfl
@[simp] theorem State.setGrt_arpHeld (h b : Nat) (t : Tab Nat) : (s.setGrt h b t).arpHeld = s.arpHeld := rfl
@[simp] theorem State.setGrt_cals (h b : Nat) (t : Tab Nat) : (s.setGrt h b t).cals = s.cals := rfl
@[simp] theorem State.setGrt_upd (h b : Nat) (t : Tab Nat) : (s.setGrt h b t).upd = s.upd := rfl
@[simp] theorem State.setGrt_leadSel (h b : Nat) (t : Tab Nat) : (s.setGrt h b t).leadSel = s.leadSel := rfl
@[simp] theorem State.setGrt_absent (h b : Nat) (t : Tab Nat) : (s.setGrt h b t).absent = s.absent := rfl
@[simp] theorem State.setGrt_resetDue (h b : Nat) (t : Tab Nat) : (s.setGrt h b t).resetDue = s.resetDue := rfl
@[simp] theorem State.setGrt_vauxLow (h b : Nat) (t : Tab Nat) : (s.setGrt h b t).vauxLow = s.vauxLow := rfl
@[simp] theorem State.setGrt_alone (h b : Nat) (t : Tab Nat) : (s.setGrt h b t).alone = s.alone := rfl
@[simp] theorem State.setGrt_geo (h b : Nat) (t : Tab Nat) : (s.setGrt h b t).geo = s.geo := rfl
@[simp] theorem State.setGrt_geoRes (h b : Nat) (t : Tab Nat) : (s.setGrt h b t).geoRes = s.geoRes := rfl
@[simp] theorem State.setGrt_boot (h b : Nat) (t : Tab Nat) : (s.setGrt h b t).boot = s.boot := rfl
@[simp] theorem State.setGrt_tap (h b : Nat) (t : Tab Nat) : (s.setGrt h b t).tap = s.tap := rfl
@[simp] theorem State.setGrt_junior (h b : Nat) (t : Tab Nat) : (s.setGrt h b t).junior = s.junior := rfl
@[simp] theorem State.setAsh_pending (h x : Nat) (e : Word) : (s.setAsh h x e).pending = s.pending := rfl
@[simp] theorem State.setAsh_part (h x : Nat) (e : Word) : (s.setAsh h x e).part = s.part := rfl
@[simp] theorem State.setAsh_now (h x : Nat) (e : Word) : (s.setAsh h x e).now = s.now := rfl
@[simp] theorem State.setAsh_freeCtr (h x : Nat) (e : Word) : (s.setAsh h x e).freeCtr = s.freeCtr := rfl
@[simp] theorem State.setAsh_out (h x : Nat) (e : Word) : (s.setAsh h x e).out = s.out := rfl
@[simp] theorem State.setAsh_regs (h x : Nat) (e : Word) : (s.setAsh h x e).regs = s.regs := rfl
@[simp] theorem State.setAsh_dram (h x : Nat) (e : Word) : (s.setAsh h x e).dram = s.dram := rfl
@[simp] theorem State.setAsh_sev (h x : Nat) (e : Word) : (s.setAsh h x e).sev = s.sev := rfl
@[simp] theorem State.setAsh_lanes (h x : Nat) (e : Word) : (s.setAsh h x e).lanes = s.lanes := rfl
@[simp] theorem State.setAsh_gors (h x : Nat) (e : Word) : (s.setAsh h x e).gors = s.gors := rfl
@[simp] theorem State.setAsh_basins (h x : Nat) (e : Word) : (s.setAsh h x e).basins = s.basins := rfl
@[simp] theorem State.setAsh_lbs (h x : Nat) (e : Word) : (s.setAsh h x e).lbs = s.lbs := rfl
@[simp] theorem State.setAsh_flues (h x : Nat) (e : Word) : (s.setAsh h x e).flues = s.flues := rfl
@[simp] theorem State.setAsh_flash (h x : Nat) (e : Word) : (s.setAsh h x e).flash = s.flash := rfl
@[simp] theorem State.setAsh_flash2 (h x : Nat) (e : Word) : (s.setAsh h x e).flash2 = s.flash2 := rfl
@[simp] theorem State.setAsh_crown (h x : Nat) (e : Word) : (s.setAsh h x e).crown = s.crown := rfl
@[simp] theorem State.setAsh_fwQueue (h x : Nat) (e : Word) : (s.setAsh h x e).fwQueue = s.fwQueue := rfl
@[simp] theorem State.setAsh_fwSevMin (h x : Nat) (e : Word) : (s.setAsh h x e).fwSevMin = s.fwSevMin := rfl
@[simp] theorem State.setAsh_fwFamilies (h x : Nat) (e : Word) : (s.setAsh h x e).fwFamilies = s.fwFamilies := rfl
@[simp] theorem State.setAsh_staged (h x : Nat) (e : Word) : (s.setAsh h x e).staged = s.staged := rfl
@[simp] theorem State.setAsh_ters (h x : Nat) (e : Word) : (s.setAsh h x e).ters = s.ters := rfl
@[simp] theorem State.setAsh_fbxs (h x : Nat) (e : Word) : (s.setAsh h x e).fbxs = s.fbxs := rfl
@[simp] theorem State.setAsh_dmps (h x : Nat) (e : Word) : (s.setAsh h x e).dmps = s.dmps := rfl
@[simp] theorem State.setAsh_drts (h x : Nat) (e : Word) : (s.setAsh h x e).drts = s.drts := rfl
@[simp] theorem State.setAsh_grts (h x : Nat) (e : Word) : (s.setAsh h x e).grts = s.grts := rfl
@[simp] theorem State.setAsh_gates (h x : Nat) (e : Word) : (s.setAsh h x e).gates = s.gates := rfl
@[simp] theorem State.setAsh_twn (h x : Nat) (e : Word) : (s.setAsh h x e).twn = s.twn := rfl
@[simp] theorem State.setAsh_axes (h x : Nat) (e : Word) : (s.setAsh h x e).axes = s.axes := rfl
@[simp] theorem State.setAsh_quads (h x : Nat) (e : Word) : (s.setAsh h x e).quads = s.quads := rfl
@[simp] theorem State.setAsh_halls (h x : Nat) (e : Word) : (s.setAsh h x e).halls = s.halls := rfl
@[simp] theorem State.setAsh_ssis (h x : Nat) (e : Word) : (s.setAsh h x e).ssis = s.ssis := rfl
@[simp] theorem State.setAsh_cams (h x : Nat) (e : Word) : (s.setAsh h x e).cams = s.cams := rfl
@[simp] theorem State.setAsh_isps (h x : Nat) (e : Word) : (s.setAsh h x e).isps = s.isps := rfl
@[simp] theorem State.setAsh_latches (h x : Nat) (e : Word) : (s.setAsh h x e).latches = s.latches := rfl
@[simp] theorem State.setAsh_tim (h x : Nat) (e : Word) : (s.setAsh h x e).tim = s.tim := rfl
@[simp] theorem State.setAsh_chms (h x : Nat) (e : Word) : (s.setAsh h x e).chms = s.chms := rfl
@[simp] theorem State.setAsh_linksLost (h x : Nat) (e : Word) : (s.setAsh h x e).linksLost = s.linksLost := rfl
@[simp] theorem State.setAsh_mode (h x : Nat) (e : Word) : (s.setAsh h x e).mode = s.mode := rfl
@[simp] theorem State.setAsh_hostId (h x : Nat) (e : Word) : (s.setAsh h x e).hostId = s.hostId := rfl
@[simp] theorem State.setAsh_attachDue (h x : Nat) (e : Word) : (s.setAsh h x e).attachDue = s.attachDue := rfl
@[simp] theorem State.setAsh_up (h x : Nat) (e : Word) : (s.setAsh h x e).up = s.up := rfl
@[simp] theorem State.setAsh_upSince (h x : Nat) (e : Word) : (s.setAsh h x e).upSince = s.upSince := rfl
@[simp] theorem State.setAsh_posted (h x : Nat) (e : Word) : (s.setAsh h x e).posted = s.posted := rfl
@[simp] theorem State.setAsh_portOpen (h x : Nat) (e : Word) : (s.setAsh h x e).portOpen = s.portOpen := rfl
@[simp] theorem State.setAsh_mbxs (h x : Nat) (e : Word) : (s.setAsh h x e).mbxs = s.mbxs := rfl
@[simp] theorem State.setAsh_dops (h x : Nat) (e : Word) : (s.setAsh h x e).dops = s.dops := rfl
@[simp] theorem State.setAsh_paused (h x : Nat) (e : Word) : (s.setAsh h x e).paused = s.paused := rfl
@[simp] theorem State.setAsh_i2cs (h x : Nat) (e : Word) : (s.setAsh h x e).i2cs = s.i2cs := rfl
@[simp] theorem State.setAsh_arp (h x : Nat) (e : Word) : (s.setAsh h x e).arp = s.arp := rfl
@[simp] theorem State.setAsh_arpHeld (h x : Nat) (e : Word) : (s.setAsh h x e).arpHeld = s.arpHeld := rfl
@[simp] theorem State.setAsh_cals (h x : Nat) (e : Word) : (s.setAsh h x e).cals = s.cals := rfl
@[simp] theorem State.setAsh_upd (h x : Nat) (e : Word) : (s.setAsh h x e).upd = s.upd := rfl
@[simp] theorem State.setAsh_leadSel (h x : Nat) (e : Word) : (s.setAsh h x e).leadSel = s.leadSel := rfl
@[simp] theorem State.setAsh_absent (h x : Nat) (e : Word) : (s.setAsh h x e).absent = s.absent := rfl
@[simp] theorem State.setAsh_resetDue (h x : Nat) (e : Word) : (s.setAsh h x e).resetDue = s.resetDue := rfl
@[simp] theorem State.setAsh_vauxLow (h x : Nat) (e : Word) : (s.setAsh h x e).vauxLow = s.vauxLow := rfl
@[simp] theorem State.setAsh_alone (h x : Nat) (e : Word) : (s.setAsh h x e).alone = s.alone := rfl
@[simp] theorem State.setAsh_geo (h x : Nat) (e : Word) : (s.setAsh h x e).geo = s.geo := rfl
@[simp] theorem State.setAsh_geoRes (h x : Nat) (e : Word) : (s.setAsh h x e).geoRes = s.geoRes := rfl
@[simp] theorem State.setAsh_boot (h x : Nat) (e : Word) : (s.setAsh h x e).boot = s.boot := rfl
@[simp] theorem State.setAsh_tap (h x : Nat) (e : Word) : (s.setAsh h x e).tap = s.tap := rfl
@[simp] theorem State.setAsh_junior (h x : Nat) (e : Word) : (s.setAsh h x e).junior = s.junior := rfl
@[simp] theorem State.setStg_pending (h i blk w : Nat) (v : Word) : (s.setStg h i blk w v).pending = s.pending := rfl
@[simp] theorem State.setStg_part (h i blk w : Nat) (v : Word) : (s.setStg h i blk w v).part = s.part := rfl
@[simp] theorem State.setStg_now (h i blk w : Nat) (v : Word) : (s.setStg h i blk w v).now = s.now := rfl
@[simp] theorem State.setStg_freeCtr (h i blk w : Nat) (v : Word) : (s.setStg h i blk w v).freeCtr = s.freeCtr := rfl
@[simp] theorem State.setStg_out (h i blk w : Nat) (v : Word) : (s.setStg h i blk w v).out = s.out := rfl
@[simp] theorem State.setStg_regs (h i blk w : Nat) (v : Word) : (s.setStg h i blk w v).regs = s.regs := rfl
@[simp] theorem State.setStg_dram (h i blk w : Nat) (v : Word) : (s.setStg h i blk w v).dram = s.dram := rfl
@[simp] theorem State.setStg_sev (h i blk w : Nat) (v : Word) : (s.setStg h i blk w v).sev = s.sev := rfl
@[simp] theorem State.setStg_lanes (h i blk w : Nat) (v : Word) : (s.setStg h i blk w v).lanes = s.lanes := rfl
@[simp] theorem State.setStg_gors (h i blk w : Nat) (v : Word) : (s.setStg h i blk w v).gors = s.gors := rfl
@[simp] theorem State.setStg_basins (h i blk w : Nat) (v : Word) : (s.setStg h i blk w v).basins = s.basins := rfl
@[simp] theorem State.setStg_lbs (h i blk w : Nat) (v : Word) : (s.setStg h i blk w v).lbs = s.lbs := rfl
@[simp] theorem State.setStg_flues (h i blk w : Nat) (v : Word) : (s.setStg h i blk w v).flues = s.flues := rfl
@[simp] theorem State.setStg_flash (h i blk w : Nat) (v : Word) : (s.setStg h i blk w v).flash = s.flash := rfl
@[simp] theorem State.setStg_flash2 (h i blk w : Nat) (v : Word) : (s.setStg h i blk w v).flash2 = s.flash2 := rfl
@[simp] theorem State.setStg_crown (h i blk w : Nat) (v : Word) : (s.setStg h i blk w v).crown = s.crown := rfl
@[simp] theorem State.setStg_fwQueue (h i blk w : Nat) (v : Word) : (s.setStg h i blk w v).fwQueue = s.fwQueue := rfl
@[simp] theorem State.setStg_fwSevMin (h i blk w : Nat) (v : Word) : (s.setStg h i blk w v).fwSevMin = s.fwSevMin := rfl
@[simp] theorem State.setStg_fwFamilies (h i blk w : Nat) (v : Word) : (s.setStg h i blk w v).fwFamilies = s.fwFamilies := rfl
@[simp] theorem State.setStg_ters (h i blk w : Nat) (v : Word) : (s.setStg h i blk w v).ters = s.ters := rfl
@[simp] theorem State.setStg_fbxs (h i blk w : Nat) (v : Word) : (s.setStg h i blk w v).fbxs = s.fbxs := rfl
@[simp] theorem State.setStg_dmps (h i blk w : Nat) (v : Word) : (s.setStg h i blk w v).dmps = s.dmps := rfl
@[simp] theorem State.setStg_drts (h i blk w : Nat) (v : Word) : (s.setStg h i blk w v).drts = s.drts := rfl
@[simp] theorem State.setStg_grts (h i blk w : Nat) (v : Word) : (s.setStg h i blk w v).grts = s.grts := rfl
@[simp] theorem State.setStg_ashMap (h i blk w : Nat) (v : Word) : (s.setStg h i blk w v).ashMap = s.ashMap := rfl
@[simp] theorem State.setStg_gates (h i blk w : Nat) (v : Word) : (s.setStg h i blk w v).gates = s.gates := rfl
@[simp] theorem State.setStg_twn (h i blk w : Nat) (v : Word) : (s.setStg h i blk w v).twn = s.twn := rfl
@[simp] theorem State.setStg_axes (h i blk w : Nat) (v : Word) : (s.setStg h i blk w v).axes = s.axes := rfl
@[simp] theorem State.setStg_quads (h i blk w : Nat) (v : Word) : (s.setStg h i blk w v).quads = s.quads := rfl
@[simp] theorem State.setStg_halls (h i blk w : Nat) (v : Word) : (s.setStg h i blk w v).halls = s.halls := rfl
@[simp] theorem State.setStg_ssis (h i blk w : Nat) (v : Word) : (s.setStg h i blk w v).ssis = s.ssis := rfl
@[simp] theorem State.setStg_cams (h i blk w : Nat) (v : Word) : (s.setStg h i blk w v).cams = s.cams := rfl
@[simp] theorem State.setStg_isps (h i blk w : Nat) (v : Word) : (s.setStg h i blk w v).isps = s.isps := rfl
@[simp] theorem State.setStg_latches (h i blk w : Nat) (v : Word) : (s.setStg h i blk w v).latches = s.latches := rfl
@[simp] theorem State.setStg_tim (h i blk w : Nat) (v : Word) : (s.setStg h i blk w v).tim = s.tim := rfl
@[simp] theorem State.setStg_chms (h i blk w : Nat) (v : Word) : (s.setStg h i blk w v).chms = s.chms := rfl
@[simp] theorem State.setStg_linksLost (h i blk w : Nat) (v : Word) : (s.setStg h i blk w v).linksLost = s.linksLost := rfl
@[simp] theorem State.setStg_mode (h i blk w : Nat) (v : Word) : (s.setStg h i blk w v).mode = s.mode := rfl
@[simp] theorem State.setStg_hostId (h i blk w : Nat) (v : Word) : (s.setStg h i blk w v).hostId = s.hostId := rfl
@[simp] theorem State.setStg_attachDue (h i blk w : Nat) (v : Word) : (s.setStg h i blk w v).attachDue = s.attachDue := rfl
@[simp] theorem State.setStg_up (h i blk w : Nat) (v : Word) : (s.setStg h i blk w v).up = s.up := rfl
@[simp] theorem State.setStg_upSince (h i blk w : Nat) (v : Word) : (s.setStg h i blk w v).upSince = s.upSince := rfl
@[simp] theorem State.setStg_posted (h i blk w : Nat) (v : Word) : (s.setStg h i blk w v).posted = s.posted := rfl
@[simp] theorem State.setStg_portOpen (h i blk w : Nat) (v : Word) : (s.setStg h i blk w v).portOpen = s.portOpen := rfl
@[simp] theorem State.setStg_mbxs (h i blk w : Nat) (v : Word) : (s.setStg h i blk w v).mbxs = s.mbxs := rfl
@[simp] theorem State.setStg_dops (h i blk w : Nat) (v : Word) : (s.setStg h i blk w v).dops = s.dops := rfl
@[simp] theorem State.setStg_paused (h i blk w : Nat) (v : Word) : (s.setStg h i blk w v).paused = s.paused := rfl
@[simp] theorem State.setStg_i2cs (h i blk w : Nat) (v : Word) : (s.setStg h i blk w v).i2cs = s.i2cs := rfl
@[simp] theorem State.setStg_arp (h i blk w : Nat) (v : Word) : (s.setStg h i blk w v).arp = s.arp := rfl
@[simp] theorem State.setStg_arpHeld (h i blk w : Nat) (v : Word) : (s.setStg h i blk w v).arpHeld = s.arpHeld := rfl
@[simp] theorem State.setStg_cals (h i blk w : Nat) (v : Word) : (s.setStg h i blk w v).cals = s.cals := rfl
@[simp] theorem State.setStg_upd (h i blk w : Nat) (v : Word) : (s.setStg h i blk w v).upd = s.upd := rfl
@[simp] theorem State.setStg_leadSel (h i blk w : Nat) (v : Word) : (s.setStg h i blk w v).leadSel = s.leadSel := rfl
@[simp] theorem State.setStg_absent (h i blk w : Nat) (v : Word) : (s.setStg h i blk w v).absent = s.absent := rfl
@[simp] theorem State.setStg_resetDue (h i blk w : Nat) (v : Word) : (s.setStg h i blk w v).resetDue = s.resetDue := rfl
@[simp] theorem State.setStg_vauxLow (h i blk w : Nat) (v : Word) : (s.setStg h i blk w v).vauxLow = s.vauxLow := rfl
@[simp] theorem State.setStg_alone (h i blk w : Nat) (v : Word) : (s.setStg h i blk w v).alone = s.alone := rfl
@[simp] theorem State.setStg_geo (h i blk w : Nat) (v : Word) : (s.setStg h i blk w v).geo = s.geo := rfl
@[simp] theorem State.setStg_geoRes (h i blk w : Nat) (v : Word) : (s.setStg h i blk w v).geoRes = s.geoRes := rfl
@[simp] theorem State.setStg_boot (h i blk w : Nat) (v : Word) : (s.setStg h i blk w v).boot = s.boot := rfl
@[simp] theorem State.setStg_tap (h i blk w : Nat) (v : Word) : (s.setStg h i blk w v).tap = s.tap := rfl
@[simp] theorem State.setStg_junior (h i blk w : Nat) (v : Word) : (s.setStg h i blk w v).junior = s.junior := rfl

/-! ### Accessors -/

@[simp] theorem State.wr_acc_dread (h i blk w : Nat) (v : Word) (h2 a2 : Nat) : (s.wr h i blk w v).dread h2 a2 = s.dread h2 a2 := rfl
@[simp] theorem State.wr_acc_fread (h i blk w : Nat) (v : Word) (a2 : Nat) : (s.wr h i blk w v).fread a2 = s.fread a2 := rfl
@[simp] theorem State.wr_acc_lane (h i blk w : Nat) (v : Word) (h2 l2 : Nat) : (s.wr h i blk w v).lane h2 l2 = s.lane h2 l2 := rfl
@[simp] theorem State.wr_acc_gor (h i blk w : Nat) (v : Word) (h2 i2 : Nat) : (s.wr h i blk w v).gor h2 i2 = s.gor h2 i2 := rfl
@[simp] theorem State.wr_acc_bas (h i blk w : Nat) (v : Word) (h2 : Nat) : (s.wr h i blk w v).bas h2 = s.bas h2 := rfl
@[simp] theorem State.wr_acc_lbuf (h i blk w : Nat) (v : Word) (h2 k2 : Nat) : (s.wr h i blk w v).lbuf h2 k2 = s.lbuf h2 k2 := rfl
@[simp] theorem State.wr_acc_flue (h i blk w : Nat) (v : Word) (h2 q2 : Nat) : (s.wr h i blk w v).flue h2 q2 = s.flue h2 q2 := rfl
@[simp] theorem State.wr_acc_ter (h i blk w : Nat) (v : Word) (h2 : Nat) : (s.wr h i blk w v).ter h2 = s.ter h2 := rfl
@[simp] theorem State.wr_acc_fbx (h i blk w : Nat) (v : Word) (h2 p2 : Nat) : (s.wr h i blk w v).fbx h2 p2 = s.fbx h2 p2 := rfl
@[simp] theorem State.wr_acc_dmp (h i blk w : Nat) (v : Word) (h2 : Nat) : (s.wr h i blk w v).dmp h2 = s.dmp h2 := rfl
@[simp] theorem State.wr_acc_drt (h i blk w : Nat) (v : Word) (h2 : Nat) : (s.wr h i blk w v).drt h2 = s.drt h2 := rfl
@[simp] theorem State.wr_acc_axis (h i blk w : Nat) (v : Word) (a2 : Nat) : (s.wr h i blk w v).axis a2 = s.axis a2 := rfl
@[simp] theorem State.wr_acc_quad (h i blk w : Nat) (v : Word) (h2 c2 : Nat) : (s.wr h i blk w v).quad h2 c2 = s.quad h2 c2 := rfl
@[simp] theorem State.wr_acc_hall (h i blk w : Nat) (v : Word) (h2 k2 : Nat) : (s.wr h i blk w v).hall h2 k2 = s.hall h2 k2 := rfl
@[simp] theorem State.wr_acc_ssi (h i blk w : Nat) (v : Word) (h2 k2 : Nat) : (s.wr h i blk w v).ssi h2 k2 = s.ssi h2 k2 := rfl
@[simp] theorem State.wr_acc_cam (h i blk w : Nat) (v : Word) (h2 c2 : Nat) : (s.wr h i blk w v).cam h2 c2 = s.cam h2 c2 := rfl
@[simp] theorem State.wr_acc_isp (h i blk w : Nat) (v : Word) (h2 : Nat) : (s.wr h i blk w v).isp h2 = s.isp h2 := rfl
@[simp] theorem State.wr_acc_chm (h i blk w : Nat) (v : Word) (h2 : Nat) : (s.wr h i blk w v).chm h2 = s.chm h2 := rfl
@[simp] theorem State.wr_acc_mbx (h i blk w : Nat) (v : Word) (c2 : Nat) : (s.wr h i blk w v).mbx c2 = s.mbx c2 := rfl
@[simp] theorem State.wr_acc_i2c (h i blk w : Nat) (v : Word) (h2 c2 : Nat) : (s.wr h i blk w v).i2c h2 c2 = s.i2c h2 c2 := rfl
@[simp] theorem State.wr_acc_cal (h i blk w : Nat) (v : Word) (h2 : Nat) : (s.wr h i blk w v).cal h2 = s.cal h2 := rfl
@[simp] theorem State.wr_acc_grt (h i blk w : Nat) (v : Word) (h2 b2 : Nat) : (s.wr h i blk w v).grt h2 b2 = s.grt h2 b2 := rfl
@[simp] theorem State.wr_acc_ash (h i blk w : Nat) (v : Word) (h2 x2 : Nat) : (s.wr h i blk w v).ash h2 x2 = s.ash h2 x2 := rfl
@[simp] theorem State.wr_acc_stg (h i blk w : Nat) (v : Word) (h2 i2 b2 w2 : Nat) : (s.wr h i blk w v).stg h2 i2 b2 w2 = s.stg h2 i2 b2 w2 := rfl
@[simp] theorem State.wr_acc_nH (h i blk w : Nat) (v : Word) : (s.wr h i blk w v).nH = s.nH := rfl
@[simp] theorem State.wr_acc_hasH (h i blk w : Nat) (v : Word) (h2 : Nat) : (s.wr h i blk w v).hasH h2 = s.hasH h2 := rfl
@[simp] theorem State.fput_acc_dread (h i : Nat) (f : Fld) (v : Nat) (h2 a2 : Nat) : (s.fput h i f v).dread h2 a2 = s.dread h2 a2 := rfl
@[simp] theorem State.fput_acc_fread (h i : Nat) (f : Fld) (v : Nat) (a2 : Nat) : (s.fput h i f v).fread a2 = s.fread a2 := rfl
@[simp] theorem State.fput_acc_lane (h i : Nat) (f : Fld) (v : Nat) (h2 l2 : Nat) : (s.fput h i f v).lane h2 l2 = s.lane h2 l2 := rfl
@[simp] theorem State.fput_acc_gor (h i : Nat) (f : Fld) (v : Nat) (h2 i2 : Nat) : (s.fput h i f v).gor h2 i2 = s.gor h2 i2 := rfl
@[simp] theorem State.fput_acc_bas (h i : Nat) (f : Fld) (v : Nat) (h2 : Nat) : (s.fput h i f v).bas h2 = s.bas h2 := rfl
@[simp] theorem State.fput_acc_lbuf (h i : Nat) (f : Fld) (v : Nat) (h2 k2 : Nat) : (s.fput h i f v).lbuf h2 k2 = s.lbuf h2 k2 := rfl
@[simp] theorem State.fput_acc_flue (h i : Nat) (f : Fld) (v : Nat) (h2 q2 : Nat) : (s.fput h i f v).flue h2 q2 = s.flue h2 q2 := rfl
@[simp] theorem State.fput_acc_ter (h i : Nat) (f : Fld) (v : Nat) (h2 : Nat) : (s.fput h i f v).ter h2 = s.ter h2 := rfl
@[simp] theorem State.fput_acc_fbx (h i : Nat) (f : Fld) (v : Nat) (h2 p2 : Nat) : (s.fput h i f v).fbx h2 p2 = s.fbx h2 p2 := rfl
@[simp] theorem State.fput_acc_dmp (h i : Nat) (f : Fld) (v : Nat) (h2 : Nat) : (s.fput h i f v).dmp h2 = s.dmp h2 := rfl
@[simp] theorem State.fput_acc_drt (h i : Nat) (f : Fld) (v : Nat) (h2 : Nat) : (s.fput h i f v).drt h2 = s.drt h2 := rfl
@[simp] theorem State.fput_acc_axis (h i : Nat) (f : Fld) (v : Nat) (a2 : Nat) : (s.fput h i f v).axis a2 = s.axis a2 := rfl
@[simp] theorem State.fput_acc_quad (h i : Nat) (f : Fld) (v : Nat) (h2 c2 : Nat) : (s.fput h i f v).quad h2 c2 = s.quad h2 c2 := rfl
@[simp] theorem State.fput_acc_hall (h i : Nat) (f : Fld) (v : Nat) (h2 k2 : Nat) : (s.fput h i f v).hall h2 k2 = s.hall h2 k2 := rfl
@[simp] theorem State.fput_acc_ssi (h i : Nat) (f : Fld) (v : Nat) (h2 k2 : Nat) : (s.fput h i f v).ssi h2 k2 = s.ssi h2 k2 := rfl
@[simp] theorem State.fput_acc_cam (h i : Nat) (f : Fld) (v : Nat) (h2 c2 : Nat) : (s.fput h i f v).cam h2 c2 = s.cam h2 c2 := rfl
@[simp] theorem State.fput_acc_isp (h i : Nat) (f : Fld) (v : Nat) (h2 : Nat) : (s.fput h i f v).isp h2 = s.isp h2 := rfl
@[simp] theorem State.fput_acc_chm (h i : Nat) (f : Fld) (v : Nat) (h2 : Nat) : (s.fput h i f v).chm h2 = s.chm h2 := rfl
@[simp] theorem State.fput_acc_mbx (h i : Nat) (f : Fld) (v : Nat) (c2 : Nat) : (s.fput h i f v).mbx c2 = s.mbx c2 := rfl
@[simp] theorem State.fput_acc_i2c (h i : Nat) (f : Fld) (v : Nat) (h2 c2 : Nat) : (s.fput h i f v).i2c h2 c2 = s.i2c h2 c2 := rfl
@[simp] theorem State.fput_acc_cal (h i : Nat) (f : Fld) (v : Nat) (h2 : Nat) : (s.fput h i f v).cal h2 = s.cal h2 := rfl
@[simp] theorem State.fput_acc_grt (h i : Nat) (f : Fld) (v : Nat) (h2 b2 : Nat) : (s.fput h i f v).grt h2 b2 = s.grt h2 b2 := rfl
@[simp] theorem State.fput_acc_ash (h i : Nat) (f : Fld) (v : Nat) (h2 x2 : Nat) : (s.fput h i f v).ash h2 x2 = s.ash h2 x2 := rfl
@[simp] theorem State.fput_acc_stg (h i : Nat) (f : Fld) (v : Nat) (h2 i2 b2 w2 : Nat) : (s.fput h i f v).stg h2 i2 b2 w2 = s.stg h2 i2 b2 w2 := rfl
@[simp] theorem State.fput_acc_nH (h i : Nat) (f : Fld) (v : Nat) : (s.fput h i f v).nH = s.nH := rfl
@[simp] theorem State.fput_acc_hasH (h i : Nat) (f : Fld) (v : Nat) (h2 : Nat) : (s.fput h i f v).hasH h2 = s.hasH h2 := rfl
@[simp] theorem State.fputB_acc_dread (h i : Nat) (f : Fld) (b : Bool) (h2 a2 : Nat) : (s.fputB h i f b).dread h2 a2 = s.dread h2 a2 := rfl
@[simp] theorem State.fputB_acc_fread (h i : Nat) (f : Fld) (b : Bool) (a2 : Nat) : (s.fputB h i f b).fread a2 = s.fread a2 := rfl
@[simp] theorem State.fputB_acc_lane (h i : Nat) (f : Fld) (b : Bool) (h2 l2 : Nat) : (s.fputB h i f b).lane h2 l2 = s.lane h2 l2 := rfl
@[simp] theorem State.fputB_acc_gor (h i : Nat) (f : Fld) (b : Bool) (h2 i2 : Nat) : (s.fputB h i f b).gor h2 i2 = s.gor h2 i2 := rfl
@[simp] theorem State.fputB_acc_bas (h i : Nat) (f : Fld) (b : Bool) (h2 : Nat) : (s.fputB h i f b).bas h2 = s.bas h2 := rfl
@[simp] theorem State.fputB_acc_lbuf (h i : Nat) (f : Fld) (b : Bool) (h2 k2 : Nat) : (s.fputB h i f b).lbuf h2 k2 = s.lbuf h2 k2 := rfl
@[simp] theorem State.fputB_acc_flue (h i : Nat) (f : Fld) (b : Bool) (h2 q2 : Nat) : (s.fputB h i f b).flue h2 q2 = s.flue h2 q2 := rfl
@[simp] theorem State.fputB_acc_ter (h i : Nat) (f : Fld) (b : Bool) (h2 : Nat) : (s.fputB h i f b).ter h2 = s.ter h2 := rfl
@[simp] theorem State.fputB_acc_fbx (h i : Nat) (f : Fld) (b : Bool) (h2 p2 : Nat) : (s.fputB h i f b).fbx h2 p2 = s.fbx h2 p2 := rfl
@[simp] theorem State.fputB_acc_dmp (h i : Nat) (f : Fld) (b : Bool) (h2 : Nat) : (s.fputB h i f b).dmp h2 = s.dmp h2 := rfl
@[simp] theorem State.fputB_acc_drt (h i : Nat) (f : Fld) (b : Bool) (h2 : Nat) : (s.fputB h i f b).drt h2 = s.drt h2 := rfl
@[simp] theorem State.fputB_acc_axis (h i : Nat) (f : Fld) (b : Bool) (a2 : Nat) : (s.fputB h i f b).axis a2 = s.axis a2 := rfl
@[simp] theorem State.fputB_acc_quad (h i : Nat) (f : Fld) (b : Bool) (h2 c2 : Nat) : (s.fputB h i f b).quad h2 c2 = s.quad h2 c2 := rfl
@[simp] theorem State.fputB_acc_hall (h i : Nat) (f : Fld) (b : Bool) (h2 k2 : Nat) : (s.fputB h i f b).hall h2 k2 = s.hall h2 k2 := rfl
@[simp] theorem State.fputB_acc_ssi (h i : Nat) (f : Fld) (b : Bool) (h2 k2 : Nat) : (s.fputB h i f b).ssi h2 k2 = s.ssi h2 k2 := rfl
@[simp] theorem State.fputB_acc_cam (h i : Nat) (f : Fld) (b : Bool) (h2 c2 : Nat) : (s.fputB h i f b).cam h2 c2 = s.cam h2 c2 := rfl
@[simp] theorem State.fputB_acc_isp (h i : Nat) (f : Fld) (b : Bool) (h2 : Nat) : (s.fputB h i f b).isp h2 = s.isp h2 := rfl
@[simp] theorem State.fputB_acc_chm (h i : Nat) (f : Fld) (b : Bool) (h2 : Nat) : (s.fputB h i f b).chm h2 = s.chm h2 := rfl
@[simp] theorem State.fputB_acc_mbx (h i : Nat) (f : Fld) (b : Bool) (c2 : Nat) : (s.fputB h i f b).mbx c2 = s.mbx c2 := rfl
@[simp] theorem State.fputB_acc_i2c (h i : Nat) (f : Fld) (b : Bool) (h2 c2 : Nat) : (s.fputB h i f b).i2c h2 c2 = s.i2c h2 c2 := rfl
@[simp] theorem State.fputB_acc_cal (h i : Nat) (f : Fld) (b : Bool) (h2 : Nat) : (s.fputB h i f b).cal h2 = s.cal h2 := rfl
@[simp] theorem State.fputB_acc_grt (h i : Nat) (f : Fld) (b : Bool) (h2 b2 : Nat) : (s.fputB h i f b).grt h2 b2 = s.grt h2 b2 := rfl
@[simp] theorem State.fputB_acc_ash (h i : Nat) (f : Fld) (b : Bool) (h2 x2 : Nat) : (s.fputB h i f b).ash h2 x2 = s.ash h2 x2 := rfl
@[simp] theorem State.fputB_acc_stg (h i : Nat) (f : Fld) (b : Bool) (h2 i2 b2 w2 : Nat) : (s.fputB h i f b).stg h2 i2 b2 w2 = s.stg h2 i2 b2 w2 := rfl
@[simp] theorem State.fputB_acc_nH (h i : Nat) (f : Fld) (b : Bool) : (s.fputB h i f b).nH = s.nH := rfl
@[simp] theorem State.fputB_acc_hasH (h i : Nat) (f : Fld) (b : Bool) (h2 : Nat) : (s.fputB h i f b).hasH h2 = s.hasH h2 := rfl
@[simp] theorem State.put64_acc_dread (h i : Nat) (f : Fld) (v : Nat) (h2 a2 : Nat) : (s.put64 h i f v).dread h2 a2 = s.dread h2 a2 := rfl
@[simp] theorem State.put64_acc_fread (h i : Nat) (f : Fld) (v : Nat) (a2 : Nat) : (s.put64 h i f v).fread a2 = s.fread a2 := rfl
@[simp] theorem State.put64_acc_lane (h i : Nat) (f : Fld) (v : Nat) (h2 l2 : Nat) : (s.put64 h i f v).lane h2 l2 = s.lane h2 l2 := rfl
@[simp] theorem State.put64_acc_gor (h i : Nat) (f : Fld) (v : Nat) (h2 i2 : Nat) : (s.put64 h i f v).gor h2 i2 = s.gor h2 i2 := rfl
@[simp] theorem State.put64_acc_bas (h i : Nat) (f : Fld) (v : Nat) (h2 : Nat) : (s.put64 h i f v).bas h2 = s.bas h2 := rfl
@[simp] theorem State.put64_acc_lbuf (h i : Nat) (f : Fld) (v : Nat) (h2 k2 : Nat) : (s.put64 h i f v).lbuf h2 k2 = s.lbuf h2 k2 := rfl
@[simp] theorem State.put64_acc_flue (h i : Nat) (f : Fld) (v : Nat) (h2 q2 : Nat) : (s.put64 h i f v).flue h2 q2 = s.flue h2 q2 := rfl
@[simp] theorem State.put64_acc_ter (h i : Nat) (f : Fld) (v : Nat) (h2 : Nat) : (s.put64 h i f v).ter h2 = s.ter h2 := rfl
@[simp] theorem State.put64_acc_fbx (h i : Nat) (f : Fld) (v : Nat) (h2 p2 : Nat) : (s.put64 h i f v).fbx h2 p2 = s.fbx h2 p2 := rfl
@[simp] theorem State.put64_acc_dmp (h i : Nat) (f : Fld) (v : Nat) (h2 : Nat) : (s.put64 h i f v).dmp h2 = s.dmp h2 := rfl
@[simp] theorem State.put64_acc_drt (h i : Nat) (f : Fld) (v : Nat) (h2 : Nat) : (s.put64 h i f v).drt h2 = s.drt h2 := rfl
@[simp] theorem State.put64_acc_axis (h i : Nat) (f : Fld) (v : Nat) (a2 : Nat) : (s.put64 h i f v).axis a2 = s.axis a2 := rfl
@[simp] theorem State.put64_acc_quad (h i : Nat) (f : Fld) (v : Nat) (h2 c2 : Nat) : (s.put64 h i f v).quad h2 c2 = s.quad h2 c2 := rfl
@[simp] theorem State.put64_acc_hall (h i : Nat) (f : Fld) (v : Nat) (h2 k2 : Nat) : (s.put64 h i f v).hall h2 k2 = s.hall h2 k2 := rfl
@[simp] theorem State.put64_acc_ssi (h i : Nat) (f : Fld) (v : Nat) (h2 k2 : Nat) : (s.put64 h i f v).ssi h2 k2 = s.ssi h2 k2 := rfl
@[simp] theorem State.put64_acc_cam (h i : Nat) (f : Fld) (v : Nat) (h2 c2 : Nat) : (s.put64 h i f v).cam h2 c2 = s.cam h2 c2 := rfl
@[simp] theorem State.put64_acc_isp (h i : Nat) (f : Fld) (v : Nat) (h2 : Nat) : (s.put64 h i f v).isp h2 = s.isp h2 := rfl
@[simp] theorem State.put64_acc_chm (h i : Nat) (f : Fld) (v : Nat) (h2 : Nat) : (s.put64 h i f v).chm h2 = s.chm h2 := rfl
@[simp] theorem State.put64_acc_mbx (h i : Nat) (f : Fld) (v : Nat) (c2 : Nat) : (s.put64 h i f v).mbx c2 = s.mbx c2 := rfl
@[simp] theorem State.put64_acc_i2c (h i : Nat) (f : Fld) (v : Nat) (h2 c2 : Nat) : (s.put64 h i f v).i2c h2 c2 = s.i2c h2 c2 := rfl
@[simp] theorem State.put64_acc_cal (h i : Nat) (f : Fld) (v : Nat) (h2 : Nat) : (s.put64 h i f v).cal h2 = s.cal h2 := rfl
@[simp] theorem State.put64_acc_grt (h i : Nat) (f : Fld) (v : Nat) (h2 b2 : Nat) : (s.put64 h i f v).grt h2 b2 = s.grt h2 b2 := rfl
@[simp] theorem State.put64_acc_ash (h i : Nat) (f : Fld) (v : Nat) (h2 x2 : Nat) : (s.put64 h i f v).ash h2 x2 = s.ash h2 x2 := rfl
@[simp] theorem State.put64_acc_stg (h i : Nat) (f : Fld) (v : Nat) (h2 i2 b2 w2 : Nat) : (s.put64 h i f v).stg h2 i2 b2 w2 = s.stg h2 i2 b2 w2 := rfl
@[simp] theorem State.put64_acc_nH (h i : Nat) (f : Fld) (v : Nat) : (s.put64 h i f v).nH = s.nH := rfl
@[simp] theorem State.put64_acc_hasH (h i : Nat) (f : Fld) (v : Nat) (h2 : Nat) : (s.put64 h i f v).hasH h2 = s.hasH h2 := rfl
@[simp] theorem State.count_acc_dread (h i : Nat) (f : Fld) (n : Nat) (h2 a2 : Nat) : (s.count h i f n).dread h2 a2 = s.dread h2 a2 := rfl
@[simp] theorem State.count_acc_fread (h i : Nat) (f : Fld) (n : Nat) (a2 : Nat) : (s.count h i f n).fread a2 = s.fread a2 := rfl
@[simp] theorem State.count_acc_lane (h i : Nat) (f : Fld) (n : Nat) (h2 l2 : Nat) : (s.count h i f n).lane h2 l2 = s.lane h2 l2 := rfl
@[simp] theorem State.count_acc_gor (h i : Nat) (f : Fld) (n : Nat) (h2 i2 : Nat) : (s.count h i f n).gor h2 i2 = s.gor h2 i2 := rfl
@[simp] theorem State.count_acc_bas (h i : Nat) (f : Fld) (n : Nat) (h2 : Nat) : (s.count h i f n).bas h2 = s.bas h2 := rfl
@[simp] theorem State.count_acc_lbuf (h i : Nat) (f : Fld) (n : Nat) (h2 k2 : Nat) : (s.count h i f n).lbuf h2 k2 = s.lbuf h2 k2 := rfl
@[simp] theorem State.count_acc_flue (h i : Nat) (f : Fld) (n : Nat) (h2 q2 : Nat) : (s.count h i f n).flue h2 q2 = s.flue h2 q2 := rfl
@[simp] theorem State.count_acc_ter (h i : Nat) (f : Fld) (n : Nat) (h2 : Nat) : (s.count h i f n).ter h2 = s.ter h2 := rfl
@[simp] theorem State.count_acc_fbx (h i : Nat) (f : Fld) (n : Nat) (h2 p2 : Nat) : (s.count h i f n).fbx h2 p2 = s.fbx h2 p2 := rfl
@[simp] theorem State.count_acc_dmp (h i : Nat) (f : Fld) (n : Nat) (h2 : Nat) : (s.count h i f n).dmp h2 = s.dmp h2 := rfl
@[simp] theorem State.count_acc_drt (h i : Nat) (f : Fld) (n : Nat) (h2 : Nat) : (s.count h i f n).drt h2 = s.drt h2 := rfl
@[simp] theorem State.count_acc_axis (h i : Nat) (f : Fld) (n : Nat) (a2 : Nat) : (s.count h i f n).axis a2 = s.axis a2 := rfl
@[simp] theorem State.count_acc_quad (h i : Nat) (f : Fld) (n : Nat) (h2 c2 : Nat) : (s.count h i f n).quad h2 c2 = s.quad h2 c2 := rfl
@[simp] theorem State.count_acc_hall (h i : Nat) (f : Fld) (n : Nat) (h2 k2 : Nat) : (s.count h i f n).hall h2 k2 = s.hall h2 k2 := rfl
@[simp] theorem State.count_acc_ssi (h i : Nat) (f : Fld) (n : Nat) (h2 k2 : Nat) : (s.count h i f n).ssi h2 k2 = s.ssi h2 k2 := rfl
@[simp] theorem State.count_acc_cam (h i : Nat) (f : Fld) (n : Nat) (h2 c2 : Nat) : (s.count h i f n).cam h2 c2 = s.cam h2 c2 := rfl
@[simp] theorem State.count_acc_isp (h i : Nat) (f : Fld) (n : Nat) (h2 : Nat) : (s.count h i f n).isp h2 = s.isp h2 := rfl
@[simp] theorem State.count_acc_chm (h i : Nat) (f : Fld) (n : Nat) (h2 : Nat) : (s.count h i f n).chm h2 = s.chm h2 := rfl
@[simp] theorem State.count_acc_mbx (h i : Nat) (f : Fld) (n : Nat) (c2 : Nat) : (s.count h i f n).mbx c2 = s.mbx c2 := rfl
@[simp] theorem State.count_acc_i2c (h i : Nat) (f : Fld) (n : Nat) (h2 c2 : Nat) : (s.count h i f n).i2c h2 c2 = s.i2c h2 c2 := rfl
@[simp] theorem State.count_acc_cal (h i : Nat) (f : Fld) (n : Nat) (h2 : Nat) : (s.count h i f n).cal h2 = s.cal h2 := rfl
@[simp] theorem State.count_acc_grt (h i : Nat) (f : Fld) (n : Nat) (h2 b2 : Nat) : (s.count h i f n).grt h2 b2 = s.grt h2 b2 := rfl
@[simp] theorem State.count_acc_ash (h i : Nat) (f : Fld) (n : Nat) (h2 x2 : Nat) : (s.count h i f n).ash h2 x2 = s.ash h2 x2 := rfl
@[simp] theorem State.count_acc_stg (h i : Nat) (f : Fld) (n : Nat) (h2 i2 b2 w2 : Nat) : (s.count h i f n).stg h2 i2 b2 w2 = s.stg h2 i2 b2 w2 := rfl
@[simp] theorem State.count_acc_nH (h i : Nat) (f : Fld) (n : Nat) : (s.count h i f n).nH = s.nH := rfl
@[simp] theorem State.count_acc_hasH (h i : Nat) (f : Fld) (n : Nat) (h2 : Nat) : (s.count h i f n).hasH h2 = s.hasH h2 := rfl
@[simp] theorem State.wrMask_acc_dread (h i blk w : Nat) (m v : Word) (h2 a2 : Nat) : (s.wrMask h i blk w m v).dread h2 a2 = s.dread h2 a2 := rfl
@[simp] theorem State.wrMask_acc_fread (h i blk w : Nat) (m v : Word) (a2 : Nat) : (s.wrMask h i blk w m v).fread a2 = s.fread a2 := rfl
@[simp] theorem State.wrMask_acc_lane (h i blk w : Nat) (m v : Word) (h2 l2 : Nat) : (s.wrMask h i blk w m v).lane h2 l2 = s.lane h2 l2 := rfl
@[simp] theorem State.wrMask_acc_gor (h i blk w : Nat) (m v : Word) (h2 i2 : Nat) : (s.wrMask h i blk w m v).gor h2 i2 = s.gor h2 i2 := rfl
@[simp] theorem State.wrMask_acc_bas (h i blk w : Nat) (m v : Word) (h2 : Nat) : (s.wrMask h i blk w m v).bas h2 = s.bas h2 := rfl
@[simp] theorem State.wrMask_acc_lbuf (h i blk w : Nat) (m v : Word) (h2 k2 : Nat) : (s.wrMask h i blk w m v).lbuf h2 k2 = s.lbuf h2 k2 := rfl
@[simp] theorem State.wrMask_acc_flue (h i blk w : Nat) (m v : Word) (h2 q2 : Nat) : (s.wrMask h i blk w m v).flue h2 q2 = s.flue h2 q2 := rfl
@[simp] theorem State.wrMask_acc_ter (h i blk w : Nat) (m v : Word) (h2 : Nat) : (s.wrMask h i blk w m v).ter h2 = s.ter h2 := rfl
@[simp] theorem State.wrMask_acc_fbx (h i blk w : Nat) (m v : Word) (h2 p2 : Nat) : (s.wrMask h i blk w m v).fbx h2 p2 = s.fbx h2 p2 := rfl
@[simp] theorem State.wrMask_acc_dmp (h i blk w : Nat) (m v : Word) (h2 : Nat) : (s.wrMask h i blk w m v).dmp h2 = s.dmp h2 := rfl
@[simp] theorem State.wrMask_acc_drt (h i blk w : Nat) (m v : Word) (h2 : Nat) : (s.wrMask h i blk w m v).drt h2 = s.drt h2 := rfl
@[simp] theorem State.wrMask_acc_axis (h i blk w : Nat) (m v : Word) (a2 : Nat) : (s.wrMask h i blk w m v).axis a2 = s.axis a2 := rfl
@[simp] theorem State.wrMask_acc_quad (h i blk w : Nat) (m v : Word) (h2 c2 : Nat) : (s.wrMask h i blk w m v).quad h2 c2 = s.quad h2 c2 := rfl
@[simp] theorem State.wrMask_acc_hall (h i blk w : Nat) (m v : Word) (h2 k2 : Nat) : (s.wrMask h i blk w m v).hall h2 k2 = s.hall h2 k2 := rfl
@[simp] theorem State.wrMask_acc_ssi (h i blk w : Nat) (m v : Word) (h2 k2 : Nat) : (s.wrMask h i blk w m v).ssi h2 k2 = s.ssi h2 k2 := rfl
@[simp] theorem State.wrMask_acc_cam (h i blk w : Nat) (m v : Word) (h2 c2 : Nat) : (s.wrMask h i blk w m v).cam h2 c2 = s.cam h2 c2 := rfl
@[simp] theorem State.wrMask_acc_isp (h i blk w : Nat) (m v : Word) (h2 : Nat) : (s.wrMask h i blk w m v).isp h2 = s.isp h2 := rfl
@[simp] theorem State.wrMask_acc_chm (h i blk w : Nat) (m v : Word) (h2 : Nat) : (s.wrMask h i blk w m v).chm h2 = s.chm h2 := rfl
@[simp] theorem State.wrMask_acc_mbx (h i blk w : Nat) (m v : Word) (c2 : Nat) : (s.wrMask h i blk w m v).mbx c2 = s.mbx c2 := rfl
@[simp] theorem State.wrMask_acc_i2c (h i blk w : Nat) (m v : Word) (h2 c2 : Nat) : (s.wrMask h i blk w m v).i2c h2 c2 = s.i2c h2 c2 := rfl
@[simp] theorem State.wrMask_acc_cal (h i blk w : Nat) (m v : Word) (h2 : Nat) : (s.wrMask h i blk w m v).cal h2 = s.cal h2 := rfl
@[simp] theorem State.wrMask_acc_grt (h i blk w : Nat) (m v : Word) (h2 b2 : Nat) : (s.wrMask h i blk w m v).grt h2 b2 = s.grt h2 b2 := rfl
@[simp] theorem State.wrMask_acc_ash (h i blk w : Nat) (m v : Word) (h2 x2 : Nat) : (s.wrMask h i blk w m v).ash h2 x2 = s.ash h2 x2 := rfl
@[simp] theorem State.wrMask_acc_stg (h i blk w : Nat) (m v : Word) (h2 i2 b2 w2 : Nat) : (s.wrMask h i blk w m v).stg h2 i2 b2 w2 = s.stg h2 i2 b2 w2 := rfl
@[simp] theorem State.wrMask_acc_nH (h i blk w : Nat) (m v : Word) : (s.wrMask h i blk w m v).nH = s.nH := rfl
@[simp] theorem State.wrMask_acc_hasH (h i blk w : Nat) (m v : Word) (h2 : Nat) : (s.wrMask h i blk w m v).hasH h2 = s.hasH h2 := rfl
@[simp] theorem State.dwrite_acc_rd (h a : Nat) (b : Byte) (h2 i2 b2 w2 : Nat) : (s.dwrite h a b).rd h2 i2 b2 w2 = s.rd h2 i2 b2 w2 := rfl
@[simp] theorem State.dwrite_acc_fget (h a : Nat) (b : Byte) (h2 i2 : Nat) (f2 : Fld) : (s.dwrite h a b).fget h2 i2 f2 = s.fget h2 i2 f2 := rfl
@[simp] theorem State.dwrite_acc_fon (h a : Nat) (b : Byte) (h2 i2 : Nat) (f2 : Fld) : (s.dwrite h a b).fon h2 i2 f2 = s.fon h2 i2 f2 := rfl
@[simp] theorem State.dwrite_acc_sget (h a : Nat) (b : Byte) (h2 i2 : Nat) (f2 : Fld) : (s.dwrite h a b).sget h2 i2 f2 = s.sget h2 i2 f2 := rfl
@[simp] theorem State.dwrite_acc_get64 (h a : Nat) (b : Byte) (h2 i2 : Nat) (f2 : Fld) : (s.dwrite h a b).get64 h2 i2 f2 = s.get64 h2 i2 f2 := rfl
@[simp] theorem State.dwrite_acc_fread (h a : Nat) (b : Byte) (a2 : Nat) : (s.dwrite h a b).fread a2 = s.fread a2 := rfl
@[simp] theorem State.dwrite_acc_lane (h a : Nat) (b : Byte) (h2 l2 : Nat) : (s.dwrite h a b).lane h2 l2 = s.lane h2 l2 := rfl
@[simp] theorem State.dwrite_acc_gor (h a : Nat) (b : Byte) (h2 i2 : Nat) : (s.dwrite h a b).gor h2 i2 = s.gor h2 i2 := rfl
@[simp] theorem State.dwrite_acc_bas (h a : Nat) (b : Byte) (h2 : Nat) : (s.dwrite h a b).bas h2 = s.bas h2 := rfl
@[simp] theorem State.dwrite_acc_lbuf (h a : Nat) (b : Byte) (h2 k2 : Nat) : (s.dwrite h a b).lbuf h2 k2 = s.lbuf h2 k2 := rfl
@[simp] theorem State.dwrite_acc_flue (h a : Nat) (b : Byte) (h2 q2 : Nat) : (s.dwrite h a b).flue h2 q2 = s.flue h2 q2 := rfl
@[simp] theorem State.dwrite_acc_ter (h a : Nat) (b : Byte) (h2 : Nat) : (s.dwrite h a b).ter h2 = s.ter h2 := rfl
@[simp] theorem State.dwrite_acc_fbx (h a : Nat) (b : Byte) (h2 p2 : Nat) : (s.dwrite h a b).fbx h2 p2 = s.fbx h2 p2 := rfl
@[simp] theorem State.dwrite_acc_dmp (h a : Nat) (b : Byte) (h2 : Nat) : (s.dwrite h a b).dmp h2 = s.dmp h2 := rfl
@[simp] theorem State.dwrite_acc_drt (h a : Nat) (b : Byte) (h2 : Nat) : (s.dwrite h a b).drt h2 = s.drt h2 := rfl
@[simp] theorem State.dwrite_acc_axis (h a : Nat) (b : Byte) (a2 : Nat) : (s.dwrite h a b).axis a2 = s.axis a2 := rfl
@[simp] theorem State.dwrite_acc_quad (h a : Nat) (b : Byte) (h2 c2 : Nat) : (s.dwrite h a b).quad h2 c2 = s.quad h2 c2 := rfl
@[simp] theorem State.dwrite_acc_hall (h a : Nat) (b : Byte) (h2 k2 : Nat) : (s.dwrite h a b).hall h2 k2 = s.hall h2 k2 := rfl
@[simp] theorem State.dwrite_acc_ssi (h a : Nat) (b : Byte) (h2 k2 : Nat) : (s.dwrite h a b).ssi h2 k2 = s.ssi h2 k2 := rfl
@[simp] theorem State.dwrite_acc_cam (h a : Nat) (b : Byte) (h2 c2 : Nat) : (s.dwrite h a b).cam h2 c2 = s.cam h2 c2 := rfl
@[simp] theorem State.dwrite_acc_isp (h a : Nat) (b : Byte) (h2 : Nat) : (s.dwrite h a b).isp h2 = s.isp h2 := rfl
@[simp] theorem State.dwrite_acc_chm (h a : Nat) (b : Byte) (h2 : Nat) : (s.dwrite h a b).chm h2 = s.chm h2 := rfl
@[simp] theorem State.dwrite_acc_mbx (h a : Nat) (b : Byte) (c2 : Nat) : (s.dwrite h a b).mbx c2 = s.mbx c2 := rfl
@[simp] theorem State.dwrite_acc_i2c (h a : Nat) (b : Byte) (h2 c2 : Nat) : (s.dwrite h a b).i2c h2 c2 = s.i2c h2 c2 := rfl
@[simp] theorem State.dwrite_acc_cal (h a : Nat) (b : Byte) (h2 : Nat) : (s.dwrite h a b).cal h2 = s.cal h2 := rfl
@[simp] theorem State.dwrite_acc_grt (h a : Nat) (b : Byte) (h2 b2 : Nat) : (s.dwrite h a b).grt h2 b2 = s.grt h2 b2 := rfl
@[simp] theorem State.dwrite_acc_ash (h a : Nat) (b : Byte) (h2 x2 : Nat) : (s.dwrite h a b).ash h2 x2 = s.ash h2 x2 := rfl
@[simp] theorem State.dwrite_acc_stg (h a : Nat) (b : Byte) (h2 i2 b2 w2 : Nat) : (s.dwrite h a b).stg h2 i2 b2 w2 = s.stg h2 i2 b2 w2 := rfl
@[simp] theorem State.dwrite_acc_nH (h a : Nat) (b : Byte) : (s.dwrite h a b).nH = s.nH := rfl
@[simp] theorem State.dwrite_acc_hasH (h a : Nat) (b : Byte) (h2 : Nat) : (s.dwrite h a b).hasH h2 = s.hasH h2 := rfl
@[simp] theorem State.fwrite_acc_rd (a : Nat) (b : Byte) (h2 i2 b2 w2 : Nat) : (s.fwrite a b).rd h2 i2 b2 w2 = s.rd h2 i2 b2 w2 := rfl
@[simp] theorem State.fwrite_acc_fget (a : Nat) (b : Byte) (h2 i2 : Nat) (f2 : Fld) : (s.fwrite a b).fget h2 i2 f2 = s.fget h2 i2 f2 := rfl
@[simp] theorem State.fwrite_acc_fon (a : Nat) (b : Byte) (h2 i2 : Nat) (f2 : Fld) : (s.fwrite a b).fon h2 i2 f2 = s.fon h2 i2 f2 := rfl
@[simp] theorem State.fwrite_acc_sget (a : Nat) (b : Byte) (h2 i2 : Nat) (f2 : Fld) : (s.fwrite a b).sget h2 i2 f2 = s.sget h2 i2 f2 := rfl
@[simp] theorem State.fwrite_acc_get64 (a : Nat) (b : Byte) (h2 i2 : Nat) (f2 : Fld) : (s.fwrite a b).get64 h2 i2 f2 = s.get64 h2 i2 f2 := rfl
@[simp] theorem State.fwrite_acc_dread (a : Nat) (b : Byte) (h2 a2 : Nat) : (s.fwrite a b).dread h2 a2 = s.dread h2 a2 := rfl
@[simp] theorem State.fwrite_acc_lane (a : Nat) (b : Byte) (h2 l2 : Nat) : (s.fwrite a b).lane h2 l2 = s.lane h2 l2 := rfl
@[simp] theorem State.fwrite_acc_gor (a : Nat) (b : Byte) (h2 i2 : Nat) : (s.fwrite a b).gor h2 i2 = s.gor h2 i2 := rfl
@[simp] theorem State.fwrite_acc_bas (a : Nat) (b : Byte) (h2 : Nat) : (s.fwrite a b).bas h2 = s.bas h2 := rfl
@[simp] theorem State.fwrite_acc_lbuf (a : Nat) (b : Byte) (h2 k2 : Nat) : (s.fwrite a b).lbuf h2 k2 = s.lbuf h2 k2 := rfl
@[simp] theorem State.fwrite_acc_flue (a : Nat) (b : Byte) (h2 q2 : Nat) : (s.fwrite a b).flue h2 q2 = s.flue h2 q2 := rfl
@[simp] theorem State.fwrite_acc_ter (a : Nat) (b : Byte) (h2 : Nat) : (s.fwrite a b).ter h2 = s.ter h2 := rfl
@[simp] theorem State.fwrite_acc_fbx (a : Nat) (b : Byte) (h2 p2 : Nat) : (s.fwrite a b).fbx h2 p2 = s.fbx h2 p2 := rfl
@[simp] theorem State.fwrite_acc_dmp (a : Nat) (b : Byte) (h2 : Nat) : (s.fwrite a b).dmp h2 = s.dmp h2 := rfl
@[simp] theorem State.fwrite_acc_drt (a : Nat) (b : Byte) (h2 : Nat) : (s.fwrite a b).drt h2 = s.drt h2 := rfl
@[simp] theorem State.fwrite_acc_axis (a : Nat) (b : Byte) (a2 : Nat) : (s.fwrite a b).axis a2 = s.axis a2 := rfl
@[simp] theorem State.fwrite_acc_quad (a : Nat) (b : Byte) (h2 c2 : Nat) : (s.fwrite a b).quad h2 c2 = s.quad h2 c2 := rfl
@[simp] theorem State.fwrite_acc_hall (a : Nat) (b : Byte) (h2 k2 : Nat) : (s.fwrite a b).hall h2 k2 = s.hall h2 k2 := rfl
@[simp] theorem State.fwrite_acc_ssi (a : Nat) (b : Byte) (h2 k2 : Nat) : (s.fwrite a b).ssi h2 k2 = s.ssi h2 k2 := rfl
@[simp] theorem State.fwrite_acc_cam (a : Nat) (b : Byte) (h2 c2 : Nat) : (s.fwrite a b).cam h2 c2 = s.cam h2 c2 := rfl
@[simp] theorem State.fwrite_acc_isp (a : Nat) (b : Byte) (h2 : Nat) : (s.fwrite a b).isp h2 = s.isp h2 := rfl
@[simp] theorem State.fwrite_acc_chm (a : Nat) (b : Byte) (h2 : Nat) : (s.fwrite a b).chm h2 = s.chm h2 := rfl
@[simp] theorem State.fwrite_acc_mbx (a : Nat) (b : Byte) (c2 : Nat) : (s.fwrite a b).mbx c2 = s.mbx c2 := rfl
@[simp] theorem State.fwrite_acc_i2c (a : Nat) (b : Byte) (h2 c2 : Nat) : (s.fwrite a b).i2c h2 c2 = s.i2c h2 c2 := rfl
@[simp] theorem State.fwrite_acc_cal (a : Nat) (b : Byte) (h2 : Nat) : (s.fwrite a b).cal h2 = s.cal h2 := rfl
@[simp] theorem State.fwrite_acc_grt (a : Nat) (b : Byte) (h2 b2 : Nat) : (s.fwrite a b).grt h2 b2 = s.grt h2 b2 := rfl
@[simp] theorem State.fwrite_acc_ash (a : Nat) (b : Byte) (h2 x2 : Nat) : (s.fwrite a b).ash h2 x2 = s.ash h2 x2 := rfl
@[simp] theorem State.fwrite_acc_stg (a : Nat) (b : Byte) (h2 i2 b2 w2 : Nat) : (s.fwrite a b).stg h2 i2 b2 w2 = s.stg h2 i2 b2 w2 := rfl
@[simp] theorem State.fwrite_acc_nH (a : Nat) (b : Byte) : (s.fwrite a b).nH = s.nH := rfl
@[simp] theorem State.fwrite_acc_hasH (a : Nat) (b : Byte) (h2 : Nat) : (s.fwrite a b).hasH h2 = s.hasH h2 := rfl
@[simp] theorem State.emit_acc_rd (o : Out) (h2 i2 b2 w2 : Nat) : (s.emit o).rd h2 i2 b2 w2 = s.rd h2 i2 b2 w2 := rfl
@[simp] theorem State.emit_acc_fget (o : Out) (h2 i2 : Nat) (f2 : Fld) : (s.emit o).fget h2 i2 f2 = s.fget h2 i2 f2 := rfl
@[simp] theorem State.emit_acc_fon (o : Out) (h2 i2 : Nat) (f2 : Fld) : (s.emit o).fon h2 i2 f2 = s.fon h2 i2 f2 := rfl
@[simp] theorem State.emit_acc_sget (o : Out) (h2 i2 : Nat) (f2 : Fld) : (s.emit o).sget h2 i2 f2 = s.sget h2 i2 f2 := rfl
@[simp] theorem State.emit_acc_get64 (o : Out) (h2 i2 : Nat) (f2 : Fld) : (s.emit o).get64 h2 i2 f2 = s.get64 h2 i2 f2 := rfl
@[simp] theorem State.emit_acc_dread (o : Out) (h2 a2 : Nat) : (s.emit o).dread h2 a2 = s.dread h2 a2 := rfl
@[simp] theorem State.emit_acc_fread (o : Out) (a2 : Nat) : (s.emit o).fread a2 = s.fread a2 := rfl
@[simp] theorem State.emit_acc_lane (o : Out) (h2 l2 : Nat) : (s.emit o).lane h2 l2 = s.lane h2 l2 := rfl
@[simp] theorem State.emit_acc_gor (o : Out) (h2 i2 : Nat) : (s.emit o).gor h2 i2 = s.gor h2 i2 := rfl
@[simp] theorem State.emit_acc_bas (o : Out) (h2 : Nat) : (s.emit o).bas h2 = s.bas h2 := rfl
@[simp] theorem State.emit_acc_lbuf (o : Out) (h2 k2 : Nat) : (s.emit o).lbuf h2 k2 = s.lbuf h2 k2 := rfl
@[simp] theorem State.emit_acc_flue (o : Out) (h2 q2 : Nat) : (s.emit o).flue h2 q2 = s.flue h2 q2 := rfl
@[simp] theorem State.emit_acc_ter (o : Out) (h2 : Nat) : (s.emit o).ter h2 = s.ter h2 := rfl
@[simp] theorem State.emit_acc_fbx (o : Out) (h2 p2 : Nat) : (s.emit o).fbx h2 p2 = s.fbx h2 p2 := rfl
@[simp] theorem State.emit_acc_dmp (o : Out) (h2 : Nat) : (s.emit o).dmp h2 = s.dmp h2 := rfl
@[simp] theorem State.emit_acc_drt (o : Out) (h2 : Nat) : (s.emit o).drt h2 = s.drt h2 := rfl
@[simp] theorem State.emit_acc_axis (o : Out) (a2 : Nat) : (s.emit o).axis a2 = s.axis a2 := rfl
@[simp] theorem State.emit_acc_quad (o : Out) (h2 c2 : Nat) : (s.emit o).quad h2 c2 = s.quad h2 c2 := rfl
@[simp] theorem State.emit_acc_hall (o : Out) (h2 k2 : Nat) : (s.emit o).hall h2 k2 = s.hall h2 k2 := rfl
@[simp] theorem State.emit_acc_ssi (o : Out) (h2 k2 : Nat) : (s.emit o).ssi h2 k2 = s.ssi h2 k2 := rfl
@[simp] theorem State.emit_acc_cam (o : Out) (h2 c2 : Nat) : (s.emit o).cam h2 c2 = s.cam h2 c2 := rfl
@[simp] theorem State.emit_acc_isp (o : Out) (h2 : Nat) : (s.emit o).isp h2 = s.isp h2 := rfl
@[simp] theorem State.emit_acc_chm (o : Out) (h2 : Nat) : (s.emit o).chm h2 = s.chm h2 := rfl
@[simp] theorem State.emit_acc_mbx (o : Out) (c2 : Nat) : (s.emit o).mbx c2 = s.mbx c2 := rfl
@[simp] theorem State.emit_acc_i2c (o : Out) (h2 c2 : Nat) : (s.emit o).i2c h2 c2 = s.i2c h2 c2 := rfl
@[simp] theorem State.emit_acc_cal (o : Out) (h2 : Nat) : (s.emit o).cal h2 = s.cal h2 := rfl
@[simp] theorem State.emit_acc_grt (o : Out) (h2 b2 : Nat) : (s.emit o).grt h2 b2 = s.grt h2 b2 := rfl
@[simp] theorem State.emit_acc_ash (o : Out) (h2 x2 : Nat) : (s.emit o).ash h2 x2 = s.ash h2 x2 := rfl
@[simp] theorem State.emit_acc_stg (o : Out) (h2 i2 b2 w2 : Nat) : (s.emit o).stg h2 i2 b2 w2 = s.stg h2 i2 b2 w2 := rfl
@[simp] theorem State.emit_acc_nH (o : Out) : (s.emit o).nH = s.nH := rfl
@[simp] theorem State.emit_acc_hasH (o : Out) (h2 : Nat) : (s.emit o).hasH h2 = s.hasH h2 := rfl
@[simp] theorem State.emits_acc_rd (os : List Out) (h2 i2 b2 w2 : Nat) : (s.emits os).rd h2 i2 b2 w2 = s.rd h2 i2 b2 w2 := rfl
@[simp] theorem State.emits_acc_fget (os : List Out) (h2 i2 : Nat) (f2 : Fld) : (s.emits os).fget h2 i2 f2 = s.fget h2 i2 f2 := rfl
@[simp] theorem State.emits_acc_fon (os : List Out) (h2 i2 : Nat) (f2 : Fld) : (s.emits os).fon h2 i2 f2 = s.fon h2 i2 f2 := rfl
@[simp] theorem State.emits_acc_sget (os : List Out) (h2 i2 : Nat) (f2 : Fld) : (s.emits os).sget h2 i2 f2 = s.sget h2 i2 f2 := rfl
@[simp] theorem State.emits_acc_get64 (os : List Out) (h2 i2 : Nat) (f2 : Fld) : (s.emits os).get64 h2 i2 f2 = s.get64 h2 i2 f2 := rfl
@[simp] theorem State.emits_acc_dread (os : List Out) (h2 a2 : Nat) : (s.emits os).dread h2 a2 = s.dread h2 a2 := rfl
@[simp] theorem State.emits_acc_fread (os : List Out) (a2 : Nat) : (s.emits os).fread a2 = s.fread a2 := rfl
@[simp] theorem State.emits_acc_lane (os : List Out) (h2 l2 : Nat) : (s.emits os).lane h2 l2 = s.lane h2 l2 := rfl
@[simp] theorem State.emits_acc_gor (os : List Out) (h2 i2 : Nat) : (s.emits os).gor h2 i2 = s.gor h2 i2 := rfl
@[simp] theorem State.emits_acc_bas (os : List Out) (h2 : Nat) : (s.emits os).bas h2 = s.bas h2 := rfl
@[simp] theorem State.emits_acc_lbuf (os : List Out) (h2 k2 : Nat) : (s.emits os).lbuf h2 k2 = s.lbuf h2 k2 := rfl
@[simp] theorem State.emits_acc_flue (os : List Out) (h2 q2 : Nat) : (s.emits os).flue h2 q2 = s.flue h2 q2 := rfl
@[simp] theorem State.emits_acc_ter (os : List Out) (h2 : Nat) : (s.emits os).ter h2 = s.ter h2 := rfl
@[simp] theorem State.emits_acc_fbx (os : List Out) (h2 p2 : Nat) : (s.emits os).fbx h2 p2 = s.fbx h2 p2 := rfl
@[simp] theorem State.emits_acc_dmp (os : List Out) (h2 : Nat) : (s.emits os).dmp h2 = s.dmp h2 := rfl
@[simp] theorem State.emits_acc_drt (os : List Out) (h2 : Nat) : (s.emits os).drt h2 = s.drt h2 := rfl
@[simp] theorem State.emits_acc_axis (os : List Out) (a2 : Nat) : (s.emits os).axis a2 = s.axis a2 := rfl
@[simp] theorem State.emits_acc_quad (os : List Out) (h2 c2 : Nat) : (s.emits os).quad h2 c2 = s.quad h2 c2 := rfl
@[simp] theorem State.emits_acc_hall (os : List Out) (h2 k2 : Nat) : (s.emits os).hall h2 k2 = s.hall h2 k2 := rfl
@[simp] theorem State.emits_acc_ssi (os : List Out) (h2 k2 : Nat) : (s.emits os).ssi h2 k2 = s.ssi h2 k2 := rfl
@[simp] theorem State.emits_acc_cam (os : List Out) (h2 c2 : Nat) : (s.emits os).cam h2 c2 = s.cam h2 c2 := rfl
@[simp] theorem State.emits_acc_isp (os : List Out) (h2 : Nat) : (s.emits os).isp h2 = s.isp h2 := rfl
@[simp] theorem State.emits_acc_chm (os : List Out) (h2 : Nat) : (s.emits os).chm h2 = s.chm h2 := rfl
@[simp] theorem State.emits_acc_mbx (os : List Out) (c2 : Nat) : (s.emits os).mbx c2 = s.mbx c2 := rfl
@[simp] theorem State.emits_acc_i2c (os : List Out) (h2 c2 : Nat) : (s.emits os).i2c h2 c2 = s.i2c h2 c2 := rfl
@[simp] theorem State.emits_acc_cal (os : List Out) (h2 : Nat) : (s.emits os).cal h2 = s.cal h2 := rfl
@[simp] theorem State.emits_acc_grt (os : List Out) (h2 b2 : Nat) : (s.emits os).grt h2 b2 = s.grt h2 b2 := rfl
@[simp] theorem State.emits_acc_ash (os : List Out) (h2 x2 : Nat) : (s.emits os).ash h2 x2 = s.ash h2 x2 := rfl
@[simp] theorem State.emits_acc_stg (os : List Out) (h2 i2 b2 w2 : Nat) : (s.emits os).stg h2 i2 b2 w2 = s.stg h2 i2 b2 w2 := rfl
@[simp] theorem State.emits_acc_nH (os : List Out) : (s.emits os).nH = s.nH := rfl
@[simp] theorem State.emits_acc_hasH (os : List Out) (h2 : Nat) : (s.emits os).hasH h2 = s.hasH h2 := rfl
@[simp] theorem State.setLane_acc_rd (h l : Nat) (x : LaneX) (h2 i2 b2 w2 : Nat) : (s.setLane h l x).rd h2 i2 b2 w2 = s.rd h2 i2 b2 w2 := rfl
@[simp] theorem State.setLane_acc_fget (h l : Nat) (x : LaneX) (h2 i2 : Nat) (f2 : Fld) : (s.setLane h l x).fget h2 i2 f2 = s.fget h2 i2 f2 := rfl
@[simp] theorem State.setLane_acc_fon (h l : Nat) (x : LaneX) (h2 i2 : Nat) (f2 : Fld) : (s.setLane h l x).fon h2 i2 f2 = s.fon h2 i2 f2 := rfl
@[simp] theorem State.setLane_acc_sget (h l : Nat) (x : LaneX) (h2 i2 : Nat) (f2 : Fld) : (s.setLane h l x).sget h2 i2 f2 = s.sget h2 i2 f2 := rfl
@[simp] theorem State.setLane_acc_get64 (h l : Nat) (x : LaneX) (h2 i2 : Nat) (f2 : Fld) : (s.setLane h l x).get64 h2 i2 f2 = s.get64 h2 i2 f2 := rfl
@[simp] theorem State.setLane_acc_dread (h l : Nat) (x : LaneX) (h2 a2 : Nat) : (s.setLane h l x).dread h2 a2 = s.dread h2 a2 := rfl
@[simp] theorem State.setLane_acc_fread (h l : Nat) (x : LaneX) (a2 : Nat) : (s.setLane h l x).fread a2 = s.fread a2 := rfl
@[simp] theorem State.setLane_acc_gor (h l : Nat) (x : LaneX) (h2 i2 : Nat) : (s.setLane h l x).gor h2 i2 = s.gor h2 i2 := rfl
@[simp] theorem State.setLane_acc_bas (h l : Nat) (x : LaneX) (h2 : Nat) : (s.setLane h l x).bas h2 = s.bas h2 := rfl
@[simp] theorem State.setLane_acc_lbuf (h l : Nat) (x : LaneX) (h2 k2 : Nat) : (s.setLane h l x).lbuf h2 k2 = s.lbuf h2 k2 := rfl
@[simp] theorem State.setLane_acc_flue (h l : Nat) (x : LaneX) (h2 q2 : Nat) : (s.setLane h l x).flue h2 q2 = s.flue h2 q2 := rfl
@[simp] theorem State.setLane_acc_ter (h l : Nat) (x : LaneX) (h2 : Nat) : (s.setLane h l x).ter h2 = s.ter h2 := rfl
@[simp] theorem State.setLane_acc_fbx (h l : Nat) (x : LaneX) (h2 p2 : Nat) : (s.setLane h l x).fbx h2 p2 = s.fbx h2 p2 := rfl
@[simp] theorem State.setLane_acc_dmp (h l : Nat) (x : LaneX) (h2 : Nat) : (s.setLane h l x).dmp h2 = s.dmp h2 := rfl
@[simp] theorem State.setLane_acc_drt (h l : Nat) (x : LaneX) (h2 : Nat) : (s.setLane h l x).drt h2 = s.drt h2 := rfl
@[simp] theorem State.setLane_acc_axis (h l : Nat) (x : LaneX) (a2 : Nat) : (s.setLane h l x).axis a2 = s.axis a2 := rfl
@[simp] theorem State.setLane_acc_quad (h l : Nat) (x : LaneX) (h2 c2 : Nat) : (s.setLane h l x).quad h2 c2 = s.quad h2 c2 := rfl
@[simp] theorem State.setLane_acc_hall (h l : Nat) (x : LaneX) (h2 k2 : Nat) : (s.setLane h l x).hall h2 k2 = s.hall h2 k2 := rfl
@[simp] theorem State.setLane_acc_ssi (h l : Nat) (x : LaneX) (h2 k2 : Nat) : (s.setLane h l x).ssi h2 k2 = s.ssi h2 k2 := rfl
@[simp] theorem State.setLane_acc_cam (h l : Nat) (x : LaneX) (h2 c2 : Nat) : (s.setLane h l x).cam h2 c2 = s.cam h2 c2 := rfl
@[simp] theorem State.setLane_acc_isp (h l : Nat) (x : LaneX) (h2 : Nat) : (s.setLane h l x).isp h2 = s.isp h2 := rfl
@[simp] theorem State.setLane_acc_chm (h l : Nat) (x : LaneX) (h2 : Nat) : (s.setLane h l x).chm h2 = s.chm h2 := rfl
@[simp] theorem State.setLane_acc_mbx (h l : Nat) (x : LaneX) (c2 : Nat) : (s.setLane h l x).mbx c2 = s.mbx c2 := rfl
@[simp] theorem State.setLane_acc_i2c (h l : Nat) (x : LaneX) (h2 c2 : Nat) : (s.setLane h l x).i2c h2 c2 = s.i2c h2 c2 := rfl
@[simp] theorem State.setLane_acc_cal (h l : Nat) (x : LaneX) (h2 : Nat) : (s.setLane h l x).cal h2 = s.cal h2 := rfl
@[simp] theorem State.setLane_acc_grt (h l : Nat) (x : LaneX) (h2 b2 : Nat) : (s.setLane h l x).grt h2 b2 = s.grt h2 b2 := rfl
@[simp] theorem State.setLane_acc_ash (h l : Nat) (x : LaneX) (h2 x2 : Nat) : (s.setLane h l x).ash h2 x2 = s.ash h2 x2 := rfl
@[simp] theorem State.setLane_acc_stg (h l : Nat) (x : LaneX) (h2 i2 b2 w2 : Nat) : (s.setLane h l x).stg h2 i2 b2 w2 = s.stg h2 i2 b2 w2 := rfl
@[simp] theorem State.setLane_acc_nH (h l : Nat) (x : LaneX) : (s.setLane h l x).nH = s.nH := rfl
@[simp] theorem State.setLane_acc_hasH (h l : Nat) (x : LaneX) (h2 : Nat) : (s.setLane h l x).hasH h2 = s.hasH h2 := rfl
@[simp] theorem State.setGor_acc_rd (h i : Nat) (x : GorX) (h2 i2 b2 w2 : Nat) : (s.setGor h i x).rd h2 i2 b2 w2 = s.rd h2 i2 b2 w2 := rfl
@[simp] theorem State.setGor_acc_fget (h i : Nat) (x : GorX) (h2 i2 : Nat) (f2 : Fld) : (s.setGor h i x).fget h2 i2 f2 = s.fget h2 i2 f2 := rfl
@[simp] theorem State.setGor_acc_fon (h i : Nat) (x : GorX) (h2 i2 : Nat) (f2 : Fld) : (s.setGor h i x).fon h2 i2 f2 = s.fon h2 i2 f2 := rfl
@[simp] theorem State.setGor_acc_sget (h i : Nat) (x : GorX) (h2 i2 : Nat) (f2 : Fld) : (s.setGor h i x).sget h2 i2 f2 = s.sget h2 i2 f2 := rfl
@[simp] theorem State.setGor_acc_get64 (h i : Nat) (x : GorX) (h2 i2 : Nat) (f2 : Fld) : (s.setGor h i x).get64 h2 i2 f2 = s.get64 h2 i2 f2 := rfl
@[simp] theorem State.setGor_acc_dread (h i : Nat) (x : GorX) (h2 a2 : Nat) : (s.setGor h i x).dread h2 a2 = s.dread h2 a2 := rfl
@[simp] theorem State.setGor_acc_fread (h i : Nat) (x : GorX) (a2 : Nat) : (s.setGor h i x).fread a2 = s.fread a2 := rfl
@[simp] theorem State.setGor_acc_lane (h i : Nat) (x : GorX) (h2 l2 : Nat) : (s.setGor h i x).lane h2 l2 = s.lane h2 l2 := rfl
@[simp] theorem State.setGor_acc_bas (h i : Nat) (x : GorX) (h2 : Nat) : (s.setGor h i x).bas h2 = s.bas h2 := rfl
@[simp] theorem State.setGor_acc_lbuf (h i : Nat) (x : GorX) (h2 k2 : Nat) : (s.setGor h i x).lbuf h2 k2 = s.lbuf h2 k2 := rfl
@[simp] theorem State.setGor_acc_flue (h i : Nat) (x : GorX) (h2 q2 : Nat) : (s.setGor h i x).flue h2 q2 = s.flue h2 q2 := rfl
@[simp] theorem State.setGor_acc_ter (h i : Nat) (x : GorX) (h2 : Nat) : (s.setGor h i x).ter h2 = s.ter h2 := rfl
@[simp] theorem State.setGor_acc_fbx (h i : Nat) (x : GorX) (h2 p2 : Nat) : (s.setGor h i x).fbx h2 p2 = s.fbx h2 p2 := rfl
@[simp] theorem State.setGor_acc_dmp (h i : Nat) (x : GorX) (h2 : Nat) : (s.setGor h i x).dmp h2 = s.dmp h2 := rfl
@[simp] theorem State.setGor_acc_drt (h i : Nat) (x : GorX) (h2 : Nat) : (s.setGor h i x).drt h2 = s.drt h2 := rfl
@[simp] theorem State.setGor_acc_axis (h i : Nat) (x : GorX) (a2 : Nat) : (s.setGor h i x).axis a2 = s.axis a2 := rfl
@[simp] theorem State.setGor_acc_quad (h i : Nat) (x : GorX) (h2 c2 : Nat) : (s.setGor h i x).quad h2 c2 = s.quad h2 c2 := rfl
@[simp] theorem State.setGor_acc_hall (h i : Nat) (x : GorX) (h2 k2 : Nat) : (s.setGor h i x).hall h2 k2 = s.hall h2 k2 := rfl
@[simp] theorem State.setGor_acc_ssi (h i : Nat) (x : GorX) (h2 k2 : Nat) : (s.setGor h i x).ssi h2 k2 = s.ssi h2 k2 := rfl
@[simp] theorem State.setGor_acc_cam (h i : Nat) (x : GorX) (h2 c2 : Nat) : (s.setGor h i x).cam h2 c2 = s.cam h2 c2 := rfl
@[simp] theorem State.setGor_acc_isp (h i : Nat) (x : GorX) (h2 : Nat) : (s.setGor h i x).isp h2 = s.isp h2 := rfl
@[simp] theorem State.setGor_acc_chm (h i : Nat) (x : GorX) (h2 : Nat) : (s.setGor h i x).chm h2 = s.chm h2 := rfl
@[simp] theorem State.setGor_acc_mbx (h i : Nat) (x : GorX) (c2 : Nat) : (s.setGor h i x).mbx c2 = s.mbx c2 := rfl
@[simp] theorem State.setGor_acc_i2c (h i : Nat) (x : GorX) (h2 c2 : Nat) : (s.setGor h i x).i2c h2 c2 = s.i2c h2 c2 := rfl
@[simp] theorem State.setGor_acc_cal (h i : Nat) (x : GorX) (h2 : Nat) : (s.setGor h i x).cal h2 = s.cal h2 := rfl
@[simp] theorem State.setGor_acc_grt (h i : Nat) (x : GorX) (h2 b2 : Nat) : (s.setGor h i x).grt h2 b2 = s.grt h2 b2 := rfl
@[simp] theorem State.setGor_acc_ash (h i : Nat) (x : GorX) (h2 x2 : Nat) : (s.setGor h i x).ash h2 x2 = s.ash h2 x2 := rfl
@[simp] theorem State.setGor_acc_stg (h i : Nat) (x : GorX) (h2 i2 b2 w2 : Nat) : (s.setGor h i x).stg h2 i2 b2 w2 = s.stg h2 i2 b2 w2 := rfl
@[simp] theorem State.setGor_acc_nH (h i : Nat) (x : GorX) : (s.setGor h i x).nH = s.nH := rfl
@[simp] theorem State.setGor_acc_hasH (h i : Nat) (x : GorX) (h2 : Nat) : (s.setGor h i x).hasH h2 = s.hasH h2 := rfl
@[simp] theorem State.setBas_acc_rd (h : Nat) (x : BasX) (h2 i2 b2 w2 : Nat) : (s.setBas h x).rd h2 i2 b2 w2 = s.rd h2 i2 b2 w2 := rfl
@[simp] theorem State.setBas_acc_fget (h : Nat) (x : BasX) (h2 i2 : Nat) (f2 : Fld) : (s.setBas h x).fget h2 i2 f2 = s.fget h2 i2 f2 := rfl
@[simp] theorem State.setBas_acc_fon (h : Nat) (x : BasX) (h2 i2 : Nat) (f2 : Fld) : (s.setBas h x).fon h2 i2 f2 = s.fon h2 i2 f2 := rfl
@[simp] theorem State.setBas_acc_sget (h : Nat) (x : BasX) (h2 i2 : Nat) (f2 : Fld) : (s.setBas h x).sget h2 i2 f2 = s.sget h2 i2 f2 := rfl
@[simp] theorem State.setBas_acc_get64 (h : Nat) (x : BasX) (h2 i2 : Nat) (f2 : Fld) : (s.setBas h x).get64 h2 i2 f2 = s.get64 h2 i2 f2 := rfl
@[simp] theorem State.setBas_acc_dread (h : Nat) (x : BasX) (h2 a2 : Nat) : (s.setBas h x).dread h2 a2 = s.dread h2 a2 := rfl
@[simp] theorem State.setBas_acc_fread (h : Nat) (x : BasX) (a2 : Nat) : (s.setBas h x).fread a2 = s.fread a2 := rfl
@[simp] theorem State.setBas_acc_lane (h : Nat) (x : BasX) (h2 l2 : Nat) : (s.setBas h x).lane h2 l2 = s.lane h2 l2 := rfl
@[simp] theorem State.setBas_acc_gor (h : Nat) (x : BasX) (h2 i2 : Nat) : (s.setBas h x).gor h2 i2 = s.gor h2 i2 := rfl
@[simp] theorem State.setBas_acc_lbuf (h : Nat) (x : BasX) (h2 k2 : Nat) : (s.setBas h x).lbuf h2 k2 = s.lbuf h2 k2 := rfl
@[simp] theorem State.setBas_acc_flue (h : Nat) (x : BasX) (h2 q2 : Nat) : (s.setBas h x).flue h2 q2 = s.flue h2 q2 := rfl
@[simp] theorem State.setBas_acc_ter (h : Nat) (x : BasX) (h2 : Nat) : (s.setBas h x).ter h2 = s.ter h2 := rfl
@[simp] theorem State.setBas_acc_fbx (h : Nat) (x : BasX) (h2 p2 : Nat) : (s.setBas h x).fbx h2 p2 = s.fbx h2 p2 := rfl
@[simp] theorem State.setBas_acc_dmp (h : Nat) (x : BasX) (h2 : Nat) : (s.setBas h x).dmp h2 = s.dmp h2 := rfl
@[simp] theorem State.setBas_acc_drt (h : Nat) (x : BasX) (h2 : Nat) : (s.setBas h x).drt h2 = s.drt h2 := rfl
@[simp] theorem State.setBas_acc_axis (h : Nat) (x : BasX) (a2 : Nat) : (s.setBas h x).axis a2 = s.axis a2 := rfl
@[simp] theorem State.setBas_acc_quad (h : Nat) (x : BasX) (h2 c2 : Nat) : (s.setBas h x).quad h2 c2 = s.quad h2 c2 := rfl
@[simp] theorem State.setBas_acc_hall (h : Nat) (x : BasX) (h2 k2 : Nat) : (s.setBas h x).hall h2 k2 = s.hall h2 k2 := rfl
@[simp] theorem State.setBas_acc_ssi (h : Nat) (x : BasX) (h2 k2 : Nat) : (s.setBas h x).ssi h2 k2 = s.ssi h2 k2 := rfl
@[simp] theorem State.setBas_acc_cam (h : Nat) (x : BasX) (h2 c2 : Nat) : (s.setBas h x).cam h2 c2 = s.cam h2 c2 := rfl
@[simp] theorem State.setBas_acc_isp (h : Nat) (x : BasX) (h2 : Nat) : (s.setBas h x).isp h2 = s.isp h2 := rfl
@[simp] theorem State.setBas_acc_chm (h : Nat) (x : BasX) (h2 : Nat) : (s.setBas h x).chm h2 = s.chm h2 := rfl
@[simp] theorem State.setBas_acc_mbx (h : Nat) (x : BasX) (c2 : Nat) : (s.setBas h x).mbx c2 = s.mbx c2 := rfl
@[simp] theorem State.setBas_acc_i2c (h : Nat) (x : BasX) (h2 c2 : Nat) : (s.setBas h x).i2c h2 c2 = s.i2c h2 c2 := rfl
@[simp] theorem State.setBas_acc_cal (h : Nat) (x : BasX) (h2 : Nat) : (s.setBas h x).cal h2 = s.cal h2 := rfl
@[simp] theorem State.setBas_acc_grt (h : Nat) (x : BasX) (h2 b2 : Nat) : (s.setBas h x).grt h2 b2 = s.grt h2 b2 := rfl
@[simp] theorem State.setBas_acc_ash (h : Nat) (x : BasX) (h2 x2 : Nat) : (s.setBas h x).ash h2 x2 = s.ash h2 x2 := rfl
@[simp] theorem State.setBas_acc_stg (h : Nat) (x : BasX) (h2 i2 b2 w2 : Nat) : (s.setBas h x).stg h2 i2 b2 w2 = s.stg h2 i2 b2 w2 := rfl
@[simp] theorem State.setBas_acc_nH (h : Nat) (x : BasX) : (s.setBas h x).nH = s.nH := rfl
@[simp] theorem State.setBas_acc_hasH (h : Nat) (x : BasX) (h2 : Nat) : (s.setBas h x).hasH h2 = s.hasH h2 := rfl
@[simp] theorem State.setLbuf_acc_rd (h k : Nat) (x : LBuf) (h2 i2 b2 w2 : Nat) : (s.setLbuf h k x).rd h2 i2 b2 w2 = s.rd h2 i2 b2 w2 := rfl
@[simp] theorem State.setLbuf_acc_fget (h k : Nat) (x : LBuf) (h2 i2 : Nat) (f2 : Fld) : (s.setLbuf h k x).fget h2 i2 f2 = s.fget h2 i2 f2 := rfl
@[simp] theorem State.setLbuf_acc_fon (h k : Nat) (x : LBuf) (h2 i2 : Nat) (f2 : Fld) : (s.setLbuf h k x).fon h2 i2 f2 = s.fon h2 i2 f2 := rfl
@[simp] theorem State.setLbuf_acc_sget (h k : Nat) (x : LBuf) (h2 i2 : Nat) (f2 : Fld) : (s.setLbuf h k x).sget h2 i2 f2 = s.sget h2 i2 f2 := rfl
@[simp] theorem State.setLbuf_acc_get64 (h k : Nat) (x : LBuf) (h2 i2 : Nat) (f2 : Fld) : (s.setLbuf h k x).get64 h2 i2 f2 = s.get64 h2 i2 f2 := rfl
@[simp] theorem State.setLbuf_acc_dread (h k : Nat) (x : LBuf) (h2 a2 : Nat) : (s.setLbuf h k x).dread h2 a2 = s.dread h2 a2 := rfl
@[simp] theorem State.setLbuf_acc_fread (h k : Nat) (x : LBuf) (a2 : Nat) : (s.setLbuf h k x).fread a2 = s.fread a2 := rfl
@[simp] theorem State.setLbuf_acc_lane (h k : Nat) (x : LBuf) (h2 l2 : Nat) : (s.setLbuf h k x).lane h2 l2 = s.lane h2 l2 := rfl
@[simp] theorem State.setLbuf_acc_gor (h k : Nat) (x : LBuf) (h2 i2 : Nat) : (s.setLbuf h k x).gor h2 i2 = s.gor h2 i2 := rfl
@[simp] theorem State.setLbuf_acc_bas (h k : Nat) (x : LBuf) (h2 : Nat) : (s.setLbuf h k x).bas h2 = s.bas h2 := rfl
@[simp] theorem State.setLbuf_acc_flue (h k : Nat) (x : LBuf) (h2 q2 : Nat) : (s.setLbuf h k x).flue h2 q2 = s.flue h2 q2 := rfl
@[simp] theorem State.setLbuf_acc_ter (h k : Nat) (x : LBuf) (h2 : Nat) : (s.setLbuf h k x).ter h2 = s.ter h2 := rfl
@[simp] theorem State.setLbuf_acc_fbx (h k : Nat) (x : LBuf) (h2 p2 : Nat) : (s.setLbuf h k x).fbx h2 p2 = s.fbx h2 p2 := rfl
@[simp] theorem State.setLbuf_acc_dmp (h k : Nat) (x : LBuf) (h2 : Nat) : (s.setLbuf h k x).dmp h2 = s.dmp h2 := rfl
@[simp] theorem State.setLbuf_acc_drt (h k : Nat) (x : LBuf) (h2 : Nat) : (s.setLbuf h k x).drt h2 = s.drt h2 := rfl
@[simp] theorem State.setLbuf_acc_axis (h k : Nat) (x : LBuf) (a2 : Nat) : (s.setLbuf h k x).axis a2 = s.axis a2 := rfl
@[simp] theorem State.setLbuf_acc_quad (h k : Nat) (x : LBuf) (h2 c2 : Nat) : (s.setLbuf h k x).quad h2 c2 = s.quad h2 c2 := rfl
@[simp] theorem State.setLbuf_acc_hall (h k : Nat) (x : LBuf) (h2 k2 : Nat) : (s.setLbuf h k x).hall h2 k2 = s.hall h2 k2 := rfl
@[simp] theorem State.setLbuf_acc_ssi (h k : Nat) (x : LBuf) (h2 k2 : Nat) : (s.setLbuf h k x).ssi h2 k2 = s.ssi h2 k2 := rfl
@[simp] theorem State.setLbuf_acc_cam (h k : Nat) (x : LBuf) (h2 c2 : Nat) : (s.setLbuf h k x).cam h2 c2 = s.cam h2 c2 := rfl
@[simp] theorem State.setLbuf_acc_isp (h k : Nat) (x : LBuf) (h2 : Nat) : (s.setLbuf h k x).isp h2 = s.isp h2 := rfl
@[simp] theorem State.setLbuf_acc_chm (h k : Nat) (x : LBuf) (h2 : Nat) : (s.setLbuf h k x).chm h2 = s.chm h2 := rfl
@[simp] theorem State.setLbuf_acc_mbx (h k : Nat) (x : LBuf) (c2 : Nat) : (s.setLbuf h k x).mbx c2 = s.mbx c2 := rfl
@[simp] theorem State.setLbuf_acc_i2c (h k : Nat) (x : LBuf) (h2 c2 : Nat) : (s.setLbuf h k x).i2c h2 c2 = s.i2c h2 c2 := rfl
@[simp] theorem State.setLbuf_acc_cal (h k : Nat) (x : LBuf) (h2 : Nat) : (s.setLbuf h k x).cal h2 = s.cal h2 := rfl
@[simp] theorem State.setLbuf_acc_grt (h k : Nat) (x : LBuf) (h2 b2 : Nat) : (s.setLbuf h k x).grt h2 b2 = s.grt h2 b2 := rfl
@[simp] theorem State.setLbuf_acc_ash (h k : Nat) (x : LBuf) (h2 x2 : Nat) : (s.setLbuf h k x).ash h2 x2 = s.ash h2 x2 := rfl
@[simp] theorem State.setLbuf_acc_stg (h k : Nat) (x : LBuf) (h2 i2 b2 w2 : Nat) : (s.setLbuf h k x).stg h2 i2 b2 w2 = s.stg h2 i2 b2 w2 := rfl
@[simp] theorem State.setLbuf_acc_nH (h k : Nat) (x : LBuf) : (s.setLbuf h k x).nH = s.nH := rfl
@[simp] theorem State.setLbuf_acc_hasH (h k : Nat) (x : LBuf) (h2 : Nat) : (s.setLbuf h k x).hasH h2 = s.hasH h2 := rfl
@[simp] theorem State.setFlue_acc_rd (h q : Nat) (x : FlueX) (h2 i2 b2 w2 : Nat) : (s.setFlue h q x).rd h2 i2 b2 w2 = s.rd h2 i2 b2 w2 := rfl
@[simp] theorem State.setFlue_acc_fget (h q : Nat) (x : FlueX) (h2 i2 : Nat) (f2 : Fld) : (s.setFlue h q x).fget h2 i2 f2 = s.fget h2 i2 f2 := rfl
@[simp] theorem State.setFlue_acc_fon (h q : Nat) (x : FlueX) (h2 i2 : Nat) (f2 : Fld) : (s.setFlue h q x).fon h2 i2 f2 = s.fon h2 i2 f2 := rfl
@[simp] theorem State.setFlue_acc_sget (h q : Nat) (x : FlueX) (h2 i2 : Nat) (f2 : Fld) : (s.setFlue h q x).sget h2 i2 f2 = s.sget h2 i2 f2 := rfl
@[simp] theorem State.setFlue_acc_get64 (h q : Nat) (x : FlueX) (h2 i2 : Nat) (f2 : Fld) : (s.setFlue h q x).get64 h2 i2 f2 = s.get64 h2 i2 f2 := rfl
@[simp] theorem State.setFlue_acc_dread (h q : Nat) (x : FlueX) (h2 a2 : Nat) : (s.setFlue h q x).dread h2 a2 = s.dread h2 a2 := rfl
@[simp] theorem State.setFlue_acc_fread (h q : Nat) (x : FlueX) (a2 : Nat) : (s.setFlue h q x).fread a2 = s.fread a2 := rfl
@[simp] theorem State.setFlue_acc_lane (h q : Nat) (x : FlueX) (h2 l2 : Nat) : (s.setFlue h q x).lane h2 l2 = s.lane h2 l2 := rfl
@[simp] theorem State.setFlue_acc_gor (h q : Nat) (x : FlueX) (h2 i2 : Nat) : (s.setFlue h q x).gor h2 i2 = s.gor h2 i2 := rfl
@[simp] theorem State.setFlue_acc_bas (h q : Nat) (x : FlueX) (h2 : Nat) : (s.setFlue h q x).bas h2 = s.bas h2 := rfl
@[simp] theorem State.setFlue_acc_lbuf (h q : Nat) (x : FlueX) (h2 k2 : Nat) : (s.setFlue h q x).lbuf h2 k2 = s.lbuf h2 k2 := rfl
@[simp] theorem State.setFlue_acc_ter (h q : Nat) (x : FlueX) (h2 : Nat) : (s.setFlue h q x).ter h2 = s.ter h2 := rfl
@[simp] theorem State.setFlue_acc_fbx (h q : Nat) (x : FlueX) (h2 p2 : Nat) : (s.setFlue h q x).fbx h2 p2 = s.fbx h2 p2 := rfl
@[simp] theorem State.setFlue_acc_dmp (h q : Nat) (x : FlueX) (h2 : Nat) : (s.setFlue h q x).dmp h2 = s.dmp h2 := rfl
@[simp] theorem State.setFlue_acc_drt (h q : Nat) (x : FlueX) (h2 : Nat) : (s.setFlue h q x).drt h2 = s.drt h2 := rfl
@[simp] theorem State.setFlue_acc_axis (h q : Nat) (x : FlueX) (a2 : Nat) : (s.setFlue h q x).axis a2 = s.axis a2 := rfl
@[simp] theorem State.setFlue_acc_quad (h q : Nat) (x : FlueX) (h2 c2 : Nat) : (s.setFlue h q x).quad h2 c2 = s.quad h2 c2 := rfl
@[simp] theorem State.setFlue_acc_hall (h q : Nat) (x : FlueX) (h2 k2 : Nat) : (s.setFlue h q x).hall h2 k2 = s.hall h2 k2 := rfl
@[simp] theorem State.setFlue_acc_ssi (h q : Nat) (x : FlueX) (h2 k2 : Nat) : (s.setFlue h q x).ssi h2 k2 = s.ssi h2 k2 := rfl
@[simp] theorem State.setFlue_acc_cam (h q : Nat) (x : FlueX) (h2 c2 : Nat) : (s.setFlue h q x).cam h2 c2 = s.cam h2 c2 := rfl
@[simp] theorem State.setFlue_acc_isp (h q : Nat) (x : FlueX) (h2 : Nat) : (s.setFlue h q x).isp h2 = s.isp h2 := rfl
@[simp] theorem State.setFlue_acc_chm (h q : Nat) (x : FlueX) (h2 : Nat) : (s.setFlue h q x).chm h2 = s.chm h2 := rfl
@[simp] theorem State.setFlue_acc_mbx (h q : Nat) (x : FlueX) (c2 : Nat) : (s.setFlue h q x).mbx c2 = s.mbx c2 := rfl
@[simp] theorem State.setFlue_acc_i2c (h q : Nat) (x : FlueX) (h2 c2 : Nat) : (s.setFlue h q x).i2c h2 c2 = s.i2c h2 c2 := rfl
@[simp] theorem State.setFlue_acc_cal (h q : Nat) (x : FlueX) (h2 : Nat) : (s.setFlue h q x).cal h2 = s.cal h2 := rfl
@[simp] theorem State.setFlue_acc_grt (h q : Nat) (x : FlueX) (h2 b2 : Nat) : (s.setFlue h q x).grt h2 b2 = s.grt h2 b2 := rfl
@[simp] theorem State.setFlue_acc_ash (h q : Nat) (x : FlueX) (h2 x2 : Nat) : (s.setFlue h q x).ash h2 x2 = s.ash h2 x2 := rfl
@[simp] theorem State.setFlue_acc_stg (h q : Nat) (x : FlueX) (h2 i2 b2 w2 : Nat) : (s.setFlue h q x).stg h2 i2 b2 w2 = s.stg h2 i2 b2 w2 := rfl
@[simp] theorem State.setFlue_acc_nH (h q : Nat) (x : FlueX) : (s.setFlue h q x).nH = s.nH := rfl
@[simp] theorem State.setFlue_acc_hasH (h q : Nat) (x : FlueX) (h2 : Nat) : (s.setFlue h q x).hasH h2 = s.hasH h2 := rfl
@[simp] theorem State.setTer_acc_rd (h : Nat) (x : TerX) (h2 i2 b2 w2 : Nat) : (s.setTer h x).rd h2 i2 b2 w2 = s.rd h2 i2 b2 w2 := rfl
@[simp] theorem State.setTer_acc_fget (h : Nat) (x : TerX) (h2 i2 : Nat) (f2 : Fld) : (s.setTer h x).fget h2 i2 f2 = s.fget h2 i2 f2 := rfl
@[simp] theorem State.setTer_acc_fon (h : Nat) (x : TerX) (h2 i2 : Nat) (f2 : Fld) : (s.setTer h x).fon h2 i2 f2 = s.fon h2 i2 f2 := rfl
@[simp] theorem State.setTer_acc_sget (h : Nat) (x : TerX) (h2 i2 : Nat) (f2 : Fld) : (s.setTer h x).sget h2 i2 f2 = s.sget h2 i2 f2 := rfl
@[simp] theorem State.setTer_acc_get64 (h : Nat) (x : TerX) (h2 i2 : Nat) (f2 : Fld) : (s.setTer h x).get64 h2 i2 f2 = s.get64 h2 i2 f2 := rfl
@[simp] theorem State.setTer_acc_dread (h : Nat) (x : TerX) (h2 a2 : Nat) : (s.setTer h x).dread h2 a2 = s.dread h2 a2 := rfl
@[simp] theorem State.setTer_acc_fread (h : Nat) (x : TerX) (a2 : Nat) : (s.setTer h x).fread a2 = s.fread a2 := rfl
@[simp] theorem State.setTer_acc_lane (h : Nat) (x : TerX) (h2 l2 : Nat) : (s.setTer h x).lane h2 l2 = s.lane h2 l2 := rfl
@[simp] theorem State.setTer_acc_gor (h : Nat) (x : TerX) (h2 i2 : Nat) : (s.setTer h x).gor h2 i2 = s.gor h2 i2 := rfl
@[simp] theorem State.setTer_acc_bas (h : Nat) (x : TerX) (h2 : Nat) : (s.setTer h x).bas h2 = s.bas h2 := rfl
@[simp] theorem State.setTer_acc_lbuf (h : Nat) (x : TerX) (h2 k2 : Nat) : (s.setTer h x).lbuf h2 k2 = s.lbuf h2 k2 := rfl
@[simp] theorem State.setTer_acc_flue (h : Nat) (x : TerX) (h2 q2 : Nat) : (s.setTer h x).flue h2 q2 = s.flue h2 q2 := rfl
@[simp] theorem State.setTer_acc_fbx (h : Nat) (x : TerX) (h2 p2 : Nat) : (s.setTer h x).fbx h2 p2 = s.fbx h2 p2 := rfl
@[simp] theorem State.setTer_acc_dmp (h : Nat) (x : TerX) (h2 : Nat) : (s.setTer h x).dmp h2 = s.dmp h2 := rfl
@[simp] theorem State.setTer_acc_drt (h : Nat) (x : TerX) (h2 : Nat) : (s.setTer h x).drt h2 = s.drt h2 := rfl
@[simp] theorem State.setTer_acc_axis (h : Nat) (x : TerX) (a2 : Nat) : (s.setTer h x).axis a2 = s.axis a2 := rfl
@[simp] theorem State.setTer_acc_quad (h : Nat) (x : TerX) (h2 c2 : Nat) : (s.setTer h x).quad h2 c2 = s.quad h2 c2 := rfl
@[simp] theorem State.setTer_acc_hall (h : Nat) (x : TerX) (h2 k2 : Nat) : (s.setTer h x).hall h2 k2 = s.hall h2 k2 := rfl
@[simp] theorem State.setTer_acc_ssi (h : Nat) (x : TerX) (h2 k2 : Nat) : (s.setTer h x).ssi h2 k2 = s.ssi h2 k2 := rfl
@[simp] theorem State.setTer_acc_cam (h : Nat) (x : TerX) (h2 c2 : Nat) : (s.setTer h x).cam h2 c2 = s.cam h2 c2 := rfl
@[simp] theorem State.setTer_acc_isp (h : Nat) (x : TerX) (h2 : Nat) : (s.setTer h x).isp h2 = s.isp h2 := rfl
@[simp] theorem State.setTer_acc_chm (h : Nat) (x : TerX) (h2 : Nat) : (s.setTer h x).chm h2 = s.chm h2 := rfl
@[simp] theorem State.setTer_acc_mbx (h : Nat) (x : TerX) (c2 : Nat) : (s.setTer h x).mbx c2 = s.mbx c2 := rfl
@[simp] theorem State.setTer_acc_i2c (h : Nat) (x : TerX) (h2 c2 : Nat) : (s.setTer h x).i2c h2 c2 = s.i2c h2 c2 := rfl
@[simp] theorem State.setTer_acc_cal (h : Nat) (x : TerX) (h2 : Nat) : (s.setTer h x).cal h2 = s.cal h2 := rfl
@[simp] theorem State.setTer_acc_grt (h : Nat) (x : TerX) (h2 b2 : Nat) : (s.setTer h x).grt h2 b2 = s.grt h2 b2 := rfl
@[simp] theorem State.setTer_acc_ash (h : Nat) (x : TerX) (h2 x2 : Nat) : (s.setTer h x).ash h2 x2 = s.ash h2 x2 := rfl
@[simp] theorem State.setTer_acc_stg (h : Nat) (x : TerX) (h2 i2 b2 w2 : Nat) : (s.setTer h x).stg h2 i2 b2 w2 = s.stg h2 i2 b2 w2 := rfl
@[simp] theorem State.setTer_acc_nH (h : Nat) (x : TerX) : (s.setTer h x).nH = s.nH := rfl
@[simp] theorem State.setTer_acc_hasH (h : Nat) (x : TerX) (h2 : Nat) : (s.setTer h x).hasH h2 = s.hasH h2 := rfl
@[simp] theorem State.setFbx_acc_rd (h p : Nat) (x : FbxX) (h2 i2 b2 w2 : Nat) : (s.setFbx h p x).rd h2 i2 b2 w2 = s.rd h2 i2 b2 w2 := rfl
@[simp] theorem State.setFbx_acc_fget (h p : Nat) (x : FbxX) (h2 i2 : Nat) (f2 : Fld) : (s.setFbx h p x).fget h2 i2 f2 = s.fget h2 i2 f2 := rfl
@[simp] theorem State.setFbx_acc_fon (h p : Nat) (x : FbxX) (h2 i2 : Nat) (f2 : Fld) : (s.setFbx h p x).fon h2 i2 f2 = s.fon h2 i2 f2 := rfl
@[simp] theorem State.setFbx_acc_sget (h p : Nat) (x : FbxX) (h2 i2 : Nat) (f2 : Fld) : (s.setFbx h p x).sget h2 i2 f2 = s.sget h2 i2 f2 := rfl
@[simp] theorem State.setFbx_acc_get64 (h p : Nat) (x : FbxX) (h2 i2 : Nat) (f2 : Fld) : (s.setFbx h p x).get64 h2 i2 f2 = s.get64 h2 i2 f2 := rfl
@[simp] theorem State.setFbx_acc_dread (h p : Nat) (x : FbxX) (h2 a2 : Nat) : (s.setFbx h p x).dread h2 a2 = s.dread h2 a2 := rfl
@[simp] theorem State.setFbx_acc_fread (h p : Nat) (x : FbxX) (a2 : Nat) : (s.setFbx h p x).fread a2 = s.fread a2 := rfl
@[simp] theorem State.setFbx_acc_lane (h p : Nat) (x : FbxX) (h2 l2 : Nat) : (s.setFbx h p x).lane h2 l2 = s.lane h2 l2 := rfl
@[simp] theorem State.setFbx_acc_gor (h p : Nat) (x : FbxX) (h2 i2 : Nat) : (s.setFbx h p x).gor h2 i2 = s.gor h2 i2 := rfl
@[simp] theorem State.setFbx_acc_bas (h p : Nat) (x : FbxX) (h2 : Nat) : (s.setFbx h p x).bas h2 = s.bas h2 := rfl
@[simp] theorem State.setFbx_acc_lbuf (h p : Nat) (x : FbxX) (h2 k2 : Nat) : (s.setFbx h p x).lbuf h2 k2 = s.lbuf h2 k2 := rfl
@[simp] theorem State.setFbx_acc_flue (h p : Nat) (x : FbxX) (h2 q2 : Nat) : (s.setFbx h p x).flue h2 q2 = s.flue h2 q2 := rfl
@[simp] theorem State.setFbx_acc_ter (h p : Nat) (x : FbxX) (h2 : Nat) : (s.setFbx h p x).ter h2 = s.ter h2 := rfl
@[simp] theorem State.setFbx_acc_dmp (h p : Nat) (x : FbxX) (h2 : Nat) : (s.setFbx h p x).dmp h2 = s.dmp h2 := rfl
@[simp] theorem State.setFbx_acc_drt (h p : Nat) (x : FbxX) (h2 : Nat) : (s.setFbx h p x).drt h2 = s.drt h2 := rfl
@[simp] theorem State.setFbx_acc_axis (h p : Nat) (x : FbxX) (a2 : Nat) : (s.setFbx h p x).axis a2 = s.axis a2 := rfl
@[simp] theorem State.setFbx_acc_quad (h p : Nat) (x : FbxX) (h2 c2 : Nat) : (s.setFbx h p x).quad h2 c2 = s.quad h2 c2 := rfl
@[simp] theorem State.setFbx_acc_hall (h p : Nat) (x : FbxX) (h2 k2 : Nat) : (s.setFbx h p x).hall h2 k2 = s.hall h2 k2 := rfl
@[simp] theorem State.setFbx_acc_ssi (h p : Nat) (x : FbxX) (h2 k2 : Nat) : (s.setFbx h p x).ssi h2 k2 = s.ssi h2 k2 := rfl
@[simp] theorem State.setFbx_acc_cam (h p : Nat) (x : FbxX) (h2 c2 : Nat) : (s.setFbx h p x).cam h2 c2 = s.cam h2 c2 := rfl
@[simp] theorem State.setFbx_acc_isp (h p : Nat) (x : FbxX) (h2 : Nat) : (s.setFbx h p x).isp h2 = s.isp h2 := rfl
@[simp] theorem State.setFbx_acc_chm (h p : Nat) (x : FbxX) (h2 : Nat) : (s.setFbx h p x).chm h2 = s.chm h2 := rfl
@[simp] theorem State.setFbx_acc_mbx (h p : Nat) (x : FbxX) (c2 : Nat) : (s.setFbx h p x).mbx c2 = s.mbx c2 := rfl
@[simp] theorem State.setFbx_acc_i2c (h p : Nat) (x : FbxX) (h2 c2 : Nat) : (s.setFbx h p x).i2c h2 c2 = s.i2c h2 c2 := rfl
@[simp] theorem State.setFbx_acc_cal (h p : Nat) (x : FbxX) (h2 : Nat) : (s.setFbx h p x).cal h2 = s.cal h2 := rfl
@[simp] theorem State.setFbx_acc_grt (h p : Nat) (x : FbxX) (h2 b2 : Nat) : (s.setFbx h p x).grt h2 b2 = s.grt h2 b2 := rfl
@[simp] theorem State.setFbx_acc_ash (h p : Nat) (x : FbxX) (h2 x2 : Nat) : (s.setFbx h p x).ash h2 x2 = s.ash h2 x2 := rfl
@[simp] theorem State.setFbx_acc_stg (h p : Nat) (x : FbxX) (h2 i2 b2 w2 : Nat) : (s.setFbx h p x).stg h2 i2 b2 w2 = s.stg h2 i2 b2 w2 := rfl
@[simp] theorem State.setFbx_acc_nH (h p : Nat) (x : FbxX) : (s.setFbx h p x).nH = s.nH := rfl
@[simp] theorem State.setFbx_acc_hasH (h p : Nat) (x : FbxX) (h2 : Nat) : (s.setFbx h p x).hasH h2 = s.hasH h2 := rfl
@[simp] theorem State.setDmp_acc_rd (h : Nat) (x : DmpX) (h2 i2 b2 w2 : Nat) : (s.setDmp h x).rd h2 i2 b2 w2 = s.rd h2 i2 b2 w2 := rfl
@[simp] theorem State.setDmp_acc_fget (h : Nat) (x : DmpX) (h2 i2 : Nat) (f2 : Fld) : (s.setDmp h x).fget h2 i2 f2 = s.fget h2 i2 f2 := rfl
@[simp] theorem State.setDmp_acc_fon (h : Nat) (x : DmpX) (h2 i2 : Nat) (f2 : Fld) : (s.setDmp h x).fon h2 i2 f2 = s.fon h2 i2 f2 := rfl
@[simp] theorem State.setDmp_acc_sget (h : Nat) (x : DmpX) (h2 i2 : Nat) (f2 : Fld) : (s.setDmp h x).sget h2 i2 f2 = s.sget h2 i2 f2 := rfl
@[simp] theorem State.setDmp_acc_get64 (h : Nat) (x : DmpX) (h2 i2 : Nat) (f2 : Fld) : (s.setDmp h x).get64 h2 i2 f2 = s.get64 h2 i2 f2 := rfl
@[simp] theorem State.setDmp_acc_dread (h : Nat) (x : DmpX) (h2 a2 : Nat) : (s.setDmp h x).dread h2 a2 = s.dread h2 a2 := rfl
@[simp] theorem State.setDmp_acc_fread (h : Nat) (x : DmpX) (a2 : Nat) : (s.setDmp h x).fread a2 = s.fread a2 := rfl
@[simp] theorem State.setDmp_acc_lane (h : Nat) (x : DmpX) (h2 l2 : Nat) : (s.setDmp h x).lane h2 l2 = s.lane h2 l2 := rfl
@[simp] theorem State.setDmp_acc_gor (h : Nat) (x : DmpX) (h2 i2 : Nat) : (s.setDmp h x).gor h2 i2 = s.gor h2 i2 := rfl
@[simp] theorem State.setDmp_acc_bas (h : Nat) (x : DmpX) (h2 : Nat) : (s.setDmp h x).bas h2 = s.bas h2 := rfl
@[simp] theorem State.setDmp_acc_lbuf (h : Nat) (x : DmpX) (h2 k2 : Nat) : (s.setDmp h x).lbuf h2 k2 = s.lbuf h2 k2 := rfl
@[simp] theorem State.setDmp_acc_flue (h : Nat) (x : DmpX) (h2 q2 : Nat) : (s.setDmp h x).flue h2 q2 = s.flue h2 q2 := rfl
@[simp] theorem State.setDmp_acc_ter (h : Nat) (x : DmpX) (h2 : Nat) : (s.setDmp h x).ter h2 = s.ter h2 := rfl
@[simp] theorem State.setDmp_acc_fbx (h : Nat) (x : DmpX) (h2 p2 : Nat) : (s.setDmp h x).fbx h2 p2 = s.fbx h2 p2 := rfl
@[simp] theorem State.setDmp_acc_drt (h : Nat) (x : DmpX) (h2 : Nat) : (s.setDmp h x).drt h2 = s.drt h2 := rfl
@[simp] theorem State.setDmp_acc_axis (h : Nat) (x : DmpX) (a2 : Nat) : (s.setDmp h x).axis a2 = s.axis a2 := rfl
@[simp] theorem State.setDmp_acc_quad (h : Nat) (x : DmpX) (h2 c2 : Nat) : (s.setDmp h x).quad h2 c2 = s.quad h2 c2 := rfl
@[simp] theorem State.setDmp_acc_hall (h : Nat) (x : DmpX) (h2 k2 : Nat) : (s.setDmp h x).hall h2 k2 = s.hall h2 k2 := rfl
@[simp] theorem State.setDmp_acc_ssi (h : Nat) (x : DmpX) (h2 k2 : Nat) : (s.setDmp h x).ssi h2 k2 = s.ssi h2 k2 := rfl
@[simp] theorem State.setDmp_acc_cam (h : Nat) (x : DmpX) (h2 c2 : Nat) : (s.setDmp h x).cam h2 c2 = s.cam h2 c2 := rfl
@[simp] theorem State.setDmp_acc_isp (h : Nat) (x : DmpX) (h2 : Nat) : (s.setDmp h x).isp h2 = s.isp h2 := rfl
@[simp] theorem State.setDmp_acc_chm (h : Nat) (x : DmpX) (h2 : Nat) : (s.setDmp h x).chm h2 = s.chm h2 := rfl
@[simp] theorem State.setDmp_acc_mbx (h : Nat) (x : DmpX) (c2 : Nat) : (s.setDmp h x).mbx c2 = s.mbx c2 := rfl
@[simp] theorem State.setDmp_acc_i2c (h : Nat) (x : DmpX) (h2 c2 : Nat) : (s.setDmp h x).i2c h2 c2 = s.i2c h2 c2 := rfl
@[simp] theorem State.setDmp_acc_cal (h : Nat) (x : DmpX) (h2 : Nat) : (s.setDmp h x).cal h2 = s.cal h2 := rfl
@[simp] theorem State.setDmp_acc_grt (h : Nat) (x : DmpX) (h2 b2 : Nat) : (s.setDmp h x).grt h2 b2 = s.grt h2 b2 := rfl
@[simp] theorem State.setDmp_acc_ash (h : Nat) (x : DmpX) (h2 x2 : Nat) : (s.setDmp h x).ash h2 x2 = s.ash h2 x2 := rfl
@[simp] theorem State.setDmp_acc_stg (h : Nat) (x : DmpX) (h2 i2 b2 w2 : Nat) : (s.setDmp h x).stg h2 i2 b2 w2 = s.stg h2 i2 b2 w2 := rfl
@[simp] theorem State.setDmp_acc_nH (h : Nat) (x : DmpX) : (s.setDmp h x).nH = s.nH := rfl
@[simp] theorem State.setDmp_acc_hasH (h : Nat) (x : DmpX) (h2 : Nat) : (s.setDmp h x).hasH h2 = s.hasH h2 := rfl
@[simp] theorem State.setDrt_acc_rd (h : Nat) (x : DrtX) (h2 i2 b2 w2 : Nat) : (s.setDrt h x).rd h2 i2 b2 w2 = s.rd h2 i2 b2 w2 := rfl
@[simp] theorem State.setDrt_acc_fget (h : Nat) (x : DrtX) (h2 i2 : Nat) (f2 : Fld) : (s.setDrt h x).fget h2 i2 f2 = s.fget h2 i2 f2 := rfl
@[simp] theorem State.setDrt_acc_fon (h : Nat) (x : DrtX) (h2 i2 : Nat) (f2 : Fld) : (s.setDrt h x).fon h2 i2 f2 = s.fon h2 i2 f2 := rfl
@[simp] theorem State.setDrt_acc_sget (h : Nat) (x : DrtX) (h2 i2 : Nat) (f2 : Fld) : (s.setDrt h x).sget h2 i2 f2 = s.sget h2 i2 f2 := rfl
@[simp] theorem State.setDrt_acc_get64 (h : Nat) (x : DrtX) (h2 i2 : Nat) (f2 : Fld) : (s.setDrt h x).get64 h2 i2 f2 = s.get64 h2 i2 f2 := rfl
@[simp] theorem State.setDrt_acc_dread (h : Nat) (x : DrtX) (h2 a2 : Nat) : (s.setDrt h x).dread h2 a2 = s.dread h2 a2 := rfl
@[simp] theorem State.setDrt_acc_fread (h : Nat) (x : DrtX) (a2 : Nat) : (s.setDrt h x).fread a2 = s.fread a2 := rfl
@[simp] theorem State.setDrt_acc_lane (h : Nat) (x : DrtX) (h2 l2 : Nat) : (s.setDrt h x).lane h2 l2 = s.lane h2 l2 := rfl
@[simp] theorem State.setDrt_acc_gor (h : Nat) (x : DrtX) (h2 i2 : Nat) : (s.setDrt h x).gor h2 i2 = s.gor h2 i2 := rfl
@[simp] theorem State.setDrt_acc_bas (h : Nat) (x : DrtX) (h2 : Nat) : (s.setDrt h x).bas h2 = s.bas h2 := rfl
@[simp] theorem State.setDrt_acc_lbuf (h : Nat) (x : DrtX) (h2 k2 : Nat) : (s.setDrt h x).lbuf h2 k2 = s.lbuf h2 k2 := rfl
@[simp] theorem State.setDrt_acc_flue (h : Nat) (x : DrtX) (h2 q2 : Nat) : (s.setDrt h x).flue h2 q2 = s.flue h2 q2 := rfl
@[simp] theorem State.setDrt_acc_ter (h : Nat) (x : DrtX) (h2 : Nat) : (s.setDrt h x).ter h2 = s.ter h2 := rfl
@[simp] theorem State.setDrt_acc_fbx (h : Nat) (x : DrtX) (h2 p2 : Nat) : (s.setDrt h x).fbx h2 p2 = s.fbx h2 p2 := rfl
@[simp] theorem State.setDrt_acc_dmp (h : Nat) (x : DrtX) (h2 : Nat) : (s.setDrt h x).dmp h2 = s.dmp h2 := rfl
@[simp] theorem State.setDrt_acc_axis (h : Nat) (x : DrtX) (a2 : Nat) : (s.setDrt h x).axis a2 = s.axis a2 := rfl
@[simp] theorem State.setDrt_acc_quad (h : Nat) (x : DrtX) (h2 c2 : Nat) : (s.setDrt h x).quad h2 c2 = s.quad h2 c2 := rfl
@[simp] theorem State.setDrt_acc_hall (h : Nat) (x : DrtX) (h2 k2 : Nat) : (s.setDrt h x).hall h2 k2 = s.hall h2 k2 := rfl
@[simp] theorem State.setDrt_acc_ssi (h : Nat) (x : DrtX) (h2 k2 : Nat) : (s.setDrt h x).ssi h2 k2 = s.ssi h2 k2 := rfl
@[simp] theorem State.setDrt_acc_cam (h : Nat) (x : DrtX) (h2 c2 : Nat) : (s.setDrt h x).cam h2 c2 = s.cam h2 c2 := rfl
@[simp] theorem State.setDrt_acc_isp (h : Nat) (x : DrtX) (h2 : Nat) : (s.setDrt h x).isp h2 = s.isp h2 := rfl
@[simp] theorem State.setDrt_acc_chm (h : Nat) (x : DrtX) (h2 : Nat) : (s.setDrt h x).chm h2 = s.chm h2 := rfl
@[simp] theorem State.setDrt_acc_mbx (h : Nat) (x : DrtX) (c2 : Nat) : (s.setDrt h x).mbx c2 = s.mbx c2 := rfl
@[simp] theorem State.setDrt_acc_i2c (h : Nat) (x : DrtX) (h2 c2 : Nat) : (s.setDrt h x).i2c h2 c2 = s.i2c h2 c2 := rfl
@[simp] theorem State.setDrt_acc_cal (h : Nat) (x : DrtX) (h2 : Nat) : (s.setDrt h x).cal h2 = s.cal h2 := rfl
@[simp] theorem State.setDrt_acc_grt (h : Nat) (x : DrtX) (h2 b2 : Nat) : (s.setDrt h x).grt h2 b2 = s.grt h2 b2 := rfl
@[simp] theorem State.setDrt_acc_ash (h : Nat) (x : DrtX) (h2 x2 : Nat) : (s.setDrt h x).ash h2 x2 = s.ash h2 x2 := rfl
@[simp] theorem State.setDrt_acc_stg (h : Nat) (x : DrtX) (h2 i2 b2 w2 : Nat) : (s.setDrt h x).stg h2 i2 b2 w2 = s.stg h2 i2 b2 w2 := rfl
@[simp] theorem State.setDrt_acc_nH (h : Nat) (x : DrtX) : (s.setDrt h x).nH = s.nH := rfl
@[simp] theorem State.setDrt_acc_hasH (h : Nat) (x : DrtX) (h2 : Nat) : (s.setDrt h x).hasH h2 = s.hasH h2 := rfl
@[simp] theorem State.setAxis_acc_rd (a : Nat) (x : AxX) (h2 i2 b2 w2 : Nat) : (s.setAxis a x).rd h2 i2 b2 w2 = s.rd h2 i2 b2 w2 := rfl
@[simp] theorem State.setAxis_acc_fget (a : Nat) (x : AxX) (h2 i2 : Nat) (f2 : Fld) : (s.setAxis a x).fget h2 i2 f2 = s.fget h2 i2 f2 := rfl
@[simp] theorem State.setAxis_acc_fon (a : Nat) (x : AxX) (h2 i2 : Nat) (f2 : Fld) : (s.setAxis a x).fon h2 i2 f2 = s.fon h2 i2 f2 := rfl
@[simp] theorem State.setAxis_acc_sget (a : Nat) (x : AxX) (h2 i2 : Nat) (f2 : Fld) : (s.setAxis a x).sget h2 i2 f2 = s.sget h2 i2 f2 := rfl
@[simp] theorem State.setAxis_acc_get64 (a : Nat) (x : AxX) (h2 i2 : Nat) (f2 : Fld) : (s.setAxis a x).get64 h2 i2 f2 = s.get64 h2 i2 f2 := rfl
@[simp] theorem State.setAxis_acc_dread (a : Nat) (x : AxX) (h2 a2 : Nat) : (s.setAxis a x).dread h2 a2 = s.dread h2 a2 := rfl
@[simp] theorem State.setAxis_acc_fread (a : Nat) (x : AxX) (a2 : Nat) : (s.setAxis a x).fread a2 = s.fread a2 := rfl
@[simp] theorem State.setAxis_acc_lane (a : Nat) (x : AxX) (h2 l2 : Nat) : (s.setAxis a x).lane h2 l2 = s.lane h2 l2 := rfl
@[simp] theorem State.setAxis_acc_gor (a : Nat) (x : AxX) (h2 i2 : Nat) : (s.setAxis a x).gor h2 i2 = s.gor h2 i2 := rfl
@[simp] theorem State.setAxis_acc_bas (a : Nat) (x : AxX) (h2 : Nat) : (s.setAxis a x).bas h2 = s.bas h2 := rfl
@[simp] theorem State.setAxis_acc_lbuf (a : Nat) (x : AxX) (h2 k2 : Nat) : (s.setAxis a x).lbuf h2 k2 = s.lbuf h2 k2 := rfl
@[simp] theorem State.setAxis_acc_flue (a : Nat) (x : AxX) (h2 q2 : Nat) : (s.setAxis a x).flue h2 q2 = s.flue h2 q2 := rfl
@[simp] theorem State.setAxis_acc_ter (a : Nat) (x : AxX) (h2 : Nat) : (s.setAxis a x).ter h2 = s.ter h2 := rfl
@[simp] theorem State.setAxis_acc_fbx (a : Nat) (x : AxX) (h2 p2 : Nat) : (s.setAxis a x).fbx h2 p2 = s.fbx h2 p2 := rfl
@[simp] theorem State.setAxis_acc_dmp (a : Nat) (x : AxX) (h2 : Nat) : (s.setAxis a x).dmp h2 = s.dmp h2 := rfl
@[simp] theorem State.setAxis_acc_drt (a : Nat) (x : AxX) (h2 : Nat) : (s.setAxis a x).drt h2 = s.drt h2 := rfl
@[simp] theorem State.setAxis_acc_quad (a : Nat) (x : AxX) (h2 c2 : Nat) : (s.setAxis a x).quad h2 c2 = s.quad h2 c2 := rfl
@[simp] theorem State.setAxis_acc_hall (a : Nat) (x : AxX) (h2 k2 : Nat) : (s.setAxis a x).hall h2 k2 = s.hall h2 k2 := rfl
@[simp] theorem State.setAxis_acc_ssi (a : Nat) (x : AxX) (h2 k2 : Nat) : (s.setAxis a x).ssi h2 k2 = s.ssi h2 k2 := rfl
@[simp] theorem State.setAxis_acc_cam (a : Nat) (x : AxX) (h2 c2 : Nat) : (s.setAxis a x).cam h2 c2 = s.cam h2 c2 := rfl
@[simp] theorem State.setAxis_acc_isp (a : Nat) (x : AxX) (h2 : Nat) : (s.setAxis a x).isp h2 = s.isp h2 := rfl
@[simp] theorem State.setAxis_acc_chm (a : Nat) (x : AxX) (h2 : Nat) : (s.setAxis a x).chm h2 = s.chm h2 := rfl
@[simp] theorem State.setAxis_acc_mbx (a : Nat) (x : AxX) (c2 : Nat) : (s.setAxis a x).mbx c2 = s.mbx c2 := rfl
@[simp] theorem State.setAxis_acc_i2c (a : Nat) (x : AxX) (h2 c2 : Nat) : (s.setAxis a x).i2c h2 c2 = s.i2c h2 c2 := rfl
@[simp] theorem State.setAxis_acc_cal (a : Nat) (x : AxX) (h2 : Nat) : (s.setAxis a x).cal h2 = s.cal h2 := rfl
@[simp] theorem State.setAxis_acc_grt (a : Nat) (x : AxX) (h2 b2 : Nat) : (s.setAxis a x).grt h2 b2 = s.grt h2 b2 := rfl
@[simp] theorem State.setAxis_acc_ash (a : Nat) (x : AxX) (h2 x2 : Nat) : (s.setAxis a x).ash h2 x2 = s.ash h2 x2 := rfl
@[simp] theorem State.setAxis_acc_stg (a : Nat) (x : AxX) (h2 i2 b2 w2 : Nat) : (s.setAxis a x).stg h2 i2 b2 w2 = s.stg h2 i2 b2 w2 := rfl
@[simp] theorem State.setAxis_acc_nH (a : Nat) (x : AxX) : (s.setAxis a x).nH = s.nH := rfl
@[simp] theorem State.setAxis_acc_hasH (a : Nat) (x : AxX) (h2 : Nat) : (s.setAxis a x).hasH h2 = s.hasH h2 := rfl
@[simp] theorem State.setQuad_acc_rd (h c : Nat) (x : QuadX) (h2 i2 b2 w2 : Nat) : (s.setQuad h c x).rd h2 i2 b2 w2 = s.rd h2 i2 b2 w2 := rfl
@[simp] theorem State.setQuad_acc_fget (h c : Nat) (x : QuadX) (h2 i2 : Nat) (f2 : Fld) : (s.setQuad h c x).fget h2 i2 f2 = s.fget h2 i2 f2 := rfl
@[simp] theorem State.setQuad_acc_fon (h c : Nat) (x : QuadX) (h2 i2 : Nat) (f2 : Fld) : (s.setQuad h c x).fon h2 i2 f2 = s.fon h2 i2 f2 := rfl
@[simp] theorem State.setQuad_acc_sget (h c : Nat) (x : QuadX) (h2 i2 : Nat) (f2 : Fld) : (s.setQuad h c x).sget h2 i2 f2 = s.sget h2 i2 f2 := rfl
@[simp] theorem State.setQuad_acc_get64 (h c : Nat) (x : QuadX) (h2 i2 : Nat) (f2 : Fld) : (s.setQuad h c x).get64 h2 i2 f2 = s.get64 h2 i2 f2 := rfl
@[simp] theorem State.setQuad_acc_dread (h c : Nat) (x : QuadX) (h2 a2 : Nat) : (s.setQuad h c x).dread h2 a2 = s.dread h2 a2 := rfl
@[simp] theorem State.setQuad_acc_fread (h c : Nat) (x : QuadX) (a2 : Nat) : (s.setQuad h c x).fread a2 = s.fread a2 := rfl
@[simp] theorem State.setQuad_acc_lane (h c : Nat) (x : QuadX) (h2 l2 : Nat) : (s.setQuad h c x).lane h2 l2 = s.lane h2 l2 := rfl
@[simp] theorem State.setQuad_acc_gor (h c : Nat) (x : QuadX) (h2 i2 : Nat) : (s.setQuad h c x).gor h2 i2 = s.gor h2 i2 := rfl
@[simp] theorem State.setQuad_acc_bas (h c : Nat) (x : QuadX) (h2 : Nat) : (s.setQuad h c x).bas h2 = s.bas h2 := rfl
@[simp] theorem State.setQuad_acc_lbuf (h c : Nat) (x : QuadX) (h2 k2 : Nat) : (s.setQuad h c x).lbuf h2 k2 = s.lbuf h2 k2 := rfl
@[simp] theorem State.setQuad_acc_flue (h c : Nat) (x : QuadX) (h2 q2 : Nat) : (s.setQuad h c x).flue h2 q2 = s.flue h2 q2 := rfl
@[simp] theorem State.setQuad_acc_ter (h c : Nat) (x : QuadX) (h2 : Nat) : (s.setQuad h c x).ter h2 = s.ter h2 := rfl
@[simp] theorem State.setQuad_acc_fbx (h c : Nat) (x : QuadX) (h2 p2 : Nat) : (s.setQuad h c x).fbx h2 p2 = s.fbx h2 p2 := rfl
@[simp] theorem State.setQuad_acc_dmp (h c : Nat) (x : QuadX) (h2 : Nat) : (s.setQuad h c x).dmp h2 = s.dmp h2 := rfl
@[simp] theorem State.setQuad_acc_drt (h c : Nat) (x : QuadX) (h2 : Nat) : (s.setQuad h c x).drt h2 = s.drt h2 := rfl
@[simp] theorem State.setQuad_acc_axis (h c : Nat) (x : QuadX) (a2 : Nat) : (s.setQuad h c x).axis a2 = s.axis a2 := rfl
@[simp] theorem State.setQuad_acc_hall (h c : Nat) (x : QuadX) (h2 k2 : Nat) : (s.setQuad h c x).hall h2 k2 = s.hall h2 k2 := rfl
@[simp] theorem State.setQuad_acc_ssi (h c : Nat) (x : QuadX) (h2 k2 : Nat) : (s.setQuad h c x).ssi h2 k2 = s.ssi h2 k2 := rfl
@[simp] theorem State.setQuad_acc_cam (h c : Nat) (x : QuadX) (h2 c2 : Nat) : (s.setQuad h c x).cam h2 c2 = s.cam h2 c2 := rfl
@[simp] theorem State.setQuad_acc_isp (h c : Nat) (x : QuadX) (h2 : Nat) : (s.setQuad h c x).isp h2 = s.isp h2 := rfl
@[simp] theorem State.setQuad_acc_chm (h c : Nat) (x : QuadX) (h2 : Nat) : (s.setQuad h c x).chm h2 = s.chm h2 := rfl
@[simp] theorem State.setQuad_acc_mbx (h c : Nat) (x : QuadX) (c2 : Nat) : (s.setQuad h c x).mbx c2 = s.mbx c2 := rfl
@[simp] theorem State.setQuad_acc_i2c (h c : Nat) (x : QuadX) (h2 c2 : Nat) : (s.setQuad h c x).i2c h2 c2 = s.i2c h2 c2 := rfl
@[simp] theorem State.setQuad_acc_cal (h c : Nat) (x : QuadX) (h2 : Nat) : (s.setQuad h c x).cal h2 = s.cal h2 := rfl
@[simp] theorem State.setQuad_acc_grt (h c : Nat) (x : QuadX) (h2 b2 : Nat) : (s.setQuad h c x).grt h2 b2 = s.grt h2 b2 := rfl
@[simp] theorem State.setQuad_acc_ash (h c : Nat) (x : QuadX) (h2 x2 : Nat) : (s.setQuad h c x).ash h2 x2 = s.ash h2 x2 := rfl
@[simp] theorem State.setQuad_acc_stg (h c : Nat) (x : QuadX) (h2 i2 b2 w2 : Nat) : (s.setQuad h c x).stg h2 i2 b2 w2 = s.stg h2 i2 b2 w2 := rfl
@[simp] theorem State.setQuad_acc_nH (h c : Nat) (x : QuadX) : (s.setQuad h c x).nH = s.nH := rfl
@[simp] theorem State.setQuad_acc_hasH (h c : Nat) (x : QuadX) (h2 : Nat) : (s.setQuad h c x).hasH h2 = s.hasH h2 := rfl
@[simp] theorem State.setHall_acc_rd (h k : Nat) (x : HallX) (h2 i2 b2 w2 : Nat) : (s.setHall h k x).rd h2 i2 b2 w2 = s.rd h2 i2 b2 w2 := rfl
@[simp] theorem State.setHall_acc_fget (h k : Nat) (x : HallX) (h2 i2 : Nat) (f2 : Fld) : (s.setHall h k x).fget h2 i2 f2 = s.fget h2 i2 f2 := rfl
@[simp] theorem State.setHall_acc_fon (h k : Nat) (x : HallX) (h2 i2 : Nat) (f2 : Fld) : (s.setHall h k x).fon h2 i2 f2 = s.fon h2 i2 f2 := rfl
@[simp] theorem State.setHall_acc_sget (h k : Nat) (x : HallX) (h2 i2 : Nat) (f2 : Fld) : (s.setHall h k x).sget h2 i2 f2 = s.sget h2 i2 f2 := rfl
@[simp] theorem State.setHall_acc_get64 (h k : Nat) (x : HallX) (h2 i2 : Nat) (f2 : Fld) : (s.setHall h k x).get64 h2 i2 f2 = s.get64 h2 i2 f2 := rfl
@[simp] theorem State.setHall_acc_dread (h k : Nat) (x : HallX) (h2 a2 : Nat) : (s.setHall h k x).dread h2 a2 = s.dread h2 a2 := rfl
@[simp] theorem State.setHall_acc_fread (h k : Nat) (x : HallX) (a2 : Nat) : (s.setHall h k x).fread a2 = s.fread a2 := rfl
@[simp] theorem State.setHall_acc_lane (h k : Nat) (x : HallX) (h2 l2 : Nat) : (s.setHall h k x).lane h2 l2 = s.lane h2 l2 := rfl
@[simp] theorem State.setHall_acc_gor (h k : Nat) (x : HallX) (h2 i2 : Nat) : (s.setHall h k x).gor h2 i2 = s.gor h2 i2 := rfl
@[simp] theorem State.setHall_acc_bas (h k : Nat) (x : HallX) (h2 : Nat) : (s.setHall h k x).bas h2 = s.bas h2 := rfl
@[simp] theorem State.setHall_acc_lbuf (h k : Nat) (x : HallX) (h2 k2 : Nat) : (s.setHall h k x).lbuf h2 k2 = s.lbuf h2 k2 := rfl
@[simp] theorem State.setHall_acc_flue (h k : Nat) (x : HallX) (h2 q2 : Nat) : (s.setHall h k x).flue h2 q2 = s.flue h2 q2 := rfl
@[simp] theorem State.setHall_acc_ter (h k : Nat) (x : HallX) (h2 : Nat) : (s.setHall h k x).ter h2 = s.ter h2 := rfl
@[simp] theorem State.setHall_acc_fbx (h k : Nat) (x : HallX) (h2 p2 : Nat) : (s.setHall h k x).fbx h2 p2 = s.fbx h2 p2 := rfl
@[simp] theorem State.setHall_acc_dmp (h k : Nat) (x : HallX) (h2 : Nat) : (s.setHall h k x).dmp h2 = s.dmp h2 := rfl
@[simp] theorem State.setHall_acc_drt (h k : Nat) (x : HallX) (h2 : Nat) : (s.setHall h k x).drt h2 = s.drt h2 := rfl
@[simp] theorem State.setHall_acc_axis (h k : Nat) (x : HallX) (a2 : Nat) : (s.setHall h k x).axis a2 = s.axis a2 := rfl
@[simp] theorem State.setHall_acc_quad (h k : Nat) (x : HallX) (h2 c2 : Nat) : (s.setHall h k x).quad h2 c2 = s.quad h2 c2 := rfl
@[simp] theorem State.setHall_acc_ssi (h k : Nat) (x : HallX) (h2 k2 : Nat) : (s.setHall h k x).ssi h2 k2 = s.ssi h2 k2 := rfl
@[simp] theorem State.setHall_acc_cam (h k : Nat) (x : HallX) (h2 c2 : Nat) : (s.setHall h k x).cam h2 c2 = s.cam h2 c2 := rfl
@[simp] theorem State.setHall_acc_isp (h k : Nat) (x : HallX) (h2 : Nat) : (s.setHall h k x).isp h2 = s.isp h2 := rfl
@[simp] theorem State.setHall_acc_chm (h k : Nat) (x : HallX) (h2 : Nat) : (s.setHall h k x).chm h2 = s.chm h2 := rfl
@[simp] theorem State.setHall_acc_mbx (h k : Nat) (x : HallX) (c2 : Nat) : (s.setHall h k x).mbx c2 = s.mbx c2 := rfl
@[simp] theorem State.setHall_acc_i2c (h k : Nat) (x : HallX) (h2 c2 : Nat) : (s.setHall h k x).i2c h2 c2 = s.i2c h2 c2 := rfl
@[simp] theorem State.setHall_acc_cal (h k : Nat) (x : HallX) (h2 : Nat) : (s.setHall h k x).cal h2 = s.cal h2 := rfl
@[simp] theorem State.setHall_acc_grt (h k : Nat) (x : HallX) (h2 b2 : Nat) : (s.setHall h k x).grt h2 b2 = s.grt h2 b2 := rfl
@[simp] theorem State.setHall_acc_ash (h k : Nat) (x : HallX) (h2 x2 : Nat) : (s.setHall h k x).ash h2 x2 = s.ash h2 x2 := rfl
@[simp] theorem State.setHall_acc_stg (h k : Nat) (x : HallX) (h2 i2 b2 w2 : Nat) : (s.setHall h k x).stg h2 i2 b2 w2 = s.stg h2 i2 b2 w2 := rfl
@[simp] theorem State.setHall_acc_nH (h k : Nat) (x : HallX) : (s.setHall h k x).nH = s.nH := rfl
@[simp] theorem State.setHall_acc_hasH (h k : Nat) (x : HallX) (h2 : Nat) : (s.setHall h k x).hasH h2 = s.hasH h2 := rfl
@[simp] theorem State.setSsi_acc_rd (h k : Nat) (x : SsiX) (h2 i2 b2 w2 : Nat) : (s.setSsi h k x).rd h2 i2 b2 w2 = s.rd h2 i2 b2 w2 := rfl
@[simp] theorem State.setSsi_acc_fget (h k : Nat) (x : SsiX) (h2 i2 : Nat) (f2 : Fld) : (s.setSsi h k x).fget h2 i2 f2 = s.fget h2 i2 f2 := rfl
@[simp] theorem State.setSsi_acc_fon (h k : Nat) (x : SsiX) (h2 i2 : Nat) (f2 : Fld) : (s.setSsi h k x).fon h2 i2 f2 = s.fon h2 i2 f2 := rfl
@[simp] theorem State.setSsi_acc_sget (h k : Nat) (x : SsiX) (h2 i2 : Nat) (f2 : Fld) : (s.setSsi h k x).sget h2 i2 f2 = s.sget h2 i2 f2 := rfl
@[simp] theorem State.setSsi_acc_get64 (h k : Nat) (x : SsiX) (h2 i2 : Nat) (f2 : Fld) : (s.setSsi h k x).get64 h2 i2 f2 = s.get64 h2 i2 f2 := rfl
@[simp] theorem State.setSsi_acc_dread (h k : Nat) (x : SsiX) (h2 a2 : Nat) : (s.setSsi h k x).dread h2 a2 = s.dread h2 a2 := rfl
@[simp] theorem State.setSsi_acc_fread (h k : Nat) (x : SsiX) (a2 : Nat) : (s.setSsi h k x).fread a2 = s.fread a2 := rfl
@[simp] theorem State.setSsi_acc_lane (h k : Nat) (x : SsiX) (h2 l2 : Nat) : (s.setSsi h k x).lane h2 l2 = s.lane h2 l2 := rfl
@[simp] theorem State.setSsi_acc_gor (h k : Nat) (x : SsiX) (h2 i2 : Nat) : (s.setSsi h k x).gor h2 i2 = s.gor h2 i2 := rfl
@[simp] theorem State.setSsi_acc_bas (h k : Nat) (x : SsiX) (h2 : Nat) : (s.setSsi h k x).bas h2 = s.bas h2 := rfl
@[simp] theorem State.setSsi_acc_lbuf (h k : Nat) (x : SsiX) (h2 k2 : Nat) : (s.setSsi h k x).lbuf h2 k2 = s.lbuf h2 k2 := rfl
@[simp] theorem State.setSsi_acc_flue (h k : Nat) (x : SsiX) (h2 q2 : Nat) : (s.setSsi h k x).flue h2 q2 = s.flue h2 q2 := rfl
@[simp] theorem State.setSsi_acc_ter (h k : Nat) (x : SsiX) (h2 : Nat) : (s.setSsi h k x).ter h2 = s.ter h2 := rfl
@[simp] theorem State.setSsi_acc_fbx (h k : Nat) (x : SsiX) (h2 p2 : Nat) : (s.setSsi h k x).fbx h2 p2 = s.fbx h2 p2 := rfl
@[simp] theorem State.setSsi_acc_dmp (h k : Nat) (x : SsiX) (h2 : Nat) : (s.setSsi h k x).dmp h2 = s.dmp h2 := rfl
@[simp] theorem State.setSsi_acc_drt (h k : Nat) (x : SsiX) (h2 : Nat) : (s.setSsi h k x).drt h2 = s.drt h2 := rfl
@[simp] theorem State.setSsi_acc_axis (h k : Nat) (x : SsiX) (a2 : Nat) : (s.setSsi h k x).axis a2 = s.axis a2 := rfl
@[simp] theorem State.setSsi_acc_quad (h k : Nat) (x : SsiX) (h2 c2 : Nat) : (s.setSsi h k x).quad h2 c2 = s.quad h2 c2 := rfl
@[simp] theorem State.setSsi_acc_hall (h k : Nat) (x : SsiX) (h2 k2 : Nat) : (s.setSsi h k x).hall h2 k2 = s.hall h2 k2 := rfl
@[simp] theorem State.setSsi_acc_cam (h k : Nat) (x : SsiX) (h2 c2 : Nat) : (s.setSsi h k x).cam h2 c2 = s.cam h2 c2 := rfl
@[simp] theorem State.setSsi_acc_isp (h k : Nat) (x : SsiX) (h2 : Nat) : (s.setSsi h k x).isp h2 = s.isp h2 := rfl
@[simp] theorem State.setSsi_acc_chm (h k : Nat) (x : SsiX) (h2 : Nat) : (s.setSsi h k x).chm h2 = s.chm h2 := rfl
@[simp] theorem State.setSsi_acc_mbx (h k : Nat) (x : SsiX) (c2 : Nat) : (s.setSsi h k x).mbx c2 = s.mbx c2 := rfl
@[simp] theorem State.setSsi_acc_i2c (h k : Nat) (x : SsiX) (h2 c2 : Nat) : (s.setSsi h k x).i2c h2 c2 = s.i2c h2 c2 := rfl
@[simp] theorem State.setSsi_acc_cal (h k : Nat) (x : SsiX) (h2 : Nat) : (s.setSsi h k x).cal h2 = s.cal h2 := rfl
@[simp] theorem State.setSsi_acc_grt (h k : Nat) (x : SsiX) (h2 b2 : Nat) : (s.setSsi h k x).grt h2 b2 = s.grt h2 b2 := rfl
@[simp] theorem State.setSsi_acc_ash (h k : Nat) (x : SsiX) (h2 x2 : Nat) : (s.setSsi h k x).ash h2 x2 = s.ash h2 x2 := rfl
@[simp] theorem State.setSsi_acc_stg (h k : Nat) (x : SsiX) (h2 i2 b2 w2 : Nat) : (s.setSsi h k x).stg h2 i2 b2 w2 = s.stg h2 i2 b2 w2 := rfl
@[simp] theorem State.setSsi_acc_nH (h k : Nat) (x : SsiX) : (s.setSsi h k x).nH = s.nH := rfl
@[simp] theorem State.setSsi_acc_hasH (h k : Nat) (x : SsiX) (h2 : Nat) : (s.setSsi h k x).hasH h2 = s.hasH h2 := rfl
@[simp] theorem State.setCam_acc_rd (h c : Nat) (x : CamX) (h2 i2 b2 w2 : Nat) : (s.setCam h c x).rd h2 i2 b2 w2 = s.rd h2 i2 b2 w2 := rfl
@[simp] theorem State.setCam_acc_fget (h c : Nat) (x : CamX) (h2 i2 : Nat) (f2 : Fld) : (s.setCam h c x).fget h2 i2 f2 = s.fget h2 i2 f2 := rfl
@[simp] theorem State.setCam_acc_fon (h c : Nat) (x : CamX) (h2 i2 : Nat) (f2 : Fld) : (s.setCam h c x).fon h2 i2 f2 = s.fon h2 i2 f2 := rfl
@[simp] theorem State.setCam_acc_sget (h c : Nat) (x : CamX) (h2 i2 : Nat) (f2 : Fld) : (s.setCam h c x).sget h2 i2 f2 = s.sget h2 i2 f2 := rfl
@[simp] theorem State.setCam_acc_get64 (h c : Nat) (x : CamX) (h2 i2 : Nat) (f2 : Fld) : (s.setCam h c x).get64 h2 i2 f2 = s.get64 h2 i2 f2 := rfl
@[simp] theorem State.setCam_acc_dread (h c : Nat) (x : CamX) (h2 a2 : Nat) : (s.setCam h c x).dread h2 a2 = s.dread h2 a2 := rfl
@[simp] theorem State.setCam_acc_fread (h c : Nat) (x : CamX) (a2 : Nat) : (s.setCam h c x).fread a2 = s.fread a2 := rfl
@[simp] theorem State.setCam_acc_lane (h c : Nat) (x : CamX) (h2 l2 : Nat) : (s.setCam h c x).lane h2 l2 = s.lane h2 l2 := rfl
@[simp] theorem State.setCam_acc_gor (h c : Nat) (x : CamX) (h2 i2 : Nat) : (s.setCam h c x).gor h2 i2 = s.gor h2 i2 := rfl
@[simp] theorem State.setCam_acc_bas (h c : Nat) (x : CamX) (h2 : Nat) : (s.setCam h c x).bas h2 = s.bas h2 := rfl
@[simp] theorem State.setCam_acc_lbuf (h c : Nat) (x : CamX) (h2 k2 : Nat) : (s.setCam h c x).lbuf h2 k2 = s.lbuf h2 k2 := rfl
@[simp] theorem State.setCam_acc_flue (h c : Nat) (x : CamX) (h2 q2 : Nat) : (s.setCam h c x).flue h2 q2 = s.flue h2 q2 := rfl
@[simp] theorem State.setCam_acc_ter (h c : Nat) (x : CamX) (h2 : Nat) : (s.setCam h c x).ter h2 = s.ter h2 := rfl
@[simp] theorem State.setCam_acc_fbx (h c : Nat) (x : CamX) (h2 p2 : Nat) : (s.setCam h c x).fbx h2 p2 = s.fbx h2 p2 := rfl
@[simp] theorem State.setCam_acc_dmp (h c : Nat) (x : CamX) (h2 : Nat) : (s.setCam h c x).dmp h2 = s.dmp h2 := rfl
@[simp] theorem State.setCam_acc_drt (h c : Nat) (x : CamX) (h2 : Nat) : (s.setCam h c x).drt h2 = s.drt h2 := rfl
@[simp] theorem State.setCam_acc_axis (h c : Nat) (x : CamX) (a2 : Nat) : (s.setCam h c x).axis a2 = s.axis a2 := rfl
@[simp] theorem State.setCam_acc_quad (h c : Nat) (x : CamX) (h2 c2 : Nat) : (s.setCam h c x).quad h2 c2 = s.quad h2 c2 := rfl
@[simp] theorem State.setCam_acc_hall (h c : Nat) (x : CamX) (h2 k2 : Nat) : (s.setCam h c x).hall h2 k2 = s.hall h2 k2 := rfl
@[simp] theorem State.setCam_acc_ssi (h c : Nat) (x : CamX) (h2 k2 : Nat) : (s.setCam h c x).ssi h2 k2 = s.ssi h2 k2 := rfl
@[simp] theorem State.setCam_acc_isp (h c : Nat) (x : CamX) (h2 : Nat) : (s.setCam h c x).isp h2 = s.isp h2 := rfl
@[simp] theorem State.setCam_acc_chm (h c : Nat) (x : CamX) (h2 : Nat) : (s.setCam h c x).chm h2 = s.chm h2 := rfl
@[simp] theorem State.setCam_acc_mbx (h c : Nat) (x : CamX) (c2 : Nat) : (s.setCam h c x).mbx c2 = s.mbx c2 := rfl
@[simp] theorem State.setCam_acc_i2c (h c : Nat) (x : CamX) (h2 c2 : Nat) : (s.setCam h c x).i2c h2 c2 = s.i2c h2 c2 := rfl
@[simp] theorem State.setCam_acc_cal (h c : Nat) (x : CamX) (h2 : Nat) : (s.setCam h c x).cal h2 = s.cal h2 := rfl
@[simp] theorem State.setCam_acc_grt (h c : Nat) (x : CamX) (h2 b2 : Nat) : (s.setCam h c x).grt h2 b2 = s.grt h2 b2 := rfl
@[simp] theorem State.setCam_acc_ash (h c : Nat) (x : CamX) (h2 x2 : Nat) : (s.setCam h c x).ash h2 x2 = s.ash h2 x2 := rfl
@[simp] theorem State.setCam_acc_stg (h c : Nat) (x : CamX) (h2 i2 b2 w2 : Nat) : (s.setCam h c x).stg h2 i2 b2 w2 = s.stg h2 i2 b2 w2 := rfl
@[simp] theorem State.setCam_acc_nH (h c : Nat) (x : CamX) : (s.setCam h c x).nH = s.nH := rfl
@[simp] theorem State.setCam_acc_hasH (h c : Nat) (x : CamX) (h2 : Nat) : (s.setCam h c x).hasH h2 = s.hasH h2 := rfl
@[simp] theorem State.setIsp_acc_rd (h : Nat) (x : IspX) (h2 i2 b2 w2 : Nat) : (s.setIsp h x).rd h2 i2 b2 w2 = s.rd h2 i2 b2 w2 := rfl
@[simp] theorem State.setIsp_acc_fget (h : Nat) (x : IspX) (h2 i2 : Nat) (f2 : Fld) : (s.setIsp h x).fget h2 i2 f2 = s.fget h2 i2 f2 := rfl
@[simp] theorem State.setIsp_acc_fon (h : Nat) (x : IspX) (h2 i2 : Nat) (f2 : Fld) : (s.setIsp h x).fon h2 i2 f2 = s.fon h2 i2 f2 := rfl
@[simp] theorem State.setIsp_acc_sget (h : Nat) (x : IspX) (h2 i2 : Nat) (f2 : Fld) : (s.setIsp h x).sget h2 i2 f2 = s.sget h2 i2 f2 := rfl
@[simp] theorem State.setIsp_acc_get64 (h : Nat) (x : IspX) (h2 i2 : Nat) (f2 : Fld) : (s.setIsp h x).get64 h2 i2 f2 = s.get64 h2 i2 f2 := rfl
@[simp] theorem State.setIsp_acc_dread (h : Nat) (x : IspX) (h2 a2 : Nat) : (s.setIsp h x).dread h2 a2 = s.dread h2 a2 := rfl
@[simp] theorem State.setIsp_acc_fread (h : Nat) (x : IspX) (a2 : Nat) : (s.setIsp h x).fread a2 = s.fread a2 := rfl
@[simp] theorem State.setIsp_acc_lane (h : Nat) (x : IspX) (h2 l2 : Nat) : (s.setIsp h x).lane h2 l2 = s.lane h2 l2 := rfl
@[simp] theorem State.setIsp_acc_gor (h : Nat) (x : IspX) (h2 i2 : Nat) : (s.setIsp h x).gor h2 i2 = s.gor h2 i2 := rfl
@[simp] theorem State.setIsp_acc_bas (h : Nat) (x : IspX) (h2 : Nat) : (s.setIsp h x).bas h2 = s.bas h2 := rfl
@[simp] theorem State.setIsp_acc_lbuf (h : Nat) (x : IspX) (h2 k2 : Nat) : (s.setIsp h x).lbuf h2 k2 = s.lbuf h2 k2 := rfl
@[simp] theorem State.setIsp_acc_flue (h : Nat) (x : IspX) (h2 q2 : Nat) : (s.setIsp h x).flue h2 q2 = s.flue h2 q2 := rfl
@[simp] theorem State.setIsp_acc_ter (h : Nat) (x : IspX) (h2 : Nat) : (s.setIsp h x).ter h2 = s.ter h2 := rfl
@[simp] theorem State.setIsp_acc_fbx (h : Nat) (x : IspX) (h2 p2 : Nat) : (s.setIsp h x).fbx h2 p2 = s.fbx h2 p2 := rfl
@[simp] theorem State.setIsp_acc_dmp (h : Nat) (x : IspX) (h2 : Nat) : (s.setIsp h x).dmp h2 = s.dmp h2 := rfl
@[simp] theorem State.setIsp_acc_drt (h : Nat) (x : IspX) (h2 : Nat) : (s.setIsp h x).drt h2 = s.drt h2 := rfl
@[simp] theorem State.setIsp_acc_axis (h : Nat) (x : IspX) (a2 : Nat) : (s.setIsp h x).axis a2 = s.axis a2 := rfl
@[simp] theorem State.setIsp_acc_quad (h : Nat) (x : IspX) (h2 c2 : Nat) : (s.setIsp h x).quad h2 c2 = s.quad h2 c2 := rfl
@[simp] theorem State.setIsp_acc_hall (h : Nat) (x : IspX) (h2 k2 : Nat) : (s.setIsp h x).hall h2 k2 = s.hall h2 k2 := rfl
@[simp] theorem State.setIsp_acc_ssi (h : Nat) (x : IspX) (h2 k2 : Nat) : (s.setIsp h x).ssi h2 k2 = s.ssi h2 k2 := rfl
@[simp] theorem State.setIsp_acc_cam (h : Nat) (x : IspX) (h2 c2 : Nat) : (s.setIsp h x).cam h2 c2 = s.cam h2 c2 := rfl
@[simp] theorem State.setIsp_acc_chm (h : Nat) (x : IspX) (h2 : Nat) : (s.setIsp h x).chm h2 = s.chm h2 := rfl
@[simp] theorem State.setIsp_acc_mbx (h : Nat) (x : IspX) (c2 : Nat) : (s.setIsp h x).mbx c2 = s.mbx c2 := rfl
@[simp] theorem State.setIsp_acc_i2c (h : Nat) (x : IspX) (h2 c2 : Nat) : (s.setIsp h x).i2c h2 c2 = s.i2c h2 c2 := rfl
@[simp] theorem State.setIsp_acc_cal (h : Nat) (x : IspX) (h2 : Nat) : (s.setIsp h x).cal h2 = s.cal h2 := rfl
@[simp] theorem State.setIsp_acc_grt (h : Nat) (x : IspX) (h2 b2 : Nat) : (s.setIsp h x).grt h2 b2 = s.grt h2 b2 := rfl
@[simp] theorem State.setIsp_acc_ash (h : Nat) (x : IspX) (h2 x2 : Nat) : (s.setIsp h x).ash h2 x2 = s.ash h2 x2 := rfl
@[simp] theorem State.setIsp_acc_stg (h : Nat) (x : IspX) (h2 i2 b2 w2 : Nat) : (s.setIsp h x).stg h2 i2 b2 w2 = s.stg h2 i2 b2 w2 := rfl
@[simp] theorem State.setIsp_acc_nH (h : Nat) (x : IspX) : (s.setIsp h x).nH = s.nH := rfl
@[simp] theorem State.setIsp_acc_hasH (h : Nat) (x : IspX) (h2 : Nat) : (s.setIsp h x).hasH h2 = s.hasH h2 := rfl
@[simp] theorem State.setChm_acc_rd (h : Nat) (x : ChmX) (h2 i2 b2 w2 : Nat) : (s.setChm h x).rd h2 i2 b2 w2 = s.rd h2 i2 b2 w2 := rfl
@[simp] theorem State.setChm_acc_fget (h : Nat) (x : ChmX) (h2 i2 : Nat) (f2 : Fld) : (s.setChm h x).fget h2 i2 f2 = s.fget h2 i2 f2 := rfl
@[simp] theorem State.setChm_acc_fon (h : Nat) (x : ChmX) (h2 i2 : Nat) (f2 : Fld) : (s.setChm h x).fon h2 i2 f2 = s.fon h2 i2 f2 := rfl
@[simp] theorem State.setChm_acc_sget (h : Nat) (x : ChmX) (h2 i2 : Nat) (f2 : Fld) : (s.setChm h x).sget h2 i2 f2 = s.sget h2 i2 f2 := rfl
@[simp] theorem State.setChm_acc_get64 (h : Nat) (x : ChmX) (h2 i2 : Nat) (f2 : Fld) : (s.setChm h x).get64 h2 i2 f2 = s.get64 h2 i2 f2 := rfl
@[simp] theorem State.setChm_acc_dread (h : Nat) (x : ChmX) (h2 a2 : Nat) : (s.setChm h x).dread h2 a2 = s.dread h2 a2 := rfl
@[simp] theorem State.setChm_acc_fread (h : Nat) (x : ChmX) (a2 : Nat) : (s.setChm h x).fread a2 = s.fread a2 := rfl
@[simp] theorem State.setChm_acc_lane (h : Nat) (x : ChmX) (h2 l2 : Nat) : (s.setChm h x).lane h2 l2 = s.lane h2 l2 := rfl
@[simp] theorem State.setChm_acc_gor (h : Nat) (x : ChmX) (h2 i2 : Nat) : (s.setChm h x).gor h2 i2 = s.gor h2 i2 := rfl
@[simp] theorem State.setChm_acc_bas (h : Nat) (x : ChmX) (h2 : Nat) : (s.setChm h x).bas h2 = s.bas h2 := rfl
@[simp] theorem State.setChm_acc_lbuf (h : Nat) (x : ChmX) (h2 k2 : Nat) : (s.setChm h x).lbuf h2 k2 = s.lbuf h2 k2 := rfl
@[simp] theorem State.setChm_acc_flue (h : Nat) (x : ChmX) (h2 q2 : Nat) : (s.setChm h x).flue h2 q2 = s.flue h2 q2 := rfl
@[simp] theorem State.setChm_acc_ter (h : Nat) (x : ChmX) (h2 : Nat) : (s.setChm h x).ter h2 = s.ter h2 := rfl
@[simp] theorem State.setChm_acc_fbx (h : Nat) (x : ChmX) (h2 p2 : Nat) : (s.setChm h x).fbx h2 p2 = s.fbx h2 p2 := rfl
@[simp] theorem State.setChm_acc_dmp (h : Nat) (x : ChmX) (h2 : Nat) : (s.setChm h x).dmp h2 = s.dmp h2 := rfl
@[simp] theorem State.setChm_acc_drt (h : Nat) (x : ChmX) (h2 : Nat) : (s.setChm h x).drt h2 = s.drt h2 := rfl
@[simp] theorem State.setChm_acc_axis (h : Nat) (x : ChmX) (a2 : Nat) : (s.setChm h x).axis a2 = s.axis a2 := rfl
@[simp] theorem State.setChm_acc_quad (h : Nat) (x : ChmX) (h2 c2 : Nat) : (s.setChm h x).quad h2 c2 = s.quad h2 c2 := rfl
@[simp] theorem State.setChm_acc_hall (h : Nat) (x : ChmX) (h2 k2 : Nat) : (s.setChm h x).hall h2 k2 = s.hall h2 k2 := rfl
@[simp] theorem State.setChm_acc_ssi (h : Nat) (x : ChmX) (h2 k2 : Nat) : (s.setChm h x).ssi h2 k2 = s.ssi h2 k2 := rfl
@[simp] theorem State.setChm_acc_cam (h : Nat) (x : ChmX) (h2 c2 : Nat) : (s.setChm h x).cam h2 c2 = s.cam h2 c2 := rfl
@[simp] theorem State.setChm_acc_isp (h : Nat) (x : ChmX) (h2 : Nat) : (s.setChm h x).isp h2 = s.isp h2 := rfl
@[simp] theorem State.setChm_acc_mbx (h : Nat) (x : ChmX) (c2 : Nat) : (s.setChm h x).mbx c2 = s.mbx c2 := rfl
@[simp] theorem State.setChm_acc_i2c (h : Nat) (x : ChmX) (h2 c2 : Nat) : (s.setChm h x).i2c h2 c2 = s.i2c h2 c2 := rfl
@[simp] theorem State.setChm_acc_cal (h : Nat) (x : ChmX) (h2 : Nat) : (s.setChm h x).cal h2 = s.cal h2 := rfl
@[simp] theorem State.setChm_acc_grt (h : Nat) (x : ChmX) (h2 b2 : Nat) : (s.setChm h x).grt h2 b2 = s.grt h2 b2 := rfl
@[simp] theorem State.setChm_acc_ash (h : Nat) (x : ChmX) (h2 x2 : Nat) : (s.setChm h x).ash h2 x2 = s.ash h2 x2 := rfl
@[simp] theorem State.setChm_acc_stg (h : Nat) (x : ChmX) (h2 i2 b2 w2 : Nat) : (s.setChm h x).stg h2 i2 b2 w2 = s.stg h2 i2 b2 w2 := rfl
@[simp] theorem State.setChm_acc_nH (h : Nat) (x : ChmX) : (s.setChm h x).nH = s.nH := rfl
@[simp] theorem State.setChm_acc_hasH (h : Nat) (x : ChmX) (h2 : Nat) : (s.setChm h x).hasH h2 = s.hasH h2 := rfl
@[simp] theorem State.setMbx_acc_rd (c : Nat) (x : MbxX) (h2 i2 b2 w2 : Nat) : (s.setMbx c x).rd h2 i2 b2 w2 = s.rd h2 i2 b2 w2 := rfl
@[simp] theorem State.setMbx_acc_fget (c : Nat) (x : MbxX) (h2 i2 : Nat) (f2 : Fld) : (s.setMbx c x).fget h2 i2 f2 = s.fget h2 i2 f2 := rfl
@[simp] theorem State.setMbx_acc_fon (c : Nat) (x : MbxX) (h2 i2 : Nat) (f2 : Fld) : (s.setMbx c x).fon h2 i2 f2 = s.fon h2 i2 f2 := rfl
@[simp] theorem State.setMbx_acc_sget (c : Nat) (x : MbxX) (h2 i2 : Nat) (f2 : Fld) : (s.setMbx c x).sget h2 i2 f2 = s.sget h2 i2 f2 := rfl
@[simp] theorem State.setMbx_acc_get64 (c : Nat) (x : MbxX) (h2 i2 : Nat) (f2 : Fld) : (s.setMbx c x).get64 h2 i2 f2 = s.get64 h2 i2 f2 := rfl
@[simp] theorem State.setMbx_acc_dread (c : Nat) (x : MbxX) (h2 a2 : Nat) : (s.setMbx c x).dread h2 a2 = s.dread h2 a2 := rfl
@[simp] theorem State.setMbx_acc_fread (c : Nat) (x : MbxX) (a2 : Nat) : (s.setMbx c x).fread a2 = s.fread a2 := rfl
@[simp] theorem State.setMbx_acc_lane (c : Nat) (x : MbxX) (h2 l2 : Nat) : (s.setMbx c x).lane h2 l2 = s.lane h2 l2 := rfl
@[simp] theorem State.setMbx_acc_gor (c : Nat) (x : MbxX) (h2 i2 : Nat) : (s.setMbx c x).gor h2 i2 = s.gor h2 i2 := rfl
@[simp] theorem State.setMbx_acc_bas (c : Nat) (x : MbxX) (h2 : Nat) : (s.setMbx c x).bas h2 = s.bas h2 := rfl
@[simp] theorem State.setMbx_acc_lbuf (c : Nat) (x : MbxX) (h2 k2 : Nat) : (s.setMbx c x).lbuf h2 k2 = s.lbuf h2 k2 := rfl
@[simp] theorem State.setMbx_acc_flue (c : Nat) (x : MbxX) (h2 q2 : Nat) : (s.setMbx c x).flue h2 q2 = s.flue h2 q2 := rfl
@[simp] theorem State.setMbx_acc_ter (c : Nat) (x : MbxX) (h2 : Nat) : (s.setMbx c x).ter h2 = s.ter h2 := rfl
@[simp] theorem State.setMbx_acc_fbx (c : Nat) (x : MbxX) (h2 p2 : Nat) : (s.setMbx c x).fbx h2 p2 = s.fbx h2 p2 := rfl
@[simp] theorem State.setMbx_acc_dmp (c : Nat) (x : MbxX) (h2 : Nat) : (s.setMbx c x).dmp h2 = s.dmp h2 := rfl
@[simp] theorem State.setMbx_acc_drt (c : Nat) (x : MbxX) (h2 : Nat) : (s.setMbx c x).drt h2 = s.drt h2 := rfl
@[simp] theorem State.setMbx_acc_axis (c : Nat) (x : MbxX) (a2 : Nat) : (s.setMbx c x).axis a2 = s.axis a2 := rfl
@[simp] theorem State.setMbx_acc_quad (c : Nat) (x : MbxX) (h2 c2 : Nat) : (s.setMbx c x).quad h2 c2 = s.quad h2 c2 := rfl
@[simp] theorem State.setMbx_acc_hall (c : Nat) (x : MbxX) (h2 k2 : Nat) : (s.setMbx c x).hall h2 k2 = s.hall h2 k2 := rfl
@[simp] theorem State.setMbx_acc_ssi (c : Nat) (x : MbxX) (h2 k2 : Nat) : (s.setMbx c x).ssi h2 k2 = s.ssi h2 k2 := rfl
@[simp] theorem State.setMbx_acc_cam (c : Nat) (x : MbxX) (h2 c2 : Nat) : (s.setMbx c x).cam h2 c2 = s.cam h2 c2 := rfl
@[simp] theorem State.setMbx_acc_isp (c : Nat) (x : MbxX) (h2 : Nat) : (s.setMbx c x).isp h2 = s.isp h2 := rfl
@[simp] theorem State.setMbx_acc_chm (c : Nat) (x : MbxX) (h2 : Nat) : (s.setMbx c x).chm h2 = s.chm h2 := rfl
@[simp] theorem State.setMbx_acc_i2c (c : Nat) (x : MbxX) (h2 c2 : Nat) : (s.setMbx c x).i2c h2 c2 = s.i2c h2 c2 := rfl
@[simp] theorem State.setMbx_acc_cal (c : Nat) (x : MbxX) (h2 : Nat) : (s.setMbx c x).cal h2 = s.cal h2 := rfl
@[simp] theorem State.setMbx_acc_grt (c : Nat) (x : MbxX) (h2 b2 : Nat) : (s.setMbx c x).grt h2 b2 = s.grt h2 b2 := rfl
@[simp] theorem State.setMbx_acc_ash (c : Nat) (x : MbxX) (h2 x2 : Nat) : (s.setMbx c x).ash h2 x2 = s.ash h2 x2 := rfl
@[simp] theorem State.setMbx_acc_stg (c : Nat) (x : MbxX) (h2 i2 b2 w2 : Nat) : (s.setMbx c x).stg h2 i2 b2 w2 = s.stg h2 i2 b2 w2 := rfl
@[simp] theorem State.setMbx_acc_nH (c : Nat) (x : MbxX) : (s.setMbx c x).nH = s.nH := rfl
@[simp] theorem State.setMbx_acc_hasH (c : Nat) (x : MbxX) (h2 : Nat) : (s.setMbx c x).hasH h2 = s.hasH h2 := rfl
@[simp] theorem State.setI2c_acc_rd (h c : Nat) (x : I2cX) (h2 i2 b2 w2 : Nat) : (s.setI2c h c x).rd h2 i2 b2 w2 = s.rd h2 i2 b2 w2 := rfl
@[simp] theorem State.setI2c_acc_fget (h c : Nat) (x : I2cX) (h2 i2 : Nat) (f2 : Fld) : (s.setI2c h c x).fget h2 i2 f2 = s.fget h2 i2 f2 := rfl
@[simp] theorem State.setI2c_acc_fon (h c : Nat) (x : I2cX) (h2 i2 : Nat) (f2 : Fld) : (s.setI2c h c x).fon h2 i2 f2 = s.fon h2 i2 f2 := rfl
@[simp] theorem State.setI2c_acc_sget (h c : Nat) (x : I2cX) (h2 i2 : Nat) (f2 : Fld) : (s.setI2c h c x).sget h2 i2 f2 = s.sget h2 i2 f2 := rfl
@[simp] theorem State.setI2c_acc_get64 (h c : Nat) (x : I2cX) (h2 i2 : Nat) (f2 : Fld) : (s.setI2c h c x).get64 h2 i2 f2 = s.get64 h2 i2 f2 := rfl
@[simp] theorem State.setI2c_acc_dread (h c : Nat) (x : I2cX) (h2 a2 : Nat) : (s.setI2c h c x).dread h2 a2 = s.dread h2 a2 := rfl
@[simp] theorem State.setI2c_acc_fread (h c : Nat) (x : I2cX) (a2 : Nat) : (s.setI2c h c x).fread a2 = s.fread a2 := rfl
@[simp] theorem State.setI2c_acc_lane (h c : Nat) (x : I2cX) (h2 l2 : Nat) : (s.setI2c h c x).lane h2 l2 = s.lane h2 l2 := rfl
@[simp] theorem State.setI2c_acc_gor (h c : Nat) (x : I2cX) (h2 i2 : Nat) : (s.setI2c h c x).gor h2 i2 = s.gor h2 i2 := rfl
@[simp] theorem State.setI2c_acc_bas (h c : Nat) (x : I2cX) (h2 : Nat) : (s.setI2c h c x).bas h2 = s.bas h2 := rfl
@[simp] theorem State.setI2c_acc_lbuf (h c : Nat) (x : I2cX) (h2 k2 : Nat) : (s.setI2c h c x).lbuf h2 k2 = s.lbuf h2 k2 := rfl
@[simp] theorem State.setI2c_acc_flue (h c : Nat) (x : I2cX) (h2 q2 : Nat) : (s.setI2c h c x).flue h2 q2 = s.flue h2 q2 := rfl
@[simp] theorem State.setI2c_acc_ter (h c : Nat) (x : I2cX) (h2 : Nat) : (s.setI2c h c x).ter h2 = s.ter h2 := rfl
@[simp] theorem State.setI2c_acc_fbx (h c : Nat) (x : I2cX) (h2 p2 : Nat) : (s.setI2c h c x).fbx h2 p2 = s.fbx h2 p2 := rfl
@[simp] theorem State.setI2c_acc_dmp (h c : Nat) (x : I2cX) (h2 : Nat) : (s.setI2c h c x).dmp h2 = s.dmp h2 := rfl
@[simp] theorem State.setI2c_acc_drt (h c : Nat) (x : I2cX) (h2 : Nat) : (s.setI2c h c x).drt h2 = s.drt h2 := rfl
@[simp] theorem State.setI2c_acc_axis (h c : Nat) (x : I2cX) (a2 : Nat) : (s.setI2c h c x).axis a2 = s.axis a2 := rfl
@[simp] theorem State.setI2c_acc_quad (h c : Nat) (x : I2cX) (h2 c2 : Nat) : (s.setI2c h c x).quad h2 c2 = s.quad h2 c2 := rfl
@[simp] theorem State.setI2c_acc_hall (h c : Nat) (x : I2cX) (h2 k2 : Nat) : (s.setI2c h c x).hall h2 k2 = s.hall h2 k2 := rfl
@[simp] theorem State.setI2c_acc_ssi (h c : Nat) (x : I2cX) (h2 k2 : Nat) : (s.setI2c h c x).ssi h2 k2 = s.ssi h2 k2 := rfl
@[simp] theorem State.setI2c_acc_cam (h c : Nat) (x : I2cX) (h2 c2 : Nat) : (s.setI2c h c x).cam h2 c2 = s.cam h2 c2 := rfl
@[simp] theorem State.setI2c_acc_isp (h c : Nat) (x : I2cX) (h2 : Nat) : (s.setI2c h c x).isp h2 = s.isp h2 := rfl
@[simp] theorem State.setI2c_acc_chm (h c : Nat) (x : I2cX) (h2 : Nat) : (s.setI2c h c x).chm h2 = s.chm h2 := rfl
@[simp] theorem State.setI2c_acc_mbx (h c : Nat) (x : I2cX) (c2 : Nat) : (s.setI2c h c x).mbx c2 = s.mbx c2 := rfl
@[simp] theorem State.setI2c_acc_cal (h c : Nat) (x : I2cX) (h2 : Nat) : (s.setI2c h c x).cal h2 = s.cal h2 := rfl
@[simp] theorem State.setI2c_acc_grt (h c : Nat) (x : I2cX) (h2 b2 : Nat) : (s.setI2c h c x).grt h2 b2 = s.grt h2 b2 := rfl
@[simp] theorem State.setI2c_acc_ash (h c : Nat) (x : I2cX) (h2 x2 : Nat) : (s.setI2c h c x).ash h2 x2 = s.ash h2 x2 := rfl
@[simp] theorem State.setI2c_acc_stg (h c : Nat) (x : I2cX) (h2 i2 b2 w2 : Nat) : (s.setI2c h c x).stg h2 i2 b2 w2 = s.stg h2 i2 b2 w2 := rfl
@[simp] theorem State.setI2c_acc_nH (h c : Nat) (x : I2cX) : (s.setI2c h c x).nH = s.nH := rfl
@[simp] theorem State.setI2c_acc_hasH (h c : Nat) (x : I2cX) (h2 : Nat) : (s.setI2c h c x).hasH h2 = s.hasH h2 := rfl
@[simp] theorem State.setCal_acc_rd (h : Nat) (x : CalX) (h2 i2 b2 w2 : Nat) : (s.setCal h x).rd h2 i2 b2 w2 = s.rd h2 i2 b2 w2 := rfl
@[simp] theorem State.setCal_acc_fget (h : Nat) (x : CalX) (h2 i2 : Nat) (f2 : Fld) : (s.setCal h x).fget h2 i2 f2 = s.fget h2 i2 f2 := rfl
@[simp] theorem State.setCal_acc_fon (h : Nat) (x : CalX) (h2 i2 : Nat) (f2 : Fld) : (s.setCal h x).fon h2 i2 f2 = s.fon h2 i2 f2 := rfl
@[simp] theorem State.setCal_acc_sget (h : Nat) (x : CalX) (h2 i2 : Nat) (f2 : Fld) : (s.setCal h x).sget h2 i2 f2 = s.sget h2 i2 f2 := rfl
@[simp] theorem State.setCal_acc_get64 (h : Nat) (x : CalX) (h2 i2 : Nat) (f2 : Fld) : (s.setCal h x).get64 h2 i2 f2 = s.get64 h2 i2 f2 := rfl
@[simp] theorem State.setCal_acc_dread (h : Nat) (x : CalX) (h2 a2 : Nat) : (s.setCal h x).dread h2 a2 = s.dread h2 a2 := rfl
@[simp] theorem State.setCal_acc_fread (h : Nat) (x : CalX) (a2 : Nat) : (s.setCal h x).fread a2 = s.fread a2 := rfl
@[simp] theorem State.setCal_acc_lane (h : Nat) (x : CalX) (h2 l2 : Nat) : (s.setCal h x).lane h2 l2 = s.lane h2 l2 := rfl
@[simp] theorem State.setCal_acc_gor (h : Nat) (x : CalX) (h2 i2 : Nat) : (s.setCal h x).gor h2 i2 = s.gor h2 i2 := rfl
@[simp] theorem State.setCal_acc_bas (h : Nat) (x : CalX) (h2 : Nat) : (s.setCal h x).bas h2 = s.bas h2 := rfl
@[simp] theorem State.setCal_acc_lbuf (h : Nat) (x : CalX) (h2 k2 : Nat) : (s.setCal h x).lbuf h2 k2 = s.lbuf h2 k2 := rfl
@[simp] theorem State.setCal_acc_flue (h : Nat) (x : CalX) (h2 q2 : Nat) : (s.setCal h x).flue h2 q2 = s.flue h2 q2 := rfl
@[simp] theorem State.setCal_acc_ter (h : Nat) (x : CalX) (h2 : Nat) : (s.setCal h x).ter h2 = s.ter h2 := rfl
@[simp] theorem State.setCal_acc_fbx (h : Nat) (x : CalX) (h2 p2 : Nat) : (s.setCal h x).fbx h2 p2 = s.fbx h2 p2 := rfl
@[simp] theorem State.setCal_acc_dmp (h : Nat) (x : CalX) (h2 : Nat) : (s.setCal h x).dmp h2 = s.dmp h2 := rfl
@[simp] theorem State.setCal_acc_drt (h : Nat) (x : CalX) (h2 : Nat) : (s.setCal h x).drt h2 = s.drt h2 := rfl
@[simp] theorem State.setCal_acc_axis (h : Nat) (x : CalX) (a2 : Nat) : (s.setCal h x).axis a2 = s.axis a2 := rfl
@[simp] theorem State.setCal_acc_quad (h : Nat) (x : CalX) (h2 c2 : Nat) : (s.setCal h x).quad h2 c2 = s.quad h2 c2 := rfl
@[simp] theorem State.setCal_acc_hall (h : Nat) (x : CalX) (h2 k2 : Nat) : (s.setCal h x).hall h2 k2 = s.hall h2 k2 := rfl
@[simp] theorem State.setCal_acc_ssi (h : Nat) (x : CalX) (h2 k2 : Nat) : (s.setCal h x).ssi h2 k2 = s.ssi h2 k2 := rfl
@[simp] theorem State.setCal_acc_cam (h : Nat) (x : CalX) (h2 c2 : Nat) : (s.setCal h x).cam h2 c2 = s.cam h2 c2 := rfl
@[simp] theorem State.setCal_acc_isp (h : Nat) (x : CalX) (h2 : Nat) : (s.setCal h x).isp h2 = s.isp h2 := rfl
@[simp] theorem State.setCal_acc_chm (h : Nat) (x : CalX) (h2 : Nat) : (s.setCal h x).chm h2 = s.chm h2 := rfl
@[simp] theorem State.setCal_acc_mbx (h : Nat) (x : CalX) (c2 : Nat) : (s.setCal h x).mbx c2 = s.mbx c2 := rfl
@[simp] theorem State.setCal_acc_i2c (h : Nat) (x : CalX) (h2 c2 : Nat) : (s.setCal h x).i2c h2 c2 = s.i2c h2 c2 := rfl
@[simp] theorem State.setCal_acc_grt (h : Nat) (x : CalX) (h2 b2 : Nat) : (s.setCal h x).grt h2 b2 = s.grt h2 b2 := rfl
@[simp] theorem State.setCal_acc_ash (h : Nat) (x : CalX) (h2 x2 : Nat) : (s.setCal h x).ash h2 x2 = s.ash h2 x2 := rfl
@[simp] theorem State.setCal_acc_stg (h : Nat) (x : CalX) (h2 i2 b2 w2 : Nat) : (s.setCal h x).stg h2 i2 b2 w2 = s.stg h2 i2 b2 w2 := rfl
@[simp] theorem State.setCal_acc_nH (h : Nat) (x : CalX) : (s.setCal h x).nH = s.nH := rfl
@[simp] theorem State.setCal_acc_hasH (h : Nat) (x : CalX) (h2 : Nat) : (s.setCal h x).hasH h2 = s.hasH h2 := rfl
@[simp] theorem State.setGrt_acc_rd (h b : Nat) (t : Tab Nat) (h2 i2 b2 w2 : Nat) : (s.setGrt h b t).rd h2 i2 b2 w2 = s.rd h2 i2 b2 w2 := rfl
@[simp] theorem State.setGrt_acc_fget (h b : Nat) (t : Tab Nat) (h2 i2 : Nat) (f2 : Fld) : (s.setGrt h b t).fget h2 i2 f2 = s.fget h2 i2 f2 := rfl
@[simp] theorem State.setGrt_acc_fon (h b : Nat) (t : Tab Nat) (h2 i2 : Nat) (f2 : Fld) : (s.setGrt h b t).fon h2 i2 f2 = s.fon h2 i2 f2 := rfl
@[simp] theorem State.setGrt_acc_sget (h b : Nat) (t : Tab Nat) (h2 i2 : Nat) (f2 : Fld) : (s.setGrt h b t).sget h2 i2 f2 = s.sget h2 i2 f2 := rfl
@[simp] theorem State.setGrt_acc_get64 (h b : Nat) (t : Tab Nat) (h2 i2 : Nat) (f2 : Fld) : (s.setGrt h b t).get64 h2 i2 f2 = s.get64 h2 i2 f2 := rfl
@[simp] theorem State.setGrt_acc_dread (h b : Nat) (t : Tab Nat) (h2 a2 : Nat) : (s.setGrt h b t).dread h2 a2 = s.dread h2 a2 := rfl
@[simp] theorem State.setGrt_acc_fread (h b : Nat) (t : Tab Nat) (a2 : Nat) : (s.setGrt h b t).fread a2 = s.fread a2 := rfl
@[simp] theorem State.setGrt_acc_lane (h b : Nat) (t : Tab Nat) (h2 l2 : Nat) : (s.setGrt h b t).lane h2 l2 = s.lane h2 l2 := rfl
@[simp] theorem State.setGrt_acc_gor (h b : Nat) (t : Tab Nat) (h2 i2 : Nat) : (s.setGrt h b t).gor h2 i2 = s.gor h2 i2 := rfl
@[simp] theorem State.setGrt_acc_bas (h b : Nat) (t : Tab Nat) (h2 : Nat) : (s.setGrt h b t).bas h2 = s.bas h2 := rfl
@[simp] theorem State.setGrt_acc_lbuf (h b : Nat) (t : Tab Nat) (h2 k2 : Nat) : (s.setGrt h b t).lbuf h2 k2 = s.lbuf h2 k2 := rfl
@[simp] theorem State.setGrt_acc_flue (h b : Nat) (t : Tab Nat) (h2 q2 : Nat) : (s.setGrt h b t).flue h2 q2 = s.flue h2 q2 := rfl
@[simp] theorem State.setGrt_acc_ter (h b : Nat) (t : Tab Nat) (h2 : Nat) : (s.setGrt h b t).ter h2 = s.ter h2 := rfl
@[simp] theorem State.setGrt_acc_fbx (h b : Nat) (t : Tab Nat) (h2 p2 : Nat) : (s.setGrt h b t).fbx h2 p2 = s.fbx h2 p2 := rfl
@[simp] theorem State.setGrt_acc_dmp (h b : Nat) (t : Tab Nat) (h2 : Nat) : (s.setGrt h b t).dmp h2 = s.dmp h2 := rfl
@[simp] theorem State.setGrt_acc_drt (h b : Nat) (t : Tab Nat) (h2 : Nat) : (s.setGrt h b t).drt h2 = s.drt h2 := rfl
@[simp] theorem State.setGrt_acc_axis (h b : Nat) (t : Tab Nat) (a2 : Nat) : (s.setGrt h b t).axis a2 = s.axis a2 := rfl
@[simp] theorem State.setGrt_acc_quad (h b : Nat) (t : Tab Nat) (h2 c2 : Nat) : (s.setGrt h b t).quad h2 c2 = s.quad h2 c2 := rfl
@[simp] theorem State.setGrt_acc_hall (h b : Nat) (t : Tab Nat) (h2 k2 : Nat) : (s.setGrt h b t).hall h2 k2 = s.hall h2 k2 := rfl
@[simp] theorem State.setGrt_acc_ssi (h b : Nat) (t : Tab Nat) (h2 k2 : Nat) : (s.setGrt h b t).ssi h2 k2 = s.ssi h2 k2 := rfl
@[simp] theorem State.setGrt_acc_cam (h b : Nat) (t : Tab Nat) (h2 c2 : Nat) : (s.setGrt h b t).cam h2 c2 = s.cam h2 c2 := rfl
@[simp] theorem State.setGrt_acc_isp (h b : Nat) (t : Tab Nat) (h2 : Nat) : (s.setGrt h b t).isp h2 = s.isp h2 := rfl
@[simp] theorem State.setGrt_acc_chm (h b : Nat) (t : Tab Nat) (h2 : Nat) : (s.setGrt h b t).chm h2 = s.chm h2 := rfl
@[simp] theorem State.setGrt_acc_mbx (h b : Nat) (t : Tab Nat) (c2 : Nat) : (s.setGrt h b t).mbx c2 = s.mbx c2 := rfl
@[simp] theorem State.setGrt_acc_i2c (h b : Nat) (t : Tab Nat) (h2 c2 : Nat) : (s.setGrt h b t).i2c h2 c2 = s.i2c h2 c2 := rfl
@[simp] theorem State.setGrt_acc_cal (h b : Nat) (t : Tab Nat) (h2 : Nat) : (s.setGrt h b t).cal h2 = s.cal h2 := rfl
@[simp] theorem State.setGrt_acc_ash (h b : Nat) (t : Tab Nat) (h2 x2 : Nat) : (s.setGrt h b t).ash h2 x2 = s.ash h2 x2 := rfl
@[simp] theorem State.setGrt_acc_stg (h b : Nat) (t : Tab Nat) (h2 i2 b2 w2 : Nat) : (s.setGrt h b t).stg h2 i2 b2 w2 = s.stg h2 i2 b2 w2 := rfl
@[simp] theorem State.setGrt_acc_nH (h b : Nat) (t : Tab Nat) : (s.setGrt h b t).nH = s.nH := rfl
@[simp] theorem State.setGrt_acc_hasH (h b : Nat) (t : Tab Nat) (h2 : Nat) : (s.setGrt h b t).hasH h2 = s.hasH h2 := rfl
@[simp] theorem State.setAsh_acc_rd (h x : Nat) (e : Word) (h2 i2 b2 w2 : Nat) : (s.setAsh h x e).rd h2 i2 b2 w2 = s.rd h2 i2 b2 w2 := rfl
@[simp] theorem State.setAsh_acc_fget (h x : Nat) (e : Word) (h2 i2 : Nat) (f2 : Fld) : (s.setAsh h x e).fget h2 i2 f2 = s.fget h2 i2 f2 := rfl
@[simp] theorem State.setAsh_acc_fon (h x : Nat) (e : Word) (h2 i2 : Nat) (f2 : Fld) : (s.setAsh h x e).fon h2 i2 f2 = s.fon h2 i2 f2 := rfl
@[simp] theorem State.setAsh_acc_sget (h x : Nat) (e : Word) (h2 i2 : Nat) (f2 : Fld) : (s.setAsh h x e).sget h2 i2 f2 = s.sget h2 i2 f2 := rfl
@[simp] theorem State.setAsh_acc_get64 (h x : Nat) (e : Word) (h2 i2 : Nat) (f2 : Fld) : (s.setAsh h x e).get64 h2 i2 f2 = s.get64 h2 i2 f2 := rfl
@[simp] theorem State.setAsh_acc_dread (h x : Nat) (e : Word) (h2 a2 : Nat) : (s.setAsh h x e).dread h2 a2 = s.dread h2 a2 := rfl
@[simp] theorem State.setAsh_acc_fread (h x : Nat) (e : Word) (a2 : Nat) : (s.setAsh h x e).fread a2 = s.fread a2 := rfl
@[simp] theorem State.setAsh_acc_lane (h x : Nat) (e : Word) (h2 l2 : Nat) : (s.setAsh h x e).lane h2 l2 = s.lane h2 l2 := rfl
@[simp] theorem State.setAsh_acc_gor (h x : Nat) (e : Word) (h2 i2 : Nat) : (s.setAsh h x e).gor h2 i2 = s.gor h2 i2 := rfl
@[simp] theorem State.setAsh_acc_bas (h x : Nat) (e : Word) (h2 : Nat) : (s.setAsh h x e).bas h2 = s.bas h2 := rfl
@[simp] theorem State.setAsh_acc_lbuf (h x : Nat) (e : Word) (h2 k2 : Nat) : (s.setAsh h x e).lbuf h2 k2 = s.lbuf h2 k2 := rfl
@[simp] theorem State.setAsh_acc_flue (h x : Nat) (e : Word) (h2 q2 : Nat) : (s.setAsh h x e).flue h2 q2 = s.flue h2 q2 := rfl
@[simp] theorem State.setAsh_acc_ter (h x : Nat) (e : Word) (h2 : Nat) : (s.setAsh h x e).ter h2 = s.ter h2 := rfl
@[simp] theorem State.setAsh_acc_fbx (h x : Nat) (e : Word) (h2 p2 : Nat) : (s.setAsh h x e).fbx h2 p2 = s.fbx h2 p2 := rfl
@[simp] theorem State.setAsh_acc_dmp (h x : Nat) (e : Word) (h2 : Nat) : (s.setAsh h x e).dmp h2 = s.dmp h2 := rfl
@[simp] theorem State.setAsh_acc_drt (h x : Nat) (e : Word) (h2 : Nat) : (s.setAsh h x e).drt h2 = s.drt h2 := rfl
@[simp] theorem State.setAsh_acc_axis (h x : Nat) (e : Word) (a2 : Nat) : (s.setAsh h x e).axis a2 = s.axis a2 := rfl
@[simp] theorem State.setAsh_acc_quad (h x : Nat) (e : Word) (h2 c2 : Nat) : (s.setAsh h x e).quad h2 c2 = s.quad h2 c2 := rfl
@[simp] theorem State.setAsh_acc_hall (h x : Nat) (e : Word) (h2 k2 : Nat) : (s.setAsh h x e).hall h2 k2 = s.hall h2 k2 := rfl
@[simp] theorem State.setAsh_acc_ssi (h x : Nat) (e : Word) (h2 k2 : Nat) : (s.setAsh h x e).ssi h2 k2 = s.ssi h2 k2 := rfl
@[simp] theorem State.setAsh_acc_cam (h x : Nat) (e : Word) (h2 c2 : Nat) : (s.setAsh h x e).cam h2 c2 = s.cam h2 c2 := rfl
@[simp] theorem State.setAsh_acc_isp (h x : Nat) (e : Word) (h2 : Nat) : (s.setAsh h x e).isp h2 = s.isp h2 := rfl
@[simp] theorem State.setAsh_acc_chm (h x : Nat) (e : Word) (h2 : Nat) : (s.setAsh h x e).chm h2 = s.chm h2 := rfl
@[simp] theorem State.setAsh_acc_mbx (h x : Nat) (e : Word) (c2 : Nat) : (s.setAsh h x e).mbx c2 = s.mbx c2 := rfl
@[simp] theorem State.setAsh_acc_i2c (h x : Nat) (e : Word) (h2 c2 : Nat) : (s.setAsh h x e).i2c h2 c2 = s.i2c h2 c2 := rfl
@[simp] theorem State.setAsh_acc_cal (h x : Nat) (e : Word) (h2 : Nat) : (s.setAsh h x e).cal h2 = s.cal h2 := rfl
@[simp] theorem State.setAsh_acc_grt (h x : Nat) (e : Word) (h2 b2 : Nat) : (s.setAsh h x e).grt h2 b2 = s.grt h2 b2 := rfl
@[simp] theorem State.setAsh_acc_stg (h x : Nat) (e : Word) (h2 i2 b2 w2 : Nat) : (s.setAsh h x e).stg h2 i2 b2 w2 = s.stg h2 i2 b2 w2 := rfl
@[simp] theorem State.setAsh_acc_nH (h x : Nat) (e : Word) : (s.setAsh h x e).nH = s.nH := rfl
@[simp] theorem State.setAsh_acc_hasH (h x : Nat) (e : Word) (h2 : Nat) : (s.setAsh h x e).hasH h2 = s.hasH h2 := rfl
@[simp] theorem State.setStg_acc_rd (h i blk w : Nat) (v : Word) (h2 i2 b2 w2 : Nat) : (s.setStg h i blk w v).rd h2 i2 b2 w2 = s.rd h2 i2 b2 w2 := rfl
@[simp] theorem State.setStg_acc_fget (h i blk w : Nat) (v : Word) (h2 i2 : Nat) (f2 : Fld) : (s.setStg h i blk w v).fget h2 i2 f2 = s.fget h2 i2 f2 := rfl
@[simp] theorem State.setStg_acc_fon (h i blk w : Nat) (v : Word) (h2 i2 : Nat) (f2 : Fld) : (s.setStg h i blk w v).fon h2 i2 f2 = s.fon h2 i2 f2 := rfl
@[simp] theorem State.setStg_acc_sget (h i blk w : Nat) (v : Word) (h2 i2 : Nat) (f2 : Fld) : (s.setStg h i blk w v).sget h2 i2 f2 = s.sget h2 i2 f2 := rfl
@[simp] theorem State.setStg_acc_get64 (h i blk w : Nat) (v : Word) (h2 i2 : Nat) (f2 : Fld) : (s.setStg h i blk w v).get64 h2 i2 f2 = s.get64 h2 i2 f2 := rfl
@[simp] theorem State.setStg_acc_dread (h i blk w : Nat) (v : Word) (h2 a2 : Nat) : (s.setStg h i blk w v).dread h2 a2 = s.dread h2 a2 := rfl
@[simp] theorem State.setStg_acc_fread (h i blk w : Nat) (v : Word) (a2 : Nat) : (s.setStg h i blk w v).fread a2 = s.fread a2 := rfl
@[simp] theorem State.setStg_acc_lane (h i blk w : Nat) (v : Word) (h2 l2 : Nat) : (s.setStg h i blk w v).lane h2 l2 = s.lane h2 l2 := rfl
@[simp] theorem State.setStg_acc_gor (h i blk w : Nat) (v : Word) (h2 i2 : Nat) : (s.setStg h i blk w v).gor h2 i2 = s.gor h2 i2 := rfl
@[simp] theorem State.setStg_acc_bas (h i blk w : Nat) (v : Word) (h2 : Nat) : (s.setStg h i blk w v).bas h2 = s.bas h2 := rfl
@[simp] theorem State.setStg_acc_lbuf (h i blk w : Nat) (v : Word) (h2 k2 : Nat) : (s.setStg h i blk w v).lbuf h2 k2 = s.lbuf h2 k2 := rfl
@[simp] theorem State.setStg_acc_flue (h i blk w : Nat) (v : Word) (h2 q2 : Nat) : (s.setStg h i blk w v).flue h2 q2 = s.flue h2 q2 := rfl
@[simp] theorem State.setStg_acc_ter (h i blk w : Nat) (v : Word) (h2 : Nat) : (s.setStg h i blk w v).ter h2 = s.ter h2 := rfl
@[simp] theorem State.setStg_acc_fbx (h i blk w : Nat) (v : Word) (h2 p2 : Nat) : (s.setStg h i blk w v).fbx h2 p2 = s.fbx h2 p2 := rfl
@[simp] theorem State.setStg_acc_dmp (h i blk w : Nat) (v : Word) (h2 : Nat) : (s.setStg h i blk w v).dmp h2 = s.dmp h2 := rfl
@[simp] theorem State.setStg_acc_drt (h i blk w : Nat) (v : Word) (h2 : Nat) : (s.setStg h i blk w v).drt h2 = s.drt h2 := rfl
@[simp] theorem State.setStg_acc_axis (h i blk w : Nat) (v : Word) (a2 : Nat) : (s.setStg h i blk w v).axis a2 = s.axis a2 := rfl
@[simp] theorem State.setStg_acc_quad (h i blk w : Nat) (v : Word) (h2 c2 : Nat) : (s.setStg h i blk w v).quad h2 c2 = s.quad h2 c2 := rfl
@[simp] theorem State.setStg_acc_hall (h i blk w : Nat) (v : Word) (h2 k2 : Nat) : (s.setStg h i blk w v).hall h2 k2 = s.hall h2 k2 := rfl
@[simp] theorem State.setStg_acc_ssi (h i blk w : Nat) (v : Word) (h2 k2 : Nat) : (s.setStg h i blk w v).ssi h2 k2 = s.ssi h2 k2 := rfl
@[simp] theorem State.setStg_acc_cam (h i blk w : Nat) (v : Word) (h2 c2 : Nat) : (s.setStg h i blk w v).cam h2 c2 = s.cam h2 c2 := rfl
@[simp] theorem State.setStg_acc_isp (h i blk w : Nat) (v : Word) (h2 : Nat) : (s.setStg h i blk w v).isp h2 = s.isp h2 := rfl
@[simp] theorem State.setStg_acc_chm (h i blk w : Nat) (v : Word) (h2 : Nat) : (s.setStg h i blk w v).chm h2 = s.chm h2 := rfl
@[simp] theorem State.setStg_acc_mbx (h i blk w : Nat) (v : Word) (c2 : Nat) : (s.setStg h i blk w v).mbx c2 = s.mbx c2 := rfl
@[simp] theorem State.setStg_acc_i2c (h i blk w : Nat) (v : Word) (h2 c2 : Nat) : (s.setStg h i blk w v).i2c h2 c2 = s.i2c h2 c2 := rfl
@[simp] theorem State.setStg_acc_cal (h i blk w : Nat) (v : Word) (h2 : Nat) : (s.setStg h i blk w v).cal h2 = s.cal h2 := rfl
@[simp] theorem State.setStg_acc_grt (h i blk w : Nat) (v : Word) (h2 b2 : Nat) : (s.setStg h i blk w v).grt h2 b2 = s.grt h2 b2 := rfl
@[simp] theorem State.setStg_acc_ash (h i blk w : Nat) (v : Word) (h2 x2 : Nat) : (s.setStg h i blk w v).ash h2 x2 = s.ash h2 x2 := rfl
@[simp] theorem State.setStg_acc_nH (h i blk w : Nat) (v : Word) : (s.setStg h i blk w v).nH = s.nH := rfl
@[simp] theorem State.setStg_acc_hasH (h i blk w : Nat) (v : Word) (h2 : Nat) : (s.setStg h i blk w v).hasH h2 = s.hasH h2 := rfl

/-! ### What an update writes reads back -/

@[simp] theorem State.wr_same (h i blk w : Nat) (v : Word) : (s.wr h i blk w v).rd h i blk w = v := tabGet_tabSet_same _ _ _ _
@[simp] theorem State.dwrite_same (h a : Nat) (b : Byte) : (s.dwrite h a b).dread h a = b := tabGet_tabSet_same _ _ _ _
@[simp] theorem State.fwrite_same (a : Nat) (b : Byte) : (s.fwrite a b).fread a = b := tabGet_tabSet_same _ _ _ _
@[simp] theorem State.setLane_same (h l : Nat) (x : LaneX) : (s.setLane h l x).lane h l = x := tabGet_tabSet_same _ _ _ _
@[simp] theorem State.setGor_same (h i : Nat) (x : GorX) : (s.setGor h i x).gor h i = x := tabGet_tabSet_same _ _ _ _
@[simp] theorem State.setBas_same (h : Nat) (x : BasX) : (s.setBas h x).bas h = x := tabGet_tabSet_same _ _ _ _
@[simp] theorem State.setLbuf_same (h k : Nat) (x : LBuf) : (s.setLbuf h k x).lbuf h k = x := tabGet_tabSet_same _ _ _ _
@[simp] theorem State.setFlue_same (h q : Nat) (x : FlueX) : (s.setFlue h q x).flue h q = x := tabGet_tabSet_same _ _ _ _
@[simp] theorem State.setTer_same (h : Nat) (x : TerX) : (s.setTer h x).ter h = x := tabGet_tabSet_same _ _ _ _
@[simp] theorem State.setFbx_same (h p : Nat) (x : FbxX) : (s.setFbx h p x).fbx h p = x := tabGet_tabSet_same _ _ _ _
@[simp] theorem State.setDmp_same (h : Nat) (x : DmpX) : (s.setDmp h x).dmp h = x := tabGet_tabSet_same _ _ _ _
@[simp] theorem State.setDrt_same (h : Nat) (x : DrtX) : (s.setDrt h x).drt h = x := tabGet_tabSet_same _ _ _ _
@[simp] theorem State.setAxis_same (a : Nat) (x : AxX) : (s.setAxis a x).axis a = x := tabGet_tabSet_same _ _ _ _
@[simp] theorem State.setQuad_same (h c : Nat) (x : QuadX) : (s.setQuad h c x).quad h c = x := tabGet_tabSet_same _ _ _ _
@[simp] theorem State.setHall_same (h k : Nat) (x : HallX) : (s.setHall h k x).hall h k = x := tabGet_tabSet_same _ _ _ _
@[simp] theorem State.setSsi_same (h k : Nat) (x : SsiX) : (s.setSsi h k x).ssi h k = x := tabGet_tabSet_same _ _ _ _
@[simp] theorem State.setCam_same (h c : Nat) (x : CamX) : (s.setCam h c x).cam h c = x := tabGet_tabSet_same _ _ _ _
@[simp] theorem State.setIsp_same (h : Nat) (x : IspX) : (s.setIsp h x).isp h = x := tabGet_tabSet_same _ _ _ _
@[simp] theorem State.setChm_same (h : Nat) (x : ChmX) : (s.setChm h x).chm h = x := tabGet_tabSet_same _ _ _ _
@[simp] theorem State.setMbx_same (c : Nat) (x : MbxX) : (s.setMbx c x).mbx c = x := tabGet_tabSet_same _ _ _ _
@[simp] theorem State.setI2c_same (h c : Nat) (x : I2cX) : (s.setI2c h c x).i2c h c = x := tabGet_tabSet_same _ _ _ _
@[simp] theorem State.setCal_same (h : Nat) (x : CalX) : (s.setCal h x).cal h = x := tabGet_tabSet_same _ _ _ _
@[simp] theorem State.setGrt_same (h b : Nat) (t : Tab Nat) : (s.setGrt h b t).grt h b = t := tabGet_tabSet_same _ _ _ _
@[simp] theorem State.setAsh_same (h x : Nat) (e : Word) : (s.setAsh h x e).ash h x = e := tabGet_tabSet_same _ _ _ _
@[simp] theorem State.setStg_same (h i blk w : Nat) (v : Word) : (s.setStg h i blk w v).stg h i blk w = v := tabGet_tabSet_same _ _ _ _

end Sys2Proof.Machine
end

