-- ==== Sys2Proof/Laws/Reg.lean ====
section
/-! SUPPORT. Laws of bit fields, register words and fields: what a write of a field leaves in it, in the word's other fields
and in every other word; the canonical form of DRAM and of the register table. -/

namespace Sys2Proof.Machine

/-! ### Bit fields -/

theorem bits_lt (x lo len : Nat) : bits x lo len < 2 ^ len := Nat.mod_lt _ (Nat.two_pow_pos len)

theorem testBit_bits (x lo len k : Nat) : (bits x lo len).testBit k = (decide (k < len) && x.testBit (lo + k)) := by
  simp [bits, Nat.testBit_mod_two_pow, Nat.testBit_shiftRight]

theorem testBit_fieldMaskNat (lo len k : Nat) :
    ((2 ^ len - 1) * 2 ^ lo).testBit k = (decide (lo ≤ k) && decide (k - lo < len)) := by
  rw [← Nat.shiftLeft_eq, Nat.testBit_shiftLeft, Nat.testBit_two_pow_sub_one]

theorem testBit_insertBits (w : Word) (lo len v k : Nat) (hk : k < 32) :
    (insertBits w lo len v).toNat.testBit k =
      if lo ≤ k ∧ k < lo + len then v.testBit (k - lo) else w.toNat.testBit k := by
  have hm : (BitVec.ofNat 32 ((2 ^ len - 1) * 2 ^ lo)).getLsbD k = (decide (lo ≤ k) && decide (k - lo < len)) := by
    rw [BitVec.getLsbD_ofNat, testBit_fieldMaskNat]
    simp [hk]
  have hv : (BitVec.ofNat 32 (v % 2 ^ len * 2 ^ lo)).getLsbD k
      = (decide (lo ≤ k) && (decide (k - lo < len) && v.testBit (k - lo))) := by
    rw [BitVec.getLsbD_ofNat, ← Nat.shiftLeft_eq, Nat.testBit_shiftLeft, Nat.testBit_mod_two_pow]
    simp [hk]
  show (insertBits w lo len v).getLsbD k = _
  simp only [insertBits, BitVec.getLsbD_or, BitVec.getLsbD_and, BitVec.getLsbD_not, hm, hv, hk, decide_true, Bool.true_and]
  by_cases h1 : lo ≤ k
  · by_cases h2 : k < lo + len
    · have : k - lo < len := by omega
      simp [h1, h2, this]
    · have : ¬ k - lo < len := by omega
      simp [h1, h2, this, BitVec.getLsbD]
  · simp [h1, BitVec.getLsbD]

/-- A field reads back what was put into it. -/
theorem bits_insertBits_same (w : Word) (lo len v : Nat) (h : lo + len ≤ 32) :
    bits (insertBits w lo len v).toNat lo len = v % 2 ^ len := by
  apply Nat.eq_of_testBit_eq
  intro k
  rw [testBit_bits, Nat.testBit_mod_two_pow]
  by_cases hk : k < len
  · rw [testBit_insertBits _ _ _ _ _ (by omega), if_pos (by omega), Nat.add_sub_cancel_left]
  · simp [hk]

/-- A disjoint field reads what it read before. -/
theorem bits_insertBits_disj (w : Word) (lo len v lo' len' : Nat) (h' : lo' + len' ≤ 32)
    (hd : lo' + len' ≤ lo ∨ lo + len ≤ lo') :
    bits (insertBits w lo len v).toNat lo' len' = bits w.toNat lo' len' := by
  apply Nat.eq_of_testBit_eq
  intro k
  rw [testBit_bits, testBit_bits]
  by_cases hk : k < len'
  · rw [testBit_insertBits _ _ _ _ _ (by omega), if_neg (by omega)]
  · simp [hk]

/-! ### Keys -/

/-- Two register words with the same key are the same word. -/
theorem rkey_inj {h i b w h' i' b' w' : Nat} (hi : i < 16) (hw : w < 2048) (hb : b < 256) (hi' : i' < 16) (hw' : w' < 2048)
    (hb' : b' < 256) (e : rkey h b i w = rkey h' b' i' w') : h = h' ∧ i = i' ∧ b = b' ∧ w = w' := by
  unfold rkey at e
  omega

/-- Words of different blocks, instances or places have different keys. -/
theorem rkey_ne {h i b w h' i' b' w' : Nat} (hi : i < 16) (hw : w < 2048) (hb : b < 256) (hi' : i' < 16) (hw' : w' < 2048)
    (hb' : b' < 256) (n : ¬(h = h' ∧ i = i' ∧ b = b' ∧ w = w')) : rkey h b i w ≠ rkey h' b' i' w' :=
  fun e => n (rkey_inj hi hw hb hi' hw' hb' e)

/-! ### Words and fields -/

variable (s : State)

theorem State.rd_wr_ne {h i b w h' i' b' w' : Nat} (v : Word) (n : rkey h' b' i' w' ≠ rkey h b i w) :
    (s.wr h i b w v).rd h' i' b' w' = s.rd h' i' b' w' := tabGet_tabSet_ne _ _ _ n

/-- A field reads back what was put into it. -/
theorem State.fget_fput_same (h i : Nat) (f : Fld) (v : Nat) (hf : f.lo + f.len ≤ 32) :
    (s.fput h i f v).fget h i f = v % 2 ^ f.len := by
  unfold State.fput State.fget
  rw [State.wr_same, bits_insertBits_same _ _ _ _ hf]

/-- A field of another word reads what it read before. -/
theorem State.fget_fput_ne {h i h' i' : Nat} {f g : Fld} (v : Nat) (n : rkey h' g.blk i' g.word ≠ rkey h f.blk i f.word) :
    (s.fput h i f v).fget h' i' g = s.fget h' i' g := by
  unfold State.fput State.fget
  rw [State.rd_wr_ne _ _ n]

/-- A disjoint field of the same word reads what it read before. -/
theorem State.fget_fput_disj {h i : Nat} {f g : Fld} (v : Nat) (hb : g.blk = f.blk) (hw : g.word = f.word)
    (hg : g.lo + g.len ≤ 32) (hd : g.lo + g.len ≤ f.lo ∨ f.lo + f.len ≤ g.lo) :
    (s.fput h i f v).fget h i g = s.fget h i g := by
  unfold State.fput State.fget
  rw [hb, hw, State.wr_same, bits_insertBits_disj _ _ _ _ _ _ hg hd]

theorem State.rd_fput_ne {h i h' i' b w : Nat} {f : Fld} (v : Nat) (n : rkey h' b i' w ≠ rkey h f.blk i f.word) :
    (s.fput h i f v).rd h' i' b w = s.rd h' i' b w := State.rd_wr_ne _ _ n

theorem State.count_eq (h i : Nat) (f : Fld) (n : Nat) : s.count h i f n = s.fput h i f (satAdd32 (s.fget h i f) n) := rfl

theorem State.fputB_eq (h i : Nat) (f : Fld) (b : Bool) : s.fputB h i f b = s.fput h i f (b2n b) := rfl

theorem State.fon_eq (h i : Nat) (f : Fld) : s.fon h i f = (s.fget h i f != 0) := rfl

theorem State.fget_lt (h i : Nat) (f : Fld) : s.fget h i f < 2 ^ f.len := bits_lt _ _ _

/-! ### Canonical forms -/

/-- A DRAM write keeps the canonical form. -/
theorem Memory.wf_dwrite (h a : Nat) (b : Byte) (w : Memory.wf s = true) : Memory.wf (s.dwrite h a b) = true :=
  tabWf_tabSet _ _ w

theorem Memory.wf_dwrites (h : Nat) (bs : List Byte) (a : Nat) (w : Memory.wf s = true) : Memory.wf (s.dwrites h a bs) = true := by
  induction bs generalizing a s with
  | nil => exact w
  | cons b bs ih => exact ih _ _ (Memory.wf_dwrite s h a b w)

/-- Reset DRAM is in canonical form. -/
theorem Memory.wf_reset : Memory.wf State.reset = true := rfl

/-- A byte of DRAM reads back what was written. -/
theorem State.dread_dwrite_ne {h a h' a' : Nat} (b : Byte) (n : dkey h' a' ≠ dkey h a) :
    (s.dwrite h a b).dread h' a' = s.dread h' a' := tabGet_tabSet_ne _ _ _ n

/-- Register words in canonical form stay so. -/
theorem regs_wf_wr (h i b w : Nat) (v : Word) (hw : tabWf dfltReg s.regs = true) : tabWf dfltReg (s.wr h i b w v).regs = true :=
  tabWf_tabSet _ _ hw

/-! ### Counters, events -/

theorem State.raise_on {h i : Nat} {e : Fld} (on : s.fon h i e = true) : s.raise h i e = s := by
  simp [State.raise, on]

end Sys2Proof.Machine
end

