-- ==== Sys2Proof/Laws/Events.lean ====
section
/-! SUPPORT. Events: a push into a Flue queue, an event word, a raised event bit and a firmware event touch registers and
Flue queues only, and which registers. -/

namespace Sys2Proof.Machine

variable (s : State)

theorem RegsAndFlues.refl : RegsAndFlues s s := rfl

theorem RegsAndFlues.trans {s t u : State} (a : RegsAndFlues s t) (b : RegsAndFlues t u) : RegsAndFlues s u := by
  unfold RegsAndFlues at *
  rw [b, a]

theorem fput_shape (h i : Nat) (f : Fld) (v : Nat) : RegsAndFlues s (s.fput h i f v) := rfl

theorem setFlue_shape (h q : Nat) (x : FlueX) : RegsAndFlues s (s.setFlue h q x) := rfl

theorem fluePush_shape (h q : Nat) (w : Word) : RegsAndFlues s (fluePush h q w s) := by
  unfold fluePush
  split <;> rfl

theorem postWord_shape (h q : Nat) (w : Word) : RegsAndFlues s (postWord h q w s) := by
  unfold postWord onlyIf
  dsimp only
  split
  · exact (fluePush_shape s h q w).trans rfl
  · exact fluePush_shape s h q w

theorem postEvent_shape (h i : Nat) (e : Fld) (b : Nat) : RegsAndFlues s (postEvent h i e b s) := postWord_shape _ _ _ _

theorem raise_shape (h i : Nat) (e : Fld) : RegsAndFlues s (s.raise h i e) := by
  unfold State.raise
  split
  · exact .refl s
  · dsimp only
    split
    · exact (fput_shape s h i e 1).trans (postEvent_shape _ _ _ _ _)
    · exact fput_shape s h i e 1

theorem fwEvent_shape (h code : Nat) : RegsAndFlues s (fwEvent h code s) := by
  unfold fwEvent
  dsimp only
  split
  · exact postWord_shape _ _ _ _
  · exact .refl s

/-! ### Fields and accessors that events leave alone -/

@[simp] theorem State.raise_pending (h i : Nat) (e : Fld) : (s.raise h i e).pending = s.pending := by
  rw [raise_shape s h i e]
@[simp] theorem State.raise_part (h i : Nat) (e : Fld) : (s.raise h i e).part = s.part := by
  rw [raise_shape s h i e]
@[simp] theorem State.raise_now (h i : Nat) (e : Fld) : (s.raise h i e).now = s.now := by
  rw [raise_shape s h i e]
@[simp] theorem State.raise_freeCtr (h i : Nat) (e : Fld) : (s.raise h i e).freeCtr = s.freeCtr := by
  rw [raise_shape s h i e]
@[simp] theorem State.raise_out (h i : Nat) (e : Fld) : (s.raise h i e).out = s.out := by
  rw [raise_shape s h i e]
@[simp] theorem State.raise_dram (h i : Nat) (e : Fld) : (s.raise h i e).dram = s.dram := by
  rw [raise_shape s h i e]
@[simp] theorem State.raise_sev (h i : Nat) (e : Fld) : (s.raise h i e).sev = s.sev := by
  rw [raise_shape s h i e]
@[simp] theorem State.raise_lanes (h i : Nat) (e : Fld) : (s.raise h i e).lanes = s.lanes := by
  rw [raise_shape s h i e]
@[simp] theorem State.raise_gors (h i : Nat) (e : Fld) : (s.raise h i e).gors = s.gors := by
  rw [raise_shape s h i e]
@[simp] theorem State.raise_basins (h i : Nat) (e : Fld) : (s.raise h i e).basins = s.basins := by
  rw [raise_shape s h i e]
@[simp] theorem State.raise_lbs (h i : Nat) (e : Fld) : (s.raise h i e).lbs = s.lbs := by
  rw [raise_shape s h i e]
@[simp] theorem State.raise_flash (h i : Nat) (e : Fld) : (s.raise h i e).flash = s.flash := by
  rw [raise_shape s h i e]
@[simp] theorem State.raise_flash2 (h i : Nat) (e : Fld) : (s.raise h i e).flash2 = s.flash2 := by
  rw [raise_shape s h i e]
@[simp] theorem State.raise_crown (h i : Nat) (e : Fld) : (s.raise h i e).crown = s.crown := by
  rw [raise_shape s h i e]
@[simp] theorem State.raise_fwQueue (h i : Nat) (e : Fld) : (s.raise h i e).fwQueue = s.fwQueue := by
  rw [raise_shape s h i e]
@[simp] theorem State.raise_fwSevMin (h i : Nat) (e : Fld) : (s.raise h i e).fwSevMin = s.fwSevMin := by
  rw [raise_shape s h i e]
@[simp] theorem State.raise_fwFamilies (h i : Nat) (e : Fld) : (s.raise h i e).fwFamilies = s.fwFamilies := by
  rw [raise_shape s h i e]
@[simp] theorem State.raise_staged (h i : Nat) (e : Fld) : (s.raise h i e).staged = s.staged := by
  rw [raise_shape s h i e]
@[simp] theorem State.raise_ters (h i : Nat) (e : Fld) : (s.raise h i e).ters = s.ters := by
  rw [raise_shape s h i e]
@[simp] theorem State.raise_fbxs (h i : Nat) (e : Fld) : (s.raise h i e).fbxs = s.fbxs := by
  rw [raise_shape s h i e]
@[simp] theorem State.raise_dmps (h i : Nat) (e : Fld) : (s.raise h i e).dmps = s.dmps := by
  rw [raise_shape s h i e]
@[simp] theorem State.raise_drts (h i : Nat) (e : Fld) : (s.raise h i e).drts = s.drts := by
  rw [raise_shape s h i e]
@[simp] theorem State.raise_grts (h i : Nat) (e : Fld) : (s.raise h i e).grts = s.grts := by
  rw [raise_shape s h i e]
@[simp] theorem State.raise_ashMap (h i : Nat) (e : Fld) : (s.raise h i e).ashMap = s.ashMap := by
  rw [raise_shape s h i e]
@[simp] theorem State.raise_gates (h i : Nat) (e : Fld) : (s.raise h i e).gates = s.gates := by
  rw [raise_shape s h i e]
@[simp] theorem State.raise_twn (h i : Nat) (e : Fld) : (s.raise h i e).twn = s.twn := by
  rw [raise_shape s h i e]
@[simp] theorem State.raise_axes (h i : Nat) (e : Fld) : (s.raise h i e).axes = s.axes := by
  rw [raise_shape s h i e]
@[simp] theorem State.raise_quads (h i : Nat) (e : Fld) : (s.raise h i e).quads = s.quads := by
  rw [raise_shape s h i e]
@[simp] theorem State.raise_halls (h i : Nat) (e : Fld) : (s.raise h i e).halls = s.halls := by
  rw [raise_shape s h i e]
@[simp] theorem State.raise_ssis (h i : Nat) (e : Fld) : (s.raise h i e).ssis = s.ssis := by
  rw [raise_shape s h i e]
@[simp] theorem State.raise_cams (h i : Nat) (e : Fld) : (s.raise h i e).cams = s.cams := by
  rw [raise_shape s h i e]
@[simp] theorem State.raise_isps (h i : Nat) (e : Fld) : (s.raise h i e).isps = s.isps := by
  rw [raise_shape s h i e]
@[simp] theorem State.raise_latches (h i : Nat) (e : Fld) : (s.raise h i e).latches = s.latches := by
  rw [raise_shape s h i e]
@[simp] theorem State.raise_tim (h i : Nat) (e : Fld) : (s.raise h i e).tim = s.tim := by
  rw [raise_shape s h i e]
@[simp] theorem State.raise_chms (h i : Nat) (e : Fld) : (s.raise h i e).chms = s.chms := by
  rw [raise_shape s h i e]
@[simp] theorem State.raise_linksLost (h i : Nat) (e : Fld) : (s.raise h i e).linksLost = s.linksLost := by
  rw [raise_shape s h i e]
@[simp] theorem State.raise_mode (h i : Nat) (e : Fld) : (s.raise h i e).mode = s.mode := by
  rw [raise_shape s h i e]
@[simp] theorem State.raise_hostId (h i : Nat) (e : Fld) : (s.raise h i e).hostId = s.hostId := by
  rw [raise_shape s h i e]
@[simp] theorem State.raise_attachDue (h i : Nat) (e : Fld) : (s.raise h i e).attachDue = s.attachDue := by
  rw [raise_shape s h i e]
@[simp] theorem State.raise_up (h i : Nat) (e : Fld) : (s.raise h i e).up = s.up := by
  rw [raise_shape s h i e]
@[simp] theorem State.raise_upSince (h i : Nat) (e : Fld) : (s.raise h i e).upSince = s.upSince := by
  rw [raise_shape s h i e]
@[simp] theorem State.raise_posted (h i : Nat) (e : Fld) : (s.raise h i e).posted = s.posted := by
  rw [raise_shape s h i e]
@[simp] theorem State.raise_portOpen (h i : Nat) (e : Fld) : (s.raise h i e).portOpen = s.portOpen := by
  rw [raise_shape s h i e]
@[simp] theorem State.raise_mbxs (h i : Nat) (e : Fld) : (s.raise h i e).mbxs = s.mbxs := by
  rw [raise_shape s h i e]
@[simp] theorem State.raise_dops (h i : Nat) (e : Fld) : (s.raise h i e).dops = s.dops := by
  rw [raise_shape s h i e]
@[simp] theorem State.raise_paused (h i : Nat) (e : Fld) : (s.raise h i e).paused = s.paused := by
  rw [raise_shape s h i e]
@[simp] theorem State.raise_i2cs (h i : Nat) (e : Fld) : (s.raise h i e).i2cs = s.i2cs := by
  rw [raise_shape s h i e]
@[simp] theorem State.raise_arp (h i : Nat) (e : Fld) : (s.raise h i e).arp = s.arp := by
  rw [raise_shape s h i e]
@[simp] theorem State.raise_arpHeld (h i : Nat) (e : Fld) : (s.raise h i e).arpHeld = s.arpHeld := by
  rw [raise_shape s h i e]
@[simp] theorem State.raise_cals (h i : Nat) (e : Fld) : (s.raise h i e).cals = s.cals := by
  rw [raise_shape s h i e]
@[simp] theorem State.raise_upd (h i : Nat) (e : Fld) : (s.raise h i e).upd = s.upd := by
  rw [raise_shape s h i e]
@[simp] theorem State.raise_leadSel (h i : Nat) (e : Fld) : (s.raise h i e).leadSel = s.leadSel := by
  rw [raise_shape s h i e]
@[simp] theorem State.raise_absent (h i : Nat) (e : Fld) : (s.raise h i e).absent = s.absent := by
  rw [raise_shape s h i e]
@[simp] theorem State.raise_resetDue (h i : Nat) (e : Fld) : (s.raise h i e).resetDue = s.resetDue := by
  rw [raise_shape s h i e]
@[simp] theorem State.raise_vauxLow (h i : Nat) (e : Fld) : (s.raise h i e).vauxLow = s.vauxLow := by
  rw [raise_shape s h i e]
@[simp] theorem State.raise_alone (h i : Nat) (e : Fld) : (s.raise h i e).alone = s.alone := by
  rw [raise_shape s h i e]
@[simp] theorem State.raise_geo (h i : Nat) (e : Fld) : (s.raise h i e).geo = s.geo := by
  rw [raise_shape s h i e]
@[simp] theorem State.raise_geoRes (h i : Nat) (e : Fld) : (s.raise h i e).geoRes = s.geoRes := by
  rw [raise_shape s h i e]
@[simp] theorem State.raise_boot (h i : Nat) (e : Fld) : (s.raise h i e).boot = s.boot := by
  rw [raise_shape s h i e]
@[simp] theorem State.raise_tap (h i : Nat) (e : Fld) : (s.raise h i e).tap = s.tap := by
  rw [raise_shape s h i e]
@[simp] theorem State.raise_junior (h i : Nat) (e : Fld) : (s.raise h i e).junior = s.junior := by
  rw [raise_shape s h i e]
@[simp] theorem State.raise_acc_dread (h i : Nat) (e : Fld) (h2 a2 : Nat) : (s.raise h i e).dread h2 a2 = s.dread h2 a2 := by
  rw [raise_shape s h i e]; rfl
@[simp] theorem State.raise_acc_fread (h i : Nat) (e : Fld) (a2 : Nat) : (s.raise h i e).fread a2 = s.fread a2 := by
  rw [raise_shape s h i e]; rfl
@[simp] theorem State.raise_acc_lane (h i : Nat) (e : Fld) (h2 l2 : Nat) : (s.raise h i e).lane h2 l2 = s.lane h2 l2 := by
  rw [raise_shape s h i e]; rfl
@[simp] theorem State.raise_acc_gor (h i : Nat) (e : Fld) (h2 i2 : Nat) : (s.raise h i e).gor h2 i2 = s.gor h2 i2 := by
  rw [raise_shape s h i e]; rfl
@[simp] theorem State.raise_acc_bas (h i : Nat) (e : Fld) (h2 : Nat) : (s.raise h i e).bas h2 = s.bas h2 := by
  rw [raise_shape s h i e]; rfl
@[simp] theorem State.raise_acc_lbuf (h i : Nat) (e : Fld) (h2 k2 : Nat) : (s.raise h i e).lbuf h2 k2 = s.lbuf h2 k2 := by
  rw [raise_shape s h i e]; rfl
@[simp] theorem State.raise_acc_ter (h i : Nat) (e : Fld) (h2 : Nat) : (s.raise h i e).ter h2 = s.ter h2 := by
  rw [raise_shape s h i e]; rfl
@[simp] theorem State.raise_acc_fbx (h i : Nat) (e : Fld) (h2 p2 : Nat) : (s.raise h i e).fbx h2 p2 = s.fbx h2 p2 := by
  rw [raise_shape s h i e]; rfl
@[simp] theorem State.raise_acc_dmp (h i : Nat) (e : Fld) (h2 : Nat) : (s.raise h i e).dmp h2 = s.dmp h2 := by
  rw [raise_shape s h i e]; rfl
@[simp] theorem State.raise_acc_drt (h i : Nat) (e : Fld) (h2 : Nat) : (s.raise h i e).drt h2 = s.drt h2 := by
  rw [raise_shape s h i e]; rfl
@[simp] theorem State.raise_acc_axis (h i : Nat) (e : Fld) (a2 : Nat) : (s.raise h i e).axis a2 = s.axis a2 := by
  rw [raise_shape s h i e]; rfl
@[simp] theorem State.raise_acc_quad (h i : Nat) (e : Fld) (h2 c2 : Nat) : (s.raise h i e).quad h2 c2 = s.quad h2 c2 := by
  rw [raise_shape s h i e]; rfl
@[simp] theorem State.raise_acc_hall (h i : Nat) (e : Fld) (h2 k2 : Nat) : (s.raise h i e).hall h2 k2 = s.hall h2 k2 := by
  rw [raise_shape s h i e]; rfl
@[simp] theorem State.raise_acc_ssi (h i : Nat) (e : Fld) (h2 k2 : Nat) : (s.raise h i e).ssi h2 k2 = s.ssi h2 k2 := by
  rw [raise_shape s h i e]; rfl
@[simp] theorem State.raise_acc_cam (h i : Nat) (e : Fld) (h2 c2 : Nat) : (s.raise h i e).cam h2 c2 = s.cam h2 c2 := by
  rw [raise_shape s h i e]; rfl
@[simp] theorem State.raise_acc_isp (h i : Nat) (e : Fld) (h2 : Nat) : (s.raise h i e).isp h2 = s.isp h2 := by
  rw [raise_shape s h i e]; rfl
@[simp] theorem State.raise_acc_chm (h i : Nat) (e : Fld) (h2 : Nat) : (s.raise h i e).chm h2 = s.chm h2 := by
  rw [raise_shape s h i e]; rfl
@[simp] theorem State.raise_acc_mbx (h i : Nat) (e : Fld) (c2 : Nat) : (s.raise h i e).mbx c2 = s.mbx c2 := by
  rw [raise_shape s h i e]; rfl
@[simp] theorem State.raise_acc_i2c (h i : Nat) (e : Fld) (h2 c2 : Nat) : (s.raise h i e).i2c h2 c2 = s.i2c h2 c2 := by
  rw [raise_shape s h i e]; rfl
@[simp] theorem State.raise_acc_cal (h i : Nat) (e : Fld) (h2 : Nat) : (s.raise h i e).cal h2 = s.cal h2 := by
  rw [raise_shape s h i e]; rfl
@[simp] theorem State.raise_acc_grt (h i : Nat) (e : Fld) (h2 b2 : Nat) : (s.raise h i e).grt h2 b2 = s.grt h2 b2 := by
  rw [raise_shape s h i e]; rfl
@[simp] theorem State.raise_acc_ash (h i : Nat) (e : Fld) (h2 x2 : Nat) : (s.raise h i e).ash h2 x2 = s.ash h2 x2 := by
  rw [raise_shape s h i e]; rfl
@[simp] theorem State.raise_acc_nH (h i : Nat) (e : Fld) : (s.raise h i e).nH = s.nH := by
  rw [raise_shape s h i e]; rfl
@[simp] theorem State.raise_acc_hasH (h i : Nat) (e : Fld) (h2 : Nat) : (s.raise h i e).hasH h2 = s.hasH h2 := by
  rw [raise_shape s h i e]; rfl
@[simp] theorem postEvent_pending (h i : Nat) (e : Fld) (b : Nat) : (postEvent h i e b s).pending = s.pending := by
  rw [postEvent_shape s h i e b]
@[simp] theorem postEvent_part (h i : Nat) (e : Fld) (b : Nat) : (postEvent h i e b s).part = s.part := by
  rw [postEvent_shape s h i e b]
@[simp] theorem postEvent_now (h i : Nat) (e : Fld) (b : Nat) : (postEvent h i e b s).now = s.now := by
  rw [postEvent_shape s h i e b]
@[simp] theorem postEvent_freeCtr (h i : Nat) (e : Fld) (b : Nat) : (postEvent h i e b s).freeCtr = s.freeCtr := by
  rw [postEvent_shape s h i e b]
@[simp] theorem postEvent_out (h i : Nat) (e : Fld) (b : Nat) : (postEvent h i e b s).out = s.out := by
  rw [postEvent_shape s h i e b]
@[simp] theorem postEvent_dram (h i : Nat) (e : Fld) (b : Nat) : (postEvent h i e b s).dram = s.dram := by
  rw [postEvent_shape s h i e b]
@[simp] theorem postEvent_sev (h i : Nat) (e : Fld) (b : Nat) : (postEvent h i e b s).sev = s.sev := by
  rw [postEvent_shape s h i e b]
@[simp] theorem postEvent_lanes (h i : Nat) (e : Fld) (b : Nat) : (postEvent h i e b s).lanes = s.lanes := by
  rw [postEvent_shape s h i e b]
@[simp] theorem postEvent_gors (h i : Nat) (e : Fld) (b : Nat) : (postEvent h i e b s).gors = s.gors := by
  rw [postEvent_shape s h i e b]
@[simp] theorem postEvent_basins (h i : Nat) (e : Fld) (b : Nat) : (postEvent h i e b s).basins = s.basins := by
  rw [postEvent_shape s h i e b]
@[simp] theorem postEvent_lbs (h i : Nat) (e : Fld) (b : Nat) : (postEvent h i e b s).lbs = s.lbs := by
  rw [postEvent_shape s h i e b]
@[simp] theorem postEvent_flash (h i : Nat) (e : Fld) (b : Nat) : (postEvent h i e b s).flash = s.flash := by
  rw [postEvent_shape s h i e b]
@[simp] theorem postEvent_flash2 (h i : Nat) (e : Fld) (b : Nat) : (postEvent h i e b s).flash2 = s.flash2 := by
  rw [postEvent_shape s h i e b]
@[simp] theorem postEvent_crown (h i : Nat) (e : Fld) (b : Nat) : (postEvent h i e b s).crown = s.crown := by
  rw [postEvent_shape s h i e b]
@[simp] theorem postEvent_fwQueue (h i : Nat) (e : Fld) (b : Nat) : (postEvent h i e b s).fwQueue = s.fwQueue := by
  rw [postEvent_shape s h i e b]
@[simp] theorem postEvent_fwSevMin (h i : Nat) (e : Fld) (b : Nat) : (postEvent h i e b s).fwSevMin = s.fwSevMin := by
  rw [postEvent_shape s h i e b]
@[simp] theorem postEvent_fwFamilies (h i : Nat) (e : Fld) (b : Nat) : (postEvent h i e b s).fwFamilies = s.fwFamilies := by
  rw [postEvent_shape s h i e b]
@[simp] theorem postEvent_staged (h i : Nat) (e : Fld) (b : Nat) : (postEvent h i e b s).staged = s.staged := by
  rw [postEvent_shape s h i e b]
@[simp] theorem postEvent_ters (h i : Nat) (e : Fld) (b : Nat) : (postEvent h i e b s).ters = s.ters := by
  rw [postEvent_shape s h i e b]
@[simp] theorem postEvent_fbxs (h i : Nat) (e : Fld) (b : Nat) : (postEvent h i e b s).fbxs = s.fbxs := by
  rw [postEvent_shape s h i e b]
@[simp] theorem postEvent_dmps (h i : Nat) (e : Fld) (b : Nat) : (postEvent h i e b s).dmps = s.dmps := by
  rw [postEvent_shape s h i e b]
@[simp] theorem postEvent_drts (h i : Nat) (e : Fld) (b : Nat) : (postEvent h i e b s).drts = s.drts := by
  rw [postEvent_shape s h i e b]
@[simp] theorem postEvent_grts (h i : Nat) (e : Fld) (b : Nat) : (postEvent h i e b s).grts = s.grts := by
  rw [postEvent_shape s h i e b]
@[simp] theorem postEvent_ashMap (h i : Nat) (e : Fld) (b : Nat) : (postEvent h i e b s).ashMap = s.ashMap := by
  rw [postEvent_shape s h i e b]
@[simp] theorem postEvent_gates (h i : Nat) (e : Fld) (b : Nat) : (postEvent h i e b s).gates = s.gates := by
  rw [postEvent_shape s h i e b]
@[simp] theorem postEvent_twn (h i : Nat) (e : Fld) (b : Nat) : (postEvent h i e b s).twn = s.twn := by
  rw [postEvent_shape s h i e b]
@[simp] theorem postEvent_axes (h i : Nat) (e : Fld) (b : Nat) : (postEvent h i e b s).axes = s.axes := by
  rw [postEvent_shape s h i e b]
@[simp] theorem postEvent_quads (h i : Nat) (e : Fld) (b : Nat) : (postEvent h i e b s).quads = s.quads := by
  rw [postEvent_shape s h i e b]
@[simp] theorem postEvent_halls (h i : Nat) (e : Fld) (b : Nat) : (postEvent h i e b s).halls = s.halls := by
  rw [postEvent_shape s h i e b]
@[simp] theorem postEvent_ssis (h i : Nat) (e : Fld) (b : Nat) : (postEvent h i e b s).ssis = s.ssis := by
  rw [postEvent_shape s h i e b]
@[simp] theorem postEvent_cams (h i : Nat) (e : Fld) (b : Nat) : (postEvent h i e b s).cams = s.cams := by
  rw [postEvent_shape s h i e b]
@[simp] theorem postEvent_isps (h i : Nat) (e : Fld) (b : Nat) : (postEvent h i e b s).isps = s.isps := by
  rw [postEvent_shape s h i e b]
@[simp] theorem postEvent_latches (h i : Nat) (e : Fld) (b : Nat) : (postEvent h i e b s).latches = s.latches := by
  rw [postEvent_shape s h i e b]
@[simp] theorem postEvent_tim (h i : Nat) (e : Fld) (b : Nat) : (postEvent h i e b s).tim = s.tim := by
  rw [postEvent_shape s h i e b]
@[simp] theorem postEvent_chms (h i : Nat) (e : Fld) (b : Nat) : (postEvent h i e b s).chms = s.chms := by
  rw [postEvent_shape s h i e b]
@[simp] theorem postEvent_linksLost (h i : Nat) (e : Fld) (b : Nat) : (postEvent h i e b s).linksLost = s.linksLost := by
  rw [postEvent_shape s h i e b]
@[simp] theorem postEvent_mode (h i : Nat) (e : Fld) (b : Nat) : (postEvent h i e b s).mode = s.mode := by
  rw [postEvent_shape s h i e b]
@[simp] theorem postEvent_hostId (h i : Nat) (e : Fld) (b : Nat) : (postEvent h i e b s).hostId = s.hostId := by
  rw [postEvent_shape s h i e b]
@[simp] theorem postEvent_attachDue (h i : Nat) (e : Fld) (b : Nat) : (postEvent h i e b s).attachDue = s.attachDue := by
  rw [postEvent_shape s h i e b]
@[simp] theorem postEvent_up (h i : Nat) (e : Fld) (b : Nat) : (postEvent h i e b s).up = s.up := by
  rw [postEvent_shape s h i e b]
@[simp] theorem postEvent_upSince (h i : Nat) (e : Fld) (b : Nat) : (postEvent h i e b s).upSince = s.upSince := by
  rw [postEvent_shape s h i e b]
@[simp] theorem postEvent_posted (h i : Nat) (e : Fld) (b : Nat) : (postEvent h i e b s).posted = s.posted := by
  rw [postEvent_shape s h i e b]
@[simp] theorem postEvent_portOpen (h i : Nat) (e : Fld) (b : Nat) : (postEvent h i e b s).portOpen = s.portOpen := by
  rw [postEvent_shape s h i e b]
@[simp] theorem postEvent_mbxs (h i : Nat) (e : Fld) (b : Nat) : (postEvent h i e b s).mbxs = s.mbxs := by
  rw [postEvent_shape s h i e b]
@[simp] theorem postEvent_dops (h i : Nat) (e : Fld) (b : Nat) : (postEvent h i e b s).dops = s.dops := by
  rw [postEvent_shape s h i e b]
@[simp] theorem postEvent_paused (h i : Nat) (e : Fld) (b : Nat) : (postEvent h i e b s).paused = s.paused := by
  rw [postEvent_shape s h i e b]
@[simp] theorem postEvent_i2cs (h i : Nat) (e : Fld) (b : Nat) : (postEvent h i e b s).i2cs = s.i2cs := by
  rw [postEvent_shape s h i e b]
@[simp] theorem postEvent_arp (h i : Nat) (e : Fld) (b : Nat) : (postEvent h i e b s).arp = s.arp := by
  rw [postEvent_shape s h i e b]
@[simp] theorem postEvent_arpHeld (h i : Nat) (e : Fld) (b : Nat) : (postEvent h i e b s).arpHeld = s.arpHeld := by
  rw [postEvent_shape s h i e b]
@[simp] theorem postEvent_cals (h i : Nat) (e : Fld) (b : Nat) : (postEvent h i e b s).cals = s.cals := by
  rw [postEvent_shape s h i e b]
@[simp] theorem postEvent_upd (h i : Nat) (e : Fld) (b : Nat) : (postEvent h i e b s).upd = s.upd := by
  rw [postEvent_shape s h i e b]
@[simp] theorem postEvent_leadSel (h i : Nat) (e : Fld) (b : Nat) : (postEvent h i e b s).leadSel = s.leadSel := by
  rw [postEvent_shape s h i e b]
@[simp] theorem postEvent_absent (h i : Nat) (e : Fld) (b : Nat) : (postEvent h i e b s).absent = s.absent := by
  rw [postEvent_shape s h i e b]
@[simp] theorem postEvent_resetDue (h i : Nat) (e : Fld) (b : Nat) : (postEvent h i e b s).resetDue = s.resetDue := by
  rw [postEvent_shape s h i e b]
@[simp] theorem postEvent_vauxLow (h i : Nat) (e : Fld) (b : Nat) : (postEvent h i e b s).vauxLow = s.vauxLow := by
  rw [postEvent_shape s h i e b]
@[simp] theorem postEvent_alone (h i : Nat) (e : Fld) (b : Nat) : (postEvent h i e b s).alone = s.alone := by
  rw [postEvent_shape s h i e b]
@[simp] theorem postEvent_geo (h i : Nat) (e : Fld) (b : Nat) : (postEvent h i e b s).geo = s.geo := by
  rw [postEvent_shape s h i e b]
@[simp] theorem postEvent_geoRes (h i : Nat) (e : Fld) (b : Nat) : (postEvent h i e b s).geoRes = s.geoRes := by
  rw [postEvent_shape s h i e b]
@[simp] theorem postEvent_boot (h i : Nat) (e : Fld) (b : Nat) : (postEvent h i e b s).boot = s.boot := by
  rw [postEvent_shape s h i e b]
@[simp] theorem postEvent_tap (h i : Nat) (e : Fld) (b : Nat) : (postEvent h i e b s).tap = s.tap := by
  rw [postEvent_shape s h i e b]
@[simp] theorem postEvent_junior (h i : Nat) (e : Fld) (b : Nat) : (postEvent h i e b s).junior = s.junior := by
  rw [postEvent_shape s h i e b]
@[simp] theorem postEvent_acc_dread (h i : Nat) (e : Fld) (b : Nat) (h2 a2 : Nat) : (postEvent h i e b s).dread h2 a2 = s.dread h2 a2 := by
  rw [postEvent_shape s h i e b]; rfl
@[simp] theorem postEvent_acc_fread (h i : Nat) (e : Fld) (b : Nat) (a2 : Nat) : (postEvent h i e b s).fread a2 = s.fread a2 := by
  rw [postEvent_shape s h i e b]; rfl
@[simp] theorem postEvent_acc_lane (h i : Nat) (e : Fld) (b : Nat) (h2 l2 : Nat) : (postEvent h i e b s).lane h2 l2 = s.lane h2 l2 := by
  rw [postEvent_shape s h i e b]; rfl
@[simp] theorem postEvent_acc_gor (h i : Nat) (e : Fld) (b : Nat) (h2 i2 : Nat) : (postEvent h i e b s).gor h2 i2 = s.gor h2 i2 := by
  rw [postEvent_shape s h i e b]; rfl
@[simp] theorem postEvent_acc_bas (h i : Nat) (e : Fld) (b : Nat) (h2 : Nat) : (postEvent h i e b s).bas h2 = s.bas h2 := by
  rw [postEvent_shape s h i e b]; rfl
@[simp] theorem postEvent_acc_lbuf (h i : Nat) (e : Fld) (b : Nat) (h2 k2 : Nat) : (postEvent h i e b s).lbuf h2 k2 = s.lbuf h2 k2 := by
  rw [postEvent_shape s h i e b]; rfl
@[simp] theorem postEvent_acc_ter (h i : Nat) (e : Fld) (b : Nat) (h2 : Nat) : (postEvent h i e b s).ter h2 = s.ter h2 := by
  rw [postEvent_shape s h i e b]; rfl
@[simp] theorem postEvent_acc_fbx (h i : Nat) (e : Fld) (b : Nat) (h2 p2 : Nat) : (postEvent h i e b s).fbx h2 p2 = s.fbx h2 p2 := by
  rw [postEvent_shape s h i e b]; rfl
@[simp] theorem postEvent_acc_dmp (h i : Nat) (e : Fld) (b : Nat) (h2 : Nat) : (postEvent h i e b s).dmp h2 = s.dmp h2 := by
  rw [postEvent_shape s h i e b]; rfl
@[simp] theorem postEvent_acc_drt (h i : Nat) (e : Fld) (b : Nat) (h2 : Nat) : (postEvent h i e b s).drt h2 = s.drt h2 := by
  rw [postEvent_shape s h i e b]; rfl
@[simp] theorem postEvent_acc_axis (h i : Nat) (e : Fld) (b : Nat) (a2 : Nat) : (postEvent h i e b s).axis a2 = s.axis a2 := by
  rw [postEvent_shape s h i e b]; rfl
@[simp] theorem postEvent_acc_quad (h i : Nat) (e : Fld) (b : Nat) (h2 c2 : Nat) : (postEvent h i e b s).quad h2 c2 = s.quad h2 c2 := by
  rw [postEvent_shape s h i e b]; rfl
@[simp] theorem postEvent_acc_hall (h i : Nat) (e : Fld) (b : Nat) (h2 k2 : Nat) : (postEvent h i e b s).hall h2 k2 = s.hall h2 k2 := by
  rw [postEvent_shape s h i e b]; rfl
@[simp] theorem postEvent_acc_ssi (h i : Nat) (e : Fld) (b : Nat) (h2 k2 : Nat) : (postEvent h i e b s).ssi h2 k2 = s.ssi h2 k2 := by
  rw [postEvent_shape s h i e b]; rfl
@[simp] theorem postEvent_acc_cam (h i : Nat) (e : Fld) (b : Nat) (h2 c2 : Nat) : (postEvent h i e b s).cam h2 c2 = s.cam h2 c2 := by
  rw [postEvent_shape s h i e b]; rfl
@[simp] theorem postEvent_acc_isp (h i : Nat) (e : Fld) (b : Nat) (h2 : Nat) : (postEvent h i e b s).isp h2 = s.isp h2 := by
  rw [postEvent_shape s h i e b]; rfl
@[simp] theorem postEvent_acc_chm (h i : Nat) (e : Fld) (b : Nat) (h2 : Nat) : (postEvent h i e b s).chm h2 = s.chm h2 := by
  rw [postEvent_shape s h i e b]; rfl
@[simp] theorem postEvent_acc_mbx (h i : Nat) (e : Fld) (b : Nat) (c2 : Nat) : (postEvent h i e b s).mbx c2 = s.mbx c2 := by
  rw [postEvent_shape s h i e b]; rfl
@[simp] theorem postEvent_acc_i2c (h i : Nat) (e : Fld) (b : Nat) (h2 c2 : Nat) : (postEvent h i e b s).i2c h2 c2 = s.i2c h2 c2 := by
  rw [postEvent_shape s h i e b]; rfl
@[simp] theorem postEvent_acc_cal (h i : Nat) (e : Fld) (b : Nat) (h2 : Nat) : (postEvent h i e b s).cal h2 = s.cal h2 := by
  rw [postEvent_shape s h i e b]; rfl
@[simp] theorem postEvent_acc_grt (h i : Nat) (e : Fld) (b : Nat) (h2 b2 : Nat) : (postEvent h i e b s).grt h2 b2 = s.grt h2 b2 := by
  rw [postEvent_shape s h i e b]; rfl
@[simp] theorem postEvent_acc_ash (h i : Nat) (e : Fld) (b : Nat) (h2 x2 : Nat) : (postEvent h i e b s).ash h2 x2 = s.ash h2 x2 := by
  rw [postEvent_shape s h i e b]; rfl
@[simp] theorem postEvent_acc_nH (h i : Nat) (e : Fld) (b : Nat) : (postEvent h i e b s).nH = s.nH := by
  rw [postEvent_shape s h i e b]; rfl
@[simp] theorem postEvent_acc_hasH (h i : Nat) (e : Fld) (b : Nat) (h2 : Nat) : (postEvent h i e b s).hasH h2 = s.hasH h2 := by
  rw [postEvent_shape s h i e b]; rfl
@[simp] theorem postWord_pending (h q : Nat) (w : Word) : (postWord h q w s).pending = s.pending := by
  rw [postWord_shape s h q w]
@[simp] theorem postWord_part (h q : Nat) (w : Word) : (postWord h q w s).part = s.part := by
  rw [postWord_shape s h q w]
@[simp] theorem postWord_now (h q : Nat) (w : Word) : (postWord h q w s).now = s.now := by
  rw [postWord_shape s h q w]
@[simp] theorem postWord_freeCtr (h q : Nat) (w : Word) : (postWord h q w s).freeCtr = s.freeCtr := by
  rw [postWord_shape s h q w]
@[simp] theorem postWord_out (h q : Nat) (w : Word) : (postWord h q w s).out = s.out := by
  rw [postWord_shape s h q w]
@[simp] theorem postWord_dram (h q : Nat) (w : Word) : (postWord h q w s).dram = s.dram := by
  rw [postWord_shape s h q w]
@[simp] theorem postWord_sev (h q : Nat) (w : Word) : (postWord h q w s).sev = s.sev := by
  rw [postWord_shape s h q w]
@[simp] theorem postWord_lanes (h q : Nat) (w : Word) : (postWord h q w s).lanes = s.lanes := by
  rw [postWord_shape s h q w]
@[simp] theorem postWord_gors (h q : Nat) (w : Word) : (postWord h q w s).gors = s.gors := by
  rw [postWord_shape s h q w]
@[simp] theorem postWord_basins (h q : Nat) (w : Word) : (postWord h q w s).basins = s.basins := by
  rw [postWord_shape s h q w]
@[simp] theorem postWord_lbs (h q : Nat) (w : Word) : (postWord h q w s).lbs = s.lbs := by
  rw [postWord_shape s h q w]
@[simp] theorem postWord_flash (h q : Nat) (w : Word) : (postWord h q w s).flash = s.flash := by
  rw [postWord_shape s h q w]
@[simp] theorem postWord_flash2 (h q : Nat) (w : Word) : (postWord h q w s).flash2 = s.flash2 := by
  rw [postWord_shape s h q w]
@[simp] theorem postWord_crown (h q : Nat) (w : Word) : (postWord h q w s).crown = s.crown := by
  rw [postWord_shape s h q w]
@[simp] theorem postWord_fwQueue (h q : Nat) (w : Word) : (postWord h q w s).fwQueue = s.fwQueue := by
  rw [postWord_shape s h q w]
@[simp] theorem postWord_fwSevMin (h q : Nat) (w : Word) : (postWord h q w s).fwSevMin = s.fwSevMin := by
  rw [postWord_shape s h q w]
@[simp] theorem postWord_fwFamilies (h q : Nat) (w : Word) : (postWord h q w s).fwFamilies = s.fwFamilies := by
  rw [postWord_shape s h q w]
@[simp] theorem postWord_staged (h q : Nat) (w : Word) : (postWord h q w s).staged = s.staged := by
  rw [postWord_shape s h q w]
@[simp] theorem postWord_ters (h q : Nat) (w : Word) : (postWord h q w s).ters = s.ters := by
  rw [postWord_shape s h q w]
@[simp] theorem postWord_fbxs (h q : Nat) (w : Word) : (postWord h q w s).fbxs = s.fbxs := by
  rw [postWord_shape s h q w]
@[simp] theorem postWord_dmps (h q : Nat) (w : Word) : (postWord h q w s).dmps = s.dmps := by
  rw [postWord_shape s h q w]
@[simp] theorem postWord_drts (h q : Nat) (w : Word) : (postWord h q w s).drts = s.drts := by
  rw [postWord_shape s h q w]
@[simp] theorem postWord_grts (h q : Nat) (w : Word) : (postWord h q w s).grts = s.grts := by
  rw [postWord_shape s h q w]
@[simp] theorem postWord_ashMap (h q : Nat) (w : Word) : (postWord h q w s).ashMap = s.ashMap := by
  rw [postWord_shape s h q w]
@[simp] theorem postWord_gates (h q : Nat) (w : Word) : (postWord h q w s).gates = s.gates := by
  rw [postWord_shape s h q w]
@[simp] theorem postWord_twn (h q : Nat) (w : Word) : (postWord h q w s).twn = s.twn := by
  rw [postWord_shape s h q w]
@[simp] theorem postWord_axes (h q : Nat) (w : Word) : (postWord h q w s).axes = s.axes := by
  rw [postWord_shape s h q w]
@[simp] theorem postWord_quads (h q : Nat) (w : Word) : (postWord h q w s).quads = s.quads := by
  rw [postWord_shape s h q w]
@[simp] theorem postWord_halls (h q : Nat) (w : Word) : (postWord h q w s).halls = s.halls := by
  rw [postWord_shape s h q w]
@[simp] theorem postWord_ssis (h q : Nat) (w : Word) : (postWord h q w s).ssis = s.ssis := by
  rw [postWord_shape s h q w]
@[simp] theorem postWord_cams (h q : Nat) (w : Word) : (postWord h q w s).cams = s.cams := by
  rw [postWord_shape s h q w]
@[simp] theorem postWord_isps (h q : Nat) (w : Word) : (postWord h q w s).isps = s.isps := by
  rw [postWord_shape s h q w]
@[simp] theorem postWord_latches (h q : Nat) (w : Word) : (postWord h q w s).latches = s.latches := by
  rw [postWord_shape s h q w]
@[simp] theorem postWord_tim (h q : Nat) (w : Word) : (postWord h q w s).tim = s.tim := by
  rw [postWord_shape s h q w]
@[simp] theorem postWord_chms (h q : Nat) (w : Word) : (postWord h q w s).chms = s.chms := by
  rw [postWord_shape s h q w]
@[simp] theorem postWord_linksLost (h q : Nat) (w : Word) : (postWord h q w s).linksLost = s.linksLost := by
  rw [postWord_shape s h q w]
@[simp] theorem postWord_mode (h q : Nat) (w : Word) : (postWord h q w s).mode = s.mode := by
  rw [postWord_shape s h q w]
@[simp] theorem postWord_hostId (h q : Nat) (w : Word) : (postWord h q w s).hostId = s.hostId := by
  rw [postWord_shape s h q w]
@[simp] theorem postWord_attachDue (h q : Nat) (w : Word) : (postWord h q w s).attachDue = s.attachDue := by
  rw [postWord_shape s h q w]
@[simp] theorem postWord_up (h q : Nat) (w : Word) : (postWord h q w s).up = s.up := by
  rw [postWord_shape s h q w]
@[simp] theorem postWord_upSince (h q : Nat) (w : Word) : (postWord h q w s).upSince = s.upSince := by
  rw [postWord_shape s h q w]
@[simp] theorem postWord_posted (h q : Nat) (w : Word) : (postWord h q w s).posted = s.posted := by
  rw [postWord_shape s h q w]
@[simp] theorem postWord_portOpen (h q : Nat) (w : Word) : (postWord h q w s).portOpen = s.portOpen := by
  rw [postWord_shape s h q w]
@[simp] theorem postWord_mbxs (h q : Nat) (w : Word) : (postWord h q w s).mbxs = s.mbxs := by
  rw [postWord_shape s h q w]
@[simp] theorem postWord_dops (h q : Nat) (w : Word) : (postWord h q w s).dops = s.dops := by
  rw [postWord_shape s h q w]
@[simp] theorem postWord_paused (h q : Nat) (w : Word) : (postWord h q w s).paused = s.paused := by
  rw [postWord_shape s h q w]
@[simp] theorem postWord_i2cs (h q : Nat) (w : Word) : (postWord h q w s).i2cs = s.i2cs := by
  rw [postWord_shape s h q w]
@[simp] theorem postWord_arp (h q : Nat) (w : Word) : (postWord h q w s).arp = s.arp := by
  rw [postWord_shape s h q w]
@[simp] theorem postWord_arpHeld (h q : Nat) (w : Word) : (postWord h q w s).arpHeld = s.arpHeld := by
  rw [postWord_shape s h q w]
@[simp] theorem postWord_cals (h q : Nat) (w : Word) : (postWord h q w s).cals = s.cals := by
  rw [postWord_shape s h q w]
@[simp] theorem postWord_upd (h q : Nat) (w : Word) : (postWord h q w s).upd = s.upd := by
  rw [postWord_shape s h q w]
@[simp] theorem postWord_leadSel (h q : Nat) (w : Word) : (postWord h q w s).leadSel = s.leadSel := by
  rw [postWord_shape s h q w]
@[simp] theorem postWord_absent (h q : Nat) (w : Word) : (postWord h q w s).absent = s.absent := by
  rw [postWord_shape s h q w]
@[simp] theorem postWord_resetDue (h q : Nat) (w : Word) : (postWord h q w s).resetDue = s.resetDue := by
  rw [postWord_shape s h q w]
@[simp] theorem postWord_vauxLow (h q : Nat) (w : Word) : (postWord h q w s).vauxLow = s.vauxLow := by
  rw [postWord_shape s h q w]
@[simp] theorem postWord_alone (h q : Nat) (w : Word) : (postWord h q w s).alone = s.alone := by
  rw [postWord_shape s h q w]
@[simp] theorem postWord_geo (h q : Nat) (w : Word) : (postWord h q w s).geo = s.geo := by
  rw [postWord_shape s h q w]
@[simp] theorem postWord_geoRes (h q : Nat) (w : Word) : (postWord h q w s).geoRes = s.geoRes := by
  rw [postWord_shape s h q w]
@[simp] theorem postWord_boot (h q : Nat) (w : Word) : (postWord h q w s).boot = s.boot := by
  rw [postWord_shape s h q w]
@[simp] theorem postWord_tap (h q : Nat) (w : Word) : (postWord h q w s).tap = s.tap := by
  rw [postWord_shape s h q w]
@[simp] theorem postWord_junior (h q : Nat) (w : Word) : (postWord h q w s).junior = s.junior := by
  rw [postWord_shape s h q w]
@[simp] theorem postWord_acc_dread (h q : Nat) (w : Word) (h2 a2 : Nat) : (postWord h q w s).dread h2 a2 = s.dread h2 a2 := by
  rw [postWord_shape s h q w]; rfl
@[simp] theorem postWord_acc_fread (h q : Nat) (w : Word) (a2 : Nat) : (postWord h q w s).fread a2 = s.fread a2 := by
  rw [postWord_shape s h q w]; rfl
@[simp] theorem postWord_acc_lane (h q : Nat) (w : Word) (h2 l2 : Nat) : (postWord h q w s).lane h2 l2 = s.lane h2 l2 := by
  rw [postWord_shape s h q w]; rfl
@[simp] theorem postWord_acc_gor (h q : Nat) (w : Word) (h2 i2 : Nat) : (postWord h q w s).gor h2 i2 = s.gor h2 i2 := by
  rw [postWord_shape s h q w]; rfl
@[simp] theorem postWord_acc_bas (h q : Nat) (w : Word) (h2 : Nat) : (postWord h q w s).bas h2 = s.bas h2 := by
  rw [postWord_shape s h q w]; rfl
@[simp] theorem postWord_acc_lbuf (h q : Nat) (w : Word) (h2 k2 : Nat) : (postWord h q w s).lbuf h2 k2 = s.lbuf h2 k2 := by
  rw [postWord_shape s h q w]; rfl
@[simp] theorem postWord_acc_ter (h q : Nat) (w : Word) (h2 : Nat) : (postWord h q w s).ter h2 = s.ter h2 := by
  rw [postWord_shape s h q w]; rfl
@[simp] theorem postWord_acc_fbx (h q : Nat) (w : Word) (h2 p2 : Nat) : (postWord h q w s).fbx h2 p2 = s.fbx h2 p2 := by
  rw [postWord_shape s h q w]; rfl
@[simp] theorem postWord_acc_dmp (h q : Nat) (w : Word) (h2 : Nat) : (postWord h q w s).dmp h2 = s.dmp h2 := by
  rw [postWord_shape s h q w]; rfl
@[simp] theorem postWord_acc_drt (h q : Nat) (w : Word) (h2 : Nat) : (postWord h q w s).drt h2 = s.drt h2 := by
  rw [postWord_shape s h q w]; rfl
@[simp] theorem postWord_acc_axis (h q : Nat) (w : Word) (a2 : Nat) : (postWord h q w s).axis a2 = s.axis a2 := by
  rw [postWord_shape s h q w]; rfl
@[simp] theorem postWord_acc_quad (h q : Nat) (w : Word) (h2 c2 : Nat) : (postWord h q w s).quad h2 c2 = s.quad h2 c2 := by
  rw [postWord_shape s h q w]; rfl
@[simp] theorem postWord_acc_hall (h q : Nat) (w : Word) (h2 k2 : Nat) : (postWord h q w s).hall h2 k2 = s.hall h2 k2 := by
  rw [postWord_shape s h q w]; rfl
@[simp] theorem postWord_acc_ssi (h q : Nat) (w : Word) (h2 k2 : Nat) : (postWord h q w s).ssi h2 k2 = s.ssi h2 k2 := by
  rw [postWord_shape s h q w]; rfl
@[simp] theorem postWord_acc_cam (h q : Nat) (w : Word) (h2 c2 : Nat) : (postWord h q w s).cam h2 c2 = s.cam h2 c2 := by
  rw [postWord_shape s h q w]; rfl
@[simp] theorem postWord_acc_isp (h q : Nat) (w : Word) (h2 : Nat) : (postWord h q w s).isp h2 = s.isp h2 := by
  rw [postWord_shape s h q w]; rfl
@[simp] theorem postWord_acc_chm (h q : Nat) (w : Word) (h2 : Nat) : (postWord h q w s).chm h2 = s.chm h2 := by
  rw [postWord_shape s h q w]; rfl
@[simp] theorem postWord_acc_mbx (h q : Nat) (w : Word) (c2 : Nat) : (postWord h q w s).mbx c2 = s.mbx c2 := by
  rw [postWord_shape s h q w]; rfl
@[simp] theorem postWord_acc_i2c (h q : Nat) (w : Word) (h2 c2 : Nat) : (postWord h q w s).i2c h2 c2 = s.i2c h2 c2 := by
  rw [postWord_shape s h q w]; rfl
@[simp] theorem postWord_acc_cal (h q : Nat) (w : Word) (h2 : Nat) : (postWord h q w s).cal h2 = s.cal h2 := by
  rw [postWord_shape s h q w]; rfl
@[simp] theorem postWord_acc_grt (h q : Nat) (w : Word) (h2 b2 : Nat) : (postWord h q w s).grt h2 b2 = s.grt h2 b2 := by
  rw [postWord_shape s h q w]; rfl
@[simp] theorem postWord_acc_ash (h q : Nat) (w : Word) (h2 x2 : Nat) : (postWord h q w s).ash h2 x2 = s.ash h2 x2 := by
  rw [postWord_shape s h q w]; rfl
@[simp] theorem postWord_acc_nH (h q : Nat) (w : Word) : (postWord h q w s).nH = s.nH := by
  rw [postWord_shape s h q w]; rfl
@[simp] theorem postWord_acc_hasH (h q : Nat) (w : Word) (h2 : Nat) : (postWord h q w s).hasH h2 = s.hasH h2 := by
  rw [postWord_shape s h q w]; rfl
@[simp] theorem fluePush_pending (h q : Nat) (w : Word) : (fluePush h q w s).pending = s.pending := by
  rw [fluePush_shape s h q w]
@[simp] theorem fluePush_part (h q : Nat) (w : Word) : (fluePush h q w s).part = s.part := by
  rw [fluePush_shape s h q w]
@[simp] theorem fluePush_now (h q : Nat) (w : Word) : (fluePush h q w s).now = s.now := by
  rw [fluePush_shape s h q w]
@[simp] theorem fluePush_freeCtr (h q : Nat) (w : Word) : (fluePush h q w s).freeCtr = s.freeCtr := by
  rw [fluePush_shape s h q w]
@[simp] theorem fluePush_out (h q : Nat) (w : Word) : (fluePush h q w s).out = s.out := by
  rw [fluePush_shape s h q w]
@[simp] theorem fluePush_dram (h q : Nat) (w : Word) : (fluePush h q w s).dram = s.dram := by
  rw [fluePush_shape s h q w]
@[simp] theorem fluePush_sev (h q : Nat) (w : Word) : (fluePush h q w s).sev = s.sev := by
  rw [fluePush_shape s h q w]
@[simp] theorem fluePush_lanes (h q : Nat) (w : Word) : (fluePush h q w s).lanes = s.lanes := by
  rw [fluePush_shape s h q w]
@[simp] theorem fluePush_gors (h q : Nat) (w : Word) : (fluePush h q w s).gors = s.gors := by
  rw [fluePush_shape s h q w]
@[simp] theorem fluePush_basins (h q : Nat) (w : Word) : (fluePush h q w s).basins = s.basins := by
  rw [fluePush_shape s h q w]
@[simp] theorem fluePush_lbs (h q : Nat) (w : Word) : (fluePush h q w s).lbs = s.lbs := by
  rw [fluePush_shape s h q w]
@[simp] theorem fluePush_flash (h q : Nat) (w : Word) : (fluePush h q w s).flash = s.flash := by
  rw [fluePush_shape s h q w]
@[simp] theorem fluePush_flash2 (h q : Nat) (w : Word) : (fluePush h q w s).flash2 = s.flash2 := by
  rw [fluePush_shape s h q w]
@[simp] theorem fluePush_crown (h q : Nat) (w : Word) : (fluePush h q w s).crown = s.crown := by
  rw [fluePush_shape s h q w]
@[simp] theorem fluePush_fwQueue (h q : Nat) (w : Word) : (fluePush h q w s).fwQueue = s.fwQueue := by
  rw [fluePush_shape s h q w]
@[simp] theorem fluePush_fwSevMin (h q : Nat) (w : Word) : (fluePush h q w s).fwSevMin = s.fwSevMin := by
  rw [fluePush_shape s h q w]
@[simp] theorem fluePush_fwFamilies (h q : Nat) (w : Word) : (fluePush h q w s).fwFamilies = s.fwFamilies := by
  rw [fluePush_shape s h q w]
@[simp] theorem fluePush_staged (h q : Nat) (w : Word) : (fluePush h q w s).staged = s.staged := by
  rw [fluePush_shape s h q w]
@[simp] theorem fluePush_ters (h q : Nat) (w : Word) : (fluePush h q w s).ters = s.ters := by
  rw [fluePush_shape s h q w]
@[simp] theorem fluePush_fbxs (h q : Nat) (w : Word) : (fluePush h q w s).fbxs = s.fbxs := by
  rw [fluePush_shape s h q w]
@[simp] theorem fluePush_dmps (h q : Nat) (w : Word) : (fluePush h q w s).dmps = s.dmps := by
  rw [fluePush_shape s h q w]
@[simp] theorem fluePush_drts (h q : Nat) (w : Word) : (fluePush h q w s).drts = s.drts := by
  rw [fluePush_shape s h q w]
@[simp] theorem fluePush_grts (h q : Nat) (w : Word) : (fluePush h q w s).grts = s.grts := by
  rw [fluePush_shape s h q w]
@[simp] theorem fluePush_ashMap (h q : Nat) (w : Word) : (fluePush h q w s).ashMap = s.ashMap := by
  rw [fluePush_shape s h q w]
@[simp] theorem fluePush_gates (h q : Nat) (w : Word) : (fluePush h q w s).gates = s.gates := by
  rw [fluePush_shape s h q w]
@[simp] theorem fluePush_twn (h q : Nat) (w : Word) : (fluePush h q w s).twn = s.twn := by
  rw [fluePush_shape s h q w]
@[simp] theorem fluePush_axes (h q : Nat) (w : Word) : (fluePush h q w s).axes = s.axes := by
  rw [fluePush_shape s h q w]
@[simp] theorem fluePush_quads (h q : Nat) (w : Word) : (fluePush h q w s).quads = s.quads := by
  rw [fluePush_shape s h q w]
@[simp] theorem fluePush_halls (h q : Nat) (w : Word) : (fluePush h q w s).halls = s.halls := by
  rw [fluePush_shape s h q w]
@[simp] theorem fluePush_ssis (h q : Nat) (w : Word) : (fluePush h q w s).ssis = s.ssis := by
  rw [fluePush_shape s h q w]
@[simp] theorem fluePush_cams (h q : Nat) (w : Word) : (fluePush h q w s).cams = s.cams := by
  rw [fluePush_shape s h q w]
@[simp] theorem fluePush_isps (h q : Nat) (w : Word) : (fluePush h q w s).isps = s.isps := by
  rw [fluePush_shape s h q w]
@[simp] theorem fluePush_latches (h q : Nat) (w : Word) : (fluePush h q w s).latches = s.latches := by
  rw [fluePush_shape s h q w]
@[simp] theorem fluePush_tim (h q : Nat) (w : Word) : (fluePush h q w s).tim = s.tim := by
  rw [fluePush_shape s h q w]
@[simp] theorem fluePush_chms (h q : Nat) (w : Word) : (fluePush h q w s).chms = s.chms := by
  rw [fluePush_shape s h q w]
@[simp] theorem fluePush_linksLost (h q : Nat) (w : Word) : (fluePush h q w s).linksLost = s.linksLost := by
  rw [fluePush_shape s h q w]
@[simp] theorem fluePush_mode (h q : Nat) (w : Word) : (fluePush h q w s).mode = s.mode := by
  rw [fluePush_shape s h q w]
@[simp] theorem fluePush_hostId (h q : Nat) (w : Word) : (fluePush h q w s).hostId = s.hostId := by
  rw [fluePush_shape s h q w]
@[simp] theorem fluePush_attachDue (h q : Nat) (w : Word) : (fluePush h q w s).attachDue = s.attachDue := by
  rw [fluePush_shape s h q w]
@[simp] theorem fluePush_up (h q : Nat) (w : Word) : (fluePush h q w s).up = s.up := by
  rw [fluePush_shape s h q w]
@[simp] theorem fluePush_upSince (h q : Nat) (w : Word) : (fluePush h q w s).upSince = s.upSince := by
  rw [fluePush_shape s h q w]
@[simp] theorem fluePush_posted (h q : Nat) (w : Word) : (fluePush h q w s).posted = s.posted := by
  rw [fluePush_shape s h q w]
@[simp] theorem fluePush_portOpen (h q : Nat) (w : Word) : (fluePush h q w s).portOpen = s.portOpen := by
  rw [fluePush_shape s h q w]
@[simp] theorem fluePush_mbxs (h q : Nat) (w : Word) : (fluePush h q w s).mbxs = s.mbxs := by
  rw [fluePush_shape s h q w]
@[simp] theorem fluePush_dops (h q : Nat) (w : Word) : (fluePush h q w s).dops = s.dops := by
  rw [fluePush_shape s h q w]
@[simp] theorem fluePush_paused (h q : Nat) (w : Word) : (fluePush h q w s).paused = s.paused := by
  rw [fluePush_shape s h q w]
@[simp] theorem fluePush_i2cs (h q : Nat) (w : Word) : (fluePush h q w s).i2cs = s.i2cs := by
  rw [fluePush_shape s h q w]
@[simp] theorem fluePush_arp (h q : Nat) (w : Word) : (fluePush h q w s).arp = s.arp := by
  rw [fluePush_shape s h q w]
@[simp] theorem fluePush_arpHeld (h q : Nat) (w : Word) : (fluePush h q w s).arpHeld = s.arpHeld := by
  rw [fluePush_shape s h q w]
@[simp] theorem fluePush_cals (h q : Nat) (w : Word) : (fluePush h q w s).cals = s.cals := by
  rw [fluePush_shape s h q w]
@[simp] theorem fluePush_upd (h q : Nat) (w : Word) : (fluePush h q w s).upd = s.upd := by
  rw [fluePush_shape s h q w]
@[simp] theorem fluePush_leadSel (h q : Nat) (w : Word) : (fluePush h q w s).leadSel = s.leadSel := by
  rw [fluePush_shape s h q w]
@[simp] theorem fluePush_absent (h q : Nat) (w : Word) : (fluePush h q w s).absent = s.absent := by
  rw [fluePush_shape s h q w]
@[simp] theorem fluePush_resetDue (h q : Nat) (w : Word) : (fluePush h q w s).resetDue = s.resetDue := by
  rw [fluePush_shape s h q w]
@[simp] theorem fluePush_vauxLow (h q : Nat) (w : Word) : (fluePush h q w s).vauxLow = s.vauxLow := by
  rw [fluePush_shape s h q w]
@[simp] theorem fluePush_alone (h q : Nat) (w : Word) : (fluePush h q w s).alone = s.alone := by
  rw [fluePush_shape s h q w]
@[simp] theorem fluePush_geo (h q : Nat) (w : Word) : (fluePush h q w s).geo = s.geo := by
  rw [fluePush_shape s h q w]
@[simp] theorem fluePush_geoRes (h q : Nat) (w : Word) : (fluePush h q w s).geoRes = s.geoRes := by
  rw [fluePush_shape s h q w]
@[simp] theorem fluePush_boot (h q : Nat) (w : Word) : (fluePush h q w s).boot = s.boot := by
  rw [fluePush_shape s h q w]
@[simp] theorem fluePush_tap (h q : Nat) (w : Word) : (fluePush h q w s).tap = s.tap := by
  rw [fluePush_shape s h q w]
@[simp] theorem fluePush_junior (h q : Nat) (w : Word) : (fluePush h q w s).junior = s.junior := by
  rw [fluePush_shape s h q w]
@[simp] theorem fluePush_acc_dread (h q : Nat) (w : Word) (h2 a2 : Nat) : (fluePush h q w s).dread h2 a2 = s.dread h2 a2 := by
  rw [fluePush_shape s h q w]; rfl
@[simp] theorem fluePush_acc_fread (h q : Nat) (w : Word) (a2 : Nat) : (fluePush h q w s).fread a2 = s.fread a2 := by
  rw [fluePush_shape s h q w]; rfl
@[simp] theorem fluePush_acc_lane (h q : Nat) (w : Word) (h2 l2 : Nat) : (fluePush h q w s).lane h2 l2 = s.lane h2 l2 := by
  rw [fluePush_shape s h q w]; rfl
@[simp] theorem fluePush_acc_gor (h q : Nat) (w : Word) (h2 i2 : Nat) : (fluePush h q w s).gor h2 i2 = s.gor h2 i2 := by
  rw [fluePush_shape s h q w]; rfl
@[simp] theorem fluePush_acc_bas (h q : Nat) (w : Word) (h2 : Nat) : (fluePush h q w s).bas h2 = s.bas h2 := by
  rw [fluePush_shape s h q w]; rfl
@[simp] theorem fluePush_acc_lbuf (h q : Nat) (w : Word) (h2 k2 : Nat) : (fluePush h q w s).lbuf h2 k2 = s.lbuf h2 k2 := by
  rw [fluePush_shape s h q w]; rfl
@[simp] theorem fluePush_acc_ter (h q : Nat) (w : Word) (h2 : Nat) : (fluePush h q w s).ter h2 = s.ter h2 := by
  rw [fluePush_shape s h q w]; rfl
@[simp] theorem fluePush_acc_fbx (h q : Nat) (w : Word) (h2 p2 : Nat) : (fluePush h q w s).fbx h2 p2 = s.fbx h2 p2 := by
  rw [fluePush_shape s h q w]; rfl
@[simp] theorem fluePush_acc_dmp (h q : Nat) (w : Word) (h2 : Nat) : (fluePush h q w s).dmp h2 = s.dmp h2 := by
  rw [fluePush_shape s h q w]; rfl
@[simp] theorem fluePush_acc_drt (h q : Nat) (w : Word) (h2 : Nat) : (fluePush h q w s).drt h2 = s.drt h2 := by
  rw [fluePush_shape s h q w]; rfl
@[simp] theorem fluePush_acc_axis (h q : Nat) (w : Word) (a2 : Nat) : (fluePush h q w s).axis a2 = s.axis a2 := by
  rw [fluePush_shape s h q w]; rfl
@[simp] theorem fluePush_acc_quad (h q : Nat) (w : Word) (h2 c2 : Nat) : (fluePush h q w s).quad h2 c2 = s.quad h2 c2 := by
  rw [fluePush_shape s h q w]; rfl
@[simp] theorem fluePush_acc_hall (h q : Nat) (w : Word) (h2 k2 : Nat) : (fluePush h q w s).hall h2 k2 = s.hall h2 k2 := by
  rw [fluePush_shape s h q w]; rfl
@[simp] theorem fluePush_acc_ssi (h q : Nat) (w : Word) (h2 k2 : Nat) : (fluePush h q w s).ssi h2 k2 = s.ssi h2 k2 := by
  rw [fluePush_shape s h q w]; rfl
@[simp] theorem fluePush_acc_cam (h q : Nat) (w : Word) (h2 c2 : Nat) : (fluePush h q w s).cam h2 c2 = s.cam h2 c2 := by
  rw [fluePush_shape s h q w]; rfl
@[simp] theorem fluePush_acc_isp (h q : Nat) (w : Word) (h2 : Nat) : (fluePush h q w s).isp h2 = s.isp h2 := by
  rw [fluePush_shape s h q w]; rfl
@[simp] theorem fluePush_acc_chm (h q : Nat) (w : Word) (h2 : Nat) : (fluePush h q w s).chm h2 = s.chm h2 := by
  rw [fluePush_shape s h q w]; rfl
@[simp] theorem fluePush_acc_mbx (h q : Nat) (w : Word) (c2 : Nat) : (fluePush h q w s).mbx c2 = s.mbx c2 := by
  rw [fluePush_shape s h q w]; rfl
@[simp] theorem fluePush_acc_i2c (h q : Nat) (w : Word) (h2 c2 : Nat) : (fluePush h q w s).i2c h2 c2 = s.i2c h2 c2 := by
  rw [fluePush_shape s h q w]; rfl
@[simp] theorem fluePush_acc_cal (h q : Nat) (w : Word) (h2 : Nat) : (fluePush h q w s).cal h2 = s.cal h2 := by
  rw [fluePush_shape s h q w]; rfl
@[simp] theorem fluePush_acc_grt (h q : Nat) (w : Word) (h2 b2 : Nat) : (fluePush h q w s).grt h2 b2 = s.grt h2 b2 := by
  rw [fluePush_shape s h q w]; rfl
@[simp] theorem fluePush_acc_ash (h q : Nat) (w : Word) (h2 x2 : Nat) : (fluePush h q w s).ash h2 x2 = s.ash h2 x2 := by
  rw [fluePush_shape s h q w]; rfl
@[simp] theorem fluePush_acc_nH (h q : Nat) (w : Word) : (fluePush h q w s).nH = s.nH := by
  rw [fluePush_shape s h q w]; rfl
@[simp] theorem fluePush_acc_hasH (h q : Nat) (w : Word) (h2 : Nat) : (fluePush h q w s).hasH h2 = s.hasH h2 := by
  rw [fluePush_shape s h q w]; rfl
@[simp] theorem fwEvent_pending (h code : Nat) : (fwEvent h code s).pending = s.pending := by
  rw [fwEvent_shape s h code]
@[simp] theorem fwEvent_part (h code : Nat) : (fwEvent h code s).part = s.part := by
  rw [fwEvent_shape s h code]
@[simp] theorem fwEvent_now (h code : Nat) : (fwEvent h code s).now = s.now := by
  rw [fwEvent_shape s h code]
@[simp] theorem fwEvent_freeCtr (h code : Nat) : (fwEvent h code s).freeCtr = s.freeCtr := by
  rw [fwEvent_shape s h code]
@[simp] theorem fwEvent_out (h code : Nat) : (fwEvent h code s).out = s.out := by
  rw [fwEvent_shape s h code]
@[simp] theorem fwEvent_dram (h code : Nat) : (fwEvent h code s).dram = s.dram := by
  rw [fwEvent_shape s h code]
@[simp] theorem fwEvent_sev (h code : Nat) : (fwEvent h code s).sev = s.sev := by
  rw [fwEvent_shape s h code]
@[simp] theorem fwEvent_lanes (h code : Nat) : (fwEvent h code s).lanes = s.lanes := by
  rw [fwEvent_shape s h code]
@[simp] theorem fwEvent_gors (h code : Nat) : (fwEvent h code s).gors = s.gors := by
  rw [fwEvent_shape s h code]
@[simp] theorem fwEvent_basins (h code : Nat) : (fwEvent h code s).basins = s.basins := by
  rw [fwEvent_shape s h code]
@[simp] theorem fwEvent_lbs (h code : Nat) : (fwEvent h code s).lbs = s.lbs := by
  rw [fwEvent_shape s h code]
@[simp] theorem fwEvent_flash (h code : Nat) : (fwEvent h code s).flash = s.flash := by
  rw [fwEvent_shape s h code]
@[simp] theorem fwEvent_flash2 (h code : Nat) : (fwEvent h code s).flash2 = s.flash2 := by
  rw [fwEvent_shape s h code]
@[simp] theorem fwEvent_crown (h code : Nat) : (fwEvent h code s).crown = s.crown := by
  rw [fwEvent_shape s h code]
@[simp] theorem fwEvent_fwQueue (h code : Nat) : (fwEvent h code s).fwQueue = s.fwQueue := by
  rw [fwEvent_shape s h code]
@[simp] theorem fwEvent_fwSevMin (h code : Nat) : (fwEvent h code s).fwSevMin = s.fwSevMin := by
  rw [fwEvent_shape s h code]
@[simp] theorem fwEvent_fwFamilies (h code : Nat) : (fwEvent h code s).fwFamilies = s.fwFamilies := by
  rw [fwEvent_shape s h code]
@[simp] theorem fwEvent_staged (h code : Nat) : (fwEvent h code s).staged = s.staged := by
  rw [fwEvent_shape s h code]
@[simp] theorem fwEvent_ters (h code : Nat) : (fwEvent h code s).ters = s.ters := by
  rw [fwEvent_shape s h code]
@[simp] theorem fwEvent_fbxs (h code : Nat) : (fwEvent h code s).fbxs = s.fbxs := by
  rw [fwEvent_shape s h code]
@[simp] theorem fwEvent_dmps (h code : Nat) : (fwEvent h code s).dmps = s.dmps := by
  rw [fwEvent_shape s h code]
@[simp] theorem fwEvent_drts (h code : Nat) : (fwEvent h code s).drts = s.drts := by
  rw [fwEvent_shape s h code]
@[simp] theorem fwEvent_grts (h code : Nat) : (fwEvent h code s).grts = s.grts := by
  rw [fwEvent_shape s h code]
@[simp] theorem fwEvent_ashMap (h code : Nat) : (fwEvent h code s).ashMap = s.ashMap := by
  rw [fwEvent_shape s h code]
@[simp] theorem fwEvent_gates (h code : Nat) : (fwEvent h code s).gates = s.gates := by
  rw [fwEvent_shape s h code]
@[simp] theorem fwEvent_twn (h code : Nat) : (fwEvent h code s).twn = s.twn := by
  rw [fwEvent_shape s h code]
@[simp] theorem fwEvent_axes (h code : Nat) : (fwEvent h code s).axes = s.axes := by
  rw [fwEvent_shape s h code]
@[simp] theorem fwEvent_quads (h code : Nat) : (fwEvent h code s).quads = s.quads := by
  rw [fwEvent_shape s h code]
@[simp] theorem fwEvent_halls (h code : Nat) : (fwEvent h code s).halls = s.halls := by
  rw [fwEvent_shape s h code]
@[simp] theorem fwEvent_ssis (h code : Nat) : (fwEvent h code s).ssis = s.ssis := by
  rw [fwEvent_shape s h code]
@[simp] theorem fwEvent_cams (h code : Nat) : (fwEvent h code s).cams = s.cams := by
  rw [fwEvent_shape s h code]
@[simp] theorem fwEvent_isps (h code : Nat) : (fwEvent h code s).isps = s.isps := by
  rw [fwEvent_shape s h code]
@[simp] theorem fwEvent_latches (h code : Nat) : (fwEvent h code s).latches = s.latches := by
  rw [fwEvent_shape s h code]
@[simp] theorem fwEvent_tim (h code : Nat) : (fwEvent h code s).tim = s.tim := by
  rw [fwEvent_shape s h code]
@[simp] theorem fwEvent_chms (h code : Nat) : (fwEvent h code s).chms = s.chms := by
  rw [fwEvent_shape s h code]
@[simp] theorem fwEvent_linksLost (h code : Nat) : (fwEvent h code s).linksLost = s.linksLost := by
  rw [fwEvent_shape s h code]
@[simp] theorem fwEvent_mode (h code : Nat) : (fwEvent h code s).mode = s.mode := by
  rw [fwEvent_shape s h code]
@[simp] theorem fwEvent_hostId (h code : Nat) : (fwEvent h code s).hostId = s.hostId := by
  rw [fwEvent_shape s h code]
@[simp] theorem fwEvent_attachDue (h code : Nat) : (fwEvent h code s).attachDue = s.attachDue := by
  rw [fwEvent_shape s h code]
@[simp] theorem fwEvent_up (h code : Nat) : (fwEvent h code s).up = s.up := by
  rw [fwEvent_shape s h code]
@[simp] theorem fwEvent_upSince (h code : Nat) : (fwEvent h code s).upSince = s.upSince := by
  rw [fwEvent_shape s h code]
@[simp] theorem fwEvent_posted (h code : Nat) : (fwEvent h code s).posted = s.posted := by
  rw [fwEvent_shape s h code]
@[simp] theorem fwEvent_portOpen (h code : Nat) : (fwEvent h code s).portOpen = s.portOpen := by
  rw [fwEvent_shape s h code]
@[simp] theorem fwEvent_mbxs (h code : Nat) : (fwEvent h code s).mbxs = s.mbxs := by
  rw [fwEvent_shape s h code]
@[simp] theorem fwEvent_dops (h code : Nat) : (fwEvent h code s).dops = s.dops := by
  rw [fwEvent_shape s h code]
@[simp] theorem fwEvent_paused (h code : Nat) : (fwEvent h code s).paused = s.paused := by
  rw [fwEvent_shape s h code]
@[simp] theorem fwEvent_i2cs (h code : Nat) : (fwEvent h code s).i2cs = s.i2cs := by
  rw [fwEvent_shape s h code]
@[simp] theorem fwEvent_arp (h code : Nat) : (fwEvent h code s).arp = s.arp := by
  rw [fwEvent_shape s h code]
@[simp] theorem fwEvent_arpHeld (h code : Nat) : (fwEvent h code s).arpHeld = s.arpHeld := by
  rw [fwEvent_shape s h code]
@[simp] theorem fwEvent_cals (h code : Nat) : (fwEvent h code s).cals = s.cals := by
  rw [fwEvent_shape s h code]
@[simp] theorem fwEvent_upd (h code : Nat) : (fwEvent h code s).upd = s.upd := by
  rw [fwEvent_shape s h code]
@[simp] theorem fwEvent_leadSel (h code : Nat) : (fwEvent h code s).leadSel = s.leadSel := by
  rw [fwEvent_shape s h code]
@[simp] theorem fwEvent_absent (h code : Nat) : (fwEvent h code s).absent = s.absent := by
  rw [fwEvent_shape s h code]
@[simp] theorem fwEvent_resetDue (h code : Nat) : (fwEvent h code s).resetDue = s.resetDue := by
  rw [fwEvent_shape s h code]
@[simp] theorem fwEvent_vauxLow (h code : Nat) : (fwEvent h code s).vauxLow = s.vauxLow := by
  rw [fwEvent_shape s h code]
@[simp] theorem fwEvent_alone (h code : Nat) : (fwEvent h code s).alone = s.alone := by
  rw [fwEvent_shape s h code]
@[simp] theorem fwEvent_geo (h code : Nat) : (fwEvent h code s).geo = s.geo := by
  rw [fwEvent_shape s h code]
@[simp] theorem fwEvent_geoRes (h code : Nat) : (fwEvent h code s).geoRes = s.geoRes := by
  rw [fwEvent_shape s h code]
@[simp] theorem fwEvent_boot (h code : Nat) : (fwEvent h code s).boot = s.boot := by
  rw [fwEvent_shape s h code]
@[simp] theorem fwEvent_tap (h code : Nat) : (fwEvent h code s).tap = s.tap := by
  rw [fwEvent_shape s h code]
@[simp] theorem fwEvent_junior (h code : Nat) : (fwEvent h code s).junior = s.junior := by
  rw [fwEvent_shape s h code]
@[simp] theorem fwEvent_acc_dread (h code : Nat) (h2 a2 : Nat) : (fwEvent h code s).dread h2 a2 = s.dread h2 a2 := by
  rw [fwEvent_shape s h code]; rfl
@[simp] theorem fwEvent_acc_fread (h code : Nat) (a2 : Nat) : (fwEvent h code s).fread a2 = s.fread a2 := by
  rw [fwEvent_shape s h code]; rfl
@[simp] theorem fwEvent_acc_lane (h code : Nat) (h2 l2 : Nat) : (fwEvent h code s).lane h2 l2 = s.lane h2 l2 := by
  rw [fwEvent_shape s h code]; rfl
@[simp] theorem fwEvent_acc_gor (h code : Nat) (h2 i2 : Nat) : (fwEvent h code s).gor h2 i2 = s.gor h2 i2 := by
  rw [fwEvent_shape s h code]; rfl
@[simp] theorem fwEvent_acc_bas (h code : Nat) (h2 : Nat) : (fwEvent h code s).bas h2 = s.bas h2 := by
  rw [fwEvent_shape s h code]; rfl
@[simp] theorem fwEvent_acc_lbuf (h code : Nat) (h2 k2 : Nat) : (fwEvent h code s).lbuf h2 k2 = s.lbuf h2 k2 := by
  rw [fwEvent_shape s h code]; rfl
@[simp] theorem fwEvent_acc_ter (h code : Nat) (h2 : Nat) : (fwEvent h code s).ter h2 = s.ter h2 := by
  rw [fwEvent_shape s h code]; rfl
@[simp] theorem fwEvent_acc_fbx (h code : Nat) (h2 p2 : Nat) : (fwEvent h code s).fbx h2 p2 = s.fbx h2 p2 := by
  rw [fwEvent_shape s h code]; rfl
@[simp] theorem fwEvent_acc_dmp (h code : Nat) (h2 : Nat) : (fwEvent h code s).dmp h2 = s.dmp h2 := by
  rw [fwEvent_shape s h code]; rfl
@[simp] theorem fwEvent_acc_drt (h code : Nat) (h2 : Nat) : (fwEvent h code s).drt h2 = s.drt h2 := by
  rw [fwEvent_shape s h code]; rfl
@[simp] theorem fwEvent_acc_axis (h code : Nat) (a2 : Nat) : (fwEvent h code s).axis a2 = s.axis a2 := by
  rw [fwEvent_shape s h code]; rfl
@[simp] theorem fwEvent_acc_quad (h code : Nat) (h2 c2 : Nat) : (fwEvent h code s).quad h2 c2 = s.quad h2 c2 := by
  rw [fwEvent_shape s h code]; rfl
@[simp] theorem fwEvent_acc_hall (h code : Nat) (h2 k2 : Nat) : (fwEvent h code s).hall h2 k2 = s.hall h2 k2 := by
  rw [fwEvent_shape s h code]; rfl
@[simp] theorem fwEvent_acc_ssi (h code : Nat) (h2 k2 : Nat) : (fwEvent h code s).ssi h2 k2 = s.ssi h2 k2 := by
  rw [fwEvent_shape s h code]; rfl
@[simp] theorem fwEvent_acc_cam (h code : Nat) (h2 c2 : Nat) : (fwEvent h code s).cam h2 c2 = s.cam h2 c2 := by
  rw [fwEvent_shape s h code]; rfl
@[simp] theorem fwEvent_acc_isp (h code : Nat) (h2 : Nat) : (fwEvent h code s).isp h2 = s.isp h2 := by
  rw [fwEvent_shape s h code]; rfl
@[simp] theorem fwEvent_acc_chm (h code : Nat) (h2 : Nat) : (fwEvent h code s).chm h2 = s.chm h2 := by
  rw [fwEvent_shape s h code]; rfl
@[simp] theorem fwEvent_acc_mbx (h code : Nat) (c2 : Nat) : (fwEvent h code s).mbx c2 = s.mbx c2 := by
  rw [fwEvent_shape s h code]; rfl
@[simp] theorem fwEvent_acc_i2c (h code : Nat) (h2 c2 : Nat) : (fwEvent h code s).i2c h2 c2 = s.i2c h2 c2 := by
  rw [fwEvent_shape s h code]; rfl
@[simp] theorem fwEvent_acc_cal (h code : Nat) (h2 : Nat) : (fwEvent h code s).cal h2 = s.cal h2 := by
  rw [fwEvent_shape s h code]; rfl
@[simp] theorem fwEvent_acc_grt (h code : Nat) (h2 b2 : Nat) : (fwEvent h code s).grt h2 b2 = s.grt h2 b2 := by
  rw [fwEvent_shape s h code]; rfl
@[simp] theorem fwEvent_acc_ash (h code : Nat) (h2 x2 : Nat) : (fwEvent h code s).ash h2 x2 = s.ash h2 x2 := by
  rw [fwEvent_shape s h code]; rfl
@[simp] theorem fwEvent_acc_nH (h code : Nat) : (fwEvent h code s).nH = s.nH := by
  rw [fwEvent_shape s h code]; rfl
@[simp] theorem fwEvent_acc_hasH (h code : Nat) (h2 : Nat) : (fwEvent h code s).hasH h2 = s.hasH h2 := by
  rw [fwEvent_shape s h code]; rfl

/-! ### Free values -/

@[simp] theorem State.free_pending (n : Nat) : (s.free n).2.pending = s.pending := rfl
@[simp] theorem State.free_part (n : Nat) : (s.free n).2.part = s.part := rfl
@[simp] theorem State.free_now (n : Nat) : (s.free n).2.now = s.now := rfl
@[simp] theorem State.free_out (n : Nat) : (s.free n).2.out = s.out := rfl
@[simp] theorem State.free_dram (n : Nat) : (s.free n).2.dram = s.dram := rfl
@[simp] theorem State.free_sev (n : Nat) : (s.free n).2.sev = s.sev := rfl
@[simp] theorem State.free_lanes (n : Nat) : (s.free n).2.lanes = s.lanes := rfl
@[simp] theorem State.free_gors (n : Nat) : (s.free n).2.gors = s.gors := rfl
@[simp] theorem State.free_basins (n : Nat) : (s.free n).2.basins = s.basins := rfl
@[simp] theorem State.free_lbs (n : Nat) : (s.free n).2.lbs = s.lbs := rfl
@[simp] theorem State.free_flues (n : Nat) : (s.free n).2.flues = s.flues := rfl
@[simp] theorem State.free_flash (n : Nat) : (s.free n).2.flash = s.flash := rfl
@[simp] theorem State.free_flash2 (n : Nat) : (s.free n).2.flash2 = s.flash2 := rfl
@[simp] theorem State.free_crown (n : Nat) : (s.free n).2.crown = s.crown := rfl
@[simp] theorem State.free_fwQueue (n : Nat) : (s.free n).2.fwQueue = s.fwQueue := rfl
@[simp] theorem State.free_fwSevMin (n : Nat) : (s.free n).2.fwSevMin = s.fwSevMin := rfl
@[simp] theorem State.free_fwFamilies (n : Nat) : (s.free n).2.fwFamilies = s.fwFamilies := rfl
@[simp] theorem State.free_staged (n : Nat) : (s.free n).2.staged = s.staged := rfl
@[simp] theorem State.free_ters (n : Nat) : (s.free n).2.ters = s.ters := rfl
@[simp] theorem State.free_fbxs (n : Nat) : (s.free n).2.fbxs = s.fbxs := rfl
@[simp] theorem State.free_dmps (n : Nat) : (s.free n).2.dmps = s.dmps := rfl
@[simp] theorem State.free_drts (n : Nat) : (s.free n).2.drts = s.drts := rfl
@[simp] theorem State.free_grts (n : Nat) : (s.free n).2.grts = s.grts := rfl
@[simp] theorem State.free_ashMap (n : Nat) : (s.free n).2.ashMap = s.ashMap := rfl
@[simp] theorem State.free_gates (n : Nat) : (s.free n).2.gates = s.gates := rfl
@[simp] theorem State.free_twn (n : Nat) : (s.free n).2.twn = s.twn := rfl
@[simp] theorem State.free_axes (n : Nat) : (s.free n).2.axes = s.axes := rfl
@[simp] theorem State.free_quads (n : Nat) : (s.free n).2.quads = s.quads := rfl
@[simp] theorem State.free_halls (n : Nat) : (s.free n).2.halls = s.halls := rfl
@[simp] theorem State.free_ssis (n : Nat) : (s.free n).2.ssis = s.ssis := rfl
@[simp] theorem State.free_cams (n : Nat) : (s.free n).2.cams = s.cams := rfl
@[simp] theorem State.free_isps (n : Nat) : (s.free n).2.isps = s.isps := rfl
@[simp] theorem State.free_latches (n : Nat) : (s.free n).2.latches = s.latches := rfl
@[simp] theorem State.free_tim (n : Nat) : (s.free n).2.tim = s.tim := rfl
@[simp] theorem State.free_chms (n : Nat) : (s.free n).2.chms = s.chms := rfl
@[simp] theorem State.free_linksLost (n : Nat) : (s.free n).2.linksLost = s.linksLost := rfl
@[simp] theorem State.free_mode (n : Nat) : (s.free n).2.mode = s.mode := rfl
@[simp] theorem State.free_hostId (n : Nat) : (s.free n).2.hostId = s.hostId := rfl
@[simp] theorem State.free_attachDue (n : Nat) : (s.free n).2.attachDue = s.attachDue := rfl
@[simp] theorem State.free_up (n : Nat) : (s.free n).2.up = s.up := rfl
@[simp] theorem State.free_upSince (n : Nat) : (s.free n).2.upSince = s.upSince := rfl
@[simp] theorem State.free_posted (n : Nat) : (s.free n).2.posted = s.posted := rfl
@[simp] theorem State.free_portOpen (n : Nat) : (s.free n).2.portOpen = s.portOpen := rfl
@[simp] theorem State.free_mbxs (n : Nat) : (s.free n).2.mbxs = s.mbxs := rfl
@[simp] theorem State.free_dops (n : Nat) : (s.free n).2.dops = s.dops := rfl
@[simp] theorem State.free_paused (n : Nat) : (s.free n).2.paused = s.paused := rfl
@[simp] theorem State.free_i2cs (n : Nat) : (s.free n).2.i2cs = s.i2cs := rfl
@[simp] theorem State.free_arp (n : Nat) : (s.free n).2.arp = s.arp := rfl
@[simp] theorem State.free_arpHeld (n : Nat) : (s.free n).2.arpHeld = s.arpHeld := rfl
@[simp] theorem State.free_cals (n : Nat) : (s.free n).2.cals = s.cals := rfl
@[simp] theorem State.free_upd (n : Nat) : (s.free n).2.upd = s.upd := rfl
@[simp] theorem State.free_leadSel (n : Nat) : (s.free n).2.leadSel = s.leadSel := rfl
@[simp] theorem State.free_absent (n : Nat) : (s.free n).2.absent = s.absent := rfl
@[simp] theorem State.free_resetDue (n : Nat) : (s.free n).2.resetDue = s.resetDue := rfl
@[simp] theorem State.free_vauxLow (n : Nat) : (s.free n).2.vauxLow = s.vauxLow := rfl
@[simp] theorem State.free_alone (n : Nat) : (s.free n).2.alone = s.alone := rfl
@[simp] theorem State.free_geo (n : Nat) : (s.free n).2.geo = s.geo := rfl
@[simp] theorem State.free_geoRes (n : Nat) : (s.free n).2.geoRes = s.geoRes := rfl
@[simp] theorem State.free_boot (n : Nat) : (s.free n).2.boot = s.boot := rfl
@[simp] theorem State.free_tap (n : Nat) : (s.free n).2.tap = s.tap := rfl
@[simp] theorem State.free_junior (n : Nat) : (s.free n).2.junior = s.junior := rfl
@[simp] theorem State.free_regs (n : Nat) : (s.free n).2.regs = s.regs := rfl
@[simp] theorem State.free_acc_rd (n : Nat) (h2 i2 b2 w2 : Nat) : (s.free n).2.rd h2 i2 b2 w2 = s.rd h2 i2 b2 w2 := rfl
@[simp] theorem State.free_acc_fget (n : Nat) (h2 i2 : Nat) (f2 : Fld) : (s.free n).2.fget h2 i2 f2 = s.fget h2 i2 f2 := rfl
@[simp] theorem State.free_acc_fon (n : Nat) (h2 i2 : Nat) (f2 : Fld) : (s.free n).2.fon h2 i2 f2 = s.fon h2 i2 f2 := rfl
@[simp] theorem State.free_acc_sget (n : Nat) (h2 i2 : Nat) (f2 : Fld) : (s.free n).2.sget h2 i2 f2 = s.sget h2 i2 f2 := rfl
@[simp] theorem State.free_acc_get64 (n : Nat) (h2 i2 : Nat) (f2 : Fld) : (s.free n).2.get64 h2 i2 f2 = s.get64 h2 i2 f2 := rfl
@[simp] theorem State.free_acc_dread (n : Nat) (h2 a2 : Nat) : (s.free n).2.dread h2 a2 = s.dread h2 a2 := rfl
@[simp] theorem State.free_acc_fread (n : Nat) (a2 : Nat) : (s.free n).2.fread a2 = s.fread a2 := rfl
@[simp] theorem State.free_acc_lane (n : Nat) (h2 l2 : Nat) : (s.free n).2.lane h2 l2 = s.lane h2 l2 := rfl
@[simp] theorem State.free_acc_gor (n : Nat) (h2 i2 : Nat) : (s.free n).2.gor h2 i2 = s.gor h2 i2 := rfl
@[simp] theorem State.free_acc_bas (n : Nat) (h2 : Nat) : (s.free n).2.bas h2 = s.bas h2 := rfl
@[simp] theorem State.free_acc_lbuf (n : Nat) (h2 k2 : Nat) : (s.free n).2.lbuf h2 k2 = s.lbuf h2 k2 := rfl
@[simp] theorem State.free_acc_flue (n : Nat) (h2 q2 : Nat) : (s.free n).2.flue h2 q2 = s.flue h2 q2 := rfl
@[simp] theorem State.free_acc_ter (n : Nat) (h2 : Nat) : (s.free n).2.ter h2 = s.ter h2 := rfl
@[simp] theorem State.free_acc_fbx (n : Nat) (h2 p2 : Nat) : (s.free n).2.fbx h2 p2 = s.fbx h2 p2 := rfl
@[simp] theorem State.free_acc_dmp (n : Nat) (h2 : Nat) : (s.free n).2.dmp h2 = s.dmp h2 := rfl
@[simp] theorem State.free_acc_drt (n : Nat) (h2 : Nat) : (s.free n).2.drt h2 = s.drt h2 := rfl
@[simp] theorem State.free_acc_axis (n : Nat) (a2 : Nat) : (s.free n).2.axis a2 = s.axis a2 := rfl
@[simp] theorem State.free_acc_quad (n : Nat) (h2 c2 : Nat) : (s.free n).2.quad h2 c2 = s.quad h2 c2 := rfl
@[simp] theorem State.free_acc_hall (n : Nat) (h2 k2 : Nat) : (s.free n).2.hall h2 k2 = s.hall h2 k2 := rfl
@[simp] theorem State.free_acc_ssi (n : Nat) (h2 k2 : Nat) : (s.free n).2.ssi h2 k2 = s.ssi h2 k2 := rfl
@[simp] theorem State.free_acc_cam (n : Nat) (h2 c2 : Nat) : (s.free n).2.cam h2 c2 = s.cam h2 c2 := rfl
@[simp] theorem State.free_acc_isp (n : Nat) (h2 : Nat) : (s.free n).2.isp h2 = s.isp h2 := rfl
@[simp] theorem State.free_acc_chm (n : Nat) (h2 : Nat) : (s.free n).2.chm h2 = s.chm h2 := rfl
@[simp] theorem State.free_acc_mbx (n : Nat) (c2 : Nat) : (s.free n).2.mbx c2 = s.mbx c2 := rfl
@[simp] theorem State.free_acc_i2c (n : Nat) (h2 c2 : Nat) : (s.free n).2.i2c h2 c2 = s.i2c h2 c2 := rfl
@[simp] theorem State.free_acc_cal (n : Nat) (h2 : Nat) : (s.free n).2.cal h2 = s.cal h2 := rfl
@[simp] theorem State.free_acc_grt (n : Nat) (h2 b2 : Nat) : (s.free n).2.grt h2 b2 = s.grt h2 b2 := rfl
@[simp] theorem State.free_acc_ash (n : Nat) (h2 x2 : Nat) : (s.free n).2.ash h2 x2 = s.ash h2 x2 := rfl
@[simp] theorem State.free_acc_nH (n : Nat) : (s.free n).2.nH = s.nH := rfl
@[simp] theorem State.free_acc_hasH (n : Nat) (h2 : Nat) : (s.free n).2.hasH h2 = s.hasH h2 := rfl

/-! ### Registers that events leave alone -/

/-- Two fields stand in words of different numbers, both within a block. -/
theorem rkey_word_ne {h i b w h' i' b' w' : Nat} (hw : w < 2048) (hw' : w' < 2048) (n : w ≠ w') :
    rkey h b i w ≠ rkey h' b' i' w' := by
  unfold rkey
  omega

/-- A push leaves every register word alone but the two counters of lost words. -/
theorem fluePush_rd (h q : Nat) (w : Word) {h' i' b' w' : Nat}
    (n : rkey h' b' i' w' ≠ rkey h BLK_FLU 0 FLU_OVF_CNT.word) : (fluePush h q w s).rd h' i' b' w' = s.rd h' i' b' w' := by
  unfold fluePush
  dsimp only
  split
  · rw [State.count_eq, State.rd_fput_ne (f := FLU_OVF_CNT) _ _ n, State.setFlue_acc_rd]
  · rw [State.setFlue_acc_rd]

theorem postWord_rd (h q : Nat) (w : Word) {h' i' b' w' : Nat} (n : rkey h' b' i' w' ≠ rkey h BLK_FLU 0 FLU_OVF_CNT.word)
    (m : rkey h' b' i' w' ≠ rkey h BLK_GLB 0 GLB_EVT_LOST.word) : (postWord h q w s).rd h' i' b' w' = s.rd h' i' b' w' := by
  unfold postWord onlyIf
  dsimp only
  split
  · rw [State.count_eq, State.rd_fput_ne (f := GLB_EVT_LOST) _ _ m, fluePush_rd _ _ _ _ n]
  · rw [fluePush_rd _ _ _ _ n]

/-- A word is neither of the two counters that an event word may step, on any hearth. -/
def NoLossCounter (i b w : Nat) : Prop :=
  w < 2048 ∧ (w = FLU_OVF_CNT.word → i < 16 ∧ b < 256 ∧ b ≠ BLK_FLU) ∧ (w = GLB_EVT_LOST.word → i < 16 ∧ b < 256 ∧ b ≠ BLK_GLB)

theorem NoLossCounter.flu {i b w : Nat} (n : NoLossCounter i b w) (h h' : Nat) :
    rkey h' b i w ≠ rkey h BLK_FLU 0 FLU_OVF_CNT.word := by
  obtain ⟨a, c, -⟩ := n
  by_cases e : w = FLU_OVF_CNT.word
  · obtain ⟨x, y, z⟩ := c e
    exact rkey_ne x a y (by norm_num) (by norm_num) (by norm_num [BLK_FLU, BLK_GLB]) (fun k => z k.2.2.1)
  · exact rkey_word_ne a (by norm_num) e

theorem NoLossCounter.glb {i b w : Nat} (n : NoLossCounter i b w) (h h' : Nat) :
    rkey h' b i w ≠ rkey h BLK_GLB 0 GLB_EVT_LOST.word := by
  obtain ⟨a, -, c⟩ := n
  by_cases e : w = GLB_EVT_LOST.word
  · obtain ⟨x, y, z⟩ := c e
    exact rkey_ne x a y (by norm_num) (by norm_num) (by norm_num [BLK_FLU, BLK_GLB]) (fun k => z k.2.2.1)
  · exact rkey_word_ne a (by norm_num) e

theorem postEvent_rd (h i : Nat) (e : Fld) (k : Nat) {h' i' b' w' : Nat} (n : NoLossCounter i' b' w') :
    (postEvent h i e k s).rd h' i' b' w' = s.rd h' i' b' w' := postWord_rd _ _ _ _ (n.flu _ _) (n.glb _ _)

theorem raise_rd (h i : Nat) (e : Fld) {h' i' b' w' : Nat} (n : NoLossCounter i' b' w')
    (m : rkey h' b' i' w' ≠ rkey h e.blk i e.word) : (s.raise h i e).rd h' i' b' w' = s.rd h' i' b' w' := by
  unfold State.raise
  split
  · rfl
  · dsimp only
    split
    · rw [postEvent_rd _ _ _ _ _ n, State.rd_fput_ne _ _ m]
    · rw [State.rd_fput_ne _ _ m]

theorem fwEvent_rd (h code : Nat) {h' i' b' w' : Nat} (n : NoLossCounter i' b' w') :
    (fwEvent h code s).rd h' i' b' w' = s.rd h' i' b' w' := by
  unfold fwEvent
  dsimp only
  split
  · exact postWord_rd _ _ _ _ (n.flu _ _) (n.glb _ _)
  · rfl

theorem raise_fget (h i : Nat) (e : Fld) {h' i' : Nat} {g : Fld} (n : NoLossCounter i' g.blk g.word)
    (m : rkey h' g.blk i' g.word ≠ rkey h e.blk i e.word) : (s.raise h i e).fget h' i' g = s.fget h' i' g := by
  unfold State.fget
  rw [raise_rd _ _ _ _ n m]

theorem fwEvent_fget (h code : Nat) {h' i' : Nat} {g : Fld} (n : NoLossCounter i' g.blk g.word) :
    (fwEvent h code s).fget h' i' g = s.fget h' i' g := by
  unfold State.fget
  rw [fwEvent_rd _ _ _ n]

/-- A raised event bit is on. -/
theorem raise_sets (h i : Nat) (e : Fld) (he : e.lo + e.len ≤ 32) (h1 : 1 ≤ e.len)
    (n : NoLossCounter i e.blk e.word) : (s.raise h i e).fon h i e = true := by
  have two : 2 ≤ 2 ^ e.len := by
    calc 2 = 2 ^ 1 := rfl
      _ ≤ 2 ^ e.len := Nat.pow_le_pow_right (by omega) h1
  have put : (s.fput h i e 1).fget h i e = 1 := by
    rw [State.fget_fput_same _ _ _ _ _ he, Nat.mod_eq_of_lt (by omega)]
  unfold State.raise
  split
  · assumption
  · dsimp only
    split
    · rw [State.fon_eq]
      unfold State.fget at put ⊢
      rw [postEvent_rd _ _ _ _ _ n, put]; rfl
    · rw [State.fon_eq, put]; rfl

/-! ### Fields of words with different numbers -/

/-- Two fields stand in words of different numbers. -/
def Fld.offWord (g e : Fld) : Bool := decide (g.word < 2048) && decide (e.word < 2048) && g.word != e.word

/-- A field is in neither word that counts lost event words, by its word's number. -/
def Fld.offLoss (g : Fld) : Bool := decide (g.word < 2048) && g.word != FLU_OVF_CNT.word && g.word != GLB_EVT_LOST.word

/-- A field is in neither word that counts lost event words, by its block. -/
def Fld.offLossBlk (g : Fld) : Bool := decide (g.word < 2048) && decide (g.blk < 256) && g.blk != BLK_FLU && g.blk != BLK_GLB

theorem Fld.offLoss_no {g : Fld} (i : Nat) (c : g.offLoss = true) : NoLossCounter i g.blk g.word := by
  simp [Fld.offLoss] at c
  exact ⟨c.1.1, fun e => absurd e (by simpa using c.1.2), fun e => absurd e (by simpa using c.2)⟩

theorem Fld.offLossBlk_no {g : Fld} {i : Nat} (hi : i < 16) (c : g.offLossBlk = true) : NoLossCounter i g.blk g.word := by
  simp [Fld.offLossBlk] at c
  exact ⟨c.1.1.1, fun _ => ⟨hi, c.1.1.2, c.1.2⟩, fun _ => ⟨hi, c.1.1.2, c.2⟩⟩

theorem Fld.offWord_ne {g e : Fld} (c : g.offWord e = true) (h i h' i' : Nat) :
    rkey h' g.blk i' g.word ≠ rkey h e.blk i e.word := by
  simp [Fld.offWord] at c
  exact rkey_word_ne c.1.1 c.1.2 c.2

theorem State.fget_fput_off (h i h' i' : Nat) (f g : Fld) (v : Nat) (c : g.offWord f = true) :
    (s.fput h i f v).fget h' i' g = s.fget h' i' g := State.fget_fput_ne _ _ (Fld.offWord_ne c _ _ _ _)

theorem raise_fget_off (h i h' i' : Nat) (e g : Fld) (c : g.offWord e = true) (d : g.offLoss = true) :
    (s.raise h i e).fget h' i' g = s.fget h' i' g := raise_fget _ _ _ _ (Fld.offLoss_no _ d) (Fld.offWord_ne c _ _ _ _)

theorem raise_fget_offBlk (h i h' i' : Nat) (e g : Fld) (hi : i' < 16) (c : g.offWord e = true) (d : g.offLossBlk = true) :
    (s.raise h i e).fget h' i' g = s.fget h' i' g :=
  raise_fget _ _ _ _ (Fld.offLossBlk_no hi d) (Fld.offWord_ne c _ _ _ _)

theorem fwEvent_fget_off (h code h' i' : Nat) (g : Fld) (d : g.offLoss = true) :
    (fwEvent h code s).fget h' i' g = s.fget h' i' g := fwEvent_fget _ _ _ (Fld.offLoss_no _ d)

/-- Two one-bit event fields in one word of an instance of a block, whose words are no loss counters; they may be the same. -/
def Fld.sameEvents (g e : Fld) : Bool :=
  g.blk == e.blk && g.word == e.word && g.len == 1 && e.len == 1 && decide (g.lo < 32) && decide (e.lo < 32) && g.offLoss

/-- Raising an event leaves the bits of its word that are on. -/
theorem raise_keeps_on (h i : Nat) (g e : Fld) (_hi : i < 16) (_ : e.len = 1) (c : g.sameEvents e = true)
    (on : s.fon h i g = true) : (s.raise h i e).fon h i g = true := by
  simp [Fld.sameEvents] at c
  obtain ⟨⟨⟨⟨⟨⟨hb, hw⟩, lg⟩, le⟩, bg⟩, be⟩, off⟩ := c
  have put : (s.fput h i e 1).fon h i g = true := by
    by_cases q : g.lo = e.lo
    · have ge : g = e := by
        cases g; cases e; simp_all
      subst ge
      rw [State.fon_eq, State.fget_fput_same _ _ _ _ _ (by omega), lg]; rfl
    · rw [State.fon_eq, State.fget_fput_disj _ _ hb hw (by omega) (by omega), ← State.fon_eq, on]
  unfold State.raise
  split
  · exact on
  · dsimp only
    split
    · rw [State.fon_eq] at put ⊢
      unfold State.fget at put ⊢
      rw [postEvent_rd _ _ _ _ _ (Fld.offLoss_no _ off)]; exact put
    · exact put

end Sys2Proof.Machine
end

