-- ==== Sys2Proof/Laws/Flash.lean ====
section
/-! SUPPORT. Flash bytes read back as written, little-endian numbers, and the sizes of a CRC-32C and of a SHA-256. -/

namespace Sys2Proof.Machine

variable {s : State}

theorem State.fread_fwrite_same (a : Nat) (b : Byte) : (s.fwrite a b).fread a = b := tabGet_tabSet_same _ _ _ _

theorem State.fread_fwrite_ne {a c : Nat} (b : Byte) (n : c ≠ a) : (s.fwrite a b).fread c = s.fread c :=
  tabGet_tabSet_ne _ _ _ n

/-- A byte outside what is written is kept. -/
theorem State.fread_fwrites_off (bs : List Byte) {a c : Nat} (n : c < a ∨ a + bs.length ≤ c) (s : State) :
    (s.fwrites a bs).fread c = s.fread c := by
  induction bs generalizing a s with
  | nil => rfl
  | cons b bs ih =>
    simp only [List.length_cons] at n
    rw [State.fwrites, ih (by omega), State.fread_fwrite_ne _ (by omega)]

/-- A byte within reads as written. -/
theorem State.fread_fwrites_in (bs : List Byte) {a : Nat} (k : Nat) (h : k < bs.length) (s : State) :
    (s.fwrites a bs).fread (a + k) = bs[k] := by
  induction bs generalizing a k s with
  | nil => cases h
  | cons b bs ih =>
    rw [State.fwrites]
    cases k with
    | zero => rw [State.fread_fwrites_off _ (by omega), Nat.add_zero, State.fread_fwrite_same]; rfl
    | succ k =>
      have := ih (a := a + 1) k (by simpa using h) (s.fwrite a b)
      rw [show a + 1 + k = a + (k + 1) by omega] at this
      simpa using this

/-- Reading a part of what was written gives that part. -/
theorem State.freads_fwrites_part (bs : List Byte) (a i n : Nat) (h : i + n ≤ bs.length) (s : State) :
    (s.fwrites a bs).freads (a + i) n = slice bs i n := by
  apply List.ext_getElem
  · simp [State.freads, slice]; omega
  · intro k h1 h2
    simp only [State.freads, List.length_map, List.length_range] at h1
    simp only [State.freads, slice, List.getElem_map, List.getElem_range, List.getElem_take, List.getElem_drop]
    rw [Nat.add_assoc, State.fread_fwrites_in _ _ (by omega)]

/-- Reading all that was written gives it back. -/
theorem State.freads_fwrites_same (bs : List Byte) (a : Nat) (s : State) : (s.fwrites a bs).freads a bs.length = bs := by
  have := State.freads_fwrites_part bs a 0 bs.length (by omega) s
  simpa [slice] using this

/-- Reading elsewhere gives what stood there. -/
theorem State.freads_fwrites_off (bs : List Byte) (a c n : Nat) (h : c + n ≤ a ∨ a + bs.length ≤ c) (s : State) :
    (s.fwrites a bs).freads c n = s.freads c n := by
  apply List.map_congr_left
  intro k hk
  have := List.mem_range.mp hk
  exact State.fread_fwrites_off _ (by omega) _

theorem length_leBytes (n x : Nat) : (leBytes n x).length = n := by
  induction n generalizing x with
  | zero => rfl
  | succ n ih => simp [leBytes, ih]

/-- Bytes before offset `i` do not matter. -/
theorem leAt_drop (l : List Byte) (i n : Nat) : leAt l i n = leAt (l.drop i) 0 n := by
  induction n generalizing l i with
  | zero => rfl
  | succ n ih =>
    simp only [leAt]
    rw [ih l (i + 1), ih (l.drop i) (0 + 1), List.drop_drop]
    simp [byteAt]

/-- A number written in `n` bytes reads back. -/
theorem leAt_leBytes (n x : Nat) (r : List Byte) (h : x < 256 ^ n) : leAt (leBytes n x ++ r) 0 n = x := by
  induction n generalizing x with
  | zero => simp at h; subst h; rfl
  | succ n ih =>
    rw [leBytes, leAt, leAt_drop]
    simp only [List.cons_append, List.drop_succ_cons, List.drop_zero, Nat.zero_add]
    rw [ih _ (by rw [Nat.div_lt_iff_lt_mul (by decide)]; rwa [Nat.pow_succ] at h)]
    simp [byteAt]; omega

theorem crcByteR_lt {p c : Nat} (hp : p < 2 ^ 32) (hc : c < 2 ^ 32) (b : Byte) : crcByteR p c b < 2 ^ 32 := by
  have step : ∀ l : List Nat, ∀ c, c < 2 ^ 32 → l.foldl (fun c _ => crcBitR p c) c < 2 ^ 32 := by
    intro l
    induction l with
    | nil => exact fun _ h => h
    | cons _ l ih =>
      intro c hc
      refine ih _ ?_
      show crcBitR p c < 2 ^ 32
      unfold crcBitR
      split
      · exact Nat.xor_lt_two_pow (by omega) hp
      · omega
  exact step _ _ (Nat.xor_lt_two_pow hc (Nat.lt_of_lt_of_le b.isLt (by decide)))

/-- A CRC-32C has 32 bits. -/
theorem crc32c_lt (l : List Byte) : crc32c l < 2 ^ 32 := by
  have h : ∀ (l : List Byte) (c : Nat), c < 2 ^ 32 → l.foldl (crcByteR 0x82F63B78) c < 2 ^ 32 := by
    intro l
    induction l with
    | nil => exact fun _ h => h
    | cons b l ih => exact fun c hc => ih _ (crcByteR_lt (by decide) hc b)
  exact Nat.xor_lt_two_pow (h l _ (by decide)) (by decide)

theorem length_shaRound (v : List Nat) (k : Nat × Nat) : (shaRound v k).length = v.length := by
  unfold shaRound; split <;> simp_all

theorem length_shaBlocks (n : Nat) (h : List Nat) (m : List Byte) (e : h.length = 8) : (shaBlocks n h m).length = 8 := by
  induction n generalizing h m with
  | zero => exact e
  | succ n ih =>
    refine ih _ _ ?_
    have f : ∀ (l : List (Nat × Nat)) (v : List Nat), (l.foldl shaRound v).length = v.length := by
      intro l
      induction l with
      | nil => exact fun _ => rfl
      | cons k l ih => exact fun v => (ih _).trans (length_shaRound v k)
    simp [shaBlock, f, e]

/-- A SHA-256 has 32 bytes. -/
theorem length_sha256 (l : List Byte) : (sha256 l).length = 32 := by
  have h : ∀ w : List Nat, (w.flatMap (beBytes 4)).length = 4 * w.length := by
    intro w
    induction w with
    | nil => rfl
    | cons a w ih => simp [List.flatMap_cons, ih, beBytes, length_leBytes]; omega
  rw [sha256, h, length_shaBlocks _ _ _ rfl]

end Sys2Proof.Machine
end

