-- ==== Sys2Proof/Laws/Frames.lean ====
section
/-! SUPPORT. Frames over register words: how the frame of a composed operation follows from those of its parts. -/

namespace Sys2Proof.Machine

/-- A property that both branches have. -/
theorem keep_ite {P : State → Prop} {c : Prop} [Decidable c] {a b : State} (ha : P a) (hb : P b) : P (if c then a else b) := by
  split <;> assumption

theorem RegsAndFlues.fput {s t : State} (a : RegsAndFlues s t) (h i : Nat) (f : Fld) (v : Nat) : RegsAndFlues s (t.fput h i f v) :=
  a.trans (fput_shape _ _ _ _ _)

theorem RegsAndFlues.raise {s t : State} (a : RegsAndFlues s t) (h i : Nat) (e : Fld) : RegsAndFlues s (t.raise h i e) :=
  a.trans (raise_shape _ _ _ _)

variable {s t u : State} {ws : List (Nat × Nat × Nat × Nat)}

theorem WordsBut.refl : WordsBut ws s s := fun _ _ _ _ _ _ _ _ _ => rfl

theorem WordsBut.trans (a : WordsBut ws s t) (b : WordsBut ws t u) : WordsBut ws s u :=
  fun h i k w hi hb hw n m => (b h i k w hi hb hw n m).trans (a h i k w hi hb hw n m)

theorem WordsBut.mono {vs : List (Nat × Nat × Nat × Nat)} (a : WordsBut ws s t) (sub : ∀ x ∈ ws, x ∈ vs) : WordsBut vs s t :=
  fun h i k w hi hb hw n m => a h i k w hi hb hw (fun e => n (sub _ e)) m

/-- A write of a listed word, wherever it stands. -/
theorem WordsBut.wr {h i b w : Nat} (v : Word) (a : WordsBut ws s t) (hi : i < 16) (hb : b < 256) (hw : w < 2048)
    (l : (h, i, b, w) ∈ ws) : WordsBut ws s (t.wr h i b w v) := by
  intro h' i' b' w' hi' hb' hw' n m
  rw [State.rd_wr_ne _ _ (rkey_ne hi' hw' hb' hi hw hb _), a h' i' b' w' hi' hb' hw' n m]
  rintro ⟨rfl, rfl, rfl, rfl⟩
  exact n l

theorem WordsBut.fput {h i : Nat} {f : Fld} (v : Nat) (a : WordsBut ws s t) (hi : i < 16) (hb : f.blk < 256) (hw : f.word < 2048)
    (l : (h, i, f.blk, f.word) ∈ ws) : WordsBut ws s (t.fput h i f v) := WordsBut.wr _ a hi hb hw l

/-- A word that is not a loss counter. -/
theorem noLoss_of {i b w : Nat} (hi : i < 16) (hb : b < 256) (hw : w < 2048) (m : ¬ lossWord b w) : NoLossCounter i b w :=
  ⟨hw, fun e => ⟨hi, hb, fun k => m (.inl ⟨k, e⟩)⟩, fun e => ⟨hi, hb, fun k => m (.inr ⟨k, e⟩)⟩⟩

theorem WordsBut.raise {h i : Nat} {e : Fld} (a : WordsBut ws s t) (hi : i < 16) (hb : e.blk < 256) (hw : e.word < 2048)
    (l : (h, i, e.blk, e.word) ∈ ws) : WordsBut ws s (t.raise h i e) := by
  intro h' i' b' w' hi' hb' hw' n m
  rw [raise_rd _ _ _ _ (noLoss_of hi' hb' hw' m) (rkey_ne hi' hw' hb' hi hw hb _), a h' i' b' w' hi' hb' hw' n m]
  rintro ⟨rfl, rfl, rfl, rfl⟩
  exact n l

theorem WordsBut.fwEvent {h code : Nat} (a : WordsBut ws s t) : WordsBut ws s (fwEvent h code t) := by
  intro h' i' b' w' hi' hb' hw' n m
  rw [fwEvent_rd _ _ _ (noLoss_of hi' hb' hw' m), a h' i' b' w' hi' hb' hw' n m]

/-- An update that leaves the register table alone. -/
theorem WordsBut.same_regs (a : WordsBut ws s t) (e : u.regs = t.regs) : WordsBut ws s u := by
  intro h' i' b' w' hi' hb' hw' n m
  rw [← a h' i' b' w' hi' hb' hw' n m]
  unfold State.rd
  rw [e]

end Sys2Proof.Machine
end

