-- ==== Sys2Proof/Laws/Lane.lean ====
section
/-! SUPPORT. The lane's shared operations: entering a state, starting an acquisition again. -/

namespace Sys2Proof.Machine

variable (s : State)

theorem lanesRefresh_shape (h : Nat) : RegsAndFlues s (lanesRefresh h s) := by
  have one : ∀ (i : Nat) (s : State), RegsAndFlues s
      (if sessLive s h i then
        let old := s.fget h i GOR_STATUS_LANES
        let new := sessionLanes s h i
        let s1 := s.fput h i GOR_STATUS_LANES new
        if s.fon h i GOR_STATUS_BONDED && (old &&& new) != old then s1.raise h i GOR_EVENT_LANE_LOST else s1
      else s) := by
    intro i s
    dsimp only
    split
    · split
      · exact (fput_shape _ _ _ _ _).trans (raise_shape _ _ _ _)
      · exact fput_shape _ _ _ _ _
    · exact .refl s
  exact (one 0 s).trans (one 1 _)

theorem lanesRefresh_words (h : Nat) : WordsBut (lanesWords h) s (lanesRefresh h s) := by
  have one : ∀ (i : Nat) (s : State), i = 0 ∨ i = 1 → WordsBut (lanesWords h) s
      (if sessLive s h i then
        let old := s.fget h i GOR_STATUS_LANES
        let new := sessionLanes s h i
        let s1 := s.fput h i GOR_STATUS_LANES new
        if s.fon h i GOR_STATUS_BONDED && (old &&& new) != old then s1.raise h i GOR_EVENT_LANE_LOST else s1
      else s) := by
    intro i s hi
    have a : (h, i, GOR_STATUS_LANES.blk, GOR_STATUS_LANES.word) ∈ lanesWords h := by
      rcases hi with rfl | rfl <;> simp [lanesWords]
    have b : (h, i, GOR_EVENT_LANE_LOST.blk, GOR_EVENT_LANE_LOST.word) ∈ lanesWords h := by
      rcases hi with rfl | rfl <;> simp [lanesWords]
    have c : i < 16 := by omega
    dsimp only
    split
    · split
      · exact (WordsBut.refl.fput _ c (by decide) (by decide) a).raise c (by decide) (by decide) b
      · exact WordsBut.refl.fput _ c (by decide) (by decide) a
    · exact .refl
  exact (one 0 s (.inl rfl)).trans (one 1 _ (.inr rfl))

/-- What every part of entering a state keeps, entering a state keeps. -/
theorem laneGo_keeps {P : State → Prop} (h l st : Nat) (h0 : P (s.fput h l LANE_STATUS_STATE st))
    (hr : ∀ t, ∀ e ∈ [LANE_EVENT_DOWN, LANE_EVENT_UP, LANE_EVENT_TIMEOUT], P t → P (t.raise h l e))
    (hl : ∀ t, P t → P (lanesRefresh h t)) : P (laneGo h l st s) := by
  unfold laneGo
  extract_lets old s1 s2 s3 s4
  have a2 : P s2 := keep_ite (hr _ _ (by simp) h0) h0
  have a3 : P s3 := keep_ite (hr _ _ (by simp) a2) a2
  have a4 : P s4 := keep_ite (hr _ _ (by simp) a3) a3
  exact keep_ite (hl _ a4) a4

/-- Entering a state touches registers and Flue queues only. -/
theorem laneGo_shape (h l st : Nat) : RegsAndFlues s (laneGo h l st s) :=
  laneGo_keeps s h l st (fput_shape _ _ _ _ _) (fun _ _ _ a => a.raise _ _ _) (fun _ a => a.trans (lanesRefresh_shape _ _))

/-- The words entering a state may write. -/
theorem laneGo_words (h l st : Nat) (hl : l < 16) : WordsBut (laneGoWords h l) s (laneGo h l st s) := by
  refine laneGo_keeps s h l st (WordsBut.refl.fput _ hl (by decide) (by decide) (by simp [laneGoWords])) ?_
    (fun _ a => a.trans ((lanesRefresh_words _ _).mono (fun _ m => List.mem_append_right _ m)))
  intro t e he a
  have k : e.blk = 4 ∧ e.word = 2 := by
    simp at he
    rcases he with rfl | rfl | rfl <;> exact ⟨rfl, rfl⟩
  exact a.raise hl (by omega) (by omega) (by rw [k.1, k.2]; simp [laneGoWords])

/-- Fields of LANE_STATUS after entering a state: STATE is the state, the others stand. -/
theorem laneGo_status (h l st : Nat) (hl : l < 16) {g : Fld} (hb : g.blk = LANE_STATUS_STATE.blk)
    (hw : g.word = LANE_STATUS_STATE.word) : (laneGo h l st s).fget h l g = (s.fput h l LANE_STATUS_STATE st).fget h l g := by
  refine laneGo_keeps (P := fun t => t.fget h l g = (s.fput h l LANE_STATUS_STATE st).fget h l g) s h l st rfl ?_ ?_
  · intro t e he a
    have k : e.blk = 4 ∧ e.word = 2 := by
      simp at he
      rcases he with rfl | rfl | rfl <;> exact ⟨rfl, rfl⟩
    rw [raise_fget _ _ _ _ ?_ ?_, a]
    · rw [hb, hw]
      exact ⟨by decide, fun e => absurd e (by decide), fun e => absurd e (by decide)⟩
    · rw [k.1, k.2, hb, hw]
      exact rkey_word_ne (by decide) (by decide) (by decide)
  · intro t a
    rw [← a]
    unfold State.fget
    rw [lanesRefresh_words t h h l g.blk g.word hl (by rw [hb]; decide) (by rw [hw]; decide) ?_ ?_]
    · rw [hb, hw]
      simp [lanesWords]
    · rw [hb, hw]
      simp [lossWord]

/-- An event bit of the lane that is on stays on. -/
theorem lanesRefresh_event (h l : Nat) (hl : l < 16) {g : Fld} (hb : g.blk = LANE_EVENT_UP.blk)
    (hw : g.word = LANE_EVENT_UP.word) : (lanesRefresh h s).fon h l g = s.fon h l g := by
  rw [State.fon_eq, State.fon_eq]
  unfold State.fget
  rw [lanesRefresh_words s h h l g.blk g.word hl (by rw [hb]; decide) (by rw [hw]; decide) ?_ ?_]
  · rw [hb, hw]
    simp [lanesWords]
  · rw [hb, hw]
    simp [lossWord]

/-- Entering a state from another raises the event of the change (R26). -/
theorem laneGo_event (h l st : Nat) (hl : l < 16) :
    (laneSt s h l = 5 → st ≠ 5 → (laneGo h l st s).fon h l LANE_EVENT_DOWN = true) ∧
    (st = 5 → laneSt s h l ≠ 5 → (laneGo h l st s).fon h l LANE_EVENT_UP = true) ∧
    (st = 7 → (laneGo h l st s).fon h l LANE_EVENT_TIMEOUT = true) := by
  unfold laneGo
  extract_lets old s1 s2 s3 s4
  have up : ∀ t : State, ∀ e, e.blk = LANE_EVENT_UP.blk → e.word = LANE_EVENT_UP.word → t.fon h l e = true →
      (if isGorge l = true then lanesRefresh h t else t).fon h l e = true := by
    intro t e hb hw on
    split
    · rw [lanesRefresh_event _ _ _ hl hb hw, on]
    · exact on
  have keep : ∀ t : State, ∀ g e : Fld, e ∈ [LANE_EVENT_DOWN, LANE_EVENT_UP, LANE_EVENT_TIMEOUT] → g ∈ [LANE_EVENT_DOWN, LANE_EVENT_UP, LANE_EVENT_TIMEOUT] →
      t.fon h l g = true → (t.raise h l e).fon h l g = true := by
    intro t g e me mg on
    exact raise_keeps_on _ _ _ _ _ hl (by simp at me; rcases me with rfl | rfl | rfl <;> decide)
      (by simp at me mg; rcases me with rfl | rfl | rfl <;> rcases mg with rfl | rfl | rfl <;> decide) on
  refine ⟨fun a b => ?_, fun a b => ?_, fun a => ?_⟩
  · refine up _ _ rfl rfl ?_
    have h2 : s2.fon h l LANE_EVENT_DOWN = true := by
      simp only [s2, old, a, b, ne_eq, not_false_eq_true, and_self, if_true]
      exact raise_sets _ _ _ _ (by decide) (by decide) (Fld.offLoss_no _ (by decide))
    have h3 : s3.fon h l LANE_EVENT_DOWN = true := keep_ite (P := fun t => t.fon h l LANE_EVENT_DOWN = true) (keep _ _ _ (by simp) (by simp) h2) h2
    exact keep_ite (P := fun t => t.fon h l LANE_EVENT_DOWN = true) (keep _ _ _ (by simp) (by simp) h3) h3
  · refine up _ _ rfl rfl ?_
    have h3 : s3.fon h l LANE_EVENT_UP = true := by
      simp only [s3, old, a, b, ne_eq, not_false_eq_true, and_self, if_true]
      exact raise_sets _ _ _ _ (by decide) (by decide) (Fld.offLoss_no _ (by decide))
    exact keep_ite (P := fun t => t.fon h l LANE_EVENT_UP = true) (keep _ _ _ (by simp) (by simp) h3) h3
  · refine up _ _ rfl rfl ?_
    simp only [s4, a, if_true]
    exact raise_sets _ _ _ _ (by decide) (by decide) (Fld.offLoss_no _ (by decide))

/-- Entering a state stays within the lane. -/
theorem LaneOnly.go (s : State) (h l st : Nat) (hl : l < 16) : LaneOnly h l s (laneGo h l st s) := by
  have e := laneGo_shape s h l st
  refine ⟨?_, ?_, laneGo_words s h l st hl⟩
  · unfold RegsAndFlues at e
    rw [e]
  · intro h' l' _ _
    rw [e]; rfl

theorem LaneOnly.trans {h l : Nat} {s t u : State} (a : LaneOnly h l s t) (b : LaneOnly h l t u) : LaneOnly h l s u := by
  refine ⟨?_, fun h' l' x y => (b.2.1 h' l' x y).trans (a.2.1 h' l' x y), a.2.2.trans b.2.2⟩
  rw [b.1, a.1]

/-- A write of a field of LANE_STATUS stays within the lane. -/
theorem LaneOnly.status {h l : Nat} {s : State} (hl : l < 16) (f : Fld) (v : Nat) (hb : f.blk = 4) (hw : f.word = 1) : LaneOnly h l s (s.fput h l f v) :=
  ⟨rfl, fun _ _ _ _ => rfl, WordsBut.refl.fput _ hl (by omega) (by omega) (by simp [laneGoWords, hb, hw])⟩

theorem LaneOnly.setLane {h l : Nat} {s : State} (hl : l < 16) (x : LaneX) : LaneOnly h l s (s.setLane h l x) :=
  ⟨rfl, fun h' l' a b => by
    unfold State.setLane State.lane
    exact tabGet_tabSet_ne _ _ _ (by simp at b; omega), WordsBut.refl.same_regs rfl⟩

end Sys2Proof.Machine
end

