-- ==== Sys2Proof/Laws/Settle.lean ====
section
/-! SUPPORT. What follows every command: the shape of every answer of `exec`, and what settling does to a resting state. -/

namespace Sys2Proof.Machine

/-- Every command answers the settled state its effect leads to, or stops with a fault. -/
theorem exec_settled (i : Instr) (s : State) : (∃ t, exec i s = .next (settle t)) ∨ ∃ f, exec i s = .fault f := by
  cases i
  case encodeRequest =>
    simp only [exec, execEncodeRequest]
    split
    · exact .inl ⟨_, rfl⟩
    · split
      · exact .inr ⟨_, rfl⟩
      · split
        · exact .inr ⟨_, rfl⟩
        · exact .inl ⟨_, rfl⟩
  all_goals exact .inl ⟨_, rfl⟩

theorem gatesInForce_lt (s : State) : gatesInForce s < 256 :=
  Nat.lt_of_le_of_lt Nat.and_le_left (State.fget_lt s 0 0 FND_CTRL_EN)

/-- The junior lead's half with no deferred command: nothing happens. -/
theorem inJunior_settleOps_rest {s : State} (d : s.junior.on = true → s.junior.dops = []) : inJunior settleOps s = s := by
  unfold inJunior
  cases j : s.junior.on
  · rfl
  · have e : settleOps { s with crown := juniorLead s, mode := 3, mbxs := s.junior.mbxs, dops := s.junior.dops }
        = { s with crown := juniorLead s, mode := 3, mbxs := s.junior.mbxs, dops := s.junior.dops } := by
      unfold settleOps
      rw [d j]
      rfl
    simp only [Bool.not_true, Bool.false_eq_true, if_false]
    rw [e]

/-- Settling a resting state only shows the gates. -/
theorem settle_of_rests {s : State} (r : Rests s) : settle s = gateShow s := by
  obtain ⟨a, g, f, b, c, d⟩ := r
  have e1 : aloneMotion s = s := by simp [aloneMotion, a]
  have e2 : settleOps s = s := by
    unfold settleOps
    rw [c]
    rfl
  unfold settle
  rw [e1, g, f, b]
  show gateShow (inJunior settleOps (settleOps s)) = _
  rw [e2, inJunior_settleOps_rest d]

end Sys2Proof.Machine
end

