-- ==== Sys2Proof/Laws/StartUp.lean ====
section
/-! SUPPORT. What loading the images keeps, where the configuration image lists no registers (R334, R390): the boot record, both
flashes, the power state, field update's record and the clock. -/

namespace Sys2Proof.Machine

/-- What a boot's register and calibration work does not touch. -/
def KeepsBoot (s t : State) : Prop :=
  t.boot = s.boot ∧ t.flash = s.flash ∧ t.flash2 = s.flash2 ∧ t.up = s.up ∧ t.upSince = s.upSince ∧ t.upd = s.upd ∧ t.now = s.now

variable {s t u : State}

theorem KeepsBoot.refl : KeepsBoot s s := ⟨rfl, rfl, rfl, rfl, rfl, rfl, rfl⟩

theorem KeepsBoot.trans (a : KeepsBoot s t) (b : KeepsBoot t u) : KeepsBoot s u := by
  unfold KeepsBoot at *; simp_all

theorem KeepsBoot.each {α : Type} {f : α → State → State} (h : ∀ x t, KeepsBoot t (f x t)) (l : List α) (s : State) :
    KeepsBoot s (forEach l f s) := by
  induction l generalizing s with
  | nil => exact .refl
  | cons x l ih => exact (h x s).trans (ih _)

theorem KeepsBoot.ite {c : Prop} [Decidable c] (a : KeepsBoot s t) (b : KeepsBoot s u) : KeepsBoot s (if c then t else u) := by
  split
  · exact a
  · exact b

theorem KeepsBoot.fput (a : KeepsBoot s t) (h i : Nat) (f : Fld) (v : Nat) : KeepsBoot s (t.fput h i f v) := a
theorem KeepsBoot.setCal (a : KeepsBoot s t) (h : Nat) (x : CalX) : KeepsBoot s (t.setCal h x) := a
theorem KeepsBoot.setCam (a : KeepsBoot s t) (h i : Nat) (x : CamX) : KeepsBoot s (t.setCam h i x) := a
theorem KeepsBoot.setStg (a : KeepsBoot s t) (h i b w : Nat) (v : Word) : KeepsBoot s (t.setStg h i b w v) := a
theorem KeepsBoot.setTer (a : KeepsBoot s t) (h : Nat) (x : TerX) : KeepsBoot s (t.setTer h x) := a

theorem KeepsBoot.raise (a : KeepsBoot s t) (h i : Nat) (e : Fld) : KeepsBoot s (t.raise h i e) := by
  unfold KeepsBoot at *
  simpa using a

theorem keepsBoot_calForce (h kind : Nat) (v : List Int) : KeepsBoot s (calForce h kind v s) := by
  unfold calForce
  dsimp only
  refine KeepsBoot.ite (KeepsBoot.ite ?_ ?_) (KeepsBoot.ite ?_ ?_)
  · exact .setCal (.setCal .refl _ _) _ _
  · exact .setCal (.setCal .refl _ _) _ _
  · exact .setCam (.setCam (.setCal .refl _ _) _ _ _) _ _ _
  · exact .setCal .refl _ _

theorem keepsBoot_stageWidths (h p : Nat) : KeepsBoot s (stageWidths h p s) := by
  unfold stageWidths
  dsimp only
  split
  · exact .refl
  · exact .each (fun _ _ => .setStg .refl _ _ _ _ _) _ _

theorem keepsBoot_privArmAt (h line : Nat) : KeepsBoot s (privArmAt h line s) := by
  unfold privArmAt
  dsimp only
  refine KeepsBoot.ite (KeepsBoot.raise ?_ _ _ _) ?_
  · exact .setTer (.fput (.fput .refl _ _ _ _) _ _ _ _) _ _
  · exact .setTer (.fput (.fput .refl _ _ _ _) _ _ _ _) _ _

theorem keepsBoot_armWidths (h : Nat) : KeepsBoot s (armWidths h s) := by
  have a := KeepsBoot.each (fun p _ => keepsBoot_stageWidths h p) (List.range 12) s
  unfold armWidths
  dsimp only
  generalize forEach (List.range 12) (stageWidths h) s = t at a
  exact .ite (.setCal a _ _) (.setCal (a.trans (keepsBoot_privArmAt h _)) _ _)

theorem keepsBoot_calApply (h kind : Nat) : KeepsBoot s (calApply h kind s) := by
  unfold calApply
  dsimp only
  exact .ite .refl (.ite (keepsBoot_armWidths h) (keepsBoot_calForce _ _ _))

theorem keepsBoot_calLoad (h : Nat) : KeepsBoot s (calLoad h s) := by
  unfold calLoad
  dsimp only
  exact KeepsBoot.trans (KeepsBoot.setCal .refl _ _)
    (KeepsBoot.each (fun k t => KeepsBoot.trans (KeepsBoot.fput .refl _ _ _ _) (keepsBoot_calApply h k)) _ _)

/-- A hearth that starts, where the configuration image lists no registers. -/
theorem keepsBoot_bootHearth {s : State} (h : Nat) (no : ∀ t : State, t.flash = s.flash → imagePairs t = []) :
    KeepsBoot s (bootHearth h s) := by
  have w (ok : RegAddr → Bool) (on : Nat → Bool) (t : State) (e : t.flash = s.flash) : imageWrite ok on t = t := by
    rw [imageWrite, no t e, forEach, List.foldl_nil]
  have f : (s.fput h 0 DRM_STATUS_STATE 1).flash = s.flash := rfl
  unfold bootHearth
  dsimp only
  rw [w _ _ s rfl, w _ _ _ f]
  exact KeepsBoot.trans (KeepsBoot.fput .refl _ _ _ _) (keepsBoot_calLoad h)

theorem keepsBoot_hearths (hs : List Nat) (s : State) (no : ∀ t : State, t.flash = s.flash → imagePairs t = []) :
    KeepsBoot s (forEach hs bootHearth s) := by
  induction hs generalizing s with
  | nil => exact .refl
  | cons h hs ih =>
    have k := keepsBoot_bootHearth h no
    have f : forEach (h :: hs) bootHearth s = forEach hs bootHearth (bootHearth h s) := by simp only [forEach, List.foldl_cons]
    rw [f]
    generalize bootHearth h s = u at k
    exact k.trans (ih u fun t e => no t (e.trans k.2.1))

theorem KeepsBoot.fwEvent (a : KeepsBoot s t) (h c : Nat) : KeepsBoot s (fwEvent h c t) := by
  unfold KeepsBoot at *
  simpa using a

theorem KeepsBoot.wr (a : KeepsBoot s t) (h i b w : Nat) (v : Word) : KeepsBoot s (t.wr h i b w v) := a

theorem keepsBoot_jourShow (a : KeepsBoot s t) : KeepsBoot s (jourShow t) := by
  unfold jourShow
  exact a.wr _ _ _ _ _

/-- Without a failed boot component there is nothing to recover. -/
theorem bootReady_eq {s : State} (b : (bootSlot s 0).2.2 = true) : bootReady s = s := by rw [bootReady, if_pos b]

theorem bootLoad_eq (hs : List Nat) {s : State} (f : bit s.boot.flash 0 = true) (b : (bootSlot s 0).2.2 = true) :
    bootLoad hs s = bootImages hs s := by rw [bootLoad, if_pos f, bootReady_eq b]

/-- Where the flash does not answer, boot is stuck. -/
theorem bootLoad_silent (hs : List Nat) {s : State} (f : bit s.boot.flash 0 = false) :
    bootLoad hs s = { s with boot := { s.boot with wait := false, stuck := true } } := by
  rw [bootLoad, if_neg (by simp [f]), bootImages, if_pos (by simp [f])]

/-- Loading where the device's flash answers and component 0 has an image: what it sets of the boot record and the power state. -/
theorem bootLoad_shape (hs : List Nat) (s : State) (f : bit s.boot.flash 0 = true) (b : (bootSlot s 0).2.2 = true)
    (no : ∀ t : State, t.flash = s.flash → imagePairs t = []) :
    KeepsBoot { s with
      boot := { s.boot with wait := false }, up := true, upSince := s.now, mode := 0
      upd := { s.upd with running := (((List.range 5).map (bootSlot s)).zipIdx.map fun (e, i) => e.1 * 2 ^ i).sum } } (bootLoad hs s) := by
  rw [bootLoad_eq hs f b]
  unfold bootImages
  rw [if_neg (by simp [f, b])]
  dsimp only
  generalize hu : ({ s with
      boot := { s.boot with wait := false }, up := true, upSince := s.now, mode := 0
      upd := { s.upd with running := (((List.range 5).map (bootSlot s)).zipIdx.map fun (e, i) => e.1 * 2 ^ i).sum } } : State) = u
  have fu : u.flash = s.flash := by rw [← hu]
  generalize below 5 _ = fell
  have a1 : KeepsBoot u (vput SVC_BOOT_FELL ((fell.map fun i => 2 ^ i).sum) (bootShow u)) := KeepsBoot.fput (KeepsBoot.fput .refl _ _ _ _) _ _ _ _
  generalize vput SVC_BOOT_FELL ((fell.map fun i => 2 ^ i).sum) (bootShow u) = t1 at a1 ⊢
  have a2 : KeepsBoot u (if fell = [] then t1 else t1.raise 0 0 SVC_EVENT_FALLBACK) := .ite a1 (a1.raise _ _ _)
  generalize (if fell = [] then t1 else t1.raise 0 0 SVC_EVENT_FALLBACK) = t2 at a2 ⊢
  have a3 : KeepsBoot u (mbxServe t2) := a2.trans (KeepsBoot.each (fun _ _ => KeepsBoot.fput .refl _ _ _ _) _ _)
  generalize mbxServe t2 = t3 at a3 ⊢
  have a4 : KeepsBoot u (forEach fell (fun _ => Sys2Proof.Machine.fwEvent t3.crown 0x8E02) t3) :=
    a3.trans (KeepsBoot.each (fun _ _ => KeepsBoot.fwEvent .refl _ _) _ _)
  generalize forEach fell (fun _ => Sys2Proof.Machine.fwEvent t3.crown 0x8E02) t3 = t4 at a4 ⊢
  have a5 : KeepsBoot u (forEach hs bootHearth t4) := a4.trans (keepsBoot_hearths hs t4 fun t e => no t (e.trans (a4.2.1.trans fu)))
  generalize forEach hs bootHearth t4 = t5 at a5 ⊢
  have a6 := keepsBoot_jourShow a5
  split
  · exact KeepsBoot.ite (KeepsBoot.fput a6 _ _ _ _) a6
  · exact a5

end Sys2Proof.Machine
end

