-- ==== Sys2Proof/WellFormed.lean ====
section
/-! DEFINITION. Well-formed commands: every operand within the range the device has for it. A command that is not
well-formed names a unit no part of the family has, or carries a number its field cannot hold. -/

namespace Sys2Proof

/-- A number below a bound. -/
def inRange (n x : Nat) : Bool := decide (x < n)

/-- A mailbox channel: 0 to 3 of the crown, 8 to 11 of the junior lead. -/
def channelNo (ch : Nat) : Bool := decide (ch < 4) || (decide (8 ≤ ch) && decide (ch < 12))

/-- A mailbox entry's fields hold what R274 gives them room for. -/
def Cmd.wf (c : Cmd) : Bool :=
  channelNo c.ch && inRange 256 c.tag && inRange 256 c.gen && inRange 256 c.flags && inRange 65536 c.len && decide (c.payload.length ≤ 56)

/-- A request of one of the 22 requesters, 1 to 9 flits long (R245, R249), of 1 to 4 slots of 64 bytes. -/
def Request.wf (p : Request) : Bool :=
  inRange 22 p.req && inRange 8 p.dst && p.mem.all (inRange (2 ^ 40)) && decide (1 ≤ p.flits ∧ p.flits ≤ 9 ∧ 1 ≤ p.slots ∧ p.slots ≤ 4)

/-- A block carries 32 bytes; a code group is a data octet or a control code. -/
def unitOk : LaneUnit → Bool
  | .block _ payload => payload.length == 32
  | .group prev kb => inRange 512 prev && inRange 512 kb

/-- A command's operands are in range. -/
def Instr.wf (i : Instr) : Bool :=
  match i with
  | .registerWrite addr _ => inRange (2 ^ 32) addr
  | .rcRead addr => inRange (2 ^ 32) addr
  | .loHalfRead addr => inRange (2 ^ 32) addr
  | .eventEnableWrite addr _ => inRange (2 ^ 32) addr
  | .laneEnWrite h l _ => inRange 8 h && inRange 6 l
  | .signalDetected h l => inRange 8 h && inRange 6 l
  | .cdrLocked h l => inRange 8 h && inRange 6 l
  | .fomPeriod h l _ => inRange 8 h && inRange 6 l
  | .lowFomDegraded h l => inRange 8 h && inRange 6 l
  | .recentreDone h l => inRange 8 h && inRange 6 l
  | .adaptUnitReceived h l u => inRange 8 h && inRange 6 l && unitOk u
  | .codewordReceived h l levels => inRange 8 h && inRange 6 l && levels.all (inRange 4)
  | .alignmentCodewordReceived h l levels => inRange 8 h && inRange 6 l && levels.all (inRange 4)
  | .alignmentCodewordSent h l => inRange 8 h && inRange 6 l
  | .codeGroupReceived h l group => inRange 8 h && inRange 6 l && inRange 1024 group
  | .saddleSyncAcquired h l => inRange 8 h && inRange 6 l
  | .autonegComplete h l _ => inRange 8 h && inRange 6 l
  | .autonegRestart h l => inRange 8 h && inRange 6 l
  | .signalLost h l => inRange 8 h && inRange 6 l
  | .cdrLockLost h l => inRange 8 h && inRange 6 l
  | .alignmentLost h l => inRange 8 h && inRange 6 l
  | .saddleSyncLost h l => inRange 8 h && inRange 6 l
  | .bringupTimeout h l => inRange 8 h && inRange 6 l
  | .failRetry h l => inRange 8 h && inRange 6 l
  | .prbsEnableWrite h l _ => inRange 8 h && inRange 6 l
  | .prbsCheckerLock h l line => inRange 8 h && inRange 6 l && line.all (inRange 4)
  | .prbsLockLost h l line => inRange 8 h && inRange 6 l && line.all (inRange 4)
  | .chkReseed h l => inRange 8 h && inRange 6 l
  | .injOne h l => inRange 8 h && inRange 6 l
  | .injRateInjection h l => inRange 8 h && inRange 6 l
  | .loopbackChange h l _ => inRange 8 h && inRange 6 l
  | .gorgeBadFrame h i _ _ _ => inRange 8 h && inRange 2 i
  | .helloReceived h i _ => inRange 8 h && inRange 2 i
  | .helloAckReceived h i _ => inRange 8 h && inRange 2 i
  | .helloResend h => inRange 8 h
  | .sequencedFrameReceived h i _ => inRange 8 h && inRange 2 i
  | .ackReceived h i _ => inRange 8 h && inRange 2 i
  | .nakReceived h i _ => inRange 8 h && inRange 2 i
  | .creditReceived h i _ => inRange 8 h && inRange 2 i
  | .keepaliveReceived h i _ => inRange 8 h && inRange 2 i
  | .byeAbortReceived h i _ => inRange 8 h && inRange 2 i
  | .errorFrameReceived h i _ => inRange 8 h && inRange 2 i
  | .gorgeProtocolError h i _ => inRange 8 h && inRange 2 i
  | .ackDelayExpiry h i => inRange 8 h && inRange 2 i
  | .creditStep h i => inRange 8 h && inRange 2 i
  | .keepaliveInterval h i => inRange 8 h && inRange 2 i
  | .peerDead h i => inRange 8 h && inRange 2 i
  | .retxTimeout h => inRange 8 h
  | .gorgeEnWrite h i _ => inRange 8 h && inRange 2 i
  | .gorgeDrainTimeout h i => inRange 8 h && inRange 2 i
  | .gorgeForceOff h i => inRange 8 h && inRange 2 i
  | .basinEnWrite h _ => inRange 8 h
  | .pageOpenResumed h => inRange 8 h
  | .pageRetire h page => inRange 8 h && inRange (2 ^ 32) page
  | .pageRelease h page => inRange 8 h && inRange (2 ^ 32) page
  | .decodeJobStart h d => inRange 8 h && inRange 3 d
  | .decodeJobDone h d => inRange 8 h && inRange 3 d
  | .decodeJobFail h d => inRange 8 h && inRange 3 d
  | .encodeRequest h _ _ _ _ _ => inRange 8 h
  | .encodeDone h => inRange 8 h
  | .cinderEnWrite h d _ => inRange 8 h && inRange 3 d
  | .cinderDrainTimeout h d => inRange 8 h && inRange 3 d
  | .cinderForceOff h d => inRange 8 h && inRange 3 d
  | .terEnWrite h _ => inRange 8 h
  | .lineTrigger h => inRange 8 h
  | .strobeEnd h p m => inRange 8 h && inRange 12 p && inRange 4 m
  | .shiftDone h p _ => inRange 8 h && inRange 12 p
  | .vheadSample h p code => inRange 8 h && inRange 12 p && inRange 4096 code
  | .tempSample h p code => inRange 8 h && inRange 12 p && inRange 4096 code
  | .tblArm h => inRange 8 h
  | .tableCopyDone h => inRange 8 h
  | .grtTblDataAccess h _ => inRange 8 h
  | .grtEnWrite h _ => inRange 8 h
  | .privArm h => inRange 8 h
  | .ashUpdPush h column => inRange 8 h && inRange (2 ^ 32) column
  | .ashCtrlFlush h => inRange 8 h
  | .terDrainTimeout h => inRange 8 h
  | .terForceOff h => inRange 8 h
  | .headPresent h p => inRange 8 h && inRange 12 p
  | .fbxPwrWrite h p _ => inRange 8 h && inRange 12 p
  | .headSettled h p sns idCode => inRange 8 h && inRange 12 p && inRange 4096 sns && inRange 4096 idCode
  | .fbxEnWrite h p _ => inRange 8 h && inRange 12 p
  | .fbxForceOff h p => inRange 8 h && inRange 12 p
  | .headRemoved h p => inRange 8 h && inRange 12 p
  | .cmapApply h p => inRange 8 h && inRange 12 p
  | .cmapCheck h => inRange 8 h
  | .fbxHeadWrite h p _ => inRange 8 h && inRange 12 p
  | .damperBinEnd h => inRange 8 h
  | .fenderAssert gate => inRange 8 gate
  | .fenderRelease gate => inRange 8 gate
  | .fenderLatchClear _ => true
  | .fndEnWrite _ => true
  | .drtLoopUpdate h => inRange 8 h
  | .drtEnWrite h _ => inRange 8 h
  | .startArm h => inRange 8 h
  | .startReached h => inRange 8 h
  | .drtReverse h => inRange 8 h
  | .drtResumed h => inRange 8 h
  | .drtResume h => inRange 8 h
  | .csiPacketReceived h c _ => inRange 8 h && inRange 2 c
  | .frameTimeout h c => inRange 8 h && inRange 2 c
  | .cameraLinkDown h c => inRange 8 h && inRange 2 c
  | .cameraTrigger h c => inRange 8 h && inRange 2 c
  | .pipelineLineTaken h => inRange 8 h
  | .verdictReceived h _ => inRange 8 h
  | .watermarkReceived h _ => inRange 8 h
  | .inspectionCloseTimeout h page => inRange 8 h && inRange (2 ^ 32) page
  | .i2cTransferDone h c result _ => inRange 8 h && inRange 2 c && inRange 256 result
  | .camEnWrite h c _ => inRange 8 h && inRange 2 c
  | .camDrainTimeout h c => inRange 8 h && inRange 2 c
  | .camForceOff h c => inRange 8 h && inRange 2 c
  | .ispEnWrite h _ => inRange 8 h
  | .ispForceOff h => inRange 8 h
  | .ispDlutDataAccess h _ => inRange 8 h
  | .quadTransition h c _ _ _ => inRange 8 h && inRange 8 c
  | .indexPulse h c => inRange 8 h && inRange 8 c
  | .wireDisagree h c wire _ => inRange 8 h && inRange 8 c && inRange 3 wire
  | .speedWindowEnd h c => inRange 8 h && inRange 8 c
  | .hallStateChange h k state => inRange 8 h && inRange 8 k && inRange 8 state
  | .clrFault h c => inRange 8 h && inRange 8 c
  | .fbkQuadEnWrite h c _ => inRange 8 h && inRange 8 c
  | .ssiFrameStart h k _ => inRange 8 h && inRange 8 k
  | .ssiFrameDone h k _ => inRange 8 h && inRange 8 k
  | .axisStep axis => inRange 8 axis
  | .profileTick axis => inRange 8 axis
  | .phaseFrameSent axis => inRange 8 axis
  | .motQPush axis _ => inRange 8 axis
  | .standstill axis => inRange 8 axis
  | .wakeDelayEnd axis => inRange 8 axis
  | .switchDebounceEnd axis sw _ _ => inRange 8 axis && inRange 3 sw
  | .motHomeWrite axis => inRange 8 axis
  | .motStopWrite axis => inRange 8 axis
  | .motClrWrite axis => inRange 8 axis
  | .motEnWrite axis _ => inRange 8 axis
  | .motDrainTimeout axis => inRange 8 axis
  | .motForceOff axis => inRange 8 axis
  | .flitCrcError h link => inRange 8 h && inRange 4 link
  | .chimneyLinkUp h link => inRange 8 h && inRange 4 link
  | .chimneyPacketSent h output arrivals ecc => inRange 8 h && inRange 16 output && arrivals.all Request.wf && inRange 3 ecc
  | .dramTrainingDone h failMask => inRange 8 h && inRange (2 ^ 32) failMask
  | .retrainDue h ch _ _ _ => inRange 8 h && inRange 2 ch
  | .refreshDue h ch bank _ => inRange 8 h && inRange 2 ch && inRange 16 bank
  | .neighbourRefresh h addr _ => inRange 8 h && inRange (2 ^ 40) addr
  | .fReadReturn h ch _ ecc _ _ => inRange 8 h && inRange 2 ch && inRange 3 ecc
  | .qspiWrite addr words => inRange (2 ^ 32) addr && decide (words.length ≤ 256)
  | .qspiRead addr count _ => inRange (2 ^ 32) addr && inRange 65536 count
  | .qspiStatus => true
  | .qspiId => true
  | .qspiUnknownOpcode opcode => inRange 256 opcode
  | .qspiCsRise => true
  | .postedWriteApply => true
  | .cmdPiWrite ch _ => channelNo ch
  | .rspCiWrite ch _ => channelNo ch
  | .mailboxCommandTaken ch => channelNo ch
  | .responseWritten ch => channelNo ch
  | .doorbellPush ch => channelNo ch
  | .mailboxPause => true
  | .mailboxResume => true
  | .mbxEnWrite ch _ => channelNo ch
  | .mbxDrainTimeout ch => channelNo ch
  | .mbxForceOff ch => channelNo ch
  | .udpHello _ => true
  | .udpRequest _ => true
  | .udpRack _ => true
  | .udpReject _ => true
  | .responseRetransmit ch rseq => channelNo ch && inRange (2 ^ 32) rseq
  | .arpReceived _ => true
  | .icmpEchoReceived _ => true
  | .fluePush h q _ => inRange 8 h && inRange 32 q
  | .fluePop h q _ => inRange 8 h && inRange 32 q
  | .flueFlush h _ => inRange 8 h
  | .flueCfgWrite h q _ => inRange 8 h && inRange 32 q
  | .flueStale h q => inRange 8 h && inRange 32 q
  | .sysInfo c => c.wf
  | .sysAttach c => c.wf
  | .sysDetach c => c.wf
  | .sysStatus c => c.wf
  | .sysReset c => c.wf
  | .sysConfigLoad c => c.wf
  | .sysNop c => c.wf
  | .regRead c => c.wf
  | .regWrite c => c.wf
  | .regModify c => c.wf
  | .regPoll c => c.wf
  | .linkStatus c => c.wf
  | .linkUp c => c.wf
  | .linkDown c => c.wf
  | .linkEq c => c.wf
  | .linkPrbs c => c.wf
  | .gorgeOn c => c.wf
  | .gorgeOff c => c.wf
  | .gorgeStatus c => c.wf
  | .gorgeRewind c => c.wf
  | .pageQuery c => c.wf
  | .pageCommit c => c.wf
  | .pageReprint c => c.wf
  | .pageReleaseCmd c => c.wf
  | .pageAbort c => c.wf
  | .pageWithdraw c => c.wf
  | .pageDeclare c => c.wf
  | .pageWait c => c.wf
  | .pageList c => c.wf
  | .pageBasin c => c.wf
  | .pageBasinSet c => c.wf
  | .pageRetain c => c.wf
  | .layerSet c => c.wf
  | .layerGet c => c.wf
  | .layerRoute c => c.wf
  | .layerSlot c => c.wf
  | .layerOn c => c.wf
  | .layerOff c => c.wf
  | .layerPrivArm c => c.wf
  | .layerAdopt c => c.wf
  | .layerFree c => c.wf
  | .layerLbs c => c.wf
  | .layerReadback c => c.wf
  | .layerRead c => c.wf
  | .screenGeom c => c.wf
  | .screenWrite c => c.wf
  | .screenRead c => c.wf
  | .screenLoad c => c.wf
  | .screenArm c => c.wf
  | .ashGet c => c.wf
  | .ashPut c => c.wf
  | .ashPush c => c.wf
  | .ashLoad c => c.wf
  | .ashFlush c => c.wf
  | .headStatus c => c.wf
  | .headPower c => c.wf
  | .headSetup c => c.wf
  | .headPhase c => c.wf
  | .headStbt c => c.wf
  | .headTherm c => c.wf
  | .headCmap c => c.wf
  | .headCmapApply c => c.wf
  | .headOn c => c.wf
  | .headOff c => c.wf
  | .headDamper c => c.wf
  | .headBudget c => c.wf
  | .headFenderSet c => c.wf
  | .headFenderGet c => c.wf
  | .feedSet c => c.wf
  | .feedEn c => c.wf
  | .feedStart c => c.wf
  | .feedResume c => c.wf
  | .feedStatus c => c.wf
  | .feedPass c => c.wf
  | .feedScan c => c.wf
  | .fbQuad c => c.wf
  | .fbHall c => c.wf
  | .fbSsi c => c.wf
  | .fbStatus c => c.wf
  | .fbClear c => c.wf
  | .motSetup c => c.wf
  | .motThresh c => c.wf
  | .motEn c => c.wf
  | .motMove c => c.wf
  | .motStop c => c.wf
  | .motHome c => c.wf
  | .motClear c => c.wf
  | .motStatus c => c.wf
  | .motPos c => c.wf
  | .inspCamSet c => c.wf
  | .inspCorr c => c.wf
  | .inspCamEn c => c.wf
  | .inspCamStatus c => c.wf
  | .inspI2c c => c.wf
  | .inspIspSet c => c.wf
  | .inspColour c => c.wf
  | .inspDlut c => c.wf
  | .inspRegions c => c.wf
  | .inspOut c => c.wf
  | .inspOutRp c => c.wf
  | .inspOn c => c.wf
  | .inspOff c => c.wf
  | .inspGeomCal c => c.wf
  | .inspStatus c => c.wf
  | .timeGet c => c.wf
  | .timeSet c => c.wf
  | .timeInc c => c.wf
  | .timeAdj c => c.wf
  | .timePtpSet c => c.wf
  | .timePtpStatus c => c.wf
  | .timeUnfreeze c => c.wf
  | .timeUnit c => c.wf
  | .twinStatus c => c.wf
  | .twinSet c => c.wf
  | .twinJoin c => c.wf
  | .twinLeave c => c.wf
  | .twinSwitchBack c => c.wf
  | .twinReport c => c.wf
  | .calRun c => c.wf
  | .calStatus c => c.wf
  | .calPolicy c => c.wf
  | .calRead c => c.wf
  | .calWrite c => c.wf
  | .calStore c => c.wf
  | .updStatus c => c.wf
  | .updVerify c => c.wf
  | .updActivate c => c.wf
  | .updRevert c => c.wf
  | .updAbort c => c.wf
  | .evtRoute c => c.wf
  | .evtSeverity c => c.wf
  | .evtEnable c => c.wf
  | .evtFirmware c => c.wf
  | .vauxPowerOn => true
  | .vauxLow => true
  | .vauxRestored => true
  | .brownout => true
  | .sysRstNLow => true
  | .refclkLost => true
  | .bootStart lead0 lead4 silent down flashes => inRange 8 lead0 && inRange 8 lead4 && inRange 256 silent && down.all (inRange 8) && inRange 4 flashes
  | .bootEnd => true
  | .bridgeWaitExpiry => true
  | .bridgeUp => true
  | .watchdogExpiry h => inRange 8 h
  | .hearthReset h => inRange 8 h
  | .tapReset _ => true
  | .attachWaitExpiry => true
  | .spitBurst => true
  | .idleCap => true
  | .testNChart => true
  | .heartbeatSend => true
  | .heartbeatReceived beat => inRange (2 ^ 24) beat
  | .heartbeatMissed => true
  | .twinSigFrame _ => true
  | .twinCmdFrame _ => true
  | .twinCmdStatusFrame _ => true
  | .twinAshFrame _ => true
  | .twinEventFrame _ => true
  | .twinStateFrame _ => true
  | .twinAlignFrame _ => true
  | .twinHandoverFrame _ => true
  | .twinJoinReqFrame _ => true
  | .twinHealthFrame _ => true
  | .twinFrameError _ => true
  | .sigTimeout => true
  | .joinTimeout => true
  | .healthSend loops drams grates => inRange 9 loops.length && inRange 9 drams.length && inRange 9 grates.length
  | .healthMissing => true
  | .holdNReleased => true
  | .holdSeize => true
  | .switchClearDone => true
  | .twnEnWrite _ => true
  | .twnJoinWrite => true
  | .twnSwitchBackWrite => true
  | .twnForceOff => true
  | .handoverTimeout => true
  | .timIncWrite _ => true
  | .timSecLoRead => true
  | .timSet => true
  | .timAdj => true
  | .timUnfreeze => true
  | .ptpFrameForwarded port _ _ _ => inRange 6 port
  | .announceReceived port _ => inRange 6 port
  | .syncReceived port _ _ _ => inRange 6 port
  | .followUpReceived port _ => inRange 6 port
  | .delayRespReceived port _ => inRange 6 port
  | .masterLost => true
  | .timeUnitCtrlWrite n _ => inRange 16 n
  | .timeUnitFire n => inRange 16 n
  | .timeUnitCapture n => inRange 16 n
  | .calAutoCheck h => inRange 8 h
  | .calRunDone h _ _ _ => inRange 8 h
  | .calRunTimeout h => inRange 8 h
  | .svcStatus => true
  | .svcHold key hold => inRange (2 ^ 32) key && inRange 256 hold
  | .svcReset key => inRange (2 ^ 32) key
  | .stageOpen _ => true
  | .stageWrite _ data crc => inRange 4097 data.length && inRange (2 ^ 32) crc
  | .svcApply => true
  | .patchApplyDone => true
  | .svcAbort => true
  | .svcActivate comp slot => inRange 256 comp && inRange 256 slot
  | .componentSwap comp => inRange 256 comp
  | .componentSwapTimeout => true
  | .ispCmpEnWrite h _ => inRange 8 h
  | .chmStatSelWrite h _ => inRange 8 h
  | .fbkHallSsiEnWrite h k _ => inRange 8 h && inRange 8 k
  | .prbsTestEnd h l => inRange 8 h && inRange 6 l
  | .regPollTimeout ch tag => channelNo ch && inRange 256 tag
  | .pageWaitTimeout ch tag => channelNo ch && inRange 256 tag
  | .headPowerTimeout ch tag => channelNo ch && inRange 256 tag
  | .geomCalTimeout => true
  | .sysResetDelayExpiry => true

end Sys2Proof
end

