-- ==== Sys2Proof/Tests/Slice0.lean ====
section
/-! SUPPORT. Tests: ill-formed commands are refused by `Instr.wf`; worked numbers of the spec; for every statement with hypotheses a
state and operands that meet them (`witness_<part of the statement>`). -/

namespace Sys2Proof.Tests

open Sys2Proof Sys2Proof.Machine

set_option Elab.async false

/-! ### Ill-formed commands -/

/-- A well-formed mailbox entry to spoil. -/
def okCmd : Cmd := { ch := 0, tag := 1, len := 0, payload := [] }

/-- Commands that name an absent unit or carry a number outside its range: lanes, Gorge instances, pages, decoders. -/
theorem test_wf_refuses_link_operands :
    [Instr.registerWrite (2 ^ 32) 0, .rcRead (2 ^ 32), .loHalfRead (2 ^ 32), .eventEnableWrite (2 ^ 32) 0, .laneEnWrite 8 0 0,
      .signalDetected 0 6, .codewordReceived 0 0 [4], .alignmentCodewordReceived 0 0 [0, 4], .codeGroupReceived 0 2 1024,
      .helloReceived 0 2 [], .helloResend 8, .basinEnWrite 8 0, .pageRetire 0 (2 ^ 32), .pageRelease 8 0,
      .decodeJobStart 0 3, .encodeRequest 8 0 0 0 0 0, .cinderEnWrite 0 3 0].all (fun i => !i.wf) = true := by decide +kernel

/-- Ports, phases, codes, columns, gates, cameras, channels, axes. -/
theorem test_wf_refuses_print_operands :
    [Instr.terEnWrite 8 0, .strobeEnd 0 12 0, .strobeEnd 0 0 4, .vheadSample 0 0 4096, .tempSample 0 12 0, .ashUpdPush 0 (2 ^ 32),
      .headSettled 0 0 4096 0, .headSettled 0 0 0 4096, .fenderAssert 8, .fenderRelease 8, .csiPacketReceived 0 2 [],
      .inspectionCloseTimeout 0 (2 ^ 32), .i2cTransferDone 0 0 256 [], .quadTransition 0 8 true true true, .wireDisagree 0 0 3 true,
      .hallStateChange 0 4 8, .axisStep 8, .switchDebounceEnd 0 3 true 0].all (fun i => !i.wf) = true := by decide +kernel

/-- Links, packets, memory channels, the control port, mailboxes, queues, units of time, boot and the service port. -/
theorem test_wf_refuses_system_operands :
    [Instr.flitCrcError 0 4, .chimneyPacketSent 0 16 [] 0, .chimneyPacketSent 0 3 [] 3, .chimneyPacketSent 0 3 [⟨22, 0, none, 1, 1⟩] 0, .dramTrainingDone 0 (2 ^ 32),
      .retrainDue 0 2 true 0 0, .refreshDue 0 0 16 true, .neighbourRefresh 0 (2 ^ 40) false, .fReadReturn 0 0 0 3 0 0, .prbsLockLost 0 0 [4], .qspiWrite 0 (List.replicate 257 0),
      .qspiRead 0 65536 true, .qspiUnknownOpcode 256, .cmdPiWrite 4 0, .responseRetransmit 2 (2 ^ 32), .fluePush 0 32 0,
      .bootStart 8 0 0 [] 0, .bootStart 0 8 0 [] 0, .bootStart 0 0 256 [] 0, .bootStart 0 0 0 [8] 0, .bootStart 0 0 0 [] 4,
      .watchdogExpiry 8, .heartbeatReceived (2 ^ 24), .healthSend (List.replicate 9 0) [] [], .announceReceived 6 [], .timeUnitFire 16,
      .svcHold (2 ^ 32) 0, .svcHold 0 256, .svcReset (2 ^ 32), .stageWrite 0 [] (2 ^ 32), .svcActivate 256 0, .svcActivate 0 256,
      .componentSwap 256, .regPollTimeout 4 0, .pageWaitTimeout 0 256].all (fun i => !i.wf) = true := by decide +kernel

/-- The fields of a mailbox entry and of a request of the Chimney. -/
theorem test_wf_refuses_entry_fields :
    ([{ okCmd with ch := 4 }, { okCmd with tag := 256 }, { okCmd with gen := 256 }, { okCmd with flags := 256 }, { okCmd with len := 65536 },
      { okCmd with payload := List.replicate 57 0 }].all fun c => !c.wf && !(Instr.sysNop c).wf) = true ∧ okCmd.wf = true ∧
    ([⟨22, 0, none, 1, 1⟩, ⟨0, 8, none, 1, 1⟩, ⟨0, 0, some (2 ^ 40), 1, 1⟩, ⟨0, 0, none, 0, 1⟩, ⟨0, 0, none, 10, 1⟩, ⟨0, 0, none, 1, 0⟩,
      ⟨0, 0, none, 1, 5⟩].all fun p : Request => !p.wf) = true ∧ (⟨21, 7, some 0, 9, 4⟩ : Request).wf = true := by decide +kernel

/-- The table gives no row any bits, so no word spells a command. -/
theorem test_no_word_spells_a_command : decodeTableWord 32 0x20000000 = none := rfl

/-! ### Worked numbers of the spec -/

/-- R6's addresses in the example of 09_mantel_and_mailboxes.md. -/
theorem test_address_fields : regAddr 0x2019A000 = some ⟨1, 0, 0x0C, 0xD, 0⟩ ∧ regAddr 0x0A140020 = some ⟨0, 5, 0x0A, 0, 8⟩ := by decide

/-- R50's check value over the characters 123456789. -/
theorem test_crc32c : crc32c [0x31#8, 0x32#8, 0x33#8, 0x34#8, 0x35#8, 0x36#8, 0x37#8, 0x38#8, 0x39#8] = 0xE3069283 := by decide +kernel

/-- The table of port P5 in R167: entries 3 and 4 are (35.0 °C, 1,200) and (45.0 °C, 1,080). -/
def p5Table : List (Int × Nat) := [(0, 1500), (160, 1400), (320, 1300), (560, 1200), (720, 1080)]

/-- R167's worked widths at T 661 and V 32,377: 1,164 with TRIM +3, 1,142 with TRIM −2. -/
theorem test_strobe_widths : strobeWidth p5Table 3 32768 661 32377 = 1164 ∧ strobeWidth p5Table (-2) 32768 661 32377 = 1142 := by decide +kernel

/-- R166's SNS code 2,422 of R167's example: segment 9, 720 − 59. -/
theorem test_temperature : tempOf ((State.reset.wr 1 5 BLK_FBX 0x29 720#32).wr 1 5 BLK_FBX 0x2A 592#32) 1 5 2422 = 661 := by decide +kernel

/-- Gray code (R225): the code of x is x xor x/2. -/
theorem test_gray : (List.range 8).map (fun x => grayToBin (x ^^^ (x >>> 1)) 8) = List.range 8 := by decide +kernel


/-! ### general -/

theorem witness_StepRunsTheFrontCommand :
    ({ State.reset with pending := [.fenderAssert 3] } : State).pending = [.fenderAssert 3] := by decide +kernel

theorem witness_EmptyQueueLetsTimePass : State.reset.pending = [] := by decide +kernel

/-- The fault: an encoder request whose rows reach above the fitted memory. -/
theorem witness_EveryCommandCompletes :
    State.reset.hasH 0 = true ∧ State.reset.fitted 0 < 2 ^ 40 + 1 := by decide +kernel

theorem witness_GatesInForceShownAfterEveryStep :
    gatesShown (gateShow { State.reset with gates := 1, pending := [.fndEnWrite 1#32] }) := by unfold gatesShown; decide +kernel

theorem witness_CanonicalFormsKept : [7#8, 9#8].length ≤ 2 ^ 40 ∧ Memory.wf (State.reset.dwrite 0 5 3#8) = true ∧
    tabWf dfltReg (State.reset.wr 0 0 BLK_TER 1 5#32).regs = true := by decide +kernel


/-! ### bus -/

/-- A register address of space 0. -/
def addrOf (h blk i w : Nat) : Nat := h * 2 ^ 25 + blk * 2 ^ 17 + i * 2 ^ 13 + 4 * w

theorem witness_RegisterAccessesByAddress_write :
    regAddr (addrOf 0 BLK_TER 0 1) = some ⟨0, 0, BLK_TER, 0, 1⟩ ∧ targets State.reset ⟨0, 0, BLK_TER, 0, 1⟩ = [(0, 0)] ∧
    targetUp State.reset ⟨0, 0, BLK_TER, 0, 1⟩ (0, 0) = true ∧ targets State.reset ⟨0, 0, BLK_TER, 5, 1⟩ = [] ∧
    (eventEnWords BLK_TER).contains TER_EVENT_EN.word = true ∧ wordFields BLK_TER 0 TER_EVENT_EN.word ≠ [] := by decide +kernel

theorem witness_RegisterAccessesByAddress_unreachable :
    targets State.reset ⟨0, 3, BLK_TER, 0, 1⟩ = [(3, 0)] ∧
    targetUp ({ State.reset with linksLost := List.range 32 } : State) ⟨0, 3, BLK_TER, 0, 1⟩ (3, 0) = false := by decide +kernel

theorem witness_RegisterAccessesByAddress_read :
    regAddr (addrOf 0 BLK_FLU 0 FLU_OVF_CNT.word) = some ⟨0, 0, BLK_FLU, 0, FLU_OVF_CNT.word⟩ ∧ rcMask BLK_FLU 0 FLU_OVF_CNT.word ≠ 0 ∧
    0x80 ≤ FLU_OVF_CNT.word ∧ (⟨0, 0, BLK_FLU, 0, FLU_OVF_CNT.word⟩ : RegAddr).bcast = false ∧ State.reset.latches = [] ∧
    rcMask BLK_TER 0 TER_LNUM_LO.word = 0 ∧ latchedBy BLK_TER TER_LNUM_LO.word = [TER_LNUM_LO.word + 1] := by decide +kernel

theorem witness_ControlPortTransactions :
    State.reset.portOpen = false ∧ State.reset.posted = [] ∧
    (busReads (addrOf 0 0 0 0) 0 1 { State.reset with portOpen := true }).1 = some [0x5B08C000#32] ∧
    (busReads (addrOf 3 BLK_TER 0 1) 0 1 { State.reset with portOpen := true, linksLost := List.range 32 }).1 = none := by decide +kernel

theorem witness_HostWritesFollowAccessCodes :
    (∃ f ∈ wordFields BLK_DRT 0 0, f.acc = .wo) ∧ (∃ f ∈ wordFields BLK_DRT 0 0, f.acc = .rwl) ∧
    (∃ f ∈ wordFields BLK_TER 0 TER_EVENT_EN.word, f.acc = .rw) ∧ (wordFields BLK_FBX 0 FBX_VCAL_VREF.word).any (fun f => f.priv) = true := by
  decide +kernel


/-! ### mailbox -/

/-- The crown's field of a channel put. -/
def boxWith (ch : Nat) (f : Fld) (v : Nat) (s : State := State.reset) : State := s.fput s.crown ch f v

theorem witness_RingIndexWrites :
    (ringDiff ((32#32).toNat % 65536) (mget State.reset 0 MBX_CMD_CI_V) ≤ 32 ∧
      ringDiff (mget State.reset 0 MBX_CMD_PI_V) (mget State.reset 0 MBX_CMD_CI_V) ≤ ringDiff ((32#32).toNat % 65536) (mget State.reset 0 MBX_CMD_CI_V)) ∧
    32 < ringDiff ((33#32).toNat % 65536) (mget State.reset 0 MBX_CMD_CI_V) ∧
    ringDiff ((1#32).toNat % 65536) 0 < ringDiff (mget (boxWith 0 MBX_CMD_PI_V 2) 0 MBX_CMD_PI_V) 0 ∧
    ringDiff (mget (boxWith 0 MBX_RSP_PI_V 2) 0 MBX_RSP_PI_V) ((1#32).toNat % 65536) ≤ 2 ∧
    32 < ringDiff (mget State.reset 0 MBX_RSP_PI_V) ((1#32).toNat % 65536) := by decide +kernel

/-- Channel 0 enabled with one entry of opcode 0 in its ring, and an answer waiting to be written. -/
def oneEntry : State :=
  boxWith 0 MBX_CMD_PI_V 1 (boxWith 0 MBX_STATUS_STATE 1 (State.reset.setMbx 0 { outst := [9], waiting := [respEntry 0x101 9 0 0 0 []] }))

theorem witness_EntriesTakenAndResponsesWritten :
    canTake' State.reset 0 = false ∧ canTake' oneEntry 0 = true ∧ (oneEntry.mbx 0).oldLeft = 0 ∧
    bit (byteAt (getEntry oneEntry 0 (mget oneEntry 0 MBX_CMD_CI_V % 32)) 3) 0 = false ∧
    specOf (entOp (getEntry oneEntry 0 (mget oneEntry 0 MBX_CMD_CI_V % 32))) = none ∧
    (oneEntry.mbx 0).outst.contains (entTag (getEntry oneEntry 0 (mget oneEntry 0 MBX_CMD_CI_V % 32))) = false ∧
    (specOf 0x0101).isSome = true ∧ bit (byteAt (getEntry (oneEntry.wr 0 0 BLK_MBX 512 0x01000000#32) 0 0) 3) 0 = true ∧
    oneEntry.paused = false ∧ rspFull oneEntry 0 = false ∧ (oneEntry.mbx 0).waiting = [respEntry 0x101 9 0 0 0 []] ∧
    (oneEntry.mbx 0).lostTags.contains (entTag (respEntry 0x101 9 0 0 0 [])) = false ∧ rspFull (boxWith 0 MBX_RSP_PI_V 32) 0 = true := by
  decide +kernel

theorem witness_doorbell :
    mget State.reset 0 MBX_CTRL_RSP_DB = 1 ∧ ((State.reset.setMbx 0 { sinceDb := 3, dbAt := some 0 }).mbx 0).dbAt = some 0 ∧
    ((State.reset.setMbx 0 { sinceDb := 3, dbAt := some 0 }).mbx 0).sinceDb ≠ 0 ∧ 0 + 400 ≤ ({ State.reset with now := 400 } : State).now ∧
    State.reset.now < 0 + 400 ∧ ({ State.reset with paused := true } : State).paused = true := by decide +kernel

theorem witness_ChannelEnableAndDrain :
    (1#32 &&& 3#32) = 1#32 ∧ mget (boxWith 2 MBX_CTRL_EN 0) 2 MBX_CTRL_EN = 0 ∧ mget State.reset 2 MBX_STATUS_STATE = 0 ∧
    (0#32 &&& 3#32) = 0#32 ∧ mget State.reset 2 MBX_CTRL_EN = 1 ∧ (State.reset.mbx 2).outst = [] ∧ (State.reset.mbx 2).again = false ∧
    (oneEntry.mbx 0).outst ≠ [] ∧ mget (boxWith 1 MBX_STATUS_STATE 2) 1 MBX_STATUS_STATE = 2 ∧ State.reset.twn.cmds = [] := by
  decide +kernel

/-- An Ethernet frame to the device in its reset state. -/
def etherIn (type : Nat) (body : List Byte) : List Byte :=
  withFcs (beBytes 6 (ownMac State.reset) ++ beBytes 6 0x0200000001 ++ beBytes 2 type ++ body)

/-- An IPv4 packet to the device from 10.0.0.1. -/
def ipIn (proto : Nat) (body : List Byte) : List Byte :=
  let hd (ck : Nat) : List Byte := [0x45, 0] ++ beBytes 2 (20 + body.length) ++ [0, 0, 0, 0, 64] ++ beBytes 1 proto ++ beBytes 2 ck ++
    [10, 0, 0, 1] ++ beBytes 4 (ownIp State.reset)
  etherIn 0x0800 (hd (ipCheck (hd 0)) ++ body)

/-- A mailbox datagram for MB2 from port 4000, without a UDP checksum. -/
def datagramIn (type epoch : Nat) : List Byte :=
  ipIn 17 (beBytes 2 4000 ++ beBytes 2 (mget State.reset 2 MBX_UDP_PORT) ++ beBytes 2 24 ++ [0, 0] ++
    leBytes 2 0x4D42 ++ [1] ++ leBytes 1 type ++ leBytes 2 epoch ++ [0, 0, 7, 0, 0, 0, 0, 0, 0, 0])

/-- The datagram as it is read. -/
def datagramRead (type epoch : Nat) : UdpIn :=
  ⟨2, 0x0A000001, 4000, leBytes 2 0x4D42 ++ [1] ++ leBytes 1 type ++ leBytes 2 epoch ++ [0, 0, 7, 0, 0, 0, 0, 0, 0, 0]⟩

/-- MB2 bound to 10.0.0.1:4000 at epoch 5. -/
def boundBox : State :=
  boxWith 2 MBX_STATUS_STATE 1 (boxWith 2 MBX_UDP_EPOCH_EPOCH 5 (boxWith 2 MBX_UDP_EPOCH_BOUND 1 (boxWith 2 MBX_UDP_PEER 0x0A000001
    (boxWith 2 MBX_UDP_PEER_PORT_V 4000))))

theorem witness_UdpSessionsAndAnswers_parsed :
    udpParse State.reset (datagramIn 5 5) = some (datagramRead 5 5) ∧ udpKind State.reset (datagramRead 5 5) = .hello := by decide +kernel

theorem witness_UdpSessionsAndAnswers :
    udpParse boundBox (datagramIn 5 4) = some (datagramRead 5 4) ∧ fromPeer boundBox (datagramRead 5 4) = true ∧
    epochDiff boundBox (datagramRead 5 4) < 0 ∧ epochDiff boundBox (datagramRead 5 5) = 0 ∧ 0 < epochDiff boundBox (datagramRead 5 6) ∧
    fromPeer (boxWith 2 MBX_UDP_PEER 1 boundBox) (datagramRead 5 5) = false ∧ peerIdle boundBox 2 = false ∧
    udpKind boundBox (datagramRead 1 5) = .request ∧ udpKind boundBox (datagramRead 4 5) = .rack ∧
    udpKind boundBox (datagramRead 2 5) = .reject 3 := by decide +kernel

theorem witness_RetransmitArpAndEcho :
    let s := boundBox.setMbx 2 { sent := [⟨7, [respEntry 0x101 9 0 0 0 []], 0⟩] }
    (s.mbx 2).sent.find? (fun o => o.rseq == 7) = some ⟨7, [respEntry 0x101 9 0 0 0 []], 0⟩ ∧
    ([respEntry 0x101 9 0 0 0 []].filter fun e => !superseded s 2 e) ≠ [] ∧ 0 < mget s 2 MBX_UDP_RETRY := by decide +kernel

theorem witness_arp_and_echo :
    (let f := beBytes 6 (ownMac State.reset) ++ beBytes 6 0x0200000001 ++ beBytes 2 0x0806 ++
        arpBody 1 0x0200000001 0x0A000001 0 (ownIp State.reset)
     stripFcs (withFcs f) = some f ∧ beAt f 12 2 = 0x0806 ∧ beAt (f.drop 14) 0 2 = 1 ∧ beAt (f.drop 14) 2 2 = 0x0800 ∧
     beAt (f.drop 14) 6 2 = 1 ∧ beAt (f.drop 14) 24 4 = ownIp State.reset ∧ beAt (f.drop 14) 14 4 ≠ ownIp State.reset) ∧
    (let m : List Byte := [8, 0] ++ beBytes 2 (ipCheck [8, 0, 0, 0, 1, 2, 3, 4]) ++ [1, 2, 3, 4]
     (ipParse State.reset (ipIn 1 m)).map (fun p => (byteAt p 9, p.drop 20)) = some (1, m) ∧ 8 ≤ m.length ∧ beAt m 0 2 = 0x0800 ∧
     ipCheck m = 0) := by decide +kernel


/-! ### commands -/

/-- Mode 2, a host attached. -/
def atHost (s : State := State.reset) : State := { s with mode := 2 }

/-- A command of channel 0, tag 5. -/
def hostCmd (p : List Byte) : Cmd := { ch := 0, tag := 5, len := p.length, payload := p }

/-- Axis 0 in a state with hearth 0 named; an attached host's page in a state. -/
def withPage (st : PageSt) (s : State := State.reset) : State :=
  atHost (s.setBas 0 { tbl := [{ id := 7, st := st, lines := 9 }] })

/-- A command that names hearth 0 by mask and page 7. -/
def onPage7 (rest : List Byte := []) : Cmd := hostCmd (leBytes 4 1 ++ leBytes 4 7 ++ rest)

theorem witness_CommandRowsServed :
    specOf 0x0106 = some cmdSysNop ∧ Ready cmdSysNop (hostCmd [1#8]) (atHost) ∧
    ((atHost (State.reset.setMbx 0 { outst := [5] })).mbx 0).outst.contains (hostCmd []).tag = true ∧
    (56 < { hostCmd [] with len := 57 }.len) ∧
    modeDenies (opened (hostCmd []) State.reset) cmdTimeUnfreeze = true ∧ modeDenies (opened (hostCmd []) atHost) cmdTimeUnfreeze = false ∧
    (hostCmd []).len < cmdTimeSet.size (hostCmd []) ∧ cmdTimeSet.ok (opened (hostCmd (leBytes 8 0 ++ leBytes 4 (10 ^ 9))) atHost) (hostCmd (leBytes 8 0 ++ leBytes 4 (10 ^ 9))) = false := by
  refine ⟨rfl, ?_, ?_⟩
  · unfold Ready Passes; decide +kernel
  · decide +kernel

theorem witness_CommandRowsServed_rows : CommandRow (.sysNop, 0x0106, .q, false) := by
  left; unfold SysRow; simp

/-- A P-class command under a leading unit. -/
theorem witness_CommandRowsServed_scheduled :
    (let s := atHost ((withPage .complete).fput 0 0 TWN_STATUS_STATE 3)
     Passes cmdPageCommit onPage7 { s with twn := { joining := true } } ∧ cmdPageCommit.cls = .p ∧
      twnLeads (opened onPage7 { s with twn := { joining := true } }) = true) := by
  and_intros <;> decide +kernel

theorem witness_SystemRegisterAndTimeCommands_system :
    Ready cmdSysInfo (hostCmd []) atHost ∧ Ready cmdSysNop (hostCmd [1#8]) atHost ∧
    (Ready cmdSysAttach (hostCmd (leBytes 4 3)) atHost ∧ Ready cmdSysAttach (hostCmd (leBytes 4 3)) State.reset ∧ State.reset.mode = 0 ∧
      Ready cmdSysAttach (hostCmd (leBytes 4 3)) { State.reset with mode := 1 } ∧ aloneBusy { State.reset with mode := 1 } = false) ∧
    Ready cmdSysDetach (hostCmd []) atHost ∧ Ready cmdSysReset (hostCmd (leBytes 2 0xB007 ++ leBytes 1 1 ++ leBytes 1 6)) atHost ∧
    Ready cmdEvtFirmware (hostCmd (leBytes 4 0)) atHost := by
  and_intros <;> decide +kernel

theorem witness_SystemRegisterAndTimeCommands_registers :
    (Ready cmdRegRead (hostCmd (leBytes 5 (2 ^ 32))) atHost ∧
      (busReads (u32 (hostCmd (leBytes 5 (2 ^ 32))) 0) 0 (u8 (hostCmd (leBytes 5 (2 ^ 32))) 4) (opened (hostCmd (leBytes 5 (2 ^ 32))) atHost)).1.isSome = true) ∧
    (busReads (u32 (hostCmd (leBytes 4 (3 * 2 ^ 25 + BLK_TER * 2 ^ 17) ++ [1#8])) 0) 0 1 { atHost with linksLost := List.range 32 }).1 = none ∧
    (let c := hostCmd (leBytes 4 (BLK_TER * 2 ^ 17 + 4 * TER_EVENT_EN.word) ++ leBytes 4 1 ++ leBytes 4 3)
     Ready cmdRegWrite c atHost ∧ hearthsOf (opened c atHost) (u32 c 0) = [0] ∧ u8 c 4 = 1) := by
  and_intros <;> decide +kernel

theorem witness_SystemRegisterAndTimeCommands_time :
    Ready cmdTimeGet (hostCmd []) atHost ∧ Ready cmdTimeSet (hostCmd (leBytes 8 (2 ^ 47) ++ leBytes 4 999999999)) atHost ∧
    (Ready cmdTimeAdj (hostCmd (leBytes 8 (2 ^ 64 - 5))) atHost ∧ atHost.tim.set = none) ∧
    Ready cmdTimeUnfreeze (hostCmd []) (atHost (State.reset.fput 0 0 TIM_STATUS_FROZEN 1)) ∧
    Ready cmdUpdAbort (hostCmd [2#8]) (atHost { State.reset with upd := { jour := some ⟨2, 1, [], 0, 1⟩ } }) := by
  and_intros <;> decide +kernel

theorem witness_PageLayerAndTableCommands_pages :
    nameMask (opened onPage7 (withPage .complete)) onPage7 = [0] ∧ Ready cmdPageCommit onPage7 (withPage .complete) ∧
    Ready cmdPageReprint onPage7 (withPage .retired) ∧
    Ready cmdPageReprint onPage7 (atHost (State.reset.setBas 0 { tbl := [{ id := 7, st := .fired, lines := 9, defer := true }] })) ∧
    (Ready cmdPageRelease onPage7 (withPage .fired) ∧ (findPage (withPage .fired) 0 7).map Page.st = some .fired) ∧
    (Ready cmdPageWithdraw onPage7 ((withPage .committed).setTer 0 { queue := [7] }) ∧
      (findPage ((withPage .committed).setTer 0 { queue := [7] }) 0 7).isSome = true) ∧
    Ready cmdPageDeclare (onPage7 (leBytes 4 100)) atHost := by
  and_intros <;> decide +kernel

theorem witness_PageLayerAndTableCommands_layers :
    Ready cmdLayerLbs (hostCmd [0#8]) atHost ∧
    (let s := atHost (State.reset.setLbuf 0 63 { used := true })
     Ready cmdLayerFree (hostCmd [0#8, 63#8]) s ∧ lbReferenced s 0 63 = false) ∧
    (let s := atHost ((State.reset.setLbuf 0 63 { used := true }).setBas 0 { tbl := [{ id := 7, st := .committed, terrs := [{ fmt := 1, src := 1, lb := 63 }] }] })
     Ready cmdLayerFree (hostCmd [0#8, 63#8]) s ∧ lbReferenced s 0 63 = true) := by
  and_intros <;> decide +kernel

theorem witness_PageLayerAndTableCommands_tables :
    (let c := hostCmd (leBytes 1 1 ++ leBytes 1 0 ++ leBytes 2 65535 ++ leBytes 4 1 ++ leBytes 4 9)
     Ready cmdScreenWrite c atHost ∧ nameMask (opened c atHost) c = [0] ∧ u8 c 4 = 1 ∧ u16 c 2 ≤ grtLast (u8 c 1) ∧
      atHost.fon 0 0 GRT_STATUS_COPY = false) ∧
    Ready cmdAshGet (hostCmd (leBytes 2 0 ++ leBytes 2 49151 ++ [1#8])) atHost ∧
    Ready cmdAshPut (hostCmd (leBytes 2 256 ++ leBytes 2 49151 ++ leBytes 4 77)) (atHost (State.reset.fput 0 0 GRT_CTRL_EN 0)) ∧
    (let c := hostCmd (leBytes 2 0 ++ leBytes 2 0 ++ leBytes 4 1 ++ leBytes 8 4)
     let s := atHost (State.reset.fput 0 0 ASH_CTRL_Q_EN 1)
     Ready cmdAshPush c s ∧ (ashPush 0 (u16 c 2) (u64 c 8) (uW c 4) (opened c s)).2 = true) ∧
    Ready cmdMotMove (hostCmd (leBytes 4 0 ++ leBytes 4 1000 ++ leBytes 4 500)) (atHost ((State.reset.fput 0 0 MOT_CTRL_EN 1).fput 0 0 MOT_STATUS_STATE 1)) ∧
    Ready cmdInspDlut (hostCmd (leBytes 2 256 ++ leBytes 2 4095 ++ leBytes 4 0 ++ leBytes 2 8)) atHost := by
  and_intros <;> decide +kernel

/-- One deferred command: a PAGE_WAIT for page 7 with hearth 0's status, 256 while none. -/
def deferredOne (v : Nat) : State :=
  { withPage .loading with dops := [{ ch := 0, tag := 5, gen := 0, op := 0x0407, cmd := hostCmd (leBytes 4 (1 + 256 * 5) ++ leBytes 8 7), hs := noStat.set 0 v }] }

theorem witness_DeferredCommandsEnd :
    (specOf 0x0407 = some cmdPageWait ∧ onPage7.ch < 4 ∧ (deferredOne 0).alone.script = [] ∧ (deferredOne 0).twn.heldCmds = [] ∧
      (deferredOne 0).junior.on = false) ∧
    ((deferredOne 0).dops.map fun d => allKnown (pollDop cmdPageWait (deferredOne 0) d).hs) = [true] ∧
    ((deferredOne 256).dops.map fun d => allKnown (pollDop cmdPageWait (deferredOne 256) d).hs) = [false] ∧
    State.reset.geo = none ∧ ({ State.reset with geo := some { ref := 0, named := [], todo := [] } } : State).geo.isSome = true ∧
    laneOk State.reset 0 0 = true ∧ (State.reset.lane 0 0).test = none ∧
    ((State.reset.setLane 0 0 { test := some (0, 5) }).lane 0 0).test = some (0, 5) := by
  and_intros
  · rfl
  all_goals decide +kernel


/-! ### lane -/

/-- A lane in a state. -/
def laneIn (h l st : Nat) (s : State := State.reset) : State := s.fput h l LANE_STATUS_STATE st

theorem witness_LaneRowsMoveTheLane :
    laneOk State.reset 0 0 = true ∧ laneOk State.reset 0 2 = true ∧
    (laneSt (stored BLK_LANE (laneOpen State.reset 0 0 0) 0 0 0 0x11#32 State.reset) 0 0 = 0 ∧
      (stored BLK_LANE (laneOpen State.reset 0 0 0) 0 0 0 0x11#32 State.reset).fon 0 0 LANE_CTRL_EN = true ∧
      modeOk 0 ((stored BLK_LANE (laneOpen State.reset 0 0 0) 0 0 0 0x11#32 State.reset).fget 0 0 LANE_CTRL_MODE) = true) ∧
    (laneSt (stored BLK_LANE (laneOpen (laneIn 0 0 5) 0 0 0) 0 0 0 0#32 (laneIn 0 0 5)) 0 0 ≠ 0 ∧
      (stored BLK_LANE (laneOpen (laneIn 0 0 5) 0 0 0) 0 0 0 0#32 (laneIn 0 0 5)).fon 0 0 LANE_CTRL_EN = false) ∧
    (isGorge 0 = true ∧ (stored BLK_LANE true 0 0 0 (insertBits 0 LANE_CTRL_BOND.lo 1 1) (laneIn 0 1 5)).fon 0 0 LANE_CTRL_BOND = true ∧
      (laneIn 0 1 5).fon 0 0 LANE_CTRL_BOND = false ∧
      bondSplit (stored BLK_LANE true 0 0 0 (insertBits 0 LANE_CTRL_BOND.lo 1 1) (laneIn 0 1 5)) 0 = true ∧
      laneSt (laneIn 0 1 5) 0 1 ≠ 0) ∧
    laneSt (laneIn 0 0 1) 0 0 = 1 ∧ laneSt (laneIn 0 0 2) 0 0 = 2 ∧ laneSt (laneIn 0 0 5) 0 0 = 5 ∧ laneSt (laneIn 0 2 3) 0 2 = 3 ∧
    isGorge 0 = true ∧ isGorge 2 = false ∧ anRuns (laneIn 0 2 3) 0 2 = false ∧
    (anRuns (((laneIn 0 2 3).fput 0 2 LANE_CTRL_MODE 1).fput 0 2 LANE_CTRL_AN_EN 1) 0 2 = true ∧
      ((laneIn 0 2 3).fput 0 2 LANE_STATUS_ALIGNED 1).fon 0 2 LANE_STATUS_ALIGNED = true) ∧
    ((laneIn 0 2 3).setLane 0 2 { anFailed := true } |>.lane 0 2).anFailed = true ∧
    ((laneIn 0 0 4).fput 0 0 LANE_BRINGUP_TIMEOUT 1).fon 0 0 LANE_BRINGUP_TIMEOUT = true ∧
    ((laneIn 0 0 7).fput 0 0 LANE_BRINGUP_RETRY 1).fon 0 0 LANE_BRINGUP_RETRY = true := by decide

theorem witness_LaneAdaptationRows :
    (2 ≤ laneSt (laneIn 0 0 2) 0 0 ∧ laneSt (laneIn 0 0 5) 0 0 ≤ 5) ∧
    (laneSt ((laneIn 0 0 5).fput 0 0 LANE_FOM_FOM 1) 0 0 = 5 ∧
      ((laneIn 0 0 5).fput 0 0 LANE_FOM_FOM 1).fget 0 0 LANE_FOM_FOM
        < ((laneIn 0 0 5).fput 0 0 LANE_FOM_FOM 1).fget 0 0 LANE_ADAPT_FOM_FLOOR) ∧
    (State.reset.fput 0 0 LANE_STATUS_RECENTRE 1).fon 0 0 LANE_STATUS_RECENTRE = true := by decide

/-- The units of each kind (R23, R37). -/
theorem witness_LaneAdaptationRows_units :
    (blockRead false (List.replicate 32 0)).1 ≠ .idle ∧ (blockRead true (0x1E#8 :: List.replicate 31 0)).1 = .idle ∧
    (isGorge 2 = false ∧ idleSecond 1 0x50 = true ∧ idleSecond 1 0 = false ∧ kComma ≠ 0) := by decide

/-- Line symbols of a lane in TEST whose checker runs pattern 0 (PRBS31). -/
def chkLane : State := ((laneIn 0 2 6).fput 0 2 TST_PRBS_CTRL_CHK_EN 1)

theorem witness_PrbsAndLoopbackRows :
    laneSt (laneIn 0 0 1) 0 0 ≠ 0 ∧
    ((stored BLK_TST true 0 0 0 1#32 (laneIn 0 0 1)).fon 0 0 TST_PRBS_CTRL_GEN_EN = true ∧
      (laneIn 0 0 1).fon 0 0 TST_PRBS_CTRL_GEN_EN = false) ∧
    (laneSt (laneIn 0 0 6) 0 0 = 6 ∧ prbsOff (stored BLK_TST true 0 0 0 0#32 (laneIn 0 0 6)) 0 0 = true) ∧
    (laneSt ((laneIn 0 0 6).fput 0 0 TST_PRBS_CTRL_GEN_EN 1) 0 0 = 6 ∧
      prbsOff (stored BLK_TST true 0 0 0 1#32 ((laneIn 0 0 6).fput 0 0 TST_PRBS_CTRL_GEN_EN 1)) 0 0 = false) ∧
    (laneSt (laneIn 0 0 5) 0 0 = 5 ∧
      (stored BLK_TST true 0 0 0 (insertBits 0 TST_PRBS_CTRL_LOOPBACK.lo 2 1) (laneIn 0 0 5)).fget 0 0 TST_PRBS_CTRL_LOOPBACK % 3
        ≠ (laneIn 0 0 5).fget 0 0 TST_PRBS_CTRL_LOOPBACK % 3) ∧
    chkRuns chkLane 0 2 = true ∧ chkLane.fon 0 2 TST_PRBS_STAT_LOCK = false ∧
    (chkLane.fput 0 2 TST_PRBS_STAT_LOCK 1).fon 0 2 TST_PRBS_STAT_LOCK = true ∧
    (laneIn 0 0 6).fon 0 0 TST_PRBS_CTRL_GEN_EN = false ∧
    (((laneIn 0 0 6).fput 0 0 TST_PRBS_CTRL_GEN_EN 1).fon 0 0 TST_PRBS_CTRL_GEN_EN = true ∧ ((laneIn 0 0 6).lane 0 0).genPat ≠ 3) ∧
    (State.reset.fput 0 0 TST_PRBS_CTRL_INJ_RATE 5).fon 0 0 TST_PRBS_CTRL_INJ_RATE = true := by decide

set_option maxRecDepth 8000 in
/-- An all-zero line is a sequence the checker locks on. -/
theorem witness_PrbsAndLoopbackRows_lock :
    ((chkBits chkLane 0 2 (List.replicate 160 0)).drop (prbsTaps (chkLane.lane 0 2).chkPat).1).take 128 =
      (prbsBitsOf (chkLane.lane 0 2).chkPat 128
        (bitsReg ((chkBits chkLane 0 2 (List.replicate 160 0)).take (prbsTaps (chkLane.lane 0 2).chkPat).1))).1 := by decide

set_option maxRecDepth 8000 in
theorem witness_PrbsAndLoopbackRows_window :
    128 ≤ (chkBits chkLane 0 2 (List.replicate 128 1)).length ∧ (chkBits chkLane 0 2 []).length < 128 := by decide

theorem witness_CodewordDecodedOrDeliveredErrored :
    laneAligned ((laneIn 0 0 4).fput 0 0 LANE_STATUS_ALIGNED 1) 0 0 = true ∧
    laneSt ((laneIn 0 0 4).fput 0 0 LANE_STATUS_ALIGNED 1) 0 0 = 4 ∧
    laneAligned ((laneIn 0 0 5).fput 0 0 LANE_STATUS_ALIGNED 1) 0 0 = true ∧
    laneSt ((laneIn 0 0 5).fput 0 0 LANE_STATUS_ALIGNED 1) 0 0 = 5 ∧ laneAligned State.reset 0 0 = false ∧
    (List.replicate 2720 (0 : Nat)).length = 2720 := by
  refine ⟨by decide, by decide, by decide, by decide, by decide, List.length_replicate⟩

theorem witness_AlignmentAndCodeGroupRows :
    (isGorge 0 = true ∧ 3 ≤ laneSt (laneIn 0 0 3) 0 0 ∧ laneSt (laneIn 0 0 5) 0 0 ≤ 5) ∧
    laneSends (laneIn 0 0 5) 0 0 = true ∧ laneSends State.reset 0 0 = false ∧
    ((laneIn 0 0 5).fget 0 0 TST_PRBS_CTRL_LOOPBACK ≠ 2 ∧ (laneIn 0 0 5).fget 0 0 TST_PRBS_CTRL_LOOPBACK ≠ 1) ∧
    (((laneIn 0 0 5).fput 0 0 TST_PRBS_CTRL_LOOPBACK 1).fget 0 0 TST_PRBS_CTRL_LOOPBACK = 1 ∧
      ((laneIn 0 0 5).fput 0 0 TST_PRBS_CTRL_LOOPBACK 2).fget 0 0 TST_PRBS_CTRL_LOOPBACK = 2) ∧
    (isGorge 2 = false ∧ rxInv (laneIn 0 2 2) 0 2 = false ∧ decGroup 0 ((laneIn 0 2 2).lane 0 2).rdPos = .bad) ∧
    (decGroup (encData 0x50 false) (((laneIn 0 2 4).setLane 0 2 { afterComma := true }).lane 0 2).rdPos = .data 0x50 ∧
      (((laneIn 0 2 4).setLane 0 2 { afterComma := true }).lane 0 2).afterComma = true ∧ encData 0x50 false < 1024 ∧
      expectedSecond 1 0x50 = true) := by decide


/-! ### gorge -/

/-- A Gorge instance in a session state. -/
def gorIn (h i sess : Nat) (s : State := State.reset) : State := s.fput h i GOR_STATUS_SESS sess

/-- A mirror sender: instance 1 with ROLE 1. -/
def mirrorSender (sess : Nat) : State := (gorIn 0 1 sess).fput 0 1 GOR_CTRL_ROLE 1

/-- A frame with no body. -/
def bare (type epoch : Nat) : List Byte := mkFrame type 0 epoch 0 0 0x15 0 0 0 0 []

theorem witness_GorgeFramesTakenByTheirRule :
    gorOk State.reset 0 0 = true ∧ gorSess (gorIn 0 0 3) 0 0 ≠ 0 ∧ gorSess (mirrorSender 3) 0 1 ≠ 0 ∧
    intact [] = false ∧ intact (bare 0x0B 0) = true ∧
    classify (gorIn 0 0 1) 0 0 (bare 1 0) = .hello ∧ classify (mirrorSender 2) 0 1 (bare 2 0) = .helloAck ∧
    classify (gorIn 0 0 3) 0 0 (bare 4 0) = .seq ∧ classify (mirrorSender 3) 0 1 (bare 5 0) = .ack ∧
    classify (mirrorSender 3) 0 1 (bare 6 0) = .nak ∧ classify (mirrorSender 3) 0 1 (bare 3 0) = .credit ∧
    classify (gorIn 0 0 3) 0 0 (bare 0x0B 0) = .keepalive ∧
    classify (gorIn 0 0 3) 0 0 (mkFrame 0x0C 4 0 0 0 0 0 0 0 0 []) = .byeAbort ∧
    (classify (gorIn 0 0 3) 0 0 (bare 0x0D 0) = .error ∧ frW (bare 0x0D 0) 0 = 0x15) ∧
    classify (gorIn 0 0 3) 0 0 ((bare 0x0B 0).set 6 2#8) = .badVersion ∧ classify (gorIn 0 0 3) 0 0 (bare 2 0) = .badType ∧
    classify (gorIn 0 0 1) 0 0 (bare 0x0B 0) = .noSession ∧ classify ((gorIn 0 0 3).fput 0 0 GOR_STATUS_EPOCH 1) 0 0 (bare 0x0B 0) = .stale := by
  decide +kernel

theorem witness_HelloAnsweredByReceiverState :
    (gorSess (gorIn 0 0 1) 0 0 = 1 ∧ frVer ((bare 1 0).set 6 2#8) ≠ 1 ∧ frVer (bare 1 0) = 1) ∧
    (((gorIn 0 0 1).fput 0 0 GOR_CTRL_SENDER_LOCK 1).fon 0 0 GOR_CTRL_SENDER_LOCK = true ∧
      frW (mkFrame 1 0 0 0 0 0 7 0 0 0 []) 1 ≠ ((gorIn 0 0 1).fput 0 0 GOR_CTRL_SENDER_LOCK 1).fget 0 0 GOR_LOCK_LO) ∧
    (gorIn 0 0 1).fon 0 0 GOR_CTRL_SENDER_LOCK = false ∧
    (gorSess (gorIn 0 0 3) 0 0 = 3 ∧ frW (mkFrame 1 0 0 0 0 0 7 0 0 0 []) 1 ≠ (gorIn 0 0 3).fget 0 0 GOR_PEER_LO) ∧
    (frW (bare 1 0) 1 = (gorIn 0 0 3).fget 0 0 GOR_PEER_LO ∧ frW (bare 1 0) 2 = (gorIn 0 0 3).fget 0 0 GOR_PEER_HI ∧
      sdiff16 (frEpoch (bare 1 0)) ((gorIn 0 0 3).fget 0 0 GOR_STATUS_EPOCH) = 0 ∧
      0 < sdiff16 (frEpoch (bare 1 1)) ((gorIn 0 0 3).fget 0 0 GOR_STATUS_EPOCH) ∧
      sdiff16 (frEpoch (bare 1 0xFFFF)) ((gorIn 0 0 3).fget 0 0 GOR_STATUS_EPOCH) < 0) ∧
    gorSess (gorIn 0 0 4) 0 0 = 4 := by decide +kernel

theorem witness_SequencedFrameWindowAndCredit :
    let s := gorIn 0 0 3
    let f := fun q => mkFrame 4 0 0 0 q 0 0 0 0 0 []
    let r := creditRefresh 0 0 s
    sdiff32 (frSeq (f 0xFFFFFFFF)) (rcvNxt r 0 0) < 0 ∧ 255 < sdiff32 (frSeq (f 256)) (rcvNxt r 0 0) ∧
    sdiff32 (frSeq (f 255)) (rcvNxt r 0 0) = 255 ∧ sdiff32 (frSeq (f 0)) (rcvNxt r 0 0) = 0 ∧ (r.gor 0 0).staged = [] ∧
    beyondCredit r 0 0 (f 0) = false ∧ beyondCredit r 0 0 (f 255) = false ∧ gorLive r 0 0 = true ∧ beyondCredit r 0 0 (mkFrame 4 0 0 0 0 0 0 0 0 0x1000 []) = true := by decide +kernel

theorem witness_GorgeTimerAndControlRows :
    gorOk State.reset 0 0 = true ∧ gorLive (gorIn 0 0 3) 0 0 = true ∧ isSender (gorIn 0 0 3) 0 0 = false ∧
    (((gorIn 0 0 3).setGor 0 0 { owed := true }).gor 0 0).owed = true ∧
    (let r := creditRefresh 0 0 ((gorIn 0 0 3).put64 0 0 GOR_BYTE_LO (2 ^ 24)); (r.gor 0 0).owed = false ∧ (r.gor 0 0).advertised + max 1 (r.fget 0 0 GOR_CREDIT_CFG_STEP) * 1024 ≤ creditLim r 0 0) ∧
    (((gorIn 0 0 3).setGor 0 0 { heardAt := some State.reset.now }).gor 0 0).heardAt = some (gorIn 0 0 3).now ∧
    ((gorIn 0 0 3).gor 0 0).heardAt ≠ some (gorIn 0 0 3).now ∧ (gorSess (gorIn 0 0 4) 0 0 = 4 ∧ openPages (gorIn 0 0 4) 0 0 = []) ∧
    (gorLive (mirrorSender 3) 0 1 = true ∧ isSender (mirrorSender 3) 0 1 = true) ∧
    (gorSess (mirrorSender 2) 0 1 = 2 ∧ isSender (mirrorSender 2) 0 1 = true) ∧
    (gorSess (mirrorSender 3) 0 1 = 3 ∧ ((mirrorSender 3).setGor 0 1 { held := [{ seq := 0, bytes := [], sentAt := 0 }] } |>.gor 0 1).held = { seq := 0, bytes := [], sentAt := 0 } :: []) ∧
    (gorSess (gorIn 0 0 4) 0 0 = 4 ∧ openPages ((gorIn 0 0 4).setBas 0 { tbl := [{ id := 5 }] }) 0 0 ≠ []) ∧
    (let s := ((gorIn 0 0 3).fput 0 0 BAS_CTRL_EN 1).setGor 0 0
        { openWait := true, staged := [(0, bare 7 0)] }; gorLive s 0 0 = true ∧ (s.gor 0 0).openWait = true ∧
      ((s.gor 0 0).staged.find? fun e => e.1 == rcvNxt s 0 0) = some (0, bare 7 0) ∧
      (reservable s 0 (reservation (layerEntries (bare 7 0))) || (s.fon 0 0 BAS_CTRL_POLICY && basEn s 0)) = true ∧
      ((processStaged 0 0 2 s).gor 0 1).openWait = false) ∧
    ((State.reset.gor 0 0).openWait = false ∧ (State.reset.gor 0 1).openWait = false) ∧
    (gorSess State.reset 0 0 = 0 ∧ State.reset.fget 0 0 GOR_CTRL_EN = 0 ∧ (1#32 &&& 3#32) = 1#32) := by decide +kernel


/-! ### basin -/

/-- The Basin of hearth 0 with one held page in a state, its one slot's job as given. -/
def holding (st : PageSt) (job : JobSt) (x : Slot := {}) (s : State := State.reset) : State :=
  s.setBas 0 { s.bas 0 with tbl := [{ id := 5, st := st, complSeq := 1, slots := [{ x with job := job }] }] }

/-- The regions of hearth 0 laid out apart: Basin 64 MB at 0, decode area 16 MB, readback area, Echo above them. -/
def laidOut : State :=
  ((((State.reset.put64 0 0 BAS_RING_SIZE_LO (64 * 2 ^ 20)).put64 0 0 BAS_DEC_BASE_LO (64 * 2 ^ 20)).put64 0 0 BAS_DEC_SIZE_LO
    (16 * 2 ^ 20)).put64 0 0 BAS_RB_BASE_LO (80 * 2 ^ 20)).put64 0 0 ISP_ECHO_BASE_LO (96 * 2 ^ 20)

theorem witness_BasinEnableAndDrain :
    (State.reset.hasH 0 = true ∧ laidOut.fon 0 0 BAS_CTRL_EN = false ∧ (laidOut.bas 0).draining = false ∧
      (stored BLK_BAS true 0 0 0 1#32 laidOut).fon 0 0 BAS_CTRL_EN = true ∧
      dramFailed (stored BLK_BAS true 0 0 0 1#32 laidOut) 0 = false ∧ basCfgOk (stored BLK_BAS true 0 0 0 1#32 laidOut) 0 = true) ∧
    (basCfgOk (stored BLK_BAS true 0 0 0 1#32 State.reset) 0 = false) ∧
    ((laidOut.fput 0 0 BAS_CTRL_EN 1).fon 0 0 BAS_CTRL_EN = true ∧
      (stored BLK_BAS false 0 0 0 0#32 (laidOut.fput 0 0 BAS_CTRL_EN 1)).fon 0 0 BAS_CTRL_EN = false) := by decide +kernel

theorem witness_DecodeJobStarts :
    let s := (holding .complete .waiting).fput 0 0 BAS_CTRL_EN 1
    let d := (s.fput 0 0 CIN_CTRL_EN 1).fput 0 0 CIN_STATUS_STATE 1
    basActive s 0 = true ∧ (nextJob s 0).isSome = true ∧ s.fon 0 0 CIN_CTRL_EN = false ∧ s.fon 0 1 CIN_CTRL_EN = false ∧
    decIdle d 0 0 = true ∧ (nextJob d 0).isSome = true ∧ basActive d 0 = true ∧
    decIdle ((s.fput 0 1 CIN_CTRL_EN 1).fput 0 1 CIN_STATUS_STATE 1) 0 1 = true ∧
    decIdle ((s.fput 0 1 CIN_CTRL_EN 1).fput 0 1 CIN_STATUS_STATE 1) 0 0 = false ∧
    (let u := ((holding .complete .waiting { ulen := 2 ^ 40 }).fput 0 0 BAS_CTRL_EN 1)
     (nextJob u 0).isSome = true ∧ decSizeLessHost u 0 < (({ ulen := 2 ^ 40 } : Slot)).ulen) := by decide +kernel

/-- One literal job of one byte in the ring of hearth 0. -/
def oneByteJob : State :=
  let j := litJob 1 [7#8]
  let s := holding .complete (.running 0) { clen := j.length, ulen := 1, buf := some 0x4000000 } laidOut
  s.dwrites 0 (ringAddr s 0 0) j

theorem witness_DecodeJobEnds :
    (runningJob oneByteJob 0 0).isSome = true ∧
    (jobResult oneByteJob 0 0 { clen := (litJob 1 [7#8]).length, ulen := 1 }).status = stOK ∧
    (runningJob (holding .complete (.running 1)) 0 1).isSome = true ∧
    (jobResult (holding .complete (.running 1)) 0 1 {}).status ≠ stOK := by decide +kernel

theorem witness_EncoderRequestsAndEnds :
    let s := (State.reset.fput 0 2 CIN_CTRL_EN 1).fput 0 2 CIN_STATUS_STATE 1
    0x100 + 16 ≤ s.fitted 0 ∧ s.fon 0 2 CIN_CTRL_EN = true ∧ s.fget 0 2 CIN_STATUS_STATE = 1 ∧
    0x100 + 16 ≠ 0 ∧ 4 ≤ 262144 ∧ 0x200 + 64 ≤ s.fitted 0 ∧ s.fitted 0 < 2 ^ 40 + 1 ∧ ((s.setBas 0 { enc := some ⟨0, 16, 4, 64, 64, none⟩ }).bas 0).enc = some ⟨0, 16, 4, 64, 64, none⟩ := by
  decide +kernel

theorem witness_CinderEnableAndDrain :
    cinOk State.reset 0 0 = true ∧ State.reset.fon 0 0 CIN_CTRL_EN = false ∧ State.reset.fget 0 0 CIN_STATUS_STATE = 0 ∧
    dramFailed State.reset 0 = false ∧ (1#32 &&& 3#32) = 1#32 ∧ (0#32 &&& 3#32) = 0#32 ∧
    (State.reset.fput 0 0 CIN_CTRL_EN 1).fon 0 0 CIN_CTRL_EN = true ∧
    (State.reset.fput 0 0 CIN_STATUS_STATE 1).fget 0 0 CIN_STATUS_STATE = 1 ∧
    (State.reset.fput 0 0 CIN_STATUS_STATE 2).fget 0 0 CIN_STATUS_STATE = 2 ∧
    (State.reset.fput 0 0 CIN_STATUS_STATE 3).fget 0 0 CIN_STATUS_STATE = 3 ∧ 0 ∉ (State.reset.bas 0).cinAgain ∧
    (let s := (State.reset.fput 0 0 CIN_STATUS_STATE 3).setBas 0 { cinAgain := [0] }
     s.fget 0 0 CIN_STATUS_STATE = 3 ∧ 0 ∈ (s.bas 0).cinAgain ∧ dramFailed s 0 = false) := by decide +kernel

theorem witness_PagesRetireAndLeaveTheTable :
    (findPage (holding .fired .ok) 0 5).isSome = true ∧ inspectionOff (holding .fired .ok) 0 = true ∧
    (let s := ((holding .fired .ok).fput 0 0 ISP_CTRL_ECHO_EN 1).fput 0 0 ISP_CTRL_CMP_EN 1 |>.fput 0 0 CAM_CTRL_EN 1
     inspectionOff s 0 = false ∧ inspectionClosed s 0 { id := 5 } = false) ∧
    (findPage (holding .complete .ok) 0 5).isSome = true ∧ mirrorHolds (holding .complete .ok) 0 5 = false ∧
    mirrorHolds (((holding .retired .ok).fput 0 1 GOR_CTRL_ROLE 1).fput 0 1 GOR_STATUS_SESS 3 |>.setGor 0 1
      { backlog := [mkFrame 4 0 0 0 0 5 0 0 0 0 []] }) 0 5 = true := by decide +kernel


/-! ### terrace -/

/-- TER of hearth 0 with a slot running. -/
def inSlot (s : State := State.reset) : State := s.fput 0 0 TER_STATUS_SLOT 1

theorem witness_TerraceEnableDrainAndForceOff :
    (State.reset.hasH 0 = true ∧ (1#32 &&& 3#32) = 1#32 ∧ State.reset.fon 0 0 TER_CTRL_EN = false ∧ (State.reset.ter 0).draining = false) ∧
    ((0#32 &&& 3#32) = 0#32 ∧ (State.reset.fput 0 0 TER_CTRL_EN 1).fon 0 0 TER_CTRL_EN = true ∧
      (State.reset.fput 0 0 TER_CTRL_EN 1).fget 0 0 TER_STATUS_SLOT = 0) ∧
    ((inSlot.fput 0 0 TER_CTRL_EN 1).fon 0 0 TER_CTRL_EN = true ∧ inSlot.fget 0 0 TER_STATUS_SLOT ≠ 0) ∧
    ((State.reset.setTer 0 { draining := true }).ter 0).draining = true := by decide +kernel

theorem witness_TableSwapAndTablePort :
    State.reset.hasH 0 = true ∧ State.reset.hasH 8 = false ∧ State.reset.fget 0 0 TER_STATUS_SLOT = 0 ∧
    (inSlot.hasH 0 = true ∧ inSlot.fget 0 0 TER_STATUS_SLOT ≠ 0 ∧ inSlot.fon 0 0 TER_STATUS_PAST_POINT = false) ∧
    (inSlot.fput 0 0 TER_STATUS_PAST_POINT 1).fon 0 0 TER_STATUS_PAST_POINT = true ∧
    ((State.reset.fput 0 0 GRT_STATUS_COPY 1).fon 0 0 GRT_STATUS_COPY = true ∧ (State.reset.fput 0 0 GRT_STATUS_COPY 1).hasH 0 = true) ∧
    (State.reset.fon 0 0 GRT_STATUS_COPY = false ∧ State.reset.fget 0 0 GRT_TBL_ADDR_TABLE ≤ 4 ∧
      (State.reset.fput 0 0 GRT_TBL_ADDR_INDEX 65535).fget 0 0 GRT_TBL_ADDR_INDEX ≤ grtLast 0) ∧
    (let s := (State.reset.fput 0 0 GRT_TBL_ADDR_TABLE 4).fput 0 0 GRT_TBL_ADDR_INDEX 16384
     s.fon 0 0 GRT_STATUS_COPY = false ∧ grtLast (s.fget 0 0 GRT_TBL_ADDR_TABLE) < s.fget 0 0 GRT_TBL_ADDR_INDEX) := by decide +kernel

theorem witness_GrateDisableRefusedWhileTerraceRuns :
    State.reset.hasH 8 = false ∧
    (let s := inSlot.fput 0 0 GRT_CTRL_EN 1
     s.hasH 0 = true ∧ s.fon 0 0 GRT_CTRL_EN = true ∧ (0#32).getLsbD 0 = false ∧ s.fget 0 0 TER_STATUS_SLOT ≠ 0) ∧
    (let s := State.reset.fput 0 0 GRT_CTRL_EN 1
     s.hasH 0 = true ∧ s.fget 0 0 TER_STATUS_SLOT = 0 ∧ (0x10#32).getLsbD 4 = true ∧ (0#32).getLsbD 4 = false) := by decide +kernel

theorem witness_AshQueueRows :
    (49151 < 49152 ∧ 49152 < 65536) ∧ (State.reset.fput 0 0 ASH_CTRL_Q_EN 0).fon 0 0 ASH_CTRL_Q_EN = false ∧
    (State.reset.fput 0 0 ASH_CTRL_Q_EN 1).fon 0 0 ASH_CTRL_Q_EN = true ∧ (State.reset.ter 0).ashQ.length < 256 ∧
    256 ≤ ((State.reset.setTer 0 { ashQ := List.replicate 256 (0, 0, 0) }).ter 0).ashQ.length ∧
    State.reset.get64 0 0 ASH_UPD_LINE_LO < ((State.reset.setTer 0 { ashLast := 1 }).ter 0).ashLast := by decide +kernel

theorem witness_PrivilegedArmCapturesStagedWords :
    State.reset.hasH 0 = true ∧ State.reset.get64 0 0 TER_PRIV_LINE_LO < lnum State.reset 0 + 3 := by decide +kernel

theorem witness_GrateLevelsBoundedAndMaskedColumnsSilent :
    ∀ (x : Nat) (k : Col), (#[({ fl := some 3 } : Col)])[x]? = some k → ∀ l, k.fl = some l → l ≤ 3 := by
  intro x k hk l hl
  match x with
  | 0 => simp at hk; subst hk; simp at hl; omega
  | n + 1 => simp at hk


/-! ### firebox -/

/-- Port 0 of hearth 0 in a state, its PWR and EN as given. -/
def portIn (st pwr en : Nat) (s : State := State.reset) : State :=
  ((s.fput 0 0 FBX_STATUS_STATE st).fput 0 0 FBX_CTRL_PWR pwr).fput 0 0 FBX_CTRL_EN en

theorem witness_HeadPortStateMachine :
    (portOk State.reset 0 0 = true ∧ portState State.reset 0 0 = 0 ∧
      (State.reset.fput 0 0 FBX_CTRL_AUTO_PWR 0).fon 0 0 FBX_CTRL_AUTO_PWR = false ∧
      (State.reset.fput 0 0 FBX_CTRL_AUTO_PWR 1).fon 0 0 FBX_CTRL_AUTO_PWR = true) ∧
    ((stored BLK_FBX true 0 0 0 4#32 (portIn 1 0 0)).fon 0 0 FBX_CTRL_PWR = true ∧
      (stored BLK_FBX true 0 0 0 4#32 (portIn 1 0 0)).fon 0 0 FBX_CTRL_EN = false) ∧
    ((stored BLK_FBX false 0 0 0 1#32 (portIn 4 1 1)).fon 0 0 FBX_CTRL_PWR = false ∧
      (stored BLK_FBX false 0 0 0 1#32 (portIn 4 1 1)).fon 0 0 FBX_CTRL_EN = (portIn 4 1 1).fon 0 0 FBX_CTRL_EN) ∧
    ((stored BLK_FBX true 0 0 0 8#32 (portIn 2 1 0)).fon 0 0 FBX_CTRL_PWR = false ∧
      (stored BLK_FBX true 0 0 0 8#32 (portIn 2 1 0)).fon 0 0 FBX_CTRL_EN = false ∧ (portIn 2 1 0).fon 0 0 FBX_CTRL_EN = false ∧
      (stored BLK_FBX true 0 0 0 8#32 (portIn 2 1 0)).fon 0 0 FBX_CTRL_AUTO_PWR = true) ∧
    ((stored BLK_FBX true 0 0 0 0#32 (portIn 3 1 0)).fon 0 0 FBX_CTRL_PWR = false ∧
      (stored BLK_FBX true 0 0 0 5#32 (portIn 3 1 0)).fon 0 0 FBX_CTRL_PWR = true ∧
      (stored BLK_FBX true 0 0 0 5#32 (portIn 3 1 0)).fon 0 0 FBX_CTRL_EN = true) ∧
    ((stored BLK_FBX false 0 0 0 4#32 (portIn 4 1 1)).fon 0 0 FBX_CTRL_PWR = true ∧
      (stored BLK_FBX false 0 0 0 4#32 (portIn 4 1 1)).fon 0 0 FBX_CTRL_EN = false ∧ ((portIn 4 1 1).fbx 0 0).pwrOff = false) ∧
    (((portIn 5 1 1).setFbx 0 0 { strobes := 1 }).fbx 0 0).strobes ≠ 0 ∧ portState (portIn 2 1 0) 0 0 = 2 := by decide +kernel

theorem witness_PortSamplesSetWidthsAndTemperature :
    sampling (portIn 3 1 0) 0 0 = true ∧ ((portIn 3 1 0).fbx 0 0).snsDue = false ∧
    sampling ((portIn 3 1 0).setFbx 0 0 { snsDue := true }) 0 0 = true ∧ (((portIn 3 1 0).setFbx 0 0 { snsDue := true }).fbx 0 0).snsDue = true ∧
    1000 % 4096 * ((portIn 3 1 0).fput 0 0 FBX_VCAL_VGAIN 256).fget 0 0 FBX_VCAL_VGAIN / 256 < 65536 ∧
    (portIn 3 1 0).sget 0 0 FBX_TLIM_HARD ≤ tempOf ((portIn 3 1 0).wr 0 0 BLK_FBX 0x20 (0x7FFF#32)) 0 0 (0 % 4096) := by
  decide +kernel

theorem witness_ShiftAndStrobeEnds :
    (bit ((State.reset.setFbx 0 0 { strobes := 3 }).fbx 0 0).strobes 1 = true ∧
      ((State.reset.setFbx 0 0 { strobes := 3 }).fbx 0 0).strobes ^^^ 2 ^ 1 ≠ 0) ∧
    ((State.reset.setFbx 0 0 { strobes := 8 }).fbx 0 0).strobes = 2 ^ 3 ∧
    ((State.reset.fbx 0 0).shifting = false) ∧
    (((State.reset.setFbx 0 0 { shifting := true }).fbx 0 0).shifting = true ∧ ((State.reset.setFbx 0 0 { shifting := true }).fbx 0 0).lost = none) ∧
    lostFirst (some 9) ((State.reset.setFbx 0 0 { shifting := true, lost := some 4 }).fbx 0 0).lost = some 4 := by decide +kernel

/-- Port 3 of hearth 0 , of eight nozzles, requests the map whose first nozzle stands at a column. -/
def mapAsked (start : Nat) : State :=
  ((State.reset.fput 0 3 FBX_CMAP_APPLY 1).fput 0 3 FBX_CMAP_START start).fput 0 3 FBX_HEAD_NOZ_M1 1

theorem witness_ColumnMapsAppliedTogether :
    portState (mapAsked 0) 0 3 ≠ 5 ∧ below 12 (requests (mapAsked 0) 0) ≠ [] ∧ mapped (mapAsked 0) 0 3 = false := by decide +kernel

theorem witness_column_map_good : (below 12 (requests (mapAsked 0) 0)) = [3] ∧ mapsOk [stagedMap (mapAsked 0) 0 3] = true := by
  decide +kernel

theorem witness_column_map_bad : mapsOk [stagedMap (mapAsked 65535) 0 3] = false := by decide +kernel

theorem witness_DamperBinMovesTheWindow :
    State.reset.hasH 0 = true ∧ (tabGet (fun _ => []) (State.reset.dmp 0).past 5).length ≤ 63 := by decide +kernel

/-- A Damper of limit `n` over a budget of `b` units, each drop costing its level. -/
def damperOf (n b : Nat) (noz head : Bool) : DmpCfg :=
  { nozEn := noz, headEn := head, nLim := n, budget := fun _ => b, cost := fun _ l => l }

theorem witness_DamperSuppressesOrRecordsEachDrop :
    (1 ≤ (tabGet (fun _ => []) [(5, [9])] (4096 * 0 + 5)).length ∧ (damperOf 1 2 true true).nLim = 1) ∧
    (damperOf 1 2 false true).budget 0 < winSum {} 0 + (damperOf 1 2 false true).cost 0 3 ∧
    winSum {} 0 + (damperOf 1 2 true true).cost 0 2 ≤ (damperOf 1 2 true true).budget 0 := by decide +kernel

/-- A limit of two over five lines of one nozzle: the first two pass, the rest are suppressed. -/
theorem witness_NozzleFiresAtMostLimitInAnyWindow :
    tabWf (fun _ => (0 : Nat)) [(3, 1)] = true ∧ (∀ e ∈ ([(3, 1)] : Tab Nat), e.1 < 8) ∧
    (List.range 5).map (fun j => tabGet (fun _ => 0) (damperPort (damperOf 2 9 true false) j 0 8 [(3, 1)]
      (damperLines (damperOf 2 9 true false) 0 8 (fun _ => [(3, 1)]) { x := {} } j)).1 3) = [1, 1, 0, 0, 0] := by decide +kernel

theorem witness_FenderGates :
    bit State.reset.gates 2 = false ∧ bit ({ State.reset with gates := 4 } : State).gates 2 = true := by decide +kernel


/-! ### draught -/

/-- The Draught of hearth 0 enabled, in a state. -/
def drtIn (st : Nat) (s : State := State.reset) : State := (s.fput 0 0 DRT_CTRL_EN 1).fput 0 0 DRT_STATUS_STATE st

theorem witness_DraughtEnableHoldAndResume :
    (State.reset.fon 0 0 DRT_CTRL_EN = false ∧ drtState State.reset 0 = 0 ∧ bits (0x21#32).toNat DRT_CTRL_EN.lo 1 = 1 ∧
      bits (0x21#32).toNat DRT_CTRL_MODE.lo DRT_CTRL_MODE.len = 2 ∧ bits (1#32).toNat DRT_CTRL_MODE.lo DRT_CTRL_MODE.len ≤ 1 ∧
      bits (0x21#32).toNat DRT_CTRL_RESUME.lo 1 = 0 ∧ bits (0x21#32).toNat DRT_CTRL_START_ARM.lo 1 = 0) ∧
    ((drtIn 3).fon 0 0 DRT_CTRL_EN = true ∧ drtState (drtIn 3) 0 ≠ 0 ∧ bits (0#32).toNat DRT_CTRL_EN.lo 1 = 0) ∧
    drtState (drtIn 5) 0 = 5 ∧ drtState (drtIn 2) 0 ≠ 1 := by
  decide +kernel

theorem witness_DraughtStartPosition :
    (drtState (drtIn 1) 0 = 1 ∧ (drtIn 1).fget 0 0 DRT_CTRL_MODE ≠ 1 ∧
      0 ≤ toS 32 (ofS 32 (drtCount (drtIn 1) 0 - toS 32 ((drtIn 1).fget 0 0 DRT_START)))) ∧
    (let s := (drtIn 1).fput 0 0 DRT_START 100
     toS 32 (ofS 32 (drtCount s 0 - toS 32 (s.fget 0 0 DRT_START))) < 0) ∧
    (let s := (drtIn 2).setDrt 0 { start := 5 }
     drtState s 0 = 2 ∧ toS 32 (ofS 32 (drtCount s 0 - (s.drt 0).start)) < 0) ∧
    0 ≤ toS 32 (ofS 32 (drtCount (drtIn 2) 0 - ((drtIn 2).drt 0).start)) := by decide +kernel

theorem witness_DraughtReversal :
    (let s := (drtIn 3).setDrt 0 { high := 3 }
     drtState s 0 = 3 ∧ aboveMark s 0 < -(s.fget 0 0 DRT_CTRL_REV : Int)) ∧
    (let s := (drtIn 3).setDrt 0 { high := 2 }
     aboveMark s 0 ≥ -(s.fget 0 0 DRT_CTRL_REV : Int)) ∧
    (drtState (drtIn 4) 0 = 4 ∧ 0 ≤ aboveMark (drtIn 4) 0) ∧ aboveMark ((drtIn 4).setDrt 0 { high := 1 }) 0 < 0 := by decide +kernel

theorem witness_DraughtLoopArithmetic :
    State.reset.hasH 8 = false ∧ drtState State.reset 0 = 0 ∧ 5 ≤ drtState (drtIn 5) 0 ∧
    (State.reset.hasH 0 = true ∧ (drtIn 3).hasH 0 = true ∧ drtState (drtIn 3) 0 = 3 ∧
      drtGains[(drtIn 3).fget 0 0 DRT_CTRL_BW]? = some (149, 20, 174, 24)) ∧
    (drtState (drtIn 4) 0 = 4 ∧ drtGains[(drtIn 4).fget 0 0 DRT_CTRL_BW]? = some (149, 20, 174, 24)) ∧
    dueClock (2 ^ 40 - 5) 1 1 = some 5 ∧ dueClock 0 0 1 = none := by decide +kernel

/-- RUN with a boundary reached, the twin off. -/
def boundaryReached : State := (drtIn 3).setDrt 0 { pend := true }

theorem witness_LineTriggerCountsAndFires :
    triggerDue State.reset 0 = false ∧ triggerDue boundaryReached 0 = true ∧ boundaryReached.twn.cmds = [] ∧ drtState boundaryReached 0 ≠ 6 ∧
    (triggerDue (drtIn 6) 0 = true ∧ (drtIn 6).twn.cmds = [] ∧ drtState (drtIn 6) 0 = 6) ∧
    (State.reset.fput 0 5 (FBX_PHASE_EN 3) 1).fon 0 5 (FBX_PHASE_EN 3) = true := by decide +kernel


/-! ### feedback -/

/-- Quadrature channel 0 of hearth 0 enabled. -/
def quadOn (s : State := State.reset) : State := s.fput 0 0 FBK_QCTRL_EN 1

theorem witness_QuadratureCounting :
    quadOk 0 0 = true ∧ quadEn quadOn 0 0 = true ∧ (quadOn.quad 0 0).wires = 0 ∧ (quadOn.quad 0 0).slewD = 0 ∧
    (quadOn.fput 0 0 FBK_IDX_CFG_PER 0).fget 0 0 FBK_IDX_CFG_PER = 0 ∧ bit (quadOn.fget 0 0 FBK_STATUS_ZBA) 0 = false ∧
    bit ((quadOn.fput 0 0 FBK_STATUS_ZBA 3).fget 0 0 FBK_STATUS_ZBA) 1 = true := by decide +kernel

theorem witness_IndexLatchedAndChecked :
    bit (quadOn.quad 0 0).wires 2 = false ∧ quadOn.fon 0 0 FBK_QCTRL_IDX_LEARN = true ∧ (quadOn.quad 0 0).idxSeen = false ∧
    ((quadOn.setQuad 0 0 { idxSeen := true }).quad 0 0).idxSeen = true ∧ (quadOn.fput 0 0 FBK_IDX_CFG_PER 100).fget 0 0 FBK_IDX_CFG_PER ≠ 0 ∧
    idxDev 102 0 100 = 2 ∧ idxDev 99 0 100 = -1 ∧ idxDev 150 0 100 = -50 := by decide +kernel

theorem witness_ChannelFaultsAndTheirClearing :
    bit (quadOn.quad 0 0).wires 2 = false ∧ (0#32 &&& 3#32) = 0#32 ∧ causeNow quadOn 0 0 = 0 ∧ causeNow State.reset 0 0 ≠ 0 := by
  decide +kernel

theorem witness_SpeedHallAndSsi :
    (hallOk 1 5 = true ∧ (State.reset.fput 1 5 FBK_HCTRL_EN 1).fon 1 5 FBK_HCTRL_EN = true ∧
      (State.reset.fput 1 5 FBK_HSTATUS_S 6).fget 1 5 FBK_HSTATUS_S = [1, 3, 2, 6, 4, 5].getD 3 0) ∧
    (ssiOk 0 6 = true ∧ (State.reset.fput 0 6 FBK_SCTRL_EN 1).fon 0 6 FBK_SCTRL_EN = true ∧ (State.reset.ssi 0 6).busy = false ∧
      (State.reset.ssi 0 6).due = false ∧ (State.reset.ssi 0 6).pair = false ∧ ((State.reset.setSsi 0 6 { due := true, pair := true }).ssi 0 6).due = true ∧
      ssiDue (State.reset.fput 0 6 FBK_SCTRL_TRIG 0) 0 6 = true ∧ (State.reset.fput 0 6 FBK_SCTRL_TRIG 1).fon 0 6 FBK_SCTRL_TRIG = true ∧
      ((State.reset.setSsi 0 6 { busy := true, wire := true }).ssi 0 6).wire = true ∧
      (State.reset.fput 0 6 FBK_SCTRL_GRAY 1).fon 0 6 FBK_SCTRL_GRAY = true) := by decide +kernel


/-! ### motion -/

/-- Axis 0 in a state, EN 1. -/
def axisIn (st : Nat) (x : AxX := {}) (s : State := State.reset) : State :=
  ((s.fput 0 0 MOT_CTRL_EN 1).fput 0 0 MOT_STATUS_STATE st).setAxis 0 x

theorem witness_MoveQueuePush :
    (axisOk 0 = true ∧ bits (0#32).toNat MOT_Q_PUSH_KIND.lo 1 = 0 ∧ 1 ≤ axState (axisIn 1) 0 ∧ axState (axisIn 1) 0 ≤ 3 ∧
      ((axisIn 1).axis 0).queue.length < 16 ∧
      (let s := (axisIn 1).fput 0 0 MOT_Q_TARGET 1000
       limitActive s 0 (sgn (toS 32 (s.mget 0 MOT_Q_TARGET) - queueEnd s 0)) = false)) ∧
    axState State.reset 0 = 0 ∧ 16 ≤ ((axisIn 1 { queue := List.replicate 16 ⟨0, 0, false, none, none⟩ }).axis 0).queue.length ∧
    vCap (axisIn 1) 0 / 2 ^ 16 < ((axisIn 1).fput 0 0 MOT_Q_VMAX 0xFFFFFFFF).mget 0 MOT_Q_VMAX := by decide +kernel

theorem witness_AxisStepsProfileAndFrames :
    (let x := (axisIn 2 { v := 2 ^ 40 }).axis 0
     x.v ≠ 0 ∧ x.clk + (2 ^ 48 - x.acc + x.v - 1) / x.v ≤ 1000) ∧
    (let x := (axisIn 2 { v := 2 ^ 30 }).axis 0
     1000 < x.clk + (2 ^ 48 - x.acc + x.v - 1) / x.v) ∧
    (let s := axisIn 2 { cur := some ⟨500, 9, false, none, none⟩, dCur := 1 }
     axState s 0 = 2 ∧ (s.axis 0).cur = some ⟨500, 9, false, none, none⟩ ∧ (s.axis 0).dCur ≠ 0 ∧ (500 : Int) ≠ axPos s 0) ∧
    (let s := axisIn 3 { ramp := true, v := 2 ^ 30, dCur := 1 }
     axState s 0 = 3 ∧ (s.axis 0).dCur * 256 < (s.axis 0).v) ∧
    (let s := axisIn 3 { ramp := true, v := 256, dCur := 1 }
     (s.axis 0).v ≤ (s.axis 0).dCur * 256 ∧ 1000 < (s.axis 0).clk + (2 ^ 48 - (s.axis 0).acc + (s.axis 0).v - 1) / (s.axis 0).v) ∧
    (let s := (axisIn 1 { cmd := 3, seq := 7 }).fput 0 0 MOT_CFG_OUT 1
     s.mon 0 MOT_CFG_OUT = true ∧ (s.axis 0).cmd < 4 ∧ (s.axis 0).seq < 8) := by decide +kernel

theorem witness_StandstillAndSwitches :
    (axState (axisIn 1) 0 = 1 ∧ axState (axisIn 5) 0 = 5 ∧ ((axisIn 1 { cmd := 0 }).axis 0).v = 0 ∧ ((axisIn 1 { cmd := 0 }).axis 0).cmd = 0) ∧
    (let s := axisIn 2 { limp := true, dirn := 1, cur := some ⟨500, 9, false, none, none⟩ }
     false ≠ (s.axis 0).limp ∧ false = s.mon 0 MOT_CFG_LIM_POL ∧ (s.axis 0).dirn = 1 ∧ (s.axis 0).cur.isSome = true ∧ axState s 0 ≠ 6) ∧
    (let s := axisIn 1 { limn := false }
     true ≠ (s.axis 0).limn ∧ true ≠ s.mon 0 MOT_CFG_LIM_POL) ∧
    (let s := axisIn 4 { homing := 1, home := true }
     false ≠ (s.axis 0).home ∧ (s.axis 0).homing = 1) := by decide +kernel

theorem witness_AxisControlWrites :
    homeActive (axisIn 1 { home := true }) 0 = false ∧
    limitActive (axisIn 1 { limn := true, limp := true }) 0 (if (axisIn 1).mon 0 MOT_HOME_DIR then 1 else -1) = false ∧
    axState (axisIn 2) 0 = 2 ∧ axState (axisIn 5) 0 = 5 ∧ (axState State.reset 0 = 0 ∧ State.reset.mon 0 MOT_CTRL_EN = false) ∧
    (1#32 &&& 0x1F#32) = 1#32 ∧ (0#32 &&& 0x1F#32) = 0#32 ∧ ((axisIn 1).axis 0).cur = none ∧ ((axisIn 1).axis 0).again = false ∧
    axState (axisIn 6) 0 = 6 := by decide +kernel


/-! ### flue -/

/-- A queue of hearth 0 with the given words. -/
def queued (q : Nat) (ws : List (Word × Bool)) : State := State.reset.setFlue 0 q { words := ws, timing := true }

theorem witness_PopOfEmptyQueue :
    fluOk State.reset 0 31 = true ∧ (State.reset.flue 0 31).words = [] ∧ ((queued 3 [(5#32, false)]).flue 0 3).words ≠ [] ∧
    bits (6#32).toNat (FLU_Q_CFG_DEPTH 3).lo (FLU_Q_CFG_DEPTH 3).len ≠ State.reset.fget 0 0 (FLU_Q_CFG_DEPTH 3) ∧
    bits (State.reset.rd 0 0 BLK_FLU (FLU_Q_CFG_DEPTH 3).word).toNat (FLU_Q_CFG_DEPTH 3).lo (FLU_Q_CFG_DEPTH 3).len =
      State.reset.fget 0 0 (FLU_Q_CFG_DEPTH 3) ∧ (8#32).getLsbD 3 = true ∧
    ((queued 3 []).flue 0 3).timing = true ∧ (State.reset.fput 0 0 (FLU_Q_CFG_STALE 3) 5).fget 0 0 (FLU_Q_CFG_STALE 3) ≠ 0 := by
  decide +kernel

theorem witness_FlueKeepsItsWordsInOrder :
    [1#32, 2#32].length ≤ flueCap State.reset 0 0 ∧ (State.reset.flue 0 0).words.length < flueCap State.reset 0 0 ∧
    flueCap (State.reset.fput 0 0 (FLU_Q_CFG_DEPTH 0) 0) 0 0 = 16 ∧
    16 ≤ ((queued 0 (List.replicate 16 (0, false))).flue 0 0).words.length ∧ parity32 (1#32 ^^^ 0#32) ≠ false := by decide +kernel


/-! ### chimney -/

/-- A packet of class F, one of class C. -/
def fPkt : Pkt := { req := 0, src := 0, dst := 0, mem := some 0, len := 1, slots := 1 }
def cPkt : Pkt := { req := 2, src := 0, dst := 0, mem := some 0, len := 1, slots := 1 }

/-- An output of hearth 0 in a state. -/
def outputIn (o : Nat) (x : OutX) : State := State.reset.setChm 0 { outs := [(o, x)] }

theorem witness_LinksAndArbiters :
    linkUp { State.reset with linksLost := [] } 0 1 = true ∧
    (linkPresent { State.reset with linksLost := [1, 4] } 0 1 = true ∧ linkUp { State.reset with linksLost := [1, 4] } 0 1 = false) ∧
    (let r := (tabGet (fun _ => []) (({ State.reset.setChm 0 { resends := [(1, List.replicate 16 0)] } with linksLost := [] } : State).chm 0).resends 1)
     16 ≤ (r.filter fun t => decide ((0 : Nat) < t + 400000)).length) ∧
    (let s := outputIn 3 { f := [fPkt] }
     (tabGet (fun _ => {}) (s.chm 0).outs 3).f = [fPkt] ∧ (tabGet (fun _ => {}) (s.chm 0).outs 3).served < 64 ∧
       (tabGet (fun _ => {}) (s.chm 0).outs 3).fUsed < fCap s 0 3) ∧
    (let q : ArbQ := { cls := 1, src := 0, pkts := [cPkt], fresh := true }
     let s := outputIn 4 { active := [q] }
     (tabGet (fun _ => {}) (s.chm 0).outs 4).f = [] ∧ (tabGet (fun _ => {}) (s.chm 0).outs 4).active = [q] ∧
       cPkt.len ≤ q.deficit + quantum s 0 4 q.cls * clampN 1 63 cPkt.cnt) ∧
    (let q : ArbQ := { cls := 1, src := 2, pkts := [cPkt], fresh := true }
     let s := outputIn 12 { active := [q] }
     (s.outX 0 (8 + 4)).active = [q] ∧ cPkt.len ≤ q.deficit + quantum s 0 4 q.cls) ∧
    (⟨2, 0, some 64, 1, 1⟩ : Request).req < 22 := by decide +kernel

theorem witness_MemoryControllers :
    drmState State.reset 0 ≤ 1 ∧ drmState (State.reset.fput 0 0 DRM_STATUS_STATE 2) 0 = 2 ∧ (State.reset.fput 0 0 DRM_CFG_LECC 1).fon 0 0 DRM_CFG_LECC = true ∧
    (State.reset.fget 0 0 DRM_RETRAIN_TSTEP ≠ 0 ∧
      State.reset.fget 0 0 DRM_RETRAIN_TSTEP ≤ (toS 16 9000 - tabGet (fun _ => 0) (State.reset.chm 0).temp 0).natAbs) ∧
    (8 ≤ tabGet (fun _ => 0) ((State.reset.setChm 0 { owed := [(17, 8)] }).chm 0).owed (16 * 1 + 1)) ∧
    (State.reset.fput 0 0 DRM_NRR_EN 1).fon 0 0 DRM_NRR_EN = true ∧ 0x40000 < State.reset.fitted 0 ∧
    (dramPlace State.reset 0 0x40000).2.2.2 ≠ 0 ∧ (dramPlace State.reset 0 0x40000).2.2.2 + 1 < State.reset.fitted 0 / 131072 := by
  decide +kernel


/-! ### inspection -/

/-- Camera port 0 of hearth 0 enabled, in a state. -/
def camIn (st : Nat) (x : CamX := {}) (s : State := State.reset) : State :=
  ((s.fput 0 0 CAM_CTRL_EN 1).fput 0 0 CAM_STATUS_STATE st).setCam 0 0 x

/-- A CSI-2 packet of a header of 26 bits, with its check bits, and its payload. -/
def csiOf (d : Nat) (rest : List Byte) : List Byte := leBytes 3 (d % 2 ^ 24) ++ [BitVec.ofNat 8 (csiEcc d + d / 2 ^ 24 * 64)] ++ rest

/-- A payload of two RAW12 pixels with its CRC. -/
def twoPixels : List Byte := [1, 2, 3] ++ leBytes 2 (csiCrc [1, 2, 3])

theorem witness_CameraPorts_packets :
    State.reset.hasH 0 = true ∧ ispRuns State.reset 0 = false ∧ camState (camIn 1) 0 0 ≠ 0 ∧
    csiCorrect [0, 0, 0] = none ∧ csiCorrect (csiOf 0 []) = some (0, false) ∧
    (0 / 64 % 4 + 4 * (0 / 2 ^ 24 % 4) = (camIn 1).fget 0 0 CAM_CTRL_VC) ∧ ((camIn 1).cam 0 0).frame = false ∧
    camMode ((camIn 1).fput 0 0 CAM_TRIG_MODE 2) 0 0 ≠ 0 ∧ csiCorrect (csiOf 1 []) = some (1, false) ∧
    csiCorrect ([1#8 ^^^ (csiOf 0x40 []).headD 0] ++ (csiOf 0x40 []).tail) = some (0x40, true) ∧
    csiCorrect (csiOf 0x1E []) = some (0x1E, false) ∧ ((camIn 3 { frame := true }).cam 0 0).got < camLines (camIn 3) 0 0 := by
  decide +kernel

theorem witness_CameraPorts_line :
    let s := ((camIn 3 { frame := true }).fput 0 0 CAM_CTRL_DT 1).fput 0 0 CAM_GEOM_WIDTH 2
    let p := csiOf (0x2C + 256 * 3) twoPixels
    csiCorrect p = some (0x2C + 256 * 3, false) ∧ s.fon 0 0 CAM_CTRL_DT = true ∧ (slice p 4 3).length = (0x2C + 256 * 3) / 256 % 65536 ∧
    leAt p (4 + 3) 2 = csiCrc (slice p 4 3) ∧ camHeld s 0 0 < 63 ∧
    lineSamples 0x2C (slice p 4 3) (s.fget 0 0 CAM_GEOM_WIDTH) = some [19, 32] ∧ leAt (csiOf (0x2C + 256 * 3) [1, 2, 3, 0, 0]) 7 2 ≠ csiCrc [1, 2, 3] := by
  decide +kernel

theorem witness_CameraPorts_control :
    (let s := (camIn 2 { tuDue := true }).fput 0 0 CAM_TRIG_MODE 2
     s.fon 0 0 CAM_CTRL_EN = true ∧ camState s 0 0 ≠ 0 ∧ camDue s 0 0 = true ∧ camDue (camIn 2) 0 0 = false) ∧
    (camState State.reset 0 0 = 0 ∧ State.reset.fon 0 0 CAM_CTRL_EN = false ∧ (1#32 &&& 3#32) = 1#32 ∧ (0#32 &&& 3#32) = 0#32) ∧
    (camState (camIn 5 { frame := true }) 0 0 = 5 ∧ ((camIn 5 { frame := true }).cam 0 0).again = false) := by decide +kernel

/-- The pipeline of hearth 0 running. -/
def ispOn (s : State := State.reset) : State := (s.fput 0 0 ISP_CTRL_EN 1).fput 0 0 ISP_STATUS_STATE 1

theorem witness_PipelineVerdictsAndClosing :
    ispRuns ispOn 0 = true ∧ (((ispOn.setCam 0 0 { buf := [.row 1 2 [3]] }).setCam 0 1 { buf := [.row 4 5 [6]] }).cam 0 0).buf = [.row 1 2 [3]] ∧
    (let msg : List Byte := [1, 0, 1, 0, 5, 0, 0, 0, 0, 0, 0, 0, 0, 0, 0, 0]
     msg.length = 16 ∧ byteAt msg 0 = 1 ∧ byteAt msg 1 = 0 ∧ leAt msg 4 2 < columns ∧
     (verdictEntry State.reset 0 (byteAt msg 2) (ashAhead State.reset 0 (leAt msg 4 2))).isSome = true) ∧
    twnStandby State.reset = false ∧ twnLeads State.reset = false ∧ (State.reset.fput 0 0 ISP_CTRL_APPLY 1).fon 0 0 ISP_CTRL_APPLY = true ∧
    (State.reset.fput 0 0 ASH_CTRL_Q_EN 1).fon 0 0 ASH_CTRL_Q_EN = true ∧ ashState 0#32 = 0 ∧ 2 ≤ ashState 0x80000000#32 := by decide +kernel

theorem witness_PipelineVerdictsAndClosing_pages :
    (State.reset.setBas 0 { tbl := [{ id := 5, st := .firing }] }).bas 0 = { tbl := [{ id := 5, st := .firing }] } ∧
    ({ id := 5, st := .firing } : Page).held = true ∧
    (let s := ((State.reset.setBas 0 { tbl := [{ id := 5, st := .fired }] }).fput 0 0 ISP_CTRL_ECHO_EN 1).fput 0 0 ISP_CTRL_CMP_EN 1 |>.fput 0 0 CAM_CTRL_EN 1
     findPage s 0 5 = some { id := 5, st := .fired } ∧ inspectionOff s 0 = false ∧ inspectionClosed s 0 { id := 5, st := .fired } = false) ∧
    ispOn.fon 0 0 ISP_CTRL_EN = true ∧ dramFailed State.reset 0 = false ∧ (State.reset.cam 0 0).buf = [] ∧
    ((State.reset.setI2c 0 1 { run := some (2, 0, 7) }).i2c 0 1).run = some (2, 0, 7) := by decide +kernel


/-! ### time -/

/-- Ordinary clock on, both ports, port 0 in a state. -/
def ptpIn (st : Nat) (x : TimX := {}) : State :=
  { ((State.reset.fput 0 0 TIM_CTRL_OC_EN 1).fput 0 0 TIM_PTP_CFG_PORTS 3).fput 0 0 TIM_STATUS_SL0 st with tim := x }

/-- A PTP frame over Ethernet: type, sequence number, correction 0, source identity 0. -/
def ptpFrame (type seq : Nat) (dst : Nat := 0x011B19000000) : List Byte :=
  withFcs (beBytes 6 dst ++ beBytes 6 1 ++ beBytes 2 0x88F7 ++
    padTo 44 (beBytes 1 type ++ beBytes 1 2 ++ List.replicate 28 0 ++ beBytes 2 seq))

theorem witness_CounterIncrementAndSteps :
    (let x : TimX := { ns := 999999999, frac := 5, adj := some (-3) }
     x.set = none ∧ x.ns < 10 ^ 9 ∧ x.frac < 2 ^ 32 ∧ x.incNew.getD x.inc < 10 ^ 9 * 2 ^ 32 ∧
      (0 : Int) ≤ ((x.sec * 10 ^ 9 + x.ns) * 2 ^ 32 + x.frac : Nat) + (x.incNew.getD x.inc : Nat) + -3 * 2 ^ 32 ∧ x.sec + 1 < 2 ^ 48) ∧
    ({ set := some (1, 2) } : TimX).set = some (1, 2) ∧ tget State.reset TIM_STATUS_FROZEN = 0 ∧
    tget (State.reset.fput 0 0 TIM_STATUS_FROZEN 1) TIM_STATUS_FROZEN = 1 ∧ State.reset.tim.set = none := by decide +kernel

/-- Time unit 2 with a mode, a code and a target. -/
def unitIn (mode code target period : Nat) (x : TimX := {}) : State :=
  (setTu 2 ⟨target, period⟩ { (State.reset.fput 0 0 (TIM_TU_CTRL_MODE 2) mode).fput 0 0 (TIM_TU_CTRL_TARGET 2) code with tim := x })

theorem witness_TimeUnitsFireAndCapture :
    (let s := unitIn 1 1 0 1000
     tget s (TIM_TU_CTRL_MODE 2) = 1 ∧ 0 ≤ toS 64 (ofS 64 ((timeNs s : Int) - (tuX s 2).target))) ∧
    (let s := unitIn 2 2 1 1000 { ns := 5000 }
     tget s (TIM_TU_CTRL_MODE 2) = 2 ∧ (tuX s 2).period < toS 64 (ofS 64 ((timeNs s : Int) - (tuX s 2).target)) ∧ 0 < (tuX s 2).period) ∧
    (let s := unitIn 2 3 1 1000 { ns := 500 }
     toS 64 (ofS 64 ((timeNs s : Int) - (tuX s 2).target)) ≤ (tuX s 2).period) ∧
    (let s := unitIn 1 1 500 1000
     toS 64 (ofS 64 ((timeNs s : Int) - (tuX s 2).target)) < 0) ∧
    (let s := unitIn 3 16 0 1000
     tget s (TIM_TU_CTRL_MODE 2) = 3 ∧ tget s (TIM_TU_CTRL_TARGET 2) = 16 ∧ s.hasH (16 - 16) = true) ∧
    ((State.reset.fput 0 0 DRT_STATUS_STATE 6).fget 0 0 DRT_STATUS_STATE = 6) := by decide +kernel

theorem witness_OrdinaryClock_master :
    (ptpMessage (ptpFrame 0xB 0) 0xB).isSome = true ∧ ptpOn (ptpIn 1) 0 = true ∧
    ((ptpMessage (ptpFrame 0xB 0) 0xB).map fun m => byteAt m 4) = some (tget (ptpIn 1) TIM_PTP_CFG_DOMAIN) ∧ ptpState (ptpIn 1) 0 = 1 ∧
    ptpState (ptpIn 3) 0 ≠ 1 ∧
    ((ptpMessage (ptpFrame 0 4) 0).map (fromMaster (ptpIn 2) 0)) = some true ∧
    ((ptpMessage (ptpFrame 0 4) 0).map (fromMaster (ptpIn 3) 0)) = some false ∧
    ((ptpIn 2).tim.reqAt.filter fun t => decide (7 < t + 10 ^ 9)).length < 16 ∧ ptpState (ptpIn 2) 0 = 2 := by decide +kernel

/-- A Sync taken: its exchange waits for its Follow_Up, or with t1 for its Delay_Resp. -/
def exchangeIn (t1 : Option Int) : State :=
  ptpIn 2 { ptp := [(0, ⟨4, t1, 100, 0, 9, some 200, none, 0⟩)], hist := [9, 9, 9, 9, 9, 9, 9, 9] }

theorem witness_OrdinaryClock_exchange :
    ((ptpMessage (ptpFrame 8 4) 8).map fun m => (fromMaster (exchangeIn none) 0 m, beAt m 30 2)) = some (true, (ptpX (exchangeIn none) 0).seq) ∧
    (ptpX (exchangeIn none) 0).t1 = none ∧ (ptpX (exchangeIn none) 0).t4 = none ∧
    ((ptpMessage (ptpFrame 9 9) 9).map fun m => (fromMaster (exchangeIn (some 5)) 0 m, beAt m 30 2)) =
      some (true, (ptpX (exchangeIn (some 5)) 0).reqSeq) ∧
    (ptpX (exchangeIn (some 5)) 0).t1 = some 5 ∧ (ptpX (exchangeIn (some 5)) 0).t3 = some 200 ∧ (exchangeIn (some 5)).tim.hist.length = 8 ∧
    ((ptpMessage (ptpFrame 9 8) 9).map fun m => beAt m 30 2) ≠ some (ptpX (exchangeIn (some 5)) 0).reqSeq ∧
    (ptpX (exchangeIn (some 5)) 0).t1.isSome = true := by decide +kernel

theorem witness_TransparentClock :
    (stripFcs (ptpFrame 0 4)).isSome = true ∧ tget (State.reset.fput 0 0 TIM_CTRL_TC_EN 1) TIM_CTRL_TC_EN = 1 ∧
    tget State.reset TIM_CTRL_TC_EN = 0 ∧
    ((stripFcs (ptpFrame 0 4)).map fun g => (decide (beAt g 0 6 = ownMac State.reset), ptpOffset g, byteAt g 14 % 16, decide (14 + 16 ≤ g.length)))
      = some (false, some (14, false), 0, true) ∧
    ((stripFcs (ptpFrame 2 4)).map fun g => byteAt g 14 % 16) = some 2 ∧
    ((stripFcs (ptpFrame 0xB 4)).map fun g => byteAt g 14 % 16) = some 0xB ∧
    ((stripFcs (withFcs (List.replicate 14 0))).map ptpOffset) = some none ∧ stripFcs [] = none := by decide +kernel

/-- A calibration run of kind 1 in progress on hearth 0. -/
def runIn (s : State := State.reset) : State := s.setCal 0 { run := some ⟨1, none⟩ }

theorem witness_CalibrationRuns :
    (State.reset.cal 0).run = none ∧ (runIn.cal 0).run = some ⟨1, none⟩ ∧
    (calResult runIn 0 1 [3]).length = (calResult runIn 0 1 [4]).length ∧
    (List.zipWith (fun a b : Int => decide ((a - b).natAbs ≤ (runIn.fput 0 0 CAL_CTRL_TOL 1).fget 0 0 CAL_CTRL_TOL)) (calResult runIn 0 1 [3]) (calResult runIn 0 1 [4])).all id = true ∧
    (List.zipWith (fun a b : Int => decide ((a - b).natAbs ≤ (runIn.fput 0 0 CAL_CTRL_TOL 1).fget 0 0 CAL_CTRL_TOL)) (calResult runIn 0 1 [3]) (calResult runIn 0 1 [5])).all id = false ∧
    (let s := (State.reset.fput 0 0 CAL_CTRL_AUTO 1).setCal 0 { lastTemps := [(0, [10000])] }
     s.hasH 0 = true ∧ s.fon 0 0 CAL_CTRL_AUTO = true ∧ (s.cal 0).run = none ∧ (s.cal 0).queue = [] ∧ calMoved s 0 0 = true ∧
      tabGet (fun _ => 0) (s.cal 0).waitTil 0 ≤ s.now) ∧
    (let s := State.reset.fput 0 0 CAL_CTRL_AUTO 0
     s.fon 0 0 CAL_CTRL_AUTO = false ∧ (s.cal 0).appliedAt = [] ∧ (s.cal 0).armWait = false) ∧
    State.reset.hasH 9 = false := by decide +kernel


/-! ### update -/

/-- A boot directory: component 0's slot A holds one byte, 0. -/
def dirImage : List Byte :=
  leBytes 4 1 ++ ([0#8] ++ (leBytes 4 7 ++ (leBytes 4 1 ++ (sha256 [0#8] ++ List.replicate (dirLen - 45) 0#8))))

/-- A flash with that directory and image. -/
@[irreducible] def imageFlash : Tab Byte :=
  ((State.reset.fwrites 0 (dirImage ++ leBytes 4 (crc32c dirImage))).fwrites 0x100000 [0#8]).flash

theorem length_dirImage : dirImage.length = dirLen := by
  simp only [dirImage, List.length_append, length_leBytes, length_sha256, List.length_replicate]; decide

theorem length_dirCopy : (dirImage ++ leBytes 4 (crc32c dirImage)).length = 413 := by
  simp [length_dirImage, length_leBytes, dirLen]

/-- Reading that flash reads what was written. -/
theorem image_freads {s : State} (h : s.flash = imageFlash) (a n : Nat) :
    s.freads a n = ((State.reset.fwrites 0 (dirImage ++ leBytes 4 (crc32c dirImage))).fwrites 0x100000 [0#8]).freads a n := by
  unfold imageFlash at h
  simp only [State.freads, State.fread, h]

theorem image_dir0 {s : State} (h : s.flash = imageFlash) : s.freads (dirAt 0) dirLen = dirImage := by
  rw [image_freads h, State.freads_fwrites_off _ _ _ _ (by simp [dirAt, dirLen])]
  have := State.freads_fwrites_part (dirImage ++ leBytes 4 (crc32c dirImage)) 0 0 dirLen (by rw [length_dirCopy]; decide) State.reset
  rw [show dirAt 0 = 0 + 0 from rfl, this, slice, List.drop_zero, ← length_dirImage, List.take_left]

theorem image_crc {s : State} (h : s.flash = imageFlash) : s.fnum (dirAt 0 + dirLen) 4 = crc32c dirImage := by
  rw [State.fnum, image_freads h, State.freads_fwrites_off _ _ _ _ (by simp [dirAt, dirLen])]
  have := State.freads_fwrites_part (dirImage ++ leBytes 4 (crc32c dirImage)) 0 dirLen 4 (by rw [length_dirCopy]; decide) State.reset
  rw [show dirAt 0 + dirLen = 0 + dirLen from rfl, this, slice, ← length_dirImage, List.drop_left,
    List.take_of_length_le (by simp [length_leBytes])]
  simpa using leAt_leBytes 4 (crc32c dirImage) [] (crc32c_lt _)

/-- Beyond the image and short of it the flash is erased. -/
theorem image_erased {s : State} (h : s.flash = imageFlash) (a n : Nat) (b : 0x100001 ≤ a ∨ (413 ≤ a ∧ a + n ≤ 0x100000)) :
    s.freads a n = List.replicate n 0xFF#8 := by
  have e : s.freads a n = State.reset.freads a n := by
    rw [image_freads h, State.freads_fwrites_off _ _ _ _ (by simp only [List.length_cons, List.length_nil]; omega),
      State.freads_fwrites_off _ _ _ _ (by rw [length_dirCopy]; omega)]
  rw [e]
  have z : State.reset.flash = [] := rfl
  simp only [State.freads, State.fread, z, tabGet, tabFind, Option.getD_none, dfltFlash, List.map_const', List.length_range]
  rfl

/-- A copy with its CRC and a copy that reads erased: the first governs. -/
theorem bootDir_first (s : State) (a b : List Byte) (ha : s.freads (dirAt 0) dirLen = a) (hc : s.fnum (dirAt 0 + dirLen) 4 = crc32c a)
    (hb : s.freads (dirAt 1) dirLen = b) (g : 0 ≤ toS 32 (ofS 32 ((leAt a 0 4 : Int) - leAt b 0 4))) : bootDir s = some (0, a) := by
  have e : dirCopy s 0 = some a := by unfold dirCopy; rw [ha]; exact if_pos hc
  have f : dirCopy s 1 = none ∨ dirCopy s 1 = some b := by
    unfold dirCopy; rw [hb]; by_cases y : s.fnum (dirAt 1 + dirLen) 4 = crc32c b
    · exact .inr (if_pos y)
    · exact .inl (if_neg y)
  rcases f with f | f
  · unfold bootDir; rw [e, f]
  · unfold bootDir; rw [e, f]; exact congrArg some (if_pos g)

theorem image_dirBytes {s : State} (h : s.flash = imageFlash) : dirBytes s = dirImage := by
  have d := bootDir_first s _ _ (image_dir0 h) (image_crc h)
    (image_erased h (dirAt 1) dirLen (by simp [dirAt, dirLen]))
    (by rw [show leAt dirImage 0 4 = 1 from leAt_leBytes 4 1 _ (by decide)]; decide +kernel)
  rw [dirBytes, d, Option.map_some, Option.getD_some]

/-- Component 0 verifies and loads from slot A; component 1 has no image. -/
theorem image_verifies {s : State} (h : s.flash = imageFlash) (j : s.upd.jour = none) : verifySlot s 0 0 = 0 := by
  have n : slotLen s 0 0 = 1 := by
    rw [slotLen, image_dirBytes h, show dirRec 0 0 + 4 = 9 from rfl, leAt_drop]
    exact leAt_leBytes 4 1 _ (by decide)
  have f : slotSha s 0 0 = sha256 [0#8] := by
    rw [slotSha, image_dirBytes h, slice, show dirRec 0 0 + 8 = 13 from rfl]
    show List.take 32 (sha256 [0#8] ++ _) = _
    rw [← length_sha256 [0#8], List.take_left]
  have g : s.freads (slotBase 0 0) 1 = [0#8] := by
    rw [image_freads h]
    exact State.freads_fwrites_same [0#8] 0x100000 _
  simp [verifySlot, j, n, f, g, slotSize]

theorem image_empty {s : State} (h : s.flash = imageFlash) (j : s.upd.jour = none) : verifySlot s 1 0 ≠ 0 := by
  have n : slotLen s 1 0 = 0 := by
    have e : dirImage = (leBytes 4 1 ++ ([0#8] ++ (leBytes 4 7 ++ (leBytes 4 1 ++ sha256 [0#8])))) ++ List.replicate (dirLen - 45) 0#8 := by
      simp only [dirImage, List.append_assoc]
    rw [slotLen, image_dirBytes h, show dirRec 1 0 + 4 = 45 + 45 from rfl, leAt_drop, e, ← List.drop_drop,
      List.drop_left' (by simp [length_leBytes, length_sha256])]
    decide +kernel
  simp [verifySlot, j, n]

theorem image_loads {s : State} (h : s.flash = imageFlash) (j : s.upd.jour = none) : (bootSlot s 0).2.2 = true := by
  have a : activeSlot s 0 = 0 := by rw [activeSlot, image_dirBytes h]; rfl
  unfold bootSlot
  dsimp only
  rw [a, if_pos (image_verifies h j)]

/-- A full patch of component 0: one block of 4,096 erased bytes, its TCRC and the operation of its record given. -/
def patchFile (tcrc : Nat) (op : Byte) : List Byte :=
  let hdr := leBytes 4 0x48504453 ++ [1#8, 0#8, 1#8, 0#8] ++ leBytes 8 0 ++ leBytes 4 1 ++ leBytes 4 1 ++ List.replicate 32 0#8 ++ leBytes 4 10
  hdr ++ leBytes 4 (crc32c hdr) ++ leBytes 4 tcrc ++ leBytes 2 4 ++ [op, 0#8, 0x10#8, 0xFF#8] ++ List.replicate 64 0#8

/-- It staged. -/
def patchStaged (tcrc : Nat) (op : Byte) : State :=
  { State.reset with
    flash := ((patchFile tcrc op).zipIdx.map fun (b, i) => (stageBase + i, b)).filter fun e => e.2 != 0xFF#8
    upd := { stageLen := 138 } }

theorem witness_ServicePortAndStaging :
    ({ State.reset with boot := { inReset := false } } : State).boot.inReset = false ∧ State.reset.boot.inReset = true ∧
    State.reset.upd.held = false ∧ ({ State.reset with upd := { held := true } } : State).upd.held = true ∧
    vget State.reset SVC_FUSE_SVC_LOCK = 0 ∧ vget (vput SVC_FUSE_SVC_LOCK 1 State.reset) SVC_FUSE_SVC_LOCK = 1 ∧
    vget State.reset SVC_STATUS_STATE < 2 ∧ 2 ≤ vget (vput SVC_STATUS_STATE 2 State.reset) SVC_STATUS_STATE ∧
    (let j : Journal := ⟨4, 1, [], 0, 1⟩
     ({ State.reset with upd := { jour := some j } } : State).upd.jour = some j ∧ j.st < 3 ∧ j.comp < 5 ∧ j.slot < 2) ∧
    State.reset.upd.jour = none := by decide +kernel

/-- A block of staging and a CRC that is not its own. -/
theorem witness_ServicePortAndStaging_block : 2047 < 2048 ∧ (List.replicate 4096 0#8).length = 4096 ∧
    2 ^ 32 ≠ crc32c (List.replicate 4096 0#8) :=
  ⟨by decide, List.length_replicate, Nat.ne_of_gt (crc32c_lt _)⟩

theorem witness_ServicePortAndStaging_checked : patchOk (patchStaged 0 4) = true := by decide +kernel

theorem witness_ServicePortAndStaging_refused : patchOk { State.reset with upd := { stageLen := 1 } } = false := by
  have : (leAt (({ State.reset with upd := { stageLen := 1 } } : State).freads stageBase 64) 0 4 == 0x48504453) = false := by decide +kernel
  simp only [patchOk, this, Bool.false_and]

/-- A patch being applied, its next block given. -/
def patchRuns (op : Byte) (next : Nat) : State :=
  vput SVC_STATUS_STATE 2 { patchStaged 0 op with upd := { stageLen := 138, jour := some ⟨0, 1, [], next, 1⟩ } }

theorem witness_PatchActivationAndSwap_patch :
    (patchRuns 9 0).upd.jour = some ⟨0, 1, [], 0, 1⟩ ∧ vget (patchRuns 9 0) SVC_STATUS_STATE = 2 ∧
    (patchBuild 0 1 (patBlocks (patchRuns 9 0) - 0) 0 (patchRuns 9 0)).1 = false ∧
    (patchRuns 4 1).upd.jour = some ⟨0, 1, [], 1, 1⟩ ∧
    (patchBuild 0 1 (patBlocks (patchRuns 4 1) - 1) 1 (patchRuns 4 1)).1 = true := by decide +kernel

theorem witness_PatchActivationAndSwap_slots :
    (patchOpen ({ State.reset with upd := { jour := some ⟨2, 1, [], 0, 1⟩ } } : State) 2 = true ∧ patchOpen State.reset 2 = false) ∧
    (let s : State := { State.reset with upd := { swaps := [(1, none)] } }
     (s.upd.swaps.any fun e => e.1 == 1) = true ∧ swapReady s 1 = true) ∧
    (State.reset.upd.swaps.any fun e => e.1 == 1) = false := by decide +kernel

theorem witness_PatchActivationAndSwap_verified :
    verifySlot { State.reset with flash := imageFlash } 0 0 = 0 ∧ verifySlot { State.reset with flash := imageFlash } 1 0 ≠ 0 :=
  ⟨image_verifies rfl rfl, image_empty rfl rfl⟩


/-! ### startup -/

/-- The part out of reset, its main domain up. -/
def running (s : State := State.reset) : State := { s with up := true, boot := { inReset := false } }

theorem witness_SuppliesAndResets :
    State.reset.boot.inReset = true ∧ running.boot.inReset = false ∧ (1 ≠ 0x5A17 ∧ (0x5A17 : Nat) = 0x5A17) ∧
    (let s := running.setBas 0 { tbl := [{ id := 7, st := .firing }] }
     0 < s.nH ∧ firingPage s 0 = some { id := 7, st := .firing } ∧ findPage s 0 7 = some { id := 7, st := .firing } ∧
      ({ id := 7, st := .firing } : Page).defective = false) ∧
    (running.hasH 9 = false ∧ running.hasH 1 = true ∧ 1 ≠ running.crown ∧ running.hasH 0 = true ∧ 0 = running.crown) ∧
    (imagePairs running = [] ∧ (running.cal 1).stored = []) ∧ running.resetDue = none ∧
    ({ running with resetDue := some (0, 0) } : State).resetDue = some (0, 0) ∧
    ({ running with resetDue := some (1, 6) } : State).resetDue = some (0 + 1, 6) ∧
    tget (State.reset.fput 0 0 TIM_STATUS_VALID 1) TIM_STATUS_VALID = 1 := by decide +kernel

/-- Waiting for the bridge with the flashes that answer, both holding images. -/
def bridgeWaits (flashes : Nat) : State :=
  { State.reset with flash := imageFlash, flash2 := imageFlash, boot := { wait := true, inReset := false, flash := flashes } }

theorem image_noPairs {s : State} (h : s.flash = imageFlash) : imagePairs s = [] := by
  have b : cfgBase s = 0x02100000 ∨ cfgBase s = 0x01900000 := by unfold cfgBase; split <;> simp
  have n : s.fnum (cfgBase s) 4 = 0xFFFFFFFF := by
    rcases b with b | b <;> rw [State.fnum, b, image_erased h _ _ (by decide)] <;> decide +kernel
  have d : cfgDir s = [] := by
    unfold cfgDir
    dsimp only
    rw [n, if_neg (by decide)]
    rfl
  simp only [imagePairs, cfgKind, d, List.filter_nil, List.findSome?_nil, Option.map_none, Option.getD_none]

theorem witness_BootAndBridge_start :
    State.reset.boot.inReset = true ∧ State.reset.upd.held = false ∧ running.boot.inReset = false ∧ bit State.reset.boot.flash 0 = false ∧
    (running.up = true ∧ running.mode = 0 ∧ imagePairs running = [] ∧ State.reset.up = false) ∧ running.boot.wait = false ∧
    (running.nH = 8 ∧ bridgeUp { running with linksLost := [] } = true ∧ bridgeUp { running with linksLost := List.range 32 } = false) ∧
    (let s := { running with junior := { on := true } }
     s.junior.on = true ∧ (∀ h, h < 8 → juniorHalf s h = true → bit s.absent h = false) ∧ s.hasH s.crown = true) := by decide +kernel

theorem witness_BootAndBridge_load :
    bit (bridgeWaits 1).boot.flash 0 = true ∧ (bootSlot (bridgeWaits 1) 0).2.2 = true ∧
    (∀ u : State, u.flash = (bridgeWaits 1).flash → imagePairs u = []) ∧ (bridgeWaits 1).upd.jour = none :=
  ⟨by decide, image_loads rfl rfl, fun _ e => image_noPairs e, rfl⟩

/-- With the directory's copies erased no slot of component 0 has an image. -/
theorem erased_slots {s : State} (a : s.freads (dirAt 0) dirLen = List.replicate dirLen 0xFF#8)
    (b : s.freads (dirAt 1) dirLen = List.replicate dirLen 0xFF#8) {k : Journal}
    (j : s.upd.jour = some k) (o : k.st < 2) :
    (bootSlot s 0).2.2 = false := by
  have d : dirBytes s = List.replicate dirLen 0#8 ∨ dirBytes s = List.replicate dirLen 0xFF#8 := by
    unfold dirBytes bootDir dirCopy
    rw [a, b]
    dsimp only
    split_ifs <;> first | exact .inl rfl | exact .inr rfl
  have n (slot : Nat) (h : slot < 2) : slotLen s 0 slot = 0 ∨ slotSize 0 < slotLen s 0 slot := by
    unfold slotLen
    rcases d with d | d <;> rw [d] <;> interval_cases slot <;> decide +kernel
  have v (slot : Nat) (h : slot < 2) : verifySlot s 0 slot ≠ 0 := by
    have c : ¬(slotLen s 0 slot ≠ 0 ∧ slotLen s 0 slot ≤ slotSize 0) := fun c => by rcases n slot h with n | n <;> omega
    have e : verifySlot s 0 slot = 0x20 := by
      simp only [verifySlot, j, Nat.not_le.2 o, decide_false, Bool.and_false, Bool.false_eq_true, if_false]
      exact if_neg fun x => c ⟨x.1, x.2.1⟩
    rw [e]
    decide
  have l : activeSlot s 0 < 2 := Nat.mod_lt _ (by decide)
  unfold bootSlot
  rw [if_neg (v _ l), if_neg (v _ (by omega))]

/-- Both slots of component 0 fail while a full patch of it is journaled. -/
theorem witness_BootAndBridge_recovery :
    let s : State := { patchRuns 9 0 with boot := { flash := 1 } }
    bit s.boot.flash 0 = true ∧ (bootSlot s 0).2.2 = false ∧ s.upd.jour = some ⟨0, 1, [], 0, 1⟩ ∧ patFull s = true := by
  refine ⟨by decide, erased_slots ?_ ?_ (k := ⟨0, 1, [], 0, 1⟩) rfl (by decide), rfl, by decide +kernel⟩ <;> decide +kernel

/-- No flash answers: the senior lead sticks. -/
theorem witness_BootAndBridge_stuck : (bootLoad [0, 1, 2, 3] (bridgeWaits 0)).boot.stuck = true := by
  rw [bootLoad_silent _ (by decide)]

/-- A flash answers: it loads, and the junior lead loads where its own answers too. -/
theorem bridgeWaits_loads (f : Nat) (hf : bit f 0 = true) (hs : List Nat) :
    (bootLoad hs (bridgeWaits f)).boot.stuck = false ∧ (bootLoad hs (bridgeWaits f)).boot.flash = f ∧
      (bootLoad hs (bridgeWaits f)).flash2 = imageFlash := by
  have k := bootLoad_shape hs (bridgeWaits f) hf (image_loads rfl rfl) fun _ e => image_noPairs e
  rw [k.1, k.2.2.1]
  exact ⟨rfl, rfl, rfl⟩

theorem image_juniorLoads {s : State} (f : bit s.boot.flash 1 = true) (h : s.flash2 = imageFlash) : juniorLoads s = true := by
  have e : (bootSlot { s with flash := s.flash2, upd := { s.upd with jour := none } } 0).2.2 = true := image_loads h rfl
  unfold juniorLoads
  rw [f, e]
  rfl

theorem witness_BootAndBridge_both (hs : List Nat) :
    (bootLoad hs (bridgeWaits 3)).boot.stuck = false ∧ juniorLoads (bootLoad hs (bridgeWaits 3)) = true :=
  ⟨(bridgeWaits_loads 3 (by decide) hs).1,
    image_juniorLoads (by rw [(bridgeWaits_loads 3 (by decide) hs).2.1]; decide) (bridgeWaits_loads 3 (by decide) hs).2.2⟩

theorem witness_BootAndBridge_alone (hs : List Nat) :
    (bootLoad hs (bridgeWaits 1)).boot.stuck = false ∧ juniorLoads (bootLoad hs (bridgeWaits 1)) = false := by
  obtain ⟨a, b, _⟩ := bridgeWaits_loads 1 (by decide) hs
  refine ⟨a, ?_⟩
  unfold juniorLoads
  rw [b, show bit 1 1 = false from by decide, Bool.false_and]

/-- A configuration image whose only section is the stand-alone section, port tables given by hearth. -/
def aloneFlash (ports : List Nat) : Tab Byte :=
  let l := List.replicate 72 0#8 ++ ports.flatMap (leBytes 2)
  let img := leBytes 4 1 ++ leBytes 2 9 ++ leBytes 2 5 ++ leBytes 4 20 ++ leBytes 4 l.length ++ leBytes 4 (crc32c l) ++ l
  (img.zipIdx.map fun (b, i) => (0x01900000 + i, b)).filter fun e => e.2 != 0xFF#8

/-- Stand-alone behaviour in force. -/
def aloneOn (ports : List Nat) : State := { running with mode := 1, flash := aloneFlash ports, alone := { active := true } }

theorem witness_StandAloneBehaviour :
    ({ running with mode := 1 } : State).mode = 1 ∧ ({ running with mode := 1 } : State).alone.active = false ∧ running.mode ≠ 1 ∧
    aloneCfg running = none ∧
    (let s := aloneOn [0, 0, 0, 0, 0, 0, 0, 0]
     (aloneCfg s).map (fun k => k.ports.all fun v => v == 0) = some true ∧ (aloneCfg s).map (fun k => k.ports.length) = some 8 ∧
      s.alone.active = true ∧ aloneBusy s = false) ∧
    (let s := aloneOn [1, 0, 0, 0, 0, 0, 0, 0]
     (aloneCfg s).map (fun k => k.ports) = some [1, 0, 0, 0, 0, 0, 0, 0] ∧ s.alone.active = true ∧ aloneBusy s = false ∧ 0 < s.nH ∧
      drtState s 0 = 0 ∧ s.alone.capped = false ∧ s.alone.chart = false ∧ aloneRuns s = false ∧ s.alone.script = []) ∧
    ({ aloneOn [] with alone := { active := true, script := [.chart] } } : State).alone.script ≠ [] := by decide +kernel


/-! ### twin -/

/-- The crown's twin block in a state, enabled, with its hidden state. -/
def twnIn (st : Nat) (x : TwnX := {}) (s : State := State.reset) : State :=
  { (s.fput s.crown 0 TWN_CTRL_EN 1).fput s.crown 0 TWN_STATUS_STATE st with twn := x }

/-- A twin frame number 0 with a good CRC. -/
def twinBytes (type h : Nat) (body : List Byte) : List Byte :=
  let b := leBytes 1 type ++ leBytes 1 h ++ leBytes 2 body.length ++ leBytes 4 0 ++ body
  b ++ leBytes 4 (crc32c b)

/-- The standby's PEER_HB shows a peer. -/
def peerSeen (s : State) : State := s.fput s.crown 0 TWN_STATUS_PEER_HB 1

theorem witness_HeartbeatsAndHold_beats :
    (let s := peerSeen (twnIn 5 { misses := 2 })
     twnMiss s ≤ s.twn.misses + 1 ∧ wget s TWN_STATUS_PEER_HB = 1 ∧ twnState s = 5) ∧
    (let s := twnIn 5
     s.twn.misses + 1 < twnMiss s) ∧
    (0xA5FF00 / 65536 % 256 ≠ 0xA5FF00 % 256 ^^^ 0xA5FF00 / 256 % 256 ^^^ 0xA5) ∧
    (let b := 0xA50000
     b / 65536 % 256 = b % 256 ^^^ b / 256 % 256 ^^^ 0xA5 ∧ bit b 3 = false) ∧
    (bit 0xA9000C 3 = true ∧ 0xA9000C / 65536 % 256 = 0xA9000C % 256 ^^^ 0xA9000C / 256 % 256 ^^^ 0xA5) ∧
    (let s := ((twnIn 3 { drives := true }).fput 0 0 TWN_CTRL_AUTO_JOIN 0).fput 0 0 TWN_CTRL_SLOT 1
     wget s TWN_CTRL_AUTO_JOIN = 0 ∧ s.twn.drives = true ∧ bit 0xA9000C 2 = true ∧ wget s TWN_CTRL_SLOT = 1) := by decide +kernel

theorem witness_HeartbeatsAndHold_hold :
    ((twnIn 5).twn.drives = false ∧ twnState (twnIn 5) = 5) ∧ (twnIn 2 { drives := true }).twn.drives = true ∧
    (twnState (twnIn 1) = 1 ∧ wget (twnIn 1) TWN_STATUS_SLOT_CLASH = 0 ∧ holdLow (twnIn 1) = false) ∧
    holdLow (twnIn 1 { peerDrives := true }) = true ∧
    ((twnIn 2 { dark := [0] }).twn.dark ≠ [] ∧ (twnIn 2 { dark := [0] }).twn.cleared = false) ∧ (twnIn 2).twn.dark = [] ∧
    ((twnIn 2).fput 0 1 FBX_STATUS_STATE 5).fget 0 1 FBX_STATUS_STATE = 5 := by decide +kernel

theorem witness_TwinEnableJoinAndLeave :
    State.reset.hasH State.reset.crown = true ∧ (0x101#32 &&& 0x1B#32 = 1#32 ∧ twnState State.reset = 0 ∧
      wget State.reset TWN_CTRL_EN = 0 ∧ (0x101#32).getLsbD 10 = false) ∧
    (0#32 &&& 0x1B#32 = 0#32 ∧ wget (twnIn 1) TWN_CTRL_EN = 1 ∧ twnState (twnIn 1) = 1 ∧ (twnIn 1).twn.again = false) ∧
    (let s := (twnIn 3).fput 0 0 TWN_STATUS_IN_STEP 1
     twnState s = 3 ∧ wget s TWN_STATUS_IN_STEP = 1 ∧ canHandover s = true) ∧
    (twnState (twnIn 3) = 3 ∧ wget (twnIn 3) TWN_STATUS_IN_STEP = 0 ∧ canHandover (twnIn 3) = false) ∧
    (twnState (twnIn 5) = 5 ∧ ∀ h, h < (twnIn 5).nH → gorRole (twnIn 5) h 1 ≠ 2) ∧
    canJoin (peerSeen (twnIn 6 { peerDrives := true, peerRole := 1 })) = true ∧ canJoin (twnIn 6) = false ∧
    (twnState (twnIn 7) = 7 ∧ (twnIn 7).twn.again = false) ∧ (twnState (twnIn 4 { aligned := true }) = 4 ∧
      (twnIn 4 { aligned := true }).twn.aligned = true) ∧ (twnIn 4).twn.joinRes = 0 ∧ twnState (twnIn 1) ≠ 4 := by decide +kernel

theorem witness_TwinFramesTaken_bad : tfGood (twnIn 5) [] = false ∧ tfIntact (twinBytes 1 0 []) = true ∧
    tfGood (twnIn 5 { rxSeq := 1 }) (twinBytes 1 0 []) = false := by decide +kernel

theorem witness_TwinFramesTaken_signature :
    tfGood (twnIn 5) (twinBytes 1 0 (leBytes 8 16)) = true ∧ byteAt (twinBytes 1 0 (leBytes 8 16)) 0 = 1 ∧
    (twnIn 5).hasH (tfHearth (twinBytes 1 0 (leBytes 8 16))) = true ∧ (twnIn 5).twn.joinJ = [] ∧ twnState (twnIn 5) = 5 ∧
    twnState (twnIn 3) ≠ 4 ∧ twnState (twnIn 3) ≠ 5 := by decide +kernel

/-- A CMD frame's body: opcode, tag, and hearth 0's line. -/
def cmdBody (line : Nat) : List Byte := padTo 64 (leBytes 2 0x0401 ++ leBytes 1 7) ++ leBytes 8 line

theorem witness_TwinFramesTaken_command :
    (let f := twinBytes 2 0 (cmdBody 40)
     tfGood (twnIn 5) f = true ∧ byteAt f 0 = 2 ∧ twnState (twnIn 5) = 5 ∧
      (∀ k, k < 8 → (twnIn 5).hasH k = true → leAt (tfBody f) (64 + 8 * k) 8 ≠ 0 → lnum (twnIn 5) k < leAt (tfBody f) (64 + 8 * k) 8)) ∧
    (let f := twinBytes 2 0 (cmdBody 40)
     let s := (twnIn 5).put64 0 0 TER_LNUM_LO 40
     (∃ k, k < 8 ∧ s.hasH k = true ∧ leAt (tfBody f) (64 + 8 * k) 8 ≠ 0 ∧ leAt (tfBody f) (64 + 8 * k) 8 ≤ lnum s k)) ∧
    (let f := twinBytes 3 0 (leBytes 1 7 ++ leBytes 7 0 ++ leBytes 8 40)
     tfGood (twnIn 5) f = true ∧ byteAt f 0 = 3 ∧ twnFollows (twnIn 5) = true ∧
      ((twnIn 5).twn.results.find? fun e => e.1 == 2 * byteAt (tfBody f) 0 && e.2.1 == leAt (tfBody f) 8 8) = none ∧
      (([(14, 40, 0)] : List (Nat × Nat × Nat)).find? fun e => e.1 == 2 * byteAt (tfBody f) 0 && e.2.1 == leAt (tfBody f) 8 8)
        = some (14, 40, 0)) := by decide +kernel

theorem witness_TwinFramesTaken_tables :
    (let f := twinBytes 4 0 (leBytes 8 0 ++ leBytes 8 40)
     tfGood (twnIn 5) f = true ∧ (twnIn 5).hasH (tfHearth f) = true ∧ lnum (twnIn 5) (tfHearth f) + 3 ≤ leAt (tfBody f) 8 8) ∧
    (let f := twinBytes 4 0 (leBytes 8 0 ++ leBytes 8 2)
     tfGood (twnIn 5) f = true ∧ leAt (tfBody f) 8 8 < lnum (twnIn 5) (tfHearth f) + 3) ∧
    (let f := twinBytes 5 0 (leBytes 1 0 ++ leBytes 7 6 ++ leBytes 8 40)
     tfGood (twnIn 5) f = true ∧ 1 ≤ byteAt (tfBody f) 1 ∧ byteAt (tfBody f) 1 ≤ 6 ∧ byteAt (tfBody f) 0 < 12 ∧
      lnum (twnIn 5) (tfHearth f) + 1 < leAt (tfBody f) 8 8) ∧
    (let f := twinBytes 5 0 (leBytes 1 0 ++ leBytes 7 6 ++ leBytes 8 1)
     tfGood (twnIn 5) f = true ∧ 1 ≤ byteAt (tfBody f) 1 ∧ byteAt (tfBody f) 1 ≤ 6 ∧ leAt (tfBody f) 8 8 ≤ lnum (twnIn 5) (tfHearth f) + 1) ∧
    (let f := twinBytes 6 0 (leBytes 4 (BLK_ASH + 65536) ++ leBytes 4 40319 ++ leBytes 4 1 ++ leBytes 4 5)
     tfGood (twnIn 4) f = true ∧ byteAt f 0 = 6 ∧ byteAt (tfBody f) 0 = BLK_ASH ∧ byteAt (tfBody f) 2 = 1 ∧ leAt (tfBody f) 8 2 = 1 ∧
      leAt (tfBody f) 4 4 < columns) := by decide +kernel

theorem witness_TwinFramesTaken_rest :
    (let f := twinBytes 7 0 []
     tfGood (twnIn 4) f = true ∧ (twnIn 4 { aligned := true }).twn.aligned = true ∧ (twnIn 4).twn.joinEn = [] ∧ (twnIn 4).twn.cmds = []) ∧
    (let f := twinBytes 8 0 (leBytes 8 5)
     tfGood (twnIn 5) f = true ∧ lnum (twnIn 5) (twnIn 5).crown <
      ((List.range 8).map fun k => leAt (tfBody f) (8 * k) 8).getD (twnIn 5).crown 0) ∧
    (let f := twinBytes 8 0 []
     tfGood (twnIn 5) f = true ∧ ((List.range 8).map fun k => leAt (tfBody f) (8 * k) 8).getD (twnIn 5).crown 0 ≤
      lnum (twnIn 5) (twnIn 5).crown) ∧
    (tfGood (twnIn 3) (twinBytes 9 0 []) = true ∧ twnState (twnIn 3) = 3) ∧
    (tfGood (twnIn 3) (twinBytes 10 0 (leBytes 8 (2 ^ 32))) = true ∧ leAt (tfBody (twinBytes 10 0 (leBytes 8 (2 ^ 32)))) 4 4 ≠ 0) ∧
    (twnState (twnIn 3) < 4 ∧ 4 ≤ twnState (twnIn 6) ∧ twnState (twnIn 6) ≤ 6) := by decide +kernel


/-! ### Frames: a row of every group -/

theorem witness_FeedbackMotionAndTimeRowsTouchOnlyTheirOwn :
    (∃ h i a b z, Instr.quadTransition 0 1 true false false = .quadTransition h i a b z) ∧ (∃ a, Instr.axisStep 3 = .axisStep a) ∧
    ∃ n, Instr.timeUnitFire 2 = .timeUnitFire n := ⟨⟨_, _, _, _, _, rfl⟩, ⟨_, rfl⟩, _, rfl⟩

theorem witness_PrintRowsTouchOnlyTheirOwn :
    (∃ h, Instr.drtLoopUpdate 0 = .drtLoopUpdate h) ∧ (∃ h p m, Instr.strobeEnd 0 1 2 = .strobeEnd h p m) ∧
    (∃ g, Instr.fenderAssert 3 = .fenderAssert g) ∧ (∃ h, Instr.damperBinEnd 0 = .damperBinEnd h) ∧ (∃ h, Instr.tblArm 0 = .tblArm h) ∧
    (∃ h x, Instr.ashUpdPush 0 7 = .ashUpdPush h x) ∧ (∃ h v, Instr.terEnWrite 0 1 = .terEnWrite h v) ∧
    ∃ h q v, Instr.fluePush 0 1 9 = .fluePush h q v :=
  ⟨⟨_, rfl⟩, ⟨_, _, _, rfl⟩, ⟨_, rfl⟩, ⟨_, rfl⟩, ⟨_, rfl⟩, ⟨_, _, rfl⟩, ⟨_, _, rfl⟩, _, _, _, rfl⟩

theorem witness_LinkAndMemoryRowsTouchOnlyTheirOwn :
    (∃ h l, Instr.signalDetected 0 1 = .signalDetected h l) ∧ (∃ h i f, Instr.helloReceived 0 1 [] = .helloReceived h i f) ∧
    (∃ h i f, Instr.sequencedFrameReceived 0 1 [] = .sequencedFrameReceived h i f) ∧ (∃ h v, Instr.basinEnWrite 0 1 = .basinEnWrite h v) ∧
    (∃ h d, Instr.decodeJobDone 0 1 = .decodeJobDone h d) ∧ ∃ h l, Instr.chimneyLinkUp 0 1 = .chimneyLinkUp h l :=
  ⟨⟨_, _, rfl⟩, ⟨_, _, _, rfl⟩, ⟨_, _, _, rfl⟩, ⟨_, _, rfl⟩, ⟨_, _, rfl⟩, _, _, rfl⟩

theorem witness_InspectionMailboxServiceAndTwinRowsTouchOnlyTheirOwn :
    (∃ h k, Instr.frameTimeout 0 1 = .frameTimeout h k) ∧ (∃ h m, Instr.verdictReceived 0 [] = .verdictReceived h m) ∧
    (∃ h m, Instr.watermarkReceived 0 [] = .watermarkReceived h m) ∧ (∃ h p r b, Instr.i2cTransferDone 0 1 0 [] = .i2cTransferDone h p r b) ∧
    (∃ f, Instr.udpHello [] = .udpHello f) ∧ (2 < 8 ∧ ∃ v, Instr.cmdPiWrite 2 0 = .cmdPiWrite 2 v) ∧
    (∃ n, Instr.stageOpen 4096 = .stageOpen n) ∧ ∃ b, Instr.heartbeatReceived 0 = .heartbeatReceived b :=
  ⟨⟨_, _, rfl⟩, ⟨_, _, rfl⟩, ⟨_, _, rfl⟩, ⟨_, _, _, _, rfl⟩, ⟨_, rfl⟩, ⟨by decide, _, rfl⟩, ⟨_, rfl⟩, _, rfl⟩


end Sys2Proof.Tests
end

section
/-! PROOFS. A host write bit by bit (R8, R139): the fields of a word lie apart, so one access code decides each bit. The
reset state (R9). -/

namespace Sys2Proof.Machine

/-! ### Fields of a register word share no bit -/

/-- Bit `k` of a word belongs to field `f`. -/
def FieldDef.covers (f : FieldDef) (k : Nat) : Prop := f.lo ≤ k ∧ k < f.lo + f.len

/-- Two fields have no bit in common. -/
def FieldDef.apart (f g : FieldDef) : Prop := f.lo + f.len ≤ g.lo ∨ g.lo + g.len ≤ f.lo

theorem FieldDef.apart.symm {f g : FieldDef} (a : f.apart g) : g.apart f := Or.symm a

theorem FieldDef.apart.not_covers {f g : FieldDef} {k : Nat} (a : f.apart g) (c : f.covers k) : ¬ g.covers k := by
  unfold apart at a
  unfold covers at *
  omega

/-- Every register of the map has fields that lie apart. -/
theorem regsOf_fields_apart (blk : Nat) : ∀ r ∈ regsOf blk, r.fields.Pairwise FieldDef.apart := by
  unfold FieldDef.apart regsOf
  split <;> decide +kernel

/-- The fields of the register behind a word of a block, whatever the unit. -/
def regFields (blk w : Nat) : List FieldDef :=
  match (regsOf blk).findSome? fun r => (regIndex r w).map fun n => (r, n) with
  | none => []
  | some (r, _) => r.fields

/-- A unit of a block has the word's register or no such word. -/
theorem wordFields_eq (blk i w : Nat) : wordFields blk i w = [] ∨ wordFields blk i w = regFields blk w := by
  unfold wordFields findReg regFields
  split_ifs
  · exact .inl rfl
  · exact .inr rfl

theorem regFields_apart (blk w : Nat) : (regFields blk w).Pairwise FieldDef.apart := by
  unfold regFields
  split
  · exact .nil
  · next r n e =>
    obtain ⟨r', m, e'⟩ := List.exists_of_findSome?_eq_some e
    obtain ⟨_, _, e''⟩ := Option.map_eq_some_iff.mp e'
    cases e''
    exact regsOf_fields_apart blk r m

theorem wordFields_apart (blk i w : Nat) : (wordFields blk i w).Pairwise FieldDef.apart := by
  rcases wordFields_eq blk i w with e | e <;> rw [e]
  · exact .nil
  · exact regFields_apart blk w

/-- Of two fields of a word only one covers a bit. -/
theorem wordFields_covers_unique {blk i w k : Nat} {f g : FieldDef} (hf : f ∈ wordFields blk i w) (hg : g ∈ wordFields blk i w)
    (n : f ≠ g) (c : f.covers k) : ¬ g.covers k :=
  haveI : Std.Symm FieldDef.apart := ⟨fun _ _ a => a.symm⟩
  ((wordFields_apart blk i w).forall hf hg n).not_covers c

/-! ### What a write leaves in each bit (R8) -/

/-- What a write of the bit `v` leaves of the bit `old`, by access code. -/
def accessBit (opn : Bool) (a : Access) (old v : Bool) : Bool :=
  match a with
  | .ro | .rc | .wo => old
  | .rw => v
  | .rwl => if opn then v else old
  | .w1c => old && !v
  | .w1s => old || v

theorem getElem_fieldMask (f : FieldDef) {k : Nat} (hk : k < 32) : (fieldMask f)[k] = true ↔ f.covers k := by
  unfold fieldMask FieldDef.covers
  rw [← BitVec.getLsbD_eq_getElem, BitVec.getLsbD_ofNat, testBit_fieldMaskNat]
  simp only [Bool.and_eq_true, decide_eq_true_eq]
  omega

/-- A field's write leaves the bits of other fields. -/
theorem getLsbD_fieldWrite_of_not_covers {bcast opn : Bool} {v acc : Word} {f : FieldDef} {k : Nat} (n : ¬ f.covers k) :
    (fieldWrite bcast opn v acc f).getLsbD k = acc.getLsbD k := by
  by_cases hk : k < 32
  · have m : (fieldMask f)[k] = false := Bool.eq_false_iff.mpr fun e => n ((getElem_fieldMask f hk).mp e)
    unfold fieldWrite
    split
    · rfl
    · cases f.acc <;> cases opn <;> simp [m, hk]
  · rw [BitVec.getLsbD_of_ge _ _ (by omega), BitVec.getLsbD_of_ge _ _ (by omega)]

/-- A field's write leaves in its own bits what its access code says. -/
theorem getLsbD_fieldWrite_of_covers {opn : Bool} {v acc : Word} {f : FieldDef} {k : Nat} (c : f.covers k) :
    (fieldWrite false opn v acc f).getLsbD k = accessBit opn f.acc (acc.getLsbD k) (v.getLsbD k) := by
  by_cases hk : k < 32
  · have m : (fieldMask f)[k] = true := (getElem_fieldMask f hk).mpr c
    cases e : f.acc <;> cases opn <;> simp [fieldWrite, accessBit, e, m, hk]
  · rw [BitVec.getLsbD_of_ge _ _ (by omega), BitVec.getLsbD_of_ge acc _ (by omega), BitVec.getLsbD_of_ge v _ (by omega)]
    cases f.acc <;> cases opn <;> rfl

theorem getLsbD_mergeWrite_of_not_covers {bcast opn : Bool} {v : Word} {k : Nat} (fs : List FieldDef) (old : Word)
    (n : ∀ f ∈ fs, ¬ f.covers k) : (mergeWrite fs bcast opn old v).getLsbD k = old.getLsbD k := by
  induction fs generalizing old with
  | nil => rfl
  | cons f fs ih =>
    have := ih (fieldWrite bcast opn v old f) fun g m => n g (.tail _ m)
    rw [getLsbD_fieldWrite_of_not_covers (n f (.head _))] at this
    exact this

/-- Of fields that lie apart, the one that covers a bit decides it. -/
theorem getLsbD_mergeWrite_of_covers {opn : Bool} {v : Word} {k : Nat} {f : FieldDef} (fs : List FieldDef) (old : Word)
    (p : fs.Pairwise FieldDef.apart) (m : f ∈ fs) (c : f.covers k) :
    (mergeWrite fs false opn old v).getLsbD k = accessBit opn f.acc (old.getLsbD k) (v.getLsbD k) := by
  induction fs generalizing old with
  | nil => cases m
  | cons g fs ih =>
    obtain ⟨pg, p⟩ := List.pairwise_cons.mp p
    rcases List.mem_cons.mp m with rfl | m
    · have := getLsbD_mergeWrite_of_not_covers (bcast := false) (opn := opn) (v := v) fs (fieldWrite false opn v old f)
        fun g m => (pg g m).not_covers c
      rw [getLsbD_fieldWrite_of_covers c] at this
      exact this
    · have := ih (fieldWrite false opn v old g) p m
      rw [getLsbD_fieldWrite_of_not_covers ((pg f m).symm.not_covers c)] at this
      exact this

/-! ### A stored host write -/

/-- The fields of a word that are staged when they are written (R139), and those that are not. -/
def stagedFields (blk i w : Nat) : List FieldDef := (wordFields blk i w).filter fun f => f.priv
def liveFields (blk i w : Nat) : List FieldDef := (wordFields blk i w).filter fun f => !f.priv

section
variable {s : State} {blk h i w : Nat} {opn : Bool} {v : Word}

theorem stored_rd : (stored blk opn h i w v s).rd h i blk w = mergeWrite (liveFields blk i w) false opn (s.rd h i blk w) v := by
  simp only [stored, hostWrite]
  split <;> simp [liveFields]

theorem stored_stg (n : stagedFields blk i w ≠ []) :
    (stored blk opn h i w v s).stg h i blk w = mergeWrite (stagedFields blk i w) false true (s.stg h i blk w) v := by
  simp only [stored, hostWrite]
  have ne : ((wordFields blk i w).filter fun f => f.priv).isEmpty = false := Bool.eq_false_iff.mpr fun e => n (List.isEmpty_iff.mp e)
  simp [ne, stagedFields]

theorem stored_rd_ne {h' i' blk' w' : Nat} (n : rkey h' blk' i' w' ≠ rkey h blk i w) :
    (stored blk opn h i w v s).rd h' i' blk' w' = s.rd h' i' blk' w' := by
  simp only [stored, hostWrite]
  split <;> simp [State.rd_wr_ne _ _ n]

/-- A bit no live field covers keeps its value: a privileged field's, or a reserved one. -/
theorem stored_bit_of_no_live {k : Nat} (n : ∀ f ∈ liveFields blk i w, ¬ f.covers k) :
    ((stored blk opn h i w v s).rd h i blk w).getLsbD k = (s.rd h i blk w).getLsbD k := by
  rw [stored_rd, getLsbD_mergeWrite_of_not_covers _ _ n]

theorem stored_bit_of_live {f : FieldDef} {k : Nat} (m : f ∈ wordFields blk i w) (p : f.priv = false) (c : f.covers k) :
    ((stored blk opn h i w v s).rd h i blk w).getLsbD k = accessBit opn f.acc ((s.rd h i blk w).getLsbD k) (v.getLsbD k) := by
  rw [stored_rd]
  exact getLsbD_mergeWrite_of_covers _ _ ((wordFields_apart blk i w).filter _) (List.mem_filter.mpr ⟨m, by simp [p]⟩) c

theorem stored_stg_bit {f : FieldDef} {k : Nat} (m : f ∈ wordFields blk i w) (p : f.priv = true) (c : f.covers k) :
    ((stored blk opn h i w v s).stg h i blk w).getLsbD k = accessBit true f.acc ((s.stg h i blk w).getLsbD k) (v.getLsbD k) := by
  have mem : f ∈ stagedFields blk i w := List.mem_filter.mpr ⟨m, p⟩
  rw [stored_stg (List.ne_nil_of_mem mem)]
  exact getLsbD_mergeWrite_of_covers _ _ ((wordFields_apart blk i w).filter _) mem c

/-- A privileged field's bits belong to no live field. -/
theorem not_covers_of_priv {f : FieldDef} {k : Nat} (m : f ∈ wordFields blk i w) (p : f.priv = true) (c : f.covers k) :
    ∀ g ∈ liveFields blk i w, ¬ g.covers k := by
  intro g hg
  obtain ⟨mg, pg⟩ := List.mem_filter.mp hg
  exact wordFields_covers_unique m mg (fun e => by simp [← e, p] at pg) c

end

/-! ### Obligations -/

/-- Settles O10: the fields of a word lie apart, so each bit of the stored word is decided by the one field that covers it, by
its access code, or kept where none does. -/
theorem hostWritesFollowAccessCodes : Obligations.HostWritesFollowAccessCodes := by
  intro s blk h i w opn v t
  refine ⟨?live, ?staged, ?reserved, ?others⟩
  case live =>
    intro f m p k lo hi
    rw [stored_bit_of_live m p ⟨lo, hi⟩]
    cases f.acc <;> rfl
  case staged =>
    intro f m p k lo hi
    refine ⟨stored_bit_of_no_live (not_covers_of_priv m p ⟨lo, hi⟩), fun e => ?_⟩
    rw [stored_stg_bit m p ⟨lo, hi⟩, e]
    rfl
  case reserved =>
    exact fun k n => stored_bit_of_no_live fun f m => n f (List.mem_filter.mp m).1
  case others =>
    intro h' i' blk' w' hi' hb' hw' hi hb hw n
    exact stored_rd_ne (rkey_ne hi' hw' hb' hi hw hb fun ⟨eh, ei, eb, ew⟩ => n (by rw [eh, ei, eb, ew]))

/-- Settles O5: every clause is a value of the reset state, and nothing waits in it. -/
theorem resetState : Obligations.ResetState := by
  have gates : gatesShown State.reset := by unfold gatesShown; decide +kernel
  have rests : Rests State.reset := ⟨rfl, by decide +kernel, by decide +kernel, rfl, rfl, fun _ => rfl⟩
  exact ⟨gates, by decide +kernel, rfl, rfl, rfl, by decide +kernel, by decide +kernel, rests⟩

end Sys2Proof.Machine
end

section
/-! PROOFS. Register accesses by address (R6 to R8, R117, R267, R293): one write or read at the one target,
latched words, and what the reading commands leave. -/

namespace Sys2Proof.Machine

/-! ### Writes by address -/

section
variable {s : State} {addr h i : Nat} {a : RegAddr} {v : Word}

theorem writeRow_of_no_target (e : regAddr addr = some a) (t : targets s a = []) : writeRow addr v s = s := by
  simp [writeRow, busWrite, e, t, forEach, onlyIf]

theorem writeRow_of_up (e : regAddr addr = some a) (t : targets s a = [(h, i)]) (u : targetUp s a (h, i) = true) :
    writeRow addr v s = regWrite a.blk h i a.word v a.bcast s := by
  simp [writeRow, busWrite, e, t, u, forEach, onlyIf]

theorem writeRow_of_down (e : regAddr addr = some a) (t : targets s a = [(h, i)]) (u : targetUp s a (h, i) = false) :
    writeRow addr v s = (unreach s.crown s).fput 0 0 GLB_PORT_STATUS_WERR 1 := by
  simp [writeRow, busWrite, e, t, u, forEach, onlyIf]

end

theorem regFields_eventEn_column_b (blk : Nat) : ∀ w ∈ eventEnWords blk, (regFields blk w).any (fun f => f.b) = true := by
  unfold eventEnWords
  split
  case h_23 => exact fun _ m => absurd m List.not_mem_nil
  all_goals decide +kernel

/-- An EVENT_EN word that the unit has takes broadcasts (R7). -/
theorem wordSolo_eventEn {blk i w : Nat} (m : (eventEnWords blk).contains w = true) (n : wordFields blk i w ≠ []) :
    wordSolo blk i w = false := by
  have any := regFields_eventEn_column_b blk w (List.contains_iff_mem.mp m)
  rw [← (wordFields_eq blk i w).resolve_left n] at any
  simpa [wordSolo] using any

theorem regWrite_eventEn {blk h i w : Nat} {v : Word} {bcast : Bool} {s : State} (m : (eventEnWords blk).contains w = true)
    (nm : blk ≠ BLK_MBX) (nt : blk ≠ BLK_TWN) (n : bcast = true → wordFields blk i w ≠ []) :
    regWrite blk h i w v bcast s = hostWrite blk (blockOpen blk) (eventEnableAct blk) h i w v bcast s := by
  have solo : (bcast && wordSolo blk i w) = false := by
    cases bcast
    · rfl
    · exact wordSolo_eventEn m (n rfl)
  unfold regWrite
  rw [if_neg (by simp [solo]), if_pos ⟨m, nm, nt⟩]

/-! ### Latches -/

/-- What a word shows does not depend on what is latched. DEC_WAIT's word is left out: it is never latched, and showing it
tries out an allocation. -/
theorem regPeek_latches (s : State) (L : Tab Nat) {blk w : Nat} (h i : Nat) (n : blk = BLK_BAS → w ≠ BAS_STATUS_DEC_WAIT.word) :
    regPeek { s with latches := L } blk h i w = regPeek s blk h i w := by
  by_cases b : blk = BLK_BAS
  · subst b
    simp only [regPeek, if_neg (n rfl)]
    rfl
  · unfold regPeek
    split
    case h_5 => exact absurd rfl b
    all_goals rfl

theorem decWait_not_latched (w : Nat) : BAS_STATUS_DEC_WAIT.word ∉ latchedBy BLK_BAS w := by
  intro m
  simp only [latchedBy] at m
  split at m
  · next c =>
    have e : w = 0 := by simpa using (List.mem_singleton.mp m).symm
    subst e
    revert c
    decide
  · cases m

/-- What stands in the latch of a word: 0, or the latched value plus one. -/
def State.latchOf (s : State) (h i blk w : Nat) : Nat := tabGet (fun _ => 0) s.latches (rkey h blk i w)

/-- One word latched as it reads now. -/
def latchWord (blk h i w : Nat) (s : State) : State :=
  { s with latches := tabSet (fun _ => 0) s.latches (rkey h blk i w) ((regPeek s blk h i w).toNat + 1) }

theorem latchWords_cons (blk h i w : Nat) (ws : List Nat) (s : State) :
    latchWords blk h i (w :: ws) s = latchWords blk h i ws (latchWord blk h i w s) := rfl

/-- Latching touches the latches alone. -/
theorem latchWords_shape (blk h i : Nat) (ws : List Nat) (s : State) :
    latchWords blk h i ws s = { s with latches := (latchWords blk h i ws s).latches } := by
  induction ws generalizing s with
  | nil => rfl
  | cons w ws ih => exact ih (latchWord blk h i w s)

@[simp] theorem latchWords_regs (blk h i : Nat) (ws : List Nat) (s : State) : (latchWords blk h i ws s).regs = s.regs := by
  rw [latchWords_shape]

@[simp] theorem latchWords_out (blk h i : Nat) (ws : List Nat) (s : State) : (latchWords blk h i ws s).out = s.out := by
  rw [latchWords_shape]

@[simp] theorem latchWords_rd (blk h i : Nat) (ws : List Nat) (s : State) (h' i' b w : Nat) :
    (latchWords blk h i ws s).rd h' i' b w = s.rd h' i' b w := by
  simp [State.rd]

theorem latchOf_latchWord_same (blk h i w : Nat) (s : State) :
    (latchWord blk h i w s).latchOf h i blk w = (regPeek s blk h i w).toNat + 1 := by
  simp [State.latchOf, latchWord]

theorem latchOf_latchWord_ne {w x : Nat} (blk h i : Nat) (s : State) (n : w ≠ x) :
    (latchWord blk h i x s).latchOf h i blk w = s.latchOf h i blk w := by
  have k : rkey h blk i w ≠ rkey h blk i x := by unfold rkey; omega
  unfold State.latchOf latchWord
  dsimp only
  exact tabGet_tabSet_ne _ _ _ k

/-- A word latched before, or in the list, stands latched with the value it showed. -/
theorem latchOf_latchWords {blk w : Nat} (h i : Nat) (ws : List Nat) (s : State) (n : blk = BLK_BAS → w ≠ BAS_STATUS_DEC_WAIT.word)
    (m : w ∈ ws ∨ s.latchOf h i blk w = (regPeek s blk h i w).toNat + 1) :
    (latchWords blk h i ws s).latchOf h i blk w = (regPeek s blk h i w).toNat + 1 := by
  induction ws generalizing s with
  | nil => exact m.resolve_left List.not_mem_nil
  | cons x ws ih =>
    have peek : regPeek (latchWord blk h i x s) blk h i w = regPeek s blk h i w := regPeek_latches s _ h i n
    rw [latchWords_cons, ← peek]
    refine ih _ ?_
    rw [peek]
    by_cases e : w = x
    · subst e
      exact .inr (latchOf_latchWord_same blk h i w s)
    · rw [latchOf_latchWord_ne blk h i s e]
      exact m.imp_left fun m => (List.mem_cons.mp m).resolve_left e

/-! ### Reads by address -/

/-- A word whose read does no more than latch and clear: no Flue pop, not the port of the Grate's tables or of the DLUT. -/
def readsPlain (blk w : Nat) : Prop :=
  (blk = BLK_FLU → 0x80 ≤ w) ∧ (blk = BLK_GRT → w ≠ GRT_TBL_DATA.word) ∧ (blk = BLK_ISP → w ≠ ISP_DLUT_DATA.word)

section
variable {s : State} {blk h i w : Nat}

/-- A latched word reads as it was latched. -/
theorem regRead_of_latched {v : Word} (l : s.latchOf h i blk w = v.toNat + 1) : (regRead blk h i w s).1 = v := by
  unfold State.latchOf at l
  simp [regRead, l]

/-- Such a word with nothing latched for it shows itself; its RC fields return to their reset values (R8). -/
theorem regRead_plain (p : readsPlain blk w) (l : s.latchOf h i blk w = 0) :
    regRead blk h i w s = (regPeek s blk h i w,
      if rcMask blk i w = 0 then latchWords blk h i (latchedBy blk w) s else
        (latchWords blk h i (latchedBy blk w) s).wr h i blk w
          ((s.rd h i blk w &&& ~~~ rcMask blk i w) ||| (wordReset blk i w &&& rcMask blk i w))) := by
  obtain ⟨flue, grate, dlut⟩ := p
  unfold State.latchOf at l
  have pop : ¬(blk = BLK_FLU ∧ w < 0x80 ∧ w % 4 = 1) := fun ⟨e, lt, _⟩ => absurd (flue e) (by omega)
  have table : ¬(blk = BLK_GRT ∧ w = GRT_TBL_DATA.word) := fun ⟨e, ew⟩ => grate e ew
  have lut : ¬(blk = BLK_ISP ∧ w = ISP_DLUT_DATA.word) := fun ⟨e, ew⟩ => dlut e ew
  simp only [regRead, l, ne_eq, not_true_eq_false, if_false, if_neg pop, if_neg table, if_neg lut, latchWords_rd]
  split <;> rfl

theorem regRead_of_noRc (p : readsPlain blk w) (l : s.latchOf h i blk w = 0) (m : rcMask blk i w = 0) :
    regRead blk h i w s = (regPeek s blk h i w, latchWords blk h i (latchedBy blk w) s) := by
  rw [regRead_plain p l, if_pos m]

theorem regRead_of_rc (p : readsPlain blk w) (l : s.latchOf h i blk w = 0) (m : rcMask blk i w ≠ 0) :
    regRead blk h i w s = (regPeek s blk h i w, (latchWords blk h i (latchedBy blk w) s).wr h i blk w
      ((s.rd h i blk w &&& ~~~ rcMask blk i w) ||| (wordReset blk i w &&& rcMask blk i w))) := by
  rw [regRead_plain p l, if_neg m]

/-- What reading a _LO word leaves latched reads as it showed then (R117, R372). -/
theorem regRead_latchWords {w' : Nat} (t : State) (m : w' ∈ latchedBy blk w)
    (e : t.latches = (latchWords blk h i (latchedBy blk w) s).latches) : (regRead blk h i w' t).1 = regPeek s blk h i w' := by
  have n : blk = BLK_BAS → w' ≠ BAS_STATUS_DEC_WAIT.word := by
    rintro rfl rfl
    exact decWait_not_latched w m
  have l := latchOf_latchWords h i (latchedBy blk w) s n (.inl m)
  unfold State.latchOf at l
  rw [← e] at l
  exact regRead_of_latched l

end

section
variable {s : State} {addr h i : Nat} {a : RegAddr}

theorem busRead_of_up (e : regAddr addr = some a) (t : targets s a = [(h, i)]) (u : targetUp s a (h, i) = true)
    (b : a.bcast = false) : busRead addr s = (some (regRead a.blk h i a.word s).1, (regRead a.blk h i a.word s).2) := by
  simp [busRead, e, t, u, b]

/-- The state after an answered read: the word is handed to its requester. -/
def answered (addr : Nat) (r : Word × State) : State := r.2.emit (.regRead addr r.1)

theorem readRow_of_up {ok : RegAddr → Bool} (e : regAddr addr = some a) (t : targets s a = [(h, i)])
    (u : targetUp s a (h, i) = true) (b : a.bcast = false) (k : ok a = true) :
    readRow ok addr s = answered addr (regRead a.blk h i a.word s) := by
  simp [readRow, e, k, busRead_of_up e t u b, answered]

end

/-! ### The reading commands -/

/-- TIM_SEC_LO of hearth 0 names the one register set of the time base. -/
theorem targets_timSecLo {s : State} (p : s.hasH 0 = true) : targets s ⟨0, 0, BLK_TIM, 0, TIM_SEC_LO.word⟩ = [(0, 0)] := by
  simp [targets, hearthNames, instNames, instPresent, p, blkGlobal]

section
variable {s : State} {addr h i : Nat} {a : RegAddr}

/-- A read of an RC word (R8). -/
theorem rcRead_effect (e : regAddr addr = some a) (t : targets s a = [(h, i)]) (u : targetUp s a (h, i) = true)
    (b : a.bcast = false) (m : rcMask a.blk i a.word ≠ 0) (p : readsPlain a.blk a.word) (l : s.latchOf h i a.blk a.word = 0) :
    ∃ t, exec (.rcRead addr) s = .next (settle t) ∧ t.out = .regRead addr (regPeek s a.blk h i a.word) :: s.out ∧
      t.rd h i a.blk a.word = (s.rd h i a.blk a.word &&& ~~~ rcMask a.blk i a.word) |||
        (wordReset a.blk i a.word &&& rcMask a.blk i a.word) := by
  refine ⟨answered addr (regRead a.blk h i a.word s), congrArg settled (readRow_of_up e t u b ?_), ?_, ?_⟩
  · simpa [t] using m
  · simp [answered, State.emit, regRead_of_rc p l m]
  · simp [answered, regRead_of_rc p l m]

/-- A read of the low half of a pair (R117). -/
theorem loHalfRead_effect {w' : Nat} (e : regAddr addr = some a) (t : targets s a = [(h, i)]) (u : targetUp s a (h, i) = true)
    (b : a.bcast = false) (m : rcMask a.blk i a.word = 0) (p : readsPlain a.blk a.word) (l : s.latchOf h i a.blk a.word = 0)
    (mem : w' ∈ latchedBy a.blk a.word) :
    ∃ t, exec (.loHalfRead addr) s = .next (settle t) ∧ t.out = .regRead addr (regPeek s a.blk h i a.word) :: s.out ∧
      t.regs = s.regs ∧ (regRead a.blk h i w' t).1 = regPeek s a.blk h i w' := by
  refine ⟨answered addr (regRead a.blk h i a.word s), congrArg settled (readRow_of_up e t u b ?_), ?_, ?_, ?_⟩
  · simpa using List.ne_nil_of_mem mem
  · simp [answered, State.emit, regRead_of_noRc p l m]
  · simp [answered, regRead_of_noRc p l m]
  · exact regRead_latchWords _ mem (by simp [answered, regRead_of_noRc p l m])

/-- A read of TIM_SEC_LO latches the whole time (R372). -/
theorem timSecLoRead_effect (p : s.hasH 0 = true) (l : s.latchOf 0 0 BLK_TIM TIM_SEC_LO.word = 0) :
    ∃ t, exec .timSecLoRead s = .next (settle t) ∧ t.out = .regRead (0x1A * 2 ^ 17 + 8) (BitVec.ofNat 32 s.tim.sec) :: s.out ∧
      (regRead BLK_TIM 0 0 TIM_NS.word t).1 = BitVec.ofNat 32 s.tim.ns ∧
      (regRead BLK_TIM 0 0 TIM_FRAC.word t).1 = BitVec.ofNat 32 s.tim.frac := by
  have m : rcMask BLK_TIM 0 TIM_SEC_LO.word = 0 := by decide +kernel
  have read := regRead_of_noRc (show readsPlain BLK_TIM TIM_SEC_LO.word by unfold readsPlain; decide) l m
  have row : exec .timSecLoRead s = .next (settle (answered (0x1A * 2 ^ 17 + 8) (regRead BLK_TIM 0 0 TIM_SEC_LO.word s))) :=
    congrArg settled (readRow_of_up (a := ⟨0, 0, BLK_TIM, 0, TIM_SEC_LO.word⟩) rfl (targets_timSecLo p) rfl rfl rfl)
  rw [read] at row
  refine ⟨_, row, ?_, regRead_latchWords _ (by decide) rfl, regRead_latchWords _ (by decide) rfl⟩
  simp only [answered, State.emit, latchWords_out]
  rfl

end

end Sys2Proof.Machine
end

section
/-! PROOFS. The control port (R264 to R267): its transactions and the posted writes. -/

namespace Sys2Proof.Machine

/-- A burst that the posted buffer has room for stands in it in order (R267, R268). -/
theorem postWrites_of_room (addr k : Nat) (ws : List Word) (s : State) (room : s.posted.length + ws.length ≤ 512) :
    postWrites addr k ws s = { s with posted := s.posted ++ (ws.zipIdx k).map fun e => (burstAddr addr e.2, e.1) } := by
  induction ws generalizing k s with
  | nil => simp [postWrites]
  | cons v ws ih =>
    simp only [List.length_cons] at room
    rw [postWrites, if_neg (by omega), ih _ _ (by simp; omega)]
    simp

theorem postedFlush_of_empty (n : Nat) {s : State} (e : s.posted = []) : postedFlush n s = s := by
  cases n <;> simp [postedFlush, e]

/-- A burst that is answered has every word asked for. -/
theorem busReads_length {addr n k : Nat} {s t : State} {ws : List Word} (e : busReads addr k n s = (some ws, t)) : ws.length = n := by
  induction n generalizing k s t ws with
  | zero =>
    cases e
    rfl
  | succ n ih =>
    simp only [busReads] at e
    split at e
    · cases e
    · obtain ⟨e, -⟩ := Prod.mk.inj e
      obtain ⟨vs, q, rfl⟩ := Option.map_eq_some_iff.mp e
      rw [List.length_cons, ih (Prod.ext q rfl)]

theorem portBegin_of_open (f : State → State) {s : State} (o : s.portOpen = true) : portBegin f s = s := by simp [portBegin, o]

theorem portBegin_of_closed (f : State → State) {s : State} (o : s.portOpen = false) :
    portBegin f s = f { s with portOpen := true } := by simp [portBegin, o]

section
variable {s : State} {addr n : Nat}

/-- READ with nothing posted (R266). -/
theorem qspiRead_late (e : s.posted = []) : qspiRead addr n true s =
    (s.fput 0 0 GLB_PORT_STATUS_RTMO 1).emit (.qspi (0xE1 :: List.replicate (4 * (n % 256 + 1)) 0)) := by
  simp [qspiRead, postedFlush_of_empty 512 e]

theorem qspiRead_answered {ws : List Word} {t : State} (e : s.posted = []) (r : busReads addr 0 (n % 256 + 1) s = (some ws, t)) :
    qspiRead addr n false s = t.emit (.qspi (0xA5 :: wireWords ws)) := by
  simp [qspiRead, postedFlush_of_empty 512 e, r]

theorem qspiRead_unreachable {t : State} (e : s.posted = []) (r : busReads addr 0 (n % 256 + 1) s = (none, t)) :
    qspiRead addr n false s =
      (t.fput 0 0 GLB_PORT_STATUS_RTMO 1).emit (.qspi (0xE1 :: List.replicate (4 * (n % 256 + 1)) 0)) := by
  simp [qspiRead, postedFlush_of_empty 512 e, r]

end

/-- The lowest bit of the STATUS byte says whether posted writes wait (R265). -/
theorem portStatus_bit (s : State) :
    (BitVec.ofNat 8 (regPeek s BLK_GLB 0 0 GLB_PORT_STATUS.word).toNat).getLsbD 0 = true ↔ s.posted ≠ [] := by
  have peek : regPeek s BLK_GLB 0 0 GLB_PORT_STATUS.word =
    insertBits (s.rd 0 0 BLK_GLB GLB_PORT_STATUS.word) 0 1 (b2n !s.posted.isEmpty) := rfl
  rw [BitVec.getLsbD_ofNat, peek, testBit_insertBits _ _ _ _ _ (by decide)]
  cases s.posted <;> simp [b2n]

/-! ### Obligation -/

/-- Settles O11: an access by address comes to one register write or read at its one target; the control port's transactions follow
its table of opcodes. -/
theorem registerReadsAndControlPort : Obligations.RegisterReadsAndControlPort := by
  refine ⟨fun s addr a e => ?access, fun s => ?port⟩
  case access =>
    refine ⟨fun v t => congrArg settled (writeRow_of_no_target e t),
      fun v h i t u => congrArg settled (writeRow_of_up e t u),
      fun v h i t u => congrArg settled (writeRow_of_down e t u), ?eventEnable, ?rc, ?low, timSecLoRead_effect⟩
    case eventEnable =>
      intro v h i t u m nm nt n
      have row := writeRow_of_up (v := v) e t u
      rw [regWrite_eventEn m nm nt n] at row
      refine congrArg settled (Eq.trans (if_pos ?_) row)
      rw [e]
      exact m
    case rc => exact fun h i t u b m p1 p2 p3 l => rcRead_effect e t u b m ⟨p1, p2, p3⟩ l
    case low => exact fun h i w' t u b m p1 p2 p3 l mem => loHalfRead_effect e t u b m ⟨p1, p2, p3⟩ l mem
  case port =>
    refine ⟨?write, ?busy, ?read, ?opcodes, rfl, ?none, ?oldest⟩
    case write =>
      intro o addr ws le room
      refine congrArg settled ?_
      rw [portBegin_of_closed _ o, List.take_of_length_le le]
      exact postWrites_of_room addr 0 ws _ room
    case busy =>
      exact fun o => ⟨fun _ _ => congrArg settled (portBegin_of_open _ o), fun _ _ _ => congrArg settled (portBegin_of_open _ o),
        congrArg settled (portBegin_of_open _ o), congrArg settled (portBegin_of_open _ o)⟩
    case read =>
      intro o p addr n
      refine ⟨congrArg settled ?_, fun ws t r => ⟨congrArg settled ?_, busReads_length r⟩, fun t r => congrArg settled ?_⟩
      · exact (portBegin_of_closed _ o).trans (qspiRead_late p)
      · exact (portBegin_of_closed _ o).trans (qspiRead_answered p r)
      · exact (portBegin_of_closed _ o).trans (qspiRead_unreachable p r)
    case opcodes =>
      intro o
      refine ⟨⟨_, congrArg settled (portBegin_of_closed _ o), portStatus_bit _⟩, congrArg settled (portBegin_of_closed _ o),
        fun op => ⟨?_, ?_, ?_⟩⟩
      · intro n5 n9
        refine congrArg settled ((portBegin_of_closed _ o).trans ?_)
        simp [qspiOpcode, n5, n9]
      · rintro rfl
        rfl
      · rintro rfl
        rfl
    case none =>
      intro p
      exact congrArg settled (by simp [postedApply, p])
    case oldest =>
      intro addr v rest p
      exact congrArg settled (by simp [postedApply, p])

end Sys2Proof.Machine
end

section
/-! PROOFS. What a lane's operations leave of the fields of its LANE and TST words: a frame of fields, finer than words. -/

namespace Sys2Proof.Machine

/-- A field of a lane's registers, in block LANE or TST. -/
abbrev Fld.ofLane (g : Fld) : Prop := (g.blk = BLK_LANE ∨ g.blk = BLK_TST) ∧ g.word < 2048 ∧ g.lo + g.len ≤ 32

/-- Two fields of a lane share no bit. -/
abbrev Fld.apart (g f : Fld) : Prop := g.blk ≠ f.blk ∨ g.word ≠ f.word ∨ g.lo + g.len ≤ f.lo ∨ f.lo + f.len ≤ g.lo

/-- Every field of a lane that lies apart from the listed ones reads in `t` as in `s`. -/
def FieldsBut (fs : List Fld) (h l : Nat) (s t : State) : Prop :=
  ∀ g : Fld, g.ofLane → (∀ f ∈ fs, g.apart f) → t.fget h l g = s.fget h l g

/-- Fields of the lane that entering a state writes. -/
def goFields : List Fld := [LANE_STATUS_STATE, LANE_EVENT_DOWN, LANE_EVENT_UP, LANE_EVENT_TIMEOUT]

/-- Fields that starting an acquisition again writes besides. -/
def releaseFields : List Fld := [LANE_STATUS_CDR_LOCK, LANE_STATUS_ALIGNED, LANE_STATUS_REVERSED, LANE_STATUS_RECENTRE]

theorem laneOk_lt {s : State} {h l : Nat} (ok : laneOk s h l = true) : l < 16 := by
  simp only [laneOk, Bool.and_eq_true, Bool.or_eq_true, decide_eq_true_eq] at ok
  omega

theorem Fld.ofLane.blk_lt {g : Fld} (o : g.ofLane) : g.blk < 256 := by
  obtain ⟨b, -⟩ := o
  rcases b with b | b <;> rw [b] <;> decide

/-- A lane's registers count no lost event words. -/
theorem Fld.ofLane.noLoss {g : Fld} {l : Nat} (o : g.ofLane) (hl : l < 16) : NoLossCounter l g.blk g.word := by
  refine noLoss_of hl o.blk_lt o.2.1 ?_
  obtain ⟨b, -⟩ := o
  rintro (⟨e, -⟩ | ⟨e, -⟩) <;> rcases b with b | b <;> rw [b] at e <;> cases e

section
variable {s t u : State} {h l i : Nat} {f g : Fld} {fs : List Fld}

/-- A write of a field leaves the lane's fields apart from it, and those of other lanes. -/
theorem State.fget_fput_apart (v : Nat) (hl : l < 16) (hi : i < 16) (og : g.ofLane) (o : f.ofLane) (n : i ≠ l ∨ g.apart f) :
    (s.fput h i f v).fget h l g = s.fget h l g := by
  by_cases e : rkey h g.blk l g.word = rkey h f.blk i f.word
  · obtain ⟨-, rfl, eb, ew⟩ := rkey_inj hl og.2.1 og.blk_lt hi o.2.1 o.blk_lt e
    have lo := og.2.2
    exact State.fget_fput_disj _ _ eb ew lo (by simp [Fld.apart, eb, ew] at n; omega)
  · exact State.fget_fput_ne _ _ e

theorem State.fget_fput_of_lt {v : Nat} (hf : f.lo + f.len ≤ 32) (hv : v < 2 ^ f.len) : (s.fput h i f v).fget h i f = v := by
  rw [State.fget_fput_same _ _ _ _ _ hf, Nat.mod_eq_of_lt hv]

/-- A raised event leaves the lane's fields apart from its bit, and those of other lanes. -/
theorem raise_fget_apart (hl : l < 16) (hi : i < 16) (og : g.ofLane) (o : f.ofLane) (n : i ≠ l ∨ g.apart f) :
    (s.raise h i f).fget h l g = s.fget h l g := by
  have put := State.fget_fput_apart (s := s) (h := h) 1 hl hi og o n
  unfold State.raise
  dsimp only
  split_ifs
  · rfl
  · rw [← put]
    unfold State.fget
    rw [postEvent_rd _ _ _ _ _ (og.noLoss hl)]
  · exact put

theorem satAdd32_lt (a n : Nat) : satAdd32 a n < 2 ^ 32 := Nat.lt_of_le_of_lt (Nat.min_le_right _ _) (by decide)

/-- A counter counts, and sticks at all ones (R41). -/
theorem State.fget_count (n : Nat) (w : f.lo = 0 ∧ f.len = 32) :
    (s.count h l f n).fget h l f = satAdd32 (s.fget h l f) n :=
  State.fget_fput_of_lt (by omega) (w.2 ▸ satAdd32_lt _ _)

/-- A counter that steps with its event: the count shows, and the event is on. -/
theorem count_raise_shows {e : Fld} (n : Nat) (hl : l < 16) (w : f.lo = 0 ∧ f.len = 32) (of : f.ofLane) (oe : e.ofLane)
    (a : f.apart e) (one : 1 ≤ e.len) :
    ((s.count h l f n).raise h l e).fget h l f = satAdd32 (s.fget h l f) n ∧
    ((s.count h l f n).raise h l e).fon h l e = true :=
  ⟨(raise_fget_apart hl hl of oe (.inr a)).trans (State.fget_count n w), raise_sets _ _ _ _ oe.2.2 one (oe.noLoss hl)⟩

theorem FieldsBut.refl : FieldsBut fs h l s s := fun _ _ _ => rfl

theorem FieldsBut.trans (a : FieldsBut fs h l s t) (b : FieldsBut fs h l t u) : FieldsBut fs h l s u :=
  fun g o n => (b g o n).trans (a g o n)

theorem FieldsBut.mono {es : List Fld} (a : FieldsBut es h l s t) (sub : es ⊆ fs) : FieldsBut fs h l s t :=
  fun g o n => a g o fun f m => n f (sub m)

/-- An update that leaves the register table alone. -/
theorem FieldsBut.regs (a : FieldsBut fs h l s t) (e : u.regs = t.regs) : FieldsBut fs h l s u := by
  intro g o n
  rw [← a g o n]
  unfold State.fget State.rd
  rw [e]

theorem FieldsBut.fput (a : FieldsBut fs h l s t) (v : Nat) (hl : l < 16) (hi : i < 16) (o : f.ofLane) (m : i ≠ l ∨ f ∈ fs) :
    FieldsBut fs h l s (t.fput h i f v) :=
  fun g og n => (State.fget_fput_apart v hl hi og o (m.imp_right (n f))).trans (a g og n)

theorem FieldsBut.raise (a : FieldsBut fs h l s t) (hl : l < 16) (hi : i < 16) (o : f.ofLane) (m : i ≠ l ∨ f ∈ fs) :
    FieldsBut fs h l s (t.raise h i f) :=
  fun g og n => (raise_fget_apart hl hi og o (m.imp_right (n f))).trans (a g og n)

theorem FieldsBut.setLane (a : FieldsBut fs h l s t) (h' l' : Nat) (x : LaneX) : FieldsBut fs h l s (t.setLane h' l' x) :=
  a.regs (State.setLane_regs _ _ _ _)

theorem FieldsBut.free (a : FieldsBut fs h l s t) (n : Nat) : FieldsBut fs h l s (t.free n).2 := a.regs (State.free_regs _ _)

/-- A write of one of the listed fields of the lane. -/
theorem FieldsBut.put {f : Fld} (a : FieldsBut fs h l s t) (v : Nat) (hl : l < 16) (o : f.ofLane) (m : f ∈ fs) :
    FieldsBut fs h l s (t.fput h l f v) := a.fput v hl hl o (.inr m)

/-- A raised event of the lane. -/
theorem FieldsBut.event {f : Fld} (a : FieldsBut fs h l s t) (hl : l < 16) (o : f.ofLane) (m : f ∈ fs) :
    FieldsBut fs h l s (t.raise h l f) := a.raise hl hl o (.inr m)

theorem FieldsBut.count {f : Fld} (a : FieldsBut fs h l s t) (n : Nat) (hl : l < 16) (o : f.ofLane) (m : f ∈ fs) :
    FieldsBut fs h l s (t.count h l f n) := a.put _ hl o m

theorem FieldsBut.emit (a : FieldsBut fs h l s t) (o : Out) : FieldsBut fs h l s (t.emit o) := a.regs (State.emit_regs _ _)

theorem FieldsBut.lanesRefresh (a : FieldsBut fs h l s t) (hl : l < 16) (h' : Nat) : FieldsBut fs h l s (lanesRefresh h' t) := by
  intro g og n
  rw [← a g og n]
  unfold State.fget
  rw [lanesRefresh_words t h' h l g.blk g.word hl og.blk_lt og.2.1 ?_ ?_]
  · obtain ⟨b, -⟩ := og
    rcases b with b | b <;> simp [b, lanesWords]
  · obtain ⟨b, -⟩ := og
    rcases b with b | b <;> simp [b, lossWord]

/-- Entering a state writes its own fields, or another lane's. -/
theorem FieldsBut.go (a : FieldsBut fs h l s t) (st : Nat) (hl : l < 16) (hi : i < 16) (m : i ≠ l ∨ goFields ⊆ fs) :
    FieldsBut fs h l s (laneGo h i st t) := by
  have mem : ∀ e ∈ goFields, i ≠ l ∨ e ∈ fs := fun e he => m.imp_right fun sub => sub he
  refine laneGo_keeps t h i st (a.fput st hl hi (by decide) (mem _ (by simp [goFields]))) (fun u e he b => ?_)
    (fun u b => b.lanesRefresh hl h)
  have o : e.ofLane := by
    simp only [List.mem_cons, List.not_mem_nil, or_false] at he
    rcases he with rfl | rfl | rfl <;> decide
  exact b.raise hl hi o (mem e (List.mem_cons_of_mem _ he))

theorem laneGo_fields (st : Nat) (hl : l < 16) : FieldsBut goFields h l s (laneGo h l st s) :=
  FieldsBut.refl.go st hl hl (.inr (List.Subset.refl _))

theorem laneSt_laneGo {st : Nat} (hl : l < 16) (hs : st < 8) : laneSt (laneGo h l st s) h l = st := by
  unfold laneSt
  rw [laneGo_status s h l st hl rfl rfl, State.fget_fput_of_lt (by decide) hs]

/-- Starting an acquisition again enters the state and then releases lock and alignment. -/
theorem laneRestart_fields (st : Nat) (hl : l < 16) : FieldsBut releaseFields h l (laneGo h l st s) (laneRestart h l st s) := by
  unfold laneRestart
  exact ((((FieldsBut.refl.put 0 hl (by decide) (by decide)).put 0 hl (by decide) (by decide)).put 0 hl (by decide)
    (by decide)).put 0 hl (by decide) (by decide)).setLane _ _ _

theorem FieldsBut.restart (a : FieldsBut fs h l s t) (st : Nat) (hl : l < 16) (sub : goFields ++ releaseFields ⊆ fs) :
    FieldsBut fs h l s (laneRestart h l st t) :=
  have parts := List.append_subset.mp sub
  (a.go st hl hl (.inr parts.1)).trans ((laneRestart_fields st hl).mono parts.2)

theorem laneSt_laneRestart {st : Nat} (hl : l < 16) (hs : st < 8) : laneSt (laneRestart h l st s) h l = st :=
  (laneRestart_fields st hl _ (by decide) (by decide)).trans (laneSt_laneGo hl hs)

theorem laneRestart_event {st : Nat} (hl : l < 16) (was : laneSt s h l = 5) (n : st ≠ 5) :
    (laneRestart h l st s).fon h l LANE_EVENT_DOWN = true := by
  rw [State.fon_eq, laneRestart_fields st hl _ (by decide) (by decide), ← State.fon_eq]
  exact (laneGo_event s h l st hl).1 was n

/-- Lock and alignment are released (R26). -/
theorem laneRestart_releases (st : Nat) (hl : l < 16) :
    (laneRestart h l st s).fget h l LANE_STATUS_CDR_LOCK = 0 ∧ (laneRestart h l st s).fget h l LANE_STATUS_ALIGNED = 0 := by
  unfold laneRestart
  dsimp only
  rw [State.setLane_acc_fget, State.setLane_acc_fget]
  generalize laneGo h l st s = t
  constructor
  · rw [State.fget_fput_apart 0 hl hl (by decide) (by decide) (.inr (by decide)),
      State.fget_fput_apart 0 hl hl (by decide) (by decide) (.inr (by decide)),
      State.fget_fput_apart 0 hl hl (by decide) (by decide) (.inr (by decide)), State.fget_fput_of_lt (by decide) (by decide)]
  · rw [State.fget_fput_apart 0 hl hl (by decide) (by decide) (.inr (by decide)),
      State.fget_fput_apart 0 hl hl (by decide) (by decide) (.inr (by decide)), State.fget_fput_of_lt (by decide) (by decide)]

/-- Starting an acquisition again stays within the lane. -/
theorem LaneOnly.restart (s : State) (st : Nat) (hl : l < 16) : LaneOnly h l s (laneRestart h l st s) := by
  unfold laneRestart
  exact (((((LaneOnly.go s h l st hl).trans (.status hl _ _ rfl rfl)).trans (.status hl _ _ rfl rfl)).trans
    (.status hl _ _ rfl rfl)).trans (.status hl _ _ rfl rfl)).trans (.setLane hl _)

end

end Sys2Proof.Machine
end

section
/-! PROOFS. Lane states and the rows that move a lane between them (R24 to R26, R28, R45). -/

namespace Sys2Proof.Machine

/-- A write of LANE_CTRL as it stands before the lane starts or stops: a BOND set apart from the running other lane's is an error (R28). -/
def ctrlStored (s : State) (h l : Nat) (v : Word) : State :=
  let t := stored BLK_LANE (laneOpen s h l 0) h l 0 v s
  if isGorge l = true ∧ t.fon h l LANE_CTRL_BOND ≠ s.fon h l LANE_CTRL_BOND ∧ bondSplit t h = true ∧ laneSt t h (1 - l) ≠ 0 then
    bondErr h t else t

/-- A host write as the block's rule sees it. -/
def hostCtx (s : State) (blk h i w : Nat) (v : Word) : WriteCtx :=
  ⟨h, i, w, s.rd h i blk w, v &&& reachMask (wordFields blk i w) false⟩

theorem hostWrite_eq (blk : Nat) (opn : State → Nat → Nat → Nat → Bool) (act : WriteCtx → State → State) (h i w : Nat) (v : Word)
    (s : State) : hostWrite blk opn act h i w v false s = act (hostCtx s blk h i w v) (stored blk (opn s h i w) h i w v s) := rfl

theorem hostCtx_rose (s t : State) (h i : Nat) (f : Fld) (v : Word) :
    (hostCtx s f.blk h i f.word v).rose t f = (t.fon h i f && !s.fon h i f) := by
  rw [Bool.and_comm, State.fon, State.fon, bne, Bool.not_not]
  rfl

theorem hostCtx_fell (s t : State) (h i : Nat) (f : Fld) (v : Word) :
    (hostCtx s f.blk h i f.word v).fell t f = (s.fon h i f && !t.fon h i f) := by
  rw [State.fon, State.fon, bne, bne, Bool.not_not]
  rfl

/-- The lane is enabled in a MODE it has. -/
def laneRuns (s : State) (h l : Nat) : Bool := s.fon h l LANE_CTRL_EN && modeOk l (s.fget h l LANE_CTRL_MODE)

/-- A write of LANE_CTRL stores its word, and EN and MODE then decide whether the lane starts or stops (R25). -/
theorem laneEnWrite_eq {s : State} {h l : Nat} (ok : laneOk s h l = true) (v : Word) :
    laneEnWrite h l v s =
      let u := ctrlStored s h l v
      if laneSt u h l = 0 then if laneRuns u h l = true then laneStart h l u else u
      else if laneRuns u h l = true then u else laneStop h l u := by
  have split : ∀ t : State, (isGorge l && ((hostCtx s BLK_LANE h l 0 v).rose t LANE_CTRL_BOND ||
      (hostCtx s BLK_LANE h l 0 v).fell t LANE_CTRL_BOND) && bondSplit t h && laneSt t h (1 - l) != 0) = true ↔
      isGorge l = true ∧ t.fon h l LANE_CTRL_BOND ≠ s.fon h l LANE_CTRL_BOND ∧ bondSplit t h = true ∧ laneSt t h (1 - l) ≠ 0 := by
    intro t
    rw [hostCtx_rose s t h l LANE_CTRL_BOND v, hostCtx_fell s t h l LANE_CTRL_BOND v]
    cases t.fon h l LANE_CTRL_BOND <;> cases s.fon h l LANE_CTRL_BOND <;> simp [and_assoc]
  unfold laneEnWrite ctrlStored
  rw [if_pos ok, hostWrite_eq]
  generalize stored BLK_LANE (laneOpen s h l 0) h l 0 v s = t
  simp only [← split]
  rfl

theorem laneRuns_eq_false {s : State} {h l : Nat} :
    laneRuns s h l = false ↔ s.fon h l LANE_CTRL_EN = false ∨ modeOk l (s.fget h l LANE_CTRL_MODE) = false :=
  Bool.and_eq_false_iff

theorem laneBetween_of {s : State} {h l lo : Nat} (ok : laneOk s h l = true) (low : lo ≤ laneSt s h l) (high : laneSt s h l ≤ 5) :
    laneBetween s h l lo = true := by
  simp [laneBetween, ok, low, high]

/-- Settles O19: each row that moves a lane is its move where the state it leaves is the lane's; the moves' own facts come from the laws
of entering a state and starting an acquisition again. -/
theorem laneRowsMoveTheLane : Obligations.LaneRowsMoveTheLane := by
  refine ⟨fun s h l st hl hs => ⟨?go, ?restart⟩, fun s h l ok =>
    ⟨fun v => ?ctrl, ?detected, ?locked, fun low high => ?lost, fun low high => ?sync, fun st sad => ?acquired, fun st an al => ?autoneg,
      fun st failed => ?again, fun low high on => ?timeout, fun st on => ?retry⟩⟩
  case go =>
    obtain ⟨down, up, timeout⟩ := laneGo_event s h l st hl
    exact ⟨laneSt_laneGo hl hs, LaneOnly.go s h l st hl, down, fun a b => up b a, timeout⟩
  case restart =>
    obtain ⟨lock, aligned⟩ := laneRestart_releases (s := s) (h := h) st hl
    exact ⟨laneSt_laneRestart hl hs, .restart s st hl, lock, aligned, laneRestart_event hl⟩
  case ctrl =>
    have row : exec (.laneEnWrite h l v) s = settled (laneEnWrite h l v s) := rfl
    rw [row, laneEnWrite_eq ok]
    refine ⟨fun off en mode => ?start, fun on stop => ?stop, fun same => ?same⟩
    case start => exact congrArg settled ((if_pos off).trans (if_pos (Bool.and_eq_true_iff.mpr ⟨en, mode⟩)))
    case stop => exact congrArg settled ((if_neg on).trans (if_neg (Bool.not_eq_true _ ▸ laneRuns_eq_false.mpr stop)))
    case same =>
      rw [← laneRuns_eq_false] at same
      refine congrArg settled ?_
      by_cases off : laneSt (ctrlStored s h l v) h l = 0
      · exact (if_pos off).trans (if_neg (Bool.not_eq_true _ ▸ same.mp off))
      · exact (if_neg off).trans (if_pos (Bool.not_eq_false _ ▸ fun runs => off (same.mpr runs)))
  case detected => exact fun st => congrArg settled (if_pos (by simp [ok, st]))
  case locked => exact fun st => congrArg settled (if_pos (by simp [ok, st]))
  case lost =>
    have between := laneBetween_of ok low high
    exact ⟨congrArg settled (if_pos between), congrArg settled (if_pos between)⟩
  case sync =>
    have between := laneBetween_of ok low high
    exact ⟨fun gorge => congrArg settled (if_pos (by simp [between, gorge])),
      fun saddle => congrArg settled (if_pos (by simp [between, saddle]))⟩
  case acquired =>
    have taken : (laneOk s h l && !isGorge l && laneSt s h l == 3) = true := by simp [ok, st, sad]
    exact ⟨fun an => congrArg settled ((if_pos taken).trans (if_pos an)),
      fun an => congrArg settled ((if_pos taken).trans (if_neg (by simp [an])))⟩
  case autoneg =>
    have taken : (laneOk s h l && laneSt s h l == 3 && anRuns s h l && s.fon h l LANE_STATUS_ALIGNED) = true := by
      simp [ok, st, an, al]
    exact ⟨congrArg settled ((if_pos taken).trans (if_pos rfl)), congrArg settled ((if_pos taken).trans (if_neg Bool.false_ne_true))⟩
  case again => exact congrArg settled (if_pos (by simp [ok, st, failed]))
  case timeout => exact congrArg settled (if_pos (by simp [ok, low, high, on]))
  case retry => exact congrArg settled (if_pos (by simp [ok, st, on]))

end Sys2Proof.Machine
end

section
/-! PROOFS. Receiver adaptation (R35 to R40): a FOM period, the idle count and its freeze, recentring, a low eye. -/

namespace Sys2Proof.Machine

/-- Fields that adaptation writes after the FOM of a period is recorded. -/
def adaptFields : List Fld :=
  [LANE_STATUS_RECENTRE, LANE_STATUS_DEGRADED, LANE_STATUS_FREEZE_WHY, LANE_ADAPT_STAT_DFE1, LANE_ADAPT_STAT_DFE2,
    LANE_ADAPT_STAT_VGA, LANE_ADAPT_STAT_CTLE] ++ goFields

theorem freeTaps_regs (n : Nat) (s : State) : (freeTaps n s).2.regs = s.regs := by
  induction n generalizing s with
  | zero => rfl
  | succ n ih => exact ih (s.free 8).2

section
variable {s t : State} {h l : Nat} {fs : List Fld}

/-! ### The freeze shown -/

theorem freezeWhy_lt (s : State) (h l : Nat) : freezeWhy s h l < 4 := by
  unfold freezeWhy
  dsimp only
  split_ifs <;> decide

theorem freezeShow_fields (hl : l < 16) : FieldsBut [LANE_STATUS_FREEZE_WHY] h l s (freezeShow h l s) :=
  FieldsBut.refl.put _ hl (by decide) (by decide)

theorem freezeShow_lane : (freezeShow h l s).lane h l = s.lane h l := State.fput_acc_lane _ _ _ _ _ _ _

/-- FREEZE_WHY shows the cause that applies (R38). -/
theorem freezeShow_shows (hl : l < 16) : (freezeShow h l s).fget h l LANE_STATUS_FREEZE_WHY = freezeWhy (freezeShow h l s) h l := by
  have kept : freezeWhy (freezeShow h l s) h l = freezeWhy s h l := by
    unfold freezeWhy
    rw [freezeShow_lane, State.fon_eq, State.fon_eq, freezeShow_fields hl _ (by decide) (by decide)]
  rw [kept]
  exact State.fget_fput_of_lt (by decide) (freezeWhy_lt s h l)

/-! ### Idle and data (R37) -/

/-- The lane's record after a unit that is idle, or is data. -/
def idleRecord (s : State) (h l : Nat) (idle : Bool) (half : Nat) : LaneX :=
  let x := s.lane h l
  let limit := 2 * s.fget h l LANE_ADAPT_IDLE_LIMIT
  if idle then { x with idleHalf := x.idleHalf + half, idleHold := x.idleHold || (limit != 0 && decide (limit ≤ x.idleHalf + half)) }
  else { x with idleHalf := 0, idleHold := false, recentreDue := x.recentreDue || x.idleHold }

theorem idleStep_eq (idle : Bool) (half : Nat) :
    idleStep h l idle half s = freezeShow h l (s.setLane h l (idleRecord s h l idle half)) := by
  cases idle <;> rfl

theorem idleStep_fields (idle : Bool) (half : Nat) (hl : l < 16) :
    FieldsBut [LANE_STATUS_FREEZE_WHY] h l s (idleStep h l idle half s) := by
  rw [idleStep_eq]
  exact (FieldsBut.refl.setLane _ _ _).trans (freezeShow_fields hl)

theorem idleStep_lane (idle : Bool) (half : Nat) : (idleStep h l idle half s).lane h l = idleRecord s h l idle half := by
  rw [idleStep_eq, freezeShow_lane, State.setLane_same]

theorem idleStep_shows (idle : Bool) (half : Nat) (hl : l < 16) :
    (idleStep h l idle half s).fget h l LANE_STATUS_FREEZE_WHY = freezeWhy (idleStep h l idle half s) h l := by
  rw [idleStep_eq, freezeShow_shows hl]

theorem idleStep_out (idle : Bool) (half : Nat) : (idleStep h l idle half s).out = s.out := by
  rw [idleStep_eq, freezeShow, State.fput_out, State.setLane_out]

/-- A code group that K28.5 precedes and that completes an idle ordered set counts 20 bits of idle, in half symbols. -/
theorem groupUnit_idle {kb : Nat} (i : idleSecond (s.fget h l LANE_CTRL_MODE) kb = true) :
    groupUnit h l true kb s = idleStep h l true 40 s := by
  simp only [groupUnit, i, Bool.and_self, if_true]
  rfl

theorem groupUnit_data {after : Bool} {kb : Nat} (n : ¬ (after = true ∧ idleSecond (s.fget h l LANE_CTRL_MODE) kb = true))
    (c : kb = kComma → after = true) : groupUnit h l after kb s = idleStep h l false 0 s := by
  unfold groupUnit
  rw [if_neg (by simpa using n), if_neg (by simpa using c)]

theorem groupUnit_comma : groupUnit h l false kComma s = s := rfl

/-! ### A FOM period (R35, R36, R38) -/

theorem FieldsBut.fomHoldStep (a : FieldsBut adaptFields h l s t) (fom : Nat) (hl : l < 16) :
    FieldsBut adaptFields h l s (fomHoldStep h l fom t) := by
  unfold Machine.fomHoldStep
  dsimp only
  split_ifs
  · exact a.setLane _ _ _
  · exact (a.setLane _ _ _).put _ hl (by decide) (by decide)
  · exact a.setLane _ _ _
  · exact a.setLane _ _ _

theorem FieldsBut.dfeStep (a : FieldsBut adaptFields h l s t) (hl : l < 16) : FieldsBut adaptFields h l s (dfeStep h l t) := by
  unfold Machine.dfeStep
  exact (((a.regs (freeTaps_regs _ _)).put _ hl (by decide) (by decide)).put _ hl (by decide) (by decide)).setLane _ _ _

theorem FieldsBut.adaptStep (a : FieldsBut adaptFields h l s t) (fom : Nat) (hl : l < 16) :
    FieldsBut adaptFields h l s (adaptStep h l fom t) := by
  unfold Machine.adaptStep
  extract_lets t1
  have a1 : FieldsBut adaptFields h l s t1 := keep_ite (a.dfeStep hl) a
  have a2 := (a1.free 4).put (f := LANE_ADAPT_STAT_VGA) (t1.free 4).1 hl (by decide) (by decide)
  dsimp only [State.free] at a2 ⊢
  refine keep_ite a2 (keep_ite (a2.setLane _ _ _) ?_)
  split
  · exact keep_ite ((a2.put _ hl (by decide) (by decide)).setLane _ _ _) (a2.setLane _ _ _)
  · exact ((a2.free 2).put _ hl (by decide) (by decide)).setLane _ _ _

theorem FieldsBut.adaptOrRecentre (a : FieldsBut adaptFields h l s t) (fom : Nat) (hl : l < 16) :
    FieldsBut adaptFields h l s (adaptOrRecentre h l fom t) :=
  keep_ite a (keep_ite ((a.setLane _ _ _).put _ hl (by decide) (by decide)) (a.adaptStep fom hl))

/-- After it records the FOM, a period's adaptation leaves the record alone (R35, R38). -/
theorem fomPeriod_fields (fom : Nat) (ok : laneOk s h l = true) (low : 2 ≤ laneSt s h l) (high : laneSt s h l ≤ 5) :
    FieldsBut adaptFields h l (fomRecord h l (min fom 255) s) (fomPeriod h l fom s) := by
  have hl := laneOk_lt ok
  unfold fomPeriod
  extract_lets st fom' r x r1 r2 r3
  rw [if_pos (by simp [ok, st, low, high])]
  have a1 : FieldsBut adaptFields h l r r1 := keep_ite (FieldsBut.refl.setLane _ _ _) .refl
  have a2 : FieldsBut adaptFields h l r r2 := (a1.fomHoldStep _ hl).adaptOrRecentre _ hl
  have a3 : FieldsBut adaptFields h l r r3 := a2.put _ hl (by decide) (by decide)
  exact keep_ite (a3.go 3 hl hl (.inr (by decide))) a3

/-- The record of a FOM below 256 (R35). -/
theorem fomRecord_record {fom : Nat} (hf : fom < 256) (hl : l < 16) :
    (fomRecord h l fom s).fget h l LANE_FOM_FOM = fom ∧
    (fomRecord h l fom s).fget h l LANE_FOM_FOM_MIN = min fom (s.fget h l LANE_FOM_FOM_MIN) ∧
    (fomRecord h l fom s).fget h l LANE_FOM_FOM_MAX = max fom (s.fget h l LANE_FOM_FOM_MAX) := by
  have lt : s.fget h l LANE_FOM_FOM_MAX < 256 := State.fget_lt _ _ _ _
  unfold fomRecord
  extract_lets s1 s2
  have a1 : FieldsBut [LANE_STATUS_FOM, LANE_FOM_FOM] h l s s1 :=
    (FieldsBut.refl.put _ hl (by decide) (by decide)).put _ hl (by decide) (by decide)
  have a2 : FieldsBut [LANE_FOM_FOM_MIN] h l s1 s2 := FieldsBut.refl.put _ hl (by decide) (by decide)
  have a3 : FieldsBut [LANE_FOM_FOM_MAX] h l s2 (s2.fput h l LANE_FOM_FOM_MAX (max fom (s2.fget h l LANE_FOM_FOM_MAX))) :=
    FieldsBut.refl.put _ hl (by decide) (by decide)
  have most : s2.fget h l LANE_FOM_FOM_MAX = s.fget h l LANE_FOM_FOM_MAX :=
    (a2 _ (by decide) (by decide)).trans (a1 _ (by decide) (by decide))
  refine ⟨?_, ?_, ?_⟩
  · rw [a3 _ (by decide) (by decide), a2 _ (by decide) (by decide)]
    exact State.fget_fput_of_lt (by decide) hf
  · rw [a3 _ (by decide) (by decide), ← a1 _ (by decide) (by decide)]
    exact State.fget_fput_of_lt (by decide) (Nat.lt_of_le_of_lt (Nat.min_le_left _ _) hf)
  · rw [← most] at lt ⊢
    exact State.fget_fput_of_lt (by decide) (Nat.max_lt.mpr ⟨hf, lt⟩)

/-! ### The rows -/

/-- A unit that counts as idle. -/
theorem idleStep_idle (half : Nat) (hl : l < 16) :
    ((idleStep h l true half s).lane h l).idleHalf = (s.lane h l).idleHalf + half ∧
    (((idleStep h l true half s).lane h l).idleHold = true ↔ (s.lane h l).idleHold = true ∨
      (s.fget h l LANE_ADAPT_IDLE_LIMIT ≠ 0 ∧ 2 * s.fget h l LANE_ADAPT_IDLE_LIMIT ≤ (s.lane h l).idleHalf + half)) ∧
    (idleStep h l true half s).fget h l LANE_STATUS_FREEZE_WHY = freezeWhy (idleStep h l true half s) h l := by
  refine ⟨?_, ?_, idleStep_shows true half hl⟩
  · rw [idleStep_lane]
    rfl
  · rw [idleStep_lane]
    simp [idleRecord]

/-- A unit that counts as data. -/
theorem idleStep_data (half : Nat) (hl : l < 16) :
    ((idleStep h l false half s).lane h l).idleHalf = 0 ∧ ((idleStep h l false half s).lane h l).idleHold = false ∧
    ((s.lane h l).idleHold = true → ((idleStep h l false half s).lane h l).recentreDue = true) ∧
    (idleStep h l false half s).fget h l LANE_STATUS_FREEZE_WHY = freezeWhy (idleStep h l false half s) h l := by
  refine ⟨?_, ?_, fun held => ?_, idleStep_shows false half hl⟩ <;> rw [idleStep_lane]
  · rfl
  · rfl
  · simp [idleRecord, held]

theorem laneMeasures_of (ok : laneOk s h l = true) (low : 2 ≤ laneSt s h l) (high : laneSt s h l ≤ 5) :
    laneMeasures s h l = true := by
  simp [laneMeasures, ok, low, high]

theorem adaptUnit_block (m : laneMeasures s h l = true) (g : isGorge l = true) (hdr : Bool) (p : List Byte) :
    adaptUnit h l (.block hdr p) s = idleStep h l ((blockRead hdr p).1 == .idle) 257 s := by
  simp [adaptUnit, m, g, blockUnit]

theorem adaptUnit_group (m : laneMeasures s h l = true) (g : isGorge l = false) (prev kb : Nat) :
    adaptUnit h l (.group prev kb) s = groupUnit h l (prev == kComma) kb s := by
  simp [adaptUnit, m, g]

theorem adaptUnit_foreign_group (g : isGorge l = true) (prev kb : Nat) : adaptUnit h l (.group prev kb) s = s := by
  simp [adaptUnit, g]

theorem adaptUnit_foreign_block (g : isGorge l = false) (hdr : Bool) (p : List Byte) : adaptUnit h l (.block hdr p) s = s := by
  simp [adaptUnit, g]

end

/-- Settles O20: a FOM period leaves the record it made; a unit counts as idle or as data, and FREEZE_WHY shows the freeze. -/
theorem laneAdaptationRows : Obligations.LaneAdaptationRows := by
  intro s h l ok
  have hl := laneOk_lt ok
  refine ⟨fun fom low high => ?fom, fun st low => ?eye, fun on => ?recentre, fun low high u => ?unit⟩
  case fom =>
    have kept := fomPeriod_fields fom ok low high
    obtain ⟨last, least, most⟩ := fomRecord_record (s := s) (h := h) (fom := min fom 255) (by omega) hl
    refine ⟨fomPeriod h l fom s, rfl, ?_, ?_, ?_⟩
    · rw [kept _ (by decide) (by decide), last]
    · rw [kept _ (by decide) (by decide), least]
    · rw [kept _ (by decide) (by decide), most]
  case eye => exact congrArg settled (if_pos (by simp [ok, st, low]))
  case recentre => exact congrArg settled (if_pos (by simp [ok, on]))
  case unit =>
    have m := laneMeasures_of ok low high
    refine ⟨?idle, ?data, ?none⟩
    case idle =>
      rintro half (⟨g, ⟨b, p, rfl, i⟩, rfl⟩ | ⟨g, ⟨kb, rfl, i⟩, rfl⟩)
      · have e : adaptUnit h l (.block b p) s = idleStep h l true 257 s := by rw [adaptUnit_block m g, i]; rfl
        exact ⟨_, congrArg settled e, idleStep_idle 257 hl⟩
      · have e : adaptUnit h l (.group kComma kb) s = idleStep h l true 40 s := (adaptUnit_group m g _ _).trans (groupUnit_idle i)
        exact ⟨_, congrArg settled e, idleStep_idle 40 hl⟩
    case data =>
      rintro (⟨g, b, p, rfl, n⟩ | ⟨g, a, kb, rfl, n, c⟩)
      · have e : adaptUnit h l (.block b p) s = idleStep h l false 257 s := by rw [adaptUnit_block m g, beq_false_of_ne n]
        exact ⟨_, congrArg settled e, idleStep_data 257 hl⟩
      · have e : adaptUnit h l (.group a kb) s = idleStep h l false 0 s :=
          (adaptUnit_group m g _ _).trans (groupUnit_data (by simpa using n) (by simpa using c))
        exact ⟨_, congrArg settled e, idleStep_data 0 hl⟩
    case none =>
      rintro (⟨g, a, kb, rfl⟩ | ⟨g, b, p, rfl⟩ | ⟨g, a, rfl, n⟩)
      · exact congrArg settled (adaptUnit_foreign_group g a kb)
      · exact congrArg settled (adaptUnit_foreign_block g b p)
      · refine congrArg settled ((adaptUnit_group m g _ _).trans ?_)
        rw [beq_false_of_ne n, groupUnit_comma]

end Sys2Proof.Machine
end

section
/-! PROOFS. Codewords received on a lane (R17, R19, R25, R30): what the decoder answers, the counters, the blocks delivered. -/

namespace Sys2Proof.Machine

section
variable {s t : State} {h l : Nat} {fs : List Fld}

/-! ### Counting what the decoder answers (R19) -/

theorem fecLost_fields (hl : l < 16) : FieldsBut [LANE_FEC_UNC, LANE_EVENT_UNCORR] h l s (fecLost h l s) :=
  (FieldsBut.refl.count _ hl (by decide) (by decide)).event hl (by decide) (by decide)

theorem fecLost_counts (hl : l < 16) :
    (fecLost h l s).fget h l LANE_FEC_UNC = satAdd32 (s.fget h l LANE_FEC_UNC) 1 ∧
    (fecLost h l s).fon h l LANE_EVENT_UNCORR = true :=
  count_raise_shows 1 hl (by decide) (by decide) (by decide) (by decide) (by decide)

theorem fecLost_out : (fecLost h l s).out = s.out := by rw [fecLost, State.raise_out, State.count_out]

theorem fecLost_lane : (fecLost h l s).lane h l = s.lane h l := by rw [fecLost, State.raise_acc_lane, State.count_acc_lane]

theorem fecCount_fields (k : Nat) (hl : l < 16) : FieldsBut [LANE_FEC_SYM, LANE_FEC_CW] h l s (fecCount h l k s) :=
  keep_ite .refl ((FieldsBut.refl.count _ hl (by decide) (by decide)).count _ hl (by decide) (by decide))

theorem fecCount_counts (k : Nat) (hl : l < 16) :
    (fecCount h l k s).fget h l LANE_FEC_SYM =
      (if k = 0 then s.fget h l LANE_FEC_SYM else satAdd32 (s.fget h l LANE_FEC_SYM) k) ∧
    (fecCount h l k s).fget h l LANE_FEC_CW =
      (if k = 0 then s.fget h l LANE_FEC_CW else satAdd32 (s.fget h l LANE_FEC_CW) 1) := by
  unfold fecCount
  split_ifs
  · exact ⟨rfl, rfl⟩
  · constructor
    · rw [State.count_eq _ _ _ LANE_FEC_CW, State.fget_fput_apart _ hl hl (by decide) (by decide) (.inr (by decide)),
        State.fget_count _ (by decide)]
    · rw [State.fget_count _ (by decide), State.count_eq,
        State.fget_fput_apart _ hl hl (by decide) (by decide) (.inr (by decide))]

theorem fecCount_out (k : Nat) : (fecCount h l k s).out = s.out := by
  unfold fecCount
  split_ifs
  · rfl
  · rw [State.count_out, State.count_out]

theorem fecCount_lane (k : Nat) : (fecCount h l k s).lane h l = s.lane h l := by
  unfold fecCount
  split_ifs
  · rfl
  · rw [State.count_acc_lane, State.count_acc_lane]

/-! ### Blocks -/

/-- What counting units as idle or data leaves: the freeze shown apart, registers, output and the receiver's record stand. -/
structure CountsUnits (h l : Nat) (s t : State) : Prop where
  fields : FieldsBut [LANE_STATUS_FREEZE_WHY] h l s t
  out : t.out = s.out
  descr : (t.lane h l).descr = (s.lane h l).descr
  rxFrame : (t.lane h l).rxFrame = (s.lane h l).rxFrame

theorem CountsUnits.refl : CountsUnits h l s s := ⟨.refl, rfl, rfl, rfl⟩

theorem CountsUnits.trans {u : State} (a : CountsUnits h l s t) (b : CountsUnits h l t u) : CountsUnits h l s u :=
  ⟨a.fields.trans b.fields, b.out.trans a.out, b.descr.trans a.descr, b.rxFrame.trans a.rxFrame⟩

theorem countsUnits_idleStep (idle : Bool) (half : Nat) (hl : l < 16) : CountsUnits h l s (idleStep h l idle half s) := by
  refine ⟨idleStep_fields idle half hl, idleStep_out idle half, ?_, ?_⟩ <;> rw [idleStep_lane] <;> cases idle <;> rfl

theorem countsUnits_blocks (bs : List RxBlock) (hl : l < 16) : CountsUnits h l s (forEach bs (blockUnit h l) s) := by
  induction bs generalizing s with
  | nil => exact .refl
  | cons b bs ih => exact (countsUnits_idleStep (b == .idle) 257 hl).trans ih

/-- Blocks decoded from a codeword: in UP they are delivered with the frames they complete. -/
structure Delivers (h l : Nat) (bs : List RxBlock) (s : State) (r : List LaneFrame × State) : Prop where
  fields : FieldsBut [LANE_STATUS_FREEZE_WHY] h l s r.2
  descr : (r.2.lane h l).descr = (s.lane h l).descr
  up : laneSt s h l = 5 → r.2.out = .blocks h (logicalLane s h l) bs :: s.out ∧ r.1 = (collectBlocks (s.lane h l).rxFrame bs).2
  down : laneSt s h l ≠ 5 → r.2.out = s.out ∧ r.1 = []

theorem logicalLane_congr (e : t.fget h l LANE_STATUS_REVERSED = s.fget h l LANE_STATUS_REVERSED) :
    logicalLane t h l = logicalLane s h l := by rw [logicalLane, logicalLane, State.fon_eq, State.fon_eq, e]

theorem delivers_blocksDeliver (bs : List RxBlock) (hl : l < 16) : Delivers h l bs s (blocksDeliver h l bs s) := by
  obtain ⟨fields, out, descr, rxFrame⟩ := countsUnits_blocks (s := s) (h := h) bs hl
  unfold blocksDeliver
  extract_lets t r
  have st : laneSt t h l = laneSt s h l := fields _ (by decide) (by decide)
  have lane : logicalLane t h l = logicalLane s h l := logicalLane_congr (fields _ (by decide) (by decide))
  by_cases five : laneSt s h l = 5
  · rw [if_pos (st.trans five)]
    refine ⟨fun g o n => ?_, ?_, fun _ => ⟨?_, ?_⟩, fun n => absurd five n⟩
    · rw [State.emit_acc_fget, State.setLane_acc_fget, fields g o n]
    · rw [State.emit_acc_lane, State.setLane_same, ← descr]
    · rw [lane, State.emit, State.setLane_out, out]
    · rw [← rxFrame]
  · rw [if_neg (st ▸ five)]
    exact ⟨fields, descr, fun n => absurd n five, fun _ => ⟨out, rfl⟩⟩

/-! ### The row -/

theorem farEnd_regs (levels : List Nat) : (farEnd h l levels s).regs = s.regs := by
  unfold farEnd
  split_ifs
  · rw [State.emit_regs]
  · rfl

theorem farEnd_out (levels : List Nat) : (farEnd h l levels s).out =
    if s.fget h l TST_PRBS_CTRL_LOOPBACK = 2 then .echoed h l levels :: s.out else s.out := by
  unfold farEnd
  split_ifs <;> rfl

end

/-- The state after a codeword's levels came in: sent back in far-end loopback (R45), the last level kept. -/
def levelsIn (h l : Nat) (levels : List Nat) (s : State) : State :=
  (farEnd h l levels s).setLane h l { (s.lane h l) with lastP := (rxSymbols s h l (rxInv s h l) levels).2 }

/-- The descrambler after the message bits. -/
def bitsIn (h l reg : Nat) (s : State) : State := s.setLane h l { (s.lane h l) with descr := reg }

/-- Reserved control blocks of a codeword are counted as code errors (R16). -/
def codeErrors (h l n : Nat) (s : State) : State :=
  if n = 0 then s else (s.count h l LANE_CODE_ERR n).raise h l LANE_EVENT_CODE_ERR

section
variable {s : State} {h l : Nat} {levels : List Nat}

theorem levelsIn_fields {fs : List Fld} : FieldsBut fs h l s (levelsIn h l levels s) :=
  (FieldsBut.refl.regs (farEnd_regs _)).setLane _ _ _

theorem bitsIn_levelsIn_fields {fs : List Fld} (reg : Nat) : FieldsBut fs h l s (bitsIn h l reg (levelsIn h l levels s)) :=
  levelsIn_fields.setLane _ _ _

theorem bitsIn_levelsIn_out (reg : Nat) : (bitsIn h l reg (levelsIn h l levels s)).out =
    if s.fget h l TST_PRBS_CTRL_LOOPBACK = 2 then .echoed h l levels :: s.out else s.out := by
  rw [bitsIn, State.setLane_out, levelsIn, State.setLane_out, farEnd_out]

theorem bitsIn_levelsIn_descr (reg : Nat) : ((bitsIn h l reg (levelsIn h l levels s)).lane h l).descr = reg := by
  rw [bitsIn, State.setLane_same]

theorem bitsIn_levelsIn_rxFrame (reg : Nat) :
    ((bitsIn h l reg (levelsIn h l levels s)).lane h l).rxFrame = (s.lane h l).rxFrame := by
  rw [bitsIn, State.setLane_same, levelsIn, State.setLane_same]

theorem codeErrors_fields (n : Nat) (hl : l < 16) : FieldsBut [LANE_CODE_ERR, LANE_EVENT_CODE_ERR] h l s (codeErrors h l n s) :=
  keep_ite .refl ((FieldsBut.refl.count _ hl (by decide) (by decide)).event hl (by decide) (by decide))

theorem codeErrors_out (n : Nat) : (codeErrors h l n s).out = s.out := by
  unfold codeErrors
  split_ifs
  · rfl
  · rw [State.raise_out, State.count_out]

theorem codeErrors_lane (n : Nat) : (codeErrors h l n s).lane h l = s.lane h l := by
  unfold codeErrors
  split_ifs
  · rfl
  · rw [State.raise_acc_lane, State.count_acc_lane]

theorem codewordTaken_not (n : laneAligned s h l = false ∨ levels.length ≠ 2720) : codewordTaken h l levels s = ([], s) :=
  if_pos (by rcases n with n | n <;> simp [n])

/-- An uncorrectable codeword is delivered as 20 errored blocks. -/
theorem codewordTaken_lost (al : laneAligned s h l = true) (len : levels.length = 2720)
    (d : rsDecode (rxSymbols s h l (rxInv s h l) levels).1 = none) :
    codewordTaken h l levels s = blocksDeliver h l (List.replicate 20 .errored) (fecLost h l (bitsIn h l
      (blocksOf (s.lane h l).descr (symbolsToBits ((rxSymbols s h l (rxInv s h l) levels).1.take 514))).2.2
      (levelsIn h l levels s))) := by
  unfold codewordTaken
  rw [if_neg (by simp [al, len])]
  dsimp only
  rw [d]
  rfl

theorem codewordTaken_read (al : laneAligned s h l = true) (len : levels.length = 2720) {w : List Nat} {k : Nat}
    (d : rsDecode (rxSymbols s h l (rxInv s h l) levels).1 = some (w, k)) :
    codewordTaken h l levels s =
      let r := blocksOf (s.lane h l).descr (symbolsToBits (w.take 514))
      blocksDeliver h l r.1 (codeErrors h l r.2.1 (fecCount h l k (bitsIn h l r.2.2 (levelsIn h l levels s)))) := by
  unfold codewordTaken
  rw [if_neg (by simp [al, len])]
  dsimp only
  rw [d]
  rfl

/-- Fields that the count of a codeword may write. -/
def codewordFields : List Fld :=
  [LANE_FEC_SYM, LANE_FEC_CW, LANE_FEC_UNC, LANE_EVENT_UNCORR, LANE_CODE_ERR, LANE_EVENT_CODE_ERR]

/-- Delivery after a codeword is counted, in terms of the state before it: nothing in CHECK, its blocks in UP. -/
theorem Delivers.of_counted {u : State} {bs : List RxBlock} {r : List LaneFrame × State} {o : List Out} (d : Delivers h l bs u r)
    (f : FieldsBut codewordFields h l s u) (out : u.out = o) (rx : (u.lane h l).rxFrame = (s.lane h l).rxFrame) :
    (laneSt s h l = 4 → r.1 = [] ∧ r.2.out = o) ∧
    (laneSt s h l = 5 → r.2.out = .blocks h (logicalLane s h l) bs :: o ∧ r.1 = (collectBlocks (s.lane h l).rxFrame bs).2) := by
  have st : laneSt u h l = laneSt s h l := f _ (by decide) (by decide)
  refine ⟨fun four => ?_, fun five => ?_⟩
  · obtain ⟨q, e⟩ := d.down (by omega)
    exact ⟨e, q.trans out⟩
  · obtain ⟨q, e⟩ := d.up (st.trans five)
    rw [logicalLane_congr (f _ (by decide) (by decide)), out] at q
    rw [rx] at e
    exact ⟨q, e⟩

/-- One clause of a received codeword, for what the decoder answers. -/
theorem codeword_lost (hl : l < 16) {reg : Nat} {bs : List RxBlock} {r : List LaneFrame × State}
    (d : Delivers h l bs (fecLost h l (bitsIn h l reg (levelsIn h l levels s))) r) :
    let o := if s.fget h l TST_PRBS_CTRL_LOOPBACK = 2 then Out.echoed h l levels :: s.out else s.out
    (laneSt s h l = 4 → r.1 = [] ∧ r.2.out = o) ∧
    r.2.fon h l LANE_EVENT_UNCORR = true ∧ r.2.fget h l LANE_FEC_UNC = satAdd32 (s.fget h l LANE_FEC_UNC) 1 ∧
    r.2.fget h l LANE_FEC_SYM = s.fget h l LANE_FEC_SYM ∧ (r.2.lane h l).descr = reg ∧
    (laneSt s h l = 5 → r.2.out = .blocks h (logicalLane s h l) bs :: o ∧ r.1 = (collectBlocks (s.lane h l).rxFrame bs).2) := by
  have taken := bitsIn_levelsIn_fields (s := s) (h := h) (l := l) (levels := levels) (fs := []) reg
  have lost := (taken.mono (List.nil_subset _)).trans (fecLost_fields hl)
  obtain ⟨four, five⟩ := d.of_counted (lost.mono (by decide)) (fecLost_out.trans (bitsIn_levelsIn_out reg))
    (by rw [fecLost_lane, bitsIn_levelsIn_rxFrame])
  obtain ⟨unc, uncorr⟩ := fecLost_counts (s := bitsIn h l reg (levelsIn h l levels s)) (h := h) hl
  rw [taken _ (by decide) (by decide)] at unc
  refine ⟨four, ?_, ?_, ?_, ?_, five⟩
  · rw [State.fon_eq, d.fields _ (by decide) (by decide), ← State.fon_eq, uncorr]
  · rw [d.fields _ (by decide) (by decide), unc]
  · rw [d.fields _ (by decide) (by decide), lost _ (by decide) (by decide)]
  · rw [d.descr, fecLost_lane, bitsIn_levelsIn_descr]

theorem codeword_read (hl : l < 16) {reg k n : Nat} {bs : List RxBlock} {r : List LaneFrame × State}
    (d : Delivers h l bs (codeErrors h l n (fecCount h l k (bitsIn h l reg (levelsIn h l levels s)))) r) :
    let o := if s.fget h l TST_PRBS_CTRL_LOOPBACK = 2 then Out.echoed h l levels :: s.out else s.out
    (laneSt s h l = 4 → r.1 = [] ∧ r.2.out = o) ∧
    r.2.fget h l LANE_FEC_SYM = (if k = 0 then s.fget h l LANE_FEC_SYM else satAdd32 (s.fget h l LANE_FEC_SYM) k) ∧
    r.2.fget h l LANE_FEC_CW = (if k = 0 then s.fget h l LANE_FEC_CW else satAdd32 (s.fget h l LANE_FEC_CW) 1) ∧
    r.2.fget h l LANE_FEC_UNC = s.fget h l LANE_FEC_UNC ∧ (r.2.lane h l).descr = reg ∧
    (laneSt s h l = 5 → r.2.out = .blocks h (logicalLane s h l) bs :: o ∧ r.1 = (collectBlocks (s.lane h l).rxFrame bs).2) := by
  have taken := bitsIn_levelsIn_fields (s := s) (h := h) (l := l) (levels := levels) (fs := []) reg
  have counted := (taken.mono (List.nil_subset _)).trans (fecCount_fields k hl)
  have errors := codeErrors_fields (s := fecCount h l k (bitsIn h l reg (levelsIn h l levels s))) (h := h) n hl
  have all := (counted.mono (fs := codewordFields) (by decide)).trans (errors.mono (by decide))
  obtain ⟨four, five⟩ := d.of_counted all
    (((codeErrors_out n).trans (fecCount_out k)).trans (bitsIn_levelsIn_out reg))
    (by rw [codeErrors_lane, fecCount_lane, bitsIn_levelsIn_rxFrame])
  obtain ⟨sym, cw⟩ := fecCount_counts (s := bitsIn h l reg (levelsIn h l levels s)) (h := h) k hl
  rw [taken _ (by decide) (by decide)] at sym cw
  refine ⟨four, ?_, ?_, ?_, ?_, five⟩
  · rw [d.fields _ (by decide) (by decide), errors _ (by decide) (by decide), sym]
  · rw [d.fields _ (by decide) (by decide), errors _ (by decide) (by decide), cw]
  · rw [d.fields _ (by decide) (by decide), errors _ (by decide) (by decide), counted _ (by decide) (by decide)]
  · rw [d.descr, codeErrors_lane, fecCount_lane, bitsIn_levelsIn_descr]

theorem laneAligned_lt (al : laneAligned s h l = true) : l < 16 := by
  simp only [laneAligned, Bool.and_eq_true] at al
  exact laneOk_lt al.1.1.1

end

end Sys2Proof.Machine
end

section
/-! PROOFS. Alignment codewords: what a received one moves (R20, R25, R27, R29, R30), what a sent one carries (R20, R45). -/

namespace Sys2Proof.Machine

/-- Fields that the CHECK tests may write. -/
def checkFields : List Fld := goFields ++ [LANE_EVENT_BOND_ERR, LANE_STATUS_REVERSED, LANE_EVENT_REV]

/-- Fields that an alignment codeword may write after it is counted. -/
def foundFields : List Fld := checkFields ++ [LANE_STATUS_ALIGNED]

/-- The state after an alignment codeword is read: its lane ID shown, its corrections counted. -/
def amRead (h l : Nat) (levels : List Nat) (msg : List Bool) (k : Nat) (s : State) : State :=
  fecCount h l k ((levelsIn h l levels s).fput h l LANE_STATUS_AM_LANE (msgNum msg 64 8))

/-- Alignment is confirmed: the lane enters CHECK. -/
def amConfirmed (h l : Nat) (s : State) : State :=
  (laneGo h l 4 (s.fput h l LANE_STATUS_ALIGNED 1)).setLane h l { (s.lane h l) with checkAt := s.now }

/-- The lane takes alignment codewords: a Gorge lane from ALIGN to UP. -/
def takesAlignment (s : State) (h l : Nat) (levels : List Nat) : Bool :=
  laneOk s h l && isGorge l && decide (3 ≤ laneSt s h l) && decide (laneSt s h l ≤ 5) && levels.length == 2720

section
variable {s t : State} {h l : Nat} {fs : List Fld} {levels : List Nat} {msg : List Bool} {k : Nat}

/-! ### The CHECK tests (R29, R30) -/

theorem FieldsBut.yieldTwin (a : FieldsBut fs h l s t) (id : Nat) (hl : l < 16) : FieldsBut fs h l s (yieldTwin h l id t) := by
  unfold Machine.yieldTwin
  split_ifs with c
  · have other : (1 : Nat) ≠ l := by
      simp only [Bool.and_eq_true, decide_eq_true_eq] at c
      omega
    exact (a.go 4 hl (by decide) (.inl other)).raise hl (by decide) (by decide) (.inl other)
  · exact a

theorem FieldsBut.laneCheck (a : FieldsBut fs h l s t) (id bond : Nat) (hl : l < 16) (sub : checkFields ⊆ fs) :
    FieldsBut fs h l s (laneCheck h l id bond t) := by
  obtain ⟨go, rest⟩ := List.append_subset.mp sub
  have twin := a.yieldTwin id hl
  have error := a.event hl (by decide) (rest (by decide : LANE_EVENT_BOND_ERR ∈ _))
  unfold Machine.laneCheck
  extract_lets want
  split_ifs
  · exact error
  · exact a.go 5 hl hl (.inr go)
  · exact error
  · exact twin.go 5 hl hl (.inr go)
  · exact ((twin.put 1 hl (by decide) (rest (by decide : LANE_STATUS_REVERSED ∈ _))).event hl (by decide)
      (rest (by decide : LANE_EVENT_REV ∈ _))).go 5 hl hl (.inr go)
  · exact a

/-- A lane that passes enters UP; another stays. -/
theorem laneSt_laneCheck (id bond : Nat) (hl : l < 16) :
    laneSt (laneCheck h l id bond s) h l = laneSt s h l ∨ laneSt (laneCheck h l id bond s) h l = 5 := by
  have error : laneSt (s.raise h l LANE_EVENT_BOND_ERR) h l = laneSt s h l :=
    raise_fget_apart hl hl (by decide) (by decide) (.inr (by decide))
  unfold laneCheck
  extract_lets want
  split_ifs
  · exact .inl error
  · exact .inr (laneSt_laneGo hl (by decide))
  · exact .inl error
  · exact .inr (laneSt_laneGo hl (by decide))
  · exact .inr (laneSt_laneGo hl (by decide))
  · exact .inl rfl

/-! ### An alignment codeword is read -/

theorem amRead_fields (hl : l < 16) :
    FieldsBut [LANE_STATUS_AM_LANE, LANE_FEC_SYM, LANE_FEC_CW] h l s (amRead h l levels msg k s) :=
  (levelsIn_fields.put _ hl (by decide) (by decide)).trans ((fecCount_fields k hl).mono (by decide))

theorem amRead_shows (hl : l < 16) :
    (amRead h l levels msg k s).fget h l LANE_STATUS_AM_LANE = msgNum msg 64 8 % 2 ^ LANE_STATUS_AM_LANE.len ∧
    (amRead h l levels msg k s).fget h l LANE_FEC_SYM =
      (if k = 0 then s.fget h l LANE_FEC_SYM else satAdd32 (s.fget h l LANE_FEC_SYM) k) := by
  constructor
  · rw [amRead, fecCount_fields k hl _ (by decide) (by decide), State.fget_fput_same _ _ _ _ _ (by decide)]
  · rw [amRead, (fecCount_counts k hl).1, State.fget_fput_apart _ hl hl (by decide) (by decide) (.inr (by decide)),
      levelsIn_fields (fs := []) _ (by decide) (by decide)]

theorem amRead_amFound : ((amRead h l levels msg k s).lane h l).amFound = (s.lane h l).amFound := by
  rw [amRead, fecCount_lane, State.fput_acc_lane, levelsIn, State.setLane_same]

theorem amConfirmed_fields (hl : l < 16) : FieldsBut foundFields h l s (amConfirmed h l s) :=
  ((FieldsBut.refl.put _ hl (by decide) (by decide)).go _ hl hl (.inr (by decide))).setLane _ _ _

theorem amConfirmed_state (hl : l < 16) : laneSt (amConfirmed h l s) h l = 4 :=
  (State.setLane_acc_fget _ _ _ _ _ _ _).trans (laneSt_laneGo hl (by decide))

theorem amConfirmed_aligned (hl : l < 16) : (amConfirmed h l s).fget h l LANE_STATUS_ALIGNED = 1 := by
  rw [amConfirmed, State.setLane_acc_fget, laneGo_fields 4 hl _ (by decide) (by decide), State.fget_fput_of_lt (by decide) (by decide)]

/-- What an alignment codeword moves by the lane's state (R25): remembered, confirmed, its IDs tested, or nothing. -/
theorem alignmentTaken_read (c : takesAlignment s h l levels = true)
    (m : alignmentMessage s h l (rxInv s h l) levels = some (msg, k)) :
    alignmentTaken h l levels s =
      let r := amRead h l levels msg k s
      if laneSt s h l = 3 then
        if (r.lane h l).amFound then laneCheck h l (msgNum msg 64 8) (msgNum msg 72 8) (amConfirmed h l r)
        else r.setLane h l { (r.lane h l) with amFound := true }
      else if laneSt s h l = 4 then laneCheck h l (msgNum msg 64 8) (msgNum msg 72 8) r
      else r := by
  unfold alignmentTaken
  extract_lets st inv
  rw [if_neg (by simpa [takesAlignment] using c)]
  dsimp only
  rw [m]
  rfl

/-- A codeword without a marker, or its inverted image, loses what was found in ALIGN. -/
theorem alignmentTaken_unread (c : takesAlignment s h l levels = true)
    (m : alignmentMessage s h l (rxInv s h l) levels = none) (three : laneSt s h l = 3)
    (n : s.fon h l LANE_CTRL_POL_AUTO = false ∨ alignmentMessage s h l (!rxInv s h l) levels = none) :
    ((alignmentTaken h l levels s).lane h l).amFound = false ∧ laneSt (alignmentTaken h l levels s) h l = 3 := by
  have image : (if s.fon h l LANE_CTRL_POL_AUTO then alignmentMessage s h l (!rxInv s h l) levels else none) = none := by
    rcases n with n | n <;> simp [n]
  have e : alignmentTaken h l levels s =
      (levelsIn h l levels s).setLane h l { ((levelsIn h l levels s).lane h l) with amFound := false } := by
    unfold alignmentTaken
    extract_lets st inv
    rw [if_neg (by simpa [takesAlignment] using c)]
    dsimp only
    rw [m]
    dsimp only
    rw [if_pos three, image]
    rfl
  rw [e]
  constructor
  · rw [State.setLane_same]
  · exact (State.setLane_acc_fget _ _ _ _ _ _ _).trans ((levelsIn_fields (fs := []) _ (by decide) (by decide)).trans three)

/-- From CHECK on a codeword that cannot be corrected is counted. -/
theorem alignmentTaken_lost (hl : l < 16) (c : takesAlignment s h l levels = true)
    (m : alignmentMessage s h l (rxInv s h l) levels = none) (n : laneSt s h l ≠ 3)
    (d : rsDecode (rxSymbols s h l (rxInv s h l) levels).1 = none) :
    (alignmentTaken h l levels s).fget h l LANE_FEC_UNC = satAdd32 (s.fget h l LANE_FEC_UNC) 1 ∧
    (alignmentTaken h l levels s).fon h l LANE_EVENT_UNCORR = true := by
  have e : alignmentTaken h l levels s = fecLost h l (levelsIn h l levels s) := by
    unfold alignmentTaken
    extract_lets st inv
    rw [if_neg (by simpa [takesAlignment] using c)]
    dsimp only
    rw [m]
    dsimp only
    rw [if_neg n, d]
    rfl
  obtain ⟨unc, uncorr⟩ := fecLost_counts (s := levelsIn h l levels s) (h := h) hl
  rw [levelsIn_fields (fs := []) _ (by decide) (by decide)] at unc
  rw [e]
  exact ⟨unc, uncorr⟩

theorem alignmentTaken_fields (hl : l < 16) (c : takesAlignment s h l levels = true)
    (m : alignmentMessage s h l (rxInv s h l) levels = some (msg, k)) :
    FieldsBut foundFields h l (amRead h l levels msg k s) (alignmentTaken h l levels s) := by
  rw [alignmentTaken_read c m]
  exact keep_ite (keep_ite ((amConfirmed_fields hl).laneCheck _ _ hl (by decide)) (FieldsBut.refl.setLane _ _ _))
    (keep_ite (FieldsBut.refl.laneCheck _ _ hl (by decide)) .refl)

/-- The codeword's lane ID is shown and its corrections are counted, whatever it moves (R19, R20). -/
theorem alignmentTaken_shows (hl : l < 16) (c : takesAlignment s h l levels = true)
    (m : alignmentMessage s h l (rxInv s h l) levels = some (msg, k)) :
    (alignmentTaken h l levels s).fget h l LANE_STATUS_AM_LANE = msgNum msg 64 8 % 2 ^ LANE_STATUS_AM_LANE.len ∧
    (alignmentTaken h l levels s).fget h l LANE_FEC_SYM =
      (if k = 0 then s.fget h l LANE_FEC_SYM else satAdd32 (s.fget h l LANE_FEC_SYM) k) := by
  have kept := alignmentTaken_fields hl c m
  rw [kept _ (by decide) (by decide), kept _ (by decide) (by decide)]
  exact amRead_shows hl

/-- A marker found in ALIGN for the first time is remembered. -/
theorem alignmentTaken_first (hl : l < 16) (c : takesAlignment s h l levels = true)
    (m : alignmentMessage s h l (rxInv s h l) levels = some (msg, k)) (three : laneSt s h l = 3)
    (new : (s.lane h l).amFound = false) :
    ((alignmentTaken h l levels s).lane h l).amFound = true ∧ laneSt (alignmentTaken h l levels s) h l = 3 := by
  have e := alignmentTaken_read c m
  dsimp only at e
  rw [if_pos three, amRead_amFound, new, if_neg Bool.false_ne_true] at e
  rw [e]
  constructor
  · rw [State.setLane_same]
  · exact (State.setLane_acc_fget _ _ _ _ _ _ _).trans ((amRead_fields hl _ (by decide) (by decide)).trans three)

/-- The next marker in its place confirms alignment. -/
theorem alignmentTaken_second (hl : l < 16) (c : takesAlignment s h l levels = true)
    (m : alignmentMessage s h l (rxInv s h l) levels = some (msg, k)) (three : laneSt s h l = 3)
    (found : (s.lane h l).amFound = true) :
    4 ≤ laneSt (alignmentTaken h l levels s) h l ∧ (alignmentTaken h l levels s).fon h l LANE_STATUS_ALIGNED = true := by
  have e := alignmentTaken_read c m
  dsimp only at e
  rw [if_pos three, amRead_amFound, found, if_pos rfl] at e
  rw [e]
  generalize amRead h l levels msg k s = r
  constructor
  · have st := laneSt_laneCheck (s := amConfirmed h l r) (h := h) (msgNum msg 64 8) (msgNum msg 72 8) hl
    rw [amConfirmed_state hl] at st
    omega
  · have kept : FieldsBut checkFields h l (amConfirmed h l r)
        (laneCheck h l (msgNum msg 64 8) (msgNum msg 72 8) (amConfirmed h l r)) :=
      FieldsBut.refl.laneCheck _ _ hl (List.Subset.refl _)
    rw [State.fon_eq, kept _ (by decide) (by decide), amConfirmed_aligned hl]
    rfl

/-- In UP the lane stays. -/
theorem alignmentTaken_up (hl : l < 16) (c : takesAlignment s h l levels = true)
    (m : alignmentMessage s h l (rxInv s h l) levels = some (msg, k)) (five : laneSt s h l = 5) :
    laneSt (alignmentTaken h l levels s) h l = 5 := by
  rw [alignmentTaken_read c m]
  dsimp only
  rw [if_neg (by omega), if_neg (by omega)]
  exact (amRead_fields hl _ (by decide) (by decide)).trans five

/-! ### A sent alignment codeword (R20) -/

/-- The state after the codewords of a run and then the alignment codeword `ss` are sent. -/
def alignmentOut (h l : Nat) (r : TxRun) (ss : List Nat) (s : State) : State :=
  let w := wordLevels s h l r.p ss
  let x := s.lane h l
  let s1 := s.setLane h l { x with amSeq := (x.amSeq + 1) % 65536, scr := r.scr, txP := w.2, txq := r.blocks, txRun := true,
                                   txAt := s.out.length }
  if s.fget h l TST_PRBS_CTRL_LOOPBACK = 2 then s1
  else s1.emits ((r.sent.reverse ++ [(ss, w.1)]).map fun w => .codeword h l w.1 w.2 (txTaps s h l))

theorem alignmentPut_eq : alignmentPut h l s =
    alignmentOut h l (dataRun s h l) (amCodeword l (s.fget h l LANE_BOND_TX_BOND_ID) (s.lane h l).amSeq) s := by
  unfold alignmentPut
  extract_lets x r ss
  change _ = alignmentOut h l r ss s
  clear_value r ss
  unfold alignmentOut
  generalize wordLevels s h l r.p ss = w
  rcases w with ⟨ls, p⟩
  rfl

/-- The record: sequence number stepped, scrambler, precoder and waiting blocks as the run left them. -/
theorem alignmentOut_lane (r : TxRun) (ss : List Nat) :
    ((alignmentOut h l r ss s).lane h l).amSeq = ((s.lane h l).amSeq + 1) % 65536 ∧
    ((alignmentOut h l r ss s).lane h l).scr = r.scr ∧
    ((alignmentOut h l r ss s).lane h l).txP = (wordLevels s h l r.p ss).2 ∧
    ((alignmentOut h l r ss s).lane h l).txq = r.blocks := by
  unfold alignmentOut
  dsimp only
  split_ifs
  · rw [State.setLane_same]
    exact ⟨rfl, rfl, rfl, rfl⟩
  · rw [State.emits_acc_lane, State.setLane_same]
    exact ⟨rfl, rfl, rfl, rfl⟩

/-- Far-end loopback discards the codewords (R45). -/
theorem alignmentOut_out_echoing (r : TxRun) (ss : List Nat) (two : s.fget h l TST_PRBS_CTRL_LOOPBACK = 2) :
    (alignmentOut h l r ss s).out = s.out := by
  unfold alignmentOut
  dsimp only
  rw [if_pos two, State.setLane_out]

/-- The run's codewords go out first, the alignment codeword after them. -/
theorem alignmentOut_out (r : TxRun) (ss : List Nat) (n : s.fget h l TST_PRBS_CTRL_LOOPBACK ≠ 2) :
    (alignmentOut h l r ss s).out = .codeword h l ss (wordLevels s h l r.p ss).1 (txTaps s h l) ::
      (r.sent.map fun w => .codeword h l w.1 w.2 (txTaps s h l)) ++ s.out := by
  unfold alignmentOut
  dsimp only
  rw [if_neg n, State.emits, State.setLane_out, ← List.map_reverse, List.reverse_append, List.reverse_reverse]
  rfl

end

end Sys2Proof.Machine
end

section
/-! PROOFS. Received code groups (R22, R25, R27): invalid ones counted, polarity settled in CHECK. -/

namespace Sys2Proof.Machine

/-- Fields that counting a code group may write. -/
def groupFields : List Fld := [LANE_CODE_ERR, LANE_EVENT_CODE_ERR, LANE_STATUS_FREEZE_WHY]

/-- Fields that settling the polarity may write after it. -/
def settleFields : List Fld := [LANE_STATUS_RX_INV_ACT, LANE_EVENT_POL_FLIP, LANE_STATUS_ALIGNED] ++ goFields

/-- A code group that the lane's mode uses (R22, R23). -/
def groupOk (s : State) (h l : Nat) (kb : Option Nat) : Bool :=
  match kb with
  | some b => decide (b < 256) || ctrlOk (s.fget h l LANE_CTRL_MODE) (b - 256)
  | none => false

/-- The group follows K28.5 in an ordered set of the mode. -/
def groupSettles (s : State) (h l : Nat) (kb : Option Nat) : Bool :=
  (s.lane h l).afterComma && kb.any (expectedSecond (s.fget h l LANE_CTRL_MODE))

/-- Complemented ordered sets in a row, after the group. -/
def groupRun (s : State) (h l g : Nat) (kb : Option Nat) : Nat :=
  let x := s.lane h l
  if x.afterComma then (if !groupSettles s h l kb && inverseSecond g then x.polRun + 1 else 0) else x.polRun

/-- A group that is no valid one is counted (R22). -/
def groupCounted (h l : Nat) (kb : Option Nat) (s : State) : State :=
  if groupOk s h l kb then s else (s.count h l LANE_CODE_ERR).raise h l LANE_EVENT_CODE_ERR

/-- The state after a group is counted, taken as idle or data, and sent back in far-end loopback. -/
def groupRead (h l g : Nat) (kb : Option Nat) (s : State) : State :=
  let x := s.lane h l
  let s1 := farEnd h l [g] (groupUnit h l x.afterComma (kb.getD 512) (groupCounted h l kb s))
  s1.setLane h l { (s1.lane h l) with rdPos := nextRd g x.rdPos, afterComma := kb == some kComma, polRun := groupRun s h l g kb }

/-- The receive bits are inverted and synchronisation starts again (R27). -/
def groupFlip (s : State) (h l : Nat) (t : State) : State :=
  let u := (t.fputB h l LANE_STATUS_RX_INV_ACT (!s.fon h l LANE_STATUS_RX_INV_ACT)).raise h l LANE_EVENT_POL_FLIP
  (laneGo h l 3 (u.fput h l LANE_STATUS_ALIGNED 0)).setLane h l { (t.lane h l) with polRun := 0, afterComma := false }

section
variable {s t : State} {h l g : Nat} {kb : Option Nat}

/-- What a code group that is not inverted moves, by the lane's state and the group before it. -/
theorem codeGroup_eq (m : laneMeasures s h l = true) (saddle : isGorge l = false) (inv : rxInv s h l = false) (lt : g < 1024) :
    codeGroup h l g s =
      let kb := groupByte (decGroup g (s.lane h l).rdPos)
      if laneSt s h l = 4 ∧ (s.lane h l).afterComma then
        if 32 ≤ groupRun s h l g kb ∧ s.fon h l LANE_CTRL_POL_AUTO then groupFlip s h l (groupRead h l g kb s)
        else if groupSettles s h l kb then laneGo h l 5 (groupRead h l g kb s) else groupRead h l g kb s
      else groupRead h l g kb s := by
  unfold codeGroup
  rw [if_neg (by simp [m, saddle]), inv, if_neg Bool.false_ne_true, Nat.mod_eq_of_lt lt]
  rfl

theorem groupUnit_fields (after : Bool) (n : Nat) (hl : l < 16) :
    FieldsBut [LANE_STATUS_FREEZE_WHY] h l s (groupUnit h l after n s) :=
  keep_ite (idleStep_fields true _ hl) (keep_ite .refl (idleStep_fields false 0 hl))

theorem groupRead_of_counted (hl : l < 16) :
    FieldsBut [LANE_STATUS_FREEZE_WHY] h l (groupCounted h l kb s) (groupRead h l g kb s) :=
  ((groupUnit_fields _ _ hl).regs (farEnd_regs _)).setLane _ _ _

theorem groupRead_fields (hl : l < 16) : FieldsBut groupFields h l s (groupRead h l g kb s) := by
  have counted : FieldsBut groupFields h l s (groupCounted h l kb s) :=
    keep_ite .refl ((FieldsBut.refl.count 1 hl (by decide) (by decide)).event hl (by decide) (by decide))
  exact counted.trans ((groupRead_of_counted hl).mono (by decide))

/-- An invalid group is counted. -/
theorem groupRead_bad (hl : l < 16) :
    (groupRead h l g none s).fget h l LANE_CODE_ERR = satAdd32 (s.fget h l LANE_CODE_ERR) 1 ∧
    (groupRead h l g none s).fon h l LANE_EVENT_CODE_ERR = true := by
  have counted : groupCounted h l none s = (s.count h l LANE_CODE_ERR).raise h l LANE_EVENT_CODE_ERR := if_neg Bool.false_ne_true
  have kept := groupRead_of_counted (s := s) (h := h) (g := g) (kb := none) hl
  rw [counted] at kept
  obtain ⟨err, event⟩ := count_raise_shows (s := s) (h := h) (f := LANE_CODE_ERR) (e := LANE_EVENT_CODE_ERR) 1 hl (by decide)
    (by decide) (by decide) (by decide) (by decide)
  rw [State.fon_eq] at event ⊢
  rw [kept _ (by decide) (by decide), kept _ (by decide) (by decide)]
  exact ⟨err, event⟩

/-- The flip's writes before the lane goes back to ALIGN. -/
def flipWrites (s : State) (h l : Nat) (t : State) : State :=
  ((t.fputB h l LANE_STATUS_RX_INV_ACT (!s.fon h l LANE_STATUS_RX_INV_ACT)).raise h l LANE_EVENT_POL_FLIP).fput h l
    LANE_STATUS_ALIGNED 0

theorem groupFlip_fields (hl : l < 16) : FieldsBut goFields h l (flipWrites s h l t) (groupFlip s h l t) :=
  (laneGo_fields 3 hl).setLane _ _ _

theorem flipWrites_fields (hl : l < 16) :
    FieldsBut [LANE_STATUS_RX_INV_ACT, LANE_EVENT_POL_FLIP, LANE_STATUS_ALIGNED] h l t (flipWrites s h l t) :=
  ((FieldsBut.refl.put _ hl (by decide) (by decide)).event hl (by decide) (by decide)).put 0 hl (by decide) (by decide)

/-- What the flip shows: ALIGN, the inversion changed, POL_FLIP. -/
theorem groupFlip_shows (hl : l < 16) (plain : s.fon h l LANE_STATUS_RX_INV_ACT = false) :
    laneSt (groupFlip s h l t) h l = 3 ∧ (groupFlip s h l t).fon h l LANE_STATUS_RX_INV_ACT = true ∧
    (groupFlip s h l t).fon h l LANE_EVENT_POL_FLIP = true := by
  have kept := groupFlip_fields (s := s) (t := t) (h := h) hl
  have put : ∀ (u : State) (g : Fld), g.ofLane → g.apart LANE_STATUS_ALIGNED →
      (u.fput h l LANE_STATUS_ALIGNED 0).fget h l g = u.fget h l g := fun u g o n =>
    State.fget_fput_apart 0 hl hl o (by decide) (.inr n)
  refine ⟨(State.setLane_acc_fget _ _ _ _ _ _ _).trans (laneSt_laneGo hl (by decide)), ?_, ?_⟩
  · rw [State.fon_eq, kept _ (by decide) (by decide), flipWrites, put _ _ (by decide) (by decide),
      raise_fget_apart hl hl (by decide) (by decide) (.inr (by decide)), plain, State.fputB_eq,
      State.fget_fput_of_lt (by decide) (by decide)]
    rfl
  · rw [State.fon_eq, kept _ (by decide) (by decide), flipWrites, put _ _ (by decide) (by decide), ← State.fon_eq]
    exact raise_sets _ _ _ _ (by decide) (by decide) (Fld.offLoss_no _ (by decide))

/-- After a group is read only the lane's polarity and state move. -/
theorem codeGroup_fields (hl : l < 16) (m : laneMeasures s h l = true) (saddle : isGorge l = false) (inv : rxInv s h l = false)
    (lt : g < 1024) :
    FieldsBut settleFields h l (groupRead h l g (groupByte (decGroup g (s.lane h l).rdPos)) s) (codeGroup h l g s) := by
  rw [codeGroup_eq m saddle inv lt]
  exact keep_ite (keep_ite (((flipWrites_fields hl).mono (by decide)).trans ((groupFlip_fields hl).mono (by decide)))
    (keep_ite ((laneGo_fields 5 hl).mono (by decide)) .refl)) .refl

/-! ### The row -/

/-- An invalid group is counted, whatever it moves. -/
theorem codeGroup_bad (hl : l < 16) (m : laneMeasures s h l = true) (saddle : isGorge l = false) (inv : rxInv s h l = false)
    (lt : g < 1024) (d : decGroup g (s.lane h l).rdPos = .bad) :
    (codeGroup h l g s).fget h l LANE_CODE_ERR = satAdd32 (s.fget h l LANE_CODE_ERR) 1 ∧
    (codeGroup h l g s).fon h l LANE_EVENT_CODE_ERR = true := by
  have kept := codeGroup_fields hl m saddle inv lt
  rw [d, groupByte] at kept
  obtain ⟨err, event⟩ := groupRead_bad (s := s) (h := h) (g := g) hl
  rw [State.fon_eq] at event ⊢
  rw [kept _ (by decide) (by decide), kept _ (by decide) (by decide)]
  exact ⟨err, event⟩

/-- The group after a comma that an ordered set expects takes the lane from CHECK to UP (R25). -/
theorem codeGroup_up (hl : l < 16) (m : laneMeasures s h l = true) (saddle : isGorge l = false) (inv : rxInv s h l = false)
    (lt : g < 1024) {b : Nat} (d : decGroup g (s.lane h l).rdPos = .data b) (four : laneSt s h l = 4)
    (after : (s.lane h l).afterComma = true) (second : expectedSecond (s.fget h l LANE_CTRL_MODE) b = true) :
    laneSt (codeGroup h l g s) h l = 5 ∧ (codeGroup h l g s).fon h l LANE_EVENT_UP = true := by
  have settles : groupSettles s h l (some b) = true := by simp [groupSettles, after, second]
  have run : groupRun s h l g (some b) = 0 := by simp [groupRun, after, settles]
  have e := codeGroup_eq m saddle inv lt
  dsimp only at e
  rw [d, groupByte, if_pos ⟨four, after⟩, run, if_neg (by omega), if_pos settles] at e
  have still : laneSt (groupRead h l g (some b) s) h l = 4 := (groupRead_fields hl _ (by decide) (by decide)).trans four
  rw [e]
  exact ⟨laneSt_laneGo hl (by decide), (laneGo_event _ h l 5 hl).2.1 rfl (by omega)⟩

/-- The thirty-second complemented set in a row inverts the receive bits (R27). -/
theorem codeGroup_flip (hl : l < 16) (m : laneMeasures s h l = true) (saddle : isGorge l = false) (inv : rxInv s h l = false)
    (lt : g < 1024) {b : Nat} (d : decGroup g (s.lane h l).rdPos = .data b) (four : laneSt s h l = 4)
    (after : (s.lane h l).afterComma = true) (second : expectedSecond (s.fget h l LANE_CTRL_MODE) b = false)
    (inverse : inverseSecond g = true) (thirtyOne : (s.lane h l).polRun = 31) (auto : s.fon h l LANE_CTRL_POL_AUTO = true) :
    laneSt (codeGroup h l g s) h l = 3 ∧ (codeGroup h l g s).fon h l LANE_STATUS_RX_INV_ACT = true ∧
    (codeGroup h l g s).fon h l LANE_EVENT_POL_FLIP = true := by
  have settles : groupSettles s h l (some b) = false := by simp [groupSettles, second]
  have run : groupRun s h l g (some b) = 32 := by simp [groupRun, after, settles, inverse, thirtyOne]
  have e := codeGroup_eq m saddle inv lt
  dsimp only at e
  rw [d, groupByte, if_pos ⟨four, after⟩, run, if_pos ⟨le_refl 32, auto⟩] at e
  rw [rxInv, if_pos auto] at inv
  rw [e]
  exact groupFlip_shows hl inv

end

/-- Settles O21: a received codeword is counted by what the decoder answers and delivered in UP; an alignment codeword moves the lane by
its state; a code group settles the polarity in CHECK. -/
theorem codewordsAlignmentAndCodeGroups : Obligations.CodewordsAlignmentAndCodeGroups := by
  refine ⟨fun s h l levels => ⟨fun n => ?off, fun al len => ?codeword⟩, fun s h l ok =>
    ⟨fun levels gorge len low high => ?received, fun no => ?silent, fun sends => ?sent, fun g saddle low high inv lt => ?group⟩⟩
  case off =>
    have e : codewordReceived h l levels s = s := by
      unfold codewordReceived
      rw [codewordTaken_not n]
      rfl
    exact congrArg settled e
  case codeword =>
    have hl := laneAligned_lt al
    refine ⟨_, _, rfl, ?_⟩
    cases d : rsDecode (rxSymbols s h l (rxInv s h l) levels).1 with
    | none =>
      rw [codewordTaken_lost al len d]
      exact codeword_lost hl (delivers_blocksDeliver _ hl)
    | some r =>
      rw [codewordTaken_read al len d]
      exact codeword_read hl (delivers_blocksDeliver _ hl)
  case received =>
    have hl := laneOk_lt ok
    have c : takesAlignment s h l levels = true := by simp [takesAlignment, ok, gorge, low, high, len]
    have row : exec (.alignmentCodewordReceived h l levels) s = settled (alignmentTaken h l levels s) := rfl
    refine ⟨_, row, fun msg k m => ?_, alignmentTaken_unread c, alignmentTaken_lost hl c⟩
    obtain ⟨lane, sym⟩ := alignmentTaken_shows hl c m
    exact ⟨lane, sym, alignmentTaken_first hl c m, alignmentTaken_second hl c m, alignmentTaken_up hl c m⟩
  case silent => exact congrArg settled (if_neg (by simp [no]))
  case sent =>
    intro ss r t
    have e : t = alignmentOut h l r ss s := alignmentPut_eq
    have row : exec (.alignmentCodewordSent h l) s = settled (if s.fget h l TST_PRBS_CTRL_LOOPBACK = 1 then
        nearEnd h l r.p r (wordLevels s h l r.p ss).1 t else t) := congrArg settled (if_pos sends)
    clear_value t r ss
    subst e
    obtain ⟨seq, scr, p, txq⟩ := alignmentOut_lane (s := s) (h := h) (l := l) r ss
    refine ⟨seq, scr, p, txq, alignmentOut_out_echoing r ss, alignmentOut_out r ss, fun n => ?_, fun one => ?_⟩
    · rw [row, if_neg n]
      rfl
    · rw [row, if_pos one]
      rfl
  case group =>
    have hl := laneOk_lt ok
    have m := laneMeasures_of ok low high
    refine ⟨fun d => ⟨_, rfl, codeGroup_bad hl m saddle inv lt d⟩, fun b d four after => ⟨fun second => ?_, ?_⟩⟩
    · exact ⟨_, rfl, codeGroup_up hl m saddle inv lt d four after second⟩
    · exact fun second inverse run auto => ⟨_, rfl, codeGroup_flip hl m saddle inv lt d four after second inverse run auto⟩

end Sys2Proof.Machine
end

section
/-! PROOFS. PRBS test and loopback (R26, R42 to R45): what a write of TST_PRBS_CTRL moves, the checker's window, injection. -/

namespace Sys2Proof.Machine

/-- The generator and the checker start or stop by a write of TST_PRBS_CTRL (R42, R43). -/
def testStarted (c : WriteCtx) (s : State) : State :=
  let s1 := if c.rose s TST_PRBS_CTRL_GEN_EN then genStart c.h c.i s else s
  let s2 := if c.rose s TST_PRBS_CTRL_CHK_EN then prbsReseed c.h c.i (s1.setLane c.h c.i { (s1.lane c.h c.i) with
      chkPat := s1.fget c.h c.i TST_PRBS_CTRL_PATTERN, chkInv := s1.fon c.h c.i TST_PRBS_CTRL_INVERT }) else s1
  let s3 := if c.fell s2 TST_PRBS_CTRL_CHK_EN then s2.fput c.h c.i TST_PRBS_STAT_LOCK 0 else s2
  if c.wrote TST_PRBS_CTRL_CHK_RESEED = 1 && s3.fon c.h c.i TST_PRBS_CTRL_CHK_EN then prbsReseed c.h c.i s3 else s3

/-- The lane moves by a write of TST_PRBS_CTRL: into TEST, out of it, through WAIT_SIG (R26, R45). -/
def testMoved (h l : Nat) (sets looped : Bool) (s : State) : State :=
  if laneSt s h l = 0 then s
  else
    let s1 := if laneSt s h l = 6 && (prbsOff s h l || looped) then testEnd h l s
      else if looped then laneRestart h l 1 s else s
    if sets || (laneSt s h l == 6 && !prbsOff s1 h l) then laneGo h l 6 s1 else s1

/-- The write sets GEN_EN or CHK_EN. -/
def testSets (c : WriteCtx) (s : State) : Bool := c.rose s TST_PRBS_CTRL_GEN_EN || c.rose s TST_PRBS_CTRL_CHK_EN

/-- The write changes LOOPBACK (R45). -/
def testLooped (c : WriteCtx) (s : State) : Bool :=
  loopback (s.fget c.h c.i TST_PRBS_CTRL_LOOPBACK) != loopback (c.was TST_PRBS_CTRL_LOOPBACK)

theorem tstAct_eq (c : WriteCtx) (s : State) (w : c.w = 0) :
    tstAct c s = injectOne c.h c.i (testMoved c.h c.i (testSets c s) (testLooped c s) (testStarted c s)) := by
  unfold tstAct
  rw [if_neg (by simp [w])]
  rfl

section
variable {s t : State} {h l : Nat} {fs : List Fld}

/-! ### The parts of the row -/

theorem genStart_fields : FieldsBut fs h l s (genStart h l s) := by
  unfold genStart
  extract_lets pat inv x s1
  have a : FieldsBut fs h l s s1 := FieldsBut.refl.setLane _ _ _
  split_ifs
  · exact a
  · exact ((a.free 31).setLane _ _ _).emit _

theorem FieldsBut.reseed (a : FieldsBut fs h l s t) (hl : l < 16) (m : TST_PRBS_STAT_LOCK ∈ fs) :
    FieldsBut fs h l s (prbsReseed h l t) := (a.put 0 hl (by decide) m).setLane _ _ _

theorem testStarted_fields (c : WriteCtx) (hl : c.i < 16) : FieldsBut [TST_PRBS_STAT_LOCK] c.h c.i s (testStarted c s) := by
  unfold testStarted
  extract_lets s1 x s2 s3
  have a1 : FieldsBut [TST_PRBS_STAT_LOCK] c.h c.i s s1 := keep_ite genStart_fields .refl
  have a2 : FieldsBut [TST_PRBS_STAT_LOCK] c.h c.i s s2 := keep_ite ((a1.setLane _ _ _).reseed hl (by decide)) a1
  have a3 : FieldsBut [TST_PRBS_STAT_LOCK] c.h c.i s s3 := keep_ite (a2.put 0 hl (by decide) (by decide)) a2
  exact keep_ite (a3.reseed hl (by decide)) a3

theorem genInject_fields (d : Nat) : FieldsBut fs h l s (genInject h l d s) := (FieldsBut.refl.setLane _ _ _).emit _

theorem injectOne_fields (hl : l < 16) : FieldsBut [TST_PRBS_CTRL_INJ_ONE] h l s (injectOne h l s) :=
  keep_ite ((FieldsBut.refl.put 0 hl (by decide) (by decide)).trans (genInject_fields 1)) .refl

theorem FieldsBut.testEnd (a : FieldsBut fs h l s t) (hl : l < 16) (sub : goFields ++ releaseFields ⊆ fs) :
    FieldsBut fs h l s (testEnd h l t) := ((a.free 2).setLane _ _ _).restart 1 hl sub

theorem laneSt_testEnd (hl : l < 16) : laneSt (testEnd h l s) h l = 1 := laneSt_laneRestart hl (by decide)

theorem prbsOff_congr (gen : t.fget h l TST_PRBS_CTRL_GEN_EN = s.fget h l TST_PRBS_CTRL_GEN_EN)
    (chk : t.fget h l TST_PRBS_CTRL_CHK_EN = s.fget h l TST_PRBS_CTRL_CHK_EN) : prbsOff t h l = prbsOff s h l := by
  rw [prbsOff, prbsOff, State.fon_eq, State.fon_eq, State.fon_eq, State.fon_eq, gen, chk]

/-- Leaving TEST writes none of the fields that enable the test. -/
theorem prbsOff_testEnd (hl : l < 16) : prbsOff (testEnd h l s) h l = prbsOff s h l :=
  have left := FieldsBut.refl.testEnd hl (List.Subset.refl _)
  prbsOff_congr (left _ (by decide) (by decide)) (left _ (by decide) (by decide))

/-! ### Where the lane goes (R26, R45) -/

section
variable {sets looped : Bool}

/-- A lane that is not OFF: it first leaves TEST or goes through WAIT_SIG, then enters TEST if it has to. -/
theorem testMoved_eq (on : laneSt s h l ≠ 0) : testMoved h l sets looped s =
    let s1 := if laneSt s h l = 6 && (prbsOff s h l || looped) then testEnd h l s
      else if looped then laneRestart h l 1 s else s
    if sets || (laneSt s h l == 6 && !prbsOff s1 h l) then laneGo h l 6 s1 else s1 := if_neg on

theorem testMoved_sets (hl : l < 16) (on : laneSt s h l ≠ 0) : laneSt (testMoved h l true looped s) h l = 6 := by
  rw [testMoved_eq on]
  dsimp only
  rw [Bool.true_or, if_pos rfl]
  exact laneSt_laneGo hl (by decide)

/-- A test that goes on keeps the lane in TEST. -/
theorem testMoved_stays (hl : l < 16) (six : laneSt s h l = 6) (runs : prbsOff s h l = false) :
    laneSt (testMoved h l sets looped s) h l = 6 := by
  have still := (prbsOff_testEnd (s := s) (h := h) hl).trans runs
  have six8 : ∀ t : State, laneSt (laneGo h l 6 t) h l = 6 := fun _ => laneSt_laneGo hl (by decide)
  rw [testMoved_eq (by omega)]
  cases looped <;> simp [six, runs, still, six8]

/-- A test that ends sends the lane to WAIT_SIG. -/
theorem testMoved_ends (hl : l < 16) (six : laneSt s h l = 6) (off : prbsOff s h l = true) :
    laneSt (testMoved h l false looped s) h l = 1 := by
  have still := prbsOff_testEnd (s := s) (h := h) hl
  rw [testMoved_eq (by omega)]
  simp [six, off, still, laneSt_testEnd hl]

theorem testMoved_loops (hl : l < 16) (on : laneSt s h l ≠ 0) (n : laneSt s h l ≠ 6) :
    laneSt (testMoved h l false true s) h l = 1 ∧
    (laneSt s h l = 5 → (testMoved h l false true s).fon h l LANE_EVENT_DOWN = true) := by
  have e : testMoved h l false true s = laneRestart h l 1 s := by
    rw [testMoved_eq on]
    simp [n]
  rw [e]
  exact ⟨laneSt_laneRestart hl (by decide), fun five => laneRestart_event hl five (by decide)⟩

theorem testMoved_none (on : laneSt s h l ≠ 0) (n : laneSt s h l ≠ 6) : testMoved h l false false s = s := by
  rw [testMoved_eq on]
  simp [n]

end

/-! ### A write of TST_PRBS_CTRL -/

theorem stored_tst_fget (v : Word) (opn : Bool) (hl : l < 16) {g : Fld} (b : g.blk = BLK_LANE) (w : g.word < 2048) :
    (stored BLK_TST opn h l 0 v s).fget h l g = s.fget h l g := by
  unfold State.fget
  rw [stored_rd_ne (rkey_ne hl w (by rw [b]; decide) hl (by decide) (by decide) (fun e => absurd (b.symm.trans e.2.2.1) (by decide)))]

/-- The state a write of TST_PRBS_CTRL leads to. -/
def testWritten (s : State) (h l : Nat) (v : Word) : State :=
  tstAct (hostCtx s BLK_TST h l 0 v) (stored BLK_TST (laneOpen s h l 0) h l 0 v s)

theorem exec_prbsEnableWrite (ok : laneOk s h l = true) (v : Word) :
    exec (.prbsEnableWrite h l v) s = .next (settle (testWritten s h l v)) := congrArg settled (if_pos ok)

theorem exec_loopbackChange (ok : laneOk s h l = true) (v : Word) :
    exec (.loopbackChange h l v) s = .next (settle (testWritten s h l v)) := congrArg settled (if_pos ok)

theorem testSets_eq (v : Word) (t : State) : testSets (hostCtx s BLK_TST h l 0 v) t =
    ((t.fon h l TST_PRBS_CTRL_GEN_EN && !s.fon h l TST_PRBS_CTRL_GEN_EN) ||
      (t.fon h l TST_PRBS_CTRL_CHK_EN && !s.fon h l TST_PRBS_CTRL_CHK_EN)) := by
  rw [testSets, hostCtx_rose s t h l TST_PRBS_CTRL_GEN_EN v, hostCtx_rose s t h l TST_PRBS_CTRL_CHK_EN v]

theorem testLooped_iff (v : Word) (t : State) : testLooped (hostCtx s BLK_TST h l 0 v) t = true ↔
    t.fget h l TST_PRBS_CTRL_LOOPBACK % 3 ≠ s.fget h l TST_PRBS_CTRL_LOOPBACK % 3 := bne_iff_ne

/-- What the write leaves of the lane: what the lane's move leaves, from a state with the lane's state as it was. -/
theorem testWritten_moved (hl : l < 16) (v : Word) :
    let t0 := stored BLK_TST (laneOpen s h l 0) h l 0 v s
    ∃ u, laneSt u h l = laneSt s h l ∧ prbsOff u h l = prbsOff t0 h l ∧
      FieldsBut [TST_PRBS_CTRL_INJ_ONE] h l (testMoved h l (testSets (hostCtx s BLK_TST h l 0 v) t0)
        (testLooped (hostCtx s BLK_TST h l 0 v) t0) u) (testWritten s h l v) := by
  intro t0
  have started : FieldsBut [TST_PRBS_STAT_LOCK] h l t0 (testStarted (hostCtx s BLK_TST h l 0 v) t0) := testStarted_fields _ hl
  refine ⟨testStarted (hostCtx s BLK_TST h l 0 v) t0, ?_, ?_, ?_⟩
  · exact (started _ (by decide) (by decide)).trans (stored_tst_fget v _ hl rfl (by decide))
  · exact prbsOff_congr (started _ (by decide) (by decide)) (started _ (by decide) (by decide))
  · rw [testWritten, tstAct_eq _ _ rfl]
    exact injectOne_fields hl

/-! ### The checker (R43) -/

/-- The state after a window of the checker is counted. -/
def windowCounted (h l errors : Nat) (reg : Nat) (s : State) : State :=
  ((s.count h l TST_PRBS_ERR errors).count h l TST_PRBS_BITS (((s.lane h l).prbsBits + 128) / 2 ^ 20)).setLane h l
    { (s.lane h l) with prbsBits := ((s.lane h l).prbsBits + 128) % 2 ^ 20, chkReg := reg }

theorem windowCounted_counts (errors reg : Nat) (hl : l < 16) :
    (windowCounted h l errors reg s).fget h l TST_PRBS_ERR = satAdd32 (s.fget h l TST_PRBS_ERR) errors ∧
    (windowCounted h l errors reg s).fget h l TST_PRBS_BITS =
      satAdd32 (s.fget h l TST_PRBS_BITS) (((s.lane h l).prbsBits + 128) / 2 ^ 20) := by
  rw [windowCounted, State.setLane_acc_fget, State.setLane_acc_fget]
  constructor
  · rw [State.count_eq _ _ _ TST_PRBS_BITS, State.fget_fput_apart _ hl hl (by decide) (by decide) (.inr (by decide)),
      State.fget_count _ (by decide)]
  · rw [State.fget_count _ (by decide), State.count_eq, State.fget_fput_apart _ hl hl (by decide) (by decide) (.inr (by decide))]

theorem windowCounted_fields (errors reg : Nat) (hl : l < 16) :
    FieldsBut [TST_PRBS_ERR, TST_PRBS_BITS] h l s (windowCounted h l errors reg s) :=
  ((FieldsBut.refl.count _ hl (by decide) (by decide)).count _ hl (by decide) (by decide)).setLane _ _ _

/-- Lock is lost: LOCK falls and LOCK_LOST is set. -/
theorem lockLost_fields (hl : l < 16) : FieldsBut [TST_PRBS_STAT_LOCK, TST_PRBS_STAT_LOCK_LOST] h l s
    (prbsReseed h l (s.fput h l TST_PRBS_STAT_LOCK_LOST 1)) :=
  (FieldsBut.refl.put 1 hl (by decide) (by decide)).reseed hl (by decide)

theorem lockLost_shows (hl : l < 16) :
    (prbsReseed h l (s.fput h l TST_PRBS_STAT_LOCK_LOST 1)).fget h l TST_PRBS_STAT_LOCK = 0 ∧
    (prbsReseed h l (s.fput h l TST_PRBS_STAT_LOCK_LOST 1)).fget h l TST_PRBS_STAT_LOCK_LOST = 1 := by
  rw [prbsReseed, State.setLane_acc_fget, State.setLane_acc_fget]
  constructor
  · exact State.fget_fput_of_lt (by decide) (by decide)
  · rw [State.fget_fput_apart _ hl hl (by decide) (by decide) (.inr (by decide)), State.fget_fput_of_lt (by decide) (by decide)]

/-! ### Injection (R44) -/

theorem genInject_out (d : Nat) : (genInject h l d s).out = .injected h l ((s.lane h l).genCount + d)
    ((prbsJump (s.lane h l).genPat d (s.lane h l).genReg).testBit 0 == (s.lane h l).genInv) :: s.out := rfl

/-- The next number after `m` that `n` divides. -/
theorem next_multiple (m : Nat) {n : Nat} (pos : 0 < n) :
    m < m + (n - m % n) ∧ (m + (n - m % n)) % n = 0 ∧ m + (n - m % n) ≤ m + n := by
  have lt := Nat.mod_lt m pos
  have e : m + (n - m % n) = n * (m / n + 1) := by
    have := Nat.div_add_mod m n
    rw [Nat.mul_add]
    omega
  exact ⟨by omega, by rw [e, Nat.mul_mod_right], by omega⟩

/-- The bit sent inverted, with no injection left pending. -/
theorem genInject_shows (d : Nat) :
    (genInject h l d (s.fput h l TST_PRBS_CTRL_INJ_ONE 0)).fget h l TST_PRBS_CTRL_INJ_ONE = 0 ∧
    (genInject h l d (s.fput h l TST_PRBS_CTRL_INJ_ONE 0)).out = .injected h l ((s.lane h l).genCount + d)
      ((prbsJump (s.lane h l).genPat d (s.lane h l).genReg).testBit 0 == (s.lane h l).genInv) :: s.out := by
  constructor
  · rw [genInject_fields (fs := []) d _ (by decide) (by decide), State.fget_fput_of_lt (by decide) (by decide)]
  · rw [genInject_out, State.fput_acc_lane, State.fput_out]

theorem genRuns_pending (hl : l < 16) : genRuns (s.fput h l TST_PRBS_CTRL_INJ_ONE 1) h l = genRuns s h l := by
  rw [genRuns, genRuns, State.fon_eq, State.fon_eq, State.fput_acc_lane,
    State.fget_fput_apart 1 hl hl (by decide) (by decide) (.inr (by decide))]

/-- A single injection waits for the generator. -/
theorem injOne_idle (ok : laneOk s h l = true) (idle : genRuns s h l = false) :
    injOne h l s = s.fput h l TST_PRBS_CTRL_INJ_ONE 1 := by
  rw [injOne, if_pos ok, injectOne, genRuns_pending (laneOk_lt ok), idle, Bool.and_false, if_neg Bool.false_ne_true]

theorem injOne_runs (ok : laneOk s h l = true) (runs : genRuns s h l = true) :
    injOne h l s = genInject h l 1 ((s.fput h l TST_PRBS_CTRL_INJ_ONE 1).fput h l TST_PRBS_CTRL_INJ_ONE 0) := by
  have pending : (s.fput h l TST_PRBS_CTRL_INJ_ONE 1).fon h l TST_PRBS_CTRL_INJ_ONE = true := by
    rw [State.fon_eq, State.fget_fput_of_lt (by decide) (by decide)]
    rfl
  rw [injOne, if_pos ok, injectOne, genRuns_pending (laneOk_lt ok), runs, pending, Bool.and_true, if_pos rfl]

theorem injRate_idle (n : genRuns s h l = false ∨ s.fon h l TST_PRBS_CTRL_INJ_RATE = false) : injRate h l s = s :=
  if_neg (by rcases n with n | n <;> simp [n])

/-- Rate injection goes on to the next multiple of 2^k. -/
theorem injRate_runs (ok : laneOk s h l = true) (runs : genRuns s h l = true) (on : s.fon h l TST_PRBS_CTRL_INJ_RATE = true) :
    injRate h l s = genInject h l (2 ^ max 4 (s.fget h l TST_PRBS_CTRL_INJ_RATE) - (s.lane h l).genCount %
      2 ^ max 4 (s.fget h l TST_PRBS_CTRL_INJ_RATE)) (s.fput h l TST_PRBS_CTRL_INJ_ONE 0) := by
  have rate : injExp (s.fget h l TST_PRBS_CTRL_INJ_RATE) = max 4 (s.fget h l TST_PRBS_CTRL_INJ_RATE) :=
    if_neg (by simpa [State.fon_eq] using on)
  rw [injRate, if_pos (by simp [ok, runs, on])]
  dsimp only
  rw [rate]

end

/-- Settles O22: the write of TST_PRBS_CTRL starts and stops the test and then moves the lane; a window is counted and may lose lock; an
injection goes out on a generator that runs. -/
theorem prbsAndLoopbackRows : Obligations.PrbsAndLoopbackRows := by
  intro s h l ok
  have hl := laneOk_lt ok
  refine ⟨fun v on => ?write, fun line runs unlocked => ?lock, fun line runs locked => ⟨fun len => ?window, fun short => ?short⟩,
    fun en => ?reseed, fun idle => ?idle, fun en pat => ?inject⟩
  case write =>
    intro t0 sets looped
    obtain ⟨u, state, off, kept⟩ := testWritten_moved (s := s) (h := h) hl v
    have loops : testLooped (hostCtx s BLK_TST h l 0 v) t0 = true ↔ looped := testLooped_iff v t0
    rw [testSets_eq v t0] at kept
    change FieldsBut _ h l (testMoved h l sets (testLooped (hostCtx s BLK_TST h l 0 v) t0) u) _ at kept
    have st := kept LANE_STATUS_STATE (by decide) (by decide)
    have down := kept LANE_EVENT_DOWN (by decide) (by decide)
    have onU : laneSt u h l ≠ 0 := state ▸ on
    refine ⟨_, exec_prbsEnableWrite ok v, exec_loopbackChange ok v, fun yes => ?_, fun _ six runs => ?_, fun six stop => ?_,
      fun no n lp => ?_, fun no n same => ?_⟩
    · rw [yes] at st
      exact st.trans (testMoved_sets hl onU)
    · exact st.trans (testMoved_stays hl (state.trans six) (off.trans runs))
    · have no : sets = false := by
        have both : t0.fon h l TST_PRBS_CTRL_GEN_EN = false ∧ t0.fon h l TST_PRBS_CTRL_CHK_EN = false := by
          simpa [prbsOff] using stop
        simp [sets, both]
      rw [no] at st
      exact st.trans (testMoved_ends hl (state.trans six) (off.trans stop))
    · rw [no, loops.mpr lp] at st down
      obtain ⟨wait, event⟩ := testMoved_loops (s := u) (h := h) hl onU (state ▸ n)
      refine ⟨st.trans wait, fun five => ?_⟩
      rw [State.fon_eq, down, ← State.fon_eq]
      exact event (state.trans five)
    · rw [no, Bool.eq_false_iff.mpr (fun e => same (loops.mp e)), testMoved_none onU (state ▸ n)] at st
      exact st.trans state
  case lock =>
    intro n bs want
    have c : (chkRuns s h l && !s.fon h l TST_PRBS_STAT_LOCK) = true := by simp [runs, unlocked]
    exact ⟨fun e => congrArg settled ((if_pos c).trans (if_pos e)), fun e => congrArg settled ((if_pos c).trans (if_neg e))⟩
  case window =>
    intro want errors
    have c : (chkRuns s h l && s.fon h l TST_PRBS_STAT_LOCK && decide (128 ≤ (chkBits s h l line).length)) = true := by
      simp [runs, locked, len]
    have row : exec (.prbsLockLost h l line) s = settled (if 16 < errors then
        prbsReseed h l ((windowCounted h l errors want.2 s).fput h l TST_PRBS_STAT_LOCK_LOST 1)
      else windowCounted h l errors want.2 s) := congrArg settled (if_pos c)
    obtain ⟨err, bits⟩ := windowCounted_counts (s := s) (h := h) errors want.2 hl
    by_cases many : 16 < errors
    · have lost := lockLost_fields (s := windowCounted h l errors want.2 s) (h := h) hl
      rw [if_pos many] at row
      refine ⟨_, row, ?_, ?_, fun _ => lockLost_shows hl, fun few => absurd many (by omega)⟩
      · rw [lost _ (by decide) (by decide), err]
      · rw [lost _ (by decide) (by decide), bits]
    · have still : s.fget h l TST_PRBS_STAT_LOCK = 1 := by
        have lt : s.fget h l TST_PRBS_STAT_LOCK < 2 := State.fget_lt _ _ _ _
        have ne : s.fget h l TST_PRBS_STAT_LOCK ≠ 0 := by simpa [State.fon_eq] using locked
        omega
      rw [if_neg many] at row
      refine ⟨_, row, err, bits, fun more => absurd more many, fun _ => ⟨?_, ?_⟩⟩
      · rw [windowCounted_fields errors want.2 hl _ (by decide) (by decide), still]
      · rw [windowCounted, State.setLane_same]
  case short => exact congrArg settled (if_neg (by simp [Nat.not_le.mpr short]))
  case reseed => exact congrArg settled (if_pos (by simp [ok, en]))
  case idle =>
    have no : genRuns s h l = false := by rcases idle with idle | idle <;> simp [genRuns, idle]
    exact ⟨congrArg settled (injOne_idle ok no), congrArg settled (injRate_idle (.inl no))⟩
  case inject =>
    intro x
    have runs : genRuns s h l = true := by simp [genRuns, en, pat]
    refine ⟨⟨_, congrArg settled (injOne_runs ok runs), genInject_shows (s := s.fput h l TST_PRBS_CTRL_INJ_ONE 1) 1⟩,
      fun off => congrArg settled (injRate_idle (.inr off)), fun on => ?_⟩
    obtain ⟨one, out⟩ := genInject_shows (s := s) (h := h) (l := l) (2 ^ max 4 (s.fget h l TST_PRBS_CTRL_INJ_RATE) -
      (s.lane h l).genCount % 2 ^ max 4 (s.fget h l TST_PRBS_CTRL_INJ_RATE))
    obtain ⟨after, divides, near⟩ := next_multiple (s.lane h l).genCount
      (Nat.two_pow_pos (max 4 (s.fget h l TST_PRBS_CTRL_INJ_RATE)))
    exact ⟨_, _, _, congrArg settled (injRate_runs ok runs on), one, out, after, divides, near⟩

end Sys2Proof.Machine
end

section
/-! PROOFS. Frames of the Gorge protocol by their kind (R48, R56, R58, R59, R78). -/

namespace Sys2Proof.Machine

section
variable {s : State} {h i : Nat} {f : List Byte}

/-! ### Reception -/

/-- An intact frame of its class is taken by its rule (R58). -/
theorem onFrame_of_intact {c : FrameClass} (ok : gorOk s h i = true) (on : gorSess s h i ≠ 0) (whole : intact f = true)
    (e : classify s h i f = c) (k : State → State) : onFrame h i f c k s = k (frameCame h i f s) := by
  simp [onFrame, ok, on, whole, e]

/-- A frame that is not intact is counted and nothing else, whichever class it is looked at for (R48). -/
theorem onFrame_of_broken (ok : gorOk s h i = true) (on : gorSess s h i ≠ 0) (broken : intact f = false) (c : FrameClass)
    (k : State → State) : onFrame h i f c k s = s.count h i GOR_BAD_FRAME := by
  simp [onFrame, ok, on, broken]

theorem badFrame_counts {errored truncated : Bool} (ok : gorOk s h i = true) (on : gorSess s h i ≠ 0)
    (bad : errored = true ∨ truncated = true ∨ intact f = false) :
    badFrame h i f errored truncated s = s.count h i GOR_BAD_FRAME :=
  if_pos (by simpa [ok, on, or_assoc] using bad)

theorem protocolFault_of_broken (ok : gorOk s h i = true) (on : gorSess s h i ≠ 0) (broken : intact f = false) :
    protocolFault h i f s = s.count h i GOR_BAD_FRAME := by
  simp [protocolFault, ok, on, broken]

/-- What an intact frame that its class refuses is answered by (R78). -/
theorem protocolFault_of_intact (ok : gorOk s h i = true) (on : gorSess s h i ≠ 0) (whole : intact f = true) :
    let s1 := s.count h i GOR_RX_FRAMES
    (classify s h i f = .badVersion → protocolFault h i f s = protoError h i (sendError h i 0x03 (frSeq f) 0xFFFFFFFF 0 s1)) ∧
    (classify s h i f = .badType → protocolFault h i f s = protoError h i (sendError h i 0x04 (frSeq f) 0xFFFFFFFF 0 s1)) ∧
    (classify s h i f = .noSession → protocolFault h i f s = protoError h i (sendError h i 0x02 (frSeq f) 0xFFFFFFFF 0 s1)) ∧
    (classify s h i f = .stale → protocolFault h i f s = sendError h i 0x01 (frSeq f) 0xFFFFFFFF 0 (s1.count h i GOR_STALE)) := by
  refine ⟨?_, ?_, ?_, ?_⟩ <;> intro e <;> simp [protocolFault, ok, on, whole, e]

end

/-! ### Obligation -/

/-- Settles O23: each row hands its frame to `onFrame` for its class, which counts a broken frame and takes an intact one by its rule;
a refused frame is answered by `protocolFault`. -/
theorem gorgeFramesTakenByTheirRule : Obligations.GorgeFramesTakenByTheirRule := by
  intro s h i f ok on
  refine ⟨fun e t bad => congrArg settled (badFrame_counts ok on bad), fun broken => ?broken, fun whole => ?whole⟩
  case broken =>
    exact ⟨congrArg settled (onFrame_of_broken ok on broken _ _), congrArg settled (onFrame_of_broken ok on broken _ _),
      congrArg settled (protocolFault_of_broken ok on broken)⟩
  case whole =>
    have taken {c : FrameClass} (k : State → State) (e : classify s h i f = c) :
        settled (onFrame h i f c k s) = .next (settle (k (frameCame h i f s))) :=
      congrArg settled (onFrame_of_intact ok on whole e k)
    obtain ⟨badVersion, badType, noSession, stale⟩ := protocolFault_of_intact ok on whole
    refine ⟨taken _, taken _, taken _, taken _, taken _, taken _, taken _, taken _, fun e declined => ?_,
      fun e => congrArg settled (badVersion e), fun e => congrArg settled (badType e), fun e => congrArg settled (noSession e),
      fun e => congrArg settled (stale e)⟩
    exact (taken _ e).trans (congrArg settled (if_pos declined))

end Sys2Proof.Machine
end

section
/-! PROOFS. The receiver's window and credit (R61): the branches of SEQUENCED_FRAME_RECEIVED. -/

namespace Sys2Proof.Machine

/-! ### Staging leaves the unit as it is -/

/-- Bytes stored in DRAM are all that a write of DRAM changes. -/
theorem State.dwrites_shape (h : Nat) (bs : List Byte) (a : Nat) (s : State) :
    s.dwrites h a bs = { s with dram := (s.dwrites h a bs).dram } := by
  induction bs generalizing a s with
  | nil => rfl
  | cons b bs ih =>
    rw [State.dwrites, ih]
    rfl

theorem stageFrame_shape (h i q : Nat) (f : List Byte) (s : State) :
    stageFrame h i q f s = { s with dram := (stageFrame h i q f s).dram } := by
  unfold stageFrame
  split
  · exact State.dwrites_shape _ _ _ _
  · rfl

section
variable (h i q : Nat) (f : List Byte) (s : State)

theorem stageFrame_gor (h' i' : Nat) : (stageFrame h i q f s).gor h' i' = s.gor h' i' := by
  rw [stageFrame_shape]
  rfl

theorem stageFrame_fget (h' i' : Nat) (g : Fld) : (stageFrame h i q f s).fget h' i' g = s.fget h' i' g := by
  rw [stageFrame_shape]
  rfl

end

section
variable {s : State} {h i : Nat}

theorem gorLive_congr {t : State} (e : t.fget h i GOR_STATUS_SESS = s.fget h i GOR_STATUS_SESS) : gorLive t h i = gorLive s h i := by
  unfold gorLive gorSess
  rw [e]

/-- A frame that goes out leaves what is staged. -/
theorem sendAck_staged : ((sendAck h i s).gor h i).staged = (s.gor h i).staged := by
  unfold sendAck advertise sendFrame gorEmit
  dsimp only
  split_ifs <;> simp

/-- Staged frames wait while the number after the last processed one is not there. -/
theorem processStaged_of_missing (n : Nat) (miss : ((s.gor h i).staged.find? fun e => e.1 == rcvNxt s h i) = none) :
    processStaged h i n s = s := by
  cases n with
  | zero => rfl
  | succ n =>
    rw [processStaged]
    simp [miss]

end

/-! ### The branches of the listing -/

theorem sdiff32_self (a : Nat) : sdiff32 a a = 0 := by
  have e : (a + 2 ^ 32 - a % 2 ^ 32) % 2 ^ 32 = 0 := by omega
  unfold sdiff32 toS
  rw [e]
  rfl

/-- The unit's record with the first frame staged. -/
def stagedFirst (r : State) (h i : Nat) (f : List Byte) : State :=
  r.setGor h i { r.gor h i with
    staged := [(frSeq f, f)]
    owed := true
    highest := if sdiff32 (frSeq f + 1) (r.gor h i).highest > 0 ∨ (r.gor h i).highest = 0 then (frSeq f + 1) % 2 ^ 32
      else (r.gor h i).highest }

/-- The end of the listing, after staged frames were processed: the ACK and the NAK that a gap asks for (R62, R64). -/
def acknowledged (h i : Nat) (d : Int) (gap : Bool) (s2 : State) : State :=
  if !gorLive s2 h i then s2
  else
    let s3 := if (0 < d ∧ !gap) ∨ (d = 0 ∧ gap ∧ 0 < (s2.gor h i).unacked) then sendAck h i s2 else s2
    if 0 < d ∧ 3 ≤ beyondGap s3 h i then sendNak h i 256 s3 else s3

theorem acknowledged_of_next (h i : Nat) (s : State) : acknowledged h i 0 false s = s := by simp [acknowledged]

/-- A frame that opens a gap is acknowledged; fewer than three frames beyond it ask for no NAK. -/
theorem acknowledged_of_gap {s : State} {h i : Nat} {d : Int} (ahead : 0 < d) (live : gorLive s h i = true)
    (few : (s.gor h i).staged.length < 3) : acknowledged h i d false s = sendAck h i s := by
  have no : ¬ 3 ≤ beyondGap (sendAck h i s) h i := by
    have le : beyondGap (sendAck h i s) h i ≤ (s.gor h i).staged.length :=
      sendAck_staged (s := s) ▸ List.length_filter_le _ _
    omega
  simp [acknowledged, live, ahead, no]

section
variable {s r : State} {h i : Nat} {f : List Byte} (hr : creditRefresh h i s = r)
include hr

theorem takeSequenced_of_old (old : sdiff32 (frSeq f) (rcvNxt r h i) < 0 ∨ ((r.gor h i).staged.any fun e => e.1 == frSeq f) = true) :
    takeSequenced h i f s = sendAck h i (r.count h i GOR_DUP) := by
  unfold takeSequenced
  rw [hr]
  exact if_pos old

theorem takeSequenced_of_beyond_window (far : 255 < sdiff32 (frSeq f) (rcvNxt r h i))
    (new : ((r.gor h i).staged.any fun e => e.1 == frSeq f) = false) :
    takeSequenced h i f s = sendAck h i (r.count h i GOR_OOW) := by
  unfold takeSequenced
  rw [hr]
  exact (if_neg (by simp only [new, Bool.false_eq_true, or_false]; omega)).trans (if_pos far)

theorem takeSequenced_of_beyond_credit (low : 0 ≤ sdiff32 (frSeq f) (rcvNxt r h i)) (high : sdiff32 (frSeq f) (rcvNxt r h i) ≤ 255)
    (new : ((r.gor h i).staged.any fun e => e.1 == frSeq f) = false) (beyond : beyondCredit r h i f = true) :
    takeSequenced h i f s = protoError h i (sendError h i 0x05 (frSeq f) (frW f 0) 0 (r.count h i GOR_CREDIT_OVR)) := by
  unfold takeSequenced
  rw [hr]
  exact ((if_neg (by simp only [new, Bool.false_eq_true, or_false]; omega)).trans (if_neg (by omega))).trans (if_pos beyond)

/-- A frame within window and credit, with nothing staged before it, is staged and the listing goes on from there. -/
theorem takeSequenced_of_first (empty : (r.gor h i).staged = []) (credit : beyondCredit r h i f = false)
    (low : 0 ≤ sdiff32 (frSeq f) (rcvNxt r h i)) (high : sdiff32 (frSeq f) (rcvNxt r h i) ≤ 255) :
    takeSequenced h i f s = acknowledged h i (sdiff32 (frSeq f) (rcvNxt r h i)) false (processStaged h i 1
      (if 0 < sdiff32 (frSeq f) (rcvNxt r h i) then stageFrame h i (frSeq f) f (stagedFirst r h i f) else stagedFirst r h i f)) := by
  unfold takeSequenced
  rw [hr]
  refine (if_neg ?_).trans ((if_neg (by omega)).trans ((if_neg (by simp [credit])).trans ?_))
  · simp only [empty, List.any_nil, Bool.false_eq_true, or_false]
    omega
  · simp only [empty, List.isEmpty_nil, and_true]
    rfl

/-- The next number, with nothing staged, is processed at once. -/
theorem takeSequenced_of_next (empty : (r.gor h i).staged = []) (credit : beyondCredit r h i f = false)
    (next : sdiff32 (frSeq f) (rcvNxt r h i) = 0) : takeSequenced h i f s = processStaged h i 1 (stagedFirst r h i f) := by
  rw [takeSequenced_of_first hr empty credit (by omega) (by omega), next, if_neg (by decide), acknowledged_of_next]

/-- The first frame that opens a gap is staged and acknowledged; nothing is processed. -/
theorem takeSequenced_of_gap (empty : (r.gor h i).staged = []) (credit : beyondCredit r h i f = false)
    (ahead : 0 < sdiff32 (frSeq f) (rcvNxt r h i)) (high : sdiff32 (frSeq f) (rcvNxt r h i) ≤ 255) (live : gorLive r h i = true) :
    takeSequenced h i f s = sendAck h i (stageFrame h i (frSeq f) f (stagedFirst r h i f)) := by
  rw [takeSequenced_of_first hr empty credit (by omega) high, if_pos ahead]
  generalize e : stageFrame h i (frSeq f) f (stagedFirst r h i f) = t
  have staged : (t.gor h i).staged = [(frSeq f, f)] := by
    rw [← e, stageFrame_gor, stagedFirst, State.setGor_same]
  have nxt : rcvNxt t h i = rcvNxt r h i := e ▸ stageFrame_fget _ _ _ _ _ _ _ _
  have still : gorLive t h i = true := (gorLive_congr (e ▸ stageFrame_fget _ _ _ _ _ _ _ _)).trans live
  have missing : frSeq f ≠ rcvNxt r h i := by
    intro same
    rw [same, sdiff32_self] at ahead
    omega
  have waits : processStaged h i 1 t = t := processStaged_of_missing 1 (by simp [staged, nxt, missing])
  rw [waits, acknowledged_of_gap ahead still (by simp [staged])]

end

/-- Settles O25: each branch of the listing by the test that leads to it; with nothing staged before, the frame's own place decides
between processing and waiting. -/
theorem sequencedFrameWindowAndCredit : Obligations.SequencedFrameWindowAndCredit := by
  intro s h i f r d
  exact ⟨takeSequenced_of_old rfl, takeSequenced_of_beyond_window rfl, takeSequenced_of_beyond_credit rfl,
    fun empty credit => ⟨takeSequenced_of_next rfl empty credit, takeSequenced_of_gap rfl empty credit⟩⟩

end Sys2Proof.Machine
end

section
/-! PROOFS. What operations of a Gorge unit leave of its fields: a frame of fields of one unit of a block. -/

namespace Sys2Proof.Machine

/-- Two fields of one unit share no bit, and lie within their words. -/
abbrev Fld.clears (g f : Fld) : Prop := g.word < 2048 ∧ f.word < 2048 ∧ g.lo + g.len ≤ 32 ∧ g.apart f

/-- The words of a 64-bit value, as fields. -/
abbrev Fld.low (f : Fld) : Fld := ⟨f.blk, f.word, 0, 32⟩
abbrev Fld.high (f : Fld) : Fld := ⟨f.blk, f.word + 1, 0, 32⟩

section
variable {s : State} {h i : Nat} {f g : Fld}

/-! ### Fields of one unit -/

/-- Words of one unit with one key are one word of one block. -/
theorem rkey_inj_inst {b b' w w' : Nat} (hw : w < 2048) (hw' : w' < 2048) (e : rkey h b i w = rkey h b' i w') : b = b' ∧ w = w' := by
  unfold rkey at e
  omega

theorem State.fget_fput_clears (v : Nat) (c : g.clears f) : (s.fput h i f v).fget h i g = s.fget h i g := by
  obtain ⟨wg, wf, lg, n⟩ := c
  by_cases e : rkey h g.blk i g.word = rkey h f.blk i f.word
  · obtain ⟨eb, ew⟩ := rkey_inj_inst wg wf e
    exact State.fget_fput_disj _ _ eb ew lg (by simp [Fld.apart, eb, ew] at n; omega)
  · exact State.fget_fput_ne _ _ e

theorem State.fget_fputB_clears (b : Bool) (c : g.clears f) : (s.fputB h i f b).fget h i g = s.fget h i g :=
  State.fget_fput_clears _ c

theorem raise_fget_clears (c : g.clears f) (off : g.offLoss = true) : (s.raise h i f).fget h i g = s.fget h i g := by
  have put := State.fget_fput_clears (s := s) (h := h) (i := i) 1 c
  unfold State.raise
  dsimp only
  split_ifs
  · rfl
  · rw [← put]
    unfold State.fget
    rw [postEvent_rd _ _ _ _ _ (Fld.offLoss_no _ off)]
  · exact put

/-! ### 64-bit values -/

theorem bits_word (w : Word) : bits w.toNat 0 32 = w.toNat := Nat.mod_eq_of_lt w.isLt

theorem insertBits_word (w : Word) (v : Nat) : insertBits w 0 32 v = BitVec.ofNat 32 v := by
  apply BitVec.eq_of_toNat_eq
  rw [← bits_word, bits_insertBits_same _ _ _ _ (by decide), BitVec.toNat_ofNat]

theorem State.get64_eq (lo : Fld) : s.get64 h i lo = s.fget h i lo.low + 2 ^ 32 * s.fget h i lo.high := by
  simp only [State.get64, State.fget, bits_word]

theorem State.put64_eq (lo : Fld) (v : Nat) : s.put64 h i lo v = (s.fput h i lo.low v).fput h i lo.high (v / 2 ^ 32) := by
  simp only [State.put64, State.fput, insertBits_word]

/-! ### Operations of a Gorge unit -/

theorem openShow_fget (c : g.clears GOR_STATUS_OPEN_PAGES) : (openShow h i s).fget h i g = s.fget h i g :=
  State.fget_fput_clears _ c

theorem gorAnswer_fget (x : List Byte) (h' i' : Nat) : (gorAnswer h i x s).fget h' i' g = s.fget h' i' g := by
  simp [gorAnswer]

/-- Fields of the unit that follow its credit. -/
def creditFields : List Fld := [GOR_CREDIT_LO.low, GOR_CREDIT_LO.high, GOR_STATUS_CREDIT_STALL, GOR_EVENT_CREDIT_STALL]

/-- What bringing the credit up to date can do: nothing, or a new limit and stall flag, with the event where the stall begins (R68). -/
theorem creditRefresh_cases (h i : Nat) (s : State) : creditRefresh h i s = s ∨ ∃ (lim : Nat) (stall begins : Bool),
    creditRefresh h i s = onlyIf begins (State.raise · h i GOR_EVENT_CREDIT_STALL)
      ((s.put64 h i GOR_CREDIT_LO lim).fputB h i GOR_STATUS_CREDIT_STALL stall) := by
  unfold creditRefresh
  split
  · exact .inl rfl
  · exact .inr ⟨_, _, _, rfl⟩

theorem creditRefresh_fget (c : ∀ f ∈ creditFields, g.clears f) (off : g.offLoss = true) :
    (creditRefresh h i s).fget h i g = s.fget h i g := by
  obtain ⟨low, high, stalls, event⟩ : g.clears GOR_CREDIT_LO.low ∧ g.clears GOR_CREDIT_LO.high ∧
      g.clears GOR_STATUS_CREDIT_STALL ∧ g.clears GOR_EVENT_CREDIT_STALL := by simpa [creditFields] using c
  have set (lim : Nat) (stall : Bool) :
      ((s.put64 h i GOR_CREDIT_LO lim).fputB h i GOR_STATUS_CREDIT_STALL stall).fget h i g = s.fget h i g := by
    rw [State.fget_fputB_clears _ stalls, State.put64_eq, State.fget_fput_clears _ high, State.fget_fput_clears _ low]
  rcases creditRefresh_cases h i s with e | ⟨lim, stall, begins, e⟩ <;> rw [e]
  cases begins
  · exact set lim stall
  · exact (raise_fget_clears event off).trans (set lim stall)

end

end Sys2Proof.Machine
end

section
/-! PROOFS. A HELLO by receiver state, and the session that an accepted one begins (R55, R56, R58). -/

namespace Sys2Proof.Machine

section
variable {s : State} {h i : Nat} {g : Fld}

/-! ### A session that begins (R55, R56, R58) -/

/-- The session's registers as the HELLO sets them, before its credit is computed. -/
def sessionNamed (h i : Nat) (f : List Byte) (bonded : Bool) (s : State) : State :=
  let s := s.setGor h i { (gorClear (s.gor h i)) with advertised := 0 }
  let s := ((s.fput h i GOR_STATUS_SESS 3).fput h i GOR_STATUS_EPOCH (frEpoch f)).fputB h i GOR_STATUS_BONDED bonded
  let s := s.fput h i GOR_STATUS_LANES (sessionLanes s h i)
  let s := s.setGor h i { (s.gor h i) with hadLane := sessionLanes s h i != 0, heardAt := some s.now }
  let s := (s.fput h i GOR_PEER_LO (frW f 1)).fput h i GOR_PEER_HI (frW f 2)
  ((s.fput h i GOR_RCV_NXT (frW f 0)).put64 h i GOR_BYTE_LO 0).put64 h i GOR_CREDIT_LO 0

/-- The session's first credit, its HELLO_ACK and its event. -/
def sessionAnswered (h i : Nat) (f : List Byte) (bonded : Bool) (s : State) : State :=
  let s := creditRefresh h i (openShow h i (s.setGor h i { (s.gor h i) with highest := frW f 0 }))
  let a := helloAckFrame s h i f 0 bonded (creditLim s h i)
  let s := gorAnswer h i a (s.setGor h i { (s.gor h i) with helloAck := a, advertised := creditLim s h i })
  s.raise h i GOR_EVENT_SESSION_UP

theorem sessionStart_eq (h i : Nat) (f : List Byte) (s : State) : sessionStart h i f s =
    let bonded := i == 0 && bondOn s h && bit (frW f 3) 0
    let t := sessionAnswered h i f bonded (sessionNamed h i f bonded s)
    if i = 0 then mirrorForward h f t else t := rfl

theorem sessionNamed_eq (h i : Nat) (f : List Byte) (bonded : Bool) (s : State) : ∃ (x y : GorX) (lanes : Nat),
    sessionNamed h i f bonded s = ((((((((((s.setGor h i x).fput h i GOR_STATUS_SESS 3).fput h i GOR_STATUS_EPOCH (frEpoch f)).fputB h i
      GOR_STATUS_BONDED bonded).fput h i GOR_STATUS_LANES lanes).setGor h i y).fput h i GOR_PEER_LO (frW f 1)).fput h i GOR_PEER_HI
      (frW f 2)).fput h i GOR_RCV_NXT (frW f 0)).put64 h i GOR_BYTE_LO 0).put64 h i GOR_CREDIT_LO 0 :=
  ⟨_, _, _, rfl⟩

theorem sessionAnswered_eq (h i : Nat) (f : List Byte) (bonded : Bool) (s : State) : ∃ (x y : GorX) (a : List Byte),
    sessionAnswered h i f bonded s = (gorAnswer h i a ((creditRefresh h i (openShow h i (s.setGor h i x))).setGor h i y)).raise h i
      GOR_EVENT_SESSION_UP :=
  ⟨_, _, _, rfl⟩

/-- Fields that the answer to the HELLO may write. -/
def answeredFields : List Fld := GOR_STATUS_OPEN_PAGES :: GOR_EVENT_SESSION_UP :: creditFields

theorem sessionAnswered_fget {x : List Byte} {bonded : Bool} (c : ∀ f ∈ answeredFields, g.clears f) (off : g.offLoss = true) :
    (sessionAnswered h i x bonded s).fget h i g = s.fget h i g := by
  obtain ⟨pages, event, credit⟩ : g.clears GOR_STATUS_OPEN_PAGES ∧ g.clears GOR_EVENT_SESSION_UP ∧
      ∀ f ∈ creditFields, g.clears f :=
    ⟨c _ (.head _), c _ (.tail _ (.head _)), fun f m => c f (.tail _ (.tail _ m))⟩
  obtain ⟨y, z, a, e⟩ := sessionAnswered_eq h i x bonded s
  rw [e, raise_fget_clears event off, gorAnswer_fget, State.setGor_acc_fget, creditRefresh_fget credit off, openShow_fget pages,
    State.setGor_acc_fget]

/-- Each register the HELLO sets reads back: every later write is of a field apart from it. The lemmas are applied as equations
(`-implicitDefEqProofs`), so that no two states are compared by unfolding. -/
theorem sessionNamed_shows (h i : Nat) (x : List Byte) (bonded : Bool) (s : State) :
    let t := sessionNamed h i x bonded s
    t.fget h i GOR_STATUS_SESS = 3 ∧ t.fget h i GOR_STATUS_EPOCH = frEpoch x % 2 ^ 16 ∧ t.fget h i GOR_RCV_NXT = frW x 0 % 2 ^ 32 ∧
    t.fget h i GOR_BYTE_LO.low = 0 ∧ t.fget h i GOR_BYTE_LO.high = 0 ∧ t.fget h i GOR_PEER_LO = frW x 1 % 2 ^ 32 ∧
    t.fget h i GOR_PEER_HI = frW x 2 % 2 ^ 32 := by
  obtain ⟨y, z, lanes, e⟩ := sessionNamed_eq h i x bonded s
  dsimp only
  rw [e]
  refine ⟨?_, ?_, ?_, ?_, ?_, ?_, ?_⟩ <;>
    simp -implicitDefEqProofs (disch := decide) only [State.setGor_acc_fget, State.put64_eq, State.fget_fput_clears,
      State.fget_fputB_clears, State.fget_fput_same] <;> rfl

/-- What a session of a mirror receiver shows when it begins. -/
theorem sessionStart_shows (h : Nat) (x : List Byte) (s : State) :
    let t := sessionStart h 1 x s
    gorSess t h 1 = 3 ∧ t.fget h 1 GOR_STATUS_EPOCH = frEpoch x % 65536 ∧ rcvNxt t h 1 = frW x 0 % 2 ^ 32 ∧ byteNxt t h 1 = 0 ∧
    t.fget h 1 GOR_PEER_LO = frW x 1 % 2 ^ 32 ∧ t.fget h 1 GOR_PEER_HI = frW x 2 % 2 ^ 32 ∧
    t.fon h 1 GOR_EVENT_SESSION_UP = true := by
  obtain ⟨bonded, start⟩ : ∃ bonded, sessionStart h 1 x s = sessionAnswered h 1 x bonded (sessionNamed h 1 x bonded s) :=
    ⟨_, (sessionStart_eq h 1 x s).trans (if_neg Nat.one_ne_zero)⟩
  obtain ⟨sess, epoch, nxt, low, high, peerLo, peerHi⟩ := sessionNamed_shows h 1 x bonded s
  dsimp only
  rw [start]
  generalize sessionNamed h 1 x bonded s = t at *
  have keeps {g : Fld} (c : ∀ f ∈ answeredFields, g.clears f) (off : g.offLoss = true) :
      (sessionAnswered h 1 x bonded t).fget h 1 g = t.fget h 1 g := sessionAnswered_fget c off
  refine ⟨?_, ?_, ?_, ?_, ?_, ?_, ?_⟩
  · exact (keeps (by decide) (by decide)).trans sess
  · exact (keeps (by decide) (by decide)).trans epoch
  · exact (keeps (by decide) (by decide)).trans nxt
  · rw [byteNxt, State.get64_eq, keeps (by decide) (by decide), keeps (by decide) (by decide), low, high]
    rfl
  · exact (keeps (by decide) (by decide)).trans peerLo
  · exact (keeps (by decide) (by decide)).trans peerHi
  · obtain ⟨y, z, a, e⟩ := sessionAnswered_eq h 1 x bonded t
    rw [e]
    exact raise_sets _ _ _ _ (by decide) (by decide) (Fld.offLoss_no _ (by decide))

/-! ### A HELLO by receiver state (R56) -/

section
variable {x : List Byte}

theorem lockRefuses_iff : lockRefuses s h i x = true ↔
    s.fon h i GOR_CTRL_SENDER_LOCK = true ∧ (frW x 1 ≠ s.fget h i GOR_LOCK_LO ∨ frW x 2 ≠ s.fget h i GOR_LOCK_HI) := by
  simp [lockRefuses]

theorem takeHello_listen (sess : gorSess s h i = 1) : takeHello h i x s =
    if frVer x ≠ 1 then gorAnswer h i (helloAckFrame s h i x 3 false 0) s
    else if lockRefuses s h i x then gorAnswer h i (helloAckFrame s h i x 1 false 0) s
    else sessionStart h i x s := by
  simp only [takeHello, sess]

theorem takeHello_active_other (sess : gorSess s h i = 3)
    (other : frW x 1 ≠ s.fget h i GOR_PEER_LO ∨ frW x 2 ≠ s.fget h i GOR_PEER_HI) :
    takeHello h i x s = gorAnswer h i (helloAckFrame s h i x 1 false 0) s := by
  simp only [takeHello, sess]
  exact if_pos (by rcases other with n | n <;> simp [n])

theorem takeHello_active_same (sess : gorSess s h i = 3) (lo : frW x 1 = s.fget h i GOR_PEER_LO)
    (hi : frW x 2 = s.fget h i GOR_PEER_HI) : takeHello h i x s =
      if sdiff16 (frEpoch x) (s.fget h i GOR_STATUS_EPOCH) = 0 then gorAnswer h i (s.gor h i).helloAck s
      else if 0 < sdiff16 (frEpoch x) (s.fget h i GOR_STATUS_EPOCH) then
        sessionStart h i x ((sessionEnd h i 0x11 s).raise h i GOR_EVENT_EPOCH_CHANGE)
      else sendError h i 0x01 0 0xFFFFFFFF 0 (s.count h i GOR_STALE) := by
  simp only [takeHello, sess]
  exact if_neg (by simp [lo, hi])

theorem takeHello_draining (sess : gorSess s h i = 4) :
    takeHello h i x s = gorAnswer h i (helloAckFrame s h i x 2 false 0) s := by
  simp only [takeHello, sess]

end

end

/-- Settles O24: the receiver's state leads to its branch of `takeHello`; what a session shows is written when it is named, and its first
credit, HELLO_ACK and event write other fields. -/
theorem helloAnsweredAndSessionStarted : Obligations.HelloAnsweredAndSessionStarted := by
  refine ⟨fun s h i f => ⟨?version, ?locked, ?accepted, takeHello_active_other, ?same, takeHello_draining⟩, ?session⟩
  case version => exact fun sess ver => (takeHello_listen sess).trans (if_pos ver)
  case locked =>
    intro sess ver lock other
    rw [takeHello_listen sess, if_neg (not_not.mpr ver), if_pos (lockRefuses_iff.mpr ⟨lock, other⟩)]
  case accepted =>
    intro sess ver unlocked
    rw [takeHello_listen sess, if_neg (not_not.mpr ver), if_neg (by simp [lockRefuses_iff, unlocked])]
  case same =>
    intro sess lo hi
    rw [takeHello_active_same sess lo hi]
    exact ⟨fun same => if_pos same, fun newer => (if_neg (by omega)).trans (if_pos newer),
      fun older => (if_neg (by omega)).trans (if_neg (by omega))⟩
  case session =>
    rintro s h i f rfl
    exact sessionStart_shows h f s

end Sys2Proof.Machine
end

section
/-! PROOFS. Timers and control of a Gorge unit (R55, R57, R59, R62, R65, R69, R76, R81, R96). -/

namespace Sys2Proof.Machine

/-! ### What the Basin's pointers leave of other blocks -/

theorem basRefresh_eq (h : Nat) (s : State) : ∃ (rp mark page free dec pages bufs ahead : Nat) (hold active : Bool),
    basRefresh h s = (((((((((s.put64 h 0 BAS_RP_LO rp).put64 h 0 BAS_MARK_LO mark).fput h 0 BAS_MARK_PAGE page).put64 h 0 BAS_FREE_LO
      free).put64 h 0 BAS_DEC_FREE_LO dec).fput h 0 BAS_STATUS_PAGES pages).fput h 0 BAS_STATUS_LBS bufs).fput h 0 BAS_STATUS_AHEAD
      ahead).fputB h 0 BAS_STATUS_MARK_HOLD hold).fputB h 0 BAS_STATUS_ACTIVE active :=
  ⟨_, _, _, _, _, _, _, _, _, _, rfl⟩

section
variable {s : State} {h i : Nat} {g : Fld}

/-- A write of the Basin's registers leaves the fields of other blocks. -/
theorem State.fget_fput_bas {f : Fld} (v : Nat) (hi : i < 16) (c : g.blk < 256 ∧ g.word < 2048 ∧ g.blk ≠ BLK_BAS)
    (bas : f.blk = BLK_BAS ∧ f.word < 2048) : (s.fput h 0 f v).fget h i g = s.fget h i g := by
  obtain ⟨gb, gw, n⟩ := c
  obtain ⟨fb, fw⟩ := bas
  exact State.fget_fput_ne _ _ (rkey_ne hi gw gb (by decide) fw (by rw [fb]; decide)
    fun ⟨_, _, eb, _⟩ => n (eb.trans fb))

theorem basRefresh_fget (hi : i < 16) (c : g.blk < 256 ∧ g.word < 2048 ∧ g.blk ≠ BLK_BAS) :
    (basRefresh h s).fget h i g = s.fget h i g := by
  have put (t : State) (f : Fld) (v : Nat) (bas : f.blk = BLK_BAS ∧ f.word < 2048) : (t.fput h 0 f v).fget h i g = t.fget h i g :=
    State.fget_fput_bas v hi c bas
  obtain ⟨rp, mark, page, free, dec, pages, bufs, ahead, hold, active, e⟩ := basRefresh_eq h s
  rw [e]
  simp (disch := decide) only [State.put64_eq, State.fputB_eq, put]

theorem openWaitShow_fget (hi : i < 16) (c : g.blk < 256 ∧ g.word < 2048 ∧ g.blk ≠ BLK_BAS) :
    (openWaitShow h s).fget h i g = s.fget h i g :=
  (basRefresh_fget hi c).trans (State.fget_fput_bas _ hi c (by decide))

/-! ### FORCE_OFF (R81) -/

theorem gorForceOff_eq (h i : Nat) (s : State) : ∃ (t : State) (x : GorX),
    gorForceOff h i s = openWaitShow h (openShow h i ((((((((t.fput h i GOR_STATUS_SESS 0).fput h i GOR_CTRL_EN 0).setGor h i x).fput h i
      GOR_STATUS_BONDED 0).fput h i GOR_STATUS_LANES 0).fput h i GOR_STATUS_CREDIT_STALL 0).fput h i GOR_DRAIN_RESULT 4).raise h i
      GOR_EVENT_DRAIN_DONE)) :=
  ⟨_, _, rfl⟩

/-- The unit is OFF and disabled at once, with the drain's result ABORTED. -/
theorem gorForceOff_shows (hi : i < 16) :
    gorSess (gorForceOff h i s) h i = 0 ∧ (gorForceOff h i s).fget h i GOR_DRAIN_RESULT = 4 ∧
    (gorForceOff h i s).fon h i GOR_EVENT_DRAIN_DONE = true ∧ (gorForceOff h i s).fget h i GOR_CTRL_EN = 0 := by
  obtain ⟨t, x, e⟩ := gorForceOff_eq h i s
  rw [e]
  refine ⟨?_, ?_, ?_, ?_⟩
  case refine_3 =>
    rw [State.fon_eq, openWaitShow_fget hi (by decide), openShow_fget (by decide), ← State.fon_eq]
    exact raise_sets _ _ _ _ (by decide) (by decide) (Fld.offLoss_no _ (by decide))
  all_goals
    simp -implicitDefEqProofs (disch := decide) only [gorSess, openWaitShow_fget hi, openShow_fget, raise_fget_clears,
      State.setGor_acc_fget, State.fget_fput_clears, State.fget_fput_same]
    rfl

/-! ### EN written 1 in OFF (R55) -/

theorem bits_one (w : Word) (lo : Nat) : bits w.toNat lo 1 = (w.getLsbD lo).toNat := by
  rw [BitVec.getLsbD, Nat.toNat_testBit, bits, Nat.shiftRight_eq_div_pow, pow_one]

theorem State.fon_bit {f : Fld} (one : f.len = 1) : s.fon h i f = (s.rd h i f.blk f.word).getLsbD f.lo := by
  rw [State.fon, State.fget, one, bits_one]
  cases (s.rd h i f.blk f.word).getLsbD f.lo <;> rfl

theorem WriteCtx.wrote_bit {c : WriteCtx} {f : Fld} (one : f.len = 1) : c.wrote f = (c.v.getLsbD f.lo).toNat := by
  rw [WriteCtx.wrote, one, bits_one]

/-- The write that EN 1 stores: EN is on, the session's state stands. -/
theorem stored_gorCtrl (opn : Bool) {v : Word} (en : v.getLsbD 0 = true) :
    (stored BLK_GOR opn h 0 0 v s).fon h 0 GOR_CTRL_EN = true ∧
    (stored BLK_GOR opn h 0 0 v s).fget h 0 GOR_STATUS_SESS = s.fget h 0 GOR_STATUS_SESS := by
  constructor
  · rw [State.fon_bit rfl]
    exact (stored_bit_of_live (f := ⟨0, 1, .rw, 0, true, false⟩) (by decide) rfl ⟨by decide, by decide⟩).trans en
  · unfold State.fget
    rw [stored_rd_ne (rkey_word_ne (by decide) (by decide) (by decide))]

/-- EN going from 0 to 1 in OFF makes the page unit listen (R55). -/
theorem gorAct_listens {c : WriteCtx} (w : c.w = 0) (page : c.i = 0) (calm : c.wrote GOR_CTRL_FORCE_OFF ≠ 1)
    (rose : c.rose (s.fput c.h 0 GOR_CTRL_ROLE 0) GOR_CTRL_EN = true) (off : gorSess (s.fput c.h 0 GOR_CTRL_ROLE 0) c.h 0 = 0) :
    gorAct c s = (s.fput c.h 0 GOR_CTRL_ROLE 0).fput c.h 0 GOR_STATUS_SESS 1 := by
  simp [gorAct, w, page, calm, rose, off, gorRole, gorAwait, isSender]

/-- EN written 1 in OFF without FORCE_OFF takes the page unit into LISTEN. -/
theorem gorgeEnWrite_listens {v : Word} (has : gorOk s h 0 = true) (off : gorSess s h 0 = 0) (was : s.fget h 0 GOR_CTRL_EN = 0)
    (en : v.getLsbD 0 = true) (force : v.getLsbD 1 = false) : gorSess (gorgeEnWrite h 0 v s) h 0 = 1 := by
  obtain ⟨on, sess⟩ := stored_gorCtrl (s := s) (h := h) (gorOpen s h 0 0) en
  unfold gorgeEnWrite
  rw [if_pos has, hostWrite_eq]
  generalize stored BLK_GOR (gorOpen s h 0 0) h 0 0 v s = t at *
  have calm : (hostCtx s BLK_GOR h 0 0 v).wrote GOR_CTRL_FORCE_OFF ≠ 1 := by
    rw [WriteCtx.wrote_bit rfl, hostCtx, BitVec.getLsbD_and, force]
    decide
  have rose : (hostCtx s BLK_GOR h 0 0 v).rose (t.fput h 0 GOR_CTRL_ROLE 0) GOR_CTRL_EN = true := by
    rw [hostCtx_rose s _ h 0 GOR_CTRL_EN v, State.fon_eq, State.fget_fput_clears _ (by decide), ← State.fon_eq, on, State.fon_eq, was]
    rfl
  have still : gorSess (t.fput h 0 GOR_CTRL_ROLE 0) h 0 = 0 := (State.fget_fput_clears _ (by decide)).trans (sess.trans off)
  rw [gorAct_listens rfl rfl calm rose still]
  exact State.fget_fput_same _ _ _ _ _ (by decide)

/-! ### Timers -/

/-- A PAGE_OPEN that waits at a unit is taken up where a reservation is possible (R96). -/
def openResumed (h i : Nat) (s : State) : State :=
  if (s.gor h i).openWait && gorLive s h i then
    match (s.gor h i).staged.find? fun e => e.1 == rcvNxt s h i with
    | none => s
    | some (_, f) =>
      if reservable s h (reservation (layerEntries f)) || (s.fon h 0 BAS_CTRL_POLICY && basEn s h) then
        processStaged h i ((s.gor h i).staged.length + 1) s
      else s
  else s

theorem pageOpenResumed_eq (has : s.hasH h = true) : pageOpenResumed h s = openResumed h 1 (openResumed h 0 s) :=
  have fold : pageOpenResumed h s = forEach [0, 1] (openResumed h) s := if_neg (by simp [has])
  fold.trans rfl

theorem openResumed_of_none_waiting (no : (s.gor h i).openWait = false) : openResumed h i s = s := if_neg (by simp [no])

theorem openResumed_of_room {q : Nat} {f : List Byte} (live : gorLive s h i = true) (wait : (s.gor h i).openWait = true)
    (found : ((s.gor h i).staged.find? fun e => e.1 == rcvNxt s h i) = some (q, f))
    (room : (reservable s h (reservation (layerEntries f)) || (s.fon h 0 BAS_CTRL_POLICY && basEn s h)) = true) :
    openResumed h i s = processStaged h i ((s.gor h i).staged.length + 1) s := by
  unfold openResumed
  rw [if_pos (by rw [wait, live]; rfl), found]
  exact if_pos room

end

/-- Settles O26: each timer's row is what its rule says where its condition holds; FORCE_OFF and EN written 1 are read off the fields
they write last. -/
theorem gorgeTimerAndControlRows : Obligations.GorgeTimerAndControlRows := by
  intro s h i ok
  have bounds : s.hasH h = true ∧ i < 2 := by simpa [gorOk] using ok
  obtain ⟨has, hi⟩ := bounds
  refine ⟨fun live rcv => ⟨fun owed => ?ack, fun due far => ?credit⟩, fun live rcv => ?keepaliveReceiver,
    fun live snd => ?keepaliveSender, fun live => ⟨fun heard => ?heard, fun silent page => ?dead⟩,
    fun snd sess => ?hello, fun snd sess e es held => ?retx,
    fun sess pages => ?drainPages, fun sess none => ?drainEmpty, ⟨_, congrArg settled (if_pos ok), gorForceOff_shows (by omega)⟩,
    fun no0 no1 => ?noneWaits, fun live wait q f found room other => ?resumed, fun v page off was w => ?enable⟩
  case ack => exact congrArg settled (if_pos (by simp [ok, live, rcv, owed]))
  case credit => exact congrArg settled ((if_pos (by simp [ok, live, rcv])).trans (if_pos ⟨far, due⟩))
  case keepaliveReceiver => exact congrArg settled ((if_pos (by simp [ok, live])).trans (if_neg (by simp [rcv])))
  case keepaliveSender => exact congrArg settled ((if_pos (by simp [ok, live])).trans (if_pos snd))
  case heard => exact congrArg settled (if_neg (by simp [heard]))
  case dead =>
    subst page
    exact congrArg settled (if_pos (by simp [ok, live, silent]))
  case hello => exact congrArg settled (if_pos (by simp [has, snd, sess]))
  case retx =>
    refine congrArg settled ((if_pos (by simp [has, snd, sess])).trans ?_)
    rw [held]
  case drainPages => exact congrArg settled ((if_pos (by simp [ok, sess])).trans (if_neg (by simp [pages])))
  case drainEmpty =>
    exact congrArg settled ((if_pos (by simp [ok, sess])).trans ((if_pos (by simp [none])).trans (if_pos (by simp [sess, none]))))
  case noneWaits =>
    refine congrArg settled ?_
    rw [pageOpenResumed_eq has, openResumed_of_none_waiting no0, openResumed_of_none_waiting no1]
  case resumed =>
    refine congrArg settled ?_
    rw [pageOpenResumed_eq has, openResumed_of_room live wait found room, openResumed_of_none_waiting other]
  case enable =>
    subst page
    have en : v.getLsbD 0 = true := by simpa using congrArg (BitVec.getLsbD · 0) w
    have force : v.getLsbD 1 = false := by simpa using congrArg (BitVec.getLsbD · 1) w
    exact ⟨_, rfl, gorgeEnWrite_listens ok off was en force⟩

end Sys2Proof.Machine
end

section
/-! PROOFS. Completion: every command answers what its effect leads to, but an encoder request above the fitted memory (R115); an
idle step lets time pass (log 2). -/

namespace Sys2Proof.Machine

/-! ### Commands complete -/

/-- An encoder request is carried out, or stops where its regions lie above the fitted memory (R115). -/
theorem execEncodeRequest_settled (h src len row dst size : Nat) (s : State) :
    (∃ t, execEncodeRequest h src len row dst size s = .next (settle t)) ∨
    s.hasH h = true ∧ (s.fitted h < src + len ∨ s.fitted h < dst + size) ∧
      ∃ f, execEncodeRequest h src len row dst size s = .fault f := by
  unfold execEncodeRequest
  split_ifs with bad source dest
  · exact .inl ⟨_, rfl⟩
  · obtain ⟨has, above⟩ : s.hasH h = true ∧ s.fitted h < src + len := by simpa using source
    exact .inr ⟨has, .inl above, _, rfl⟩
  · obtain ⟨has, above⟩ : s.hasH h = true ∧ s.fitted h < dst + size := by simpa using dest
    exact .inr ⟨has, .inr above, _, rfl⟩
  · exact .inl ⟨_, rfl⟩

/-- Every command but an encoder request answers its settled effect. -/
theorem exec_settled_or_encodes (c : Instr) (s : State) :
    (∃ t, exec c s = .next (settle t)) ∨ ∃ h src len row dst size, c = .encodeRequest h src len row dst size := by
  cases c
  case encodeRequest h src len row dst size => exact .inr ⟨h, src, len, row, dst, size, rfl⟩
  all_goals exact .inl ⟨_, rfl⟩

theorem exec_ne_refused (c : Instr) (s : State) (r : Refusal) : exec c s ≠ .refused r := by
  intro refused
  rcases exec_settled c s with ⟨t, e⟩ | ⟨f, e⟩ <;> cases refused.symm.trans e

/-! ### An idle step -/

/-- Ticks of the counter change the time block and registers alone. -/
theorem ticks_shape {α : Type} (xs : List α) (s : State) :
    ∃ r x, forEach xs (fun _ s => tick s) s = { s with regs := r, tim := x } := by
  induction xs generalizing s with
  | nil => exact ⟨_, _, rfl⟩
  | cons a xs ih =>
    obtain ⟨r, x, e⟩ : ∃ r x, tick s = { s with regs := r, tim := x } := by
      unfold tick
      dsimp only
      split <;> exact ⟨_, _, rfl⟩
    obtain ⟨r', x', e'⟩ := ih (tick s)
    exact ⟨r', x', e'.trans (by rw [e])⟩

theorem step_of_empty {s : State} (empty : s.pending = []) : step s = .next (idle s) := by
  unfold step
  rw [empty]

/-- Settles O2: only an encoder request can stop, by its own test; the ticks of an idle step reach the time block and registers. -/
theorem everyCommandCompletesAndAnEmptyQueueIdles : Obligations.EveryCommandCompletesAndAnEmptyQueueIdles := by
  refine ⟨⟨fun s c => ?_, fun s c r => exec_ne_refused c s r⟩, fun s empty => ?_⟩
  · rcases exec_settled_or_encodes c s with settles | ⟨h, src, len, row, dst, size, rfl⟩
    · exact .inl settles
    · refine (execEncodeRequest_settled h src len row dst size s).imp id fun ⟨has, above, f, e⟩ => ?_
      exact ⟨h, src, len, row, dst, size, rfl, has, above, f, e⟩
  · obtain ⟨r, x, e⟩ := ticks_shape (List.range 5) { s with now := s.now + 8 }
    exact ⟨_, (step_of_empty empty).trans (congrArg _ e), rfl, empty, rfl, rfl, rfl, rfl, rfl⟩

end Sys2Proof.Machine
end

section
/-! PROOFS. The Basin's enable and drain, and what the checks of R89 say of its regions (R89, R118, R255, R295). -/

namespace Sys2Proof.Machine

/-! ### The checks of R89 -/

theorem regionsMeet_false (a b : Nat × Nat) : regionsMeet a b = false ↔ a.1 + a.2 ≤ b.1 ∨ b.1 + b.2 ≤ a.1 := by
  simp only [regionsMeet, Bool.and_eq_false_iff, decide_eq_false_iff_not]
  omega

theorem regionsApart_iff (rs : List (Nat × Nat)) :
    regionsApart rs = true ↔ rs.Pairwise fun a b => a.1 + a.2 ≤ b.1 ∨ b.1 + b.2 ≤ a.1 := by
  induction rs with
  | nil => simp [regionsApart]
  | cons r rs ih => simp [regionsApart, ih, regionsMeet_false]

theorem basCfgOk_iff (s : State) (h : Nat) : basCfgOk s h = true ↔
    (regionsOf s h).Pairwise (fun a b => a.1 + a.2 ≤ b.1 ∨ b.1 + b.2 ≤ a.1) ∧
    (∀ r ∈ regionsOf s h, r.1 + r.2 ≤ s.fitted h) ∧ (∀ r ∈ mainRegions s h, r.1 % 65536 = 0 ∧ r.2 % 65536 = 0) ∧
    64 * 2 ^ 20 ≤ s.get64 h 0 BAS_RING_SIZE_LO ∧ 16 * 2 ^ 20 ≤ decSize s h := by
  rw [← regionsApart_iff]
  simp only [basCfgOk, unit64K, Bool.and_eq_true, List.all_eq_true, decide_eq_true_eq, beq_iff_eq]
  tauto

/-! ### A write of BAS_CTRL -/

section
variable {s t : State} {h : Nat} {v : Word}

theorem stored_bas (blk : Nat) (opn : Bool) (h i w : Nat) (v : Word) (s : State) (g : Nat) :
    (stored blk opn h i w v s).bas g = s.bas g := by
  simp only [stored, hostWrite]
  split <;> simp

theorem basinEnWrite_eq (has : s.hasH h = true) :
    basinEnWrite h v s = basAct (hostCtx s BLK_BAS h 0 0 v) (stored BLK_BAS (basOpen s h 0 0) h 0 0 v s) := by
  rw [basinEnWrite, if_pos has, hostWrite_eq]

/-- EN has gone from 0 to 1 while no drain runs: the Basin is enabled where it may be. -/
theorem basAct_of_rise (off : s.fon h 0 BAS_CTRL_EN = false) (on : t.fon h 0 BAS_CTRL_EN = true)
    (idle : (t.bas h).draining = false) : basAct (hostCtx s BLK_BAS h 0 0 v) t = basRefresh h (basEnable h t) := by
  have rose : (hostCtx s BLK_BAS h 0 0 v).rose t BAS_CTRL_EN = true := by
    rw [hostCtx_rose s t h 0 BAS_CTRL_EN v, on, off]
    rfl
  unfold basAct
  simp only [hostCtx] at rose ⊢
  simp [rose, idle]

/-- EN has gone from 1 to 0: a drain begins, and ends at once where no page is held. -/
theorem basAct_of_fall (on : s.fon h 0 BAS_CTRL_EN = true) (off : t.fon h 0 BAS_CTRL_EN = false) :
    basAct (hostCtx s BLK_BAS h 0 0 v) t =
      basRefresh h (basDrainCheck h (t.setBas h { t.bas h with draining := true, drainLost := false })) := by
  have rose : (hostCtx s BLK_BAS h 0 0 v).rose t BAS_CTRL_EN = false := by
    rw [hostCtx_rose s t h 0 BAS_CTRL_EN v, off]
    rfl
  have fell : (hostCtx s BLK_BAS h 0 0 v).fell t BAS_CTRL_EN = true := by
    rw [hostCtx_fell s t h 0 BAS_CTRL_EN v, on, off]
    rfl
  unfold basAct
  simp only [hostCtx] at rose fell ⊢
  simp [rose, fell]

theorem basEnable_of_fit (ready : dramFailed s h = false) (fits : basCfgOk s h = true) : basEnable h s = s := by
  simp [basEnable, ready, fits]

theorem basEnable_of_misfit (ready : dramFailed s h = false) (misfit : basCfgOk s h = false) :
    basEnable h s = (s.fput h 0 BAS_CTRL_EN 0).raise h 0 BAS_EVENT_CFG_BAD := by
  simp [basEnable, ready, misfit]

end

/-- Settles O27: a rise of EN enables by the checks, a fall starts the drain; each conjunct of the checks is read off its test. -/
theorem basinEnabledOnlyWhereRegionsFit : Obligations.BasinEnabledOnlyWhereRegionsFit := by
  refine ⟨fun s h v has => ⟨fun off on idle ready => ?_, fun on off => ?_⟩, basCfgOk_iff⟩
  · have still : ((stored BLK_BAS (basOpen s h 0 0) h 0 0 v s).bas h).draining = false := by rw [stored_bas, idle]
    have rise := (basinEnWrite_eq has).trans (basAct_of_rise (v := v) off on still)
    exact ⟨fun fits => congrArg settled (rise.trans (congrArg _ (basEnable_of_fit ready fits))),
      fun misfit => congrArg settled (rise.trans (congrArg _ (basEnable_of_misfit ready misfit)))⟩
  · exact congrArg settled ((basinEnWrite_eq has).trans (basAct_of_fall on off))

end Sys2Proof.Machine
end

section
/-! PROOFS. Decode jobs: which decoder takes one, how it ends (R101, R102, R105, R108); encoder requests and their ends (R115). -/

namespace Sys2Proof.Machine

section
variable {s : State} {h d k : Nat} {p : Page}

/-! ### Starting a job (R101, R102) -/

/-- BAS_STATUS.DEC_WAIT as it is read shows whether the next job waits. -/
theorem regPeek_decWait (s : State) (h : Nat) :
    bits (regPeek s BLK_BAS h 0 BAS_STATUS_DEC_WAIT.word).toNat BAS_STATUS_DEC_WAIT.lo 1 = b2n (decWaits s h) := by
  have shown : regPeek s BLK_BAS h 0 BAS_STATUS_DEC_WAIT.word =
    insertBits (s.rd h 0 BLK_BAS BAS_STATUS_DEC_WAIT.word) BAS_STATUS_DEC_WAIT.lo 1 (b2n (decWaits s h)) := rfl
  rw [shown, bits_insertBits_same _ _ _ _ (by decide)]
  cases decWaits s h <;> rfl

theorem decWaits_of_disabled (active : basActive s h = true) (next : nextJob s h = some (p, k))
    (off0 : s.fon h 0 CIN_CTRL_EN = false) (off1 : s.fon h 1 CIN_CTRL_EN = false) : decWaits s h = true := by
  simp [decWaits, active, next, off0, off1]

/-- With a job to start, the decoder takes it where it is idle and no lower one is. -/
theorem decodeStart_eq (has : s.hasH h = true) (dec : d < 2) (active : basActive s h = true) (next : nextJob s h = some (p, k)) :
    decodeStart h d s = if decIdle s h d && !(d == 1 && decIdle s h 0) then startOn h d p k s else s := by
  unfold decodeStart
  rw [if_neg (by simp [has, dec, active]), next]

theorem decodeStart_of_disabled (has : s.hasH h = true) (dec : d < 2) (active : basActive s h = true)
    (next : nextJob s h = some (p, k)) (off : s.fon h d CIN_CTRL_EN = false) : decodeStart h d s = s := by
  rw [decodeStart_eq has dec active next, if_neg (by simp [decIdle, off])]

theorem decodeStart_of_idle (has : s.hasH h = true) (dec : d < 2) (active : basActive s h = true) (next : nextJob s h = some (p, k))
    (idle : decIdle s h d = true) (lowest : d = 0 ∨ decIdle s h 0 = false) : decodeStart h d s = startOn h d p k s := by
  rw [decodeStart_eq has dec active next, if_pos]
  rcases lowest with rfl | busy
  · simp [idle]
  · simp [idle, busy]

/-- A job that the decode area cannot hold without its host-owned buffers fails its page at once. -/
theorem startOn_of_large (large : decSizeLessHost s h < (p.slots.getD k {}).ulen) :
    startOn h d p k s = failPage h p.id 0x24 k (cinRecord h d 0x24
      (mapPage h p.id (fun q => { q with slots := q.slots.set k { q.slots.getD k {} with
          job := .waiting, fmt := s.fget h 0 (TER_ROUTE_FMT_V (p.slots.getD k {}).terrace)
          dests := routeDests s h (p.slots.getD k {}).terrace } })
        (jobShow h d p.id (p.slots.getD k {}).terrace k s))) := if_pos large

/-! ### Ending a job (R101, R105, R108) -/

variable {x : Slot}

theorem decodeDone_eq (has : s.hasH h = true) (dec : d < 2) (runs : runningJob s h d = some (p, k, x))
    (ok : (jobResult s h d x).status = stOK) :
    ∃ u, u = cinRecord h d 0 ((rawCount h d (jobResult s h d x).raws (adoptSlot h p.id k (mapPage h p.id
          (fun q => { q with slots := q.slots.set k { x with job := .ok } })
          (writeLayer h p x (jobResult s h d x).out.reverse s)))).put64 h d CIN_OUT_LO (jobResult s h d x).out.length) ∧
      decodeDone h d s = basRefresh h (forEach (List.range u.nH) (fun g w =>
        if g = h ∨ x.dests.any (fun e => e.2 == g) then readyEvent g p.id w else w) u) := by
  refine ⟨_, rfl, ?_⟩
  unfold decodeDone
  rw [if_neg (by simp [has, dec]), runs]
  exact if_neg (not_not.mpr ok)

theorem decodeFail_eq (has : s.hasH h = true) (dec : d < 2) (runs : runningJob s h d = some (p, k, x))
    (fault : (jobResult s h d x).status ≠ stOK) :
    decodeFail h d s = failPage h p.id (jobResult s h d x).status k
      (cinRecord h d (jobResult s h d x).status (((rawCount h d (jobResult s h d x).raws s).put64 h d CIN_OUT_LO
        (jobResult s h d x).out.length).put64 h d CIN_ERR_POS_LO (jobResult s h d x).errPos)) := by
  unfold decodeFail
  rw [if_neg (by simp [has, dec]), runs]
  exact if_neg fault

end

/-- Settles O28: the state of the decoders decides who takes the first job; what the stream decodes to decides how a job ends. -/
theorem decodeJobsStartAndEnd : Obligations.DecodeJobsStartAndEnd := by
  refine ⟨fun s h d k p has dec active next => ⟨fun off0 off1 => ⟨?waits, ?shown⟩, fun idle lowest => ?starts⟩,
    fun s h d k p x has dec runs => ⟨fun ok => ?done, fun fault => congrArg settled (decodeFail_eq has dec runs fault)⟩⟩
  case waits =>
    have off : s.fon h d CIN_CTRL_EN = false := by
      obtain rfl | rfl : d = 0 ∨ d = 1 := by omega
      · exact off0
      · exact off1
    exact congrArg settled (decodeStart_of_disabled has dec active next off)
  case shown =>
    rw [regPeek_decWait, decWaits_of_disabled active next off0 off1]
    rfl
  case starts =>
    have start := decodeStart_of_idle has dec active next idle lowest
    exact ⟨congrArg settled start, fun large => congrArg settled (start.trans (startOn_of_large large))⟩
  case done =>
    obtain ⟨u, eu, e⟩ := decodeDone_eq has dec runs ok
    exact ⟨u, eu, congrArg settled e⟩

/-! ### The encoder (R115) -/

section
variable {s : State} {h : Nat} {r : EncReq}

/-- A request of length 0 or of rows too long ends at once. -/
theorem encodeRequest_of_bad (has : s.hasH h = true) (on : s.fon h 2 CIN_CTRL_EN = true) (idle : s.fget h 2 CIN_STATUS_STATE = 1)
    (bad : r.len = 0 ∨ 262144 < r.row) :
    encodeRequest h r s = cinRecord h 2 0x11 (s.setBas h { s.bas h with enc := none }) := by
  unfold encodeRequest
  rw [if_neg (by simp [has, on, idle]), if_pos bad]

/-- The enabled idle encoder takes any other request: it becomes the current one, the encoder is busy, no memory changes. -/
theorem encodeRequest_takes (has : s.hasH h = true) (on : s.fon h 2 CIN_CTRL_EN = true) (idle : s.fget h 2 CIN_STATUS_STATE = 1)
    (good : ¬ (r.len = 0 ∨ 262144 < r.row)) :
    ((encodeRequest h r s).bas h).enc = some r ∧ (encodeRequest h r s).fget h 2 CIN_STATUS_STATE = 2 ∧
    (encodeRequest h r s).dram = s.dram := by
  unfold encodeRequest
  rw [if_neg (by simp [has, on, idle]), if_neg good]
  refine ⟨by simp, ?_, by simp⟩
  rw [State.fget_fput_same _ _ _ _ _ (by decide)]
  rfl

/-- At the end of a request its job is written where it meets both limits. -/
theorem encodeDone_eq (has : s.hasH h = true) (cur : (s.bas h).enc = some r) :
    encodeDone h s =
      if (encoderStream s r.row (s.dreads h r.src r.len)).length < r.len ∧
          (encoderStream s r.row (s.dreads h r.src r.len)).length ≤ r.size then
        encodeEnd h 0 (encoderStream s r.row (s.dreads h r.src r.len)).length
          ({ s with freeCtr := s.freeCtr + 1 }.dwrites h r.dst (encoderStream s r.row (s.dreads h r.src r.len)))
      else encodeEnd h (if r.len ≤ r.size then 0x22 else 0x24) 0
        ({ s with freeCtr := s.freeCtr + 1 }.dwrites h r.dst ((Config.freeBytes (s.freeCtr + 1)).take r.size)) := by
  unfold encodeDone
  rw [if_neg (by simp [has]), cur]
  dsimp only
  split_ifs <;> rfl

variable {src len row dst size : Nat}

/-- A request within the fitted memory reaches the encoder, and so does one that ends at once. -/
theorem execEncodeRequest_eq (ok : (len = 0 ∨ 262144 < row) ∨ src + len ≤ s.fitted h ∧ dst + size ≤ s.fitted h) :
    execEncodeRequest h src len row dst size s = settled (encodeRequest h ⟨src, len, row, dst, size, none⟩ s) := by
  unfold execEncodeRequest
  by_cases bad : len = 0 ∨ 262144 < row
  · rw [if_pos bad]
  · obtain ⟨source, dest⟩ := ok.resolve_left bad
    rw [if_neg bad, if_neg (by simp [source]), if_neg (by simp [dest])]

theorem execEncodeRequest_source_fault (has : s.hasH h = true) (good : ¬ (len = 0 ∨ 262144 < row)) (above : s.fitted h < src + len) :
    execEncodeRequest h src len row dst size s = .fault (.noMemory h (src + len - 1)) := by
  unfold execEncodeRequest
  rw [if_neg good, if_pos (by simp [has, above])]

theorem execEncodeRequest_dest_fault (has : s.hasH h = true) (good : ¬ (len = 0 ∨ 262144 < row)) (within : src + len ≤ s.fitted h)
    (above : s.fitted h < dst + size) : execEncodeRequest h src len row dst size s = .fault (.noMemory h (dst + size - 1)) := by
  unfold execEncodeRequest
  rw [if_neg good, if_neg (by simp [within]), if_pos (by simp [has, above])]

end

/-- Settles O29: the tests of length, row and memory in their order; then what the encoder does with the request, and at its end. -/
theorem encoderRequestsAndEnds : Obligations.EncoderRequestsAndEnds := by
  intro s h src len row dst size has
  have good (nonempty : len ≠ 0) (short : row ≤ 262144) : ¬ (len = 0 ∨ 262144 < row) := by omega
  refine ⟨fun on idle => ⟨fun nonempty short source dest => ?_, fun bad => ?_⟩,
    fun nonempty short above => execEncodeRequest_source_fault has (good nonempty short) above,
    fun nonempty short within above => execEncodeRequest_dest_fault has (good nonempty short) within above,
    fun r cur => congrArg settled (encodeDone_eq has cur)⟩
  · exact ⟨_, execEncodeRequest_eq (.inr ⟨source, dest⟩), encodeRequest_takes has on idle (good nonempty short)⟩
  · exact (execEncodeRequest_eq (.inl bad)).trans (congrArg settled (encodeRequest_of_bad has on idle bad))

end Sys2Proof.Machine
end

section
/-! PROOFS. What follows a command leaves CIN_STATUS of decoder 0 of hearth 0, outside the Basins: a frame of one word through
stand-alone motions, axes, Draughts, the Chimney, the twin block and the deferred commands. -/

namespace Sys2Proof.Machine

/-- CIN_STATUS of decoder 0 of hearth 0 in a table of registers. -/
def decoderStatus (r : Tab Word) : Word := tabGet dfltReg r (rkey 0 BLK_CIN 0 CIN_STATUS.word)

theorem decoderStatus_rd (s : State) : decoderStatus s.regs = s.rd 0 0 BLK_CIN CIN_STATUS.word := rfl

/-! ### Other words -/

/-- A field in another word than CIN_STATUS of some decoder, by the word's number or its block's place. -/
abbrev Fld.offDecoder (f : Fld) : Prop := 10 ≤ f.blk ∨ f.word < 2048 ∧ f.word ≠ CIN_STATUS.word

/-- A field of a block before CIN. -/
abbrev Fld.beforeDecoder (f : Fld) : Prop := f.blk < BLK_CIN ∧ f.word < 2048

variable {s : State} {h i : Nat} {f : Fld}

theorem decoderStatus_wr {b w : Nat} (v : Word) (n : rkey 0 BLK_CIN 0 CIN_STATUS.word ≠ rkey h b i w) :
    decoderStatus (s.wr h i b w v).regs = decoderStatus s.regs := State.rd_wr_ne s v n

theorem Fld.offDecoder.key (c : f.offDecoder) : rkey 0 BLK_CIN 0 CIN_STATUS.word ≠ rkey h f.blk i f.word := by
  simp only [Fld.offDecoder] at c
  simp only [rkey, BLK_CIN]
  omega

theorem Fld.beforeDecoder.key (c : f.beforeDecoder) (hi : i < 16) : rkey 0 BLK_CIN 0 CIN_STATUS.word ≠ rkey h f.blk i f.word := by
  simp only [Fld.beforeDecoder, BLK_CIN] at c
  simp only [rkey, BLK_CIN]
  omega

theorem decoderStatus_fput (v : Nat) (c : f.offDecoder) : decoderStatus (s.fput h i f v).regs = decoderStatus s.regs :=
  decoderStatus_wr _ c.key

theorem decoderStatus_fputB (b : Bool) (c : f.offDecoder) : decoderStatus (s.fputB h i f b).regs = decoderStatus s.regs :=
  decoderStatus_fput _ c

theorem decoderStatus_count (n : Nat) (c : f.offDecoder) : decoderStatus (s.count h i f n).regs = decoderStatus s.regs :=
  decoderStatus_fput _ c

/-- CIN_STATUS counts no lost event words. -/
theorem decoderStatus_noLoss : NoLossCounter 0 BLK_CIN CIN_STATUS.word :=
  noLoss_of (by decide) (by decide) (by decide) (by unfold lossWord; decide)

theorem decoderStatus_raise (c : f.offDecoder) : decoderStatus (s.raise h i f).regs = decoderStatus s.regs :=
  raise_rd s h i f decoderStatus_noLoss c.key

theorem decoderStatus_fwEvent (code : Nat) : decoderStatus (fwEvent h code s).regs = decoderStatus s.regs :=
  fwEvent_rd s h code decoderStatus_noLoss

/-- Of two ways the frame goes along both. -/
@[simp] theorem decoderStatus_ite (c : Prop) [Decidable c] (a b : State) :
    decoderStatus (if c then a else b).regs = if c then decoderStatus a.regs else decoderStatus b.regs := by
  split <;> rfl

theorem decoderStatus_forEach {α : Type} {f : α → State → State} (each : ∀ x s, decoderStatus (f x s).regs = decoderStatus s.regs)
    (xs : List α) (s : State) : decoderStatus (forEach xs f s).regs = decoderStatus s.regs := by
  induction xs generalizing s with
  | nil => rfl
  | cons x xs ih => exact (ih (f x s)).trans (each x s)

@[simp] theorem mapPage_regs (pg : Nat) (g : Page → Page) : (mapPage h pg g s).regs = s.regs := rfl

@[simp] theorem noteDop_regs (owner : Option (Nat × Nat)) (st : Nat) : (noteDop owner h st s).regs = s.regs := by
  cases owner <;> rfl

/-! ### Axes -/

section
variable {a : Nat}

theorem decoderStatus_mput (v : Nat) (c : f.offDecoder) : decoderStatus (s.mput a f v).regs = decoderStatus s.regs :=
  decoderStatus_fput _ c

theorem decoderStatus_mraise (c : f.offDecoder) : decoderStatus (s.mraise a f).regs = decoderStatus s.regs := decoderStatus_raise c

theorem decoderStatus_mcount (n : Nat) (c : f.offDecoder) : decoderStatus (s.mcount a f n).regs = decoderStatus s.regs :=
  decoderStatus_count _ c

@[simp] theorem axGo_decoderStatus (st : Nat) : decoderStatus (axGo a st s).regs = decoderStatus s.regs :=
  decoderStatus_mput _ (by decide)

@[simp] theorem axShow_decoderStatus : decoderStatus (axShow a s).regs = decoderStatus s.regs := by
  simp (disch := decide) [axShow, decoderStatus_mput]

@[simp] theorem wake_decoderStatus : decoderStatus (wake a s).regs = decoderStatus s.regs := by
  simp (disch := decide) [wake, coilsOn, decoderStatus_mput]

@[simp] theorem feedEnd_decoderStatus (ok : Bool) (m : Move) : decoderStatus (feedEnd a ok m s).regs = decoderStatus s.regs := by
  unfold feedEnd
  cases m.feed <;> simp (disch := decide) [decoderStatus_fput]

@[simp] theorem discard_decoderStatus (ms : List Move) : decoderStatus (discard a ms s).regs = decoderStatus s.regs := by
  simp (disch := decide) [discard, decoderStatus_forEach (fun m s => feedEnd_decoderStatus (s := s) false m), decoderStatus_mcount]

@[simp] theorem queuePush_decoderStatus (target : Int) (vmax : Nat) (blend : Bool) (feed : Option Nat) (owner : Option (Nat × Nat)) :
    decoderStatus (queuePush a target vmax blend feed s owner).1.regs = decoderStatus s.regs := by
  unfold queuePush
  dsimp only
  split_ifs <;> simp (disch := decide) [decoderStatus_mcount, decoderStatus_mraise]

@[simp] theorem resDown_decoderStatus (n : Nat) : decoderStatus (resDown a n s).regs = decoderStatus s.regs := by
  induction n generalizing s with
  | zero => rfl
  | succ n ih => simp (disch := decide) [resDown, ih, decoderStatus_mput]

@[simp] theorem resUp_decoderStatus (n : Nat) : decoderStatus (resUp a n s).regs = decoderStatus s.regs := by
  induction n generalizing s with
  | zero => rfl
  | succ n ih => simp (disch := decide) [resUp, ih, decoderStatus_mput]

@[simp] theorem resFollow_decoderStatus : decoderStatus (resFollow a s).regs = decoderStatus s.regs := by simp [resFollow]

@[simp] theorem axOn_decoderStatus : decoderStatus (axOn a s).regs = decoderStatus s.regs := by
  simp (disch := decide) [axOn, coilsOn, decoderStatus_mput]

@[simp] theorem axOff_decoderStatus (res : Nat) : decoderStatus (axOff a res s).regs = decoderStatus s.regs := by
  simp (disch := decide) [axOff, decoderStatus_mput, decoderStatus_mraise]

@[simp] theorem limitStop_decoderStatus : decoderStatus (limitStop a s).regs = decoderStatus s.regs := by
  simp (disch := decide) [limitStop, decoderStatus_mraise]

@[simp] theorem homeWrite_decoderStatus : decoderStatus (homeWrite a s).regs = decoderStatus s.regs := by
  unfold homeWrite
  dsimp only
  split_ifs <;> simp (disch := decide) [decoderStatus_mput, decoderStatus_mraise, decoderStatus_mcount]

@[simp] theorem stopWrite_decoderStatus : decoderStatus (stopWrite a s).regs = decoderStatus s.regs := by
  simp [stopWrite]

@[simp] theorem motForce_decoderStatus : decoderStatus (motForce a s).regs = decoderStatus s.regs := by
  simp [motForce]

@[simp] theorem motDisable_decoderStatus : decoderStatus (motDisable a s).regs = decoderStatus s.regs := by
  simp [motDisable]

/-- What a write of MOT_CTRL does by EN, and then by STOP, CLR and HOME. -/
def motEnabled (c : WriteCtx) (s : State) : State :=
  let a := 4 * c.h + c.i
  if c.rose s MOT_CTRL_EN then
    if axState s a = 6 then (s.mput a MOT_CTRL_EN 0).setAxis a { (s.axis a) with again := true } else axOn a s
  else if c.fell s MOT_CTRL_EN then motDisable a s
  else s
def motOrdered (c : WriteCtx) (s : State) : State :=
  let a := 4 * c.h + c.i
  let s := if c.wrote MOT_CTRL_STOP = 1 then stopWrite a s else s
  let s := if c.wrote MOT_CTRL_CLR = 1 then clrWrite a s else s
  if c.wrote MOT_CTRL_HOME = 1 then homeWrite a s else s

@[simp] theorem motEnabled_decoderStatus (c : WriteCtx) : decoderStatus (motEnabled c s).regs = decoderStatus s.regs := by
  simp (disch := decide) [motEnabled, decoderStatus_mput]

@[simp] theorem motOrdered_decoderStatus (c : WriteCtx) : decoderStatus (motOrdered c s).regs = decoderStatus s.regs := by
  simp [motOrdered, clrWrite]

theorem motAct_eq (c : WriteCtx) (s : State) : motAct c s =
    let a := 4 * c.h + c.i
    if c.w = MOT_POS.word then s.mput a MOT_STATUS_HOMED (if axState s a = 0 then 0 else s.mget a MOT_STATUS_HOMED)
    else if c.w = MOT_Q_PUSH.word then
      let t := toS 32 (s.mget a MOT_Q_TARGET)
      (queuePush a (if c.wrote MOT_Q_PUSH_KIND = 1 then toS 32 (ofS 32 (queueEnd s a + t)) else t) (s.mget a MOT_Q_VMAX)
        (c.wrote MOT_Q_PUSH_BLEND == 1) none s).1
    else if c.w ≠ 0 then s
    else if c.wrote MOT_CTRL_FORCE_OFF = 1 then motForce a (s.mput a MOT_CTRL_EN 0)
    else motOrdered c (motEnabled c s) := rfl

@[simp] theorem motAct_decoderStatus (c : WriteCtx) : decoderStatus (motAct c s).regs = decoderStatus s.regs := by
  rw [motAct_eq]
  simp (disch := decide) [decoderStatus_mput]

/-- A host write of a block past CIN, its rule aside. -/
theorem hostWrite_decoderStatus {blk : Nat} (past : 10 ≤ blk) (opn : State → Nat → Nat → Nat → Bool)
    {act : WriteCtx → State → State} (keeps : ∀ c s, decoderStatus (act c s).regs = decoderStatus s.regs) (w : Nat) (v : Word) :
    decoderStatus (hostWrite blk opn act h i w v false s).regs = decoderStatus s.regs := by
  have key : rkey 0 BLK_CIN 0 CIN_STATUS.word ≠ rkey h blk i w :=
    Fld.offDecoder.key (f := ⟨blk, w, 0, 0⟩) (.inl past)
  rw [hostWrite_eq, keeps, decoderStatus_rd, stored_rd_ne key, ← decoderStatus_rd]

@[simp] theorem motWrite_decoderStatus (w : Nat) (v : Word) : decoderStatus (motWrite a w v s).regs = decoderStatus s.regs := by
  have write : decoderStatus (hostWrite BLK_MOT motOpen motAct (a / 4) (a % 4) w v false s).regs = decoderStatus s.regs :=
    hostWrite_decoderStatus (by decide) _ (fun c s => motAct_decoderStatus c) _ _
  simp [motWrite, write]

end

/-! ### Draughts -/

@[simp] theorem drtGo_decoderStatus (st : Nat) : decoderStatus (drtGo h st s).regs = decoderStatus s.regs := by
  simp (disch := decide) [drtGo, decoderStatus_fput, decoderStatus_fputB]

@[simp] theorem markPage_decoderStatus (pg why port : Nat) :
    decoderStatus (markPage h pg why port s).regs = decoderStatus s.regs := by
  unfold markPage
  cases findPage s h pg <;> simp [decoderStatus_fwEvent]

@[simp] theorem markReason_decoderStatus (pg why port : Nat) :
    decoderStatus (markReason h pg why port s).regs = decoderStatus s.regs := by
  unfold markReason
  cases findPage s h pg <;> simp (disch := decide) [decoderStatus_raise, decoderStatus_fput]

@[simp] theorem markHearth_decoderStatus (why : Nat) : decoderStatus (markHearth h why s).regs = decoderStatus s.regs := by
  unfold markHearth
  cases firingPage s h <;> simp

@[simp] theorem loopStart_decoderStatus : decoderStatus (loopStart h s).regs = decoderStatus s.regs := by
  simp (disch := decide) [loopStart, decoderStatus_fput]

@[simp] theorem drtHold_decoderStatus : decoderStatus (drtHold h s).regs = decoderStatus s.regs := by
  simp (disch := decide) [drtHold, decoderStatus_raise, decoderStatus_fput]

@[simp] theorem drtEnable_decoderStatus : decoderStatus (drtEnable h s).regs = decoderStatus s.regs := by
  simp [drtEnable, clkRest]

@[simp] theorem drtDisable_decoderStatus : decoderStatus (drtDisable h s).regs = decoderStatus s.regs := by
  simp (disch := decide) [drtDisable, clkRest, decoderStatus_fput]

@[simp] theorem armStart_decoderStatus (start : Int) (frac : Nat) :
    decoderStatus (armStart h start frac s).regs = decoderStatus s.regs := by
  simp (disch := decide) [armStart, decoderStatus_raise]

@[simp] theorem startArm_decoderStatus : decoderStatus (startArm h s).regs = decoderStatus s.regs := by
  simp (disch := decide) [startArm, armPass, decoderStatus_fput]

@[simp] theorem drtAct_decoderStatus (c : WriteCtx) : decoderStatus (drtAct c s).regs = decoderStatus s.regs := by
  simp (disch := decide) [drtAct, resumeWrite, clkRest, decoderStatus_fputB]

/-- A command's write of a word of DRT. -/
@[simp] theorem putWord_drt_decoderStatus (w : Nat) (v : Word) :
    decoderStatus (putWord BLK_DRT h 0 w v s).regs = decoderStatus s.regs := by
  have event : decoderStatus (hostWrite BLK_DRT (blockOpen BLK_DRT) (eventEnableAct BLK_DRT) h 0 w v false s).regs =
      decoderStatus s.regs :=
    hostWrite_decoderStatus (by decide) _ (fun c s => decoderStatus_forEach (fun b s =>
      postEvent_rd s _ _ _ _ decoderStatus_noLoss) _ _) _ _
  have block : decoderStatus (hostWrite BLK_DRT (blockOpen BLK_DRT) (blockAct BLK_DRT) h 0 w v false s).regs =
      decoderStatus s.regs := hostWrite_decoderStatus (by decide) _ (fun c s => drtAct_decoderStatus c) _ _
  have write : putWord BLK_DRT h 0 w v s = if (eventEnWords BLK_DRT).contains w ∧ BLK_DRT ≠ BLK_MBX ∧ BLK_DRT ≠ BLK_TWN then
      hostWrite BLK_DRT (blockOpen BLK_DRT) (eventEnableAct BLK_DRT) h 0 w v false s
      else hostWrite BLK_DRT (blockOpen BLK_DRT) (blockAct BLK_DRT) h 0 w v false s := by
    unfold putWord regWrite
    rw [if_neg (by simp)]
    rfl
  rw [write, decoderStatus_ite, event, block, ite_self]

@[simp] theorem putFlds_drt_decoderStatus (fs : List (Fld × Nat)) (w : Nat) :
    decoderStatus (putFlds h 0 BLK_DRT w fs s).regs = decoderStatus s.regs := putWord_drt_decoderStatus _ _

/-! ### Stand-alone motions -/

@[simp] theorem goHosted_decoderStatus : decoderStatus (goHosted s).regs = decoderStatus s.regs := decoderStatus_fwEvent _

@[simp] theorem aloneEnded_decoderStatus : decoderStatus (aloneEnded s).regs = decoderStatus s.regs := by simp [aloneEnded]

@[simp] theorem axisOn_decoderStatus (a : Nat) : decoderStatus (axisOn a s).regs = decoderStatus s.regs := by simp [axisOn]

@[simp] theorem chartArm_decoderStatus (k : AloneCfg) : decoderStatus (chartArm k s).regs = decoderStatus s.regs :=
  decoderStatus_forEach (fun h s => by simp) _ _

/-- A bar motion moves axes and arms Draughts. -/
@[simp] theorem aloneStep_decoderStatus (n : Nat) : decoderStatus (aloneStep n s).regs = decoderStatus s.regs := by
  induction n generalizing s with
  | zero => rfl
  | succ n ih =>
    unfold aloneStep
    split
    · simp
    · simp
    · next st rest k _ _ => cases st <;> simp [ih]

@[simp] theorem aloneMotion_decoderStatus : decoderStatus (aloneMotion s).regs = decoderStatus s.regs := by simp [aloneMotion]

/-! ### The Chimney -/

@[simp] theorem place_decoderStatus (join : Nat → OutX → Pkt → OutX) (level : Nat) (p : Pkt) :
    decoderStatus (place join level h p s).regs = decoderStatus s.regs := by
  unfold place
  dsimp only
  split_ifs
  · cases p.mem <;> simp [State.setOut]
  all_goals split <;> simp (disch := decide) [State.setOut, unreach, decoderStatus_count, decoderStatus_raise]

@[simp] theorem linkFollow_decoderStatus (l : Nat) : decoderStatus (linkFollow h l s).regs = decoderStatus s.regs := by
  have hop (e : Nat × Pkt) (s : State) : decoderStatus (hopDone h l e.2 s).regs = decoderStatus s.regs := place_decoderStatus _ _ _
  unfold linkFollow
  dsimp only
  split
  · rfl
  · rw [decoderStatus_forEach hop]
    rfl

@[simp] theorem refreshFollow_decoderStatus : decoderStatus (refreshFollow h s).regs = decoderStatus s.regs := by
  have row (e : Nat × Nat × Nat × Nat) (s : State) :
      decoderStatus (rowRefreshed h e.1 e.2.1 e.2.2.1 s).regs = decoderStatus s.regs := by
    simp (disch := decide) [rowRefreshed, decoderStatus_count]
  unfold refreshFollow
  dsimp only
  split
  · rfl
  · simp [decoderStatus_forEach row]

@[simp] theorem fabricFollow_decoderStatus : decoderStatus (fabricFollow s).regs = decoderStatus s.regs :=
  decoderStatus_forEach (fun h s => by simp [hearthFollow]) _ _

/-! ### The twin block, deferred commands, the Fender -/

@[simp] theorem twinRelease_regs (t : TwnCmd) : (twinRelease t s).regs = s.regs := by
  unfold twinRelease
  split
  · rfl
  · dsimp only
    split <;> simp [setTwn, cmdFrame, twinSend]

@[simp] theorem answer_regs (c : Cmd) (op st : Nat) (p : List Byte) : (answer c op st p s).regs = s.regs := by
  unfold answer
  split <;> simp [produce]

@[simp] theorem settleDop_regs (d : DOp) : (settleDop d s).regs = s.regs := by
  unfold settleDop
  split
  · rfl
  · dsimp only
    split <;> simp [finishDop]

@[simp] theorem settleOps_decoderStatus : decoderStatus (settleOps s).regs = decoderStatus s.regs :=
  decoderStatus_forEach (fun d s => by simp) _ _

@[simp] theorem inJunior_settleOps_decoderStatus : decoderStatus (inJunior settleOps s).regs = decoderStatus s.regs := by
  simp [inJunior]

/-- What follows a command leaves the word as the Basins leave it. -/
theorem settle_decoderStatus (s : State) :
    decoderStatus (settle s).regs = decoderStatus (basinsFollow (fabricFollow (aloneMotion s))).regs := by
  simp (disch := decide) [settle, gateShow, decoderStatus_fput, decoderStatus_forEach (fun t s => congrArg decoderStatus
    (twinRelease_regs (s := s) t))]

end Sys2Proof.Machine
end

section
/-! PROOFS. A drain result that decoder 0 of hearth 0 shows outlives what follows a command: the Basins end its jobs, but no drain. -/

namespace Sys2Proof.Machine

/-- Decoder 0 of hearth 0 shows its last drain as DRAINED, and no drain runs. -/
def ShowsDrained (s : State) : Prop := s.fget 0 0 CIN_STATUS_DRAIN_RESULT = 3 ∧ s.fget 0 0 CIN_STATUS_STATE ≠ 3

variable {s t : State} {h i d : Nat} {f : Fld}

theorem ShowsDrained.of_word (shows : ShowsDrained s) (e : decoderStatus t.regs = decoderStatus s.regs) : ShowsDrained t := by
  have field (f : Fld) (b : f.blk = BLK_CIN ∧ f.word = CIN_STATUS.word) : t.fget 0 0 f = s.fget 0 0 f := by
    unfold State.fget
    rw [b.1, b.2, ← decoderStatus_rd, ← decoderStatus_rd, e]
  rwa [ShowsDrained, field CIN_STATUS_DRAIN_RESULT ⟨rfl, rfl⟩, field CIN_STATUS_STATE ⟨rfl, rfl⟩]

theorem forEach_keeps {α : Type} {P : State → Prop} {f : α → State → State} (each : ∀ x s, P s → P (f x s)) (xs : List α)
    (s : State) (holds : P s) : P (forEach xs f s) := by
  induction xs generalizing s with
  | nil => exact holds
  | cons x xs ih => exact ih _ (each x s holds)

/-! ### The Basin's and the receivers' registers -/

theorem decoderStatus_fput_before (v : Nat) (c : f.beforeDecoder) (hi : i < 16) :
    decoderStatus (s.fput h i f v).regs = decoderStatus s.regs := decoderStatus_wr _ (c.key hi)

theorem decoderStatus_put64 (v : Nat) (low : f.low.offDecoder) (high : f.high.offDecoder) :
    decoderStatus (s.put64 h i f v).regs = decoderStatus s.regs := by
  rw [State.put64_eq, decoderStatus_fput _ high, decoderStatus_fput _ low]

@[simp] theorem basRefresh_decoderStatus : decoderStatus (basRefresh h s).regs = decoderStatus s.regs := by
  have status (t : State) (f : Fld) (v : Nat) (c : f.beforeDecoder) : decoderStatus (t.fput h 0 f v).regs = decoderStatus t.regs :=
    decoderStatus_fput_before v c (by decide)
  obtain ⟨rp, mark, page, free, dec, pages, bufs, ahead, hold, active, e⟩ := basRefresh_eq h s
  rw [e]
  simp (disch := decide) [State.fputB_eq, status, decoderStatus_put64]

@[simp] theorem basEnable_decoderStatus : decoderStatus (basEnable h s).regs = decoderStatus s.regs := by
  simp (disch := decide) [basEnable, decoderStatus_fput, decoderStatus_raise]

@[simp] theorem basDrainCheck_decoderStatus : decoderStatus (basDrainCheck h s).regs = decoderStatus s.regs := by
  simp (disch := decide) [basDrainCheck, decoderStatus_fput, decoderStatus_raise]

@[simp] theorem ringTrim_decoderStatus : decoderStatus (ringTrim h s).regs = decoderStatus s.regs := by
  simp (disch := decide) [ringTrim, decoderStatus_put64]

@[simp] theorem lbSweep_decoderStatus : decoderStatus (lbSweep h s).regs = decoderStatus s.regs :=
  decoderStatus_forEach (fun k s => by simp (disch := decide) [decoderStatus_fput, decoderStatus_raise]) _ _

theorem creditRefresh_decoderStatus (hi : i < 16) : decoderStatus (creditRefresh h i s).regs = decoderStatus s.regs := by
  have stall (t : State) (b : Bool) : decoderStatus (t.fputB h i GOR_STATUS_CREDIT_STALL b).regs = decoderStatus t.regs :=
    decoderStatus_fput_before _ (by decide) hi
  rcases creditRefresh_cases h i s with e | ⟨lim, stalls, begins, e⟩ <;> rw [e]
  cases begins <;> simp (disch := decide) [onlyIf, stall, decoderStatus_raise, decoderStatus_put64]

/-! ### Jobs that end -/

/-- How far a stopped job came is shown beside the status. -/
@[simp] theorem jobPart_decoderStatus : decoderStatus (jobPart h d s).regs = decoderStatus s.regs := by
  unfold jobPart
  cases runningJob s h d <;> simp (disch := decide) [rawCount, decoderStatus_put64, decoderStatus_raise, decoderStatus_count]

/-- A job's end as it is counted and recorded, before the decoder's state follows (R105). -/
def jobCounted (h d st : Nat) (s : State) : State :=
  let s := (s.count h d CIN_JOBS).fput h d CIN_STATUS_LAST_STATUS st
  let s := s.raise h d CIN_EVENT_JOB_DONE
  if st = 0 ∨ st = 0x22 then s else (s.count h d CIN_FAILS).raise h d CIN_EVENT_JOB_FAIL

theorem cinRecord_eq (h d st : Nat) (s : State) : cinRecord h d st s =
    if (jobCounted h d st s).fget h d CIN_STATUS_STATE = 3 then cinResume h d (cinOff h d 3 (jobCounted h d st s))
    else (jobCounted h d st s).fput h d CIN_STATUS_STATE (if (jobCounted h d st s).fon h d CIN_CTRL_EN then 1 else 0) := rfl

/-- Fields of a decoder that its job's end is counted and recorded in. -/
def countedFields : List Fld := [CIN_JOBS, CIN_STATUS_LAST_STATUS, CIN_EVENT_JOB_DONE, CIN_FAILS, CIN_EVENT_JOB_FAIL]

theorem jobCounted_fget {g : Fld} (c : ∀ f ∈ countedFields, g.clears f) (off : g.offLoss = true) (st : Nat) :
    (jobCounted h d st s).fget h d g = s.fget h d g := by
  obtain ⟨jobs, last, done, fails, fail⟩ : g.clears CIN_JOBS ∧ g.clears CIN_STATUS_LAST_STATUS ∧ g.clears CIN_EVENT_JOB_DONE ∧
      g.clears CIN_FAILS ∧ g.clears CIN_EVENT_JOB_FAIL := by simpa [countedFields] using c
  have recorded : (((s.count h d CIN_JOBS).fput h d CIN_STATUS_LAST_STATUS st).raise h d CIN_EVENT_JOB_DONE).fget h d g =
      s.fget h d g := by
    rw [raise_fget_clears done off, State.fget_fput_clears _ last, State.count_eq, State.fget_fput_clears _ jobs]
  unfold jobCounted
  dsimp only
  split
  · exact recorded
  · rw [raise_fget_clears fail off, State.count_eq, State.fget_fput_clears _ fails, recorded]

/-- The end of another decoder's job writes that decoder's registers. -/
theorem cinRecord_decoderStatus (other : ¬ (h = 0 ∧ d = 0)) (st : Nat) :
    decoderStatus (cinRecord h d st s).regs = decoderStatus s.regs := by
  have key (f : Fld) (c : f.blk = BLK_CIN ∧ f.word < 2048) : rkey 0 BLK_CIN 0 CIN_STATUS.word ≠ rkey h f.blk d f.word := by
    obtain ⟨b, w⟩ := c
    simp only [rkey, b, BLK_CIN]
    omega
  have put (t : State) (f : Fld) (v : Nat) (c : f.blk = BLK_CIN ∧ f.word < 2048) :
      decoderStatus (t.fput h d f v).regs = decoderStatus t.regs := decoderStatus_wr _ (key f c)
  simp (disch := decide) [cinRecord_eq, jobCounted, cinResume, cinEnable, cinOff, State.count_eq, put, decoderStatus_raise]

/-- The end of its own job leaves the drain result, as no drain runs. -/
theorem ShowsDrained.cinRecord_own (shows : ShowsDrained s) (st : Nat) : ShowsDrained (cinRecord 0 0 st s) := by
  obtain ⟨result, state⟩ := shows
  have counted : (jobCounted 0 0 st s).fget 0 0 CIN_STATUS_STATE = s.fget 0 0 CIN_STATUS_STATE :=
    jobCounted_fget (by decide) (by decide) st
  rw [cinRecord_eq, if_neg (by rwa [counted])]
  constructor
  · rw [State.fget_fput_clears _ (by decide), jobCounted_fget (by decide) (by decide), result]
  · rw [State.fget_fput_same _ _ _ _ _ (by decide)]
    split <;> decide

theorem ShowsDrained.cinRecord (shows : ShowsDrained s) (h d st : Nat) : ShowsDrained (cinRecord h d st s) := by
  by_cases own : h = 0 ∧ d = 0
  · obtain ⟨rfl, rfl⟩ := own
    exact shows.cinRecord_own st
  · exact shows.of_word (cinRecord_decoderStatus own st)

theorem ShowsDrained.stopJobs (shows : ShowsDrained s) (h pg : Nat) : ShowsDrained (stopJobs h pg s) := by
  unfold Machine.stopJobs
  split
  · exact shows
  · refine forEach_keeps (fun d t held => held.cinRecord h d 4) _ _ ?_
    refine ShowsDrained.of_word (s := forEach _ (jobPart h) s) ?_ rfl
    exact shows.of_word (decoderStatus_forEach (fun d t => jobPart_decoderStatus) _ _)

/-! ### Pages that leave -/

theorem ShowsDrained.removePage (shows : ShowsDrained s) (h pg : Nat) (lost : Bool) : ShowsDrained (removePage h pg lost s) := by
  unfold Machine.removePage
  split
  · exact shows
  · exact (shows.stopJobs h pg).of_word (by simp)

theorem ShowsDrained.releasePage (shows : ShowsDrained s) (h pg : Nat) : ShowsDrained (releasePage h pg s) := by
  unfold Machine.releasePage
  split
  · exact shows.of_word rfl
  · exact shows.removePage h pg false

theorem ShowsDrained.releaseHeld (shows : ShowsDrained s) (h : Nat) : ShowsDrained (releaseHeld h s) := by
  refine forEach_keeps (fun p t held => ?_) _ _ shows
  split
  · exact held
  · exact held.removePage h p.id false

theorem ShowsDrained.retainKeep (shows : ShowsDrained s) (h extra : Nat) : ShowsDrained (retainKeep h extra s) := by
  unfold Machine.retainKeep
  dsimp only
  split
  · exact shows
  · refine forEach_keeps (fun p t held => ?_) _ _ shows
    split
    · exact held
    · exact (held.releasePage h p.id).of_word (decoderStatus_raise (by decide))

/-! ### What follows every command -/

theorem ShowsDrained.basinsFollow (shows : ShowsDrained s) : ShowsDrained (basinsFollow s) :=
  forEach_keeps (fun h t held => ((held.releaseHeld h).retainKeep h 0).of_word
    ((creditRefresh_decoderStatus (by decide)).trans (creditRefresh_decoderStatus (by decide)))) _ _ shows

theorem ShowsDrained.settle (shows : ShowsDrained s) : ShowsDrained (settle s) := by
  have before : ShowsDrained (fabricFollow (aloneMotion s)) := shows.of_word (by simp)
  exact before.basinsFollow.of_word (settle_decoderStatus s)

/-! ### Obligation -/

/-- Decoder 0 of hearth 0 enabled and idle. -/
def idleDecoder : State := (State.reset.fput 0 0 CIN_CTRL_EN 1).fput 0 0 CIN_STATUS_STATE 1

/-- A write of 4 writes EN 0, and FORCE_OFF 1 as well: the drain ends ABORTED. -/
theorem forcedDecoder_aborts : (settle (cinderEnWrite 0 0 4#32 idleDecoder)).fget 0 0 CIN_STATUS_DRAIN_RESULT = 4 := by
  decide +kernel

/-- Refutes O30: FORCE_OFF is bit 2 of CIN_CTRL, so EN 0 written with it has `v &&& 3 = 0` and takes an idle decoder OFF with ABORTED,
not DRAINED; no state that shows DRAINED can settle to that one. -/
theorem not_cinderEnableAndPagesRetire : ¬ Obligations.CinderEnableAndPagesRetire := by
  intro holds
  obtain ⟨-, disables, -⟩ := holds.1 idleDecoder 0 0 (by decide +kernel)
  obtain ⟨t, answers, off, drained, -⟩ := disables 4#32 (by decide +kernel) (by decide +kernel) (by decide)
  have shows : ShowsDrained (settle t) := ShowsDrained.settle ⟨drained, by rw [off]; decide⟩
  have same : settle (cinderEnWrite 0 0 4#32 idleDecoder) = settle t := Host.Outcome.next.inj answers
  rw [← same, ShowsDrained, forcedDecoder_aborts] at shows
  exact absurd shows.1 (by decide)

end Sys2Proof.Machine
end

section
/-! PROOFS. What a host write stores and what a block's rule sees of it (R8, R139; log 15). -/

namespace Sys2Proof.Machine

section
variable {s : State} {blk h i w : Nat} {opn : Bool} {v : Word} {f g : Fld}

/-! ### A stored host write -/

/-- A stored write changes registers and staged words alone. -/
theorem stored_shape : stored blk opn h i w v s =
    { s with regs := (stored blk opn h i w v s).regs, staged := (stored blk opn h i w v s).staged } := by
  simp only [stored, hostWrite]
  split <;> rfl

@[simp] theorem stored_ter (g : Nat) : (stored blk opn h i w v s).ter g = s.ter g := by
  rw [stored_shape]
  rfl

@[simp] theorem stored_grts : (stored blk opn h i w v s).grts = s.grts := by rw [stored_shape]

@[simp] theorem stored_ashMap : (stored blk opn h i w v s).ashMap = s.ashMap := by rw [stored_shape]

/-- A word without privileged fields stages nothing (R139). -/
theorem stored_staged (none : stagedFields blk i w = []) : (stored blk opn h i w v s).staged = s.staged := by
  have empty : ((wordFields blk i w).filter fun f => f.priv).isEmpty = true := List.isEmpty_iff.mpr none
  simp only [stored, hostWrite, empty, if_true, State.wr_staged]

theorem stored_rd_off {h' i' b' w' : Nat} (n : w < 2048 ∧ w' < 2048 ∧ w' ≠ w) :
    (stored blk opn h i w v s).rd h' i' b' w' = s.rd h' i' b' w' := stored_rd_ne (rkey_word_ne n.2.1 n.1 n.2.2)

/-- A field of a word of another number reads what it read before. -/
theorem stored_fget_off {h' i' : Nat} (n : w < 2048 ∧ g.word < 2048 ∧ g.word ≠ w) :
    (stored blk opn h i w v s).fget h' i' g = s.fget h' i' g := by
  unfold State.fget
  rw [stored_rd_off n]

theorem stored_get64_off {h' i' : Nat} (n : w < 2048 ∧ g.word + 1 < 2048 ∧ g.word ≠ w ∧ g.word + 1 ≠ w) :
    (stored blk opn h i w v s).get64 h' i' g = s.get64 h' i' g := by
  obtain ⟨lt, lt', low, high⟩ := n
  unfold State.get64
  rw [stored_rd_off ⟨lt, by omega, low⟩, stored_rd_off ⟨lt, lt', high⟩]

/-- A one-bit field holds what its access code leaves in it (R8). -/
theorem stored_fon {d : FieldDef} (one : f.len = 1) (m : d ∈ wordFields f.blk i f.word) (p : d.priv = false) (c : d.covers f.lo) :
    (stored f.blk opn h i f.word v s).fon h i f = accessBit opn d.acc (s.fon h i f) (v.getLsbD f.lo) := by
  rw [State.fon_bit one, State.fon_bit one, stored_bit_of_live m p c]

/-- A one-bit field reads 1 or 0. -/
theorem State.fget_of_len_one (one : f.len = 1) : s.fget h i f = (s.fon h i f).toNat := by
  rw [State.fon_bit one, State.fget, one, bits_one]

/-! ### The write as the block's rule sees it -/

/-- The bits written to a field of the word. -/
theorem hostCtx_wrote (r : ∀ k < f.len, (reachMask (wordFields f.blk i f.word) false).getLsbD (f.lo + k) = true) :
    (hostCtx s f.blk h i f.word v).wrote f = bits v.toNat f.lo f.len := by
  refine Nat.eq_of_testBit_eq fun k => ?_
  rw [WriteCtx.wrote, hostCtx, testBit_bits, testBit_bits]
  by_cases hk : k < f.len
  · have := r k hk
    rw [BitVec.getLsbD] at this
    rw [BitVec.toNat_and, Nat.testBit_and, this, Bool.and_true]
  · simp [hk]

theorem hostCtx_wrote_one (one : f.len = 1) (r : (reachMask (wordFields f.blk i f.word) false).getLsbD f.lo = true) :
    (hostCtx s f.blk h i f.word v).wrote f = 1 ↔ v.getLsbD f.lo = true := by
  rw [hostCtx_wrote fun k hk => by rwa [show k = 0 by omega], one, bits_one]
  cases v.getLsbD f.lo <;> decide

/-! ### The word that sets one acting bit (log 15) -/

theorem pulse_same {b : Nat} (hb : b < 32) : (s.pulse h i blk w b).getLsbD b = true := by
  rw [State.pulse, BitVec.getLsbD, testBit_insertBits _ _ _ _ _ hb, if_pos (by omega), Nat.sub_self]
  rfl

/-- Another bit that does not act is written as it stands. -/
theorem pulse_other {b k : Nat} (hk : k < 32) (n : k ≠ b) (rests : (actMask blk i w).getLsbD k = false) :
    (s.pulse h i blk w b).getLsbD k = (s.rd h i blk w).getLsbD k := by
  rw [State.pulse, BitVec.getLsbD, testBit_insertBits _ _ _ _ _ hk, if_neg (by omega)]
  show (s.rd h i blk w &&& ~~~ actMask blk i w).getLsbD k = _
  rw [BitVec.getLsbD_and, BitVec.getLsbD_not, rests, decide_eq_true hk, Bool.not_false, Bool.and_true, Bool.and_true]

end

end Sys2Proof.Machine
end

section
/-! PROOFS. The Terrace's enable, drain and forced disable (R134, R149, R295). -/

namespace Sys2Proof.Machine

section
variable {s : State} {h : Nat} {v : Word}

/-! ### A write of TER_CTRL -/

theorem terEnWrite_eq (has : s.hasH h = true) (v : Word) :
    terEnWrite h v s = terAct (hostCtx s BLK_TER h 0 0 v) (stored BLK_TER true h 0 0 v s) := if_pos has

theorem stored_terEn (opn : Bool) (h : Nat) (v : Word) (s : State) : (stored BLK_TER opn h 0 0 v s).fon h 0 TER_CTRL_EN = v.getLsbD 0 :=
  stored_fon (f := TER_CTRL_EN) (d := ⟨0, 1, .rw, 0, true, false⟩) rfl (by decide) rfl ⟨by decide, by decide⟩

/-- A write of TER_CTRL without FORCE_OFF acts by what it makes of EN. -/
theorem terAct_ctrl {c : WriteCtx} (w : c.w = 0) (calm : c.wrote TER_CTRL_FORCE_OFF ≠ 1) (t : State) : terAct c t =
    if c.rose t TER_CTRL_EN = true then
      if (t.ter c.h).draining = true then (t.fput c.h 0 TER_CTRL_EN 0).setTer c.h { t.ter c.h with again := true } else t
    else if c.fell t TER_CTRL_EN = true then
      if t.fget c.h 0 TER_STATUS_SLOT = 0 then terOff c.h 3 t else t.setTer c.h { t.ter c.h with draining := true, again := false }
    else t := by
  simp [terAct, w, calm]

theorem terCtrl_calm (calm : v.getLsbD 1 = false) : (hostCtx s BLK_TER h 0 0 v).wrote TER_CTRL_FORCE_OFF ≠ 1 := by
  rw [ne_eq, hostCtx_wrote_one (f := TER_CTRL_FORCE_OFF) rfl (by decide), calm]
  decide

/-- EN has gone from 0 to 1 while TER does not drain. -/
theorem terAct_of_rise {t : State} (calm : v.getLsbD 1 = false) (off : s.fon h 0 TER_CTRL_EN = false)
    (on : t.fon h 0 TER_CTRL_EN = true) (still : (t.ter h).draining = false) : terAct (hostCtx s BLK_TER h 0 0 v) t = t := by
  have rose := hostCtx_rose s t h 0 TER_CTRL_EN v
  rw [on, off] at rose
  exact (terAct_ctrl rfl (terCtrl_calm calm) t).trans ((if_pos rose).trans (if_neg (Bool.eq_false_iff.mp still)))

/-- EN has gone from 1 to 0: OFF at once where no slot runs, else a drain. -/
theorem terAct_of_fall {t : State} (calm : v.getLsbD 1 = false) (on : s.fon h 0 TER_CTRL_EN = true)
    (off : t.fon h 0 TER_CTRL_EN = false) : terAct (hostCtx s BLK_TER h 0 0 v) t =
      if t.fget h 0 TER_STATUS_SLOT = 0 then terOff h 3 t else t.setTer h { t.ter h with draining := true, again := false } := by
  have rose := hostCtx_rose s t h 0 TER_CTRL_EN v
  have fell := hostCtx_fell s t h 0 TER_CTRL_EN v
  rw [on, off] at rose fell
  exact (terAct_ctrl rfl (terCtrl_calm calm) t).trans ((if_neg (Bool.eq_false_iff.mp rose)).trans (if_pos fell))

/-! ### The other rows -/

theorem terDrainTimeout_eq (has : s.hasH h = true) (drains : (s.ter h).draining = true) :
    terDrainTimeout h s = s.setTer h { s.ter h with die := true } := if_pos (by rw [has, drains]; rfl)

theorem terForceOff_eq (has : s.hasH h = true) : terForceOff h s =
    if s.fget h 0 TER_STATUS_SLOT = 0 then terOff h 4 ((s.fput h 0 TER_CTRL_EN 0).setTer h { s.ter h with again := false })
    else (s.fput h 0 TER_CTRL_EN 0).setTer h { s.ter h with die := true, draining := true, again := false } := by
  have slot : (s.fput h 0 TER_CTRL_EN 0).fget h 0 TER_STATUS_SLOT = s.fget h 0 TER_STATUS_SLOT :=
    State.fget_fput_clears _ (by decide)
  rw [terForceOff, if_pos has, terForce, slot, State.fput_acc_ter]

end

/-- The two low bits of a word: FORCE_OFF and EN. -/
theorem low_bits {v w : Word} (e : v &&& 3#32 = w) : v.getLsbD 0 = w.getLsbD 0 ∧ v.getLsbD 1 = w.getLsbD 1 := by
  subst e
  simp

/-- Settles O31: without FORCE_OFF a write acts by what it makes of EN; the timeout and FORCE_OFF are read off their rows. -/
theorem terraceEnableDrainAndForceOff : Obligations.TerraceEnableDrainAndForceOff := by
  intro s h has
  have slot (v : Word) : (stored BLK_TER true h 0 0 v s).fget h 0 TER_STATUS_SLOT = s.fget h 0 TER_STATUS_SLOT :=
    stored_fget_off (by decide)
  have acts (v : Word) : exec (.terEnWrite h v) s =
      settled (terAct (hostCtx s BLK_TER h 0 0 v) (stored BLK_TER true h 0 0 v s)) := congrArg settled (terEnWrite_eq has v)
  have fall (v : Word) (low : v &&& 3#32 = 0#32) (on : s.fon h 0 TER_CTRL_EN = true) :=
    terAct_of_fall (low_bits low).2 on ((stored_terEn true h v s).trans (low_bits low).1)
  refine ⟨fun v low off still => ?rise, fun v low on none => ?off, fun v low on runs => ?drain, fun drains => ?timeout,
    fun none => ?force, fun runs => ?forceRunning⟩
  case rise =>
    have en := (stored_terEn true h v s).trans (low_bits low).1
    exact ⟨(acts v).trans (congrArg settled (terAct_of_rise (low_bits low).2 off en ((stored_ter h).symm ▸ still))), en⟩
  case off => rw [acts, fall v low on, slot, if_pos none, settled]
  case drain => rw [acts, fall v low on, slot, if_neg runs, stored_ter, settled]
  case timeout => exact congrArg settled (terDrainTimeout_eq has drains)
  case force => exact congrArg settled ((terForceOff_eq has).trans (if_pos none))
  case forceRunning => exact congrArg settled ((terForceOff_eq has).trans (if_neg runs))

end Sys2Proof.Machine
end

section
/-! PROOFS. Arming a table swap (R141), and a write of GRT_CTRL (R149, R432). -/

namespace Sys2Proof.Machine

section
variable {s : State} {h : Nat} {v : Word} {g : Fld}

/-! ### Arming a swap (R141) -/

/-- With TER OFF no arm waits for a later slot: a swap exchanges the banks, ends every arm and begins the copy. -/
theorem tableSwap_off (off : s.fget h 0 TER_STATUS_SLOT = 0) : ∃ x y, tableSwap h s =
    (((((((s.setTer h x).fput h 0 GRT_STATUS_BANK (1 - actBank s h)).setTer h y).fput h 0 GRT_CTRL_TBL_ARM 0).fput h 0
      GRT_STATUS_ARM_PEND 0).fput h 0 GRT_STATUS_ARM_LATE 0).fput h 0 GRT_STATUS_COPY 1).raise h 0 GRT_EVENT_TBL_SWAP := by
  unfold tableSwap
  dsimp only
  rw [if_pos (by simp (disch := decide) [State.fget_fput_clears, off])]
  exact ⟨_, _, rfl⟩

/-- Fields that an arm may write, at once or by the swap it makes. -/
def armFields : List Fld := [GRT_STATUS_ARM_PEND, GRT_STATUS_BANK, GRT_CTRL_TBL_ARM, GRT_STATUS_ARM_LATE, GRT_STATUS_COPY,
  GRT_EVENT_TBL_SWAP, GRT_EVENT_TBL_LATE]

theorem armPend_slot : (s.fput h 0 GRT_STATUS_ARM_PEND 1).fget h 0 TER_STATUS_SLOT = s.fget h 0 TER_STATUS_SLOT :=
  State.fget_fput_clears _ (by decide)

/-- While TER is OFF an arm swaps at once. -/
theorem tableArm_off (off : s.fget h 0 TER_STATUS_SLOT = 0) : tableArm h s = tableSwap h (s.fput h 0 GRT_STATUS_ARM_PEND 1) :=
  if_pos (armPend_slot.trans off)

/-- While a slot runs an arm waits for this slot's first gap line, after the commit point for the next slot's. -/
theorem tableArm_runs (runs : s.fget h 0 TER_STATUS_SLOT ≠ 0) : tableArm h s =
    let t := s.fput h 0 GRT_STATUS_ARM_PEND 1
    if s.fon h 0 TER_STATUS_PAST_POINT = true then
      ((t.setTer h { s.ter h with swapSlots := (s.ter h).swapSlots ++ [(s.ter h).slotNo + 1] }).fput h 0 GRT_STATUS_ARM_LATE 1).raise h 0
        GRT_EVENT_TBL_LATE
    else t.setTer h { s.ter h with swapSlots := (s.ter h).swapSlots ++ [(s.ter h).slotNo] } := by
  have past : (s.fput h 0 GRT_STATUS_ARM_PEND 1).fon h 0 TER_STATUS_PAST_POINT = s.fon h 0 TER_STATUS_PAST_POINT := by
    rw [State.fon_eq, State.fon_eq, State.fget_fput_clears _ (by decide)]
  rw [← past]
  exact if_neg (armPend_slot.symm ▸ runs)

/-- What an arm while TER is OFF shows. -/
theorem tableArm_off_shows (off : s.fget h 0 TER_STATUS_SLOT = 0) :
    actBank (tableArm h s) h = 1 - actBank s h ∧ (tableArm h s).fget h 0 GRT_STATUS_COPY = 1 ∧
    (tableArm h s).fget h 0 GRT_CTRL_TBL_ARM = 0 ∧ (tableArm h s).fget h 0 GRT_STATUS_ARM_PEND = 0 ∧
    (tableArm h s).fon h 0 GRT_EVENT_TBL_SWAP = true := by
  obtain ⟨x, y, e⟩ := tableSwap_off (armPend_slot.trans off)
  rw [tableArm_off off, e]
  refine ⟨?_, ?_, ?_, ?_, raise_sets _ _ _ _ (by decide) (by decide) (Fld.offLoss_no _ (by decide))⟩
  · have same : actBank (s.fput h 0 GRT_STATUS_ARM_PEND 1) h = actBank s h := State.fget_fput_clears _ (by decide)
    have two : (1 - actBank s h) % 2 ^ GRT_STATUS_BANK.len = 1 - actBank s h := Nat.mod_eq_of_lt (show _ < 2 by omega)
    rw [same]
    simp -implicitDefEqProofs (disch := decide) only [actBank, raise_fget_clears, State.setTer_acc_fget, State.fget_fput_clears,
      State.fget_fput_same] at two ⊢
    exact two
  all_goals
    simp -implicitDefEqProofs (disch := decide) only [raise_fget_clears, State.fget_fput_clears, State.fget_fput_same]
    rfl

/-- An arm leaves the other fields of its unit. -/
theorem tableArm_fget (c : ∀ f ∈ armFields, g.clears f) (off : g.offLoss = true) : (tableArm h s).fget h 0 g = s.fget h 0 g := by
  simp only [armFields, List.forall_mem_cons, List.not_mem_nil, false_imp_iff, implies_true, and_true] at c
  obtain ⟨pend, bank, arm, late, copy, swapped, lateEvent⟩ := c
  by_cases slot : s.fget h 0 TER_STATUS_SLOT = 0
  · obtain ⟨x, y, e⟩ := tableSwap_off (armPend_slot.trans slot)
    rw [tableArm_off slot, e, raise_fget_clears swapped off, State.fget_fput_clears _ copy, State.fget_fput_clears _ late,
      State.fget_fput_clears _ pend, State.fget_fput_clears _ arm, State.setTer_acc_fget, State.fget_fput_clears _ bank,
      State.setTer_acc_fget, State.fget_fput_clears _ pend]
  · rw [tableArm_runs slot]
    dsimp only
    split
    · rw [raise_fget_clears lateEvent off, State.fget_fput_clears _ late, State.setTer_acc_fget, State.fget_fput_clears _ pend]
    · rw [State.setTer_acc_fget, State.fget_fput_clears _ pend]

/-- What an arm while a slot runs shows. -/
theorem tableArm_runs_shows (runs : s.fget h 0 TER_STATUS_SLOT ≠ 0) :
    actBank (tableArm h s) h = actBank s h ∧ (tableArm h s).fget h 0 GRT_CTRL_TBL_ARM = s.fget h 0 GRT_CTRL_TBL_ARM ∧
    (tableArm h s).fget h 0 GRT_STATUS_ARM_PEND = 1 ∧
    ((tableArm h s).ter h).swapSlots = (s.ter h).swapSlots ++
      [if s.fon h 0 TER_STATUS_PAST_POINT then (s.ter h).slotNo + 1 else (s.ter h).slotNo] ∧
    (s.fon h 0 TER_STATUS_PAST_POINT = true →
      (tableArm h s).fget h 0 GRT_STATUS_ARM_LATE = 1 ∧ (tableArm h s).fon h 0 GRT_EVENT_TBL_LATE = true) := by
  rw [tableArm_runs runs]
  dsimp only
  split
  · refine ⟨?_, ?_, ?_, by simp -implicitDefEqProofs,
      fun _ => ⟨?_, raise_sets _ _ _ _ (by decide) (by decide) (Fld.offLoss_no _ (by decide))⟩⟩
    all_goals
      simp -implicitDefEqProofs (disch := decide) only [actBank, raise_fget_clears, State.setTer_acc_fget, State.fget_fput_clears,
        State.fget_fput_same]
    all_goals rfl
  · next early =>
    refine ⟨?_, ?_, ?_, by simp -implicitDefEqProofs, fun late => absurd late early⟩
    all_goals
      simp -implicitDefEqProofs (disch := decide) only [actBank, State.setTer_acc_fget, State.fget_fput_clears, State.fget_fput_same]
    all_goals rfl

/-- An arm leaves the tables and the Ash map. The lemmas are applied as equations, so that no two states are compared by unfolding. -/
@[simp] theorem tableArm_grts : (tableArm h s).grts = s.grts := by
  unfold tableArm tableSwap
  dsimp only
  split_ifs <;> simp -implicitDefEqProofs

@[simp] theorem tableArm_ashMap : (tableArm h s).ashMap = s.ashMap := by
  unfold tableArm tableSwap
  dsimp only
  split_ifs <;> simp -implicitDefEqProofs

/-! ### A write of GRT_CTRL (R149, R432) -/

/-- A disable of the Grate while TER is not OFF is refused (R149). -/
def grateKept (h : Nat) (was : Bool) (s : State) : State :=
  if was = true ∧ s.fon h 0 GRT_CTRL_EN = false ∧ s.fget h 0 TER_STATUS_SLOT ≠ 0 then
    (s.fput h 0 GRT_CTRL_EN 1).raise h 0 GRT_EVENT_EN_REFUSED
  else s

/-- What a write of GRT_CTRL stores, a refused disable undone. -/
def grateStored (s : State) (h : Nat) (v : Word) : State :=
  grateKept h (s.fon h 0 GRT_CTRL_EN) (stored BLK_GRT true h 0 0 v s)

theorem stored_grtEn (opn : Bool) (h : Nat) (v : Word) (s : State) : (stored BLK_GRT opn h 0 0 v s).fon h 0 GRT_CTRL_EN = v.getLsbD 0 :=
  stored_fon (f := GRT_CTRL_EN) (d := ⟨0, 1, .rw, 0, true, false⟩) rfl (by decide) rfl ⟨by decide, by decide⟩

theorem stored_tblArm (opn : Bool) (h : Nat) (v : Word) (s : State) :
    (stored BLK_GRT opn h 0 0 v s).fon h 0 GRT_CTRL_TBL_ARM = (s.fon h 0 GRT_CTRL_TBL_ARM || v.getLsbD 4) :=
  stored_fon (f := GRT_CTRL_TBL_ARM) (d := ⟨4, 1, .w1s, 0, true, false⟩) rfl (by decide) rfl ⟨by decide, by decide⟩

theorem grtAct_ctrl {c : WriteCtx} (w : c.w = 0) (s : State) : grtAct c s =
    let t := if c.fell s GRT_CTRL_EN = true ∧ s.fget c.h 0 TER_STATUS_SLOT ≠ 0 then
      (s.fput c.h 0 GRT_CTRL_EN 1).raise c.h 0 GRT_EVENT_EN_REFUSED else s
    if c.wrote GRT_CTRL_TBL_ARM = 1 then tableArm c.h t else t := if_neg (not_not.mpr w)

/-- A write of GRT_CTRL: it is stored, a disable may be refused, and TBL_ARM arms a swap. -/
theorem grtEnWrite_eq (has : s.hasH h = true) (v : Word) :
    grtEnWrite h v s = if v.getLsbD 4 = true then tableArm h (grateStored s h v) else grateStored s h v := by
  have fell (t : State) : (hostCtx s BLK_GRT h 0 0 v).fell t GRT_CTRL_EN = true ↔
      s.fon h 0 GRT_CTRL_EN = true ∧ t.fon h 0 GRT_CTRL_EN = false := by
    rw [hostCtx_fell s t h 0 GRT_CTRL_EN v, Bool.and_eq_true, Bool.not_eq_true']
  have arms : (hostCtx s BLK_GRT h 0 0 v).wrote GRT_CTRL_TBL_ARM = 1 ↔ v.getLsbD 4 = true :=
    hostCtx_wrote_one (f := GRT_CTRL_TBL_ARM) rfl (by decide)
  rw [grtEnWrite, if_pos has, hostWrite_eq, grtAct_ctrl rfl]
  simp only [fell, arms, and_assoc]
  rfl

theorem grtEnWrite_absent (no : s.hasH h = false) (v : Word) : grtEnWrite h v s = s := if_neg (Bool.eq_false_iff.mp no)

@[simp] theorem grateStored_grts : (grateStored s h v).grts = s.grts := by
  unfold grateStored grateKept
  split <;> simp -implicitDefEqProofs

@[simp] theorem grateStored_ashMap : (grateStored s h v).ashMap = s.ashMap := by
  unfold grateStored grateKept
  split <;> simp -implicitDefEqProofs

theorem grateStored_of_kept (kept : s.fon h 0 GRT_CTRL_EN = true → v.getLsbD 0 = false → s.fget h 0 TER_STATUS_SLOT = 0) :
    grateStored s h v = stored BLK_GRT true h 0 0 v s := by
  unfold grateStored grateKept
  rw [stored_grtEn, stored_fget_off (by decide)]
  exact if_neg fun ⟨on, off, runs⟩ => runs (kept on off)

theorem grateStored_of_refused (on : s.fon h 0 GRT_CTRL_EN = true) (off : v.getLsbD 0 = false)
    (runs : s.fget h 0 TER_STATUS_SLOT ≠ 0) :
    grateStored s h v = ((stored BLK_GRT true h 0 0 v s).fput h 0 GRT_CTRL_EN 1).raise h 0 GRT_EVENT_EN_REFUSED := by
  unfold grateStored grateKept
  rw [stored_grtEn, stored_fget_off (by decide)]
  exact if_pos ⟨on, off, runs⟩

/-- Words other than GRT_CTRL and GRT_EVENT stand. -/
theorem grateStored_fget_off (ctrl : g.offWord GRT_CTRL_EN = true) (event : g.offWord GRT_EVENT_EN_REFUSED = true)
    (off : g.offLossBlk = true) : (grateStored s h v).fget h 0 g = s.fget h 0 g := by
  have word : g.word < 2048 ∧ g.word ≠ 0 := by simpa [Fld.offWord] using ctrl
  have stands : (stored BLK_GRT true h 0 0 v s).fget h 0 g = s.fget h 0 g := stored_fget_off ⟨by decide, word⟩
  unfold grateStored grateKept
  split
  · rw [raise_fget_offBlk _ _ _ _ _ _ _ (by decide) event off, State.fget_fput_off _ _ _ _ _ _ _ _ ctrl, stands]
  · exact stands

theorem grateStored_refused_shows (on : s.fon h 0 GRT_CTRL_EN = true) (off : v.getLsbD 0 = false)
    (runs : s.fget h 0 TER_STATUS_SLOT ≠ 0) :
    (grateStored s h v).fon h 0 GRT_CTRL_EN = true ∧ (grateStored s h v).fon h 0 GRT_EVENT_EN_REFUSED = true := by
  rw [grateStored_of_refused on off runs]
  refine ⟨?_, raise_sets _ _ _ _ (by decide) (by decide) (Fld.offLoss_no _ (by decide))⟩
  rw [State.fon_eq, raise_fget_clears (by decide) (by decide), State.fget_fput_same _ _ _ _ _ (by decide)]
  rfl

theorem grateStored_kept_shows (kept : s.fon h 0 GRT_CTRL_EN = true → v.getLsbD 0 = false → s.fget h 0 TER_STATUS_SLOT = 0) :
    (grateStored s h v).fon h 0 GRT_CTRL_EN = v.getLsbD 0 ∧
    (grateStored s h v).fon h 0 GRT_EVENT_EN_REFUSED = s.fon h 0 GRT_EVENT_EN_REFUSED := by
  rw [grateStored_of_kept kept]
  exact ⟨stored_grtEn true h v s, by rw [State.fon_eq, State.fon_eq, stored_fget_off (by decide)]⟩

/-- The row leaves the tables and the Ash map. -/
theorem grtEnWrite_tables (has : s.hasH h = true) (v : Word) :
    (grtEnWrite h v s).grts = s.grts ∧ (grtEnWrite h v s).ashMap = s.ashMap := by
  rw [grtEnWrite_eq has]
  split <;> simp -implicitDefEqProofs

/-- An arm leaves EN and its refusal as the write has left them. -/
theorem grtEnWrite_en (has : s.hasH h = true) (v : Word) :
    (grtEnWrite h v s).fon h 0 GRT_CTRL_EN = (grateStored s h v).fon h 0 GRT_CTRL_EN ∧
    (grtEnWrite h v s).fon h 0 GRT_EVENT_EN_REFUSED = (grateStored s h v).fon h 0 GRT_EVENT_EN_REFUSED := by
  rw [grtEnWrite_eq has]
  split
  · exact ⟨by rw [State.fon_eq, tableArm_fget (by decide) (by decide), ← State.fon_eq],
      by rw [State.fon_eq, tableArm_fget (by decide) (by decide), ← State.fon_eq]⟩
  · exact ⟨rfl, rfl⟩

/-- The banks change places where the write arms a swap with TER OFF. -/
theorem grtEnWrite_bank (has : s.hasH h = true) (v : Word) : actBank (grtEnWrite h v s) h =
    if v.getLsbD 4 = true ∧ s.fget h 0 TER_STATUS_SLOT = 0 then 1 - actBank s h else actBank s h := by
  have slot : (grateStored s h v).fget h 0 TER_STATUS_SLOT = s.fget h 0 TER_STATUS_SLOT :=
    grateStored_fget_off (by decide) (by decide) (by decide)
  have bank : actBank (grateStored s h v) h = actBank s h := grateStored_fget_off (by decide) (by decide) (by decide)
  rw [grtEnWrite_eq has]
  by_cases arm : v.getLsbD 4 = true
  · by_cases off : s.fget h 0 TER_STATUS_SLOT = 0
    · rw [if_pos arm, if_pos ⟨arm, off⟩, (tableArm_off_shows (slot.trans off)).1, bank]
    · rw [if_pos arm, if_neg fun both => off both.2, (tableArm_runs_shows (slot ▸ off)).1, bank]
  · rw [if_neg arm, if_neg fun both => arm both.1, bank]

/-! ### TBL_ARM (R141) -/

/-- TBL_ARM writes GRT_CTRL with EN as it stands: the word is stored and the arm made. -/
theorem tblArm_eq (has : s.hasH h = true) : tblArm h s = tableArm h (stored BLK_GRT true h 0 0 (s.pulse h 0 BLK_GRT 0 4) s) := by
  have en : (s.pulse h 0 BLK_GRT 0 4).getLsbD 0 = s.fon h 0 GRT_CTRL_EN := by
    rw [pulse_other (by decide) (by decide) (by decide), State.fon_bit rfl]
  rw [tblArm, grtEnWrite_eq has, if_pos (pulse_same (by decide)), grateStored_of_kept fun on off => ?_]
  rw [en, on] at off
  cases off

/-- TBL_ARM written 1 reads 1 until the swap, and the words of other numbers stand. -/
theorem stored_pulse_tblArm : (stored BLK_GRT true h 0 0 (s.pulse h 0 BLK_GRT 0 4) s).fget h 0 GRT_CTRL_TBL_ARM = 1 := by
  rw [State.fget_of_len_one rfl, stored_tblArm, pulse_same (by decide), Bool.or_true]
  rfl

end

end Sys2Proof.Machine
end

section
/-! PROOFS. The table port of the Grate and the end of the bank copy (R141). -/

namespace Sys2Proof.Machine

section
variable {s : State} {h : Nat} {v : Word}

/-! ### The table port (R141) -/

theorem grtNext_lt {idx : Nat} (lt : idx < 65536) (tbl : Nat) : grtNext tbl idx < 65536 := by
  unfold grtNext
  split <;> omega

@[simp] theorem grtStep_grts : (grtStep h s).grts = s.grts := State.fput_grts ..

@[simp] theorem grtStep_out : (grtStep h s).out = s.out := State.fput_out ..

@[simp] theorem grtStep_acc_ter (h' : Nat) : (grtStep h s).ter h' = s.ter h' := State.fput_acc_ter ..

@[simp] theorem grtStep_acc_grt (h' b : Nat) : (grtStep h s).grt h' b = s.grt h' b := State.fput_acc_grt ..

/-- INDEX advances, TABLE stands. -/
theorem grtStep_addr : (grtStep h s).fget h 0 GRT_TBL_ADDR_INDEX =
      grtNext (s.fget h 0 GRT_TBL_ADDR_TABLE) (s.fget h 0 GRT_TBL_ADDR_INDEX) ∧
    (grtStep h s).fget h 0 GRT_TBL_ADDR_TABLE = s.fget h 0 GRT_TBL_ADDR_TABLE :=
  ⟨State.fget_fput_of_lt (by decide) (grtNext_lt (State.fget_lt s h 0 GRT_TBL_ADDR_INDEX) _), State.fget_fput_clears _ (by decide)⟩

theorem grtHas_iff (tbl idx : Nat) : grtHas tbl idx = true ↔ tbl ≤ 4 ∧ idx ≤ grtLast tbl := by
  simp [grtHas]

/-- An access changes the tables and what is sent alone. -/
theorem grtAt_shape (h tbl idx : Nat) (w : Option Nat) (s : State) :
    grtAt h tbl idx w s = { s with grts := (grtAt h tbl idx w s).grts, out := (grtAt h tbl idx w s).out } := by
  unfold grtAt
  dsimp only
  split
  · split <;> rfl
  · rfl

@[simp] theorem grtAt_acc_fget (tbl idx : Nat) (w : Option Nat) (h' i : Nat) (g : Fld) :
    (grtAt h tbl idx w s).fget h' i g = s.fget h' i g := by
  rw [grtAt_shape]
  rfl

@[simp] theorem grtAt_acc_ter (tbl idx : Nat) (w : Option Nat) (h' : Nat) : (grtAt h tbl idx w s).ter h' = s.ter h' := by
  rw [grtAt_shape]
  rfl

@[simp] theorem actBank_grtAt (tbl idx : Nat) (w : Option Nat) : actBank (grtAt h tbl idx w s) h = actBank s h := grtAt_acc_fget _ _ _ _ _ _

/-- What an access leaves of a bank it writes. -/
def grtWritten (t : Tab Nat) (tbl idx : Nat) (w : Option Nat) : Tab Nat :=
  match w with
  | some v => if grtHas tbl idx then tabSet dfltGrt t (65536 * tbl + idx) (v % grtMask tbl) else t
  | none => t

theorem State.grt_setGrt_ne {b b' : Nat} (t : Tab Nat) (n : b' ≠ b) : (s.setGrt h b t).grt h b' = s.grt h b' :=
  tabGet_tabSet_ne _ _ _ (by omega)

/-- An access writes the shadow bank. -/
theorem grtAt_shadow (tbl idx : Nat) (w : Option Nat) :
    (grtAt h tbl idx w s).grt h (1 - actBank s h) = grtWritten (s.grt h (1 - actBank s h)) tbl idx w := by
  unfold grtAt grtWritten
  cases w with
  | none => rfl
  | some v =>
    dsimp only
    split
    · exact State.setGrt_same ..
    · rfl

theorem grtAt_active (tbl idx : Nat) (w : Option Nat) : (grtAt h tbl idx w s).grt h (actBank s h) = s.grt h (actBank s h) := by
  have other : actBank s h ≠ 1 - actBank s h := by omega
  unfold grtAt
  cases w with
  | none => rfl
  | some v =>
    dsimp only
    split
    · exact State.grt_setGrt_ne _ other
    · rfl

theorem grtAt_write_outside {tbl idx v : Nat} (out : grtHas tbl idx = false) : grtAt h tbl idx (some v) s = s :=
  if_neg (Bool.eq_false_iff.mp out)

/-- A written entry reads back, and the other entries stand. -/
theorem grtWritten_get (t : Tab Nat) {tbl idx : Nat} (v : Nat) (has : grtHas tbl idx = true) :
    tabGet dfltGrt (grtWritten t tbl idx (some v)) (65536 * tbl + idx) = v % grtMask tbl ∧
    ∀ k, k ≠ 65536 * tbl + idx → tabGet dfltGrt (grtWritten t tbl idx (some v)) k = tabGet dfltGrt t k := by
  have written : grtWritten t tbl idx (some v) = tabSet dfltGrt t (65536 * tbl + idx) (v % grtMask tbl) := if_pos has
  rw [written]
  exact ⟨tabGet_tabSet_same _ _ _ _, fun k n => tabGet_tabSet_ne _ _ _ n⟩

/-- Outside the copy the shadow entry is that of the shadow bank. -/
theorem grtShadow_eq (idle : s.fon h 0 GRT_STATUS_COPY = false) (tbl idx : Nat) : grtShadow s h tbl idx =
    if tbl ≤ 4 ∧ idx ≤ grtLast tbl then tabGet dfltGrt (s.grt h (1 - actBank s h)) (65536 * tbl + idx) else 0 := by
  unfold grtShadow
  simp only [← grtHas_iff, idle]
  cases grtHas tbl idx <;> rfl

/-- During the copy an access to DATA is held at INDEX. -/
theorem grtDataAccess_held (has : s.hasH h = true) (copies : s.fon h 0 GRT_STATUS_COPY = true) (w : Option Word) :
    grtDataAccess h w s = grtStep h (s.setTer h { s.ter h with held := (s.ter h).held ++
      [(s.fget h 0 GRT_TBL_ADDR_TABLE, s.fget h 0 GRT_TBL_ADDR_INDEX,
        w.map fun v => v.toNat % grtMask (s.fget h 0 GRT_TBL_ADDR_TABLE))] }) := by
  have reached (tbl idx : Nat) (w : Option Nat) : grtReach h tbl idx w s =
      s.setTer h { s.ter h with held := (s.ter h).held ++ [(tbl, idx, w.map (· % grtMask tbl))] } := if_pos copies
  rw [grtDataAccess, if_neg (by simp [has]), reached, Option.map_map]
  rfl

/-- Outside the copy an access to DATA acts at INDEX. -/
theorem grtDataAccess_acts (has : s.hasH h = true) (idle : s.fon h 0 GRT_STATUS_COPY = false) (w : Option Word) :
    grtDataAccess h w s =
      grtStep h (grtAt h (s.fget h 0 GRT_TBL_ADDR_TABLE) (s.fget h 0 GRT_TBL_ADDR_INDEX) (w.map BitVec.toNat) s) := by
  have reached (tbl idx : Nat) (w : Option Nat) : grtReach h tbl idx w s = grtAt h tbl idx w s := if_neg (by simp [idle])
  rw [grtDataAccess, if_neg (by simp [has]), reached]

theorem grtDataAccess_absent (no : s.hasH h = false) (w : Option Word) : grtDataAccess h w s = s := if_pos (by simp [no])

/-! ### The end of the copy (R141) -/

/-- The accesses held during the copy, acting in order. -/
def heldActs (h : Nat) (es : List (Nat × Nat × Option Nat)) (s : State) : State := forEach es (fun e s => grtAt h e.1 e.2.1 e.2.2 s) s

@[simp] theorem heldActs_fget (es : List (Nat × Nat × Option Nat)) (h' i : Nat) (g : Fld) (s : State) :
    (heldActs h es s).fget h' i g = s.fget h' i g := by
  induction es generalizing s with
  | nil => rfl
  | cons e es ih => exact (ih _).trans (grtAt_acc_fget ..)

@[simp] theorem heldActs_ter (es : List (Nat × Nat × Option Nat)) (h' : Nat) (s : State) : (heldActs h es s).ter h' = s.ter h' := by
  induction es generalizing s with
  | nil => rfl
  | cons e es ih => exact (ih _).trans (grtAt_acc_ter ..)

/-- The shadow bank takes every held write in order, the active bank none. -/
theorem heldActs_grt (es : List (Nat × Nat × Option Nat)) (s : State) :
    (heldActs h es s).grt h (actBank s h) = s.grt h (actBank s h) ∧
    (heldActs h es s).grt h (1 - actBank s h) = es.foldl (fun t e => grtWritten t e.1 e.2.1 e.2.2) (s.grt h (1 - actBank s h)) := by
  induction es generalizing s with
  | nil => exact ⟨rfl, rfl⟩
  | cons e es ih =>
    obtain ⟨active, shadow⟩ := ih (grtAt h e.1 e.2.1 e.2.2 s)
    rw [actBank_grtAt] at active shadow
    rw [grtAt_shadow] at shadow
    exact ⟨active.trans (grtAt_active ..), shadow⟩

theorem tableCopyDone_eq (has : s.hasH h = true) (copies : s.fon h 0 GRT_STATUS_COPY = true) : tableCopyDone h s =
    heldActs h (s.ter h).held (((s.setGrt h (1 - actBank s h) (s.grt h (actBank s h))).fput h 0 GRT_STATUS_COPY 0).setTer h
      { s.ter h with held := [] }) := if_pos (by rw [has, copies]; rfl)

theorem tableCopyDone_of_none (none : (s.hasH h && s.fon h 0 GRT_STATUS_COPY) = false) : tableCopyDone h s = s :=
  if_neg (by simp [none])

end

/-! ### What the rows show -/

/-- The rows of a hearth that the part does not have change nothing. -/
theorem tableRows_absent {s : State} {h : Nat} (no : s.hasH h = false) :
    exec (.tblArm h) s = .next (settle s) ∧ exec (.tableCopyDone h) s = .next (settle s) ∧
    ∀ w, exec (.grtTblDataAccess h w) s = .next (settle s) :=
  ⟨congrArg settled (grtEnWrite_absent no _), congrArg settled (tableCopyDone_of_none (by rw [no]; rfl)),
    fun w => congrArg settled (grtDataAccess_absent no w)⟩

theorem tableCopyDone_shows {s : State} {h : Nat} (has : s.hasH h = true) (copies : s.fon h 0 GRT_STATUS_COPY = true) :
    (tableCopyDone h s).fget h 0 GRT_STATUS_COPY = 0 ∧ ((tableCopyDone h s).ter h).held = [] ∧
    actBank (tableCopyDone h s) h = actBank s h ∧ (tableCopyDone h s).grt h (actBank s h) = s.grt h (actBank s h) ∧
    (tableCopyDone h s).grt h (1 - actBank s h) =
      (s.ter h).held.foldl (fun t e => grtWritten t e.1 e.2.1 e.2.2) (s.grt h (actBank s h)) := by
  have other : actBank s h ≠ 1 - actBank s h := by omega
  rw [tableCopyDone_eq has copies]
  generalize ht : ((s.setGrt h (1 - actBank s h) (s.grt h (actBank s h))).fput h 0 GRT_STATUS_COPY 0).setTer h
      { s.ter h with held := [] } = t
  have bank : actBank t h = actBank s h := by
    rw [← ht, actBank, State.setTer_acc_fget, State.fget_fput_clears _ (by decide), State.setGrt_acc_fget, actBank]
  obtain ⟨active, shadow⟩ := heldActs_grt (h := h) (s.ter h).held t
  rw [bank] at active shadow
  refine ⟨?_, ?_, (heldActs_fget ..).trans bank, active.trans ?_, shadow.trans ?_⟩
  · rw [heldActs_fget, ← ht, State.setTer_acc_fget, State.fget_fput_same _ _ _ _ _ (by decide)]
    rfl
  · rw [heldActs_ter, ← ht, State.setTer_same]
  · rw [← ht, State.setTer_acc_grt, State.fput_acc_grt, State.grt_setGrt_ne _ other]
  · rw [← ht, State.setTer_acc_grt, State.fput_acc_grt, State.setGrt_same]

/-- What an access to DATA shows during the copy. -/
theorem grtDataAccess_held_shows {s : State} {h : Nat} (has : s.hasH h = true) (copies : s.fon h 0 GRT_STATUS_COPY = true)
    (w : Option Word) :
    let t := grtDataAccess h w s
    let tbl := s.fget h 0 GRT_TBL_ADDR_TABLE
    let idx := s.fget h 0 GRT_TBL_ADDR_INDEX
    (t.ter h).held = (s.ter h).held ++ [(tbl, idx, w.map fun v => v.toNat % grtMask tbl)] ∧ t.grts = s.grts ∧ t.out = s.out ∧
    t.fget h 0 GRT_TBL_ADDR_INDEX = grtNext tbl idx ∧ t.fget h 0 GRT_TBL_ADDR_TABLE = tbl := by
  dsimp only
  rw [grtDataAccess_held has copies]
  obtain ⟨index, table⟩ := grtStep_addr (h := h) (s := s.setTer h { s.ter h with held := (s.ter h).held ++
    [(s.fget h 0 GRT_TBL_ADDR_TABLE, s.fget h 0 GRT_TBL_ADDR_INDEX, w.map fun v => v.toNat % grtMask (s.fget h 0 GRT_TBL_ADDR_TABLE))] })
  rw [State.setTer_acc_fget, State.setTer_acc_fget] at index
  rw [State.setTer_acc_fget] at table
  exact ⟨by rw [grtStep_acc_ter, State.setTer_same], by rw [grtStep_grts, State.setTer_grts],
    by rw [grtStep_out, State.setTer_out], index, table⟩

/-- Outside the copy an access to DATA advances INDEX. -/
theorem grtDataAccess_addr {s : State} {h : Nat} (has : s.hasH h = true) (idle : s.fon h 0 GRT_STATUS_COPY = false) (w : Option Word) :
    (grtDataAccess h w s).fget h 0 GRT_TBL_ADDR_INDEX =
      grtNext (s.fget h 0 GRT_TBL_ADDR_TABLE) (s.fget h 0 GRT_TBL_ADDR_INDEX) ∧
    (grtDataAccess h w s).fget h 0 GRT_TBL_ADDR_TABLE = s.fget h 0 GRT_TBL_ADDR_TABLE := by
  rw [grtDataAccess_acts has idle]
  obtain ⟨index, table⟩ := grtStep_addr (h := h)
    (s := grtAt h (s.fget h 0 GRT_TBL_ADDR_TABLE) (s.fget h 0 GRT_TBL_ADDR_INDEX) (w.map BitVec.toNat) s)
  rw [grtAt_acc_fget, grtAt_acc_fget] at index
  rw [grtAt_acc_fget] at table
  exact ⟨index, table⟩

/-- A write of DATA outside the copy writes the shadow entry at INDEX, where the table has one. -/
theorem grtDataAccess_write_shows {s : State} {h : Nat} (has : s.hasH h = true) (idle : s.fon h 0 GRT_STATUS_COPY = false) (v : Word) :
    let t := grtDataAccess h (some v) s
    let tbl := s.fget h 0 GRT_TBL_ADDR_TABLE
    let idx := s.fget h 0 GRT_TBL_ADDR_INDEX
    t.grt h (actBank s h) = s.grt h (actBank s h) ∧
    t.grt h (1 - actBank s h) = grtWritten (s.grt h (1 - actBank s h)) tbl idx (some v.toNat) ∧
    ((4 < tbl ∨ grtLast tbl < idx) → t.grts = s.grts) := by
  dsimp only
  rw [grtDataAccess_acts has idle]
  refine ⟨(grtStep_acc_grt ..).trans (grtAt_active ..), (grtStep_acc_grt ..).trans (grtAt_shadow ..), fun outside => ?_⟩
  have none : grtHas (s.fget h 0 GRT_TBL_ADDR_TABLE) (s.fget h 0 GRT_TBL_ADDR_INDEX) = false := by
    rw [Bool.eq_false_iff, ne_eq, grtHas_iff]
    omega
  rw [grtStep_grts, Option.map_some, grtAt_write_outside none]

/-- A read of DATA outside the copy sends the shadow entry at INDEX. -/
theorem grtDataAccess_read_out {s : State} {h : Nat} (has : s.hasH h = true) (idle : s.fon h 0 GRT_STATUS_COPY = false) :
    (grtDataAccess h none s).out = .tableRead h BLK_GRT (BitVec.ofNat 32
      (grtShadow s h (s.fget h 0 GRT_TBL_ADDR_TABLE) (s.fget h 0 GRT_TBL_ADDR_INDEX))) :: s.out ∧
    (grtDataAccess h none s).grts = s.grts := by
  rw [grtDataAccess_acts has idle]
  exact ⟨rfl, rfl⟩

/-! ### Obligation -/

/-- Settles O32: an arm acts by where TER stands; the end of the copy runs the held accesses in order; an access to DATA is held or acts
at INDEX; a write of GRT_CTRL is stored, its disable refused where TER is not OFF, and its TBL_ARM is an arm. -/
theorem tableSwapTablePortAndGrateDisable : Obligations.TableSwapTablePortAndGrateDisable := by
  refine ⟨fun s h => ⟨tableRows_absent, fun has => ?_⟩,
    fun s h v => ⟨fun no => congrArg settled (grtEnWrite_absent no v), fun has => ?_⟩⟩
  · have arm : exec (.tblArm h) s = .next (settle _) := congrArg settled (tblArm_eq has)
    have slot : (stored BLK_GRT true h 0 0 (s.pulse h 0 BLK_GRT 0 4) s).fget h 0 TER_STATUS_SLOT = s.fget h 0 TER_STATUS_SLOT :=
      stored_fget_off (by decide)
    have bank : actBank (stored BLK_GRT true h 0 0 (s.pulse h 0 BLK_GRT 0 4) s) h = actBank s h := stored_fget_off (by decide)
    have past : (stored BLK_GRT true h 0 0 (s.pulse h 0 BLK_GRT 0 4) s).fon h 0 TER_STATUS_PAST_POINT =
        s.fon h 0 TER_STATUS_PAST_POINT := by rw [State.fon_eq, State.fon_eq, stored_fget_off (by decide)]
    refine ⟨fun off => ?swaps, fun runs early => ?waits, fun runs late => ?waitsLate, fun idle => ?noCopy, fun copies => ?copied,
      fun w copies => ?held, fun v idle => ?written, fun idle => ?read⟩
    case swaps =>
      obtain ⟨swapped, copy, done, pend, event⟩ := tableArm_off_shows (slot.trans off)
      exact ⟨_, arm, swapped.trans (by rw [bank]), copy, done, pend, event, by simp⟩
    case waits =>
      obtain ⟨still, armed, pend, slots, -⟩ := tableArm_runs_shows (slot ▸ runs)
      rw [past, early, stored_ter] at slots
      exact ⟨_, arm, slots, still.trans bank, armed.trans stored_pulse_tblArm, pend, by simp⟩
    case waitsLate =>
      obtain ⟨still, armed, pend, slots, shown⟩ := tableArm_runs_shows (slot ▸ runs)
      rw [past, late, stored_ter] at slots
      obtain ⟨lateShown, event⟩ := shown (past.trans late)
      exact ⟨_, arm, slots, still.trans bank, armed.trans stored_pulse_tblArm, pend, lateShown, event, by simp⟩
    case noCopy => exact congrArg settled (tableCopyDone_of_none (by rw [idle, Bool.and_false]))
    case copied => exact ⟨_, rfl, tableCopyDone_shows has copies⟩
    case held => exact ⟨_, rfl, grtDataAccess_held_shows has copies w⟩
    case written =>
      obtain ⟨active, shadow, outside⟩ := grtDataAccess_write_shows has idle v
      refine ⟨_, rfl, active, fun table index => ?_, outside, grtDataAccess_addr has idle _⟩
      rw [shadow]
      exact grtWritten_get _ _ ((grtHas_iff _ _).mpr ⟨table, index⟩)
    case read =>
      obtain ⟨sent, tables⟩ := grtDataAccess_read_out has idle
      rw [grtShadow_eq idle] at sent
      exact ⟨_, rfl, tables, sent, grtDataAccess_addr has idle _⟩
  · obtain ⟨tables, ash⟩ := grtEnWrite_tables has v
    obtain ⟨en, refusal⟩ := grtEnWrite_en has v
    refine ⟨_, rfl, tables, ash, fun on off runs => ?refused, fun kept => ?kept, fun stays => ?stays, fun arms off => ?swaps⟩
    case refused =>
      rw [en, refusal]
      exact grateStored_refused_shows on off runs
    case kept =>
      rw [en, refusal]
      refine grateStored_kept_shows fun on off => ?_
      exact kept.elim (fun no => absurd on (Bool.eq_false_iff.mp no)) fun kept =>
        kept.elim (fun set => absurd set (Bool.eq_false_iff.mp off)) id
    case stays =>
      rw [grtEnWrite_bank has, if_neg]
      rintro ⟨arms, off⟩
      exact stays.elim (fun no => absurd arms (Bool.eq_false_iff.mp no)) fun runs => runs off
    case swaps => rw [grtEnWrite_bank has, if_pos ⟨arms, off⟩]

end Sys2Proof.Machine
end

section
/-! PROOFS. Ash map pushes and flush (R146 to R148), and arming privileged values (R139). -/

namespace Sys2Proof.Machine

section
variable {s : State} {h col : Nat} {g : Fld}

/-! ### A push (R146, R148) -/

/-- A push takes its line and its entry from the words that stand. -/
theorem ashUpdPush_eq (has : s.hasH h = true) (col : Nat) :
    ashUpdPush h col s = (ashPush h (col % 65536) (s.get64 h 0 ASH_UPD_LINE_LO) (s.rd h 0 BLK_ASH ASH_UPD_ENTRY.word)
      (stored BLK_ASH true h 0 ASH_UPD_PUSH.word (BitVec.ofNat 32 col) s)).1 := by
  have column : (hostCtx s BLK_ASH h 0 ASH_UPD_PUSH.word (BitVec.ofNat 32 col)).wrote ASH_UPD_PUSH_V = col % 65536 := by
    rw [hostCtx_wrote (f := ASH_UPD_PUSH_V) (by decide), BitVec.toNat_ofNat]
    show col % 2 ^ 32 % 2 ^ 16 = col % 65536
    omega
  have acts {c : WriteCtx} (w : c.w = ASH_UPD_PUSH.word) (t : State) : ashAct c t =
      (ashPush c.h (c.wrote ASH_UPD_PUSH_V) (t.get64 c.h 0 ASH_UPD_LINE_LO) (t.rd c.h 0 BLK_ASH ASH_UPD_ENTRY.word) t).1 := by
    simp [ashAct, w]
  rw [ashUpdPush, if_pos has, hostWrite_eq, acts rfl, column]
  dsimp only [hostCtx]
  rw [stored_get64_off (by decide), stored_rd_off (by decide)]
  rfl

/-- A counter that steps with its event: the count shows, the event is on, the other fields of the unit stand. -/
theorem counted_event_shows {f e : Fld} (whole : f.lo = 0 ∧ f.len = 32) (apart : f.clears e) (off : f.offLoss = true)
    (event : e.lo + e.len ≤ 32 ∧ 1 ≤ e.len ∧ e.offLoss = true) :
    ((s.count h 0 f).raise h 0 e).fget h 0 f = satAdd32 (s.fget h 0 f) 1 ∧ ((s.count h 0 f).raise h 0 e).fon h 0 e = true ∧
    ∀ g : Fld, g.clears f → g.clears e → g.offLoss = true → ((s.count h 0 f).raise h 0 e).fget h 0 g = s.fget h 0 g :=
  ⟨by rw [raise_fget_clears apart off, State.fget_count _ whole],
    raise_sets _ _ _ _ event.1 event.2.1 (Fld.offLoss_no _ event.2.2),
    fun _ cf ce og => by rw [raise_fget_clears ce og, State.count_eq, State.fget_fput_clears _ cf]⟩

theorem ashPush_of_bad (line : Nat) (e : Word) (bad : columns ≤ col) :
    (ashPush h col line e s).1 = (s.count h 0 ASH_BAD).raise h 0 ASH_EVENT_BAD := by
  unfold ashPush
  dsimp only
  rw [if_pos bad]

theorem ashPush_of_full (line : Nat) (e : Word) (good : col < columns)
    (full : s.fon h 0 ASH_CTRL_Q_EN = false ∨ 256 ≤ (s.ter h).ashQ.length) :
    (ashPush h col line e s).1 = (s.count h 0 ASH_OVF).raise h 0 ASH_EVENT_OVF := by
  unfold ashPush
  dsimp only
  rw [if_neg (by omega), if_pos (by simpa using full)]

/-- A push out of order is counted. -/
def ashOrdered (h line : Nat) (s : State) : State :=
  if line < (s.ter h).ashLast then (s.count h 0 ASH_ORDER).raise h 0 ASH_EVENT_ORDER else s

theorem ashPush_of_room (line : Nat) (e : Word) (good : col < columns) (on : s.fon h 0 ASH_CTRL_Q_EN = true)
    (room : (s.ter h).ashQ.length < 256) : (ashPush h col line e s).1 =
      ashShow h ((ashOrdered h line s).setTer h { (ashOrdered h line s).ter h with
        ashQ := (s.ter h).ashQ ++ [(col, e, line)], ashLast := line }) := by
  unfold ashPush
  dsimp only
  rw [if_neg (by omega), if_neg (by simp [on, room])]
  rfl

@[simp] theorem ashShow_ter (h' : Nat) : (ashShow h s).ter h' = s.ter h' :=
  (State.fput_acc_ter ..).trans (State.fput_acc_ter ..)

@[simp] theorem ashShow_ashMap : (ashShow h s).ashMap = s.ashMap :=
  (State.fput_ashMap ..).trans (State.fput_ashMap ..)

theorem ashShow_fget (c : g.clears ASH_STATUS_DEPTH ∧ g.clears ASH_STATUS_FULL) : (ashShow h s).fget h 0 g = s.fget h 0 g :=
  (State.fget_fputB_clears _ c.2).trans (State.fget_fput_clears _ c.1)

@[simp] theorem ashOrdered_ashMap (line : Nat) : (ashOrdered h line s).ashMap = s.ashMap := by
  unfold ashOrdered
  split <;> simp -implicitDefEqProofs

theorem ashOrdered_shows {line : Nat} (early : line < (s.ter h).ashLast) :
    (ashOrdered h line s).fget h 0 ASH_ORDER = satAdd32 (s.fget h 0 ASH_ORDER) 1 ∧
    (ashOrdered h line s).fon h 0 ASH_EVENT_ORDER = true := by
  obtain ⟨counts, event, -⟩ := counted_event_shows (s := s) (h := h) (f := ASH_ORDER) (e := ASH_EVENT_ORDER) (by decide) (by decide)
    (by decide) (by decide)
  rw [ashOrdered, if_pos early]
  exact ⟨counts, event⟩

/-- What a push shows that finds room: its entry at the end of the queue, and its count where it is out of order. -/
theorem ashPush_room_shows (line : Nat) (e : Word) (good : col < columns) (on : s.fon h 0 ASH_CTRL_Q_EN = true)
    (room : (s.ter h).ashQ.length < 256) :
    let t := (ashPush h col line e s).1
    (t.ter h).ashQ = (s.ter h).ashQ ++ [(col, e, line)] ∧ t.ashMap = s.ashMap ∧ (line < (s.ter h).ashLast →
      t.fget h 0 ASH_ORDER = satAdd32 (s.fget h 0 ASH_ORDER) 1 ∧ t.fon h 0 ASH_EVENT_ORDER = true) := by
  dsimp only
  rw [ashPush_of_room line e good on room]
  refine ⟨by simp -implicitDefEqProofs, by simp -implicitDefEqProofs, fun early => ?_⟩
  obtain ⟨counts, event⟩ := ashOrdered_shows early
  rw [State.fon_eq, ashShow_fget (by decide), ashShow_fget (by decide), State.setTer_acc_fget, State.setTer_acc_fget]
  exact ⟨counts, event⟩

/-! ### FLUSH (R148) -/

theorem ashCtrlFlush_eq (has : s.hasH h = true) :
    ashCtrlFlush h s = ashFlush h (stored BLK_ASH true h 0 0 (s.pulse h 0 BLK_ASH 0 1) s) := by
  have flush : (hostCtx s BLK_ASH h 0 0 (s.pulse h 0 BLK_ASH 0 1)).wrote ASH_CTRL_FLUSH = 1 :=
    (hostCtx_wrote_one (f := ASH_CTRL_FLUSH) rfl (by decide)).mpr (pulse_same (by decide))
  have acts {c : WriteCtx} (w : c.w = 0) (flush : c.wrote ASH_CTRL_FLUSH = 1) (t : State) : ashAct c t = ashFlush c.h t := by
    simp [ashAct, w, flush]
  rw [ashCtrlFlush, if_pos has, hostWrite_eq, acts rfl flush]
  rfl

theorem satAdd32_zero {a : Nat} (lt : a < 2 ^ 32) : satAdd32 a 0 = a := Nat.min_eq_left (by omega)

/-- Every discarded entry counts in ASH_OVF; no entry, no count. -/
theorem ashFlush_shows : ((ashFlush h s).ter h).ashQ = [] ∧ (ashFlush h s).ashMap = s.ashMap ∧
    (ashFlush h s).fget h 0 ASH_OVF = satAdd32 (s.fget h 0 ASH_OVF) (s.ter h).ashQ.length := by
  unfold ashFlush
  dsimp only
  rw [ashShow_ter, ashShow_ashMap, ashShow_fget (by decide)]
  split
  · next none =>
    exact ⟨by simp -implicitDefEqProofs, rfl, by rw [State.setTer_acc_fget, none, satAdd32_zero (State.fget_lt s h 0 ASH_OVF)]⟩
  · exact ⟨by simp -implicitDefEqProofs, rfl, by rw [State.fget_count _ (by decide), State.setTer_acc_fget]⟩

/-! ### Arming privileged values (R139) -/

theorem privArmWrite_eq (has : s.hasH h = true) : privArmWrite h s =
    privArmAt h (s.get64 h 0 TER_PRIV_LINE_LO) (stored BLK_TER true h 0 TER_PRIV_CTRL.word 1 s) := by
  have arm : (hostCtx s BLK_TER h 0 TER_PRIV_CTRL.word 1).wrote TER_PRIV_CTRL_ARM = 1 :=
    (hostCtx_wrote_one (f := TER_PRIV_CTRL_ARM) rfl (by decide)).mpr (by decide)
  have acts {c : WriteCtx} (w : c.w = TER_PRIV_CTRL.word) (arm : c.wrote TER_PRIV_CTRL_ARM = 1) (t : State) :
      terAct c t = privArmAt c.h (t.get64 c.h 0 TER_PRIV_LINE_LO) t := by
    simp [terAct, w, arm]
  rw [privArmWrite, if_pos has, hostWrite_eq, acts rfl arm]
  dsimp only [hostCtx]
  rw [stored_get64_off (by decide)]
  rfl

/-- What an arm captures, and what it shows. -/
theorem privArmAt_shows (line : Nat) :
    ((privArmAt h line s).ter h).privArm = some (max (lnum s h + 3) line, hearthWords h s.staged) ∧
    (privArmAt h line s).fget h 0 TER_STATUS_PRIV_PEND = 1 ∧
    (line < lnum s h + 3 → (privArmAt h line s).fon h 0 TER_EVENT_PRIV_LATE = true) := by
  have pend {t : State} : (t.fput h 0 TER_STATUS_PRIV_PEND 1).fget h 0 TER_STATUS_PRIV_PEND = 1 :=
    State.fget_fput_of_lt (by decide) (by decide)
  unfold privArmAt
  dsimp only
  split
  · refine ⟨by simp -implicitDefEqProofs, ?_, fun _ => raise_sets _ _ _ _ (by decide) (by decide) (Fld.offLoss_no _ (by decide))⟩
    rw [raise_fget_offBlk _ _ _ _ _ _ _ (by decide) (by decide) (by decide), State.setTer_acc_fget, pend]
  · next early => exact ⟨by simp -implicitDefEqProofs, by rw [State.setTer_acc_fget, pend], fun late => absurd late early⟩

end

/-! ### Obligation -/

/-- Settles O33: a push counts for its first cause or is queued, FLUSH empties the queue, and an arm captures the staged words. -/
theorem ashQueueAndPrivilegedArm : Obligations.AshQueueAndPrivilegedArm := by
  refine ⟨fun s h has => ?_, fun s h has => ?_⟩
  · have push {col : Nat} (lt : col < 65536) : exec (.ashUpdPush h col) s = .next (settle _) :=
      congrArg settled ((ashUpdPush_eq has col).trans (by rw [Nat.mod_eq_of_lt lt]))
    have stands {w : Nat} {v : Word} {g : Fld} (n : w < 2048 ∧ g.word < 2048 ∧ g.word ≠ w) :
        (stored BLK_ASH true h 0 w v s).fget h 0 g = s.fget h 0 g := stored_fget_off n
    have qEn (v : Word) : (stored BLK_ASH true h 0 ASH_UPD_PUSH.word v s).fon h 0 ASH_CTRL_Q_EN = s.fon h 0 ASH_CTRL_Q_EN := by
      rw [State.fon_eq, State.fon_eq, stands (by decide)]
    refine ⟨fun col bad lt => ⟨_, push lt, ?bad⟩, fun col good full => ⟨_, push (by omega), ?full⟩,
      fun col good on room => ⟨_, push (by omega), ?room⟩, ⟨_, congrArg settled (ashCtrlFlush_eq has), ?flush⟩⟩
    case bad =>
      rw [ashPush_of_bad _ _ bad]
      obtain ⟨counts, event, others⟩ := counted_event_shows (h := h) (f := ASH_BAD) (e := ASH_EVENT_BAD) (by decide) (by decide)
        (by decide) (by decide)
      exact ⟨by simp -implicitDefEqProofs, counts.trans (by rw [stands (by decide)]),
        (others ASH_OVF (by decide) (by decide) (by decide)).trans (stands (by decide)), event⟩
    case full =>
      rw [ashPush_of_full _ _ (Nat.lt_succ_of_le good) (by rwa [qEn, stored_ter])]
      obtain ⟨counts, event, others⟩ := counted_event_shows (h := h) (f := ASH_OVF) (e := ASH_EVENT_OVF) (by decide) (by decide)
        (by decide) (by decide)
      exact ⟨by simp -implicitDefEqProofs, counts.trans (by rw [stands (by decide)]),
        (others ASH_BAD (by decide) (by decide) (by decide)).trans (stands (by decide)), event⟩
    case room =>
      obtain ⟨queued, ash, ordered⟩ := ashPush_room_shows (s := stored BLK_ASH true h 0 ASH_UPD_PUSH.word (BitVec.ofNat 32 col) s)
        (h := h) (s.get64 h 0 ASH_UPD_LINE_LO) (s.rd h 0 BLK_ASH ASH_UPD_ENTRY.word) (Nat.lt_succ_of_le good) ((qEn _).trans on)
        (by rwa [stored_ter])
      rw [stored_ter, stands (by decide)] at ordered
      rw [stored_ter] at queued
      exact ⟨queued, ash.trans stored_ashMap, ordered⟩
    case flush =>
      obtain ⟨empty, ash, counts⟩ := ashFlush_shows (s := stored BLK_ASH true h 0 0 (s.pulse h 0 BLK_ASH 0 1) s) (h := h)
      rw [stands (by decide), stored_ter] at counts
      exact ⟨empty, counts, ash.trans stored_ashMap⟩
  · obtain ⟨captured, pend, late⟩ := privArmAt_shows (s := stored BLK_TER true h 0 TER_PRIV_CTRL.word 1 s) (h := h)
      (s.get64 h 0 TER_PRIV_LINE_LO)
    have line : lnum (stored BLK_TER true h 0 TER_PRIV_CTRL.word 1 s) h = lnum s h := stored_get64_off (by decide)
    rw [line] at captured late
    rw [stored_staged (by decide)] at captured
    exact ⟨_, congrArg settled (privArmWrite_eq has), captured, pend, late⟩

end Sys2Proof.Machine
end

section
/-! PROOFS. The Grate's procedure for one line (R142 to R145): levels are at most 3, and masked columns stay silent. -/

namespace Sys2Proof.Machine

/-- A level is at most 3, and 0 in a masked column. -/
def LevelOk (g : GrateIn) (x l : Nat) : Prop := l ≤ 3 ∧ (2 ≤ ashState (g.ash x) → l = 0)

/-- Every level of an array of `n` columns is at most 3, and 0 where its column is masked. -/
def LevelsOk (g : GrateIn) (n : Nat) (lvl : Array Nat) : Prop := lvl.size = n ∧ ∀ x l, lvl[x]? = some l → LevelOk g x l

section
variable {g : GrateIn} {cols : Array Col} {n : Nat}

theorem b2n_le_one (b : Bool) : b2n b ≤ 1 := by cases b <;> decide

/-- A column's own level (R142): a FIXED one is given, any other passes three thresholds. -/
theorem decide1_ok {k : Col} (fixed : ∀ l, k.fl = some l → l ≤ 3) (yp x : Nat) : LevelOk g x (decide1 g cols yp x k) := by
  unfold decide1
  dsimp only
  split
  · exact ⟨by omega, fun _ => rfl⟩
  · next live =>
    refine ⟨?_, fun masked => absurd (.inr masked) live⟩
    split
    · next l e => exact fixed l e
    · next =>
      have (a b c : Bool) : b2n a + b2n b + b2n c ≤ 3 := by
        have := b2n_le_one a
        have := b2n_le_one b
        have := b2n_le_one c
        omega
      exact this _ _ _

/-- A column that takes a drop is not masked. -/
theorem not_masked_of_canTake {y : Nat} (takes : canTake g cols y = true) : ¬ 2 ≤ ashState (g.ash y) := by
  unfold canTake at takes
  split at takes
  · cases takes
  · simp only [Bool.and_eq_true, decide_eq_true_eq] at takes
    omega

/-- A drop given to a column that takes it keeps the levels within their bounds. -/
theorem LevelsOk.give {lvl : Array Nat} (ok : LevelsOk g n lvl) {y : Nat} (takes : canTake g cols y = true) (v : Nat) :
    LevelsOk g n (lvl.setIfInBounds y (min 3 v)) := by
  obtain ⟨size, levels⟩ := ok
  refine ⟨by rw [Array.size_setIfInBounds, size], fun x l e => ?_⟩
  rw [Array.getElem?_setIfInBounds] at e
  split at e
  · next same =>
    subst same
    split at e
    · cases e
      exact ⟨by omega, fun masked => absurd masked (not_masked_of_canTake takes)⟩
    · cases e
  · exact levels x l e

/-- One column of the drop lending pass (R144): it gives its drop to a neighbour that takes it, or loses it. -/
theorem LevelsOk.dlend1 {o : GrateOut} (ok : LevelsOk g n o.lvl) (x : Nat) : LevelsOk g n (dlend1 g cols x o).lvl := by
  unfold Machine.dlend1
  split
  · exact ok
  · dsimp only
    split
    · exact ok
    · split
      · next takes =>
        simp only [leftOf, Bool.and_eq_true] at takes
        exact ok.give takes.1.2 _
      · split
        · next takes => exact ok.give takes _
        · exact ok

theorem LevelsOk.lending (xs : List Nat) {o : GrateOut} (ok : LevelsOk g n o.lvl) :
    LevelsOk g n (xs.foldl (fun o x => Machine.dlend1 g cols x o) o).lvl := by
  induction xs generalizing o with
  | nil => exact ok
  | cons x xs ih => exact ih (ok.dlend1 x)

/-- The levels before drop lending. -/
theorem levelsOk_decided (fixed : ∀ (x : Nat) (k : Col), cols[x]? = some k → ∀ l, k.fl = some l → l ≤ 3) (yp : Nat) :
    LevelsOk g cols.size ((Array.range cols.size).map fun x => decide1 g cols yp x (cols.getD x {})) := by
  refine ⟨by simp, fun x l e => ?_⟩
  rw [Array.getElem?_map, Option.map_eq_some_iff] at e
  obtain ⟨y, hy, rfl⟩ := e
  obtain ⟨hx, rfl⟩ := Array.getElem?_eq_some_iff.mp hy
  rw [Array.getElem_range]
  have hx : x < cols.size := by simpa using hx
  exact decide1_ok (fun l => fixed x _ (by simp [Array.getD, hx]) l) yp x

end

/-- Settles O34: each column's own level is within the bounds, and the lending pass gives drops to columns that take them alone. -/
theorem grateLevelsBoundedAndMaskedColumnsSilent : Obligations.GrateLevelsBoundedAndMaskedColumnsSilent := by
  intro g cols yp fixed
  have decided := levelsOk_decided (g := g) fixed yp
  change LevelsOk g cols.size (grateLine g cols yp).lvl
  unfold grateLine
  dsimp only
  split
  · exact decided.lending _
  · exact decided

end Sys2Proof.Machine
end

section
/-! PROOFS. FND_STATUS shows the gates in force after every step (R173; log 14). -/

namespace Sys2Proof.Machine

section
variable {s t : State}

/-- The gates in force rest on the asserted gates, the low VAUX and the words FND_CTRL and FND_LATCHED alone. -/
theorem gatesInForce_congr (gates : t.gates = s.gates) (vaux : t.vauxLow = s.vauxLow)
    (en : t.fget 0 0 FND_CTRL_EN = s.fget 0 0 FND_CTRL_EN) (latched : t.fget 0 0 FND_LATCHED_V = s.fget 0 0 FND_LATCHED_V) :
    gatesInForce t = gatesInForce s := by
  rw [gatesInForce, gatesInForce, gates, vaux, en, latched]

/-- The display itself moves no gate. -/
@[simp] theorem gatesInForce_gateShow (s : State) : gatesInForce (gateShow s) = gatesInForce s :=
  gatesInForce_congr rfl rfl (State.fget_fput_clears _ (by decide)) (State.fget_fput_clears _ (by decide))

theorem gatesShown_gateShow (s : State) : gatesShown (gateShow s) := by
  rw [gatesShown, gatesInForce_gateShow]
  exact State.fget_fput_of_lt (by decide) (gatesInForce_lt s)

theorem gatesShown_settle (s : State) : gatesShown (settle s) := gatesShown_gateShow _

/-- A tick of the counter leaves what the display and the gates in force rest on. -/
theorem tick_keeps_gatesShown (s : State) (shown : gatesShown s) : gatesShown (tick s) := by
  unfold tick
  dsimp only
  split
  · have keeps {g : Fld} (c : g.clears TIM_STATUS_VALID) :
        (tput TIM_STATUS_VALID 1 { s with tim := timTick s.tim }).fget 0 0 g = s.fget 0 0 g := State.fget_fput_clears _ c
    have force : gatesInForce (tput TIM_STATUS_VALID 1 { s with tim := timTick s.tim }) = gatesInForce s :=
      gatesInForce_congr rfl rfl (keeps (by decide)) (keeps (by decide))
    exact (keeps (by decide)).trans (shown.trans force.symm)
  · exact shown

/-- Settles O3: a command ends with the display, and the ticks of an idle step reach neither the display nor a gate. -/
theorem gatesInForceShownAfterEveryStep : Obligations.GatesInForceShownAfterEveryStep := by
  intro s t shown next
  cases waiting : s.pending with
  | nil =>
    rw [step_of_empty waiting] at next
    cases next
    exact forEach_keeps (fun _ => tick_keeps_gatesShown) _ _ shown
  | cons c rest =>
    rw [step, waiting] at next
    rcases exec_settled c { s with pending := rest } with ⟨u, settles⟩ | ⟨f, faults⟩
    · cases settles.symm.trans next
      exact gatesShown_settle u
    · cases faults.symm.trans next

end

end Sys2Proof.Machine
end

section
/-! PROOFS. The Damper's histories of its nozzles: how a line clears them, what one drop and a line of drops leave in them
(R169, R171). -/

namespace Sys2Proof.Machine

/-! ### Sparse tables -/

section
variable {α : Type} {d : Nat → α}

theorem tabGet_cons_same (k : Nat) (v : α) (m : Tab α) : tabGet d ((k, v) :: m) k = v := by
  rw [tabGet, tabFind, if_pos rfl]
  rfl

theorem tabGet_cons_ne {k j : Nat} (n : k ≠ j) (v : α) (m : Tab α) : tabGet d ((k, v) :: m) j = tabGet d m j := by
  rw [tabGet, tabGet, tabFind, if_neg n]

theorem tabGet_of_not_mem {m : Tab α} {k : Nat} (n : k ∉ m.map Prod.fst) : tabGet d m k = d k := by
  induction m with
  | nil => rfl
  | cons e m ih =>
    obtain ⟨other, rest⟩ : k ≠ e.1 ∧ k ∉ m.map Prod.fst := by simpa [not_or] using n
    exact (tabGet_cons_ne other.symm e.2 m).trans (ih rest)

theorem tabGet_of_tabAbove {m : Tab α} {k : Nat} (above : tabAbove k m = true) : tabGet d m k = d k := by
  refine tabGet_of_not_mem fun mem => ?_
  obtain ⟨e, listed, rfl⟩ := List.mem_map.mp mem
  simpa using List.all_eq_true.mp above e listed

variable [DecidableEq α]

theorem tabWf_cons {e : Nat × α} {m : Tab α} :
    tabWf d (e :: m) = true ↔ e.2 ≠ d e.1 ∧ tabAbove e.1 m = true ∧ tabWf d m = true := by
  simp [tabWf, and_assoc]

/-- The keys of a table in its canonical form rise. -/
theorem tabWf_keys {m : Tab α} (wf : tabWf d m = true) : (m.map Prod.fst).Pairwise (· < ·) := by
  induction m with
  | nil => exact .nil
  | cons e m ih =>
    obtain ⟨-, above, rest⟩ := tabWf_cons.mp wf
    exact List.pairwise_cons.mpr ⟨by simpa [tabAbove] using above, ih rest⟩

theorem tabGet_of_mem {m : Tab α} (wf : tabWf d m = true) {e : Nat × α} (mem : e ∈ m) : tabGet d m e.1 = e.2 := by
  induction m with
  | nil => cases mem
  | cons e' m ih =>
    obtain ⟨-, above, rest⟩ := tabWf_cons.mp wf
    rcases List.mem_cons.mp mem with rfl | later
    · exact tabGet_cons_same ..
    · have lt : e'.1 < e.1 := by simpa using List.all_eq_true.mp above e later
      exact (tabGet_cons_ne lt.ne e'.2 m).trans (ih rest later)

end

/-! ### A line clears its place in the histories -/

/-- What a line at `slot` of the 256 leaves of the history at key `k`, before its own drops. -/
def freshHist (slot p nz k : Nat) (hist : List Nat) : List Nat :=
  if k / 4096 = p ∧ k % 4096 < nz then hist.filter fun j => j != slot else hist

/-- The histories of a port's `nz` nozzles without the line `slot` of the 256. -/
def freshFires (slot p nz : Nat) (fires : Tab (List Nat)) : Tab (List Nat) :=
  (fires.map fun e => (e.1, freshHist slot p nz e.1 e.2)).filter fun e => !e.2.isEmpty

theorem freshHist_nil (slot p nz k : Nat) : freshHist slot p nz k [] = [] := by
  simp [freshHist]

theorem freshFires_cons (slot p nz : Nat) (e : Nat × List Nat) (m : Tab (List Nat)) : freshFires slot p nz (e :: m) =
    if freshHist slot p nz e.1 e.2 = [] then freshFires slot p nz m
    else (e.1, freshHist slot p nz e.1 e.2) :: freshFires slot p nz m := by
  simp [freshFires, List.filter_cons]

theorem tabAbove_freshFires {slot p nz k : Nat} {m : Tab (List Nat)} (above : tabAbove k m = true) :
    tabAbove k (freshFires slot p nz m) = true := by
  simp only [tabAbove, List.all_eq_true, decide_eq_true_eq, freshFires, List.mem_filter, List.mem_map] at above ⊢
  rintro _ ⟨⟨e, mem, rfl⟩, -⟩
  exact above e mem

theorem tabWf_freshFires {slot p nz : Nat} {m : Tab (List Nat)} (wf : tabWf (fun _ => []) m = true) :
    tabWf (fun _ => []) (freshFires slot p nz m) = true := by
  induction m with
  | nil => rfl
  | cons e m ih =>
    obtain ⟨-, above, rest⟩ := tabWf_cons.mp wf
    rw [freshFires_cons]
    split
    · exact ih rest
    · next kept => exact tabWf_cons.mpr ⟨kept, tabAbove_freshFires above, ih rest⟩

theorem tabGet_freshFires {slot p nz : Nat} {m : Tab (List Nat)} (wf : tabWf (fun _ => []) m = true) (k : Nat) :
    tabGet (fun _ => []) (freshFires slot p nz m) k = freshHist slot p nz k (tabGet (fun _ => []) m k) := by
  induction m with
  | nil => exact (freshHist_nil slot p nz k).symm
  | cons e m ih =>
    obtain ⟨-, above, rest⟩ := tabWf_cons.mp wf
    rw [freshFires_cons]
    by_cases same : e.1 = k
    · subst same
      rw [show e :: m = (e.1, e.2) :: m from rfl, tabGet_cons_same]
      split
      · next empty => rw [empty, tabGet_of_tabAbove (tabAbove_freshFires above)]
      · exact tabGet_cons_same ..
    · rw [show e :: m = (e.1, e.2) :: m from rfl, tabGet_cons_ne same, ← ih rest]
      split
      · rfl
      · exact tabGet_cons_ne same ..

/-! ### One drop -/

/-- Lines modulo 256 at which nozzle `i` of port `p` fired. -/
def nozzleHist (p : Nat) (r : DmpRun) (i : Nat) : List Nat := tabGet (fun _ => []) r.x.fires (4096 * p + i)

/-- The record of a line once a drop has passed: its line joins the nozzle's history and the bin takes its energy. -/
def passedRun (c : DmpCfg) (slot p i l : Nat) (r : DmpRun) : DmpRun :=
  { r with x := { r.x with
    fires := tabSet (fun _ => []) r.x.fires (4096 * p + i) (slot :: nozzleHist p r i)
    cur := tabSet (fun _ => 0) r.x.cur p ((tabGet (fun _ => 0) r.x.cur p + c.cost p l) % 2 ^ 48) } }

section
variable {c : DmpCfg} {slot p i l : Nat} {r : DmpRun}

theorem damperDrop_eq (drop : l ≠ 0) : damperDrop c slot p i l r =
    if c.nozEn = true ∧ c.nLim ≤ (nozzleHist p r i).length then (0, { r with nozSup := r.nozSup + 1 })
    else if c.headEn = true ∧ c.budget p < winSum r.x p + c.cost p l then
      (0, { r with headSup := r.headSup + 1, overs := r.overs ||| 2 ^ p })
    else (l, passedRun c slot p i l r) := by
  simp only [damperDrop, if_neg drop, Bool.and_eq_true, decide_eq_true_eq]
  rfl

theorem damperDrop_past_limit (drop : l ≠ 0) (limited : c.nozEn = true) (past : c.nLim ≤ (nozzleHist p r i).length) :
    damperDrop c slot p i l r = (0, { r with nozSup := r.nozSup + 1 }) :=
  (damperDrop_eq drop).trans (if_pos ⟨limited, past⟩)

theorem damperDrop_within (drop : l ≠ 0) (within : c.nozEn = false ∨ (nozzleHist p r i).length < c.nLim) :
    damperDrop c slot p i l r = if c.headEn = true ∧ c.budget p < winSum r.x p + c.cost p l then
      (0, { r with headSup := r.headSup + 1, overs := r.overs ||| 2 ^ p }) else (l, passedRun c slot p i l r) :=
  (damperDrop_eq drop).trans (if_neg fun ⟨on, past⟩ => within.elim (by simp [on]) (by omega))

theorem damperDrop_past_budget (drop : l ≠ 0) (within : c.nozEn = false ∨ (nozzleHist p r i).length < c.nLim)
    (budgeted : c.headEn = true) (past : c.budget p < winSum r.x p + c.cost p l) :
    damperDrop c slot p i l r = (0, { r with headSup := r.headSup + 1, overs := r.overs ||| 2 ^ p }) :=
  (damperDrop_within drop within).trans (if_pos ⟨budgeted, past⟩)

theorem damperDrop_passes (drop : l ≠ 0) (within : c.nozEn = false ∨ (nozzleHist p r i).length < c.nLim)
    (cheap : c.headEn = false ∨ winSum r.x p + c.cost p l ≤ c.budget p) :
    damperDrop c slot p i l r = (l, passedRun c slot p i l r) :=
  (damperDrop_within drop within).trans (if_neg fun ⟨on, past⟩ => cheap.elim (by simp [on]) (by omega))

@[simp] theorem nozzleHist_passedRun_same : nozzleHist p (passedRun c slot p i l r) i = slot :: nozzleHist p r i := by
  simp only [nozzleHist, passedRun, tabGet_tabSet_same]

theorem nozzleHist_passedRun_ne {j : Nat} (n : j ≠ i) : nozzleHist p (passedRun c slot p i l r) j = nozzleHist p r j := by
  simp only [nozzleHist, passedRun]
  exact tabGet_tabSet_ne _ _ _ (by omega)

end

end Sys2Proof.Machine
end

section
/-! PROOFS. The nozzle limit over a sequence of lines (R169, R171). -/

namespace Sys2Proof.Machine

section
variable {c : DmpCfg} {slot p : Nat}

/-! ### The drops of a line -/

/-- What a line makes of a nozzle: it keeps no drop and its history stands, or it fires, its line joins a history of fewer than
`n`. -/
def FiresBelow (n slot : Nat) (before : List Nat) (level : Nat) (after : List Nat) : Prop :=
  level = 0 ∧ after = before ∨ level ≠ 0 ∧ before.length < n ∧ after = slot :: before

/-- One drop of a line: the level it keeps is listed at its nozzle. -/
def dropStep (c : DmpCfg) (slot p : Nat) (acc : Tab Nat × DmpRun) (e : Nat × Nat) : Tab Nat × DmpRun :=
  (tabSet (fun _ => 0) acc.1 e.1 (damperDrop c slot p e.1 e.2 acc.2).1, (damperDrop c slot p e.1 e.2 acc.2).2)

/-- The level a line's output lists at a nozzle. -/
abbrev keptLevel (acc : Tab Nat × DmpRun) (i : Nat) : Nat := tabGet (fun _ => 0) acc.1 i

theorem damperDrop_fires (limited : c.nozEn = true) (i l : Nat) (r : DmpRun) :
    FiresBelow c.nLim slot (nozzleHist p r i) (damperDrop c slot p i l r).1 (nozzleHist p (damperDrop c slot p i l r).2 i) := by
  by_cases drop : l = 0
  · exact drop ▸ .inl ⟨rfl, rfl⟩
  by_cases room : (nozzleHist p r i).length < c.nLim
  · rw [damperDrop_within drop (.inr room)]
    split
    · exact .inl ⟨rfl, rfl⟩
    · exact .inr ⟨drop, room, nozzleHist_passedRun_same⟩
  · rw [damperDrop_past_limit drop limited (by omega)]
    exact .inl ⟨rfl, rfl⟩

/-- A drop leaves the histories of other nozzles, and the canonical form of them all. -/
theorem damperDrop_other (i l : Nat) (r : DmpRun) :
    (∀ j ≠ i, nozzleHist p (damperDrop c slot p i l r).2 j = nozzleHist p r j) ∧
    (tabWf (fun _ => []) r.x.fires = true → tabWf (fun _ => []) (damperDrop c slot p i l r).2.x.fires = true) := by
  by_cases drop : l = 0
  · exact drop ▸ ⟨fun _ _ => rfl, id⟩
  rw [damperDrop_eq drop]
  split_ifs
  · exact ⟨fun _ _ => rfl, id⟩
  · exact ⟨fun _ _ => rfl, id⟩
  · exact ⟨fun j n => nozzleHist_passedRun_ne n, tabWf_tabSet (4096 * p + i) (slot :: nozzleHist p r i)⟩

/-- With room in its history a drop is not suppressed by the limit, and without a budget it passes. -/
theorem damperDrop_room {i : Nat} (l : Nat) {r : DmpRun} (room : (nozzleHist p r i).length < c.nLim) :
    (damperDrop c slot p i l r).2.nozSup = r.nozSup ∧ (c.headEn = false → (damperDrop c slot p i l r).1 = l) := by
  by_cases drop : l = 0
  · exact drop ▸ ⟨rfl, fun _ => rfl⟩
  rw [damperDrop_within drop (.inr room)]
  split
  · next past => exact ⟨rfl, fun off => by simp [off] at past⟩
  · exact ⟨rfl, fun _ => rfl⟩

theorem dropStep_other (acc : Tab Nat × DmpRun) (e : Nat × Nat) {j : Nat} (n : j ≠ e.1) :
    nozzleHist p (dropStep c slot p acc e).2 j = nozzleHist p acc.2 j ∧ keptLevel (dropStep c slot p acc e) j = keptLevel acc j :=
  ⟨(damperDrop_other e.1 e.2 acc.2).1 j n, tabGet_tabSet_ne _ _ _ n⟩

/-- A nozzle no drop of the line names keeps its history and its place in the output. -/
theorem dropSteps_other (es : List (Nat × Nat)) (acc : Tab Nat × DmpRun) {j : Nat} (n : j ∉ es.map Prod.fst) :
    nozzleHist p (es.foldl (dropStep c slot p) acc).2 j = nozzleHist p acc.2 j ∧
    keptLevel (es.foldl (dropStep c slot p) acc) j = keptLevel acc j := by
  induction es generalizing acc with
  | nil => exact ⟨rfl, rfl⟩
  | cons e es ih =>
    obtain ⟨other, rest⟩ : j ≠ e.1 ∧ j ∉ es.map Prod.fst := by simpa [not_or] using n
    obtain ⟨hist, kept⟩ := dropStep_other (c := c) (slot := slot) (p := p) acc e other
    obtain ⟨hist', kept'⟩ := ih (dropStep c slot p acc e) rest
    exact ⟨hist'.trans hist, kept'.trans kept⟩

theorem dropSteps_wf (es : List (Nat × Nat)) (acc : Tab Nat × DmpRun) (wf : tabWf (fun _ => []) acc.2.x.fires = true) :
    tabWf (fun _ => []) (es.foldl (dropStep c slot p) acc).2.x.fires = true := by
  induction es generalizing acc with
  | nil => exact wf
  | cons e es ih => exact ih _ ((damperDrop_other e.1 e.2 acc.2).2 wf)

/-- The drops of a line, at most one to a nozzle, make of each nozzle what the limit allows. -/
theorem dropSteps_fires (limited : c.nozEn = true) {es : List (Nat × Nat)} (single : (es.map Prod.fst).Nodup)
    (acc : Tab Nat × DmpRun) {i : Nat} (fresh : keptLevel acc i = 0) :
    FiresBelow c.nLim slot (nozzleHist p acc.2 i) (keptLevel (es.foldl (dropStep c slot p) acc) i)
      (nozzleHist p (es.foldl (dropStep c slot p) acc).2 i) := by
  induction es generalizing acc with
  | nil => exact .inl ⟨fresh, rfl⟩
  | cons e es ih =>
    obtain ⟨once, rest⟩ := List.nodup_cons.mp single
    by_cases same : i = e.1
    · subst same
      obtain ⟨hist, kept⟩ := dropSteps_other (c := c) (slot := slot) (p := p) es (dropStep c slot p acc e) once
      rw [List.foldl_cons, hist, kept, dropStep, keptLevel, tabGet_tabSet_same]
      exact damperDrop_fires limited e.1 e.2 acc.2
    · obtain ⟨hist, kept⟩ := dropStep_other (c := c) (slot := slot) (p := p) acc e same
      rw [List.foldl_cons, ← hist]
      exact ih rest _ (kept.trans fresh)

/-- With room in the history of every nozzle the limit suppresses no drop, and without a budget all pass. -/
theorem dropSteps_room {es : List (Nat × Nat)} (single : (es.map Prod.fst).Nodup) (acc : Tab Nat × DmpRun)
    (room : ∀ e ∈ es, (nozzleHist p acc.2 e.1).length < c.nLim) :
    (es.foldl (dropStep c slot p) acc).2.nozSup = acc.2.nozSup ∧
    (c.headEn = false → ∀ e ∈ es, keptLevel (es.foldl (dropStep c slot p) acc) e.1 = e.2) := by
  induction es generalizing acc with
  | nil => exact ⟨rfl, by simp⟩
  | cons e es ih =>
    obtain ⟨once, rest⟩ := List.nodup_cons.mp single
    obtain ⟨sup, kept⟩ := damperDrop_room (slot := slot) e.2 (room e List.mem_cons_self)
    obtain ⟨sup', kept'⟩ := ih rest (dropStep c slot p acc e) fun e' mem => by
      rw [(dropStep_other acc e fun same => once (same ▸ List.mem_map_of_mem mem)).1]
      exact room e' (List.mem_cons_of_mem _ mem)
    refine ⟨sup'.trans sup, fun off e' mem => ?_⟩
    rcases List.mem_cons.mp mem with rfl | later
    · rw [List.foldl_cons, (dropSteps_other es _ once).2, dropStep, keptLevel, tabGet_tabSet_same]
      exact kept off
    · exact kept' off e' later

/-! ### A port's line -/

/-- The drops of a line in the order they meet the Damper, from its rotating start (R171). -/
def lineOrder (lnum nz : Nat) (lv : Tab Nat) : List (Nat × Nat) :=
  (lv.filter fun e => decide (lnum * 2477 % nz ≤ e.1)) ++ lv.filter fun e => decide (e.1 < lnum * 2477 % nz)

/-- The record of a line before its drops. -/
def lineFresh (lnum p nz : Nat) (r : DmpRun) : DmpRun := { r with x := { r.x with fires := freshFires (lnum % 256) p nz r.x.fires } }

theorem damperPort_eq (c : DmpCfg) (lnum p nz : Nat) (lv : Tab Nat) (r : DmpRun) :
    damperPort c lnum p nz lv r = (lineOrder lnum nz lv).foldl (dropStep c (lnum % 256) p) ([], lineFresh lnum p nz r) := by
  have clears : (r.x.fires.map fun e => if e.1 / 4096 = p ∧ e.1 % 4096 < nz then (e.1, e.2.filter fun k => k != lnum % 256) else e) =
      r.x.fires.map fun e => (e.1, freshHist (lnum % 256) p nz e.1 e.2) := by
    refine List.map_congr_left fun e _ => ?_
    unfold freshHist
    split <;> rfl
  unfold damperPort
  dsimp only
  rw [clears]
  rfl

theorem lineOrder_perm (lnum nz : Nat) (lv : Tab Nat) : (lineOrder lnum nz lv).Perm lv := by
  have rest : (fun e : Nat × Nat => decide (e.1 < lnum * 2477 % nz)) = fun e => !decide (lnum * 2477 % nz ≤ e.1) := by
    funext e
    simp [← decide_not]
  rw [lineOrder, rest]
  exact List.filter_append_perm _ lv

theorem lineOrder_single {lv : Tab Nat} (wf : tabWf (fun _ => 0) lv = true) (lnum nz : Nat) :
    ((lineOrder lnum nz lv).map Prod.fst).Nodup :=
  ((lineOrder_perm lnum nz lv).map Prod.fst).nodup_iff.mpr ((tabWf_keys wf).imp ne_of_lt)

theorem nozzleHist_lineFresh {lnum nz i : Nat} {r : DmpRun} (wf : tabWf (fun _ => []) r.x.fires = true) (most : nz ≤ 4096)
    (has : i < nz) : nozzleHist p (lineFresh lnum p nz r) i = (nozzleHist p r i).filter fun j => j != lnum % 256 := by
  have own : (4096 * p + i) / 4096 = p ∧ (4096 * p + i) % 4096 < nz := by omega
  rw [nozzleHist, lineFresh, tabGet_freshFires wf, freshHist, if_pos own]
  rfl

end

/-! ### The history of one nozzle over a sequence of lines -/

/-- A nozzle's histories and levels over a sequence of lines: each line leaves its own place of the 256 empty and then fires below
the limit. -/
def NozzleRun (n : Nat) (hist : Nat → List Nat) (level : Nat → Nat) : Prop :=
  hist 0 = [] ∧ ∀ m, FiresBelow n (m % 256) ((hist m).filter fun j => j != m % 256) (level m) (hist (m + 1))

namespace NozzleRun

variable {n : Nat} {hist : Nat → List Nat} {level : Nat → Nat} (run : NozzleRun n hist level)
include run

theorem length_le (m : Nat) : (hist m).length ≤ n := by
  induction m with
  | zero => simp [run.1]
  | succ m ih =>
    have cleared : ((hist m).filter fun j => j != m % 256).length ≤ n := (List.length_filter_le ..).trans ih
    rcases run.2 m with ⟨-, same⟩ | ⟨-, room, more⟩
    · exact same ▸ cleared
    · exact more ▸ room

/-- A history holds each line modulo 256 at most once. -/
theorem places (m : Nat) : (hist m).Nodup ∧ ∀ j ∈ hist m, j < 256 := by
  induction m with
  | zero => simp [run.1]
  | succ m ih =>
    have once : ((hist m).filter fun j => j != m % 256).Nodup := ih.1.filter _
    have below : ∀ j ∈ (hist m).filter fun j => j != m % 256, j < 256 := fun j mem => ih.2 j (List.mem_of_mem_filter mem)
    rcases run.2 m with ⟨-, same⟩ | ⟨-, -, more⟩
    · exact same ▸ ⟨once, below⟩
    · exact more ▸ ⟨List.nodup_cons.mpr ⟨by simp, once⟩, List.forall_mem_cons.mpr ⟨Nat.mod_lt _ (by norm_num), below⟩⟩

/-- Before a line fires its place is empty, so at most 255 of the 256 are taken. -/
theorem cleared_length_lt (m : Nat) : ((hist m).filter fun j => j != m % 256).length < 256 := by
  obtain ⟨once, below⟩ := run.places m
  have place : m % 256 < 256 := Nat.mod_lt _ (by norm_num)
  have whole : (m % 256 :: (hist m).filter fun j => j != m % 256).length ≤ (List.range 256).length :=
    (List.subperm_of_subset (List.nodup_cons.mpr ⟨by simp, once.filter _⟩)
      fun j mem => List.mem_range.mpr (by
        rcases List.mem_cons.mp mem with rfl | mem
        · exact place
        · exact below j (List.mem_of_mem_filter mem))).length_le
  simpa using whole

theorem mem_of_fired {m : Nat} (fired : level m ≠ 0) : m % 256 ∈ hist (m + 1) := by
  rcases run.2 m with ⟨none, -⟩ | ⟨-, -, more⟩
  · exact absurd none fired
  · exact more ▸ List.mem_cons_self

theorem mem_succ {m j : Nat} (mem : j ∈ hist m) (n : j ≠ m % 256) : j ∈ hist (m + 1) := by
  have kept : j ∈ (hist m).filter fun j => j != m % 256 := List.mem_filter.mpr ⟨mem, by simpa using n⟩
  rcases run.2 m with ⟨-, same⟩ | ⟨-, -, more⟩
  · exact same ▸ kept
  · exact more ▸ List.mem_cons_of_mem _ kept

/-- A line that fired stands in the history until its place comes round again. -/
theorem mem_of_fired_within {l k : Nat} (fired : level l ≠ 0) (round : k < 256) : l % 256 ∈ hist (l + 1 + k) := by
  induction k with
  | zero => exact run.mem_of_fired fired
  | succ k ih => exact run.mem_succ (m := l + 1 + k) (ih (by omega)) (by omega)

/-- The lines of a window that fired stand side by side in the history at its end. -/
theorem fired_le (l : Nat) : ((List.range 256).filter fun j => level (l + j) != 0).length ≤ n := by
  let fired := (List.range 256).filter fun j => level (l + j) != 0
  have once : (fired.map fun j => (l + j) % 256).Nodup := by
    refine (List.nodup_range.filter _).map_on fun a ha b hb same => ?_
    have := List.mem_range.mp (List.mem_of_mem_filter ha)
    have := List.mem_range.mp (List.mem_of_mem_filter hb)
    omega
  have stands : fired.map (fun j => (l + j) % 256) ⊆ hist (l + 256) := by
    intro x mem
    obtain ⟨j, hj, rfl⟩ := List.mem_map.mp mem
    obtain ⟨lt, on⟩ := List.mem_filter.mp hj
    have lt := List.mem_range.mp lt
    have := run.mem_of_fired_within (k := 255 - j) (by simpa using on) (by omega)
    rwa [show l + j + 1 + (255 - j) = l + 256 by omega] at this
  calc fired.length = (fired.map fun j => (l + j) % 256).length := (List.length_map _).symm
    _ ≤ (hist (l + 256)).length := (List.subperm_of_subset once stands).length_le
    _ ≤ n := run.length_le _

end NozzleRun

/-! ### A sequence of lines -/

section
variable {c : DmpCfg} {p nz : Nat} {lvs : Nat → Tab Nat} {r : DmpRun}

/-- The level nozzle `i` keeps at line `m` of a sequence of lines. -/
abbrev firedLevel (c : DmpCfg) (p nz : Nat) (lvs : Nat → Tab Nat) (r : DmpRun) (i m : Nat) : Nat :=
  keptLevel (damperPort c m p nz (lvs m) (damperLines c p nz lvs r m)) i

theorem damperLines_wf (empty : r.x.fires = []) (m : Nat) : tabWf (fun _ => []) (damperLines c p nz lvs r m).x.fires = true := by
  induction m with
  | zero => rw [damperLines, empty]; rfl
  | succ m ih =>
    rw [damperLines, damperPort_eq]
    exact dropSteps_wf _ _ (tabWf_freshFires ih)

/-- A nozzle no line names never fires. -/
theorem firedLevel_of_not_named {i m : Nat} (n : i ∉ (lvs m).map Prod.fst) : firedLevel c p nz lvs r i m = 0 := by
  rw [firedLevel, damperPort_eq]
  exact (dropSteps_other _ _ fun mem => n (((lineOrder_perm ..).map _).mem_iff.mp mem)).2

variable (limited : c.nozEn = true) (most : nz ≤ 4096) (empty : r.x.fires = [])
  (levels : ∀ l, tabWf (fun _ => (0 : Nat)) (lvs l) = true ∧ ∀ e ∈ lvs l, e.1 < nz)

include levels in
theorem firedLevel_of_beyond {i : Nat} (beyond : nz ≤ i) (m : Nat) : firedLevel c p nz lvs r i m = 0 := by
  refine firedLevel_of_not_named fun mem => ?_
  obtain ⟨e, named, rfl⟩ := List.mem_map.mp mem
  exact absurd ((levels m).2 e named) (by omega)

include limited most empty levels

theorem nozzleRun_of_lines {i : Nat} (has : i < nz) :
    NozzleRun c.nLim (fun m => nozzleHist p (damperLines c p nz lvs r m) i) (firedLevel c p nz lvs r i) := by
  refine ⟨by simp [damperLines, nozzleHist, empty, tabGet, tabFind], fun m => ?_⟩
  have fires := dropSteps_fires (slot := m % 256) (p := p) limited (lineOrder_single (levels m).1 m nz)
    ([], lineFresh m p nz (damperLines c p nz lvs r m)) (i := i) rfl
  rw [nozzleHist_lineFresh (damperLines_wf empty m) most has, ← damperPort_eq] at fires
  exact fires

/-- With N = 256 every nozzle has room for the line's drop. -/
theorem line_room (full : c.nLim = 256) (m : Nat) (e : Nat × Nat) (mem : e ∈ lineOrder m nz (lvs m)) :
    (nozzleHist p (lineFresh m p nz (damperLines c p nz lvs r m)) e.1).length < c.nLim := by
  have has : e.1 < nz := (levels m).2 e ((lineOrder_perm ..).mem_iff.mp mem)
  rw [nozzleHist_lineFresh (damperLines_wf empty m) most has, full]
  exact (nozzleRun_of_lines limited most empty levels has).cleared_length_lt m

theorem damperLines_nozSup (full : c.nLim = 256) (m : Nat) : (damperLines c p nz lvs r m).nozSup = r.nozSup := by
  induction m with
  | zero => rfl
  | succ m ih =>
    have room := dropSteps_room (slot := m % 256) (lineOrder_single (levels m).1 m nz)
      ([], lineFresh m p nz (damperLines c p nz lvs r m)) (line_room limited most empty levels full m)
    rw [damperLines, damperPort_eq]
    exact room.1.trans ih

theorem firedLevel_of_full (full : c.nLim = 256) (off : c.headEn = false) (m i : Nat) :
    firedLevel c p nz lvs r i m = tabGet (fun _ => 0) (lvs m) i := by
  by_cases named : i ∈ (lvs m).map Prod.fst
  · obtain ⟨e, mem, rfl⟩ := List.mem_map.mp named
    have room := dropSteps_room (slot := m % 256) (lineOrder_single (levels m).1 m nz)
      ([], lineFresh m p nz (damperLines c p nz lvs r m)) (line_room limited most empty levels full m)
    rw [tabGet_of_mem (levels m).1 mem, firedLevel, damperPort_eq]
    exact room.2 off e ((lineOrder_perm ..).mem_iff.mpr mem)
  · rw [firedLevel_of_not_named named, tabGet_of_not_mem named]

end

/-- Settles O38: the lines of a window that fired stand side by side in the nozzle's history, which the limit bounds. -/
theorem nozzleFiresAtMostLimitInAnyWindow : Obligations.NozzleFiresAtMostLimitInAnyWindow := by
  intro c p nz lvs r limited _ _ most empty levels
  refine ⟨fun l i => ?_, fun l i none => ?_, fun full l => ⟨?_, fun off i => ?_⟩⟩
  · show ((List.range 256).filter fun j => firedLevel c p nz lvs r i (l + j) != 0).length ≤ c.nLim
    by_cases has : i < nz
    · exact (nozzleRun_of_lines limited most empty levels has).fired_le l
    · simp [firedLevel_of_beyond levels (not_lt.mp has)]
  · exact firedLevel_of_not_named (m := l) (by simp [none])
  · exact damperLines_nozSup limited most empty levels full l
  · exact firedLevel_of_full limited most empty levels full off l i

end Sys2Proof.Machine
end

section
/-! PROOFS. The Damper's budget window (R170; log 14). -/

namespace Sys2Proof.Machine

section
variable {x : DmpX} {p : Nat}

/-- The bins before the next one: the current bin, then the 62 newest of those kept (R170). -/
def keptBins (x : DmpX) (past : Tab (List Nat)) (p : Nat) : List Nat :=
  (tabGet (fun _ => 0) x.cur p :: tabGet (fun _ => []) past p).take 63

/-- Bins that hold no energy are kept as none. -/
def binEntry (bins : List Nat) : List Nat := if bins.all (fun b => b == 0) then [] else bins

theorem binEntry_sum (bins : List Nat) : (binEntry bins).sum = bins.sum := by
  unfold binEntry
  split
  · next none => exact (List.sum_eq_zero fun b mem => by simpa using List.all_eq_true.mp none b mem).symm
  · rfl

/-- The kept bins of every port of `ps` after a bin. -/
def pastAfter (x : DmpX) (ps : List Nat) (past : Tab (List Nat)) : Tab (List Nat) :=
  ps.foldl (fun t p => tabSet (fun _ => []) t p (binEntry (keptBins x t p))) past

theorem pastAfter_of_not_mem {ps : List Nat} (n : p ∉ ps) (past : Tab (List Nat)) :
    tabGet (fun _ => []) (pastAfter x ps past) p = tabGet (fun _ => []) past p := by
  induction ps generalizing past with
  | nil => rfl
  | cons q ps ih =>
    obtain ⟨other, rest⟩ : p ≠ q ∧ p ∉ ps := by simpa [not_or] using n
    exact (ih rest _).trans (tabGet_tabSet_ne _ _ _ other)

theorem pastAfter_of_mem {ps : List Nat} (single : ps.Nodup) (mem : p ∈ ps) (past : Tab (List Nat)) :
    tabGet (fun _ => []) (pastAfter x ps past) p = binEntry (keptBins x past p) := by
  induction ps generalizing past with
  | nil => cases mem
  | cons q ps ih =>
    obtain ⟨once, rest⟩ := List.nodup_cons.mp single
    rcases List.mem_cons.mp mem with rfl | later
    · exact (pastAfter_of_not_mem once _).trans (tabGet_tabSet_same ..)
    · have other : p ≠ q := fun same => once (same ▸ later)
      have stands : keptBins x (tabSet (fun _ => []) past q (binEntry (keptBins x past q))) p = keptBins x past p := by
        rw [keptBins, tabGet_tabSet_ne _ _ _ other]
        rfl
      exact (ih rest later _).trans (congrArg binEntry stands)

theorem damperBinEnd_dmp {s : State} {h : Nat} (has : s.hasH h = true) :
    (damperBinEnd h s).dmp h = { s.dmp h with cur := [], past := pastAfter (s.dmp h) (List.range 12) (s.dmp h).past } := by
  rw [damperBinEnd, has]
  exact tabGet_tabSet_same ..

theorem damperBinEnd_else {s : State} (h : Nat) : (damperBinEnd h s).regs = s.regs ∧ (damperBinEnd h s).fbxs = s.fbxs := by
  unfold damperBinEnd
  split <;> exact ⟨rfl, rfl⟩

end

/-- Settles O37: a bin's end shifts each port's kept bins by one, and a drop takes one of the three ways of `damperDrop_eq`. -/
theorem damperWindowAndDrops : Obligations.DamperWindowAndDrops := by
  refine ⟨fun s h has _ => ⟨damperBinEnd h s, rfl, ?_, ?_, fun p lt => ?_, damperBinEnd_else h⟩,
    fun c slot p i l r drop => ⟨?_, ?_, ?_⟩⟩
  · rw [damperBinEnd_dmp has]
  · rw [damperBinEnd_dmp has]
  · rw [damperBinEnd_dmp has, winSum, pastAfter_of_mem List.nodup_range (List.mem_range.mpr lt), binEntry_sum, keptBins,
      List.take_succ_cons, List.sum_cons]
    exact Nat.zero_add _
  · exact damperDrop_past_limit drop
  · exact damperDrop_past_budget drop
  · intro within cheap
    rw [damperDrop_passes drop within cheap]
    exact ⟨rfl, rfl, rfl, nozzleHist_passedRun_same, tabGet_tabSet_same ..⟩

end Sys2Proof.Machine
end

section
/-! PROOFS. The Fender's gates (R172, R173; log 14). -/

namespace Sys2Proof.Machine

section
variable {s : State} {g : Nat} {v : Word}

/-! ### Bits of a field -/

theorem State.bit_fget (h i : Nat) (f : Fld) {k : Nat} (lt : k < f.len) :
    bit (s.fget h i f) k = (s.rd h i f.blk f.word).getLsbD (f.lo + k) := by
  rw [bit, State.fget, testBit_bits, decide_eq_true lt, Bool.true_and]
  rfl

/-- Each bit of a live field holds what its access code leaves in it (R8). -/
theorem stored_bit_fget {blk i w h : Nat} {opn : Bool} {f : Fld} {d : FieldDef} (hb : f.blk = blk) (hw : f.word = w)
    (m : d ∈ wordFields blk i w) (p : d.priv = false) {k : Nat} (lt : k < f.len) (c : d.covers (f.lo + k)) :
    bit ((stored blk opn h i w v s).fget h i f) k = accessBit opn d.acc (bit (s.fget h i f) k) (v.getLsbD (f.lo + k)) := by
  subst hb hw
  rw [State.bit_fget h i f lt, State.bit_fget h i f lt, stored_bit_of_live m p c]

/-- A field written freely holds what was written. -/
theorem stored_fget_rw {blk i w h : Nat} {opn : Bool} {f : Fld} {d : FieldDef} (hb : f.blk = blk) (hw : f.word = w)
    (m : d ∈ wordFields blk i w) (p : d.priv = false) (acc : d.acc = .rw) (whole : d.lo ≤ f.lo ∧ f.lo + f.len ≤ d.lo + d.len) :
    (stored blk opn h i w v s).fget h i f = bits v.toNat f.lo f.len := by
  refine Nat.eq_of_testBit_eq fun k => ?_
  by_cases lt : k < f.len
  · have each := stored_bit_fget (s := s) (v := v) (opn := opn) (h := h) hb hw m p lt ⟨by omega, by omega⟩
    rw [acc] at each
    rw [testBit_bits, decide_eq_true lt, Bool.true_and]
    exact each
  · rw [State.fget, testBit_bits, testBit_bits, decide_eq_false lt, Bool.false_and, Bool.false_and]

/-- A bit put into a field joins those that stand there. -/
theorem bit_fget_join {f : Fld} (fits : f.lo + f.len ≤ 32) (lt : g < f.len) (h i : Nat) :
    bit ((s.fput h i f (s.fget h i f ||| 2 ^ g)).fget h i f) g = true := by
  rw [State.fget_fput_same _ _ _ _ _ fits, bit, Nat.testBit_mod_two_pow, Nat.testBit_or, Nat.testBit_two_pow_self, decide_eq_true lt,
    Bool.or_true, Bool.true_and]

/-! ### What the display leaves -/

theorem gateShow_fget_clears {f : Fld} (c : f.clears FND_STATUS_ACTIVE) : (gateShow s).fget 0 0 f = s.fget 0 0 f :=
  State.fget_fput_clears _ c

@[simp] theorem gateShow_gates : (gateShow s).gates = s.gates := State.fput_gates ..

/-- The event of a gate: bit `b` of FND_EVENT. -/
abbrev gateEvent (b : Nat) : Fld := ⟨BLK_FND, FND_EVENT.word, b, 1⟩

theorem raise_gateEvent_on {b : Nat} (lt : b < 16) : (gateShow (s.raise 0 0 (gateEvent b))).fon 0 0 (gateEvent b) = true := by
  rw [State.fon_eq, gateShow, State.fget_fput_off _ _ _ _ _ _ _ _ rfl, ← State.fon_eq]
  exact raise_sets _ _ _ _ (show b + 1 ≤ 32 by omega) le_rfl (Fld.offLoss_no _ rfl)

/-- An event of a gate leaves the fields of the Fender's other words. -/
theorem raise_gateEvent_fget {f : Fld} (b : Nat) (other : f.word ≠ FND_EVENT.word) (off : f.offLoss = true) :
    (s.raise 0 0 (gateEvent b)).fget 0 0 f = s.fget 0 0 f := by
  refine raise_fget _ _ _ _ (Fld.offLoss_no _ off) (rkey_word_ne ?_ (show 3 < 2048 by decide) other)
  simp [Fld.offLoss] at off
  exact off.1.1

/-! ### Assertion and release (R172) -/

/-- A gate's assertion shows in PIN and latches where LATCH is set. -/
def gateMarked (g : Nat) (s : State) : State :=
  let t := ({ s with gates := s.gates ||| 2 ^ g } : State).fput 0 0 FND_STATUS_PIN (s.fget 0 0 FND_STATUS_PIN ||| 2 ^ g)
  if bit (s.fget 0 0 FND_CTRL_LATCH) g then t.fput 0 0 FND_LATCHED_V (s.fget 0 0 FND_LATCHED_V ||| 2 ^ g) else t

theorem fenderAssert_eq (lt : g < 8) (clear : bit s.gates g = false) :
    fenderAssert g s = gateShow ((gateMarked g s).raise 0 0 (gateEvent g)) := by
  have latch : (({ s with gates := s.gates ||| 2 ^ g } : State).fput 0 0 FND_STATUS_PIN
      (s.fget 0 0 FND_STATUS_PIN ||| 2 ^ g)).fget 0 0 FND_CTRL_LATCH = s.fget 0 0 FND_CTRL_LATCH := State.fget_fput_clears _ (by decide)
  have latched : (({ s with gates := s.gates ||| 2 ^ g } : State).fput 0 0 FND_STATUS_PIN
      (s.fget 0 0 FND_STATUS_PIN ||| 2 ^ g)).fget 0 0 FND_LATCHED_V = s.fget 0 0 FND_LATCHED_V := State.fget_fput_clears _ (by decide)
  rw [fenderAssert, if_pos ⟨lt, by simp [clear]⟩, gateMarked, ← latch, ← latched]
  rfl

theorem gateMarked_gates : (gateMarked g s).gates = s.gates ||| 2 ^ g := by
  unfold gateMarked
  dsimp only
  split <;> simp -implicitDefEqProofs

theorem gateMarked_pin (lt : g < 8) : bit ((gateMarked g s).fget 0 0 FND_STATUS_PIN) g = true := by
  have shows : bit ((({ s with gates := s.gates ||| 2 ^ g } : State).fput 0 0 FND_STATUS_PIN
      (s.fget 0 0 FND_STATUS_PIN ||| 2 ^ g)).fget 0 0 FND_STATUS_PIN) g = true := bit_fget_join (by decide) lt 0 0
  unfold gateMarked
  dsimp only
  split
  · rwa [State.fget_fput_clears _ (by decide)]
  · exact shows

theorem gateMarked_latched (lt : g < 8) : bit ((gateMarked g s).fget 0 0 FND_LATCHED_V) g =
    (bit (s.fget 0 0 FND_LATCHED_V) g || bit (s.fget 0 0 FND_CTRL_LATCH) g) := by
  unfold gateMarked
  dsimp only
  split
  · next latch =>
    rw [State.fget_fput_same _ _ _ _ _ (by decide), latch, Bool.or_true, bit, Nat.testBit_mod_two_pow, Nat.testBit_or,
      Nat.testBit_two_pow_self, decide_eq_true lt, Bool.or_true, Bool.true_and]
  · next calm =>
    rw [State.fget_fput_clears _ (by decide), Bool.eq_false_iff.mpr calm, Bool.or_false]
    rfl

/-- A gate's release leaves PIN. -/
def gateUnmarked (g : Nat) (s : State) : State :=
  let t : State := { s with gates := s.gates ^^^ 2 ^ g }
  if bit (s.fget 0 0 FND_STATUS_PIN) g then t.fput 0 0 FND_STATUS_PIN (s.fget 0 0 FND_STATUS_PIN ^^^ 2 ^ g) else t

theorem fenderRelease_eq (lt : g < 8) (set : bit s.gates g = true) :
    fenderRelease g s = gateShow ((gateUnmarked g s).raise 0 0 (gateEvent (8 + g))) := by
  rw [fenderRelease, if_pos ⟨lt, set⟩]
  rfl

theorem bit_xor_two_pow {x : Nat} (set : bit x g = true) : bit (x ^^^ 2 ^ g) g = false := by
  rw [bit] at set ⊢
  rw [Nat.testBit_xor, set, Nat.testBit_two_pow_self]
  rfl

theorem gateUnmarked_gates : (gateUnmarked g s).gates = s.gates ^^^ 2 ^ g := by
  unfold gateUnmarked
  dsimp only
  split <;> simp -implicitDefEqProofs

theorem gateUnmarked_pin : bit ((gateUnmarked g s).fget 0 0 FND_STATUS_PIN) g = false := by
  unfold gateUnmarked
  dsimp only
  split
  · next set =>
    rw [State.fget_fput_same _ _ _ _ _ (by decide), bit, Nat.testBit_mod_two_pow, ← bit, bit_xor_two_pow set, Bool.and_false]
  · next clear => exact Bool.eq_false_iff.mpr clear

theorem gateUnmarked_latched : (gateUnmarked g s).fget 0 0 FND_LATCHED_V = s.fget 0 0 FND_LATCHED_V := by
  unfold gateUnmarked
  dsimp only
  split
  · exact State.fget_fput_clears _ (by decide)
  · rfl

/-! ### Writes of FND_LATCHED and FND_CTRL (R173) -/

theorem stored_gates {blk h i w : Nat} {opn : Bool} : (stored blk opn h i w v s).gates = s.gates := by rw [stored_shape]

/-- A latch of `s` whose assertion is present is set again. -/
def gatesRelatched (s t : State) : State :=
  t.fput 0 0 FND_LATCHED_V (t.fget 0 0 FND_LATCHED_V ||| (s.fget 0 0 FND_LATCHED_V &&& t.gates))

theorem fenderLatchClear_eq (v : Word) (s : State) :
    fenderLatchClear v s = gateShow (gatesRelatched s (stored BLK_FND true 0 0 FND_LATCHED.word v s)) := rfl

theorem fenderLatchClear_gates (v : Word) (s : State) : (fenderLatchClear v s).gates = s.gates := by
  rw [fenderLatchClear_eq, gateShow_gates, gatesRelatched, State.fput_gates, stored_gates]

/-- A W1C write clears a latch, and one whose assertion is present is set again. -/
theorem fenderLatchClear_latched (lt : g < 8) (v : Word) : bit ((fenderLatchClear v s).fget 0 0 FND_LATCHED_V) g =
    (bit (s.fget 0 0 FND_LATCHED_V) g && (!v.getLsbD g || bit s.gates g)) := by
  have cleared : bit ((stored BLK_FND true 0 0 FND_LATCHED.word v s).fget 0 0 FND_LATCHED_V) g =
      (bit (s.fget 0 0 FND_LATCHED_V) g && !v.getLsbD (0 + g)) :=
    stored_bit_fget (f := FND_LATCHED_V) (d := ⟨0, 8, .w1c, 0, false, false⟩) rfl rfl (by decide) rfl lt
      ⟨Nat.zero_le _, show 0 + g < 8 by omega⟩
  rw [Nat.zero_add] at cleared
  rw [fenderLatchClear_eq, gateShow_fget_clears (by decide), gatesRelatched, State.fget_fput_same _ _ _ _ _ (by decide), stored_gates, bit,
    Nat.testBit_mod_two_pow, Nat.testBit_or, Nat.testBit_and, ← bit, ← bit, ← bit, cleared, decide_eq_true lt, Bool.true_and,
    ← Bool.and_or_distrib_left]

theorem fndEnWrite_eq (v : Word) (s : State) : fndEnWrite v s = gateShow (stored BLK_FND true 0 0 0 v s) := rfl

end

/-- Settles O39: each row marks its gate, its event or its latch, and the display of the gates in force touches none of them. -/
theorem fenderGates : Obligations.FenderGates := by
  intro s g lt
  refine ⟨fun clear => ⟨fenderAssert g s, rfl, ?_⟩, fun set => ⟨fenderRelease g s, rfl, ?_⟩,
    fun v => ⟨fenderLatchClear v s, rfl, fenderLatchClear_gates v s, fenderLatchClear_latched lt v⟩,
    fun v => ⟨fndEnWrite v s, rfl, ?_⟩⟩
  · rw [fenderAssert_eq lt clear]
    refine ⟨?_, ?_, raise_gateEvent_on (by omega), ?_⟩
    · rw [gateShow_gates, State.raise_gates, gateMarked_gates]
    · rw [gateShow_fget_clears (by decide), raise_gateEvent_fget _ (by decide) (by decide), gateMarked_pin lt]
    · rw [gateShow_fget_clears (by decide), raise_gateEvent_fget _ (by decide) (by decide), gateMarked_latched lt]
  · rw [fenderRelease_eq lt set]
    refine ⟨?_, ?_, raise_gateEvent_on (by omega), ?_⟩
    · rw [gateShow_gates, State.raise_gates, gateUnmarked_gates, bit_xor_two_pow set]
    · rw [gateShow_fget_clears (by decide), raise_gateEvent_fget _ (by decide) (by decide), gateUnmarked_pin]
    · rw [gateShow_fget_clears (by decide), raise_gateEvent_fget _ (by decide) (by decide), gateUnmarked_latched]
  · rw [fndEnWrite_eq]
    refine ⟨gateShow_gates.trans stored_gates, gatesShown_gateShow _, ?_, ?_⟩
    · rw [gateShow_fget_clears (by decide), stored_fget_off (by decide)]
    · rw [gateShow_fget_clears (by decide)]
      exact stored_fget_rw (d := ⟨0, 8, .rw, 0xf, true, false⟩) rfl rfl (by decide) rfl rfl (by decide)

end Sys2Proof.Machine
end

section
/-! PROOFS. The Draught's enable, HOLD and resume (R174, R176, R179, R183; log 14). -/

namespace Sys2Proof.Machine

section
variable {s t u : State} {h : Nat} {v : Word}

/-! ### The source of a Draught -/

/-- `t` shows the source of a Draught, its EN and the faults of every channel as `s` does. -/
def SourceKept (h : Nat) (s t : State) : Prop :=
  t.fget h 0 DRT_CTRL_SRC = s.fget h 0 DRT_CTRL_SRC ∧ t.fon h 0 DRT_CTRL_EN = s.fon h 0 DRT_CTRL_EN ∧
  ∀ g c, t.fon g c FBK_STATUS_FAULT = s.fon g c FBK_STATUS_FAULT

/-- A field whose writes leave a Draught's source, its EN and the faults of every channel. -/
abbrev Fld.offSource (f : Fld) : Prop :=
  DRT_CTRL_SRC.clears f ∧ DRT_CTRL_EN.clears f ∧ FBK_STATUS_FAULT.offWord f = true

theorem SourceKept.trans (a : SourceKept h s t) (b : SourceKept h t u) : SourceKept h s u :=
  ⟨b.1.trans a.1, b.2.1.trans a.2.1, fun g c => (b.2.2 g c).trans (a.2.2 g c)⟩

theorem SourceKept.of_regs (same : t.regs = s.regs) : SourceKept h s t := by
  unfold SourceKept State.fon State.fget State.rd
  rw [same]
  exact ⟨rfl, rfl, fun _ _ => rfl⟩

theorem SourceKept.setDrt (g : Nat) (x : DrtX) : SourceKept h s (s.setDrt g x) := .of_regs rfl

theorem SourceKept.fput {f : Fld} (v : Nat) (off : f.offSource) : SourceKept h s (s.fput h 0 f v) := by
  obtain ⟨src, en, fault⟩ := off
  refine ⟨State.fget_fput_clears _ src, ?_, fun g c => ?_⟩
  · rw [State.fon_eq, State.fon_eq, State.fget_fput_clears _ en]
  · rw [State.fon_eq, State.fon_eq, State.fget_fput_off _ _ _ _ _ _ _ _ fault]

theorem SourceKept.raise {f : Fld} (off : f.offSource) : SourceKept h s (s.raise h 0 f) := by
  obtain ⟨src, en, fault⟩ := off
  refine ⟨raise_fget_clears src (by decide), ?_, fun g c => ?_⟩
  · rw [State.fon_eq, State.fon_eq, raise_fget_clears en (by decide)]
  · rw [State.fon_eq, State.fon_eq, raise_fget_off _ _ _ _ _ _ _ fault (by decide)]

theorem SourceKept.fwEvent (g code : Nat) : SourceKept h s (fwEvent g code s) := by
  refine ⟨fwEvent_fget_off _ _ _ _ _ _ (by decide), ?_, fun g c => ?_⟩
  all_goals rw [State.fon_eq, State.fon_eq, fwEvent_fget_off _ _ _ _ _ _ (by decide)]

theorem SourceKept.faulty (kept : SourceKept h s t) : srcFaulty t h = srcFaulty s h := by
  obtain ⟨src, -, faults⟩ := kept
  rw [srcFaulty, srcFaulty, srcH, srcC, src, faults]
  rfl

/-! ### The marks of a page (R179, R182, R183) -/

/-- A field in none of the words that the mark of a defective page writes. -/
abbrev Fld.offMark (f : Fld) : Prop :=
  f.offWord DRT_DEFECT_PAGE = true ∧ f.offWord DRT_DEFECT_WHY = true ∧ f.offWord DRT_EVENT = true ∧ f.offLoss = true

theorem markPage_drts (pg why port : Nat) : (markPage h pg why port s).drts = s.drts := by
  unfold markPage
  cases findPage s h pg with
  | none => rfl
  | some p => dsimp only; split <;> simp -implicitDefEqProofs [mapPage]

theorem markPage_fget {f : Fld} (off : f.offLoss = true) (pg why port g i : Nat) :
    (markPage h pg why port s).fget g i f = s.fget g i f := by
  unfold markPage
  cases findPage s h pg with
  | none => rfl
  | some p =>
    dsimp only
    split
    · rfl
    · rw [fwEvent_fget_off _ _ _ _ _ _ off, mapPage, State.setBas_acc_fget]

theorem markReason_drts (pg why port : Nat) : (markReason h pg why port s).drts = s.drts := by
  unfold markReason
  cases findPage s h pg with
  | none => rfl
  | some p => dsimp only; split <;> simp -implicitDefEqProofs [markPage_drts]

theorem markReason_fget {f : Fld} (off : f.offMark) (pg why port g i : Nat) :
    (markReason h pg why port s).fget g i f = s.fget g i f := by
  obtain ⟨page, reason, event, loss⟩ := off
  unfold markReason
  cases findPage s h pg with
  | none => rfl
  | some p =>
    dsimp only
    split
    · rfl
    · rw [raise_fget_off _ _ _ _ _ DRT_EVENT_DEFECT _ event loss, State.fget_fput_off _ _ _ _ _ DRT_DEFECT_WHY_PORT _ _ reason,
        State.fget_fput_off _ _ _ _ _ DRT_DEFECT_WHY_REASON _ _ reason, State.fget_fput_off _ _ _ _ _ _ _ _ page, markPage_fget loss]

@[simp] theorem markHearth_drts (why : Nat) : (markHearth h why s).drts = s.drts := by
  unfold markHearth
  cases firingPage s h with
  | none => rfl
  | some pg => dsimp only; split <;> simp -implicitDefEqProofs [markReason_drts]

theorem markHearth_fget {f : Fld} (off : f.offMark) (why g i : Nat) : (markHearth h why s).fget g i f = s.fget g i f := by
  unfold markHearth
  cases firingPage s h with
  | none => rfl
  | some pg =>
    dsimp only
    split
    · exact markReason_fget off ..
    · rfl

theorem SourceKept.markHearth (why : Nat) : SourceKept h s (markHearth h why s) := by
  refine ⟨markHearth_fget (by decide) .., ?_, fun g c => ?_⟩
  all_goals rw [State.fon_eq, State.fon_eq, markHearth_fget (by decide)]

/-! ### Entering a state -/

theorem drtGo_fget {f : Fld} (st : Nat) (state : f.clears DRT_STATUS_STATE) (arm : f.clears DRT_CTRL_START_ARM) :
    (drtGo h st s).fget h 0 f = s.fget h 0 f := by
  rw [drtGo, State.fget_fputB_clears _ arm, State.fget_fput_clears _ state]

theorem drtGo_state {st : Nat} (lt : st < 8) : drtState (drtGo h st s) h = st := by
  rw [drtState, drtGo, State.fget_fputB_clears _ (by decide), State.fget_fput_of_lt (by decide) lt]

theorem State.fon_fputB_same (i : Nat) (f : Fld) (one : f.len = 1) (fits : f.lo < 32) (b : Bool) : (s.fputB h i f b).fon h i f = b := by
  rw [State.fputB_eq, State.fon_eq, State.fget_fput_same _ _ _ _ _ (by omega), one]
  cases b <;> rfl

theorem drtGo_startArm (st : Nat) : (drtGo h st s).fon h 0 DRT_CTRL_START_ARM = decide (st = 2) :=
  State.fon_fputB_same 0 DRT_CTRL_START_ARM rfl (by decide) _

@[simp] theorem drtGo_drts (st : Nat) : (drtGo h st s).drts = s.drts := rfl

theorem SourceKept.drtGo (st : Nat) : SourceKept h s (drtGo h st s) :=
  (SourceKept.fput st (by decide)).trans (SourceKept.fput _ (by decide))

/-! ### The loop's start, HOLD, OFF -/

theorem SourceKept.loopStart : SourceKept h s (loopStart h s) :=
  ((SourceKept.setDrt h _).trans (SourceKept.fput 0 (by decide))).trans (SourceKept.fput 0 (by decide))

theorem SourceKept.drtHold : SourceKept h s (drtHold h s) :=
  ((((SourceKept.setDrt h _).trans (SourceKept.drtGo 5)).trans (SourceKept.fput 0 (by decide))).trans
    (SourceKept.raise (by decide))).trans (SourceKept.markHearth 7)

theorem State.drt_setDrt_same (x : DrtX) : (s.setDrt h x).drt h = x := tabGet_tabSet_same ..

/-- The loop stands at its target with no lock (R175). -/
def LoopAtTarget (s : State) (h : Nat) : Prop :=
  (s.drt h).theta = 0 ∧ (s.drt h).omega = 0 ∧ (s.drt h).tw = 0 ∧ s.fon h 0 DRT_STATUS_LOCK = false

theorem State.drt_congr (same : t.drts = s.drts) : t.drt h = s.drt h := by
  rw [State.drt, State.drt, same]

theorem loopAtTarget_start : LoopAtTarget (loopStart h s) h := by
  have drt : (loopStart h s).drt h = _ := (State.drt_congr rfl).trans (State.drt_setDrt_same _)
  have lock : (loopStart h s).fget h 0 DRT_STATUS_LOCK = 0 := by
    rw [loopStart, State.fget_fput_clears _ (by decide), State.fget_fput_same _ _ _ _ _ (by decide)]
    rfl
  refine ⟨?_, ?_, ?_, ?_⟩
  · rw [drt]
  · rw [drt]
  · rw [drt]
  · rw [State.fon_eq, lock]
    rfl

theorem LoopAtTarget.drtGo (rest : LoopAtTarget s h) (st : Nat) : LoopAtTarget (drtGo h st s) h := by
  obtain ⟨theta, omega, tw, lock⟩ := rest
  rw [LoopAtTarget, State.drt_congr (drtGo_drts st), State.fon_eq, drtGo_fget _ (by decide) (by decide), ← State.fon_eq]
  exact ⟨theta, omega, tw, lock⟩

/-- HOLD changes the state, and of the loop's record the wait of a trigger and the clock it is left at. -/
theorem drtHold_fget {f : Fld} (mark : f.offMark) (state : f.clears DRT_STATUS_STATE) (arm : f.clears DRT_CTRL_START_ARM)
    (pend : f.clears DRT_STATUS_PEND) : (drtHold h s).fget h 0 f = s.fget h 0 f := by
  obtain ⟨-, -, event, loss⟩ := id mark
  rw [drtHold, markHearth_fget mark, raise_fget_off _ _ _ _ _ DRT_EVENT_SRC_FAULT _ event loss, State.fget_fput_clears _ pend,
    drtGo_fget _ state arm, State.setDrt_acc_fget]

theorem drtHold_state : drtState (drtHold h s) h = 5 := by
  rw [drtState, drtHold, markHearth_fget (by decide), raise_fget_off _ _ _ _ _ _ _ (by decide) (by decide),
    State.fget_fput_clears _ (by decide)]
  exact drtGo_state (by decide)

theorem drtHold_drt : (drtHold h s).drt h = { s.drt h with pend := false, intFrom := s.now } := by
  have same : (drtHold h s).drts = (s.setDrt h { s.drt h with pend := false, intFrom := s.now }).drts := by
    rw [drtHold, markHearth_drts, State.raise_drts, State.fput_drts, drtGo_drts]
  rw [State.drt_congr same, State.drt_setDrt_same]

theorem LoopAtTarget.drtHold (rest : LoopAtTarget s h) : LoopAtTarget (drtHold h s) h := by
  obtain ⟨theta, omega, tw, lock⟩ := rest
  rw [LoopAtTarget, drtHold_drt, State.fon_eq, drtHold_fget (by decide) (by decide) (by decide) (by decide), ← State.fon_eq]
  exact ⟨theta, omega, tw, lock⟩

/-! ### EN written 1 (R179, R183) -/

/-- The record of a Draught as EN is written 1: no pass of the other direction and no feed outstanding. -/
def drtCleared (h : Nat) (s : State) : State :=
  (clkRest h s).setDrt h { (clkRest h s).drt h with dir := false, feedLate := false, feedDone := true }

theorem SourceKept.drtCleared : SourceKept h s (drtCleared h s) := (SourceKept.setDrt h _).trans (SourceKept.setDrt h _)

theorem drtEnable_eq (h : Nat) (s : State) : drtEnable h s =
    let tracks := drtGo h 1 (loopStart h (drtCleared h s))
    if s.fget h 0 DRT_CTRL_MODE = 2 then drtGo h 6 (drtCleared h s)
    else if s.fget h 0 DRT_CTRL_MODE = 3 then drtCleared h s
    else if srcFaulty tracks h = true then drtHold h tracks else tracks := rfl

theorem SourceKept.tracks : SourceKept h s (Machine.drtGo h 1 (Machine.loopStart h (Machine.drtCleared h s))) :=
  (SourceKept.drtCleared.trans SourceKept.loopStart).trans (SourceKept.drtGo 1)

theorem SourceKept.drtEnable : SourceKept h s (drtEnable h s) := by
  rw [drtEnable_eq]
  dsimp only
  split_ifs
  · exact SourceKept.drtCleared.trans (SourceKept.drtGo 6)
  · exact SourceKept.drtCleared
  · exact SourceKept.tracks.trans SourceKept.drtHold
  · exact SourceKept.tracks

theorem drtEnable_internal (mode : s.fget h 0 DRT_CTRL_MODE = 2) : drtState (drtEnable h s) h = 6 := by
  rw [drtEnable_eq, if_pos mode]
  exact drtGo_state (by decide)

/-- On a source the loop starts at its target, in HOLD where the source has a fault. -/
theorem drtEnable_tracks (mode : s.fget h 0 DRT_CTRL_MODE ≤ 1) :
    drtState (drtEnable h s) h = (if srcFaulty (drtEnable h s) h then 5 else 1) ∧ LoopAtTarget (drtEnable h s) h := by
  rw [(SourceKept.drtEnable (s := s)).faulty, drtEnable_eq, if_neg (by omega), if_neg (by omega), SourceKept.tracks.faulty]
  have rest : LoopAtTarget (drtGo h 1 (loopStart h (drtCleared h s))) h := loopAtTarget_start.drtGo 1
  split
  · exact ⟨drtHold_state, rest.drtHold⟩
  · exact ⟨drtGo_state (by decide), rest⟩

/-! ### EN written 0, RESUME and START_ARM (R176, R179, R183) -/

theorem drtDisable_shows (runs : drtState s h ≠ 0) :
    drtState (drtDisable h s) h = 0 ∧ ((drtDisable h s).drt h).pend = false ∧ (drtDisable h s).fget h 0 DRT_STATUS_PEND = 0 ∧
    (drtDisable h s).fon h 0 DRT_CTRL_START_ARM = false := by
  let rested := if 5 ≤ drtState s h then clkRest h s else s
  let idle := rested.setDrt h { rested.drt h with pend := false, intFrom := rested.now }
  let stopped := drtGo h 0 idle
  have eq : drtDisable h s = markHearth h 9 ((stopped.fput h 0 DRT_STATUS_PEND 0).fput h 0 DRT_STATUS_LOCK 0) := if_neg runs
  have drts : (drtDisable h s).drts = idle.drts := by
    rw [eq, markHearth_drts, State.fput_drts, State.fput_drts, drtGo_drts]
  have arm : (drtDisable h s).fget h 0 DRT_CTRL_START_ARM = stopped.fget h 0 DRT_CTRL_START_ARM := by
    rw [eq, markHearth_fget (by decide), State.fget_fput_clears _ (by decide), State.fget_fput_clears _ (by decide)]
  refine ⟨?_, ?_, ?_, ?_⟩
  · rw [eq, drtState, markHearth_fget (by decide), State.fget_fput_clears _ (by decide), State.fget_fput_clears _ (by decide)]
    exact drtGo_state (by decide)
  · rw [State.drt_congr drts, State.drt_setDrt_same]
  · rw [eq, markHearth_fget (by decide), State.fget_fput_clears _ (by decide)]
    exact State.fget_fput_of_lt (by decide) (by decide)
  · rw [State.fon_eq, arm, ← State.fon_eq, drtGo_startArm]
    rfl

theorem resumeWrite_state (held : drtState s h = 5) : drtState (resumeWrite h s) h = if srcFaulty s h then 5 else 1 := by
  unfold resumeWrite
  cases faulty : srcFaulty s h
  · rw [if_pos ⟨held, by simp⟩]
    exact drtGo_state (by decide)
  · rw [if_neg (by simp), held]
    rfl

theorem startArm_ignored (other : drtState s h ≠ 1) : startArm h s = drtGo h (drtState s h) s := if_pos other

/-! ### A write of DRT_CTRL -/

/-- What a write of DRT_CTRL stores; START_ARM reads 1 in WAIT_START only (R176). -/
def drtStored (s : State) (h : Nat) (v : Word) : State :=
  let t := stored BLK_DRT (drtState s h == 0) h 0 0 v s
  t.fputB h 0 DRT_CTRL_START_ARM (drtState t h == 2)

theorem stored_drtEn (opn : Bool) (h : Nat) (v : Word) (s : State) : (stored BLK_DRT opn h 0 0 v s).fon h 0 DRT_CTRL_EN = v.getLsbD 0 :=
  stored_fon (f := DRT_CTRL_EN) (d := ⟨0, 1, .rw, 0, true, false⟩) rfl (by decide) rfl ⟨by decide, by decide⟩

theorem drtStored_en (h : Nat) (v : Word) (s : State) : (drtStored s h v).fon h 0 DRT_CTRL_EN = v.getLsbD 0 := by
  rw [drtStored, State.fon_eq, State.fget_fputB_clears _ (by decide), ← State.fon_eq, stored_drtEn]

theorem drtStored_state : drtState (drtStored s h v) h = drtState s h := by
  rw [drtStored, drtState, State.fget_fputB_clears _ (by decide)]
  exact stored_fget_off (by decide)

theorem drtStored_drts : (drtStored s h v).drts = s.drts := by
  rw [drtStored, State.fputB_eq, State.fput_drts, stored_shape]

theorem drtStored_startArm : (drtStored s h v).fon h 0 DRT_CTRL_START_ARM = decide (drtState s h = 2) := by
  have state : drtState (stored BLK_DRT (drtState s h == 0) h 0 0 v s) h = drtState s h := stored_fget_off (by decide)
  rw [drtStored, state, State.fon_fputB_same 0 DRT_CTRL_START_ARM rfl (by decide)]
  rfl

/-- MODE may be written while the Draught is OFF. -/
theorem drtStored_mode (off : drtState s h = 0) :
    (drtStored s h v).fget h 0 DRT_CTRL_MODE = bits v.toNat DRT_CTRL_MODE.lo DRT_CTRL_MODE.len := by
  rw [drtStored, State.fget_fputB_clears _ (by decide), off]
  refine Nat.eq_of_testBit_eq fun k => ?_
  by_cases lt : k < 2
  · rw [testBit_bits, decide_eq_true lt, Bool.true_and]
    exact stored_bit_fget (f := DRT_CTRL_MODE) (d := ⟨4, 2, .rwl, 0, true, false⟩) rfl rfl (by decide) rfl lt
      ⟨Nat.le_add_right 4 k, show 4 + k < 4 + 2 by omega⟩
  · rw [State.fget, testBit_bits, testBit_bits, decide_eq_false lt, Bool.false_and, Bool.false_and]

/-- SRC stands while the Draught is not OFF. -/
theorem drtStored_source (runs : drtState s h ≠ 0) : srcFaulty (drtStored s h v) h = srcFaulty s h := by
  have src : (drtStored s h v).fget h 0 DRT_CTRL_SRC = s.fget h 0 DRT_CTRL_SRC := by
    rw [drtStored, State.fget_fputB_clears _ (by decide), beq_eq_false_iff_ne.mpr runs]
    refine Nat.eq_of_testBit_eq fun k => ?_
    by_cases lt : k < 3
    · exact stored_bit_fget (f := DRT_CTRL_SRC) (d := ⟨8, 3, .rwl, 0, true, false⟩) rfl rfl (by decide) rfl lt
        ⟨Nat.le_add_right 8 k, show 8 + k < 8 + 3 by omega⟩
    · rw [State.fget, State.fget, testBit_bits, testBit_bits, decide_eq_false lt, Bool.false_and, Bool.false_and]
  have faults (g c : Nat) : (drtStored s h v).fon g c FBK_STATUS_FAULT = s.fon g c FBK_STATUS_FAULT := by
    rw [drtStored, State.fputB_eq, State.fon_eq, State.fget_fput_off _ _ _ _ _ _ _ _ (by decide), stored_fget_off (by decide),
      ← State.fon_eq]
  rw [srcFaulty, srcFaulty, srcH, srcC, src, faults]
  rfl

/-- What a write of DRT_CTRL does to EN: a rise enables, a fall disables. -/
def drtSwitched (s : State) (h : Nat) (v : Word) : State :=
  if s.fon h 0 DRT_CTRL_EN = false ∧ v.getLsbD 0 = true then drtEnable h (drtStored s h v)
  else if s.fon h 0 DRT_CTRL_EN = true ∧ v.getLsbD 0 = false then drtDisable h (drtStored s h v) else drtStored s h v

theorem drtAct_ctrl {c : WriteCtx} (w : c.w = 0) (s : State) : drtAct c s =
    let t := s.fputB c.h 0 DRT_CTRL_START_ARM (drtState s c.h == 2)
    let t := if c.rose t DRT_CTRL_EN = true then drtEnable c.h t else if c.fell t DRT_CTRL_EN = true then drtDisable c.h t else t
    let t := if c.wrote DRT_CTRL_RESUME = 1 then resumeWrite c.h t else t
    if c.wrote DRT_CTRL_START_ARM = 1 then startArm c.h t else t := if_neg (not_not.mpr w)

theorem drtWrite_eq (has : s.hasH h = true) (v : Word) : drtWrite h v s =
    let t := if v.getLsbD 25 = true then resumeWrite h (drtSwitched s h v) else drtSwitched s h v
    if v.getLsbD 24 = true then startArm h t else t := by
  have rose : (hostCtx s BLK_DRT h 0 0 v).rose (drtStored s h v) DRT_CTRL_EN = true ↔
      s.fon h 0 DRT_CTRL_EN = false ∧ v.getLsbD 0 = true := by
    rw [hostCtx_rose s (drtStored s h v) h 0 DRT_CTRL_EN v, drtStored_en, Bool.and_eq_true, Bool.not_eq_true', and_comm]
  have fell : (hostCtx s BLK_DRT h 0 0 v).fell (drtStored s h v) DRT_CTRL_EN = true ↔
      s.fon h 0 DRT_CTRL_EN = true ∧ v.getLsbD 0 = false := by
    rw [hostCtx_fell s (drtStored s h v) h 0 DRT_CTRL_EN v, drtStored_en, Bool.and_eq_true, Bool.not_eq_true']
  have resumes : (hostCtx s BLK_DRT h 0 0 v).wrote DRT_CTRL_RESUME = 1 ↔ v.getLsbD 25 = true :=
    hostCtx_wrote_one (f := DRT_CTRL_RESUME) rfl (by decide)
  have arms : (hostCtx s BLK_DRT h 0 0 v).wrote DRT_CTRL_START_ARM = 1 ↔ v.getLsbD 24 = true :=
    hostCtx_wrote_one (f := DRT_CTRL_START_ARM) rfl (by decide)
  have switched : (if (hostCtx s BLK_DRT h 0 0 v).rose (drtStored s h v) DRT_CTRL_EN = true then drtEnable h (drtStored s h v)
      else if (hostCtx s BLK_DRT h 0 0 v).fell (drtStored s h v) DRT_CTRL_EN = true then drtDisable h (drtStored s h v)
      else drtStored s h v) = drtSwitched s h v := if_congr rose rfl (if_congr fell rfl rfl)
  rw [drtWrite, if_pos has, hostWrite_eq, drtAct_ctrl rfl, ← switched]
  simp only [resumes, arms]
  rfl

/-- A write of neither RESUME nor START_ARM. -/
theorem drtWrite_calm (has : s.hasH h = true) (noResume : v.getLsbD 25 = false) (noArm : v.getLsbD 24 = false) :
    drtWrite h v s = drtSwitched s h v := by
  rw [drtWrite_eq has, if_neg (Bool.eq_false_iff.mp noResume), if_neg (Bool.eq_false_iff.mp noArm)]

/-- A write that leaves EN switches nothing. -/
theorem drtSwitched_of_same (same : v.getLsbD 0 = s.fon h 0 DRT_CTRL_EN) : drtSwitched s h v = drtStored s h v := by
  unfold drtSwitched
  rw [same]
  cases s.fon h 0 DRT_CTRL_EN <;> rfl

theorem drtPulse_en {b : Nat} (n : 0 ≠ b) : (s.pulse h 0 BLK_DRT 0 b).getLsbD 0 = s.fon h 0 DRT_CTRL_EN := by
  rw [pulse_other (by decide) n (by decide), State.fon_bit rfl]

/-- The word that sets one acting bit writes the other acting bits 0. -/
theorem pulse_acting {blk i w b k : Nat} (hk : k < 32) (n : k ≠ b) (acts : (actMask blk i w).getLsbD k = true) :
    (s.pulse h i blk w b).getLsbD k = false := by
  rw [State.pulse, BitVec.getLsbD, testBit_insertBits _ _ _ _ _ hk, if_neg (by omega)]
  show (s.rd h i blk w &&& ~~~ actMask blk i w).getLsbD k = _
  rw [BitVec.getLsbD_and, BitVec.getLsbD_not, acts, Bool.not_true, Bool.and_false, Bool.and_false]

/-- RESUME is a write of RESUME alone. -/
theorem drtResume_eq (has : s.hasH h = true) :
    drtWrite h (s.pulse h 0 BLK_DRT 0 25) s = resumeWrite h (drtStored s h (s.pulse h 0 BLK_DRT 0 25)) := by
  rw [drtWrite_eq has, if_neg (by rw [pulse_acting (by decide) (by decide) (by decide)]; decide), if_pos (pulse_same (by decide)),
    drtSwitched_of_same (drtPulse_en (by decide))]

/-- START_ARM is a write of START_ARM alone. -/
theorem startArmRow_eq (has : s.hasH h = true) :
    drtWrite h (s.pulse h 0 BLK_DRT 0 24) s = startArm h (drtStored s h (s.pulse h 0 BLK_DRT 0 24)) := by
  rw [drtWrite_eq has, if_pos (pulse_same (by decide)), if_neg (by rw [pulse_acting (by decide) (by decide) (by decide)]; decide),
    drtSwitched_of_same (drtPulse_en (by decide))]

theorem bits_one_eq_one {lo : Nat} : bits v.toNat lo 1 = 1 ↔ v.getLsbD lo = true := by
  rw [bits_one]
  cases v.getLsbD lo <;> decide

theorem bits_one_eq_zero {lo : Nat} : bits v.toNat lo 1 = 0 ↔ v.getLsbD lo = false := by
  rw [bits_one]
  cases v.getLsbD lo <;> decide

end

/-- Settles O40: a write of DRT_CTRL acts by what it makes of EN, RESUME and START_ARM, each on the stored word. -/
theorem draughtEnableHoldAndResume : Obligations.DraughtEnableHoldAndResume := by
  intro s h has
  refine ⟨fun v off still on noResume noArm => ⟨_, rfl, ?_⟩, fun v on runs off noResume noArm => ⟨_, rfl, ?_⟩,
    fun on held => ⟨_, rfl, ?_⟩, fun on other => ⟨_, rfl, ?_⟩⟩
  · have en : v.getLsbD 0 = true := bits_one_eq_one.mp on
    have eq : drtWrite h v s = drtEnable h (drtStored s h v) :=
      (drtWrite_calm has (bits_one_eq_zero.mp noResume) (bits_one_eq_zero.mp noArm)).trans (if_pos ⟨off, en⟩)
    rw [eq, ← drtStored_mode (s := s) (h := h) still]
    refine ⟨?_, drtEnable_internal, fun mode => ?_⟩
    · rw [SourceKept.drtEnable.2.1, drtStored_en, en]
    · obtain ⟨state, theta, omega, tw, lock⟩ := drtEnable_tracks mode
      exact ⟨state, theta, omega, tw, lock⟩
  · have en : v.getLsbD 0 = false := bits_one_eq_zero.mp off
    have eq : drtWrite h v s = drtDisable h (drtStored s h v) :=
      (drtWrite_calm has (bits_one_eq_zero.mp noResume) (bits_one_eq_zero.mp noArm)).trans
        ((if_neg fun rises => Bool.eq_false_iff.mp en rises.2).trans (if_pos ⟨on, en⟩))
    rw [eq]
    exact drtDisable_shows (drtStored_state.symm ▸ runs)
  · rw [drtResume_eq has, resumeWrite_state (drtStored_state.trans held), drtStored_source (by omega)]
  · rw [startArmRow_eq has, startArm_ignored (drtStored_state.symm ▸ other), drtStored_state]
    exact ⟨drtGo_state (State.fget_lt s h 0 DRT_STATUS_STATE), (drtGo_drts _).trans drtStored_drts, drtGo_startArm _⟩

end Sys2Proof.Machine
end

section
/-! PROOFS. What follows a command leaves the stand-alone motion as its own step leaves it (log 14). -/

namespace Sys2Proof.Machine

/-- What no Basin and no twin release touches: the stand-alone motion, the deferred commands, the junior lead's half, the part. -/
def asideOf (s : State) : AloneX × List DOp × JunX × Part := (s.alone, s.dops, s.junior, s.part)

section
variable {s : State} {h i d : Nat}

/-! ### Registers, records, events -/

@[simp] theorem wr_aside (b w : Nat) (v : Word) : asideOf (s.wr h i b w v) = asideOf s := rfl
@[simp] theorem fput_aside (f : Fld) (v : Nat) : asideOf (s.fput h i f v) = asideOf s := rfl
@[simp] theorem fputB_aside (f : Fld) (b : Bool) : asideOf (s.fputB h i f b) = asideOf s := rfl
@[simp] theorem count_aside (f : Fld) (n : Nat) : asideOf (s.count h i f n) = asideOf s := rfl
@[simp] theorem put64_aside (f : Fld) (v : Nat) : asideOf (s.put64 h i f v) = asideOf s := rfl
@[simp] theorem setBas_aside (x : BasX) : asideOf (s.setBas h x) = asideOf s := rfl
@[simp] theorem setLbuf_aside (x : LBuf) : asideOf (s.setLbuf h i x) = asideOf s := rfl
@[simp] theorem mapPage_aside (pg : Nat) (f : Page → Page) : asideOf (mapPage h pg f s) = asideOf s := rfl
@[simp] theorem emit_aside (o : Out) : asideOf (s.emit o) = asideOf s := rfl

@[simp] theorem raise_aside (f : Fld) : asideOf (s.raise h i f) = asideOf s := by
  simp only [asideOf, State.raise_alone, State.raise_dops, State.raise_junior, State.raise_part]

@[simp] theorem ite_aside (c : Prop) [Decidable c] (a b : State) :
    asideOf (if c then a else b) = if c then asideOf a else asideOf b := by
  split <;> rfl

theorem forEach_aside {α : Type} {f : α → State → State} (each : ∀ x s, asideOf (f x s) = asideOf s) (xs : List α) (s : State) :
    asideOf (forEach xs f s) = asideOf s := by
  induction xs generalizing s with
  | nil => rfl
  | cons x xs ih => exact (ih (f x s)).trans (each x s)

/-! ### The Basins -/

@[simp] theorem basRefresh_aside : asideOf (basRefresh h s) = asideOf s := by
  obtain ⟨rp, mark, page, free, dec, pages, bufs, ahead, hold, active, e⟩ := basRefresh_eq h s
  rw [e]
  simp only [fputB_aside, fput_aside, put64_aside]

@[simp] theorem basDrainCheck_aside : asideOf (basDrainCheck h s) = asideOf s := by simp [basDrainCheck, basEnable]

@[simp] theorem ringTrim_aside : asideOf (ringTrim h s) = asideOf s := rfl

@[simp] theorem lbSweep_aside : asideOf (lbSweep h s) = asideOf s := forEach_aside (fun k s => by simp) _ _

@[simp] theorem cinRecord_aside (st : Nat) : asideOf (cinRecord h d st s) = asideOf s := by
  simp [cinRecord, cinResume, cinEnable, cinOff]

@[simp] theorem jobPart_aside : asideOf (jobPart h d s) = asideOf s := by
  unfold jobPart
  cases runningJob s h d with
  | none => rfl
  | some j =>
    simp only [put64_aside, rawCount, ite_aside, raise_aside, count_aside]
    exact ite_self _

@[simp] theorem stopJobs_aside (pg : Nat) : asideOf (stopJobs h pg s) = asideOf s := by
  unfold stopJobs
  cases findPage s h pg with
  | none => rfl
  | some p =>
    simp [forEach_aside fun d s => cinRecord_aside (s := s) (h := h) (d := d) 4,
      forEach_aside fun d s => jobPart_aside (s := s) (h := h) (d := d)]

@[simp] theorem removePage_aside (pg : Nat) (lost : Bool) : asideOf (removePage h pg lost s) = asideOf s := by
  unfold removePage
  cases findPage s h pg <;> simp

@[simp] theorem releasePage_aside (pg : Nat) : asideOf (releasePage h pg s) = asideOf s := by simp [releasePage]

@[simp] theorem releaseHeld_aside : asideOf (releaseHeld h s) = asideOf s := forEach_aside (fun p s => by simp) _ _

@[simp] theorem retainKeep_aside (extra : Nat) : asideOf (retainKeep h extra s) = asideOf s := by
  simp [retainKeep, forEach_aside]

@[simp] theorem creditRefresh_aside : asideOf (creditRefresh h i s) = asideOf s := by
  rcases creditRefresh_cases h i s with e | ⟨lim, stall, begins, e⟩ <;> rw [e]
  cases begins <;> simp [onlyIf]

@[simp] theorem basinsFollow_aside : asideOf (basinsFollow s) = asideOf s :=
  forEach_aside (fun h s => by simp [basinFollow]) _ _

/-! ### What follows a command -/

@[simp] theorem twinRelease_aside (t : TwnCmd) : asideOf (twinRelease t s) = asideOf s := by
  unfold twinRelease
  split
  · rfl
  · dsimp only
    split <;> rfl

theorem fabricFollow_of_no_outputs (none : s.chms = []) : fabricFollow s = s := by
  rw [fabricFollow, none]
  rfl

/-- With no packet on its way, no deferred command and no junior lead, the motion stands as its own step leaves it. -/
theorem settle_alone (outputs : (aloneMotion s).chms = []) (dops : (aloneMotion s).dops = [])
    (junior : (aloneMotion s).junior.on = false) : (settle s).alone = (aloneMotion s).alone := by
  let after := forEach s.twn.heldCmds twinRelease (basinsFollow (aloneMotion s))
  have aside : asideOf after = asideOf (aloneMotion s) :=
    (forEach_aside (fun t s => twinRelease_aside t) _ _).trans basinsFollow_aside
  have alone : after.alone = (aloneMotion s).alone := congrArg Prod.fst aside
  have noDops : after.dops = [] := (congrArg (fun r => r.2.1) aside).trans dops
  have noJunior : after.junior.on = false := (congrArg (fun r => r.2.2.1.on) aside).trans junior
  have ops : settleOps after = after := by
    rw [settleOps, noDops]
    rfl
  rw [settle, fabricFollow_of_no_outputs outputs]
  show (gateShow (inJunior settleOps (settleOps after))).alone = _
  rw [ops, inJunior_settleOps_rest fun on => absurd on (by simp [noJunior]), gateShow, State.fput_alone, alone]

/-! ### A motion that homes an axis (R345) -/

/-- The motion waits while its axis homes. -/
theorem aloneMotion_homing {a : Nat} (script : s.alone.script = [.home a]) (begun : s.alone.begun = true)
    (cfg : (aloneCfg s).isSome = true) (away : s.mon a MOT_STATUS_HOMED = false) (homing : axState s a = 4) : aloneMotion s = s := by
  obtain ⟨k, some⟩ := Option.isSome_iff_exists.mp cfg
  rw [aloneMotion, script, aloneStep.eq_def]
  simp [script, some, begun, away, homing]

/-- An axis that stops short of home ends the motion. -/
theorem aloneMotion_stopped {a : Nat} (script : s.alone.script = [.home a]) (begun : s.alone.begun = true)
    (cfg : (aloneCfg s).isSome = true) (away : s.mon a MOT_STATUS_HOMED = false) (stopped : axState s a ≠ 4) :
    aloneMotion s = aloneEnded { s with alone := { s.alone with script := [], begun := false, chart := false } } := by
  obtain ⟨k, some⟩ := Option.isSome_iff_exists.mp cfg
  rw [aloneMotion, script, aloneStep.eq_def]
  simp [script, some, begun, away, stopped]

end

end Sys2Proof.Machine
end

section
/-! PROOFS. A page that fires its last line under a forced port and leaves with its deferred release (R99, R105, R165, R183). -/

namespace Sys2Proof.Machine

section
variable {s : State} {h p pg d : Nat} {q : Page}

/-- A forced port in a state with no strobes and nothing armed drains at once. -/
theorem portForce_calm (state : portState s h p = 0) (low : (s.fbx h p).strobes = 0) :
    portForce h p s = endingCheck h (portDrained h p 4 (s.fput h p FBX_CTRL_EN 0)) := by
  rw [portForce, state]
  simp [strobesOff, low]

theorem endingCheck_of_ended (ending : (s.ter h).ending = some pg)
    (low : (List.range 12).any (fun p => (s.fbx h p).strobes != 0) = false) :
    endingCheck h s = enterFired h pg (s.setTer h { s.ter h with ending := none }) := by
  rw [endingCheck, ending]
  exact if_neg (Bool.eq_false_iff.mp low)

/-- A page as its last line has fired. -/
def Page.shot (q : Page) : Page := { q with st := .fired, planes := [], slots := q.slots.map fun x => { x with buf := none } }

/-- The hearth's state as a page has fired. -/
def pageShot (h pg : Nat) (s : State) : State := basRefresh h (mapPage h pg Page.shot s)

theorem enterFired_of_firing (held : findPage s h pg = some q) (firing : q.st = .firing)
    (off : inspectionOff (pageShot h pg s) h = true) : enterFired h pg s = retirePage h pg (pageShot h pg s) := by
  rw [enterFired, held]
  exact (if_neg (by simp [firing])).trans (if_pos off)

/-- The hearth's state as a page has retired. -/
def pageRetired (h pg : Nat) (s : State) : State := basRefresh h (lbSweep h (mapPage h pg (fun q => { q with st := .retired }) s))

theorem retirePage_of_deferred (held : findPage s h pg = some q) (fired : q.st = .fired) (defer : q.defer = true)
    (free : mirrorHolds (pageRetired h pg s) h pg = false) :
    retirePage h pg s = (removePage h pg false (pageRetired h pg s)).raise h 0 BAS_EVENT_AUTO_RELEASE := by
  rw [retirePage, held]
  refine (if_neg (by simp [fired])).trans ((if_pos defer).trans ?_)
  exact congrArg (State.raise · h 0 BAS_EVENT_AUTO_RELEASE) (if_neg (Bool.eq_false_iff.mp free))

/-- A page whose running jobs have been stopped. -/
def Page.jobsStopped (q : Page) : Page :=
  { q with slots := q.slots.map fun x => match x.job with
    | .running _ => { x with job := .waiting, buf := none }
    | _ => x }

/-- A job too short for a stream's header has copied and produced nothing. -/
theorem jobPart_of_short {k : Nat} {x : Slot} (runs : runningJob s h d = some (q, k, x)) (short : x.clen < 32) :
    jobPart h d s = ({ s with freeCtr := s.freeCtr + 2 } : State).put64 h d CIN_OUT_LO 0 := by
  have nothing : jobResult s h d x = ⟨stCheckFail, 0, [], 0⟩ := if_pos short
  rw [jobPart, runs]
  simp only [nothing, List.length_nil, Nat.zero_add, Nat.mod_one, rawCount, if_true]
  rfl

theorem stopJobs_of_short {k : Nat} {x : Slot} (held : findPage s h pg = some q) (one : pageDecoders q = [d])
    (runs : runningJob s h d = some (q, k, x)) (short : x.clen < 32) : stopJobs h pg s =
      cinRecord h d 4 (mapPage h pg Page.jobsStopped (({ s with freeCtr := s.freeCtr + 2 } : State).put64 h d CIN_OUT_LO 0)) := by
  rw [← jobPart_of_short runs short, stopJobs, held]
  show forEach (pageDecoders q) _ (mapPage h pg _ (forEach (pageDecoders q) (jobPart h) s)) = _
  rw [one]
  rfl

/-- The hearth's state as a page with one running job has left it. -/
def pageLeft (h pg d : Nat) (s : State) : State :=
  basRefresh h (basDrainCheck h (lbSweep h (ringTrim h (mapPage h pg
    (fun q => { q with slots := slotsFreed q.slots, planes := [], st := .gone })
    (cinRecord h d 4 (mapPage h pg Page.jobsStopped (({ s with freeCtr := s.freeCtr + 2 } : State).put64 h d CIN_OUT_LO 0)))))))

theorem removePage_of_short {k : Nat} {x : Slot} (held : findPage s h pg = some q) (one : pageDecoders q = [d])
    (runs : runningJob s h d = some (q, k, x)) (short : x.clen < 32) : removePage h pg false s = pageLeft h pg d s := by
  rw [pageLeft, ← stopJobs_of_short held one runs short, removePage, held]
  rfl

end

/-! ### Obligation -/

/-- A page whose last line has fired, its release deferred; the one slot it holds names decoder 128, whose registers' addresses run
into those of axis 0. -/
def shotPage : Page := { id := 7, st := .firing, defer := true, slots := [{ job := .running 128 }] }

/-- A configuration image whose only section is an empty stand-alone section (R393). -/
def emptyAloneFlash : Tab Byte :=
  let img := leBytes 4 1 ++ leBytes 2 9 ++ leBytes 2 5 ++ leBytes 4 20 ++ leBytes 4 0 ++ leBytes 4 (crc32c [])
  img.zipIdx.map fun (b, i) => (0x01900000 + i, b)

/-- Axis 0 homes under a stand-alone motion while a hearth's page ends. -/
def homingShot : State :=
  { (State.reset.fput 0 0 MOT_CTRL_EN 1).fput 0 0 MOT_STATUS_STATE 4 with
    flash := emptyAloneFlash
    alone := { script := [.home 0], begun := true }
    ters := [(0, { ending := some 7 })]
    basins := [(0, { tbl := [shotPage] })] }

/-- The hearth as its port 0 is forced off, as the page's end is seen, as the page has retired, and after the row. -/
def homingDrained : State := portDrained 0 0 4 (homingShot.fput 0 0 FBX_CTRL_EN 0)
def homingEnded : State := homingDrained.setTer 0 { homingDrained.ter 0 with ending := none }
def homingRetired : State := pageRetired 0 7 (pageShot 0 7 homingEnded)
def homingLeft : State := (pageLeft 0 7 128 homingRetired).raise 0 0 BAS_EVENT_AUTO_RELEASE

theorem homingShot_forced : fbxForceOff 0 0 homingShot = homingLeft := by
  have leaves : removePage 0 7 false homingRetired = pageLeft 0 7 128 homingRetired :=
    removePage_of_short (q := { shotPage with st := .retired }) (k := 0) (x := { job := .running 128 }) (by decide +kernel) rfl
      (by decide +kernel) (by decide)
  calc fbxForceOff 0 0 homingShot = portForce 0 0 homingShot := if_pos (by decide +kernel)
    _ = endingCheck 0 homingDrained := portForce_calm (by decide +kernel) (by decide +kernel)
    _ = enterFired 0 7 homingEnded := endingCheck_of_ended (by decide +kernel) (by decide +kernel)
    _ = retirePage 0 7 (pageShot 0 7 homingEnded) := enterFired_of_firing (q := shotPage) (by decide +kernel) rfl (by decide +kernel)
    _ = (removePage 0 7 false homingRetired).raise 0 0 BAS_EVENT_AUTO_RELEASE :=
      retirePage_of_deferred (q := { shotPage with st := .fired }) (by decide +kernel) rfl rfl (by decide +kernel)
    _ = homingLeft := by rw [leaves, homingLeft]

/-- The job's end is recorded in the registers of decoder 128, which are the axis's: it stops homing, and the motion ends. -/
theorem homingLeft_ends : (settle homingLeft).alone.script = [] := by
  have ends : aloneMotion homingLeft =
      aloneEnded { homingLeft with alone := { homingLeft.alone with script := [], begun := false, chart := false } } :=
    aloneMotion_stopped (a := 0) (by decide +kernel) (by decide +kernel) (by decide +kernel) (by decide +kernel) (by decide +kernel)
  rw [settle_alone] <;> rw [ends] <;> decide +kernel

/-- Where the row's frame holds, the axis homes on and the motion waits. -/
theorem homingShot_framed {t : State} (words : BlocksOnly [BLK_FBX, BLK_BAS, BLK_CIN, BLK_DRT] homingShot t)
    (frame : t = { homingShot with
      regs := t.regs, flues := t.flues, fbxs := t.fbxs, basins := t.basins, lbs := t.lbs, ters := t.ters, twn := t.twn
      staged := t.staged, out := t.out, freeCtr := t.freeCtr }) : (settle t).alone.script = [.home 0] := by
  have alone : t.alone = homingShot.alone := (congrArg State.alone frame).trans rfl
  have cfg : aloneCfg t = aloneCfg homingShot := (congrArg aloneCfg frame).trans rfl
  have axis : t.rd 0 0 BLK_MOT MOT_STATUS.word = homingShot.rd 0 0 BLK_MOT MOT_STATUS.word :=
    words 0 0 BLK_MOT MOT_STATUS.word (by decide) (by decide) (by decide) (by decide) (by unfold lossWord; decide)
  have away : t.mon 0 MOT_STATUS_HOMED = homingShot.mon 0 MOT_STATUS_HOMED := by
    show (bits (t.rd 0 0 BLK_MOT MOT_STATUS.word).toNat _ _ != 0) = _
    rw [axis]
    rfl
  have state : axState t 0 = axState homingShot 0 := congrArg (fun v : Word => bits v.toNat 0 3) axis
  have waits : aloneMotion t = t :=
    aloneMotion_homing (a := 0) (by rw [alone]; rfl) (by rw [alone]; rfl) (by rw [cfg]; decide +kernel)
      (by rw [away]; decide +kernel) (by rw [state]; decide +kernel)
  have aside : (settle t).alone = t.alone := by
    rw [settle_alone, waits]
    · rw [waits]
      exact (congrArg State.chms frame).trans rfl
    · rw [waits]
      exact (congrArg State.dops frame).trans rfl
    · rw [waits]
      exact (congrArg (fun s : State => s.junior.on) frame).trans rfl
  rw [aside, alone]
  rfl

/-- Refutes O7: a page that ends under a forced port stops the job of decoder 128, whose CIN_STATUS has the address of MOT_STATUS of
axis 0; the axis leaves homing, and the stand-alone motion that follows the command ends, which no state in the frame lets it do. -/
theorem not_printRowsTouchOnlyTheirOwn : ¬ Obligations.PrintRowsTouchOnlyTheirOwn := by
  intro holds
  obtain ⟨-, ports, -⟩ := holds homingShot (.fbxForceOff 0 0)
  obtain ⟨t, answers, words, frame⟩ := ports (.inr (.inr (.inr (.inr (.inr (.inr (.inr (.inr (.inl ⟨0, 0, rfl⟩)))))))))
  have same : settle (fbxForceOff 0 0 homingShot) = settle t := Host.Outcome.next.inj answers
  have ends := homingLeft_ends
  rw [← homingShot_forced, same, homingShot_framed words frame] at ends
  cases ends

end Sys2Proof.Machine
end

section
/-! PROOFS. What stand-alone motions and the Chimney do after a command writes registers of the blocks from DRT on alone: a frame of
the words of every block before them, ports, Basins and decoders among them (log 14). -/

namespace Sys2Proof.Machine

/-- The words of the blocks before DRT in a table of registers, but for GLB, MBX and FLU, where events are counted. -/
def frontWords (r : Tab Word) (h i b w : Nat) : Word :=
  if i < 16 ∧ 3 ≤ b ∧ b < BLK_DRT ∧ w < 2048 then tabGet dfltReg r (rkey h b i w) else 0

/-- A field of a block from DRT on. -/
abbrev Fld.back (f : Fld) : Prop := BLK_DRT ≤ f.blk ∧ f.blk < 256 ∧ f.word < 2048

variable {s : State} {h i : Nat} {f : Fld}

/-! ### Registers and events -/

theorem frontWords_rd (s : State) {i b w : Nat} (hi : i < 16) (hb : 3 ≤ b ∧ b < BLK_DRT) (hw : w < 2048) (h : Nat) :
    frontWords s.regs h i b w = s.rd h i b w := if_pos ⟨hi, hb.1, hb.2, hw⟩

theorem frontWords_congr {t : State}
    (same : ∀ h i b w, i < 16 → 3 ≤ b → b < BLK_DRT → w < 2048 → t.rd h i b w = s.rd h i b w) :
    frontWords t.regs = frontWords s.regs := by
  funext h i b w
  by_cases c : i < 16 ∧ 3 ≤ b ∧ b < BLK_DRT ∧ w < 2048
  · obtain ⟨hi, low, high, hw⟩ := c
    rw [frontWords_rd t hi ⟨low, high⟩ hw, frontWords_rd s hi ⟨low, high⟩ hw, same h i b w hi low high hw]
  · rw [frontWords, frontWords, if_neg c, if_neg c]

theorem frontWords_wr {b w : Nat} (v : Word) (hi : i < 16) (c : BLK_DRT ≤ b ∧ b < 256 ∧ w < 2048) :
    frontWords (s.wr h i b w v).regs = frontWords s.regs := by
  refine frontWords_congr fun h' i' b' w' hi' low high hw' => State.rd_wr_ne _ _ ?_
  exact rkey_ne hi' hw' (by omega) hi c.2.2 c.2.1 fun same => by omega

theorem frontWords_fput (v : Nat) (hi : i < 16) (c : f.back) : frontWords (s.fput h i f v).regs = frontWords s.regs :=
  frontWords_wr _ hi c

theorem frontWords_fputB (b : Bool) (hi : i < 16) (c : f.back) : frontWords (s.fputB h i f b).regs = frontWords s.regs :=
  frontWords_fput _ hi c

theorem frontWords_count (n : Nat) (hi : i < 16) (c : f.back) : frontWords (s.count h i f n).regs = frontWords s.regs :=
  frontWords_fput _ hi c

/-- The words before DRT count no lost event words. -/
theorem frontWords_noLoss {i b w : Nat} (hi : i < 16) (low : 3 ≤ b) (high : b < BLK_DRT) (hw : w < 2048) : NoLossCounter i b w :=
  have high : b < 13 := high
  ⟨hw, fun _ => ⟨hi, by omega, show b ≠ 2 by omega⟩, fun _ => ⟨hi, by omega, show b ≠ 0 by omega⟩⟩

theorem frontWords_raise (hi : i < 16) (c : f.back) : frontWords (s.raise h i f).regs = frontWords s.regs := by
  refine frontWords_congr fun h' i' b' w' hi' low high hw' => raise_rd _ _ _ _ (frontWords_noLoss hi' low high hw') ?_
  exact rkey_ne hi' hw' (by omega) hi c.2.2 c.2.1 fun same => by omega

theorem frontWords_postEvent (k : Nat) : frontWords (postEvent h i f k s).regs = frontWords s.regs :=
  frontWords_congr fun _ _ _ _ hi' low high hw' => postEvent_rd _ _ _ _ _ (frontWords_noLoss hi' low high hw')

theorem frontWords_fwEvent (code : Nat) : frontWords (fwEvent h code s).regs = frontWords s.regs :=
  frontWords_congr fun _ _ _ _ hi' low high hw' => fwEvent_rd _ _ _ (frontWords_noLoss hi' low high hw')

@[simp] theorem frontWords_ite (c : Prop) [Decidable c] (a b : State) :
    frontWords (if c then a else b).regs = if c then frontWords a.regs else frontWords b.regs := by
  split <;> rfl

theorem frontWords_forEach {α : Type} {f : α → State → State} (each : ∀ x s, frontWords (f x s).regs = frontWords s.regs)
    (xs : List α) (s : State) : frontWords (forEach xs f s).regs = frontWords s.regs :=
  forEach_keeps (P := fun t => frontWords t.regs = frontWords s.regs) (fun x t same => (each x t).trans same) xs s rfl

/-! ### Axes -/

section
variable {a : Nat}

theorem frontWords_mput (v : Nat) (c : f.back) : frontWords (s.mput a f v).regs = frontWords s.regs :=
  frontWords_fput _ (by omega) c

theorem frontWords_mraise (c : f.back) : frontWords (s.mraise a f).regs = frontWords s.regs := frontWords_raise (by omega) c

theorem frontWords_mcount (n : Nat) (c : f.back) : frontWords (s.mcount a f n).regs = frontWords s.regs :=
  frontWords_count _ (by omega) c

@[simp] theorem axGo_front (st : Nat) : frontWords (axGo a st s).regs = frontWords s.regs := frontWords_mput _ (by decide)

@[simp] theorem axShow_front : frontWords (axShow a s).regs = frontWords s.regs := by
  simp (disch := decide) [axShow, frontWords_mput]

@[simp] theorem wake_front : frontWords (wake a s).regs = frontWords s.regs := by
  simp (disch := decide) [wake, coilsOn, frontWords_mput]

@[simp] theorem feedEnd_front (ok : Bool) (m : Move) : frontWords (feedEnd a ok m s).regs = frontWords s.regs := by
  unfold feedEnd
  cases m.feed <;> simp (disch := decide) [frontWords_fput]

@[simp] theorem discard_front (ms : List Move) : frontWords (discard a ms s).regs = frontWords s.regs := by
  simp (disch := decide) [discard, frontWords_forEach (fun m s => feedEnd_front (s := s) false m), frontWords_mcount]

@[simp] theorem queuePush_front (target : Int) (vmax : Nat) (blend : Bool) (feed : Option Nat) (owner : Option (Nat × Nat)) :
    frontWords (queuePush a target vmax blend feed s owner).1.regs = frontWords s.regs := by
  unfold queuePush
  dsimp only
  split_ifs <;> simp (disch := decide) [frontWords_mcount, frontWords_mraise]

@[simp] theorem resDown_front (n : Nat) : frontWords (resDown a n s).regs = frontWords s.regs := by
  induction n generalizing s with
  | zero => rfl
  | succ n ih => simp (disch := decide) [resDown, ih, frontWords_mput]

@[simp] theorem resUp_front (n : Nat) : frontWords (resUp a n s).regs = frontWords s.regs := by
  induction n generalizing s with
  | zero => rfl
  | succ n ih => simp (disch := decide) [resUp, ih, frontWords_mput]

@[simp] theorem axOn_front : frontWords (axOn a s).regs = frontWords s.regs := by
  simp (disch := decide) [axOn, coilsOn, frontWords_mput]

@[simp] theorem resFollow_front : frontWords (resFollow a s).regs = frontWords s.regs := by simp [resFollow]

@[simp] theorem axOff_front (res : Nat) : frontWords (axOff a res s).regs = frontWords s.regs := by
  simp (disch := decide) [axOff, frontWords_mput, frontWords_mraise]

@[simp] theorem limitStop_front : frontWords (limitStop a s).regs = frontWords s.regs := by
  simp (disch := decide) [limitStop, frontWords_mraise]

@[simp] theorem homeWrite_front : frontWords (homeWrite a s).regs = frontWords s.regs := by
  unfold homeWrite
  dsimp only
  split_ifs <;> simp (disch := decide) [frontWords_mput, frontWords_mraise, frontWords_mcount]

/-- What EN, and then STOP, CLR and HOME do to an axis. -/
@[simp] theorem motEnabled_front (c : WriteCtx) : frontWords (motEnabled c s).regs = frontWords s.regs := by
  simp (disch := decide) [motEnabled, motDisable, frontWords_mput]

@[simp] theorem motOrdered_front (c : WriteCtx) : frontWords (motOrdered c s).regs = frontWords s.regs := by
  simp [motOrdered, stopWrite, clrWrite]

@[simp] theorem motAct_front (c : WriteCtx) : frontWords (motAct c s).regs = frontWords s.regs := by
  rw [motAct_eq]
  simp (disch := decide) [motForce, frontWords_mput]

/-- A host write of a block from DRT on, its rule aside. -/
theorem hostWrite_front {blk w : Nat} (c : BLK_DRT ≤ blk ∧ blk < 256 ∧ w < 2048) (hi : i < 16)
    (opn : State → Nat → Nat → Nat → Bool) {act : WriteCtx → State → State}
    (keeps : ∀ c s, frontWords (act c s).regs = frontWords s.regs) (v : Word) :
    frontWords (hostWrite blk opn act h i w v false s).regs = frontWords s.regs := by
  rw [hostWrite_eq, keeps]
  refine frontWords_congr fun h' i' b' w' hi' low high hw' => stored_rd_ne ?_
  exact rkey_ne hi' hw' (by omega) hi c.2.2 c.2.1 fun same => by omega

@[simp] theorem motWrite_ctrl_front (v : Word) : frontWords (motWrite a 0 v s).regs = frontWords s.regs := by
  have write : frontWords (hostWrite BLK_MOT motOpen motAct (a / 4) (a % 4) 0 v false s).regs = frontWords s.regs :=
    hostWrite_front (by decide) (by omega) _ (fun c s => motAct_front c) _
  simp [motWrite, write]

end

/-! ### Draughts -/

@[simp] theorem drtGo_front (st : Nat) : frontWords (drtGo h st s).regs = frontWords s.regs := by
  simp (disch := decide) [drtGo, frontWords_fput, frontWords_fputB]

@[simp] theorem markPage_front (pg why port : Nat) : frontWords (markPage h pg why port s).regs = frontWords s.regs := by
  unfold markPage
  cases findPage s h pg <;> simp [frontWords_fwEvent]

@[simp] theorem markReason_front (pg why port : Nat) : frontWords (markReason h pg why port s).regs = frontWords s.regs := by
  unfold markReason
  cases findPage s h pg <;> simp (disch := decide) [frontWords_raise, frontWords_fput]

@[simp] theorem markHearth_front (why : Nat) : frontWords (markHearth h why s).regs = frontWords s.regs := by
  unfold markHearth
  cases firingPage s h <;> simp

@[simp] theorem loopStart_front : frontWords (loopStart h s).regs = frontWords s.regs := by
  simp (disch := decide) [loopStart, frontWords_fput]

@[simp] theorem drtEnable_front : frontWords (drtEnable h s).regs = frontWords s.regs := by
  simp (disch := decide) [drtEnable, drtHold, clkRest, frontWords_raise, frontWords_fput]

@[simp] theorem drtDisable_front : frontWords (drtDisable h s).regs = frontWords s.regs := by
  simp (disch := decide) [drtDisable, clkRest, frontWords_fput]

@[simp] theorem startArm_front : frontWords (startArm h s).regs = frontWords s.regs := by
  simp (disch := decide) [startArm, armPass, armStart, frontWords_fput, frontWords_raise]

@[simp] theorem drtAct_front (c : WriteCtx) : frontWords (drtAct c s).regs = frontWords s.regs := by
  simp (disch := decide) [drtAct, resumeWrite, clkRest, frontWords_fputB]

/-- A command's write of a word of DRT. -/
theorem putWord_drt_front {w : Nat} (hw : w < 2048) (v : Word) : frontWords (putWord BLK_DRT h 0 w v s).regs = frontWords s.regs := by
  have block : BLK_DRT ≤ BLK_DRT ∧ BLK_DRT < 256 ∧ w < 2048 := ⟨by decide, by decide, hw⟩
  have write : putWord BLK_DRT h 0 w v s = if (eventEnWords BLK_DRT).contains w ∧ BLK_DRT ≠ BLK_MBX ∧ BLK_DRT ≠ BLK_TWN then
      hostWrite BLK_DRT (blockOpen BLK_DRT) (eventEnableAct BLK_DRT) h 0 w v false s
      else hostWrite BLK_DRT (blockOpen BLK_DRT) (blockAct BLK_DRT) h 0 w v false s := by
    unfold putWord regWrite
    rw [if_neg (by simp)]
    rfl
  rw [write, frontWords_ite, hostWrite_front block (by decide), hostWrite_front block (by decide), ite_self]
  · exact fun c s => drtAct_front c
  · exact fun c s => frontWords_forEach (fun b s => frontWords_postEvent _) _ _

theorem putFlds_drt_front {w : Nat} (hw : w < 2048) (fs : List (Fld × Nat)) :
    frontWords (putFlds h 0 BLK_DRT w fs s).regs = frontWords s.regs := putWord_drt_front hw _

/-! ### Stand-alone motions -/

@[simp] theorem aloneEnded_front : frontWords (aloneEnded s).regs = frontWords s.regs := by
  simp [aloneEnded, goHosted, frontWords_fwEvent]

@[simp] theorem axisOn_front (a : Nat) : frontWords (axisOn a s).regs = frontWords s.regs := by simp [axisOn]

@[simp] theorem chartArm_front (k : AloneCfg) : frontWords (chartArm k s).regs = frontWords s.regs :=
  frontWords_forEach (fun h s => by simp (disch := decide) [putWord_drt_front, putFlds_drt_front]) _ _

@[simp] theorem aloneStep_front (n : Nat) : frontWords (aloneStep n s).regs = frontWords s.regs := by
  induction n generalizing s with
  | zero => rfl
  | succ n ih =>
    unfold aloneStep
    split
    · simp
    · simp
    · next st rest k _ _ => cases st <;> simp [ih]

theorem aloneMotion_front : frontWords (aloneMotion s).regs = frontWords s.regs := by simp [aloneMotion]

/-! ### The Chimney -/

theorem place_front (join : Nat → OutX → Pkt → OutX) (level : Nat) (p : Pkt) :
    frontWords (place join level h p s).regs = frontWords s.regs := by
  unfold place
  dsimp only
  split_ifs
  · cases p.mem <;> simp [State.setOut]
  all_goals split <;> simp (disch := decide) [State.setOut, unreach, frontWords_count, frontWords_raise]

theorem linkFollow_front (l : Nat) : frontWords (linkFollow h l s).regs = frontWords s.regs := by
  have hop (e : Nat × Pkt) (s : State) : frontWords (hopDone h l e.2 s).regs = frontWords s.regs := place_front _ _ _
  unfold linkFollow
  dsimp only
  split
  · rfl
  · rw [frontWords_forEach hop]
    rfl

theorem refreshFollow_front : frontWords (refreshFollow h s).regs = frontWords s.regs := by
  have row (e : Nat × Nat × Nat × Nat) (s : State) : frontWords (rowRefreshed h e.1 e.2.1 e.2.2.1 s).regs = frontWords s.regs := by
    simp (disch := decide) [rowRefreshed, frontWords_count]
  unfold refreshFollow
  dsimp only
  split
  · rfl
  · rw [frontWords_forEach row]
    rfl

theorem fabricFollow_front : frontWords (fabricFollow s).regs = frontWords s.regs :=
  frontWords_forEach (fun h s => by rw [hearthFollow, refreshFollow_front, linkFollow_front, linkFollow_front, linkFollow_front]) _ _

end Sys2Proof.Machine
end

section
/-! PROOFS. What follows a command at hearth 0 cannot enable port 0 of hearth 1 through a decoder while the memory of hearth 0 has failed
(R255; log 14). -/

namespace Sys2Proof.Machine

variable {s t : State} {h i d : Nat} {f : Fld}

/-! ### The port's EN and the memory of hearth 0 -/

/-- EN of decoder 4144 and the state of decoder 256 of hearth 0 in a table of registers. Their addresses are those of FBX_CTRL of port 0
of hearth 1 and of DRM_STATUS of hearth 0 (log 17). -/
def portFields (r : Tab Word) : Nat × Nat :=
  (bits (tabGet dfltReg r (rkey 0 BLK_CIN 4144 CIN_CTRL_EN.word)).toNat 0 1,
   bits (tabGet dfltReg r (rkey 0 BLK_CIN 256 CIN_STATUS_STATE.word)).toNat 0 2)

theorem portFields_eq (s : State) : portFields s.regs = (s.fget 0 4144 CIN_CTRL_EN, s.fget 0 256 CIN_STATUS_STATE) := rfl

theorem portFields_shown (s : State) : portFields s.regs = (s.fget 1 0 FBX_CTRL_EN, s.fget 0 0 DRM_STATUS_STATE) := by
  have en : rkey 0 BLK_CIN 4144 CIN_CTRL_EN.word = rkey 1 BLK_FBX 0 FBX_CTRL_EN.word := by decide
  have mem : rkey 0 BLK_CIN 256 CIN_STATUS_STATE.word = rkey 0 DRM_STATUS_STATE.blk 0 DRM_STATUS_STATE.word := by decide
  rw [portFields, en, mem]
  rfl

/-- Port 0 of hearth 1 is disabled, or the memory of hearth 0 works. -/
def PortOff (s : State) : Prop := (portFields s.regs).1 = 0 ∨ (portFields s.regs).2 ≠ 3

theorem PortOff.of_fields (off : PortOff s) (same : portFields t.regs = portFields s.regs) : PortOff t := by
  rwa [PortOff, same]

theorem portFields_congr (en : t.fget 0 4144 CIN_CTRL_EN = s.fget 0 4144 CIN_CTRL_EN)
    (mem : t.fget 0 256 CIN_STATUS_STATE = s.fget 0 256 CIN_STATUS_STATE) : portFields t.regs = portFields s.regs := by
  rw [portFields_eq, portFields_eq, en, mem]

/-- A field in a word of another number than those of the two. -/
abbrev Fld.offPort (f : Fld) : Prop := CIN_CTRL_EN.offWord f = true ∧ CIN_STATUS_STATE.offWord f = true

theorem portFields_fput (v : Nat) (c : f.offPort) : portFields (s.fput h i f v).regs = portFields s.regs :=
  portFields_congr (State.fget_fput_off _ _ _ _ _ _ _ _ c.1) (State.fget_fput_off _ _ _ _ _ _ _ _ c.2)

theorem portFields_count (n : Nat) (c : f.offPort) : portFields (s.count h i f n).regs = portFields s.regs := portFields_fput _ c

theorem portFields_raise (c : f.offPort) : portFields (s.raise h i f).regs = portFields s.regs :=
  portFields_congr (raise_fget_off _ _ _ _ _ _ _ c.1 (by decide)) (raise_fget_off _ _ _ _ _ _ _ c.2 (by decide))

theorem portFields_put64 (v : Nat) (low : f.low.offPort) (high : f.high.offPort) :
    portFields (s.put64 h i f v).regs = portFields s.regs := by
  rw [State.put64_eq, portFields_fput _ high, portFields_fput _ low]

/-- A write of a block before FBX at an instance it has. -/
theorem portFields_front (v : Nat) (hi : i < 16) (c : f.blk < BLK_FBX ∧ f.word < 2048) :
    portFields (s.fput h i f v).regs = portFields s.regs := by
  have front : f.blk < 12 := c.1
  have en : rkey 1 BLK_FBX 0 FBX_CTRL_EN.word ≠ rkey h f.blk i f.word :=
    rkey_ne (by decide) (by decide) (by decide) hi c.2 (by omega) fun same => front.ne same.2.2.1.symm
  have mem : rkey 0 DRM_STATUS_STATE.blk 0 DRM_STATUS_STATE.word ≠ rkey h f.blk i f.word :=
    rkey_ne (by decide) (by decide) (by decide) hi c.2 (by omega) fun same => absurd same.2.2.1 (show (25 : Nat) ≠ f.blk by omega)
  rw [portFields_shown, portFields_shown, State.fget_fput_ne (g := FBX_CTRL_EN) _ _ en,
    State.fget_fput_ne (g := DRM_STATUS_STATE) _ _ mem]

@[simp] theorem portFields_ite (c : Prop) [Decidable c] (a b : State) :
    portFields (if c then a else b).regs = if c then portFields a.regs else portFields b.regs := by
  split <;> rfl

theorem portFields_forEach {α : Type} {f : α → State → State} (each : ∀ x s, portFields (f x s).regs = portFields s.regs)
    (xs : List α) (s : State) : portFields (forEach xs f s).regs = portFields s.regs :=
  forEach_keeps (P := fun t => portFields t.regs = portFields s.regs) (fun x t same => (each x t).trans same) xs s rfl

/-! ### Decoders of hearth 0 -/

/-- A field of a decoder of the hearth, apart from `f` in every decoder's registers, stands as `f` is written. -/
theorem State.fget_fput_decoder {f g : Fld} (v d d' : Nat) (c : g.clears f) (b : f.blk = BLK_CIN ∧ g.blk = BLK_CIN) :
    (s.fput h d f v).fget h d' g = s.fget h d' g := by
  by_cases same : d' = d
  · rw [same, State.fget_fput_clears v c]
  · obtain ⟨wg, wf, -⟩ := c
    refine State.fget_fput_ne _ _ ?_
    rw [b.1, b.2]
    unfold rkey
    omega

/-- A field of a decoder apart from its EN and its state. -/
abbrev Fld.ofDecoder (f : Fld) : Prop := f.blk = BLK_CIN ∧ CIN_CTRL_EN.clears f ∧ CIN_STATUS_STATE.clears f

theorem portFields_decoder (v : Nat) (c : f.ofDecoder) : portFields (s.fput 0 d f v).regs = portFields s.regs :=
  portFields_congr (State.fget_fput_decoder v d _ c.2.1 ⟨c.1, rfl⟩) (State.fget_fput_decoder v d _ c.2.2 ⟨c.1, rfl⟩)

theorem portFields_jobCounted (st : Nat) : portFields (jobCounted 0 d st s).regs = portFields s.regs := by
  simp (disch := decide) [jobCounted, State.count_eq, portFields_raise, portFields_decoder]

/-- A decoder whose state is shown other than draining leaves the memory as it was, or shows it as working. -/
theorem PortOff.cinState (off : PortOff s) (d : Nat) {v : Nat} (lt : v < 3) : PortOff (s.fput 0 d CIN_STATUS_STATE v) := by
  by_cases own : d = 256
  · have shown : (s.fput 0 256 CIN_STATUS_STATE v).fget 0 256 CIN_STATUS_STATE = v :=
      State.fget_fput_of_lt (by decide) (show v < 4 by omega)
    rw [own, PortOff, portFields_eq, shown]
    exact .inr (by omega)
  · refine off.of_fields (portFields_congr (State.fget_fput_decoder v d _ (by decide) ⟨rfl, rfl⟩) (State.fget_fput_ne _ _ ?_))
    unfold rkey
    omega

theorem PortOff.cinEnable (off : PortOff s) (d : Nat) : PortOff (cinEnable 0 d s) := by
  have mem : s.fget 0 0 DRM_STATUS_STATE = (portFields s.regs).2 := rfl
  unfold Machine.cinEnable
  by_cases failed : dramFailed s 0 = true
  · have runs : s.fget 0 4144 CIN_CTRL_EN = 0 := off.resolve_right (not_not.mpr (mem ▸ beq_iff_eq.mp failed))
    rw [if_pos failed, PortOff, portFields_eq]
    refine .inl ?_
    by_cases own : d = 4144
    · rw [own]
      exact State.fget_fput_of_lt (by decide) (by decide)
    · refine (State.fget_fput_ne _ _ ?_).trans runs
      unfold rkey
      omega
  · have works : PortOff (s.fput 0 d CIN_CTRL_EN 1) := by
      have stands : (s.fput 0 d CIN_CTRL_EN 1).fget 0 256 CIN_STATUS_STATE = (portFields s.regs).2 :=
        State.fget_fput_decoder 1 d 256 (by decide) ⟨rfl, rfl⟩
      rw [PortOff, portFields_eq, stands]
      exact .inr fun three => failed (beq_iff_eq.mpr (mem.trans three))
    rw [if_neg failed]
    exact works.cinState d (by decide)

theorem PortOff.cinResume (off : PortOff s) (d : Nat) : PortOff (cinResume 0 d s) := by
  unfold Machine.cinResume
  dsimp only
  split
  · refine PortOff.cinEnable (s := s.setBas 0 _) (off.of_fields ?_) d
    rw [State.setBas_regs]
  · exact off

theorem PortOff.cinRecord (off : PortOff s) (d st : Nat) : PortOff (cinRecord 0 d st s) := by
  have counted : PortOff (jobCounted 0 d st s) := off.of_fields (portFields_jobCounted st)
  rw [cinRecord_eq]
  split
  · have stopped : PortOff (cinOff 0 d 3 (jobCounted 0 d st s)) :=
      (counted.cinState d (v := 0) (by decide)).of_fields (by
        simp (disch := decide) only [cinOff, portFields_raise, portFields_decoder])
    exact stopped.cinResume d
  · exact counted.cinState d (by split <;> decide)

@[simp] theorem jobPart_portFields : portFields (jobPart h d s).regs = portFields s.regs := by
  unfold jobPart
  cases runningJob s h d <;> simp (disch := decide) [rawCount, portFields_put64, portFields_raise, portFields_count]

/-! ### Pages that leave hearth 0 -/

@[simp] theorem basRefresh_portFields : portFields (basRefresh h s).regs = portFields s.regs := by
  obtain ⟨rp, mark, page, free, dec, pages, bufs, ahead, hold, active, e⟩ := basRefresh_eq h s
  rw [e]
  simp (disch := decide) [State.fputB_eq, portFields_front, portFields_put64]

@[simp] theorem basDrainCheck_portFields : portFields (basDrainCheck h s).regs = portFields s.regs := by
  simp (disch := decide) [basDrainCheck, basEnable, portFields_front, portFields_raise]

@[simp] theorem ringTrim_portFields : portFields (ringTrim h s).regs = portFields s.regs := by
  simp (disch := decide) [ringTrim, portFields_put64]

@[simp] theorem lbSweep_portFields : portFields (lbSweep h s).regs = portFields s.regs :=
  portFields_forEach (fun k s => by simp (disch := decide) [portFields_fput, portFields_raise]) _ _

theorem PortOff.stopJobs (off : PortOff s) (pg : Nat) : PortOff (stopJobs 0 pg s) := by
  unfold Machine.stopJobs
  split
  · exact off
  · refine forEach_keeps (P := PortOff) (fun d t held => PortOff.cinRecord held d 4) _ _ ?_
    refine PortOff.of_fields (s := forEach _ (jobPart 0) s) ?_ rfl
    exact off.of_fields (portFields_forEach (fun d t => jobPart_portFields) _ _)

theorem PortOff.removePage (off : PortOff s) (pg : Nat) (lost : Bool) : PortOff (removePage 0 pg lost s) := by
  unfold Machine.removePage
  split
  · exact off
  · exact (off.stopJobs pg).of_fields (by simp)

theorem PortOff.releasePage (off : PortOff s) (pg : Nat) : PortOff (releasePage 0 pg s) := by
  unfold Machine.releasePage
  split
  · exact off.of_fields rfl
  · exact off.removePage pg false

theorem PortOff.releaseHeld (off : PortOff s) : PortOff (releaseHeld 0 s) := by
  refine forEach_keeps (P := PortOff) (fun p t held => ?_) _ _ off
  split
  · exact held
  · exact PortOff.removePage held p.id false

theorem PortOff.retainKeep (off : PortOff s) (extra : Nat) : PortOff (retainKeep 0 extra s) := by
  unfold Machine.retainKeep
  dsimp only
  split
  · exact off
  · refine forEach_keeps (P := PortOff) (fun p t held => ?_) _ _ off
    split
    · exact held
    · exact (PortOff.releasePage held p.id).of_fields (portFields_raise (by decide))

theorem creditRefresh_portFields (hi : i < 16) : portFields (creditRefresh h i s).regs = portFields s.regs := by
  have stall (t : State) (b : Bool) : portFields (t.fputB h i GOR_STATUS_CREDIT_STALL b).regs = portFields t.regs :=
    portFields_front _ hi (by decide)
  rcases creditRefresh_cases h i s with e | ⟨lim, stalls, begins, e⟩ <;> rw [e]
  cases begins <;> simp (disch := decide) [onlyIf, stall, portFields_raise, portFields_put64]

/-- What follows a command at hearth 0 leaves the port disabled while the memory there has failed. -/
theorem PortOff.basinFollow (off : PortOff s) : PortOff (basinFollow 0 s) :=
  (off.releaseHeld.retainKeep 0).of_fields ((creditRefresh_portFields (by decide)).trans (creditRefresh_portFields (by decide)))

end Sys2Proof.Machine
end

section
/-! PROOFS. A page that leaves hearth 1 brings the page count of its Basin up to date; what then follows a command (R87, R93, R98;
log 14). -/

namespace Sys2Proof.Machine

variable {s t : State} {i : Nat}

/-! ### The page count of the Basin of hearth 1 -/

/-- BAS_STATUS of hearth 1 shows how many pages it holds. -/
def PagesShown (s : State) : Prop := s.fget 1 0 BAS_STATUS_PAGES = (heldPages s 1).length % 2 ^ 12

/-- Port 0 of hearth 1 has not been enabled past a failed memory of hearth 0 without bringing the page count up to date. -/
def PortOffOrPagesShown (s : State) : Prop := PortOff s ∨ PagesShown s

theorem PortOffOrPagesShown.of_same (holds : PortOffOrPagesShown s) (regs : t.regs = s.regs)
    (held : (heldPages t 1).length = (heldPages s 1).length) : PortOffOrPagesShown t := by
  refine holds.imp (fun off => off.of_fields (by rw [regs])) fun shown => ?_
  have count : t.fget 1 0 BAS_STATUS_PAGES = s.fget 1 0 BAS_STATUS_PAGES := by rw [State.fget, State.rd, regs]; rfl
  rw [PagesShown, count, held]
  exact shown

theorem PortOffOrPagesShown.raise_bas (holds : PortOffOrPagesShown s) {f : Fld} (port : f.offPort)
    (pages : BAS_STATUS_PAGES.offWord f = true) (h : Nat) : PortOffOrPagesShown (s.raise h i f) := by
  refine holds.imp (fun off => off.of_fields (portFields_raise port)) fun shown => ?_
  rw [PagesShown, raise_fget_off _ _ _ _ _ _ _ pages (by decide), heldPages, State.raise_acc_bas]
  exact shown

/-- The Basin's pointers are brought up to date before its page count, other status fields after it. -/
theorem basRefresh_pages (h : Nat) (s : State) : ∃ (x : State) (bufs ahead : Nat) (hold active : Bool),
    basRefresh h s = ((((x.fput h 0 BAS_STATUS_PAGES (heldPages x h).length).fput h 0 BAS_STATUS_LBS bufs).fput h 0 BAS_STATUS_AHEAD
      ahead).fputB h 0 BAS_STATUS_MARK_HOLD hold).fputB h 0 BAS_STATUS_ACTIVE active := ⟨_, _, _, _, _, rfl⟩

theorem heldPages_congr (same : t.basins = s.basins) (h : Nat) : heldPages t h = heldPages s h := by
  rw [heldPages, heldPages, State.bas, State.bas, same]

theorem pagesShown_basRefresh (s : State) : PagesShown (basRefresh 1 s) := by
  obtain ⟨x, bufs, ahead, hold, active, e⟩ := basRefresh_pages 1 s
  have held : heldPages (basRefresh 1 s) 1 = heldPages x 1 := by
    refine heldPages_congr ?_ 1
    rw [e, State.fputB_eq, State.fputB_eq]
    simp only [State.fput_basins]
  rw [PagesShown, held, e, State.fget_fputB_clears _ (by decide), State.fget_fputB_clears _ (by decide),
    State.fget_fput_clears _ (by decide), State.fget_fput_clears _ (by decide), State.fget_fput_same _ _ _ _ _ (by decide)]

/-! ### Pages that leave hearth 1 -/

theorem PortOffOrPagesShown.removePage (holds : PortOffOrPagesShown s) (pg : Nat) (lost : Bool) :
    PortOffOrPagesShown (removePage 1 pg lost s) := by
  unfold Machine.removePage
  split
  · exact holds
  · exact .inr (pagesShown_basRefresh _)

theorem heldPages_mapPage_length (pg : Nat) {f : Page → Page} (keeps : ∀ q, (f q).st = q.st) :
    (heldPages (mapPage 1 pg f s) 1).length = (heldPages s 1).length := by
  have same : Page.held ∘ (fun q => if q.id == pg && q.held then f q else q) = Page.held := by
    funext q
    simp only [Function.comp, apply_ite Page.held]
    simp [Page.held, keeps]
  rw [heldPages, mapPage, State.setBas_same, List.filter_map, List.length_map, same]
  rfl

theorem PortOffOrPagesShown.releasePage (holds : PortOffOrPagesShown s) (pg : Nat) : PortOffOrPagesShown (releasePage 1 pg s) := by
  unfold Machine.releasePage
  split
  · exact holds.of_same rfl (heldPages_mapPage_length pg fun _ => rfl)
  · exact holds.removePage pg false

theorem PortOffOrPagesShown.releaseHeld (holds : PortOffOrPagesShown s) : PortOffOrPagesShown (releaseHeld 1 s) := by
  refine forEach_keeps (P := PortOffOrPagesShown) (fun p t held => ?_) _ _ holds
  split
  · exact held
  · exact PortOffOrPagesShown.removePage held p.id false

theorem PortOffOrPagesShown.retainKeep (holds : PortOffOrPagesShown s) (extra : Nat) :
    PortOffOrPagesShown (retainKeep 1 extra s) := by
  unfold Machine.retainKeep
  dsimp only
  split
  · exact holds
  · refine forEach_keeps (P := PortOffOrPagesShown) (fun p t held => ?_) _ _ holds
    split
    · exact held
    · exact PortOffOrPagesShown.raise_bas (PortOffOrPagesShown.releasePage held p.id) (by decide) (by decide) 1

theorem PortOffOrPagesShown.creditRefresh (holds : PortOffOrPagesShown s) (hi : i < 16) :
    PortOffOrPagesShown (creditRefresh 1 i s) := by
  refine holds.imp (fun off => off.of_fields (creditRefresh_portFields hi)) fun shown => ?_
  have stall (x : State) (b : Bool) : (x.fputB 1 i GOR_STATUS_CREDIT_STALL b).fget 1 0 BAS_STATUS_PAGES = x.fget 1 0 BAS_STATUS_PAGES :=
    State.fget_fput_ne _ _ (rkey_ne (by decide) (by decide) (by decide) hi (by decide) (by decide) (by simp))
  have credit (x : State) (lim : Nat) : (x.put64 1 i GOR_CREDIT_LO lim).fget 1 0 BAS_STATUS_PAGES = x.fget 1 0 BAS_STATUS_PAGES := by
    rw [State.put64_eq, State.fget_fput_off _ _ _ _ _ _ _ _ (by decide), State.fget_fput_off _ _ _ _ _ _ _ _ (by decide)]
  have kept : (Machine.creditRefresh 1 i s).fget 1 0 BAS_STATUS_PAGES = s.fget 1 0 BAS_STATUS_PAGES ∧
      (Machine.creditRefresh 1 i s).bas 1 = s.bas 1 := by
    rcases creditRefresh_cases 1 i s with e | ⟨lim, stalls, begins, e⟩ <;> rw [e]
    · exact ⟨rfl, rfl⟩
    · cases begins
      · exact ⟨(stall _ _).trans (credit s lim), rfl⟩
      · exact ⟨(raise_fget_off _ _ _ _ _ _ _ (by decide) (by decide)).trans ((stall _ _).trans (credit s lim)), State.raise_acc_bas ..⟩
  rw [PagesShown, kept.1, heldPages, kept.2]
  exact shown

theorem PortOffOrPagesShown.basinFollow (holds : PortOffOrPagesShown s) : PortOffOrPagesShown (basinFollow 1 s) :=
  (((holds.releaseHeld).retainKeep 0).creditRefresh (by decide)).creditRefresh (by decide)

end Sys2Proof.Machine
end

section
/-! PROOFS. A forced port that a decoder's resumption enables again (R120, R183; log 14, 17). -/

namespace Sys2Proof.Machine

/-! ### Twin releases and deferred commands leave registers, Basins and the part -/

/-- What the end of a command leaves but for the display of the gates. -/
def groundOf (s : State) : Tab Word × Tab BasX × Part := (s.regs, s.basins, s.part)

section
variable {s t : State}

theorem forEach_ground {α : Type} {f : α → State → State} (each : ∀ x s, groundOf (f x s) = groundOf s) (xs : List α) (s : State) :
    groundOf (forEach xs f s) = groundOf s :=
  forEach_keeps (P := fun t => groundOf t = groundOf s) (fun x t same => (each x t).trans same) xs s rfl

theorem twinRelease_ground (c : TwnCmd) (s : State) : groundOf (twinRelease c s) = groundOf s := by
  unfold twinRelease
  split
  · rfl
  · dsimp only
    split <;> rfl

theorem answer_ground (c : Cmd) (op st : Nat) (p : List Byte) : groundOf (answer c op st p s) = groundOf s := by
  unfold answer
  split <;> rfl

theorem settleDop_ground (d : DOp) (s : State) : groundOf (settleDop d s) = groundOf s := by
  unfold settleDop
  split
  · rfl
  · dsimp only
    split
    · exact answer_ground ..
    · rfl

theorem settleOps_ground : groundOf (settleOps s) = groundOf s := forEach_ground settleDop_ground _ _

theorem inJunior_settleOps_ground : groundOf (inJunior settleOps s) = groundOf s := by
  unfold inJunior
  split
  · rfl
  · exact (settleOps_ground (s := { s with crown := _, mode := _, mbxs := _, dops := _ })).trans rfl

/-- What follows a command, from the Basins on. -/
theorem settle_ground (s : State) : ∃ u, groundOf u = groundOf (basinsFollow (fabricFollow (aloneMotion s))) ∧ settle s = gateShow u :=
  ⟨_, inJunior_settleOps_ground.trans (settleOps_ground.trans (forEach_ground twinRelease_ground _ _)), rfl⟩

theorem portOffOrPagesShown_of_ground (same : groundOf t = groundOf s) : PortOffOrPagesShown t ↔ PortOffOrPagesShown s := by
  obtain ⟨regs, rest⟩ := Prod.mk.inj same
  have held : (heldPages t 1).length = (heldPages s 1).length := by rw [heldPages_congr (Prod.mk.inj rest).1]
  exact ⟨fun holds => holds.of_same regs.symm held.symm, fun holds => holds.of_same regs held⟩

theorem portOffOrPagesShown_gateShow : PortOffOrPagesShown (gateShow s) ↔ PortOffOrPagesShown s := by
  have stands {f : Fld} (h : Nat) (c : f.word < 2048 ∧ f.blk < 256 ∧ f.blk ≠ FND_STATUS_ACTIVE.blk) :
      (gateShow s).fget h 0 f = s.fget h 0 f :=
    State.fget_fput_ne _ _ (rkey_ne (by decide) c.1 c.2.1 (by decide) (by decide) (by decide) fun same => c.2.2 same.2.2.1)
  have fields : portFields (gateShow s).regs = portFields s.regs := by
    rw [portFields_shown, portFields_shown, stands 1 (by decide), stands 0 (by decide)]
  rw [PortOffOrPagesShown, PortOff, PagesShown, fields, stands 1 (by decide)]
  rfl

/-- The Basins decide it; the part stands. -/
theorem portOffOrPagesShown_settle_iff :
    PortOffOrPagesShown (settle s) ↔ PortOffOrPagesShown (basinsFollow (fabricFollow (aloneMotion s))) := by
  obtain ⟨u, ground, e⟩ := settle_ground s
  rw [e, portOffOrPagesShown_gateShow, portOffOrPagesShown_of_ground ground]

theorem settle_part : (settle s).part = (fabricFollow (aloneMotion s)).part := by
  obtain ⟨u, ground, e⟩ := settle_ground s
  rw [e]
  exact (congrArg (fun r => r.2.2) ground).trans (congrArg (fun r => r.2.2.2) basinsFollow_aside)

theorem basinsFollow_of_two (two : s.part = .sb2) : basinsFollow s = basinFollow 1 (basinFollow 0 s) := by
  rw [basinsFollow, State.nH, two]
  rfl

theorem PortOff.of_disabled (off : s.fon 1 0 FBX_CTRL_EN = false) : PortOff s := by
  rw [PortOff, portFields_shown]
  exact .inl (bne_eq_false_iff_eq.mp off)

theorem fabric_fbxEn (s : State) : (fabricFollow (aloneMotion s)).fon 1 0 FBX_CTRL_EN = s.fon 1 0 FBX_CTRL_EN := by
  have front : frontWords (fabricFollow (aloneMotion s)).regs = frontWords s.regs := fabricFollow_front.trans aloneMotion_front
  have word : (fabricFollow (aloneMotion s)).rd 1 0 BLK_FBX 0 = s.rd 1 0 BLK_FBX 0 := by
    rw [← frontWords_rd _ (by decide) (by decide) (by decide), front, frontWords_rd _ (by decide) (by decide) (by decide)]
  exact congrArg (fun v : Word => bits v.toNat 0 1 != 0) word

/-- On a part of two hearths a command cannot end with port 0 of hearth 1 enabled again and the memory of hearth 0 failed, unless the
page count of hearth 1 is up to date. -/
theorem portOffOrPagesShown_settle (off : s.fon 1 0 FBX_CTRL_EN = false) (two : (settle s).part = .sb2) :
    PortOffOrPagesShown (settle s) := by
  have disabled : PortOff (fabricFollow (aloneMotion s)) := .of_disabled ((fabric_fbxEn s).trans off)
  rw [portOffOrPagesShown_settle_iff, basinsFollow_of_two (settle_part.symm.trans two)]
  exact PortOffOrPagesShown.basinFollow (.inl disabled.basinFollow)

/-! ### A forced port that is armed, a Basin that only releases pages -/

/-- A forced port that was armed reaches READY and drains at once. -/
theorem portForce_armed {h p : Nat} (armed : portState s h p = 4) (low : (s.fbx h p).strobes = 0) :
    portForce h p s = endingCheck h (portDrained h p 4 (reachReady h p (s.fput h p FBX_CTRL_EN 0))) := by
  rw [portForce, armed]
  simp [strobesOff, low]

theorem releaseHeld_of_one {h : Nat} {q : Page} (free : mirrorHolds s h q.id = false)
    (one : ((heldPages s h).filter fun p => p.defer && (p.st == .complete || p.st == .retired)) = [q]) :
    releaseHeld h s = removePage h q.id false s := by
  rw [releaseHeld, one]
  exact if_neg (Bool.eq_false_iff.mp free)

theorem releaseHeld_of_none {h : Nat}
    (none : ((heldPages s h).filter fun p => p.defer && (p.st == .complete || p.st == .retired)) = []) : releaseHeld h s = s := by
  rw [releaseHeld, none]
  rfl

/-- With RETAIN 0 and no session a Basin releases pages and does no more. -/
theorem basinFollow_of_released {h : Nat} (released : releaseHeld h s = t) (retain : t.fget h 0 BAS_CTRL_RETAIN = 0)
    (page : gorLive t h 0 = false) (mirror : gorLive t h 1 = false) : basinFollow h s = t := by
  have credit {i : Nat} (down : gorLive t h i = false) : creditRefresh h i t = t := if_pos (by simp [down])
  have retained : retainKeep h 0 t = t := if_pos retain
  rw [basinFollow, released, retained, credit page, credit mirror]

end

/-! ### Obligation -/

/-- The page that fires on hearth 1, in its later states too, and the page that hearth 0 has retired. -/
def twinShot (st : PageSt) : Page := { id := 7, st := st, defer := true, slots := [{ job := .running 48 }] }
def twinOld : Page := { id := 9, st := .retired, defer := true, slots := [{ job := .running 4080 }] }

/-- An armed port of hearth 1 while the memory of hearth 0 has failed. The page that fires there holds decoder 48, whose registers are
the port's (log 17) and which waits to be enabled again; a page retired on hearth 0 holds decoder 4080, whose registers are the Basin's of
hearth 1. -/
def armedTwin : State :=
  { (State.reset.fput 1 0 FBX_STATUS_STATE 4).fput 0 0 DRM_STATUS_STATE 3 with
    part := .sb2
    ters := [(1, { ending := some 7 })]
    basins := [(0, { tbl := [twinOld] }), (1, { tbl := [twinShot .firing], cinAgain := [48] })] }

/-- Hearth 1 as its port 0 is forced off, as the page's end is seen, as the page has retired, and after the row; then hearth 0 as its
page has left. -/
def twinDrained : State := portDrained 1 0 4 (reachReady 1 0 (armedTwin.fput 1 0 FBX_CTRL_EN 0))
def twinEnded : State := twinDrained.setTer 1 { twinDrained.ter 1 with ending := none }
def twinRetired : State := pageRetired 1 7 (pageShot 1 7 twinEnded)
def twinForced : State := (pageLeft 1 7 48 twinRetired).raise 1 0 BAS_EVENT_AUTO_RELEASE
def twinReleased : State := pageLeft 0 9 4080 twinForced

theorem armedTwin_forced : fbxForceOff 1 0 armedTwin = twinForced := by
  have leaves : removePage 1 7 false twinRetired = pageLeft 1 7 48 twinRetired :=
    removePage_of_short (q := twinShot .retired) (k := 0) (x := { job := .running 48 }) (by decide +kernel) rfl (by decide +kernel)
      (by decide)
  calc fbxForceOff 1 0 armedTwin = portForce 1 0 armedTwin := if_pos (by decide +kernel)
    _ = endingCheck 1 twinDrained := portForce_armed (by decide +kernel) (by decide +kernel)
    _ = enterFired 1 7 twinEnded := endingCheck_of_ended (by decide +kernel) (by decide +kernel)
    _ = retirePage 1 7 (pageShot 1 7 twinEnded) := enterFired_of_firing (q := twinShot .firing) (by decide +kernel) rfl (by decide +kernel)
    _ = (removePage 1 7 false twinRetired).raise 1 0 BAS_EVENT_AUTO_RELEASE :=
      retirePage_of_deferred (q := twinShot .fired) (by decide +kernel) rfl rfl (by decide +kernel)
    _ = twinForced := by rw [leaves, twinForced]

theorem twinForced_still : fabricFollow (aloneMotion twinForced) = twinForced := by
  have motion : aloneMotion twinForced = twinForced := if_pos (by decide +kernel)
  rw [motion, fabricFollow_of_no_outputs (by decide +kernel)]

theorem twinForced_follows : basinsFollow twinForced = twinReleased := by
  have left : releaseHeld 0 twinForced = twinReleased := calc
    releaseHeld 0 twinForced = removePage 0 9 false twinForced := releaseHeld_of_one (q := twinOld) (by decide +kernel) (by decide +kernel)
    _ = twinReleased :=
      removePage_of_short (q := twinOld) (k := 0) (x := { job := .running 4080 }) (by decide +kernel) rfl (by decide +kernel) (by decide)
  have none : releaseHeld 1 twinReleased = twinReleased := releaseHeld_of_none (by decide +kernel)
  rw [basinsFollow_of_two (by decide +kernel),
    basinFollow_of_released left (by decide +kernel) (by decide +kernel) (by decide +kernel),
    basinFollow_of_released none (by decide +kernel) (by decide +kernel) (by decide +kernel)]

/-- The port is enabled again, the memory of hearth 0 has failed, and the page count of hearth 1 is not what it holds. -/
theorem twinReleased_enabled : ¬ PortOffOrPagesShown twinReleased := by
  unfold PortOffOrPagesShown PortOff PagesShown
  decide +kernel

/-- Refutes O35: FORCE_OFF on an armed port ends a page whose decoder 48 is enabled again; CIN_CTRL of that decoder has the address of
FBX_CTRL of the port, which ends enabled. Nothing that follows a command enables it once it is off, for the memory of hearth 0 has failed
and the page count of hearth 1 is out of date. -/
theorem not_headPortStateMachine : ¬ Obligations.HeadPortStateMachine := by
  intro holds
  obtain ⟨-, -, -, -, -, -, -, -, forceOff, -⟩ := holds armedTwin 1 0 (by decide +kernel)
  obtain ⟨t, ends, -, -, -, disabled⟩ := forceOff (by decide +kernel) (by decide +kernel) (by decide +kernel)
  have same : settle twinForced = settle t := by
    rw [← armedTwin_forced]
    exact Host.Outcome.next.inj ends
  have two : (settle t).part = .sb2 := by
    rw [← same, settle_part, twinForced_still]
    decide +kernel
  have shown : PortOffOrPagesShown (settle twinForced) := by
    rw [same]
    exact portOffOrPagesShown_settle disabled two
  rw [portOffOrPagesShown_settle_iff, twinForced_still, twinForced_follows] at shown
  exact twinReleased_enabled shown

end Sys2Proof.Machine
end

section
/-! PROOFS. What a camera port's operations leave of its record and its fields, and that they leave the pipeline's state (R188, R190,
R193, R194, R212). -/

namespace Sys2Proof.Machine

section
variable {s t : State} {h c n : Nat} {f g : Fld} {x : CamX}

/-! ### The pipeline's state, seen from a camera port -/

/-- A field of a register of the camera ports. -/
abbrev Fld.ofCam (f : Fld) : Prop := f.blk = BLK_CAM ∧ f.word < 2048

theorem ispRuns_cam_key (port : c < 2) (cam : f.ofCam) : rkey n BLK_ISP 0 ISP_STATUS.word ≠ rkey h f.blk c f.word := by
  obtain ⟨blk, word⟩ := cam
  rw [blk]
  exact rkey_ne (by decide) (by decide) (by decide) (by omega) word (by decide) fun e => absurd e.2.2.1 (by decide)

theorem ispRuns_fput (v : Nat) (port : c < 2) (cam : f.ofCam) : ispRuns (s.fput h c f v) n = ispRuns s n :=
  congrArg (· == 1) (State.fget_fput_ne _ _ (ispRuns_cam_key port cam))

theorem ispRuns_count (k : Nat) (port : c < 2) (cam : f.ofCam) : ispRuns (s.count h c f k) n = ispRuns s n := ispRuns_fput _ port cam

theorem ispRuns_raise (port : c < 2) (cam : f.ofCam) : ispRuns (s.raise h c f) n = ispRuns s n :=
  congrArg (· == 1) (raise_fget _ _ _ _ (Fld.offLoss_no _ (by decide)) (ispRuns_cam_key port cam))

@[simp] theorem ispRuns_setCam (i : Nat) : ispRuns (s.setCam h i x) n = ispRuns s n := rfl

@[simp] theorem ispRuns_ite (p : Prop) [Decidable p] (a b : State) :
    ispRuns (if p then a else b) n = if p then ispRuns a n else ispRuns b n := apply_ite (ispRuns · n) p a b

/-! ### The elastic buffer (R194) -/

@[simp] theorem setBuf_cam (b : List CamItem) : (setBuf h c b s).cam h c = { s.cam h c with buf := b } := by
  rw [setBuf, State.fput_acc_cam, State.setCam_same]

theorem setBuf_fget (b : List CamItem) (cl : g.clears CAM_STATUS_BUF) : (setBuf h c b s).fget h c g = s.fget h c g := by
  rw [setBuf, State.fget_fput_clears _ cl, State.setCam_acc_fget]

theorem setBuf_ispRuns (port : c < 2) (b : List CamItem) : ispRuns (setBuf h c b s) n = ispRuns s n := by
  rw [setBuf, ispRuns_fput _ port ⟨rfl, by decide⟩, ispRuns_setCam]

/-! ### A frame that is dropped (R194) -/

/-- Fields that dropping a frame may write. -/
def dropFields : List Fld := [CAM_STATUS_BUF, CAM_DROPPED, CAM_EVENT_DROP, CAM_STATUS_STATE]

theorem dropFrame_fget (cl : ∀ f ∈ dropFields, g.clears f) (off : g.offLoss = true) : (dropFrame h c s).fget h c g = s.fget h c g := by
  simp only [dropFields, List.forall_mem_cons] at cl
  obtain ⟨buf, count, event, state, -⟩ := cl
  have counted (t : State) : ((t.count h c CAM_DROPPED).raise h c CAM_EVENT_DROP).fget h c g = t.fget h c g :=
    (raise_fget_clears event off).trans (State.fget_fput_clears _ count)
  unfold dropFrame camGo
  dsimp only
  split_ifs
  · rfl
  · rw [State.fget_fput_clears _ state, counted, setBuf_fget _ buf, State.setCam_acc_fget]
  · rw [counted, setBuf_fget _ buf, State.setCam_acc_fget]

theorem dropFrame_cam (opened : (s.cam h c).frame = true) :
    ((dropFrame h c s).cam h c).dropping = true ∧ ((dropFrame h c s).cam h c).again = (s.cam h c).again := by
  unfold dropFrame camGo
  dsimp only
  split_ifs with dropped
  · rw [opened, Bool.not_true, Bool.false_or] at dropped
    exact ⟨dropped, rfl⟩
  all_goals simp -implicitDefEqProofs only [State.fput_acc_cam, State.raise_acc_cam, State.count_acc_cam, setBuf_cam,
    State.setCam_same, true_and]

/-- Dropping the frame of a port that is not in FRAME leaves its state. -/
theorem dropFrame_state (other : camState s h c ≠ 3) : camState (dropFrame h c s) h c = camState s h c := by
  have counted (t : State) : camState ((t.count h c CAM_DROPPED).raise h c CAM_EVENT_DROP) h c = camState t h c :=
    (raise_fget_clears (by decide) (by decide)).trans (State.fget_fput_clears _ (by decide))
  have same (b : List CamItem) (y : CamX) : camState (setBuf h c b (s.setCam h c y)) h c = camState s h c := setBuf_fget b (by decide)
  unfold dropFrame
  dsimp only
  split_ifs with _ frame
  · rfl
  · rw [counted, same] at frame
    exact absurd frame other
  · rw [counted, same]

theorem dropFrame_ispRuns (port : c < 2) : ispRuns (dropFrame h c s) n = ispRuns s n := by
  simp -implicitDefEqProofs (disch := decide) [dropFrame, camGo, ispRuns_fput _ port, ispRuns_count _ port, ispRuns_raise port,
    setBuf_ispRuns port]

/-! ### A frame that closes (R193) -/

/-- Number and status of the frame that closes (log 81). -/
def closingNumber (s : State) (h c : Nat) : Nat := (s.fget h c CAM_FNUM + 1) % 2 ^ 32

def closingStatus (s : State) (h c : Nat) : Nat :=
  b2n (decide ((s.cam h c).got < camLines s h c)) + 2 * b2n (decide (camLines s h c < (s.cam h c).got)) + 4 * b2n (s.cam h c).dropping
    + 8 * b2n (s.cam h c).lineErr

/-- Its number and status in the registers. -/
def frameNumbered (h c : Nat) (s : State) : State :=
  ((s.count h c CAM_FRAMES).fput h c CAM_FNUM (closingNumber s h c)).fput h c CAM_FSTAT
    (closingStatus s h c * 2 ^ 25 + (s.cam h c).valid % 512)

/-- A frame with too few lines or too many is counted and reported. -/
def frameMeasured (h c got lines : Nat) (s : State) : State :=
  let s := if got < lines then (s.count h c CAM_SHORT).raise h c CAM_EVENT_SHORT else s
  if lines < got then s.raise h c CAM_EVENT_LONG else s

theorem frameMeasured_fget (got lines : Nat) (cl : g.clears CAM_SHORT ∧ g.clears CAM_EVENT_SHORT ∧ g.clears CAM_EVENT_LONG)
    (off : g.offLoss = true) : (frameMeasured h c got lines s).fget h c g = s.fget h c g := by
  obtain ⟨count, short, long⟩ := cl
  have counted : ((s.count h c CAM_SHORT).raise h c CAM_EVENT_SHORT).fget h c g = s.fget h c g :=
    (raise_fget_clears short off).trans (State.fget_fput_clears _ count)
  unfold frameMeasured
  dsimp only
  split_ifs
  · rw [raise_fget_clears long off, counted]
  · exact raise_fget_clears long off
  · exact counted
  · rfl

@[simp] theorem frameMeasured_cam (got lines h' c' : Nat) : (frameMeasured h c got lines s).cam h' c' = s.cam h' c' := by
  unfold frameMeasured
  dsimp only
  split_ifs <;> simp -implicitDefEqProofs

theorem frameMeasured_short {got lines : Nat} (few : got < lines) :
    (frameMeasured h c got lines s).fget h c CAM_SHORT = satAdd32 (s.fget h c CAM_SHORT) 1 ∧
    (frameMeasured h c got lines s).fon h c CAM_EVENT_SHORT = true := by
  rw [frameMeasured, if_pos few, if_neg (by omega)]
  exact ⟨(raise_fget_clears (by decide) (by decide)).trans (State.fget_count _ (by decide)),
    raise_sets _ _ _ _ (by decide) (by decide) (Fld.offLoss_no _ (by decide))⟩

theorem frameMeasured_long {got lines : Nat} (many : lines < got) : (frameMeasured h c got lines s).fon h c CAM_EVENT_LONG = true := by
  rw [frameMeasured, if_pos many]
  exact raise_sets _ _ _ _ (by decide) (by decide) (Fld.offLoss_no _ (by decide))

/-- The record of a port whose frame has closed. -/
def CamX.closed (x : CamX) : CamX := { x with frame := false, dropping := false }

theorem closeFrame_eq (h c : Nat) (s : State) : closeFrame h c s =
    setBuf h c ((s.cam h c).buf ++ [.fin (closingNumber s h c) (closingStatus s h c)])
      ((frameMeasured h c (s.cam h c).got (camLines s h c) (frameNumbered h c s)).setCam h c (s.cam h c).closed) := by
  have status (t : State) (v : Nat) : t.wr h c BLK_CAM CAM_FSTAT.word (BitVec.ofNat 32 v) = t.fput h c CAM_FSTAT v := by
    rw [State.fput, insertBits_word]
  have port (t : State) : (frameMeasured h c (s.cam h c).got (camLines s h c) t).cam h c = t.cam h c := frameMeasured_cam ..
  unfold frameMeasured at port ⊢
  unfold closeFrame camPut
  simp -implicitDefEqProofs only [status, decide_eq_true_eq] at port ⊢
  rw [State.setCam_same, port]
  rfl

@[simp] theorem closeFrame_cam : (closeFrame h c s).cam h c =
    { (s.cam h c).closed with buf := (s.cam h c).buf ++ [.fin (closingNumber s h c) (closingStatus s h c)] } := by
  rw [closeFrame_eq, setBuf_cam, State.setCam_same]

/-- Fields that closing a frame may write. -/
def closeFields : List Fld :=
  [CAM_STATUS_BUF, CAM_SHORT, CAM_EVENT_SHORT, CAM_EVENT_LONG, CAM_FRAMES, CAM_FNUM, CAM_FSTAT]

theorem closeFrame_fget (cl : ∀ f ∈ closeFields, g.clears f) (off : g.offLoss = true) :
    (closeFrame h c s).fget h c g = s.fget h c g := by
  simp only [closeFields, List.forall_mem_cons] at cl
  obtain ⟨buf, count, short, long, frames, number, status, -⟩ := cl
  rw [closeFrame_eq, setBuf_fget _ buf, State.setCam_acc_fget, frameMeasured_fget _ _ ⟨count, short, long⟩ off, frameNumbered,
    State.fget_fput_clears _ status, State.fget_fput_clears _ number, State.count_eq, State.fget_fput_clears _ frames]

/-- What a port shows of the frame it closes (R193). -/
structure ShowsClosed (h c : Nat) (s t : State) : Prop where
  number : t.fget h c CAM_FNUM = (s.fget h c CAM_FNUM + 1) % 2 ^ 32
  frames : t.fget h c CAM_FRAMES = satAdd32 (s.fget h c CAM_FRAMES) 1
  short : (s.cam h c).got < camLines s h c → t.fget h c CAM_SHORT = satAdd32 (s.fget h c CAM_SHORT) 1 ∧ t.fon h c CAM_EVENT_SHORT = true
  long : camLines s h c < (s.cam h c).got → t.fon h c CAM_EVENT_LONG = true

theorem closeFrame_shows : ShowsClosed h c s (closeFrame h c s) := by
  have buffered (g : Fld) (cl : g.clears CAM_STATUS_BUF) : (closeFrame h c s).fget h c g =
      (frameMeasured h c (s.cam h c).got (camLines s h c) (frameNumbered h c s)).fget h c g := by
    rw [closeFrame_eq, setBuf_fget _ cl, State.setCam_acc_fget]
  have numbered (g : Fld) (cl : g.clears CAM_FRAMES ∧ g.clears CAM_FNUM ∧ g.clears CAM_FSTAT) :
      (frameNumbered h c s).fget h c g = s.fget h c g := by
    rw [frameNumbered, State.fget_fput_clears _ cl.2.2, State.fget_fput_clears _ cl.2.1, State.count_eq, State.fget_fput_clears _ cl.1]
  refine ⟨?number, ?frames, fun few => ?short, fun many => ?long⟩
  case number =>
    rw [buffered _ (by decide), frameMeasured_fget _ _ (by decide) (by decide), frameNumbered, State.fget_fput_clears _ (by decide),
      State.fget_fput_of_lt (by decide) (show closingNumber s h c < 2 ^ 32 from Nat.mod_lt _ (by decide)), closingNumber]
  case frames =>
    rw [buffered _ (by decide), frameMeasured_fget _ _ (by decide) (by decide), frameNumbered, State.fget_fput_clears _ (by decide),
      State.fget_fput_clears _ (by decide), State.fget_count _ (by decide)]
  case short =>
    obtain ⟨count, event⟩ := frameMeasured_short (s := frameNumbered h c s) (h := h) (c := c) few
    rw [State.fon_eq] at event ⊢
    rw [buffered _ (by decide), buffered _ (by decide), count, event, numbered _ (by decide)]
    exact ⟨rfl, rfl⟩
  case long =>
    rw [State.fon_eq, buffered _ (by decide), ← State.fon_eq]
    exact frameMeasured_long many

theorem closeFrame_ispRuns (port : c < 2) : ispRuns (closeFrame h c s) n = ispRuns s n := by
  simp -implicitDefEqProofs (disch := decide) [closeFrame_eq, frameMeasured, frameNumbered, ispRuns_fput _ port, ispRuns_count _ port,
    ispRuns_raise port, setBuf_ispRuns port]

/-! ### A port that reaches OFF (R212, R295) -/

/-- Where EN was not written again during the drain, the port stays OFF. -/
theorem camOff_eq (res : Nat) (once : (s.cam h c).again = false) :
    camOff h c res s = ((camGo h c 0 s).fput h c CAM_STATUS_DRAIN_RESULT res).raise h c CAM_EVENT_DRAIN_DONE := by
  have same : (((camGo h c 0 s).fput h c CAM_STATUS_DRAIN_RESULT res).raise h c CAM_EVENT_DRAIN_DONE).cam h c = s.cam h c := by
    simp -implicitDefEqProofs only [camGo, State.raise_acc_cam, State.fput_acc_cam]
  unfold camOff
  dsimp only
  rw [same, once, if_neg Bool.false_ne_true]

/-- What a port shows that has reached OFF with a result. -/
structure ShowsOff (h c res : Nat) (s t : State) : Prop where
  state : camState t h c = 0
  result : t.fget h c CAM_STATUS_DRAIN_RESULT = res
  done : t.fon h c CAM_EVENT_DRAIN_DONE = true
  enable : t.fon h c CAM_CTRL_EN = s.fon h c CAM_CTRL_EN
  port : t.cam h c = s.cam h c

theorem camOff_shows {res : Nat} (low : res < 2 ^ 8) (once : (s.cam h c).again = false) : ShowsOff h c res s (camOff h c res s) := by
  rw [camOff_eq res once, camGo]
  refine ⟨?_, ?_, raise_sets _ _ _ _ (by decide) (by decide) (Fld.offLoss_no _ (by decide)), ?_, ?_⟩
  · rw [camState, raise_fget_clears (by decide) (by decide), State.fget_fput_clears _ (by decide),
      State.fget_fput_of_lt (by decide) (by decide)]
  · rw [raise_fget_clears (by decide) (by decide), State.fget_fput_of_lt (by decide) low]
  · rw [State.fon_eq, raise_fget_clears (by decide) (by decide), State.fget_fput_clears _ (by decide),
      State.fget_fput_clears _ (by decide), ← State.fon_eq]
  · simp -implicitDefEqProofs only [State.raise_acc_cam, State.fput_acc_cam]

theorem camEnable_ispRuns (port : c < 2) : ispRuns (camEnable h c s) n = ispRuns s n := by
  rw [camEnable, camGo, ispRuns_fput _ port ⟨rfl, by decide⟩, ispRuns_setCam]

theorem camOff_ispRuns (port : c < 2) (res : Nat) : ispRuns (camOff h c res s) n = ispRuns s n := by
  simp -implicitDefEqProofs (disch := decide) [camOff, camGo, ispRuns_fput _ port, ispRuns_raise port, camEnable_ispRuns port]

/-! ### A frame that ends -/

theorem frameEnds_running (runs : camState s h c ≠ 5) : frameEnds h c s = camGo h c 2 (closeFrame h c s) := if_neg runs

theorem frameEnds_draining (drains : camState s h c = 5) :
    frameEnds h c s = camOff h c (if (s.cam h c).dropping then 4 else 3) (closeFrame h c s) := if_pos drains

/-- A port that does not drain waits for the next frame. -/
theorem frameEnds_waits (runs : camState s h c ≠ 5) : camState (frameEnds h c s) h c = 2 ∧ ((frameEnds h c s).cam h c).frame = false ∧
    ShowsClosed h c s (frameEnds h c s) := by
  have kept (g : Fld) (cl : g.clears CAM_STATUS_STATE) : (camGo h c 2 (closeFrame h c s)).fget h c g = (closeFrame h c s).fget h c g :=
    State.fget_fput_clears _ cl
  obtain ⟨number, frames, short, long⟩ := closeFrame_shows (h := h) (c := c) (s := s)
  rw [frameEnds_running runs]
  refine ⟨State.fget_fput_of_lt (by decide) (by decide), by rw [camGo, State.fput_acc_cam, closeFrame_cam]; rfl, ⟨?_, ?_, ?_, ?_⟩⟩
  · rw [kept _ (by decide), number]
  · rw [kept _ (by decide), frames]
  · rwa [State.fon_eq, kept _ (by decide), kept _ (by decide), ← State.fon_eq]
  · rwa [State.fon_eq, kept _ (by decide), ← State.fon_eq]

/-- A port that drains reaches OFF, ABORTED where its frame was dropped. -/
theorem frameEnds_off (drains : camState s h c = 5) (once : (s.cam h c).again = false) :
    ShowsOff h c (if (s.cam h c).dropping then 4 else 3) (closeFrame h c s) (frameEnds h c s) := by
  rw [frameEnds_draining drains]
  refine camOff_shows ?_ (by rw [closeFrame_cam]; exact once)
  split <;> decide

theorem frameEnds_ispRuns (port : c < 2) : ispRuns (frameEnds h c s) n = ispRuns s n := by
  simp -implicitDefEqProofs (disch := decide) [frameEnds, camGo, ispRuns_fput _ port, closeFrame_ispRuns port, camOff_ispRuns port]

end

end Sys2Proof.Machine
end

section
/-! PROOFS. What a packet does by its header, channel and data type (R188, R190, R193, R194; log 77, 78). -/

namespace Sys2Proof.Machine

section
variable {s : State} {h c n : Nat} {p : List Byte}

/-! ### A frame starts (R190, R193) -/

/-- Without a trigger mode the frame start is the trigger (R190). -/
def startLatched (h c : Nat) (s : State) : State := if camMode s h c = 0 then latchCount h c s else s

/-- The first packet of a port that was without one reports the link. -/
def linkSeen (h c : Nat) (s : State) : State := if (s.cam h c).down then s.raise h c CAM_EVENT_LINK_UP else s

/-- The record of a port whose frame has started. -/
def CamX.opened (x : CamX) : CamX :=
  { x with
    frame := true, dropping := false, down := false, got := 0, lineErr := false, valid := 0,
    flat := x.flatNext.getD x.flat, flatNext := none }

/-- The start of a frame enters the buffer, and the port is in FRAME. -/
def frameOpened (h c : Nat) (s : State) : State :=
  camGo h c 3 (camPut h c (.start (s.cam h c).latchW s.tim.sec s.tim.ns (s.cam h c).latchNs) (s.setCam h c (s.cam h c).opened))

/-- A frame that is still open ends first. -/
def frameCut (h c : Nat) (s : State) : State := if (s.cam h c).frame then frameEnds h c s else s

theorem frameStarts_eq (h c : Nat) (s : State) : frameStarts h c s =
    if camState (frameCut h c s) h c = 0 ∨ camState (frameCut h c s) h c = 5 then frameCut h c s
    else frameOpened h c (linkSeen h c (startLatched h c (frameCut h c s))) := rfl

theorem frameStarts_of_closed (closed : (s.cam h c).frame = false) (on : camState s h c ≠ 0) (runs : camState s h c ≠ 5) :
    frameStarts h c s = frameOpened h c (linkSeen h c (startLatched h c s)) := by
  have whole : frameCut h c s = s := if_neg (by rw [closed]; exact Bool.false_ne_true)
  rw [frameStarts_eq, whole, if_neg (not_or.mpr ⟨on, runs⟩)]

theorem startLatched_cam : (startLatched h c s).cam h c = { s.cam h c with
    latchW := if camMode s h c = 0 then camPos s h else (s.cam h c).latchW
    latchNs := if camMode s h c = 0 then timeNs s else (s.cam h c).latchNs } := by
  unfold startLatched latchCount
  split_ifs
  · exact State.setCam_same ..
  · rfl

theorem startLatched_tim : (startLatched h c s).tim = s.tim := by
  unfold startLatched
  split <;> rfl

@[simp] theorem linkSeen_cam : (linkSeen h c s).cam h c = s.cam h c := by
  unfold linkSeen
  split
  · exact State.raise_acc_cam ..
  · rfl

theorem linkSeen_tim : (linkSeen h c s).tim = s.tim := by
  unfold linkSeen
  split
  · exact State.raise_tim ..
  · rfl

theorem linkSeen_event (down : (s.cam h c).down = true) : (linkSeen h c s).fon h c CAM_EVENT_LINK_UP = true := by
  rw [linkSeen, if_pos down]
  exact raise_sets _ _ _ _ (by decide) (by decide) (Fld.offLoss_no _ (by decide))

theorem frameOpened_cam : (frameOpened h c s).cam h c = { (s.cam h c).opened with
    buf := (s.cam h c).buf ++ [.start (s.cam h c).latchW s.tim.sec s.tim.ns (s.cam h c).latchNs] } := by
  rw [frameOpened, camGo, State.fput_acc_cam, camPut, setBuf_cam, State.setCam_same]
  rfl

theorem frameOpened_fget {g : Fld} (cl : g.clears CAM_STATUS_STATE ∧ g.clears CAM_STATUS_BUF) :
    (frameOpened h c s).fget h c g = s.fget h c g := by
  rw [frameOpened, camGo, State.fget_fput_clears _ cl.1, camPut, setBuf_fget _ cl.2, State.setCam_acc_fget]

theorem frameOpened_state : camState (frameOpened h c s) h c = 3 := State.fget_fput_of_lt (by decide) (by decide)

theorem startLatched_ispRuns : ispRuns (startLatched h c s) n = ispRuns s n := by
  unfold startLatched
  split <;> rfl

theorem linkSeen_ispRuns (port : c < 2) : ispRuns (linkSeen h c s) n = ispRuns s n := by
  rw [linkSeen, ispRuns_ite, ispRuns_raise port ⟨rfl, by decide⟩, ite_self]

theorem frameOpened_ispRuns (port : c < 2) : ispRuns (frameOpened h c s) n = ispRuns s n := by
  rw [frameOpened, camGo, ispRuns_fput _ port ⟨rfl, by decide⟩, camPut, setBuf_ispRuns port, ispRuns_setCam]

theorem frameStarts_ispRuns (port : c < 2) : ispRuns (frameStarts h c s) n = ispRuns s n := by
  have cut : ispRuns (frameCut h c s) n = ispRuns s n := by rw [frameCut, ispRuns_ite, frameEnds_ispRuns port, ite_self]
  rw [frameStarts_eq, ispRuns_ite, frameOpened_ispRuns port, linkSeen_ispRuns port, startLatched_ispRuns, cut, ite_self]

/-! ### A line arrives (R188, R193, R194) -/

/-- The open frame has one line more. -/
def lineCounted (h c : Nat) (s : State) : State := s.setCam h c { s.cam h c with got := (s.cam h c).got + 1 }

/-- A line whose checksum or length is wrong marks its frame. -/
def lineRefused (h c : Nat) (s : State) : State :=
  ((s.setCam h c { s.cam h c with lineErr := true }).count h c CAM_LINE_ERR).raise h c CAM_EVENT_LINE_ERR

/-- The payload of a long packet is whole. -/
def payloadWhole (wc : Nat) (p : List Byte) : Bool :=
  decide ((slice p 4 wc).length = wc) && leAt p (4 + wc) 2 == csiCrc (slice p 4 wc)

/-- The samples of a long packet, where it brings a whole line. -/
def lineRead (s : State) (h c dt wc : Nat) (p : List Byte) : Option (List Nat) :=
  if payloadWhole wc p then lineSamples dt (slice p 4 wc) (s.fget h c CAM_GEOM_WIDTH) else none

/-- A line with its samples enters the buffer; a broken one is lost. -/
def lineTaken (h c r : Nat) (samples : Option (List Nat)) (s : State) : State :=
  match samples with
  | some m => pushLine h c r m s
  | none => lineRefused h c s

theorem lineArrives_eq (h c dt wc : Nat) (p : List Byte) (s : State) : lineArrives h c dt wc p s =
    if !(s.cam h c).frame then s
    else if (s.cam h c).dropping then lineCounted h c s
    else if camLines s h c ≤ (s.cam h c).got then (lineCounted h c s).count h c CAM_LONG_LINES
    else lineTaken h c (s.cam h c).got (lineRead s h c dt wc p) (lineCounted h c s) := rfl

theorem lineArrives_of_kept (dt wc : Nat) (opened : (s.cam h c).frame = true) (kept : (s.cam h c).dropping = false) :
    lineArrives h c dt wc p s = if camLines s h c ≤ (s.cam h c).got then (lineCounted h c s).count h c CAM_LONG_LINES
      else lineTaken h c (s.cam h c).got (lineRead s h c dt wc p) (lineCounted h c s) := by
  rw [lineArrives_eq, opened, kept]
  rfl

/-- The port with one line more in its buffer. -/
def rowStored (h c r : Nat) (m : List Nat) (s : State) : State :=
  camPut h c (.row r (timeNs s) (flatLine ((s.setCam h c { s.cam h c with valid := (s.cam h c).valid + 1 }).cam h c).flat m))
    (s.setCam h c { s.cam h c with valid := (s.cam h c).valid + 1 })

theorem rowStored_cam {r : Nat} {m : List Nat} : (rowStored h c r m s).cam h c = { s.cam h c with
    valid := (s.cam h c).valid + 1, buf := (s.cam h c).buf ++ [.row r (timeNs s) (flatLine (s.cam h c).flat m)] } := by
  rw [rowStored, camPut, setBuf_cam, State.setCam_same]

theorem rowStored_ispRuns {r : Nat} {m : List Nat} (port : c < 2) : ispRuns (rowStored h c r m s) n = ispRuns s n := by
  rw [rowStored, camPut, setBuf_ispRuns port, ispRuns_setCam]

theorem pushLine_eq (h c r : Nat) (m : List Nat) (s : State) : pushLine h c r m s =
    if 64 ≤ camHeld s h c then dropFrame h c s
    else if camHeld (rowStored h c r m s) h c = 64 then
      dropFrame h (1 - (rowStored h c r m s).fget h 0 ISP_CTRL_PRIO) (rowStored h c r m s)
    else rowStored h c r m s := rfl

theorem pushLine_of_room {r : Nat} {m : List Nat} (room : camHeld s h c < 63) : pushLine h c r m s = rowStored h c r m s := by
  have held : camHeld (rowStored h c r m s) h c = camHeld s h c + 1 := by
    rw [camHeld, rowStored_cam, List.filter_append, List.length_append]
    rfl
  rw [pushLine_eq, if_neg (by omega), if_neg (by omega)]

theorem pushLine_ispRuns {r : Nat} {m : List Nat} (port : c < 2) : ispRuns (pushLine h c r m s) n = ispRuns s n := by
  have other (k : Nat) (t : State) : ispRuns (dropFrame h (1 - k) t) n = ispRuns t n := dropFrame_ispRuns (by omega)
  rw [pushLine_eq, ispRuns_ite, ispRuns_ite, dropFrame_ispRuns port, other, rowStored_ispRuns port, ite_self, ite_self]

theorem lineTaken_ispRuns {r : Nat} {m : Option (List Nat)} (port : c < 2) : ispRuns (lineTaken h c r m s) n = ispRuns s n := by
  cases m with
  | some m => exact pushLine_ispRuns port
  | none =>
    show ispRuns (lineRefused h c s) n = _
    rw [lineRefused, ispRuns_raise port ⟨rfl, by decide⟩, ispRuns_count _ port ⟨rfl, by decide⟩, ispRuns_setCam]

theorem lineArrives_ispRuns {dt wc : Nat} (port : c < 2) : ispRuns (lineArrives h c dt wc p s) n = ispRuns s n := by
  have counted : ispRuns (lineCounted h c s) n = ispRuns s n := ispRuns_setCam c
  rw [lineArrives_eq, ispRuns_ite, ispRuns_ite, ispRuns_ite, ispRuns_count _ port ⟨rfl, by decide⟩, lineTaken_ispRuns port, counted,
    ite_self, ite_self, ite_self]

/-- A whole line enters the buffer (R194). -/
theorem lineArrives_taken {dt wc : Nat} {m : List Nat} (opened : (s.cam h c).frame = true) (kept : (s.cam h c).dropping = false)
    (due : (s.cam h c).got < camLines s h c) (room : camHeld s h c < 63) (read : lineRead s h c dt wc p = some m) :
    (lineArrives h c dt wc p s).cam h c = { s.cam h c with
      got := (s.cam h c).got + 1, valid := (s.cam h c).valid + 1
      buf := (s.cam h c).buf ++ [.row (s.cam h c).got (timeNs s) (flatLine (s.cam h c).flat m)] } := by
  have counted : (lineCounted h c s).cam h c = { s.cam h c with got := (s.cam h c).got + 1 } := State.setCam_same ..
  have held : camHeld (lineCounted h c s) h c < 63 := by rwa [camHeld, counted]
  rw [lineArrives_of_kept dt wc opened kept, if_neg (by omega), read, lineTaken, pushLine_of_room held, rowStored_cam, counted]
  rfl

/-- A broken line is lost, counted and reported (R193). -/
theorem lineArrives_lost {dt wc : Nat} (opened : (s.cam h c).frame = true) (kept : (s.cam h c).dropping = false)
    (due : (s.cam h c).got < camLines s h c) (broken : lineRead s h c dt wc p = none) :
    (lineArrives h c dt wc p s).cam h c = { s.cam h c with got := (s.cam h c).got + 1, lineErr := true } ∧
    (lineArrives h c dt wc p s).fget h c CAM_LINE_ERR = satAdd32 (s.fget h c CAM_LINE_ERR) 1 ∧
    (lineArrives h c dt wc p s).fon h c CAM_EVENT_LINE_ERR = true := by
  rw [lineArrives_of_kept dt wc opened kept, if_neg (by omega), broken]
  refine ⟨?_, (raise_fget_clears (by decide) (by decide)).trans (State.fget_count _ (by decide)),
    raise_sets _ _ _ _ (by decide) (by decide) (Fld.offLoss_no _ (by decide))⟩
  simp -implicitDefEqProofs only [lineTaken, lineRefused, lineCounted, State.raise_acc_cam, State.count_acc_cam, State.setCam_same]

/-- A line past the frame's length is counted (R193). -/
theorem lineArrives_beyond {dt wc : Nat} (opened : (s.cam h c).frame = true) (kept : (s.cam h c).dropping = false)
    (full : camLines s h c ≤ (s.cam h c).got) : ((lineArrives h c dt wc p s).cam h c).buf = (s.cam h c).buf ∧
    (lineArrives h c dt wc p s).fget h c CAM_LONG_LINES = satAdd32 (s.fget h c CAM_LONG_LINES) 1 := by
  rw [lineArrives_of_kept dt wc opened kept, if_pos full]
  exact ⟨by rw [State.count_acc_cam, lineCounted, State.setCam_same], State.fget_count _ (by decide)⟩

theorem lineRead_of_whole {dt wc : Nat} (length : (slice p 4 wc).length = wc) (crc : leAt p (4 + wc) 2 = csiCrc (slice p 4 wc)) :
    lineRead s h c dt wc p = lineSamples dt (slice p 4 wc) (s.fget h c CAM_GEOM_WIDTH) :=
  if_pos (by rw [payloadWhole, decide_eq_true length, crc, beq_self_eq_true, Bool.and_true])

theorem lineRead_of_broken {dt wc : Nat}
    (broken : leAt p (4 + wc) 2 ≠ csiCrc (slice p 4 wc) ∨ lineSamples dt (slice p 4 wc) (s.fget h c CAM_GEOM_WIDTH) = none) :
    lineRead s h c dt wc p = none := by
  unfold lineRead
  rcases broken with crc | samples
  · rw [payloadWhole, beq_false_of_ne crc, Bool.and_false, if_neg Bool.false_ne_true]
  · rw [samples, ite_self]

/-! ### The data type (R188; log 78) -/

/-- The data type that the port takes as its lines. -/
def lineType (s : State) (h c : Nat) : Nat := if s.fon h c CAM_CTRL_DT then 0x2C else 0x2B

theorem csiTyped_start {d : Nat} (type : d % 64 = 0x00) : csiTyped h c d p s = frameStarts h c s := if_pos type

theorem csiTyped_end {d : Nat} (type : d % 64 = 0x01) (opened : (s.cam h c).frame = true) : csiTyped h c d p s = frameEnds h c s := by
  simp [csiTyped, type, opened]

theorem csiTyped_line {d : Nat} (type : d % 64 = lineType s h c) :
    csiTyped h c d p s = lineArrives h c (d % 64) (d / 256 % 65536) p s := by
  unfold lineType at type
  have two : d % 64 = 0x2C ∨ d % 64 = 0x2B := by split at type <;> simp [type]
  unfold csiTyped
  dsimp only
  rw [if_neg (by omega), if_neg (by omega), if_neg (by omega), if_pos type]

theorem csiTyped_bad {d : Nat} (type : d % 64 = 0x1E) : csiTyped h c d p s = s.raise h c CAM_EVENT_DT_BAD := by
  unfold csiTyped
  dsimp only
  rw [if_neg (by omega), if_neg (by omega), if_neg (by omega), if_neg (by split <;> omega)]

theorem csiTyped_ispRuns {d : Nat} (port : c < 2) : ispRuns (csiTyped h c d p s) n = ispRuns s n := by
  simp -implicitDefEqProofs (disch := decide) [csiTyped, frameStarts_ispRuns port, frameEnds_ispRuns port, lineArrives_ispRuns port,
    ispRuns_raise port]

/-! ### The header (R188) -/

/-- The channel of a header. -/
def headerChannel (d : Nat) : Nat := d / 64 % 4 + 4 * (d / 2 ^ 24 % 4)

/-- A header with an error that cannot be corrected: the packet is lost. -/
theorem csiPacket_lost (lost : csiCorrect p = none) : csiPacket h c p s = s := by
  unfold csiPacket
  rw [lost, ite_self]

theorem csiPacket_eq {d : Nat} {fixed : Bool} (has : s.hasH h = true) (port : c < 2) (on : camState s h c ≠ 0)
    (read : csiCorrect p = some (d, fixed)) : csiPacket h c p s =
      let t := if fixed then s.count h c CAM_ECC_CORR else s
      if headerChannel d = t.fget h c CAM_CTRL_VC then csiTyped h c d p t else t := by
  unfold csiPacket
  rw [has, decide_eq_true port, read, beq_false_of_ne on]
  rfl

/-- A corrected packet of another channel is counted alone. -/
theorem csiPacket_other {d : Nat} (has : s.hasH h = true) (port : c < 2) (on : camState s h c ≠ 0)
    (read : csiCorrect p = some (d, true)) (other : headerChannel d ≠ s.fget h c CAM_CTRL_VC) :
    csiPacket h c p s = s.count h c CAM_ECC_CORR := by
  rw [csiPacket_eq has port on read]
  exact if_neg (by rwa [if_pos rfl, State.count_eq, State.fget_fput_clears _ (by decide)])

theorem csiPacket_selected {d : Nat} (has : s.hasH h = true) (port : c < 2) (on : camState s h c ≠ 0)
    (read : csiCorrect p = some (d, false)) (selected : headerChannel d = s.fget h c CAM_CTRL_VC) :
    csiPacket h c p s = csiTyped h c d p s := by
  rw [csiPacket_eq has port on read]
  exact if_pos selected

theorem csiPacket_ispRuns (port : c < 2) : ispRuns (csiPacket h c p s) n = ispRuns s n := by
  unfold csiPacket
  split
  · rfl
  · split
    · rfl
    · simp -implicitDefEqProofs (disch := decide) [csiTyped_ispRuns port, ispRuns_count _ port]

end

end Sys2Proof.Machine
end

section
/-! PROOFS. The rows of a camera port while the pipeline is off (R188, R190, R193, R194, R212). -/

namespace Sys2Proof.Machine

section
variable {s t : State} {h c n : Nat} {v : Word}

/-- A pipeline that is off takes nothing from the ports. -/
theorem settled_pump (off : ispRuns t h = false) : settled (pump h t) = .next (settle t) := by
  rw [pump, off, if_neg Bool.false_ne_true, settled]

/-! ### Packets -/

theorem exec_csiPacketReceived (port : c < 2) (off : ispRuns s h = false) (p : List Byte) :
    exec (.csiPacketReceived h c p) s = .next (settle (csiPacket h c p s)) := settled_pump ((csiPacket_ispRuns port).trans off)

/-- The frame start of a port that waits for it (R190, R193). -/
theorem frameStarts_shows (closed : (s.cam h c).frame = false) (on : camState s h c ≠ 0) (runs : camState s h c ≠ 5) :
    camState (frameStarts h c s) h c = 3 ∧ ((frameStarts h c s).cam h c).frame = true ∧ ((frameStarts h c s).cam h c).got = 0 ∧
    ((frameStarts h c s).cam h c).buf = (s.cam h c).buf ++ [.start (if camMode s h c = 0 then camPos s h else (s.cam h c).latchW)
      s.tim.sec s.tim.ns (if camMode s h c = 0 then timeNs s else (s.cam h c).latchNs)] ∧
    ((s.cam h c).down = true → (frameStarts h c s).fon h c CAM_EVENT_LINK_UP = true) := by
  rw [frameStarts_of_closed closed on runs, frameOpened_cam, linkSeen_cam, startLatched_cam, linkSeen_tim, startLatched_tim]
  refine ⟨frameOpened_state, rfl, rfl, rfl, fun down => ?_⟩
  rw [State.fon_eq, frameOpened_fget (by decide), ← State.fon_eq]
  exact linkSeen_event (by rwa [startLatched_cam])

/-! ### Time and triggers (R190, R193) -/

theorem exec_frameTimeout (has : s.hasH h = true) (port : c < 2) (off : ispRuns s h = false) (opened : (s.cam h c).frame = true) :
    exec (.frameTimeout h c) s = .next (settle (frameEnds h c s)) := by
  have ends : frameTimeout h c s = frameEnds h c s := if_pos (by rw [has, decide_eq_true port, opened]; rfl)
  rw [← ends]
  exact settled_pump (by rw [ends, frameEnds_ispRuns port, off])

theorem linkDown_eq (has : s.hasH h = true) (port : c < 2) (en : s.fon h c CAM_CTRL_EN = true) (on : camState s h c ≠ 0) :
    linkDown h c s = (s.setCam h c { s.cam h c with down := true }).raise h c CAM_EVENT_LINK_DOWN :=
  if_pos (by rw [has, decide_eq_true port, en, bne_iff_ne.mpr on]; rfl)

theorem camTrigger_not_due (early : camDue s h c = false) : camTrigger h c s = s :=
  if_pos (by rw [early, Bool.and_false, Bool.not_false])

/-- The record of a port whose trigger has fired. -/
def triggered (s : State) (h c : Nat) : CamX :=
  { s.cam h c with trigAt := camPos s h, tuDue := false, latchW := camPos s h, latchNs := timeNs s }

theorem camTrigger_due (has : s.hasH h = true) (port : c < 2) (en : s.fon h c CAM_CTRL_EN = true) (on : camState s h c ≠ 0)
    (due : camDue s h c = true) : (camTrigger h c s).out = .camTrig h c (max 1 (s.fget h c CAM_TRIG_PW)) :: s.out ∧
      (camTrigger h c s).cam h c = triggered s h c := by
  have fires : (s.hasH h && decide (c < 2) && s.fon h c CAM_CTRL_EN && camState s h c != 0 && camDue s h c) = true := by
    rw [has, decide_eq_true port, en, bne_iff_ne.mpr on, due]
    rfl
  unfold camTrigger latchCount
  rw [fires, Bool.not_true, if_neg Bool.false_ne_true]
  refine ⟨rfl, ?_⟩
  rw [State.emit_acc_cam, State.setCam_same, State.setCam_same]
  rfl

/-- The whole part of the latched position is the web count. -/
theorem camPos_whole (s : State) (h : Nat) : camPos s h / 65536 = toS 32 (s.fget (srcH s h) (srcC s h) FBK_COUNT) := by
  have frac := (Config.phaseFraction (s.drt h).theta (drtTarget (s.drt h) (ratioM s h))).isLt
  rw [camPos]
  omega

/-! ### A write of CAM_CTRL (R212) -/

theorem camCtrlFields (c : Nat) : wordFields BLK_CAM c 0 = wordFields BLK_CAM 0 0 := rfl

@[simp] theorem stored_cam {blk i w : Nat} {opn : Bool} (h' c' : Nat) : (stored blk opn h i w v s).cam h' c' = s.cam h' c' := by
  rw [stored_shape]
  rfl

/-- CAM_CTRL after the write, before EN acts. -/
def camStored (s : State) (h c : Nat) (v : Word) : State := stored BLK_CAM (camOpen s h c 0) h c 0 v s

theorem camStored_en (h c : Nat) (v : Word) (s : State) : (camStored s h c v).fon h c CAM_CTRL_EN = v.getLsbD 0 :=
  stored_fon (f := CAM_CTRL_EN) (d := ⟨0, 1, .rw, 0, true, false⟩) rfl (by rw [camCtrlFields]; decide) rfl ⟨by decide, by decide⟩

theorem camStored_state : camState (camStored s h c v) h c = camState s h c := stored_fget_off (by decide)

theorem camStored_ispRuns : ispRuns (camStored s h c v) n = ispRuns s n := congrArg (· == 1) (stored_fget_off (by decide))

theorem camWrite_eq (has : s.hasH h = true) (port : c < 2) (v : Word) :
    camWrite h c v s = camAct (hostCtx s BLK_CAM h c 0 v) (camStored s h c v) := if_pos (by rw [has, decide_eq_true port]; rfl)

theorem camCtrl_force : (hostCtx s BLK_CAM h c 0 v).wrote CAM_CTRL_FORCE_OFF = 1 ↔ v.getLsbD 1 = true :=
  hostCtx_wrote_one (f := CAM_CTRL_FORCE_OFF) rfl (by rw [camCtrlFields]; decide)

/-- FORCE_OFF acts before EN (R212). -/
theorem camAct_force (force : v.getLsbD 1 = true) (t : State) : camAct (hostCtx s BLK_CAM h c 0 v) t = camForce h c t :=
  (if_neg (not_not.mpr rfl)).trans (if_pos (camCtrl_force.mpr force))

/-- Without FORCE_OFF a write acts by what it makes of EN. -/
theorem camAct_calm (calm : v.getLsbD 1 = false) (t : State) : camAct (hostCtx s BLK_CAM h c 0 v) t =
    if (t.fon h c CAM_CTRL_EN && !s.fon h c CAM_CTRL_EN) = true then
      if camState t h c = 5 then (t.setCam h c { t.cam h c with again := true }).fput h c CAM_CTRL_EN 0 else camEnable h c t
    else if (s.fon h c CAM_CTRL_EN && !t.fon h c CAM_CTRL_EN) = true then camDisable h c t
    else t := by
  have quiet : (hostCtx s BLK_CAM h c 0 v).wrote CAM_CTRL_FORCE_OFF ≠ 1 := by rw [ne_eq, camCtrl_force, calm]; exact Bool.false_ne_true
  rw [← hostCtx_rose s t h c CAM_CTRL_EN v, ← hostCtx_fell s t h c CAM_CTRL_EN v]
  exact (if_neg (not_not.mpr rfl)).trans (if_neg quiet)

theorem camForce_ispRuns (port : c < 2) : ispRuns (camForce h c s) n = ispRuns s n := by
  simp -implicitDefEqProofs (disch := decide) [camForce, ispRuns_fput _ port, closeFrame_ispRuns port, dropFrame_ispRuns port,
    camOff_ispRuns port]

theorem camDisable_ispRuns (port : c < 2) : ispRuns (camDisable h c s) n = ispRuns s n := by
  simp -implicitDefEqProofs (disch := decide) [camDisable, camGo, ispRuns_fput _ port, camOff_ispRuns port]

theorem exec_camEnWrite (has : s.hasH h = true) (port : c < 2) (off : ispRuns s h = false) (acts : camAct (hostCtx s BLK_CAM h c 0 v)
    (camStored s h c v) = t) (keeps : ispRuns t h = ispRuns (camStored s h c v) h) :
    exec (.camEnWrite h c v) s = .next (settle t) := by
  rw [← acts, ← camWrite_eq has port]
  exact settled_pump (by rw [camWrite_eq has port, acts, keeps, camStored_ispRuns, off])

/-- EN written 1 in OFF (R212). -/
theorem camEnWrite_rise (has : s.hasH h = true) (port : c < 2) (off : ispRuns s h = false) (rests : camState s h c = 0)
    (was : s.fon h c CAM_CTRL_EN = false) (en : v.getLsbD 0 = true) (calm : v.getLsbD 1 = false) :
    exec (.camEnWrite h c v) s = .next (settle (camEnable h c (camStored s h c v))) := by
  refine exec_camEnWrite has port off ?_ (camEnable_ispRuns port)
  rw [camAct_calm calm, camStored_en, en, was, if_pos (by decide), if_neg (by rw [camStored_state, rests]; decide)]

theorem camEnable_shows : camState (camEnable h c s) h c = 1 ∧ (camEnable h c s).fon h c CAM_CTRL_EN = s.fon h c CAM_CTRL_EN :=
  ⟨State.fget_fput_of_lt (by decide) (by decide), congrArg (· != 0) (State.fget_fput_clears _ (by decide))⟩

/-- EN written 0 (R212). -/
theorem camEnWrite_fall (has : s.hasH h = true) (port : c < 2) (off : ispRuns s h = false)
    (was : s.fon h c CAM_CTRL_EN = true) (en : v.getLsbD 0 = false) (calm : v.getLsbD 1 = false) :
    exec (.camEnWrite h c v) s = .next (settle (camDisable h c (camStored s h c v))) := by
  refine exec_camEnWrite has port off ?_ (camDisable_ispRuns port)
  rw [camAct_calm calm, camStored_en, en, was, if_neg (by decide), if_pos (by decide)]

theorem camDisable_shows (once : (s.cam h c).again = false) :
    camState (camDisable h c s) h c = (if (s.cam h c).frame then 5 else 0) ∧ ((s.cam h c).frame = false →
      (camDisable h c s).fget h c CAM_STATUS_DRAIN_RESULT = 3 ∧ (camDisable h c s).fon h c CAM_EVENT_DRAIN_DONE = true) := by
  unfold camDisable
  cases opened : (s.cam h c).frame
  case true => exact ⟨State.fget_fput_of_lt (by decide) (by decide), fun closed => absurd closed (by decide)⟩
  case false =>
    obtain ⟨state, result, done, -, -⟩ := camOff_shows (s := s) (h := h) (c := c) (res := 3) (by decide) once
    exact ⟨state, fun _ => ⟨result, done⟩⟩

/-! ### The drain's end and FORCE_OFF (R212) -/

/-- Neither dropping nor closing a frame touches EN. -/
theorem closeFrame_dropFrame_en : (closeFrame h c (dropFrame h c s)).fon h c CAM_CTRL_EN = s.fon h c CAM_CTRL_EN :=
  congrArg (· != 0) ((closeFrame_fget (by decide) (by decide)).trans (dropFrame_fget (by decide) (by decide)))

theorem exec_camDrainTimeout (has : s.hasH h = true) (port : c < 2) (off : ispRuns s h = false) (drains : camState s h c = 5) :
    exec (.camDrainTimeout h c) s = .next (settle (frameEnds h c (dropFrame h c s))) := by
  have ends : camDrainTimeout h c s = frameEnds h c (dropFrame h c s) := if_pos (by rw [has, decide_eq_true port, drains]; rfl)
  rw [← ends]
  exact settled_pump (by rw [ends, frameEnds_ispRuns port, dropFrame_ispRuns port, off])

theorem camDrainTimeout_shows (drains : camState s h c = 5) (opened : (s.cam h c).frame = true) (once : (s.cam h c).again = false) :
    camState (frameEnds h c (dropFrame h c s)) h c = 0 ∧
    (frameEnds h c (dropFrame h c s)).fget h c CAM_STATUS_DRAIN_RESULT = 4 := by
  obtain ⟨dropped, again⟩ := dropFrame_cam opened
  have still : camState (dropFrame h c s) h c = 5 := (dropFrame_state (by rw [drains]; decide)).trans drains
  obtain ⟨state, result, -, -, -⟩ := frameEnds_off still (again.trans once)
  exact ⟨state, by rw [result, dropped, if_pos rfl]⟩

theorem exec_camForceOff (has : s.hasH h = true) (port : c < 2) (off : ispRuns s h = false) :
    exec (.camForceOff h c) s = .next (settle (camForce h c (camStored s h c (s.pulse h c BLK_CAM 0 1)))) := by
  have acts := (camWrite_eq has port (s.pulse h c BLK_CAM 0 1)).trans (camAct_force (pulse_same (by decide)) _)
  rw [← acts]
  exact settled_pump (by rw [acts, camForce_ispRuns port, camStored_ispRuns, off])

/-- The port with EN 0, and no EN written again during the drain. -/
def camStopped (h c : Nat) (s : State) : State := (s.fput h c CAM_CTRL_EN 0).setCam h c { s.cam h c with again := false }

theorem camForce_eq (h c : Nat) (s : State) : camForce h c s = camOff h c 4
    (if ((camStopped h c s).cam h c).frame then closeFrame h c (dropFrame h c (camStopped h c s)) else camStopped h c s) := rfl

theorem camForce_shows : camState (camForce h c s) h c = 0 ∧ (camForce h c s).fget h c CAM_STATUS_DRAIN_RESULT = 4 ∧
    (camForce h c s).fon h c CAM_CTRL_EN = false ∧ ((camForce h c s).cam h c).frame = false := by
  have stops (t : State) (en : t.fon h c CAM_CTRL_EN = false) (frame : (t.cam h c).frame = false) (once : (t.cam h c).again = false) :
      camState (camOff h c 4 t) h c = 0 ∧ (camOff h c 4 t).fget h c CAM_STATUS_DRAIN_RESULT = 4 ∧
      (camOff h c 4 t).fon h c CAM_CTRL_EN = false ∧ ((camOff h c 4 t).cam h c).frame = false := by
    obtain ⟨state, result, -, enable, same⟩ := camOff_shows (res := 4) (by decide) once
    exact ⟨state, result, enable.trans en, by rw [same, frame]⟩
  have en : (camStopped h c s).fon h c CAM_CTRL_EN = false := by
    rw [camStopped, State.setCam_acc_fon, State.fon_eq, State.fget_fput_of_lt (by decide) (by decide)]
    rfl
  have once : ((camStopped h c s).cam h c).again = false := congrArg CamX.again (State.setCam_same ..)
  rw [camForce_eq]
  generalize camStopped h c s = t at en once
  cases opened : (t.cam h c).frame
  case false => exact stops t en opened once
  case true =>
    obtain ⟨-, again⟩ := dropFrame_cam opened
    rw [if_pos rfl]
    exact stops _ (closeFrame_dropFrame_en.trans en) (by rw [closeFrame_cam]; rfl) (by rw [closeFrame_cam]; exact again.trans once)

end

end Sys2Proof.Machine
end

section
/-! PROOFS. The pipeline takes lines, its enable and its density table, verdicts, the closing of inspection, I2C (R189, R194, R205, R206,
R208, R210, R212). -/

namespace Sys2Proof.Machine

section
variable {s t : State} {h : Nat} {v : Word} {msg : List Byte}

/-! ### Lines (R194) -/

/-- A buffer that starts with a line holds it until it is taken. -/
theorem pumpPort_of_lines {c : Nat} (lines : (s.cam h c).buf.all CamItem.isRow = true) (n : Nat) : pumpPort h c n s = s := by
  cases n with
  | zero => rfl
  | succ n =>
    unfold pumpPort
    split
    case h_1 b => rw [b] at lines; exact absurd lines (by simp [CamItem.isRow])
    case h_2 b => rw [b] at lines; exact absurd lines (by simp [CamItem.isRow])
    case h_3 => rfl

theorem pump_of_lines (left : (s.cam h 0).buf.all CamItem.isRow = true) (right : (s.cam h 1).buf.all CamItem.isRow = true) :
    pump h s = s := by
  have both : forEach [0, 1] (fun c s => pumpPort h c (s.cam h c).buf.length s) s = s := by
    show pumpPort h 1 _ (pumpPort h 0 _ s) = s
    rw [pumpPort_of_lines left, pumpPort_of_lines right]
  rw [pump, both, ite_self]

theorem State.cam_setCam_ne {c c' : Nat} (x : CamX) (other : c' ≠ c) : (s.setCam h c x).cam h c' = s.cam h c' :=
  tabGet_tabSet_ne _ _ _ (by omega)

/-- The port without the line that the pipeline has taken. -/
def lineTakenOff (h c : Nat) (line : Nat × List Nat) (s : State) : State :=
  let u := setBuf h c ((s.cam h c).buf.drop 1) s
  u.setCam h c { u.cam h c with rows := (u.cam h c).rows ++ [line] }

theorem lineTakenOff_cam (c : Nat) (line : Nat × List Nat) : (lineTakenOff h c line s).cam h c =
    { s.cam h c with buf := (s.cam h c).buf.drop 1, rows := (s.cam h c).rows ++ [line] } := by
  rw [lineTakenOff, State.setCam_same, setBuf_cam]

theorem lineTakenOff_other {c c' : Nat} (line : Nat × List Nat) (other : c' ≠ c) :
    (lineTakenOff h c line s).cam h c' = s.cam h c' := by
  rw [lineTakenOff, State.cam_setCam_ne _ other, setBuf, State.fput_acc_cam, State.cam_setCam_ne _ other]

theorem takeLine_off (off : ispRuns s h = false) : takeLine h s = s := if_pos (by rw [off, Bool.and_false, Bool.not_false])

theorem takeLine_of_head {c r at' : Nat} {m : List Nat} (has : s.hasH h = true) (runs : ispRuns s h = true) (calm : pump h s = s)
    (next : nextPort s h = some c) (head : headLine s h c = some (r, at', m)) :
    takeLine h s = pump h (lineTakenOff h c (r, m) s) := by
  unfold takeLine
  dsimp only
  rw [has, runs, calm, next]
  dsimp only
  rw [head]
  rfl

/-- Both ports hold one line, and the pipeline takes that of port `c`. -/
theorem takeLine_takes {c r at' : Nat} {m : List Nat} (has : s.hasH h = true) (runs : ispRuns s h = true)
    (left : (s.cam h 0).buf.all CamItem.isRow = true) (right : (s.cam h 1).buf.all CamItem.isRow = true)
    (next : nextPort s h = some c) (buf : (s.cam h c).buf = [.row r at' m]) : takeLine h s = lineTakenOff h c (r, m) s := by
  have lines (k : Nat) (b : (s.cam h k).buf.all CamItem.isRow = true) :
      ((lineTakenOff h c (r, m) s).cam h k).buf.all CamItem.isRow = true := by
    by_cases e : k = c
    · rw [e, lineTakenOff_cam, buf]
      rfl
    · rwa [lineTakenOff_other _ e]
  rw [takeLine_of_head has runs (pump_of_lines left right) next (by rw [headLine, buf]), pump_of_lines (lines 0 left) (lines 1 right)]

/-! ### A write of ISP_CTRL (R206, R212) -/

/-- ISP_CTRL after the write, before its fields act. -/
def ispStored (s : State) (h : Nat) (v : Word) : State := stored BLK_ISP (ispOpen s h 0 0) h 0 0 v s

theorem ispStored_en (h : Nat) (v : Word) (s : State) : (ispStored s h v).fon h 0 ISP_CTRL_EN = v.getLsbD 0 :=
  stored_fon (f := ISP_CTRL_EN) (d := ⟨0, 1, .rw, 0, true, false⟩) rfl (by decide) rfl ⟨by decide, by decide⟩

theorem ispStored_cmp (h : Nat) (v : Word) (s : State) : (ispStored s h v).fon h 0 ISP_CTRL_CMP_EN = v.getLsbD 3 :=
  stored_fon (f := ISP_CTRL_CMP_EN) (d := ⟨3, 1, .rw, 0, true, false⟩) rfl (by decide) rfl ⟨by decide, by decide⟩

@[simp] theorem ispStored_cams : (ispStored s h v).cams = s.cams := by rw [ispStored, stored_shape]

@[simp] theorem ispStored_isp : (ispStored s h v).isp h = s.isp h := by
  rw [ispStored, stored_shape]
  rfl

theorem ispWrite_eq (has : s.hasH h = true) (v : Word) : ispWrite h v s = ispAct (hostCtx s BLK_ISP h 0 0 v) (ispStored s h v) :=
  if_pos has

/-- A write that changes CMP_EN clears the windows (R206). -/
def ispCompared (s : State) (h : Nat) (v : Word) : State :=
  if s.fon h 0 ISP_CTRL_CMP_EN = v.getLsbD 3 then ispStored s h v else clearWindows h (ispStored s h v)

theorem ispCompared_fget (g : Fld) : (ispCompared s h v).fget h 0 g = (ispStored s h v).fget h 0 g := by
  unfold ispCompared
  split <;> rfl

theorem ispCompared_en : (ispCompared s h v).fon h 0 ISP_CTRL_EN = v.getLsbD 0 := by
  rw [State.fon_eq, ispCompared_fget, ← State.fon_eq, ispStored_en]

@[simp] theorem ispCompared_cams : (ispCompared s h v).cams = s.cams := by
  unfold ispCompared
  split
  · exact ispStored_cams
  · rw [clearWindows, State.setIsp_cams, ispStored_cams]

theorem ispCompared_wins : ((ispCompared s h v).isp h).wins =
    if bits v.toNat ISP_CTRL_CMP_EN.lo ISP_CTRL_CMP_EN.len = s.fget h 0 ISP_CTRL_CMP_EN then (s.isp h).wins else [] := by
  have same : bits v.toNat ISP_CTRL_CMP_EN.lo ISP_CTRL_CMP_EN.len = s.fget h 0 ISP_CTRL_CMP_EN ↔
      s.fon h 0 ISP_CTRL_CMP_EN = v.getLsbD 3 := by
    rw [State.fget_of_len_one rfl, bits_one]
    cases s.fon h 0 ISP_CTRL_CMP_EN <;> cases v.getLsbD 3 <;> decide
  unfold ispCompared
  simp only [same]
  split
  · rw [ispStored_isp]
  · rw [clearWindows, State.setIsp_same]

theorem ispCompared_cmp : (ispCompared s h v).fget h 0 ISP_CTRL_CMP_EN = bits v.toNat ISP_CTRL_CMP_EN.lo ISP_CTRL_CMP_EN.len := by
  rw [ispCompared_fget, State.fget_of_len_one rfl, ispStored_cmp, bits_one]

/-- What EN and FORCE_OFF do once the windows are cleared. -/
def ispSwitched (c : WriteCtx) (s : State) : State :=
  if c.wrote ISP_CTRL_FORCE_OFF = 1 then ispOff c.h 4 (s.fput c.h 0 ISP_CTRL_EN 0)
  else if c.rose s ISP_CTRL_EN then
    (if dramFailed s c.h then s.fput c.h 0 ISP_CTRL_EN 0 else pump c.h (s.fput c.h 0 ISP_STATUS_STATE 1))
  else if c.fell s ISP_CTRL_EN then ispOff c.h 3 (forEach [0, 1] (fun p s => portDrain c.h p s) s)
  else s

theorem ispWrite_switches (has : s.hasH h = true) (v : Word) :
    ispWrite h v s = ispSwitched (hostCtx s BLK_ISP h 0 0 v) (ispCompared s h v) := by
  have changed : ((hostCtx s BLK_ISP h 0 0 v).rose (ispStored s h v) ISP_CTRL_CMP_EN ||
      (hostCtx s BLK_ISP h 0 0 v).fell (ispStored s h v) ISP_CTRL_CMP_EN) = true ↔ ¬ s.fon h 0 ISP_CTRL_CMP_EN = v.getLsbD 3 := by
    rw [hostCtx_rose s _ h 0 ISP_CTRL_CMP_EN v, hostCtx_fell s _ h 0 ISP_CTRL_CMP_EN v, ispStored_cmp]
    cases s.fon h 0 ISP_CTRL_CMP_EN <;> cases v.getLsbD 3 <;> decide
  have acts (t : State) : ispAct (hostCtx s BLK_ISP h 0 0 v) t = ispSwitched (hostCtx s BLK_ISP h 0 0 v)
      (if (hostCtx s BLK_ISP h 0 0 v).rose t ISP_CTRL_CMP_EN || (hostCtx s BLK_ISP h 0 0 v).fell t ISP_CTRL_CMP_EN then
        clearWindows h t else t) := rfl
  rw [ispWrite_eq has, acts]
  simp only [changed, ispCompared, ite_not]

theorem ispCtrl_force : (hostCtx s BLK_ISP h 0 0 v).wrote ISP_CTRL_FORCE_OFF = 1 ↔ v.getLsbD 1 = true :=
  hostCtx_wrote_one (f := ISP_CTRL_FORCE_OFF) rfl (by decide)

theorem ispWrite_force (has : s.hasH h = true) (force : v.getLsbD 1 = true) :
    ispWrite h v s = ispOff h 4 ((ispCompared s h v).fput h 0 ISP_CTRL_EN 0) :=
  (ispWrite_switches has v).trans (if_pos (ispCtrl_force.mpr force))

theorem ispWrite_calm (has : s.hasH h = true) (calm : v.getLsbD 1 = false) : ispWrite h v s =
    if (v.getLsbD 0 && !s.fon h 0 ISP_CTRL_EN) = true then
      if dramFailed (ispCompared s h v) h then (ispCompared s h v).fput h 0 ISP_CTRL_EN 0
      else pump h ((ispCompared s h v).fput h 0 ISP_STATUS_STATE 1)
    else if (s.fon h 0 ISP_CTRL_EN && !v.getLsbD 0) = true then
      ispOff h 3 (forEach [0, 1] (fun p s => portDrain h p s) (ispCompared s h v))
    else ispCompared s h v := by
  have quiet : (hostCtx s BLK_ISP h 0 0 v).wrote ISP_CTRL_FORCE_OFF ≠ 1 := by rw [ne_eq, ispCtrl_force, calm]; exact Bool.false_ne_true
  have rose := hostCtx_rose s (ispCompared s h v) h 0 ISP_CTRL_EN v
  have fell := hostCtx_fell s (ispCompared s h v) h 0 ISP_CTRL_EN v
  rw [ispCompared_en] at rose fell
  rw [ispWrite_switches has, ispSwitched, if_neg quiet, rose, fell]
  rfl

/-- EN written 1 (R212): with the memory trained and nothing in the buffers the pipeline runs. -/
theorem ispWrite_rise (has : s.hasH h = true) (was : s.fon h 0 ISP_CTRL_EN = false) (en : v.getLsbD 0 = true)
    (calm : v.getLsbD 1 = false) (trained : dramFailed s h = false) (left : (s.cam h 0).buf = []) (right : (s.cam h 1).buf = []) :
    ispWrite h v s = (ispCompared s h v).fput h 0 ISP_STATUS_STATE 1 := by
  have cam (c : Nat) : ((ispCompared s h v).fput h 0 ISP_STATUS_STATE 1).cam h c = s.cam h c := by
    rw [State.fput_acc_cam, State.cam, ispCompared_cams, State.cam]
  have ready : dramFailed (ispCompared s h v) h = false := by
    rw [← trained, dramFailed, ispCompared_fget, ispStored, stored_fget_off (by decide)]
    rfl
  rw [ispWrite_calm has calm, en, was, if_pos (by decide), ready, if_neg Bool.false_ne_true,
    pump_of_lines (by rw [cam, left]; rfl) (by rw [cam, right]; rfl)]

theorem ispWrite_fall (has : s.hasH h = true) (was : s.fon h 0 ISP_CTRL_EN = true) (en : v.getLsbD 0 = false)
    (calm : v.getLsbD 1 = false) :
    ispWrite h v s = ispOff h 3 (forEach [0, 1] (fun p s => portDrain h p s) (ispCompared s h v)) := by
  rw [ispWrite_calm has calm, en, was, if_neg (by decide), if_pos (by decide)]

/-- A write that leaves EN and FORCE_OFF alone touches the windows alone (R206). -/
theorem ispWrite_same (has : s.hasH h = true) (was : s.fon h 0 ISP_CTRL_EN = true) (en : v.getLsbD 0 = true)
    (calm : v.getLsbD 1 = false) : ispWrite h v s = ispCompared s h v := by
  rw [ispWrite_calm has calm, en, was, if_neg (by decide), if_neg (by decide)]

/-- The pipeline is OFF with its result and no windows (R206, R212). -/
theorem ispOff_shows {res : Nat} (low : res < 2 ^ 8) : ispRuns (ispOff h res s) h = false ∧
    (ispOff h res s).fget h 0 ISP_STATUS_DRAIN_RESULT = res ∧ ((ispOff h res s).isp h).wins = [] ∧
    (ispOff h res s).fon h 0 ISP_EVENT_DRAIN_DONE = true ∧
    (ispOff h res s).fon h 0 ISP_CTRL_EN = (clearWindows h (emptyPipeline h s)).fon h 0 ISP_CTRL_EN := by
  unfold ispOff
  dsimp only
  refine ⟨?state, ?result, ?windows, raise_sets _ _ _ _ (by decide) (by decide) (Fld.offLoss_no _ (by decide)), ?enable⟩
  case state =>
    rw [ispRuns, raise_fget_clears (by decide) (by decide), State.fget_fput_clears _ (by decide),
      State.fget_fput_of_lt (by decide) (by decide)]
    rfl
  case result => rw [raise_fget_clears (by decide) (by decide), State.fget_fput_of_lt (by decide) low]
  case windows => rw [State.raise_acc_isp, State.fput_acc_isp, State.fput_acc_isp, clearWindows, State.setIsp_same]
  case enable =>
    rw [State.fon_eq, raise_fget_clears (by decide) (by decide), State.fget_fput_clears _ (by decide),
      State.fget_fput_clears _ (by decide), ← State.fon_eq]

theorem ispOff_en (res : Nat) (low : res < 2 ^ 8) : (ispOff h res (s.fput h 0 ISP_CTRL_EN 0)).fon h 0 ISP_CTRL_EN = false := by
  obtain ⟨-, -, -, -, enable⟩ := ispOff_shows (s := s.fput h 0 ISP_CTRL_EN 0) (h := h) low
  have kept (t : State) : (clearWindows h (emptyPipeline h t)).fon h 0 ISP_CTRL_EN = t.fon h 0 ISP_CTRL_EN := rfl
  rw [enable, kept, State.fon_eq, State.fget_fput_of_lt (by decide) (by decide)]
  rfl

/-! ### The density table (R205) -/

theorem dlutStep_addr : (dlutStep h s).fget h 0 ISP_DLUT_ADDR_V = (s.fget h 0 ISP_DLUT_ADDR_V + 1) % 4096 :=
  State.fget_fput_of_lt (by decide) (Nat.mod_lt _ (by decide))

theorem dlutAccess_write (has : s.hasH h = true) (v : Word) : dlutAccess h (some v) s = dlutStep h (s.setIsp h { s.isp h with
    dlut := tabSet (fun _ => 0) (s.isp h).dlut (s.fget h 0 ISP_DLUT_ADDR_V) (v.toNat % 65536) }) :=
  if_neg (by rw [has]; exact Bool.false_ne_true)

theorem dlutAccess_read (has : s.hasH h = true) : dlutAccess h none s = dlutStep h (s.emit
    (.tableRead h BLK_ISP (BitVec.ofNat 32 (tabGet (fun _ => 0) (s.isp h).dlut (s.fget h 0 ISP_DLUT_ADDR_V))))) :=
  if_neg (by rw [has]; exact Bool.false_ne_true)

/-! ### Verdicts (R208) -/

/-- Landing a verdict touches the messages in flight alone. -/
theorem landVerdict_shape (g : Nat) (msg : List Byte) (s : State) : ∃ pass ps, landVerdict g msg s = (pass, { s with isps := ps }) := by
  unfold landVerdict
  dsimp only
  split
  · exact ⟨none, s.isps, rfl⟩
  · exact ⟨_, _, rfl⟩

/-- A verdict for this hearth is skipped where verdicts are not applied, on a standby, and over an entry that takes none. -/
theorem verdictIn_skips (has : s.hasH h = true) (length : msg.length = 16) (type : byteAt msg 0 = 1) (own : byteAt msg 1 = h)
    (skips : s.fon h 0 ISP_CTRL_APPLY = false ∨ twnStandby s = true ∨
      verdictEntry s h (byteAt msg 2) (ashAhead s h (leAt msg 4 2)) = none) :
    ∃ ps, verdictIn h msg s = skipVerdict h { s with isps := ps } := by
  obtain ⟨pass, ps, lands⟩ := landVerdict_shape (byteAt msg 3 / 16 % 8) msg s
  have entry : verdictEntry { s with isps := ps } h (byteAt msg 2) (ashAhead { s with isps := ps } h (leAt msg 4 2)) =
      verdictEntry s h (byteAt msg 2) (ashAhead s h (leAt msg 4 2)) := rfl
  have still : (!State.fon { s with isps := ps } h 0 ISP_CTRL_APPLY || twnStandby { s with isps := ps }) =
      (!s.fon h 0 ISP_CTRL_APPLY || twnStandby s) := rfl
  refine ⟨ps, (if_neg ?_).trans ?_⟩
  · rw [has, length, type, own]
    simp
  · dsimp only
    rw [lands]
    dsimp only
    rw [still, entry]
    rcases skips with off | standby | none
    · rw [off, Bool.not_false, Bool.true_or, if_pos rfl]
    · rw [standby, Bool.or_true, if_pos rfl]
    · rw [none, ite_self]

/-- A verdict that is applied pushes its entry. -/
theorem verdictIn_applies {e : Word} (has : s.hasH h = true) (length : msg.length = 16) (type : byteAt msg 0 = 1)
    (own : byteAt msg 1 = h) (on : s.fon h 0 ISP_CTRL_APPLY = true) (active : twnStandby s = false)
    (entry : verdictEntry s h (byteAt msg 2) (ashAhead s h (leAt msg 4 2)) = some e) :
    ∃ pass ps, verdictIn h msg s = applyVerdict h (leAt msg 4 2) e pass { s with isps := ps } := by
  obtain ⟨pass, ps, lands⟩ := landVerdict_shape (byteAt msg 3 / 16 % 8) msg s
  have same : verdictEntry { s with isps := ps } h (byteAt msg 2) (ashAhead { s with isps := ps } h (leAt msg 4 2)) = some e := entry
  have still : (!State.fon { s with isps := ps } h 0 ISP_CTRL_APPLY || twnStandby { s with isps := ps }) = false := by
    show (!s.fon h 0 ISP_CTRL_APPLY || twnStandby s) = false
    rw [on, active]
    rfl
  refine ⟨pass, ps, (if_neg ?_).trans ?_⟩
  · rw [has, length, type, own]
    simp
  · dsimp only
    rw [lands]
    dsimp only
    rw [still, same, if_neg Bool.false_ne_true]

theorem skipVerdict_shows : (skipVerdict h s).ters = s.ters ∧ (skipVerdict h s).fon h 0 ISP_EVENT_SKIP = true ∧
    (skipVerdict h s).fget h 0 ISP_SKIP = satAdd32 (s.fget h 0 ISP_SKIP) 1 := by
  obtain ⟨counts, event, -⟩ := counted_event_shows (s := s) (h := h) (f := ISP_SKIP) (e := ISP_EVENT_SKIP) (by decide) (by decide)
    (by decide) (by decide)
  exact ⟨by rw [skipVerdict, State.raise_ters, State.count_ters], event, counts⟩

/-- A push that finds room leaves the fields of other words. -/
theorem ashPush_room_fget {col line : Nat} {e : Word} {g : Fld} (good : col < columns) (on : s.fon h 0 ASH_CTRL_Q_EN = true)
    (room : (s.ter h).ashQ.length < 256) (cl : g.clears ASH_STATUS_DEPTH ∧ g.clears ASH_STATUS_FULL)
    (order : g.clears ASH_ORDER ∧ g.clears ASH_EVENT_ORDER ∧ g.offLoss = true) :
    (ashPush h col line e s).1.fget h 0 g = s.fget h 0 g := by
  have ordered : (ashOrdered h line s).fget h 0 g = s.fget h 0 g := by
    unfold ashOrdered
    split
    · rw [raise_fget_clears order.2.1 order.2.2, State.count_eq, State.fget_fput_clears _ order.1]
    · rfl
  rw [ashPush_of_room line e good on room, ashShow_fget cl, State.setTer_acc_fget, ordered]

theorem ashPush_room_queued {col line : Nat} {e : Word} (good : col < columns) (on : s.fon h 0 ASH_CTRL_Q_EN = true)
    (room : (s.ter h).ashQ.length < 256) : (ashPush h col line e s).2 = true := by
  unfold ashPush
  dsimp only
  rw [if_neg (by omega), if_neg (by simp [on, room])]

/-- What is counted and reported of an entry that was pushed (R208, R209). -/
def verdictApplied (h : Nat) (pass : Option Nat) (s : State) : State :=
  let s := (s.count h 0 ISP_APPLIED).raise h 0 ISP_EVENT_APPLIED
  match pass with
  | some t => if t + 12000000 < timeNs s then (s.count h 0 ISP_LATE).raise h 0 ISP_EVENT_LATE else s
  | none => s

theorem verdictApplied_shows (pass : Option Nat) : (verdictApplied h pass s).ter h = s.ter h ∧
    (verdictApplied h pass s).fon h 0 ISP_EVENT_APPLIED = true ∧
    (verdictApplied h pass s).fget h 0 ISP_APPLIED = satAdd32 (s.fget h 0 ISP_APPLIED) 1 := by
  obtain ⟨counts, event, -⟩ := counted_event_shows (s := s) (h := h) (f := ISP_APPLIED) (e := ISP_EVENT_APPLIED) (by decide) (by decide)
    (by decide) (by decide)
  have same : ((s.count h 0 ISP_APPLIED).raise h 0 ISP_EVENT_APPLIED).ter h = s.ter h := by
    rw [State.raise_acc_ter, State.count_acc_ter]
  generalize applied : (s.count h 0 ISP_APPLIED).raise h 0 ISP_EVENT_APPLIED = u at counts event same
  obtain ⟨-, -, others⟩ := counted_event_shows (s := u) (h := h) (f := ISP_LATE) (e := ISP_EVENT_LATE) (by decide) (by decide)
    (by decide) (by decide)
  have late : ((u.count h 0 ISP_LATE).raise h 0 ISP_EVENT_LATE).ter h = s.ter h ∧
      ((u.count h 0 ISP_LATE).raise h 0 ISP_EVENT_LATE).fon h 0 ISP_EVENT_APPLIED = true ∧
      ((u.count h 0 ISP_LATE).raise h 0 ISP_EVENT_LATE).fget h 0 ISP_APPLIED = satAdd32 (s.fget h 0 ISP_APPLIED) 1 := by
    refine ⟨by rw [State.raise_acc_ter, State.count_acc_ter, same], ?_, by rw [others _ (by decide) (by decide) (by decide), counts]⟩
    rw [State.fon_eq, others _ (by decide) (by decide) (by decide), ← State.fon_eq, event]
  unfold verdictApplied
  rw [applied]
  cases pass with
  | none => exact ⟨same, event, counts⟩
  | some at' =>
    dsimp only
    split
    · exact late
    · exact ⟨same, event, counts⟩

/-- The entry goes to the end of the queue, LEAD lines ahead (R208). -/
theorem applyVerdict_shows {x : Nat} {e : Word} (pass : Option Nat) (alone : twnLeads s = false) (good : x < columns)
    (on : s.fon h 0 ASH_CTRL_Q_EN = true) (room : (s.ter h).ashQ.length < 256) :
    (applyVerdict h x e pass s).fon h 0 ISP_EVENT_APPLIED = true ∧
    (applyVerdict h x e pass s).fget h 0 ISP_APPLIED = satAdd32 (s.fget h 0 ISP_APPLIED) 1 ∧
    ((applyVerdict h x e pass s).ter h).ashQ = (s.ter h).ashQ ++ [(x, e, lnum s h + max 1 (s.fget h 0 ISP_VERDICT_LEAD))] := by
  generalize line : lnum s h + max 1 (s.fget h 0 ISP_VERDICT_LEAD) = l
  have queued : (ashPush h x l e s).2 = true := ashPush_room_queued good on room
  obtain ⟨queue, -, -⟩ := ashPush_room_shows l e good on room
  have applied : (ashPush h x l e s).1.fget h 0 ISP_APPLIED = s.fget h 0 ISP_APPLIED :=
    ashPush_room_fget good on room (by decide) (by decide)
  generalize pushed : ashPush h x l e s = r at queued queue applied
  have sent : ∃ u, applyVerdict h x e pass s = verdictApplied h pass u ∧ u.regs = r.1.regs ∧ u.ters = r.1.ters := by
    unfold applyVerdict
    dsimp only
    rw [alone, if_neg Bool.false_ne_true, line, pushed, queued, Bool.not_true, if_neg Bool.false_ne_true]
    refine ⟨_, rfl, ?_, ?_⟩ <;> split <;> rfl
  obtain ⟨u, eq, regs, ters⟩ := sent
  obtain ⟨ter, event, counts⟩ := verdictApplied_shows (s := u) (h := h) pass
  have count : u.fget h 0 ISP_APPLIED = r.1.fget h 0 ISP_APPLIED := by rw [State.fget, State.rd, regs]; rfl
  rw [eq, ter, counts, count, applied, State.ter, ters]
  exact ⟨event, rfl, queue⟩

/-- A weak verdict over a nominal entry (R208). -/
theorem verdictEntry_weak {e : Word} (nominal : ashState e = 0) : ∃ w, verdictEntry s h 1 e = some w ∧ ashState w = 1 ∧
    ashGain w = min 255 (ashGain e + s.fget h 0 ISP_VERDICT_WEAK_GAIN) := by
  refine ⟨_, if_pos ⟨rfl, nominal⟩, ?_, ?_⟩
  · rw [ashState, bits_insertBits_disj _ _ _ _ _ _ (by decide) (by decide), bits_insertBits_same _ _ _ _ (by decide)]
    rfl
  · rw [ashGain, bits_insertBits_same _ _ _ _ (by decide), Nat.mod_eq_of_lt (by omega)]

/-- An entry that is dead or beyond takes no verdict (R208). -/
theorem verdictEntry_beyond {e : Word} (w : Nat) (beyond : 2 ≤ ashState e) : verdictEntry s h w e = none := by
  unfold verdictEntry
  dsimp only
  rw [if_neg (by omega), if_neg (by omega)]

/-! ### The closing of inspection (R210) -/

/-- A page with the watermark of a port. -/
def Page.marked (p : Page) (key value : Nat) : Page := { p with marks := (key, value) :: p.marks.filter fun m => m.1 != key }

/-- The one page of the hearth, still firing, notes a watermark and stays. -/
theorem watermarkIn_firing {p : Page} (has : s.hasH h = true) (length : msg.length = 16) (type : byteAt msg 0 = 2)
    (one : (s.bas h).tbl = [p]) (held : p.held = true) (firing : p.st = .firing) :
    watermarkIn h msg s = s.setBas h { s.bas h with
      tbl := [p.marked (byteAt msg 3 / 16 % 8 * 2 + byteAt msg 3 % 2) (leAt msg 8 4)] } := by
  generalize key : byteAt msg 3 / 16 % 8 * 2 + byteAt msg 3 % 2 = k
  have found : (p.id == p.id && p.held) = true := by rw [held, beq_self_eq_true]; rfl
  have notes : mapPage h p.id (fun q => q.marked k (leAt msg 8 4)) s = s.setBas h { s.bas h with tbl := [p.marked k (leAt msg 8 4)] } := by
    rw [mapPage, one, List.map_singleton, found]
    rfl
  have stays : pageRetireStep h p.id (s.setBas h { s.bas h with tbl := [p.marked k (leAt msg 8 4)] }) =
      s.setBas h { s.bas h with tbl := [p.marked k (leAt msg 8 4)] } := by
    have still : (p.marked k (leAt msg 8 4)).st = .firing := firing
    unfold pageRetireStep
    split
    · rfl
    · next q hit =>
      rw [findPage, State.setBas_same] at hit
      obtain rfl : p.marked k (leAt msg 8 4) = q := List.mem_singleton.mp (List.mem_of_find?_eq_some hit) ▸ rfl
      rw [still]
      rfl
  have pages : (heldPages s h).filter (fun p => p.st == .firing || p.st == .fired) = [p] := by
    simp [heldPages, one, held, firing]
  unfold watermarkIn
  dsimp only
  rw [has, length, type, pages, key]
  exact (congrArg (pageRetireStep h p.id) notes).trans stays

/-- A page that has fired and is not closed in time retires as not inspected (R210). -/
theorem closeTimeout_late {pg : Nat} {p : Page} (found : findPage s h pg = some p) (fired : p.st = .fired)
    (inspected : inspectionOff s h = false) (unclosed : inspectionClosed s h p = false) : closeTimeout h pg s =
      retirePage h pg ((mapPage h pg (fun q => { q with notInspected := true }) s).raise h 0 ISP_EVENT_CLOSE_TIMEOUT) := by
  unfold closeTimeout
  rw [found]
  dsimp only
  rw [fired, inspected, unclosed]
  rfl

/-! ### I2C (R189; log 123) -/

theorem noteDop_i2c (owner : Option (Nat × Nat)) (st p : Nat) : (noteDop owner h st s).i2c h p = s.i2c h p := by
  cases owner <;> rfl

theorem i2cDone_shows {p res n ch tag : Nat} {rd : List Byte} (has : s.hasH h = true) (port : p < 2)
    (runs : (s.i2c h p).run = some (n, ch, tag)) : (i2cDone h p res rd s).i2c h p =
      { s.i2c h p with run := none, last := if res = 0 then padTo n (rd.take n) else [] } := by
  unfold i2cDone
  dsimp only
  rw [has, decide_eq_true port, runs, Bool.and_self, Bool.not_true, if_neg Bool.false_ne_true]
  exact (noteDop_i2c ..).trans (State.setI2c_same ..)

end

end Sys2Proof.Machine
end

section
/-! PROOFS. O50: the rows of the camera ports and of the pipeline assembled from what their operations show. -/

namespace Sys2Proof.Machine

section
variable {s : State} {h c : Nat}

/-- What a packet with a whole header on the selected channel does (R188, R190, R193). -/
theorem exec_csiPacketReceived_selected (has : s.hasH h = true) (port : c < 2) (off : ispRuns s h = false) {p : List Byte} {d : Nat}
    (on : camState s h c ≠ 0) (read : csiCorrect p = some (d, false)) (selected : headerChannel d = s.fget h c CAM_CTRL_VC) :
    exec (.csiPacketReceived h c p) s = .next (settle (csiTyped h c d p s)) := by
  rw [exec_csiPacketReceived port off, csiPacket_selected has port on read selected]

/-- The pipeline takes the one line of the port that is next (R194). -/
theorem exec_pipelineLineTaken {r at' : Nat} {m : List Nat} (has : s.hasH h = true) (runs : ispRuns s h = true)
    (lines : ∀ k < 2, (s.cam h k).buf.all CamItem.isRow = true) (port : c < 2) (next : nextPort s h = some c)
    (buf : (s.cam h c).buf = [.row r at' m]) : ∃ t, exec (.pipelineLineTaken h) s = .next (settle t) ∧ (t.cam h c).buf = [] ∧
      (t.cam h c).rows = (s.cam h c).rows ++ [(r, m)] ∧ t.cam h (1 - c) = s.cam h (1 - c) := by
  have takes := takeLine_takes has runs (lines 0 (by decide)) (lines 1 (by decide)) next buf
  refine ⟨_, congrArg settled takes, ?_, ?_, lineTakenOff_other _ (by omega)⟩
  · rw [lineTakenOff_cam, buf]
    rfl
  · rw [lineTakenOff_cam]

end

/-- Settles O50: with the pipeline off a row of a port is its operation alone, and each operation's own lemma gives what it shows; the
pipeline's rows follow from the write of ISP_CTRL by what it makes of CMP_EN, FORCE_OFF and EN. -/
theorem camerasPipelineAndVerdicts : Obligations.CamerasPipelineAndVerdicts := by
  refine ⟨fun s h c has port off => ⟨fun p on lost => ?lost, fun p d on read other => ?other, fun p d on read selected => ?typed,
    fun opened runs => ?timeout, fun opened drains once => ?timeoutDrain, fun en on => ?down, fun early => ?early,
    fun en on due => ?trigger, fun v rests was low => ?rise, fun v was low once => ?fall, fun drains opened once => ?drain, ?force⟩,
    fun s h has => ⟨fun r0 t0 m0 r1 t1 m1 runs left right => ?line, fun off => ?noLine,
    fun msg length type own => ⟨fun skips => ?skip, fun e on active alone entry good queue room => ?apply⟩,
    fun e nominal => verdictEntry_weak nominal, fun e w beyond => verdictEntry_beyond w beyond,
    fun msg p length type one held firing => ?watermark, fun pg p found fired inspected opened => ?close,
    fun v was low trained left right => ?ispRise, fun v was low => ?ispFall, ?ispForce, fun v was low => ?compare,
    fun v => ?dlutWrite, ?dlutRead, fun p res rd n ch tag lt runs => ?i2c⟩⟩
  case lost => rw [exec_csiPacketReceived port off, csiPacket_lost lost]
  case other => rw [exec_csiPacketReceived port off, csiPacket_other has port on read other]
  case typed =>
    have row := exec_csiPacketReceived_selected has port off on read selected
    refine ⟨fun type closed runs => ?start, fun type opened runs => ?ends,
      fun type opened kept due length crc room m samples => ?taken, fun type opened kept due broken => ?broken,
      fun type opened kept full => ?beyond, fun type => ?bad⟩
    case start => exact ⟨_, row, by rw [csiTyped_start type]; exact frameStarts_shows closed on runs⟩
    case ends =>
      obtain ⟨state, frame, number, frames, short, long⟩ := frameEnds_waits (s := s) (h := h) (c := c) runs
      exact ⟨_, row, by rw [csiTyped_end type opened]; exact ⟨state, frame, number, frames, short, long⟩⟩
    case taken =>
      have cam := lineArrives_taken opened kept due room ((lineRead_of_whole length crc).trans samples)
      exact ⟨_, row, by rw [csiTyped_line type, cam]; exact ⟨rfl, rfl, rfl⟩⟩
    case broken =>
      obtain ⟨cam, counts, event⟩ := lineArrives_lost opened kept due (lineRead_of_broken broken)
      exact ⟨_, row, by rw [csiTyped_line type, cam]; exact ⟨rfl, rfl, counts, event⟩⟩
    case beyond => exact ⟨_, row, by rw [csiTyped_line type]; exact lineArrives_beyond opened kept full⟩
    case bad => rw [row, csiTyped_bad type]
  case timeout =>
    obtain ⟨state, frame, shows⟩ := frameEnds_waits (s := s) (h := h) (c := c) runs
    exact ⟨_, exec_frameTimeout has port off opened, state, frame, shows.number⟩
  case timeoutDrain =>
    have ended := frameEnds_off drains once
    exact ⟨_, exec_frameTimeout has port off opened, ended.state, by rw [ended.port, closeFrame_cam]; rfl, ended.result⟩
  case down => exact congrArg settled (linkDown_eq has port en on)
  case early => exact congrArg settled (camTrigger_not_due early)
  case trigger =>
    obtain ⟨out, cam⟩ := camTrigger_due has port en on due
    exact ⟨_, rfl, out, by rw [cam]; exact ⟨rfl, rfl, rfl, camPos_whole s h⟩⟩
  case rise =>
    obtain ⟨en, calm⟩ := low_bits low
    obtain ⟨state, enable⟩ := camEnable_shows (s := camStored s h c v) (h := h) (c := c)
    exact ⟨_, camEnWrite_rise has port off rests was en calm, state, by rw [enable, camStored_en]; exact en⟩
  case fall =>
    obtain ⟨en, calm⟩ := low_bits low
    have cam : (camStored s h c v).cam h c = s.cam h c := stored_cam h c
    have shows := camDisable_shows (s := camStored s h c v) (h := h) (c := c) (by rw [cam, once])
    rw [cam] at shows
    exact ⟨_, camEnWrite_fall has port off was en calm, shows⟩
  case drain => exact ⟨_, exec_camDrainTimeout has port off drains, camDrainTimeout_shows drains opened once⟩
  case force => exact ⟨_, exec_camForceOff has port off, camForce_shows⟩
  case line =>
    have prio : s.fget h 0 ISP_CTRL_PRIO < 2 := State.fget_lt s h 0 ISP_CTRL_PRIO
    have next : nextPort s h = some (if t0 < t1 then 0 else if t1 < t0 then 1 else s.fget h 0 ISP_CTRL_PRIO) := by
      rw [nextPort, headLine, headLine, left, right]
    have lines (k : Nat) (lt : k < 2) : (s.cam h k).buf.all CamItem.isRow = true := by
      obtain rfl | rfl : k = 0 ∨ k = 1 := by omega
      · rw [left]; rfl
      · rw [right]; rfl
    have port : (if t0 < t1 then 0 else if t1 < t0 then 1 else s.fget h 0 ISP_CTRL_PRIO) < 2 := by split_ifs <;> omega
    dsimp only
    generalize (if t0 < t1 then 0 else if t1 < t0 then 1 else s.fget h 0 ISP_CTRL_PRIO) = c at next port
    obtain rfl | rfl : c = 0 ∨ c = 1 := by omega
    · exact exec_pipelineLineTaken has runs lines port next left
    · exact exec_pipelineLineTaken has runs lines port next right
  case noLine => exact congrArg settled (takeLine_off off)
  case skip =>
    obtain ⟨ps, skipped⟩ := verdictIn_skips has length type own skips
    exact ⟨_, congrArg settled skipped, skipVerdict_shows⟩
  case apply =>
    obtain ⟨pass, ps, applied⟩ := verdictIn_applies has length type own on active entry
    exact ⟨_, congrArg settled applied, applyVerdict_shows (s := { s with isps := ps }) pass alone good queue room⟩
  case watermark =>
    refine ⟨_, congrArg settled (watermarkIn_firing has length type one held firing), rfl, ?_⟩
    rw [State.setBas_same]
    rfl
  case close => exact congrArg settled (closeTimeout_late found fired inspected opened)
  case ispRise =>
    obtain ⟨en, calm⟩ := low_bits low
    refine ⟨_, congrArg settled (ispWrite_rise has was en calm trained left right), ?_, ?_, ?_⟩
    · rw [ispRuns, State.fget_fput_of_lt (by decide) (by decide)]
      rfl
    · rw [State.fon_eq, State.fget_fput_clears _ (by decide), ← State.fon_eq, ispCompared_en]
      exact en
    · rw [State.fput_acc_isp, ispCompared_wins]
  case ispFall =>
    obtain ⟨en, calm⟩ := low_bits low
    obtain ⟨state, result, windows, done, -⟩ := ispOff_shows (res := 3) (h := h)
      (s := forEach [0, 1] (fun p s => portDrain h p s) (ispCompared s h v)) (by decide)
    exact ⟨_, congrArg settled (ispWrite_fall has was en calm), state, result, windows, done⟩
  case ispForce =>
    obtain ⟨state, result, windows, -, -⟩ := ispOff_shows (res := 4) (h := h)
      (s := (ispCompared s h (s.pulse h 0 BLK_ISP 0 1)).fput h 0 ISP_CTRL_EN 0) (by decide)
    exact ⟨_, congrArg settled (ispWrite_force has (pulse_same (by decide))), state, result, ispOff_en 4 (by decide), windows⟩
  case compare =>
    obtain ⟨en, calm⟩ := low_bits low
    exact ⟨_, congrArg settled (ispWrite_same has was en calm), ispCompared_cams, ispCompared_wins, ispCompared_cmp⟩
  case dlutWrite =>
    refine ⟨_, congrArg settled (dlutAccess_write has v), ?_, dlutStep_addr⟩
    rw [dlutStep, State.fput_acc_isp, State.setIsp_same, tabGet_tabSet_same]
  case dlutRead => exact ⟨_, congrArg settled (dlutAccess_read has), rfl, dlutStep_addr, rfl⟩
  case i2c => exact ⟨_, rfl, by rw [i2cDone_shows has lt runs], by rw [i2cDone_shows has lt runs]⟩

end Sys2Proof.Machine
end

section
/-! PROOFS. Fields and records of a motion axis: what each operation of an axis leaves of them (R226 to R240). -/

namespace Sys2Proof.Machine

/-- A field of a unit whose block counts no lost event words reads the same after an event of that unit. -/
theorem raise_fget_clearsBlk {s : State} {h i : Nat} {f g : Fld} (hi : i < 16) (c : g.clears f) (off : g.offLossBlk = true) :
    (s.raise h i f).fget h i g = s.fget h i g := by
  have put := State.fget_fput_clears (s := s) (h := h) (i := i) 1 c
  unfold State.raise
  dsimp only
  split_ifs
  · rfl
  · rw [← put]
    unfold State.fget
    rw [postEvent_rd _ _ _ _ _ (Fld.offLossBlk_no hi off)]
  · exact put

section
variable {s : State} {a : Nat} {f g : Fld}

/-! ### Fields of an axis -/

/-- A field of an axis that lies apart from the listed ones, in a word that counts no lost event words. -/
abbrev Fld.axisBut (g : Fld) (fs : List Fld) : Prop := g.offLossBlk = true ∧ ∀ f ∈ fs, g.clears f

theorem State.mon_eq : s.mon a f = (s.mget a f != 0) := rfl

theorem axisHearth (a : Nat) : 4 * (a / 4) + a % 4 = a := Nat.div_add_mod a 4

@[simp] theorem mput_axis (v b : Nat) : (s.mput a f v).axis b = s.axis b := State.fput_acc_axis ..
@[simp] theorem mraise_axis (b : Nat) : (s.mraise a f).axis b = s.axis b := State.raise_acc_axis ..
@[simp] theorem mcount_axis (n b : Nat) : (s.mcount a f n).axis b = s.axis b := State.count_acc_axis ..
@[simp] theorem mput_axes (v : Nat) : (s.mput a f v).axes = s.axes := State.fput_axes ..
@[simp] theorem mraise_axes : (s.mraise a f).axes = s.axes := State.raise_axes ..
@[simp] theorem mcount_axes (n : Nat) : (s.mcount a f n).axes = s.axes := State.count_axes ..
@[simp] theorem setAxis_mget (b : Nat) (x : AxX) : (s.setAxis b x).mget a g = s.mget a g := State.setAxis_acc_fget ..
@[simp] theorem setAxis_axPos (b : Nat) (x : AxX) : axPos (s.setAxis b x) a = axPos s a := rfl
@[simp] theorem setAxis_axState (b : Nat) (x : AxX) : axState (s.setAxis b x) a = axState s a := rfl
@[simp] theorem emit_mget (o : Out) : (s.emit o).mget a g = s.mget a g := State.emit_acc_fget ..
@[simp] theorem emit_axis (o : Out) (b : Nat) : (s.emit o).axis b = s.axis b := State.emit_acc_axis ..

theorem mget_mput_same (v : Nat) (fits : f.lo + f.len ≤ 32) : (s.mput a f v).mget a f = v % 2 ^ f.len :=
  State.fget_fput_same _ _ _ _ _ fits

theorem mget_mput_clears (v : Nat) (c : g.clears f) : (s.mput a f v).mget a g = s.mget a g := State.fget_fput_clears _ c

/-- The unit of an axis within its hearth is one of the sixteen of a block. -/
theorem axis_inst_lt (a : Nat) : a % 4 < 16 := by omega

theorem mget_mraise_clears (c : g.clears f) (off : g.offLossBlk = true) : (s.mraise a f).mget a g = s.mget a g :=
  raise_fget_clearsBlk (axis_inst_lt a) c off

theorem mget_mcount_clears (n : Nat) (c : g.clears f) : (s.mcount a f n).mget a g = s.mget a g := State.fget_fput_clears _ c

theorem mget_mcount_same (n : Nat) (whole : f.lo = 0 ∧ f.len = 32) : (s.mcount a f n).mget a f = satAdd32 (s.mget a f) n :=
  State.fget_count n whole

/-- A raised event reads 1, whatever was there. -/
theorem mon_mraise_same (one : f.len = 1) (fits : f.lo < 32) (off : f.offLossBlk = true) : (s.mraise a f).mon a f = true :=
  raise_sets _ _ _ _ (by omega) (by omega) (Fld.offLossBlk_no (axis_inst_lt a) off)

/-- A raised event stays on when another of its word is raised. -/
theorem mon_mraise_keeps (one : f.len = 1) (c : g.sameEvents f = true) (on : s.mon a g = true) : (s.mraise a f).mon a g = true :=
  raise_keeps_on _ _ _ _ _ (axis_inst_lt a) one c on

/-- A position, or any other signed word, reads back as the low 32 bits that were put. -/
theorem ofS_lt (n : Nat) (x : Int) : ofS n x < 2 ^ n := by
  unfold ofS
  have pos : (0 : Int) < 2 ^ n := by positivity
  have lt := Int.emod_lt_of_pos x pos
  have nonneg := Int.emod_nonneg x (ne_of_gt pos)
  zify
  rw [Int.toNat_of_nonneg nonneg]
  exact lt

/-- Reading the low bits of a signed reading gives those bits again. -/
theorem toS_ofS_toS (n : Nat) (x : Int) : toS n (ofS n (toS n (ofS n x))) = toS n (ofS n x) := by
  have same : ofS n (toS n (ofS n x)) = ofS n x := by
    have lt := ofS_lt n x
    have pos : (0 : Int) < 2 ^ n := by positivity
    unfold toS
    dsimp only
    rw [Nat.mod_eq_of_lt lt]
    have cast : ((ofS n x : Nat) : Int) % 2 ^ n = ofS n x := Int.emod_eq_of_lt (Int.natCast_nonneg _) (by exact_mod_cast lt)
    split
    · rw [ofS, Int.sub_emod_right, cast, Int.toNat_natCast]
    · rw [ofS, cast, Int.toNat_natCast]
  rw [same]

/-! ### Display, resolution, wake -/

/-- Fields that the operations of an axis write: its display, its resolution, its coils. -/
def showFields : List Fld := [MOT_VEL, MOT_STATUS_DEPTH]

@[simp] theorem axGo_axis (st b : Nat) : (axGo a st s).axis b = s.axis b := mput_axis ..
@[simp] theorem axGo_axes (st : Nat) : (axGo a st s).axes = s.axes := mput_axes ..

theorem axGo_mget (st : Nat) (c : g.clears MOT_STATUS_STATE) : (axGo a st s).mget a g = s.mget a g := mget_mput_clears _ c

theorem axGo_state {st : Nat} (lt : st < 8) : axState (axGo a st s) a = st := State.fget_fput_of_lt (by decide) lt

@[simp] theorem axShow_axis (b : Nat) : (axShow a s).axis b = s.axis b := by simp [axShow]

theorem axShow_mget (c : g.axisBut showFields) : (axShow a s).mget a g = s.mget a g := by
  obtain ⟨-, apart⟩ := c
  rw [axShow, mget_mput_clears _ (apart _ (by decide)), mget_mput_clears _ (apart _ (by decide))]

theorem axShow_depth : (axShow a s).mget a MOT_STATUS_DEPTH = (s.axis a).queue.length % 2 ^ MOT_STATUS_DEPTH.len :=
  mget_mput_same _ (by decide)

/-- Following the resolution is a run of writes of K. -/
theorem resFollow_keeps {P : State → Prop} (put : ∀ t k, P t → P (t.mput a MOT_STATUS_K k)) (holds : P s) : P (resFollow a s) := by
  have down (n : Nat) (t : State) (holds : P t) : P (resDown a n t) := by
    induction n generalizing t with
    | zero => exact holds
    | succ n ih =>
      unfold resDown
      dsimp only
      split
      · exact ih _ (put _ _ holds)
      · exact holds
  have up (n : Nat) (t : State) (holds : P t) : P (resUp a n t) := by
    induction n generalizing t with
    | zero => exact holds
    | succ n ih =>
      unfold resUp
      dsimp only
      split
      · exact ih _ (put _ _ holds)
      · exact holds
  unfold resFollow
  split
  · exact up 4 _ (down 4 s holds)
  · exact holds

@[simp] theorem resFollow_axis (b : Nat) : (resFollow a s).axis b = s.axis b :=
  resFollow_keeps (P := fun t => t.axis b = s.axis b) (fun _ _ same => same) rfl

theorem resFollow_mget (c : g.clears MOT_STATUS_K) : (resFollow a s).mget a g = s.mget a g :=
  resFollow_keeps (P := fun t => t.mget a g = s.mget a g) (fun _ _ same => (mget_mput_clears _ c).trans same) rfl

/-- The coils are driven, by a wake or as an axis comes on. -/
theorem wake_axis : (wake a s).axis a =
    if (s.axis a).cmd = 0 then s.axis a else { s.axis a with cmd := 0, waking := true } := by
  rw [wake]
  split
  · rfl
  · simp [coilsOn]

theorem wake_mget (c : g.clears MOT_STATUS_UNHELD) : (wake a s).mget a g = s.mget a g := by
  rw [wake]
  split
  · rfl
  · simp [coilsOn, mget_mput_clears _ c]

/-! ### Moves that end -/

@[simp] theorem noteDop_axes (owner : Option (Nat × Nat)) (h st : Nat) : (noteDop owner h st s).axes = s.axes := by
  cases owner <;> rfl

/-- The end of a move reaches commands and the feeds of a Draught, not the axes. -/
@[simp] theorem feedEnd_axes (ok : Bool) (m : Move) : (feedEnd a ok m s).axes = s.axes := by
  unfold feedEnd
  cases m.feed with
  | none => exact noteDop_axes ..
  | some h => cases ok <;> simp

/-- A field of another block than DRT. -/
theorem feedEnd_mget (b : g.offLossBlk = true) (other : g.blk ≠ BLK_DRT) (ok : Bool) (m : Move) :
    (feedEnd a ok m s).mget a g = s.mget a g := by
  simp only [Fld.offLossBlk, Bool.and_eq_true, decide_eq_true_eq] at b
  have put (t : State) (h v : Nat) : (t.fput h 0 DRT_STATUS_FEED_BUSY v).mget a g = t.mget a g :=
    State.fget_fput_ne _ _ (rkey_ne (axis_inst_lt a) (by omega) (by omega) (by decide) (by decide) (by decide)
      fun ⟨_, _, e, _⟩ => other e)
  have note (t : State) : (noteDop m.owner (a / 4) (if ok then 0 else 4) t).mget a g = t.mget a g := by
    cases m.owner <;> rfl
  unfold feedEnd
  cases m.feed with
  | none => exact note s
  | some h => cases ok <;> exact (put _ h 0).trans (note s)

theorem State.axis_congr {t : State} (same : t.axes = s.axes) (b : Nat) : t.axis b = s.axis b := by
  rw [State.axis, State.axis, same]

@[simp] theorem discard_axes (ms : List Move) : (discard a ms s).axes = s.axes := by
  have each (t : State) : (forEach ms (feedEnd a false) t).axes = t.axes := by
    induction ms generalizing t with
    | nil => rfl
    | cons m ms ih => exact (ih _).trans (feedEnd_axes false m)
  rw [discard, each]
  split <;> simp

@[simp] theorem discard_axis (ms : List Move) (b : Nat) : (discard a ms s).axis b = s.axis b := State.axis_congr (discard_axes ms) b

theorem feedsEnd_mget (b : g.offLossBlk = true) (other : g.blk ≠ BLK_DRT) (ms : List Move) :
    (forEach ms (feedEnd a false) s).mget a g = s.mget a g := by
  induction ms generalizing s with
  | nil => rfl
  | cons m ms ih => exact ih.trans (feedEnd_mget b other false m)

theorem discard_mget (c : g.axisBut [MOT_ABORTED]) (other : g.blk ≠ BLK_DRT) (ms : List Move) :
    (discard a ms s).mget a g = s.mget a g := by
  rw [discard, feedsEnd_mget c.1 other]
  split
  · rfl
  · exact mget_mcount_clears _ (c.2 _ (by simp))

/-- Discarded moves are counted (R236, R239, R240). -/
theorem discard_aborted {ms : List Move} (some : ms ≠ []) :
    (discard a ms s).mget a MOT_ABORTED = satAdd32 (s.mget a MOT_ABORTED) ms.length := by
  have ne : ms.isEmpty = false := by simpa using some
  rw [discard, feedsEnd_mget (by decide) (by decide), ne]
  exact mget_mcount_same _ (by decide)

/-! ### Rest, OFF, limits -/

/-- Fields that an axis coming to OFF writes. -/
def offFields : List Fld := [MOT_STATUS_STATE, MOT_STATUS_HOMED, MOT_STATUS_DRAIN_RESULT, MOT_EVENT_DRAIN_DONE] ++ showFields

/-- The axis's record once it is OFF. -/
def AxX.stopped (x : AxX) : AxX :=
  { x with v := 0, cur := none, queue := [], vj := 0, homing := 0, ramp := false, lost := false, again := false, cmd := 1,
           waking := false, endedAt := none }

/-- An axis that is not to be enabled again is OFF (R240). -/
theorem axOff_of_once (once : (s.axis a).again = false) (res : Nat) : axOff a res s =
    axShow a (((((axGo a 0 (s.setAxis a (s.axis a).stopped)).mput a MOT_STATUS_HOMED 0).mput a MOT_STATUS_DRAIN_RESULT res)).mraise a
      MOT_EVENT_DRAIN_DONE) := by
  rw [axOff, once]
  rfl

theorem axOff_shows (once : (s.axis a).again = false) {res : Nat} (lt : res < 256) :
    axState (axOff a res s) a = 0 ∧ (axOff a res s).mget a MOT_STATUS_DRAIN_RESULT = res ∧
    (axOff a res s).mon a MOT_EVENT_DRAIN_DONE = true ∧ (axOff a res s).mon a MOT_STATUS_HOMED = false ∧
    (axOff a res s).axis a = (s.axis a).stopped := by
  rw [axOff_of_once once]
  refine ⟨?_, ?_, ?_, ?_, by simp⟩
  · rw [axState, axShow_mget (by decide), mget_mraise_clears (by decide) (by decide), mget_mput_clears _ (by decide),
      mget_mput_clears _ (by decide)]
    exact axGo_state (by decide)
  · rw [axShow_mget (by decide), mget_mraise_clears (by decide) (by decide), mget_mput_same _ (by decide)]
    exact Nat.mod_eq_of_lt lt
  · rw [State.mon_eq, axShow_mget (by decide), ← State.mon_eq]
    exact mon_mraise_same rfl (by decide) (by decide)
  · rw [State.mon_eq, axShow_mget (by decide), mget_mraise_clears (by decide) (by decide), mget_mput_clears _ (by decide),
      mget_mput_same _ (by decide)]
    rfl

theorem axOff_mget (once : (s.axis a).again = false) (res : Nat) (c : g.axisBut offFields) : (axOff a res s).mget a g = s.mget a g := by
  obtain ⟨b, apart⟩ := c
  have shown : g.axisBut showFields := ⟨b, fun f m => apart f (List.mem_append_right _ m)⟩
  rw [axOff_of_once once, axShow_mget shown, mget_mraise_clears (apart _ (by decide)) b, mget_mput_clears _ (apart _ (by decide)),
    mget_mput_clears _ (apart _ (by decide)), axGo_mget _ (apart _ (by decide)), setAxis_mget]

/-- Coming on again at the end of a drain writes the enable and the coils besides. -/
def onFields : List Fld := [MOT_STATUS_STATE, MOT_STATUS_UNHELD, MOT_STATUS_K]

theorem axOn_mget (c : g.axisBut onFields) : (axOn a s).mget a g = s.mget a g := by
  obtain ⟨-, apart⟩ := c
  rw [axOn, mget_mput_clears _ (apart _ (by decide)), axGo_mget _ (apart _ (by decide)), coilsOn,
    mget_mput_clears _ (apart _ (by decide)), setAxis_mget]

theorem axOn_shows : axState (axOn a s) a = 1 ∧ (axOn a s).axis a = { s.axis a with cmd := 0 } := by
  refine ⟨?_, by simp [axOn, coilsOn]⟩
  rw [axOn, axState, mget_mput_clears _ (by decide)]
  exact axGo_state (by decide)

/-- The position through any end of a drain. -/
theorem axOff_pos (res : Nat) : axPos (axOff a res s) a = axPos s a := by
  by_cases again : (s.axis a).again = true
  · have eq : axOff a res s = axOn a ((axShow a (((((axGo a 0 (s.setAxis a (s.axis a).stopped)).mput a MOT_STATUS_HOMED 0).mput a
        MOT_STATUS_DRAIN_RESULT res)).mraise a MOT_EVENT_DRAIN_DONE)).mput a MOT_CTRL_EN 1) := by
      rw [axOff, again]
      rfl
    rw [eq, axPos, axOn_mget (by decide), mget_mput_clears _ (by decide), axShow_mget (by decide),
      mget_mraise_clears (by decide) (by decide), mget_mput_clears _ (by decide), mget_mput_clears _ (by decide), axGo_mget _ (by decide),
      setAxis_mget]
    rfl
  · rw [axPos, axOff_mget (Bool.eq_false_iff.mpr again) _ (by decide)]
    rfl

/-- The record of an axis at rest. -/
def AxX.resting (x : AxX) : AxX := { x with v := 0, vj := 0, ramp := false, homing := 0 }

theorem axRest_of_runs (runs : axState s a ≠ 6) : axRest a s = axShow a (resFollow a (axGo a 1 (s.setAxis a (s.axis a).resting))) :=
  if_neg runs

theorem axRest_pos : axPos (axRest a s) a = axPos s a := by
  by_cases drains : axState s a = 6
  · rw [axRest]
    exact (congrArg (axPos · a) (if_pos drains)).trans (axOff_pos _)
  · rw [axRest_of_runs drains, axPos, axShow_mget (by decide), resFollow_mget (by decide), axGo_mget _ (by decide), setAxis_mget]
    rfl

theorem axRest_shows (runs : axState s a ≠ 6) : axState (axRest a s) a = 1 ∧ (axRest a s).axis a = (s.axis a).resting := by
  rw [axRest_of_runs runs]
  refine ⟨?_, by simp⟩
  rw [axState, axShow_mget (by decide), resFollow_mget (by decide)]
  exact axGo_state (by decide)

end

end Sys2Proof.Machine
end

section
/-! PROOFS. Pushes of moves and the writes of MOT_CTRL (R226, R228, R235, R236, R237, R239, R240). -/

namespace Sys2Proof.Machine

section
variable {s : State} {a : Nat} {g : Fld} {v : Word}

/-! ### What a write of an axis's word stores -/

/-- A write of a word of an axis as it is stored, before the axis acts on it. -/
def motStored (s : State) (a w : Nat) (v : Word) : State :=
  stored BLK_MOT (motOpen s (a / 4) (a % 4) w) (a / 4) (a % 4) w v s

theorem motWrite_eq (ok : axisOk a = true) (w : Nat) (v : Word) :
    motWrite a w v s = motAct (hostCtx s BLK_MOT (a / 4) (a % 4) w v) (motStored s a w v) := if_pos ok

@[simp] theorem motStored_axes (w : Nat) : (motStored s a w v).axes = s.axes := by
  rw [motStored, stored_shape]

@[simp] theorem motStored_axis (w b : Nat) : (motStored s a w v).axis b = s.axis b := State.axis_congr (motStored_axes w) b

theorem motStored_mget {w : Nat} (off : w < 2048 ∧ g.word < 2048 ∧ g.word ≠ w) : (motStored s a w v).mget a g = s.mget a g :=
  stored_fget_off off

/-- The fields of a word of MOT are the same for every axis. -/
theorem motFields (w : Nat) (a : Nat) : wordFields BLK_MOT (a % 4) w = wordFields BLK_MOT 0 w := rfl

theorem motStored_en : (motStored s a 0 v).mon a MOT_CTRL_EN = v.getLsbD 0 :=
  stored_fon (f := MOT_CTRL_EN) (d := ⟨0, 1, .rw, 0, true, false⟩) rfl (by rw [motFields]; decide) rfl ⟨by decide, by decide⟩

/-- A bit written to MOT_CTRL or MOT_Q_PUSH as the axis sees it. -/
theorem motCtx_wrote {f : Fld} (blk : f.blk = BLK_MOT) (one : f.len = 1)
    (reach : (reachMask (wordFields BLK_MOT 0 f.word) false).getLsbD f.lo = true) :
    (hostCtx s BLK_MOT (a / 4) (a % 4) f.word v).wrote f = 1 ↔ v.getLsbD f.lo = true := by
  rw [← blk]
  exact hostCtx_wrote_one one (by rw [blk, motFields, reach])

theorem motCtx_axis (w : Nat) : 4 * (hostCtx s BLK_MOT (a / 4) (a % 4) w v).h + (hostCtx s BLK_MOT (a / 4) (a % 4) w v).i = a :=
  axisHearth a

/-- What a write of MOT_CTRL makes of EN (R240). -/
def motSwitched (s : State) (a : Nat) (v : Word) : State :=
  let t := motStored s a 0 v
  if s.mon a MOT_CTRL_EN = false ∧ v.getLsbD 0 = true then
    if axState t a = 6 then (t.mput a MOT_CTRL_EN 0).setAxis a { t.axis a with again := true } else axOn a t
  else if s.mon a MOT_CTRL_EN = true ∧ v.getLsbD 0 = false then motDisable a t
  else t

theorem motEnabled_eq : motEnabled (hostCtx s BLK_MOT (a / 4) (a % 4) 0 v) (motStored s a 0 v) = motSwitched s a v := by
  have rose : (hostCtx s BLK_MOT (a / 4) (a % 4) 0 v).rose (motStored s a 0 v) MOT_CTRL_EN = true ↔
      s.mon a MOT_CTRL_EN = false ∧ v.getLsbD 0 = true := by
    have e := hostCtx_rose s (motStored s a 0 v) (a / 4) (a % 4) MOT_CTRL_EN v
    rw [e, ← motStored_en (s := s) (a := a), Bool.and_eq_true, Bool.not_eq_true', and_comm]
    rfl
  have fell : (hostCtx s BLK_MOT (a / 4) (a % 4) 0 v).fell (motStored s a 0 v) MOT_CTRL_EN = true ↔
      s.mon a MOT_CTRL_EN = true ∧ v.getLsbD 0 = false := by
    have e := hostCtx_fell s (motStored s a 0 v) (a / 4) (a % 4) MOT_CTRL_EN v
    rw [e, ← motStored_en (s := s) (a := a), Bool.and_eq_true, Bool.not_eq_true']
    rfl
  rw [motEnabled, motSwitched]
  dsimp only
  rw [motCtx_axis]
  exact if_congr rose rfl (if_congr fell rfl rfl)

theorem motAct_ctrl {c : WriteCtx} (w : c.w = 0) (t : State) : motAct c t =
    if c.wrote MOT_CTRL_FORCE_OFF = 1 then motForce (4 * c.h + c.i) (t.mput (4 * c.h + c.i) MOT_CTRL_EN 0)
    else motOrdered c (motEnabled c t) := by
  simp [motAct_eq, w]

theorem motAct_push {c : WriteCtx} (w : c.w = MOT_Q_PUSH.word) (absolute : c.wrote MOT_Q_PUSH_KIND ≠ 1) (t : State) : motAct c t =
    (queuePush (4 * c.h + c.i) (toS 32 (t.mget (4 * c.h + c.i) MOT_Q_TARGET)) (t.mget (4 * c.h + c.i) MOT_Q_VMAX)
      (c.wrote MOT_Q_PUSH_BLEND == 1) none t).1 := by
  simp [motAct_eq, w, absolute]

/-- A write of MOT_CTRL acts by FORCE_OFF, else by what it makes of EN and then by STOP, CLR and HOME. -/
theorem motWrite_ctrl (ok : axisOk a = true) (v : Word) : motWrite a 0 v s =
    if v.getLsbD 1 = true then motForce a ((motStored s a 0 v).mput a MOT_CTRL_EN 0)
    else
      let t := motSwitched s a v
      let t := if v.getLsbD 2 = true then stopWrite a t else t
      let t := if v.getLsbD 4 = true then clrWrite a t else t
      if v.getLsbD 3 = true then homeWrite a t else t := by
  have off : (hostCtx s BLK_MOT (a / 4) (a % 4) 0 v).wrote MOT_CTRL_FORCE_OFF = 1 ↔ v.getLsbD 1 = true :=
    motCtx_wrote (f := MOT_CTRL_FORCE_OFF) rfl rfl (by decide)
  have stop : (hostCtx s BLK_MOT (a / 4) (a % 4) 0 v).wrote MOT_CTRL_STOP = 1 ↔ v.getLsbD 2 = true :=
    motCtx_wrote (f := MOT_CTRL_STOP) rfl rfl (by decide)
  have clr : (hostCtx s BLK_MOT (a / 4) (a % 4) 0 v).wrote MOT_CTRL_CLR = 1 ↔ v.getLsbD 4 = true :=
    motCtx_wrote (f := MOT_CTRL_CLR) rfl rfl (by decide)
  have home : (hostCtx s BLK_MOT (a / 4) (a % 4) 0 v).wrote MOT_CTRL_HOME = 1 ↔ v.getLsbD 3 = true :=
    motCtx_wrote (f := MOT_CTRL_HOME) rfl rfl (by decide)
  rw [motWrite_eq ok, motAct_ctrl rfl, motEnabled_eq, motOrdered]
  dsimp only
  rw [motCtx_axis]
  simp only [off, stop, clr, home]

/-! ### The rows of MOT_CTRL -/

/-- A bit of MOT_CTRL written alone leaves EN as it stands. -/
theorem ctrlWith_en {b : Nat} (n : 0 ≠ b) : (ctrlWith s a b).getLsbD 0 = s.mon a MOT_CTRL_EN := by
  rw [ctrlWith, pulse_other (by decide) n (by show (actMask BLK_MOT 0 0).getLsbD 0 = false; decide), State.mon, State.fon_bit rfl]

theorem ctrlWith_same {b : Nat} (lt : b < 32) : (ctrlWith s a b).getLsbD b = true := pulse_same lt

/-- The other orders of MOT_CTRL are written 0 with it. -/
theorem ctrlWith_other {b k : Nat} (n : k ≠ b) (order : 1 ≤ k ∧ k ≤ 4) : (ctrlWith s a b).getLsbD k = false := by
  refine pulse_acting (by omega) n ?_
  show (actMask BLK_MOT 0 0).getLsbD k = true
  obtain rfl | rfl | rfl | rfl : k = 1 ∨ k = 2 ∨ k = 3 ∨ k = 4 := by omega
  all_goals decide

/-- A write that leaves EN switches nothing. -/
theorem motSwitched_of_same (same : v.getLsbD 0 = s.mon a MOT_CTRL_EN) : motSwitched s a v = motStored s a 0 v := by
  unfold motSwitched
  rw [same]
  cases s.mon a MOT_CTRL_EN <;> rfl

theorem motForceRow_eq (ok : axisOk a = true) :
    motWrite a 0 (ctrlWith s a 1) s = motForce a ((motStored s a 0 (ctrlWith s a 1)).mput a MOT_CTRL_EN 0) :=
  (motWrite_ctrl ok _).trans (if_pos (ctrlWith_same (by decide)))

theorem motHomeRow_eq (ok : axisOk a = true) : motWrite a 0 (ctrlWith s a 3) s = homeWrite a (motStored s a 0 (ctrlWith s a 3)) := by
  rw [motWrite_ctrl ok, ctrlWith_other (by decide) (by decide), ctrlWith_other (by decide) (by decide),
    ctrlWith_other (by decide) (by decide), ctrlWith_same (by decide), motSwitched_of_same (ctrlWith_en (by decide))]
  rfl

theorem motStopRow_eq (ok : axisOk a = true) : motWrite a 0 (ctrlWith s a 2) s = stopWrite a (motStored s a 0 (ctrlWith s a 2)) := by
  rw [motWrite_ctrl ok, ctrlWith_other (k := 1) (by decide) (by decide), ctrlWith_other (k := 3) (by decide) (by decide),
    ctrlWith_other (k := 4) (by decide) (by decide), ctrlWith_same (by decide), motSwitched_of_same (ctrlWith_en (by decide))]
  rfl

theorem motClrRow_eq (ok : axisOk a = true) : motWrite a 0 (ctrlWith s a 4) s = clrWrite a (motStored s a 0 (ctrlWith s a 4)) := by
  rw [motWrite_ctrl ok, ctrlWith_other (k := 1) (by decide) (by decide), ctrlWith_other (k := 2) (by decide) (by decide),
    ctrlWith_other (k := 3) (by decide) (by decide), ctrlWith_same (by decide), motSwitched_of_same (ctrlWith_en (by decide))]
  rfl

/-- A write of EN with no order acts by EN alone. -/
theorem motWrite_calm (ok : axisOk a = true) (calm : ∀ k, 1 ≤ k ∧ k ≤ 4 → v.getLsbD k = false) :
    motWrite a 0 v s = motSwitched s a v := by
  rw [motWrite_ctrl ok, calm 1 (by decide), calm 2 (by decide), calm 3 (by decide), calm 4 (by decide)]
  rfl

/-- The five low bits of a word: EN and the orders. -/
theorem low_five {v w : Word} (e : v &&& 0x1F#32 = w) {k : Nat} (lt : k < 5) : v.getLsbD k = w.getLsbD k := by
  subst e
  have ones : (0x1F#32).getLsbD k = true := by
    obtain rfl | rfl | rfl | rfl | rfl : k = 0 ∨ k = 1 ∨ k = 2 ∨ k = 3 ∨ k = 4 := by omega
    all_goals decide
  rw [BitVec.getLsbD_and, ones, Bool.and_true]

/-! ### Pushes (R226, R228, R235) -/

/-- The axis takes no move now: it is in a state that takes none, its queue is full, or a limit ahead is active. -/
def RefusesMove (s : State) (a : Nat) (target : Int) : Prop :=
  16 ≤ (s.axis a).queue.length ∨ axState s a = 0 ∨ axState s a = 4 ∨ axState s a = 5 ∨ axState s a = 6 ∨
    limitActive s a (sgn (target - queueEnd s a)) = true

theorem queuePush_refused {target : Int} (refuses : RefusesMove s a target) (vmax : Nat) (blend : Bool) :
    (queuePush a target vmax blend none s).1 = (s.mcount a MOT_Q_REFUSED 1).mraise a MOT_EVENT_Q_REFUSED :=
  congrArg Prod.fst (if_pos refuses)

/-- A velocity above the cap is counted and held to it (R226). -/
def clamped (a vmax : Nat) (s : State) : State :=
  if vCap s a / 2 ^ 16 < vmax then (s.mcount a MOT_CLAMP 1).mraise a MOT_EVENT_CLAMP else s

/-- The record with a move that joins the queue. -/
def AxX.queued (x : AxX) (m : Move) : AxX := { x with queue := x.queue ++ [m] }

theorem queuePush_taken {target : Int} (takes : ¬ RefusesMove s a target) (vmax : Nat) (blend : Bool) :
    (queuePush a target vmax blend none s).1 = axShow a (wake a ((clamped a vmax s).setAxis a
      (((clamped a vmax s).axis a).queued ⟨target, min (vCap s a / 2 ^ 16) vmax, blend, none, none⟩))) :=
  congrArg Prod.fst (if_neg takes)

@[simp] theorem clamped_axis (vmax b : Nat) : (clamped a vmax s).axis b = s.axis b := by
  unfold clamped
  split <;> simp

theorem wake_queue : ((wake a s).axis a).queue = (s.axis a).queue := by
  rw [wake_axis]
  split <;> rfl

theorem queuePush_taken_queue {target : Int} (takes : ¬ RefusesMove s a target) (vmax : Nat) (blend : Bool) :
    ((queuePush a target vmax blend none s).1.axis a).queue =
      (s.axis a).queue ++ [⟨target, min (vCap s a / 2 ^ 16) vmax, blend, none, none⟩] := by
  rw [queuePush_taken takes, axShow_axis, wake_queue, State.setAxis_same, clamped_axis]
  rfl

theorem queuePush_taken_depth {target : Int} (takes : ¬ RefusesMove s a target) (vmax : Nat) (blend : Bool) :
    (queuePush a target vmax blend none s).1.mget a MOT_STATUS_DEPTH =
      ((s.axis a).queue.length + 1) % 2 ^ MOT_STATUS_DEPTH.len := by
  rw [queuePush_taken takes, axShow_depth, wake_queue, State.setAxis_same, clamped_axis, AxX.queued, List.length_append]
  rfl

theorem queuePush_taken_clamps {target : Int} (takes : ¬ RefusesMove s a target) {vmax : Nat} (blend : Bool)
    (above : vCap s a / 2 ^ 16 < vmax) : (queuePush a target vmax blend none s).1.mon a MOT_EVENT_CLAMP = true := by
  rw [queuePush_taken takes, State.mon_eq, axShow_mget (by decide), wake_mget (by decide), setAxis_mget, ← State.mon_eq, clamped,
    if_pos above]
  exact mon_mraise_same rfl (by decide) (by decide)

theorem refused_shows : ((s.mcount a MOT_Q_REFUSED 1).mraise a MOT_EVENT_Q_REFUSED).mon a MOT_EVENT_Q_REFUSED = true ∧
    ((s.mcount a MOT_Q_REFUSED 1).mraise a MOT_EVENT_Q_REFUSED).mget a MOT_Q_REFUSED = satAdd32 (s.mget a MOT_Q_REFUSED) 1 := by
  refine ⟨mon_mraise_same rfl (by decide) (by decide), ?_⟩
  rw [mget_mraise_clears (by decide) (by decide), mget_mcount_same _ (by decide)]

/-! A stored write of MOT_Q_PUSH leaves all that a push looks at. -/

theorem motStored_queueEnd {w : Nat} (off : w < 2048 ∧ MOT_POS.word ≠ w) : queueEnd (motStored s a w v) a = queueEnd s a := by
  have pos : axPos (motStored s a w v) a = axPos s a := congrArg (toS 32) (motStored_mget ⟨off.1, by decide, off.2⟩)
  rw [queueEnd, queueEnd, motStored_axis, pos]

theorem motStored_limitActive {w : Nat} (off : w < 2048 ∧ MOT_CFG_LIM_POL.word ≠ w) (d : Int) :
    limitActive (motStored s a w v) a d = limitActive s a d := by
  rw [limitActive, limitActive, motStored_axis, State.mon_eq, motStored_mget ⟨off.1, by decide, off.2⟩, State.mon_eq]

theorem motStored_state {w : Nat} (off : w < 2048 ∧ MOT_STATUS_STATE.word ≠ w) : axState (motStored s a w v) a = axState s a :=
  motStored_mget ⟨off.1, by decide, off.2⟩

theorem motStored_vCap {w : Nat} (off : w < 2048 ∧ MOT_CFG.word ≠ w) : vCap (motStored s a w v) a = vCap s a := by
  have config (f : Fld) (cfg : f.word = MOT_CFG.word) : (motStored s a w v).mget a f = s.mget a f :=
    motStored_mget ⟨off.1, by rw [cfg]; decide, by rw [cfg]; exact off.2⟩
  rw [vCap, vCap, stepK, stepK, State.mon_eq, config MOT_CFG_OUT rfl, config MOT_CFG_RES rfl, State.mon_eq]

theorem motStored_refuses (target : Int) : RefusesMove (motStored s a MOT_Q_PUSH.word v) a target ↔ RefusesMove s a target := by
  rw [RefusesMove, RefusesMove, motStored_axis, motStored_state (by decide), motStored_queueEnd (by decide),
    motStored_limitActive (by decide)]

/-- A write of MOT_Q_PUSH with KIND 0 pushes the target as it stands. -/
theorem motQPush_eq (ok : axisOk a = true) (kind : bits v.toNat MOT_Q_PUSH_KIND.lo 1 = 0) : motWrite a MOT_Q_PUSH.word v s =
    (queuePush a (toS 32 (s.mget a MOT_Q_TARGET)) (s.mget a MOT_Q_VMAX) (bits v.toNat MOT_Q_PUSH_BLEND.lo MOT_Q_PUSH_BLEND.len == 1) none
      (motStored s a MOT_Q_PUSH.word v)).1 := by
  have kind0 : ¬ (hostCtx s BLK_MOT (a / 4) (a % 4) MOT_Q_PUSH.word v).wrote MOT_Q_PUSH_KIND = 1 := by
    rw [motCtx_wrote (f := MOT_Q_PUSH_KIND) rfl rfl (by decide), bits_one_eq_zero.mp kind]
    decide
  have blend : (hostCtx s BLK_MOT (a / 4) (a % 4) MOT_Q_PUSH.word v).wrote MOT_Q_PUSH_BLEND =
      bits v.toNat MOT_Q_PUSH_BLEND.lo MOT_Q_PUSH_BLEND.len :=
    hostCtx_wrote (f := MOT_Q_PUSH_BLEND) fun k lt => by
      obtain rfl : k = 0 := by simpa using lt
      rw [motFields]
      decide
  rw [motWrite_eq ok, motAct_push rfl kind0, motCtx_axis, blend, motStored_mget (by decide), motStored_mget (by decide)]

/-! ### Orders of MOT_CTRL (R236, R237, R239, R240) -/

theorem homeWrite_refused (no : axState s a ≠ 1 ∨ (s.axis a).queue ≠ []) :
    homeWrite a s = (s.mcount a MOT_Q_REFUSED 1).mraise a MOT_EVENT_Q_REFUSED := if_pos (no.imp_right fun some => by simpa using some)

/-- Homing sets out from rest, in the direction of MOT_HOME (R237). -/
theorem homeWrite_starts (idle : axState s a = 1) (none : (s.axis a).queue = []) (open' : homeActive s a = false)
    (free : limitActive s a (if s.mon a MOT_HOME_DIR then 1 else -1) = false) :
    axState (homeWrite a s) a = 4 ∧ ((homeWrite a s).axis a).homing = 1 ∧ (homeWrite a s).mon a MOT_STATUS_HOMED = false ∧
    ((homeWrite a s).axis a).dirn = if s.mon a MOT_HOME_DIR then 1 else -1 := by
  let woken := wake a (s.mput a MOT_STATUS_HOMED 0)
  have refuses : ¬ (axState s a ≠ 1 ∨ (!(s.axis a).queue.isEmpty) = true) := by simp [idle, none]
  have dir : (s.mput a MOT_STATUS_HOMED 0).mon a MOT_HOME_DIR = s.mon a MOT_HOME_DIR :=
    congrArg (· != 0) (mget_mput_clears (g := MOT_HOME_DIR) _ (by decide))
  have home : homeActive (s.mput a MOT_STATUS_HOMED 0) a = homeActive s a := by
    rw [homeActive, homeActive, mput_axis, State.mon_eq, mget_mput_clears _ (by decide), State.mon_eq]
  let d : Int := if s.mon a MOT_HOME_DIR then 1 else -1
  let set := axGo a 4 (woken.setAxis a { woken.axis a with
    homing := 1, dirn := d, v := 0, aCur := woken.mget a MOT_ACC, dCur := woken.mget a MOT_DEC })
  have limit : limitActive set a d = limitActive s a d := by
    have pol : set.mon a MOT_CFG_LIM_POL = s.mon a MOT_CFG_LIM_POL := by
      rw [State.mon_eq, axGo_mget _ (by decide), setAxis_mget, wake_mget (by decide), mget_mput_clears _ (by decide), State.mon_eq]
    have axis : (set.axis a).limp = (s.axis a).limp ∧ (set.axis a).limn = (s.axis a).limn := by
      rw [axGo_axis, State.setAxis_same]
      show ((woken.axis a).limp = _ ∧ (woken.axis a).limn = _)
      rw [wake_axis, mput_axis]
      split <;> exact ⟨rfl, rfl⟩
    rw [limitActive, limitActive, pol, axis.1, axis.2]
  have eq : homeWrite a s = set := by
    unfold homeWrite
    dsimp only
    rw [if_neg refuses, home, open', if_neg Bool.false_ne_true, dir]
    exact if_neg (by rw [limit, free]; decide)
  rw [eq]
  refine ⟨axGo_state (by decide), ?_, ?_, ?_⟩
  · rw [axGo_axis, State.setAxis_same]
  · rw [State.mon_eq, axGo_mget _ (by decide), setAxis_mget, wake_mget (by decide), mget_mput_same _ (by decide)]
    rfl
  · rw [axGo_axis, State.setAxis_same]

/-- The record of an axis that STOP ramps to rest. -/
def AxX.stopping (x : AxX) : AxX := { x with queue := [], ramp := true, homing := 0, vj := 0 }

theorem stopWrite_of_moves (moves : axState s a = 2 ∨ axState s a = 4) : stopWrite a s =
    axShow a (axGo a 3 (discard a (s.axis a).queue (s.setAxis a (s.axis a).stopping))) := if_pos moves

theorem stopWrite_shows (moves : axState s a = 2 ∨ axState s a = 4) :
    axState (stopWrite a s) a = 3 ∧ (stopWrite a s).axis a = (s.axis a).stopping ∧ ((s.axis a).queue ≠ [] →
      (stopWrite a s).mget a MOT_ABORTED = satAdd32 (s.mget a MOT_ABORTED) (s.axis a).queue.length) := by
  rw [stopWrite_of_moves moves]
  refine ⟨?_, by simp, fun some => ?_⟩
  · rw [axState, axShow_mget (by decide)]
    exact axGo_state (by decide)
  · rw [axShow_mget (by decide), axGo_mget _ (by decide), discard_aborted some, setAxis_mget]

theorem clrWrite_shows : (clrWrite a s).axes = s.axes ∧ axState (clrWrite a s) a = if axState s a = 5 then 1 else axState s a := by
  unfold clrWrite
  split
  · exact ⟨axGo_axes 1, axGo_state (by decide)⟩
  · exact ⟨rfl, rfl⟩

theorem motForce_eq (s : State) (a : Nat) : motForce a s = axOff a 4 (discard a ((s.axis a).cur.toList ++ (s.axis a).queue)
    (s.setAxis a { s.axis a with again := false, queue := [], cur := none })) := rfl

/-- FORCE_OFF takes the axis OFF at once, where it stands (R240). -/
theorem motForce_shows : axState (motForce a s) a = 0 ∧ (motForce a s).mget a MOT_STATUS_DRAIN_RESULT = 4 ∧
    (motForce a s).mon a MOT_CTRL_EN = s.mon a MOT_CTRL_EN ∧ (motForce a s).axis a = { s.axis a with again := false }.stopped ∧
    axPos (motForce a s) a = axPos s a := by
  rw [motForce_eq]
  have once : ((discard a ((s.axis a).cur.toList ++ (s.axis a).queue)
      (s.setAxis a { s.axis a with again := false, queue := [], cur := none })).axis a).again = false := by simp
  obtain ⟨state, result, -, -, axis⟩ := axOff_shows once (res := 4) (by decide)
  refine ⟨state, result, ?_, ?_, ?_⟩
  · rw [State.mon_eq, axOff_mget once _ (by decide), discard_mget (by decide) (by decide), setAxis_mget, State.mon_eq]
  · rw [axis, discard_axis, State.setAxis_same]
    rfl
  · rw [axOff_pos, axPos, discard_mget (by decide) (by decide), setAxis_mget, axPos]

/-- EN written 0 with a move in progress starts a drain: the move runs on, the queue is discarded (R240). -/
theorem motDisable_drains (on : axState s a ≠ 0) (runs : (s.axis a).cur.isSome = true) : axState (motDisable a s) a = 6 ∧
    (motDisable a s).axis a = { s.axis a with queue := [], lost := !(s.axis a).queue.isEmpty } := by
  have eq : motDisable a s = axShow a (axGo a 6 (discard a (s.axis a).queue
      (s.setAxis a { s.axis a with queue := [], lost := !(s.axis a).queue.isEmpty }))) :=
    (if_neg on).trans (if_pos (.inl runs))
  rw [eq]
  refine ⟨?_, by simp⟩
  rw [axState, axShow_mget (by decide)]
  exact axGo_state (by decide)

/-- EN written 0 at rest: OFF at once, DRAINED (R240). -/
theorem motDisable_rests (on : axState s a ≠ 0) (rests : (s.axis a).cur = none ∧ (s.axis a).homing = 0 ∧ (s.axis a).ramp = false)
    (none : (s.axis a).queue = []) : motDisable a s = axOff a 3 (s.setAxis a { s.axis a with queue := [], lost := false }) := by
  obtain ⟨cur, homing, ramp⟩ := rests
  unfold motDisable
  dsimp only
  rw [if_neg on, if_neg (by simp [cur, homing, ramp]), none]
  rfl

end

/-- Settles O45: a push acts by what the axis takes; a write of MOT_CTRL acts by FORCE_OFF, EN and the orders, each on the stored
word. -/
theorem moveQueueAndAxisControl : Obligations.MoveQueueAndAxisControl := by
  refine ⟨fun s a v ok kind => ⟨fun low high room free => ?takes, fun no => ?refuses⟩, fun s a ok => ⟨fun idle none open' free => ?home,
    fun no => ?homeRefused, fun moves => ?stop, ?clr, fun v off was low => ?rise, fun v idle was low cur homing ramp none once => ?fall,
    fun v moves was low cur => ?drain, fun drains => ?timeout, ?force⟩⟩
  case takes =>
    have takes : ¬ RefusesMove (motStored s a MOT_Q_PUSH.word v) a (toS 32 (s.mget a MOT_Q_TARGET)) := by
      rw [motStored_refuses, RefusesMove, free]
      simp only [Bool.false_eq_true, or_false]
      omega
    have queue := queuePush_taken_queue takes (s.mget a MOT_Q_VMAX) (bits v.toNat MOT_Q_PUSH_BLEND.lo MOT_Q_PUSH_BLEND.len == 1)
    have depth := queuePush_taken_depth takes (s.mget a MOT_Q_VMAX) (bits v.toNat MOT_Q_PUSH_BLEND.lo MOT_Q_PUSH_BLEND.len == 1)
    rw [motStored_axis] at queue depth
    rw [motStored_vCap (by decide)] at queue
    refine ⟨_, congrArg settled (motQPush_eq ok kind), queue, depth, fun above => queuePush_taken_clamps takes _ ?_⟩
    rwa [motStored_vCap (by decide)]
  case refuses =>
    have refuses : RefusesMove (motStored s a MOT_Q_PUSH.word v) a (toS 32 (s.mget a MOT_Q_TARGET)) := by
      rw [motStored_refuses, RefusesMove]
      tauto
    obtain ⟨event, count⟩ := refused_shows (s := motStored s a MOT_Q_PUSH.word v) (a := a)
    rw [motStored_mget (by decide)] at count
    refine ⟨_, congrArg settled ((motQPush_eq ok kind).trans (queuePush_refused refuses _ _)), ?_, event, count⟩
    rw [mraise_axis, mcount_axis, motStored_axis]
  case home =>
    let t := motStored s a 0 (ctrlWith s a 3)
    have dir : t.mon a MOT_HOME_DIR = s.mon a MOT_HOME_DIR := congrArg (· != 0) (motStored_mget (by decide))
    have away : homeActive t a = false := by
      rw [homeActive, motStored_axis, State.mon_eq, motStored_mget (by decide)]
      exact open'
    have starts := homeWrite_starts (s := t) (a := a) ((motStored_state (by decide)).trans idle) (by rw [motStored_axis, none]) away
      (by rw [dir, motStored_limitActive (by decide), free])
    rw [dir] at starts
    exact ⟨_, congrArg settled (motHomeRow_eq ok), starts⟩
  case homeRefused =>
    have refused := homeWrite_refused (s := motStored s a 0 (ctrlWith s a 3)) (a := a)
      (by rwa [motStored_state (by decide), motStored_axis])
    refine ⟨_, congrArg settled ((motHomeRow_eq ok).trans refused), refused_shows.1, ?_, ?_⟩
    · rw [axState, mget_mraise_clears (by decide) (by decide), mget_mcount_clears _ (by decide)]
      exact motStored_state (by decide)
    · rw [mraise_axes, mcount_axes, motStored_axes]
  case stop =>
    obtain ⟨state, axis, aborted⟩ := stopWrite_shows (s := motStored s a 0 (ctrlWith s a 2)) (a := a)
      (by rwa [motStored_state (by decide)])
    rw [motStored_axis] at axis aborted
    rw [motStored_mget (by decide)] at aborted
    exact ⟨_, congrArg settled (motStopRow_eq ok), state, by rw [axis]; rfl, by rw [axis]; rfl, by rw [axis]; rfl, aborted⟩
  case clr =>
    obtain ⟨axes, state⟩ := clrWrite_shows (s := motStored s a 0 (ctrlWith s a 4)) (a := a)
    rw [motStored_state (by decide)] at state
    exact ⟨_, congrArg settled (motClrRow_eq ok), axes.trans (motStored_axes 0), state⟩
  case rise =>
    have calm (k : Nat) (order : 1 ≤ k ∧ k ≤ 4) : v.getLsbD k = false := by
      rw [low_five low (by omega)]
      obtain rfl | rfl | rfl | rfl : k = 1 ∨ k = 2 ∨ k = 3 ∨ k = 4 := by omega
      all_goals decide
    have en : v.getLsbD 0 = true := low_five low (by decide)
    have on : motSwitched s a v = axOn a (motStored s a 0 v) :=
      (if_pos ⟨was, en⟩).trans (if_neg (by rw [motStored_state (by decide), off]; decide))
    obtain ⟨state, axis⟩ := axOn_shows (s := motStored s a 0 v) (a := a)
    refine ⟨_, congrArg settled ((motWrite_calm ok calm).trans on), state, ?_, by rw [axis]⟩
    rw [State.mon_eq, axOn_mget (by decide), ← State.mon_eq, motStored_en, en]
  case fall =>
    have calm (k : Nat) (order : 1 ≤ k ∧ k ≤ 4) : v.getLsbD k = false := by
      rw [low_five low (by omega), BitVec.getLsbD_zero]
    have fell : motSwitched s a v = motDisable a (motStored s a 0 v) :=
      (if_neg fun rises => absurd (was.symm.trans rises.1) (by decide)).trans (if_pos ⟨was, low_five low (by decide)⟩)
    have off := motDisable_rests (s := motStored s a 0 v) (a := a) (by rw [motStored_state (by decide), idle]; decide)
      (by rw [motStored_axis]; exact ⟨cur, homing, ramp⟩) (by rw [motStored_axis, none])
    obtain ⟨state, result, done, homed, -⟩ := axOff_shows (a := a)
      (s := (motStored s a 0 v).setAxis a { (motStored s a 0 v).axis a with queue := [], lost := false })
      (by rw [State.setAxis_same, motStored_axis]; exact once) (res := 3) (by decide)
    exact ⟨_, congrArg settled ((motWrite_calm ok calm).trans (fell.trans off)), state, result, done, homed⟩
  case drain =>
    have calm (k : Nat) (order : 1 ≤ k ∧ k ≤ 4) : v.getLsbD k = false := by
      rw [low_five low (by omega), BitVec.getLsbD_zero]
    have fell : motSwitched s a v = motDisable a (motStored s a 0 v) :=
      (if_neg fun rises => absurd (was.symm.trans rises.1) (by decide)).trans (if_pos ⟨was, low_five low (by decide)⟩)
    obtain ⟨state, axis⟩ := motDisable_drains (s := motStored s a 0 v) (a := a) (by rw [motStored_state (by decide), moves]; decide)
      (by rw [motStored_axis, cur])
    rw [motStored_axis] at axis
    exact ⟨_, congrArg settled ((motWrite_calm ok calm).trans fell), state, by rw [axis], by rw [axis]⟩
  case timeout => exact congrArg settled (if_pos (by rw [ok, drains]; rfl))
  case force =>
    obtain ⟨state, result, en, axis, pos⟩ := motForce_shows (s := (motStored s a 0 (ctrlWith s a 1)).mput a MOT_CTRL_EN 0) (a := a)
    refine ⟨_, congrArg settled (motForceRow_eq ok), state, result, ?_, by rw [axis]; rfl, by rw [axis]; rfl, by rw [axis]; rfl, ?_⟩
    · rw [en, State.mon_eq, mget_mput_same _ (by decide)]
      rfl
    · rw [pos, axPos, mget_mput_clears _ (by decide), motStored_mget (by decide), axPos]

end Sys2Proof.Machine
end

section
/-! PROOFS. Steps, the profile, phase frames, standstill and switches of an axis (R227, R229, R233 to R237). -/

namespace Sys2Proof.Machine

section
variable {s : State} {a : Nat} {g : Fld}

/-! ### Steps (R227) -/

/-- No carry of the accumulator falls before the next profile tick. -/
abbrev AxX.carryLater (x : AxX) : Prop := x.v = 0 ∨ 1000 < x.clk + (2 ^ 48 - x.acc + x.v - 1) / x.v

theorem carryIn_moving {x : AxX} (moves : x.v ≠ 0) : carryIn x = some ((2 ^ 48 - x.acc + x.v - 1) / x.v) := if_neg moves

theorem carryIn_rest {x : AxX} (rest : x.v = 0) : carryIn x = none := if_pos rest

theorem axisStep_later (later : (s.axis a).carryLater) : axisStep a s = s := by
  unfold axisStep
  by_cases rest : (s.axis a).v = 0
  · simp only [carryIn_rest rest]
  · simp only [carryIn_moving rest]
    exact if_pos (later.resolve_left rest)

/-- The carries before a tick, where none is due. -/
theorem stepsDue_later (later : (s.axis a).carryLater) (n : Nat) : stepsDue a n s = s := by
  cases n with
  | zero => rfl
  | succ n =>
    unfold stepsDue
    by_cases rest : (s.axis a).v = 0
    · simp only [carryIn_rest rest]
    · simp only [carryIn_moving rest]
      exact if_pos (later.resolve_left rest)

/-- A carry before the tick is one step, with the accumulator and the clock moved on to it. -/
theorem axisStep_due (moves : (s.axis a).v ≠ 0)
    (due : (s.axis a).clk + (2 ^ 48 - (s.axis a).acc + (s.axis a).v - 1) / (s.axis a).v ≤ 1000) :
    ∃ acc clk, axisStep a s = stepOnce a (s.setAxis a { s.axis a with acc := acc, clk := clk }) := by
  unfold axisStep
  simp only [carryIn_moving moves]
  rw [if_neg (Nat.not_lt.mpr due)]
  exact ⟨_, _, rfl⟩

theorem moveDone_pos (m : Move) : axPos (moveDone a m s) a = axPos s a := by
  have ended : axPos (((feedEnd a true m s).mraise a MOT_EVENT_MOVE_DONE)) a = axPos s a := by
    rw [axPos, mget_mraise_clears (by decide) (by decide), feedEnd_mget (by decide) (by decide), axPos]
  unfold moveDone
  dsimp only
  split
  · rw [axPos, mget_mraise_clears (by decide) (by decide), setAxis_mget]
    exact ended
  · exact ended

theorem stepOutputs_pos (old new : Int) : axPos (stepOutputs a old new s) a = axPos s a := by
  unfold stepOutputs
  dsimp only
  split_ifs
  · exact congrArg (toS 32) (resFollow_mget (by decide))
  · rfl
  · exact congrArg (toS 32) (emit_mget _)

/-- Where a step leaves the axis. -/
def stepTarget (s : State) (a : Nat) : Int := toS 32 (ofS 32 (axPos s a + (s.axis a).dirn))

/-- A step moves the position by one microunit, whatever ends with it. -/
theorem stepOnce_pos : axPos (stepOnce a s) a = stepTarget s a := by
  let stepped := stepOutputs a (axPos s a) (stepTarget s a) (s.mput a MOT_POS (ofS 32 (stepTarget s a)))
  have there : axPos stepped a = stepTarget s a := by
    rw [stepOutputs_pos, axPos, mget_mput_same _ (by decide), Nat.mod_eq_of_lt (ofS_lt 32 _)]
    exact toS_ofS_toS 32 _
  show axPos (match (stepped.axis a).cur with
    | none => stepped
    | some m =>
      if stepTarget s a ≠ m.target then stepped
      else
        let t := moveDone a m stepped
        let x := t.axis a
        match x.queue with
        | m' :: rest =>
          if x.vj = 0 then axShow a (resFollow a (t.setAxis a { x with v := 0, cur := none }))
          else axShow a (t.setAxis a { x with cur := some m', queue := rest, aCur := t.mget a MOT_ACC, dCur := t.mget a MOT_DEC })
        | [] => axRest a (t.setAxis a { x with v := 0, cur := none, vj := 0 })) a = _
  cases (stepped.axis a).cur with
  | none => exact there
  | some m =>
    have done : axPos (moveDone a m stepped) a = stepTarget s a := (moveDone_pos m).trans there
    have shown (t : State) : axPos (axShow a t) a = axPos t a := congrArg (toS 32) (axShow_mget (by decide))
    have followed (t : State) : axPos (resFollow a t) a = axPos t a := congrArg (toS 32) (resFollow_mget (by decide))
    dsimp only
    split
    · exact there
    · split
      · split
        · rw [shown, followed, setAxis_axPos, done]
        · rw [shown, setAxis_axPos, done]
      · rw [axRest_pos, setAxis_axPos, done]

/-! ### The profile (R229, R239) -/

/-- The record at a profile tick: the accumulator goes on to it, and the clock starts again. -/
def AxX.ticked (x : AxX) : AxX := { x with acc := (x.acc + (1000 - x.clk) * x.v) % 2 ^ 48, clk := 0 }

theorem profileTickRow_later (ok : axisOk a = true) (later : (s.axis a).carryLater) :
    profileTickRow a s = profileTick a (s.setAxis a (s.axis a).ticked) := by
  unfold profileTickRow
  rw [if_pos ok]
  dsimp only
  rw [stepsDue_later later]
  rfl

theorem sgn_mul_self (x : Int) : x * sgn x = x.natAbs := by
  unfold sgn
  split_ifs <;> omega

/-- From rest a stop takes no distance (R229). -/
theorem stopping_from_rest (vj : Nat) {dd : Nat} (dec : dd ≠ 0) :
    1000 * (((0 : Nat) : Int) ^ 2 - (vj : Int) ^ 2) / ((2 * dd : Nat) : Int) + 1000 * ((0 : Nat) : Int) ≤ 0 := by
  have neg : 1000 * (((0 : Nat) : Int) ^ 2 - (vj : Int) ^ 2) ≤ 0 := by
    have := sq_nonneg (vj : Int)
    simp only [Nat.cast_zero]
    linarith
  have distance := Int.ediv_nonpos_of_nonpos_of_neg neg (Int.natCast_pos.mpr (show 0 < 2 * dd by omega))
  simpa only [Nat.cast_zero, mul_zero, add_zero] using distance

/-- From rest a move takes up the velocity of one tick, held to its own (R229). -/
theorem profileV_from_rest {x : AxX} {m : Move} {pos : Int} (rest : x.v = 0) (dec : x.dCur ≠ 0) (away : m.target ≠ pos) (o : Nat) :
    (profileV { x with dirn := sgn (m.target - pos) } m pos o).1 = min (m.vmax * 2 ^ 16) (x.aCur * 256) := by
  have ramps : x.dCur * 256 ≠ 0 := by omega
  have ahead : 0 < ((m.target - pos) * sgn (m.target - pos)).toNat * 2 ^ 48 := by
    rw [sgn_mul_self]
    exact Nat.mul_pos (by omega) (by decide)
  have far (vj : Nat) : ¬ ((((m.target - pos) * sgn (m.target - pos)).toNat * 2 ^ 48 : Nat) : Int) ≤
      1000 * (((0 : Nat) : Int) ^ 2 - (vj : Int) ^ 2) / ((2 * (x.dCur * 256) : Nat) : Int) + 1000 * ((0 : Nat) : Int) :=
    fun reached => absurd (Int.natCast_pos.mpr ahead) (not_lt.mpr (reached.trans (stopping_from_rest vj ramps)))
  unfold profileV
  dsimp only
  rw [rest, if_neg ramps, if_neg (far _), Nat.zero_add]

/-- The profile of a move in progress, with no stop in force. -/
theorem profileTick_moves {m : Move} (runs : axState s a = 2) (awake : (s.axis a).waking = false) (noRamp : (s.axis a).ramp = false)
    (noHoming : (s.axis a).homing = 0) (move : (s.axis a).cur = some m) (dec : (s.axis a).dCur ≠ 0) :
    profileTick a s =
      let x := { s.axis a with dirn := sgn (m.target - axPos s a) }
      axShow a (resFollow a (s.setAxis a
        { x with v := (profileV x m (axPos s a) 0).1, vj := (profileV x m (axPos s a) 0).2 })) := by
  have acts : ¬ (axState s a = 0 ∨ axState s a = 5 ∨ (s.axis a).waking = true) := by simp [runs, awake]
  unfold profileTick
  dsimp only
  simp only [if_neg acts, noRamp, noHoming, move, Option.isNone_some, Bool.false_eq_true, if_false, OfNat.zero_ne_ofNat, Nat.zero_ne_one,
    if_neg dec]

/-- The move in progress has ended short of its target. -/
def moveCut (a : Nat) (s : State) : State :=
  match (s.axis a).cur with
  | some m => feedEnd a false m s
  | none => s

theorem moveCut_mget (off : g.offLossBlk = true) (other : g.blk ≠ BLK_DRT) : (moveCut a s).mget a g = s.mget a g := by
  unfold moveCut
  split
  · exact feedEnd_mget off other false _
  · rfl

/-- What a profile tick of a stop does: the ramp, or the rest at its end. -/
theorem profileTick_ramps (runs : axState s a ≠ 0 ∧ axState s a ≠ 5) (awake : (s.axis a).waking = false) (ramp : (s.axis a).ramp = true) :
    profileTick a s =
      if rampDown (s.axis a).v ((s.axis a).dCur * 256) = 0 then
        axRest a ((moveCut a s).setAxis a { (moveCut a s).axis a with cur := none, v := 0 })
      else axShow a (resFollow a (s.setAxis a { s.axis a with v := rampDown (s.axis a).v ((s.axis a).dCur * 256) })) := by
  have acts : ¬ (axState s a = 0 ∨ axState s a = 5 ∨ (s.axis a).waking = true) := by simp [runs, awake]
  exact (if_neg acts).trans (if_pos ramp)

/-- The end of a stop: the move in progress has ended, and the axis rests in IDLE. -/
theorem profileTick_stops (runs : axState s a = 3) (awake : (s.axis a).waking = false) (ramp : (s.axis a).ramp = true)
    (last : (s.axis a).v ≤ (s.axis a).dCur * 256) :
    ((profileTick a s).axis a).v = 0 ∧ axPos (profileTick a s) a = axPos s a ∧ axState (profileTick a s) a = 1 := by
  have zero : rampDown (s.axis a).v ((s.axis a).dCur * 256) = 0 := if_neg (by omega)
  rw [profileTick_ramps (by omega) awake ramp, if_pos zero]
  have same : axPos (moveCut a s) a = axPos s a ∧ axState (moveCut a s) a = 3 := by
    rw [axPos, axState, moveCut_mget (by decide) (by decide), moveCut_mget (by decide) (by decide)]
    exact ⟨rfl, runs⟩
  obtain ⟨state, axis⟩ := axRest_shows (a := a) (s := (moveCut a s).setAxis a { (moveCut a s).axis a with cur := none, v := 0 })
    (by rw [setAxis_axState, same.2]; decide)
  refine ⟨by rw [axis]; rfl, ?_, state⟩
  rw [axRest_pos, setAxis_axPos, same.1]

/-! ### Phase frames (R233) -/

theorem crc6_lt (n : Nat) : ∀ x, crc6 x n < 64 := by
  induction n with
  | zero => exact fun x => by unfold crc6; decide
  | succ n ih =>
    intro x
    rw [crc6]
    exact Nat.xor_lt_two_pow (n := 6) (Nat.mod_lt _ (by decide)) (by split <;> decide)

/-- The fields of a frame, read back. -/
theorem phaseFrame_shows {cmd mode seq : Nat} (c : cmd < 4) (m : mode < 2) (n : seq < 8) (ia ib : Int) :
    bits (phaseFrame cmd mode seq ia ib) 36 4 = 0xA ∧ phaseFrame cmd mode seq ia ib < 2 ^ 40 ∧
    bits (phaseFrame cmd mode seq ia ib) 34 2 = cmd ∧ bits (phaseFrame cmd mode seq ia ib) 30 3 = seq ∧
    bits (phaseFrame cmd mode seq ia ib) 0 6 = crc6 (phaseFrame cmd mode seq ia ib / 64) 34 ∧
    bits (phaseFrame cmd mode seq ia ib) 6 24 = ofS 12 ia * 2 ^ 12 + ofS 12 ib := by
  have a12 := ofS_lt 12 ia
  have b12 := ofS_lt 12 ib
  have crc := crc6_lt 34 ((((0xA * 4 + cmd) * 2 + mode) * 8 + seq) * 2 ^ 24 + ofS 12 ia * 2 ^ 12 + ofS 12 ib)
  have top : phaseFrame cmd mode seq ia ib / 64 =
      (((0xA * 4 + cmd) * 2 + mode) * 8 + seq) * 2 ^ 24 + ofS 12 ia * 2 ^ 12 + ofS 12 ib := by
    rw [phaseFrame]
    omega
  rw [top]
  unfold phaseFrame bits
  simp only [Nat.shiftRight_eq_div_pow]
  norm_num at a12 b12 crc ⊢
  omega

/-- The switch of MOT_STATUS.STRONG before a frame (R233). -/
def strongShown (a : Nat) (s : State) : State :=
  if s.mget a MOT_MODE_THR * 2 ^ 16 ≤ (s.axis a).v then s.mput a MOT_STATUS_STRONG 1
  else if (s.axis a).v < (s.mget a MOT_MODE_THR - s.mget a MOT_MODE_HYST) * 2 ^ 16 then s.mput a MOT_STATUS_STRONG 0 else s

theorem strongShown_same : (strongShown a s).out = s.out ∧ (strongShown a s).axis a = s.axis a := by
  unfold strongShown
  split_ifs <;> exact ⟨rfl, rfl⟩

/-- A frame that carries a command other than 0 carries no currents. -/
theorem phaseFrameSent_eq (ok : axisOk a = true) (link : s.mon a MOT_CFG_OUT = true) : ∃ ia ib : Int,
    ((s.axis a).cmd ≠ 0 → ia = 0 ∧ ib = 0) ∧
    phaseFrameSent a s = ((strongShown a s).setAxis a { s.axis a with seq := ((s.axis a).seq + 1) % 8 }).emit
      (.phase a (phaseFrame (s.axis a).cmd (b2n ((strongShown a s).mon a MOT_STATUS_STRONG)) (s.axis a).seq ia ib)) := by
  have acts : (axisOk a && s.mon a MOT_CFG_OUT) = true := by rw [ok, link]; rfl
  unfold phaseFrameSent
  dsimp only
  rw [if_pos acts]
  by_cases hold : (s.axis a).cmd = 0
  · exact ⟨_, _, fun no => absurd hold no, rfl⟩
  · rw [if_neg hold]
    exact ⟨0, 0, fun _ => ⟨rfl, rfl⟩, rfl⟩

theorem b2n_lt (b : Bool) : b2n b < 2 := by cases b <;> decide

/-! ### Standstill and switches (R234 to R237) -/

/-- What the idle action makes of the coils, where it is not HOLD (R234). -/
theorem standstill_eq (ok : axisOk a = true) (rests : axState s a = 1 ∨ axState s a = 5) (still : (s.axis a).v = 0)
    (none : (s.axis a).queue = []) (held : (s.axis a).cmd = 0) (awake : (s.axis a).waking = false) : standstill a s =
    if s.mget a MOT_IDLE_ACT = 0 then s.mraise a MOT_EVENT_STANDSTILL
    else ((s.mraise a MOT_EVENT_STANDSTILL).setAxis a { s.axis a with
      cmd := if s.mget a MOT_IDLE_ACT = 2 ∧ (s.mraise a MOT_EVENT_STANDSTILL).mon a MOT_CFG_OUT = true then 2 else 1 }).mput a
        MOT_STATUS_UNHELD 1 := by
  have acts : (axisOk a && (axState s a == 1 || axState s a == 5) && (s.axis a).v == 0 && (s.axis a).queue.isEmpty &&
      (s.axis a).cmd == 0 && !(s.axis a).waking) = true := by
    rcases rests with e | e <;> simp [ok, e, still, none, held, awake]
  unfold standstill
  dsimp only
  rw [if_pos acts]

/-- A limit stops the axis at once, and every move is discarded (R236). -/
theorem limitStop_shows (runs : axState s a ≠ 6) (some : (s.axis a).cur.isSome = true) :
    axState (limitStop a s) a = 5 ∧ ((limitStop a s).axis a).v = 0 ∧ ((limitStop a s).axis a).cur = none ∧
    ((limitStop a s).axis a).queue = [] ∧ (limitStop a s).mon a MOT_EVENT_LIMIT = true ∧
    (limitStop a s).mget a MOT_ABORTED = satAdd32 (s.mget a MOT_ABORTED) ((s.axis a).queue.length + 1) ∧
    axPos (limitStop a s) a = axPos s a := by
  obtain ⟨m, cur⟩ := Option.isSome_iff_exists.mp some
  let moves := (s.axis a).cur.toList ++ (s.axis a).queue
  have discards : moves ≠ [] ∧ moves.length = (s.axis a).queue.length + 1 := by simp [moves, cur]
  let x : AxX := { s.axis a with v := 0, cur := none, queue := [], vj := 0, homing := 0, ramp := false }
  let ended := discard a moves (s.setAxis a x)
  let failed := if (s.axis a).homing = 0 then ended.mraise a MOT_EVENT_LIMIT
    else (ended.mraise a MOT_EVENT_LIMIT).mraise a MOT_EVENT_HOME_FAIL
  have kept {g : Fld} (c : g.axisBut [MOT_EVENT_LIMIT, MOT_EVENT_HOME_FAIL]) : failed.mget a g = ended.mget a g := by
    obtain ⟨b, apart⟩ := c
    show (ite _ _ _ : State).mget a g = _
    split
    · exact mget_mraise_clears (apart _ (by decide)) b
    · rw [mget_mraise_clears (apart _ (by decide)) b, mget_mraise_clears (apart _ (by decide)) b]
  have axis : failed.axis a = x := by
    show (ite _ _ _ : State).axis a = _
    split <;> simp [ended]
  have event : failed.mon a MOT_EVENT_LIMIT = true := by
    have on : (ended.mraise a MOT_EVENT_LIMIT).mon a MOT_EVENT_LIMIT = true := mon_mraise_same rfl (by decide) (by decide)
    show (ite _ _ _ : State).mon a MOT_EVENT_LIMIT = true
    split
    · exact on
    · exact mon_mraise_keeps rfl (by decide) on
  have state : axState failed a = axState s a := by
    rw [axState, kept (by decide), discard_mget (by decide) (by decide), setAxis_mget, axState]
  have eq : limitStop a s = axShow a (resFollow a (axGo a 5 failed)) := if_neg (by rwa [← state] at runs)
  have shown {g : Fld} (c : g.axisBut [MOT_STATUS_STATE, MOT_STATUS_K, MOT_VEL, MOT_STATUS_DEPTH]) :
      (limitStop a s).mget a g = failed.mget a g := by
    obtain ⟨b, apart⟩ := c
    rw [eq, axShow_mget ⟨b, fun f m => apart f (by simp [showFields] at m ⊢; tauto)⟩, resFollow_mget (apart _ (by decide)),
      axGo_mget _ (apart _ (by decide))]
  have stopped : (limitStop a s).axis a = x := by rw [eq, axShow_axis, resFollow_axis, axGo_axis, axis]
  refine ⟨?_, by rw [stopped], by rw [stopped], by rw [stopped], ?_, ?_, ?_⟩
  · rw [eq, axState, axShow_mget (by decide), resFollow_mget (by decide)]
    exact axGo_state (by decide)
  · rw [State.mon_eq, shown (by decide), ← State.mon_eq, event]
  · rw [shown (by decide), kept (by decide), discard_aborted discards.1, setAxis_mget, discards.2]
  · rw [axPos, shown (by decide), kept (by decide), discard_mget (by decide) (by decide), setAxis_mget, axPos]

/-- An edge of LIMP that makes the limit active ahead of the motion. -/
theorem limitEdge_ahead (level : (s.axis a).limp = s.mon a MOT_CFG_LIM_POL) (ahead : (s.axis a).dirn = 1)
    (moves : (s.axis a).cur.isSome = true) : limitEdge a 1 s = limitStop a s := by
  unfold limitEdge limitActive
  dsimp only
  rw [level, ahead, moves]
  simp

/-- An edge that leaves the limit inactive. -/
theorem limitEdge_behind (level : (s.axis a).limn ≠ s.mon a MOT_CFG_LIM_POL) : limitEdge a (-1) s = s := by
  have inactive : limitActive s a (-1) = false := by
    rw [limitActive]
    simp [level]
  unfold limitEdge
  dsimp only
  rw [inactive]
  rfl

theorem switchDebounceEnd_home (ok : axisOk a = true) {level : Bool} (edge : level ≠ (s.axis a).home) (e : Int) :
    switchDebounceEnd a 0 level e s = homeEdge a e (s.setAxis a { s.axis a with home := level }) := by
  simp [switchDebounceEnd, ok, edge]

theorem switchDebounceEnd_limn (ok : axisOk a = true) {level : Bool} (edge : level ≠ (s.axis a).limn) (e : Int) :
    switchDebounceEnd a 1 level e s = limitEdge a (-1) (s.setAxis a { s.axis a with limn := level }) := by
  simp [switchDebounceEnd, ok, edge]

theorem switchDebounceEnd_limp (ok : axisOk a = true) {level : Bool} (edge : level ≠ (s.axis a).limp) (e : Int) :
    switchDebounceEnd a 2 level e s = limitEdge a 1 (s.setAxis a { s.axis a with limp := level }) := by
  simp [switchDebounceEnd, ok, edge]

theorem homeEdge_sought (seeks : (s.axis a).homing = 1) (e : Int) :
    homeEdge a e s = (s.setAxis a { s.axis a with homing := 2 }).mput a MOT_LATCH (ofS 32 e) := if_pos seeks

end

/-- Settles O46: each row by its own operation, and the operation by the branch that the hypotheses choose. -/
theorem axisStepsStandstillAndSwitches : Obligations.AxisStepsStandstillAndSwitches := by
  refine ⟨fun s a ok => ⟨fun moves due => ?step, fun later => ?noStep, fun m runs move rest awake noRamp noHoming dec away => ?accelerates,
    fun runs awake ramp fast later => ?ramps, fun runs awake ramp last later => ?stops, fun link cmd seq => ?frame⟩,
    fun s a ok => ⟨fun rests still none held awake => ?standstill, ?wake, fun lv e edge level ahead moves runs => ?limit,
      fun lv e edge level => ?noLimit, fun lv e edge seeks => ?home⟩⟩
  case step =>
    obtain ⟨acc, clk, eq⟩ := axisStep_due moves due
    refine ⟨_, congrArg settled ((if_pos ok).trans eq), ?_⟩
    rw [stepOnce_pos, stepTarget, State.setAxis_same]
    rfl
  case noStep => exact congrArg settled ((if_pos ok).trans (axisStep_later later))
  case accelerates =>
    have eq := (profileTickRow_later ok (.inl rest)).trans (profileTick_moves (s := s.setAxis a (s.axis a).ticked) (m := m) runs
      (by rw [State.setAxis_same]; exact awake) (by rw [State.setAxis_same]; exact noRamp) (by rw [State.setAxis_same]; exact noHoming)
      (by rw [State.setAxis_same]; exact move) (by rw [State.setAxis_same]; exact dec))
    dsimp only at eq
    rw [State.setAxis_same, setAxis_axPos] at eq
    refine ⟨_, congrArg settled eq, ?_, ?_, ?_, ?_⟩
    · rw [axShow_axis, resFollow_axis, State.setAxis_same]
      exact profileV_from_rest (x := (s.axis a).ticked) rest dec away 0
    · rw [axShow_axis, resFollow_axis, State.setAxis_same]
      rfl
    · rw [axPos, axShow_mget (by decide), resFollow_mget (by decide)]
      rfl
    · rw [axShow_axis, resFollow_axis, State.setAxis_same]
      exact move
  case ramps =>
    have down : rampDown (s.axis a).v ((s.axis a).dCur * 256) = (s.axis a).v - (s.axis a).dCur * 256 := if_pos fast
    have eq := (profileTickRow_later ok (.inr later)).trans (profileTick_ramps (s := s.setAxis a (s.axis a).ticked)
      (by rw [setAxis_axState, runs]; decide) (by rw [State.setAxis_same]; exact awake) (by rw [State.setAxis_same]; exact ramp))
    rw [State.setAxis_same] at eq
    rw [if_neg (by show rampDown (s.axis a).v ((s.axis a).dCur * 256) ≠ 0; rw [down]; omega)] at eq
    refine ⟨_, congrArg settled eq, ?_, ?_, ?_⟩
    · rw [axShow_axis, resFollow_axis, State.setAxis_same]
      exact down
    · rw [axPos, axShow_mget (by decide), resFollow_mget (by decide)]
      rfl
    · rw [axState, axShow_mget (by decide), resFollow_mget (by decide)]
      exact runs
  case stops =>
    obtain ⟨rest, pos, state⟩ := profileTick_stops (s := s.setAxis a (s.axis a).ticked) (a := a) runs
      (by rw [State.setAxis_same]; exact awake) (by rw [State.setAxis_same]; exact ramp) (by rw [State.setAxis_same]; exact last)
    exact ⟨_, congrArg settled (profileTickRow_later ok later), rest, pos, state⟩
  case frame =>
    obtain ⟨ia, ib, currents, eq⟩ := phaseFrameSent_eq ok link
    obtain ⟨head, fits, command, number, crc, body⟩ :=
      phaseFrame_shows (ia := ia) (ib := ib) cmd (b2n_lt ((strongShown a s).mon a MOT_STATUS_STRONG)) seq
    refine ⟨_, _, congrArg settled eq, ?_, head, fits, command, number, crc, fun idle => ?_, ?_⟩
    · exact congrArg _ strongShown_same.1
    · obtain ⟨rfl, rfl⟩ := currents idle
      exact body
    · rw [emit_axis, State.setAxis_same]
  case standstill =>
    have eq := standstill_eq ok rests still none held awake
    have event : (s.mraise a MOT_EVENT_STANDSTILL).mon a MOT_EVENT_STANDSTILL = true := mon_mraise_same rfl (by decide) (by decide)
    have out : (s.mraise a MOT_EVENT_STANDSTILL).mon a MOT_CFG_OUT = s.mon a MOT_CFG_OUT :=
      congrArg (· != 0) (mget_mraise_clears (g := MOT_CFG_OUT) (by decide) (by decide))
    by_cases hold : s.mget a MOT_IDLE_ACT = 0
    · rw [if_pos hold] at eq
      refine ⟨_, congrArg settled eq, event, fun _ => ⟨?_, ?_⟩, fun other => absurd hold other⟩
      · rw [mraise_axis, held]
      · rw [mget_mraise_clears (by decide) (by decide)]
    · rw [if_neg hold] at eq
      refine ⟨_, congrArg settled eq, ?_, fun same => absurd same hold, fun _ => ⟨?_, ?_⟩⟩
      · rw [State.mon_eq, mget_mput_clears _ (by decide), setAxis_mget, ← State.mon_eq, event]
      · rw [State.mon_eq, mget_mput_same _ (by decide)]
        rfl
      · rw [mput_axis, State.setAxis_same, out]
  case wake => exact congrArg settled (if_pos ok)
  case limit =>
    have stop := limitStop_shows (a := a) (s := s.setAxis a { s.axis a with limp := lv }) runs (by rw [State.setAxis_same]; exact moves)
    rw [State.setAxis_same] at stop
    exact ⟨_, congrArg settled ((switchDebounceEnd_limp ok edge e).trans (limitEdge_ahead (by rw [State.setAxis_same]; exact level)
      (by rw [State.setAxis_same]; exact ahead) (by rw [State.setAxis_same]; exact moves))), stop⟩
  case noLimit =>
    exact congrArg settled ((switchDebounceEnd_limn ok edge e).trans (limitEdge_behind (by rw [State.setAxis_same]; exact level)))
  case home =>
    refine ⟨_, congrArg settled ((switchDebounceEnd_home ok edge e).trans (homeEdge_sought (by rw [State.setAxis_same]; exact seeks) e)),
      ?_, ?_, ?_⟩
    · rw [mput_axis, State.setAxis_same]
    · rw [mput_axis, State.setAxis_same, State.setAxis_same]
    · rw [mget_mput_same _ (by decide)]
      exact Nat.mod_eq_of_lt (ofS_lt 32 e)

end Sys2Proof.Machine
end

section
/-! PROOFS. Frames of composed operations: what an operation leaves outside the listed blocks, and what it leaves of a projection of the
records. -/

namespace Sys2Proof.Machine

/-- A register word outside the listed blocks (hearth, unit, block, word), the counters of lost event words left out. -/
abbrev OuterWord (bs : List Nat) : Type :=
  { k : Nat × Nat × Nat × Nat // k.2.1 < 16 ∧ k.2.2.1 < 256 ∧ k.2.2.2 < 2048 ∧ k.2.2.1 ∉ bs ∧ ¬ lossWord k.2.2.1 k.2.2.2 }

section
variable {α : Type} {e : State → α} {bs : List Nat}

/-- What a state shows outside the listed blocks: a projection of its records, and every register word of the other blocks. -/
def outside (e : State → α) (bs : List Nat) (s : State) : α × (OuterWord bs → Word) :=
  (e s, fun k => s.rd k.1.1 k.1.2.1 k.1.2.2.1 k.1.2.2.2)

/-- The projection does not see registers and Flue queues. -/
abbrev SeesNoRegs (e : State → α) : Prop := ∀ (s : State) r q, e { s with regs := r, flues := q } = e s

/-- The projection does not see the Draughts' records, or the pages. -/
abbrev SeesNoDraught (e : State → α) : Prop := ∀ s h x, e (State.setDrt s h x) = e s
abbrev SeesNoPage (e : State → α) : Prop := ∀ s h x, e (State.setBas s h x) = e s

/-- A field of a block. -/
abbrev Fld.within (f : Fld) (b : Nat) : Prop := f.blk = b ∧ f.word < 2048

variable {s t : State} {h i b : Nat} {f : Fld}

theorem outside_eq_iff : outside e bs t = outside e bs s ↔ e t = e s ∧ BlocksOnly bs s t := by
  refine ⟨fun same => ⟨congrArg Prod.fst same, fun h i b w hi hb hw out loss => ?_⟩, fun ⟨rest, words⟩ => ?_⟩
  · exact congrFun (congrArg Prod.snd same) ⟨(h, i, b, w), hi, hb, hw, out, loss⟩
  · exact Prod.ext rest (funext fun ⟨(h, i, b, w), hi, hb, hw, out, loss⟩ => words h i b w hi hb hw out loss)

theorem SeesNoRegs.same (unseen : SeesNoRegs e) (shape : RegsAndFlues s t) : e t = e s := (congrArg e shape).trans (unseen _ _ _)

/-- An update of records that the projection does not see. -/
theorem outside_records (rest : e t = e s) (regs : t.regs = s.regs) : outside e bs t = outside e bs s :=
  outside_eq_iff.mpr ⟨rest, fun _ _ _ _ _ _ _ _ _ => by unfold State.rd; rw [regs]⟩

section
variable (unseen : SeesNoRegs e) (mem : b ∈ bs) (lt : b < 256) (hi : i < 16)
include unseen

theorem outside_fwEvent (g code : Nat) : outside e bs (fwEvent g code s) = outside e bs s :=
  outside_eq_iff.mpr ⟨unseen.same (fwEvent_shape _ _ _), fun _ _ _ _ hi hb hw _ m => fwEvent_rd _ _ _ (noLoss_of hi hb hw m)⟩

include mem lt hi

/-- Within the instances of a listed block no key is one of another block. -/
theorem outside_wr {w : Nat} (v : Word) (hw : w < 2048) : outside e bs (s.wr h i b w v) = outside e bs s := by
  refine outside_eq_iff.mpr ⟨unseen _ _ _, fun h' i' b' w' hi' hb' hw' out _ => State.rd_wr_ne _ _ ?_⟩
  exact rkey_ne hi' hw' hb' hi hw lt fun ⟨_, _, eb, _⟩ => out (eb ▸ mem)

theorem outside_fput (v : Nat) (c : f.within b) : outside e bs (s.fput h i f v) = outside e bs s := by
  obtain ⟨rfl, hw⟩ := c
  exact outside_wr unseen mem lt hi _ hw

theorem outside_count (n : Nat) (c : f.within b) : outside e bs (s.count h i f n) = outside e bs s := outside_fput unseen mem lt hi _ c

theorem outside_raise (c : f.within b) : outside e bs (s.raise h i f) = outside e bs s := by
  obtain ⟨rfl, hw⟩ := c
  refine outside_eq_iff.mpr ⟨unseen.same (raise_shape _ _ _ _), fun h' i' b' w' hi' hb' hw' out m => ?_⟩
  exact raise_rd _ _ _ _ (noLoss_of hi' hb' hw' m) (rkey_ne hi' hw' hb' hi hw lt fun ⟨_, _, eb, _⟩ => out (eb ▸ mem))

end

theorem outside_forEach {β : Type} {f : β → State → State} (each : ∀ x s, outside e bs (f x s) = outside e bs s) (xs : List β)
    (s : State) : outside e bs (forEach xs f s) = outside e bs s :=
  forEach_keeps (P := fun t => outside e bs t = outside e bs s) (fun x t same => (each x t).trans same) xs s rfl

/-- What is the same outside reads the same. -/
theorem outside_fget (same : outside e bs t = outside e bs s) (hi : i < 16) (out : f.blk ∉ bs) (off : f.offLossBlk = true) :
    t.fget h i f = s.fget h i f := by
  obtain ⟨-, words⟩ := outside_eq_iff.mp same
  simp only [Fld.offLossBlk, Bool.and_eq_true, decide_eq_true_eq, bne_iff_ne] at off
  obtain ⟨⟨⟨hw, hb⟩, flu⟩, glb⟩ := off
  exact congrArg (bits ·.toNat f.lo f.len) (words h i _ _ hi hb hw out (not_or.mpr ⟨fun l => flu l.1, fun l => glb l.1⟩))

theorem outside_ite {p : Prop} [Decidable p] {u v : State} (yes : outside e bs u = outside e bs s) (no : outside e bs v = outside e bs s) :
    outside e bs (if p then u else v) = outside e bs s := by
  split <;> assumption

/-! ### Draughts that follow a channel (R176, R179) -/

/-- The mark of a page writes no register but the counters of lost event words. -/
theorem outside_markPage (unseen : SeesNoRegs e) (pages : SeesNoPage e) (pg why port : Nat) :
    outside e bs (markPage h pg why port s) = outside e bs s := by
  unfold markPage
  cases findPage s h pg with
  | none => rfl
  | some p => exact outside_ite rfl ((outside_fwEvent unseen _ _).trans (outside_records (pages _ _ _) rfl))

section
variable (unseen : SeesNoRegs e) (drafts : SeesNoDraught e) (mem : BLK_DRT ∈ bs)
include unseen mem

theorem outside_drtPut (v : Nat) (c : f.within BLK_DRT) : outside e bs (s.fput h 0 f v) = outside e bs s :=
  outside_fput unseen mem (by decide) (by decide) v c

theorem outside_drtRaise (c : f.within BLK_DRT) : outside e bs (s.raise h 0 f) = outside e bs s :=
  outside_raise unseen mem (by decide) (by decide) c

theorem outside_drtGo (st : Nat) : outside e bs (drtGo h st s) = outside e bs s :=
  (outside_drtPut unseen mem _ (by decide)).trans (outside_drtPut unseen mem _ (by decide))

include drafts

theorem outside_markFollow : outside e bs (markFollow h s) = outside e bs s := by
  have follows (x : DrtX) : outside e bs (s.setDrt h x) = outside e bs s := outside_records (drafts _ _ _) rfl
  unfold markFollow
  exact outside_ite rfl (outside_ite (follows _) (outside_ite rfl ((outside_drtPut unseen mem _ (by decide)).trans (follows _))))

/-- A count that has moved is seen by the Draughts that run on its channel alone. -/
theorem outside_countMoved (g c : Nat) : outside e bs (countMoved g c s) = outside e bs s :=
  outside_forEach (fun _ _ => outside_ite (outside_markFollow unseen drafts mem) rfl) _ _

variable (pages : SeesNoPage e)
include pages

omit drafts in
theorem outside_markReason (pg why port : Nat) : outside e bs (markReason h pg why port s) = outside e bs s := by
  unfold markReason
  cases findPage s h pg with
  | none => rfl
  | some p =>
    refine outside_ite rfl ?_
    rw [outside_drtRaise unseen mem (by decide), outside_drtPut unseen mem _ (by decide), outside_drtPut unseen mem _ (by decide),
      outside_drtPut unseen mem _ (by decide), outside_markPage unseen pages]

omit drafts in
theorem outside_markHearth (why : Nat) : outside e bs (markHearth h why s) = outside e bs s := by
  unfold markHearth
  cases firingPage s h with
  | none => rfl
  | some pg => exact outside_ite (outside_markReason unseen mem pages ..) rfl

theorem outside_drtHold : outside e bs (drtHold h s) = outside e bs s := by
  rw [drtHold, outside_markHearth unseen mem pages, outside_drtRaise unseen mem (by decide),
    outside_drtPut unseen mem _ (by decide), outside_drtGo unseen mem]
  exact outside_records (drafts _ _ _) rfl

/-- A fault of a channel holds the Draughts that run on it. -/
theorem outside_srcFault (g c : Nat) : outside e bs (srcFault g c s) = outside e bs s :=
  outside_forEach (fun _ _ => outside_ite (outside_drtHold unseen drafts mem pages) rfl) _ _

end
end

end Sys2Proof.Machine
end

section
/-! PROOFS. Quadrature channels: counting, index checks, causes (R216 to R221). -/

namespace Sys2Proof.Machine

section
variable {s : State} {h c : Nat} {f g : Fld}

/-! ### Fields and records of a channel -/

/-- A field of the feedback block that lies apart from the listed ones. -/
abbrev Fld.chanBut (g : Fld) (fs : List Fld) : Prop := g.blk = BLK_FBK ∧ g.offLossBlk = true ∧ ∀ f ∈ fs, g.clears f

theorem Fld.chanBut.mono {fs vs : List Fld} (b : g.chanBut fs) (sub : ∀ f ∈ vs, f ∈ fs) : g.chanBut vs :=
  ⟨b.1, b.2.1, fun f m => b.2.2 f (sub f m)⟩

theorem Fld.chanBut.off_drt (b : g.chanBut []) : g.blk ∉ [BLK_DRT] := by rw [b.1]; decide

theorem srcFault_fget (hc : c < 16) (b : g.chanBut []) (h' c' : Nat) : (srcFault h' c' s).fget h c g = s.fget h c g :=
  outside_fget (outside_srcFault (e := fun _ => ()) (fun _ _ _ => rfl) (fun _ _ _ => rfl) (List.mem_singleton_self _) (fun _ _ _ => rfl) h' c')
    hc b.off_drt b.2.1

theorem srcFault_quads (h' c' : Nat) : (srcFault h' c' s).quads = s.quads :=
  congrArg Prod.fst (outside_srcFault (e := State.quads) (fun _ _ _ => rfl) (fun _ _ _ => rfl)
    (List.mem_singleton_self _) (fun _ _ _ => rfl) h' c')

theorem countMoved_fget (hc : c < 16) (b : g.chanBut []) (h' c' : Nat) : (countMoved h' c' s).fget h c g = s.fget h c g :=
  outside_fget (outside_countMoved (e := fun _ => ()) (fun _ _ _ => rfl) (fun _ _ _ => rfl) (List.mem_singleton_self _) h' c')
    hc b.off_drt b.2.1

/-! ### Causes (R221) -/

/-- The fields that a cause writes. -/
def causeFields : List Fld := [FBK_STATUS_FAULT, FBK_STATUS_WHY, FBK_QEVENT_FAULT, FBK_QEVENT_CLR_REFUSED]

theorem unclear_fget (hc : c < 16) (b : g.chanBut [FBK_STATUS_WHY, FBK_QEVENT_CLR_REFUSED]) :
    (unclear h c s).fget h c g = s.fget h c g := by
  obtain ⟨-, off, apart⟩ := b
  unfold unclear
  dsimp only
  split
  · rfl
  · split
    · rw [raise_fget_clearsBlk hc (apart _ (by decide)) off, State.fget_fput_clears _ (apart _ (by decide)), State.setQuad_acc_fget]
    · rfl

theorem unclear_quad : (unclear h c s).quad h c = { s.quad h c with cleared := none } := by
  unfold unclear
  dsimp only
  split
  · next none => rw [← none]
  · split
    · rw [State.raise_acc_quad, State.fput_acc_quad, State.setQuad_same]
    · rw [State.setQuad_same]

theorem unclear_keeps_event (hc : c < 16) (one : g.sameEvents FBK_QEVENT_CLR_REFUSED = true) (apart : g.clears FBK_STATUS_WHY)
    (on : s.fon h c g = true) : (unclear h c s).fon h c g = true := by
  unfold unclear
  dsimp only
  split
  · exact on
  · split
    · refine raise_keeps_on _ _ _ _ _ hc rfl one ?_
      rw [State.fon_eq, State.fget_fput_clears _ apart]
      exact on
    · exact on

theorem raiseCause_fget (hc : c < 16) (b : g.chanBut causeFields) (k : Nat) : (raiseCause h c k s).fget h c g = s.fget h c g := by
  obtain ⟨-, off, apart⟩ := id b
  rw [raiseCause, srcFault_fget hc (b.mono (by decide)), raise_fget_clearsBlk hc (apart _ (by decide)) off,
    State.fget_fput_clears _ (apart _ (by decide)), State.fget_fput_clears _ (apart _ (by decide)),
    unclear_fget hc (b.mono (by decide))]

theorem raiseCause_quad (k : Nat) : (raiseCause h c k s).quad h c = { s.quad h c with cleared := none } := by
  rw [raiseCause, State.quad, srcFault_quads, ← State.quad, State.raise_acc_quad, State.fput_acc_quad, State.fput_acc_quad, unclear_quad]

theorem raiseCause_fault (hc : c < 16) (k : Nat) : (raiseCause h c k s).fon h c FBK_STATUS_FAULT = true := by
  rw [State.fon_eq, raiseCause, srcFault_fget hc (by decide), raise_fget_clearsBlk hc (by decide) (by decide),
    State.fget_fput_clears _ (by decide), State.fget_fput_same _ _ _ _ _ (by decide)]
  rfl

theorem raiseCause_why (hc : c < 16) {k : Nat} (lt : k < 7) : bit ((raiseCause h c k s).fget h c FBK_STATUS_WHY) k = true := by
  let u := (unclear h c s).fput h c FBK_STATUS_FAULT 1
  have same : u.fget h c FBK_STATUS_WHY = (unclear h c s).fget h c FBK_STATUS_WHY := State.fget_fput_clears _ (by decide)
  have joins : bit ((u.fput h c FBK_STATUS_WHY (u.fget h c FBK_STATUS_WHY ||| 2 ^ k)).fget h c FBK_STATUS_WHY) k = true :=
    bit_fget_join (by decide) lt h c
  rw [same] at joins
  rw [raiseCause, srcFault_fget hc (by decide), raise_fget_clearsBlk hc (by decide) (by decide), joins]

theorem raiseCause_keeps_event (hc : c < 16) (k : Nat) (event : g.sameEvents FBK_QEVENT_FAULT = true) (b : g.chanBut [])
    (refused : g.sameEvents FBK_QEVENT_CLR_REFUSED = true) (fault : g.clears FBK_STATUS_FAULT) (why : g.clears FBK_STATUS_WHY)
    (on : s.fon h c g = true) : (raiseCause h c k s).fon h c g = true := by
  rw [raiseCause, State.fon_eq, srcFault_fget hc b, ← State.fon_eq]
  refine raise_keeps_on _ _ _ _ _ hc rfl event ?_
  rw [State.fon_eq, State.fget_fput_clears _ why, State.fget_fput_clears _ fault]
  exact unclear_keeps_event hc refused why on

/-! ### Counting (R217) -/

/-- A step with no slew in progress and no index period moves the count alone. -/
theorem countStep_still (still : (s.quad h c).slewD = 0) (k : Int) :
    countStep h c k s = s.fput h c FBK_COUNT (ofS 32 (quadCount s h c + k)) := by
  unfold countStep
  simp [still]

theorem indexMissing_noPeriod (per : s.fget h c FBK_IDX_CFG_PER = 0) : indexMissing h c s = s := by
  unfold indexMissing
  exact if_neg fun checked => checked.1 per

/-- An enabled channel whose pair has moved `n` places (R217). -/
def quadMoved (h c n : Nat) (s : State) : State :=
  match n with
  | 0 => s
  | 1 => countMoved h c (indexMissing h c (countStep h c 1 s))
  | 3 => countMoved h c (indexMissing h c (countStep h c (-1) s))
  | _ => illegalStep h c s

theorem quadMoved_zero : quadMoved h c 0 s = s := rfl

theorem quadMoved_two : quadMoved h c 2 s = illegalStep h c s := rfl

/-- The fields that an illegal transition writes. -/
def illegalFields : List Fld := FBK_ILLEGAL :: FBK_QEVENT_ILLEGAL :: FBK_STATUS_CAUSE :: causeFields

theorem illegalStep_fget (hc : c < 16) (b : g.chanBut illegalFields) : (illegalStep h c s).fget h c g = s.fget h c g := by
  obtain ⟨-, off, apart⟩ := id b
  have counted (x : QuadX) : (causeShow h c (((s.setQuad h c x).count h c FBK_ILLEGAL).raise h c FBK_QEVENT_ILLEGAL)).fget h c g = s.fget h c g := by
    rw [causeShow, State.fget_fput_clears _ (apart _ (by decide)), raise_fget_clearsBlk hc (apart _ (by decide)) off, State.count_eq,
      State.fget_fput_clears _ (apart _ (by decide)), State.setQuad_acc_fget]
  unfold illegalStep
  dsimp only
  split
  · rw [raiseCause_fget hc (b.mono (by decide)), counted]
  · exact counted _

theorem illegalStep_shows (hc : c < 16) : (illegalStep h c s).fon h c FBK_QEVENT_ILLEGAL = true ∧
    (illegalStep h c s).fget h c FBK_ILLEGAL = satAdd32 (s.fget h c FBK_ILLEGAL) 1 := by
  let t := ((s.setQuad h c { s.quad h c with ills := s.now :: illRecent s h c }).count h c FBK_ILLEGAL).raise h c FBK_QEVENT_ILLEGAL
  have event : (causeShow h c t).fon h c FBK_QEVENT_ILLEGAL = true := by
    rw [causeShow, State.fon_eq, State.fget_fput_clears _ (by decide), ← State.fon_eq]
    exact raise_sets _ _ _ _ (by decide) (by decide) (Fld.offLossBlk_no hc (by decide))
  have counted : (causeShow h c t).fget h c FBK_ILLEGAL = satAdd32 (s.fget h c FBK_ILLEGAL) 1 := by
    rw [causeShow, State.fget_fput_clears _ (by decide), raise_fget_clearsBlk hc (by decide) (by decide), State.fget_count 1 (by decide),
      State.setQuad_acc_fget]
  unfold illegalStep
  dsimp only
  split
  · exact ⟨raiseCause_keeps_event hc 3 (by decide) (by decide) (by decide) (by decide) (by decide) event,
      (raiseCause_fget hc (by decide) 3).trans counted⟩
  · exact ⟨event, counted⟩

section
variable (hc : c < 16) (still : (s.quad h c).slewD = 0) (per : s.fget h c FBK_IDX_CFG_PER = 0)
include hc still per

theorem countStepped_fget (k : Int) (b : g.chanBut [FBK_COUNT]) :
    (countMoved h c (indexMissing h c (countStep h c k s))).fget h c g = s.fget h c g := by
  obtain ⟨-, -, apart⟩ := id b
  rw [countMoved_fget hc (b.mono (by decide)), countStep_still still, indexMissing_noPeriod
    ((State.fget_fput_clears _ (by decide)).trans per), State.fget_fput_clears _ (apart _ (by decide))]

theorem countStepped_count (k : Int) : quadCount (countMoved h c (indexMissing h c (countStep h c k s))) h c =
    toS 32 (ofS 32 (quadCount s h c + k)) := by
  rw [quadCount, countMoved_fget hc (by decide), countStep_still still, indexMissing_noPeriod
    ((State.fget_fput_clears _ (by decide)).trans per), State.fget_fput_of_lt (by decide) (ofS_lt 32 _)]

theorem quadMoved_fget (n : Nat) (b : g.chanBut (FBK_COUNT :: illegalFields)) : (quadMoved h c n s).fget h c g = s.fget h c g := by
  have stepped (k : Int) := countStepped_fget hc still per k (b.mono (by decide))
  unfold quadMoved
  split
  · rfl
  · exact stepped 1
  · exact stepped (-1)
  · exact illegalStep_fget hc (b.mono (by decide))

theorem quadMoved_legal {n : Nat} (legal : n ≠ 2) (lt : n < 4) : (quadMoved h c n s).fget h c FBK_ILLEGAL = s.fget h c FBK_ILLEGAL := by
  have cases : n = 0 ∨ n = 1 ∨ n = 3 := by omega
  rcases cases with rfl | rfl | rfl
  · rw [quadMoved_zero]
  · exact countStepped_fget hc still per 1 (by decide)
  · exact countStepped_fget hc still per (-1) (by decide)

end

/-- The pair's way from one reading to the next, in the order 00, 10, 11, 01 (R217). -/
def pairWay (old new : Bool × Bool) : Nat := (pairPlace new.1 new.2 + 4 - pairPlace old.1 old.2) % 4

/-- Pairs of readings with one signal changing along the order. -/
def forwardPairs : List ((Bool × Bool) × (Bool × Bool)) :=
  [((false, false), (true, false)), ((true, false), (true, true)), ((true, true), (false, true)), ((false, true), (false, false))]

theorem pairWay_forward : ∀ old new, (old, new) ∈ forwardPairs → pairWay old new = 1 := by decide

theorem pairWay_back : ∀ old new, (new, old) ∈ forwardPairs → pairWay old new = 3 := by decide

theorem pairWay_rest : ∀ old new : Bool × Bool, new.1 = old.1 → new.2 = old.2 → pairWay old new = 0 := by decide

theorem pairWay_legal : ∀ old new : Bool × Bool, new.1 = old.1 ∨ new.2 = old.2 → pairWay old new ≠ 2 := by decide

theorem pairWay_illegal : ∀ old new : Bool × Bool, new.1 ≠ old.1 → new.2 ≠ old.2 → pairWay old new = 2 := by decide

/-- A sample of an enabled channel with no pair in disagreement: the levels shown, and the pair's way counted. -/
theorem quadTransition_eq (ok : quadOk h c = true) (en : quadEn s h c = true) (wires : (s.quad h c).wires = 0) (a b z : Bool) :
    quadTransition h c a b z s =
      quadMoved h c (pairWay (bit (s.fget h c FBK_STATUS_ZBA) 0, bit (s.fget h c FBK_STATUS_ZBA) 1) (a, b))
        (s.fput h c FBK_STATUS_ZBA (b2n a + 2 * b2n b + 4 * b2n z)) := by
  have enabled (v : Nat) : quadEn (s.fput h c FBK_STATUS_ZBA v) h c = true := by
    rw [quadEn, State.fon_eq, State.fget_fput_clears _ (by decide)]
    exact en
  have agree (w : Nat) : bit 0 w = false := Nat.zero_testBit w
  unfold quadTransition
  simp only [ok, wires, agree, enabled, Bool.not_true, Bool.false_eq_true, if_false]
  rfl

theorem levels_lt (a b z : Bool) : b2n a + 2 * b2n b + 4 * b2n z < 2 ^ 3 := by cases a <;> cases b <;> cases z <;> decide

theorem quadOk_inst (ok : quadOk h c = true) : c < 16 := by
  simp only [quadOk, Bool.and_eq_true, decide_eq_true_eq] at ok
  omega

/-! ### Index pulses (R218) -/

/-- The fields that an index beyond TOL writes. -/
def indexBadFields : List Fld := FBK_IDX_BAD :: FBK_QEVENT_IDX_BAD :: causeFields

theorem indexBad_fget (hc : c < 16) (b : g.chanBut indexBadFields) : (indexBad h c s).fget h c g = s.fget h c g := by
  obtain ⟨-, off, apart⟩ := id b
  have counted : ((s.count h c FBK_IDX_BAD).raise h c FBK_QEVENT_IDX_BAD).fget h c g = s.fget h c g := by
    rw [raise_fget_clearsBlk hc (apart _ (by decide)) off, State.count_eq, State.fget_fput_clears _ (apart _ (by decide))]
  unfold indexBad
  dsimp only
  split
  · rw [raiseCause_fget hc (b.mono (by decide)),
      State.setQuad_acc_fget, counted]
  · exact counted

/-- The counter, the event, and under IDX_FAULT the cause INDEX. -/
theorem indexBad_shows (hc : c < 16) : ((indexBad h c s).quad h c).slewD = (s.quad h c).slewD ∧
    ((indexBad h c s).quad h c).idxSeen = (s.quad h c).idxSeen ∧ ((indexBad h c s).quad h c).idxAt = (s.quad h c).idxAt ∧
    (indexBad h c s).fget h c FBK_IDX_BAD = satAdd32 (s.fget h c FBK_IDX_BAD) 1 ∧
    (indexBad h c s).fon h c FBK_QEVENT_IDX_BAD = true ∧
    (s.fon h c FBK_QCTRL_IDX_FAULT = true → (indexBad h c s).fon h c FBK_STATUS_FAULT = true ∧
      bit ((indexBad h c s).fget h c FBK_STATUS_WHY) 4 = true) := by
  let t := (s.count h c FBK_IDX_BAD).raise h c FBK_QEVENT_IDX_BAD
  have quad : t.quad h c = s.quad h c := by simp only [t, State.raise_acc_quad, State.count_acc_quad]
  have event : t.fon h c FBK_QEVENT_IDX_BAD = true := raise_sets _ _ _ _ (by decide) (by decide) (Fld.offLossBlk_no hc (by decide))
  have counted : t.fget h c FBK_IDX_BAD = satAdd32 (s.fget h c FBK_IDX_BAD) 1 := by
    rw [raise_fget_clearsBlk hc (by decide) (by decide), State.fget_count 1 (by decide)]
  have fault : t.fon h c FBK_QCTRL_IDX_FAULT = s.fon h c FBK_QCTRL_IDX_FAULT := by
    rw [State.fon_eq, raise_fget_clearsBlk hc (by decide) (by decide), State.count_eq, State.fget_fput_clears _ (by decide), ← State.fon_eq]
  unfold indexBad
  dsimp only
  split
  · rw [raiseCause_quad, State.setQuad_same, quad]
    exact ⟨rfl, rfl, rfl, (raiseCause_fget hc (by decide) 4).trans counted,
      raiseCause_keeps_event hc 4 (by decide) (by decide) (by decide) (by decide) (by decide) event,
      fun _ => ⟨raiseCause_fault hc 4, raiseCause_why hc (by decide)⟩⟩
  · next off => exact ⟨by rw [quad], by rw [quad], by rw [quad], counted, event, fun on => absurd (fault.trans on) off⟩

/-- The pulse itself: the levels, the count latched, a slew in progress ended. -/
def indexSeen (h c : Nat) (s : State) : State :=
  (((s.fput h c FBK_STATUS_ZBA (s.fget h c FBK_STATUS_ZBA ||| 4)).fput h c FBK_IDX_LAST (ofS 32 (quadCount s h c))).fput h c
    FBK_STATUS_SLEW 0).setQuad h c { s.quad h c with idxAt := quadCount s h c, idxSeen := true, slewD := 0, slewN := 0 }

theorem indexSeen_fget (b : g.chanBut [FBK_STATUS_ZBA, FBK_IDX_LAST, FBK_STATUS_SLEW]) : (indexSeen h c s).fget h c g = s.fget h c g := by
  obtain ⟨-, -, apart⟩ := b
  rw [indexSeen, State.setQuad_acc_fget, State.fget_fput_clears _ (apart _ (by decide)), State.fget_fput_clears _ (apart _ (by decide)),
    State.fget_fput_clears _ (apart _ (by decide))]

theorem indexSeen_last : (indexSeen h c s).fget h c FBK_IDX_LAST = ofS 32 (quadCount s h c) := by
  rw [indexSeen, State.setQuad_acc_fget, State.fget_fput_clears _ (by decide), State.fget_fput_of_lt (by decide) (ofS_lt 32 _)]

theorem indexSeen_quad : (indexSeen h c s).quad h c =
    { s.quad h c with idxAt := quadCount s h c, idxSeen := true, slewD := 0, slewN := 0 } := State.setQuad_same ..

/-- The check of a pulse's deviation `d` (R218). -/
def indexChecked (h c : Nat) (d : Int) (s : State) : State :=
  let s := s.fput h c FBK_IDX_DEV (ofS 32 d)
  if d = 0 then s
  else if d.natAbs ≤ s.fget h c FBK_IDX_CFG_TOL then
    ((((s.setQuad h c { s.quad h c with slewD := d }).fput h c FBK_STATUS_SLEW 1).count h c FBK_IDX_CORR).raise h c FBK_QEVENT_IDX_CORR)
  else indexBad h c s

theorem indexPulse_eq (ok : quadOk h c = true) (en : quadEn s h c = true) (z : bit (s.quad h c).wires 2 = false) :
    indexPulse h c s =
      if s.fon h c FBK_QCTRL_IDX_LEARN = true ∧ (s.quad h c).idxSeen = false then
        (indexSeen h c s).fput h c FBK_IDX_REF (ofS 32 (quadCount s h c))
      else if s.fget h c FBK_IDX_CFG_PER = 0 then indexSeen h c s
      else indexChecked h c (idxDev (quadCount s h c) (toS 32 (s.fget h c FBK_IDX_REF)) (s.fget h c FBK_IDX_CFG_PER)) (indexSeen h c s) := by
  have learn : (indexSeen h c s).fon h c FBK_QCTRL_IDX_LEARN = s.fon h c FBK_QCTRL_IDX_LEARN :=
    congrArg (· != 0) (indexSeen_fget (g := FBK_QCTRL_IDX_LEARN) (by decide))
  have per : (indexSeen h c s).fget h c FBK_IDX_CFG_PER = s.fget h c FBK_IDX_CFG_PER := indexSeen_fget (by decide)
  have ref : (indexSeen h c s).fget h c FBK_IDX_REF = s.fget h c FBK_IDX_REF := indexSeen_fget (by decide)
  have runs : (!(quadOk h c && quadEn s h c) || bit (s.quad h c).wires 2) = false := by rw [ok, en, z]; rfl
  have learns : ((indexSeen h c s).fon h c FBK_QCTRL_IDX_LEARN && !(s.quad h c).idxSeen) = true ↔
      s.fon h c FBK_QCTRL_IDX_LEARN = true ∧ (s.quad h c).idxSeen = false := by rw [learn]; simp
  rw [← per, ← ref]
  simp only [← learns]
  exact if_neg (Bool.eq_false_iff.mp runs)

/-- The fields that a check writes. -/
def indexCheckFields : List Fld := FBK_IDX_DEV :: FBK_STATUS_SLEW :: FBK_IDX_CORR :: FBK_QEVENT_IDX_CORR :: indexBadFields

theorem indexChecked_fget (hc : c < 16) (b : g.chanBut indexCheckFields) (d : Int) : (indexChecked h c d s).fget h c g = s.fget h c g := by
  obtain ⟨-, off, apart⟩ := id b
  have dev (n : Nat) : (s.fput h c FBK_IDX_DEV n).fget h c g = s.fget h c g := State.fget_fput_clears _ (apart _ (by decide))
  unfold indexChecked
  dsimp only
  split_ifs
  · exact dev _
  · rw [raise_fget_clearsBlk hc (apart _ (by decide)) off, State.count_eq, State.fget_fput_clears _ (apart _ (by decide)),
      State.fget_fput_clears _ (apart _ (by decide)), State.setQuad_acc_fget, dev]
  · rw [indexBad_fget hc (b.mono (by decide)), dev]

theorem indexChecked_quad (hc : c < 16) (d : Int) : ((indexChecked h c d s).quad h c).idxSeen = (s.quad h c).idxSeen ∧
    ((indexChecked h c d s).quad h c).idxAt = (s.quad h c).idxAt := by
  unfold indexChecked
  dsimp only
  split_ifs
  · exact ⟨rfl, rfl⟩
  · rw [State.raise_acc_quad, State.count_acc_quad, State.fput_acc_quad, State.setQuad_same]
    exact ⟨rfl, rfl⟩
  · obtain ⟨-, seen, at', -⟩ := indexBad_shows (h := h) (s := s.fput h c FBK_IDX_DEV (ofS 32 d)) hc
    exact ⟨seen, at'⟩

theorem indexChecked_dev (hc : c < 16) (d : Int) : (indexChecked h c d s).fget h c FBK_IDX_DEV = ofS 32 d := by
  have dev : (s.fput h c FBK_IDX_DEV (ofS 32 d)).fget h c FBK_IDX_DEV = ofS 32 d := State.fget_fput_of_lt (by decide) (ofS_lt 32 _)
  unfold indexChecked
  dsimp only
  split_ifs
  · exact dev
  · rw [raise_fget_clearsBlk hc (by decide) (by decide), State.count_eq, State.fget_fput_clears _ (by decide),
      State.fget_fput_clears _ (by decide), State.setQuad_acc_fget, dev]
  · rw [indexBad_fget hc (by decide), dev]

/-- Within TOL the deviation starts a slew. -/
theorem indexChecked_slews (hc : c < 16) {d : Int} (off : d ≠ 0) (near : d.natAbs ≤ s.fget h c FBK_IDX_CFG_TOL) :
    ((indexChecked h c d s).quad h c).slewD = d ∧
    (indexChecked h c d s).fget h c FBK_IDX_CORR = satAdd32 (s.fget h c FBK_IDX_CORR) 1 ∧
    (indexChecked h c d s).fon h c FBK_QEVENT_IDX_CORR = true := by
  have tol (n : Nat) : (s.fput h c FBK_IDX_DEV n).fget h c FBK_IDX_CFG_TOL = s.fget h c FBK_IDX_CFG_TOL :=
    State.fget_fput_clears _ (by decide)
  unfold indexChecked
  dsimp only
  rw [if_neg off, if_pos (by rw [tol]; exact near)]
  refine ⟨?_, ?_, raise_sets _ _ _ _ (by decide) (by decide) (Fld.offLossBlk_no hc (by decide))⟩
  · rw [State.raise_acc_quad, State.count_acc_quad, State.fput_acc_quad, State.setQuad_same]
  · rw [raise_fget_clearsBlk hc (by decide) (by decide), State.fget_count 1 (by decide), State.fget_fput_clears _ (by decide),
      State.setQuad_acc_fget, State.fget_fput_clears _ (by decide)]

/-- Beyond TOL the index is bad. -/
theorem indexChecked_bad {d : Int} (far : s.fget h c FBK_IDX_CFG_TOL < d.natAbs) :
    indexChecked h c d s = indexBad h c (s.fput h c FBK_IDX_DEV (ofS 32 d)) := by
  have tol (n : Nat) : (s.fput h c FBK_IDX_DEV n).fget h c FBK_IDX_CFG_TOL = s.fget h c FBK_IDX_CFG_TOL :=
    State.fget_fput_clears _ (by decide)
  unfold indexChecked
  dsimp only
  rw [if_neg (by omega), if_neg (by rw [tol]; omega)]

/-- A pulse within TOL of its place. -/
theorem pulse_near (hc : c < 16) {d : Int} (off : d ≠ 0) (near : d.natAbs ≤ s.fget h c FBK_IDX_CFG_TOL) :
    ((indexChecked h c d (indexSeen h c s)).quad h c).slewD = d ∧
    (indexChecked h c d (indexSeen h c s)).fget h c FBK_IDX_CORR = satAdd32 (s.fget h c FBK_IDX_CORR) 1 ∧
    (indexChecked h c d (indexSeen h c s)).fon h c FBK_QEVENT_IDX_CORR = true := by
  have tol : (indexSeen h c s).fget h c FBK_IDX_CFG_TOL = s.fget h c FBK_IDX_CFG_TOL := indexSeen_fget (by decide)
  obtain ⟨slew, corr, event⟩ := indexChecked_slews (h := h) (s := indexSeen h c s) hc off (near.trans_eq tol.symm)
  exact ⟨slew, corr.trans (congrArg (satAdd32 · 1) (indexSeen_fget (by decide))), event⟩

/-- A pulse beyond TOL of its place. -/
theorem pulse_far (hc : c < 16) {d : Int} (far : s.fget h c FBK_IDX_CFG_TOL < d.natAbs) :
    ((indexChecked h c d (indexSeen h c s)).quad h c).slewD = 0 ∧
    (indexChecked h c d (indexSeen h c s)).fget h c FBK_IDX_BAD = satAdd32 (s.fget h c FBK_IDX_BAD) 1 ∧
    (indexChecked h c d (indexSeen h c s)).fon h c FBK_QEVENT_IDX_BAD = true ∧
    (s.fon h c FBK_QCTRL_IDX_FAULT = true → (indexChecked h c d (indexSeen h c s)).fon h c FBK_STATUS_FAULT = true ∧
      bit ((indexChecked h c d (indexSeen h c s)).fget h c FBK_STATUS_WHY) 4 = true) := by
  let t := (indexSeen h c s).fput h c FBK_IDX_DEV (ofS 32 d)
  have tol : (indexSeen h c s).fget h c FBK_IDX_CFG_TOL = s.fget h c FBK_IDX_CFG_TOL := indexSeen_fget (by decide)
  have kept {g : Fld} (b : g.chanBut [FBK_STATUS_ZBA, FBK_IDX_LAST, FBK_STATUS_SLEW, FBK_IDX_DEV]) : t.fget h c g = s.fget h c g :=
    (State.fget_fput_clears _ (b.2.2 _ (by decide))).trans (indexSeen_fget (b.mono (by decide)))
  have ended : (t.quad h c).slewD = 0 := by rw [State.fput_acc_quad, indexSeen_quad]
  rw [indexChecked_bad (tol.trans_lt far)]
  obtain ⟨slew, -, -, bad, event, cause⟩ := indexBad_shows (h := h) (c := c) (s := t) hc
  refine ⟨slew.trans ended, bad.trans (congrArg (satAdd32 · 1) (kept (by decide))), event, fun fault => cause ?_⟩
  rw [State.fon_eq, kept (by decide), ← State.fon_eq]
  exact fault

end

/-- Settles O43: the pair's way decides what a sample counts, and the deviation what an index pulse does. -/
theorem quadratureAndIndex : Obligations.QuadratureAndIndex := by
  refine ⟨fun s h c a0 b0 a b z ok en wires still per hA hB => ?sample, fun s h c ok en z => ?pulse⟩
  case sample =>
    have hc := quadOk_inst ok
    let shown := s.fput h c FBK_STATUS_ZBA (b2n a + 2 * b2n b + 4 * b2n z)
    have kept {g : Fld} (apart : g.clears FBK_STATUS_ZBA) : shown.fget h c g = s.fget h c g := State.fget_fput_clears _ apart
    have still' : (shown.quad h c).slewD = 0 := by rw [State.fput_acc_quad]; exact still
    have per' : shown.fget h c FBK_IDX_CFG_PER = 0 := (kept (by decide)).trans per
    have count : quadCount shown h c = quadCount s h c := congrArg (toS 32) (kept (by decide))
    have eq := quadTransition_eq ok en wires a b z
    rw [hA, hB] at eq
    refine ⟨_, congrArg settled eq, ?_, fun forth => ?_, fun back => ?_, fun one => ?_, fun sameA sameB => ?_, fun difA difB => ?_⟩
    · rw [quadMoved_fget hc still' per' _ (by decide), State.fget_fput_of_lt (by decide) (levels_lt a b z)]
    · rw [pairWay_forward _ _ forth, ← count]
      exact countStepped_count hc still' per' 1
    · rw [pairWay_back _ _ back, ← count]
      exact countStepped_count hc still' per' (-1)
    · rw [quadMoved_legal hc still' per' (pairWay_legal (a0, b0) (a, b) one) (Nat.mod_lt _ (by decide)), kept (by decide)]
    · rw [pairWay_rest (a0, b0) (a, b) sameA sameB, quadMoved_zero, kept (by decide)]
    · rw [pairWay_illegal (a0, b0) (a, b) difA difB, quadMoved_two]
      obtain ⟨event, illegal⟩ := illegalStep_shows (h := h) (s := shown) hc
      exact ⟨(illegalStep_fget hc (by decide)).trans (kept (by decide)), event, illegal.trans (congrArg (satAdd32 · 1) (kept (by decide)))⟩
  case pulse =>
    have hc := quadOk_inst ok
    have seen {g : Fld} (b : g.chanBut [FBK_STATUS_ZBA, FBK_IDX_LAST, FBK_STATUS_SLEW]) := indexSeen_fget (s := s) (h := h) (c := c) b
    have eq := indexPulse_eq ok en z
    by_cases learns : s.fon h c FBK_QCTRL_IDX_LEARN = true ∧ (s.quad h c).idxSeen = false
    · rw [if_pos learns] at eq
      have kept {g : Fld} (apart : g.clears FBK_IDX_REF) : ((indexSeen h c s).fput h c FBK_IDX_REF (ofS 32 (quadCount s h c))).fget h c g =
        (indexSeen h c s).fget h c g := State.fget_fput_clears _ apart
      refine ⟨_, congrArg settled eq, (kept (by decide)).trans indexSeen_last, (kept (by decide)).trans (seen (by decide)), ?_, ?_,
        fun _ _ => ⟨State.fget_fput_of_lt (by decide) (ofS_lt 32 _), (kept (by decide)).trans (seen (by decide))⟩, fun no => ?_⟩
      · rw [State.fput_acc_quad, indexSeen_quad]
      · rw [State.fput_acc_quad, indexSeen_quad]
      · obtain ⟨learn, first⟩ := learns
        simp [learn, first] at no
    · rw [if_neg learns] at eq
      have known (learn : s.fon h c FBK_QCTRL_IDX_LEARN = true) (first : (s.quad h c).idxSeen = false) : False := learns ⟨learn, first⟩
      by_cases per : s.fget h c FBK_IDX_CFG_PER = 0
      · rw [if_pos per] at eq
        exact ⟨_, congrArg settled eq, indexSeen_last, seen (by decide), by rw [indexSeen_quad], by rw [indexSeen_quad],
          fun learn first => (known learn first).elim, fun _ => ⟨seen (by decide), fun _ => ⟨seen (by decide), seen (by decide)⟩,
          fun some => absurd per some⟩⟩
      · rw [if_neg per] at eq
        obtain ⟨pulsed, at'⟩ := indexChecked_quad (h := h) (s := indexSeen h c s) hc
          (idxDev (quadCount s h c) (toS 32 (s.fget h c FBK_IDX_REF)) (s.fget h c FBK_IDX_CFG_PER))
        refine ⟨_, congrArg settled eq, (indexChecked_fget hc (by decide) _).trans indexSeen_last,
          (indexChecked_fget hc (by decide) _).trans (seen (by decide)), pulsed.trans (by rw [indexSeen_quad]),
          at'.trans (by rw [indexSeen_quad]), fun learn first => (known learn first).elim,
          fun _ => ⟨(indexChecked_fget hc (by decide) _).trans (seen (by decide)), fun none => absurd none per, fun _ => ⟨indexChecked_dev hc _,
            fun off near => ?_, fun far => ?_⟩⟩⟩
        · exact pulse_near hc off near
        · exact pulse_far hc far

end Sys2Proof.Machine
end

section
/-! PROOFS. Frames of the operations of a motion axis (R226 to R240): outside MOT and DRT every register word stays, and of the records
the axes, the Draughts, what waiting commands gather, what leaves, and the values the spec leaves open. -/

namespace Sys2Proof.Machine

/-- The projection sees nothing that a motion axis moves. -/
structure SeesNoMotion {α : Type} (e : State → α) : Prop where
  regs : SeesNoRegs e
  drafts : SeesNoDraught e
  axes : ∀ s a x, e (State.setAxis s a x) = e s
  gathered : ∀ owner h st s, e (noteDop owner h st s) = e s
  out : ∀ s o, e (State.emit s o) = e s
  open' : ∀ s n, e (State.free s n).2 = e s

section
variable {α : Type} {e : State → α} {bs : List Nat} {s t : State} {a h : Nat} {f : Fld}

theorem outside_branch (p : Prop) [Decidable p] (u v : State) :
    outside e bs (if p then u else v) = if p then outside e bs u else outside e bs v := by
  split <;> rfl

section
variable (o : SeesNoMotion e) (mot : BLK_MOT ∈ bs)
include o

theorem outside_setAxis (x : AxX) : outside e bs (s.setAxis a x) = outside e bs s := outside_records (o.axes _ _ _) rfl

theorem outside_emit (x : Out) : outside e bs (s.emit x) = outside e bs s := outside_records (o.out _ _) rfl

/-- A value the spec leaves open, where one is taken. -/
theorem outside_opened (p : Prop) [Decidable p] (n k : Nat) : outside e bs (if p then s.free n else (k, s)).2 = outside e bs s := by
  split
  · exact outside_records (o.open' _ _) rfl
  · rfl

include mot

theorem outside_mput (v : Nat) (c : f.within BLK_MOT) : outside e bs (s.mput a f v) = outside e bs s :=
  outside_fput o.regs mot (by decide) (axis_inst_lt a) v c

theorem outside_mcount (n : Nat) (c : f.within BLK_MOT) : outside e bs (s.mcount a f n) = outside e bs s := outside_mput o mot _ c

theorem outside_mraise (c : f.within BLK_MOT) : outside e bs (s.mraise a f) = outside e bs s :=
  outside_raise o.regs mot (by decide) (axis_inst_lt a) c

/-! ### Display, coils, resolution -/

theorem outside_axGo (st : Nat) : outside e bs (axGo a st s) = outside e bs s := outside_mput o mot _ (by decide)

theorem outside_axShow : outside e bs (axShow a s) = outside e bs s :=
  (outside_mput o mot _ (by decide)).trans (outside_mput o mot _ (by decide))

theorem outside_resFollow : outside e bs (resFollow a s) = outside e bs s :=
  resFollow_keeps (P := fun t => outside e bs t = outside e bs s) (fun _ _ same => (outside_mput o mot _ (by decide)).trans same) rfl

theorem outside_coilsOn : outside e bs (coilsOn a s) = outside e bs s :=
  (outside_mput o mot _ (by decide)).trans (outside_setAxis o _)

theorem outside_wake : outside e bs (wake a s) = outside e bs s :=
  outside_ite rfl ((outside_setAxis o _).trans (outside_coilsOn o mot))

theorem outside_axOn : outside e bs (axOn a s) = outside e bs s := by
  rw [axOn, outside_mput o mot _ (by decide), outside_axGo o mot, outside_coilsOn o mot]

theorem outside_axOff (res : Nat) : outside e bs (axOff a res s) = outside e bs s := by
  simp (disch := decide) only [axOff, outside_branch, outside_axOn o mot, outside_mput o mot, outside_axShow o mot, outside_mraise o mot,
    outside_axGo o mot, outside_setAxis o, ite_self]

theorem outside_axRest : outside e bs (axRest a s) = outside e bs s := by
  simp only [axRest, outside_branch, outside_axOff o mot, outside_axShow o mot, outside_resFollow o mot, outside_axGo o mot,
    outside_setAxis o, ite_self]

/-! ### Moves and stops -/

theorem outside_queuePush (target : Int) (vmax : Nat) (blend : Bool) (feed : Option Nat) (owner : Option (Nat × Nat)) :
    outside e bs (queuePush a target vmax blend feed s owner).1 = outside e bs s := by
  unfold queuePush
  dsimp only
  split_ifs <;>
    simp (disch := decide) only [outside_mraise o mot, outside_mcount o mot, outside_axShow o mot, outside_wake o mot, outside_setAxis o]

theorem outside_stepOutputs (old new : Int) : outside e bs (stepOutputs a old new s) = outside e bs s :=
  outside_ite (outside_resFollow o mot) (outside_ite rfl (outside_emit o _))

theorem outside_homingDone : outside e bs (homingDone a s) = outside e bs s := by
  simp (disch := decide) only [homingDone, outside_axRest o mot, outside_mraise o mot, outside_mput o mot]

variable (drt : BLK_DRT ∈ bs)
include drt

omit mot in
theorem outside_feedEnd (ok : Bool) (m : Move) : outside e bs (feedEnd a ok m s) = outside e bs s := by
  have gathered (st : Nat) : outside e bs (noteDop m.owner (a / 4) st s) = outside e bs s :=
    outside_records (o.gathered _ _ _ _) (noteDop_regs _ _)
  unfold feedEnd
  dsimp only
  split
  · exact gathered _
  · exact outside_ite ((outside_records (o.drafts _ _ _) rfl).trans ((outside_drtPut o.regs drt _ (by decide)).trans (gathered _)))
      ((outside_drtPut o.regs drt _ (by decide)).trans (gathered _))

theorem outside_discard (ms : List Move) : outside e bs (discard a ms s) = outside e bs s :=
  (outside_forEach (fun m _ => outside_feedEnd o drt false m) _ _).trans (outside_ite rfl (outside_mcount o mot _ (by decide)))

theorem outside_limitStop : outside e bs (limitStop a s) = outside e bs s := by
  simp (disch := decide) only [limitStop, outside_branch, outside_axOff o mot, outside_axShow o mot, outside_resFollow o mot,
    outside_axGo o mot, outside_mraise o mot, outside_discard o mot drt, outside_setAxis o, ite_self]

theorem outside_moveDone (m : Move) : outside e bs (moveDone a m s) = outside e bs s := by
  simp (disch := decide) only [moveDone, outside_branch, outside_mraise o mot, outside_setAxis o, outside_feedEnd o drt, ite_self]

theorem outside_takeMove (n : Nat) : outside e bs (takeMove a n s) = outside e bs s := by
  induction n generalizing s with
  | zero => rfl
  | succ n ih =>
    unfold takeMove
    split
    · rfl
    · simp only [outside_branch, ih, outside_moveDone o mot drt, outside_limitStop o mot drt, outside_axGo o mot, outside_setAxis o, ite_self]

/-! ### Steps, profile, frames (R227 to R234) -/

theorem outside_stepOnce : outside e bs (stepOnce a s) = outside e bs s := by
  have stepped (old new v) : outside e bs (stepOutputs a old new (s.mput a MOT_POS v)) = outside e bs s :=
    (outside_stepOutputs o mot _ _).trans (outside_mput o mot _ (by decide))
  unfold stepOnce
  dsimp only
  split
  · exact stepped ..
  · refine outside_ite (stepped ..) ?_
    split <;> simp only [outside_branch, outside_axShow o mot, outside_resFollow o mot, outside_axRest o mot, outside_setAxis o,
      outside_moveDone o mot drt, stepped, ite_self]

theorem outside_axisStep : outside e bs (axisStep a s) = outside e bs s := by
  unfold axisStep
  dsimp only
  split
  · rfl
  · exact outside_ite rfl ((outside_stepOnce o mot drt).trans (outside_setAxis o _))

theorem outside_stepsDue (n : Nat) : outside e bs (stepsDue a n s) = outside e bs s := by
  induction n generalizing s with
  | zero => rfl
  | succ n ih =>
    unfold stepsDue
    split
    · rfl
    · exact outside_ite rfl ((ih (s := axisStep a s)).trans (outside_axisStep o mot drt))

theorem outside_profileTick : outside e bs (profileTick a s) = outside e bs s := by
  have taken : outside e bs (if (s.axis a).cur.isNone = true then takeMove a 17 s else s) = outside e bs s :=
    outside_ite (outside_takeMove o mot drt _) rfl
  unfold profileTick
  dsimp only
  generalize (if (s.axis a).cur.isNone = true then takeMove a 17 s else s) = t at taken
  refine outside_ite rfl (outside_ite ?_ (outside_ite ?_ (outside_ite ?_ ?_)))
  · refine outside_ite ?_ (by simp only [outside_axShow o mot, outside_resFollow o mot, outside_setAxis o])
    rw [outside_axRest o mot, outside_setAxis o]
    split
    · exact outside_feedEnd o drt _ _
    · rfl
  · simp only [outside_axShow o mot, outside_resFollow o mot, outside_setAxis o]
  · simp only [outside_branch, outside_homingDone o mot, outside_axShow o mot, outside_resFollow o mot, outside_setAxis o, ite_self]
  · split <;> simp only [outside_branch, outside_axRest o mot, outside_axShow o mot, outside_resFollow o mot, outside_setAxis o,
      outside_opened o, taken, ite_self]

theorem outside_profileTickRow : outside e bs (profileTickRow a s) = outside e bs s :=
  outside_ite ((outside_profileTick o mot drt).trans ((outside_setAxis o _).trans (outside_stepsDue o mot drt _))) rfl

omit drt in
theorem outside_phaseFrameSent : outside e bs (phaseFrameSent a s) = outside e bs s := by
  unfold phaseFrameSent
  dsimp only
  refine outside_ite ?_ rfl
  simp (disch := decide) only [outside_emit o, outside_setAxis o, outside_branch, outside_mput o mot, ite_self]

omit drt in
theorem outside_standstill : outside e bs (standstill a s) = outside e bs s := by
  unfold standstill
  dsimp only
  refine outside_ite ?_ rfl
  simp (disch := decide) only [outside_branch, outside_mput o mot, outside_setAxis o, outside_mraise o mot, ite_self]

/-! ### Switches and writes (R235 to R240) -/

omit drt in
theorem outside_homeEdge (pos : Int) : outside e bs (homeEdge a pos s) = outside e bs s :=
  outside_ite ((outside_mput o mot _ (by decide)).trans (outside_setAxis o _)) rfl

theorem outside_limitEdge (d : Int) : outside e bs (limitEdge a d s) = outside e bs s := outside_ite (outside_limitStop o mot drt) rfl

theorem outside_switchDebounceEnd (sw : Nat) (level : Bool) (pos : Int) :
    outside e bs (switchDebounceEnd a sw level pos s) = outside e bs s := by
  simp only [switchDebounceEnd, outside_branch, outside_homeEdge o mot, outside_limitEdge o mot drt, outside_setAxis o, ite_self]

theorem outside_homeWrite : outside e bs (homeWrite a s) = outside e bs s := by
  simp (disch := decide) only [homeWrite, outside_branch, outside_mraise o mot, outside_mcount o mot, outside_mput o mot,
    outside_limitStop o mot drt, outside_axGo o mot, outside_setAxis o, outside_wake o mot, ite_self]

theorem outside_stopWrite : outside e bs (stopWrite a s) = outside e bs s := by
  simp only [stopWrite, outside_branch, outside_axShow o mot, outside_axGo o mot, outside_discard o mot drt, outside_setAxis o, ite_self]

theorem outside_motDisable : outside e bs (motDisable a s) = outside e bs s := by
  simp only [motDisable, outside_branch, outside_axShow o mot, outside_axGo o mot, outside_axOff o mot, outside_discard o mot drt,
    outside_setAxis o, ite_self]

theorem outside_motForce : outside e bs (motForce a s) = outside e bs s := by
  simp only [motForce, outside_axOff o mot, outside_discard o mot drt, outside_setAxis o]

/-- What EN, and then STOP, CLR and HOME do to an axis. -/
theorem outside_motEnabled (c : WriteCtx) : outside e bs (motEnabled c s) = outside e bs s := by
  simp (disch := decide) only [motEnabled, outside_branch, outside_setAxis o, outside_mput o mot, outside_axOn o mot,
    outside_motDisable o mot drt, ite_self]

theorem outside_motOrdered (c : WriteCtx) : outside e bs (motOrdered c s) = outside e bs s := by
  simp only [motOrdered, outside_branch, outside_homeWrite o mot drt, clrWrite, outside_axGo o mot, outside_stopWrite o mot drt, ite_self]

theorem outside_motAct (c : WriteCtx) : outside e bs (motAct c s) = outside e bs s := by
  rw [motAct_eq]
  simp (disch := decide) only [outside_branch, outside_mput o mot, outside_queuePush o mot, outside_motForce o mot drt,
    outside_motOrdered o mot drt, outside_motEnabled o mot drt, ite_self]

omit mot drt in
theorem outside_motDrainTimeout : outside e bs (motDrainTimeout a s) = outside e bs s := outside_ite (outside_setAxis o _) rfl

end
end

end Sys2Proof.Machine
end

section
/-! PROOFS. Frames of the rows of feedback inputs, motion axes and the time base (R216 to R240, R371 to R382). -/

namespace Sys2Proof.Machine

section
variable {α : Type} {e : State → α} {bs : List Nat} {s t : State} {h i c k n : Nat} {f : Fld}

/-- A stored word with no privileged field. -/
theorem outside_stored {blk w : Nat} (unseen : SeesNoRegs e) (mem : blk ∈ bs) (lt : blk < 256) (hi : i < 16) (hw : w < 2048)
    (plain : stagedFields blk i w = []) (opn : Bool) (v : Word) : outside e bs (stored blk opn h i w v s) = outside e bs s := by
  have eq : stored blk opn h i w v s = s.wr h i blk w (mergeWrite (liveFields blk i w) false opn (s.rd h i blk w) v) := by
    have none : ((wordFields blk i w).filter fun f => f.priv).isEmpty = true := List.isEmpty_iff.mpr plain
    simp only [stored, hostWrite, none, if_true, liveFields]
  exact eq ▸ outside_wr unseen mem lt hi _ hw

/-- A host write of such a word, where its block's rule keeps to the outside. -/
theorem outside_hostWrite {blk w : Nat} (unseen : SeesNoRegs e) (mem : blk ∈ bs) (lt : blk < 256) (hi : i < 16) (hw : w < 2048)
    (plain : stagedFields blk i w = []) (opn : State → Nat → Nat → Nat → Bool) {act : WriteCtx → State → State} (v : Word)
    (keeps : ∀ s, outside e bs (act (hostCtx t blk h i w v) s) = outside e bs s) :
    outside e bs (hostWrite blk opn act h i w v false t) = outside e bs t :=
  (hostWrite_eq ..) ▸ (keeps _).trans (outside_stored unseen mem lt hi hw plain _ v)

/-! ### Feedback rows -/

/-- The records that no feedback row changes. -/
def feedbackRest (s : State) : State :=
  { s with regs := [], flues := [], quads := [], halls := [], ssis := [], drts := [], basins := [] }

/-- What a feedback row leaves. -/
def besideFeedback (s : State) : State × (OuterWord [BLK_FBK, BLK_DRT] → Word) := outside feedbackRest [BLK_FBK, BLK_DRT] s

theorem besideFeedback_frame (same : besideFeedback t = besideFeedback s) : BlocksOnly [BLK_FBK, BLK_DRT] s t ∧
    t = { s with regs := t.regs, flues := t.flues, quads := t.quads, halls := t.halls, ssis := t.ssis, drts := t.drts,
                 basins := t.basins } := by
  obtain ⟨rest, words⟩ := outside_eq_iff.mp same
  exact ⟨words, congrArg (fun r : State => { r with regs := t.regs, flues := t.flues, quads := t.quads, halls := t.halls, ssis := t.ssis,
                                                    drts := t.drts, basins := t.basins }) rest⟩

theorem besideFeedback_branch (p : Prop) [Decidable p] (u v : State) :
    besideFeedback (if p then u else v) = if p then besideFeedback u else besideFeedback v := outside_branch ..

theorem besideFeedback_ite {p : Prop} [Decidable p] {u v : State} (yes : besideFeedback u = besideFeedback s)
    (no : besideFeedback v = besideFeedback s) : besideFeedback (if p then u else v) = besideFeedback s := outside_ite yes no

theorem feedbackRest_regs : SeesNoRegs feedbackRest := fun _ _ _ => rfl

@[simp] theorem besideFeedback_setQuad (x : QuadX) : besideFeedback (s.setQuad h c x) = besideFeedback s := rfl
@[simp] theorem besideFeedback_setHall (x : HallX) : besideFeedback (s.setHall h c x) = besideFeedback s := rfl
@[simp] theorem besideFeedback_setSsi (x : SsiX) : besideFeedback (s.setSsi h c x) = besideFeedback s := rfl

theorem besideFeedback_srcFault : besideFeedback (srcFault h c s) = besideFeedback s :=
  outside_srcFault feedbackRest_regs (fun _ _ _ => rfl) (by decide) (fun _ _ _ => rfl) h c

theorem besideFeedback_countMoved : besideFeedback (countMoved h c s) = besideFeedback s :=
  outside_countMoved feedbackRest_regs (fun _ _ _ => rfl) (by decide) h c

section
variable (hc : c < 16)
include hc

theorem besideFeedback_fput (v : Nat) (b : f.within BLK_FBK) : besideFeedback (s.fput h c f v) = besideFeedback s :=
  outside_fput feedbackRest_regs (by decide) (by decide) hc v b

theorem besideFeedback_count (n : Nat) (b : f.within BLK_FBK) : besideFeedback (s.count h c f n) = besideFeedback s :=
  besideFeedback_fput hc _ b

theorem besideFeedback_raise (b : f.within BLK_FBK) : besideFeedback (s.raise h c f) = besideFeedback s :=
  outside_raise feedbackRest_regs (by decide) (by decide) hc b

theorem besideFeedback_unclear : besideFeedback (unclear h c s) = besideFeedback s := by
  unfold unclear
  dsimp only
  split
  · rfl
  · exact besideFeedback_ite (by rw [besideFeedback_raise hc (by decide), besideFeedback_fput hc _ (by decide), besideFeedback_setQuad]) rfl

theorem besideFeedback_raiseCause (k : Nat) : besideFeedback (raiseCause h c k s) = besideFeedback s := by
  rw [raiseCause, besideFeedback_srcFault, besideFeedback_raise hc (by decide), besideFeedback_fput hc _ (by decide),
    besideFeedback_fput hc _ (by decide), besideFeedback_unclear hc]

theorem besideFeedback_causeShow : besideFeedback (causeShow h c s) = besideFeedback s := besideFeedback_fput hc _ (by decide)

theorem besideFeedback_countStep (step : Int) : besideFeedback (countStep h c step s) = besideFeedback s := by
  simp (disch := decide) only [countStep, besideFeedback_branch, besideFeedback_fput hc, besideFeedback_setQuad, ite_self]

theorem besideFeedback_indexBad : besideFeedback (indexBad h c s) = besideFeedback s := by
  simp (disch := decide) only [indexBad, besideFeedback_branch, besideFeedback_raiseCause hc, besideFeedback_setQuad, besideFeedback_raise hc,
    besideFeedback_count hc, ite_self]

theorem besideFeedback_indexMissing : besideFeedback (indexMissing h c s) = besideFeedback s := by
  simp (disch := decide) only [indexMissing, besideFeedback_branch, besideFeedback_indexBad hc, besideFeedback_setQuad, besideFeedback_raise hc,
    ite_self]

theorem besideFeedback_illegalStep : besideFeedback (illegalStep h c s) = besideFeedback s := by
  simp (disch := decide) only [illegalStep, besideFeedback_branch, besideFeedback_raiseCause hc, besideFeedback_causeShow hc,
    besideFeedback_setQuad, besideFeedback_raise hc, besideFeedback_count hc, ite_self]

theorem besideFeedback_quadMoved (n : Nat) : besideFeedback (quadMoved h c n s) = besideFeedback s := by
  unfold quadMoved
  split
  · rfl
  · rw [besideFeedback_countMoved, besideFeedback_indexMissing hc, besideFeedback_countStep hc]
  · rw [besideFeedback_countMoved, besideFeedback_indexMissing hc, besideFeedback_countStep hc]
  · exact besideFeedback_illegalStep hc

theorem besideFeedback_ssiDisagree : besideFeedback (ssiDisagree h c s) = besideFeedback s :=
  (besideFeedback_raise hc (by decide)).trans (besideFeedback_setSsi _)

omit hc in
theorem besideFeedback_windowStart : besideFeedback (windowStart h c s) = besideFeedback s := by
  simp only [windowStart, besideFeedback_setHall, besideFeedback_setQuad]

theorem besideFeedback_hallCheck (hk : k < 16) (speed : Int) : besideFeedback (hallCheck h c k speed s) = besideFeedback s := by
  simp (disch := decide) only [hallCheck, besideFeedback_branch, besideFeedback_raiseCause hc, besideFeedback_setQuad, besideFeedback_raise hk,
    besideFeedback_count hk, besideFeedback_fput hk, ite_self]

/-! ### Writes of a feedback word -/

theorem besideFeedback_quadEnable : besideFeedback (quadEnable h c s) = besideFeedback s := by
  rw [quadEnable, besideFeedback_causeShow hc, besideFeedback_windowStart, besideFeedback_fput hc _ (by decide), besideFeedback_setQuad]

theorem besideFeedback_quadDisable : besideFeedback (quadDisable h c s) = besideFeedback s := by
  rw [quadDisable, besideFeedback_raiseCause hc, besideFeedback_causeShow hc, besideFeedback_fput hc _ (by decide), besideFeedback_setQuad]

theorem besideFeedback_clrFaultWrite : besideFeedback (clrFaultWrite h c s) = besideFeedback s := by
  simp (disch := decide) only [clrFaultWrite, besideFeedback_branch, besideFeedback_raise hc, besideFeedback_fput hc, besideFeedback_setQuad,
    besideFeedback_causeShow hc, ite_self]

end

theorem besideFeedback_fbkAct (x : WriteCtx) (s : State) : besideFeedback (fbkAct x s) = besideFeedback s := by
  unfold fbkAct
  split
  · next channel =>
    have hc : x.i < 16 := by omega
    simp only [besideFeedback_branch, besideFeedback_clrFaultWrite hc, besideFeedback_quadEnable hc, besideFeedback_quadDisable hc, ite_self]
  · rfl

/-- A write of one of the words that a row writes. -/
theorem besideFeedback_fbkWrite {w : Nat} (row : w = 0 ∨ w = FBK_HCTRL.word ∨ w = FBK_SCTRL.word) (v : Word) :
    besideFeedback (fbkWrite h i w v s) = besideFeedback s := by
  unfold fbkWrite
  split
  · next unit =>
    have hi : i < 8 := by simp only [Bool.and_eq_true, decide_eq_true_eq] at unit; exact unit.2
    have plain : stagedFields BLK_FBK i w = [] := by
      rcases row with rfl | rfl | rfl <;> exact (by decide : ∀ i < 8, stagedFields BLK_FBK i _ = []) i hi
    have hw : w < 2048 := by rcases row with rfl | rfl | rfl <;> decide
    exact outside_hostWrite feedbackRest_regs (by decide) (by decide) (by omega) hw plain _ _ (besideFeedback_fbkAct _)
  · rfl

/-! ### The rows -/

theorem hallOk_inst (ok : hallOk h k = true) : k < 16 := by
  simp only [hallOk, Bool.and_eq_true, Bool.or_eq_true, beq_iff_eq] at ok
  omega

theorem ssiOk_inst (ok : ssiOk h k = true) : k < 16 := by
  simp only [ssiOk, Bool.and_eq_true, Bool.or_eq_true, beq_iff_eq] at ok
  omega

theorem besideFeedback_quadTransition (a b z : Bool) : besideFeedback (quadTransition h c a b z s) = besideFeedback s := by
  cases ok : quadOk h c with
  | false => simp only [quadTransition, ok, Bool.not_false, if_true]
  | true =>
    have hc := quadOk_inst ok
    have shown (v : Nat) : besideFeedback (s.fput h c FBK_STATUS_ZBA v) = besideFeedback s := besideFeedback_fput hc _ (by decide)
    unfold quadTransition
    rw [if_neg (by rw [ok]; decide)]
    exact besideFeedback_ite (shown _) ((besideFeedback_quadMoved hc _).trans (shown _))

theorem besideFeedback_indexPulse : besideFeedback (indexPulse h c s) = besideFeedback s := by
  unfold indexPulse
  split
  · rfl
  · next runs =>
    have hc : c < 16 := by
      simp only [Bool.or_eq_true, Bool.not_eq_true', Bool.and_eq_false_iff, not_or] at runs
      exact quadOk_inst (by simpa using runs.1.1)
    simp (disch := decide) only [besideFeedback_branch, besideFeedback_fput hc, besideFeedback_raise hc, besideFeedback_count hc,
      besideFeedback_setQuad, besideFeedback_indexBad hc, ite_self]

theorem besideFeedback_wireDisagree (w : Nat) (on : Bool) : besideFeedback (wireDisagree h c w on s) = besideFeedback s := by
  unfold wireDisagree
  split
  · next channel =>
    have hc : c < 16 := by
      rw [Bool.and_eq_true] at channel
      exact quadOk_inst channel.1
    simp (disch := decide) only [besideFeedback_branch, besideFeedback_raiseCause hc, besideFeedback_raise hc, besideFeedback_count hc,
      besideFeedback_causeShow hc, besideFeedback_setQuad, ite_self]
  · split
    · next port => simp only [besideFeedback_branch, besideFeedback_ssiDisagree (ssiOk_inst port), besideFeedback_setSsi, ite_self]
    · rfl

theorem besideFeedback_speedWindowEnd : besideFeedback (speedWindowEnd h c s) = besideFeedback s := by
  unfold speedWindowEnd
  split
  · rfl
  · next runs =>
    have hc : c < 16 := by
      simp only [Bool.not_eq_true', Bool.and_eq_false_iff, not_or] at runs
      exact quadOk_inst (by simpa using runs.1)
    dsimp only
    rw [besideFeedback_windowStart, besideFeedback_hallCheck hc (by decide), besideFeedback_hallCheck hc (by decide),
      besideFeedback_fput hc _ (by decide), besideFeedback_fput hc _ (by decide)]

theorem besideFeedback_hallStateChange (st : Nat) : besideFeedback (hallStateChange h k st s) = besideFeedback s := by
  unfold hallStateChange
  split
  · rfl
  · next set =>
    have hk : k < 16 := by
      simp only [Bool.or_eq_true, Bool.not_eq_true', not_or] at set
      exact hallOk_inst (by simpa using set.1)
    have shown (v : Nat) : besideFeedback (s.fput h k FBK_HSTATUS_S v) = besideFeedback s := besideFeedback_fput hk _ (by decide)
    refine besideFeedback_ite (shown _) ?_
    split
    · rw [besideFeedback_raise hk (by decide), besideFeedback_count hk _ (by decide), besideFeedback_fput hk _ (by decide), shown]
    · dsimp only
      split
      · rw [besideFeedback_fput hk _ (by decide), shown]
      · split <;> simp (disch := decide) only [besideFeedback_raise hk, besideFeedback_count hk, besideFeedback_fput hk]

theorem besideFeedback_ssiFrameStart (dat : Bool) : besideFeedback (ssiFrameStart h k dat s) = besideFeedback s := by
  unfold ssiFrameStart
  split
  · next starts =>
    have hk : k < 16 := by
      simp only [Bool.and_eq_true] at starts
      exact ssiOk_inst starts.1.1.1
    simp (disch := decide) only [besideFeedback_branch, besideFeedback_ssiDisagree hk, besideFeedback_setSsi, besideFeedback_raise hk,
      besideFeedback_count hk, ite_self]
  · rfl

theorem besideFeedback_ssiFrameDone (raw : Nat) : besideFeedback (ssiFrameDone h k raw s) = besideFeedback s := by
  unfold ssiFrameDone
  split
  · next ends =>
    have hk : k < 16 := by
      rw [Bool.and_eq_true] at ends
      exact ssiOk_inst ends.1
    simp (disch := decide) only [besideFeedback_branch, besideFeedback_fput hk, besideFeedback_setSsi, ite_self]
  · rfl

end

end Sys2Proof.Machine
end

section
/-! PROOFS. Frames of the rows of motion axes and the time base, and of all the rows of chapter 07 and 13 (R216 to R240, R371 to R382). -/

namespace Sys2Proof.Machine

section
variable {s t : State} {a n : Nat}

/-! ### Motion rows -/

/-- The records that no motion row changes. -/
def motionRest (s : State) : State :=
  { s with regs := [], flues := [], axes := [], drts := [], dops := [], twn := {}, out := [], freeCtr := 0 }

theorem motionRest_unseen : SeesNoMotion motionRest where
  regs _ _ _ := rfl
  drafts _ _ _ := rfl
  axes _ _ _ := rfl
  gathered owner _ _ _ := by cases owner <;> rfl
  out _ _ := rfl
  open' _ _ := rfl

theorem motionRest_frame (same : outside motionRest [BLK_MOT, BLK_DRT] t = outside motionRest [BLK_MOT, BLK_DRT] s) :
    BlocksOnly [BLK_MOT, BLK_DRT] s t ∧
    t = { s with regs := t.regs, flues := t.flues, axes := t.axes, drts := t.drts, dops := t.dops, twn := t.twn, out := t.out,
                 freeCtr := t.freeCtr } := by
  obtain ⟨rest, words⟩ := outside_eq_iff.mp same
  exact ⟨words, congrArg (fun r : State => { r with regs := t.regs, flues := t.flues, axes := t.axes, drts := t.drts, dops := t.dops,
                                                    twn := t.twn, out := t.out, freeCtr := t.freeCtr }) rest⟩

/-- A write of one of the words that a row writes. -/
theorem outside_motWrite {α : Type} {e : State → α} {bs : List Nat} (o : SeesNoMotion e) (mot : BLK_MOT ∈ bs) (drt : BLK_DRT ∈ bs)
    {w : Nat} (row : w = 0 ∨ w = MOT_Q_PUSH.word) (v : Word) : outside e bs (motWrite a w v s) = outside e bs s := by
  have plain : stagedFields BLK_MOT (a % 4) w = [] := by
    rcases row with rfl | rfl <;> exact (by decide : ∀ i < 4, stagedFields BLK_MOT i _ = []) _ (Nat.mod_lt _ (by decide))
  have hw : w < 2048 := by rcases row with rfl | rfl <;> decide
  exact outside_ite (outside_hostWrite o.regs mot (by decide) (axis_inst_lt a) hw plain _ _ fun _ => outside_motAct o mot drt _) rfl

/-! ### Time rows -/

/-- The words of the control register and of the time units have no privileged field. -/
theorem timWords_plain {w : Nat} (row : w ∈ [0, TIM_INC_HI.word] ∨ ∃ n < 16, w = (TIM_TU_CTRL n).word) :
    w < 2048 ∧ stagedFields BLK_TIM 0 w = [] := by
  rcases row with fixed | ⟨n, hn, rfl⟩
  · exact (by decide : ∀ w ∈ [0, TIM_INC_HI.word], w < 2048 ∧ stagedFields BLK_TIM 0 w = []) w fixed
  · exact (by decide : ∀ n < 16, (TIM_TU_CTRL n).word < 2048 ∧ stagedFields BLK_TIM 0 (TIM_TU_CTRL n).word = []) n hn

/-- The projection sees nothing that the time base moves or a unit of it drives by itself. -/
structure SeesNoTime {α : Type} (e : State → α) : Prop where
  regs : SeesNoRegs e
  drafts : SeesNoDraught e
  time : ∀ (s : State) x, e { s with tim := x } = e s
  axes : ∀ s a x, e (State.setAxis s a x) = e s
  out : ∀ s o, e (State.emit s o) = e s

section
variable {α : Type} {e : State → α} {f : Fld} {p : Nat} (o : SeesNoTime e)
include o

theorem outside_tim (x : TimX) : outside e [BLK_TIM] { s with tim := x } = outside e [BLK_TIM] s := outside_records (o.time _ _) rfl

theorem outside_timEmit (x : Out) : outside e [BLK_TIM] (s.emit x) = outside e [BLK_TIM] s := outside_records (o.out _ _) rfl

theorem outside_tput (v : Nat) (c : f.within BLK_TIM) : outside e [BLK_TIM] (tput f v s) = outside e [BLK_TIM] s :=
  outside_fput o.regs (by decide) (by decide) (by decide) v c

theorem outside_timFput (v : Nat) (c : f.within BLK_TIM) : outside e [BLK_TIM] (s.fput 0 0 f v) = outside e [BLK_TIM] s :=
  outside_tput o v c

theorem outside_timCount (n : Nat) (c : f.within BLK_TIM) : outside e [BLK_TIM] (s.count 0 0 f n) = outside e [BLK_TIM] s :=
  outside_tput o _ c

theorem outside_timRaise (c : f.within BLK_TIM) : outside e [BLK_TIM] (s.raise 0 0 f) = outside e [BLK_TIM] s :=
  outside_raise o.regs (by decide) (by decide) (by decide) c

theorem outside_timPut64 (v : Nat) (c : f.blk = BLK_TIM ∧ f.word + 1 < 2048) :
    outside e [BLK_TIM] (s.put64 0 0 f v) = outside e [BLK_TIM] s := by
  rw [State.put64_eq, outside_timFput o (f := f.high) _ c, outside_timFput o (f := f.low) _ ⟨c.1, Nat.lt_of_succ_lt c.2⟩]

theorem outside_setPtp (x : PtpX) : outside e [BLK_TIM] (setPtp p x s) = outside e [BLK_TIM] s := outside_tim o _

theorem outside_setTu (x : TuX) : outside e [BLK_TIM] (setTu n x s) = outside e [BLK_TIM] s := outside_tim o _

theorem outside_ptpGo (v : Nat) : outside e [BLK_TIM] (ptpGo p v s) = outside e [BLK_TIM] s :=
  outside_tput o _ (by split <;> decide)

theorem outside_ptpListen : outside e [BLK_TIM] (ptpListen s) = outside e [BLK_TIM] s := by
  simp only [ptpListen, outside_tim o, outside_ptpGo o]

theorem outside_ptpRefresh : outside e [BLK_TIM] (ptpRefresh s) = outside e [BLK_TIM] s := by
  unfold ptpRefresh
  dsimp only
  split
  · exact outside_ptpGo o _
  · exact outside_ptpListen o

/-! ### The ordinary clock's messages (R377, R378) -/

theorem outside_pathJudge (mpd : Int) : outside e [BLK_TIM] (pathJudge mpd s) = outside e [BLK_TIM] s := by
  simp (disch := decide) only [pathJudge, outside_branch, outside_timRaise o, outside_tput o, outside_tim o, ite_self]

theorem outside_exchange (t1 t2 t3 t4 c1 c4 : Int) : outside e [BLK_TIM] (exchange p t1 t2 t3 t4 c1 c4 s) = outside e [BLK_TIM] s := by
  simp (disch := decide) only [exchange, outside_pathJudge o, outside_tput o]

theorem outside_exchangeTry : outside e [BLK_TIM] (exchangeTry p s) = outside e [BLK_TIM] s := by
  unfold exchangeTry
  dsimp only
  split
  · exact (outside_exchange o ..).trans (outside_setPtp o _)
  · rfl

theorem outside_announce (frame : List Byte) : outside e [BLK_TIM] (announce p frame s) = outside e [BLK_TIM] s := by
  unfold announce
  split
  · rfl
  · simp (disch := decide) only [outside_branch, outside_timRaise o, outside_ptpGo o, outside_timPut64 o, ite_self]

theorem outside_sync (frame : List Byte) (rx tx : Nat) : outside e [BLK_TIM] (sync p frame rx tx s) = outside e [BLK_TIM] s := by
  unfold sync
  split
  · rfl
  · simp (disch := decide) only [outside_branch, outside_timEmit o, outside_timCount o, outside_setPtp o, outside_tim o, ite_self]

theorem outside_followUp (frame : List Byte) : outside e [BLK_TIM] (followUp p frame s) = outside e [BLK_TIM] s := by
  unfold followUp
  split
  · rfl
  · exact outside_ite ((outside_exchangeTry o).trans (outside_setPtp o _)) rfl

theorem outside_delayResp (frame : List Byte) : outside e [BLK_TIM] (delayResp p frame s) = outside e [BLK_TIM] s := by
  unfold delayResp
  split
  · rfl
  · exact outside_ite ((outside_exchangeTry o).trans (outside_setPtp o _)) rfl

theorem outside_masterLost : outside e [BLK_TIM] (masterLost s) = outside e [BLK_TIM] s :=
  outside_ite ((outside_ptpListen o).trans (outside_timRaise o (by decide))) rfl

theorem outside_forwardFrame (frame : List Byte) (rx tx : Nat) :
    outside e [BLK_TIM] (forwardFrame p frame rx tx s) = outside e [BLK_TIM] s := by
  unfold forwardFrame
  refine outside_ite rfl ?_
  split
  · rfl
  · refine outside_ite rfl ?_
    split
    · exact outside_timEmit o _
    · simp (disch := decide) only [outside_branch, outside_timEmit o, outside_timCount o, ite_self]

/-! ### Writes and captures (R371, R373, R379, R380) -/

theorem outside_timStep (set adj : Bool) : outside e [BLK_TIM] (timStep set adj s) = outside e [BLK_TIM] s :=
  outside_ite (outside_tim o _) (outside_ite (outside_tim o _) rfl)

theorem outside_unfreeze : outside e [BLK_TIM] (unfreeze s) = outside e [BLK_TIM] s :=
  outside_ite rfl ((outside_tput o _ (by decide)).trans (outside_tim o _))

theorem outside_timAct (c : WriteCtx) : outside e [BLK_TIM] (timAct c s) = outside e [BLK_TIM] s := by
  unfold timAct
  split
  · simp only [outside_branch, outside_ptpRefresh o, outside_timStep o, outside_unfreeze o, ite_self]
  · split
    · exact outside_ptpRefresh o
    · split
      · next inc =>
        have hw : c.w < 2048 := by rcases inc with w | w <;> rw [w] <;> decide
        exact outside_ite (outside_wr o.regs (by decide) (by decide) (by decide) _ hw) (outside_ite (outside_tim o _) rfl)
      · exact outside_ite (outside_setTu o _) rfl

theorem outside_timWrite {w : Nat} (row : w ∈ [0, TIM_INC_HI.word] ∨ ∃ n < 16, w = (TIM_TU_CTRL n).word) (v : Word) :
    outside e [BLK_TIM] (timWrite w v s) = outside e [BLK_TIM] s := by
  obtain ⟨hw, plain⟩ := timWords_plain row
  exact outside_hostWrite o.regs (by decide) (by decide) (by decide) hw plain _ _ fun _ => outside_timAct o _

theorem outside_tuCapture : outside e [BLK_TIM] (tuCapture n s) = outside e [BLK_TIM] s := by
  unfold tuCapture
  dsimp only
  split
  · rfl
  · next captures =>
    have hn : n < 16 := by
      simp only [Bool.not_eq_true', Bool.and_eq_false_iff, decide_eq_false_iff_not, not_or, not_not] at captures
      exact captures.1.1
    have unit (w lo len : Nat) (hw : w < 1024) : Fld.within ⟨BLK_TIM, w + 16 * n, lo, len⟩ BLK_TIM :=
      ⟨rfl, show w + 16 * n < 2048 by omega⟩
    have latched (sec ns : Nat) : outside e [BLK_TIM] (tput (TIM_TU_CAP_NS_V n) ns (s.put64 0 0 (TIM_TU_CAP_SEC_LO n) sec)) =
        outside e [BLK_TIM] s := by
      rw [outside_tput o _ (unit _ _ _ (by decide)), outside_timPut64 o _ ⟨rfl, show 0x45 + 16 * n + 1 < 2048 by omega⟩]
    rw [outside_timRaise o ⟨rfl, show (0x1e : Nat) < 2048 by decide⟩, outside_timCount o _ (unit _ _ _ (by decide))]
    exact outside_ite (latched _ _) ((outside_tput o _ (unit _ _ _ (by decide))).trans (latched _ _))

/-! ### What a firing drives (R380) -/

theorem outside_tuTarget (code : Nat) : outside e [BLK_TIM] (tuTarget code s) = outside e [BLK_TIM] s := by
  unfold tuTarget
  refine outside_ite (outside_timEmit o _) (outside_ite ?_ (outside_ite ?_ rfl))
  · exact outside_forEach (fun _ _ => outside_ite (outside_records (o.drafts _ _ _) rfl) rfl) _ _
  · exact outside_forEach (fun _ _ => outside_records (o.axes _ _ _) rfl) _ _

variable (ports : ∀ s h p x, e (State.setFbx s h p x) = e s) (cameras : ∀ s h c x, e (State.setCam s h c x) = e s)
  (encoders : ∀ s h k x, e (State.setSsi s h k x) = e s)
include ports cameras encoders

omit o in
theorem outside_tuConsumers : outside e [BLK_TIM] (tuConsumers n s) = outside e [BLK_TIM] s := by
  have temperature (h : Nat) (s : State) : outside e [BLK_TIM] (snsEvent h 1 n s) = outside e [BLK_TIM] s :=
    outside_forEach (fun _ _ => outside_ite (outside_records (ports _ _ _ _) rfl) rfl) _ _
  have camera (s : State) : outside e [BLK_TIM] (camUnit n s) = outside e [BLK_TIM] s :=
    outside_forEach (fun _ _ => outside_forEach (fun _ _ => outside_ite (outside_records (cameras _ _ _ _) rfl) rfl) _ _) _ _
  have encoder (s : State) : outside e [BLK_TIM] (ssiUnit n s) = outside e [BLK_TIM] s :=
    outside_forEach (fun _ _ => outside_forEach (fun _ _ => outside_ite (outside_records (encoders _ _ _ _) rfl) rfl) _ _) _ _
  rw [tuConsumers, encoder, camera, outside_forEach temperature]

theorem outside_tuFire : outside e [BLK_TIM] (tuFire n s) = outside e [BLK_TIM] s := by
  unfold tuFire
  dsimp only
  split
  · rfl
  · next fires =>
    have hn : n < 16 := by
      simp only [Bool.not_eq_true', Bool.and_eq_false_iff, decide_eq_false_iff_not, not_or, not_not] at fires
      exact fires.1.1
    have mode (v : Nat) : outside e [BLK_TIM] (tput (TIM_TU_CTRL_MODE n) v s) = outside e [BLK_TIM] s :=
      outside_tput o _ ⟨rfl, show 0x40 + 16 * n < 2048 by omega⟩
    rw [outside_tuConsumers ports cameras encoders, outside_timEmit o, outside_tuTarget o,
      outside_timRaise o ⟨rfl, show (0x1e : Nat) < 2048 by decide⟩]
    simp (disch := decide) only [outside_branch, mode, outside_timRaise o, outside_timCount o, outside_setTu o, ite_self]

end

/-- The records that no row of the time base changes, a firing apart. -/
def timeRest (s : State) : State := { s with regs := [], flues := [], tim := {}, drts := [], axes := [], out := [] }

/-- The records that no firing of a time unit changes. -/
def firingRest (s : State) : State :=
  { s with regs := [], flues := [], tim := {}, drts := [], axes := [], ssis := [], fbxs := [], cams := [], out := [] }

theorem timeRest_unseen : SeesNoTime timeRest :=
  ⟨fun _ _ _ => rfl, fun _ _ _ => rfl, fun _ _ => rfl, fun _ _ _ => rfl, fun _ _ => rfl⟩

theorem firingRest_unseen : SeesNoTime firingRest :=
  ⟨fun _ _ _ => rfl, fun _ _ _ => rfl, fun _ _ => rfl, fun _ _ _ => rfl, fun _ _ => rfl⟩

theorem timeRest_frame (same : outside timeRest [BLK_TIM] t = outside timeRest [BLK_TIM] s) : BlocksOnly [BLK_TIM] s t ∧
    t = { s with regs := t.regs, flues := t.flues, tim := t.tim, drts := t.drts, axes := t.axes, out := t.out } := by
  obtain ⟨rest, words⟩ := outside_eq_iff.mp same
  exact ⟨words, congrArg (fun r : State => { r with regs := t.regs, flues := t.flues, tim := t.tim, drts := t.drts, axes := t.axes,
                                                    out := t.out }) rest⟩

theorem firingRest_frame (same : outside firingRest [BLK_TIM] t = outside firingRest [BLK_TIM] s) : BlocksOnly [BLK_TIM] s t ∧
    t = { s with regs := t.regs, flues := t.flues, tim := t.tim, drts := t.drts, axes := t.axes, ssis := t.ssis, fbxs := t.fbxs,
                 cams := t.cams, out := t.out } := by
  obtain ⟨rest, words⟩ := outside_eq_iff.mp same
  exact ⟨words, congrArg (fun r : State => { r with regs := t.regs, flues := t.flues, tim := t.tim, drts := t.drts, axes := t.axes,
                                                    ssis := t.ssis, fbxs := t.fbxs, cams := t.cams, out := t.out }) rest⟩

end

/-- Settles O6: each row is the display after its own operation, and the operation's frame is that of its parts. -/
theorem feedbackMotionAndTimeRowsTouchOnlyTheirOwn : Obligations.FeedbackMotionAndTimeRowsTouchOnlyTheirOwn := by
  refine fun s c => ⟨fun row => ?feedback, fun row => ?motion, fun row => ?time, ?fire⟩
  case feedback =>
    suffices ∃ t, exec c s = .next (settle t) ∧ besideFeedback t = besideFeedback s from
      let ⟨t, run, same⟩ := this
      ⟨t, run, besideFeedback_frame same⟩
    rcases row with ⟨h, i, a, b, z, rfl⟩ | ⟨h, i, rfl⟩ | ⟨h, i, w, on, rfl⟩ | ⟨h, i, rfl⟩ | ⟨h, k, st, rfl⟩ | ⟨h, i, rfl⟩ | ⟨h, i, v, rfl⟩ |
      ⟨h, k, d, rfl⟩ | ⟨h, k, r, rfl⟩ | ⟨h, k, v, rfl⟩
    · exact ⟨_, rfl, besideFeedback_quadTransition a b z⟩
    · exact ⟨_, rfl, besideFeedback_indexPulse⟩
    · exact ⟨_, rfl, besideFeedback_wireDisagree w on⟩
    · exact ⟨_, rfl, besideFeedback_speedWindowEnd⟩
    · exact ⟨_, rfl, besideFeedback_hallStateChange st⟩
    · exact ⟨_, rfl, besideFeedback_ite (besideFeedback_fbkWrite (.inl rfl) _) rfl⟩
    · exact ⟨_, rfl, besideFeedback_ite (besideFeedback_fbkWrite (.inl rfl) _) rfl⟩
    · exact ⟨_, rfl, besideFeedback_ssiFrameStart d⟩
    · exact ⟨_, rfl, besideFeedback_ssiFrameDone r⟩
    · exact ⟨_, rfl, besideFeedback_ite (besideFeedback_fbkWrite (.inr (.inl rfl)) _)
        (besideFeedback_ite (besideFeedback_fbkWrite (.inr (.inr rfl)) _) rfl)⟩
  case motion =>
    suffices ∃ t, exec c s = .next (settle t) ∧ outside motionRest [BLK_MOT, BLK_DRT] t = outside motionRest [BLK_MOT, BLK_DRT] s from
      let ⟨t, run, same⟩ := this
      ⟨t, run, motionRest_frame same⟩
    have o := motionRest_unseen
    have mot : BLK_MOT ∈ [BLK_MOT, BLK_DRT] := by decide
    have drt : BLK_DRT ∈ [BLK_MOT, BLK_DRT] := by decide
    rcases row with ⟨a, rfl⟩ | ⟨a, rfl⟩ | ⟨a, rfl⟩ | ⟨a, v, rfl⟩ | ⟨a, rfl⟩ | ⟨a, rfl⟩ | ⟨a, w, l, e, rfl⟩ | ⟨a, rfl⟩ | ⟨a, rfl⟩ | ⟨a, rfl⟩ |
      ⟨a, v, rfl⟩ | ⟨a, rfl⟩ | ⟨a, rfl⟩
    · exact ⟨_, rfl, outside_ite (outside_axisStep o mot drt) rfl⟩
    · exact ⟨_, rfl, outside_profileTickRow o mot drt⟩
    · exact ⟨_, rfl, outside_phaseFrameSent o mot⟩
    · exact ⟨_, rfl, outside_motWrite o mot drt (.inr rfl) v⟩
    · exact ⟨_, rfl, outside_standstill o mot⟩
    · exact ⟨_, rfl, outside_ite (outside_setAxis o _) rfl⟩
    · exact ⟨_, rfl, outside_switchDebounceEnd o mot drt w l e⟩
    · exact ⟨_, rfl, outside_motWrite o mot drt (.inl rfl) _⟩
    · exact ⟨_, rfl, outside_motWrite o mot drt (.inl rfl) _⟩
    · exact ⟨_, rfl, outside_motWrite o mot drt (.inl rfl) _⟩
    · exact ⟨_, rfl, outside_motWrite o mot drt (.inl rfl) v⟩
    · exact ⟨_, rfl, outside_motDrainTimeout o⟩
    · exact ⟨_, rfl, outside_motWrite o mot drt (.inl rfl) _⟩
  case time =>
    suffices ∃ t, exec c s = .next (settle t) ∧ outside timeRest [BLK_TIM] t = outside timeRest [BLK_TIM] s from
      let ⟨t, run, same⟩ := this
      ⟨t, run, timeRest_frame same⟩
    have o := timeRest_unseen
    rcases row with ⟨v, rfl⟩ | rfl | rfl | rfl | ⟨p, f, r, x, rfl⟩ | ⟨p, f, rfl⟩ | ⟨p, f, r, x, rfl⟩ | ⟨p, f, rfl⟩ | ⟨p, f, rfl⟩ | rfl |
      ⟨n, v, rfl⟩ | ⟨n, rfl⟩
    · exact ⟨_, rfl, outside_timWrite o (.inl (by decide)) v⟩
    · exact ⟨_, rfl, outside_timWrite o (.inl (by decide)) _⟩
    · exact ⟨_, rfl, outside_timWrite o (.inl (by decide)) _⟩
    · exact ⟨_, rfl, outside_timWrite o (.inl (by decide)) _⟩
    · exact ⟨_, rfl, outside_forwardFrame o f r x⟩
    · exact ⟨_, rfl, outside_announce o f⟩
    · exact ⟨_, rfl, outside_sync o f r x⟩
    · exact ⟨_, rfl, outside_followUp o f⟩
    · exact ⟨_, rfl, outside_delayResp o f⟩
    · exact ⟨_, rfl, outside_masterLost o⟩
    · refine ⟨_, rfl, ?_⟩
      split
      · next unit => exact outside_timWrite o (.inr ⟨n, unit, rfl⟩) v
      · rfl
    · exact ⟨_, rfl, outside_tuCapture o⟩
  case fire =>
    rintro ⟨n, rfl⟩
    have same := outside_tuFire firingRest_unseen (n := n) (s := s) (fun _ _ _ _ => rfl) (fun _ _ _ _ => rfl) (fun _ _ _ _ => rfl)
    exact ⟨_, rfl, firingRest_frame same⟩

end Sys2Proof.Machine
end

section
/-! PROOFS. What follows a command leaves FBK_STATUS of channel 0 of hearth 0, or leaves bit 2 of its FBK_QEVENT_EN on: every unit but a
decoder writes other words, and a decoder whose register file falls together with the channel's raises RAW_SEEN as it counts raw blocks
(log 14). -/

namespace Sys2Proof.Machine

/-- FBK_STATUS and FBK_QEVENT_EN of channel 0 of hearth 0 in a table of registers. -/
def channelWords (r : Tab Word) : Word × Word :=
  (tabGet dfltReg r (rkey 0 BLK_FBK 0 FBK_STATUS.word), tabGet dfltReg r (rkey 0 BLK_FBK 0 FBK_QEVENT_EN.word))

/-- A field of another block. -/
abbrev Fld.besideChannel (f : Fld) : Prop := f.blk ≠ BLK_FBK ∧ f.blk < 256 ∧ f.word < 2048

section
variable {s t : State} {h i a : Nat} {f : Fld}

theorem channelWords_eq (words : ∀ w ∈ [FBK_STATUS.word, FBK_QEVENT_EN.word], t.rd 0 0 BLK_FBK w = s.rd 0 0 BLK_FBK w) :
    channelWords t.regs = channelWords s.regs := Prod.ext (words _ (by decide)) (words _ (by decide))

/-! ### Registers and events -/

theorem channelWords_wr {b w : Nat} (v : Word) (hi : i < 16) (c : b ≠ BLK_FBK ∧ b < 256 ∧ w < 2048) :
    channelWords (s.wr h i b w v).regs = channelWords s.regs := by
  obtain ⟨other, hb, hw⟩ := c
  refine channelWords_eq fun k m => State.rd_wr_ne _ _ ?_
  have hk : k < 2048 := (by decide : ∀ k ∈ [FBK_STATUS.word, FBK_QEVENT_EN.word], k < 2048) k m
  exact rkey_ne (by decide) hk (by decide) hi hw hb fun same => other same.2.2.1.symm

theorem channelWords_fput (v : Nat) (hi : i < 16) (c : f.besideChannel) : channelWords (s.fput h i f v).regs = channelWords s.regs :=
  channelWords_wr _ hi c

theorem channelWords_fputB (b : Bool) (hi : i < 16) (c : f.besideChannel) : channelWords (s.fputB h i f b).regs = channelWords s.regs :=
  channelWords_fput _ hi c

theorem channelWords_count (n : Nat) (hi : i < 16) (c : f.besideChannel) : channelWords (s.count h i f n).regs = channelWords s.regs :=
  channelWords_fput _ hi c

theorem channelWords_put64 (v : Nat) (hi : i < 16) (low : f.low.besideChannel) (high : f.high.besideChannel) :
    channelWords (s.put64 h i f v).regs = channelWords s.regs := by
  rw [State.put64_eq, channelWords_fput _ hi high, channelWords_fput _ hi low]

/-- The words of a feedback block count no lost event words. -/
theorem channel_noLoss {w : Nat} (m : w ∈ [FBK_STATUS.word, FBK_QEVENT_EN.word]) : NoLossCounter 0 BLK_FBK w :=
  Fld.offLossBlk_no (g := ⟨BLK_FBK, w, 0, 32⟩) (by decide)
    ((by decide : ∀ w ∈ [FBK_STATUS.word, FBK_QEVENT_EN.word], Fld.offLossBlk ⟨BLK_FBK, w, 0, 32⟩ = true) w m)

theorem channelWords_raise (hi : i < 16) (c : f.besideChannel) : channelWords (s.raise h i f).regs = channelWords s.regs := by
  obtain ⟨other, hb, hw⟩ := c
  refine channelWords_eq fun k m => raise_rd _ _ _ _ (channel_noLoss m) ?_
  exact rkey_ne (by decide) (channel_noLoss m).1 (by decide) hi hw hb fun same => other same.2.2.1.symm

theorem channelWords_postEvent (k : Nat) : channelWords (postEvent h i f k s).regs = channelWords s.regs :=
  channelWords_eq fun _ m => postEvent_rd _ _ _ _ _ (channel_noLoss m)

theorem channelWords_fwEvent (code : Nat) : channelWords (fwEvent h code s).regs = channelWords s.regs :=
  channelWords_eq fun _ m => fwEvent_rd _ _ _ (channel_noLoss m)

@[simp] theorem channelWords_ite (c : Prop) [Decidable c] (a b : State) :
    channelWords (if c then a else b).regs = if c then channelWords a.regs else channelWords b.regs := by
  split <;> rfl

theorem channelWords_forEach {α : Type} {f : α → State → State} (each : ∀ x s, channelWords (f x s).regs = channelWords s.regs)
    (xs : List α) (s : State) : channelWords (forEach xs f s).regs = channelWords s.regs :=
  forEach_keeps (P := fun t => channelWords t.regs = channelWords s.regs) (fun x t same => (each x t).trans same) xs s rfl

/-- What keeps to the blocks of axes and Draughts leaves the channel's words. -/
theorem channelWords_of_outside {bs : List Nat} (same : outside (fun _ => ()) bs t = outside (fun _ => ()) bs s) (out : BLK_FBK ∉ bs) :
    channelWords t.regs = channelWords s.regs := by
  obtain ⟨-, words⟩ := outside_eq_iff.mp same
  refine channelWords_eq fun w m => words 0 0 _ _ (by decide) (by decide) (channel_noLoss m).1 out ?_
  rintro (⟨b, -⟩ | ⟨b, -⟩) <;> cases b

/-! ### Axes and Draughts -/

theorem unit_unseen : SeesNoMotion (fun _ : State => ()) := ⟨fun _ _ _ => rfl, fun _ _ _ => rfl, fun _ _ _ => rfl, fun _ _ _ _ => rfl,
  fun _ _ => rfl, fun _ _ => rfl⟩

theorem motWrite_channelWords {w : Nat} (row : w = 0 ∨ w = MOT_Q_PUSH.word) (v : Word) :
    channelWords (motWrite a w v s).regs = channelWords s.regs :=
  channelWords_of_outside (outside_motWrite (bs := [BLK_MOT, BLK_DRT]) unit_unseen (by decide) (by decide) row v) (by decide)

@[simp] theorem queuePush_channelWords (target : Int) (vmax : Nat) (blend : Bool) (feed : Option Nat) (owner : Option (Nat × Nat)) :
    channelWords (queuePush a target vmax blend feed s owner).1.regs = channelWords s.regs :=
  channelWords_of_outside (outside_queuePush (bs := [BLK_MOT]) unit_unseen (by decide) ..) (by decide)

@[simp] theorem drtGo_channelWords (st : Nat) : channelWords (drtGo h st s).regs = channelWords s.regs :=
  channelWords_of_outside (outside_drtGo (bs := [BLK_DRT]) unit_unseen.regs (by decide) st) (by decide)

@[simp] theorem markHearth_channelWords (why : Nat) : channelWords (markHearth h why s).regs = channelWords s.regs :=
  channelWords_of_outside (outside_markHearth (bs := [BLK_DRT]) unit_unseen.regs (by decide) (fun _ _ _ => rfl) why) (by decide)

@[simp] theorem drtHold_channelWords : channelWords (drtHold h s).regs = channelWords s.regs :=
  channelWords_of_outside (outside_drtHold (bs := [BLK_DRT]) unit_unseen.regs unit_unseen.drafts (by decide) (fun _ _ _ => rfl)) (by decide)

@[simp] theorem loopStart_channelWords : channelWords (loopStart h s).regs = channelWords s.regs := by
  simp (disch := decide) [loopStart, channelWords_fput]

@[simp] theorem drtEnable_channelWords : channelWords (drtEnable h s).regs = channelWords s.regs := by simp [drtEnable, clkRest]

@[simp] theorem drtDisable_channelWords : channelWords (drtDisable h s).regs = channelWords s.regs := by
  simp (disch := decide) [drtDisable, clkRest, channelWords_fput]

@[simp] theorem startArm_channelWords : channelWords (startArm h s).regs = channelWords s.regs := by
  simp (disch := decide) [startArm, armPass, armStart, channelWords_fput, channelWords_raise]

@[simp] theorem drtAct_channelWords (c : WriteCtx) : channelWords (drtAct c s).regs = channelWords s.regs := by
  simp (disch := decide) [drtAct, resumeWrite, clkRest, channelWords_fputB]

/-- A command's write of a word of DRT. -/
theorem putWord_drt_channelWords {w : Nat} (hw : w < 2048) (v : Word) :
    channelWords (putWord BLK_DRT h 0 w v s).regs = channelWords s.regs := by
  have kept {act : WriteCtx → State → State} (keeps : ∀ c s, channelWords (act c s).regs = channelWords s.regs) :
      channelWords (hostWrite BLK_DRT (blockOpen BLK_DRT) act h 0 w v false s).regs = channelWords s.regs := by
    rw [hostWrite_eq, keeps]
    exact channelWords_eq fun k m => stored_rd_ne (rkey_ne (by decide) (channel_noLoss m).1 (by decide) (by decide) hw (by decide)
      fun same => absurd same.2.2.1 (by decide))
  have write : putWord BLK_DRT h 0 w v s = if (eventEnWords BLK_DRT).contains w ∧ BLK_DRT ≠ BLK_MBX ∧ BLK_DRT ≠ BLK_TWN then
      hostWrite BLK_DRT (blockOpen BLK_DRT) (eventEnableAct BLK_DRT) h 0 w v false s
      else hostWrite BLK_DRT (blockOpen BLK_DRT) (blockAct BLK_DRT) h 0 w v false s := by
    unfold putWord regWrite
    rw [if_neg (by simp)]
    rfl
  rw [write, channelWords_ite, kept (act := eventEnableAct BLK_DRT) fun c s => channelWords_forEach (fun b s => channelWords_postEvent _) _ _,
    kept (act := blockAct BLK_DRT) fun c s => drtAct_channelWords c, ite_self]

theorem putFlds_drt_channelWords {w : Nat} (hw : w < 2048) (fs : List (Fld × Nat)) :
    channelWords (putFlds h 0 BLK_DRT w fs s).regs = channelWords s.regs := putWord_drt_channelWords hw _

/-! ### Stand-alone motions -/

@[simp] theorem aloneEnded_channelWords : channelWords (aloneEnded s).regs = channelWords s.regs := by
  simp [aloneEnded, goHosted, channelWords_fwEvent]

@[simp] theorem axisOn_channelWords : channelWords (axisOn a s).regs = channelWords s.regs := by
  simp [axisOn, motWrite_channelWords]

@[simp] theorem chartArm_channelWords (k : AloneCfg) : channelWords (chartArm k s).regs = channelWords s.regs :=
  channelWords_forEach (fun h s => by simp (disch := decide) [putWord_drt_channelWords, putFlds_drt_channelWords]) _ _

@[simp] theorem aloneStep_channelWords (n : Nat) : channelWords (aloneStep n s).regs = channelWords s.regs := by
  induction n generalizing s with
  | zero => rfl
  | succ n ih =>
    unfold aloneStep
    split
    · simp
    · simp
    · next st rest k _ _ => cases st <;> simp [ih, motWrite_channelWords]

@[simp] theorem aloneMotion_channelWords : channelWords (aloneMotion s).regs = channelWords s.regs := by simp [aloneMotion]

/-! ### The Chimney -/

@[simp] theorem place_channelWords (join : Nat → OutX → Pkt → OutX) (level : Nat) (p : Pkt) :
    channelWords (place join level h p s).regs = channelWords s.regs := by
  unfold place
  dsimp only
  split_ifs
  · cases p.mem <;> simp [State.setOut]
  all_goals split <;> simp (disch := decide) [State.setOut, unreach, channelWords_count, channelWords_raise]

@[simp] theorem linkFollow_channelWords (l : Nat) : channelWords (linkFollow h l s).regs = channelWords s.regs := by
  have hop (e : Nat × Pkt) (s : State) : channelWords (hopDone h l e.2 s).regs = channelWords s.regs := place_channelWords _ _ _
  unfold linkFollow
  dsimp only
  split
  · rfl
  · rw [channelWords_forEach hop]
    rfl

@[simp] theorem refreshFollow_channelWords : channelWords (refreshFollow h s).regs = channelWords s.regs := by
  have row (e : Nat × Nat × Nat × Nat) (s : State) :
      channelWords (rowRefreshed h e.1 e.2.1 e.2.2.1 s).regs = channelWords s.regs := by
    simp (disch := decide) [rowRefreshed, channelWords_count]
  unfold refreshFollow
  dsimp only
  split
  · rfl
  · simp [channelWords_forEach row]

@[simp] theorem fabricFollow_channelWords : channelWords (fabricFollow s).regs = channelWords s.regs :=
  channelWords_forEach (fun h s => by simp [hearthFollow]) _ _

/-! ### Pages and credit -/

@[simp] theorem basRefresh_channelWords : channelWords (basRefresh h s).regs = channelWords s.regs := by
  obtain ⟨rp, mark, page, free, dec, pages, bufs, ahead, hold, active, e⟩ := basRefresh_eq h s
  rw [e]
  simp (disch := decide) [State.fputB_eq, channelWords_fput, channelWords_put64]

@[simp] theorem basDrainCheck_channelWords : channelWords (basDrainCheck h s).regs = channelWords s.regs := by
  simp (disch := decide) [basDrainCheck, basEnable, channelWords_fput, channelWords_raise]

@[simp] theorem ringTrim_channelWords : channelWords (ringTrim h s).regs = channelWords s.regs := by
  simp (disch := decide) [ringTrim, channelWords_put64]

@[simp] theorem lbSweep_channelWords : channelWords (lbSweep h s).regs = channelWords s.regs :=
  channelWords_forEach (fun k s => by simp (disch := decide) [channelWords_fput, channelWords_raise]) _ _

theorem creditRefresh_channelWords (hi : i < 16) : channelWords (creditRefresh h i s).regs = channelWords s.regs := by
  rcases creditRefresh_cases h i s with e | ⟨lim, stalls, begins, e⟩ <;> rw [e]
  have set (t : State) : channelWords ((t.put64 h i GOR_CREDIT_LO lim).fputB h i GOR_STATUS_CREDIT_STALL stalls).regs =
      channelWords t.regs := by
    rw [channelWords_fputB _ hi (by decide), channelWords_put64 _ hi (by decide) (by decide)]
  cases begins with
  | false => exact set s
  | true => exact (channelWords_raise hi (by decide)).trans (set s)

/-! ### Decoders -/

/-- Channel 0 of hearth 0 shows the cause OFF, or bit 2 of its event enables is on. -/
def CauseOff (s : State) : Prop := bit (s.fget 0 0 FBK_STATUS_CAUSE) 6 = true ∨ s.fon 0 0 FBK_QEVENT_EN_WIRE = true

variable {d : Nat}

theorem CauseOff.of_words (shows : CauseOff s) (same : channelWords t.regs = channelWords s.regs) : CauseOff t := by
  have status : t.rd 0 0 BLK_FBK FBK_STATUS.word = s.rd 0 0 BLK_FBK FBK_STATUS.word := congrArg Prod.fst same
  have enable : t.rd 0 0 BLK_FBK FBK_QEVENT_EN.word = s.rd 0 0 BLK_FBK FBK_QEVENT_EN.word := congrArg Prod.snd same
  unfold CauseOff State.fon State.fget at shows ⊢
  rwa [status, enable]

/-- A field in neither word, by the word's number. -/
abbrev Fld.offChannel (f : Fld) : Prop := FBK_STATUS_CAUSE.offWord f = true ∧ FBK_QEVENT_EN_WIRE.offWord f = true

theorem CauseOff.fput (shows : CauseOff s) (v : Nat) (c : f.offChannel) : CauseOff (s.fput h d f v) := by
  unfold CauseOff State.fon
  rw [State.fget_fput_off _ _ _ _ _ _ _ _ c.1, State.fget_fput_off _ _ _ _ _ _ _ _ c.2]
  exact shows

theorem CauseOff.count (shows : CauseOff s) (n : Nat) (c : f.offChannel) : CauseOff (s.count h d f n) := shows.fput _ c

theorem CauseOff.put64 (shows : CauseOff s) (v : Nat) (low : f.low.offChannel) (high : f.high.offChannel) : CauseOff (s.put64 h d f v) := by
  rw [State.put64_eq]
  exact (shows.fput _ low).fput _ high

/-- The word of a decoder's events falls together with the channel's event enables. -/
abbrev FilesMeet (h d : Nat) : Prop := rkey 0 BLK_FBK 0 FBK_QEVENT_EN.word = rkey h BLK_CIN d CIN_EVENT.word

/-- Where the files meet, RAW_SEEN is the channel's event enable. -/
theorem FilesMeet.enable (meets : FilesMeet h d) : s.fon 0 0 FBK_QEVENT_EN_WIRE = s.fon h d CIN_EVENT_RAW_SEEN := by
  have word : s.rd 0 0 BLK_FBK FBK_QEVENT_EN.word = s.rd h d BLK_CIN CIN_EVENT.word := congrArg (tabGet dfltReg s.regs) meets
  exact congrArg (fun w : Word => bits w.toNat 2 1 != 0) word

theorem rawSeen_sets : (s.raise h d CIN_EVENT_RAW_SEEN).fon h d CIN_EVENT_RAW_SEEN = true :=
  raise_sets _ _ _ _ (by decide) (by decide) (Fld.offLoss_no _ (by decide))

/-- An event of a decoder. -/
theorem CauseOff.raise (shows : CauseOff s) (c : f.blk = BLK_CIN ∧ f.word = CIN_EVENT.word)
    (seen : f = CIN_EVENT_RAW_SEEN ∨ CIN_EVENT_RAW_SEEN.clears f) : CauseOff (s.raise h d f) := by
  obtain ⟨blk, word⟩ := c
  have events : rkey h f.blk d f.word = rkey h BLK_CIN d CIN_EVENT.word := by rw [blk, word]
  have off : FBK_STATUS_CAUSE.offWord f = true := by simp only [Fld.offWord, word]; decide
  have cause : (s.raise h d f).fget 0 0 FBK_STATUS_CAUSE = s.fget 0 0 FBK_STATUS_CAUSE := raise_fget_off _ _ _ _ _ _ _ off (by decide)
  unfold CauseOff
  rw [cause]
  refine shows.imp_right fun on => ?_
  by_cases meets : FilesMeet h d
  · rw [meets.enable] at on ⊢
    rcases seen with rfl | apart
    · exact rawSeen_sets
    · rw [State.fon_eq, raise_fget_clears apart (by decide)]
      exact on
  · rw [State.fon_eq, raise_fget _ _ _ _ (channel_noLoss (by decide)) (by rw [events]; exact meets)]
    exact on

/-- Raw blocks are counted with their event. -/
theorem CauseOff.rawCount (shows : CauseOff s) (n : Nat) : CauseOff (rawCount h d n s) := by
  unfold Machine.rawCount
  split
  · exact shows
  · by_cases meets : FilesMeet h d
    · exact .inr (meets.enable.trans rawSeen_sets)
    · have status : rkey 0 BLK_FBK 0 FBK_STATUS.word ≠ rkey h BLK_CIN d CIN_RAW_BLOCKS.word := by
        intro same
        refine meets ?_
        simp only [FilesMeet, rkey, BLK_FBK, BLK_CIN] at same ⊢
        omega
      refine CauseOff.raise ?_ ⟨rfl, rfl⟩ (.inl rfl)
      unfold CauseOff State.fon
      rw [State.count_eq, State.fget_fput_ne (f := CIN_RAW_BLOCKS) (g := FBK_STATUS_CAUSE) _ _ status,
        State.fget_fput_off _ _ _ _ _ CIN_RAW_BLOCKS FBK_QEVENT_EN_WIRE _ (by decide)]
      exact shows

theorem CauseOff.jobPart (shows : CauseOff s) (h d : Nat) : CauseOff (jobPart h d s) := by
  unfold Machine.jobPart
  split
  · exact shows
  · have opened : CauseOff ((s.free 32).2.free 64).2 := shows.of_words rfl
    exact (opened.rawCount _).put64 _ (by decide) (by decide)

theorem CauseOff.cinOff (shows : CauseOff s) (res : Nat) : CauseOff (cinOff h d res s) :=
  ((shows.fput _ (by decide)).fput _ (by decide)).raise (by decide) (.inr (by decide))

theorem CauseOff.cinResume (shows : CauseOff s) : CauseOff (cinResume h d s) := by
  unfold Machine.cinResume cinEnable
  dsimp only
  have page (x : BasX) : CauseOff (s.setBas h x) := shows.of_words rfl
  split
  · split
    · exact (page _).fput _ (by decide)
    · exact ((page _).fput _ (by decide)).fput _ (by decide)
  · exact shows

theorem CauseOff.jobCounted (shows : CauseOff s) (st : Nat) : CauseOff (jobCounted h d st s) := by
  have done := ((shows.count (h := h) (d := d) (f := CIN_JOBS) 1 (by decide)).fput (h := h) (d := d) (f := CIN_STATUS_LAST_STATUS) st
    (by decide)).raise (h := h) (d := d) (f := CIN_EVENT_JOB_DONE) (by decide) (.inr (by decide))
  unfold Machine.jobCounted
  dsimp only
  split
  · exact done
  · exact (done.count _ (by decide)).raise (by decide) (.inr (by decide))

theorem CauseOff.cinRecord (shows : CauseOff s) (h d st : Nat) : CauseOff (cinRecord h d st s) := by
  rw [cinRecord_eq]
  split
  · exact ((shows.jobCounted st).cinOff 3).cinResume
  · exact (shows.jobCounted st).fput _ (by decide)

theorem CauseOff.stopJobs (shows : CauseOff s) (h pg : Nat) : CauseOff (stopJobs h pg s) := by
  unfold Machine.stopJobs
  split
  · exact shows
  · refine forEach_keeps (fun d t held => held.cinRecord h d 4) _ _ ?_
    exact CauseOff.of_words (s := forEach _ (Machine.jobPart h) s) (forEach_keeps (fun d t held => held.jobPart h d) _ _ shows) rfl

/-! ### What follows every command -/

theorem CauseOff.removePage (shows : CauseOff s) (h pg : Nat) (lost : Bool) : CauseOff (removePage h pg lost s) := by
  unfold Machine.removePage
  split
  · exact shows
  · exact (shows.stopJobs h pg).of_words (by simp)

theorem CauseOff.releaseHeld (shows : CauseOff s) (h : Nat) : CauseOff (releaseHeld h s) := by
  refine forEach_keeps (fun p t held => ?_) _ _ shows
  split
  · exact held
  · exact held.removePage h p.id false

theorem CauseOff.releasePage (shows : CauseOff s) (h pg : Nat) : CauseOff (releasePage h pg s) := by
  unfold Machine.releasePage
  split
  · exact shows.of_words rfl
  · exact shows.removePage h pg false

theorem CauseOff.retainKeep (shows : CauseOff s) (h extra : Nat) : CauseOff (retainKeep h extra s) := by
  unfold Machine.retainKeep
  dsimp only
  split
  · exact shows
  · refine forEach_keeps (fun p t held => ?_) _ _ shows
    split
    · exact held
    · exact (held.releasePage h p.id).of_words (channelWords_raise (by decide) (by decide))

theorem CauseOff.basinsFollow (shows : CauseOff s) : CauseOff (basinsFollow s) :=
  forEach_keeps (fun h t held => ((held.releaseHeld h).retainKeep h 0).of_words
    ((creditRefresh_channelWords (by decide)).trans (creditRefresh_channelWords (by decide)))) _ _ shows

@[simp] theorem settleOps_channelWords : channelWords (settleOps s).regs = channelWords s.regs :=
  channelWords_forEach (fun d s => by simp) _ _

theorem CauseOff.settle (shows : CauseOff s) : CauseOff (settle s) := by
  have before : CauseOff (fabricFollow (aloneMotion s)) := shows.of_words (by simp)
  have released (xs : List TwnCmd) (t : State) : channelWords (forEach xs twinRelease t).regs = channelWords t.regs :=
    channelWords_forEach (fun c s => congrArg channelWords (twinRelease_regs (s := s) c)) _ _
  refine before.basinsFollow.of_words ?_
  simp (disch := decide) [Machine.settle, gateShow, channelWords_fput, inJunior, released]

end

/-! ### Obligation -/

/-- Channel 0 of hearth 0 enabled, with a bit of its wires set that stands for no pair. -/
def staleWires : State := (State.reset.fput 0 0 FBK_QCTRL_EN 1).setQuad 0 0 { wires := 64 }

/-- The causes shown after a disable are the sum of the wires and OFF, of which the field keeps seven bits. -/
theorem staleWires_disabled :
    bit ((settle (fbkWrite 0 0 0 0#32 staleWires)).fget 0 0 FBK_STATUS_CAUSE) 6 = false ∧
    (settle (fbkWrite 0 0 0 0#32 staleWires)).fon 0 0 FBK_QEVENT_EN_WIRE = false := by decide +kernel

/-- Refutes O44: with bit 6 of a channel's wires set, a disable shows 64 + 64 in the seven bits of CAUSE, and OFF reads 0; no state that
shows OFF can settle to that one. -/
theorem not_channelFaultsSpeedHallAndSsi : ¬ Obligations.ChannelFaultsSpeedHallAndSsi := by
  intro holds
  obtain ⟨faults, -⟩ := holds
  obtain ⟨-, disables, -⟩ := faults staleWires 0 0 (by decide)
  obtain ⟨t, answers, -, -, -, off, -⟩ := disables 0#32 (by decide +kernel) (by decide)
  have same : settle (fbkWrite 0 0 0 0#32 staleWires) = settle t := Host.Outcome.next.inj answers
  have shows : CauseOff (settle t) := CauseOff.settle (.inl off)
  obtain ⟨cause, enable⟩ := staleWires_disabled
  rw [← same, CauseOff, cause, enable] at shows
  simp at shows

end Sys2Proof.Machine
end

section
/-! PROOFS. Links of the Chimney that fail and rise (R247): what a link's loss and return leave of the other links, the part and the
events raised before, and the resends counted towards the limit. -/

namespace Sys2Proof.Machine

/-- A Chimney event of one bit. -/
abbrev Fld.chmEvent (e : Fld) : Prop := e.blk = BLK_CHM ∧ e.word = CHM_EVENT.word ∧ e.len = 1 ∧ e.lo < 32

/-- No link leaves or enters UP, and no Chimney event that is on goes off. -/
structure LinksStand (s t : State) : Prop where
  lost : t.linksLost = s.linksLost
  part : t.part = s.part
  events : ∀ (h : Nat) (e : Fld), e.chmEvent → s.fon h 0 e = true → t.fon h 0 e = true

section
variable {s t u : State} {h l : Nat} {e : Fld}

theorem Fld.chmEvent.noLoss (c : e.chmEvent) : NoLossCounter 0 e.blk e.word := by
  obtain ⟨b, w, -⟩ := c
  rw [b, w]
  exact noLoss_of (by decide) (by decide) (by decide) (by simp [lossWord])

/-! ### What leaves the links and the events -/

theorem LinksStand.refl : LinksStand s s := ⟨rfl, rfl, fun _ _ _ on => on⟩

theorem LinksStand.trans (a : LinksStand s t) (b : LinksStand t u) : LinksStand s u :=
  ⟨b.lost.trans a.lost, b.part.trans a.part, fun h e c on => b.events h e c (a.events h e c on)⟩

/-- An update of other records. -/
theorem LinksStand.records (stands : LinksStand s t) (lost : u.linksLost = t.linksLost := by rfl)
    (part : u.part = t.part := by rfl) (regs : u.regs = t.regs := by rfl) : LinksStand s u :=
  stands.trans ⟨lost, part, fun h e _ on => by rw [← on]; unfold State.fon State.fget State.rd; rw [regs]⟩

/-- A write of another word than CHM_EVENT. -/
theorem LinksStand.wr {g i b w : Nat} (stands : LinksStand s t) (v : Word) (lt : i < 16 ∧ b < 256 ∧ w < 2048)
    (n : ¬ (b = BLK_CHM ∧ w = CHM_EVENT.word)) : LinksStand s (t.wr g i b w v) := by
  refine stands.trans ⟨rfl, rfl, fun h e c on => ?_⟩
  obtain ⟨eb, ew, -⟩ := c
  obtain ⟨li, lb, lw⟩ := lt
  have apart : rkey h e.blk 0 e.word ≠ rkey g b i w :=
    rkey_ne (by decide) (by rw [ew]; decide) (by rw [eb]; decide) li lw lb fun ⟨_, _, xb, xw⟩ => n ⟨xb ▸ eb, xw ▸ ew⟩
  rw [State.fon, State.fget, State.rd_wr_ne _ _ apart]
  exact on

theorem LinksStand.fput {g i : Nat} {f : Fld} (stands : LinksStand s t) (v : Nat) (lt : i < 16 ∧ f.blk < 256 ∧ f.word < 2048)
    (n : ¬ (f.blk = BLK_CHM ∧ f.word = CHM_EVENT.word)) : LinksStand s (t.fput g i f v) := stands.wr _ lt n

theorem LinksStand.count {g i : Nat} {f : Fld} (stands : LinksStand s t) (n : Nat) (lt : i < 16 ∧ f.blk < 256 ∧ f.word < 2048)
    (no : ¬ (f.blk = BLK_CHM ∧ f.word = CHM_EVENT.word)) : LinksStand s (t.count g i f n) := stands.wr _ lt no

/-- A bit that is put into CHM_EVENT leaves the others, and those of other hearths. -/
theorem fput_chmEvent_on {f : Fld} {g : Nat} (c : e.chmEvent) (d : f.chmEvent) (on : s.fon h 0 e = true) :
    (s.fput g 0 f 1).fon h 0 e = true := by
  obtain ⟨eb, ew, el, elo⟩ := c
  obtain ⟨fb, fw, fl, flo⟩ := d
  by_cases here : h = g
  · subst here
    by_cases same : e.lo = f.lo
    · obtain rfl : e = f := by cases e; cases f; simp_all
      rw [State.fon, State.fget_fput_same _ _ _ _ _ (by omega), el]
      rfl
    · rw [State.fon, State.fget_fput_disj _ _ (eb.trans fb.symm) (ew.trans fw.symm) (by omega) (by omega)]
      exact on
  · have apart : rkey h e.blk 0 e.word ≠ rkey g f.blk 0 f.word := by
      rw [eb, ew, fb, fw]
      exact rkey_ne (by decide) (by decide) (by decide) (by decide) (by decide) (by decide) fun k => here k.1
    rw [State.fon, State.fget_fput_ne _ _ apart]
    exact on

theorem LinksStand.raise (stands : LinksStand s t) (g : Nat) {f : Fld} (d : f.chmEvent) : LinksStand s (t.raise g 0 f) := by
  refine stands.trans ⟨State.raise_linksLost .., State.raise_part .., fun h e c on => ?_⟩
  have put := fput_chmEvent_on (g := g) c d on
  unfold State.raise
  dsimp only
  split_ifs
  · exact on
  · rw [State.fon, State.fget, postEvent_rd _ _ _ _ _ c.noLoss]
    exact put
  · exact put

/-- A raised Chimney event is on. -/
theorem raise_chmEvent_on (c : e.chmEvent) : (s.raise h 0 e).fon h 0 e = true :=
  raise_sets _ _ _ _ (by obtain ⟨-, -, len, lo⟩ := c; omega) (by rw [c.2.2.1]) c.noLoss

theorem LinksStand.ite {p : Prop} [Decidable p] {a b : State} (yes : LinksStand s a) (no : LinksStand s b) :
    LinksStand s (if p then a else b) := keep_ite yes no

theorem LinksStand.forEach {α : Type} {f : α → State → State} (each : ∀ x t, LinksStand s t → LinksStand s (f x t)) (xs : List α)
    (stands : LinksStand s t) : LinksStand s (forEach xs f t) := forEach_keeps each xs t stands

theorem LinksStand.linkPresent (stands : LinksStand s t) : linkPresent t h l = linkPresent s h l := by
  unfold Machine.linkPresent State.hasH State.nH
  rw [stands.part]

theorem LinksStand.linkUp (stands : LinksStand s t) : linkUp t h l = linkUp s h l := by
  unfold Machine.linkUp
  rw [stands.linkPresent, stands.lost]

theorem LinksStand.hasH (stands : LinksStand s t) : t.hasH h = s.hasH h := by
  unfold State.hasH State.nH
  rw [stands.part]

theorem LinksStand.linkPeer (stands : LinksStand s t) : linkPeer t h l = linkPeer s h l := by
  unfold Machine.linkPeer State.nH
  rw [stands.part]

/-! ### Packets that are placed, and shows -/

theorem LinksStand.place (stands : LinksStand s t) (join : Nat → OutX → Pkt → OutX) (level : Nat) (p : Pkt) :
    LinksStand s (place join level h p t) := by
  unfold Machine.place
  dsimp only
  split_ifs
  · cases p.mem <;> exact stands.records
  all_goals
    split
    · exact stands.records
    · unfold unreach
      exact .raise (.count (.records stands) _ (by decide) (by decide)) h (by decide)

theorem LinksStand.moveOff (stands : LinksStand s t) : LinksStand s (moveOff h l t) := by
  unfold Machine.moveOff
  exact .forEach (fun _ _ a => a.place ..) _ (.forEach (fun _ _ a => a.place ..) _ (.forEach (fun _ _ a => a.place ..) _
    stands.records))

theorem LinksStand.request (stands : LinksStand s t) (r : Request) : LinksStand s (request h r t) := by
  unfold Machine.request
  dsimp only
  exact .ite stands (.place (.records stands) ..)

theorem LinksStand.linksShow (stands : LinksStand s t) : LinksStand s (linksShow t) := by
  unfold Machine.linksShow
  exact .forEach (fun _ _ a => a.wr _ (by decide) (by decide)) _ stands

theorem LinksStand.raiseAll (stands : LinksStand s t) (c : e.chmEvent) : LinksStand s (raiseAll e t) := by
  unfold Machine.raiseAll
  exact .forEach (fun g _ a => a.raise g c) _ stands

theorem LinksStand.crownShow (stands : LinksStand s t) (epoch : Nat) : LinksStand s (crownShow epoch t) := by
  unfold Machine.crownShow
  refine .forEach (fun g u a => .ite ?_ ?_) _ stands
  · exact (a.fput _ (by decide) (by decide)).fput _ (by decide) (by decide)
  · exact ((a.fput _ (by decide) (by decide)).fput _ (by decide) (by decide)).fput _ (by decide) (by decide)

/-- The channels of the junior lead that are enabled enter their state. -/
theorem LinksStand.channelsEnter (stands : LinksStand s t) (g : Nat) {chs : List Nat} (lt : ∀ c ∈ chs, c < 16) :
    LinksStand s (Machine.forEach chs (fun ch s => s.fput g ch MBX_STATUS_STATE 1) t) := by
  induction chs generalizing t with
  | nil => exact stands
  | cons c cs ih =>
    obtain ⟨low, rest⟩ := List.forall_mem_cons.mp lt
    exact ih (stands.fput 1 ⟨low, by decide, by decide⟩ (by decide)) rest

theorem LinksStand.juniorWakes (stands : LinksStand s t) : LinksStand s (juniorWakes t) := by
  unfold Machine.juniorWakes
  dsimp only
  refine .ite stands (.crownShow (.channelsEnter (.records stands) _ fun c mem => ?_) _)
  have := List.mem_range.mp (List.mem_filter.mp mem).1
  omega

/-! ### A link fails -/

/-- After it has raised LINK_DOWN a transmitter that loses its link moves packets, and may raise REROUTE. -/
theorem transmitterLoses_links : LinksStand (s.raise h 0 CHM_EVENT_LINK_DOWN) (transmitterLoses h l s) := by
  have moved := (LinksStand.refl (s := s.raise h 0 CHM_EVENT_LINK_DOWN)).moveOff (h := h) (l := l)
  unfold transmitterLoses
  exact .ite (moved.raise h (by decide)) moved

theorem LinksStand.transmitterLoses (stands : LinksStand s t) : LinksStand s (transmitterLoses h l t) :=
  (stands.raise h (by decide)).trans transmitterLoses_links

/-- A transmitter of a link that has gone down shows LINK_DOWN. -/
theorem transmitterLoses_event : (transmitterLoses h l s).fon h 0 CHM_EVENT_LINK_DOWN = true :=
  transmitterLoses_links.events _ _ (by decide) (raise_chmEvent_on (by decide))

/-- The links that are not UP when one more has failed, at both its ends. -/
def lostWith (s : State) (h l : Nat) : List Nat :=
  let add := insBy fun a b => decide (a ≤ b)
  add (4 * h + l) (add (4 * (linkPeer s h l).1 + (linkPeer s h l).2) s.linksLost)

theorem mem_insBy {α : Type} {le : α → α → Bool} {x y : α} {xs : List α} : y ∈ insBy le x xs ↔ y = x ∨ y ∈ xs := by
  induction xs with
  | nil => simp [insBy]
  | cons z zs ih =>
    unfold insBy
    split
    · simp only [List.mem_cons, ih]
      tauto
    · simp only [List.mem_cons]

/-- A link that fails is lost at both ends and shows LINK_DOWN; no other link leaves UP, and the events that were on stay. -/
theorem linkFails_shows (up : linkUp s h l = true) :
    LinksStand { s with linksLost := lostWith s h l } (linkFails h l s) ∧ (linkFails h l s).fon h 0 CHM_EVENT_LINK_DOWN = true := by
  have lose := (LinksStand.refl (s := { s with linksLost := lostWith s h l })).linksShow.transmitterLoses (h := h) (l := l)
  have rest : LinksStand (transmitterLoses h l (linksShow { s with linksLost := lostWith s h l })) (linkFails h l s) := by
    have second := (LinksStand.refl (s := transmitterLoses h l (linksShow { s with linksLost := lostWith s h l }))).transmitterLoses
      (h := (linkPeer s h l).1) (l := (linkPeer s h l).2)
    unfold linkFails
    rw [up, if_neg (by decide)]
    exact .ite (second.juniorWakes.raiseAll (by decide)) second
  exact ⟨lose.trans rest, rest.events _ _ (by decide) transmitterLoses_event⟩

/-- A link that is lost is not UP. -/
theorem linkUp_of_lost (lost : 4 * h + l ∈ s.linksLost) : linkUp s h l = false := by simp [linkUp, lost]

/-! ### Resends (R247) -/

/-- The resends of a link within the last millisecond. -/
def recentResends (s : State) (h l : Nat) : List Nat :=
  (tabGet (fun _ => []) (s.chm h).resends l).filter fun t => decide (s.now < t + 400000)

/-- The replay buffer's packets arrive anew. -/
def replayed (h l : Nat) (s : State) : State :=
  let o := s.outX h l
  s.setOut h l { o with sent := o.sent.map fun e => (s.now + hopClocks e.2, e.2) }

/-- A resend is counted and its time kept. -/
def resent (h l : Nat) (s : State) : State :=
  ((replayed h l s).setChm h { (replayed h l s).chm h with
    resends := tabSet (fun _ => []) ((replayed h l s).chm h).resends l (s.now :: recentResends s h l) }).count h 0 CHM_RETRY

theorem resent_retry : (resent h l s).fget h 0 CHM_RETRY = satAdd32 (s.fget h 0 CHM_RETRY) 1 := by
  rw [resent, State.fget_count 1 (by decide)]
  rfl

theorem resent_resends : tabGet (fun _ => []) ((resent h l s).chm h).resends l = s.now :: recentResends s h l := by
  rw [resent, State.count_acc_chm, State.setChm_same, tabGet_tabSet_same]

theorem resent_links : LinksStand s (resent h l s) := by
  unfold resent
  exact .count (.records .refl) _ (by decide) (by decide)

/-- The state in which a link fails by its seventeenth resend. -/
def retryLimit (h l : Nat) (s : State) : State :=
  (s.setChm h { s.chm h with resends := tabSet (fun _ => []) (s.chm h).resends l [] }).raise h 0 CHM_EVENT_RETRY_LIMIT

theorem retryLimit_links : LinksStand s (retryLimit h l s) := by
  unfold retryLimit
  exact .raise (.records .refl) h (by decide)

/-- Sixteen resends within the last millisecond leave the link UP, one more takes it down. -/
theorem flitError_of_up (up : linkUp s h l = true) : flitError h l s =
    if (recentResends s h l).length < 16 then resent h l s else linkFails h l (retryLimit h l (resent h l s)) := by
  have limit : (s.now :: recentResends s h l).length ≤ 16 ↔ (recentResends s h l).length < 16 := by
    rw [List.length_cons]
    omega
  unfold flitError
  rw [up, if_neg (by decide)]
  exact if_congr limit rfl rfl

/-- The seventeenth resend takes the link down at both ends. -/
theorem flitError_fails (up : linkUp s h l = true) (many : 16 ≤ (recentResends s h l).length) :
    linkUp (flitError h l s) h l = false ∧ linkUp (flitError h l s) (linkPeer s h l).1 (linkPeer s h l).2 = false ∧
    (flitError h l s).fon h 0 CHM_EVENT_RETRY_LIMIT = true ∧ (flitError h l s).fon h 0 CHM_EVENT_LINK_DOWN = true := by
  rw [flitError_of_up up, if_neg (by omega)]
  have limit : LinksStand s (retryLimit h l (resent h l s)) := resent_links.trans retryLimit_links
  obtain ⟨stands, down⟩ := linkFails_shows (limit.linkUp.trans up)
  have lost : (linkFails h l (retryLimit h l (resent h l s))).linksLost = lostWith (retryLimit h l (resent h l s)) h l := stands.lost
  have event : (retryLimit h l (resent h l s)).fon h 0 CHM_EVENT_RETRY_LIMIT = true := by
    unfold retryLimit
    exact raise_chmEvent_on (by decide)
  refine ⟨linkUp_of_lost ?_, linkUp_of_lost ?_, stands.events _ _ (by decide) event, down⟩
  · rw [lost]
    exact mem_insBy.mpr (.inl rfl)
  · rw [lost, ← limit.linkPeer]
    exact mem_insBy.mpr (.inr (mem_insBy.mpr (.inl rfl)))

/-! ### A link rises (R247) -/

/-- The links that are not UP when one has been retrained, at both its ends. -/
def lostWithout (s : State) (h l : Nat) : List Nat :=
  s.linksLost.filter fun k => k != 4 * h + l && k != 4 * (linkPeer s h l).1 + (linkPeer s h l).2

/-- A retrained link is UP and shows it. -/
theorem linkRises_shows (there : linkPresent s h l = true) (down : linkUp s h l = false) :
    linkUp (linkRises h l s) h l = true ∧ (linkRises h l s).fon h 0 CHM_EVENT_LINK_UP = true := by
  have shown := (LinksStand.refl (s := { s with linksLost := lostWithout s h l })).linksShow.raise h (f := CHM_EVENT_LINK_UP) (by decide)
  have rest : LinksStand ((linksShow { s with linksLost := lostWithout s h l }).raise h 0 CHM_EVENT_LINK_UP) (linkRises h l s) := by
    have peer := (LinksStand.refl (s := (linksShow { s with linksLost := lostWithout s h l }).raise h 0 CHM_EVENT_LINK_UP)).raise
      (linkPeer s h l).1 (f := CHM_EVENT_LINK_UP) (by decide)
    unfold linkRises
    rw [there, down, if_neg (by decide)]
    exact .ite (peer.raiseAll (by decide)) peer
  have free : 4 * h + l ∉ lostWithout s h l := by simp [lostWithout]
  refine ⟨?_, rest.events _ _ (by decide) (raise_chmEvent_on (by decide))⟩
  rw [(shown.trans rest).linkUp, linkUp, Bool.and_eq_true]
  exact ⟨there, by simpa using free⟩

end

end Sys2Proof.Machine
end

section
/-! PROOFS. Arbiters (R248 to R251, R262): what an output picks and hands on, the requests that enter first, the flit counter. -/

namespace Sys2Proof.Machine

section
variable {s t : State} {h o l : Nat} {x : OutX} {p : Pkt} {ps : List Pkt} {q : ArbQ} {rest : List ArbQ}

/-! ### Outputs -/

theorem State.outX_setOut_same : (s.setOut h o x).outX h o = x := by rw [State.outX, State.setOut, State.setChm_same, tabGet_tabSet_same]

theorem State.outX_setOut_ne {n : Nat} (other : n ≠ o) : (s.setOut h o x).outX h n = s.outX h n := by
  rw [State.outX, State.setOut, State.setChm_same, tabGet_tabSet_ne _ _ _ other]
  rfl

/-- Outputs of a state with the same Chimney records. -/
theorem State.outX_congr (same : t.chms = s.chms) : t.outX h o = s.outX h o := by
  unfold State.outX State.chm
  rw [same]

/-! ### What an output picks (R250, R251) -/

/-- The deficit of a fresh queue at its turn. -/
def freshDeficit (quantumOf : Nat → Nat) (device : Bool) (q : ArbQ) (p : Pkt) : Nat :=
  q.deficit + quantumOf q.cls * (if device then clampN 1 63 p.cnt else 1)

theorem freshDeficit_hearth (quantumOf : Nat → Nat) : freshDeficit quantumOf false q p = q.deficit + quantumOf q.cls := by
  rw [freshDeficit, if_neg Bool.false_ne_true, Nat.mul_one]

/-- The active list once its front queue has sent its head. -/
def turnTaken (d : Nat) (q : ArbQ) (p : Pkt) (ps : List Pkt) (rest : List ArbQ) : List ArbQ :=
  if ps = [] then rest else { q with pkts := ps, deficit := d - p.len, fresh := false } :: rest

theorem arbTurn_serves (quantumOf : Nat → Nat) (device : Bool) (n : Nat) (pkts : q.pkts = p :: ps) (fresh : q.fresh = true)
    (covers : p.len ≤ freshDeficit quantumOf device q p) :
    arbTurn quantumOf device (n + 1) (q :: rest) = (some p, turnTaken (freshDeficit quantumOf device q p) q p ps rest) := by
  unfold arbTurn
  simp only [pkts, fresh, if_true]
  rw [freshDeficit] at covers
  simp only [covers, if_true, turnTaken, freshDeficit, List.isEmpty_iff]

theorem arbFuel_pos (qs : List ArbQ) : ∃ n, arbFuel qs = n + 1 :=
  Nat.exists_eq_succ_of_ne_zero (by unfold arbFuel; positivity)

/-- Class F goes first while its cap lasts. -/
theorem arbPick_first (first : x.f = p :: ps) (window : x.served < 64) (cap : x.fUsed < fCap s h o) :
    arbPick s h o x = (some p, { x with f := ps, fUsed := x.fUsed + p.len, served := x.served + p.len, held := false }) := by
  have same : ¬ 64 ≤ x.served := by omega
  simp only [arbPick, same, if_false, first, cap, true_or, if_true]

/-- With no class F packet the front queue is served when its deficit, a quantum richer, covers its head. -/
theorem arbPick_turn (none : x.f = []) (window : x.served < 64) (active : x.active = q :: rest) (pkts : q.pkts = p :: ps)
    (fresh : q.fresh = true) (covers : p.len ≤ freshDeficit (quantum s h o) true q p) :
    arbPick s h o x = (some p, { x with
      active := turnTaken (freshDeficit (quantum s h o) true q p) q p ps rest, served := x.served + p.len }) := by
  have same : ¬ 64 ≤ x.served := by omega
  obtain ⟨n, fuel⟩ := arbFuel_pos (q :: rest)
  simp only [arbPick, same, if_false, none, active, fuel, arbTurn_serves _ _ n pkts fresh covers]
  rfl

theorem outTake_eq (picks : arbPick s h o (s.outX h o) = (some p, x)) (free : x.held = true → (s.outX h o).held = true) :
    outTake h o s = (some p, s.setOut h o x) := by
  have counted : (x.held && !(s.outX h o).held) = false := by
    cases held : x.held
    · rfl
    · rw [free held]
      rfl
  unfold outTake
  simp only [picks, counted]
  rfl

/-! ### What a served output sends -/

theorem statFlits_frame (dir : Nat) : (statFlits h l dir p s).out = s.out ∧ (statFlits h l dir p s).chms = s.chms := by
  unfold statFlits
  dsimp only
  split_ifs <;> exact ⟨rfl, rfl⟩

/-- An output that has sent its packet: the packet went out, and of the output only what is on its way has changed since its pick. -/
structure Sent (h o : Nat) (p : Pkt) (x : OutX) (s t : State) : Prop where
  out : t.out = .packet h o p :: s.out
  f : (t.outX h o).f = x.f
  fUsed : (t.outX h o).fUsed = x.fUsed
  active : (t.outX h o).active = x.active

theorem linkServe_sends (up : linkUp s h l = true) (takes : outTake h l s = (some p, s.setOut h l x)) :
    Sent h l p x s (linkServe h l s) := by
  have serves : ∃ u : State, u.out = .packet h l p :: s.out ∧ u.chms = (s.setOut h l x).chms ∧
      linkServe h l s = u.setOut h l { u.outX h l with sent := (u.outX h l).sent ++ [(u.now + hopClocks p, p)] } := by
    unfold linkServe
    simp only [up, takes]
    refine ⟨_, ?_, ?_, rfl⟩
    · rw [(statFlits_frame _).1, (statFlits_frame _).1]
      split_ifs <;> rfl
    · rw [(statFlits_frame _).2, (statFlits_frame _).2]
      split_ifs <;> rfl
  obtain ⟨u, out, chms, eq⟩ := serves
  have same : u.outX h l = x := (State.outX_congr chms).trans State.outX_setOut_same
  rw [eq, same]
  refine ⟨out, ?_, ?_, ?_⟩ <;> rw [State.outX_setOut_same]

theorem dramServe_sends {ch : Nat} (takes : outTake h (3 + ch) (pastPause h ch s) = (some p, (pastPause h ch s).setOut h (3 + ch) x)) :
    Sent h (3 + ch) p x s (dramServe h ch 0 s) := by
  have clean (t : State) : eccCount h 0 t = t ∧ eccFinds t h 0 2 = false := ⟨rfl, rfl⟩
  unfold dramServe
  simp only [takes, ite_self, State.outX_setOut_same, clean, Bool.false_eq_true, if_false]
  refine ⟨rfl, ?_, ?_, ?_⟩ <;> rw [State.outX_congr (State.emit_chms ..), State.outX_setOut_same]

/-- An output at device level that can serve: a channel, or a link that is UP. -/
abbrev Serves (s : State) (h o : Nat) : Prop := o = 3 ∨ o = 4 ∨ (o < 3 ∧ linkUp s h o = true)

/-- With no request made meanwhile an output sends what it picks. -/
theorem packetSent_sends (has : s.hasH h = true) (able : Serves s h o) (picks : arbPick s h o (s.outX h o) = (some p, x))
    (free : x.held = true → (s.outX h o).held = true) : Sent h o p x s (packetSent h o [] 0 s) := by
  have channel (ch : Nat) (at' : o = 3 + ch) : Sent h o p x s (dramServe h ch 0 s) := by
    subst at'
    exact dramServe_sends (outTake_eq (s := pastPause h ch s) picks free)
  unfold packetSent
  rw [has]
  obtain rfl | rfl | ⟨link, up⟩ := able
  · exact channel 0 rfl
  · exact channel 1 rfl
  · dsimp only
    rw [if_neg (by decide), if_pos link]
    exact linkServe_sends up (outTake_eq picks free)

/-! ### The hearth level (R251) -/

/-- A packet as it leaves the hearth level: with the number of active requesters of its class. -/
def handedOn (s : State) (h : Nat) (p : Pkt) : Pkt := { p with cnt := clampN 1 63 (activeReqs s h p.cls), since := s.now }

theorem hearthServe_hands (active : (s.outX h (8 + o)).active = q :: rest) (pkts : q.pkts = p :: ps) (fresh : q.fresh = true)
    (covers : p.len ≤ freshDeficit (quantum s h o) false q p) :
    (hearthServe h o s).out = s.out ∧
    ((hearthServe h o s).outX h (8 + o)).active = turnTaken (freshDeficit (quantum s h o) false q p) q p ps rest ∧
    (hearthServe h o s).outX h o = arbJoin o (s.outX h o) (handedOn s h p) := by
  obtain ⟨n, fuel⟩ := arbFuel_pos (q :: rest)
  unfold hearthServe
  simp only [active, fuel, arbTurn_serves _ _ n pkts fresh covers]
  refine ⟨rfl, ?_, ?_⟩
  · rw [State.outX_setOut_ne (by omega), State.outX_setOut_same]
  · rw [State.outX_setOut_same, State.outX_setOut_ne (by omega)]
    rfl

theorem packetSent_hands (has : s.hasH h = true) (lt : o < 5) : packetSent h (8 + o) [] 0 s = hearthServe h o s := by
  unfold packetSent
  rw [has, if_neg (by decide)]
  simp only [show ¬ 8 + o < 3 by omega, show ¬ 8 + o < 5 by omega, show 8 ≤ 8 + o ∧ 8 + o < 13 by omega, Nat.add_sub_cancel_left,
    and_self, if_true, if_false]
  rfl

/-! ### Requests, the flit counter -/

/-- A request made meanwhile enters the Chimney first (R248, R249). -/
theorem packetSent_request {r : Request} {rs : List Request} (has : s.hasH h = true) (named : r.req < 22) (ecc : Nat) :
    packetSent h o (r :: rs) ecc s = packetSent h o rs ecc (request h r s) := by
  have there : (request h r s).hasH h = true := (LinksStand.refl.request r).hasH.trans has
  unfold packetSent
  rw [has, there, List.filter_cons_of_pos (by simpa using named)]
  rfl

theorem chmStatSelWrite_eq (has : s.hasH h = true) (v : Word) : exec (.chmStatSelWrite h v) s =
    .next (settle ((stored BLK_CHM true h 0 CHM_STAT_SEL.word v s).fput h 0 CHM_STAT_FLITS 0)) := by
  show settled (if s.hasH h then _ else s) = _
  rw [has, if_pos rfl, hostWrite_eq]
  rfl

end

end Sys2Proof.Machine
end

section
/-! PROOFS. The memory controllers (R254 to R257): training, retraining, refreshes, neighbour refreshes. -/

namespace Sys2Proof.Machine

section
variable {s : State} {h ch bank a : Nat}

/-! ### Training (R255) -/

/-- F_OK leaves the fields apart from it. -/
theorem fOkShow_fget {g : Fld} (c : g.clears DRM_STATUS_F_OK) : (fOkShow h s).fget h 0 g = s.fget h 0 g := State.fget_fputB_clears _ c

theorem trainingDone_ready (has : s.hasH h = true) (early : drmState s h ≤ 1) {m : Nat} (good : m % 4 = 0) :
    drmState (trainingDone h m s) h = 2 ∧ (trainingDone h m s).fon h 0 DRM_EVENT_TRAIN_DONE = true ∧
    tabGet (fun _ => 0) ((trainingDone h m s).chm h).lfsr 1 = max 1 (s.fget h 0 DRM_NRR_SEED_LFSR) := by
  unfold trainingDone
  rw [if_neg (by simp [has, early])]
  simp only [good, if_true]
  refine ⟨?_, ?_, ?_⟩
  · rw [drmState, fOkShow_fget (by decide), raise_fget_clears (by decide) (by decide), State.fget_fput_of_lt (by decide) (by decide)]
  · rw [State.fon, fOkShow_fget (by decide)]
    exact raise_sets _ _ _ _ (by decide) (by decide) (Fld.offLoss_no _ (by decide))
  · unfold fOkShow
    rw [State.fputB_acc_chm, State.raise_acc_chm, State.fput_acc_chm, State.setChm_same, State.fget_fput_clears _ (by decide)]
    rfl

theorem trainingDone_fails (has : s.hasH h = true) (early : drmState s h ≤ 1) {m : Nat} (bad : m % 4 ≠ 0) :
    drmState (trainingDone h m s) h = 3 ∧ (trainingDone h m s).fget h 0 DRM_STATUS_TRAIN_FAIL = m % 4 ∧
    (trainingDone h m s).fon h 0 DRM_EVENT_TRAIN_FAIL = true := by
  unfold trainingDone
  rw [if_neg (by simp [has, early])]
  simp only [bad, if_false]
  refine ⟨?_, ?_, raise_sets _ _ _ _ (by decide) (by decide) (Fld.offLoss_no _ (by decide))⟩
  · rw [drmState, raise_fget_clears (by decide) (by decide), State.fget_fput_clears _ (by decide),
      State.fget_fput_of_lt (by decide) (by decide)]
  · rw [raise_fget_clears (by decide) (by decide), State.fget_fput_same _ _ _ _ _ (by decide)]
    exact Nat.mod_mod m 4

/-! ### Retraining (R256) -/

/-- An event that is raised on a condition. -/
def raiseIf (c : Bool) (h : Nat) (e : Fld) (s : State) : State := if c then s.raise h 0 e else s

theorem raiseIf_fget {c : Bool} {e g : Fld} (apart : g.clears e) (off : g.offLoss = true) :
    (raiseIf c h e s).fget h 0 g = s.fget h 0 g := by
  unfold raiseIf
  split
  · exact raise_fget_clears apart off
  · rfl

theorem raiseIf_chm {c : Bool} {e : Fld} : (raiseIf c h e s).chm h = s.chm h := by
  unfold raiseIf
  split
  · exact State.raise_acc_chm ..
  · rfl

theorem raiseIf_on {c : Bool} {e : Fld} (on : c = true) (event : e.lo + e.len ≤ 32 ∧ 1 ≤ e.len ∧ e.offLoss = true) :
    (raiseIf c h e s).fon h 0 e = true := by
  rw [raiseIf, if_pos on]
  exact raise_sets _ _ _ _ event.1 event.2.1 (Fld.offLoss_no _ event.2.2)

/-- The clock at which a retraining starts that the period, or the temperature, brings. -/
def retrainStart (s : State) (h ch temp : Nat) : Nat :=
  pauseStart s h ch (if tempStepped s h ch (toS 16 temp) then s.now else periodEnd s h ch)

/-- The channel pauses, and takes the delays of a good measurement. -/
def retrainPause (h ch : Nat) (ok : Bool) (temp delays : Nat) (s : State) : State :=
  let x := s.chm h
  let start := retrainStart s h ch temp
  { s.setChm h { x with
      temp := tabSet (fun _ => 0) x.temp ch (toS 16 temp)
      pauseAt := tabSet (fun _ => 0) x.pauseAt ch start
      pauseEnd := tabSet (fun _ => 0) x.pauseEnd ch (start + (max 80 (s.fget h 0 DRM_RETRAIN_PAUSE) * 2 + 4) / 5)
      delays := if ok then tabSet (fun _ => 0) x.delays ch delays else x.delays } with now := max s.now start }

theorem retrainPause_delays {ok : Bool} {temp delays : Nat} :
    tabGet (fun _ => 0) ((retrainPause h ch ok temp delays s).chm h).delays ch =
      if ok then delays else tabGet (fun _ => 0) (s.chm h).delays ch := by
  have chm : (retrainPause h ch ok temp delays s).chm h = _ := State.setChm_same s h _
  rw [chm]
  cases ok
  · rfl
  · exact tabGet_tabSet_same ..

theorem retrainDue_eq (has : s.hasH h = true) (ready : drmState s h = 2) (lt : ch < 2) (ok : Bool) (temp delays : Nat) :
    retrainDue h ch ok temp delays s = raiseIf (!ok) h DRM_EVENT_RETRAIN_FAIL
      ((raiseIf (tempStepped s h ch (toS 16 temp)) h DRM_EVENT_TEMP_STEP
        ((retrainPause h ch ok temp delays s).fput h 0 DRM_TEMP_V temp)).count h 0 DRM_RETRAIN_CNT) := by
  unfold retrainDue
  rw [if_neg (by simp [has, ready, lt])]
  cases ok <;> rfl

/-- A retraining counts, shows the temperature, takes the delays of a good measurement, and shows its events. -/
theorem retrainDue_shows (has : s.hasH h = true) (ready : drmState s h = 2) (lt : ch < 2) (ok : Bool) (temp delays : Nat) :
    (retrainDue h ch ok temp delays s).fget h 0 DRM_RETRAIN_CNT = satAdd32 (s.fget h 0 DRM_RETRAIN_CNT) 1 ∧
    (retrainDue h ch ok temp delays s).fget h 0 DRM_TEMP_V = temp % 2 ^ DRM_TEMP_V.len ∧
    tabGet (fun _ => 0) ((retrainDue h ch ok temp delays s).chm h).delays ch =
      (if ok then delays else tabGet (fun _ => 0) (s.chm h).delays ch) ∧
    (ok = false → (retrainDue h ch ok temp delays s).fon h 0 DRM_EVENT_RETRAIN_FAIL = true) ∧
    (tempStepped s h ch (toS 16 temp) = true → (retrainDue h ch ok temp delays s).fon h 0 DRM_EVENT_TEMP_STEP = true) := by
  rw [retrainDue_eq has ready lt ok temp delays]
  refine ⟨?_, ?_, ?_, fun bad => raiseIf_on (by rw [bad]; rfl) (by decide), fun stepped => ?_⟩
  · rw [raiseIf_fget (by decide) (by decide), State.fget_count _ (by decide), raiseIf_fget (by decide) (by decide),
      State.fget_fput_clears _ (by decide)]
    rfl
  · rw [raiseIf_fget (by decide) (by decide), State.count_eq, State.fget_fput_clears _ (by decide),
      raiseIf_fget (by decide) (by decide), State.fget_fput_same _ _ _ _ _ (by decide)]
  · rw [raiseIf_chm, State.count_acc_chm, raiseIf_chm, State.fput_acc_chm, retrainPause_delays]
  · rw [State.fon, raiseIf_fget (by decide) (by decide), State.count_eq, State.fget_fput_clears _ (by decide)]
    exact raiseIf_on stepped (by decide)

theorem tempStepped_of_far {temp : Int} (used : s.fget h 0 DRM_RETRAIN_TSTEP ≠ 0)
    (far : s.fget h 0 DRM_RETRAIN_TSTEP ≤ (temp - tabGet (fun _ => 0) (s.chm h).temp ch).natAbs) : tempStepped s h ch temp = true := by
  simp [tempStepped, used, far]

/-! ### Refreshes (R254) -/

/-- Refreshes that a bank is owed. -/
def owedTo (s : State) (h ch bank : Nat) : Nat := tabGet (fun _ => 0) (s.chm h).owed (16 * ch + bank)

/-- The refreshes owed to a bank become `n`. -/
def owe (h ch bank n : Nat) (s : State) : State :=
  s.setChm h { s.chm h with owed := tabSet (fun _ => 0) (s.chm h).owed (16 * ch + bank) n }

theorem owe_owed (n : Nat) : owedTo (owe h ch bank n s) h ch bank = n := by
  rw [owedTo, owe, State.setChm_same, tabGet_tabSet_same]

/-- A bank that frees keeps what it is owed. -/
theorem bankFree_owed (s : State) : owedTo (bankFree h ch bank s) h ch bank = owedTo s h ch bank := by
  rw [owedTo, bankFree, State.setChm_same]
  rfl

theorem refreshDue_eq (has : s.hasH h = true) (channel : ch < 2) (fits : bank < 16) (fWaiting : Bool) :
    refreshDue h ch bank fWaiting s =
      if fWaiting then
        if owedTo s h ch bank < 8 then owe h ch bank (owedTo s h ch bank + 1) s else (pastPause h ch s).emit (.refresh h ch bank 1)
      else (pastPause h ch (bankFree h ch bank (owe h ch bank 0 s))).emit (.refresh h ch bank (owedTo s h ch bank + 1)) := by
  unfold refreshDue
  rw [if_neg (by simp [has, channel, fits])]
  cases fWaiting
  · simp only [Bool.false_eq_true, false_and, if_false]
    rfl
  · simp only [true_and, if_true]
    rfl

/-! ### Neighbour refreshes (R257) -/

/-- The activate's channel after its LFSR has stepped. -/
def lfsrStepped (h ch : Nat) (s : State) : State :=
  (pastPause h ch s).setChm h { s.chm h with
    lfsr := tabSet (fun _ => 0) (s.chm h).lfsr ch (lfsrStep (tabGet (fun _ => 0) (s.chm h).lfsr ch)) }

/-- The rows beside a row that exist. -/
def rowsBeside (s : State) (h row : Nat) : List Nat :=
  (if row = 0 then [] else [row - 1]) ++ (if row + 1 < s.fitted h / 131072 then [row + 1] else [])

/-- The low K bits of a channel's LFSR are 0 after its step. -/
abbrev drawn (s : State) (h ch : Nat) : Prop :=
  lfsrStep (tabGet (fun _ => 0) (s.chm h).lfsr ch) % 2 ^ clampN 6 14 (s.fget h 0 DRM_NRR_K) = 0

/-- Refreshes of rows of a bank join those that wait. -/
def heldBack (h ch bank : Nat) (rows : List Nat) (s : State) : State :=
  s.setChm h { s.chm h with waiting := (s.chm h).waiting ++ rows.map fun r => (ch, bank, r, s.now) }

theorem rowsBeside_inner {row : Nat} (above : row ≠ 0) (below : row + 1 < s.fitted h / 131072) :
    rowsBeside s h row = [row - 1, row + 1] := by
  rw [rowsBeside, if_neg above, if_pos below]
  rfl

section
variable (on : s.fon h 0 DRM_NRR_EN = true) (ready : drmState s h = 2) (fits : a < s.fitted h) (has : s.hasH h = true)
include on ready fits has

theorem neighbourRefresh_waits : neighbourRefresh h a true s =
    if ¬ drawn s h (dramPlace s h a).1 then lfsrStepped h (dramPlace s h a).1 s
    else heldBack h (dramPlace s h a).1 (dramPlace s h a).2.1 (rowsBeside s h (dramPlace s h a).2.2.2)
      (lfsrStepped h (dramPlace s h a).1 s) := by
  unfold neighbourRefresh
  rw [if_neg (by simp [has, on, ready, fits])]
  rfl

theorem neighbourRefresh_acts : neighbourRefresh h a false s =
    if ¬ drawn s h (dramPlace s h a).1 then bankFree h (dramPlace s h a).1 (dramPlace s h a).2.1 (lfsrStepped h (dramPlace s h a).1 s)
    else forEach (rowsBeside s h (dramPlace s h a).2.2.2) (rowRefreshed h (dramPlace s h a).1 (dramPlace s h a).2.1)
      (bankFree h (dramPlace s h a).1 (dramPlace s h a).2.1 (lfsrStepped h (dramPlace s h a).1 s)) := by
  unfold neighbourRefresh
  rw [if_neg (by simp [has, on, ready, fits])]
  rfl

end

theorem lfsrStepped_lfsr (c : Nat) : tabGet (fun _ => 0) ((lfsrStepped h c s).chm h).lfsr c =
    lfsrStep (tabGet (fun _ => 0) (s.chm h).lfsr c) := by
  rw [lfsrStepped, State.setChm_same, tabGet_tabSet_same]

theorem lfsrStepped_waiting (c : Nat) : ((lfsrStepped h c s).chm h).waiting = (s.chm h).waiting := by
  rw [lfsrStepped, State.setChm_same]

theorem heldBack_chm {rows : List Nat} : (heldBack h ch bank rows s).chm h =
    { s.chm h with waiting := (s.chm h).waiting ++ rows.map fun r => (ch, bank, r, s.now) } := State.setChm_same ..

theorem bankFree_lfsr (s : State) : ((bankFree h ch bank s).chm h).lfsr = (s.chm h).lfsr := by
  rw [bankFree, State.setChm_same]

/-- Neighbour refreshes that are issued count and go out, and leave the Chimney's records. -/
theorem rowsRefreshed_chms (rows : List Nat) (s : State) : (forEach rows (rowRefreshed h ch bank) s).chms = s.chms :=
  forEach_keeps (P := fun t => t.chms = s.chms) (f := rowRefreshed h ch bank) (fun _ _ same => same) rows s rfl

theorem satAdd32_twice (n : Nat) : satAdd32 (satAdd32 n 1) 1 = satAdd32 n 2 := by
  unfold satAdd32
  omega

theorem rowRefreshed_counts {row : Nat} : (rowRefreshed h ch bank row s).fget h 0 DRM_NRR_CNT = satAdd32 (s.fget h 0 DRM_NRR_CNT) 1 :=
  State.fget_count _ (by decide)

section
variable (on : s.fon h 0 DRM_NRR_EN = true) (ready : drmState s h = 2) (fits : a < s.fitted h) (has : s.hasH h = true)
include on ready fits has

/-- While a class F request waits for the bank nothing is issued, and the refreshes that are drawn wait. -/
theorem neighbourRefresh_waits_shows :
    tabGet (fun _ => 0) ((neighbourRefresh h a true s).chm h).lfsr (dramPlace s h a).1 =
      lfsrStep (tabGet (fun _ => 0) (s.chm h).lfsr (dramPlace s h a).1) ∧
    (neighbourRefresh h a true s).out = s.out ∧
    (drawn s h (dramPlace s h a).1 → ((neighbourRefresh h a true s).chm h).waiting = (s.chm h).waiting ++
      (rowsBeside s h (dramPlace s h a).2.2.2).map fun r =>
        ((dramPlace s h a).1, (dramPlace s h a).2.1, r, (lfsrStepped h (dramPlace s h a).1 s).now)) := by
  rw [neighbourRefresh_waits on ready fits has]
  split
  · next calm => exact ⟨lfsrStepped_lfsr _, rfl, fun low => absurd low calm⟩
  · refine ⟨?_, rfl, fun _ => ?_⟩
    · rw [heldBack_chm]
      exact lfsrStepped_lfsr _
    · rw [heldBack_chm, lfsrStepped_waiting]

/-- With no class F request waiting the refreshes that are drawn are issued at once. -/
theorem neighbourRefresh_acts_shows :
    tabGet (fun _ => 0) ((neighbourRefresh h a false s).chm h).lfsr (dramPlace s h a).1 =
      lfsrStep (tabGet (fun _ => 0) (s.chm h).lfsr (dramPlace s h a).1) ∧
    (¬ drawn s h (dramPlace s h a).1 → (neighbourRefresh h a false s).out = s.out) ∧
    (drawn s h (dramPlace s h a).1 → (dramPlace s h a).2.2.2 ≠ 0 → (dramPlace s h a).2.2.2 + 1 < s.fitted h / 131072 →
      (neighbourRefresh h a false s).out = .rowRefresh h (dramPlace s h a).1 (dramPlace s h a).2.1 ((dramPlace s h a).2.2.2 + 1) ::
        .rowRefresh h (dramPlace s h a).1 (dramPlace s h a).2.1 ((dramPlace s h a).2.2.2 - 1) :: s.out ∧
      (neighbourRefresh h a false s).fget h 0 DRM_NRR_CNT = satAdd32 (s.fget h 0 DRM_NRR_CNT) 2) := by
  have stepped : tabGet (fun _ => 0) ((bankFree h (dramPlace s h a).1 (dramPlace s h a).2.1 (lfsrStepped h (dramPlace s h a).1 s)).chm h).lfsr
      (dramPlace s h a).1 = lfsrStep (tabGet (fun _ => 0) (s.chm h).lfsr (dramPlace s h a).1) := by
    rw [bankFree_lfsr]
    exact lfsrStepped_lfsr _
  rw [neighbourRefresh_acts on ready fits has]
  split
  · next calm => exact ⟨stepped, fun _ => rfl, fun low => absurd low calm⟩
  · next low =>
    refine ⟨?_, fun calm => absurd calm low, fun _ above below => ?_⟩
    · unfold State.chm
      rw [rowsRefreshed_chms]
      exact stepped
    · rw [rowsBeside_inner above below]
      refine ⟨rfl, ?_⟩
      show (rowRefreshed _ _ _ _ (rowRefreshed _ _ _ _ _)).fget h 0 DRM_NRR_CNT = _
      rw [rowRefreshed_counts, rowRefreshed_counts, satAdd32_twice]
      rfl

end

end

end Sys2Proof.Machine
end

section
/-! PROOFS. Class F reads that return (R252, R260). -/

namespace Sys2Proof.Machine

section
variable {s : State} {h ch : Nat}

theorem columnsLost_regs (col cols : Nat) : (columnsLost h col cols s).regs = s.regs := by
  refine forEach_keeps (P := fun t => t.regs = s.regs) (fun p t same => ?_) _ s rfl
  dsimp only
  split <;> exact same

theorem eccCount_fget {ecc : Nat} {g : Fld} (corr : g.clears DRM_LECC_CORR) (unc : g.clears DRM_LECC_UNC)
    (event : g.clears DRM_EVENT_LECC_UNC) (off : g.offLoss = true) : (eccCount h ecc s).fget h 0 g = s.fget h 0 g := by
  unfold eccCount
  split_ifs
  · exact State.fget_fput_clears _ corr
  · rw [raise_fget_clears event off]
    exact State.fget_fput_clears _ unc
  · rfl

/-- Link ECC counts what it corrects, and what it cannot it counts and shows. -/
theorem eccCount_shows (on : s.fon h 0 DRM_CFG_LECC = true) :
    (eccCount h 1 s).fget h 0 DRM_LECC_CORR = satAdd32 (s.fget h 0 DRM_LECC_CORR) 1 ∧
    (eccCount h 2 s).fget h 0 DRM_LECC_UNC = satAdd32 (s.fget h 0 DRM_LECC_UNC) 1 ∧
    (eccCount h 2 s).fon h 0 DRM_EVENT_LECC_UNC = true := by
  have one : eccCount h 1 s = s.count h 0 DRM_LECC_CORR := if_pos (by simp [eccFinds, on])
  have two : eccCount h 2 s = (s.count h 0 DRM_LECC_UNC).raise h 0 DRM_EVENT_LECC_UNC := by
    rw [eccCount, if_neg (by simp [eccFinds]), if_pos (by simp [eccFinds, on])]
  obtain ⟨counts, event, -⟩ := counted_event_shows (s := s) (h := h) (f := DRM_LECC_UNC) (e := DRM_EVENT_LECC_UNC) (by decide)
    (by decide) (by decide) (by decide)
  rw [one, two]
  exact ⟨State.fget_count _ (by decide), counts, event⟩

/-- The read is no longer outstanding, and its latency is recorded. -/
def fReturned (h ch ns : Nat) (s : State) : State :=
  let x := s.outX h (3 + ch)
  (s.setOut h (3 + ch) { x with busy := x.busy.eraseP fun p => p.cls == 0 }).fput h 0 DRM_F_LAT_MAX
    (min 0xFFFFFFFF (max (s.fget h 0 DRM_F_LAT_MAX) ns))

/-- A late read is counted and shown. -/
def lateNoted (h ns : Nat) (s : State) : State := if 1800 < ns then (s.count h 0 DRM_F_LATE).raise h 0 DRM_EVENT_F_LATE else s

theorem fReturned_fget {ns : Nat} {g : Fld} (c : g.clears DRM_F_LAT_MAX) : (fReturned h ch ns s).fget h 0 g = s.fget h 0 g :=
  State.fget_fput_clears _ c

theorem fReturned_latency {ns : Nat} (fits : ns ≤ 0xFFFFFFFF) :
    (fReturned h ch ns s).fget h 0 DRM_F_LAT_MAX = max (s.fget h 0 DRM_F_LAT_MAX) ns := by
  have before : s.fget h 0 DRM_F_LAT_MAX < 2 ^ 32 := State.fget_lt ..
  rw [fReturned, State.fget_fput_same _ _ _ _ _ (by decide)]
  show _ % 2 ^ 32 = _
  omega

theorem lateNoted_fget {ns : Nat} {g : Fld} (late : g.clears DRM_F_LATE) (event : g.clears DRM_EVENT_F_LATE) (off : g.offLoss = true) :
    (lateNoted h ns s).fget h 0 g = s.fget h 0 g := by
  unfold lateNoted
  split
  · rw [raise_fget_clears event off]
    exact State.fget_fput_clears _ late
  · rfl

theorem fReadReturn_eq (has : s.hasH h = true) (ns ecc col cols : Nat) : fReadReturn h ch ns ecc col cols s =
    if eccFinds (lateNoted h ns (fReturned h ch ns s)) h ecc 2 then
      columnsLost h col cols (eccCount h ecc (lateNoted h ns (fReturned h ch ns s)))
    else eccCount h ecc (lateNoted h ns (fReturned h ch ns s)) := by
  unfold fReadReturn
  rw [has, if_neg (by decide)]
  rfl

/-- What the registers show after a class F read: its latency, its lateness, what link ECC found. -/
theorem fReadReturn_fget (has : s.hasH h = true) (ns ecc col cols : Nat) (g : Fld) :
    (fReadReturn h ch ns ecc col cols s).fget h 0 g = (eccCount h ecc (lateNoted h ns (fReturned h ch ns s))).fget h 0 g := by
  rw [fReadReturn_eq has]
  split
  · unfold State.fget State.rd
    rw [columnsLost_regs]
  · rfl

theorem fReadReturn_latency (has : s.hasH h = true) {ns : Nat} (fits : ns ≤ 0xFFFFFFFF) (ecc col cols : Nat) :
    (fReadReturn h ch ns ecc col cols s).fget h 0 DRM_F_LAT_MAX = max (s.fget h 0 DRM_F_LAT_MAX) ns := by
  rw [fReadReturn_fget has, eccCount_fget (by decide) (by decide) (by decide) (by decide),
    lateNoted_fget (by decide) (by decide) (by decide), fReturned_latency fits]

/-- A read later than 1.80 µs counts and shows (R260). -/
theorem fReadReturn_late (has : s.hasH h = true) {ns : Nat} (late : 1800 < ns) (ecc col cols : Nat) :
    (fReadReturn h ch ns ecc col cols s).fget h 0 DRM_F_LATE = satAdd32 (s.fget h 0 DRM_F_LATE) 1 ∧
    (fReadReturn h ch ns ecc col cols s).fon h 0 DRM_EVENT_F_LATE = true := by
  obtain ⟨counts, event, -⟩ := counted_event_shows (s := fReturned h ch ns s) (h := h) (f := DRM_F_LATE) (e := DRM_EVENT_F_LATE)
    (by decide) (by decide) (by decide) (by decide)
  rw [State.fon, fReadReturn_fget has, fReadReturn_fget has, eccCount_fget (by decide) (by decide) (by decide) (by decide),
    eccCount_fget (by decide) (by decide) (by decide) (by decide), lateNoted, if_pos late, counts, fReturned_fget (by decide)]
  exact ⟨rfl, event⟩

theorem fReadReturn_early (has : s.hasH h = true) {ns : Nat} (early : ns ≤ 1800) (ecc col cols : Nat) :
    (fReadReturn h ch ns ecc col cols s).fget h 0 DRM_F_LATE = s.fget h 0 DRM_F_LATE := by
  rw [fReadReturn_fget has, eccCount_fget (by decide) (by decide) (by decide) (by decide), lateNoted, if_neg (by omega),
    fReturned_fget (by decide)]

/-- What link ECC finds in a read counts (R252). -/
theorem fReadReturn_ecc (has : s.hasH h = true) (on : s.fon h 0 DRM_CFG_LECC = true) (ns col cols : Nat) :
    (fReadReturn h ch ns 1 col cols s).fget h 0 DRM_LECC_CORR = satAdd32 (s.fget h 0 DRM_LECC_CORR) 1 ∧
    (fReadReturn h ch ns 2 col cols s).fget h 0 DRM_LECC_UNC = satAdd32 (s.fget h 0 DRM_LECC_UNC) 1 ∧
    (fReadReturn h ch ns 2 col cols s).fon h 0 DRM_EVENT_LECC_UNC = true := by
  have before {g : Fld} (max : g.clears DRM_F_LAT_MAX) (late : g.clears DRM_F_LATE) (event : g.clears DRM_EVENT_F_LATE)
      (off : g.offLoss = true) : (lateNoted h ns (fReturned h ch ns s)).fget h 0 g = s.fget h 0 g := by
    rw [lateNoted_fget late event off, fReturned_fget max]
  have enabled : (lateNoted h ns (fReturned h ch ns s)).fon h 0 DRM_CFG_LECC = true := by
    rw [State.fon, before (by decide) (by decide) (by decide) (by decide)]
    exact on
  obtain ⟨corrected, uncorrected, event⟩ := eccCount_shows enabled
  rw [State.fon, fReadReturn_fget has, fReadReturn_fget has, fReadReturn_fget has, corrected, uncorrected,
    before (by decide) (by decide) (by decide) (by decide), before (by decide) (by decide) (by decide) (by decide)]
  exact ⟨rfl, rfl, event⟩

end

end Sys2Proof.Machine
end

section
/-! PROOFS. O49: the rows of the Chimney's links and arbiters and of the memory controllers, assembled from what their operations show. -/

namespace Sys2Proof.Machine

/-- Settles O49: every row is its operation followed by what follows every command, and each operation's own lemma gives what it shows. -/
theorem linksArbitersAndMemoryControllers : Obligations.LinksArbitersAndMemoryControllers := by
  refine ⟨fun s h has => ⟨fun l up => ⟨fun few => ?resend, fun many => ?limit⟩, fun l there down => ⟨_, rfl, linkRises_shows there down⟩,
    fun o p ps able first window cap => ?first, fun o q p ps rest able none window active pkts fresh covers => ?turn,
    fun o q p ps rest lt active pkts fresh covers => ?hand,
    fun o r rs ecc named => congrArg settled (packetSent_request has named ecc), chmStatSelWrite_eq has⟩,
    fun s h has => ⟨fun early m => ⟨fun good => ⟨_, rfl, trainingDone_ready has early good⟩,
        fun bad => ⟨_, rfl, trainingDone_fails has early bad⟩⟩,
      fun ready ch ok temp d lt => ?retrain,
      fun ch bank channel fits => ⟨fun few => ?postponed, fun many => ?owed, ?issued⟩,
      fun a on ready fits => ⟨?waits, ?acts⟩,
      fun ch ns ecc col cols fits => ?read⟩⟩
  case resend =>
    refine ⟨_, congrArg settled ((flitError_of_up up).trans (if_pos few)), resent_links.lost, resent_retry, resent_resends⟩
  case limit => exact ⟨_, rfl, flitError_fails up many⟩
  case first =>
    have sent := packetSent_sends has able (arbPick_first first window cap) (fun held => absurd held Bool.false_ne_true)
    exact ⟨_, rfl, sent.out, sent.f, sent.fUsed⟩
  case turn =>
    have sent := packetSent_sends has able (arbPick_turn none window active pkts fresh covers) id
    exact ⟨_, rfl, sent.out, sent.active⟩
  case hand =>
    have covered : p.len ≤ freshDeficit (quantum s h o) false q p := by rwa [freshDeficit_hearth]
    obtain ⟨out, taken, joined⟩ := hearthServe_hands active pkts fresh covered
    rw [freshDeficit_hearth] at taken
    exact ⟨_, congrArg settled (packetSent_hands has lt), out, taken, joined⟩
  case retrain =>
    obtain ⟨counts, shown, delays, fails, stepped⟩ := retrainDue_shows has ready lt ok temp d
    exact ⟨_, rfl, counts, shown, delays, fails, fun used far => stepped (tempStepped_of_far used far)⟩
  case postponed =>
    refine ⟨_, congrArg settled (((refreshDue_eq has channel fits true).trans (if_pos rfl)).trans (if_pos few)), rfl, owe_owed _⟩
  case owed =>
    exact congrArg settled (((refreshDue_eq has channel fits true).trans (if_pos rfl)).trans (if_neg (by exact Nat.not_lt.mpr many)))
  case issued =>
    exact ⟨_, congrArg settled ((refreshDue_eq has channel fits false).trans (if_neg Bool.false_ne_true)), rfl,
      (bankFree_owed _).trans (owe_owed 0)⟩
  case waits =>
    obtain ⟨stepped, out, waiting⟩ := neighbourRefresh_waits_shows on ready fits has
    refine ⟨_, rfl, stepped, out, fun low above below => ⟨(lfsrStepped h (dramPlace s h a).1 s).now, ?_⟩⟩
    rw [waiting low, rowsBeside_inner above below]
    rfl
  case acts => exact ⟨_, rfl, neighbourRefresh_acts_shows on ready fits has⟩
  case read =>
    refine ⟨_, rfl, fReadReturn_latency has fits ecc col cols, fun late => fReadReturn_late has late ecc col cols,
      fun early => fReadReturn_early has early ecc col cols, fun on => ?_⟩
    obtain ⟨corrected, uncorrected⟩ := fReadReturn_ecc (ch := ch) has on ns col cols
    exact ⟨fun one => one ▸ corrected, fun two => two ▸ uncorrected⟩

end Sys2Proof.Machine
end
